-- ==== Sys2Proof/Word.lean ====
section
/-! DEFINITION. The word types of the module's tables and their plainest arithmetic. -/

namespace Sys2Proof

/-- One byte of a frame, of a DOMAIN or of the store. -/
abbrev Byte := BitVec 8
/-- A run of bytes, lowest address or first on the wire first. -/
abbrev Bytes := List Byte
/-- A 64-bit word: an XPC register (R94), a Tally word (R38), a window entry (R246). -/
abbrev Word := BitVec 64
/-- An event or cause code (R9). -/
abbrev Code := BitVec 16

end Sys2Proof
end

