-- ==== Sys2Proof/Types.lean ====
section
/-! DEFINITION. The operand types of the commands: the names and the records that the spec's tables give. -/

namespace Sys2Proof

/-- The three vital lanes (R7). -/
inductive Lane where | A | B | C
deriving DecidableEq, Repr, Inhabited

/-- XPC types with the codes of R95 (0 BOOL to 11 TIME64). -/
inductive XType where
  | bool | u8 | u16 | u32 | u64 | i8 | i16 | i32 | i64 | f32 | f64 | time64
deriving DecidableEq, Repr, Inhabited

/-- The memory spaces of R101. -/
inductive Space where | image | store | const | loc
deriving DecidableEq, Repr, Inhabited

/-- How a host request reached the object dictionary (R382, R390). The MAC stands over the frame the
request's own fields spell (R386); `addr` is the source address and port as one number. -/
inductive Via where
  | abacus (session : Fin 9) (seq : BitVec 32) (port : Fin 11) (addr : Nat) (mac : Bytes)
  | sdo (bus : Fin 2)
deriving DecidableEq, Repr, Inhabited

/-- The object dictionary's data types, with the codes of R378. -/
inductive OdType where
  | bool | u8 | u16 | u32 | u64 | i8 | i16 | i32 | i64 | f32 | f64
  | vstring | ostring | domain | time64 | record
deriving DecidableEq, Repr, Inhabited

/-- A Tally: the two registers P and Q of R37. -/
structure Tally where
  p : BitVec 64
  q : BitVec 64
deriving DecidableEq, Repr, Inhabited

/-- One Bucket write, as the Tally write record of R38 carries it. -/
structure BWrite where
  size   : Fin 4
  target : Nat
  value  : Word
deriving DecidableEq, Repr, Inhabited

/-- A Bucket half as it arrives at the pour buffer (R44), when its path altered it. -/
structure PourCopy where
  lane   : Lane
  task   : Fin 16
  writes : List BWrite
  c1     : Word
  c2     : Word
deriving DecidableEq, Repr, Inhabited

/-- What one group's front end delivers at one sample instant (R193, R214, R218): 16 input codes, the VF code,
16 load currents in mA, the voltage from P to N of each channel in 0.01 V, and the read-back of both switches. -/
structure SampleIn where
  codes   : List (BitVec 12)
  vfCode  : BitVec 12
  current : List Nat
  pnVolt  : List Nat
  highRb  : BitVec 16
  lowRb   : BitVec 16
deriving DecidableEq, Repr, Inhabited

/-- The content of a configuration write frame, KIND 0x20 (R186). -/
inductive GroupConfig where
  | func (c : Fin 16) (code : BitVec 8)
  | setting (c : Fin 16) (sub : BitVec 8) (value : Nat)
  | bankEntry (bankB : Bool) (c : Fin 16) (entry : BitVec 128)
  | swap (sample : Nat)
deriving DecidableEq, Repr, Inhabited

/-- The redundancy tag a frame carries under R242: none, a PRP trailer or an HSR tag, with its sequence number. -/
inductive RedTag where | none | prp (seq : BitVec 16) | hsr (seq : BitVec 16)
deriving DecidableEq, Repr, Inhabited

/-- An Ethernet frame at a switch port (R236 to R243). `len` counts from the destination MAC to the FCS. -/
structure EthFrame where
  dest    : BitVec 48
  src     : BitVec 48
  tag     : Option (BitVec 3 × BitVec 12)
  double  : Bool
  etype   : BitVec 16
  len     : Nat
  fcsOk   : Bool
  red     : RedTag
  payload : Bytes
deriving DecidableEq, Repr, Inhabited

/-- The PTP attributes an Announce carries (R267, R282, R283). -/
structure Announce where
  gm        : BitVec 64
  priority1 : BitVec 8
  clockClass : BitVec 8
  accuracy  : BitVec 8
  variance  : BitVec 16
  priority2 : BitVec 8
  steps     : Nat
  utcOffset : Int
  utcValid  : Bool
  leap61    : Bool
  leap59    : Bool
deriving DecidableEq, Repr, Inhabited

/-- The delay messages of R267 and R271. -/
inductive DelayMsg where | delayReq | delayResp | pdelayReq | pdelayResp | pdelayRespFollowUp
deriving DecidableEq, Repr, Inhabited

/-- A received TRDP PD telegram (R289, R295), its header fields and dataset. -/
structure PdTelegram where
  udpPort  : Nat
  fcsOk    : Bool
  major    : Nat
  msgType  : BitVec 16
  comId    : BitVec 32
  srcIp    : BitVec 32
  dstIp    : BitVec 32
  length   : Nat
  udpLen   : Nat
  etbTopo  : BitVec 32
  opTopo   : BitVec 32
  seq      : BitVec 32
  dataset  : Bytes
deriving DecidableEq, Repr, Inhabited

/-- A TRDP message data telegram (R306). -/
structure MdTelegram where
  session : Nat
  comId   : BitVec 32
  srcIp   : BitVec 32
  data    : Bytes
deriving DecidableEq, Repr, Inhabited

/-- A CAN frame (R311). -/
structure CanFrame where
  cobId : BitVec 32
  fd    : Bool
  data  : Bytes
deriving DecidableEq, Repr, Inhabited

/-- The partner's identity in CONTROL frames at negotiation (R338, R339). -/
structure PartnerId where
  edition  : BitVec 32
  imageId  : BitVec 32
  mapDigest : Bytes
  matrixDigest : BitVec 32
  pairId   : BitVec 16
  preferred : Bool
  slotId   : Fin 32
  serial   : Bytes
  starting : Bool
  budgetOk : Bool
  shadowImage : BitVec 32
deriving DecidableEq, Repr, Inhabited

/-- A Siphon frame (R346): header, payload and CRC as they arrive. -/
structure SiphonFrame where
  kind    : BitVec 8
  flags   : BitVec 8
  seq     : BitVec 32
  cycle   : BitVec 64
  offset  : Nat
  payload : Bytes
  crc     : BitVec 32
deriving DecidableEq, Repr, Inhabited

/-- A referee message (R343); `auth` as received. -/
structure RefereeMsg where
  pairId : BitVec 16
  node   : BitVec 16
  target : BitVec 16
  epoch  : BitVec 32
  expiry : BitVec 32
  fromCycle : BitVec 64
  auth   : Bytes
deriving DecidableEq, Repr, Inhabited

/-- What a CONTROL frame of the Siphon tells (R339, R357, R359, R360). -/
inductive ControlMsg where
  | identity (p : PartnerId)
  | propose (m : Nat)
  | confirm (m : Nat)
  | resyncState (forces : Bytes) (params : Bytes)
  | digest (p q : BitVec 64)
  | exchangeStep (step : Fin 8)
deriving DecidableEq, Repr, Inhabited

/-- What a STATE frame of the Siphon mirrors (R352). -/
inductive MirrorMsg where
  | force (entry : Fin 256) (kind : BitVec 8) (target : BitVec 16) (value : Word) (activate : Bool) (b : Nat)
  | changeSet (entries : List (BitVec 16 × Word)) (b : Nat)
  | hostWrite (entry : Nat) (value : Word) (b : Nat) (level client : Nat)
deriving DecidableEq, Repr, Inhabited

/-- Who issues a direct access on the bridge: a lane core, or a service core (R322). -/
inductive Initiator where
  | core (ln : Lane) (c : Fin 4)
  | service
deriving DecidableEq, Repr, Inhabited

/-- What a bridge access is answered with: a completion, or an error code of R320. -/
structure Completion where
  code : Fin 8
  data : Bytes
deriving DecidableEq, Repr, Inhabited

end Sys2Proof
end

