-- ==== Sys2Proof/Syntax.lean ====
section
/-! DEFINITION. The commands of the module: one constructor per row of spec/opcode_table.json, in its order.
`t` is the module time in ns at which the command happens (assumption 1); an XPC row names the lane core that runs it. -/

namespace Sys2Proof

inductive Instr where
  /-- SUPPLY_ON (R362): X1 rises to 16.8 V; the converter starts and stage 0 begins with the module in FABRIC-ONLY. -/
  | supplyOn (t : Nat)
  /-- STAGE_0_COMPLETE (R362): The fabric self-test passes and a Safety Map is active; the module enters BOOT and stage 1 begins. -/
  | stage0Complete (t : Nat)
  /-- STAGE_1_COMPLETE (R362): The Commons has booted and sent its stored configuration to every group, and every group has delivered a state frame or 250 ms have passed; stage 2 begins. -/
  | stage1Complete (t : Nat) (straps : List (Option Bool))
  /-- TRANSLATION_COMPLETE (R119): A lane finishes translating the application image and forms its translation digest. -/
  | translationComplete (t : Nat) (ln : Lane) (native : List Word)
  /-- STAGE_2_COMPLETE (R120): The translation digest vote is decided; lanes enter IN or OUT, and the Cistern and retained signals are built. -/
  | stage2Complete (t : Nat) (tables : List (Option Bytes))
  /-- STAGE_3_COMPLETE (R362): Links, matrix, PTP and pair negotiation are up and the module enters the mode that R121 gives. -/
  | stage3Complete (t : Nat)
  /-- PAIR_NEGOTIATION (R340): Pair negotiation at stage 3 ends and the module takes its pair state. -/
  | pairNegotiation (t : Nat) (partner : Option PartnerId)
  /-- STAGE_TIMEOUT (R363): A start stage misses its deadline; the module enters LOCKOUT or FAULT-STOP as the stage dictates. -/
  | stageTimeout (t : Nat) (stage : Fin 4)
  /-- SUPPLY_INTERRUPTION (R367): X1 falls below 14.0 V and the converter runs from the hold-up store. -/
  | supplyInterruption (t : Nat)
  /-- STORE_EXHAUSTED (R369): The hold-up store is exhausted and the internal rails leave regulation in their fixed order. -/
  | storeExhausted (t : Nat)
  /-- SUPPLY_RETURN (R372): X1 returns before the module is OFF; the rails and handshakes resume. -/
  | supplyReturn (t : Nat) (disturbed belowHold : Bool) (converters : List (Fin 8))
  /-- SUPPLY_MEASUREMENT (R368): Every 10 ms the service cores measure X1 for 0x1100:50 and the recorder. -/
  | supplyMeasurement (t : Nat) (x1 : BitVec 16)
  /-- CYCLE_BOUNDARY (R14): At each multiple of T_b, committed outputs apply, groups latch, PD becomes eligible, and the MVB frame list and CANopen SYNC start. -/
  | cycleBoundary (t : Nat)
  /-- IMAGE_SEALED (R73): The input image is assembled, sealed with CRC-32C and written into the Standpipes of the IN lanes. -/
  | imageSealed (t : Nat)
  /-- IMAGE_LATE (R20): The sealed image is not in all three Standpipes by t0 + 60 µs; no release takes place and the module enters FAULT-STOP. -/
  | imageLate (t : Nat)
  /-- GROUP_LINK_TIMEOUT (R189): No valid state frame has arrived by t0 + 36 µs; the group is marked invalid in the image. -/
  | groupLinkTimeout (t : Nat) (g : Fin 8)
  /-- RELEASE_TOKEN (R33): At its stagger grid instant an IN lane receives its release token for the boundary. -/
  | releaseToken (t : Nat) (ln : Lane)
  /-- LANE_DRINK (R76): A lane drinks its image, checks SEAL and the seal context, and releases its due tasks. -/
  | laneDrink (t : Nat) (ln : Lane) (recv : Option Bytes) (ctxOk : Bool)
  /-- TOKEN_TIMEOUT (R78): A lane holding its token has not signalled release within 20 µs; it releases nothing at that boundary. -/
  | tokenTimeout (t : Nat) (ln : Lane)
  /-- MOV (R97): XPC: copy register A to D. -/
  | xMov (ln : Lane) (core : Fin 4) (ty : XType) (d a : Fin 64)
  /-- LDI (R97): XPC: load the literal into D. -/
  | xLdi (ln : Lane) (core : Fin 4) (ty : XType) (d : Fin 64) (lit : Word)
  /-- CVT (R100): XPC: convert A from the source type to T. -/
  | xCvt (ln : Lane) (core : Fin 4) (ty : XType) (d a : Fin 64) (src : XType)
  /-- SEL (R97): XPC: select A or B by the BOOL in D. -/
  | xSel (ln : Lane) (core : Fin 4) (ty : XType) (d a b : Fin 64)
  /-- LD (R101): XPC: load from a memory space, with legality checking. -/
  | xLd (ln : Lane) (core : Fin 4) (ty : XType) (d a : Fin 64) (sp : Space) (indexed : Bool) (off : BitVec 32)
  /-- ST (R101): XPC: store to STORE space as one Bucket write that feeds the Tally. -/
  | xSt (ln : Lane) (core : Fin 4) (ty : XType) (r a : Fin 64) (indexed : Bool) (off : BitVec 32)
  /-- STL (R101): XPC: scratch write to LOCAL. -/
  | xStl (ln : Lane) (core : Fin 4) (ty : XType) (r a : Fin 64) (indexed : Bool) (off : BitVec 32)
  /-- ADD (R98): XPC: add. -/
  | xAdd (ln : Lane) (core : Fin 4) (ty : XType) (d a b : Fin 64)
  /-- SUB (R98): XPC: subtract. -/
  | xSub (ln : Lane) (core : Fin 4) (ty : XType) (d a b : Fin 64)
  /-- MUL (R98): XPC: multiply. -/
  | xMul (ln : Lane) (core : Fin 4) (ty : XType) (d a b : Fin 64)
  /-- DIV (R98): XPC: divide, truncating, with division by zero giving 0. -/
  | xDiv (ln : Lane) (core : Fin 4) (ty : XType) (d a b : Fin 64)
  /-- REM (R98): XPC: remainder with the sign of the dividend. -/
  | xRem (ln : Lane) (core : Fin 4) (ty : XType) (d a b : Fin 64)
  /-- NEG (R97): XPC: negate. -/
  | xNeg (ln : Lane) (core : Fin 4) (ty : XType) (d a : Fin 64)
  /-- ABS (R97): XPC: absolute value. -/
  | xAbs (ln : Lane) (core : Fin 4) (ty : XType) (d a : Fin 64)
  /-- MIN (R99): XPC: minimum of A and B. -/
  | xMin (ln : Lane) (core : Fin 4) (ty : XType) (d a b : Fin 64)
  /-- MAX (R99): XPC: maximum of A and B. -/
  | xMax (ln : Lane) (core : Fin 4) (ty : XType) (d a b : Fin 64)
  /-- ADDS (R98): XPC: saturating add. -/
  | xAdds (ln : Lane) (core : Fin 4) (ty : XType) (d a b : Fin 64)
  /-- SUBS (R98): XPC: saturating subtract. -/
  | xSubs (ln : Lane) (core : Fin 4) (ty : XType) (d a b : Fin 64)
  /-- SQRT (R99): XPC: square root. -/
  | xSqrt (ln : Lane) (core : Fin 4) (ty : XType) (d a : Fin 64)
  /-- ADDI (R98): XPC: add the sign-extended immediate. -/
  | xAddi (ln : Lane) (core : Fin 4) (ty : XType) (d a : Fin 64) (imm : BitVec 8)
  /-- RINT (R97): XPC: round to an integral value, ties to even. -/
  | xRint (ln : Lane) (core : Fin 4) (ty : XType) (d a : Fin 64)
  /-- LIMIT (R99): XPC: clamp D between A and B. -/
  | xLimit (ln : Lane) (core : Fin 4) (ty : XType) (d a b : Fin 64)
  /-- AND (R97): XPC: bitwise AND. -/
  | xAnd (ln : Lane) (core : Fin 4) (ty : XType) (d a b : Fin 64)
  /-- OR (R97): XPC: bitwise OR. -/
  | xOr (ln : Lane) (core : Fin 4) (ty : XType) (d a b : Fin 64)
  /-- XOR (R97): XPC: bitwise XOR. -/
  | xXor (ln : Lane) (core : Fin 4) (ty : XType) (d a b : Fin 64)
  /-- NOT (R97): XPC: bitwise complement. -/
  | xNot (ln : Lane) (core : Fin 4) (ty : XType) (d a : Fin 64)
  /-- SHL (R98): XPC: shift left by B. -/
  | xShl (ln : Lane) (core : Fin 4) (ty : XType) (d a b : Fin 64)
  /-- SHR (R98): XPC: shift right by B, logical or arithmetic by type. -/
  | xShr (ln : Lane) (core : Fin 4) (ty : XType) (d a b : Fin 64)
  /-- SHLI (R98): XPC: shift left by the immediate. -/
  | xShli (ln : Lane) (core : Fin 4) (ty : XType) (d a : Fin 64) (imm : BitVec 8)
  /-- SHRI (R98): XPC: shift right by the immediate. -/
  | xShri (ln : Lane) (core : Fin 4) (ty : XType) (d a : Fin 64) (imm : BitVec 8)
  /-- ROL (R98): XPC: rotate left. -/
  | xRol (ln : Lane) (core : Fin 4) (ty : XType) (d a b : Fin 64)
  /-- ROR (R98): XPC: rotate right. -/
  | xRor (ln : Lane) (core : Fin 4) (ty : XType) (d a b : Fin 64)
  /-- GETB (R98): XPC: get bit IMM. -/
  | xGetb (ln : Lane) (core : Fin 4) (ty : XType) (d a : Fin 64) (imm : BitVec 8)
  /-- SETB (R98): XPC: set bit IMM. -/
  | xSetb (ln : Lane) (core : Fin 4) (ty : XType) (d a : Fin 64) (imm : BitVec 8)
  /-- CLRB (R98): XPC: clear bit IMM. -/
  | xClrb (ln : Lane) (core : Fin 4) (ty : XType) (d a : Fin 64) (imm : BitVec 8)
  /-- EQ (R99): XPC: compare equal. -/
  | xEq (ln : Lane) (core : Fin 4) (ty : XType) (d a b : Fin 64)
  /-- NE (R99): XPC: compare not equal. -/
  | xNe (ln : Lane) (core : Fin 4) (ty : XType) (d a b : Fin 64)
  /-- LT (R99): XPC: compare less than. -/
  | xLt (ln : Lane) (core : Fin 4) (ty : XType) (d a b : Fin 64)
  /-- LE (R99): XPC: compare less or equal. -/
  | xLe (ln : Lane) (core : Fin 4) (ty : XType) (d a b : Fin 64)
  /-- GT (R99): XPC: compare greater than. -/
  | xGt (ln : Lane) (core : Fin 4) (ty : XType) (d a b : Fin 64)
  /-- GE (R99): XPC: compare greater or equal. -/
  | xGe (ln : Lane) (core : Fin 4) (ty : XType) (d a b : Fin 64)
  /-- ISNAN (R99): XPC: test for NaN. -/
  | xIsnan (ln : Lane) (core : Fin 4) (ty : XType) (d a : Fin 64)
  /-- JMP (R104): XPC: unconditional forward branch. -/
  | xJmp (ln : Lane) (core : Fin 4) (off : Int)
  /-- BRT (R104): XPC: forward branch when A is 1. -/
  | xBrt (ln : Lane) (core : Fin 4) (a : Fin 64) (off : Int)
  /-- BRF (R104): XPC: forward branch when A is 0. -/
  | xBrf (ln : Lane) (core : Fin 4) (a : Fin 64) (off : Int)
  /-- LOOP (R104): XPC: decrement A and branch back while A is not zero. -/
  | xLoop (ln : Lane) (core : Fin 4) (a : Fin 64) (off : Int) (bound : BitVec 32)
  /-- LOOP_BOUND (R104): A LOOP whose hidden count reaches its bound stops the release with LOOP-BOUND. -/
  | loopBound (ln : Lane) (core : Fin 4) (off : Int) (bound : BitVec 32)
  /-- CALL (R103): XPC: enter a function with a new frame. -/
  | xCall (ln : Lane) (core : Fin 4) (fn : BitVec 24)
  /-- RET (R103): XPC: return to the caller, or close the release at depth 0. -/
  | xRet (ln : Lane) (core : Fin 4)
  /-- END (R38): XPC: close the release; the closure enters the Tally and the Tally is sent. -/
  | xEnd (ln : Lane) (core : Fin 4)
  /-- HALT (R106): XPC: stop the release with cause APP-HALT. -/
  | xHalt (ln : Lane) (core : Fin 4) (imm : BitVec 8)
  /-- TON (R107): XPC: on-delay timer block. -/
  | xTon (ln : Lane) (core : Fin 4) (d a b : Fin 64) (inst : BitVec 32)
  /-- TOF (R107): XPC: off-delay timer block. -/
  | xTof (ln : Lane) (core : Fin 4) (d a b : Fin 64) (inst : BitVec 32)
  /-- TP (R107): XPC: pulse timer block. -/
  | xTp (ln : Lane) (core : Fin 4) (d a b : Fin 64) (inst : BitVec 32)
  /-- CTU (R107): XPC: up counter block. -/
  | xCtu (ln : Lane) (core : Fin 4) (d a b c : Fin 64) (inst : BitVec 32)
  /-- CTD (R107): XPC: down counter block. -/
  | xCtd (ln : Lane) (core : Fin 4) (d a b c : Fin 64) (inst : BitVec 32)
  /-- CTUD (R107): XPC: up/down counter block. -/
  | xCtud (ln : Lane) (core : Fin 4) (d a b c : Fin 64) (inst : BitVec 32)
  /-- R_TRIG (R107): XPC: rising-edge detector. -/
  | xRTrig (ln : Lane) (core : Fin 4) (d a : Fin 64) (inst : BitVec 32)
  /-- F_TRIG (R107): XPC: falling-edge detector. -/
  | xFTrig (ln : Lane) (core : Fin 4) (d a : Fin 64) (inst : BitVec 32)
  /-- NOP (R97): XPC: no operation. -/
  | xNop (ln : Lane) (core : Fin 4)
  /-- STEPS (R105): XPC: read the step count so far. -/
  | xSteps (ln : Lane) (core : Fin 4) (d : Fin 64)
  /-- PERIOD (R97): XPC: read the task period in ns. -/
  | xPeriod (ln : Lane) (core : Fin 4) (d : Fin 64)
  /-- STEP_BUDGET (R88): An instruction would exceed the enforced step budget; the release stops before it. -/
  | stepBudget (ln : Lane) (core : Fin 4) (steps : Nat)
  /-- TALLY_MESSAGE (R40): A Tally message arrives at the Reckoner and is kept, or discarded on a bad CRC or a closed window. -/
  | tallyMessage (t : Nat) (ln : Lane) (core : Fin 4) (task : Fin 16) (cyc : BitVec 16) (tally : Tally) (crcOk : Bool)
  /-- VOTE_DEADLINE (R41): At T_b − 100 µs the Reckoner evaluates every closing window over its judging lanes; a release still open is abandoned. -/
  | voteDeadline (t : Nat) (agree selfTestOk : Bool)
  /-- VERDICT_TIMEOUT (R56): A Reckoner instance fails to deliver its verdicts within 5 µs; module LOCKOUT. -/
  | verdictTimeout (t : Nat)
  /-- HOLD_VOTE (R67): In HOLD, a window is voted once every IN lane has delivered its Tally. -/
  | holdVote (t : Nat) (core : Fin 4) (task : Fin 16)
  /-- POUR (R44): The Cistern copies each pour lane's Bucket, recomputes the Tally, and commits and pushes back the checked windows. -/
  | pour (t : Nat) (recv : List PourCopy)
  /-- POUR_WINDOW_END (R45): At the end of the pour window, a lane whose pour failed its check is excluded. -/
  | pourWindowEnd (t : Nat)
  /-- POUR_LATE (R21): The pour is incomplete at t0 + T_b − 15 µs; nothing of it is applied and the module enters FAULT-STOP. -/
  | pourLate (t : Nat)
  /-- LANE_ECC_ERROR (R450): An uncorrectable ECC error in a lane's memory; the lane withholds its Tallies. -/
  | laneEccError (t : Nat) (ln : Lane)
  /-- LANE_TRAP (R450): A native trap in a lane; the lane withholds its Tallies. -/
  | laneTrap (t : Nat) (ln : Lane)
  /-- LANE_RESET_COMPLETE (R48): An excluded lane's reset completes; it goes to REINTEGRATING or OUT at the next boundary. -/
  | laneResetComplete (t : Nat) (ln : Lane) (native : List Word)
  /-- REINTEGRATION_COPY_COMPLETE (R50): A reintegrating lane finishes its state copy and compares digests with the Cistern. -/
  | reintegrationCopyComplete (t : Nat) (ln : Lane) (intact : Bool)
  /-- REINTEGRATION_TIMEOUT (R48): The copy is not complete within 250 ms; the lane returns to EXCLUDED. -/
  | reintegrationTimeout (t : Nat) (ln : Lane)
  /-- LANE_REJOIN (R51): At a macro-cycle start a verified lane enters IN and releases only newly opening tasks. -/
  | laneRejoin (t : Nat) (ln : Lane)
  /-- LANE_COMMAND (R48): A write of 0x2000:08 requests reintegration of an EXCLUDED or OUT lane. -/
  | laneCommand (t : Nat) (via : Via) (v : BitVec 8)
  /-- STAGGER_WRITE (R34): A write of 0x2002:01 in STOP sets the stagger, or is refused beyond its bounds. -/
  | staggerWrite (t : Nat) (via : Via) (v : BitVec 16)
  /-- PLACEMENT_REQUEST (R63): A write of 0x2003:02 requests a placement change, refused or set to QUIESCE. -/
  | placementRequest (t : Nat) (via : Via) (v : BitVec 8)
  /-- PLACEMENT_MOVE (R63): At m1 the moved tasks stop and the lanes rebuild their contexts under the new placement. -/
  | placementMove (t : Nat)
  /-- PLACEMENT_RESUME (R63): At m2 the moved tasks are released under the new placement. -/
  | placementResume (t : Nat)
  /-- FALLBACK_MOVE (R64): At a macro-cycle start a split task moves to or from its fallback core. -/
  | fallbackMove (t : Nat) (task : Fin 16)
  /-- DEBUG_ATTACH (R65): A debugger attach request to lane A in HOLD is accepted or refused. -/
  | debugAttach (t : Nat) (via : Via)
  /-- DEBUG_BREAKPOINT (R66): The debugger sets a breakpoint, which is logged and replayed in lanes B and C. -/
  | debugBreakpoint (t : Nat) (pc : Nat)
  /-- DEBUG_RUN (R66): The debugger runs lane A; the action is logged and replayed. -/
  | debugRun (t : Nat)
  /-- DEBUG_STEP (R66): The debugger steps a number of steps; the action is logged and replayed. -/
  | debugStep (t : Nat) (n : BitVec 32)
  /-- DEBUG_WRITE_VARIABLE (R66): The debugger writes an instance variable as a Bucket write at the logged step. -/
  | debugWriteVariable (t : Nat) (core : Fin 4) (w : BWrite)
  /-- BREAKPOINT_HIT (R66): A breakpoint stops all three lanes at the same step. -/
  | breakpointHit (t : Nat) (pc : Nat)
  /-- TASK_RESTART (R91): A write of 0x2100+n:0E restarts a FAULTED split task at its next period boundary. -/
  | taskRestart (t : Nat) (via : Via) (task : Fin 16) (v : BitVec 8)
  /-- RETAINED_SNAPSHOT (R92): Every 100 ms the RETAINED signals are written into copy A or B. -/
  | retainedSnapshot (t : Nat)
  /-- RUN (R121): Mode command RUN at 0x1101:01. -/
  | cmdRun (t : Nat) (via : Via)
  /-- STOP (R126): Mode command STOP; in a pair it starts a planned hand-over. -/
  | cmdStop (t : Nat) (via : Via)
  /-- HOLD (R121): Mode command HOLD. -/
  | cmdHold (t : Nat) (via : Via)
  /-- RESUME (R128): Mode command RESUME from HOLD. -/
  | cmdResume (t : Nat) (via : Via)
  /-- RESTART (R132): Mode command RESTART: a cold restart from stage 1. -/
  | cmdRestart (t : Nat) (via : Via)
  /-- EXCHANGE (R149): Mode command EXCHANGE: program exchange in STOP, or hitless in a pair. -/
  | cmdExchange (t : Nat) (via : Via)
  /-- MODE_CHANGE (R121): An accepted mode command takes effect at its boundary or macro-cycle start. -/
  | modeChange (t : Nat)
  /-- WARM_RESTART_BOOT (R131): Every lane has reset; at the next boundary the module enters BOOT with WARM set. -/
  | warmRestartBoot (t : Nat)
  /-- WARM_RESTART_COMPLETE (R131): Every lane has passed its checks; the module enters RUN or STANDBY at the macro-cycle start. -/
  | warmRestartComplete (t : Nat)
  /-- WARM_RESTART_TIMEOUT (R131): The lanes do not complete the warm restart check within 1.5 s; FAULT-STOP with START-TIMEOUT. -/
  | warmRestartTimeout (t : Nat)
  /-- FORCE_KIND_WRITE (R140): A write of a force entry's Kind, accepted only while the entry is FREE. -/
  | forceKindWrite (t : Nat) (via : Via) (n : Fin 256) (v : BitVec 8)
  /-- FORCE_TARGET_WRITE (R140): A write of a force entry's Target, accepted only while the entry is FREE. -/
  | forceTargetWrite (t : Nat) (via : Via) (n : Fin 256) (v : BitVec 16)
  /-- FORCE_VALUE_WRITE (R139): A write of a force entry's Value changes the forced value. -/
  | forceValueWrite (t : Nat) (via : Via) (n : Fin 256) (v : Word)
  /-- FORCE_ACTIVATE (R136): ACTIVATE a force entry, accepted to PENDING or refused. -/
  | forceActivate (t : Nat) (via : Via) (n : Fin 256)
  /-- FORCE_REMOVE (R140): REMOVE an ACTIVE force entry. -/
  | forceRemove (t : Nat) (via : Via) (n : Fin 256)
  /-- FORCE_BOUNDARY (R135): At boundary b a PENDING force becomes ACTIVE, or a removed one becomes FREE. -/
  | forceBoundary (t : Nat) (n : Fin 256)
  /-- APPLY (R141): Change set command APPLY: check the staged set and make it PENDING for boundary b. -/
  | csApply (t : Nat) (via : Via)
  /-- DISCARD (R141): Change set command DISCARD. -/
  | csDiscard (t : Nat) (via : Via)
  /-- CHANGE_SET_EFFECT (R143): At boundary b the new parameter version takes effect in every lane. -/
  | changeSetEffect (t : Nat) (badLanes : List Lane)
  /-- MAP_WRITE (R160): An L3 write of the Safety Map to 0x4100 in STOP stages the map for the fabric's check. -/
  | mapWrite (t : Nat) (via : Via) (map : Bytes)
  /-- MAP_CONFIRM (R160): The host echoes the digest at 0x4101:03; a mismatch discards the staged map. -/
  | mapConfirm (t : Nat) (via : Via) (digest : Bytes)
  /-- MAP_EXPIRY (R160): No echo within 60 s; the staged map expires. -/
  | mapExpiry (t : Nat)
  /-- MAP_COPIES_WRITTEN (R160): Both map copies are written; the old instances go OFF and the new ones TRIPPED with START. -/
  | mapCopiesWritten (t : Nat)
  /-- MAP_PERIODIC_CHECK (R155): Every 60 s the fabric compares its working copy with the stored copies and repairs or locks out. -/
  | mapPeriodicCheck (t : Nat) (work copyA copyB : Option Bytes)
  /-- BOUNDARY_STROBE (R151): A boundary strobe reaches the fabric; over 100 ms runs the reference tick count is checked. -/
  | boundaryStrobe (t : Nat) (ticks : Nat)
  /-- REQUEST_FRAME (R170): A request frame from the Commons reaches the fabric and sets mode, keepalive enable and request bits for b. -/
  | requestFrame (t : Nat) (bits : BitVec 128)
  /-- REQUEST_LINK_TIMEOUT (R172): Frames for two consecutive boundaries are missing or bad; the fabric treats the module as in FAULT-STOP. -/
  | requestLinkTimeout (t : Nat)
  /-- FABRIC_LINK_FRAME (R190): A fabric link frame arrives at each sample and the fabric evaluates every instance. -/
  | fabricLinkFrame (t : Nat) (frames : List (BitVec 96))
  /-- FABRIC_LINK_TIMEOUT (R154): A fabric link carries no valid frame for 100 µs; the group opens fabric switches and instances lock with LINK. -/
  | fabricLinkTimeout (t : Nat) (g : Fin 8)
  /-- DISCREPANCY_TIMEOUT (R163): A contact pair disagrees longer than its discrepancy time; the instance enters LOCKED. -/
  | discrepancyTimeout (t : Nat) (i : Fin 16)
  /-- RESTORE_DELAY_EXPIRY (R164): A pair has been closed for its restore delay; the instance's return condition is met. -/
  | restoreDelayExpiry (t : Nat) (i : Fin 16)
  /-- DSD_WARNING (R167): The DSD vigilance count reaches T2; the warning starts. -/
  | dsdWarning (t : Nat) (i : Fin 16)
  /-- VIGILANCE_TRIP (R167): The DSD vigilance count reaches T2 + T3; the instance trips with VIGILANCE. -/
  | vigilanceTrip (t : Nat) (i : Fin 16)
  /-- TEST_PULSE (R174): The fabric opens a closed low-side switch for TEST_PULSE. -/
  | testPulse (t : Nat) (ch : Fin 128)
  /-- TEST_PULSE_END (R174): At the end of a test pulse the read-back is judged; on failure the instances lock and the group keepalive stops. -/
  | testPulseEnd (t : Nat) (ch : Fin 128)
  /-- READBACK_TIMEOUT (R175): A low-side switch reads closed for over 500 µs while commanded open; LOCKED with READBACK. -/
  | readbackTimeout (t : Nat) (ch : Fin 128)
  /-- ACK_PULSE (R176): A falling edge on an ACK pair or the front ACK key is judged as a reset pulse. -/
  | ackPulse (t : Nat) (key : Bool) (rise1 rise2 fall1 fall2 : Nat)
  /-- RESTART_PULSE (R162): A falling edge on a RESTART pair pays an owed restart when valid. -/
  | restartPulse (t : Nat) (i : Fin 16) (rise1 rise2 fall1 fall2 : Nat)
  /-- DUAL_RAIL_FAULT (R179): An invalid dual-rail code is found in a fabric block; module LOCKOUT. -/
  | dualRailFault (t : Nat)
  /-- FABRIC_MEMORY_FAULT (R179): The fabric's ferroelectric memory does not respond; module LOCKOUT. -/
  | fabricMemoryFault (t : Nat)
  /-- SAMPLE (R194): At each 25 µs sample instant every channel runs its filter chain, counter, edges and VF measurement. -/
  | sample (t : Nat) (g : Fin 8) (x : SampleIn)
  /-- STATE_FRAME (R187): A group state frame arrives at the Commons for the boundary. -/
  | stateFrame (t : Nat) (g : Fin 8) (bytes : Bytes)
  /-- EDGE_FRAME (R187): A group edge frame arrives at the Commons. -/
  | edgeFrame (t : Nat) (g : Fin 8) (bytes : Bytes)
  /-- OUTPUT_FRAME (R216): An output frame arrives at a group and is held pending, replaces a pending frame, or is discarded. -/
  | outputFrame (t : Nat) (g : Fin 8) (bytes : Bytes)
  /-- DRIVE_FRAME (R342): A drive frame sets the group's DRIVE flag within 1 µs. -/
  | driveFrame (t : Nat) (g : Fin 8) (bytes : Bytes)
  /-- APPLY_INSTANT (R217): At a pending frame's APPLY sample the changed channels switch. -/
  | applyInstant (t : Nat) (g : Fin 8)
  /-- CONFIG_WRITE (R186): A configuration write frame sets a function code, channel setting or bank entry in the group. -/
  | configWrite (t : Nat) (g : Fin 8) (w : GroupConfig)
  /-- CONFIG_ACK (R186): The group's acknowledgement of a configuration or swap frame reaches the Commons. -/
  | configAck (t : Nat) (g : Fin 8) (ok : Bool)
  /-- FUNCTION_WRITE (R192): A write of a channel's function code in STOP clears its filter state. -/
  | functionWrite (t : Nat) (via : Via) (ch : Fin 128) (v : BitVec 8)
  /-- BANK_ENTRY_WRITE (R195): A bank entry write is accepted or refused under the alignment equation. -/
  | bankEntryWrite (t : Nat) (via : Via) (bankB : Bool) (ch : Fin 128) (entry : BitVec 128)
  /-- ALIGNMENT_WRITE (R196): A write of the alignment latency A in STOP, refused while an entry fails it. -/
  | alignmentWrite (t : Nat) (via : Via) (g : Fin 8) (v : BitVec 8)
  /-- BANK_SWAP_REQUEST (R203): A write of 0x3220:09 requests a bank swap, accepted as PENDING or refused. -/
  | bankSwapRequest (t : Nat) (via : Via) (groups : BitVec 8)
  /-- BANK_SWAP (R203): At the sample of the boundary of N + 2 the named groups switch banks. -/
  | bankSwap (t : Nat)
  /-- MAX_ON (R205): An input state has been 1 longer than its maximum on-time. -/
  | maxOn (t : Nat) (ch : Fin 128)
  /-- CHATTER_WINDOW (R206): A one-second window ends and CHATTER is set or cleared. -/
  | chatterWindow (t : Nat) (ch : Fin 128)
  /-- OVERCURRENT_TRIP (R221): Current stays above the threshold for the trip delay, or the 1 s mean exceeds the rating; the switches open. -/
  | overcurrentTrip (t : Nat) (ch : Fin 128)
  /-- SHORT_CIRCUIT (R222): The current limit has been active for 200 µs, or the current above 1.5 A for 20 ms; the switches open. -/
  | shortCircuit (t : Nat) (ch : Fin 128)
  /-- DEMAG_OVER (R219): A switch-off's clamp energy exceeds 200 mJ; the channel is held open for 1 s. -/
  | demagOver (t : Nat) (ch : Fin 128) (energy : Nat)
  /-- DEMAG_HOLD_EXPIRY (R219): After 1 s the channel follows its command again. -/
  | demagHoldExpiry (t : Nat) (ch : Fin 128)
  /-- SWITCH_ON_RESUMED (R220): The energy and current sums fall below their release levels; switch-on is allowed again. -/
  | switchOnResumed (t : Nat) (g : Fin 8)
  /-- OPEN_LOAD (R224): Low current while conducting, or the bias voltage, persists 100 ms; OPEN_LOAD is set or cleared. -/
  | openLoad (t : Nat) (ch : Fin 128)
  /-- SWITCH_STUCK (R226): A switch reads back closed for over 500 µs while commanded open. -/
  | switchStuck (t : Nat) (ch : Fin 128)
  /-- GROUP_OUTPUT_SILENT (R227): No valid output frame within the group timeout; the channels take their safe states. -/
  | groupOutputSilent (t : Nat) (g : Fin 8)
  /-- KEEPALIVE_LOSS (R230): The keepalive toggle stops and the pumped rail falls; the pumped-rail switches turn off. -/
  | keepaliveLoss (t : Nat) (g : Fin 8)
  /-- GROUP_CONVERTER_FAIL (R185): A group converter fails; both of its links fall silent and its outputs turn off. -/
  | groupConverterFail (t : Nat) (g : Fin 8)
  /-- SAFE_STATE_WRITE (R227): A write of a channel's safe state, refused ON or HOLD for a vital channel. -/
  | safeStateWrite (t : Nat) (via : Via) (ch : Fin 128) (v : BitVec 8)
  /-- DERATING_WRITE (R233): A write of group derating, refused while a threshold exceeds 375 mA. -/
  | deratingWrite (t : Nat) (via : Via) (g : Fin 8) (v : BitVec 8)
  /-- TRIP_THRESHOLD_WRITE (R233): A write of a trip threshold, refused above 375 mA with derating set. -/
  | tripThresholdWrite (t : Nat) (via : Via) (ch : Fin 128) (v : BitVec 16)
  /-- FRAME_RECEIVED (R236): A frame is received on a switch port, checked, classified, policed, learnt and arrival-checked. -/
  | frameReceived (t : Nat) (p : Fin 11) (f : EthFrame)
  /-- FRAME_TRANSMIT (R249): A queued frame starts transmission when its gate, and for local frames the guardian, allow it. -/
  | frameTransmit (t : Nat) (p : Fin 11)
  /-- GUARDIAN_CUT (R257): At a window's close the guardian ends a local frame still on the wire with an invalid FCS. -/
  | guardianCut (t : Nat) (p : Fin 11)
  /-- MAC_AGE_OUT (R241): A learnt MAC address ages out. -/
  | macAgeOut (t : Nat) (mac : BitVec 48)
  /-- LINK_DOWN (R244): A port loses its link. -/
  | linkDown (t : Nat) (p : Fin 11)
  /-- LINK_UP (R244): A port's link comes up. -/
  | linkUp (t : Nat) (p : Fin 11) (speed : Fin 4)
  /-- SUPERVISION_FRAME_SEND (R242): Every 2 s a PRP or HSR supervision frame is sent. -/
  | supervisionFrameSend (t : Nat) (pair : Fin 2)
  /-- REDUNDANCY_DEGRADED (R244): A redundant port has received no supervision frame for 3 intervals. -/
  | redundancyDegraded (t : Nat) (p : Fin 11)
  /-- BEACON_SEND (R252): A sending candidate sends the cycle beacon in window 0. -/
  | beaconSend (t : Nat)
  /-- BEACON_RECEIVED (R255): A valid beacon is compared with the node's own state and the master conflict is resolved. -/
  | beaconReceived (t : Nat) (p : Fin 11) (payload : Bytes)
  /-- BEACON_TIMEOUT (R254): Missed beacons reach a candidate's limit, and it starts sending. -/
  | beaconTimeout (t : Nat)
  /-- GUARDIAN_TABLE_CHECK (R258): Once per macro cycle the guardian's copy is compared with the stored matrix. -/
  | guardianTableCheck (t : Nat) (readBack : List (Option Bytes))
  /-- GUARDIAN_COUNTER_FAULT (R256): A guardian time value fails its continuity check; the COUNTER cause closes the guardians. -/
  | guardianCounterFault (t : Nat) (p : Fin 11) (value elapsed : Nat)
  /-- PTP_SYNC (R271): A Sync gives an offset sample that is accepted or refused as a jump. -/
  | ptpSync (t : Nat) (slot : Fin 2) (offset : Int)
  /-- FOLLOW_UP (R270): A Follow_Up is matched to a pending residence time, or dropped. -/
  | followUp (t : Nat) (p : Fin 11) (seqId : BitVec 16) (srcPort : BitVec 80) (correction : Int)
  /-- PTP_ANNOUNCE (R267): An Announce enters the best master clock algorithm. -/
  | ptpAnnounce (t : Nat) (slot : Fin 2) (p : Fin 11) (a : Announce)
  /-- PTP_DELAY_MESSAGE (R271): A Delay_Req, Delay_Resp or Pdelay message gives the path delay measurement. -/
  | ptpDelayMessage (t : Nat) (slot : Fin 2) (p : Fin 11) (m : DelayMsg) (delay : Int)
  /-- PTP_MANAGEMENT (R264): A management GET is answered; a SET is discarded. -/
  | ptpManagement (t : Nat) (slot : Fin 2) (p : Fin 11) (get : Bool) (dataSet : BitVec 16)
  /-- PTP_SYNC_SEND (R264): As master, the module sends Sync at its interval. -/
  | ptpSyncSend (t : Nat) (slot : Fin 2) (p : Fin 11)
  /-- ANNOUNCE_TIMEOUT (R267): No Announce for 3 intervals; the best master clock algorithm reselects. -/
  | announceTimeout (t : Nat) (slot : Fin 2)
  /-- SYNC_SILENCE (R271): No valid offset for 3 sync intervals; the slot is SILENT. -/
  | syncSilence (t : Nat) (slot : Fin 2)
  /-- DOMAIN_PREFERENCE (R274): The preferred slot has been eligible for 10 s and is selected again. -/
  | domainPreference (t : Nat)
  /-- HOLDOVER_EXHAUSTED (R275): The drift bound reaches the guardian limit; TIME_LOCKED falls to 0. -/
  | holdoverExhausted (t : Nat)
  /-- REFERENCE_MOVED (R277): All delivering slots have been REFUSED and agree for 10 s; the move is accepted for slewing. -/
  | referenceMoved (t : Nat)
  /-- SLEW_COMPLETE (R278): The slew towards the reference is complete. -/
  | slewComplete (t : Nat)
  /-- REBASE (R280): Command REBASE steps the counter at the next boundary. -/
  | rebase (t : Nat) (via : Via)
  /-- SERVO_MODE_WRITE (R284): A write of the servo mode at 0x1180:02 takes effect at the next offset sample. -/
  | servoModeWrite (t : Nat) (via : Via) (v : BitVec 8)
  /-- SERVO_UPDATE_TIMEOUT (R284): The host servo delivers no rate update for 2 sync intervals; the module enters HOLDOVER. -/
  | servoUpdateTimeout (t : Nat)
  /-- PD_RECEIVED (R295): A received PD telegram is accepted for a subscription or discarded. -/
  | pdReceived (t : Nat) (p : PdTelegram)
  /-- PD_SEND (R291): A staged publication is sent in its stream's EXCLUSIVE window. -/
  | pdSend (t : Nat) (pub : Nat)
  /-- MD_NOTIFICATION (R306): An Mn message data telegram is received. -/
  | mdNotification (t : Nat) (m : MdTelegram)
  /-- MD_REQUEST (R306): An Mr request opens a session, or is answered Me at the limit. -/
  | mdRequest (t : Nat) (m : MdTelegram)
  /-- MD_REPLY (R306): An Mp reply is received. -/
  | mdReply (t : Nat) (m : MdTelegram)
  /-- MD_REPLY_QUERY (R306): An Mq reply that asks for confirmation is received. -/
  | mdReplyQuery (t : Nat) (m : MdTelegram)
  /-- MD_CONFIRM (R306): An Mc confirmation is received. -/
  | mdConfirm (t : Nat) (m : MdTelegram)
  /-- MD_ERROR (R306): An Me error message is received. -/
  | mdError (t : Nat) (m : MdTelegram)
  /-- MD_TIMEOUT (R306): A session's reply or confirm timeout ends. -/
  | mdTimeout (t : Nat) (session : Nat)
  /-- MVB_MASTER_FRAME (R309): A master frame polls a port; a SOURCE port answers. -/
  | mvbMasterFrame (t : Nat) (fcode : Fin 16) (address : BitVec 12)
  /-- MVB_SLAVE_FRAME (R309): A slave frame with port data is received. -/
  | mvbSlaveFrame (t : Nat) (lineB : Bool) (address : BitVec 12) (data : Bytes)
  /-- MVB_DEVICE_STATUS (R307): A device status request (F_code 15) is answered. -/
  | mvbDeviceStatus (t : Nat) (address : BitVec 12)
  /-- MVB_FOREIGN_MASTER (R310): A master frame not sent by the module arrives; it yields mastership. -/
  | mvbForeignMaster (t : Nat)
  /-- MVB_LINE_FAULT (R310): A line shows no valid frame for 3 basic periods or jabbers for over 2 ms. -/
  | mvbLineFault (t : Nat) (lineB : Bool)
  /-- CAN_RPDO (R313): An RPDO frame is received and kept for the next image. -/
  | canRpdo (t : Nat) (bus : Fin 2) (f : CanFrame)
  /-- CAN_SYNC_RECEIVED (R312): A foreign SYNC arrives while the module produces SYNC. -/
  | canSyncReceived (t : Nat) (bus : Fin 2)
  /-- CAN_HEARTBEAT_SEND (R311): The heartbeat producer sends at its interval. -/
  | canHeartbeatSend (t : Nat) (bus : Fin 2)
  /-- CAN_HEARTBEAT_LOST (R312): A consumer heartbeat is not received in time. -/
  | canHeartbeatLost (t : Nat) (bus : Fin 2) (node : BitVec 8)
  /-- TPDO_WITHDRAW (R313): A TPDO not sent by t0 + T_b − 50 µs is withdrawn. -/
  | tpdoWithdraw (t : Nat) (bus : Fin 2) (unsent : List Nat)
  /-- CAN_ERROR_PASSIVE (R314): A controller enters error passive. -/
  | canErrorPassive (t : Nat) (bus : Fin 2)
  /-- CAN_BUS_OFF (R314): A controller goes bus-off. -/
  | canBusOff (t : Nat) (bus : Fin 2)
  /-- CAN_BUS_OFF_RECOVERY (R314): 100 ms after bus-off recovery starts, at most 10 times in 60 s. -/
  | canBusOffRecovery (t : Nat) (bus : Fin 2)
  /-- SDO_UPLOAD_INITIATE (R390): An SDO upload (read) request. -/
  | sdoUploadInitiate (t : Nat) (bus : Fin 2) (index : BitVec 16) (sub : BitVec 8)
  /-- SDO_DOWNLOAD_INITIATE (R390): An SDO download (write) request. -/
  | sdoDownloadInitiate (t : Nat) (bus : Fin 2) (index : BitVec 16) (sub : BitVec 8) (total : Nat) (data : Bytes)
  /-- SDO_SEGMENT (R390): An SDO segment of a segmented transfer. -/
  | sdoSegment (t : Nat) (bus : Fin 2) (toggle last : Bool) (data : Bytes)
  /-- SDO_BLOCK_TRANSFER (R390): An SDO block transfer frame. -/
  | sdoBlockTransfer (t : Nat) (bus : Fin 2) (seqno : Nat) (last : Bool) (data : Bytes)
  /-- SDO_SEGMENT_TIMEOUT (R390): An SDO transfer exceeds the 1 s segment timeout. -/
  | sdoSegmentTimeout (t : Nat) (bus : Fin 2)
  /-- LINK_REPLAY (R317): A bridge link frame fails its CRC and a replay is requested; after 4 failures it is dropped. -/
  | linkReplay (t : Nat) (ln : Lane) (toLane : Bool)
  /-- DIRECT_READ (R319): A split core issues a non-posted direct read through a bridge window. -/
  | directRead (t : Nat) (ln : Lane) (core : Fin 4) (addr size : Nat)
  /-- DIRECT_POSTED_WRITE (R324): A split core issues a posted direct write. -/
  | directPostedWrite (t : Nat) (ln : Lane) (core : Fin 4) (addr : Nat) (data : Bytes)
  /-- DIRECT_NONPOSTED_WRITE (R321): A split core issues a non-posted direct write. -/
  | directNonpostedWrite (t : Nat) (ln : Lane) (core : Fin 4) (addr : Nat) (data : Bytes)
  /-- EXCLUSIVE_READ (R322): An exclusive read acquires a granule semaphore, waiting if held. -/
  | exclusiveRead (t : Nat) (who : Initiator) (addr size : Nat)
  /-- EXCLUSIVE_WRITE (R323): An exclusive write succeeds only while its semaphore is held. -/
  | exclusiveWrite (t : Nat) (who : Initiator) (addr : Nat) (data : Bytes)
  /-- EVENT_QUEUE_POP (R318): A read of window 1 at +0 pops one event word from the core's queue. -/
  | eventQueuePop (t : Nat) (ln : Lane) (core : Fin 4)
  /-- DIRECT_COMPLETION (R321): A completion or error response arrives and the stalled core resumes. -/
  | directCompletion (t : Nat) (ln : Lane) (core : Fin 4) (c : Completion)
  /-- BRIDGE_TIMEOUT (R320): A target does not answer within 50 µs; the access ends with TIMEOUT. -/
  | bridgeTimeout (t : Nat) (ln : Lane) (core : Fin 4)
  /-- SEMAPHORE_BREAK (R323): A semaphore held for 20 µs is broken. -/
  | semaphoreBreak (t : Nat) (granule : Nat)
  /-- LATE_ERROR (R324): A posted write fails at the far side and a Late Error Ring entry is recorded. -/
  | lateError (t : Nat) (ln : Lane) (core : Fin 4) (window : Fin 4) (addr size : Nat) (cause : Fin 8)
  /-- EVENT_POLL (R329): Every 10 µs the bridge polls the event sources and routes event words. -/
  | eventPoll (t : Nat)
  /-- DMA_DOORBELL (R332): A doorbell write wakes a ring to process its owned descriptors. -/
  | dmaDoorbell (t : Nat) (ring : Fin 64) (owner : BitVec 8)
  /-- DMA_ABORT (R335): An abort write stops a ring after its current burst. -/
  | dmaAbort (t : Nat) (ring : Fin 64) (owner : BitVec 8)
  /-- DMA_DESCRIPTOR_DONE (R332): A descriptor completes; STATUS and RESIDUE are written back and HEAD advances. -/
  | dmaDescriptorDone (t : Nat) (ring : Fin 64)
  /-- CHAIN_LIMIT (R334): A ring reaches its chain limit and halts. -/
  | chainLimit (t : Nat) (ring : Fin 64)
  /-- DMA_BUS_ERROR (R336): A bus error or timeout halts every ring (ENGINE-HALT). -/
  | dmaBusError (t : Nat) (moved : List Nat)
  /-- DMA_RESTART (R336): 100 µs after an ENGINE-HALT the service cores restart the enabled rings. -/
  | dmaRestart (t : Nat)
  /-- DMA_ENGINE_RESTART (R336): Command 0x7100:02 restarts the engine after HALTED-FINAL. -/
  | dmaEngineRestart (t : Nat) (via : Via)
  /-- HEARTBEAT_SEND (R346): A Siphon heartbeat is sent every 5 µs, or at once with RELEASE. -/
  | heartbeatSend (t : Nat)
  /-- SIPHON_HEARTBEAT (R346): A partner heartbeat is received, including RELEASE and dual-lease handling. -/
  | siphonHeartbeat (t : Nat) (f : SiphonFrame)
  /-- PARTNER_LOST (R353): No valid heartbeat for 10.5 µs, or RELEASE seen; a STANDBY module takes over. -/
  | partnerLost (t : Nat)
  /-- SIPHON_IMAGE (R349): A forwarded image or seal context frame is received. -/
  | siphonImage (t : Nat) (f : SiphonFrame)
  /-- FORWARD_IMAGE_LATE (R349): The forwarded image is incomplete at t0 + 60 µs + Λ. -/
  | forwardImageLate (t : Nat)
  /-- SIPHON_DELTA (R351): A delta window record is received and checked against the module's own pour. -/
  | siphonDelta (t : Nat) (f : SiphonFrame)
  /-- DELTA_DEADLINE (R351): A delta is missing or incomplete at t0 + T_b − 100 µs of the cycle after its pour; the module joins. -/
  | deltaDeadline (t : Nat)
  /-- SIPHON_STATE (R352): A mirrored force, change set or host write is received. -/
  | siphonState (t : Nat) (f : SiphonFrame) (m : MirrorMsg)
  /-- SIPHON_RESYNC (R359): A RESYNC frame copies part of the Cistern to the JOINING module. -/
  | siphonResync (t : Nat) (f : SiphonFrame)
  /-- SIPHON_CONTROL (R339): A CONTROL frame with identity, digests or hand-over and exchange steps is received. -/
  | siphonControl (t : Nat) (f : SiphonFrame) (m : ControlMsg)
  /-- RENEW_SEND (R343): The lease holder sends RENEW after every boundary. -/
  | renewSend (t : Nat)
  /-- REFEREE_CONFIRM (R342): A CONFIRM extends the lease. -/
  | refereeConfirm (t : Nat) (m : RefereeMsg)
  /-- REFEREE_GRANT (R342): A GRANT gives the lease and DRIVE is set. -/
  | refereeGrant (t : Nat) (m : RefereeMsg)
  /-- REFEREE_REVOKE (R345): A REVOKE of the holder's epoch clears DRIVE. -/
  | refereeRevoke (t : Nat) (m : RefereeMsg)
  /-- REFEREE_REFUSE (R361): A REFUSE leaves the standby in STANDBY. -/
  | refereeRefuse (t : Nat) (m : RefereeMsg)
  /-- LEASE_EXPIRY (R345): The lease expires; DRIVE is cleared. -/
  | leaseExpiry (t : Nat)
  /-- REFEREE_SILENT (R361): No referee frame for 3 × T_b. -/
  | refereeSilent (t : Nat)
  /-- HAND_OVER (R357): Pair command HAND-OVER starts a planned hand-over. -/
  | handOver (t : Nat) (via : Via)
  /-- JOIN (R340): Pair command JOIN restarts negotiation from OUT. -/
  | pairJoin (t : Nat) (via : Via)
  /-- EXCHANGE_ABORT (R360): Pair command EXCHANGE-ABORT returns the standby to the old image. -/
  | exchangeAbort (t : Nat) (via : Via)
  /-- HANDOVER_SEND (R357): At m − 2 × T_b the outgoing module sends HANDOVER to the referee. -/
  | handoverSend (t : Nat)
  /-- HANDOVER_DRIVE (R357): At m − T_b the incoming module sets DRIVE, or the hand-over fails without a GRANT. -/
  | handoverDrive (t : Nat)
  /-- HANDOVER_DONE (R357): At m the incoming module becomes ACTIVE and the outgoing one STANDBY or STOP. -/
  | handoverDone (t : Nat)
  /-- REVERSION (R358): The reversion holdoff expires and the PREFERRED standby starts a hand-over. -/
  | reversion (t : Nat)
  /-- RESYNC_COMPLETE (R359): The resynchronisation copy ends and the store digests are compared. -/
  | resyncComplete (t : Nat)
  /-- RESYNC_TIMEOUT (R359): The copy is not complete within 250 ms; resynchronisation restarts. -/
  | resyncTimeout (t : Nat)
  /-- SHADOW_PERIOD_EXPIRY (R360): The exchange shadow period ends; a simultaneous hand-over starts. -/
  | shadowPeriodExpiry (t : Nat)
  /-- LED_FALLBACK (R376): No valid request frame 250 ms after start, or R172 fires; the fabric takes over the LEDs. -/
  | ledFallback (t : Nat)
  /-- OPEN (R384): Abacus OPEN allocates a session in OPENING. -/
  | abOpen (t : Nat) (port : Fin 11) (addr : Nat) (clientId : BitVec 16) (level : BitVec 8) (nonce : Bytes)
  /-- AUTH (R384): Abacus AUTH makes the session OPEN on a correct MAC. -/
  | abAuth (t : Nat) (via : Via)
  /-- CLOSE (R386): Abacus CLOSE ends the session. -/
  | abClose (t : Nat) (via : Via)
  /-- KEEPALIVE (R386): Abacus KEEPALIVE keeps the session from its idle timeout. -/
  | abKeepalive (t : Nat) (via : Via)
  /-- READ (R401): Abacus READ returns an object value. -/
  | abRead (t : Nat) (via : Via) (index : BitVec 16) (sub : BitVec 8)
  /-- WRITE (R381): Abacus WRITE of an object that has no row of its own, under its timing. -/
  | abWrite (t : Nat) (via : Via) (index : BitVec 16) (sub : BitVec 8) (ty : OdType) (data : Bytes)
  /-- READ_SEGMENT (R383): Abacus READ-SEGMENT returns part of a DOMAIN. -/
  | abReadSegment (t : Nat) (via : Via) (index : BitVec 16) (sub : BitVec 8) (offset length : Nat)
  /-- WRITE_SEGMENT (R389): Abacus WRITE-SEGMENT assembles a DOMAIN and applies it when complete. -/
  | abWriteSegment (t : Nat) (via : Via) (index : BitVec 16) (sub : BitVec 8) (offset total : Nat) (more : Bool) (data : Bytes)
  /-- BULK_READ (R389): Abacus BULK-READ streams a DOMAIN or recorder region by DMA. -/
  | abBulkRead (t : Nat) (via : Via) (index : BitVec 16) (sub : BitVec 8) (offset length : Nat)
  /-- READ_SIGNAL (R383): Abacus READ-SIGNAL returns a committed signal value. -/
  | abReadSignal (t : Nat) (via : Via) (entry : BitVec 16)
  /-- WRITE_SIGNAL (R391): Abacus WRITE-SIGNAL writes a host-owned signal, only to its SAFE_VALUE if VITAL. -/
  | abWriteSignal (t : Nat) (via : Via) (entry : BitVec 16) (ty : OdType) (data : Bytes)
  /-- EVENTS (R397): Abacus EVENTS returns event queue entries from a SEQ. -/
  | abEvents (t : Nat) (via : Via) (fromSeq : BitVec 32)
  /-- SESSION_OPEN_TIMEOUT (R384): A session still OPENING after 1 s is freed. -/
  | sessionOpenTimeout (t : Nat) (n : Fin 9)
  /-- IDLE_TIMEOUT (R386): A session with no valid request for the idle time closes. -/
  | idleTimeout (t : Nat) (n : Fin 9)
  /-- BOUNDARY_WRITE (R392): At its boundary a write timed at a cycle boundary is contested, accepted or refused, and answered. -/
  | boundaryWrite (t : Nat) (index : BitVec 16) (sub : BitVec 8)
  /-- KEY_WRITE (R384): A key write at 0x1200:08-0B applies to later OPENs; the L3 key ends the empty-key exception. -/
  | keyWrite (t : Nat) (via : Via) (level : Fin 4) (key : Bytes)
  /-- RESTORE_DEFAULTS (R402): Command RESTORE-DEFAULTS resets stored objects at the next restart, keys excepted. -/
  | restoreDefaults (t : Nat) (via : Via)
  /-- RECORDER_MEASUREMENT (R408): A measurement code is raised on its timer and applied through the code map. -/
  | recorderMeasurement (t : Nat) (code : Code) (item : BitVec 8) (value : BitVec 32)
  /-- RECORD_WRITE (R414): A changed record is written into its older slot within 1 s, or at once on FAULT-STOP. -/
  | recordWrite (t : Nat) (region : Fin 5) (n : Nat)
  /-- RECORDER_FAULT (R416): The recorder memory does not respond; nothing more is recorded. -/
  | recorderFault (t : Nat)
  /-- CODE_MAP_WRITE (R410): A write of the code map is checked and takes effect at the next boundary. -/
  | codeMapWrite (t : Nat) (via : Via) (map : Bytes)
  /-- BEGIN (R405): Update command BEGIN starts a transfer in RECEIVING. -/
  | updBegin (t : Nat) (via : Via)
  /-- UPDATE_BLOCK (R405): A write of 0x8010 delivers one update block, accepted or refused. -/
  | updBlock (t : Nat) (via : Via) (offset : Nat) (length : Nat) (crc : BitVec 32) (data : Bytes)
  /-- VERIFY (R424): Update command VERIFY starts the rebuild and the checks. -/
  | updVerify (t : Nat) (via : Via)
  /-- VERIFY_COMPLETE (R424): Verification ends with VERIFIED or FAILED. -/
  | updVerifyComplete (t : Nat) (badLanes : List Lane) (commonsOk : Bool)
  /-- ACTIVATE (R426): Update command ACTIVATE writes the boot selector and cold restarts into the new slot. -/
  | updActivate (t : Nat) (via : Via)
  /-- ABORT (R421): Update command ABORT discards the transfer. -/
  | updAbort (t : Nat) (via : Via)
  /-- TRIAL_FALLBACK (R429): The trial window ends without a pass, or the trial fails otherwise; the module returns to the fallback slot. -/
  | trialFallback (t : Nat)
  /-- FABRIC_RESERVE_EXHAUSTED (R369): At least 100 ms after the hold-up store is exhausted, the separate fabric reserve runs out and the fabric regulator leaves regulation, so the module is OFF and fabric state returns to power-up. -/
  | fabricReserveExhausted (t : Nat)
  /-- PUMPED_RAIL_AT_HOLD_LEVEL (R231): The group's pumped rail reaches its hold level after the keepalive toggle starts, so pumped-rail switches may close and 0x3000+g:12 reads UP. -/
  | pumpedRailAtHoldLevel (t : Nat) (g : Fin 8)
  /-- COUNTER_CAUSE_CLEARED (R258): After 1 s of consecutive time values that pass the continuity check, the guardians' COUNTER closing cause clears. -/
  | counterCauseCleared (t : Nat)
  /-- DELAY_REQ_SEND (R267): At its Delay_Req or Pdelay_Req interval the module sends a delay request on a PTP port to measure the path delay. -/
  | delayReqSend (t : Nat) (slot : Fin 2) (p : Fin 11)
  /-- ANNOUNCE_SEND (R267): As master on a port, the module sends Announce at its Announce interval with the attributes of the announced clock table. -/
  | announceSend (t : Nat) (slot : Fin 2) (p : Fin 11)
  /-- CONSUMER_HEARTBEAT_RECEIVED (R311): A heartbeat from a node monitored by one of the up to 32 heartbeat consumers arrives and restarts that consumer's timeout. -/
  | consumerHeartbeatReceived (t : Nat) (bus : Fin 2) (node : BitVec 8)
  /-- CISTERN_ECC_ERROR (R373): An uncorrectable ECC error in the Cistern during the warm-restart state copy raises WARM-STATE-LOST, returns the module to FAULT-STOP and denies further warm restarts. -/
  | cisternEccError (t : Nat)
deriving DecidableEq, Repr

end Sys2Proof
end

