-- ==== Sys2Proof/Machine/Bits.lean ====
section
/-! DEFINITION. Byte orders, fields and list helpers that every chapter uses. -/

namespace Sys2Proof.Machine

/-- `n` bytes of `v`, least significant byte first (R101, R378). -/
def leBytes : Nat → Nat → Bytes
  | 0, _ => []
  | n + 1, v => BitVec.ofNat 8 v :: leBytes n (v / 256)

/-- The value of little-endian bytes. -/
def leNat : Bytes → Nat
  | [] => 0
  | b :: bs => b.toNat + 256 * leNat bs

/-- `n` bytes of `v`, most significant byte first. -/
def beBytes (n v : Nat) : Bytes := (leBytes n v).reverse

/-- The value of big-endian bytes. -/
def beNat (bs : Bytes) : Nat := leNat bs.reverse

/-- `n` bytes from offset `off`. -/
def slice (bs : Bytes) (off n : Nat) : Bytes := (bs.drop off).take n

/-- The little-endian field of `n` bytes at `off`. -/
def leAt (bs : Bytes) (off n : Nat) : Nat := leNat (slice bs off n)

/-- The big-endian field of `n` bytes at `off`. -/
def beAt (bs : Bytes) (off n : Nat) : Nat := beNat (slice bs off n)

/-- `bs` cut or padded with zeros to `n` bytes. -/
def fitTo (n : Nat) (bs : Bytes) : Bytes := (bs ++ List.replicate (n - bs.length) 0).take n

/-- `new` written over `bs` at `off`, inside the length of `bs`. -/
def patch (bs : Bytes) (off : Nat) (new : Bytes) : Bytes :=
  bs.take off ++ (new ++ bs.drop (off + new.length))

/-- Bits `hi` down to `lo` of a number. -/
def field (v hi lo : Nat) : Nat := (v / 2 ^ lo) % 2 ^ (hi - lo + 1)

/-- Bit `i` of a number. -/
def bit (v i : Nat) : Bool := v.testBit i

/-- One for true. -/
def b2n (b : Bool) : Nat := if b then 1 else 0

/-- A number saturated at `limit`. -/
def satAt (limit n : Nat) : Nat := min limit n

/-- Adds with saturation at the largest `w`-bit number. -/
def satAdd (w a b : Nat) : Nat := min (2 ^ w - 1) (a + b)

/-- The two's complement value of the low `w` bits. -/
def sxt (w v : Nat) : Int :=
  if v % 2 ^ w < 2 ^ (w - 1) then ((v % 2 ^ w : Nat) : Int) else ((v % 2 ^ w : Nat) : Int) - 2 ^ w

/-- A whole number reduced to `w` bits, as a natural number. -/
def wrapNat (w : Nat) (i : Int) : Nat := (i % 2 ^ w).toNat

/-- A number clamped between two limits. -/
def clampInt (lo hi i : Int) : Int := max lo (min hi i)

/-- Entry `n` of a list, changed by `f`; the list unchanged when it is shorter. -/
def modAt {α : Type} (n : Nat) (f : α → α) (l : List α) : List α := l.modify n f

/-- The first `n` entries of `f 0, f 1, …`. -/
def tabulate {α : Type} (n : Nat) (f : Nat → α) : List α := (List.range n).map f

/-- Rounds up to a multiple of `m`. -/
def roundUp (m n : Nat) : Nat := (n + (m - 1)) / m * m

/-- The last value kept for a key, if any. -/
def lookupKey {α : Type} (k : Nat) (l : List (Nat × α)) : Option α :=
  (l.find? (fun e => e.1 == k)).map (·.2)

/-- `l` with the value of key `k` replaced or appended. -/
def setKey {α : Type} (k : Nat) (v : α) (l : List (Nat × α)) : List (Nat × α) :=
  match l with
  | [] => [(k, v)]
  | e :: r => if e.1 = k then (k, v) :: r else e :: setKey k v r

/-- `l` without key `k`. -/
def dropKey {α : Type} (k : Nat) (l : List (Nat × α)) : List (Nat × α) := l.filter (fun e => e.1 != k)

end Sys2Proof.Machine
end

