-- ==== Sys2Proof/Machine/Crc.lean ====
section
/-! DEFINITION. The cyclic redundancy codes of the module, bit by bit. -/

namespace Sys2Proof.Machine

/-- `n` shifts of a register whose most significant bit is fed back, no reflection. -/
def crcShift {w : Nat} (poly : BitVec w) : Nat → BitVec w → BitVec w
  | 0, r => r
  | n + 1, r => crcShift poly n (if r.msb then (r <<< 1) ^^^ poly else r <<< 1)

/-- `n` shifts of a reflected register: the least significant bit is fed back. -/
def crcShiftR {w : Nat} (poly : BitVec w) : Nat → BitVec w → BitVec w
  | 0, r => r
  | n + 1, r => crcShiftR poly n (if r.getLsbD 0 then (r >>> 1) ^^^ poly else r >>> 1)

/-- An unreflected CRC over bytes, each most significant bit first. -/
def crcBytes {w : Nat} (poly : BitVec w) : BitVec w → Bytes → BitVec w
  | r, [] => r
  | r, b :: bs => crcBytes poly (crcShift poly 8 (r ^^^ (b.zeroExtend w <<< (w - 8)))) bs

/-- A reflected CRC over bytes, each least significant bit first. -/
def crcBytesR {w : Nat} (poly : BitVec w) : BitVec w → Bytes → BitVec w
  | r, [] => r
  | r, b :: bs => crcBytesR poly (crcShiftR poly 8 (r ^^^ b.zeroExtend w)) bs

/-- CRC-32C of R76: polynomial 0x1EDC6F41, reflected, initial value and final XOR of ones. -/
def crc32c (bs : Bytes) : BitVec 32 := crcBytesR 0x82F63B78#32 0xFFFFFFFF#32 bs ^^^ 0xFFFFFFFF#32

/-- CRC-32 of R305: polynomial 0x04C11DB7, reflected, initial value and final XOR of ones. -/
def crc32 (bs : Bytes) : BitVec 32 := crcBytesR 0xEDB88320#32 0xFFFFFFFF#32 bs ^^^ 0xFFFFFFFF#32

/-- The initial values of the Tally registers (R37). -/
def tallyInit : Tally := { p := 0xFFFFFFFFFFFFFFFF#64, q := 0x5A5A5A5A5A5A5A5A#64 }

/-- Both Tally registers take in one word, most significant bit first (R37). -/
def tallyWord (t : Tally) (w : Word) : Tally :=
  { p := crcShift 0x42F0E1EBA9EA3693#64 64 (t.p ^^^ w)
    q := crcShift 0xAD93D23594C935A9#64 64 (t.q ^^^ w) }

/-- The Tally after a run of words. -/
def tallyWords (t : Tally) : List Word → Tally
  | [] => t
  | w :: ws => tallyWords (tallyWord t w) ws

/-- Write words W1 and W2 of R38. -/
def writeWords (w : BWrite) : List Word :=
  [BitVec.ofNat 64 (0x01 * 2 ^ 56 + w.size.val * 2 ^ 48 + w.target % 2 ^ 32), w.value]

/-- Closure word C1 of R38. -/
def closeC1 (kind core task steps : Nat) : Word :=
  BitVec.ofNat 64 (kind * 2 ^ 56 + core * 2 ^ 52 + task * 2 ^ 32 + steps % 2 ^ 32)

/-- The Tally over a whole Bucket and its closure (R38, R44). -/
def bucketTally (ws : List BWrite) (c1 c2 : Word) : Tally :=
  tallyWords (ws.foldl (fun t w => tallyWords t (writeWords w)) tallyInit) [c1, c2]

end Sys2Proof.Machine
end

