-- ==== Sys2Proof/Machine/Float.lean ====
section
/-! DEFINITION. IEEE 754 binary32 and binary64 arithmetic as R99 and R100 bound it: exact, then rounded once to
nearest with ties to even; subnormals kept; every NaN result canonical. -/

namespace Sys2Proof.Machine

/-- A binary format: `p` bits of precision, `ew` bits of exponent. -/
structure FFmt where
  p : Nat
  ew : Nat
deriving DecidableEq, Repr

/-- binary32. -/
def fmt32 : FFmt := { p := 24, ew := 8 }
/-- binary64. -/
def fmt64 : FFmt := { p := 53, ew := 11 }

/-- What a word of a float type stands for: `fin neg m e` is (−1)^neg × m × 2^e. -/
inductive FVal where
  | nan
  | inf (neg : Bool)
  | fin (neg : Bool) (m : Nat) (e : Int)
deriving DecidableEq, Repr

/-- The exponent of the least significant bit of a subnormal. -/
def FFmt.emin (f : FFmt) : Int := 3 - ((2 ^ (f.ew - 1) : Nat) : Int) - (f.p : Int)

/-- The word of +infinity. -/
def FFmt.infBits (f : FFmt) : Nat := (2 ^ f.ew - 1) * 2 ^ (f.p - 1)

/-- The canonical quiet NaN of R99. -/
def FFmt.nanBits (f : FFmt) : Nat := f.infBits + 2 ^ (f.p - 2)

/-- The word of the sign. -/
def FFmt.signBits (f : FFmt) (neg : Bool) : Nat := if neg then 2 ^ (f.p - 1 + f.ew) else 0

/-- Reads a word. -/
def FFmt.decode (f : FFmt) (w : Nat) : FVal :=
  let mant := w % 2 ^ (f.p - 1)
  let ex := w / 2 ^ (f.p - 1) % 2 ^ f.ew
  let neg := w / 2 ^ (f.p - 1 + f.ew) % 2 = 1
  if ex = 2 ^ f.ew - 1 then (if mant = 0 then .inf neg else .nan)
  else if ex = 0 then .fin neg mant f.emin
  else .fin neg (mant + 2 ^ (f.p - 1)) (f.emin + ((ex - 1 : Nat) : Int))

/-- `m / 2^s` rounded to the nearest whole number, ties to even. -/
def shiftRne (m s : Nat) : Nat :=
  let q := m / 2 ^ s
  let r := m % 2 ^ s
  if 2 * r > 2 ^ s ∨ (2 * r = 2 ^ s ∧ q % 2 = 1) then q + 1 else q

/-- The word nearest to (−1)^neg × m × 2^e, ties to even. -/
def FFmt.round (f : FFmt) (neg : Bool) (m : Nat) (e : Int) : Nat :=
  if m = 0 then f.signBits neg
  else
    let top := e + (Nat.log2 m : Int)
    let q := max (top - ((f.p : Int) - 1)) f.emin
    let m' := if q ≤ e then m * 2 ^ (e - q).toNat else shiftRne m (q - e).toNat
    f.signBits neg + min f.infBits ((q - f.emin).toNat * 2 ^ (f.p - 1) + m')

/-- The word of a value, rounded; every NaN canonical (R99). -/
def FFmt.encode (f : FFmt) : FVal → Nat
  | .nan => f.nanBits
  | .inf neg => f.signBits neg + f.infBits
  | .fin neg m e => f.round neg m e

/-- Integer square root by bits: `isqrtGo k n r` completes `r` with `k` more bits. -/
def isqrtGo : Nat → Nat → Nat → Nat
  | 0, _, r => r
  | k + 1, n, r => isqrtGo k n (if (r + 2 ^ k) * (r + 2 ^ k) ≤ n then r + 2 ^ k else r)

/-- The largest whole number whose square is at most `n`. -/
def isqrt (n : Nat) : Nat := isqrtGo (Nat.log2 n / 2 + 1) n 0

/-- The opposite of a value. -/
def FVal.neg : FVal → FVal
  | .nan => .nan
  | .inf n => .inf (!n)
  | .fin n m e => .fin (!n) m e

/-- The absolute value. -/
def FVal.abs : FVal → FVal
  | .nan => .nan
  | .inf _ => .inf false
  | .fin _ m e => .fin false m e

/-- A signed mantissa. -/
def signed (neg : Bool) (m : Nat) : Int := if neg then -(m : Int) else (m : Int)

/-- The exact sum; an exact zero is +0 unless both operands are −0. -/
def FVal.add : FVal → FVal → FVal
  | .nan, _ => .nan
  | .inf _, .nan => .nan
  | .inf a, .inf b => if a = b then .inf a else .nan
  | .inf a, .fin _ _ _ => .inf a
  | .fin _ _ _, .nan => .nan
  | .fin _ _ _, .inf b => .inf b
  | .fin na ma ea, .fin nb mb eb =>
    let e := min ea eb
    let x := signed na (ma * 2 ^ (ea - e).toNat) + signed nb (mb * 2 ^ (eb - e).toNat)
    if x = 0 then .fin (na && nb) 0 e else .fin (x < 0) x.natAbs e

/-- The exact product. -/
def FVal.mul : FVal → FVal → FVal
  | .nan, _ => .nan
  | .inf _, .nan => .nan
  | .inf a, .inf b => .inf (a != b)
  | .inf a, .fin b m _ => if m = 0 then .nan else .inf (a != b)
  | .fin _ _ _, .nan => .nan
  | .fin a m _, .inf b => if m = 0 then .nan else .inf (a != b)
  | .fin na ma ea, .fin nb mb eb => .fin (na != nb) (ma * mb) (ea + eb)

/-- The quotient with enough bits and a sticky bit that one rounding is exact. -/
def FVal.div : FVal → FVal → FVal
  | .nan, _ => .nan
  | .inf _, .nan => .nan
  | .inf _, .inf _ => .nan
  | .inf a, .fin b _ _ => .inf (a != b)
  | .fin _ _ _, .nan => .nan
  | .fin a _ _, .inf b => .fin (a != b) 0 0
  | .fin na ma ea, .fin nb mb eb =>
    if mb = 0 then (if ma = 0 then .nan else .inf (na != nb))
    else
      let k := 64 + Nat.log2 mb
      let q := ma * 2 ^ k / mb
      let sticky := if ma * 2 ^ k % mb = 0 then 0 else 1
      .fin (na != nb) (2 * q + sticky) (ea - eb - (k : Int) - 1)

/-- The square root with enough bits and a sticky bit; −0 gives −0, other negative values give a NaN. -/
def FVal.sqrt : FVal → FVal
  | .nan => .nan
  | .inf neg => if neg then .nan else .inf false
  | .fin neg m e =>
    if m = 0 then .fin neg 0 e
    else if neg then .nan
    else
      let k := 128 + (e % 2).toNat
      let n := m * 2 ^ k
      let r := isqrt n
      let sticky := if r * r = n then 0 else 1
      .fin false (2 * r + sticky) ((e - (k : Int)) / 2 - 1)

/-- Rounds to an integral value, ties to even, keeping the sign of a zero. -/
def FVal.rint : FVal → FVal
  | .nan => .nan
  | .inf n => .inf n
  | .fin n m e => if 0 ≤ e then .fin n m e else .fin n (shiftRne m (-e).toNat) 0

/-- The order of two finite or infinite values, −0 equal to +0: negative, zero or positive. -/
def FVal.cmp : FVal → FVal → Int
  | .nan, _ => 0
  | .inf _, .nan => 0
  | .inf a, .inf b => if a = b then 0 else if a then -1 else 1
  | .inf a, .fin _ _ _ => if a then -1 else 1
  | .fin _ _ _, .nan => 0
  | .fin _ _ _, .inf b => if b then 1 else -1
  | .fin na ma ea, .fin nb mb eb =>
    let e := min ea eb
    signed na (ma * 2 ^ (ea - e).toNat) - signed nb (mb * 2 ^ (eb - e).toNat)

/-- Is the value a NaN? -/
def FVal.isNan : FVal → Bool
  | .nan => true
  | .inf _ => false
  | .fin _ _ _ => false

/-- The sign of a value. -/
def FVal.isNeg : FVal → Bool
  | .nan => false
  | .inf n => n
  | .fin n _ _ => n

/-- Is the value ±0? -/
def FVal.isZero : FVal → Bool
  | .nan => false
  | .inf _ => false
  | .fin _ m _ => m == 0

/-- Below in the order of MIN and MAX, where −0 lies below +0 (R99). -/
def FVal.below (a b : FVal) : Bool :=
  a.cmp b < 0 || (a.cmp b == 0 && a.isNeg && !b.isNeg)

/-- MIN of R99: a NaN when either operand is one. -/
def FVal.min (a b : FVal) : FVal :=
  if a.isNan || b.isNan then .nan else if b.below a then b else a

/-- MAX of R99. -/
def FVal.max (a b : FVal) : FVal :=
  if a.isNan || b.isNan then .nan else if a.below b then b else a

/-- Truncation toward zero, for the conversions of R100; infinities as `lo` or `hi`, a NaN as 0. -/
def FVal.toInt (lo hi : Int) : FVal → Int
  | .nan => 0
  | .inf n => if n then lo else hi
  | .fin n m e => clampInt lo hi (signed n (if 0 ≤ e then m * 2 ^ e.toNat else m / 2 ^ (-e).toNat))

/-- A whole number as a value. -/
def FVal.ofInt (i : Int) : FVal := .fin (i < 0) i.natAbs 0

end Sys2Proof.Machine
end

