-- ==== Sys2Proof/Machine/Operands.lean ====
section
/-! DEFINITION. The operand types of XPC (R95): how a register is read as a value of a type and how a result is
normalised, and the values that R98, R99 and R100 give the operations. -/

namespace Sys2Proof.Machine

/-- The width of a type in bits (R95). -/
def xWidth : XType → Nat
  | .bool => 1
  | .u8 | .i8 => 8
  | .u16 | .i16 => 16
  | .u32 | .i32 | .f32 => 32
  | .u64 | .i64 | .f64 | .time64 => 64

/-- The size of a type in memory, in bytes; a BOOL occupies one (R102). -/
def xSize (t : XType) : Nat := if t = .bool then 1 else xWidth t / 8

/-- The code of a type (R95). -/
def xCode : XType → Nat
  | .bool => 0 | .u8 => 1 | .u16 => 2 | .u32 => 3 | .u64 => 4 | .i8 => 5 | .i16 => 6 | .i32 => 7 | .i64 => 8
  | .f32 => 9 | .f64 => 10 | .time64 => 11

/-- The type of a code (R95). -/
def xOfCode (n : Nat) : Option XType :=
  [XType.bool, .u8, .u16, .u32, .u64, .i8, .i16, .i32, .i64, .f32, .f64, .time64][n]?

/-- Is the type one of the signed integers, TIME64 among them? -/
def xSigned : XType → Bool
  | .i8 | .i16 | .i32 | .i64 | .time64 => true
  | .bool | .u8 | .u16 | .u32 | .u64 | .f32 | .f64 => false

/-- Is the type a float? -/
def xFloat : XType → Bool
  | .f32 | .f64 => true
  | .bool | .u8 | .u16 | .u32 | .u64 | .i8 | .i16 | .i32 | .i64 | .time64 => false

/-- Is the type one that R97 calls int: codes 1 to 8 and 11? -/
def xInt : XType → Bool
  | .u8 | .u16 | .u32 | .u64 | .i8 | .i16 | .i32 | .i64 | .time64 => true
  | .bool | .f32 | .f64 => false

/-- The float format of a type. -/
def xFmt (t : XType) : FFmt := if t = .f32 then fmt32 else fmt64

/-- The low bits of a register, up to the width of the type (R95). -/
def rawOf (t : XType) (v : Word) : Nat := v.toNat % 2 ^ xWidth t

/-- The register form of the low bits of a number (R95): signed types sign-extended, the others zero-extended. -/
def normRaw (t : XType) (n : Nat) : Word :=
  if xSigned t then BitVec.ofInt 64 (sxt (xWidth t) n) else BitVec.ofNat 64 (n % 2 ^ xWidth t)

/-- A register normalised to a type. -/
def normT (t : XType) (v : Word) : Word := normRaw t v.toNat

/-- The whole number that a register holds as a BOOL or int type. -/
def intOf (t : XType) (v : Word) : Int :=
  if xSigned t then sxt (xWidth t) v.toNat else ((rawOf t v : Nat) : Int)

/-- The register form of a whole number, wrapped to the width of the type (R98). -/
def ofInt (t : XType) (i : Int) : Word := normRaw t (wrapNat (xWidth t) i)

/-- The least value of a type. -/
def xMin (t : XType) : Int := if xSigned t then -(2 ^ (xWidth t - 1) : Int) else 0

/-- The greatest value of a type. -/
def xMax (t : XType) : Int := if xSigned t then (2 ^ (xWidth t - 1) : Int) - 1 else (2 ^ xWidth t : Int) - 1

/-- The value of a register of a float type. -/
def fOf (t : XType) (v : Word) : FVal := (xFmt t).decode (rawOf t v)

/-- The register form of a float value, rounded once to the type (R99). -/
def ofF (t : XType) (x : FVal) : Word := BitVec.ofNat 64 ((xFmt t).encode x)

/-- A BOOL result. -/
def ofBool (b : Bool) : Word := if b then 1 else 0

/-- Is a register true as a BOOL: its bit 0 (R95)? -/
def isTrue (v : Word) : Bool := v.getLsbD 0

/-! ### Arithmetic (R98, R99) -/

/-- ADD. -/
def opAdd (t : XType) (a b : Word) : Word :=
  if xFloat t then ofF t ((fOf t a).add (fOf t b)) else ofInt t (intOf t a + intOf t b)

/-- SUB. -/
def opSub (t : XType) (a b : Word) : Word :=
  if xFloat t then ofF t ((fOf t a).add (fOf t b).neg) else ofInt t (intOf t a - intOf t b)

/-- MUL. -/
def opMul (t : XType) (a b : Word) : Word :=
  if xFloat t then ofF t ((fOf t a).mul (fOf t b)) else ofInt t (intOf t a * intOf t b)

/-- DIV: truncated, 0 for a divisor of 0; the least value over −1 wraps to itself. -/
def opDiv (t : XType) (a b : Word) : Word :=
  if xFloat t then ofF t ((fOf t a).div (fOf t b)) else ofInt t ((intOf t a).tdiv (intOf t b))

/-- REM: the sign of the dividend, 0 for a divisor of 0. -/
def opRem (t : XType) (a b : Word) : Word :=
  if intOf t b = 0 then 0 else ofInt t ((intOf t a).tmod (intOf t b))

/-- NEG. -/
def opNeg (t : XType) (a : Word) : Word :=
  if xFloat t then ofF t (fOf t a).neg else ofInt t (-intOf t a)

/-- ABS. -/
def opAbs (t : XType) (a : Word) : Word :=
  if xFloat t then ofF t (fOf t a).abs else ofInt t ((intOf t a).natAbs : Int)

/-- MIN. -/
def opMin (t : XType) (a b : Word) : Word :=
  if xFloat t then ofF t ((fOf t a).min (fOf t b)) else ofInt t (min (intOf t a) (intOf t b))

/-- MAX. -/
def opMax (t : XType) (a b : Word) : Word :=
  if xFloat t then ofF t ((fOf t a).max (fOf t b)) else ofInt t (max (intOf t a) (intOf t b))

/-- LIMIT: MIN(MAX(D, A), B). -/
def opLimit (t : XType) (d a b : Word) : Word :=
  if xFloat t then ofF t (((fOf t d).max (fOf t a)).min (fOf t b))
  else ofInt t (min (max (intOf t d) (intOf t a)) (intOf t b))

/-- ADDS: saturates at the limits of the type. -/
def opAdds (t : XType) (a b : Word) : Word := ofInt t (clampInt (xMin t) (xMax t) (intOf t a + intOf t b))

/-- SUBS: saturates at the limits of the type. -/
def opSubs (t : XType) (a b : Word) : Word := ofInt t (clampInt (xMin t) (xMax t) (intOf t a - intOf t b))

/-- SQRT. -/
def opSqrt (t : XType) (a : Word) : Word := ofF t (fOf t a).sqrt

/-- RINT. -/
def opRint (t : XType) (a : Word) : Word := ofF t (fOf t a).rint

/-- ADDI: IMM sign-extended before the addition. -/
def opAddi (t : XType) (a : Word) (imm : BitVec 8) : Word := ofInt t (intOf t a + imm.toInt)

/-! ### Bits and shifts (R97, R98) -/

/-- AND. -/
def opAnd (t : XType) (a b : Word) : Word := normT t (a &&& b)

/-- OR. -/
def opOr (t : XType) (a b : Word) : Word := normT t (a ||| b)

/-- XOR. -/
def opXor (t : XType) (a b : Word) : Word := normT t (a ^^^ b)

/-- NOT: the complement of the bits of the type. -/
def opNot (t : XType) (a : Word) : Word := normT t (~~~a)

/-- SHL by a count taken modulo the width. -/
def opShl (t : XType) (a : Word) (n : Nat) : Word := normRaw t (rawOf t a * 2 ^ (n % xWidth t))

/-- SHR by a count taken modulo the width: arithmetic for signed types, logical for the others. -/
def opShr (t : XType) (a : Word) (n : Nat) : Word := ofInt t (intOf t a / (2 ^ (n % xWidth t) : Nat))

/-- ROL by a count taken modulo the width. -/
def opRol (t : XType) (a : Word) (n : Nat) : Word :=
  let k := n % xWidth t
  normRaw t (rawOf t a * 2 ^ k % 2 ^ xWidth t + rawOf t a / 2 ^ (xWidth t - k))

/-- ROR by a count taken modulo the width. -/
def opRor (t : XType) (a : Word) (n : Nat) : Word :=
  let k := n % xWidth t
  normRaw t (rawOf t a / 2 ^ k + rawOf t a * 2 ^ (xWidth t - k) % 2 ^ xWidth t)

/-- GETB. -/
def opGetb (t : XType) (a : Word) (imm : BitVec 8) : Word := ofBool ((rawOf t a).testBit imm.toNat)

/-- SETB. -/
def opSetb (t : XType) (a : Word) (imm : BitVec 8) : Word := normT t (a ||| BitVec.ofNat 64 (2 ^ imm.toNat))

/-- CLRB. -/
def opClrb (t : XType) (a : Word) (imm : BitVec 8) : Word := normT t (a &&& ~~~(BitVec.ofNat 64 (2 ^ imm.toNat)))

/-! ### Comparisons (R99) -/

/-- A comparison whose order is `r`: with a NaN operand the result is 0 (R99). -/
def opCmp (t : XType) (r : Int → Bool) (a b : Word) : Bool :=
  if xFloat t then !(fOf t a).isNan && (!(fOf t b).isNan && r ((fOf t a).cmp (fOf t b)))
  else r (intOf t a - intOf t b)

/-- EQ. -/
def opEq (t : XType) (a b : Word) : Word := ofBool (opCmp t (fun d => d == 0) a b)

/-- NE: 1 with a NaN operand. -/
def opNe (t : XType) (a b : Word) : Word := ofBool (!opCmp t (fun d => d == 0) a b)

/-- LT. -/
def opLt (t : XType) (a b : Word) : Word := ofBool (opCmp t (fun d => decide (d < 0)) a b)

/-- LE. -/
def opLe (t : XType) (a b : Word) : Word := ofBool (opCmp t (fun d => decide (d ≤ 0)) a b)

/-- GT. -/
def opGt (t : XType) (a b : Word) : Word := ofBool (opCmp t (fun d => decide (0 < d)) a b)

/-- GE. -/
def opGe (t : XType) (a b : Word) : Word := ofBool (opCmp t (fun d => decide (0 ≤ d)) a b)

/-- ISNAN. -/
def opIsnan (t : XType) (a : Word) : Word := ofBool (fOf t a).isNan

/-! ### Conversion (R100) -/

/-- CVT from `src` to `t`. -/
def opCvt (t src : XType) (a : Word) : Word :=
  if t = .bool then
    ofBool (if xFloat src then !(fOf src a).isNan && !(fOf src a).isZero else !(intOf src a == 0))
  else if xFloat t then
    ofF t (if xFloat src then fOf src a else FVal.ofInt (intOf src a))
  else if xFloat src then ofInt t ((fOf src a).toInt (xMin t) (xMax t))
  else ofInt t (intOf src a)

end Sys2Proof.Machine
end

