-- ==== Sys2Proof/Machine/Events.lean ====
section
/-! DEFINITION. The event codes of R407, by the names of the chapters that raise them. -/

namespace Sys2Proof.Machine

/-- MODE-CHANGED (R407). -/
def evModeChanged : Code := 0x1001#16
/-- COMMAND-REFUSED (R407). -/
def evCommandRefused : Code := 0x1002#16
/-- FAULT-STOP (R407). -/
def evFaultStop : Code := 0x1003#16
/-- WARM-RESTART (R407). -/
def evWarmRestart : Code := 0x1004#16
/-- START-TIMEOUT (R407). -/
def evStartTimeout : Code := 0x1005#16
/-- WARM-RESTART-DENIED (R407). -/
def evWarmRestartDenied : Code := 0x1006#16
/-- START-COMPLETE (R407). -/
def evStartComplete : Code := 0x1007#16
/-- FABRIC-LOCKOUT (R407). -/
def evFabricLockout : Code := 0x1009#16
/-- IMAGE-LATE (R407). -/
def evImageLate : Code := 0x1011#16
/-- POUR-LATE (R407). -/
def evPourLate : Code := 0x1012#16
/-- EDGE-OVERFLOW (R407). -/
def evEdgeOverflow : Code := 0x1014#16
/-- WARM-STATE-LOST (R407). -/
def evWarmStateLost : Code := 0x1016#16
/-- RETAINED-RESTORED (R407). -/
def evRetainedRestored : Code := 0x1020#16
/-- RETAINED-LOST (R407). -/
def evRetainedLost : Code := 0x1021#16
/-- IMAGE-REJECTED (R407). -/
def evImageRejected : Code := 0x1030#16
/-- FORCE-SET (R407). -/
def evForceSet : Code := 0x1040#16
/-- FORCE-REMOVED (R407). -/
def evForceRemoved : Code := 0x1041#16
/-- FORCE-REFUSED (R407). -/
def evForceRefused : Code := 0x1042#16
/-- CHANGE-APPLIED (R407). -/
def evChangeApplied : Code := 0x1050#16
/-- CHANGE-REFUSED (R407). -/
def evChangeRefused : Code := 0x1051#16
/-- CHANGE-ON-FORCED (R407). -/
def evChangeOnForced : Code := 0x1052#16
/-- EXCHANGE-DONE (R407). -/
def evExchangeDone : Code := 0x1060#16
/-- EXCHANGE-FAILED (R407). -/
def evExchangeFailed : Code := 0x1061#16
/-- ORDER-SUPERSEDED (R407). -/
def evOrderSuperseded : Code := 0x1070#16
/-- SESSION-OPENED (R407). -/
def evSessionOpened : Code := 0x1071#16
/-- SESSION-CLOSED (R407). -/
def evSessionClosed : Code := 0x1072#16
/-- AUTH-FAILED (R407). -/
def evAuthFailed : Code := 0x1073#16
/-- ABACUS-RATE-LIMITED (R407). -/
def evAbacusRateLimited : Code := 0x1074#16
/-- FUNCTION-MODE-CHANGED (R407). -/
def evFunctionModeChanged : Code := 0x1075#16
/-- VOTE-MAJORITY (R407). -/
def evVoteMajority : Code := 0x2001#16
/-- VOTE-LATE (R407). -/
def evVoteLate : Code := 0x2002#16
/-- VOTE-SPLIT (R407). -/
def evVoteSplit : Code := 0x2003#16
/-- OVERRUN (R407). -/
def evOverrun : Code := 0x2004#16
/-- POUR-CHECK-FAIL (R407). -/
def evPourCheckFail : Code := 0x2005#16
/-- LANES-EXHAUSTED (R407). -/
def evLanesExhausted : Code := 0x2006#16
/-- LANE-EXCLUDED (R407). -/
def evLaneExcluded : Code := 0x2010#16
/-- LANE-REINTEGRATING (R407). -/
def evLaneReintegrating : Code := 0x2011#16
/-- LANE-IN (R407). -/
def evLaneIn : Code := 0x2012#16
/-- LANE-OUT (R407). -/
def evLaneOut : Code := 0x2013#16
/-- REINTEGRATION-FAILED (R407). -/
def evReintegrationFailed : Code := 0x2014#16
/-- LANE-INPUT-FAIL (R407). -/
def evLaneInputFail : Code := 0x2015#16
/-- LANE-IMAGE-GAP (R407). -/
def evLaneImageGap : Code := 0x2016#16
/-- LANE-ECC (R407). -/
def evLaneEcc : Code := 0x2017#16
/-- LANE-TRAP (R407). -/
def evLaneTrap : Code := 0x2018#16
/-- SCRUB-MISMATCH (R407). -/
def evScrubMismatch : Code := 0x2020#16
/-- RECKONER-DISAGREE (R407). -/
def evReckonerDisagree : Code := 0x2030#16
/-- PLACEMENT-CHANGED (R407). -/
def evPlacementChanged : Code := 0x2040#16
/-- PLACEMENT-REFUSED (R407). -/
def evPlacementRefused : Code := 0x2041#16
/-- FALLBACK-APPLIED (R407). -/
def evFallbackApplied : Code := 0x2042#16
/-- STAGGER-LIMITED (R407). -/
def evStaggerLimited : Code := 0x2043#16
/-- SPLIT-VITAL-WRITE (R407). -/
def evSplitVitalWrite : Code := 0x2050#16
/-- SPLIT-TASK-FAULT (R407). -/
def evSplitTaskFault : Code := 0x2051#16
/-- DEBUG-ATTACHED (R407). -/
def evDebugAttached : Code := 0x2060#16
/-- DEBUG-REFUSED (R407). -/
def evDebugRefused : Code := 0x2061#16
/-- BUCKET-OVERFLOW (R407). -/
def evBucketOverflow : Code := 0x2070#16
/-- STEP-BUDGET (R407). -/
def evStepBudget : Code := 0x2071#16
/-- DEADLINE (R407). -/
def evDeadline : Code := 0x2072#16
/-- WRITE-NOT-OWNED (R407). -/
def evWriteNotOwned : Code := 0x2073#16
/-- ACCESS-FAULT (R407). -/
def evAccessFault : Code := 0x2074#16
/-- LOOP-BOUND (R407). -/
def evLoopBound : Code := 0x2075#16
/-- APP-HALT (R407). -/
def evAppHalt : Code := 0x2076#16
/-- DIGEST-DISSENT (R407). -/
def evDigestDissent : Code := 0x2080#16
/-- DIGEST-SPLIT (R407). -/
def evDigestSplit : Code := 0x2081#16
/-- BINDING-DISSENT (R407). -/
def evBindingDissent : Code := 0x2082#16
/-- BINDING-SPLIT (R407). -/
def evBindingSplit : Code := 0x2083#16
/-- GROUP-LINK-LOST (R407). -/
def evGroupLinkLost : Code := 0x3001#16
/-- GROUP-LINK-RESTORED (R407). -/
def evGroupLinkRestored : Code := 0x3002#16
/-- CHATTER (R407). -/
def evChatter : Code := 0x3010#16
/-- OVER-RATE (R407). -/
def evOverRate : Code := 0x3011#16
/-- MAX-ON (R407). -/
def evMaxOn : Code := 0x3012#16
/-- BANK-SWAPPED (R407). -/
def evBankSwapped : Code := 0x3020#16
/-- BANK-SWAP-REFUSED (R407). -/
def evBankSwapRefused : Code := 0x3021#16
/-- BANK-ENTRY-REFUSED (R407). -/
def evBankEntryRefused : Code := 0x3022#16
/-- VF-LOW (R407). -/
def evVfLow : Code := 0x3030#16
/-- VF-RESTORED (R407). -/
def evVfRestored : Code := 0x3031#16
/-- OVERCURRENT-TRIP (R407). -/
def evOvercurrentTrip : Code := 0x3040#16
/-- SHORT-CIRCUIT (R407). -/
def evShortCircuit : Code := 0x3041#16
/-- OPEN-LOAD (R407). -/
def evOpenLoad : Code := 0x3042#16
/-- SWITCH-STUCK (R407). -/
def evSwitchStuck : Code := 0x3043#16
/-- DEMAG-OVER (R407). -/
def evDemagOver : Code := 0x3044#16
/-- SWITCH-ON-INHIBIT (R407). -/
def evSwitchOnInhibit : Code := 0x3045#16
/-- SWITCH-ON-RESUMED (R407). -/
def evSwitchOnResumed : Code := 0x3046#16
/-- GROUP-OUTPUT-SILENT (R407). -/
def evGroupOutputSilent : Code := 0x3050#16
/-- GROUP-OUTPUT-RESUMED (R407). -/
def evGroupOutputResumed : Code := 0x3051#16
/-- MAP-WRITTEN (R407). -/
def evMapWritten : Code := 0x4001#16
/-- MAP-REFUSED (R407). -/
def evMapRefused : Code := 0x4002#16
/-- MAP-COPY-REPAIRED (R407). -/
def evMapCopyRepaired : Code := 0x4003#16
/-- MAP-PAIR-MISMATCH (R407). -/
def evMapPairMismatch : Code := 0x4004#16
/-- REQUEST-BINDING-INVALID (R407). -/
def evRequestBindingInvalid : Code := 0x4005#16
/-- ROLE-MISMATCH (R407). -/
def evRoleMismatch : Code := 0x4006#16
/-- FUNCTION-TRIPPED (R407). -/
def evFunctionTripped : Code := 0x4010#16
/-- FUNCTION-RUN (R407). -/
def evFunctionRun : Code := 0x4011#16
/-- FUNCTION-LOCKED (R407). -/
def evFunctionLocked : Code := 0x4012#16
/-- FUNCTION-RESET (R407). -/
def evFunctionReset : Code := 0x4013#16
/-- RESET-PULSE-INVALID (R407). -/
def evResetPulseInvalid : Code := 0x4020#16
/-- TEST-PULSE-FAIL (R407). -/
def evTestPulseFail : Code := 0x4030#16
/-- READBACK-FAIL (R407). -/
def evReadbackFail : Code := 0x4031#16
/-- GROUP-KEEPALIVE-STOPPED (R407). -/
def evGroupKeepaliveStopped : Code := 0x4032#16
/-- FABRIC-LINK-LOST (R407). -/
def evFabricLinkLost : Code := 0x4033#16
/-- REQUEST-LINK-LOST (R407). -/
def evRequestLinkLost : Code := 0x4034#16
/-- MODULE-LOCKOUT (R407). -/
def evModuleLockout : Code := 0x4040#16
/-- DSD-WARNING (R407). -/
def evDsdWarning : Code := 0x4050#16
/-- LINK-DOWN (R407). -/
def evLinkDown : Code := 0x5001#16
/-- LINK-UP (R407). -/
def evLinkUp : Code := 0x5002#16
/-- MAC-TABLE-FULL (R407). -/
def evMacTableFull : Code := 0x5003#16
/-- INGRESS-POLICED (R407). -/
def evIngressPoliced : Code := 0x5004#16
/-- LEARNING-LIMITED (R407). -/
def evLearningLimited : Code := 0x5005#16
/-- MATRIX-ACTIVE (R407). -/
def evMatrixActive : Code := 0x5010#16
/-- MATRIX-REFUSED (R407). -/
def evMatrixRefused : Code := 0x5011#16
/-- BEACON-SENDING (R407). -/
def evBeaconSending : Code := 0x5020#16
/-- BEACON-LOST (R407). -/
def evBeaconLost : Code := 0x5021#16
/-- MASTER-CONFLICT (R407). -/
def evMasterConflict : Code := 0x5022#16
/-- BEACON-MISMATCH (R407). -/
def evBeaconMismatch : Code := 0x5023#16
/-- GUARDIAN-CLOSED (R407). -/
def evGuardianClosed : Code := 0x5030#16
/-- GUARDIAN-REOPENED (R407). -/
def evGuardianReopened : Code := 0x5031#16
/-- GUARDIAN-CUT (R407). -/
def evGuardianCut : Code := 0x5032#16
/-- GUARDIAN-TABLE-FAULT (R407). -/
def evGuardianTableFault : Code := 0x5033#16
/-- STREAM-OUTSIDE-WINDOW (R407). -/
def evStreamOutsideWindow : Code := 0x5040#16
/-- TRANSIT-AGED-OUT (R407). -/
def evTransitAgedOut : Code := 0x5041#16
/-- REDUNDANCY-DEGRADED (R407). -/
def evRedundancyDegraded : Code := 0x5050#16
/-- PD-HEADER-ERROR (R407). -/
def evPdHeaderError : Code := 0x5060#16
/-- PD-TIMEOUT (R407). -/
def evPdTimeout : Code := 0x5061#16
/-- PD-RESTORED (R407). -/
def evPdRestored : Code := 0x5062#16
/-- PD-NOT-SENT (R407). -/
def evPdNotSent : Code := 0x5063#16
/-- BINDING-REFUSED (R407). -/
def evBindingRefused : Code := 0x5065#16
/-- MD-SESSION-LIMIT (R407). -/
def evMdSessionLimit : Code := 0x5066#16
/-- MD-TIMEOUT (R407). -/
def evMdTimeout : Code := 0x5067#16
/-- SEAL-FAIL (R407). -/
def evSealFail : Code := 0x5070#16
/-- SEAL-AGE (R407). -/
def evSealAge : Code := 0x5071#16
/-- SEAL-LOSS (R407). -/
def evSealLoss : Code := 0x5072#16
/-- MVB-LINE-FAULT (R407). -/
def evMvbLineFault : Code := 0x5080#16
/-- MVB-LINE-RESTORED (R407). -/
def evMvbLineRestored : Code := 0x5081#16
/-- MVB-MASTER-CONFLICT (R407). -/
def evMvbMasterConflict : Code := 0x5082#16
/-- MVB-PORT-TIMEOUT (R407). -/
def evMvbPortTimeout : Code := 0x5083#16
/-- CAN-ERROR-PASSIVE (R407). -/
def evCanErrorPassive : Code := 0x5090#16
/-- CAN-BUS-OFF (R407). -/
def evCanBusOff : Code := 0x5091#16
/-- CAN-BUS-OFF-FINAL (R407). -/
def evCanBusOffFinal : Code := 0x5092#16
/-- CAN-HEARTBEAT-LOST (R407). -/
def evCanHeartbeatLost : Code := 0x5093#16
/-- RPDO-TIMEOUT (R407). -/
def evRpdoTimeout : Code := 0x5094#16
/-- CAN-SYNC-CONFLICT (R407). -/
def evCanSyncConflict : Code := 0x5095#16
/-- TIME-ACQUIRED (R407). -/
def evTimeAcquired : Code := 0x6001#16
/-- TIME-LOCKED (R407). -/
def evTimeLocked : Code := 0x6002#16
/-- TIME-HOLDOVER (R407). -/
def evTimeHoldover : Code := 0x6003#16
/-- JUMP-REFUSED (R407). -/
def evJumpRefused : Code := 0x6004#16
/-- DOMAIN-SWITCHED (R407). -/
def evDomainSwitched : Code := 0x6005#16
/-- REFERENCE-MOVED (R407). -/
def evReferenceMoved : Code := 0x6006#16
/-- TIME-REBASED (R407). -/
def evTimeRebased : Code := 0x6007#16
/-- SLEW-COMPLETE (R407). -/
def evSlewComplete : Code := 0x6008#16
/-- GRANDMASTER-CHANGED (R407). -/
def evGrandmasterChanged : Code := 0x6009#16
/-- LEAP-ANNOUNCED (R407). -/
def evLeapAnnounced : Code := 0x600A#16
/-- LEAP-APPLIED (R407). -/
def evLeapApplied : Code := 0x600B#16
/-- SERVO-MODE-CHANGED (R407). -/
def evServoModeChanged : Code := 0x600C#16
/-- FOLLOW-UP-UNMATCHED (R407). -/
def evFollowUpUnmatched : Code := 0x600D#16
/-- HOLDOVER-EXHAUSTED (R407). -/
def evHoldoverExhausted : Code := 0x600E#16
/-- RECORD-TORN (R407). -/
def evRecordTorn : Code := 0x7001#16
/-- RECORDER-FAULT (R407). -/
def evRecorderFault : Code := 0x7002#16
/-- RECORDER-MAP-CHANGED (R407). -/
def evRecorderMapChanged : Code := 0x7003#16
/-- DMA-ABORTED (R407). -/
def evDmaAborted : Code := 0x7101#16
/-- ENGINE-HALT (R407). -/
def evEngineHalt : Code := 0x7102#16
/-- ENGINE-HALT-FINAL (R407). -/
def evEngineHaltFinal : Code := 0x7103#16
/-- CHAIN-LIMIT (R407). -/
def evChainLimit : Code := 0x7104#16
/-- DMA-ADDRESS-REFUSED (R407). -/
def evDmaAddressRefused : Code := 0x7105#16
/-- DMA-RESTARTED (R407). -/
def evDmaRestarted : Code := 0x7106#16
/-- LATE-ERROR (R407). -/
def evLateError : Code := 0x7201#16
/-- LATE-RING-OVERFLOW (R407). -/
def evLateRingOverflow : Code := 0x7202#16
/-- LOCK-BROKEN (R407). -/
def evLockBroken : Code := 0x7203#16
/-- EVENT-QUEUE-OVERFLOW (R407). -/
def evEventQueueOverflow : Code := 0x7204#16
/-- IMAGE-EVENT-OVERFLOW (R407). -/
def evImageEventOverflow : Code := 0x7205#16
/-- LINK-REPLAY-FAIL (R407). -/
def evLinkReplayFail : Code := 0x7206#16
/-- UPDATE-BEGUN (R407). -/
def evUpdateBegun : Code := 0x8001#16
/-- BLOCK-REFUSED (R407). -/
def evBlockRefused : Code := 0x8002#16
/-- TRANSFER-COMPLETE (R407). -/
def evTransferComplete : Code := 0x8003#16
/-- IMAGE-VERIFIED (R407). -/
def evImageVerified : Code := 0x8004#16
/-- VERIFY-FAILED (R407). -/
def evVerifyFailed : Code := 0x8005#16
/-- ROLLBACK-REFUSED (R407). -/
def evRollbackRefused : Code := 0x8006#16
/-- IMAGE-ACTIVATED (R407). -/
def evImageActivated : Code := 0x8007#16
/-- TRIAL-PASSED (R407). -/
def evTrialPassed : Code := 0x8008#16
/-- TRIAL-FALLBACK (R407). -/
def evTrialFallback : Code := 0x8009#16
/-- UPDATE-ABORTED (R407). -/
def evUpdateAborted : Code := 0x800A#16
/-- PAIR-STATE-CHANGED (R407). -/
def evPairStateChanged : Code := 0x9001#16
/-- PAIR-REFUSED (R407). -/
def evPairRefused : Code := 0x9002#16
/-- PARTNER-LOST (R407). -/
def evPartnerLost : Code := 0x9003#16
/-- TAKEOVER (R407). -/
def evTakeover : Code := 0x9004#16
/-- LEASE-LOST (R407). -/
def evLeaseLost : Code := 0x9005#16
/-- REFEREE-SILENT (R407). -/
def evRefereeSilent : Code := 0x9006#16
/-- REFEREE-RESTORED (R407). -/
def evRefereeRestored : Code := 0x9007#16
/-- SIPHON-FRAME-REJECTED (R407). -/
def evSiphonFrameRejected : Code := 0x9008#16
/-- DELTA-MISMATCH (R407). -/
def evDeltaMismatch : Code := 0x9009#16
/-- RESYNC-START (R407). -/
def evResyncStart : Code := 0x900A#16
/-- RESYNC-DONE (R407). -/
def evResyncDone : Code := 0x900B#16
/-- RESYNC-FAILED (R407). -/
def evResyncFailed : Code := 0x900C#16
/-- HANDOVER-DONE (R407). -/
def evHandoverDone : Code := 0x900D#16
/-- REVERSION (R407). -/
def evReversion : Code := 0x900E#16
/-- EXCHANGE-SHADOW (R407). -/
def evExchangeShadow : Code := 0x900F#16
/-- EXCHANGE-ABORTED (R407). -/
def evExchangeAborted : Code := 0x9010#16
/-- ROLE-CONFLICT (R407). -/
def evRoleConflict : Code := 0x9011#16
/-- IMAGE-FORWARD-LATE (R407). -/
def evImageForwardLate : Code := 0x9012#16
/-- TAKEOVER-IMPOSSIBLE (R407). -/
def evTakeoverImpossible : Code := 0x9013#16
/-- ALONE-DRIVE (R407). -/
def evAloneDrive : Code := 0x9014#16
/-- HANDOVER-FAILED (R407). -/
def evHandoverFailed : Code := 0x9015#16
/-- DUAL-LEASE (R407). -/
def evDualLease : Code := 0x9016#16
/-- TAKEOVER-REFUSED (R407). -/
def evTakeoverRefused : Code := 0x9017#16

/-- Every event code of R407 in ascending order (R412). -/
def eventCodes : List Nat :=
  [0x1001, 0x1002, 0x1003, 0x1004, 0x1005, 0x1006, 0x1007, 0x1009, 0x1011, 0x1012, 0x1014, 0x1016, 0x1020, 0x1021, 0x1030, 0x1040, 0x1041, 0x1042, 0x1050, 0x1051, 0x1052, 0x1060, 0x1061, 0x1070, 0x1071] ++
  [0x1072, 0x1073, 0x1074, 0x1075, 0x2001, 0x2002, 0x2003, 0x2004, 0x2005, 0x2006, 0x2010, 0x2011, 0x2012, 0x2013, 0x2014, 0x2015, 0x2016, 0x2017, 0x2018, 0x2020, 0x2030, 0x2040, 0x2041, 0x2042, 0x2043] ++
  [0x2050, 0x2051, 0x2060, 0x2061, 0x2070, 0x2071, 0x2072, 0x2073, 0x2074, 0x2075, 0x2076, 0x2080, 0x2081, 0x2082, 0x2083, 0x3001, 0x3002, 0x3010, 0x3011, 0x3012, 0x3020, 0x3021, 0x3022, 0x3030, 0x3031] ++
  [0x3040, 0x3041, 0x3042, 0x3043, 0x3044, 0x3045, 0x3046, 0x3050, 0x3051, 0x4001, 0x4002, 0x4003, 0x4004, 0x4005, 0x4006, 0x4010, 0x4011, 0x4012, 0x4013, 0x4020, 0x4030, 0x4031, 0x4032, 0x4033, 0x4034] ++
  [0x4040, 0x4050, 0x5001, 0x5002, 0x5003, 0x5004, 0x5005, 0x5010, 0x5011, 0x5020, 0x5021, 0x5022, 0x5023, 0x5030, 0x5031, 0x5032, 0x5033, 0x5040, 0x5041, 0x5050, 0x5060, 0x5061, 0x5062, 0x5063, 0x5065] ++
  [0x5066, 0x5067, 0x5070, 0x5071, 0x5072, 0x5080, 0x5081, 0x5082, 0x5083, 0x5090, 0x5091, 0x5092, 0x5093, 0x5094, 0x5095, 0x6001, 0x6002, 0x6003, 0x6004, 0x6005, 0x6006, 0x6007, 0x6008, 0x6009, 0x600A] ++
  [0x600B, 0x600C, 0x600D, 0x600E, 0x7001, 0x7002, 0x7003, 0x7101, 0x7102, 0x7103, 0x7104, 0x7105, 0x7106, 0x7201, 0x7202, 0x7203, 0x7204, 0x7205, 0x7206, 0x8001, 0x8002, 0x8003, 0x8004, 0x8005, 0x8006] ++
  [0x8007, 0x8008, 0x8009, 0x800A, 0x9001, 0x9002, 0x9003, 0x9004, 0x9005, 0x9006, 0x9007, 0x9008, 0x9009, 0x900A, 0x900B, 0x900C, 0x900D, 0x900E, 0x900F, 0x9010, 0x9011, 0x9012, 0x9013, 0x9014, 0x9015] ++
  [0x9016, 0x9017]

end Sys2Proof.Machine
end

