-- ==== Sys2Proof/Config.lean ====
section
/-! DEFINITION. What the spec names without giving it: functions of outside standards and the values it leaves
open. Every one is opaque: nothing can be proved of its value, so a claim holds for all of them. -/

namespace Sys2Proof

/-- The source of values that the spec leaves open; State's counter `freeCount` selects the next one (assumption 4). -/
opaque Config.freeValue : Nat → BitVec 64

/-- SHA-512 (R116), named by the spec and not defined there: 64 bytes (assumption 5). -/
opaque Config.sha512Of : Bytes → Vector Byte 64
/-- The SHA-512 digest. -/
def Config.sha512 (b : Bytes) : Bytes := (Config.sha512Of b).toList
/-- SHA-256 (R160), named by the spec and not defined there: 32 bytes (assumption 5). -/
opaque Config.sha256Of : Bytes → Vector Byte 32
/-- The SHA-256 digest. -/
def Config.sha256 (b : Bytes) : Bytes := (Config.sha256Of b).toList
/-- HMAC-SHA-256 of a key and a text (R343, R384, R386): 32 bytes (assumption 5). -/
opaque Config.hmacSha256Of : Bytes → Bytes → Vector Byte 32
/-- The HMAC-SHA-256 code. -/
def Config.hmacSha256 (key text : Bytes) : Bytes := (Config.hmacSha256Of key text).toList
/-- Ed25519 verification of a public key, a message and a signature (R116, R424; assumption 5). -/
opaque Config.ed25519 : Bytes → Bytes → Bytes → Bool
/-- The keys of the running firmware against which firmware images are verified (R405, R424). -/
opaque Config.firmwareKeys : List (Bytes × Bytes)
/-- The SDTv2 safety code of IEC 61375-2-3 over the Seal's input (R304; assumption 5). -/
opaque Config.sdtv2 : Bytes → BitVec 32
/-- The PHY latency constants of 0x6003:10 to :15, fixed per hardware issue (R268). -/
opaque Config.phyLatency : Nat → BitVec 16
/-- The module's random source for server nonces (R384): 16 bytes per draw. -/
opaque Config.nonceOf : Nat → Vector Byte 16
/-- The bytes of a draw. -/
def Config.nonce (n : Nat) : Bytes := (Config.nonceOf n).toList
/-- The servo's next rate, in units of 0.01 ppb, from the old rate and an offset (R284 gives a PI loop with a 16 s
time constant and no gains; the limits of R261 are applied to it). -/
opaque Config.servoRate : Int → Int → Nat → Int
/-- The phase-correcting part of the servo's rate from the same inputs (R261 bounds it). -/
opaque Config.servoPhase : Int → Int → Nat → Int
/-- The module's clockIdentity, an EUI-64 of its base MAC address (R267). -/
opaque Config.clockIdentity : BitVec 64
/-- The hash set of the MAC table in which an address and its VLAN are stored (R241 gives four entries to a set and no
hash function). -/
opaque Config.macSet : BitVec 48 → BitVec 12 → BitVec 10
/-- The time in ns of a poll's master and slave frames with their reply delays for a port of a size in bytes (R308 names
the frames of IEC 61375-3-1 without giving their times; assumption 5). -/
opaque Config.mvbPollTime : Nat → Nat

end Sys2Proof
end

