-- ==== Sys2Proof/Machine/State.lean ====
section
/-! DEFINITION. The state of one CK-X3128 module as plain data, and the state after reset. -/

namespace Sys2Proof.Machine

/-- Sparse data by key: keys strictly rising, no entry equal to the default (see `Sparse.wf` in Machine/Ops.lean). -/
abbrev Sparse (α : Type) := List (Nat × α)
/-- Byte memory in canonical form; an unlisted byte reads 0 (assumption 3). -/
abbrev Cells := List Host.Cell

/-- Module modes (R121), OFF included. -/
inductive Mode where | off | fabricOnly | boot | stop | run | hold | faultStop | standby
deriving DecidableEq, Repr, Inhabited
/-- Lane states (R48). -/
inductive LState where | isIn | excluded | reintegrating | out
deriving DecidableEq, Repr, Inhabited
/-- Safety function instance states (R162). -/
inductive FState where | off | run | tripped | locked
deriving DecidableEq, Repr, Inhabited
/-- Pair states (R340). -/
inductive PState where | alone | active | standby | joining | out
deriving DecidableEq, Repr, Inhabited
/-- Module time states (R273). -/
inductive TState where | free | locked | holdover | grandmaster | slewing
deriving DecidableEq, Repr, Inhabited
/-- PTP slot states (R272). -/
inductive SlotState where | disabled | listening | measuring | locked | silent | refused | grandmaster
deriving DecidableEq, Repr, Inhabited
/-- Mode commands of 0x1101:01. -/
inductive ModeCmd where | run | stop | hold | resume | restart | exchange
deriving DecidableEq, Repr, Inhabited
/-- Why no step of this block ends in a fault: the spec gives every command an effect, so the type is empty. -/
inductive Fault where
deriving DecidableEq, Repr
/-- Refusals. -/
inductive Refusal where
  /-- Raised by a dispatch arm whose command has no meaning yet. Safe: the machine stops. -/
  | notModelled (mnemonic : String)
deriving DecidableEq, Repr

/-! ### Outputs of the module -/

/-- What the module has put on one of its links or buses, in the order sent (the model's own record, assumption 6). -/
inductive Sent where
  | abacus (via : Via) (status : BitVec 16) (data : Bytes)
  | abacusOpen (port : Fin 11) (addr : Nat) (status : BitVec 16) (data : Bytes)
  | sdo (bus : Fin 2) (abort : BitVec 32) (data : Bytes)
  | groupFrame (g : Fin 8) (bytes : Bytes)
  | request (bits : BitVec 128)
  | fabricFrame (g : Fin 8) (low high : BitVec 16)
  | eth (port : Fin 11) (f : EthFrame)
  | etherCut (port : Fin 11)
  | pd (pub : Nat) (seq : BitVec 32) (dataset : Bytes)
  | md (msgType : BitVec 16) (m : MdTelegram)
  | ptp (slot : Fin 2) (port : Fin 11) (kind : Nat) (correction : Int)
  | mvb (address : BitVec 12) (data : Bytes)
  | mvbMaster (address : BitVec 12) (fcode : Nat)
  | can (bus : Fin 2) (f : CanFrame)
  | tally (ln : Lane) (core : Fin 4) (task : Fin 16) (cyc : BitVec 16) (tally : Tally)
  | siphon (f : SiphonFrame)
  | siphonControl (seq : BitVec 32) (cycle : Nat) (m : ControlMsg)
  | siphonState (seq : BitVec 32) (cycle : Nat) (m : MirrorMsg)
  | referee (type : Fin 9) (m : RefereeMsg)
  | completion (ln : Lane) (core : Fin 4) (c : Completion)
  | serviceCompletion (c : Completion)
deriving DecidableEq, Repr

/-! ### The event queue (R397) and the recorder (R408 to R417) -/

structure Event where
  /-- TIME64 of the raising. 64 bits; 15 R397 -/
  time : Nat
  /-- SEQ of the entry. 32 bits; 15 R397 -/
  seq : BitVec 32
  code : Code
  suppressed : Nat
  source : BitVec 8
  data : Bytes
deriving DecidableEq, Repr

structure Bucket where
  /-- Credit in token-ns: one token is 10^9. 15 R387, R397 -/
  credit : Nat
  last : Nat
deriving DecidableEq, Repr

structure EventQ where
  /-- Volatile event queue, oldest first, at most 512 entries. 512 x 24 bytes; 15 R397; reset empty -/
  entries : List Event := []
  /-- SEQ of the next entry. 32 bits; 15 R397 (0x1300:03); reset 0 -/
  nextSeq : BitVec 32 := 0
  /-- Entries lost to overwriting. 32 bits; 15 R397 (0x1300:04); reset 0 -/
  overwritten : Nat := 0
  /-- Raisings suppressed since the code's previous entry, by code. 8 bits per code; 15 R397; reset none -/
  suppressed : Sparse Nat := []
  /-- Token bucket per event code. 15 R397, 17 R411; reset full (no entry) -/
  buckets : List (Nat × Bucket) := []
  /-- Once-per-second limits of R260, R386, R387: last raising by code and item. reset none -/
  lastRaised : List ((Nat × Nat) × Nat) := []
deriving DecidableEq, Repr

structure Slot2 where
  seq : Nat
  crcOk : Bool
  payload : Bytes
deriving DecidableEq, Repr

structure Recorder where
  /-- Histogram bins, key 32 x histogram + bin. 512 x 32 x 32 bits; 16 R403; reset 0 (as delivered) -/
  bins : Sparse Nat := []
  /-- Extremes ever updated: minimum, its calendar word, maximum, its calendar word (F64 bits). 1,024 x 32 bytes; 16 R403; reset never updated -/
  extremes : List (Nat × (Word × Word × Word × Word)) := []
  /-- Lifetime counters. 256 x 64 bits; 16 R403; reset 0 -/
  counters : Sparse Nat := []
  /-- Suppressed counters by map position. 512 x 64 bits; 16 R403, 17 R411; reset 0 -/
  suppressed : Sparse Nat := []
  /-- Record writes since manufacture. 64 bits; 16 R403 (0x7000:07); reset 0 -/
  written : Nat := 0
  /-- Torn writes found since manufacture. 32 bits; 16 R403 (0x7000:08); reset 0 -/
  torn : Nat := 0
  /-- TORN of 0x7000:01. 1 bit; 16 R403; reset 0 -/
  tornFlag : Bool := false
  /-- FAULT of 0x7000:01. 1 bit; 16 R403, 17 R416; reset 0 -/
  fault : Bool := false
  /-- Code map in force; none: the default map of R412. 512 x 16 bytes; 17 R409; reset none -/
  map : Option (List Bytes) := none
  /-- Code map accepted and waiting for its boundary. 17 R410; reset none -/
  mapPending : Option (List Bytes × Nat) := none
  /-- Records changed since their last write: (region, record). 17 R414; reset none -/
  dirty : List (Nat × Nat) := []
  /-- Totals at the last raising of measurements 0x0007, 0x0009 and 0x000A, key 256 x code + item. 17 R408; reset 0 -/
  raised : Sparse Nat := []
  /-- POWER-UP (measurement 0x000B) has been raised since the supply came. 17 R408; reset 0 -/
  powerUpRaised : Bool := false
  /-- The two slots of every record ever written: (region, record), slot 0, slot 1. 2 MiB; 17 R413; reset none -/
  slots : List ((Nat × Nat) × (Option Slot2 × Option Slot2)) := []
deriving DecidableEq, Repr

/-! ### Time base (chapter 10) -/

structure PtpSlot where
  /-- Slot state 0x6001:0C. 3 bits; 10 R272; reset DISABLED -/
  state : SlotState := .disabled
  /-- Last offset sample in ns, accepted or not (0x6001:0D). 32 bits; 10 R271; reset 0 -/
  offset : Int := 0
  /-- Last accepted offset. 64 bits; 10 R276; reset none -/
  accepted : Option Int := none
  /-- Phase corrections the counter made since `accepted`. 64 bits; 10 R276; reset 0 -/
  corrected : Int := 0
  /-- Consecutive offsets within 500 ns. 10 R272; reset 0 -/
  run500 : Nat := 0
  /-- Consecutive offsets within 50 ns. 10 R274; reset 0 -/
  run50 : Nat := 0
  /-- Consecutive sync intervals with the offset below 0.5 us (R258). reset 0 -/
  runBelow : Nat := 0
  /-- Time of the last refused jump. 10 R274; reset none -/
  refusedAt : Option Nat := none
  /-- Time since which the slot is eligible. 10 R274; reset none -/
  eligibleSince : Option Nat := none
  /-- Time of the last valid offset sample. 10 R271; reset none -/
  sampleAt : Option Nat := none
  /-- Moved value of a REFUSED slot and the time since which it is steady. 10 R277; reset none -/
  moved : Option (Int × Nat) := none
  /-- Measured path delay in ns. 10 R271; reset none -/
  delay : Option Int := none
  /-- The best master's Announce and its port. 10 R267; reset none -/
  master : Option (Announce × Fin 11) := none
  /-- Time of the master's last Announce. 10 R267; reset 0 -/
  announceAt : Nat := 0
  /-- clockIdentity of the grandmaster (0x6001:0E). 64 bits; 10 R272; reset 0 -/
  gm : BitVec 64 := 0
  /-- Jumps refused (0x6001:0F [23:0]). 10 R276; reset 0 -/
  jumps : Nat := 0
  /-- correctionField overflow drops (0x6001:0F [31:24]). 8 bits; 10 R269; reset 0 -/
  tcDrops : Nat := 0
deriving DecidableEq, Repr

structure Residence where
  seqId : BitVec 16
  srcPort : BitVec 80
  port : Fin 11
  time : Nat
  residence : Nat
deriving DecidableEq, Repr

structure TimeBase where
  /-- Time counter in ns (TIME64). 64 bits; 10 R261, R262; reset 0 -/
  now : Nat := 0
  /-- Fraction of a ns. 32 bits; 10 R261; reset 0 -/
  frac : BitVec 32 := 0
  /-- Rate adjustment a in units of 0.01 ppb (0x6000:05). 10 R261; reset 0 -/
  rate : Int := 0
  /-- Phase-correcting part of the rate adjustment, in units of 0.01 ppb. 10 R261; reset 0 -/
  phase : Int := 0
  /-- First boundary of the new grid after a step; earlier boundaries are skipped. 10 R281; reset 0 -/
  gridFrom : Nat := 0
  /-- Follow_Ups dropped since power-up. 10 R270; reset 0 -/
  unmatched : Nat := 0
  /-- Time state (0x6000:01). 3 bits; 10 R273; reset FREE -/
  state : TState := .free
  /-- EVER_LOCKED: acquired since power-up. 1 bit; 10 R279; reset 0 -/
  acquired : Bool := false
  /-- Acquisition is armed (after power-up or a rebase). 10 R279; reset 1 -/
  armed : Bool := true
  /-- CALENDAR_VALID. 1 bit; 10 R282; reset 0 -/
  calendarValid : Bool := false
  /-- Selected slot (DOMAIN). 1 bit; 10 R274; reset 0 -/
  selected : Fin 2 := 0
  /-- PTP slot 0. 10 R272 -/
  slot0 : PtpSlot := {}
  /-- PTP slot 1. 10 R272 -/
  slot1 : PtpSlot := {}
  /-- The move of REFERENCE_MOVED not yet adopted. 10 R277; reset none -/
  refMoved : Option Int := none
  /-- ns still to slew (0x6000:0E). 64 bits; 10 R278; reset 0 -/
  slew : Int := 0
  /-- Start of the present HOLDOVER (0x6000:06). 10 R275; reset none -/
  holdoverSince : Option Nat := none
  /-- TIME_LOCKED. 1 bit; 10 R275; reset 0 -/
  timeLocked : Bool := false
  /-- UTC offset in effect (0x6000:08). 16 bits; 10 R282; reset 37 -/
  utcOffset : Int := 37
  /-- UTC offset received from a master since power-up. 10 R282; reset none -/
  utcReceived : Option Int := none
  /-- UTC_VALID. 1 bit; 10 R282; reset 0 -/
  utcValid : Bool := false
  /-- LEAP_61. 1 bit; 10 R283; reset 0 -/
  leap61 : Bool := false
  /-- LEAP_59. 1 bit; 10 R283; reset 0 -/
  leap59 : Bool := false
  /-- TAI second of the announced leap. 10 R283; reset 0 -/
  leapAt : Nat := 0
  /-- Steps since power-up (0x6000:0A). 32 bits; 10 R281; reset 0 -/
  steps : Nat := 0
  /-- Last step (0x6000:0B). 64 bits; 10 R281; reset 0 -/
  lastStep : Int := 0
  /-- Step waiting for its boundary: the offset to remove, and whether REBASE asked for it. 10 R279, R280; reset none -/
  stepPending : Option (Int × Bool) := none
  /-- REBASE result (0x6000:11). 8 bits; 10 R280; reset 0 -/
  cmdResult : Nat := 0
  /-- Servo in host-assisted mode (HOST_MODE). 1 bit; 10 R284; reset 0 -/
  hostServo : Bool := false
  /-- Servo mode written and waiting for the next offset sample. 10 R284; reset none -/
  servoPending : Option Bool := none
  /-- Time of the protocol cores' last rate update. 10 R284; reset 0 -/
  rateUpdateAt : Nat := 0
  /-- Pending residence times, at most 64. 10 R270; reset empty -/
  residences : List Residence := []
  /-- Offset of the selected slot with the largest magnitude since the last TIME-OFFSET (measurement 0x0006). 17 R408; reset none -/
  worst : Option Int := none
  /-- Strobe mark of a step for the fabric (R281). reset 0 -/
  strobeMark : Bool := false
deriving DecidableEq, Repr

/-! ### The application image, Buckets, releases and lanes (chapters 2 to 4) -/

structure SigEntry where
  /-- Entry number 0 to 16,383; its 128-bit directory entry and INIT. 03 R86, 04 R114 -/
  n : Nat
  entry : BitVec 128
  init : Word
deriving DecidableEq, Repr

structure TaskDef where
  task : Fin 16
  core : Fin 4
  priority : Nat
  splitLane : Fin 3
  fallback : Option (Fin 3)
  period : Nat
  phase : Nat
  entryFn : Nat
  bucketBudget : Nat
  worstSteps : Nat
  stepBudget : Nat
  localSize : Nat
  reads : List Nat
  writes : List Nat
deriving DecidableEq, Repr

structure BlockDef where
  id : BitVec 32
  kind : Nat
  task : Nat
  tag : Nat
  offset : Nat
  size : Nat
deriving DecidableEq, Repr

structure SegDef where
  task : Nat
  offset : Nat
  size : Nat
  init : Bytes
deriving DecidableEq, Repr

structure ParamDef where
  name : Bytes
  offset : Nat
  ty : Nat
  cls : Nat
  min : Word
  max : Word
deriving DecidableEq, Repr

/-- The sections of an application image, read from its container (R109 to R116). -/
structure AppImage where
  tbCode : Nat
  minEdition : BitVec 32
  rollback : Nat
  funcs : List (Nat × Nat)
  code : List (BitVec 32)
  params : List ParamDef
  constData : Bytes
  segs : List SegDef
  blocks : List BlockDef
  placement : BitVec 4
  maxStagger : Nat
  tasks : List TaskDef
  signals : List SigEntry
  hash : Bytes
  ident : BitVec 32
deriving DecidableEq, Repr

structure SealCtx where
  /-- CRC, low 32 bits of CYCLE, MODE, DEGRADED and FORCE_MASK of a seal context. 11 R300 -/
  crcOk : Bool
  cycle : BitVec 32
  mode : Nat
  degraded : Bool
  forced : List Nat
deriving DecidableEq, Repr

structure Image where
  /-- One sealed input image with its seal context. 16, 32 or 64 KiB; 03 R73, 11 R300 -/
  cycle : Nat
  bytes : Bytes
  ctx : SealCtx
deriving DecidableEq, Repr

structure LoopCount where
  /-- One LOOP's hidden count of taken back-branches: its word L, its target H, the count. 04 R104 -/
  word : Nat
  head : Nat
  count : Nat
deriving DecidableEq, Repr

structure Frame where
  /-- A suspended caller: its registers, function, return word and loop counts (R103, R104). -/
  regs : List Word
  fn : Nat
  ret : Nat
  loops : List LoopCount
deriving DecidableEq, Repr

structure Release where
  task : Fin 16
  /-- Cycle number of the opening boundary. 64 bits; 02 R38 -/
  opened : Nat
  /-- Cycle number of the closing boundary. 64 bits; 03 R69 -/
  closes : Nat
  /-- Function that runs. 04 R103 -/
  fn : Nat
  /-- Word index of the next instruction. 04 R103, R104 -/
  pc : Nat
  /-- Registers v0 to v63. 64 x 64 bits; 04 R94; zero at the start -/
  regs : List Word
  /-- Call stack, at most 32 frames in all. 04 R94 -/
  frames : List Frame
  /-- LOCAL scratch. up to 64 KiB; 04 R94; zero at the start -/
  scratch : Cells
  /-- Hidden LOOP counts. 04 R104 -/
  loops : List LoopCount
  /-- XPC steps counted. 32 bits; 03 R88, 04 R105 -/
  steps : Nat
  /-- Bucket bytes used. 03 R80 -/
  used : Nat
  /-- Bucket writes, oldest first. 02 R38, 03 R80 -/
  writes : List BWrite
  /-- Tally registers. 2 x 64 bits; 02 R37 -/
  tally : Tally
  /-- Input image of the release as its lane completed it. 03 R71, 11 R298 -/
  image : Bytes
  ctx : SealCtx
  /-- Read-set snapshot and own instance segment as they stood at the start. 03 R71 -/
  snap : Cells
  /-- Parameter version in force for the release. 05 R143 -/
  consts : Bytes
deriving DecidableEq, Repr

structure Half where
  /-- A filled Bucket half: entries, closure C1 and C2, voted Tally's lane copy. 16 KiB + 16 bytes; 03 R80, R82 -/
  task : Fin 16
  core : Fin 4
  closes : Nat
  writes : List BWrite
  c1 : Word
  c2 : Word
  tally : Tally
deriving DecidableEq, Repr

structure DirectOp where
  /-- An open direct access (R321): its address, size, data written or read, exclusive mark and issue time; `reached`:
  its target has answered. -/
  addr : Nat
  size : Nat
  data : Option Bytes
  exclusive : Bool
  time : Nat
  reached : Bool
deriving DecidableEq, Repr

structure Core where
  /-- Open releases, in the order R70 runs them. 03 R70; reset none -/
  releases : List Release := []
  /-- Event queue, at most 64 words. 12 R330; reset empty -/
  events : List Word := []
  /-- The direct access on which the core stalls. 12 R321; reset none -/
  stall : Option DirectOp := none
  /-- Address and size of the last exclusive read. 12 R323; reset none -/
  exclusive : Option (Nat × Nat) := none
deriving DecidableEq, Repr

structure LaneSt where
  /-- Lane state (0x2000:01 to 03). 2 bits; 02 R48; reset OUT -/
  state : LState := .out
  /-- Last cause (0x2000:09 to 0B). 16 bits; 02 R450; reset 0 -/
  cause : Code := 0
  /-- Cause the lane has reported while it withholds its Tallies. 02 R450; reset none -/
  reported : Option Code := none
  /-- Cycle at which the lane last entered IN. 02 R41, R51; reset none -/
  inSince : Option Nat := none
  /-- Times of the entries into REINTEGRATING (0x2000:05 to 07). 02 R52; reset none -/
  reintegrations : List Nat := []
  /-- Maintainer command waiting for the next boundary (R48). reset 0 -/
  commanded : Bool := false
  /-- The lane's reset after an exclusion is complete (R48). reset 0 -/
  resetDone : Bool := false
  /-- State copy complete and verified; waiting for the macro-cycle start (R48, R50). reset 0 -/
  verified : Bool := false
  /-- Start of the 250 ms of the state copy. 02 R50; reset none -/
  copySince : Option Nat := none
  /-- First macro-cycle start at which a rejoin is allowed (R61). reset 0 -/
  rejoinFrom : Nat := 0
  /-- Read copy of the committed state. 32 MiB; 02 R32, R50; reset 0 -/
  copy : Cells := []
  /-- Undrunk images, oldest first, at most 4. 03 R77; reset empty -/
  standpipe : List Image := []
  /-- Standpipe peak (0x2000:0C to 0E). 8 bits; 03 R79; reset 0 -/
  peak : Nat := 0
  /-- Release token held: cycle and instant of receipt. 02 R33; reset none -/
  token : Option (Nat × Nat) := none
  /-- Boundary of the last token received. 02 R33; reset none -/
  tokenFor : Option Nat := none
  /-- Instant at which the release of the present cycle was signalled. 02 R33; reset none -/
  signalled : Option Nat := none
  /-- CYCLE of the last drunk image. 03 R79; reset none -/
  drunk : Option Nat := none
  /-- Core 0. 02 R35 -/
  core0 : Core := {}
  /-- Core 1. 02 R35 -/
  core1 : Core := {}
  /-- Core 2. 02 R35 -/
  core2 : Core := {}
  /-- Core 3. 02 R35 -/
  core3 : Core := {}
  /-- Bucket halves closed and not yet poured or discarded. 32 x 16 KiB; 03 R80, R82; reset none -/
  halves : List Half := []
  /-- Parameter values, the new version and its boundary b while a set is pending. 05 R143; reset none -/
  params : Bytes := []
  paramsNew : Option (Bytes × Nat) := none
  /-- Translated native code. up to the lane's memories; 04 R118; reset none -/
  native : List Word := []
  /-- Native code of the image that an exchange brings, until it becomes active. up to the lane's memories; 05 R149; reset none -/
  nativeNew : List Word := []
  /-- Translation digest delivered for the vote. 128 bits; 04 R119; reset none -/
  digest : Option Tally := none
  /-- Application image loaded and checked by the lane. 04 R117; reset none -/
  image : Option AppImage := none
  /-- Vital table bytes the lane read and that were voted. 11 R288; reset none -/
  vitalTables : Bytes := []
  /-- Scrub Tally formed at the boundary. 128 bits; 02 R54; reset none -/
  scrub : Option Tally := none
deriving DecidableEq, Repr

structure Window where
  /-- A vote window: one release of one task in a vote stream, with the lanes IN at its opening. 02 R35, R41 -/
  core : Fin 4
  task : Fin 16
  opened : Nat
  closes : Nat
  lanes : List Lane
deriving DecidableEq, Repr

structure Kept where
  /-- A Tally message kept by the Reckoner. 02 R40 -/
  lane : Lane
  core : Fin 4
  task : Fin 16
  cyc : BitVec 16
  tally : Tally
deriving DecidableEq, Repr

structure Verdict where
  /-- A decided window to pour: its agreeing lanes in rotation order and the voted Tally. 02 R42 -/
  win : Window
  agree : List Lane
  tally : Tally
deriving DecidableEq, Repr

structure Stopped where
  /-- A release that a lane stopped or abandoned: its cause, and IMM of a HALT. 03 R90, 04 R106 -/
  lane : Lane
  task : Fin 16
  closes : Nat
  cause : Code
  imm : Nat
deriving DecidableEq, Repr

structure Reckoner where
  /-- Open vote windows. at most 16; 02 R36; reset none -/
  windows : List Window := []
  /-- Kept Tally messages. 02 R40; reset none -/
  kept : List Kept := []
  /-- Stop and abandon causes that lanes report per release. 03 R90; reset none -/
  stops : List Stopped := []
  /-- Verdicts of the last deadline, in pour order. 02 R43; reset none -/
  verdicts : List Verdict := []
  /-- Split Buckets to pour: lane, core, task. 02 R43; reset none -/
  splits : List (Lane × Fin 4 × Fin 16) := []
  /-- A pour of the present cycle is due. reset 0 -/
  pourDue : Bool := false
  /-- Lanes whose pour failed its check this deadline. 02 R45; reset none -/
  pourFailed : List Lane := []
  /-- A vital window at the last deadline was SPLIT or an overrun, as reported to the fabric. 06 R173; reset 0 -/
  badVerdict : Bool := false
  /-- UNANIMOUS task windows (0x2001:01). 64 bits; 02; reset 0 -/
  unanimous : Nat := 0
  /-- MAJORITY task windows (0x2001:02). 64 bits; 02; reset 0 -/
  majority : Nat := 0
  /-- LATE task windows (0x2001:03). 64 bits; 02; reset 0 -/
  late : Nat := 0
  /-- SPLIT task windows, overruns included (0x2001:04). 64 bits; 02; reset 0 -/
  split : Nat := 0
  /-- Scrub windows voted (0x2001:05). 64 bits; 02; reset 0 -/
  scrubs : Nat := 0
  /-- Scrub mismatches (0x2001:06). 64 bits; 02; reset 0 -/
  mismatches : Nat := 0
  /-- Pour check failures (0x2001:07). 64 bits; 02; reset 0 -/
  pourFails : Nat := 0
  /-- Pour restarts that succeeded (0x2001:08). 64 bits; 02; reset 0 -/
  restarts : Nat := 0
  /-- Self-test windows evaluated (0x2001:09). 64 bits; 02 R57; reset 0 -/
  selfTests : Nat := 0
  /-- Dissents of lanes A, B and C (0x2001:0A to 0C). 3 x 64 bits; 02; reset 0 -/
  dissA : Nat := 0
  dissB : Nat := 0
  dissC : Nat := 0
deriving DecidableEq, Repr

structure TaskSt where
  /-- FAULTED on lane A, B, C (0x2100+n:08 to 0A). 03 R91; reset 0 -/
  faultA : Bool := false
  faultB : Bool := false
  faultC : Bool := false
  /-- A restart of a FAULTED lane's task waits for the period boundary. 03 R91; reset 0 -/
  restartA : Bool := false
  restartB : Bool := false
  restartC : Bool := false
  /-- Lane on which the split task runs (its own or its fallback lane); none: no lane. 02 R64; reset none -/
  onLane : Option Lane := none
  /-- Signals hold their safe values until the first release is poured. 02 R64; reset 0 -/
  safeHeld : Bool := false
  /-- STEPS of the last poured release (0x2100+n:0B). 32 bits; 03; reset 0 -/
  lastSteps : Nat := 0
  /-- Largest poured STEPS (0x2100+n:0C). 32 bits; 03; reset 0 -/
  peakSteps : Nat := 0
  /-- FAULTED entries and overruns (0x2100+n:0D). 32 bits; 03; reset 0 -/
  faults : Nat := 0
  /-- Largest STEPS x 1000 / budget of the releases poured since the last TASK-LOAD (measurement 0x0005). 17 R408; reset none -/
  load : Option Nat := none
deriving DecidableEq, Repr

structure HostOrder where
  /-- An accepted host write to a signal and its boundary; no request stands behind a mirrored one. 15 R391, R393; 13 R352 -/
  entry : Nat
  value : Word
  boundary : Nat
  via : Option Via
  level : Nat
  client : Nat
deriving DecidableEq, Repr

structure Cistern where
  /-- Committed state store. 32 MiB; 03 R83; reset 0 -/
  mem : Cells := []
  /-- Cycle of the last complete pour. 13 R346; reset 0 -/
  lastPour : Nat := 0
  /-- The pour of the present cycle is complete. 01 R21; reset 0 -/
  poured : Bool := true
  /-- Accepted host writes to signals that wait for their pour. 15 R391; reset none -/
  orders : List HostOrder := []
  /-- Answers of accepted host writes to signals, given at the boundary at which they take effect. 15 R391, R392; reset none -/
  answers : List (Via × BitVec 16) := []
  /-- Unforced values of signals under a SIGNAL force that a request reads. 06 R171; reset none -/
  unforced : Sparse Word := []
  /-- Tasks whose releases the last pour committed (for R293). 11 R293; reset none -/
  pouredTasks : List (Fin 16) := []
  /-- Vote-stream and split windows poured last: core, task, lane, Tally (for the delta of R351). 13 R348; reset none -/
  pouredTallies : List (Fin 4 × Fin 16 × Option Lane × Tally) := []
  /-- Retained copies A and B: cycle, sequence, image identifier, values, CRC state. 2 x 69,648 bytes; 03 R92, 17 R413; reset none -/
  retA : Option (Nat × Nat × BitVec 32 × Bytes × Bool) := none
  retB : Option (Nat × Nat × BitVec 32 × Bytes × Bool) := none
  /-- Copy that the next snapshot writes: B when set. 03 R92; reset A -/
  retNextB : Bool := false
  /-- Last snapshot (0x1100:21). 64 bits; 03 R92; reset 0 -/
  lastSnapshot : Nat := 0
deriving DecidableEq, Repr

/-! ### Module control (chapters 1, 5, 14) -/

inductive FoState where | free | pending | active | refused
deriving DecidableEq, Repr, Inhabited

structure Force where
  /-- Kind (0x2200+n:01). 8 bits; 05 R133; reset 0 -/
  kind : BitVec 8 := 0
  /-- Target (0x2200+n:02). 16 bits; 05; reset 0 -/
  target : BitVec 16 := 0
  /-- Value (0x2200+n:03). 64 bits; 05; reset 0 -/
  value : Word := 0
  /-- Value in force at the last effect boundary, and a written value with its boundary. 05 R135, R139; reset 0 -/
  inForce : Word := 0
  valueFrom : Option (Word × Nat) := none
  /-- State (0x2200+n:05). 8 bits; 05 R140; reset FREE -/
  state : FoState := .free
  /-- The PENDING state follows a REMOVE. 05 R140; reset 0 -/
  removing : Bool := false
  /-- Effective cycle (0x2200+n:06). 64 bits; 05; reset 0 -/
  effective : Nat := 0
  /-- Source (0x2200+n:07). 8 bits; 05; reset 0 -/
  source : BitVec 8 := 0
deriving DecidableEq, Repr

structure ChangeSet where
  /-- Staged entries (0x2300:01). up to 64 x 16 bytes; 05 R141; reset empty -/
  staged : Bytes := []
  /-- Target cycle (0x2300:02). 64 bits; 05 R142; reset 0 -/
  target : Nat := 0
  /-- State (0x2300:04): 0 EMPTY to 4 REFUSED. 8 bits; 05; reset 0 -/
  state : Nat := 0
  /-- Reason (0x2300:05). 8 bits; 05; reset 0 -/
  reason : Nat := 0
  /-- Effective cycle (0x2300:06). 64 bits; 05; reset 0 -/
  effective : Nat := 0
  /-- Sets applied (0x2300:07). 32 bits; 05; reset 0 -/
  applied : Nat := 0
  /-- Entries of the PENDING set. 05 R142; reset none -/
  pending : List (Nat × Word) := []
  /-- Force entries for which CHANGE-ON-FORCED was raised for the last set. 05 R146; reset none -/
  onForced : List Nat := []
  /-- Stored parameter values with their image identifier. 05 R147; reset none -/
  stored : Option (BitVec 32 × Sparse Word) := none
deriving DecidableEq, Repr

structure DebugWrite where
  /-- A logged variable write of the debugger: core, task, opening cycle, step count, write, lanes that made it. 02 R66 -/
  core : Fin 4
  task : Fin 16
  opened : Nat
  steps : Nat
  write : BWrite
  made : List Lane
deriving DecidableEq, Repr

structure PendW where
  /-- An accepted write that waits for its boundary. 15 R381, R392 -/
  boundary : Nat
  key : Nat
  data : Bytes
  via : Via
  level : Nat
  client : Nat
deriving DecidableEq, Repr

structure Ctl where
  /-- Module mode (0x1100:01). 4 bits; 05 R121; reset OFF -/
  mode : Mode := .off
  /-- Entry cycle (0x1100:02). 64 bits; 05; reset 0 -/
  entryCycle : Nat := 0
  /-- Last FAULT-STOP cause (0x1100:03). 16 bits; 05 R129; reset 0 -/
  cause : Code := 0
  /-- Warm restart times (0x1100:04). 05 R130; reset none -/
  warmTimes : List Nat := []
  /-- WARM of 0x1100:05. 1 bit; 05 R131; reset 0 -/
  warm : Bool := false
  /-- A warm restart is in progress in FAULT-STOP or BOOT, and lanes checked so far. 05 R131; reset none -/
  warmRestart : Option Nat := none
  /-- Warm restarts are denied until a cold restart. 14 R373; reset 0 -/
  warmDenied : Bool := false
  /-- HOLD images dropped (0x1100:06). 32 bits; 05 R127; reset 0 -/
  holdDropped : Nat := 0
  /-- Accepted mode command with its effect cycle. 05 R121; reset none -/
  pending : Option (ModeCmd × Nat) := none
  /-- Result (0x1101:02). 8 bits; 05 R122; reset 0 -/
  result : Nat := 0
  /-- Effective cycle (0x1101:03). 64 bits; 05; reset 0 -/
  effective : Nat := 0
  /-- Boundary-timed writes that wait. 15 R381; reset none -/
  waiting : List PendW := []
  /-- Current cycle number (0x1100:11). 64 bits; 01 R23; reset 0 -/
  cycle : Nat := 0
  /-- T_b in force as TB_CODE. 2 bits; 01 R22; reset 1 (1 ms) -/
  tbCode : Nat := 1
  /-- Start stage (0x1100:51), 0 to 4. 8 bits; 14 R366; reset 0 -/
  stage : Nat := 0
  /-- Stage ends in ms (0x1100:52 to 55). 4 x 32 bits; 14 R366; reset 0xFFFFFFFF (not reached) -/
  stageEnds : List Nat := [4294967295, 4294967295, 4294967295, 4294967295]
  /-- Instant from which the stage deadlines count. 64 bits; 14 R362; reset 0 -/
  startAt : Nat := 0
  /-- X1 as last measured (0x1100:50). 16 bits; 14 R368; reset 0 -/
  x1 : BitVec 16 := 0
  /-- Up to 100 X1 samples, the newest first, for SUPPLY (measurement 0x0002). 17 R408; reset none -/
  x1Samples : List Nat := []
  /-- The converter runs from the hold-up store. 14 R367; reset 0 -/
  onStore : Bool := false
  /-- Instant at which the store was exhausted. 14 R369; reset none -/
  exhausted : Option Nat := none
  /-- Slot ID and pair-role strap as read at stage 1. 5 + 1 bits; 19 R432; reset 0 -/
  slotId : Fin 32 := 0
  prs : Bool := false
  /-- Active and verified application image; none: no image. 04 R117; reset none -/
  image : Option AppImage := none
  /-- Last rejection (0x1100:30). 8 bits; 04 R117; reset 0 -/
  rejection : Nat := 0
  /-- Voted translation digest (0x1100:31). 128 bits; 04 R120; reset 0 -/
  digest : Tally := { p := 0, q := 0 }
  /-- Active placement (0x2003:01). 4 bits; 02 R62; reset 0b0111 -/
  placement : BitVec 4 := 7
  /-- Requested placement (0x2003:02). 8 bits; 02 R63; reset 7 -/
  requested : BitVec 8 := 7
  /-- Hand-over state (0x2003:03): 0 IDLE, 1 QUIESCE, 2 MOVE. 8 bits; 02 R63; reset 0 -/
  moveState : Nat := 0
  /-- Indices that the hand-over changes, during MOVE. 4 bits; 02 R63; reset 0 -/
  moved : BitVec 4 := 0
  /-- Boundary m1 of the placement hand-over. 02 R63; reset 0 -/
  moveAt : Nat := 0
  /-- Stagger in use (0x2002:03). 16 bits; 02 R34; reset 30 -/
  stagger : Nat := 30
  /-- Last release offsets (0x2002:02). 32 bits; 02; reset 0xFFFFFFFF (DESIGN CHOICE, no lane IN) -/
  offsets : BitVec 32 := 0xFFFFFFFF
  /-- Token timeouts (0x2000:0F). 32 bits; 03 R78; reset 0 -/
  tokenTimeouts : Nat := 0
  /-- Debugger attached (HOLD of 0x2000:10). 1 bit; 02 R65; reset 0 -/
  debugger : Bool := false
  /-- Debug log (0x2000:20): action, step count, cycle. 16 bytes each; 02 R66; reset empty -/
  debugLog : List (BitVec 32 × BitVec 32 × Nat) := []
  /-- Breakpoints, run and step budget replayed in all lanes. 02 R66; reset none -/
  breakpoints : List Nat := []
  debugRun : Option Nat := none
  /-- Logged variable writes: core, task, opening cycle, step count, the write, and the lanes that made it. 02 R66; reset none -/
  debugWrites : List DebugWrite := []
  /-- Start of the program exchange in progress. 05 R149; reset none -/
  exchange : Option Nat := none
  /-- Exchange report (0x1100:40). 8 bytes per instance; 05 R149; reset empty -/
  report : List (BitVec 32 × Nat × Nat × Nat) := []
  /-- LED states as the Commons or the fabric drives them: the fabric has taken over RUN, VOTE, PAIR, TIME, FORCE. 14 R376; reset 0 -/
  ledFallback : Bool := false
  /-- Force table. 256 entries; 05 R133; reset all FREE -/
  forces : List (Nat × Force) := []
  /-- Parameter change sets. 05 R141 -/
  change : ChangeSet := {}
  /-- Task objects 0x2100 to 0x210F. 16 entries; 03 -/
  tasks : List TaskSt := List.replicate 16 {}
  /-- Sealed image of the present cycle, not yet superseded. 03 R73; reset none -/
  sealed : Option Image := none
  /-- Instant at which the image of the present cycle was sealed. 03 R33; reset 0 -/
  sealAt : Nat := 0
  /-- FABRIC records as latched at the boundary. 16 x 32 bits; 06 R183; reset none -/
  fabLatch : List (BitVec 32) := []
  /-- The module's own image of the present cycle; in STANDBY it waits beside the forwarded one. 13 R349; reset none -/
  ownImage : Option Image := none
  /-- The image of the present cycle is in every IN lane's Standpipe. 01 R20; reset 0 -/
  imageReady : Bool := false
deriving DecidableEq, Repr

/-! ### The fabric (chapter 6) -/

structure Inst where
  /-- Instance state. 2 bits; 06 R162; reset OFF -/
  state : FState := .off
  /-- Cause of the last entry into TRIPPED or LOCKED. 8 bits; 06 R183; reset 0 -/
  cause : BitVec 8 := 0
  /-- Restart owed. 1 bit; 06 R162; reset 0 -/
  owed : Bool := false
  /-- Request bit in effect. 1 bit; 06 R171; reset 0 -/
  request : Bool := false
  /-- Inputs IN1 to IN5 and RST1, RST2 as the fabric sees them. 7 bits; 06 R183; reset 0 -/
  inputs : BitVec 5 := 0
  rst : BitVec 2 := 0
  /-- Samples for which pair 1 and pair 2 have disagreed. 06 R163; reset 0 -/
  disagree1 : Nat := 0
  disagree2 : Nat := 0
  /-- Samples for which the pair has been closed. 06 R164; reset 0 -/
  closedFor : Nat := 0
  /-- Samples for which OSSD1 and OSSD2 have read off. 06 R166; reset 0 -/
  off1 : Nat := 0
  off2 : Nat := 0
  /-- Samples for which each pair has held both contacts (DSD), and the held flags. 06 R167; reset 0 -/
  handleHeld : Bool := false
  pedalHeld : Bool := false
  /-- Vigilance count v in samples. 06 R167; reset 0 -/
  v : Nat := 0
  /-- Minimum trip time tt in samples. 06 R167; reset 0 -/
  tt : Nat := 0
  /-- WARNING. 1 bit; 06 R167; reset 0 -/
  warn : Bool := false
deriving DecidableEq, Repr

structure MapInst where
  type : Nat
  options : BitVec 8
  request : Nat
  ins : List Nat
  rst : List Nat
  outs : List Nat
  warn : Nat
  outkind : BitVec 8
  t1 : Nat
  t2 : Nat
  t3 : Nat
  t4 : Nat
deriving DecidableEq, Repr

structure SafetyMap where
  flags : BitVec 8
  ack1 : Nat
  ack2 : Nat
  testInterval : Nat
  testPulse : Nat
  version : BitVec 32
  vital : List Nat
  insts : List MapInst
deriving DecidableEq, Repr

structure MapCopy where
  seq : BitVec 32
  crcOk : Bool
  bytes : Bytes
deriving DecidableEq, Repr

structure Fabric where
  /-- The fabric rail is up. 14 R369; reset 0 -/
  powered : Bool := false
  /-- LOCKOUT cause (0x4000:07), 0 for none. 8 bits; 06 R179; reset 0 -/
  lockout : Nat := 0
  /-- Ferroelectric memory: Safety Map copies A and B. 32 KiB; 06 R155; reset the factory map (DESIGN CHOICE seq 1) -/
  copyA : MapCopy := { seq := 1, crcOk := true, bytes := [] }
  copyB : MapCopy := { seq := 1, crcOk := true, bytes := [] }
  /-- Working copy of the map, its bytes and decoded form. 06 R155; reset none -/
  map : Option (Bytes × SafetyMap) := none
  /-- Staged map with its write time and echo time; writer session. 06 R160; reset none -/
  staged : Option (Bytes × Nat × Via) := none
  /-- Echoed and matched map that is being written. 06 R160; reset none -/
  writing : Option Bytes := none
  /-- Write state (0x4101:04). 8 bits; 06 R160; reset 0 -/
  writeState : Nat := 0
  /-- Reason (0x4101:05). 8 bits; 06 R159; reset 0 -/
  reason : Nat := 0
  /-- Instances 0 to 15. 06 R162; reset OFF -/
  insts : List Inst := List.replicate 16 {}
  /-- Request bindings that failed R161, one bit per instance. 16 bits; 06 R161; reset 0 -/
  badBinding : BitVec 16 := 0
  /-- Latest valid request frame. 128 bits; 06 R170; reset none -/
  frame : Option (BitVec 128) := none
  /-- Request frames that wait for their boundary b: REQUEST bits and low 32 bits of CYCLE. 06 R171; reset none -/
  frameNext : Option (BitVec 16 × BitVec 32) := none
  /-- Next CYCLE expected, consecutive failures, and supervision fired (R172). reset none, 0, 0 -/
  expect : Option (BitVec 32) := none
  missed : Nat := 0
  fired : Bool := false
  /-- Held open since FAULT-STOP, STOP notice or verdict until a BOOT frame. 06 R169; reset 0 -/
  heldOpen : Bool := false
  /-- Groups stopped under R174 or R175, with the channels that hold them. 06 R173; reset none -/
  stopped : List (Fin 8 × Nat) := []
  /-- Keepalive running, one bit per group. 8 bits; 06 R173; reset 0 -/
  keepalive : BitVec 8 := 0
  /-- Fabric link of each group valid, and samples for which it has been valid. 8 bits; 06 R154, R177; reset 0 -/
  linkOk : BitVec 8 := 0
  linkFor : List Nat := List.replicate 8 0
  /-- Last SEQ of each fabric link. 8 x 8 bits; 07 R190; reset none -/
  linkSeq : List (Option (BitVec 8)) := List.replicate 8 none
  /-- Time of the last valid frame of each fabric link. 06 R154; reset 0 -/
  linkAt : List Nat := List.replicate 8 0
  /-- Tap states and low-side and high-side read-back of the latest frames. 8 x 48 bits; 07 R190; reset 0 -/
  taps : List (BitVec 16) := List.replicate 8 0
  lowRb : List (BitVec 16) := List.replicate 8 0
  highRb : List (BitVec 16) := List.replicate 8 0
  /-- Samples for which each channel's low side has read open, for R177, and closed against its command, for R175. reset 0 -/
  openFor : Sparse Nat := []
  stuckFor : Sparse Nat := []
  /-- Low-side and both-switch commands sent to each group. 8 x 32 bits; 06 R168, 07 R190; reset open -/
  lowCmd : List (BitVec 16) := List.replicate 8 0
  highCmd : List (BitVec 16) := List.replicate 8 0
  /-- Channel under a test pulse and its start. 06 R174; reset none -/
  pulse : Option (Nat × Nat) := none
  /-- Channel and end of the last test pulse. 06 R174; reset none -/
  pulseEnd : Option (Nat × Nat) := none
  /-- Test pulses since power-up (0x4000:03). 64 bits; 06; reset 0 -/
  tests : Nat := 0
  /-- Test failures (0x4000:04). 32 bits; 06; reset 0 -/
  testFails : Nat := 0
  /-- Valid reset pulses (0x4000:05). 32 bits; 06 R176; reset 0 -/
  resets : Nat := 0
  /-- Invalid pulses (0x4000:06). 32 bits; 06 R176; reset 0 -/
  invalid : Nat := 0
  /-- Ticks and module time of the present strobe run, and the skip mark of a step. 06 R151, 10 R281; reset 0 -/
  runTicks : Nat := 0
  runStart : Option Nat := none
  /-- Reference deviation (0x4000:02) in 0.01 %. 16 bits; 06 R151; reset 0 -/
  deviation : Int := 0
  /-- Anti-rollback counter (0x8000:0A), two copies kept equal. 32 bits; 18 R425; reset 0 -/
  rollback : BitVec 32 := 0
  /-- First valid frame since power-up has been seen (R172, R376). reset 0 -/
  seenFrame : Bool := false
deriving DecidableEq, Repr

/-! ### Field groups and channels (chapters 7 and 8) -/

structure Chan where
  /-- Function code in force. 8 bits; 07 R191; reset 0x00 OFF -/
  func : BitVec 8 := 0
  /-- Safety Map role as received at stage 0: none, IN-LOOP 0x11, 0x21 or 0x22. 06 R153; reset none -/
  role : Option (BitVec 8) := none
  /-- Samples since the present function took effect. 07 R200; reset 0 -/
  age : Nat := 0
  /-- Last 127 codes, newest first. 127 x 12 bits; 07 R194; reset none -/
  codes : List (BitVec 12) := []
  /-- VALUE and level of the latest sample. 16 + 1 bits; 07 R194; reset 0 -/
  value : Nat := 0
  level : Bool := false
  /-- Filtered state. 1 bit; 07 R194; reset 0 -/
  state : Bool := false
  /-- Integrating counter, or samples of the present debounce span. 12 bits; 07 R198, R199; reset 0 -/
  count : Nat := 0
  /-- Fabric tap: level, counter and state. 06 R152; reset 0 -/
  tapLevel : Bool := false
  tapCount : Nat := 0
  tapState : Bool := false
  /-- Raw level, the length of its present alternation run, and samples since such a run. 07 R207; reset 0 -/
  raw : Bool := false
  rawPrev : Bool := false
  altRun : Nat := 0
  altQuiet : Nat := 0
  overRate : Bool := false
  /-- Samples for which the state has been 1. 07 R205; reset 0 -/
  onFor : Nat := 0
  maxOn : Bool := false
  /-- Rejected transitions of the present and of the last complete window (0x3100+i:0A). 16 bits; 07 R206; reset 0 -/
  rejected : Nat := 0
  rejectedLast : Nat := 0
  chatter : Bool := false
  /-- COUNT. 32 bits, wrapping; 07 R208; reset 0 -/
  edges : BitVec 32 := 0
  /-- Confirmed level, and stamps of counted edges within the gate, newest first. 07 R208, R209; reset none -/
  edgeLevel : Bool := false
  edgeSeen : Nat := 0
  stamps : List Nat := []
  /-- Rising or falling edge confirmed at the present sample. 07 R187; reset 0 -/
  rise : Bool := false
  fall : Bool := false
  /-- State and VALUE latched at the boundary. 07 R200; reset 0 -/
  latched : BitVec 32 := 0
  /-- Processor-path command (command register). 1 bit; 08 R215; reset 0 -/
  cmd : Bool := false
  /-- High-side and low-side read-back. 2 bits; 08 R218; reset 0 -/
  highRb : Bool := false
  lowRb : Bool := false
  /-- Load current samples, newest first: 40,000 (1 s). 08 R214, R218; reset none -/
  current : List Nat := []
  /-- Samples above the trip threshold, above 1.5 A, at the 2.5 A limit. 08 R221, R222; reset 0 -/
  overFor : Nat := 0
  inrushFor : Nat := 0
  limitFor : Nat := 0
  /-- OVERCURRENT latched; SHORT latched. 08 R221, R222; reset 0 -/
  tripped : Bool := false
  short : Bool := false
  /-- DEMAG_OVER and the end of the hold. 08 R219; reset 0 -/
  demagOver : Bool := false
  heldUntil : Option Nat := none
  /-- INHIBIT. 1 bit; 08 R220; reset 0 -/
  inhibit : Bool := false
  /-- STUCK_HIGH, STUCK_LOW, the samples for which each switch reads closed or open against its command. 08 R226; reset 0 -/
  stuckHigh : Bool := false
  stuckLow : Bool := false
  stuckHighFor : Nat := 0
  stuckLowFor : Nat := 0
  openAgainst : Nat := 0
  /-- OPEN_LOAD and the samples of low current, of current, of bias voltage. 08 R224, R225; reset 0 -/
  openLoad : Bool := false
  lowCurFor : Nat := 0
  curFor : Nat := 0
  biasFor : Nat := 0
  biasOff : Nat := 0
  /-- Samples for which the fabric has held an OUT-FABRIC-ONLY channel open (R223). reset 0 -/
  fabOpenFor : Nat := 0
  /-- Last clamp energy (0x3100+i:16), trips (:17), switch cycles (:18). 16 + 32 + 32 bits; 08; reset 0 -/
  clamp : Nat := 0
  trips : Nat := 0
  cycles : Nat := 0
  /-- Wetting sink now drawn in mA, and samples since the last pulse. 07 R211; reset 0 -/
  wetting : Nat := 0
  wetTimer : Nat := 0
deriving DecidableEq, Repr

structure OutFrame where
  apply : Nat
  cmd : BitVec 16
  cycle : BitVec 16
deriving DecidableEq, Repr

structure Group where
  /-- The group's converter is in regulation. 07 R185; reset 0 -/
  up : Bool := false
  /-- Sample number of the latest sample. 07 R187; reset 0 -/
  sampleNo : Nat := 0
  /-- Last 64 VF codes, newest first. 07 R197; reset none -/
  vfCodes : List (BitVec 12) := []
  /-- Measured VF in 0.01 V. 16 bits; 07 R197; reset 0 -/
  vf : Nat := 0
  /-- VF_LOW. 1 bit; 08 R232; reset 0 -/
  vfLow : Bool := false
  /-- The 16 channels. reset OFF -/
  chans : List Chan := List.replicate 16 {}
  /-- Active bank is B. 1 bit; 07 R203; reset A -/
  bankB : Bool := false
  /-- Banks A and B as the group holds them. 2 x 16 x 128 bits; 07 R201; reset the reset entry -/
  entriesA : List (BitVec 128) := List.replicate 16 0x0100800000000258012C004000000000#128
  entriesB : List (BitVec 128) := List.replicate 16 0x0100800000000258012C004000000000#128
  /-- The stage 0 settings of R185 are in force. reset 1 -/
  stage0 : Bool := true
  /-- Pending output frames, at most 2. 08 R216; reset none -/
  pending : List OutFrame := []
  /-- Time of the last valid output frame; none before the first. 08 R227; reset none -/
  frameAt : Option Nat := none
  /-- Silence found and not yet resumed. 08 R227; reset 0 -/
  silent : Bool := false
  /-- DRIVE flag. 1 bit; 13 R342; reset 0 -/
  drive : Bool := false
  /-- Pumped rail at or above hold level (0x3000+g:12). 8 bits; 08 R230, R231; reset DOWN -/
  rail : Bool := false
  /-- Low-side and both-switch commands received from the fabric. 2 x 16 bits; 07 R190; reset open -/
  lowCmd : BitVec 16 := 0
  highCmd : BitVec 16 := 0
  /-- Time of the last valid fabric-to-group frame. 06 R154; reset none -/
  fabricAt : Option Nat := none
  /-- SEQ last sent on the fabric link. 8 bits; 07 R190; reset 0 -/
  seq : BitVec 8 := 0
  /-- State frames missed (:06), link CRC errors (:07), fabric link errors (:08). 3 x 32 bits; 07; reset 0 -/
  missed : Nat := 0
  crcErrors : Nat := 0
  fabricErrors : Nat := 0
  /-- Output frames discarded (:13), silences (:17). 2 x 32 bits; 08; reset 0 -/
  discarded : Nat := 0
  silences : Nat := 0
  /-- Clamp energies of the last second: time and mJ. 08 R220; reset none -/
  clampWindow : List (Nat × Nat) := []
  /-- Switch-on refused under R220 (:16). 1 bit; 08; reset 0 -/
  inhibit : Bool := false
  /-- Edge records queued for an edge frame: channel, rising, sample number. 07 R187; reset none -/
  edgeQueue : List (Fin 16 × Bool × Nat) := []
  /-- Swap waiting: sample number at which it takes effect. 07 R203; reset none -/
  swapAt : Option Nat := none
  /-- Acknowledgement waiting to reach the Commons. 07 R186; reset none -/
  ack : Option Bool := none
  /-- Commons side: a valid state frame for the present boundary, its content, link lost. 07 R187, R189; reset none -/
  frameSeen : Bool := false
  fieldWords : List (BitVec 32) := List.replicate 16 0
  countWords : List Word := List.replicate 16 0
  gstat : BitVec 8 := 0
  vfSeen : BitVec 16 := 0
  linkLost : Bool := false
  everSeen : Bool := false
deriving DecidableEq, Repr

/-- A field edge that waits for the image: channel, rising, stamp in ns. 03 R73 -/
structure EdgeRec where
  chan : Fin 128
  rising : Bool
  stamp : Nat
deriving DecidableEq, Repr

structure FieldIo where
  /-- Groups G1 to G8. reset as Group -/
  groups : List Group := List.replicate 8 {}
  /-- Edges received by the Commons and not yet in an image. 03 R73; reset none -/
  edges : List EdgeRec := []
  /-- Edges of the next image not recorded (EDGES_DROPPED). 16 bits; 03 R74; reset 0 -/
  dropped : Nat := 0
  /-- Swap cycle (0x3220:0A), Swap state (:0B), groups named and their boundary. 64 + 8 bits; 07 R203; reset 0 -/
  swapCycle : Nat := 0
  swapState : Nat := 0
  swapGroups : BitVec 8 := 0
  swapAt : Nat := 0
deriving DecidableEq, Repr

/-! ### Consist switch (chapter 9) -/

structure QFrame where
  f : EthFrame
  cls : Fin 8
  stamp : Nat
  isLocal : Bool
  stream : Option Nat
  inPort : Fin 11
deriving DecidableEq, Repr

structure Port where
  /-- Link state (0x5000:16p+0). 8 bits; 09; reset DOWN -/
  link : Fin 4 := 0
  /-- Egress queues, oldest first. 32 KiB + 256 KiB; 09 R239; reset empty -/
  queue : List QFrame := []
  /-- Frames received, transmitted, ingress drops, egress drops. 4 x 64 bits; 09; reset 0 -/
  rx : Nat := 0
  tx : Nat := 0
  inDrops : Nat := 0
  outDrops : Nat := 0
  /-- Policer buckets of classes 0 to 5 and of class 6, in bit-ns credit. 09 R260; reset full -/
  policer : Option Bucket := none
  policer6 : Option Bucket := none
  /-- New addresses learnt in the present second. 09 R241; reset 0 -/
  learnt : Nat := 0
  learntSec : Nat := 0
  /-- Frame on the wire now: its end and the end of its window. 09 R257; reset none -/
  onWire : Option (QFrame × Nat × Nat) := none
  /-- Time of the last supervision frame. 09 R244; reset none -/
  supervisionAt : Option Nat := none
  degraded : Bool := false
  /-- Measured link delay in ns for the P2P profiles. 10 R269; reset 0 -/
  linkDelay : Int := 0
deriving DecidableEq, Repr

structure Matrix where
  /-- An activated cycle matrix. 09 R245 to R247 -/
  m : Nat
  tbCode : Nat
  streams : List Bytes
  windows : List (List Word)
deriving DecidableEq, Repr

structure DupEntry where
  /-- A frame of a redundant pair that the module has seen: pair, source, sequence, time and port of its first copy, and
  whether the other port brought its copy too. 09 R243 -/
  pair : Fin 2
  src : BitVec 48
  seq : BitVec 16
  time : Nat
  port : Fin 11
  both : Bool
deriving DecidableEq, Repr

structure SwitchSt where
  /-- Ports p = 1 to 10 (index p; index 0 unused). 09 R235 -/
  ports : List Port := List.replicate 11 {}
  /-- MAC table: address, VID, port bits, static, time last seen. 4,096 entries; 09 R241; reset empty -/
  macs : List (BitVec 48 × BitVec 12 × Nat × Bool × Nat) := []
  /-- Matrix in force; none: the open matrix. 09 R247; reset none -/
  matrix : Option Matrix := none
  /-- Matrix state (0x5100:09), refusal reason (:0A), digest (:04). 8 + 8 + 32 bits; 09; reset 0 -/
  matrixState : Nat := 0
  matrixReason : Nat := 0
  digest : BitVec 32 := 0
  /-- Guardians' own copy of the window tables and of LOCAL and MAX_LEN. 7 tables; 09 R256; reset none -/
  guardCopy : List (List Word) := []
  guardStreams : List Bytes := []
  /-- Closing causes (0x5200:03). 4 bits; 09 R258; reset 0x01 -/
  causes : BitVec 8 := 1
  /-- Closures (:04), frames withheld (:05), frames cut (:06). 32 + 64 + 32 bits; 09; reset 0 -/
  closures : Nat := 0
  withheld : Nat := 0
  cut : Nat := 0
  /-- Previous guardian time value per port, and time of the last continuity failure. 09 R256, R258; reset none -/
  guardTime : List (Option Nat) := List.replicate 11 none
  counterBadAt : Option Nat := none
  /-- Beacon state (0x5100:07), current master (:08), beacons missed (:0B). 8 + 16 + 32 bits; 09; reset 0, 0xFFFF, 0 -/
  beacon : Nat := 0
  master : BitVec 16 := 0xFFFF
  missed : Nat := 0
  /-- Consecutive missed, mismatching and matching beacons; one ever received; yielded to FOLLOWER. 09 R254, R255; reset 0 -/
  missRun : Nat := 0
  badRun : Nat := 0
  goodRun : Nat := 0
  heard : Bool := false
  heardCycle : Bool := false
  yielded : Bool := false
  /-- Cycles since stage 3 for rule 1 of R254. reset 0 -/
  since : Nat := 0
  /-- Duplicate table: pair, source, sequence, time. 2 x 1,024 sources; 09 R243; reset empty -/
  dups : List DupEntry := []
  /-- Sequence numbers of local frames per pair. 2 x 16 bits; 09 R243; reset 0 -/
  redSeq0 : BitVec 16 := 0
  redSeq1 : BitVec 16 := 0
  /-- Duplicates discarded (0x5300:03) and missing per port E1 to E4 (:04). 64 + 4 x 32 bits; 09; reset 0 -/
  dupDiscarded : Nat := 0
  missing : List Nat := [0, 0, 0, 0]
  /-- Stream counters: on time, outside, discarded, aged out (0x5100:0C). 2,048 x 4 x 32 bits; 09; reset 0 -/
  streamCount : Sparse (Nat × Nat × Nat × Nat) := []
  /-- Frames delivered to I1 and not consumed yet. reset none -/
  toI1 : List (Fin 11 × EthFrame) := []
  /-- The switch, guardians, PTP and beacon run (stage 3 reached). 09 R237; reset 0 -/
  running : Bool := false
deriving DecidableEq, Repr

/-! ### Telegrams, MVB, CAN (chapter 11) -/

structure SubSt where
  /-- State of one subscription, sink port or RPDO: stored dataset, arrival, last sequence, status, slots' last valid data. 11 R295 to R297 -/
  dataset : Option Bytes := none
  arrival : Nat := 0
  status : BitVec 16 := 0x4000
  /-- Last sequence number accepted from each source since the last timeout. 11 R295; reset none -/
  seqs : List (Nat × Nat) := []
  /-- PD-TIMEOUT was raised and the subscription has not been VALID since. 11 R297; reset 0 -/
  lost : Bool := false
  kept : Option Bytes := none
  /-- Telegrams accepted for the next image: reception time and data. 01 R25 -/
  next : Option (Nat × Bytes) := none
deriving DecidableEq, Repr

structure PubSt where
  /-- TRDP sequenceCounter. 32 bits; 11 R291; reset 0 -/
  seq : BitVec 32 := 0
  /-- Dataset staged for the windows of a cycle. 11 R291; reset none -/
  staged : Option (Nat × Bytes) := none
deriving DecidableEq, Repr

structure MdSession where
  id : Nat
  comId : BitVec 32
  peer : BitVec 32
  started : Nat
  phase : Nat
deriving DecidableEq, Repr

structure CanBus where
  /-- Bus state (0x5700:16b+0xA). 8 bits; 11; reset OFF (3) -/
  state : Nat := 3
  /-- Bus-off count, TPDOs withdrawn. 2 x 32 bits; 11; reset 0 -/
  busOffs : Nat := 0
  withdrawn : Nat := 0
  /-- Times of recoveries in the last 60 s, time of bus-off, final. 11 R314; reset none -/
  recoveries : List Nat := []
  busOffAt : Option Nat := none
  final : Bool := false
  /-- TPDOs queued in the present cycle: table index and data. 11 R313; reset none -/
  queued : List (Nat × Bytes) := []
  /-- SYNC counter of CiA 301, SYNCs sent. 11 R312; reset 0 -/
  syncCount : Nat := 0
  syncs : Nat := 0
  /-- Heartbeat consumers: node, time of the last heartbeat, lost. 11 R311, R312; reset none -/
  consumers : List (Nat × Nat × Bool) := []
  /-- Start Remote Node has been sent since start. 11 R312; reset 0 -/
  nmtStarted : Bool := false
deriving DecidableEq, Repr

structure Telegrams where
  /-- Binding state (0x5400:08), refusal reason (:09). 2 x 8 bits; 11 R287; reset 0 -/
  bindState : Nat := 0
  bindReason : Nat := 0
  /-- Publications by table index. 1,024; 11 R290 -/
  pubs : Sparse PubSt := []
  /-- Subscriptions by table index; MVB sink ports; RPDOs of CAN1 and CAN2. 11 R294, R308, R313 -/
  subs : Sparse SubSt := []
  sinks : Sparse SubSt := []
  rpdos : Sparse SubSt := []
  /-- Telegrams sent, accepted, header errors, timeouts (0x5400:10 to 13). 11; reset 0 -/
  sent : Nat := 0
  accepted : Nat := 0
  headerErrors : Nat := 0
  timeouts : Nat := 0
  /-- MD sessions, refused count. 64; 11 R306; reset none -/
  md : List MdSession := []
  mdRefused : Nat := 0
  /-- Message data delivered to the service cores, oldest first. 11 R306; reset none -/
  mdIn : List MdTelegram := []
  /-- Seals applied, checked; check, age and loss failures (0x5500:10 to 14). 11; reset 0 -/
  sealsApplied : Nat := 0
  sealsChecked : Nat := 0
  checkFails : Nat := 0
  ageFails : Nat := 0
  lossFails : Nat := 0
  /-- MVB line A and B valid, active line, errors, role, list load; valid periods since a fault. 11; reset 0 -/
  lineA : Bool := false
  lineB : Bool := false
  activeB : Bool := false
  errA : Nat := 0
  errB : Nat := 0
  goodA : Nat := 0
  goodB : Nat := 0
  /-- A valid frame was seen on the line in the present basic period; the line is faulty. 4 bits; 11 R310; reset 0 -/
  seenA : Bool := false
  seenB : Bool := false
  faultA : Bool := false
  faultB : Bool := false
  mvbRole : Nat := 0
  mvbLoad : Nat := 0
  /-- The module yields mastership from the next basic period. 11 R310; reset 0 -/
  mvbYield : Bool := false
  /-- CAN1 and CAN2. 11 R311 -/
  can1 : CanBus := {}
  can2 : CanBus := {}
  /-- Publishing is enabled (R341, R355): streams publish after the grant. reset 0 -/
  publishing : Bool := false
deriving DecidableEq, Repr

/-! ### Bridge and DMA (chapter 12) -/

structure Sema where
  granule : Nat
  holder : Initiator
  since : Nat
deriving DecidableEq, Repr

structure LateEntry where
  addr : Nat
  cycle : BitVec 32
  seq : BitVec 16
  window : Fin 4
  cause : Fin 8
  lane : Lane
  core : Fin 4
  task : BitVec 8
  size : Nat
  delivered : Bool
deriving DecidableEq, Repr

structure PostedOp where
  /-- A posted direct write on its way to its target: its lane, core, operation and the task then open (R324, R326). -/
  lane : Lane
  core : Fin 4
  task : BitVec 8
  op : DirectOp
deriving DecidableEq, Repr

structure Ring where
  /-- HEAD index and STATUS of the last written-back descriptor (:06), residue (:07). 16 + 32 bits; 12 R332; reset 0 -/
  head : Nat := 0
  status : Nat := 0
  residue : Nat := 0
  /-- The ring is awake after a doorbell; address of the current descriptor; descriptors since the doorbell; abort waiting; bytes moved of the current descriptor; halted. 12 R332 to R336; reset 0 -/
  awake : Bool := false
  cur : Option Nat := none
  chain : Nat := 0
  abort : Bool := false
  moved : Nat := 0
  halted : Bool := false
deriving DecidableEq, Repr

structure Bridge where
  /-- Semaphores, at most 16. 12 R322; reset none -/
  semas : List Sema := []
  /-- Waiting accesses in arrival order: initiator, access. 12 R322; reset none -/
  waiters : List (Initiator × DirectOp) := []
  /-- Posted direct writes that have not reached their target yet. 12 R324; reset none -/
  posted : List PostedOp := []
  /-- Late Error Ring, oldest first. 64 x 16 bytes; 12 R324; reset empty -/
  late : List LateEntry := []
  lateSeq : BitVec 16 := 0
  /-- Late errors, lost; locks broken (0x7200:01, 03, 05). 3 x 32 bits; 12; reset 0 -/
  lateErrors : Nat := 0
  lateLost : Nat := 0
  lateLostImage : Nat := 0
  broken : Nat := 0
  /-- Replay failures and refusals at issue per lane port (:06, :07). 2 x 3 x 32 bits; 12; reset 0 -/
  replays : List Nat := [0, 0, 0]
  replayTry : List Nat := [0, 0, 0, 0, 0, 0]
  refused : List Nat := [0, 0, 0]
  /-- Event sources raised since the previous poll: source, count, data. 12 R329; reset none -/
  raised : List (Nat × Nat × Nat) := []
  /-- Event words that wait for the image. 12 R330; reset none -/
  imageEvents : List Word := []
  imageEvDropped : Nat := 0
  queueDropped : List Nat := [0, 0, 0]
  queueOverflow : List Bool := [false, false, false]
  /-- Commons memories by the DMA address map, Cistern excluded. 12 R331; reset 0 -/
  mem : Cells := []
  /-- DMA rings 0 to 63. 12 R332 -/
  rings : List Ring := List.replicate 64 {}
  /-- Engine state (0x7100:01), halts (:03), bytes moved (:04), halt times. 12 R336; reset 0 -/
  engine : Nat := 0
  halts : Nat := 0
  moved : Nat := 0
  haltTimes : List Nat := []
  haltAt : Option Nat := none
deriving DecidableEq, Repr

/-! ### Pair (chapter 13) -/

structure Handover where
  /-- A planned hand-over: m, direction, whether STOP ends it, whether both ends confirmed. 13 R357 -/
  m : Nat
  incoming : Bool
  toStop : Bool
  confirmed : Bool
  simultaneous : Bool
deriving DecidableEq, Repr

structure Beat where
  /-- The last partner heartbeat: last pour, next image, flags, epoch and expiry as sent. 13 R346 -/
  pour : Nat
  image : Nat
  flags : BitVec 8
  state : Nat
  epoch : BitVec 32
deriving DecidableEq, Repr

structure Pair where
  /-- Pair state (0x7300:02). 3 bits; 13 R340; reset ALONE -/
  state : PState := .alone
  /-- The module is PREFERRED; the pair role in force is not NONE. 13 R338; reset 0 -/
  preferred : Bool := false
  inPair : Bool := false
  /-- OUT reason (:04). 8 bits; 13; reset 0 -/
  reason : Nat := 0
  /-- DRIVE as the Commons sends it. 1 bit; 13 R342; reset 0 -/
  drive : Bool := false
  /-- Lease epoch, the highest seen (:0C), expiry (:0D), the own EPOCH is held and not revoked, lease held by endorsement. 32 + 64 + 1 + 1 bits; 13 R342; reset 0 -/
  epoch : BitVec 32 := 0
  expiry : Nat := 0
  held : Bool := false
  endorsed : Bool := false
  /-- EPOCH of the lease held, or last held by this module. 32 bits; 13 R342, R345; reset 0 -/
  leaseEpoch : BitVec 32 := 0
  /-- Time of the own REQUEST, of the last referee frame, CONFIRM of the present cycle. 13 R342, R345; reset none -/
  requestAt : Option Nat := none
  refereeAt : Option Nat := none
  confirmed : Bool := false
  refereeSilent : Bool := false
  /-- Last partner heartbeat: time, payload; first of the present run. 13 R346, R353; reset none -/
  heartAt : Option Nat := none
  heartSince : Option Nat := none
  partner : Option Beat := none
  partnerId : Option PartnerId := none
  /-- A RELEASE cause waits for its heartbeat; heartbeats withheld. 13 R353; reset 0 -/
  release : Bool := false
  /-- SEQ of each KIND received and sent. 7 x 32 bits; 13 R347; reset none -/
  seqIn : List (Option (BitVec 32)) := List.replicate 7 none
  seqOut : List (BitVec 32) := List.replicate 7 0
  /-- Forwarded image being assembled; complete for cycle. 13 R349; reset none -/
  fwdImage : Bytes := []
  fwdCtx : Bytes := []
  fwdReady : Option Nat := none
  /-- Delta being assembled, windows checked, delta complete for cycle, divergence. 13 R351; reset none -/
  delta : Bytes := []
  deltaDone : Option Nat := none
  /-- Takeover: time of the finding. 13 R354; reset none -/
  findingAt : Option Nat := none
  /-- Planned hand-over: m, this module is the incoming one, STOP at the end, confirmed, simultaneous switching, FROM. 13 R357; reset none -/
  handover : Option Handover := none
  /-- Time since which the module is STANDBY (reversion holdoff). 13 R358; reset none -/
  standbySince : Option Nat := none
  /-- Resynchronisation in progress: start, next address; copy complete; failures of the last 60 minutes. 13 R359; reset none -/
  resync : Option (Nat × Nat) := none
  resyncFails : List Nat := []
  ownDigest : Option Tally := none
  partnerDigest : Option Tally := none
  level : Bool := false
  /-- Cycle number for which the partner formed its store digest. 64 bits; 13 R359; reset 0 -/
  digestCycle : Nat := 0
  /-- Exchange shadow running since; step of the hitless exchange. 13 R360; reset none -/
  shadowSince : Option Nat := none
  exchangeStep : Nat := 0
  /-- Takeovers (:10), last takeover (:11), frames rejected (:12), resynchronisations (:13). 13; reset 0 -/
  takeovers : Nat := 0
  lastTakeover : Nat := 0
  rejected : Nat := 0
  resyncs : Nat := 0
  rejectRaised : Option Nat := none
  /-- The lease was lost; the module enters JOINING at the next boundary while the partner is heard. 1 bit; 13 R345; reset 0 -/
  lostLease : Bool := false
  /-- The negotiation of the present start has ended. 1 bit; 13 R339, R340; reset 0 -/
  negotiated : Bool := false
deriving DecidableEq, Repr

/-! ### Object dictionary, sessions, update (chapters 15, 16, 18) -/

structure Session where
  /-- Session state 0 FREE, 1 OPENING, 2 OPEN; client, level, port, source, key. 15 R384 -/
  state : Nat := 0
  client : Nat := 0
  level : Nat := 0
  port : Fin 11 := 0
  addr : Nat := 0
  key : Bytes := []
  openedAt : Nat := 0
  lastAt : Nat := 0
  lastSeq : BitVec 32 := 0
  /-- Stored response of the last answered SEQ: status and data. 15 R386 -/
  stored : Option (BitVec 16 × Bytes) := none
  served : Nat := 0
  bucket : Option Bucket := none
  /-- Times of MAC failures in the last second. 15 R386 -/
  fails : List Nat := []
  /-- Assembly buffer: key, TOTAL, segments. 15 R389 -/
  asm : Option (Nat × Nat × List (Nat × Bytes)) := none
deriving DecidableEq, Repr

structure SdoXfer where
  /-- A segmented or block transfer in progress. 15 R390 -/
  download : Bool
  key : Nat
  total : Nat
  data : Bytes
  block : Bool
  lastAt : Nat
  toggle : Bool
deriving DecidableEq, Repr

structure SdoServer where
  /-- The transfer in progress. 15 R390; reset none -/
  xfer : Option SdoXfer := none
deriving DecidableEq, Repr

structure Store where
  /-- One copy of the configuration store. 15 R380 -/
  seq : Nat := 0
  crcOk : Bool := true
  values : List (Nat × Bytes) := []
deriving DecidableEq, Repr

structure Od where
  /-- Written values of RW objects by key 256 x index + sub, defaults not listed. 15 R377, 16 R398; reset none -/
  values : List (Nat × Bytes) := []
  /-- Values in force of objects timed at restart, taken at the last restart. 15 R381; reset none -/
  inForce : List (Nat × Bytes) := []
  /-- Configuration store copies A and B. 15 R380; reset empty -/
  storeA : Store := {}
  storeB : Store := {}
  /-- Values of the objects timed "at a cycle boundary" as they stood at the last boundary, by key. 16 R401; reset none -/
  latched : List (Nat × Bytes) := []
  /-- Stored writes that may not be in both copies yet: key, value, time of the write. 15 R380; reset none -/
  storing : List (Nat × Bytes × Nat) := []
  /-- RESTORE-DEFAULTS waits for the next restart. 16 R402; reset 0 -/
  restore : Bool := false
  /-- Abacus runs (from the network part of stage 3). 14 R362, R364; reset 0 -/
  running : Bool := false
  /-- Sessions 1 to 8 (index n). 15 R384; reset FREE -/
  sessions : List Session := List.replicate 9 {}
  /-- Shared buckets of session 0 and of OPEN. 15 R387; reset full -/
  bucket0 : Option Bucket := none
  bucketOpen : Option Bucket := none
  /-- Authentication failures, requests rate-limited (0x1200:18, 19). 2 x 32 bits; 15; reset 0 -/
  authFails : Nat := 0
  limited : Nat := 0
  /-- Function modes in force (0x1180:11 to 17). 7 x 1 bit; 15 R395; reset HARDWARE -/
  funcModes : List Bool := List.replicate 7 false
  /-- SDO servers of CAN1 and CAN2. 15 R390 -/
  sdo1 : SdoServer := {}
  sdo2 : SdoServer := {}
deriving DecidableEq, Repr

inductive UState where | idle | receiving | complete | verifying | verified | failed | activating | trial
deriving DecidableEq, Repr, Inhabited

structure SlotSt where
  /-- A firmware or application slot: content, state (0 EMPTY to 4 INVALID), TRIAL, FALLBACK, ALL_COPIES. 18 R419, 16 slot word -/
  bytes : Bytes := []
  state : Nat := 0
  trial : Bool := false
  fallback : Bool := false
  allCopies : Bool := false
  ident : BitVec 32 := 0
  rollback : Nat := 0
deriving DecidableEq, Repr

structure Update where
  /-- STATE and REASON of 0x8000:06; KIND, SLOT, FORM of the transfer. 18 R421; reset IDLE -/
  state : UState := .idle
  reason : Nat := 0
  app : Bool := false
  slotB : Bool := false
  delta : Bool := false
  imageLen : Nat := 0
  streamLen : Nat := 0
  /-- Received blocks by number: CRC and data. 16 R405; reset none -/
  blocks : List (Nat × BitVec 32 × Bytes) := []
  /-- Firmware slots A, B and application slots A, B. 18 R419; reset EMPTY (the running firmware VERIFIED in A, DESIGN CHOICE) -/
  fwA : SlotSt := { state := 3, allCopies := true, ident := 0x00010000 }
  fwB : SlotSt := {}
  appA : SlotSt := {}
  appB : SlotSt := {}
  /-- Boot selector: active firmware slot B, active application slot (none: no image). 18 R419; reset A, none -/
  fwActiveB : Bool := false
  appActive : Option Bool := none
  /-- Trial: its kind is application; ns left of its window at the instant `trialSince`; starts in the trial. 18 R428, R429; reset none -/
  trialKind : Option Bool := none
  trialLeft : Nat := 0
  trialSince : Nat := 0
  trialStarts : Nat := 0
deriving DecidableEq, Repr

/-! ### The module -/

structure State where
  /-- Commands that wait, first in first out (the block's queue). reset empty -/
  pending : List Instr := []
  time : TimeBase := {}
  ctl : Ctl := {}
  lanA : LaneSt := {}
  lanB : LaneSt := {}
  lanC : LaneSt := {}
  rek : Reckoner := {}
  cis : Cistern := {}
  fab : Fabric := {}
  fio : FieldIo := {}
  sw : SwitchSt := {}
  tel : Telegrams := {}
  bri : Bridge := {}
  pair : Pair := {}
  od : Od := {}
  upd : Update := {}
  evq : EventQ := {}
  rcd : Recorder := {}
  /-- What the module has sent, oldest first (the model's own record, assumption 6). reset empty -/
  sent : List Sent := []
  /-- The model's own index of the next free value (assumption 4). reset 0, DESIGN CHOICE -/
  freeCount : Nat := 0
  /-- Serial number (0x1000:04) and hardware issue (0x1000:02) of this module. 00; reset empty, 1 (DESIGN CHOICE, per module) -/
  serial : Bytes := []
  issue : Nat := 1
deriving DecidableEq, Repr

/-- The module right after reset: OFF, before X1 first reaches 16.8 V (R121, R362). -/
def State.reset : State := {}

end Sys2Proof.Machine
end

