-- ==== Sys2Proof/Machine/Ops.lean ====
section
/-! DEFINITION. The named operations over State: sparse data, lanes, groups, time, free values and what is sent. -/

namespace Sys2Proof.Machine

/-- The outcome of one command. -/
abbrev Out := Host.Outcome State Fault Refusal

/-! ### Sparse data (assumption 3) -/

/-- The value of key `k`; `d` when it is not listed. -/
def sGet {α : Type} (d : α) (k : Nat) : Sparse α → α
  | [] => d
  | (k', v) :: r => if k = k' then v else if k < k' then d else sGet d k r

/-- Sets key `k`, keeping keys rising and the default unlisted. -/
def sSet {α : Type} [DecidableEq α] (d : α) (k : Nat) (v : α) : Sparse α → Sparse α
  | [] => if v = d then [] else [(k, v)]
  | (k', v') :: r =>
    if k < k' then (if v = d then (k', v') :: r else (k, v) :: (k', v') :: r)
    else if k = k' then (if v = d then r else (k, v) :: r)
    else (k', v') :: sSet d k v r

/-- The canonical form above key `lo`: keys rise from `lo` on and no value is the default. -/
def sWfFrom {α : Type} [DecidableEq α] (d : α) (lo : Nat) : Sparse α → Bool
  | [] => true
  | (k, v) :: r => decide (lo ≤ k) && (decide (v ≠ d) && sWfFrom d (k + 1) r)

/-- The canonical form of sparse data. -/
def Sparse.wf {α : Type} [DecidableEq α] (d : α) (l : Sparse α) : Bool := sWfFrom d 0 l

/-- The canonical form of a byte memory: addresses rising, no listed zero. -/
def Memory.wf (m : Cells) : Bool := sWfFrom (0 : BitVec 8) 0 m

/-- One byte of a memory; an unlisted byte reads 0 (assumption 3). -/
def cGet (a : Nat) (m : Cells) : Byte := sGet 0 a m

/-- Writes one byte. -/
def cSet (a : Nat) (b : Byte) (m : Cells) : Cells := sSet 0 a b m

/-- Reads `n` bytes from address `a` on. -/
def cRead : Nat → Nat → Cells → Bytes
  | 0, _, _ => []
  | n + 1, a, m => cGet a m :: cRead n (a + 1) m

/-- Writes bytes from address `a` on. -/
def cWrite (a : Nat) : Bytes → Cells → Cells
  | [], m => m
  | b :: bs, m => cWrite (a + 1) bs (cSet a b m)

/-- Sets every byte of a range to 0. -/
def cClear (a : Nat) : Nat → Cells → Cells
  | 0, m => m
  | n + 1, m => cClear (a + 1) n (cSet a 0 m)

/-- The cells of one address range. -/
def cRange (lo hi : Nat) (m : Cells) : Cells := m.filter (fun c => lo ≤ c.1 && c.1 < hi)

/-! ### Lanes, cores, groups and channels -/

/-- All lanes, in the order A, B, C. -/
def lanes : List Lane := [.A, .B, .C]

/-- A = 0, B = 1, C = 2 (R42). -/
def laneNo : Lane → Nat
  | .A => 0
  | .B => 1
  | .C => 2

/-- The lane of a number modulo 3. -/
def laneOf (n : Nat) : Lane := if n % 3 = 0 then .A else if n % 3 = 1 then .B else .C

/-- The code of a lane state at 0x2000:01. -/
def lstateNo : LState → Nat
  | .isIn => 0
  | .excluded => 1
  | .reintegrating => 2
  | .out => 3

/-- One lane. -/
def State.lane (s : State) : Lane → LaneSt
  | .A => s.lanA
  | .B => s.lanB
  | .C => s.lanC

/-- Replaces one lane. -/
def State.setLane (s : State) (ln : Lane) (l : LaneSt) : State :=
  match ln with
  | .A => { s with lanA := l }
  | .B => { s with lanB := l }
  | .C => { s with lanC := l }

/-- Changes one lane. -/
def State.modLane (s : State) (ln : Lane) (f : LaneSt → LaneSt) : State := s.setLane ln (f (s.lane ln))

/-- Changes every lane. -/
def State.modLanes (s : State) (f : LaneSt → LaneSt) : State :=
  { s with lanA := f s.lanA, lanB := f s.lanB, lanC := f s.lanC }

/-- One core of a lane. -/
def LaneSt.core (l : LaneSt) (c : Fin 4) : Core :=
  if c = 0 then l.core0 else if c = 1 then l.core1 else if c = 2 then l.core2 else l.core3

/-- Replaces one core of a lane. -/
def LaneSt.setCore (l : LaneSt) (c : Fin 4) (k : Core) : LaneSt :=
  if c = 0 then { l with core0 := k } else if c = 1 then { l with core1 := k }
  else if c = 2 then { l with core2 := k } else { l with core3 := k }

/-- One core. -/
def State.core (s : State) (ln : Lane) (c : Fin 4) : Core := (s.lane ln).core c

/-- Replaces one core. -/
def State.setCore (s : State) (ln : Lane) (c : Fin 4) (k : Core) : State :=
  s.setLane ln ((s.lane ln).setCore c k)

/-- The lanes that are IN. -/
def State.inLanes (s : State) : List Lane := lanes.filter (fun l => (s.lane l).state = .isIn)

/-- Is a core index TRIPLE (R62)? -/
def State.triple (s : State) (c : Fin 4) : Bool := s.ctl.placement.getLsbD c.val

/-- The application image in force (R117). -/
def State.app (s : State) : Option AppImage := s.ctl.image

/-- The declaration of one task. -/
def State.taskDef (s : State) (t : Fin 16) : Option TaskDef :=
  (s.app.map (·.tasks)).getD [] |>.find? (fun d => d.task = t)

/-- One field group. -/
def State.group (s : State) (g : Fin 8) : Group := (s.fio.groups[g.val]?).getD {}

/-- Changes one field group. -/
def State.modGroup (s : State) (g : Fin 8) (f : Group → Group) : State :=
  { s with fio := { s.fio with groups := modAt g.val f s.fio.groups } }

/-- One channel of a group. -/
def Group.chan (g : Group) (c : Fin 16) : Chan := (g.chans[c.val]?).getD {}

/-- Changes one channel of a group. -/
def Group.modChan (g : Group) (c : Fin 16) (f : Chan → Chan) : Group := { g with chans := modAt c.val f g.chans }

/-- The group of a channel index (R8). -/
def chGroup (ch : Fin 128) : Fin 8 := ⟨ch.val / 16, by omega⟩

/-- The place of a channel in its group. -/
def chNo (ch : Fin 128) : Fin 16 := ⟨ch.val % 16, by omega⟩

/-- One channel by its index. -/
def State.chan (s : State) (ch : Fin 128) : Chan := (s.group (chGroup ch)).chan (chNo ch)

/-- Changes one channel by its index. -/
def State.modChan (s : State) (ch : Fin 128) (f : Chan → Chan) : State :=
  s.modGroup (chGroup ch) (fun g => g.modChan (chNo ch) f)

/-! ### Time, cycles, free values, what is sent -/

/-- The module time of a command: the counter never runs backwards (R261, assumption 1). -/
def State.atTime (s : State) (t : Nat) : State := { s with time := { s.time with now := max s.time.now t } }

/-- T_b in ns for a TB_CODE (R22, R109). -/
def tbNs (code : Nat) : Nat := if code = 0 then 500000 else if code = 2 then 2000000 else 1000000

/-- T_b in force, in ns. -/
def State.tb (s : State) : Nat := tbNs s.ctl.tbCode

/-- The cycle number of the present cycle (R23): the integer part of time over T_b. -/
def State.cycleNow (s : State) : Nat := s.time.now / s.tb

/-- The time from the boundary of the present cycle, in ns. -/
def State.intoCycle (s : State) : Nat := s.time.now % s.tb

/-- The macro size M (R23): that of the matrix in force, 1 under the open matrix. -/
def State.macroM (s : State) : Nat := (s.sw.matrix.map (·.m)).getD 1

/-- Does a macro cycle start at this boundary (R24)? -/
def State.macroStart (s : State) (n : Nat) : Bool := n % s.macroM = 0

/-- The first macro-cycle start at or after cycle `n`. -/
def State.nextMacro (s : State) (n : Nat) : Nat := roundUp s.macroM n

/-- The next free value of `w` bits (assumption 4). -/
def State.free (s : State) (w : Nat) : BitVec w := (Config.freeValue s.freeCount).setWidth w

/-- One free value has been used. -/
def State.tick (s : State) : State := { s with freeCount := s.freeCount + 1 }

/-- The module sends something on a link or bus (assumption 6). -/
def State.emit (s : State) (x : Sent) : State := { s with sent := s.sent ++ [x] }

/-- The module sends several things in order. -/
def State.emitAll (s : State) (xs : List Sent) : State := { s with sent := s.sent ++ xs }

end Sys2Proof.Machine
end

