-- ==== Sys2Proof/Machine/Records.lean ====
section
/-! DEFINITION. Raising events and measurements: token buckets, the volatile event queue (R397) and the lifetime
recorder's code map and records (R408 to R412). -/

namespace Sys2Proof.Machine

/-! ### The calendar word, 0x6000:07 (R282) -/

/-- Days since 1970-01-01 as year, month and day (the civil calendar of UTC). -/
def civil (days : Nat) : Nat × Nat × Nat :=
  let z := days + 719468
  let era := z / 146097
  let doe := z % 146097
  let yoe := (doe - doe / 1460 + doe / 36524 - doe / 146096) / 365
  let doy := doe - (365 * yoe + yoe / 4 - yoe / 100)
  let mp := (5 * doy + 2) / 153
  let d := doy - (153 * mp + 2) / 5 + 1
  let m := if mp < 10 then mp + 3 else mp - 9
  (yoe + era * 400 + (if m ≤ 2 then 1 else 0), m, d)

/-- The calendar word of a time in ns and a UTC offset; `leap` shows second 60 of an announced leap (R283). -/
def calendarOf (now : Nat) (utc : Int) (leap valid : Bool) : Word :=
  let ms := ((now / 1000000 : Nat) : Int) - utc * 1000
  let msn := ms.toNat
  let sec := msn / 1000
  let (y, mo, d) := civil (sec / 86400)
  let sd := sec % 86400
  let ss := if leap then 60 else sd % 60
  BitVec.ofNat 64 (y * 2 ^ 50 + mo * 2 ^ 46 + d * 2 ^ 41 + (sd / 3600) * 2 ^ 36 + (sd / 60 % 60) * 2 ^ 30 +
    ss * 2 ^ 24 + (msn % 1000) * 2 ^ 14 + b2n valid)

/-- Is the present second the inserted second 23:59:60 of an announced positive leap (R283)? -/
def State.inLeapSecond (s : State) : Bool :=
  s.time.leap61 && (s.time.now / 1000000000 == s.time.leapAt && s.time.leapAt != 0)

/-- The calendar word at 0x6000:07. In the second before an inserted one the day still shows its own date. -/
def State.calendar (s : State) : Word :=
  let back : Nat := if s.inLeapSecond then 1000000000 else 0
  calendarOf (s.time.now - back) s.time.utcOffset s.inLeapSecond s.time.calendarValid

/-! ### The code map (R409 to R412) -/

structure MapEntry where
  /-- One code map entry of R409. -/
  code : Nat
  rate : Nat
  burst : Nat
  flags : Nat
  value : Nat
  counter : Nat
  hist : Nat
  extreme : Nat
  low : Int
  width : Nat
deriving DecidableEq, Repr

/-- An event entry of the default map that feeds no record (R412). -/
def plainEntry (code : Nat) : MapEntry :=
  { code, rate := 10, burst := 16, flags := 0, value := 0, counter := 0, hist := 0, extreme := 0, low := 0, width := 0 }

/-- The measurement entries 0 to 10 of the default map (R412). -/
def measEntries : List MapEntry :=
  let e (code flags value counter hist extreme : Nat) (low : Int) (width : Nat) : MapEntry :=
    { code, rate := 1000, burst := 255, flags, value, counter, hist, extreme, low, width }
  [e 1 0x04 0x24 0 0 0 0 0, e 2 0x02 0x24 0 0 0 1400 60, e 3 0x0E 0x64 0 1 1 (-400) 50,
   e 4 0x0E 0x24 0 6 6 400 20, e 5 0x0A 0x24 0 9 0 0 34, e 6 0x06 0x74 0 25 9 (-1500) 100,
   e 7 0x19 0x34 0 0 0 0 0, e 8 0x11 0x34 128 0 0 0 0, e 9 0x11 0x34 129 0 0 0 0, e 10 0x19 0x34 130 0 0 0 0,
   e 11 0x01 0 140 0 0 0 0]

/-- The default entry of an event code (R412). -/
def eventEntry (code : Nat) : MapEntry :=
  let p := plainEntry code
  let cnt (n : Nat) : MapEntry := { p with flags := 0x01, counter := n }
  if code = 0x1003 then cnt 141 else if code = 0x1004 then cnt 142 else if code = 0x2001 then cnt 143
  else if code = 0x2002 then cnt 144 else if code = 0x2003 then cnt 145
  else if code = 0x2010 then { cnt 146 with flags := 0x09 }
  else if code = 0x3010 then { p with flags := 0x0A, hist := 26, rate := 100, burst := 64 }
  else if code = 0x3040 then cnt 149 else if code = 0x4040 then cnt 150 else if code = 0x9004 then cnt 151 else p

/-- The position of `x` in a list of codes. -/
def codePos (x : Nat) : List Nat → Option Nat
  | [] => none
  | y :: r => if x = y then some 0 else (codePos x r).map (· + 1)

/-- Reads one stored entry (R409). -/
def readEntry (b : Bytes) : MapEntry :=
  { code := leAt b 0 2, rate := leAt b 2 2, burst := leAt b 4 1, flags := leAt b 5 1, value := leAt b 6 1,
    counter := leAt b 7 1, hist := leAt b 8 2, extreme := leAt b 10 2, low := sxt 16 (leAt b 12 2),
    width := leAt b 14 2 }

/-- The bytes of an entry (R409). -/
def entryBytes (e : MapEntry) : Bytes :=
  leBytes 2 e.code ++ leBytes 2 e.rate ++ leBytes 1 e.burst ++ leBytes 1 e.flags ++ leBytes 1 e.value ++
    leBytes 1 e.counter ++ leBytes 2 e.hist ++ leBytes 2 e.extreme ++ leBytes 2 (wrapNat 16 e.low) ++ leBytes 2 e.width

/-- The bytes of the default map. -/
def defaultMap : Bytes := (measEntries ++ eventCodes.map eventEntry).flatMap entryBytes

/-- The position and entry of a code in a written map. -/
def findEntry (code : Nat) : Nat → List Bytes → Option (Nat × MapEntry)
  | _, [] => none
  | n, b :: r => if leAt b 0 2 = code then some (n, readEntry b) else findEntry code (n + 1) r

/-- The position and entry of a code in the map in force. -/
def mapEntry (r : Recorder) (code : Nat) : Option (Nat × MapEntry) :=
  match r.map with
  | some m => findEntry code 0 m
  | none =>
    if 1 ≤ code ∧ code ≤ 11 then (measEntries[code - 1]?).map (fun e => (code - 1, e))
    else (codePos code eventCodes).map (fun n => (n + 11, eventEntry code))

/-! ### Token buckets (R397, R411; assumption 14) -/

/-- Takes one token at time `now`; a token is 10^9 units of credit. The result is the bucket after it, and whether a
token was there. -/
def takeToken (now rate burst : Nat) (b : Option Bucket) : Bucket × Bool :=
  let credit := match b with
    | none => burst * 1000000000
    | some b => min (burst * 1000000000) (b.credit + (now - b.last) * rate)
  if 1000000000 ≤ credit then ({ credit := credit - 1000000000, last := now }, true)
  else ({ credit, last := now }, false)

/-- Takes the token of a code's bucket; codes without an entry share bucket 0 with rate 100 and burst 32 (R412). -/
def bucketOf (s : State) (code : Nat) : Bucket × Bool × Nat :=
  match mapEntry s.rcd code with
  | some (_, e) =>
    let r := takeToken s.time.now e.rate e.burst (lookupKey code s.evq.buckets)
    (r.1, r.2, code)
  | none =>
    let r := takeToken s.time.now 100 32 (lookupKey 0 s.evq.buckets)
    (r.1, r.2, 0)

/-! ### Records (R411) -/

/-- The value of a record's DATA by its VALUE field: a type code and an offset. -/
def dataValue (value : Nat) (data : Bytes) : FVal :=
  match xOfCode (value / 16) with
  | some t =>
    let w := BitVec.ofNat 64 (leAt data (value % 16) (xSize t))
    if xFloat t then fOf t w else FVal.ofInt (intOf t (normT t w))
  | none => .nan

/-- The four words of an extreme never updated (R403). -/
def extremeReset : Word × Word × Word × Word := (0x7FF0000000000000#64, 0, 0xFFF0000000000000#64, 0)

/-- Marks a record as changed and waiting for its write (R414). Regions are numbered as R413 lists them. -/
def markDirty (r : Recorder) (region n : Nat) : Recorder :=
  if (region, n) ∈ r.dirty then r else { r with dirty := r.dirty ++ [(region, n)] }

/-- Adds to a lifetime counter. -/
def addCounter (r : Recorder) (c d : Nat) : Recorder :=
  if 255 < c then r
  else markDirty { r with counters := sSet 0 c (satAdd 64 (sGet 0 c r.counters) d) r.counters } 2 c

/-- Adds one to a bin. -/
def addBin (r : Recorder) (h b : Nat) : Recorder :=
  if 511 < h then r
  else markDirty { r with bins := sSet 0 (32 * h + b) (satAdd 32 (sGet 0 (32 * h + b) r.bins) 1) r.bins } 0 h

/-- Lowers or raises an extreme. -/
def addExtreme (r : Recorder) (e : Nat) (v : FVal) (cal : Word) : Recorder :=
  if 1023 < e then r
  else
    let x := (lookupKey e r.extremes).getD extremeReset
    let bits := BitVec.ofNat 64 (fmt64.encode v)
    let x1 := if v.cmp (fmt64.decode x.1.toNat) < 0 then (bits, cal, x.2.2.1, x.2.2.2) else x
    let x2 := if 0 < v.cmp (fmt64.decode x1.2.2.1.toNat) then (x1.1, x1.2.1, bits, cal) else x1
    if x2 = x then r else markDirty { r with extremes := setKey e x2 r.extremes } 1 e

/-- The bin of a value: 0 below LOW, then one per WIDTH, the last for all above. -/
def binOf (v : FVal) (low : Int) (width : Nat) : Nat :=
  if v.cmp (FVal.ofInt low) < 0 then 0
  else
    let d := v.add (FVal.ofInt (-low))
    min 31 ((d.toInt (-(2 ^ 70)) (2 ^ 70)).toNat / width + 1)

/-- One raising applied through its entry, as the code of R411 states. -/
def applyEntry (e : MapEntry) (data : Bytes) (cal : Word) (r : Recorder) : Recorder :=
  let item := if e.flags.testBit 3 then leAt data 0 1 else 0
  let v := dataValue e.value data
  let r1 :=
    if e.flags.testBit 0 then
      addCounter r (e.counter + item) (if e.flags.testBit 4 then leAt data (e.value % 16)
        (match xOfCode (e.value / 16) with | some t => xSize t | none => 0) else 1)
    else r
  let r2 :=
    if e.flags.testBit 1 && !(e.value / 16 != 0 && v.isNan) then
      (if e.width = 0 then addBin r1 (e.hist + item / 32) (item % 32)
       else addBin r1 (e.hist + item) (binOf v e.low e.width))
    else r1
  if e.flags.testBit 2 && !v.isNan then addExtreme r2 (e.extreme + item) v cal else r2

/-- Is the recorder function in host-assisted mode (0x1180:17)? -/
def hostMode (s : State) (fn : Nat) : Bool := (s.od.funcModes[fn - 1]?).getD false

/-- The recorder's part of one raising that passed its bucket. -/
def record (code : Nat) (data : Bytes) (s : State) : State :=
  if s.rcd.fault then s
  else
    match mapEntry s.rcd code with
    | some (_, e) => { s with rcd := applyEntry e data s.calendar s.rcd }
    | none => s

/-- The recorder's part of one raising that found its bucket empty. -/
def recordSuppressed (code : Nat) (s : State) : State :=
  match mapEntry s.rcd code with
  | some (n, _) =>
    if s.rcd.fault then s
    else { s with rcd := markDirty { s.rcd with
            suppressed := sSet 0 n (satAdd 64 (sGet 0 n s.rcd.suppressed) 1) s.rcd.suppressed } 3 n }
  | none => s

/-- Puts an entry into the event queue, the oldest overwritten when 512 are held (R397). -/
def enqueue (q : EventQ) (e : Event) : EventQ :=
  let isFull := 512 ≤ q.entries.length
  { q with
    entries := (if isFull then q.entries.drop (q.entries.length - 511) else q.entries) ++ [e]
    nextSeq := q.nextSeq + 1
    overwritten := if isFull then satAdd 32 q.overwritten 1 else q.overwritten
    suppressed := sSet 0 e.code.toNat 0 q.suppressed }

/-- The entry that a raising makes. -/
def eventOf (s : State) (code : Code) (source : BitVec 8) (data : Bytes) : Event :=
  { time := s.time.now, seq := s.evq.nextSeq, code
    suppressed := sGet 0 code.toNat s.evq.suppressed, source, data := fitTo 8 data }

/-- Raises an event: its bucket, the event queue and the recorder (R397, R411). -/
def raiseFrom (source : BitVec 8) (code : Code) (data : Bytes) (s : State) : State :=
  if hostMode s 7 then record code.toNat data { s with evq := enqueue s.evq (eventOf s code source data) }
  else
    let b := bucketOf s code.toNat
    let q := { s.evq with buckets := setKey b.2.2 b.1 s.evq.buckets }
    if b.2.1 then record code.toNat data { s with evq := enqueue q (eventOf s code source data) }
    else
      let n := satAdd 8 (sGet 0 code.toNat q.suppressed) 1
      recordSuppressed code.toNat { s with evq := { q with suppressed := sSet 0 code.toNat n q.suppressed } }

/-- Raises an event of the module (SOURCE 0). -/
def raise (code : Code) (data : Bytes) (s : State) : State := raiseFrom 0 code data s

/-- Raises an event of a lane (SOURCE 0x90 to 0x92). -/
def raiseLane (ln : Lane) (code : Code) (data : Bytes) (s : State) : State :=
  raiseFrom (BitVec.ofNat 8 (0x90 + laneNo ln)) code data s

/-- Raises an event of the fabric (SOURCE 0xA0). -/
def raiseFab (code : Code) (data : Bytes) (s : State) : State := raiseFrom 0xA0 code data s

/-- Raises an event when the condition holds. -/
def raiseIf (c : Bool) (code : Code) (data : Bytes) (s : State) : State := if c then raise code data s else s

/-- Raises an event at most once per second for its code and item (R260, R386, R387). -/
def raiseOncePerSec (item : Nat) (source : BitVec 8) (code : Code) (data : Bytes) (s : State) : State :=
  let due := match s.evq.lastRaised.find? (fun e => e.1 = (code.toNat, item)) with
    | some e => decide (e.2 + 1000000000 ≤ s.time.now)
    | none => true
  if due then
    raiseFrom source code data { s with evq := { s.evq with lastRaised :=
      ((code.toNat, item), s.time.now) :: s.evq.lastRaised.filter (fun e => e.1 ≠ (code.toNat, item)) } }
  else s

/-- Raises a measurement: its bucket and its records, never the event queue (R408, R411). -/
def measure (code : Nat) (item : BitVec 8) (value : BitVec 32) (s : State) : State :=
  let data := item :: (leBytes 3 0 ++ leBytes 4 value.toNat)
  if hostMode s 7 then record code data s
  else
    let b := bucketOf s code
    let s1 := { s with evq := { s.evq with buckets := setKey b.2.2 b.1 s.evq.buckets } }
    if b.2.1 then record code data s1 else recordSuppressed code s1

end Sys2Proof.Machine
end

