-- ==== Sys2Proof/Machine/Od.lean ====
section
/-! DEFINITION. The object dictionary as a table (R377 to R381, R398): types, access, levels, timing, defaults and
ranges of every object, and the values that are written. -/

namespace Sys2Proof.Machine

/-- Access classes (R379). -/
inductive Acc where | ro | wo | rw | const
deriving DecidableEq, Repr

/-- Change timing (R381); `bank` is the timing of R202. -/
inductive Timing where | immediate | boundary | stop | restart | bank
deriving DecidableEq, Repr

structure OdRow where
  /-- One object: its index and subindex (the first of a family), type, access, level, timing, default, least and
  greatest value, whether it is stored, and for DOMAIN and OSTRING its entry size and entry count. -/
  index : Nat
  sub : Nat
  ty : OdType
  acc : Acc
  level : Nat
  timing : Timing
  dflt : Int
  lo : Int
  hi : Int
  stored : Bool
  entry : Nat
  count : Nat
deriving DecidableEq, Repr

/-- The objects of indices 0x1000 to 0x10FF (R398). -/
def odRows10 : List OdRow :=
  [⟨0x1000, 0x01, .vstring, .const, 0, .immediate, 0, 0, 0, false, 0, 0⟩,
   ⟨0x1000, 0x02, .u8, .const, 0, .immediate, 0, 0, 255, false, 0, 0⟩,
   ⟨0x1000, 0x03, .u32, .ro, 0, .restart, 0, 0, 4294967295, false, 0, 0⟩,
   ⟨0x1000, 0x04, .vstring, .const, 0, .immediate, 0, 0, 0, false, 0, 0⟩,
   ⟨0x1000, 0x05, .u32, .ro, 0, .restart, 0, 0, 4294967295, false, 0, 0⟩]

/-- The objects of indices 0x1100 to 0x11FF (R398). -/
def odRows11 : List OdRow :=
  [⟨0x1100, 0x01, .u8, .ro, 0, .immediate, 0, 0, 255, false, 0, 0⟩,
   ⟨0x1100, 0x02, .u64, .ro, 0, .immediate, 0, 0, 18446744073709551615, false, 0, 0⟩,
   ⟨0x1100, 0x03, .u16, .ro, 0, .immediate, 0, 0, 65535, false, 0, 0⟩,
   ⟨0x1100, 0x04, .u8, .ro, 0, .immediate, 0, 0, 255, false, 0, 0⟩,
   ⟨0x1100, 0x05, .u32, .ro, 0, .boundary, 0, 0, 4294967295, false, 0, 0⟩,
   ⟨0x1100, 0x06, .u32, .ro, 0, .immediate, 0, 0, 4294967295, false, 0, 0⟩,
   ⟨0x1100, 0x10, .u32, .ro, 0, .restart, 1000000, 0, 4294967295, false, 0, 0⟩,
   ⟨0x1100, 0x11, .u64, .ro, 0, .boundary, 0, 0, 18446744073709551615, false, 0, 0⟩,
   ⟨0x1100, 0x12, .u8, .ro, 0, .restart, 1, 0, 255, false, 0, 0⟩,
   ⟨0x1100, 0x13, .u8, .ro, 0, .boundary, 0, 0, 255, false, 0, 0⟩,
   ⟨0x1100, 0x20, .u32, .ro, 0, .restart, 0, 0, 4294967295, false, 0, 0⟩,
   ⟨0x1100, 0x21, .u64, .ro, 0, .immediate, 0, 0, 18446744073709551615, false, 0, 0⟩,
   ⟨0x1100, 0x22, .u8, .ro, 0, .immediate, 0, 0, 255, false, 0, 0⟩,
   ⟨0x1100, 0x30, .u8, .ro, 0, .immediate, 0, 0, 255, false, 0, 0⟩,
   ⟨0x1100, 0x31, .ostring, .ro, 0, .restart, 0, 0, 0, false, 16, 1⟩,
   ⟨0x1100, 0x40, .domain, .ro, 0, .immediate, 0, 0, 0, false, 1, 16777216⟩,
   ⟨0x1100, 0x41, .u16, .ro, 0, .immediate, 0, 0, 65535, false, 0, 0⟩,
   ⟨0x1100, 0x42, .u16, .ro, 0, .immediate, 0, 0, 65535, false, 0, 0⟩,
   ⟨0x1100, 0x43, .u16, .ro, 0, .immediate, 0, 0, 65535, false, 0, 0⟩,
   ⟨0x1100, 0x44, .u16, .ro, 0, .immediate, 0, 0, 65535, false, 0, 0⟩,
   ⟨0x1100, 0x50, .u16, .ro, 0, .immediate, 0, 0, 65535, false, 0, 0⟩,
   ⟨0x1100, 0x51, .u8, .ro, 0, .immediate, 0, 0, 255, false, 0, 0⟩,
   ⟨0x1100, 0x52, .u32, .ro, 0, .restart, 0, 0, 4294967295, false, 0, 0⟩,
   ⟨0x1100, 0x53, .u32, .ro, 0, .restart, 0, 0, 4294967295, false, 0, 0⟩,
   ⟨0x1100, 0x54, .u32, .ro, 0, .restart, 0, 0, 4294967295, false, 0, 0⟩,
   ⟨0x1100, 0x55, .u32, .ro, 0, .restart, 0, 0, 4294967295, false, 0, 0⟩,
   ⟨0x1101, 0x01, .u8, .wo, 2, .boundary, 0, 1, 6, false, 0, 0⟩,
   ⟨0x1101, 0x02, .u8, .ro, 0, .immediate, 0, 0, 255, false, 0, 0⟩,
   ⟨0x1101, 0x03, .u64, .ro, 0, .immediate, 0, 0, 18446744073709551615, false, 0, 0⟩,
   ⟨0x1102, 0x01, .bool, .rw, 3, .restart, 0, 0, 1, true, 0, 0⟩] ++
  [⟨0x1102, 0x02, .bool, .rw, 3, .immediate, 0, 0, 1, true, 0, 0⟩,
   ⟨0x1102, 0x03, .u8, .rw, 3, .immediate, 3, 1, 10, true, 0, 0⟩,
   ⟨0x1180, 0x01, .u8, .rw, 3, .stop, 0, 0, 1, true, 0, 0⟩,
   ⟨0x1180, 0x11, .u8, .ro, 0, .immediate, 0, 0, 255, false, 0, 0⟩]

/-- The objects of indices 0x1200 to 0x12FF (R398). -/
def odRows12 : List OdRow :=
  [⟨0x1200, 0x01, .u8, .rw, 3, .restart, 255, 0, 255, true, 0, 0⟩,
   ⟨0x1200, 0x02, .bool, .rw, 3, .immediate, 0, 0, 1, true, 0, 0⟩,
   ⟨0x1200, 0x03, .u32, .rw, 3, .restart, 0, 0, 4294967295, true, 0, 0⟩,
   ⟨0x1200, 0x04, .u16, .rw, 3, .immediate, 60, 10, 3600, true, 0, 0⟩,
   ⟨0x1200, 0x05, .u16, .rw, 3, .immediate, 200, 10, 2000, true, 0, 0⟩,
   ⟨0x1200, 0x06, .u8, .rw, 3, .immediate, 32, 1, 255, true, 0, 0⟩,
   ⟨0x1200, 0x07, .u8, .wo, 3, .stop, 0, 1, 1, false, 0, 0⟩,
   ⟨0x1200, 0x08, .ostring, .wo, 3, .immediate, 0, 0, 0, true, 32, 1⟩,
   ⟨0x1200, 0x0C, .u8, .rw, 3, .immediate, 0, 0, 2, true, 0, 0⟩,
   ⟨0x1200, 0x0D, .u8, .rw, 3, .immediate, 0, 0, 2, true, 0, 0⟩,
   ⟨0x1200, 0x10, .u64, .ro, 0, .immediate, 0, 0, 18446744073709551615, false, 0, 0⟩,
   ⟨0x1200, 0x18, .u32, .ro, 0, .immediate, 0, 0, 4294967295, false, 0, 0⟩,
   ⟨0x1200, 0x19, .u32, .ro, 0, .immediate, 0, 0, 4294967295, false, 0, 0⟩]

/-- The objects of indices 0x1300 to 0x13FF (R398). -/
def odRows13 : List OdRow :=
  [⟨0x1300, 0x01, .domain, .ro, 0, .immediate, 0, 0, 0, false, 1, 16777216⟩,
   ⟨0x1300, 0x02, .u16, .ro, 0, .immediate, 0, 0, 65535, false, 0, 0⟩,
   ⟨0x1300, 0x03, .u32, .ro, 0, .immediate, 0, 0, 4294967295, false, 0, 0⟩,
   ⟨0x1300, 0x04, .u32, .ro, 0, .immediate, 0, 0, 4294967295, false, 0, 0⟩]

/-- The objects of indices 0x2000 to 0x20FF (R398). -/
def odRows20 : List OdRow :=
  [⟨0x2000, 0x01, .u8, .ro, 0, .immediate, 0, 0, 255, false, 0, 0⟩,
   ⟨0x2000, 0x02, .u8, .ro, 0, .immediate, 0, 0, 255, false, 0, 0⟩,
   ⟨0x2000, 0x03, .u8, .ro, 0, .immediate, 0, 0, 255, false, 0, 0⟩,
   ⟨0x2000, 0x04, .u8, .rw, 3, .boundary, 3, 1, 10, true, 0, 0⟩,
   ⟨0x2000, 0x05, .u8, .ro, 0, .immediate, 0, 0, 255, false, 0, 0⟩,
   ⟨0x2000, 0x06, .u8, .ro, 0, .immediate, 0, 0, 255, false, 0, 0⟩,
   ⟨0x2000, 0x07, .u8, .ro, 0, .immediate, 0, 0, 255, false, 0, 0⟩,
   ⟨0x2000, 0x08, .u8, .wo, 2, .boundary, 0, 1, 3, false, 0, 0⟩,
   ⟨0x2000, 0x09, .u16, .ro, 0, .immediate, 0, 0, 65535, false, 0, 0⟩,
   ⟨0x2000, 0x0A, .u16, .ro, 0, .immediate, 0, 0, 65535, false, 0, 0⟩,
   ⟨0x2000, 0x0B, .u16, .ro, 0, .immediate, 0, 0, 65535, false, 0, 0⟩,
   ⟨0x2000, 0x0C, .u8, .ro, 0, .immediate, 0, 0, 255, false, 0, 0⟩,
   ⟨0x2000, 0x0D, .u8, .ro, 0, .immediate, 0, 0, 255, false, 0, 0⟩,
   ⟨0x2000, 0x0E, .u8, .ro, 0, .immediate, 0, 0, 255, false, 0, 0⟩,
   ⟨0x2000, 0x0F, .u32, .ro, 0, .immediate, 0, 0, 4294967295, false, 0, 0⟩,
   ⟨0x2000, 0x10, .u32, .ro, 0, .boundary, 0, 0, 4294967295, false, 0, 0⟩,
   ⟨0x2000, 0x20, .domain, .ro, 2, .immediate, 0, 0, 0, false, 1, 16777216⟩,
   ⟨0x2001, 0x01, .u64, .ro, 0, .immediate, 0, 0, 18446744073709551615, false, 0, 0⟩,
   ⟨0x2001, 0x02, .u64, .ro, 0, .immediate, 0, 0, 18446744073709551615, false, 0, 0⟩,
   ⟨0x2001, 0x03, .u64, .ro, 0, .immediate, 0, 0, 18446744073709551615, false, 0, 0⟩,
   ⟨0x2001, 0x04, .u64, .ro, 0, .immediate, 0, 0, 18446744073709551615, false, 0, 0⟩,
   ⟨0x2001, 0x05, .u64, .ro, 0, .immediate, 0, 0, 18446744073709551615, false, 0, 0⟩,
   ⟨0x2001, 0x06, .u64, .ro, 0, .immediate, 0, 0, 18446744073709551615, false, 0, 0⟩,
   ⟨0x2001, 0x07, .u64, .ro, 0, .immediate, 0, 0, 18446744073709551615, false, 0, 0⟩,
   ⟨0x2001, 0x08, .u64, .ro, 0, .immediate, 0, 0, 18446744073709551615, false, 0, 0⟩,
   ⟨0x2001, 0x09, .u64, .ro, 0, .immediate, 0, 0, 18446744073709551615, false, 0, 0⟩,
   ⟨0x2001, 0x0A, .u64, .ro, 0, .immediate, 0, 0, 18446744073709551615, false, 0, 0⟩,
   ⟨0x2001, 0x0B, .u64, .ro, 0, .immediate, 0, 0, 18446744073709551615, false, 0, 0⟩,
   ⟨0x2001, 0x0C, .u64, .ro, 0, .immediate, 0, 0, 18446744073709551615, false, 0, 0⟩,
   ⟨0x2002, 0x01, .u16, .rw, 3, .stop, 30, 0, 200, true, 0, 0⟩] ++
  [⟨0x2002, 0x02, .u32, .ro, 0, .boundary, 0, 0, 4294967295, false, 0, 0⟩,
   ⟨0x2002, 0x03, .u16, .ro, 0, .restart, 30, 0, 65535, false, 0, 0⟩,
   ⟨0x2003, 0x01, .u8, .ro, 0, .boundary, 7, 0, 255, false, 0, 0⟩,
   ⟨0x2003, 0x02, .u8, .rw, 2, .immediate, 7, 0, 15, false, 0, 0⟩,
   ⟨0x2003, 0x03, .u8, .ro, 0, .boundary, 0, 0, 255, false, 0, 0⟩,
   ⟨0x2003, 0x04, .bool, .rw, 3, .stop, 1, 0, 1, true, 0, 0⟩]

/-- The objects of indices 0x2100 to 0x21FF (R398). -/
def odRows21 : List OdRow :=
  [⟨0x2100, 0x01, .u16, .ro, 0, .restart, 0, 0, 65535, false, 0, 0⟩,
   ⟨0x2100, 0x02, .u16, .ro, 0, .restart, 0, 0, 65535, false, 0, 0⟩,
   ⟨0x2100, 0x03, .u8, .ro, 0, .restart, 0, 0, 255, false, 0, 0⟩,
   ⟨0x2100, 0x04, .u8, .ro, 0, .restart, 0, 0, 255, false, 0, 0⟩,
   ⟨0x2100, 0x05, .u32, .ro, 0, .restart, 0, 0, 4294967295, false, 0, 0⟩,
   ⟨0x2100, 0x06, .u32, .ro, 0, .restart, 0, 0, 4294967295, false, 0, 0⟩,
   ⟨0x2100, 0x07, .u16, .ro, 0, .restart, 0, 0, 65535, false, 0, 0⟩,
   ⟨0x2100, 0x08, .u8, .ro, 0, .boundary, 0, 0, 255, false, 0, 0⟩,
   ⟨0x2100, 0x09, .u8, .ro, 0, .boundary, 0, 0, 255, false, 0, 0⟩,
   ⟨0x2100, 0x0A, .u8, .ro, 0, .boundary, 0, 0, 255, false, 0, 0⟩,
   ⟨0x2100, 0x0B, .u32, .ro, 0, .boundary, 0, 0, 4294967295, false, 0, 0⟩,
   ⟨0x2100, 0x0C, .u32, .ro, 0, .boundary, 0, 0, 4294967295, false, 0, 0⟩,
   ⟨0x2100, 0x0D, .u32, .ro, 0, .immediate, 0, 0, 4294967295, false, 0, 0⟩,
   ⟨0x2100, 0x0E, .u8, .wo, 2, .boundary, 0, 1, 3, false, 0, 0⟩,
   ⟨0x2100, 0x0F, .u16, .ro, 0, .restart, 0, 0, 65535, false, 0, 0⟩,
   ⟨0x2100, 0x10, .u32, .ro, 0, .restart, 0, 0, 4294967295, false, 0, 0⟩,
   ⟨0x2100, 0x11, .u32, .ro, 0, .restart, 0, 0, 4294967295, false, 0, 0⟩]

/-- The objects of indices 0x2200 to 0x22FF (R398). -/
def odRows22 : List OdRow :=
  [⟨0x2200, 0x01, .u8, .rw, 1, .boundary, 0, 0, 3, false, 0, 0⟩,
   ⟨0x2200, 0x02, .u16, .rw, 1, .boundary, 0, 0, 16383, false, 0, 0⟩,
   ⟨0x2200, 0x03, .u64, .rw, 1, .boundary, 0, 0, 18446744073709551615, false, 0, 0⟩,
   ⟨0x2200, 0x04, .u8, .wo, 1, .boundary, 0, 1, 2, false, 0, 0⟩,
   ⟨0x2200, 0x05, .u8, .ro, 0, .boundary, 0, 0, 255, false, 0, 0⟩,
   ⟨0x2200, 0x06, .u64, .ro, 0, .boundary, 0, 0, 18446744073709551615, false, 0, 0⟩,
   ⟨0x2200, 0x07, .u8, .ro, 0, .immediate, 0, 0, 255, false, 0, 0⟩]

/-- The objects of indices 0x2300 to 0x23FF (R398). -/
def odRows23 : List OdRow :=
  [⟨0x2300, 0x01, .domain, .rw, 1, .immediate, 0, 0, 0, false, 16, 64⟩,
   ⟨0x2300, 0x02, .u64, .rw, 1, .immediate, 0, 0, 18446744073709551615, false, 0, 0⟩,
   ⟨0x2300, 0x03, .u8, .wo, 1, .immediate, 0, 1, 2, false, 0, 0⟩,
   ⟨0x2300, 0x04, .u8, .ro, 0, .immediate, 0, 0, 255, false, 0, 0⟩,
   ⟨0x2300, 0x05, .u8, .ro, 0, .immediate, 0, 0, 255, false, 0, 0⟩,
   ⟨0x2300, 0x06, .u64, .ro, 0, .immediate, 0, 0, 18446744073709551615, false, 0, 0⟩,
   ⟨0x2300, 0x07, .u32, .ro, 0, .immediate, 0, 0, 4294967295, false, 0, 0⟩,
   ⟨0x2300, 0x08, .domain, .ro, 0, .boundary, 0, 0, 0, false, 1, 16777216⟩]

/-- The objects of indices 0x3000 to 0x30FF (R398). -/
def odRows30 : List OdRow :=
  [⟨0x3001, 0x01, .u16, .rw, 3, .stop, 240, 240, 1100, true, 0, 0⟩,
   ⟨0x3001, 0x02, .u8, .rw, 3, .stop, 32, 0, 128, true, 0, 0⟩,
   ⟨0x3001, 0x03, .u8, .rw, 3, .stop, 0, 0, 1, true, 0, 0⟩,
   ⟨0x3001, 0x04, .u16, .ro, 0, .boundary, 0, 0, 65535, false, 0, 0⟩,
   ⟨0x3001, 0x05, .u64, .ro, 0, .boundary, 0, 0, 18446744073709551615, false, 0, 0⟩,
   ⟨0x3001, 0x06, .u32, .ro, 0, .immediate, 0, 0, 4294967295, false, 0, 0⟩,
   ⟨0x3001, 0x07, .u32, .ro, 0, .immediate, 0, 0, 4294967295, false, 0, 0⟩,
   ⟨0x3001, 0x08, .u32, .ro, 0, .immediate, 0, 0, 4294967295, false, 0, 0⟩,
   ⟨0x3001, 0x10, .u8, .rw, 3, .stop, 20, 5, 200, true, 0, 0⟩,
   ⟨0x3001, 0x11, .bool, .rw, 3, .stop, 0, 0, 1, true, 0, 0⟩,
   ⟨0x3001, 0x12, .u8, .ro, 0, .immediate, 0, 0, 255, false, 0, 0⟩,
   ⟨0x3001, 0x13, .u32, .ro, 0, .immediate, 0, 0, 4294967295, false, 0, 0⟩,
   ⟨0x3001, 0x14, .u16, .ro, 0, .boundary, 0, 0, 65535, false, 0, 0⟩,
   ⟨0x3001, 0x15, .u16, .ro, 0, .boundary, 0, 0, 65535, false, 0, 0⟩,
   ⟨0x3001, 0x16, .bool, .ro, 0, .boundary, 0, 0, 1, false, 0, 0⟩,
   ⟨0x3001, 0x17, .u32, .ro, 0, .immediate, 0, 0, 4294967295, false, 0, 0⟩]

/-- The objects of indices 0x3100 to 0x31FF (R398). -/
def odRows31 : List OdRow :=
  [⟨0x3100, 0x01, .u8, .rw, 3, .stop, 0, 0, 255, true, 0, 0⟩,
   ⟨0x3100, 0x02, .bool, .rw, 2, .boundary, 0, 0, 1, true, 0, 0⟩,
   ⟨0x3100, 0x03, .u8, .rw, 2, .stop, 0, 0, 2, true, 0, 0⟩,
   ⟨0x3100, 0x04, .u16, .rw, 2, .boundary, 0, 0, 65535, true, 0, 0⟩,
   ⟨0x3100, 0x05, .u16, .rw, 2, .boundary, 0, 0, 65535, true, 0, 0⟩,
   ⟨0x3100, 0x06, .u8, .rw, 2, .stop, 0, 0, 2, true, 0, 0⟩,
   ⟨0x3100, 0x07, .u16, .rw, 2, .boundary, 100, 10, 5000, true, 0, 0⟩,
   ⟨0x3100, 0x08, .u64, .ro, 0, .boundary, 0, 0, 18446744073709551615, false, 0, 0⟩,
   ⟨0x3100, 0x09, .u64, .ro, 0, .boundary, 0, 0, 18446744073709551615, false, 0, 0⟩,
   ⟨0x3100, 0x0A, .u16, .ro, 0, .boundary, 0, 0, 65535, false, 0, 0⟩,
   ⟨0x3100, 0x10, .u8, .rw, 3, .stop, 0, 0, 2, true, 0, 0⟩,
   ⟨0x3100, 0x11, .u16, .rw, 2, .stop, 750, 50, 750, true, 0, 0⟩,
   ⟨0x3100, 0x12, .u8, .rw, 2, .stop, 20, 1, 100, true, 0, 0⟩,
   ⟨0x3100, 0x13, .bool, .rw, 2, .boundary, 1, 0, 1, true, 0, 0⟩,
   ⟨0x3100, 0x14, .bool, .rw, 2, .boundary, 0, 0, 1, true, 0, 0⟩,
   ⟨0x3100, 0x15, .u16, .ro, 0, .boundary, 0, 0, 65535, false, 0, 0⟩,
   ⟨0x3100, 0x16, .u16, .ro, 0, .immediate, 0, 0, 65535, false, 0, 0⟩,
   ⟨0x3100, 0x17, .u32, .ro, 0, .immediate, 0, 0, 4294967295, false, 0, 0⟩,
   ⟨0x3100, 0x18, .u32, .ro, 0, .immediate, 0, 0, 4294967295, false, 0, 0⟩,
   ⟨0x3100, 0x19, .u16, .rw, 3, .restart, 65535, 0, 65535, true, 0, 0⟩]

/-- The objects of indices 0x3200 to 0x32FF (R398). -/
def odRows32 : List OdRow :=
  [⟨0x3200, 0x01, .ostring, .rw, 2, .bank, 0, 0, 0, true, 16, 1⟩,
   ⟨0x3210, 0x01, .ostring, .rw, 2, .bank, 0, 0, 0, true, 16, 1⟩,
   ⟨0x3220, 0x01, .u8, .ro, 0, .boundary, 0, 0, 255, false, 0, 0⟩,
   ⟨0x3220, 0x09, .u8, .wo, 2, .immediate, 0, 0, 255, false, 0, 0⟩,
   ⟨0x3220, 0x0A, .u64, .ro, 0, .immediate, 0, 0, 18446744073709551615, false, 0, 0⟩,
   ⟨0x3220, 0x0B, .u8, .ro, 0, .immediate, 0, 0, 255, false, 0, 0⟩]

/-- The objects of indices 0x4000 to 0x40FF (R398). -/
def odRows40 : List OdRow :=
  [⟨0x4000, 0x01, .u32, .ro, 0, .immediate, 0, 0, 4294967295, false, 0, 0⟩,
   ⟨0x4000, 0x02, .i16, .ro, 0, .immediate, 0, -32768, 32767, false, 0, 0⟩,
   ⟨0x4000, 0x03, .u64, .ro, 0, .immediate, 0, 0, 18446744073709551615, false, 0, 0⟩,
   ⟨0x4000, 0x04, .u32, .ro, 0, .immediate, 0, 0, 4294967295, false, 0, 0⟩,
   ⟨0x4000, 0x05, .u32, .ro, 0, .immediate, 0, 0, 4294967295, false, 0, 0⟩,
   ⟨0x4000, 0x06, .u32, .ro, 0, .immediate, 0, 0, 4294967295, false, 0, 0⟩,
   ⟨0x4000, 0x07, .u8, .ro, 0, .immediate, 0, 0, 255, false, 0, 0⟩,
   ⟨0x4001, 0x01, .u32, .ro, 0, .immediate, 0, 0, 4294967295, false, 0, 0⟩]

/-- The objects of indices 0x4100 to 0x41FF (R398). -/
def odRows41 : List OdRow :=
  [⟨0x4100, 0x00, .domain, .rw, 3, .stop, 0, 0, 0, false, 1, 32768⟩,
   ⟨0x4101, 0x01, .ostring, .ro, 0, .immediate, 0, 0, 0, false, 32, 1⟩,
   ⟨0x4101, 0x02, .ostring, .ro, 3, .immediate, 0, 0, 0, false, 32, 1⟩,
   ⟨0x4101, 0x03, .ostring, .wo, 3, .immediate, 0, 0, 0, false, 32, 1⟩,
   ⟨0x4101, 0x04, .u8, .ro, 0, .immediate, 0, 0, 255, false, 0, 0⟩,
   ⟨0x4101, 0x05, .u8, .ro, 0, .immediate, 0, 0, 255, false, 0, 0⟩]

/-- The objects of indices 0x5000 to 0x50FF (R398). -/
def odRows50 : List OdRow :=
  [⟨0x5000, 0x01, .u16, .rw, 3, .restart, 0, 0, 65534, true, 0, 0⟩,
   ⟨0x5000, 0x02, .u16, .rw, 3, .restart, 1, 1, 4094, true, 0, 0⟩,
   ⟨0x5000, 0x03, .u32, .rw, 3, .immediate, 300, 10, 1000000, true, 0, 0⟩,
   ⟨0x5000, 0x04, .u16, .ro, 0, .immediate, 0, 0, 65535, false, 0, 0⟩,
   ⟨0x5000, 0x05, .domain, .rw, 3, .restart, 0, 0, 0, true, 4, 256⟩,
   ⟨0x5000, 0x06, .domain, .rw, 3, .restart, 0, 0, 0, true, 12, 256⟩,
   ⟨0x5000, 0x10, .u8, .ro, 0, .immediate, 0, 0, 255, false, 0, 0⟩,
   ⟨0x5000, 0x11, .bool, .rw, 3, .restart, 1, 0, 1, true, 0, 0⟩,
   ⟨0x5000, 0x12, .u16, .rw, 3, .restart, 1, 1, 4094, true, 0, 0⟩,
   ⟨0x5000, 0x13, .u32, .rw, 3, .restart, 16434824, 0, 16777215, true, 0, 0⟩,
   ⟨0x5000, 0x14, .u16, .rw, 3, .immediate, 200, 1, 2500, true, 0, 0⟩,
   ⟨0x5000, 0x15, .u16, .rw, 3, .immediate, 64, 4, 256, true, 0, 0⟩,
   ⟨0x5000, 0x16, .u16, .rw, 3, .immediate, 100, 1, 1000, true, 0, 0⟩,
   ⟨0x5000, 0x17, .u64, .ro, 0, .immediate, 0, 0, 18446744073709551615, false, 0, 0⟩,
   ⟨0x5000, 0x18, .u64, .ro, 0, .immediate, 0, 0, 18446744073709551615, false, 0, 0⟩,
   ⟨0x5000, 0x19, .u64, .ro, 0, .immediate, 0, 0, 18446744073709551615, false, 0, 0⟩,
   ⟨0x5000, 0x1A, .u64, .ro, 0, .immediate, 0, 0, 18446744073709551615, false, 0, 0⟩]

/-- The objects of indices 0x5100 to 0x51FF (R398). -/
def odRows51 : List OdRow :=
  [⟨0x5100, 0x01, .u8, .rw, 3, .stop, 1, 1, 64, true, 0, 0⟩,
   ⟨0x5100, 0x02, .u8, .rw, 3, .stop, 1, 0, 2, true, 0, 0⟩,
   ⟨0x5100, 0x03, .domain, .rw, 3, .stop, 0, 0, 0, true, 32, 2048⟩,
   ⟨0x5100, 0x04, .u32, .ro, 0, .restart, 0, 0, 4294967295, false, 0, 0⟩,
   ⟨0x5100, 0x05, .u8, .rw, 3, .restart, 0, 0, 4, true, 0, 0⟩,
   ⟨0x5100, 0x06, .domain, .rw, 3, .restart, 0, 0, 0, true, 2, 3⟩,
   ⟨0x5100, 0x07, .u8, .ro, 0, .boundary, 0, 0, 255, false, 0, 0⟩,
   ⟨0x5100, 0x08, .u16, .ro, 0, .boundary, 65535, 0, 65535, false, 0, 0⟩,
   ⟨0x5100, 0x09, .u8, .ro, 0, .restart, 0, 0, 255, false, 0, 0⟩,
   ⟨0x5100, 0x0A, .u8, .ro, 0, .restart, 0, 0, 255, false, 0, 0⟩,
   ⟨0x5100, 0x0B, .u32, .ro, 0, .immediate, 0, 0, 4294967295, false, 0, 0⟩,
   ⟨0x5100, 0x0C, .domain, .ro, 0, .immediate, 0, 0, 0, false, 1, 16777216⟩,
   ⟨0x5101, 0x00, .domain, .rw, 3, .stop, 0, 0, 0, true, 8, 2048⟩]

/-- The objects of indices 0x5200 to 0x52FF (R398). -/
def odRows52 : List OdRow :=
  [⟨0x5200, 0x01, .u16, .rw, 3, .restart, 2000, 500, 10000, true, 0, 0⟩,
   ⟨0x5200, 0x02, .u16, .rw, 3, .restart, 2000, 1000, 20000, true, 0, 0⟩,
   ⟨0x5200, 0x03, .u8, .ro, 0, .immediate, 1, 0, 255, false, 0, 0⟩,
   ⟨0x5200, 0x04, .u32, .ro, 0, .immediate, 0, 0, 4294967295, false, 0, 0⟩,
   ⟨0x5200, 0x05, .u64, .ro, 0, .immediate, 0, 0, 18446744073709551615, false, 0, 0⟩,
   ⟨0x5200, 0x06, .u32, .ro, 0, .immediate, 0, 0, 4294967295, false, 0, 0⟩]

/-- The objects of indices 0x5300 to 0x53FF (R398). -/
def odRows53 : List OdRow :=
  [⟨0x5300, 0x01, .u8, .rw, 3, .stop, 0, 0, 2, true, 0, 0⟩,
   ⟨0x5300, 0x02, .u8, .rw, 3, .stop, 0, 0, 2, true, 0, 0⟩,
   ⟨0x5300, 0x03, .u64, .ro, 0, .immediate, 0, 0, 18446744073709551615, false, 0, 0⟩,
   ⟨0x5300, 0x04, .domain, .ro, 0, .immediate, 0, 0, 0, false, 1, 16777216⟩]

/-- The objects of indices 0x5400 to 0x54FF (R398). -/
def odRows54 : List OdRow :=
  [⟨0x5400, 0x01, .domain, .rw, 3, .restart, 0, 0, 0, true, 32, 1024⟩,
   ⟨0x5400, 0x02, .domain, .rw, 3, .restart, 0, 0, 0, true, 32, 1024⟩,
   ⟨0x5400, 0x03, .domain, .rw, 3, .restart, 0, 0, 0, true, 8, 16384⟩,
   ⟨0x5400, 0x04, .u32, .rw, 3, .boundary, 0, 0, 4294967295, true, 0, 0⟩,
   ⟨0x5400, 0x05, .u32, .rw, 3, .boundary, 0, 0, 4294967295, true, 0, 0⟩,
   ⟨0x5400, 0x06, .u32, .rw, 3, .restart, 0, 0, 4294967295, true, 0, 0⟩,
   ⟨0x5400, 0x07, .u32, .rw, 3, .restart, 4294901760, 0, 4294967295, true, 0, 0⟩,
   ⟨0x5400, 0x08, .u8, .ro, 0, .restart, 0, 0, 255, false, 0, 0⟩,
   ⟨0x5400, 0x09, .u8, .ro, 0, .restart, 0, 0, 255, false, 0, 0⟩,
   ⟨0x5400, 0x10, .u64, .ro, 0, .immediate, 0, 0, 18446744073709551615, false, 0, 0⟩,
   ⟨0x5400, 0x11, .u64, .ro, 0, .immediate, 0, 0, 18446744073709551615, false, 0, 0⟩,
   ⟨0x5400, 0x12, .u32, .ro, 0, .immediate, 0, 0, 4294967295, false, 0, 0⟩,
   ⟨0x5400, 0x13, .u32, .ro, 0, .immediate, 0, 0, 4294967295, false, 0, 0⟩,
   ⟨0x5480, 0x01, .bool, .rw, 3, .restart, 1, 0, 1, true, 0, 0⟩,
   ⟨0x5480, 0x02, .u16, .rw, 3, .immediate, 5000, 100, 60000, true, 0, 0⟩,
   ⟨0x5480, 0x03, .u16, .rw, 3, .immediate, 1000, 100, 60000, true, 0, 0⟩,
   ⟨0x5480, 0x04, .u8, .ro, 0, .immediate, 0, 0, 255, false, 0, 0⟩,
   ⟨0x5480, 0x05, .u32, .ro, 0, .immediate, 0, 0, 4294967295, false, 0, 0⟩]

/-- The objects of indices 0x5500 to 0x55FF (R398). -/
def odRows55 : List OdRow :=
  [⟨0x5500, 0x01, .ostring, .rw, 3, .restart, 0, 0, 0, true, 40, 1⟩,
   ⟨0x5500, 0x10, .u64, .ro, 0, .immediate, 0, 0, 18446744073709551615, false, 0, 0⟩,
   ⟨0x5500, 0x11, .u64, .ro, 0, .immediate, 0, 0, 18446744073709551615, false, 0, 0⟩,
   ⟨0x5500, 0x12, .u32, .ro, 0, .immediate, 0, 0, 4294967295, false, 0, 0⟩,
   ⟨0x5500, 0x13, .u32, .ro, 0, .immediate, 0, 0, 4294967295, false, 0, 0⟩,
   ⟨0x5500, 0x14, .u32, .ro, 0, .immediate, 0, 0, 4294967295, false, 0, 0⟩]

/-- The objects of indices 0x5600 to 0x56FF (R398). -/
def odRows56 : List OdRow :=
  [⟨0x5600, 0x01, .bool, .rw, 3, .restart, 0, 0, 1, true, 0, 0⟩,
   ⟨0x5600, 0x02, .u16, .rw, 3, .restart, 1, 1, 4095, true, 0, 0⟩,
   ⟨0x5600, 0x03, .domain, .rw, 3, .restart, 0, 0, 0, true, 16, 256⟩,
   ⟨0x5600, 0x04, .u8, .ro, 0, .immediate, 0, 0, 255, false, 0, 0⟩,
   ⟨0x5600, 0x05, .u8, .ro, 0, .immediate, 0, 0, 255, false, 0, 0⟩,
   ⟨0x5600, 0x06, .u32, .ro, 0, .immediate, 0, 0, 4294967295, false, 0, 0⟩,
   ⟨0x5600, 0x07, .u32, .ro, 0, .immediate, 0, 0, 4294967295, false, 0, 0⟩,
   ⟨0x5600, 0x08, .u8, .ro, 0, .immediate, 0, 0, 255, false, 0, 0⟩,
   ⟨0x5600, 0x09, .u16, .ro, 0, .restart, 0, 0, 65535, false, 0, 0⟩]

/-- The objects of indices 0x5700 to 0x57FF (R398). -/
def odRows57 : List OdRow :=
  [⟨0x5700, 0x11, .bool, .rw, 3, .restart, 0, 0, 1, true, 0, 0⟩,
   ⟨0x5700, 0x12, .u8, .rw, 3, .restart, 1, 1, 127, true, 0, 0⟩,
   ⟨0x5700, 0x13, .u8, .rw, 3, .restart, 2, 0, 3, true, 0, 0⟩,
   ⟨0x5700, 0x14, .u8, .rw, 3, .restart, 0, 0, 3, true, 0, 0⟩,
   ⟨0x5700, 0x15, .u16, .rw, 3, .restart, 0, 0, 1024, true, 0, 0⟩,
   ⟨0x5700, 0x16, .u8, .rw, 3, .restart, 0, 0, 240, true, 0, 0⟩,
   ⟨0x5700, 0x17, .u16, .rw, 3, .immediate, 100, 0, 65535, true, 0, 0⟩,
   ⟨0x5700, 0x18, .domain, .rw, 3, .restart, 0, 0, 0, true, 16, 128⟩,
   ⟨0x5700, 0x19, .domain, .rw, 3, .restart, 0, 0, 0, true, 4, 32⟩,
   ⟨0x5700, 0x1A, .u8, .ro, 0, .immediate, 3, 0, 255, false, 0, 0⟩,
   ⟨0x5700, 0x1B, .u32, .ro, 0, .immediate, 0, 0, 4294967295, false, 0, 0⟩,
   ⟨0x5700, 0x1C, .u32, .ro, 0, .immediate, 0, 0, 4294967295, false, 0, 0⟩]

/-- The objects of indices 0x6000 to 0x60FF (R398). -/
def odRows60 : List OdRow :=
  [⟨0x6000, 0x01, .u8, .ro, 0, .immediate, 0, 0, 255, false, 0, 0⟩,
   ⟨0x6000, 0x02, .u32, .ro, 0, .boundary, 0, 0, 4294967295, false, 0, 0⟩,
   ⟨0x6000, 0x03, .time64, .ro, 0, .immediate, 0, -9223372036854775808, 9223372036854775807, false, 0, 0⟩,
   ⟨0x6000, 0x04, .i32, .ro, 0, .immediate, 0, -2147483648, 2147483647, false, 0, 0⟩,
   ⟨0x6000, 0x05, .i32, .ro, 0, .immediate, 0, -2147483648, 2147483647, false, 0, 0⟩,
   ⟨0x6000, 0x06, .u32, .ro, 0, .immediate, 0, 0, 4294967295, false, 0, 0⟩,
   ⟨0x6000, 0x07, .u64, .ro, 0, .immediate, 0, 0, 18446744073709551615, false, 0, 0⟩,
   ⟨0x6000, 0x08, .i16, .ro, 0, .boundary, 37, -32768, 32767, false, 0, 0⟩,
   ⟨0x6000, 0x09, .i16, .rw, 3, .immediate, 37, 0, 255, true, 0, 0⟩,
   ⟨0x6000, 0x0A, .u32, .ro, 0, .immediate, 0, 0, 4294967295, false, 0, 0⟩,
   ⟨0x6000, 0x0B, .i64, .ro, 0, .immediate, 0, -9223372036854775808, 9223372036854775807, false, 0, 0⟩,
   ⟨0x6000, 0x0C, .u16, .rw, 2, .immediate, 16, 1, 1000, false, 0, 0⟩,
   ⟨0x6000, 0x0D, .i32, .rw, 2, .immediate, 0, -100000, 100000, false, 0, 0⟩,
   ⟨0x6000, 0x0E, .i64, .ro, 0, .immediate, 0, -9223372036854775808, 9223372036854775807, false, 0, 0⟩,
   ⟨0x6000, 0x10, .u8, .wo, 3, .boundary, 0, 1, 1, false, 0, 0⟩,
   ⟨0x6000, 0x11, .u8, .ro, 0, .immediate, 0, 0, 255, false, 0, 0⟩,
   ⟨0x6001, 0x01, .u8, .rw, 3, .restart, 0, 0, 127, true, 0, 0⟩,
   ⟨0x6001, 0x02, .bool, .rw, 3, .restart, 1, 0, 1, true, 0, 0⟩,
   ⟨0x6001, 0x03, .u8, .rw, 3, .restart, 0, 0, 2, true, 0, 0⟩,
   ⟨0x6001, 0x04, .u8, .rw, 3, .restart, 0, 0, 2, true, 0, 0⟩,
   ⟨0x6001, 0x05, .bool, .rw, 3, .restart, 1, 0, 1, true, 0, 0⟩,
   ⟨0x6001, 0x06, .u8, .rw, 3, .restart, 128, 0, 255, true, 0, 0⟩,
   ⟨0x6001, 0x07, .u8, .rw, 3, .restart, 128, 0, 255, true, 0, 0⟩,
   ⟨0x6001, 0x08, .i8, .rw, 3, .restart, -3, -7, 0, true, 0, 0⟩,
   ⟨0x6001, 0x09, .i8, .rw, 3, .restart, 0, -3, 3, true, 0, 0⟩,
   ⟨0x6001, 0x0A, .i8, .rw, 3, .restart, 0, -3, 5, true, 0, 0⟩,
   ⟨0x6001, 0x0B, .u8, .rw, 3, .restart, 0, 0, 1, true, 0, 0⟩,
   ⟨0x6001, 0x0C, .u8, .ro, 0, .immediate, 0, 0, 255, false, 0, 0⟩,
   ⟨0x6001, 0x0D, .i32, .ro, 0, .immediate, 0, -2147483648, 2147483647, false, 0, 0⟩,
   ⟨0x6001, 0x0E, .u64, .ro, 0, .immediate, 0, 0, 18446744073709551615, false, 0, 0⟩] ++
  [⟨0x6001, 0x0F, .u32, .ro, 0, .immediate, 0, 0, 4294967295, false, 0, 0⟩,
   ⟨0x6001, 0x21, .u8, .rw, 3, .immediate, 0, 0, 1, true, 0, 0⟩,
   ⟨0x6001, 0x22, .bool, .rw, 3, .restart, 1, 0, 1, true, 0, 0⟩,
   ⟨0x6002, 0x01, .u32, .rw, 3, .immediate, 1000, 100, 1000000, true, 0, 0⟩,
   ⟨0x6003, 0x01, .i32, .rw, 3, .immediate, 0, -100000, 100000, true, 0, 0⟩,
   ⟨0x6003, 0x10, .u16, .const, 0, .immediate, 0, 0, 65535, false, 0, 0⟩,
   ⟨0x6003, 0x11, .u16, .const, 0, .immediate, 0, 0, 65535, false, 0, 0⟩,
   ⟨0x6003, 0x12, .u16, .const, 0, .immediate, 0, 0, 65535, false, 0, 0⟩,
   ⟨0x6003, 0x13, .u16, .const, 0, .immediate, 0, 0, 65535, false, 0, 0⟩,
   ⟨0x6003, 0x14, .u16, .const, 0, .immediate, 0, 0, 65535, false, 0, 0⟩,
   ⟨0x6003, 0x15, .u16, .const, 0, .immediate, 0, 0, 65535, false, 0, 0⟩]

/-- The objects of indices 0x7000 to 0x70FF (R398). -/
def odRows70 : List OdRow :=
  [⟨0x7000, 0x01, .u32, .ro, 0, .immediate, 0, 0, 4294967295, false, 0, 0⟩,
   ⟨0x7000, 0x02, .domain, .ro, 0, .immediate, 0, 0, 0, false, 1, 16777216⟩,
   ⟨0x7000, 0x03, .domain, .ro, 0, .immediate, 0, 0, 0, false, 1, 16777216⟩,
   ⟨0x7000, 0x04, .domain, .ro, 0, .immediate, 0, 0, 0, false, 1, 16777216⟩,
   ⟨0x7000, 0x05, .domain, .ro, 0, .immediate, 0, 0, 0, false, 1, 16777216⟩,
   ⟨0x7000, 0x06, .domain, .rw, 3, .stop, 0, 0, 0, true, 16, 512⟩,
   ⟨0x7000, 0x07, .u64, .ro, 0, .immediate, 0, 0, 18446744073709551615, false, 0, 0⟩,
   ⟨0x7000, 0x08, .u32, .ro, 0, .immediate, 0, 0, 4294967295, false, 0, 0⟩]

/-- The objects of indices 0x7100 to 0x71FF (R398). -/
def odRows71 : List OdRow :=
  [⟨0x7100, 0x01, .u8, .ro, 0, .immediate, 0, 0, 255, false, 0, 0⟩,
   ⟨0x7100, 0x02, .u8, .wo, 2, .immediate, 0, 1, 1, false, 0, 0⟩,
   ⟨0x7100, 0x03, .u32, .ro, 0, .immediate, 0, 0, 4294967295, false, 0, 0⟩,
   ⟨0x7100, 0x04, .u64, .ro, 0, .immediate, 0, 0, 18446744073709551615, false, 0, 0⟩,
   ⟨0x7140, 0x01, .u64, .rw, 3, .stop, 0, 0, 18446744073709551615, true, 0, 0⟩,
   ⟨0x7140, 0x02, .u16, .rw, 3, .stop, 4, 4, 4096, true, 0, 0⟩,
   ⟨0x7140, 0x03, .u8, .rw, 3, .stop, 0, 0, 3, true, 0, 0⟩,
   ⟨0x7140, 0x04, .u16, .rw, 3, .stop, 4096, 1, 65535, true, 0, 0⟩,
   ⟨0x7140, 0x05, .u8, .rw, 3, .stop, 0, 0, 6, true, 0, 0⟩,
   ⟨0x7140, 0x06, .u16, .ro, 0, .immediate, 0, 0, 65535, false, 0, 0⟩,
   ⟨0x7140, 0x07, .u32, .ro, 0, .immediate, 0, 0, 4294967295, false, 0, 0⟩]

/-- The objects of indices 0x7200 to 0x72FF (R398). -/
def odRows72 : List OdRow :=
  [⟨0x7200, 0x01, .u32, .ro, 0, .immediate, 0, 0, 4294967295, false, 0, 0⟩,
   ⟨0x7200, 0x02, .u8, .ro, 0, .immediate, 0, 0, 255, false, 0, 0⟩,
   ⟨0x7200, 0x03, .u32, .ro, 0, .immediate, 0, 0, 4294967295, false, 0, 0⟩,
   ⟨0x7200, 0x04, .domain, .ro, 0, .immediate, 0, 0, 0, false, 1, 16777216⟩,
   ⟨0x7200, 0x05, .u32, .ro, 0, .immediate, 0, 0, 4294967295, false, 0, 0⟩,
   ⟨0x7200, 0x06, .domain, .ro, 0, .immediate, 0, 0, 0, false, 1, 16777216⟩,
   ⟨0x7200, 0x07, .domain, .ro, 0, .immediate, 0, 0, 0, false, 1, 16777216⟩,
   ⟨0x7200, 0x10, .domain, .rw, 3, .boundary, 0, 0, 0, true, 1, 8⟩,
   ⟨0x7200, 0x11, .u32, .ro, 0, .immediate, 0, 0, 4294967295, false, 0, 0⟩,
   ⟨0x7200, 0x12, .domain, .ro, 0, .immediate, 0, 0, 0, false, 1, 16777216⟩]

/-- The objects of indices 0x7300 to 0x73FF (R398). -/
def odRows73 : List OdRow :=
  [⟨0x7300, 0x01, .u8, .rw, 3, .restart, 0, 0, 3, true, 0, 0⟩,
   ⟨0x7300, 0x02, .u8, .ro, 0, .immediate, 0, 0, 255, false, 0, 0⟩,
   ⟨0x7300, 0x03, .u32, .ro, 0, .boundary, 0, 0, 4294967295, false, 0, 0⟩,
   ⟨0x7300, 0x04, .u8, .ro, 0, .immediate, 0, 0, 255, false, 0, 0⟩,
   ⟨0x7300, 0x05, .u16, .rw, 3, .immediate, 60, 10, 3600, true, 0, 0⟩,
   ⟨0x7300, 0x06, .bool, .rw, 3, .immediate, 1, 0, 1, true, 0, 0⟩,
   ⟨0x7300, 0x07, .u32, .rw, 3, .restart, 0, 0, 4294967295, true, 0, 0⟩,
   ⟨0x7300, 0x08, .u16, .rw, 3, .restart, 0, 0, 65535, true, 0, 0⟩,
   ⟨0x7300, 0x09, .ostring, .wo, 3, .restart, 0, 0, 0, true, 32, 1⟩,
   ⟨0x7300, 0x0A, .bool, .rw, 3, .immediate, 1, 0, 1, true, 0, 0⟩,
   ⟨0x7300, 0x0B, .bool, .rw, 3, .immediate, 0, 0, 1, true, 0, 0⟩,
   ⟨0x7300, 0x0C, .u32, .ro, 0, .immediate, 0, 0, 4294967295, false, 0, 0⟩,
   ⟨0x7300, 0x0D, .u64, .ro, 0, .immediate, 0, 0, 18446744073709551615, false, 0, 0⟩,
   ⟨0x7300, 0x0E, .u8, .wo, 2, .boundary, 0, 1, 3, false, 0, 0⟩,
   ⟨0x7300, 0x0F, .u16, .rw, 3, .immediate, 10, 1, 600, true, 0, 0⟩,
   ⟨0x7300, 0x10, .u32, .ro, 0, .immediate, 0, 0, 4294967295, false, 0, 0⟩,
   ⟨0x7300, 0x11, .u16, .ro, 0, .immediate, 0, 0, 65535, false, 0, 0⟩,
   ⟨0x7300, 0x12, .u32, .ro, 0, .immediate, 0, 0, 4294967295, false, 0, 0⟩,
   ⟨0x7300, 0x13, .u32, .ro, 0, .immediate, 0, 0, 4294967295, false, 0, 0⟩]

/-- The objects of indices 0x8000 to 0x80FF (R398). -/
def odRows80 : List OdRow :=
  [⟨0x8000, 0x01, .u8, .wo, 2, .immediate, 0, 1, 4, false, 0, 0⟩,
   ⟨0x8000, 0x02, .u8, .rw, 2, .immediate, 16, 0, 255, false, 0, 0⟩,
   ⟨0x8000, 0x03, .u8, .rw, 2, .immediate, 0, 0, 1, false, 0, 0⟩,
   ⟨0x8000, 0x04, .u32, .rw, 2, .immediate, 0, 1, 25165824, false, 0, 0⟩,
   ⟨0x8000, 0x05, .u32, .rw, 2, .immediate, 0, 0, 4294967295, false, 0, 0⟩,
   ⟨0x8000, 0x06, .u32, .ro, 0, .immediate, 0, 0, 4294967295, false, 0, 0⟩,
   ⟨0x8000, 0x07, .u32, .ro, 0, .immediate, 0, 0, 4294967295, false, 0, 0⟩,
   ⟨0x8000, 0x08, .domain, .ro, 0, .immediate, 0, 0, 0, false, 1, 16777216⟩,
   ⟨0x8000, 0x09, .u16, .rw, 3, .immediate, 120, 30, 3600, true, 0, 0⟩,
   ⟨0x8000, 0x0A, .u32, .ro, 0, .immediate, 0, 0, 4294967295, false, 0, 0⟩,
   ⟨0x8000, 0x0B, .domain, .rw, 3, .stop, 0, 0, 0, true, 40, 4⟩,
   ⟨0x8010, 0x01, .domain, .wo, 2, .immediate, 0, 0, 0, false, 1, 1036⟩,
   ⟨0x8020, 0x01, .u64, .ro, 0, .immediate, 0, 0, 18446744073709551615, false, 0, 0⟩,
   ⟨0x8020, 0x02, .u64, .ro, 0, .immediate, 0, 0, 18446744073709551615, false, 0, 0⟩,
   ⟨0x8020, 0x03, .u64, .ro, 0, .immediate, 0, 0, 18446744073709551615, false, 0, 0⟩,
   ⟨0x8020, 0x04, .u64, .ro, 0, .immediate, 0, 0, 18446744073709551615, false, 0, 0⟩]

/-- The objects of indices 0x9000 to 0x90FF (R398). -/
def odRows90 : List OdRow :=
  [⟨0x9000, 0x01, .ostring, .ro, 0, .immediate, 0, 0, 0, false, 16, 1⟩]
/-- The rows of the area that an index lies in. -/
def odRowsOf (index : Nat) : List OdRow :=
  let a := index / 256
  if a = 0x10 then odRows10 else if a = 0x11 then odRows11 else if a = 0x12 then odRows12
  else if a = 0x13 then odRows13 else if a = 0x20 then odRows20 else if a = 0x21 then odRows21
  else if a = 0x22 then odRows22 else if a = 0x23 then odRows23 else if a = 0x30 then odRows30
  else if a = 0x31 then odRows31 else if a = 0x32 then odRows32 else if a = 0x40 then odRows40
  else if a = 0x41 then odRows41 else if a = 0x50 then odRows50 else if a = 0x51 then odRows51
  else if a = 0x52 then odRows52 else if a = 0x53 then odRows53 else if a = 0x54 then odRows54
  else if a = 0x55 then odRows55 else if a = 0x56 then odRows56 else if a = 0x57 then odRows57
  else if a = 0x60 then odRows60 else if a = 0x70 then odRows70 else if a = 0x71 then odRows71
  else if a = 0x72 then odRows72 else if a = 0x73 then odRows73 else if a = 0x80 then odRows80
  else if a = 0x90 then odRows90 else []

/-- Every row. -/
def odRows : List OdRow :=
  [0x10, 0x11, 0x12, 0x13, 0x20, 0x21, 0x22, 0x23, 0x30, 0x31, 0x32, 0x40, 0x41, 0x50, 0x51, 0x52, 0x53, 0x54,
   0x55, 0x56, 0x57, 0x60, 0x70, 0x71, 0x72, 0x73, 0x80, 0x90].flatMap (fun a => odRowsOf (a * 256))

/-- Is `x` between `lo` and `hi`? -/
def inR (lo hi x : Nat) : Bool := lo ≤ x && x ≤ hi

/-- The first index and subindex of the family that an address belongs to (R8, R86, R398). -/
def odFold (i u : Nat) : Nat × Nat :=
  if inR 0x2100 0x210F i then (0x2100, u)
  else if inR 0x2200 0x22FF i then (0x2200, u)
  else if inR 0x3001 0x3008 i then (0x3001, u)
  else if inR 0x3100 0x317F i then (0x3100, u)
  else if inR 0x3200 0x3207 i && inR 1 16 u then (0x3200, 1)
  else if inR 0x3210 0x3217 i && inR 1 16 u then (0x3210, 1)
  else if i = 0x3220 && inR 1 8 u then (i, 1)
  else if i = 0x4001 && inR 1 16 u then (i, 1)
  else if i = 0x5000 && inR 0x20 0xAA u then (i, 0x10 + u % 16)
  else if inR 0x5101 0x5107 i then (0x5101, u)
  else if i = 0x5500 && inR 1 8 u then (i, 1)
  else if i = 0x5700 && inR 0x20 0x2F u then (i, 0x10 + u % 16)
  else if i = 0x6001 && inR 0x11 0x1F u then (i, u % 16)
  else if i = 0x6003 && inR 1 7 u then (i, 1)
  else if inR 0x7140 0x717F i then (0x7140, u)
  else if inR 0x9000 0x93FF i && inR 1 16 u then (0x9000, 1)
  else if i = 0x1200 && inR 0x08 0x0B u then (i, 0x08)
  else if i = 0x1200 && inR 0x10 0x17 u then (i, 0x10)
  else if i = 0x1180 && inR 0x01 0x07 u then (i, 0x01)
  else if i = 0x1180 && inR 0x11 0x17 u then (i, 0x11)
  else (i, u)

/-- The row of an address, if the object exists. -/
def odRow (i u : Nat) : Option OdRow :=
  let k := odFold i u
  (odRowsOf i).find? (fun r => r.index = k.1 && r.sub = k.2)

/-- Does an index exist (R398)? -/
def odIndex (i : Nat) : Bool :=
  let k := (odFold i 1).1
  (odRowsOf i).any (fun r => r.index = k)

/-- Is the index a RECORD, whose subindex 0 reads the highest subindex (R377)? -/
def odRecord (i : Nat) : Bool := odIndex i && !(i = 0x4100 || inR 0x5101 0x5107 i)

/-- The value of subindex 0: the "Sub 0" column of R398. -/
def odSub0 (i : Nat) : Nat :=
  if i = 0x1000 then 0x05 else if i = 0x1100 then 0x55 else if i = 0x1101 then 0x03 else if i = 0x1102 then 0x03
  else if i = 0x1180 then 0x17 else if i = 0x1200 then 0x19 else if i = 0x1300 then 0x04 else if i = 0x2000 then 0x20
  else if i = 0x2001 then 0x0C else if i = 0x2002 then 0x03 else if i = 0x2003 then 0x04
  else if inR 0x2100 0x210F i then 0x11 else if inR 0x2200 0x22FF i then 0x07 else if i = 0x2300 then 0x08
  else if inR 0x3001 0x3008 i then 0x17 else if inR 0x3100 0x317F i then 0x19 else if inR 0x3200 0x3217 i then 0x10
  else if i = 0x3220 then 0x0B else if i = 0x4000 then 0x07 else if i = 0x4001 then 0x10 else if i = 0x4101 then 0x05
  else if i = 0x5000 then 0xAA else if i = 0x5100 then 0x0C else if i = 0x5200 then 0x06 else if i = 0x5300 then 0x04
  else if i = 0x5400 then 0x13 else if i = 0x5480 then 0x05 else if i = 0x5500 then 0x14 else if i = 0x5600 then 0x09
  else if i = 0x5700 then 0x2C else if i = 0x6000 then 0x11 else if i = 0x6001 then 0x22 else if i = 0x6002 then 0x01
  else if i = 0x6003 then 0x15 else if i = 0x7000 then 0x08 else if i = 0x7100 then 0x04
  else if inR 0x7140 0x717F i then 0x07 else if i = 0x7200 then 0x12 else if i = 0x7300 then 0x13
  else if i = 0x8000 then 0x0B else if i = 0x8010 then 0x01 else if i = 0x8020 then 0x04
  else if inR 0x9000 0x93FF i then 0x10 else 0

/-- The size of a numeric type in bytes (R378); 0 for the types without one size. -/
def odSize : OdType → Nat
  | .bool | .u8 | .i8 => 1
  | .u16 | .i16 => 2
  | .u32 | .i32 | .f32 => 4
  | .u64 | .i64 | .f64 | .time64 => 8
  | .vstring | .ostring | .domain | .record => 0

/-- Is the type one with a single number? -/
def odNumeric (t : OdType) : Bool := odSize t != 0

/-- Is the type a signed one? -/
def odSigned : OdType → Bool
  | .i8 | .i16 | .i32 | .i64 | .time64 => true
  | .bool | .u8 | .u16 | .u32 | .u64 | .f32 | .f64 | .vstring | .ostring | .domain | .record => false

/-- The number that the bytes of a numeric type hold. -/
def odNumber (t : OdType) (b : Bytes) : Int :=
  if odSigned t then sxt (8 * odSize t) (leNat b) else ((leNat b : Nat) : Int)

/-- The key under which an object's value is kept. -/
def odKey (i u : Nat) : Nat := 256 * i + u

/-- The entry of the beacon stream, the only default entry of the stream table (R245, R253; assumption 20). -/
def beaconStreamEntry : Bytes :=
  [0x03, 0x4A, 0x45, 0x00, 0x00, 0x01] ++ leBytes 2 1 ++ [0x03, 0, 0, 0] ++ leBytes 2 76 ++ leBytes 2 0 ++
    leBytes 2 75 ++ [10, 0] ++ leBytes 2 100 ++ List.replicate 10 0

/-- A window entry of R246. -/
def windowEntry (kind column start length stream classes : Nat) : Nat :=
  kind * 2 ^ 62 + column * 2 ^ 56 + start * 2 ^ 40 + length * 2 ^ 24 + stream * 2 ^ 12 + classes

/-- The windows of the open matrix: window 0, then one ARBITRATING window to the end of the cycle (R247). -/
def openWindows (tb : Nat) : List Nat :=
  [windowEntry 1 0 0 75 0 0, windowEntry 2 0 75 (tb / 40 - 75) 0 0x7F]

/-- The reset entry of a filter bank (R201), bit 127 in the first byte. -/
def resetEntry : BitVec 128 := 0x0100800000000258012C004000000000#128

/-- The default bytes of the objects whose default is no number. -/
def odDefaultBytes (i u : Nat) : Bytes :=
  let k := odFold i u
  if k = (0x3200, 1) ∨ k = (0x3210, 1) then beBytes 16 resetEntry.toNat
  else if k = (0x5000, 0x05) then leBytes 4 (1 * 2 ^ 20 + 0x3FF * 2 ^ 10 + 0x3FF)
  else if k = (0x5100, 0x03) then beaconStreamEntry
  else if k = (0x5100, 0x06) then List.replicate 6 0xFF
  else if k = (0x5101, 0x00) then (openWindows 1000000).flatMap (leBytes 8)
  else if k = (0x5500, 0x01) then List.replicate 27 0 ++ (1 :: List.replicate 12 0)
  else if k = (0x7000, 0x06) then defaultMap
  else if k = (0x7200, 0x10) then List.replicate 8 1
  else []

/-- The default number of an object; a few families have one per member. -/
def odDefaultNum (i u : Nat) (r : OdRow) : Int :=
  let k := odFold i u
  if k = (0x6001, 0x01) then (if u < 16 then 0 else 1)
  else if k = (0x7140, 0x05) then
    let n := i - 0x7140
    if n < 16 then 1 else if n < 32 then 2 else if n < 48 then 3
    else if n < 63 then 4 + (((n - 48) % 3 : Nat) : Int) else 0
  else r.dflt

/-- The default value of an object. -/
def odDefault (i u : Nat) : Bytes :=
  match odRow i u with
  | some r =>
    if odNumeric r.ty then leBytes (odSize r.ty) (wrapNat (8 * odSize r.ty) (odDefaultNum i u r)) else odDefaultBytes i u
  | none => []

/-- The written value of an object: what a read of an RW object returns (R381). -/
def State.odGet (s : State) (i u : Nat) : Bytes := (lookupKey (odKey i u) s.od.values).getD (odDefault i u)

/-- The value of an object timed "at restart" that is in force: the one written before the last restart. -/
def State.odForce (s : State) (i u : Nat) : Bytes := (lookupKey (odKey i u) s.od.inForce).getD (odDefault i u)

/-- The written value as a natural number. -/
def State.odNat (s : State) (i u : Nat) : Nat := leNat (s.odGet i u)

/-- The value in force as a natural number. -/
def State.odForceNat (s : State) (i u : Nat) : Nat := leNat (s.odForce i u)

/-- The written value as a whole number of its type. -/
def State.odInt (s : State) (i u : Nat) : Int :=
  match odRow i u with
  | some r => odNumber r.ty (s.odGet i u)
  | none => 0

/-- The value in force as a whole number of its type. -/
def State.odForceInt (s : State) (i u : Nat) : Int :=
  match odRow i u with
  | some r => odNumber r.ty (s.odForce i u)
  | none => 0

/-- The written value as a truth value. -/
def State.odBool (s : State) (i u : Nat) : Bool := s.odNat i u != 0

/-- The value in force as a truth value. -/
def State.odForceBool (s : State) (i u : Nat) : Bool := s.odForceNat i u != 0

/-- Writes the value of an object. -/
def State.odSet (s : State) (i u : Nat) (v : Bytes) : State :=
  { s with od := { s.od with values := setKey (odKey i u) v s.od.values } }

/-- The entries of a DOMAIN of fixed-size entries. -/
def chunksOf (n : Nat) (b : Bytes) : List Bytes := tabulate (b.length / n) (fun k => slice b (n * k) n)

/-- The channel object index of a channel (R8). -/
def chIndex (ch : Fin 128) : Nat := 0x3100 + ch.val

/-- The group object index of a group (R8). -/
def gIndex (g : Fin 8) : Nat := 0x3001 + g.val

end Sys2Proof.Machine
end

