-- ==== Sys2Proof/Machine/Signals.lean ====
section
/-! DEFINITION. The Signal Directory (R86), values of signals in the store and the image, and bound fields (R286). -/

namespace Sys2Proof.Machine

/-- Bits `hi` down to `lo` of a directory entry. -/
def SigEntry.bits (e : SigEntry) (hi lo : Nat) : Nat := field e.entry.toNat hi lo

/-- CLASS: 1 VITAL, 2 NON-VITAL. -/
def SigEntry.cls (e : SigEntry) : Nat := e.bits 127 126

/-- Is the signal VITAL? -/
def SigEntry.vital (e : SigEntry) : Bool := e.cls = 1

/-- SAFE_DIR. -/
def SigEntry.safeDir (e : SigEntry) : Bool := e.bits 125 125 = 1

/-- RETAINED. -/
def SigEntry.retained (e : SigEntry) : Bool := e.bits 124 124 = 1

/-- SPACE: does the signal lie in the input image? -/
def SigEntry.inImage (e : SigEntry) : Bool := e.bits 123 123 = 1

/-- TYPE; the reserved codes read as U64. -/
def SigEntry.ty (e : SigEntry) : XType := (xOfCode (e.bits 122 119)).getD .u64

/-- OFFSET. -/
def SigEntry.offset (e : SigEntry) : Nat := e.bits 118 94

/-- The signal's size in bytes. -/
def SigEntry.size (e : SigEntry) : Nat := xSize e.ty

/-- OWNER1. -/
def SigEntry.owner1 (e : SigEntry) : Nat := e.bits 93 82

/-- OWNER2. -/
def SigEntry.owner2 (e : SigEntry) : Nat := e.bits 81 70

/-- SAFE_VALUE. -/
def SigEntry.safe (e : SigEntry) : Word := BitVec.ofNat 64 (e.bits 63 0)

/-- PRIORITY of an owner field. -/
def ownPrio (o : Nat) : Nat := field o 11 8

/-- KIND of an owner field: 0 none, 1 task, 2 host. -/
def ownKind (o : Nat) : Nat := field o 7 6

/-- ID of an owner field. -/
def ownId (o : Nat) : Nat := field o 5 0

/-- Is the owner field that of a task? -/
def ownIsTask (o t : Nat) : Bool := ownKind o = 1 && ownId o = t

/-- Does a task own the signal (R84)? -/
def SigEntry.ownedBy (e : SigEntry) (t : Nat) : Bool := ownIsTask e.owner1 t || ownIsTask e.owner2 t

/-- Has the signal a host owner (R391)? -/
def SigEntry.hostOwned (e : SigEntry) : Bool := ownKind e.owner1 = 2 || ownKind e.owner2 = 2

/-- The directory of the image in force. -/
def State.signals (s : State) : List SigEntry := (s.app.map (·.signals)).getD []

/-- Entry `n` of the directory. -/
def State.signal (s : State) (n : Nat) : Option SigEntry := s.signals.find? (fun e => e.n = n)

/-- A value in memory, least significant byte first (R101). -/
def cNum (size a : Nat) (m : Cells) : Nat := leNat (cRead size a m)

/-- The committed value of a signal in the store. -/
def State.storeValue (s : State) (e : SigEntry) : Word := BitVec.ofNat 64 (cNum e.size e.offset s.cis.mem)

/-- The value of an image-space signal in image bytes. -/
def imageValue (img : Bytes) (e : SigEntry) : Word := BitVec.ofNat 64 (leAt img e.offset e.size)

/-- The value of a signal: committed, or in the image of the present cycle. -/
def State.sigValue (s : State) (e : SigEntry) : Word :=
  if e.inImage then imageValue ((s.ctl.sealed.map (·.bytes)).getD []) e else s.storeValue e

/-- Puts a value into the store (R83). -/
def putStore (e : SigEntry) (v : Word) (m : Cells) : Cells := cWrite e.offset (leBytes e.size v.toNat) m

/-- Is a SIGNAL force on entry `n` in effect (R133, R300)? -/
def State.forced (s : State) (n : Nat) : Bool :=
  s.ctl.forces.any (fun f => f.2.kind = 1 && f.2.target.toNat = n &&
    (f.2.state = .active || (f.2.state = .pending && f.2.removing)))

/-! ### Bindings (R286) -/

structure Binding where
  /-- A binding entry: the signal, the offset of its field and the bit, 255 for a whole byte. -/
  sig : Nat
  offset : Nat
  bitNo : Nat
deriving DecidableEq, Repr

/-- Reads a binding entry. -/
def readBinding (b : Bytes) : Binding := { sig := leAt b 0 2, offset := leAt b 2 2, bitNo := leAt b 4 1 }

/-- A run of the shared binding list at 0x5400:03; empty while no table is in effect (R287). -/
def State.bindings (s : State) (first count : Nat) : List Binding :=
  if s.tel.bindState = 1 then
    tabulate count (fun k => readBinding (slice (s.odForce 0x5400 0x03) (8 * (first + k)) 8))
  else []

/-- Writes one field into a dataset: one bit, one byte, or the type's width in the bus's byte order (R286). -/
def putField (big : Bool) (ty : XType) (b : Binding) (v : Nat) (data : Bytes) : Bytes :=
  if ty = .bool then
    if b.bitNo = 255 then patch data b.offset [BitVec.ofNat 8 (v % 2)]
    else
      let old := leAt data b.offset 1
      let cleared := old - (if old.testBit b.bitNo then 2 ^ b.bitNo else 0)
      patch data b.offset [BitVec.ofNat 8 (cleared + v % 2 * 2 ^ b.bitNo)]
  else patch data b.offset (if big then beBytes (xSize ty) v else leBytes (xSize ty) v)

/-- Reads one field of a dataset. -/
def getField (big : Bool) (ty : XType) (b : Binding) (data : Bytes) : Nat :=
  if ty = .bool then
    if b.bitNo = 255 then b2n (leAt data b.offset 1 != 0) else b2n ((leAt data b.offset 1).testBit b.bitNo)
  else if big then beAt data b.offset (xSize ty) else leAt data b.offset (xSize ty)

/-- Composes a dataset from bound signals whose values `val` gives. -/
def composeData (big : Bool) (s : State) (val : SigEntry → Word) (bs : List Binding) (data : Bytes) : Bytes :=
  bs.foldl (fun d b => match s.signal b.sig with
    | some e => putField big e.ty b (val e).toNat d
    | none => d) data

end Sys2Proof.Machine
end

