-- ==== Sys2Proof/Machine/Seal.lean ====
section
/-! DEFINITION. The Seal of R299 to R304: check values, trailers, composing and checking. -/

namespace Sys2Proof.Machine

/-! ### Check-value units (R304) -/

/-- The bits of a byte in reverse order. -/
def revByte (b : Byte) : Byte := BitVec.ofNat 8 ((List.range 8).foldl (fun a i => a + b2n (b.getLsbD i) * 2 ^ (7 - i)) 0)

/-- The low `w` bits of a number in reverse order. -/
def revBits (w n : Nat) : Nat := (List.range w).foldl (fun a i => a + b2n (n.testBit i) * 2 ^ (w - 1 - i)) 0

/-- A CRC with the parameters of a profile: width, generator, initial value, final XOR, reflections. -/
def crcProfile (w poly init xorout : Nat) (refIn refOut : Bool) (bs : Bytes) : Nat :=
  let r := (crcBytes (BitVec.ofNat w poly) (BitVec.ofNat w init) (if refIn then bs.map revByte else bs)).toNat
  ((if refOut then revBits w r else r) ^^^ xorout) % 2 ^ w

/-- The implicit words of a profile, big-endian in the computation. -/
def implicitWords (prof : Bytes) : Bytes :=
  let n := leAt prof 0x1A 1
  (if 1 ≤ n then beBytes 4 (leAt prof 0x1C 4) else []) ++ (if 2 ≤ n then beBytes 4 (leAt prof 0x20 4) else [])

/-- The check value of a profile over bytes; a preset overrides the parameters (R304). -/
def checkValue (prof bs : Bytes) : Nat :=
  let preset := leAt prof 0x1B 1
  if preset = 1 then crcProfile 64 0x9A6C9329AC4BC9B5 (2 ^ 64 - 1) (2 ^ 64 - 1) false false bs
  else if preset = 2 then crcProfile 32 0xF4ACFB13 (2 ^ 32 - 1) (2 ^ 32 - 1) true true bs
  else if preset = 3 then crcProfile 16 0xBAAD (2 ^ 16 - 1) 0 false false bs
  else if preset = 4 then (Config.sdtv2 bs).toNat
  else crcProfile (leAt prof 0x18 1) (leAt prof 0x00 8) (leAt prof 0x08 8) (leAt prof 0x10 8)
    ((leAt prof 0x19 1).testBit 1) ((leAt prof 0x19 1).testBit 0) bs

/-- The width of a profile's check value in bytes. -/
def checkBytes (prof : Bytes) : Nat :=
  let preset := leAt prof 0x1B 1
  if preset = 1 then 8 else if preset = 2 then 4 else if preset = 3 then 2 else if preset = 4 then 4
  else leAt prof 0x18 1 / 8

/-- The check value of a sealed dataset (R299): implicit words, SEAL_ID, SEQUENCE, STATUS, payload. -/
def sealValue (prof : Bytes) (sealId seq status : Nat) (payload : Bytes) : Nat :=
  checkValue prof (implicitWords prof ++ beBytes 4 sealId ++ beBytes 4 seq ++ beBytes 1 status ++ payload)

/-- The Seal trailer of R299. -/
def sealTrailer (prof : Bytes) (sealId seq status : Nat) (payload : Bytes) : Bytes :=
  beBytes 1 1 ++ beBytes 1 status ++ [0, 0] ++ beBytes 4 seq ++ beBytes 8 (sealValue prof sealId seq status payload)

/-- The STATUS byte of a trailer. -/
def sealStatus (forcedAny degraded : Bool) (mode : Nat) : Nat :=
  b2n forcedAny * 128 + b2n degraded * 64 + mode % 16

/-- The Seal profile `n` in force. -/
def State.sealProfile (s : State) (n : Nat) : Bytes := s.odForce 0x5500 (n + 1)

/-! ### Checking (R302) -/

/-- Results of a seal check. -/
inductive SealRes where | valid | timeout | sealFail | ageFail | loss
deriving DecidableEq, Repr

/-- The difference of two 32-bit cycle numbers modulo 2^32. -/
def diff32 (a b : Nat) : Nat := wrapNat 32 ((a : Int) - (b : Int))

/-- The check of R302 of a stored dataset, with `n` and `arrival` the low bits of cycle numbers. -/
def sealCheck (prof : Bytes) (sealId timeout maxAge maxLoss period n arrival : Nat) (stored : Option Bytes) : SealRes :=
  match stored with
  | none => .timeout
  | some d =>
    if timeout ≤ diff32 n arrival then .timeout
    else
      let body := d.take (d.length - 16)
      let tr := d.drop (d.length - 16)
      let seq := beAt tr 4 4
      let status := beAt tr 1 1
      let used := checkBytes prof
      if beAt tr 0 1 ≠ 1 ∨ status / 16 % 4 ≠ 0 ∨ beAt tr 2 2 ≠ 0 ∨ beAt tr 8 (8 - used) ≠ 0 ∨
          beAt tr (16 - used) used ≠ sealValue prof sealId seq status body then .sealFail
      else if diff32 arrival seq < 1 ∨ maxAge < diff32 arrival seq then .ageFail
      else if maxAge + (maxLoss + 1) * period - 1 < diff32 n seq then .loss
      else .valid

/-- The status word of R296 for a result, the sender's flags copied from the stored trailer. -/
def subStatus (r : SealRes) (stored : Option Bytes) : Nat :=
  let st := match stored with
    | some d => beAt (d.drop (d.length - 16)) 1 1
    | none => 0
  (match r with
    | .valid => 0x8000
    | .timeout => 0x4000
    | .sealFail => 0x2000
    | .ageFail => 0x1000
    | .loss => 0x0800) + b2n (st.testBit 7) * 0x400 + b2n (st.testBit 6) * 0x200 + st % 16

/-! ### Publications (R290) -/

structure Pub where
  /-- A publication entry of R290, and its place in the table. -/
  idx : Nat
  comId : Nat
  destIp : Nat
  stream : Nat
  period : Nat
  phase : Nat
  length : Nat
  flags : Nat
  profile : Nat
  owner : Nat
  sealId : Nat
  bindFirst : Nat
  bindCount : Nat
  buffer : Nat
deriving DecidableEq, Repr

/-- Reads a publication entry. -/
def readPub (idx : Nat) (b : Bytes) : Pub :=
  { idx, comId := leAt b 0 4, destIp := leAt b 4 4, stream := leAt b 8 2, period := leAt b 10 2, phase := leAt b 12 2
    length := leAt b 14 2, flags := leAt b 16 1, profile := leAt b 17 1, owner := leAt b 18 1, sealId := leAt b 20 4
    bindFirst := leAt b 24 2, bindCount := leAt b 26 2, buffer := leAt b 28 4 }

/-- VALID of an entry's FLAGS. -/
def Pub.valid (p : Pub) : Bool := p.flags.testBit 0
/-- SEALED. -/
def Pub.isSealed (p : Pub) : Bool := p.flags.testBit 1
/-- VITAL. -/
def Pub.vital (p : Pub) : Bool := p.flags.testBit 2

/-- The publications in force: none while no table is in effect (R287). -/
def State.pubs (s : State) : List Pub :=
  if s.tel.bindState = 1 then
    (((chunksOf 32 (s.odForce 0x5400 0x01)).zipIdx).map (fun e => readPub e.2 e.1)).filter (·.valid)
  else []

/-- The VITAL publications of a task. -/
def State.vitalPubs (s : State) (t : Nat) : List Pub :=
  s.pubs.filter (fun p => p.vital && (p.isSealed && p.owner = t))

/-- The module mode as 0x1100:01 codes it; OFF reads 0. -/
def modeNo : Mode → Nat
  | .off => 0
  | .fabricOnly => 1
  | .boot => 2
  | .stop => 3
  | .run => 4
  | .hold => 5
  | .faultStop => 6
  | .standby => 7

/-- The 8-byte stores by which a Seal unit writes bytes at a target (R301); a last part word is filled with zeros. -/
def sealStores (target : Nat) (d : Bytes) : List BWrite :=
  tabulate ((d.length + 7) / 8) (fun k =>
    { size := 3, target := target + 8 * k, value := BitVec.ofNat 64 (leNat (slice d (8 * k) 8)) })

end Sys2Proof.Machine
end

