-- ==== Sys2Proof/Machine/FabricOps.lean ====
section
/-! DEFINITION. What the fabric's rules share: the Safety Map, taps, pairs of contacts, instance transitions, the
switch commands (R168, R169) and the keepalives (R173). -/

namespace Sys2Proof.Machine

/-! ### The Safety Map (R156 to R159) -/

/-- The factory map: valid, with no instance (R155). -/
def emptyMap : Bytes :=
  leBytes 4 0x50414D53 ++ leBytes 2 1 ++ [0, 0, 0xFF, 0xFF, 10, 20] ++ List.replicate 52 0

/-- The bytes of a stored copy; a copy never written holds the factory map (R155). -/
def copyBytes (c : MapCopy) : Bytes := if c.bytes = [] then emptyMap else c.bytes

/-- Reads one instance entry (R157). -/
def readInst (b : Bytes) : MapInst :=
  { type := leAt b 0 1, options := BitVec.ofNat 8 (leAt b 1 1), request := leAt b 2 2
    ins := tabulate 5 (fun k => leAt b (4 + k) 1), rst := [leAt b 0x0A 1, leAt b 0x0B 1]
    outs := tabulate 4 (fun k => leAt b (0x0C + k) 1), warn := leAt b 0x10 1
    outkind := BitVec.ofNat 8 (leAt b 0x11 1)
    t1 := leAt b 0x14 4, t2 := leAt b 0x18 4, t3 := leAt b 0x1C 4, t4 := leAt b 0x20 4 }

/-- Reads a map (R156). -/
def readMap (b : Bytes) : SafetyMap :=
  { flags := BitVec.ofNat 8 (leAt b 7 1), ack1 := leAt b 8 1, ack2 := leAt b 9 1, testInterval := leAt b 0x0A 1
    testPulse := leAt b 0x0B 1, version := BitVec.ofNat 32 (leAt b 0x0C 4)
    vital := (List.range 128).filter (fun i => (leAt b (0x10 + i / 8) 1).testBit (i % 8))
    insts := tabulate (leAt b 6 1) (fun k => readInst (slice b (64 + 64 * k) 64)) }

/-- A channel field: a channel index, or none where that is allowed. -/
def chanOk (optional : Bool) (c : Nat) : Bool := decide (c < 128) || (optional && c == 0xFF)

/-- Is a time field in its range? -/
def timeIn (lo hi t : Nat) : Bool := decide (lo ≤ t ∧ t ≤ hi)

/-- The option bits a type allows (R158). -/
def optionsAllowed (ty : Nat) : Nat :=
  if ty = 2 ∨ ty = 4 then 0x0C else if ty = 5 then 0x0F else 0x08

/-- RESTART_MANUAL. -/
def MapInst.manual (m : MapInst) : Bool := m.options.getLsbD 2
/-- START_INTERLOCK. -/
def MapInst.interlock (m : MapInst) : Bool := m.options.getLsbD 1
/-- ANTIVALENT. -/
def MapInst.antivalent (m : MapInst) : Bool := m.options.getLsbD 0
/-- REQUEST_ENABLE. -/
def MapInst.requestEnable (m : MapInst) : Bool := m.options.getLsbD 3
/-- Does the instance carry a RST pair? -/
def MapInst.hasRst (m : MapInst) : Bool := decide (m.rst[0]?.getD 0xFF ≠ 0xFF)
/-- Must it carry one (R159)? -/
def MapInst.needsRst (m : MapInst) : Bool := m.type == 1 || (m.type != 3 && (m.manual || m.interlock))
/-- The governed outputs. -/
def MapInst.governed (m : MapInst) : List Nat := m.outs.filter (· != 0xFF)
/-- Is output `j` of the entry OUT-FABRIC-ONLY? -/
def MapInst.only (m : MapInst) (j : Nat) : Bool := m.outkind.getLsbD j

/-- The fields of one entry lie inside R157 and R158. -/
def instFieldsOk (b : Bytes) (m : MapInst) : Bool :=
  let inN := fun k => m.ins[k]?.getD 0xFF
  let unused := fun k => inN k == 0xFF
  let times := if m.type = 1 ∨ m.type = 5 then timeIn 5 500 m.t1 && (m.t2 == 0 && (m.t3 == 0 && m.t4 == 0))
    else if m.type = 2 then timeIn 5 500 m.t1 && (timeIn 0 2000 m.t2 && (m.t3 == 0 && m.t4 == 0))
    else if m.type = 3 then timeIn 50 1000 m.t1 && (timeIn 5000 60000 m.t2 && (timeIn 1000 10000 m.t3 && timeIn 0 120000 m.t4))
    else timeIn 5 500 m.t1 && (timeIn 100 1000 m.t2 && (timeIn 0 2000 m.t3 && m.t4 == 0))
  let inputs := if m.type = 3 then (List.range 4).all (fun k => chanOk false (inN k)) && chanOk true (inN 4)
    else chanOk false (inN 0) && (chanOk false (inN 1) && (unused 2 && (unused 3 && unused 4)))
  let r0 := m.rst[0]?.getD 0xFF
  let r1 := m.rst[1]?.getD 0xFF
  let rst := chanOk true r0 && (chanOk true r1 && ((r0 == 0xFF) == (r1 == 0xFF)))
  let rstUse := if m.type = 3 then !m.hasRst else (m.hasRst || !m.needsRst)
  timeIn 1 5 m.type && ((m.options.toNat &&& optionsAllowed m.type) == m.options.toNat &&
    ((decide (m.request < 16384) || m.request == 0xFFFF) && (inputs && (leAt b 9 1 == 0 && (rst && (rstUse &&
    (m.outs.all (chanOk true) && (!m.governed.isEmpty && (chanOk true m.warn && ((m.type == 3 || m.warn == 0xFF) &&
    (decide (m.outkind.toNat < 16) && (leAt b 0x12 2 == 0 && (times && (slice b 0x24 28).all (· == 0))))))))))))))

/-- Channels that an entry reads: inputs and the RST pair. -/
def MapInst.inputs (m : MapInst) : List Nat := m.ins.filter (· != 0xFF)
/-- The RST channels. -/
def MapInst.rsts (m : MapInst) : List Nat := m.rst.filter (· != 0xFF)
/-- The output and WARN channels. -/
def MapInst.outputs (m : MapInst) : List Nat := m.governed ++ (if m.warn = 0xFF then [] else [m.warn])
/-- The ACK channels of a map. -/
def SafetyMap.acks (m : SafetyMap) : List Nat := [m.ack1, m.ack2].filter (· != 0xFF)

/-- Is a channel OUT-FABRIC-ONLY in an entry: a WARN channel, or an output marked so (R157)? -/
def MapInst.onlyChan (m : MapInst) (ch : Nat) : Bool :=
  m.warn == ch || (List.range 4).any (fun j => m.outs[j]?.getD 0xFF == ch && m.only j)

/-- The reason for which a map is refused (R159, 0x4101:05); 0 for none. -/
def mapReason (b : Bytes) : Nat :=
  let n := leAt b 6 1
  if b.length < 64 ∨ leAt b 0 4 ≠ 0x50414D53 ∨ leAt b 4 2 ≠ 1 ∨ 16 < n ∨ b.length ≠ 64 + 64 * n then 1
  else
    let m := readMap b
    let header := leAt b 7 1 % 8 == 0 && (chanOk true m.ack1 && (chanOk true m.ack2 &&
      ((m.ack1 == 0xFF) == (m.ack2 == 0xFF) && (timeIn 1 60 m.testInterval && (timeIn 10 30 m.testPulse &&
      (slice b 0x38 8).all (· == 0))))))
    let entries := (List.range n).all (fun k => instFieldsOk (slice b (64 + 64 * k) 64) (readInst (slice b (64 + 64 * k) 64)))
    let reqOk := m.insts.all (fun i => !i.requestEnable || i.request != 0xFFFF)
    let ins := m.insts.flatMap (fun i => i.inputs ++ i.rsts) ++ m.acks
    let outs := m.insts.flatMap (fun i => i.outputs)
    let ackUse := m.acks.all (fun a => m.insts.all (fun i => !(i.inputs ++ i.rsts).contains a))
    let twice := m.insts.all (fun i => decide (i.governed.Nodup))
    let kinds := m.insts.all (fun i => m.insts.all (fun j => (i.governed.filter (fun c => j.governed.contains c)).all
      (fun c => i.onlyChan c == j.onlyChan c)))
    if !(header && (entries && reqOk)) then 2
    else if !(outs.all (fun c => !ins.contains c) && (ackUse && twice)) then 3
    else if !kinds then 4 else 0

/-- Is a stored copy valid (R155)? -/
def copyValid (c : MapCopy) : Bool := c.crcOk && mapReason (copyBytes c) == 0

/-- The map in force. -/
def State.smap (s : State) : Option SafetyMap := s.fab.map.map (·.2)

/-- A flag bit of the map in force. -/
def State.mapFlag (s : State) (i : Nat) : Bool := (s.smap.map (fun m => m.flags.getLsbD i)).getD false

/-- The entry of instance `i`. -/
def State.mapInst (s : State) (i : Nat) : Option MapInst := s.smap.bind (fun m => m.insts[i]?)

/-- Instance `i`. -/
def State.inst (s : State) (i : Nat) : Inst := s.fab.insts[i]?.getD {}

/-- Changes instance `i`. -/
def State.modInst (s : State) (i : Nat) (f : Inst → Inst) : State :=
  { s with fab := { s.fab with insts := modAt i f s.fab.insts } }

/-- The role that the map gives a channel (R153): IN-LOOP, OUT-FABRIC or OUT-FABRIC-ONLY. -/
def mapRole (m : SafetyMap) (ch : Nat) : Option (BitVec 8) :=
  if m.insts.any (fun i => (i.inputs ++ i.rsts).contains ch) || m.acks.contains ch then some 0x11
  else if m.insts.any (fun i => i.onlyChan ch && i.outputs.contains ch) then some 0x22
  else if m.insts.any (fun i => i.outputs.contains ch) then some 0x21
  else none

/-! ### Contacts -/

/-- The fabric-tap state of a channel in the latest frames. -/
def State.tap (s : State) (ch : Nat) : Bool := (s.fab.taps[ch / 16]?.getD 0).getLsbD (ch % 16)

/-- The contact of input field `k` of an entry; an unused field reads open. -/
def State.contact (s : State) (m : MapInst) (k : Nat) : Bool :=
  let c := m.ins[k]?.getD 0xFF
  c != 0xFF && s.tap c

/-- Samples of a time in µs: the count of 25 µs samples whose span exceeds it. -/
def overUs (samples us : Nat) : Bool := decide (us < 25 * (samples - 1))

/-- The tolerance of R166 applied to an OSSD: on, or off for no longer than T2. -/
def ossdOn (raw : Bool) (off t2 : Nat) : Bool := raw || !overUs off t2

/-- Is the instance's first pair closed (R164)? -/
def pairClosed (m : MapInst) (a b : Bool) : Bool := if m.antivalent then a && !b else a && b

/-! ### Instance transitions (R162) -/

/-- The number of an instance state in the record of R183. -/
def fstateNo : FState → Nat
  | .off => 0
  | .run => 1
  | .tripped => 2
  | .locked => 3

/-- Is a restart owed after an entry into TRIPPED with a cause (R162)? -/
def owedAfter (m : MapInst) (cause : BitVec 8) : Bool :=
  m.type == 1 ||
    (if cause = 0x14 then m.interlock
     else if cause = 0x15 ∨ cause = 0x11 then m.hasRst
     else if cause = 0x10 ∨ cause = 0x13 then m.manual else false)

/-- Instance `i` enters TRIPPED with a cause. -/
def enterTripped (i : Nat) (m : MapInst) (cause : BitVec 8) (s : State) : State :=
  raiseFab evFunctionTripped [BitVec.ofNat 8 i, cause] (s.modInst i (fun q =>
    { q with state := .tripped, cause, owed := owedAfter m cause, tt := 0, warn := false }))

/-- A LOCKED instance is reset to TRIPPED (R176): event FUNCTION-RESET and cause RESET. -/
def enterReset (i : Nat) (m : MapInst) (s : State) : State :=
  let c := (s.inst i).cause
  raiseFab evFunctionTripped [BitVec.ofNat 8 i, 0x15] (raiseFab evFunctionReset [BitVec.ofNat 8 i, c]
    (s.modInst i (fun q => { q with state := .tripped, cause := 0x15, owed := owedAfter m 0x15, tt := 0, warn := false })))

/-- Instance `i` returns to RUN. -/
def enterRun (i : Nat) (s : State) : State :=
  raiseFab evFunctionRun [BitVec.ofNat 8 i, (s.inst i).cause]
    (s.modInst i (fun q => { q with state := .run, owed := false, v := 0 }))

/-- Instance `i` enters LOCKED with a cause, from RUN or TRIPPED only; LOCKOUT freezes it (R162). -/
def enterLocked (i : Nat) (cause : BitVec 8) (s : State) : State :=
  let q := s.inst i
  if s.fab.lockout = 0 ∧ (q.state = .run ∨ q.state = .tripped) then
    raiseFab evFunctionLocked [BitVec.ofNat 8 i, cause]
      (s.modInst i (fun q => { q with state := .locked, cause, warn := false }))
  else s

/-- The instances whose entry satisfies `p`. -/
def State.instsWhere (s : State) (p : MapInst → Bool) : List Nat :=
  (List.range 16).filter (fun i => (s.mapInst i).any p)

/-- Does an entry use a channel of group `g` (R154)? -/
def MapInst.usesGroup (m : MapInst) (g : Nat) : Bool :=
  (m.inputs ++ (m.rsts ++ m.outputs)).any (fun c => c / 16 == g)

/-- The return condition of R164 for the types other than DSD, apart from request and restart; `t` is T2 or T3. -/
def returnMet (s : State) (i : Nat) (m : MapInst) : Bool :=
  let q := s.inst i
  let a := s.contact m 0
  let b := s.contact m 1
  if m.type = 2 then a && (b && decide (m.t2 * 1000 ≤ 25 * (q.closedFor - 1)))
  else if m.type = 4 then
    ossdOn a q.off1 m.t2 && (ossdOn b q.off2 m.t2 && decide (m.t3 * 1000 ≤ 25 * (q.closedFor - 1)))
  else pairClosed m a b

/-! ### Switch commands (R168, R169) -/

/-- Does instance `i` permit its outputs (R162, R179)? -/
def State.permits (s : State) (i : Nat) : Bool := (s.inst i).state = .run && s.fab.lockout = 0

/-- May OUT-FABRIC-ONLY and WARN channels conduct (R169)? -/
def State.onlyAllowed (s : State) : Bool :=
  !s.fab.heldOpen && (!s.fab.fired &&
    (if s.mapFlag 7 then
      match s.fab.frame with
      | some f =>
        let mode := field f.toNat 95 92
        let pr := field f.toNat 91 89
        (mode == 4 || (mode == 5 || mode == 7)) && (pr == 0 || (pr == 1 || pr == 2))
      | none => false
    else true))

/-- Is a channel governed as OUT-FABRIC-ONLY or WARN? -/
def State.isOnly (s : State) (ch : Nat) : Bool := (s.smap.bind (fun m => mapRole m ch)) = some 0x22

/-- Is a channel governed as OUT-FABRIC? -/
def State.isFabricOut (s : State) (ch : Nat) : Bool := (s.smap.bind (fun m => mapRole m ch)) = some 0x21

/-- Does the fabric's evaluation let a channel conduct: every governing instance permits, or a warning is active? -/
def State.chanPermit (s : State) (ch : Nat) : Bool :=
  let gov := s.instsWhere (fun m => m.governed.contains ch)
  let warns := s.instsWhere (fun m => m.warn == ch)
  (!gov.isEmpty && gov.all s.permits) || (gov.isEmpty && warns.any (fun i => (s.inst i).warn && s.fab.lockout = 0))

/-- Does the fabric command the channel's switches closed now? -/
def State.fabCloses (s : State) (ch : Nat) : Bool :=
  s.fab.powered && (s.fab.lockout = 0 && (s.chanPermit ch && (!(s.fab.pulse.any (fun p => p.1 == ch)) &&
    (!s.isOnly ch || s.onlyAllowed))))

/-- Sixteen bits from a test of each. -/
def bits16 (f : Nat → Bool) : BitVec 16 := BitVec.ofNat 16 ((List.range 16).foldl (fun a c => a + b2n (f c) * 2 ^ c) 0)

/-- The low-side command of a group: its OUT-FABRIC channels that conduct. -/
def State.lowFor (s : State) (g : Nat) : BitVec 16 := bits16 (fun c => s.isFabricOut (16 * g + c) && s.fabCloses (16 * g + c))

/-- The both-switch command of a group: its OUT-FABRIC-ONLY channels that conduct. -/
def State.highFor (s : State) (g : Nat) : BitVec 16 := bits16 (fun c => s.isOnly (16 * g + c) && s.fabCloses (16 * g + c))

/-- The conditions of R173 for group `g`. -/
def State.keepaliveOk (s : State) (g : Nat) : Bool :=
  s.fab.powered && (s.fab.lockout = 0 && (!s.fab.fired && (!s.rek.badVerdict &&
    (!s.fab.stopped.any (fun e => e.1.val == g) &&
    s.fab.frame.any (fun f => f.getLsbD 88 && !f.getLsbD 87)))))

/-- Brings the keepalives up to date (R173). -/
def keepalives (s : State) : State :=
  let on := BitVec.ofNat 8 ((List.range 8).foldl (fun a g => a + b2n (s.keepaliveOk g) * 2 ^ g) 0)
  { s with fab := { s.fab with keepalive := on } }

/-- Sends the switch commands of one group over its fabric link; a group whose link works takes them (R168, R190). -/
def driveGroup (always : Bool) (g : Fin 8) (s : State) : State :=
  let low := s.lowFor g.val
  let high := s.highFor g.val
  let same := s.fab.lowCmd[g.val]?.getD 0 = low && s.fab.highCmd[g.val]?.getD 0 = high
  let s1 := { s with fab := { s.fab with lowCmd := s.fab.lowCmd.set g.val low, highCmd := s.fab.highCmd.set g.val high } }
  let s2 := if s.fab.linkOk.getLsbD g.val then
    s1.modGroup g (fun q => { q with lowCmd := low, highCmd := high, fabricAt := some s.time.now }) else s1
  if always || !same then s2.emit (.fabricFrame g low high) else s2

/-- All group numbers. -/
def groupNos : List (Fin 8) := [0, 1, 2, 3, 4, 5, 6, 7]

/-- The fabric's outputs follow its state: keepalives and switch commands. -/
def refreshWith (always : Bool) (s : State) : State :=
  groupNos.foldl (fun q g => driveGroup always g q) (keepalives s)

/-- The fabric's outputs follow a change of its state. -/
def refresh (s : State) : State := refreshWith false s

/-- The record of an instance (R183). -/
def State.instRecord (s : State) (i : Nat) : BitVec 32 :=
  match s.mapInst i with
  | none => 0
  | some m =>
    let q := s.inst i
    BitVec.ofNat 32 (fstateNo q.state * 2 ^ 30 + b2n (s.permits i) * 2 ^ 29 + b2n q.warn * 2 ^ 28 +
      b2n q.request * 2 ^ 27 + b2n q.owed * 2 ^ 26 + b2n (decide (s.fab.lockout ≠ 0)) * 2 ^ 25 + m.type * 2 ^ 20 +
      q.cause.toNat * 2 ^ 8 + q.rst.toNat * 2 ^ 6 + q.inputs.toNat)

end Sys2Proof.Machine
end

