-- ==== Sys2Proof/Machine/Control.lean ====
section
/-! DEFINITION. Control operations that many commands share: mode changes (R121), request frames (R170), retained
snapshots (R92, R371), entering FAULT-STOP (R129 to R131), module LOCKOUT (R179), lane exclusion (R48, R49, R450),
pair states and DRIVE (R340, R342). -/

namespace Sys2Proof.Machine

/-- A 16-bit number of a record's DATA. -/
def d16 (n : Nat) : Bytes := leBytes 2 n

/-- A 32-bit number of a record's DATA. -/
def d32 (n : Nat) : Bytes := leBytes 4 n

/-- An event source of the bridge is raised with its detail (R329); raisings count until the next poll. -/
def poke (source data : Nat) (s : State) : State :=
  let n := ((s.bri.raised.find? (fun r => r.1 = source)).map (fun r => r.2.1)).getD 0
  { s with bri := { s.bri with raised := s.bri.raised.filter (fun r => r.1 ≠ source) ++ [(source, n + 1, data)] } }

/-! ### Modes (R121) -/

/-- The trigger field of a MODE-CHANGED record: the cause's event code, or the command's code (assumption 15). -/
def modeRecord (old new : Mode) (trigger : Nat) : Bytes :=
  [BitVec.ofNat 8 (modeNo old), BitVec.ofNat 8 (modeNo new)] ++ d16 trigger

/-- A staged map is discarded by a mode change out of STOP (R160); its reason is 6, mode. -/
def dropStaged (s : State) : State :=
  if s.fab.staged.isSome then
    raiseFab evMapRefused [6] { s with fab := { s.fab with staged := none, writeState := 3, reason := 6 } }
  else s

/-- What ends with HOLD: the debugger, its breakpoints and runs (R65, R66). -/
def endDebug (s : State) : State :=
  { s with ctl := { s.ctl with debugger := false, breakpoints := [], debugRun := none } }

/-- The module enters a mode: event MODE-CHANGED and the entry cycle (R121). -/
def enterMode (new : Mode) (trigger : Nat) (s : State) : State :=
  let old := s.ctl.mode
  let s0 := if old = .stop ∧ new ≠ .stop then dropStaged s else s
  let s1 := if old = .hold then endDebug s0 else s0
  let s2 := if new = .hold then { s1 with ctl := { s1.ctl with debugLog := [] } } else s1
  let s3 := { s2 with ctl := { s2.ctl with mode := new, entryCycle := s2.cycleNow } }
  raise evModeChanged (modeRecord old new trigger) s3

/-- Sets the result of the mode command (0x1101:02). -/
def setResult (n : Nat) (s : State) : State := { s with ctl := { s.ctl with result := n } }

/-! ### Request frames (R170, R171) -/

/-- The pair state as frames and 0x7300:02 code it. -/
def pstateNo : PState → Nat
  | .alone => 0
  | .active => 1
  | .standby => 2
  | .joining => 3
  | .out => 4

/-- The mode from boundary `b` on, with an accepted command that takes effect there. -/
def State.modeFrom (s : State) (b : Nat) : Mode :=
  match s.ctl.pending with
  | some (c, e) =>
    if e = b then
      match c with
      | .run => if s.pair.inPair && (s.pair.state = .standby || s.pair.state = .joining) then .standby else .run
      | .stop => .stop
      | .hold => .hold
      | .resume => .run
      | .restart => s.ctl.mode
      | .exchange => s.ctl.mode
    else s.ctl.mode
  | none => s.ctl.mode

/-- The unforced value of a request signal (R171). -/
def State.unforcedBit (s : State) (n : Nat) : Bool := sGet 0 n s.cis.unforced != 0

/-- The request bit of instance `i` for a mode (R171). -/
def State.requestBit (s : State) (mode : Mode) (i : Nat) : Bool :=
  match s.mapInst i with
  | none => false
  | some m =>
    if !m.requestEnable then false
    else if s.fab.badBinding.getLsbD i then true
    else
      match mode with
      | .run => s.unforcedBit m.request
      | .standby => s.unforcedBit m.request
      | .hold => if s.mapFlag 4 then s.unforcedBit m.request else true
      | .off => false
      | .fabricOnly => false
      | .boot => false
      | .stop => false
      | .faultStop => false

/-- The CRC-16 of R186. -/
def crc16 (bs : Bytes) : Nat := (crcBytes 0x1021#16 0xFFFF#16 bs).toNat

/-- The request frame for boundary `b` (R170). -/
def State.requestFrame (s : State) (b : Nat) (mode : Mode) (stop : Bool) : BitVec 128 :=
  let enable := mode = .run || (mode = .hold || mode = .standby)
  let req := bits16 (s.requestBit mode)
  let top := (b % 2 ^ 32) * 2 ^ 80 + modeNo mode * 2 ^ 76 + pstateNo s.pair.state * 2 ^ 73 + b2n enable * 2 ^ 72 +
    b2n stop * 2 ^ 71 + req.toNat * 2 ^ 48 + s.ctl.tbCode * 2 ^ 32
  BitVec.ofNat 128 (top * 2 ^ 16 + crc16 (beBytes 14 top))

/-- Sends the request frame of the coming boundary. -/
def sendRequest (s : State) : State :=
  let b := s.cycleNow + 1
  s.emit (.request (s.requestFrame b (s.modeFrom b) false))

/-- Sends the STOP notice of R170. -/
def sendStopNotice (s : State) : State := s.emit (.request (s.requestFrame (s.cycleNow + 1) s.ctl.mode true))

/-! ### Retained signals (R92, R371) -/

/-- The RETAINED signals of the image in force, in entry order. -/
def State.retained (s : State) : List SigEntry := s.signals.filter (fun e => e.retained && !e.inImage)

/-- The values of the RETAINED signals as committed, in entry order, 8 bytes each (assumption 17). -/
def State.retainedBytes (s : State) : Bytes := s.retained.flatMap (fun e => leBytes 8 (s.storeValue e).toNat)

/-- The identifier of the image in force; 0 for none (0x1000:05). -/
def State.imageId (s : State) : BitVec 32 := (s.app.map (·.ident)).getD 0

/-- One retained snapshot into the copy whose turn it is; none while the memory does not respond (R92, R416). -/
def snapshot (s : State) : State :=
  if s.rcd.fault || s.app.isNone then s
  else
    let last (c : Option (Nat × Nat × BitVec 32 × Bytes × Bool)) : Nat := (c.map (fun x => x.2.1 + 1)).getD 0
    let seq := max (last s.cis.retA) (last s.cis.retB)
    let copy := some (s.cycleNow, seq, s.imageId, s.retainedBytes, true)
    let c := if s.cis.retNextB then { s.cis with retB := copy } else { s.cis with retA := copy }
    { s with cis := { c with retNextB := !s.cis.retNextB, lastSnapshot := s.cycleNow } }

/-! ### Pair state and DRIVE (R340, R342) -/

/-- The drive frame of a group (R342). -/
def driveFrame (g : Fin 8) (d : Bool) : Bytes :=
  let b : Bytes := [0x11, BitVec.ofNat 8 (g.val + 1), BitVec.ofNat 8 (b2n d), 0]
  b ++ leBytes 2 (crc16 b)

/-- Sends the present DRIVE value to every group. -/
def sendDrive (s : State) : State := s.emitAll (groupNos.map (fun g => .groupFrame g (driveFrame g s.pair.drive)))

/-- Sets DRIVE and sends it. -/
def setDrive (d : Bool) (s : State) : State := sendDrive { s with pair := { s.pair with drive := d } }

/-- The pair state changes: event PAIR-STATE-CHANGED with the old and new state and the trigger's event code (R340). Only
ALONE and ACTIVE publish (R341). -/
def setPair (new : PState) (trigger : Nat) (s : State) : State :=
  let old := s.pair.state
  if old = new then s
  else
    let since := if new = .standby then some s.time.now else none
    let pub := s.tel.publishing && (new = .alone || new = .active)
    raise evPairStateChanged ([BitVec.ofNat 8 (pstateNo old), BitVec.ofNat 8 (pstateNo new)] ++ d16 trigger)
      { s with pair := { s.pair with state := new, standbySince := since }, tel := { s.tel with publishing := pub } }

/-- The node ID in force; 0x0000 takes 0x0100 + slot ID (0x5000:01, R432). -/
def State.nodeId (s : State) : BitVec 16 :=
  let n := s.odForceNat 0x5000 0x01
  if n = 0 then BitVec.ofNat 16 (0x0100 + s.ctl.slotId.val) else BitVec.ofNat 16 n

/-- A referee message that this module sends (R343); `auth` follows from the key. -/
def State.refereeMsg (s : State) (type : Fin 9) (target : BitVec 16) (fromCycle : Nat) : RefereeMsg :=
  let m : RefereeMsg :=
    { pairId := BitVec.ofNat 16 (s.odForceNat 0x7300 0x08), node := s.nodeId, target
      epoch := s.pair.epoch, expiry := 0, fromCycle := BitVec.ofNat 64 fromCycle, auth := [] }
  let body : Bytes := [1, BitVec.ofNat 8 type.val] ++ beBytes 2 m.pairId.toNat ++ beBytes 2 m.node.toNat ++
    beBytes 2 m.target.toNat ++ beBytes 4 m.epoch.toNat ++ beBytes 4 m.expiry.toNat ++ beBytes 8 m.fromCycle.toNat
  { m with auth := (Config.hmacSha256 (s.odForce 0x7300 0x09) body).take 8 }

/-- Sends a referee message about this module. -/
def sendReferee (type : Fin 9) (s : State) : State :=
  s.emit (.referee type (s.refereeMsg type s.nodeId 0))

/-- A RELEASE cause of R353: the next heartbeat carries RELEASE, and a held lease is given up (R343). -/
def pairRelease (s : State) : State :=
  if s.pair.inPair then
    let s1 := { s with pair := { s.pair with release := true } }
    if s.pair.held then sendReferee 7 { s1 with pair := { s1.pair with held := false } } else s1
  else s

/-- What FAULT-STOP does to a pair module: OUT with reason 8, no lease, no DRIVE (R339, R340, R353). -/
def pairFaultStop (s : State) : State :=
  if s.pair.inPair then
    setDrive false (setPair .out evFaultStop.toNat (pairRelease { s with pair := { s.pair with reason := 8, handover := none } }))
  else s

/-! ### Releases and halves -/

/-- A core without its open releases. -/
def Core.idle (k : Core) : Core := { k with releases := [], stall := none, exclusive := none }

/-- A lane without open releases. -/
def LaneSt.dropReleases (l : LaneSt) : LaneSt :=
  { l with core0 := l.core0.idle, core1 := l.core1.idle, core2 := l.core2.idle, core3 := l.core3.idle }

/-- Every open release is abandoned and every half discarded; the Reckoner's windows close (R59, R126, R128). -/
def dropAll (s : State) : State :=
  let s1 := s.modLanes (fun l => { l.dropReleases with halves := [] })
  { s1 with rek := { s1.rek with windows := [], kept := [], stops := [], verdicts := [], splits := [], pourFailed := [] } }

/-! ### FAULT-STOP (R129 to R131) -/

/-- Is a FAULT-STOP of this cause of class PACE (R129)? An overrun says whether every lane's cause was DEADLINE. -/
def isPace (cause : Code) (deadline : Bool) : Bool :=
  cause = evImageLate || (cause = evPourLate || (cause = evOverrun && deadline))

/-- Warm restarts in the 60 minutes before now. -/
def State.warmCount (s : State) : Nat := (s.ctl.warmTimes.filter (fun t => s.time.now < t + 3600000000000)).length

/-- The conditions of R130 for a warm restart. -/
def State.warmAllowed (s : State) (cause : Code) (deadline : Bool) : Bool :=
  isPace cause deadline && (s.odBool 0x1102 0x02 && (s.fab.lockout = 0 && (!s.ctl.warmDenied &&
    decide (s.warmCount < s.odNat 0x1102 0x03))))

/-- Step 1 of R131: every lane resets. -/
def warmReset (s : State) : State :=
  let s1 := raise evWarmRestart [] { s with ctl := { s.ctl with
    warmTimes := s.time.now :: s.ctl.warmTimes.filter (fun t => s.time.now < t + 3600000000000), warmRestart := some 0 } }
  s1.modLanes (fun l => { l with standpipe := [], token := none, drunk := none, signalled := none, scrub := none })

/-- Modes from which FAULT-STOP is entered (R121). -/
def Mode.canFault : Mode → Bool
  | .boot => true
  | .stop => true
  | .run => true
  | .hold => true
  | .standby => true
  | .off => false
  | .fabricOnly => false
  | .faultStop => false

/-- The module enters FAULT-STOP with a cause (R129): events, the STOP notice, the snapshot of R371, abandoned releases
and commands, the pair, and the warm restart or its denial. -/
def faultStopWith (deadline : Bool) (cause : Code) (s : State) : State :=
  if s.ctl.mode.canFault then
    let s0 := if s.ctl.pending.isSome then setResult 8 { s with ctl := { s.ctl with pending := none } } else s
    let s1 := enterMode .faultStop cause.toNat { s0 with ctl := { s0.ctl with cause, warm := false, warmRestart := none } }
    let s2 := raise evFaultStop (d16 cause.toNat) s1
    let s3 := pairFaultStop (sendStopNotice (snapshot (dropAll s2)))
    if s3.warmAllowed cause deadline then warmReset s3 else raise evWarmRestartDenied (d16 cause.toNat) s3
  else s

/-- FAULT-STOP with a cause other than an overrun. -/
def faultStop (cause : Code) (s : State) : State := faultStopWith false cause s

/-! ### Module LOCKOUT (R179) -/

/-- The fabric enters module LOCKOUT: every switch opens, every keepalive stops, the module enters FAULT-STOP. -/
def lockout (cause : Nat) (s : State) : State :=
  if s.fab.lockout ≠ 0 then s
  else
    let s1 := refresh { s with fab := { s.fab with lockout := cause, pulse := none } }
    faultStop evFabricLockout (raiseFab evModuleLockout [BitVec.ofNat 8 cause] s1)

/-! ### Lanes leaving IN (R48, R49, R450, R53) -/

/-- A lane enters EXCLUDED with a cause: cores stop, contexts, Buckets and scratch are discarded (R49). -/
def exclude (ln : Lane) (cause : Code) (s : State) : State :=
  let s1 := s.modLane ln (fun l =>
    { l.dropReleases with
      state := .excluded, cause, reported := none, inSince := none, commanded := false, resetDone := false
      verified := false, copySince := none, standpipe := [], token := none, drunk := none, signalled := none
      halves := [], scrub := none, digest := none
      rejoinFrom := s.cycleNow + 2 })
  let s2 := { s1 with rek := { s1.rek with
    kept := s1.rek.kept.filter (fun k => k.lane ≠ ln), splits := s1.rek.splits.filter (fun k => k.1 ≠ ln) } }
  raiseLane ln evLaneExcluded (BitVec.ofNat 8 (laneNo ln) :: d16 cause.toNat) s2

/-- A lane enters OUT with a cause (R52, R450). -/
def laneToOut (ln : Lane) (cause : Code) (s : State) : State :=
  raiseLane ln evLaneOut (BitVec.ofNat 8 (laneNo ln) :: d16 cause.toNat)
    (s.modLane ln (fun l => { l with state := .out, cause, resetDone := false, inSince := none }))

/-- Fewer than two lanes IN: LANES-EXHAUSTED and FAULT-STOP (R53). -/
def lanesCheck (s : State) : State :=
  if s.inLanes.length < 2 ∧ s.ctl.mode.canFault then faultStop evLanesExhausted (raise evLanesExhausted [] s) else s

/-- A lane withholds its Tallies and reports a cause (R48, R450); only the first cause of an exclusion is reported. -/
def reportCause (ln : Lane) (cause : Code) (s : State) : State :=
  s.modLane ln (fun l => if l.state = .isIn then { l with reported := some (l.reported.getD cause) } else l)

/-- Is the module degraded: exactly two lanes IN (R53)? -/
def State.degraded (s : State) : Bool := s.inLanes.length = 2

end Sys2Proof.Machine
end

