-- ==== Sys2Proof/Machine/Recorder.lean ====
section
/-! DEFINITION. The lifetime recorder's memory (R413 to R417) and its commands. -/

namespace Sys2Proof.Machine

/-! ### Records and their slots (R413) -/

structure RecRegion where
  /-- A region of R413: its offset, its number of records and its slot size. -/
  offset : Nat
  count : Nat
  slot : Nat
deriving DecidableEq, Repr

/-- The regions of R413, numbered from 0. -/
def recRegions : List RecRegion :=
  [{ offset := 0, count := 512, slot := 136 }, { offset := 0x22000, count := 1024, slot := 40 },
   { offset := 0x36000, count := 256, slot := 16 }, { offset := 0x38000, count := 512, slot := 16 },
   { offset := 0x3C000, count := 1, slot := 24 }]

/-- The payload of record `n` of a region in the working copy. -/
def recPayload (r : Recorder) (region n : Nat) : Bytes :=
  if region = 0 then (List.range 32).flatMap (fun b => leBytes 4 (sGet 0 (32 * n + b) r.bins))
  else if region = 1 then
    let x := (lookupKey n r.extremes).getD extremeReset
    leBytes 8 x.1.toNat ++ leBytes 8 x.2.1.toNat ++ leBytes 8 x.2.2.1.toNat ++ leBytes 8 x.2.2.2.toNat
  else if region = 2 then leBytes 8 (sGet 0 n r.counters)
  else if region = 3 then leBytes 8 (sGet 0 n r.suppressed)
  else leBytes 8 r.written ++ leBytes 4 r.torn ++ leBytes 4 0

/-- Puts a payload into the working copy (R415). -/
def recLoad (r : Recorder) (region n : Nat) (p : Bytes) : Recorder :=
  if region = 0 then
    { r with bins := (List.range 32).foldl (fun b k => sSet 0 (32 * n + k) (leAt p (4 * k) 4) b) r.bins }
  else if region = 1 then
    let w (k : Nat) : Word := BitVec.ofNat 64 (leAt p (8 * k) 8)
    let x := (w 0, w 1, w 2, w 3)
    { r with extremes := if x = extremeReset then dropKey n r.extremes else setKey n x r.extremes }
  else if region = 2 then { r with counters := sSet 0 n (leAt p 0 8) r.counters }
  else if region = 3 then { r with suppressed := sSet 0 n (leAt p 0 8) r.suppressed }
  else { r with written := leAt p 0 8, torn := leAt p 8 4 }

/-- The two slots of a record, none for one never written. -/
def recSlots (r : Recorder) (region n : Nat) : Option Slot2 × Option Slot2 :=
  ((r.slots.find? (fun e => e.1 = (region, n))).map (·.2)).getD (none, none)

/-- Is slot `a` newer than slot `b` (R415)? -/
def newerSeq (a b : Nat) : Bool :=
  let d := wrapNat 16 ((a : Int) - (b : Int))
  decide (1 ≤ d ∧ d ≤ 32767)

/-- Is the newer copy in slot 1? -/
def newerIn1 : Option Slot2 × Option Slot2 → Bool
  | (_, none) => false
  | (none, some _) => true
  | (some a, some b) => newerSeq b.seq a.seq

/-- One record written into the slot that does not hold the newer copy (R414). -/
def writeRecord (region n : Nat) (r : Recorder) : Recorder :=
  let r0 := { r with written := satAdd 64 r.written 1, dirty := r.dirty.filter (fun d => d ≠ (region, n)) }
  let r1 := if region = 4 then r0 else markDirty r0 4 0
  let sl := recSlots r region n
  let in1 := newerIn1 sl
  let seq := match (if in1 then sl.2 else sl.1) with
    | some c => (c.seq + 1) % 65536
    | none => 0
  let new : Option Slot2 := some { seq, crcOk := true, payload := recPayload r1 region n }
  let sl' := if in1 || sl.1.isNone then (new, sl.2) else (sl.1, new)
  { r1 with slots := r1.slots.filter (fun e => e.1 ≠ (region, n)) ++ [((region, n), sl')] }

/-- The choice of R415 for one record: the payload, if a correct copy exists, and whether a copy was torn. -/
def chooseCopy (sl : Option Slot2 × Option Slot2) : Option Bytes × Bool :=
  let newer := if newerIn1 sl then sl.2 else sl.1
  let older := if newerIn1 sl then sl.1 else sl.2
  match newer with
  | none => (none, false)
  | some a =>
    if a.crcOk then (some a.payload, false)
    else
      match older with
      | some b => if b.crcOk then (some b.payload, true) else (none, true)
      | none => (none, true)

/-- Every record is loaded from its slots at stage 1; a torn one raises RECORD-TORN (R415). -/
def loadRecords (s : State) : State :=
  let r0 := { s.rcd with bins := [], extremes := [], counters := [], suppressed := [], written := 0, torn := 0, dirty := [] }
  s.rcd.slots.foldl (fun q e =>
    let c := chooseCopy e.2
    let q1 := match c.1 with
      | some p => { q with rcd := recLoad q.rcd e.1.1 e.1.2 p }
      | none => q
    if c.2 then
      raise evRecordTorn (leBytes 1 e.1.1 ++ leBytes 2 e.1.2)
        { q1 with rcd := markDirty { q1.rcd with torn := satAdd 32 q1.rcd.torn 1, tornFlag := true } 4 0 }
    else q1) { s with rcd := r0 }

/-- The bytes of a slot in the memory: SEQ, zeros, CRC, payload (R413). -/
def slotBytes (size : Nat) : Option Slot2 → Bytes
  | none => List.replicate size 0
  | some x =>
    let body := leBytes 2 x.seq ++ [0, 0] ++ x.payload
    let c := (crc32 body).toNat
    fitTo size (leBytes 2 x.seq ++ [0, 0] ++ leBytes 4 (if x.crcOk then c else c ^^^ 1) ++ x.payload)

/-- One byte of the recorder memory as DMA reads it; the retained copies and all unused memory read 0 (R413). -/
def recByte (r : Recorder) (off : Nat) : Byte :=
  let hit := recRegions.zipIdx.find? (fun e => e.1.offset ≤ off && off < e.1.offset + e.1.count * 2 * e.1.slot)
  match hit with
  | some (g, k) =>
    let o := off - g.offset
    let n := o / (2 * g.slot)
    let sl := recSlots r k n
    let second := g.slot ≤ o % (2 * g.slot)
    ((slotBytes g.slot (if second then sl.2 else sl.1))[o % g.slot]?).getD 0
  | none => 0

/-- A region of the working copy as 0x7000:02 to :05 give it (R403, R417). -/
def recRegionBytes (r : Recorder) (region : Nat) : Bytes :=
  match recRegions[region]? with
  | some g => (List.range g.count).flatMap (fun n => recPayload r region n)
  | none => []

/-! ### Commands -/

/-- The running total behind SWITCH-CYCLES, VOTES and PORT-ERRORS: the closings of a channel, the UNANIMOUS windows, the
ingress and egress drops of a port (R408). -/
def State.measTotal (s : State) (code item : Nat) : Nat :=
  if code = 7 then (s.chan (Fin.ofNat 128 item)).cycles
  else if code = 9 then s.rek.unanimous
  else ((s.sw.ports[item + 1]?).map (fun p => p.inDrops + p.outDrops)).getD 0

/-- The rise of that total since the previous raising, U32; a total that was reset in between has risen from 0. -/
def State.measRise (s : State) (code item : Nat) : Nat :=
  let old := sGet 0 (256 * code + item) s.rcd.raised
  let new := s.measTotal code item
  min 4294967295 (if new < old then new else new - old)

/-- The value of a measurement code and item, none where R408 raises nothing. `sensed` is what only a sensor or a clock
outside the model knows: the junction temperature and the lane pace. -/
def State.measured (s : State) (code item : Nat) (sensed : BitVec 32) : Option (BitVec 32) :=
  let rise := s.measRise code item
  let n32 (v : Nat) : BitVec 32 := BitVec.ofNat 32 v
  if code = 1 then (if item = 0 then some (s.ctl.x1.setWidth 32) else none)
  else if code = 2 then
    (if item = 0 ∧ s.ctl.x1Samples ≠ [] then some (n32 (s.ctl.x1Samples.foldl (· + ·) 0 / s.ctl.x1Samples.length)) else none)
  else if code = 3 then (if item ≤ 4 then some sensed else none)
  else if code = 4 then
    (match [Lane.A, .B, .C][item]? with
    | some l => if (s.lane l).state = .isIn then some sensed else none
    | none => none)
  else if code = 5 then ((s.ctl.tasks[item]?).bind (·.load)).map n32
  else if code = 6 then (if item = 0 ∧ s.time.state = .locked then s.time.worst.map (BitVec.ofInt 32) else none)
  else if code = 7 then (if item < 128 ∧ rise ≠ 0 then some (n32 rise) else none)
  else if code = 8 then (if item = 0 then some 1 else none)
  else if code = 9 then (if item = 0 then some (n32 rise) else none)
  else if code = 10 then (if item < 10 ∧ rise ≠ 0 then some (n32 rise) else none)
  else if code = 11 then (if item = 0 ∧ s.rcd.powerUpRaised = false then some 1 else none)
  else none

/-- What a raising starts anew: the largest load, the largest offset, the total already counted (R408). -/
def State.measureTaken (s : State) (code item : Nat) : State :=
  if code = 5 then { s with ctl := { s.ctl with tasks := modAt item (fun x => { x with load := none }) s.ctl.tasks } }
  else if code = 6 then { s with time := { s.time with worst := none } }
  else if code = 7 ∨ code = 9 ∨ code = 10 then
    { s with rcd := { s.rcd with raised := sSet 0 (256 * code + item) (s.measTotal code item) s.rcd.raised } }
  else if code = 11 then { s with rcd := { s.rcd with powerUpRaised := true } }
  else s

/-- RECORDER_MEASUREMENT (R408): a measurement code of the table is applied through the code map. -/
def execRecorderMeasurement (t : Nat) (code : Code) (item : BitVec 8) (value : BitVec 32) (s : State) : Out :=
  let s := s.atTime t
  .next (if 1 ≤ s.ctl.stage then
      match s.measured code.toNat item.toNat value with
      | some v => measure code.toNat item v (s.measureTaken code.toNat item.toNat)
      | none => s
    else s)

/-- RECORD_WRITE (R414). -/
def execRecordWrite (t : Nat) (region : Fin 5) (n : Nat) (s : State) : Out :=
  let s := s.atTime t
  .next (if (region.val, n) ∈ s.rcd.dirty ∧ !s.rcd.fault then { s with rcd := writeRecord region.val n s.rcd } else s)

/-- RECORDER_FAULT (R416): from then on nothing is recorded. -/
def execRecorderFault (t : Nat) (s : State) : Out :=
  let s := s.atTime t
  .next (if s.rcd.fault then s else raise evRecorderFault [] { s with rcd := { s.rcd with fault := true } })

end Sys2Proof.Machine
end

