-- ==== Sys2Proof/Machine/Bridge.lean ====
section
/-! DEFINITION. The Cistern bridge (R316 to R330) and the DMA engine (R331 to R337) of chapter 12. -/

namespace Sys2Proof.Machine

/-! ### Error codes (R320) -/

/-- The names of the codes of R320. -/
def brOk : Fin 8 := 0
/-- SIZE. -/
def brSize : Fin 8 := 1
/-- WINDOW. -/
def brWindow : Fin 8 := 2
/-- ACCESS. -/
def brAccess : Fin 8 := 3
/-- TIMEOUT. -/
def brTimeout : Fin 8 := 6
/-- LOCK-BROKEN. -/
def brLockBroken : Fin 8 := 7

/-! ### Windows (R318, R319) -/

/-- The window of a native address and the offset in it; none below the windows. -/
def windowOf (addr : Nat) : Option (Nat × Nat) :=
  if 0xE0000000 ≤ addr ∧ addr < 0x120000000 then some ((addr - 0xE0000000) / 0x4000000, (addr - 0xE0000000) % 0x4000000)
  else none

/-- The size of a window. -/
def windowSize (w : Nat) : Nat :=
  if w = 0 then 0x10000 else if w = 1 then 16 else if w = 2 then 0x1000 else if w = 3 then 0x1000000 else 0

/-- Is the size one that a window admits? -/
def windowAdmits (w size : Nat) : Bool :=
  if w = 1 ∨ w = 2 then [4, 8].contains size else [1, 2, 4, 8, 32, 64].contains size

/-- How a core accesses a window. -/
inductive Access where | read | posted | nonposted | exclusive
deriving DecidableEq, Repr

/-- Is an access allowed by the window table, apart from a ring's owner? The table fixes the transaction type of a
write; window 1 refuses every write. -/
def windowTakes (w : Nat) (k : Access) : Bool :=
  match k with
  | .read => true
  | .posted => w = 0 || w = 3
  | .nonposted => w = 2
  | .exclusive => w = 0

/-- The owner code of a lane's split cores (0x7140+r:05). -/
def laneOwner (ln : Lane) : Nat := 4 + laneNo ln

/-- The owner of a ring. -/
def State.ringOwner (s : State) (r : Nat) : Nat := s.odNat (0x7140 + r) 0x05

/-- The check of R319 at issue: the code of the refusal, or OK. A read of window 1 takes 8 bytes at +0, and the U32
count at +8. -/
def State.issueCode (s : State) (ln : Lane) (c : Fin 4) (k : Access) (addr size : Nat) : Fin 8 :=
  if ¬([1, 2, 4, 8, 32, 64].contains size = true ∧ addr % size = 0) then brSize
  else
    match windowOf addr with
    | none => brWindow
    | some (w, off) =>
      if 4 ≤ w ∨ windowSize w < off + size then brWindow
      else if windowAdmits w size = false ∨ (k = .exclusive ∧ size ≠ 4 ∧ size ≠ 8) ∨ (w = 1 ∧ size = 4 ∧ off ≠ 8) then brSize
      else if s.triple c = true ∨ (s.lane ln).state ≠ .isIn then brAccess
      else if windowTakes w k = false then brAccess
      else if w = 2 ∧ k = .nonposted ∧ s.ringOwner (off / 64) ≠ laneOwner ln then brAccess
      else brOk

/-- An access refused at issue: counted, and answered with its code. -/
def refuseAccess (ln : Lane) (c : Fin 4) (code : Fin 8) (s : State) : State :=
  ({ s with bri := { s.bri with refused := modAt (laneNo ln) (satAdd 32 1) s.bri.refused } }).emit
    (.completion ln c { code, data := [] })

/-! ### Memory of the Commons (R318, R331) -/

/-- The base of the MAILBOX region in the Cistern. -/
def mailboxBase : Nat := 0x1FF0000

/-- One byte at a Commons address. -/
def State.commonsByte (s : State) (a : Nat) : Byte :=
  if mailboxBase ≤ a ∧ a < 0x2000000 then cGet a s.cis.mem
  else if 0x202000000 ≤ a ∧ a < 0x202200000 then recByte s.rcd (a - 0x202000000)
  else cGet a s.bri.mem

/-- Bytes from a Commons address on. -/
def State.commonsRead (s : State) (a n : Nat) : Bytes := tabulate n (fun k => s.commonsByte (a + k))

/-- Writes bytes at a Commons address, which lies in the MAILBOX or outside the Cistern. -/
def commonsWrite (a : Nat) (d : Bytes) (s : State) : State :=
  if mailboxBase ≤ a ∧ a < 0x2000000 then { s with cis := { s.cis with mem := cWrite a d s.cis.mem } }
  else { s with bri := { s.bri with mem := cWrite a d s.bri.mem } }

/-- The Commons address of an offset in window 0 or 3. -/
def targetOf (ln : Lane) (w off : Nat) : Nat :=
  if w = 0 then mailboxBase + off else 0x120000000 + laneNo ln * 0x1000000 + off

/-- The Commons address of a native address. -/
def nativeTarget (ln : Lane) (addr : Nat) : Nat :=
  match windowOf addr with
  | some (w, off) => targetOf ln w off
  | none => addr

/-! ### Semaphores (R322, R323) -/

/-- The granule of a MAILBOX address. -/
def granuleOf (a : Nat) : Nat := (a - mailboxBase) / 8

/-- Is an address in the MAILBOX? -/
def inMailbox (a : Nat) : Bool := mailboxBase ≤ a && a < 0x2000000

/-- Is a granule held? -/
def State.heldBy (s : State) (g : Nat) : Option Sema := s.bri.semas.find? (fun x => x.granule = g)

/-- Does a write of `n` bytes at a Commons address touch a held granule? -/
def State.touchesHeld (s : State) (a n : Nat) : Bool :=
  s.bri.semas.any (fun x => inMailbox a && (decide (a < mailboxBase + 8 * x.granule + 8) && decide (mailboxBase + 8 * x.granule < a + n)))

/-- The Commons address that an initiator's operation names; a service core gives it directly. -/
def opTarget (who : Initiator) (op : DirectOp) : Nat :=
  match who with
  | .core ln _ => nativeTarget ln op.addr
  | .service => op.addr

/-- An initiator's exclusive read has its semaphore: the data goes to the stalled core, or back to the service core. -/
def grantRead (who : Initiator) (op : DirectOp) (s : State) : State :=
  let a := opTarget who op
  let d := s.commonsRead a op.size
  let s1 := { s with bri := { s.bri with semas := s.bri.semas ++ [({ granule := granuleOf a, holder := who, since := s.time.now } : Sema)] } }
  match who with
  | .core ln c => s1.setCore ln c { s1.core ln c with
      stall := some { op with data := some d, reached := true }, exclusive := some (op.addr, op.size) }
  | .service => s1.emit (.serviceCompletion { code := brOk, data := d })

/-- Serves one waiting access if it can be served now; it stays waiting otherwise. -/
def serveOne (s : State) (x : Initiator × DirectOp) : State :=
  let a := opTarget x.1 x.2
  let keep : State := { s with bri := { s.bri with waiters := s.bri.waiters ++ [x] } }
  if x.2.exclusive then
    (if (s.heldBy (granuleOf a)).isSome ∨ 16 ≤ s.bri.semas.length then keep else grantRead x.1 x.2 s)
  else if s.touchesHeld a x.2.size then keep else commonsWrite a (x.2.data.getD []) s

/-- Serves the waiting accesses in order of arrival. -/
def serveWaiters (s : State) : State :=
  s.bri.waiters.foldl serveOne { s with bri := { s.bri with waiters := [] } }

/-- The semaphores that satisfy `p` are lost by their holders; waiting accesses are served. -/
def dropSemas (p : Sema → Bool) (s : State) : State :=
  serveWaiters { s with bri := { s.bri with semas := s.bri.semas.filter (fun x => !p x) } }

/-- The rank of an initiator among requests that arrive together: lanes A, B, C, service cores last. -/
def rankOf : Initiator → Nat
  | .core ln _ => laneNo ln
  | .service => 3

/-- Puts an access among the waiting ones in order of arrival. -/
def insertWaiter (x : Initiator × DirectOp) : List (Initiator × DirectOp) → List (Initiator × DirectOp)
  | [] => [x]
  | y :: ys =>
    if x.2.time < y.2.time ∨ (x.2.time = y.2.time ∧ rankOf x.1 < rankOf y.1) then x :: y :: ys else y :: insertWaiter x ys

/-- An access waits. -/
def waitFor (x : Initiator × DirectOp) (s : State) : State :=
  { s with bri := { s.bri with waiters := insertWaiter x s.bri.waiters } }

/-! ### Posted writes (R324, R326) -/

/-- A posted write reaches its target; one to a held granule waits there (R322). -/
def landOne (s : State) (p : PostedOp) : State :=
  let who := Initiator.core p.lane p.core
  let a := opTarget who p.op
  if s.touchesHeld a p.op.size then waitFor (who, p.op) s else commonsWrite a (p.op.data.getD []) s

/-- The posted writes that satisfy `p` reach their targets, oldest first. -/
def landWhere (p : PostedOp → Bool) (s : State) : State :=
  (s.bri.posted.filter p).foldl landOne { s with bri := { s.bri with posted := s.bri.posted.filter (fun x => !p x) } }

/-- The writes that a lane has posted before a read have reached their targets (R326); so has every write of more
than 60 µs ago, after which no timeout can be open. -/
def landBefore (ln : Lane) (s : State) : State :=
  landWhere (fun x => decide (x.lane = ln) || decide (x.op.time + 60000 < s.time.now)) s

/-- Every posted write of more than 60 µs ago has reached its target. -/
def landOld (s : State) : State := landWhere (fun x => decide (x.op.time + 60000 < s.time.now)) s

/-- The task open on a core: that of its running release, 0xFF for none. -/
def State.openTask (s : State) (ln : Lane) (c : Fin 4) : BitVec 8 :=
  match (s.core ln c).releases.head? with
  | some r => BitVec.ofNat 8 r.task.val
  | none => 0xFF

/-- A port in a direction carries a frame correctly: its replays end (R317). -/
def linkOk (ln : Lane) (toLane : Bool) (s : State) : State :=
  { s with bri := { s.bri with replayTry := modAt (2 * laneNo ln + b2n toLane) (fun _ => 0) s.bri.replayTry } }

/-! ### DMA rings (R331 to R337) -/

structure Desc where
  /-- A DMA descriptor of R332. -/
  source : Nat
  dest : Nat
  length : Nat
  own : Bool
  link : Bool
  event : Bool
deriving DecidableEq, Repr

/-- The ranges that DMA may read, or read and write, in ascending order (R331). -/
def dmaRegions (write : Bool) : List (Nat × Nat) :=
  [(0x1FF0000, 0x2000000), (0x120000000, 0x140000000), (0x200000000, 0x202000000)] ++
    (if write then [] else [(0x202000000, 0x202200000)]) ++ [(0x203000000, 0x204000000)]

/-- The ranges of a ring by its owner: a split core's ring has fewer (R337). -/
def ringRegions (write : Bool) (owner : Nat) : List (Nat × Nat) :=
  if 4 ≤ owner then
    let lo := 0x120000000 + (owner - 4) * 0x1000000
    [(0x1FF0000, 0x2000000), (lo, lo + 0x1000000), (0x200000000, 0x201000000)]
  else dmaRegions write

/-- Does `[a, a + n)` lie in the union of ascending ranges? -/
def coveredBy (a n : Nat) : List (Nat × Nat) → Bool
  | [] => n == 0
  | (lo, hi) :: r =>
    if n = 0 then true
    else if lo ≤ a ∧ a < hi then (if a + n ≤ hi then true else coveredBy hi (a + n - hi) r)
    else coveredBy a n r

/-- One ring. -/
def State.ring (s : State) (r : Nat) : Ring := (s.bri.rings[r]?).getD {}

/-- Changes one ring. -/
def State.modRing (s : State) (r : Nat) (f : Ring → Ring) : State :=
  { s with bri := { s.bri with rings := modAt r f s.bri.rings } }

/-- The address of a ring's current descriptor: the target of its last LINK, else the one at HEAD. -/
def State.descAddr (s : State) (r : Nat) : Nat :=
  (s.ring r).cur.getD (s.odNat (0x7140 + r) 0x01 + 32 * (s.ring r).head)

/-- The descriptor at an address. -/
def State.desc (s : State) (a : Nat) : Desc :=
  let b := s.commonsRead a 32
  let ctl := leAt b 0x14 2
  { source := leAt b 0 8, dest := leAt b 8 8, length := leAt b 0x10 4, own := ctl.testBit 15, link := ctl.testBit 14
    event := ctl.testBit 13 }

/-- Writes back STATUS and RESIDUE, and clears OWN on demand; 0x7140+r:06 and :07 follow. -/
def writeBack (r status residue : Nat) (clear : Bool) (s : State) : State :=
  let a := s.descAddr r
  let ctl := leNat (s.commonsRead (a + 0x14) 2)
  let ctl1 := if clear && ctl.testBit 15 then ctl - 2 ^ 15 else ctl
  (commonsWrite (a + 0x14) (leBytes 2 ctl1 ++ leBytes 2 (status * 4096) ++ leBytes 4 residue) s).modRing r
    (fun q => { q with status, residue })

/-- HEAD moves to the next descriptor. -/
def advance (r : Nat) (s : State) : State :=
  let n := max 1 (s.odNat (0x7140 + r) 0x02)
  s.modRing r (fun q => { q with head := (q.head + 1) % n, cur := none, moved := 0 })

/-- The ring number as a byte of a record. -/
def ringByte (r : Nat) : Byte := BitVec.ofNat 8 r

/-- A ring halts at its current descriptor with a status, OWN kept. -/
def haltRing (r status : Nat) (s : State) : State :=
  poke 2 r ((writeBack r status ((s.desc (s.descAddr r)).length) false s).modRing r (fun q => { q with awake := false }))

/-- May the ring use what its descriptor names (R331, R337)? The result is the address refused, if any. -/
def State.descRefused (s : State) (r : Nat) (d : Desc) : Option Nat :=
  let o := s.ringOwner r
  if d.link then (if coveredBy d.source 32 (ringRegions true o) then none else some d.source)
  else if !coveredBy d.source d.length (ringRegions false o) then some d.source
  else if !coveredBy d.dest d.length (ringRegions true o) then some d.dest else none

/-- A ring that is awake looks at its current descriptor: it sleeps where OWN is 0 and halts where an address is refused. -/
def fetchDesc (r : Nat) (s : State) : State :=
  let q := s.ring r
  if q.awake ∧ s.bri.engine = 0 then
    let d := s.desc (s.descAddr r)
    if !d.own then s.modRing r (fun q => { q with awake := false })
    else if s.odNat (0x7140 + r) 0x04 ≤ q.chain then s
    else
      match s.descRefused r d with
      | some a => raise evDmaAddressRefused (ringByte r :: leBytes 7 a) (haltRing r 3 s)
      | none => s
  else s

/-- Moves the bytes of a descriptor from `lo` up to `hi`. -/
def moveBytes (d : Desc) (lo hi : Nat) (s : State) : State :=
  let s1 := commonsWrite (d.dest + lo) (s.commonsRead (d.source + lo) (hi - lo)) s
  { s1 with bri := { s1.bri with moved := satAdd 64 s1.bri.moved (hi - lo) } }

/-- A ring is woken (R332): its chain count starts again. -/
def ringBell (r : Nat) (s : State) : State := fetchDesc r (s.modRing r (fun q => { q with awake := true, chain := 0 }))

/-- A ring's descriptor is aborted (R335). How many bytes the burst in progress leaves moved is not given: a free value. -/
def abortNow (r : Nat) (s : State) : State :=
  let d := s.desc (s.descAddr r)
  let q := s.ring r
  let hi := if d.link then q.moved else q.moved + (s.free 64).toNat % (d.length - q.moved + 1)
  let s1 := (if d.link then s else moveBytes d q.moved hi s).tick
  let s2 := writeBack r 1 (d.length - hi) true s1
  let s3 := (advance r s2).modRing r (fun q => { q with awake := false, abort := false })
  raise evDmaAborted (ringByte r :: leBytes 4 (d.length - hi)) (poke 2 r s3)

/-- An abort is written to a ring: it takes effect on a running ring, and once the engine runs again (R335, R336). -/
def ringAbort (r : Nat) (s : State) : State :=
  let q := s.ring r
  if !q.awake then s
  else if s.bri.engine = 0 then abortNow r s
  else s.modRing r (fun q => { q with abort := true })

/-- Every enabled ring runs again after a halt; waiting aborts apply (R336). -/
def dmaResume (s : State) : State :=
  let s1 := raise evDmaRestarted [] { s with bri := { s.bri with engine := 0, haltAt := none } }
  (List.range 64).foldl (fun q r =>
    let q1 := q.modRing r (fun x => { x with halted := false })
    if (q1.ring r).awake && (q1.ring r).abort then abortNow r q1 else fetchDesc r q1) s1

/-- The 64 rings of a lane's split cores (R337). -/
def State.laneRings (s : State) (ln : Lane) : List Nat := (List.range 64).filter (fun r => s.ringOwner r = laneOwner ln)

/-- A lane enters EXCLUDED (R49): its semaphores are released and its rings aborted (R323, R337). -/
def excludeLane (ln : Lane) (cause : Code) (s : State) : State :=
  let mine : Sema → Bool := fun x => match x.holder with
    | .core l _ => decide (l = ln)
    | .service => false
  let s1 := exclude ln cause s
  let gone : Initiator × DirectOp → Bool := fun x => match x.1 with
    | .core l _ => x.2.exclusive && decide (l = ln)
    | .service => false
  let s2 := { s1 with bri := { s1.bri with waiters := s1.bri.waiters.filter (fun x => !gone x) } }
  let s3 := dropSemas mine { s2 with ctl := { s2.ctl with tasks := s2.ctl.tasks.map (fun x =>
    if x.onLane = some ln then { x with onLane := none } else x) } }
  (s3.laneRings ln).foldl (fun q r => ringAbort r q) s3

/-! ### Direct accesses -/

/-- Opens a direct access of a core: it stalls until the completion (R321). -/
def openOp (ln : Lane) (c : Fin 4) (op : DirectOp) (s : State) : State := s.setCore ln c { s.core ln c with stall := some op }

/-- The data of a read of windows 0, 2 and 3, and of the event count in window 1. -/
def State.windowData (s : State) (ln : Lane) (c : Fin 4) (w off size : Nat) : Bytes :=
  if w = 1 then fitTo size (leBytes 4 (s.core ln c).events.length)
  else if w = 2 then
    let q := s.ring (off / 64)
    fitTo size (if off % 64 = 16 then leBytes 2 (q.status * 4096 + q.head) else [])
  else s.commonsRead (targetOf ln w off) size

/-- One word popped from a core's event queue; from an empty queue the spec gives no word, so a free value (R318). -/
def popEvent (ln : Lane) (c : Fin 4) (op : DirectOp) (s : State) : State :=
  let k := s.core ln c
  match k.events with
  | w :: ws => s.setCore ln c { k with events := ws, stall := some { op with data := some (leBytes 8 w.toNat), reached := true } }
  | [] => (s.setCore ln c { k with stall := some { op with data := some (leBytes 8 (s.free 64).toNat), reached := true } }).tick

/-- A non-posted read of a core through a window (R318, R319, R321). -/
def directRead (ln : Lane) (c : Fin 4) (addr size : Nat) (s0 : State) : State :=
  let code := s0.issueCode ln c .read addr size
  if (s0.core ln c).stall.isSome then s0
  else if code ≠ brOk then refuseAccess ln c code s0
  else
    let s := linkOk ln false (landBefore ln s0)
    let op : DirectOp := { addr, size, data := none, exclusive := false, time := s.time.now, reached := true }
    match windowOf addr with
    | none => s
    | some (w, off) =>
      if w = 1 ∧ off = 0 then popEvent ln c op s
      else openOp ln c { op with data := some (s.windowData ln c w off size) } s

/-- DIRECT_READ (R319). -/
def execDirectRead (t : Nat) (ln : Lane) (c : Fin 4) (addr size : Nat) (s : State) : Out :=
  .next (directRead ln c addr size (s.atTime t))

/-- EVENT_QUEUE_POP (R318): a read of window 1 at +0. -/
def execEventQueuePop (t : Nat) (ln : Lane) (c : Fin 4) (s : State) : Out :=
  .next (directRead ln c 0xE4000000 8 (s.atTime t))

/-- DIRECT_POSTED_WRITE (R324): it leaves its core at once. -/
def execDirectPostedWrite (t : Nat) (ln : Lane) (c : Fin 4) (addr : Nat) (data : Bytes) (s : State) : Out :=
  let s := landOld (s.atTime t)
  let code := s.issueCode ln c .posted addr data.length
  .next (if (s.core ln c).stall.isSome then s
    else if code ≠ brOk then refuseAccess ln c code s
    else
      let op : DirectOp := { addr, size := data.length, data := some data, exclusive := false, time := s.time.now, reached := false }
      linkOk ln false { s with bri := { s.bri with
        posted := s.bri.posted ++ [{ lane := ln, core := c, task := s.openTask ln c, op }] } })

/-- DIRECT_NONPOSTED_WRITE (R321): a doorbell or an abort of a ring in window 2. -/
def execDirectNonpostedWrite (t : Nat) (ln : Lane) (c : Fin 4) (addr : Nat) (data : Bytes) (s : State) : Out :=
  let s0 := s.atTime t
  let code := s0.issueCode ln c .nonposted addr data.length
  .next (if (s0.core ln c).stall.isSome then s0
    else if code ≠ brOk then refuseAccess ln c code s0
    else
      let s1 := linkOk ln false (landBefore ln s0)
      let off : Nat := ((windowOf addr).map (·.2)).getD 0
      let s2 := openOp ln c { addr, size := data.length, data := none, exclusive := false, time := s1.time.now, reached := true } s1
      if off % 64 = 0 then ringBell (off / 64) s2 else if off % 64 = 8 then ringAbort (off / 64) s2 else s2)

/-- Does an initiator hold the semaphore of a granule? -/
def State.holds (s : State) (who : Initiator) (g : Nat) : Bool :=
  s.bri.semas.any (fun x => x.granule = g && decide (x.holder = who))

/-- An exclusive read: the initiator's own semaphore is released first; the read waits while it cannot be served. -/
def exclusiveRead (who : Initiator) (op : DirectOp) (s : State) : State :=
  let s1 := dropSemas (fun x => decide (x.holder = who)) s
  let s2 := match who with
    | .core ln c => s1.setCore ln c { s1.core ln c with stall := some op, exclusive := none }
    | .service => s1
  let a := opTarget who op
  if (s2.heldBy (granuleOf a)).isSome ∨ 16 ≤ s2.bri.semas.length then waitFor (who, op) s2 else grantRead who op s2

/-- EXCLUSIVE_READ (R322). A service core names the Cistern address of the MAILBOX word. -/
def execExclusiveRead (t : Nat) (who : Initiator) (addr size : Nat) (s : State) : Out :=
  let s0 := s.atTime t
  let op : DirectOp := { addr, size, data := none, exclusive := true, time := s0.time.now, reached := false }
  .next (match who with
    | .core ln c =>
      let code := s0.issueCode ln c .exclusive addr size
      if (s0.core ln c).stall.isSome then s0
      else if code ≠ brOk then refuseAccess ln c code s0
      else exclusiveRead who op (linkOk ln false (landBefore ln s0))
    | .service =>
      if inMailbox addr && ((size = 4 || size = 8) && addr % size = 0) then exclusiveRead who op (landOld s0) else s0)

/-- EXCLUSIVE_WRITE (R323): performed only while the semaphore of the preceding exclusive read is held; a word that a
service core writes raises event source 8 (R329). -/
def execExclusiveWrite (t : Nat) (who : Initiator) (addr : Nat) (data : Bytes) (s : State) : Out :=
  let s0 := s.atTime t
  let op : DirectOp := { addr, size := data.length, data := some data, exclusive := true, time := s0.time.now, reached := true }
  let free := fun (a : Nat) (q : State) => dropSemas (fun x => x.granule = granuleOf a && decide (x.holder = who)) (commonsWrite a data q)
  .next (match who with
    | .core ln c =>
      let code := s0.issueCode ln c .exclusive addr data.length
      if (s0.core ln c).stall.isSome then s0
      else if code ≠ brOk then refuseAccess ln c code s0
      else
        let s1 := linkOk ln false (landBefore ln s0)
        let a := nativeTarget ln addr
        let ok := s1.holds who (granuleOf a) && decide ((s1.core ln c).exclusive = some (addr, data.length))
        let s2 := s1.setCore ln c { s1.core ln c with stall := some { op with reached := ok }, exclusive := none }
        if ok then free a s2 else s2
    | .service =>
      if !(inMailbox addr && ((data.length = 4 || data.length = 8) && addr % data.length = 0)) then s0
      else if s0.holds who (granuleOf addr) then
        poke 8 (granuleOf addr) ((free addr s0).emit (.serviceCompletion { code := brOk, data := [] }))
      else s0.emit (.serviceCompletion { code := brLockBroken, data := [] }))

/-- A stalled core resumes with an answer. -/
def answer (ln : Lane) (c : Fin 4) (x : Completion) (s : State) : State :=
  let s1 := s.setCore ln c { s.core ln c with stall := none }
  let mine : Initiator × DirectOp → Bool := fun w => decide (w.1 = .core ln c) && w.2.exclusive
  ({ s1 with bri := { s1.bri with waiters := s1.bri.waiters.filter (fun w => !mine w) } }).emit (.completion ln c x)

/-- Is an open operation a write: an exclusive one of it answers LOCK-BROKEN when it was not performed? -/
def State.opCode (s : State) (ln : Lane) (c : Fin 4) (op : DirectOp) : Fin 8 :=
  if op.exclusive ∧ op.reached = false ∧ (s.core ln c).exclusive = none then brLockBroken else brOk

/-- Does an exclusive read of a core still wait at the bridge? -/
def State.waits (s : State) (ln : Lane) (c : Fin 4) : Bool :=
  s.bri.waiters.any (fun w => decide (w.1 = .core ln c) && w.2.exclusive)

/-- DIRECT_COMPLETION (R321): the far side's answer; an error code of it is passed on, and data is what the target gave. -/
def execDirectCompletion (t : Nat) (ln : Lane) (c : Fin 4) (x : Completion) (s : State) : Out :=
  let s := linkOk ln true (s.atTime t)
  .next (match (s.core ln c).stall with
    | none => s
    | some op =>
      if 4 ≤ x.code.val ∧ x.code.val ≤ 6 then answer ln c { code := x.code, data := [] } s
      else if s.waits ln c then s
      else
        let code := s.opCode ln c op
        let wrote := op.exclusive && (s.core ln c).exclusive.isNone
        answer ln c { code, data := if code = brOk ∧ wrote = false then op.data.getD [] else [] } s)

/-- BRIDGE_TIMEOUT (R320): no answer within 50 µs. -/
def execBridgeTimeout (t : Nat) (ln : Lane) (c : Fin 4) (s : State) : Out :=
  let s := s.atTime t
  .next (match (s.core ln c).stall with
    | some op => if op.time + 50000 ≤ s.time.now then answer ln c { code := brTimeout, data := [] } s else s
    | none => s)

/-- The lane and core of an initiator in a record; 3 for a service core. -/
def whoBytes : Initiator → Bytes
  | .core ln c => [BitVec.ofNat 8 (laneNo ln), BitVec.ofNat 8 c.val]
  | .service => [3, 0]

/-- SEMAPHORE_BREAK (R323): held for 20 µs. -/
def execSemaphoreBreak (t granule : Nat) (s : State) : Out :=
  let s := s.atTime t
  .next (match s.heldBy granule with
    | some x =>
      if x.since + 20000 ≤ s.time.now then
        dropSemas (fun y => y.granule = granule) (raise evLockBroken (whoBytes x.holder ++ leBytes 2 granule)
          { s with bri := { s.bri with broken := satAdd 32 s.bri.broken 1 } })
      else s
    | none => s)

/-- LINK_REPLAY (R317): a frame fails its CRC; after 4 failed replays of it the port drops it. -/
def execLinkReplay (t : Nat) (ln : Lane) (toLane : Bool) (s : State) : Out :=
  let s := s.atTime t
  let k := 2 * laneNo ln + b2n toLane
  let n := (s.bri.replayTry[k]?).getD 0
  .next (if n < 4 then { s with bri := { s.bri with replayTry := modAt k (· + 1) s.bri.replayTry } }
    else raise evLinkReplayFail [BitVec.ofNat 8 (laneNo ln), BitVec.ofNat 8 (b2n toLane)]
      { s with bri := { s.bri with
        replayTry := modAt k (fun _ => 0) s.bri.replayTry, replays := modAt (laneNo ln) (satAdd 32 1) s.bri.replays } })

/-- Records a Late Error Ring entry, or its loss (R324, R325). -/
def recordLate (ln : Lane) (c : Fin 4) (window : Fin 4) (off size : Nat) (cause : Fin 8) (task : BitVec 8) (s : State) : State :=
  if 64 ≤ (s.bri.late.filter (fun e => !e.delivered)).length then
    let s1 := { s with bri := { s.bri with lateLost := satAdd 32 s.bri.lateLost 1, lateLostImage := s.bri.lateLostImage + 1 } }
    raiseIf (s.bri.lateLostImage = 0) evLateRingOverflow (d32 s1.bri.lateLost) s1
  else
    let e : LateEntry :=
      { addr := off, cycle := BitVec.ofNat 32 s.cycleNow, seq := s.bri.lateSeq, window, cause, lane := ln, core := c
        task, size, delivered := false }
    let all := s.bri.late ++ [e]
    let s1 := { s with bri := { s.bri with
      late := all.drop (all.length - 64), lateSeq := s.bri.lateSeq + 1, lateErrors := satAdd 32 s.bri.lateErrors 1 } }
    poke 5 e.seq.toNat (raise evLateError (d16 e.seq.toNat ++ [BitVec.ofNat 8 window.val, BitVec.ofNat 8 cause.val]) s1)

/-- LATE_ERROR (R324): a posted write fails at the far side with code 4 to 6; it is not performed and never retried. -/
def execLateError (t : Nat) (ln : Lane) (c : Fin 4) (window : Fin 4) (off size : Nat) (cause : Fin 8) (s : State) : Out :=
  let s := s.atTime t
  let hit := fun (p : PostedOp) => decide (p.lane = ln) && (decide (p.core = c) && (decide (p.op.size = size) &&
    decide (windowOf p.op.addr = some (window.val, off))))
  .next (if cause.val < 4 ∨ 6 < cause.val then s
    else
      match s.bri.posted.find? hit with
      | some p => recordLate ln c window off size cause p.task
          { s with bri := { s.bri with posted := s.bri.posted.erase p } }
      | none => recordLate ln c window off size cause (s.openTask ln c) s)

/-! ### Event words (R329, R330) -/

/-- An event word. -/
def eventWord (source count data now : Nat) : Word :=
  BitVec.ofNat 64 (source * 2 ^ 56 + satAt 255 count * 2 ^ 48 + data % 2 ^ 16 * 2 ^ 32 + now % 2 ^ 32)

/-- The cores whose index is SPLIT. -/
def State.splitCores (s : State) : List (Fin 4) := [(0 : Fin 4), 1, 2, 3].filter (fun c => !s.triple c)

/-- A word for a split core: into its queue of 64, or dropped and counted. -/
def queueWord (ln : Lane) (w : Word) (s : State) (c : Fin 4) : State :=
  let k := s.core ln c
  if k.events.length < 64 then s.setCore ln c { k with events := k.events ++ [w] }
  else
    let i := laneNo ln
    let first := !((s.bri.queueOverflow[i]?).getD false)
    raiseIf first evEventQueueOverflow [BitVec.ofNat 8 i] { s with bri := { s.bri with
      queueDropped := modAt i (satAdd 32 1) s.bri.queueDropped, queueOverflow := modAt i (fun _ => true) s.bri.queueOverflow } }

/-- One event word goes where the routing mask sends its source. -/
def routeWord (source : Nat) (w : Word) (s : State) : State :=
  let mask := leAt (s.odGet 0x7200 0x10) (source - 1) 1
  let s1 := if mask.testBit 0 then { s with bri := { s.bri with imageEvents := s.bri.imageEvents ++ [w] } } else s
  lanes.foldl (fun q ln => if mask.testBit (1 + laneNo ln) ∧ (q.lane ln).state = .isIn then
    q.splitCores.foldl (queueWord ln w) q else q) s1

/-- EVENT_POLL (R329): one word for every source raised since the previous poll, in the order of the source codes. -/
def execEventPoll (t : Nat) (s : State) : Out :=
  let s := s.atTime t
  let words := s.bri.raised.mergeSort (fun a b => a.1 ≤ b.1)
  .next (words.foldl (fun q e => routeWord e.1 (eventWord e.1 e.2.1 e.2.2 s.time.now) q)
    { s with bri := { s.bri with raised := [] } })

/-! ### DMA commands -/

/-- DMA_DOORBELL (R332): only the ring's owner writes it (R337); an engine that is halted runs it after the restart. -/
def execDmaDoorbell (t : Nat) (ring : Fin 64) (owner : BitVec 8) (s : State) : Out :=
  let s := landOld (s.atTime t)
  .next (if s.ringOwner ring.val = owner.toNat ∧ owner ≠ 0 then ringBell ring.val s else s)

/-- DMA_ABORT (R335). -/
def execDmaAbort (t : Nat) (ring : Fin 64) (owner : BitVec 8) (s : State) : Out :=
  let s := s.atTime t
  .next (if s.ringOwner ring.val = owner.toNat ∧ owner ≠ 0 then ringAbort ring.val s else s)

/-- Where a LINK continues: at the index of a descriptor of the ring itself, or at an address outside it. -/
def followLink (r a : Nat) (s : State) : State :=
  let base := s.odNat (0x7140 + r) 0x01
  let n := s.odNat (0x7140 + r) 0x02
  s.modRing r (fun q =>
    if base ≤ a ∧ a < base + 32 * n ∧ (a - base) % 32 = 0 then { q with head := (a - base) / 32, cur := none, moved := 0 }
    else { q with cur := some a, moved := 0 })

/-- DMA_DESCRIPTOR_DONE (R332): the bytes are moved and the descriptor is written back; a LINK is followed and keeps its
OWN. A write to a held granule of the MAILBOX waits (R322). -/
def execDmaDescriptorDone (t : Nat) (ring : Fin 64) (s : State) : Out :=
  let s := landOld (s.atTime t)
  let r := ring.val
  let q := s.ring r
  let d := s.desc (s.descAddr r)
  .next (if q.awake = false ∨ s.bri.engine ≠ 0 ∨ d.own = false ∨ s.odNat (0x7140 + r) 0x04 ≤ q.chain then s
    else if d.link then fetchDesc r (followLink r d.source (s.modRing r (fun q => { q with chain := q.chain + 1 })))
    else if s.touchesHeld d.dest d.length then s
    else
      let s1 := writeBack r 0 0 true (moveBytes d q.moved d.length s)
      let s2 := (advance r s1).modRing r (fun q => { q with chain := q.chain + 1 })
      fetchDesc r (if d.event then poke 1 r s2 else s2))

/-- CHAIN_LIMIT (R334): the limit is reached before the ring meets a descriptor whose OWN is 0. -/
def execChainLimit (t : Nat) (ring : Fin 64) (s : State) : Out :=
  let s := s.atTime t
  let r := ring.val
  let q := s.ring r
  .next (if q.awake ∧ s.bri.engine = 0 ∧ (s.desc (s.descAddr r)).own ∧ s.odNat (0x7140 + r) 0x04 ≤ q.chain then
      raise evChainLimit [ringByte r] (haltRing r 4 s)
    else s)

/-- One ring at an ENGINE-HALT: a descriptor in progress keeps OWN and shows HALTED and the bytes not yet written. -/
def haltOne (moved : List Nat) (s : State) (r : Nat) : State :=
  let q := s.ring r
  let d := s.desc (s.descAddr r)
  if q.awake && (d.own && !d.link) then
    let hi := max q.moved (min d.length ((moved[r]?).getD 0))
    (writeBack r 2 (d.length - hi) false (moveBytes d q.moved hi s)).modRing r (fun q => { q with moved := hi, halted := true })
  else s

/-- DMA_BUS_ERROR (R336): ENGINE-HALT of every ring; the third within 10 s is final. `moved` gives the bytes that each
ring's descriptor has moved. -/
def execDmaBusError (t : Nat) (moved : List Nat) (s : State) : Out :=
  let s := landOld (s.atTime t)
  .next (if s.bri.engine ≠ 0 then s
    else
      let s1 := (List.range 64).foldl (haltOne moved) s
      let times := s.time.now :: s.bri.haltTimes.filter (fun h => s.time.now < h + 10000000000)
      let final := decide (3 ≤ times.length)
      let n := satAdd 32 s.bri.halts 1
      let s2 := { s1 with bri := { s1.bri with
        engine := if final then 2 else 1, halts := n, haltTimes := times, haltAt := some s.time.now } }
      raiseIf final evEngineHaltFinal [] (poke 3 n (raise evEngineHalt (d32 n) s2)))

/-- DMA_RESTART (R336): 100 µs after a halt that is not final. -/
def execDmaRestart (t : Nat) (s : State) : Out :=
  let s := s.atTime t
  .next (match s.bri.haltAt with
    | some h => if s.bri.engine = 1 ∧ h + 100000 ≤ s.time.now then dmaResume s else s
    | none => s)

end Sys2Proof.Machine
end

