-- ==== Sys2Proof/Machine/Fabric.lean ====
section
/-! DEFINITION. The commands of the Safety Evaluation Fabric (chapter 6). A fabric time of n samples has run when its
span from the first sample to the present one reaches it; a limit's own command acts at that sample, and the next
link frame applies any limit whose command has not come (assumption 12). -/

namespace Sys2Proof.Machine

/-- The fabric's outputs follow its state; a keepalive that stops is a RELEASE cause of a pair module (R353). -/
def fabricChanged (s : State) : State :=
  let s1 := refresh s
  if s.fab.keepalive &&& ~~~s1.fab.keepalive ≠ 0 then pairRelease s1 else s1

/-! ### Checks that have a command of their own -/

/-- The discrepancy time of an instance in µs (R163). -/
def MapInst.discrepancy (m : MapInst) : Nat := m.t1 * 1000

/-- A pair that disagrees for longer than its time locks the instance (R163). -/
def checkDiscrepancy (i : Nat) (s : State) : State :=
  match s.mapInst i with
  | none => s
  | some m =>
    let q := s.inst i
    if overUs q.disagree1 m.discrepancy || overUs q.disagree2 m.discrepancy then enterLocked i 0x01 s else s

/-- An instance whose restore delay has run returns to RUN (R164). -/
def checkRestore (i : Nat) (s : State) : State :=
  match s.mapInst i with
  | none => s
  | some m =>
    let q := s.inst i
    if s.fab.lockout = 0 ∧ q.state = .tripped ∧ m.type ≠ 3 ∧ q.request = false ∧ q.owed = false ∧ returnMet s i m = true
    then enterRun i s else s

/-- Is a DSD instance's cab contact open (R167)? -/
def State.cabOpen (s : State) (m : MapInst) : Bool := m.ins[4]?.getD 0xFF != 0xFF && !s.contact m 4

/-- The DSD warning starts when v reaches T2 in RUN (R167). -/
def checkWarning (i : Nat) (s : State) : State :=
  match s.mapInst i with
  | none => s
  | some m =>
    let q := s.inst i
    if s.fab.lockout = 0 ∧ m.type = 3 ∧ q.state = .run ∧ q.warn = false ∧ 40 * m.t2 ≤ q.v then
      raiseFab evDsdWarning [BitVec.ofNat 8 i] (s.modInst i (fun x => { x with warn := true }))
    else s

/-- The DSD trips when v reaches T2 + T3 in RUN (R167). -/
def checkVigilance (i : Nat) (s : State) : State :=
  match s.mapInst i with
  | none => s
  | some m =>
    let q := s.inst i
    if s.fab.lockout = 0 ∧ m.type = 3 ∧ q.state = .run ∧ 40 * (m.t2 + m.t3) ≤ q.v then enterTripped i m 0x12 s else s

/-! ### Evaluation at a sample (R164, R166, R167) -/

/-- The inputs, RST contacts and sample counts of an instance at a sample. -/
def senseInst (i : Nat) (m : MapInst) (s : State) : State :=
  let a := s.contact m 0
  let b := s.contact m 1
  let c := s.contact m 2
  let d := s.contact m 3
  let e := s.contact m 4
  let rst := (m.rst.map (fun ch => ch != 0xFF && s.tap ch))
  s.modInst i (fun q =>
    let off1 := if a then 0 else q.off1 + 1
    let off2 := if b then 0 else q.off2 + 1
    let a' := if m.type = 4 then ossdOn a off1 m.t2 else a
    let b' := if m.type = 4 then ossdOn b off2 m.t2 else b
    let dis1 := if m.antivalent then a' == b' else a' != b'
    let closed := if m.type = 4 then a' && b' else pairClosed m a b
    { q with
      inputs := BitVec.ofNat 5 (b2n a + 2 * b2n b + 4 * b2n c + 8 * b2n d + 16 * b2n e)
      rst := BitVec.ofNat 2 (b2n (rst[0]?.getD false) + 2 * b2n (rst[1]?.getD false))
      off1, off2
      disagree1 := if dis1 then q.disagree1 + 1 else 0
      disagree2 := if m.type = 3 ∧ c ≠ d then q.disagree2 + 1 else 0
      closedFor := if closed then q.closedFor + 1 else 0 })

/-- Is the trip condition of a type other than DSD met (R164)? -/
def tripMet (s : State) (i : Nat) (m : MapInst) : Bool :=
  let q := s.inst i
  if m.type = 4 then !(ossdOn (s.contact m 0) q.off1 m.t2 && ossdOn (s.contact m 1) q.off2 m.t2)
  else !pairClosed m (s.contact m 0) (s.contact m 1)

/-- One sample of a type other than DSD. -/
def evalPair (i : Nat) (m : MapInst) (s : State) : State :=
  let q := s.inst i
  if q.state = .run then
    if tripMet s i m then enterTripped i m (if m.type = 4 then 0x13 else 0x10) s
    else if q.request then enterTripped i m 0x11 s else s
  else if q.state = .tripped ∧ q.request = false ∧ q.owed = false ∧ returnMet s i m = true ∧
      (m.type = 1 ∨ m.type = 5 ∨ (m.type = 2 ∧ m.t2 = 0) ∨ (m.type = 4 ∧ m.t3 = 0)) then enterRun i s
  else s

/-- One sample of a DSD (R167); the request trip of R162 comes first, with the DSD's own cause when it is due. -/
def evalDsd (i : Nat) (m : MapInst) (s : State) : State :=
  let q := s.inst i
  let hh := s.contact m 0 && s.contact m 1
  let ph := s.contact m 2 && s.contact m 3
  let press := (hh && !q.handleHeld) || (ph && !q.pedalHeld)
  let cab := s.cabOpen m
  let v1 := if press then 0 else (let w := q.v + 1; if !(hh || ph) && decide (w < 40 * m.t2) then 40 * m.t2 else w)
  let own := q.state = .run && (!cab && decide (40 * (m.t2 + m.t3) ≤ v1))
  let s0 := s.modInst i (fun x => { x with handleHeld := hh, pedalHeld := ph })
  let s1 := if q.state = .run ∧ q.request = true then enterTripped i m (if own then 0x12 else 0x11) s0 else s0
  let r := s1.inst i
  if cab then
    let s2 := s1.modInst i (fun x => { x with v := 0, warn := false })
    if r.state = .tripped ∧ r.request = false then enterRun i s2 else s2
  else if r.state = .run then s1.modInst i (fun x => { x with v := v1, warn := x.warn && decide (40 * m.t2 ≤ v1) })
  else if r.state = .tripped then
    let s2 := s1.modInst i (fun x => { x with warn := false, tt := x.tt + 1 })
    if press ∧ 40 * m.t4 ≤ r.tt + 1 ∧ r.request = false then enterRun i s2 else s2
  else s1

/-- One sample of one instance: what its predecessors left due, then its inputs, then its type; LOCKOUT freezes it. -/
def evalInst (s : State) (i : Nat) : State :=
  match s.mapInst i with
  | none => s
  | some m =>
    if s.fab.lockout ≠ 0 then senseInst i m s
    else
      let s1 := senseInst i m (checkRestore i (checkVigilance i (checkWarning i (checkDiscrepancy i s))))
      if m.type = 3 then evalDsd i m s1 else evalPair i m s1

/-- The request bits of a frame take effect at its boundary b (R171). -/
def takeRequests (s : State) : State :=
  match s.fab.frameNext with
  | some (req, cyc) =>
    if diff32 (s.cycleNow % 2 ^ 32) cyc.toNat < 2 ^ 31 then
      let s1 := { s with fab := { s.fab with frameNext := none } }
      (List.range 16).foldl (fun q i => q.modInst i (fun x => { x with request := req.getLsbD i })) s1
    else s
  | none => s

/-- One group's frame of a sample: CRC and SEQ, then tap states and read-backs (R186, R190). -/
def takeLinkFrame (s : State) (f : BitVec 96) : State :=
  let n := f.toNat
  if crc16 (beBytes 10 (n / 2 ^ 16)) ≠ n % 2 ^ 16 then s
  else
    let g := field n 87 85
    let seq := BitVec.ofNat 8 (field n 95 88)
    let prev := s.fab.linkSeq[g]?.getD none
    let ok := match prev with
      | some p => decide (seq = p + 1)
      | none => true
    let fab := { s.fab with linkSeq := s.fab.linkSeq.set g (some seq) }
    if !ok then { s with fab }
    else
      let low := BitVec.ofNat 16 (field n 63 48)
      let count (on : Bool) (k : Nat) (l : Sparse Nat) : Sparse Nat := sSet 0 k (if on then sGet 0 k l + 1 else 0) l
      let openFor := (List.range 16).foldl (fun l c => count (!low.getLsbD c) (16 * g + c) l) fab.openFor
      let stuckFor := (List.range 16).foldl (fun l c =>
        count (low.getLsbD c && !s.fabCloses (16 * g + c)) (16 * g + c) l) fab.stuckFor
      { s with fab := { fab with
          taps := fab.taps.set g (BitVec.ofNat 16 (field n 79 64)), lowRb := fab.lowRb.set g low
          highRb := fab.highRb.set g (BitVec.ofNat 16 (field n 47 32)), openFor, stuckFor
          linkAt := fab.linkAt.set g s.time.now, linkOk := fab.linkOk ||| BitVec.ofNat 8 (2 ^ g)
          linkFor := fab.linkFor.set g ((fab.linkFor[g]?.getD 0) + 1) } }

/-- Links without a valid frame at this sample start their run of valid frames again (R177). -/
def endLinkRuns (s : State) : State :=
  let runs := tabulate 8 (fun g => if s.fab.linkAt[g]?.getD 0 = s.time.now then s.fab.linkFor[g]?.getD 0 else 0)
  { s with fab := { s.fab with linkFor := runs } }

/-- A trip during a test pulse ends the pulse (R174). -/
def endPulseOnTrip (s : State) : State :=
  match s.fab.pulse with
  | some (ch, _) =>
    if s.chanPermit ch then s else { s with fab := { s.fab with pulse := none, pulseEnd := some (ch, s.time.now) } }
  | none => s

/-- FABRIC_LINK_FRAME (R190, R150): the frames of one sample arrive and every instance is evaluated. -/
def execFabricLinkFrame (t : Nat) (frames : List (BitVec 96)) (s : State) : Out :=
  let s0 := s.atTime t
  .next (if s0.fab.powered then
    let s1 := endLinkRuns (frames.foldl takeLinkFrame s0)
    let s2 := (List.range 16).foldl evalInst (takeRequests s1)
    fabricChanged (refreshWith true (endPulseOnTrip s2))
  else s0)

/-- FABRIC_LINK_TIMEOUT (R154): no valid frame for 100 µs; the group opens what the fabric commands, and the instances
that use the group lock with LINK. -/
def execFabricLinkTimeout (t : Nat) (g : Fin 8) (s : State) : Out :=
  let s0 := s.atTime t
  .next (if s0.fab.powered ∧ (s0.fab.linkAt[g.val]?.getD 0) + 100000 ≤ s0.time.now then
    let was := s0.fab.linkOk.getLsbD g.val
    let fab := { s0.fab with linkOk := s0.fab.linkOk &&& ~~~(BitVec.ofNat 8 (2 ^ g.val))
                             linkFor := s0.fab.linkFor.set g.val 0 }
    let s1 := ({ s0 with fab }).modGroup g (fun q => { q with lowCmd := 0, highCmd := 0 })
    let s2 := (s1.instsWhere (fun m => m.usesGroup g.val)).foldl (fun q i => enterLocked i 0x04 q) s1
    fabricChanged (if was then raiseFab evFabricLinkLost [BitVec.ofNat 8 (g.val + 1)] s2 else s2)
  else s0)

/-- DISCREPANCY_TIMEOUT (R163). -/
def execDiscrepancyTimeout (t : Nat) (i : Fin 16) (s : State) : Out :=
  .next (fabricChanged (checkDiscrepancy i.val (s.atTime t)))

/-- RESTORE_DELAY_EXPIRY (R164). -/
def execRestoreDelayExpiry (t : Nat) (i : Fin 16) (s : State) : Out :=
  .next (fabricChanged (checkRestore i.val (s.atTime t)))

/-- DSD_WARNING (R167). -/
def execDsdWarning (t : Nat) (i : Fin 16) (s : State) : Out :=
  .next (fabricChanged (checkWarning i.val (s.atTime t)))

/-- VIGILANCE_TRIP (R167). -/
def execVigilanceTrip (t : Nat) (i : Fin 16) (s : State) : Out :=
  .next (fabricChanged (checkVigilance i.val (s.atTime t)))

/-! ### The request link and the strobe (R151, R170 to R173) -/

/-- A valid request frame takes effect in the fabric: mode, keepalive enable, STOP notice, and request bits for b. -/
def takeFrame (bits : BitVec 128) (s : State) : State :=
  let n := bits.toNat
  let mode := field n 95 92
  let stop := bits.getLsbD 87
  let held := if stop ∨ mode = 6 then true else if mode = 2 then false else s.fab.heldOpen
  let cyc := BitVec.ofNat 32 (field n 127 96)
  let fab := { s.fab with
    frame := some bits, seenFrame := true, fired := false, missed := 0, expect := some (cyc + 1), heldOpen := held
    frameNext := some (if stop then 0 else BitVec.ofNat 16 (field n 79 64), cyc) }
  let s1 := if mode = 2 then { s with ctl := { s.ctl with ledFallback := false } } else s
  fabricChanged { s1 with fab }

/-- Is a request frame valid: its CRC, and the CYCLE of the coming boundary (R172)? -/
def State.frameValid (s : State) (bits : BitVec 128) : Bool :=
  let n := bits.toNat
  crc16 (beBytes 14 (n / 2 ^ 16)) = n % 2 ^ 16 && field n 127 96 = (s.cycleNow + 1) % 2 ^ 32

/-- REQUEST_FRAME (R170, R172): after supervision has fired, only a frame that shows mode BOOT is taken. -/
def execRequestFrame (t : Nat) (bits : BitVec 128) (s : State) : Out :=
  let s0 := s.atTime t
  .next (if s0.fab.powered then
    if s0.frameValid bits then
      (if s0.fab.fired ∧ field bits.toNat 95 92 ≠ 2 then s0 else takeFrame bits s0)
    else { s0 with fab := { s0.fab with missed := s0.fab.missed + 1 } }
  else s0)

/-- REQUEST_LINK_TIMEOUT (R172): the frames for two consecutive boundaries have not come by 10 µs before the second. -/
def execRequestLinkTimeout (t : Nat) (s : State) : Out :=
  let s0 := s.atTime t
  .next (match s0.fab.expect with
  | some e =>
    let due := diff32 ((s0.time.now + 10000) / s0.tb % 2 ^ 32) e.toNat
    if s0.fab.powered ∧ s0.fab.fired = false ∧ 1 ≤ due ∧ due < 2 ^ 31 then
      let s1 := { s0 with fab := { s0.fab with fired := true, heldOpen := true, frameNext := none } }
      let s2 := (List.range 16).foldl (fun q i => q.modInst i (fun x => { x with request := false })) s1
      fabricChanged (raiseFab evRequestLinkLost [] { s2 with ctl := { s2.ctl with ledFallback := true } })
    else s0
  | none => s0)

/-- BOUNDARY_STROBE (R151): over a run of 100 ms the reference ticks are compared with 100,000; a marked strobe of a
time step starts a new run (R281). -/
def execBoundaryStrobe (t : Nat) (ticks : Nat) (s : State) : Out :=
  let s0 := s.atTime t
  let fresh (q : State) : State := { q with fab := { q.fab with runTicks := 0, runStart := some q.time.now } }
  .next (if !s0.fab.powered then s0
  else if s0.time.strobeMark then fresh { s0 with time := { s0.time with strobeMark := false } }
  else
    match s0.fab.runStart with
    | none => fresh s0
    | some b =>
      let n := s0.fab.runTicks + ticks
      if s0.time.now < b + 100000000 then { s0 with fab := { s0.fab with runTicks := n } }
      else
        let dev : Int := (n : Int) - 100000
        let s1 := fresh { s0 with fab := { s0.fab with deviation := clampInt (-32768) 32767 (dev.tdiv 10) } }
        if 5000 < dev.natAbs then lockout 2 s1 else s1)

/-- DUAL_RAIL_FAULT (R179). -/
def execDualRailFault (t : Nat) (s : State) : Out :=
  let s0 := s.atTime t
  .next (if s0.fab.powered then lockout 3 s0 else s0)

/-- FABRIC_MEMORY_FAULT (R179). -/
def execFabricMemoryFault (t : Nat) (s : State) : Out :=
  let s0 := s.atTime t
  .next (if s0.fab.powered then lockout 6 s0 else s0)

/-! ### Test pulses and read-back (R174, R175) -/

/-- The instances that a channel is an output or WARN channel of. -/
def State.governors (s : State) (ch : Nat) : List Nat := s.instsWhere (fun m => m.outputs.contains ch)

/-- A failure of a channel: its instances lock, the group's keepalive stops, and it is counted (R174, R175). -/
def channelFails (ch : Fin 128) (cause : BitVec 8) (ev : Code) (s : State) : State :=
  let s1 := (s.governors ch.val).foldl (fun q i => enterLocked i cause q) s
  let s2 := raiseFab ev [BitVec.ofNat 8 ch.val] s1
  let s3 := raiseFab evGroupKeepaliveStopped [BitVec.ofNat 8 ((chGroup ch).val + 1)] s2
  fabricChanged { s3 with fab := { s3.fab with
    testFails := satAdd 32 s3.fab.testFails 1, stopped := (chGroup ch, ch.val) :: s3.fab.stopped } }

/-- TEST_PULSE (R174): the fabric opens a closed low-side switch, one channel at a time, at least 1 ms after the last. -/
def execTestPulse (t : Nat) (ch : Fin 128) (s : State) : Out :=
  let s0 := s.atTime t
  let rested := match s0.fab.pulseEnd with
    | some e => decide (e.2 + 1000000 ≤ s0.time.now)
    | none => true
  .next (if s0.fab.pulse = none ∧ s0.fabCloses ch.val = true ∧ rested = true then
    fabricChanged { s0 with fab := { s0.fab with pulse := some (ch.val, s0.time.now), tests := satAdd 64 s0.fab.tests 1 } }
  else s0)

/-- TEST_PULSE_END (R174): the read-back of the pulse is judged when TEST_PULSE has run. -/
def execTestPulseEnd (t : Nat) (ch : Fin 128) (s : State) : Out :=
  let s0 := s.atTime t
  .next (match s0.fab.pulse with
  | some (c, start) =>
    if c = ch.val ∧ start + 10000 * (s0.smap.map (·.testPulse)).getD 0 ≤ s0.time.now then
      let s1 := { s0 with fab := { s0.fab with pulse := none, pulseEnd := some (c, s0.time.now) } }
      if (s1.fab.lowRb[c / 16]?.getD 0).getLsbD (c % 16) then channelFails ch 0x02 evTestPulseFail s1 else fabricChanged s1
    else s0
  | none => s0)

/-- READBACK_TIMEOUT (R175): a low-side switch reads closed for more than 500 µs while the fabric commands it open. -/
def execReadbackTimeout (t : Nat) (ch : Fin 128) (s : State) : Out :=
  let s0 := s.atTime t
  .next (if s0.fab.powered ∧ s0.governors ch.val ≠ [] ∧ overUs (sGet 0 ch.val s0.fab.stuckFor) 500 = true ∧
      s0.fab.stopped.any (fun e => e.2 == ch.val) = false then channelFails ch 0x03 evReadbackFail s0 else s0)

/-! ### Deliberate reset (R176 to R178) -/

/-- Is a pulse on a pair of contacts valid (R176)? -/
def pulseValid (rise1 rise2 fall1 fall2 : Nat) : Bool :=
  let near (a b : Nat) : Bool := decide (a ≤ b + 50000000 ∧ b ≤ a + 50000000)
  let rise := max rise1 rise2
  let fall := min fall1 fall2
  near rise1 rise2 && (near fall1 fall2 && decide (rise + 200000000 ≤ fall ∧ fall ≤ rise + 3000000000))

/-- Is the cause of a LOCKED instance gone (R177)? -/
def causeGone (s : State) (i : Nat) (m : MapInst) : Bool :=
  let q := s.inst i
  if q.cause = 0x01 then q.disagree1 == 0 && q.disagree2 == 0
  else if q.cause = 0x04 then (List.range 8).all (fun g => !m.usesGroup g || decide (4000 ≤ s.fab.linkFor[g]?.getD 0))
  else m.outputs.all (fun c => decide (4000 ≤ sGet 0 c s.fab.openFor))

/-- A reset pulse resets one LOCKED instance whose cause is gone; TEST-PULSE and READBACK release the group (R177). -/
def resetInst (s : State) (i : Nat) : State :=
  match s.mapInst i with
  | none => s
  | some m =>
    let q := s.inst i
    if q.state = .locked ∧ causeGone s i m = true then
      let s1 := enterReset i m s
      if q.cause = 0x02 ∨ q.cause = 0x03 then
        { s1 with fab := { s1.fab with stopped := s1.fab.stopped.filter (fun e => !m.outputs.contains e.2) } }
      else s1
    else s

/-- An invalid pulse: counted, with its event (R176). -/
def invalidPulse (s : State) : State :=
  raiseFab evResetPulseInvalid [] { s with fab := { s.fab with invalid := satAdd 32 s.fab.invalid 1 } }

/-- A valid pulse is counted (0x4000:05). -/
def countPulse (s : State) : State := { s with fab := { s.fab with resets := satAdd 32 s.fab.resets 1 } }

/-- ACK_PULSE (R176, R178): a pulse on the ACK pair or the front key resets every LOCKED instance whose cause is gone. -/
def execAckPulse (t : Nat) (key : Bool) (rise1 rise2 fall1 fall2 : Nat) (s : State) : Out :=
  let s0 := s.atTime t
  let heard := if key then s0.mapFlag 6 else (s0.smap.map (fun m => m.ack1 != 0xFF)).getD false
  .next (if s0.fab.powered ∧ s0.fab.lockout = 0 ∧ heard = true then
    (if pulseValid rise1 rise2 fall1 fall2 then fabricChanged ((List.range 16).foldl resetInst (countPulse s0))
     else invalidPulse s0)
  else s0)

/-- RESTART_PULSE (R162, R176): a valid pulse on the RST pair pays an owed restart while the return condition holds. -/
def execRestartPulse (t : Nat) (i : Fin 16) (rise1 rise2 fall1 fall2 : Nat) (s : State) : Out :=
  let s0 := s.atTime t
  .next (match s0.mapInst i.val with
  | some m =>
    if s0.fab.powered ∧ s0.fab.lockout = 0 ∧ m.hasRst = true then
      (if pulseValid rise1 rise2 fall1 fall2 then
        let s1 := countPulse s0
        let q := s1.inst i.val
        if q.state = .tripped ∧ q.owed = true ∧ returnMet s1 i.val m = true then
          let s2 := s1.modInst i.val (fun x => { x with owed := false })
          fabricChanged (if q.request then s2 else enterRun i.val s2)
        else s1
       else invalidPulse s0)
    else s0
  | none => s0)

/-! ### The Safety Map (R155, R160) -/

/-- The function code a channel works with: its role, else its configured code (R153, R191). -/
def Chan.fn (c : Chan) : BitVec 8 := c.role.getD c.func

/-- A channel's chain starts again under a new function (R192). -/
def Chan.fresh (c : Chan) : Chan :=
  { c with
    age := 0, state := false, count := 0, tapLevel := false, tapCount := 0, tapState := false, edges := 0
    edgeLevel := false, edgeSeen := 0, stamps := [], rise := false, fall := false, rejected := 0, rejectedLast := 0
    chatter := false, onFor := 0, maxOn := false }

/-- The channels whose configured function code differs from their map role (R153). -/
def State.roleMismatches (s : State) : List (Fin 128) :=
  (List.finRange 128).filter (fun ch => match s.smap.bind (fun m => mapRole m ch.val) with
    | some r => decide (s.odNat (chIndex ch) 0x01 ≠ r.toNat)
    | none => false)

/-- The Commons reports them. -/
def reportRoles (s : State) : State :=
  s.roleMismatches.foldl (fun q ch => raise evRoleMismatch [BitVec.ofNat 8 ch.val] q) s

/-- Gives a channel its role; its chain starts again when its function changes. -/
def Chan.setRole (c : Chan) (r : Option (BitVec 8)) : Chan :=
  let c1 := { c with role := r }
  if c1.fn = c.fn then c1 else c1.fresh

/-- The groups receive the roles that the map gives (R153). -/
def sendRoles (s : State) : State :=
  match s.smap with
  | none => s
  | some m =>
    let put (g : Nat) (q : Group) : Group :=
      { q with chans := (q.chans.zipIdx).map (fun e => e.1.setRole (mapRole m (16 * g + e.2))) }
    { s with fio := { s.fio with groups := (s.fio.groups.zipIdx).map (fun e => put e.2 e.1) } }

/-- Is the request binding of an entry good (R161): a VITAL BOOL of Cistern space, owned only by tasks on TRIPLE indices,
with SAFE_VALUE 1? -/
def State.bindingGood (s : State) (m : MapInst) : Bool :=
  match s.signal m.request with
  | some e =>
    let taskTriple (o : Nat) : Bool :=
      if ownKind o = 0 then true
      else if ownKind o = 1 then
        match s.taskDef (Fin.ofNat 16 (ownId o)) with
        | some d => s.ctl.placement.getLsbD d.core.val
        | none => false
      else false
    e.vital && (e.ty = .bool && (!e.inImage && (e.safe = 1 && (taskTriple e.owner1 && taskTriple e.owner2))))
  | none => false

/-- The Commons checks the request bindings at every map or image activation (R161). -/
def checkBindings (s : State) : State :=
  let bad := fun i => (s.mapInst i).any (fun m => m.requestEnable && !s.bindingGood m)
  let s1 := { s with fab := { s.fab with badBinding := bits16 bad } }
  (List.range 16).foldl (fun q i => if bad i then raise evRequestBindingInvalid [BitVec.ofNat 8 i] q else q) s1

/-- A map becomes active: every instance goes OFF, and every instance of the map enters TRIPPED with START (R162). -/
def activateMap (b : Bytes) (s : State) : State :=
  let m := readMap b
  let off := s.fab.insts.map (fun q => { ({} : Inst) with cause := q.cause })
  let s1 := sendRoles { s with fab := { s.fab with map := some (b, m), insts := off, pulse := none } }
  let s2 := (List.range 16).foldl (fun q i => match q.mapInst i with
    | some e => enterTripped i e 0x14 q
    | none => q) s1
  checkBindings s2

/-- The fabric takes a written map, checks it and stages it, or refuses it with a reason (R159, R160). -/
def stageMap (via : Via) (b : Bytes) (s : State) : State :=
  let r := mapReason b
  if r = 0 then { s with fab := { s.fab with staged := some (b, s.time.now, via), writeState := 1, reason := 0 } }
  else raiseFab evMapRefused [BitVec.ofNat 8 r]
    { s with fab := { s.fab with staged := none, writeState := 3, reason := r } }

/-- The writer of a staged map by session, so that only the same session may echo (R160). -/
def sameWriter : Via → Via → Bool
  | .abacus n _ _ _ _, .abacus m _ _ _ _ => n == m
  | .sdo a, .sdo b => a == b
  | .abacus .., .sdo _ => false
  | .sdo _, .abacus .. => false

/-- The echo of the digest: a match lets the copies be written, a mismatch discards the map (R160). -/
def echoMap (digest : Bytes) (s : State) : State :=
  match s.fab.staged with
  | none => s
  | some (b, _, _) =>
    if digest = Config.sha256 b then { s with fab := { s.fab with staged := none, writing := some b } }
    else raiseFab evMapRefused [5] { s with fab := { s.fab with staged := none, writeState := 3, reason := 5 } }

/-- MAP_EXPIRY (R160): no echo within 60 s. -/
def execMapExpiry (t : Nat) (s : State) : Out :=
  let s0 := s.atTime t
  .next (match s0.fab.staged with
  | some (_, at0, _) =>
    if at0 + 60000000000 ≤ s0.time.now then
      raiseFab evMapRefused [0] { s0 with fab := { s0.fab with staged := none, writeState := 4 } }
    else s0
  | none => s0)

/-- MAP_COPIES_WRITTEN (R160): both copies hold the new map with the sequence incremented, and it becomes active. -/
def execMapCopiesWritten (t : Nat) (s : State) : Out :=
  let s0 := s.atTime t
  .next (match s0.fab.writing with
  | some b =>
    let seq := (if s0.fab.copyA.seq.toNat < s0.fab.copyB.seq.toNat then s0.fab.copyB.seq else s0.fab.copyA.seq) + 1
    let c : MapCopy := { seq, crcOk := true, bytes := b }
    let s1 := activateMap b { s0 with fab := { s0.fab with copyA := c, copyB := c, writing := none, writeState := 2, reason := 0 } }
    fabricChanged (reportRoles (raiseFab evMapWritten ((Config.sha256 b).take 4) s1))
  | none => s0)

/-- The content of a memory that an alteration has changed (MAP_PERIODIC_CHECK's operands). -/
def altered (c : MapCopy) (x : Option Bytes) : MapCopy :=
  match x with
  | some b => { c with bytes := b }
  | none => c

/-- MAP_PERIODIC_CHECK (R155): the working copy is compared with the stored copies; a stored copy that differs is
repaired, and a working copy that differs from both locks the module out. -/
def execMapPeriodicCheck (t : Nat) (work copyA copyB : Option Bytes) (s : State) : Out :=
  let s0 := s.atTime t
  .next (match s0.fab.map with
  | some (m0, sm) =>
    if s0.fab.powered then
      let m := work.getD m0
      let a := altered s0.fab.copyA copyA
      let b := altered s0.fab.copyB copyB
      let s1 := { s0 with fab := { s0.fab with copyA := a, copyB := b, map := some (m, if m = m0 then sm else readMap m) } }
      let okA := copyBytes a = m
      let okB := copyBytes b = m
      if okA ∧ okB then s1
      else if okA then raiseFab evMapCopyRepaired [] { s1 with fab := { s1.fab with copyB := a } }
      else if okB then raiseFab evMapCopyRepaired [] { s1 with fab := { s1.fab with copyA := b } }
      else lockout 4 s1
    else s0
  | none => s0)

end Sys2Proof.Machine
end

