-- ==== Sys2Proof/Machine/Siphon.lean ====
section
/-! DEFINITION. The Siphon: its frames as sent, their SEQ (R346 to R348), and the seal context's bytes (R300). -/

namespace Sys2Proof.Machine

/-- The seal context of R300 as it lies in a Standpipe or a frame. -/
def ctxBytes (c : SealCtx) : Bytes :=
  let mask := tabulate 2048 (fun k => BitVec.ofNat 8
    ((c.forced.filter (fun n => n / 8 = k)).eraseDups.foldl (fun a n => a + 2 ^ (n % 8)) 0))
  let body := leBytes 4 c.cycle.toNat ++ (leBytes 1 c.mode ++ (leBytes 1 (b2n c.degraded) ++ (List.replicate 6 0 ++ mask)))
  leBytes 4 (crc32c body).toNat ++ body

/-- A seal context read from its bytes. -/
def readCtx (b : Bytes) : SealCtx :=
  { crcOk := b.length = 2064 && leAt b 0 4 == (crc32c (b.drop 4)).toNat, cycle := BitVec.ofNat 32 (leAt b 4 4)
    mode := leAt b 8 1, degraded := (leAt b 9 1).testBit 0
    forced := (List.range 16384).filter (fun n => (leAt b (16 + n / 8) 1).testBit (n % 8)) }

/-- The header of a Siphon frame (R346). -/
def siphonHeader (f : SiphonFrame) : Bytes :=
  [f.kind, f.flags] ++ (beBytes 2 f.payload.length ++ (beBytes 4 f.seq.toNat ++ (beBytes 8 f.cycle.toNat ++
    (beBytes 4 f.offset ++ List.replicate 4 0))))

/-- The CRC of a Siphon frame. -/
def siphonCrc (f : SiphonFrame) : BitVec 32 := crc32c (siphonHeader f ++ f.payload)

/-- The SEQ of the next frame of a kind that this module sends. -/
def State.nextSeqOut (s : State) (kind : Nat) : BitVec 32 := (s.pair.seqOut[kind]?).getD 0

/-- One frame of a kind has been sent. -/
def bumpSeq (kind : Nat) (s : State) : State :=
  { s with pair := { s.pair with seqOut := modAt kind (· + 1) s.pair.seqOut } }

/-- Sends one Siphon frame. -/
def sendFrame (kind : Nat) (last : Bool) (cycle offset : Nat) (payload : Bytes) (s : State) : State :=
  let f : SiphonFrame := { kind := BitVec.ofNat 8 kind, flags := BitVec.ofNat 8 (b2n last), seq := s.nextSeqOut kind
                           cycle := BitVec.ofNat 64 cycle, offset, payload, crc := 0 }
  (bumpSeq kind s).emit (.siphon { f with crc := siphonCrc f })

/-- Sends the part of an object from `off` on in frames of at most 1,024 bytes, each of at least 16 (R346). -/
def sendObjectFrom (kind cycle : Nat) (obj : Bytes) : Nat → Nat → State → State
  | 0, _, s => s
  | n + 1, off, s =>
    let part := slice obj off 1024
    let last := decide (obj.length ≤ off + 1024)
    let s1 := sendFrame kind last cycle off (fitTo (max 16 part.length) part) s
    if last then s1 else sendObjectFrom kind cycle obj n (off + 1024) s1

/-- Sends a whole object. -/
def sendObject (kind cycle : Nat) (obj : Bytes) (s : State) : State :=
  sendObjectFrom kind cycle obj (obj.length / 1024 + 1) 0 s

/-- Sends a CONTROL message. -/
def sendControl (m : ControlMsg) (s : State) : State :=
  (bumpSeq 6 s).emit (.siphonControl (s.nextSeqOut 6) s.cycleNow m)

/-- An ACTIVE module of a pair mirrors a change in a STATE frame (R352). -/
def mirror (m : MirrorMsg) (s : State) : State :=
  if s.pair.inPair && s.pair.state = .active then (bumpSeq 4 s).emit (.siphonState (s.nextSeqOut 4) s.cycleNow m) else s

/-- An ACTIVE module forwards an image, then its seal context, to its partner (R348, R349). -/
def forwardImage (img : Image) (s : State) : State :=
  if s.pair.inPair && s.pair.state = .active then sendObject 2 img.cycle (ctxBytes img.ctx) (sendObject 2 img.cycle img.bytes s) else s

end Sys2Proof.Machine
end

