-- ==== Sys2Proof/Machine/Telegrams.lean ====
section
/-! DEFINITION. Telegrams and the legacy gateways of chapter 11: subscriptions and the BUS section of the image
(R294 to R298), what the buses carry in each mode (R124, R292), TRDP process and message data, MVB and CANopen. -/

namespace Sys2Proof.Machine

/-! ### Table entries (R294, R308, R313) -/

structure Rec where
  /-- One source of a record in the BUS section: a subscription, a SINK port or an RPDO, by its place in its table. -/
  idx : Nat
  length : Nat
  timeout : Nat
  isVital : Bool
  isSealed : Bool
  keep : Bool
  big : Bool
  withData : Bool
  profile : Nat
  maxLoss : Nat
  maxAge : Nat
  sealId : Nat
  period : Nat
  record : Nat
  bindFirst : Nat
  bindCount : Nat
deriving DecidableEq, Repr

/-- The entries of a DOMAIN of `n`-byte entries in force, with their places; none while no table is in effect (R287). -/
def State.tableOf (s : State) (i u n : Nat) : List (Bytes × Nat) :=
  if s.tel.bindState = 1 then (chunksOf n (s.odForce i u)).zipIdx else []

/-- The VALID subscription entries. -/
def State.subTable (s : State) : List (Bytes × Nat) :=
  (s.tableOf 0x5400 0x02 32).filter (fun e => (leAt e.1 0x10 1).testBit 0)

/-- The record source of a subscription entry (R294). -/
def readSub (host : Bool) (e : Bytes × Nat) : Rec :=
  let b := e.1
  let fl := leAt b 0x10 1
  { idx := e.2, length := leAt b 0x0C 2, timeout := leAt b 0x0E 2, isVital := fl.testBit 2, isSealed := fl.testBit 1
    keep := fl.testBit 3, big := true, withData := fl.testBit 2 || host, profile := leAt b 0x11 1
    maxLoss := leAt b 0x12 1, maxAge := leAt b 0x13 1, sealId := leAt b 0x14 4, period := leAt b 0x1A 2
    record := leAt b 0x18 2, bindFirst := leAt b 0x1C 2, bindCount := leAt b 0x1E 2 }

/-- The VALID MVB port entries of a direction: 0 POLL-ONLY, 1 SINK, 2 SOURCE (R308). -/
def State.portTable (s : State) (dir : Nat) : List (Bytes × Nat) :=
  (s.tableOf 0x5600 0x03 16).filter (fun e => (leAt e.1 3 1).testBit 0 && leAt e.1 3 1 / 4 % 4 = dir)

/-- The size in bytes of an MVB port entry. -/
def portSize (b : Bytes) : Nat := 2 ^ (leAt b 2 1 + 1)

/-- The record source of a SINK port (R309). -/
def readSink (e : Bytes × Nat) : Rec :=
  let b := e.1
  { idx := e.2, length := portSize b, timeout := leAt b 6 2, isVital := false, isSealed := false
    keep := (leAt b 3 1).testBit 1, big := true, withData := false, profile := 0, maxLoss := 0, maxAge := 0
    sealId := 0, period := 0, record := leAt b 8 2, bindFirst := leAt b 0x0A 2, bindCount := leAt b 0x0C 2 }

/-- The VALID PDO entries of a bus, TPDOs or RPDOs (R313). -/
def State.pdoTable (s : State) (bus : Fin 2) (tpdo : Bool) : List (Bytes × Nat) :=
  (s.tableOf 0x5700 (0x10 * (bus.val + 1) + 8) 16).filter (fun e =>
    (leAt e.1 6 1).testBit 0 && (leAt e.1 6 1).testBit 1 == tpdo)

/-- The key of a PDO entry among both buses. -/
def pdoKey (bus : Fin 2) (idx : Nat) : Nat := 128 * bus.val + idx

/-- The record source of an RPDO (R313). -/
def readRpdo (bus : Fin 2) (e : Bytes × Nat) : Rec :=
  let b := e.1
  { idx := pdoKey bus e.2, length := leAt b 4 1, timeout := leAt b 8 2, isVital := false, isSealed := false
    keep := (leAt b 6 1).testBit 2, big := false, withData := false, profile := 0, maxLoss := 0, maxAge := 0
    sealId := 0, period := 0, record := leAt b 0x0A 2, bindFirst := leAt b 0x0C 2, bindCount := leAt b 0x0E 2 }

/-! ### The BUS section (R296 to R298) -/

/-- Writes an image-space signal into image bytes, least significant byte first (R101). -/
def putImage (e : SigEntry) (v : Nat) (img : Bytes) : Bytes := patch img e.offset (leBytes e.size v)

/-- Fills the slots of a record's bound signals from a dataset, or with 0. -/
def fillSlots (s : State) (big : Bool) (bs : List Binding) (vals : Option Bytes) (img : Bytes) : Bytes :=
  bs.foldl (fun i b => match s.signal b.sig with
    | some e => putImage e (match vals with
        | some d => getField big e.ty b d
        | none => 0) i
    | none => i) img

/-- The check result of a record in the image of cycle `n` as the Commons finds it (R297, R298, R302). -/
def recResult (s : State) (n : Nat) (r : Rec) (x : SubSt) : SealRes :=
  if r.isSealed && !(r.isVital || hostMode s 4) then
    sealCheck (s.sealProfile r.profile) r.sealId r.timeout r.maxAge r.maxLoss r.period (n % 2 ^ 32) (x.arrival % 2 ^ 32) x.dataset
  else
    match x.dataset with
    | none => .timeout
    | some _ => if r.timeout ≤ diff32 n x.arrival then .timeout else .valid

/-- The STATUS the Commons writes: for a VITAL subscription TIMEOUT only (R298). -/
def recStatus (s : State) (r : Rec) (res : SealRes) (x : SubSt) : Nat :=
  if r.isVital then (if res = .timeout then 0x4000 else 0)
  else subStatus res (if r.isSealed && !hostMode s 4 then x.dataset else none)

/-- The record's bytes (R296). -/
def recBytes (r : Rec) (status : Nat) (x : SubSt) : Bytes :=
  leBytes 4 x.arrival ++ [0, 0] ++ leBytes 2 status ++
    (if r.withData then fitTo (roundUp 8 r.length) (x.dataset.getD []) else [])

/-- The state of a record's source after an image: its status, the KEEP values and whether it is lost. -/
def recNext (r : Rec) (res : SealRes) (status : Nat) (x : SubSt) : SubSt :=
  { x with
    status := BitVec.ofNat 16 status
    kept := if res = .valid ∧ !r.isVital then x.dataset else x.kept
    lost := if res = .timeout then x.dataset.isSome else if res = .valid then false else x.lost
    seqs := if res = .timeout then [] else x.seqs }

/-- The event of a failed Seal check, and its counters (R302): the subscription, and the lane (3: the Commons). -/
def sealEvent (idx ln : Nat) (res : SealRes) (s : State) : State :=
  let d := d16 idx ++ [BitVec.ofNat 8 ln]
  match res with
  | .sealFail => raise evSealFail d { s with tel := { s.tel with checkFails := satAdd 32 s.tel.checkFails 1 } }
  | .ageFail => raise evSealAge d { s with tel := { s.tel with ageFails := satAdd 32 s.tel.ageFails 1 } }
  | .loss => raise evSealLoss d { s with tel := { s.tel with lossFails := satAdd 32 s.tel.lossFails 1 } }
  | .valid => s
  | .timeout => s

/-- Counts one evaluation of R302. -/
def countCheck (s : State) : State := { s with tel := { s.tel with sealsChecked := s.tel.sealsChecked + 1 } }

/-- Fills one record and its slots in the image of cycle `n` (R297, R298), with its source state in `x` and the
timeout event of its bus. In host-assisted PD mode a subscription's bindings are ignored (R303). -/
def fillRecord (n : Nat) (ev : Code) (put : Nat → SubSt → State → State) (r : Rec) (x : SubSt) (acc : State × Bytes) : State × Bytes :=
  let s := acc.1
  let res := recResult s n r x
  let status := recStatus s r res x
  let bs := s.bindings r.bindFirst r.bindCount
  let img := patch acc.2 r.record (recBytes r status x)
  let x1 := recNext r res status x
  let vals := if r.isVital then none else if res = .valid then x.dataset else if r.keep then x.kept else none
  let img1 := if hostMode s 3 && ev = evPdTimeout then img else fillSlots s r.big bs vals img
  let s1 := put r.idx x1 s
  let s2 := if res = .timeout ∧ x.dataset.isSome ∧ !x.lost then
      raise ev (d16 r.idx) (if ev = evPdTimeout then { s1 with tel := { s1.tel with timeouts := satAdd 32 s1.tel.timeouts 1 } } else s1)
    else if x.lost ∧ res = .valid then raise evPdRestored (d16 r.idx) s1 else s1
  let s3 := if r.isSealed && !(r.isVital || hostMode s 4) then sealEvent r.idx 3 res (countCheck s2) else s2
  (s3, img1)

/-- Stores a subscription's state. -/
def putSub (k : Nat) (x : SubSt) (s : State) : State := { s with tel := { s.tel with subs := sSet {} k x s.tel.subs } }
/-- Stores an MVB port's state. -/
def putSink (k : Nat) (x : SubSt) (s : State) : State := { s with tel := { s.tel with sinks := sSet {} k x s.tel.sinks } }
/-- Stores a PDO's state. -/
def putPdo (k : Nat) (x : SubSt) (s : State) : State := { s with tel := { s.tel with rpdos := sSet {} k x s.tel.rpdos } }

/-- Fills the BUS section of the image of cycle `n`. -/
def fillBus (n : Nat) (s : State) (img : Bytes) : State × Bytes :=
  let a := s.subTable.foldl (fun acc e =>
    fillRecord n evPdTimeout putSub (readSub (hostMode s 3) e) (sGet {} e.2 acc.1.tel.subs) acc) (s, img)
  let b := (s.portTable 1).foldl (fun acc e =>
    fillRecord n evMvbPortTimeout putSink (readSink e) (sGet {} e.2 acc.1.tel.sinks) acc) a
  [(0 : Fin 2), 1].foldl (fun acc bus => (s.pdoTable bus false).foldl (fun acc e =>
    fillRecord n evRpdoTimeout putPdo (readRpdo bus e) (sGet {} (pdoKey bus e.2) acc.1.tel.rpdos) acc) acc) b

/-- One VITAL subscription checked by a lane that has drunk an image (R298): STATUS and the slots not under a force. -/
def laneCheck (ln : Lane) (ctx : SealCtx) (acc : State × Bytes) (r : Rec) : State × Bytes :=
  let s := acc.1
  let img := acc.2
  let data := slice img (r.record + 8) r.length
  let timedOut := (leAt img (r.record + 6) 2).testBit 14
  let res := sealCheck (s.sealProfile r.profile) r.sealId r.timeout r.maxAge r.maxLoss r.period (leAt img 8 4)
    (leAt img r.record 4) (if timedOut then none else some data)
  let img1 := patch img (r.record + 6) (leBytes 2 (subStatus res (some data)))
  let bs := (s.bindings r.bindFirst r.bindCount).filter (fun b => !ctx.forced.contains b.sig)
  (sealEvent r.idx (laneNo ln) res (countCheck s), fillSlots s r.big bs (if res = .valid then some data else none) img1)

/-- A lane completes the image it has drunk: every VITAL subscription (R298); nothing in host-assisted Seal mode (R303). -/
def laneComplete (ln : Lane) (ctx : SealCtx) (img : Bytes) (s : State) : State × Bytes :=
  if hostMode s 4 then (s, img)
  else ((s.subTable.map (readSub (hostMode s 3))).filter (fun r => r.isVital && r.isSealed)).foldl (laneCheck ln ctx) (s, img)

/-- What was received before boundary `n` becomes the stored dataset of its image (R25, R296). -/
def SubSt.atBoundary (n : Nat) (x : SubSt) : SubSt :=
  match x.next with
  | some (_, d) => { x with dataset := some d, arrival := n % 2 ^ 32, next := none }
  | none => x

/-- Every received dataset is assigned to the image of boundary `n` (R25). -/
def busBoundary (n : Nat) (s : State) : State :=
  { s with tel := { s.tel with
    subs := s.tel.subs.map (fun e => (e.1, e.2.atBoundary n))
    sinks := s.tel.sinks.map (fun e => (e.1, e.2.atBoundary n))
    rpdos := s.tel.rpdos.map (fun e => (e.1, e.2.atBoundary n)) } }

/-! ### What the buses carry (R124, R125, R292) -/

/-- Does a mode put every VITAL signal at its SAFE_VALUE in what leaves the module? -/
def State.substitutes (s : State) : Mode → Bool
  | .run => false
  | .standby => false
  | .hold => !s.mapFlag 4
  | .stop => true
  | .faultStop => true
  | .boot => true
  | .fabricOnly => true
  | .off => true

/-- A signal's value for telegrams and the legacy buses in the present mode. -/
def State.busValue (s : State) (e : SigEntry) : Word :=
  if e.vital && s.substitutes s.ctl.mode then e.safe else s.sigValue e

/-- Does the module publish: its mode sends telegrams, and in a pair it may (R124, R341)? -/
def State.mayPublish (s : State) : Bool :=
  (s.ctl.mode = .stop || (s.ctl.mode = .run || s.ctl.mode = .hold)) && (!s.pair.inPair || s.tel.publishing)

/-- The bytes of a publication's BUFFER in the committed state (R293, R303). -/
def State.pubBuffer (s : State) (p : Pub) : Bytes :=
  match (s.app.map (·.segs)).getD [] |>.find? (fun g => g.task = p.owner) with
  | some g => cRead p.length (g.offset + p.buffer) s.cis.mem
  | none => List.replicate p.length 0

/-- The dataset of a NON-VITAL publication due at boundary `b` (R292, R303). -/
def State.pubDataset (s : State) (p : Pub) (b : Nat) : Bytes :=
  if hostMode s 3 || (p.isSealed && hostMode s 4) then s.pubBuffer p
  else
    let bs := s.bindings p.bindFirst p.bindCount
    let n := if p.isSealed then p.length - 16 else p.length
    let payload := composeData true s s.busValue bs (List.replicate n 0)
    if p.isSealed then
      payload ++ sealTrailer (s.sealProfile p.profile) p.sealId (b % 2 ^ 32)
        (sealStatus (bs.any (fun x => s.forced x.sig)) s.degraded (modeNo s.ctl.mode)) payload
    else payload

/-- Stages one publication for boundary `b`: a VITAL one only from the BUFFER of a poured owner (R293). -/
def stagePub (b : Nat) (s : State) (p : Pub) : State :=
  if p.period ≠ 0 ∧ b % p.period = p.phase then
    let data := if p.vital then
        (if s.cis.pouredTasks.any (fun k => k.val = p.owner) then some (s.pubBuffer p) else none)
      else some (s.pubDataset p b)
    let x := sGet {} p.idx s.tel.pubs
    let s1 := { s with tel := { s.tel with pubs := sSet {} p.idx { x with staged := data.map (fun d => (b, d)) } s.tel.pubs } }
    if p.isSealed && !(p.vital || (hostMode s 3 || hostMode s 4)) then
      { s1 with tel := { s1.tel with sealsApplied := s1.tel.sealsApplied + 1 } }
    else s1
  else s

/-- The data of an MVB SOURCE port or TPDO composed for the coming cycle (R309, R313). -/
def State.portData (s : State) (big : Bool) (first count n : Nat) : Bytes :=
  composeData big s s.busValue (s.bindings first count) (List.replicate n 0)

/-- Keeps composed data for the boundary at which it takes effect. -/
def SubSt.stage (d : Bytes) (now : Nat) (x : SubSt) : SubSt := { x with next := some (now, d) }

/-- The pour window's staging for boundary `b`: publications, SOURCE ports and TPDOs (R291, R292, R309, R313). -/
def stageBuses (b : Nat) (s : State) : State :=
  let s1 := s.pubs.foldl (stagePub b) s
  let s2 := (s1.portTable 2).foldl (fun q e => putSink e.2 ((sGet {} e.2 q.tel.sinks).stage
    (s1.portData true (leAt e.1 0x0A 2) (leAt e.1 0x0C 2) (portSize e.1)) s.time.now) q) s1
  [(0 : Fin 2), 1].foldl (fun q bus => (s1.pdoTable bus true).foldl (fun q e =>
    putPdo (pdoKey bus e.2) ((sGet {} (pdoKey bus e.2) q.tel.rpdos).stage
      (s1.portData false (leAt e.1 0x0C 2) (leAt e.1 0x0E 2) (leAt e.1 4 1)) s.time.now) q) q) s2

/-! ### CAN buses -/

/-- One CAN bus. -/
def State.canBus (s : State) (bus : Fin 2) : CanBus := if bus = 0 then s.tel.can1 else s.tel.can2

/-- Changes one CAN bus. -/
def State.modCan (s : State) (bus : Fin 2) (f : CanBus → CanBus) : State :=
  if bus = 0 then { s with tel := { s.tel with can1 := f s.tel.can1 } } else { s with tel := { s.tel with can2 := f s.tel.can2 } }

/-- The subindex of an object of a CAN bus (0x5700). -/
def canSub (bus : Fin 2) (k : Nat) : Nat := 0x10 * (bus.val + 1) + k

/-- The state of a bus changes: event source 6 (R329). -/
def setCan (bus : Fin 2) (st : Nat) (s : State) : State :=
  poke 6 ((bus.val + 1) * 256 + st) (s.modCan bus (fun c => { c with state := st }))

/-- The MVB line state changes: event source 7 with 0x5600:04 (R329). -/
def lineChanged (old s : State) : State :=
  let v (x : State) : Nat := b2n x.tel.lineB * 2 + b2n x.tel.lineA
  if v old = v s then s else poke 7 (v s) s

/-- Is the controller on its bus: error active or passive? -/
def State.canOn (s : State) (bus : Fin 2) : Bool := (s.canBus bus).state ≤ 1

/-- Does the module produce SYNC on a bus (R312)? -/
def State.makesSync (s : State) (bus : Fin 2) : Bool :=
  s.canOn bus && (s.mayPublish && s.odForceNat 0x5700 (canSub bus 5) != 0)

/-- The frame of a TPDO entry with its data. -/
def pdoFrame (e : Bytes) (d : Bytes) : CanFrame :=
  { cobId := BitVec.ofNat 32 (leAt e 0 4), fd := (leAt e 6 1).testBit 3, data := d }

/-- Queued TPDOs leave in table order; those that the bus did not carry are withdrawn and counted (R313). -/
def flushTpdos (bus : Fin 2) (unsent : List Nat) (s : State) : State :=
  let q := (s.canBus bus).queued
  let keep := q.filter (fun x => s.canOn bus && !unsent.contains x.1)
  let table := s.pdoTable bus true
  let frames := keep.filterMap (fun x => (table.find? (fun e => e.2 = x.1)).map (fun e => Sent.can bus (pdoFrame e.1 x.2)))
  (s.modCan bus (fun c => { c with queued := [], withdrawn := satAdd 32 c.withdrawn (q.length - keep.length) })).emitAll frames

/-- SYNC and the TPDOs of one bus at the boundary of cycle `n` (R312, R313). -/
def canBoundary (n : Nat) (s : State) (bus : Fin 2) : State :=
  let s0 := flushTpdos bus [] s
  if s0.makesSync bus ∧ n % s0.odForceNat 0x5700 (canSub bus 5) = 0 then
    let ovf := s0.odForceNat 0x5700 (canSub bus 6)
    let c := s0.canBus bus
    let count := if ovf < 2 then 0 else c.syncCount % ovf + 1
    let frame : CanFrame := { cobId := 0x80, fd := false, data := if ovf < 2 then [] else [BitVec.ofNat 8 count] }
    let due := (s0.pdoTable bus true).filter (fun e => leAt e.1 5 1 != 0 && (c.syncs + 1) % leAt e.1 5 1 = 0)
    let q := due.map (fun e => (e.2, ((sGet {} (pdoKey bus e.2) s0.tel.rpdos).dataset).getD (List.replicate (leAt e.1 4 1) 0)))
    (s0.modCan bus (fun c => { c with syncCount := count, syncs := c.syncs + 1, queued := q })).emit (.can bus frame)
  else s0

/-- Start Remote Node to all nodes when the module first enters RUN after start (R312). -/
def nmtStart (s : State) : State :=
  if hostMode s 5 then s
  else [(0 : Fin 2), 1].foldl (fun q bus =>
    if q.canOn bus && !(q.canBus bus).nmtStarted then
      (q.modCan bus (fun c => { c with nmtStarted := true })).emit (.can bus { cobId := 0, fd := false, data := [1, 0] })
    else q) s

/-- A STOP to RUN transition ends a final bus-off (R314). -/
def canRestart (s : State) : State :=
  [(0 : Fin 2), 1].foldl (fun q bus => if (q.canBus bus).final then
    (setCan bus 0 q).modCan bus (fun c => { c with final := false, recoveries := [], busOffAt := none }) else q) s

/-! ### MVB at the boundary (R307, R308, R310) -/

/-- Does a basic period start at the boundary of cycle `n` (R307)? -/
def State.mvbPeriod (s : State) (n : Nat) : Bool := s.ctl.tbCode != 0 || n % 2 = 0

/-- The number of a basic period. -/
def State.mvbNumber (s : State) (n : Nat) : Nat := if s.ctl.tbCode = 0 then n / 2 else n

/-- One line at the end of a basic period: a faulty line is restored after 16 valid periods (R310). -/
def mvbLine (b : Bool) (s : State) : State :=
  let m := s.tel
  let seen := if b then m.seenB else m.seenA
  let bad := if b then m.faultB else m.faultA
  let good := if seen then (if b then m.goodB else m.goodA) + 1 else 0
  let back := bad && 16 ≤ good
  let s1 := { s with tel := if b then
      { m with seenB := false, goodB := if bad then good else 0, faultB := bad && !back, lineB := m.lineB || back }
    else { m with seenA := false, goodA := if bad then good else 0, faultA := bad && !back, lineA := m.lineA || back } }
  lineChanged s (raiseIf back evMvbLineRestored [BitVec.ofNat 8 (b2n b)] s1)

/-- The master frames that the bus administrator sends in a basic period, in ascending address (R308). -/
def State.polls (s : State) (n : Nat) : List Sent :=
  let due := ((s.tableOf 0x5600 0x03 16).filter (fun e => (leAt e.1 3 1).testBit 0 && (leAt e.1 4 2 != 0 &&
    s.mvbNumber n % leAt e.1 4 2 = leAt e.1 0 2 % leAt e.1 4 2))).map (fun e => (leAt e.1 0 2, leAt e.1 2 1))
  let sorted := due.mergeSort (fun a b => a.1 ≤ b.1)
  sorted.map (fun x => .mvbMaster (BitVec.ofNat 12 x.1) x.2)

/-- MVB at the boundary of cycle `n`: line supervision, the yielded role, and the frame list of the bus administrator. -/
def mvbBoundary (n : Nat) (s : State) : State :=
  if s.tel.mvbRole = 0 ∨ !s.mvbPeriod n then s
  else
    let s1 := mvbLine true (mvbLine false s)
    let s2 := if s1.tel.mvbYield then { s1 with tel := { s1.tel with mvbRole := 1 } } else s1
    if s2.tel.mvbRole = 2 && s2.mayPublish then s2.emitAll (s2.polls n) else s2

/-- The legacy buses at the boundary of cycle `n` (R29). -/
def legacyBoundary (n : Nat) (s : State) : State :=
  [(0 : Fin 2), 1].foldl (canBoundary n) (mvbBoundary n s)

/-! ### Process data received (R295) -/

/-- The TRDP message type Pd. -/
def msgPd : BitVec 16 := 0x5064#16

/-- A discarded telegram: counted and reported with its comId and the check that failed (R295). -/
def pdError (comId : BitVec 32) (check : Nat) (s : State) : State :=
  raise evPdHeaderError (d32 comId.toNat ++ [BitVec.ofNat 8 check])
    { s with tel := { s.tel with headerErrors := satAdd 32 s.tel.headerErrors 1 } }

/-- The checks 3 to 6 of R295 of a telegram against an entry; 0 when all hold. -/
def pdCheck (s : State) (p : PdTelegram) (e : Bytes × Nat) : Nat :=
  let x := sGet {} e.2 s.tel.subs
  let own (i : Nat) (v : BitVec 32) : Bool := v = 0 || v.toNat = s.odNat 0x5400 i
  if leAt e.1 8 4 ≠ p.dstIp.toNat ∨ (leAt e.1 4 4 ≠ 0 ∧ leAt e.1 4 4 ≠ p.srcIp.toNat) then 3
  else if p.length ≠ leAt e.1 0x0C 2 ∨ p.length + 40 ≠ p.udpLen ∨ p.dataset.length ≠ p.length then 4
  else if !(own 0x04 p.etbTopo && own 0x05 p.opTopo) then 5
  else
    match lookupKey p.srcIp.toNat x.seqs with
    | none => 0
    | some q =>
      let d := diff32 p.seq.toNat q
      if 1 ≤ d ∧ d ≤ 2 ^ 31 - 1 then 0 else 6

/-- Takes an accepted telegram for one subscription: the last accepted before the boundary is kept. -/
def pdAccept (p : PdTelegram) (s : State) (e : Bytes × Nat) : State :=
  let x := sGet {} e.2 s.tel.subs
  let x1 := { x with next := some (s.time.now, p.dataset), seqs := setKey p.srcIp.toNat p.seq.toNat x.seqs }
  putSub e.2 x1 { s with tel := { s.tel with accepted := s.tel.accepted + 1 } }

/-- PD_RECEIVED (R289, R295). -/
def execPdReceived (t : Nat) (p : PdTelegram) (s : State) : Out :=
  let s := s.atTime t
  .next (if s.tel.bindState ≠ 1 then s
    else if p.udpPort ≠ 17224 ∨ !p.fcsOk then pdError p.comId 1 s
    else if p.major ≠ 1 ∨ p.msgType ≠ msgPd then pdError p.comId 2 s
    else
      match s.subTable.filter (fun e => leAt e.1 0 4 = p.comId.toNat) with
      | [] => s
      | e :: es =>
        match (e :: es).filter (fun e => pdCheck s p e = 0) with
        | [] => pdError p.comId (pdCheck s p e) s
        | good => good.foldl (pdAccept p) s)

/-! ### Message data (R306) -/

/-- The codes of the message data types. -/
def msgMe : BitVec 16 := 0x4D65#16
/-- Mc. -/
def msgMc : BitVec 16 := 0x4D63#16

/-- Is message data received: enabled, on the network, its dataset within 16,384 bytes? -/
def State.mdOpen (s : State) (m : MdTelegram) : Bool :=
  s.sw.running && (s.odForceBool 0x5480 0x01 && m.data.length ≤ 16384)

/-- Closes a session. -/
def mdClose (id : Nat) (s : State) : State :=
  { s with tel := { s.tel with md := s.tel.md.filter (fun x => x.id ≠ id) } }

/-- The session of an identifier, if it is open. -/
def State.mdSession (s : State) (id : Nat) : Option MdSession := s.tel.md.find? (fun x => x.id = id)

/-- Message data reaches the service cores; an open session's number is the detail of event source 4 (R306, R329). -/
def mdDeliver (m : MdTelegram) (s : State) : State :=
  let s1 := { s with tel := { s.tel with mdIn := s.tel.mdIn ++ [m] } }
  match codePos m.session (s.tel.md.map (·.id)) with
  | some n => poke 4 n s1
  | none => s1

/-- MD_NOTIFICATION: an Mn needs no session. -/
def execMdNotification (t : Nat) (m : MdTelegram) (s : State) : Out :=
  let s := s.atTime t
  .next (if s.mdOpen m then mdDeliver m s else s)

/-- MD_REQUEST: an Mr opens a session; beyond 64 it is answered with Me. -/
def execMdRequest (t : Nat) (m : MdTelegram) (s : State) : Out :=
  let s := s.atTime t
  .next (if !s.mdOpen m then s
    else if 64 ≤ s.tel.md.length then
      raise evMdSessionLimit [] (({ s with tel := { s.tel with mdRefused := satAdd 32 s.tel.mdRefused 1 } }).emit
        (.md msgMe { m with data := [] }))
    else
      mdDeliver m (if (s.mdSession m.session).isSome then s
        else { s with tel := { s.tel with md := s.tel.md ++
          [{ id := m.session, comId := m.comId, peer := m.srcIp, started := s.time.now, phase := 1 }] } }))

/-- MD_REPLY: an Mp ends its session. -/
def execMdReply (t : Nat) (m : MdTelegram) (s : State) : Out :=
  let s := s.atTime t
  .next (if s.mdOpen m ∧ (s.mdSession m.session).isSome then mdDeliver m (mdClose m.session s) else s)

/-- MD_REPLY_QUERY: an Mq is confirmed with Mc, which ends its session. -/
def execMdReplyQuery (t : Nat) (m : MdTelegram) (s : State) : Out :=
  let s := s.atTime t
  .next (if s.mdOpen m ∧ (s.mdSession m.session).isSome then
      (mdDeliver m (mdClose m.session s)).emit (.md msgMc { m with data := [] })
    else s)

/-- MD_CONFIRM: an Mc ends its session. -/
def execMdConfirm (t : Nat) (m : MdTelegram) (s : State) : Out :=
  let s := s.atTime t
  .next (if s.mdOpen m ∧ (s.mdSession m.session).isSome then mdDeliver m (mdClose m.session s) else s)

/-- MD_ERROR: an Me ends its session. -/
def execMdError (t : Nat) (m : MdTelegram) (s : State) : Out :=
  let s := s.atTime t
  .next (if s.mdOpen m ∧ (s.mdSession m.session).isSome then mdDeliver m (mdClose m.session s) else s)

/-- MD_TIMEOUT: a session whose reply or confirm timeout has ended. -/
def execMdTimeout (t session : Nat) (s : State) : Out :=
  let s := s.atTime t
  .next (match s.mdSession session with
    | some x =>
      let ms := if x.phase = 2 then s.odNat 0x5480 0x03 else s.odNat 0x5480 0x02
      if x.started + ms * 1000000 ≤ s.time.now then raise evMdTimeout (d32 session) (mdClose session s) else s
    | none => s)

/-! ### MVB (R307 to R310) -/

/-- MVB_MASTER_FRAME: a SOURCE port of the address and size answers; zeros before the first commit (R309). -/
def execMvbMasterFrame (t : Nat) (fcode : Fin 16) (address : BitVec 12) (s : State) : Out :=
  let s := s.atTime t
  .next (match (s.portTable 2).find? (fun e => leAt e.1 0 2 = address.toNat && leAt e.1 2 1 = fcode.val) with
    | some e =>
      if s.tel.mvbRole ≠ 0 ∧ s.mayPublish then
        s.emit (.mvb address (((sGet {} e.2 s.tel.sinks).dataset).getD (List.replicate (portSize e.1) 0)))
      else s
    | none => s)

/-- A valid frame is seen on a line. -/
def mvbSeen (b : Bool) (s : State) : State :=
  { s with tel := if b then { s.tel with seenB := true, lineB := !s.tel.faultB }
    else { s.tel with seenA := true, lineA := !s.tel.faultA } }

/-- MVB_SLAVE_FRAME: data is taken from the active line, or from the other while the active one is not valid. -/
def execMvbSlaveFrame (t : Nat) (lineB : Bool) (address : BitVec 12) (data : Bytes) (s : State) : Out :=
  let s := s.atTime t
  .next (if s.tel.mvbRole = 0 then s
    else
      let s1 := lineChanged s (mvbSeen lineB s)
      let activeOk := if s1.tel.activeB then s1.tel.lineB else s1.tel.lineA
      let s2 := if activeOk then s1 else { s1 with tel := { s1.tel with activeB := lineB } }
      match (s2.portTable 1).find? (fun e => leAt e.1 0 2 = address.toNat && portSize e.1 = data.length) with
      | some e => if s2.tel.activeB = lineB then putSink e.2 ((sGet {} e.2 s2.tel.sinks).stage data s.time.now) s2 else s2
      | none => s2)

/-- MVB_DEVICE_STATUS: the device answers for its own address; the spec gives no content (assumption 18). -/
def execMvbDeviceStatus (t : Nat) (address : BitVec 12) (s : State) : Out :=
  let s := s.atTime t
  .next (if s.tel.mvbRole ≠ 0 ∧ address.toNat = s.odForceNat 0x5600 0x02 then
      (s.emit (.mvb address (leBytes 2 (s.free 16).toNat))).tick
    else s)

/-- MVB_FOREIGN_MASTER: the bus administrator yields from the next basic period until restart (R310). -/
def execMvbForeignMaster (t : Nat) (s : State) : Out :=
  let s := s.atTime t
  .next (if s.tel.mvbRole = 2 ∧ !s.tel.mvbYield then
      raise evMvbMasterConflict [] { s with tel := { s.tel with mvbYield := true } }
    else s)

/-- MVB_LINE_FAULT: the module continues on the other line (R310). -/
def execMvbLineFault (t : Nat) (lineB : Bool) (s : State) : Out :=
  let s := s.atTime t
  let m := s.tel
  .next (if m.mvbRole = 0 ∨ (if lineB then m.faultB else m.faultA) then s
    else
      let m1 := if lineB then { m with faultB := true, lineB := false, goodB := 0, errB := satAdd 32 m.errB 1 }
        else { m with faultA := true, lineA := false, goodA := 0, errA := satAdd 32 m.errA 1 }
      let m2 := if m1.activeB = lineB then { m1 with activeB := !lineB } else m1
      lineChanged s (raise evMvbLineFault [BitVec.ofNat 8 (b2n lineB)] { s with tel := m2 }))

/-! ### CAN (R311 to R314) -/

/-- CAN_RPDO: the last frame received before the boundary is used. -/
def execCanRpdo (t : Nat) (bus : Fin 2) (f : CanFrame) (s : State) : Out :=
  let s := s.atTime t
  .next (match (s.pdoTable bus false).find? (fun e => leAt e.1 0 4 = f.cobId.toNat && (leAt e.1 6 1).testBit 3 == f.fd) with
    | some e =>
      if s.canOn bus ∧ leAt e.1 4 1 ≤ f.data.length then
        putPdo (pdoKey bus e.2) ((sGet {} (pdoKey bus e.2) s.tel.rpdos).stage (f.data.take (leAt e.1 4 1)) s.time.now) s
      else s
    | none => s)

/-- The number of a bus in records. -/
def busByte (bus : Fin 2) : Byte := BitVec.ofNat 8 (bus.val + 1)

/-- CAN_SYNC_RECEIVED: a foreign SYNC while the module produces SYNC. -/
def execCanSyncReceived (t : Nat) (bus : Fin 2) (s : State) : Out :=
  let s := s.atTime t
  .next (raiseIf (s.makesSync bus) evCanSyncConflict [busByte bus] s)

/-- CAN_HEARTBEAT_SEND: the heartbeat of the producer; the NMT state in it is not given (assumption 18). -/
def execCanHeartbeatSend (t : Nat) (bus : Fin 2) (s : State) : Out :=
  let s := s.atTime t
  .next (if s.canOn bus ∧ s.odNat 0x5700 (canSub bus 7) ≠ 0 then
      (s.emit (.can bus { cobId := BitVec.ofNat 32 (0x700 + s.odForceNat 0x5700 (canSub bus 2)), fd := false
                          data := [s.free 8] })).tick
    else s)

/-- The consumer time in ms of a node, if it is monitored. -/
def State.consumer (s : State) (bus : Fin 2) (node : Nat) : Option Nat :=
  ((chunksOf 4 (s.odForce 0x5700 (canSub bus 9))).find? (fun b => leAt b 0 1 = node && leAt b 2 2 != 0)).map (fun b => leAt b 2 2)

/-- Records a consumer's heartbeat time and whether it is lost. -/
def putConsumer (bus : Fin 2) (node time : Nat) (lost : Bool) (s : State) : State :=
  s.modCan bus (fun c => { c with consumers := (c.consumers.filter (fun x => x.1 ≠ node)) ++ [(node, time, lost)] })

/-- CAN_HEARTBEAT_LOST: a monitored node's heartbeat has not come within its time. -/
def execCanHeartbeatLost (t : Nat) (bus : Fin 2) (node : BitVec 8) (s : State) : Out :=
  let s := s.atTime t
  .next (match s.consumer bus node.toNat with
    | some ms =>
      let x := ((s.canBus bus).consumers.find? (fun x => x.1 = node.toNat)).getD (node.toNat, s.ctl.startAt, false)
      if !x.2.2 ∧ x.2.1 + ms * 1000000 ≤ s.time.now then
        raise evCanHeartbeatLost [busByte bus, node] (putConsumer bus node.toNat x.2.1 true s)
      else s
    | none => s)

/-- CONSUMER_HEARTBEAT_RECEIVED: the consumer's time starts again. -/
def execConsumerHeartbeatReceived (t : Nat) (bus : Fin 2) (node : BitVec 8) (s : State) : Out :=
  let s := s.atTime t
  .next (if (s.consumer bus node.toNat).isSome ∧ s.canOn bus then putConsumer bus node.toNat s.time.now false s else s)

/-- TPDO_WITHDRAW: at t0 + T_b − 50 µs the TPDOs not sent are withdrawn and counted (R313). -/
def execTpdoWithdraw (t : Nat) (bus : Fin 2) (unsent : List Nat) (s : State) : Out :=
  let s := s.atTime t
  .next (if s.tb - 50000 ≤ s.intoCycle then flushTpdos bus unsent s else s)

/-- CAN_ERROR_PASSIVE. -/
def execCanErrorPassive (t : Nat) (bus : Fin 2) (s : State) : Out :=
  let s := s.atTime t
  .next (if (s.canBus bus).state = 0 then
      raise evCanErrorPassive [busByte bus] (setCan bus 1 s)
    else s)

/-- Recoveries of a bus in the last 60 s. -/
def State.recoveries60 (s : State) (bus : Fin 2) : List Nat := (s.canBus bus).recoveries.filter (fun r => s.time.now < r + 60000000000)

/-- CAN_BUS_OFF: after the tenth recovery in 60 s the controller stays off (R314). -/
def execCanBusOff (t : Nat) (bus : Fin 2) (s : State) : Out :=
  let s := s.atTime t
  .next (if s.canOn bus then
      let final := decide (10 ≤ (s.recoveries60 bus).length)
      let s1 := raise evCanBusOff [busByte bus] ((setCan bus 2 s).modCan bus (fun c =>
        { c with busOffs := satAdd 32 c.busOffs 1, busOffAt := some s.time.now, final := final }))
      raiseIf final evCanBusOffFinal [busByte bus] s1
    else s)

/-- CAN_BUS_OFF_RECOVERY: 100 ms after bus-off (R314). -/
def execCanBusOffRecovery (t : Nat) (bus : Fin 2) (s : State) : Out :=
  let s := s.atTime t
  let c := s.canBus bus
  .next (if c.state = 2 ∧ !c.final ∧ (c.busOffAt.getD 0) + 100000000 ≤ s.time.now then
      (setCan bus 0 s).modCan bus (fun c => { c with busOffAt := none, recoveries := s.time.now :: s.recoveries60 bus })
    else s)

end Sys2Proof.Machine
end

