-- ==== Sys2Proof/Machine/Xpc.lean ====
section
/-! DEFINITION. XPC execution: the running release of a lane core, memory access, Bucket writes, steps, stops and the
close of a release (R70, R71, R80, R81, R88, R94 to R108, R301). -/

namespace Sys2Proof.Machine

/-! ### The running release -/

structure XCtx where
  /-- What an instruction works with: its task's declaration, the image and T_b. -/
  td : TaskDef
  app : AppImage
  tb : Nat
deriving DecidableEq, Repr

/-- What an instruction does to its release: goes on, stops it with a cause (R106), or closes it. -/
inductive XRes where
  | go (r : Release)
  | stop (cause : Code) (imm : Nat)
  | close (r : Release)
deriving DecidableEq, Repr

/-- A register. -/
def xr (r : Release) (i : Fin 64) : Word := (r.regs[i.val]?).getD 0

/-- Writes a register. -/
def xw (r : Release) (i : Fin 64) (v : Word) : Release := { r with regs := r.regs.set i.val v }

/-- The release that runs on a core: the first open one, while the lane is IN and the core is not stalled (R70, R321). -/
def State.running (s : State) (ln : Lane) (c : Fin 4) : Option Release :=
  if (s.lane ln).state = .isIn ∧ (s.core ln c).stall = none then (s.core ln c).releases.head? else none

/-- Replaces the running release. -/
def State.putRun (s : State) (ln : Lane) (c : Fin 4) (r : Release) : State :=
  s.setCore ln c { s.core ln c with releases := r :: (s.core ln c).releases.tail }

/-- Ends the running release. -/
def State.dropRun (s : State) (ln : Lane) (c : Fin 4) : State :=
  s.setCore ln c { s.core ln c with releases := (s.core ln c).releases.tail }

/-- Stops the running release with a cause; its Tally is withheld (R81, R88, R106). -/
def stopRun (ln : Lane) (c : Fin 4) (r : Release) (cause : Code) (imm : Nat) (s : State) : State :=
  let s1 := s.dropRun ln c
  { s1 with rek := { s1.rek with stops := s1.rek.stops ++ [{ lane := ln, task := r.task, closes := r.closes, cause, imm }] } }

/-- LOOP counts after control passes from word `old` to word `new`: entry of a range from outside resets its count (R104). -/
def enterWord (old new : Nat) (l : List LoopCount) : List LoopCount :=
  l.filter (fun c => !(c.head = new && !(c.head ≤ old && old ≤ c.word)))

/-! ### Memory (R101, R102) -/

/-- The byte that one Bucket write puts at an address. -/
def bwByte (w : BWrite) (a : Nat) : Option Byte :=
  if w.target ≤ a ∧ a < w.target + 2 ^ w.size.val then
    some (BitVec.ofNat 8 (w.value.toNat / 256 ^ (a - w.target)))
  else none

/-- A byte of STORE as the release sees it: what it last wrote there, else its snapshot (R71). -/
def seenByte (r : Release) (a : Nat) : Byte := (r.writes.reverse.findSome? (fun w => bwByte w a)).getD (cGet a r.snap)

/-- A little-endian value of STORE as the release sees it. -/
def seenNum (r : Release) (a n : Nat) : Nat := leNat (tabulate n (fun k => seenByte r (a + k)))

/-- Does an access of `n` bytes at `a` lie wholly in a range? -/
def within (a n lo len : Nat) : Bool := lo ≤ a && a + n ≤ lo + len

/-- The instance segment of a task. -/
def segOf (app : AppImage) (task : Nat) : Option SegDef := app.segs.find? (fun g => g.task = task)

/-- Does an access lie in the task's own instance segment? -/
def inSegment (x : XCtx) (a n : Nat) : Bool :=
  match segOf x.app x.td.task.val with
  | some g => within a n g.offset g.size
  | none => false

/-- A directory entry of an image. -/
def appSignal (app : AppImage) (n : Nat) : Option SigEntry := app.signals.find? (fun e => e.n = n)

/-- Does an access lie in a store signal of a list? -/
def inSignals (app : AppImage) (l : List Nat) (p : SigEntry → Bool) (a n : Nat) : Bool :=
  l.any (fun k => match appSignal app k with
    | some e => !e.inImage && (within a n e.offset e.size && p e)
    | none => false)

/-- May a load read this part of STORE (R71, R101)? A signal of the write set only is readable once it is written. -/
def loadLegal (x : XCtx) (r : Release) (a n : Nat) : Bool :=
  inSegment x a n || (inSignals x.app x.td.reads (fun _ => true) a n ||
    inSignals x.app x.td.writes (fun e => r.writes.any (fun w => w.target = e.offset && 2 ^ w.size.val = e.size)) a n)

/-- May the release store here: its own segment, or one whole signal of its write set that it owns (R84, R101)? -/
def storeLegal (x : XCtx) (a n : Nat) : Bool :=
  inSegment x a n ||
    inSignals x.app x.td.writes (fun e => e.offset = a && (e.size = n && e.ownedBy x.td.task.val)) a n

/-- The enforced Bucket budget in bytes: 0 stands for 16,384 (R113). -/
def bucketBudget (td : TaskDef) : Nat := if td.bucketBudget = 0 then 16384 else td.bucketBudget

/-- The SIZE code of a store of `n` bytes. -/
def sizeCode (n : Nat) : Fin 4 := if n = 1 then 0 else if n = 2 then 1 else if n = 4 then 2 else 3

/-- The Bucket bytes of one store (R80). -/
def entryCost (n : Nat) : Nat := if n = 8 then 16 else 8

/-- One Bucket write: its cost, the entry and the Tally (R38, R80). -/
def addWrite (r : Release) (w : BWrite) (n : Nat) : Release :=
  { r with used := r.used + entryCost n, writes := r.writes ++ [w], tally := tallyWords r.tally (writeWords w) }

/-- A store of `n` bytes: legality first, then the Bucket budget (R81, R101). -/
def storeAt (x : XCtx) (a n v : Nat) (r : Release) : XRes :=
  if a % n ≠ 0 ∨ storeLegal x a n = false then .stop evAccessFault 0
  else if bucketBudget x.td < r.used + entryCost n then .stop evBucketOverflow 0
  else .go (addWrite r { size := sizeCode n, target := a, value := BitVec.ofNat 64 (v % 256 ^ n) } n)

/-- Two stores in order (R108). -/
def storeTwo (x : XCtx) (a1 n1 v1 a2 n2 v2 : Nat) (r : Release) : XRes :=
  match storeAt x a1 n1 v1 r with
  | .go r1 => storeAt x a2 n2 v2 r1
  | .stop c i => .stop c i
  | .close r1 => .close r1

/-- The address of an M-format word: the literal offset, plus A taken as U32 when INDEXED (R101). -/
def effAddr (r : Release) (a : Fin 64) (indexed : Bool) (off : BitVec 32) : Nat :=
  off.toNat + (if indexed then rawOf .u32 (xr r a) else 0)

/-- The number that a load of `n` bytes at `a` reads, when it is legal (R101). -/
def loadNum (x : XCtx) (r : Release) (sp : Space) (a n : Nat) : Option Nat :=
  if a % n ≠ 0 then none
  else match sp with
    | .image => if a + n ≤ r.image.length then some (leAt r.image a n) else none
    | .store => if loadLegal x r a n then some (seenNum r a n) else none
    | .const => if a + n ≤ r.consts.length then some (leAt r.consts a n) else none
    | .loc => if a + n ≤ x.td.localSize then some (cNum n a r.scratch) else none

/-- A load of type `t`: a BOOL is 1 when its byte is not 0 (R102). -/
def loadVal (t : XType) (n : Nat) : Word := if t = .bool then ofBool (n != 0) else normRaw t n

/-! ### One instruction -/

/-- What a result does to the running release `r`. -/
def xpcSettle (ln : Lane) (c : Fin 4) (close : Release → TaskDef → State → State) (td : TaskDef) (r : Release)
    (res : XRes) (s : State) : State :=
  match res with
  | .go r' => s.putRun ln c (if r'.fn = r.fn ∧ r'.frames.length = r.frames.length
      then { r' with loops := enterWord r.pc r'.pc r'.loops } else r')
  | .stop cause imm => stopRun ln c r cause imm s
  | .close r' => close r' td s

/-- Runs one instruction on the running release: the step budget first (R88), then steps, words and effect (R96, R105). -/
def xpcCore (ln : Lane) (c : Fin 4) (words steps : Nat) (close : Release → TaskDef → State → State)
    (f : XCtx → Release → XRes) (s : State) : State :=
  match s.running ln c with
  | none => s
  | some r =>
    match s.app, s.taskDef r.task with
    | some app, some td =>
      if td.stepBudget < r.steps + steps then stopRun ln c r evStepBudget 0 s
      else xpcSettle ln c close td r (f { td, app, tb := s.tb } { r with steps := r.steps + steps, pc := r.pc + words }) s
    | _, _ => s

/-! ### The debugger's replay (R66) -/

/-- Is a logged variable write due for a lane's running release? -/
def DebugWrite.dueFor (w : DebugWrite) (ln : Lane) (c : Fin 4) (r : Release) : Bool :=
  w.core = c && (w.task = r.task && (w.opened = r.opened && (decide (w.steps ≤ r.steps) && !w.made.contains ln)))

/-- One logged variable write enters the Bucket of a lane's running release (R66). -/
def replayWrite (ln : Lane) (c : Fin 4) (w : DebugWrite) (s : State) : State :=
  match s.running ln c with
  | none => s
  | some r =>
    if w.dueFor ln c r then
      match s.app, s.taskDef r.task with
      | some app, some td =>
        let n := 2 ^ w.write.size.val
        xpcSettle ln c (fun _ _ q => q) td r (storeAt { td, app, tb := s.tb } w.write.target n w.write.value.toNat r) s
      | _, _ => s
    else s

/-- The logged variable writes that a lane's running release has reached are made, each once per lane. -/
def debugReplay (ln : Lane) (c : Fin 4) (s : State) : State :=
  match s.running ln c with
  | none => s
  | some r =>
    let due := s.ctl.debugWrites.filter (fun w => w.dueFor ln c r)
    let s1 := due.foldl (fun q w => replayWrite ln c w q) s
    { s1 with ctl := { s1.ctl with debugWrites := s1.ctl.debugWrites.map (fun w =>
      if w.dueFor ln c r then { w with made := w.made ++ [ln] } else w) } }

/-- Has a lane's running release reached the step at which the debugger has stopped it (R66)? -/
def State.debugStopped (s : State) (ln : Lane) (c : Fin 4) : Bool :=
  match s.ctl.debugRun, s.running ln c with
  | some k, some r => decide (k ≤ r.steps)
  | _, _ => false

/-- Runs one instruction; with a debugger attached in HOLD, behind the replay of its logged actions (R66). -/
def xpcRun (ln : Lane) (c : Fin 4) (words steps : Nat) (close : Release → TaskDef → State → State)
    (f : XCtx → Release → XRes) (s : State) : State :=
  if s.ctl.mode = .hold ∧ s.ctl.debugger = true then
    let s1 := debugReplay ln c s
    if s1.debugStopped ln c then s1 else xpcCore ln c words steps close f s1
  else xpcCore ln c words steps close f s

/-! ### Closing a release (R38, R80, R301) -/

/-- The value of a bound signal as the Seal unit composes it (R301): under a force its snapshot, else as the release sees it. -/
def sealedSignal (r : Release) (e : SigEntry) : Word :=
  if e.inImage then imageValue r.image e
  else if r.ctx.forced.contains e.n then BitVec.ofNat 64 (cNum e.size e.offset r.snap)
  else BitVec.ofNat 64 (seenNum r e.offset e.size)

/-- The dataset and trailer that the Seal unit writes for one VITAL publication at the close of its owner's release. -/
def sealDataset (s : State) (app : AppImage) (p : Pub) (r : Release) : Bytes :=
  let base := match segOf app p.owner with
    | some g => g.offset + p.buffer
    | none => p.buffer
  let bs := s.bindings p.bindFirst p.bindCount
  let blank : Bytes := List.replicate (p.length - 16) 0
  let payload := if hostMode s 3 then tabulate (p.length - 16) (fun k => seenByte r (base + k))
    else composeData true s (sealedSignal r) bs blank
  let st := sealStatus (bs.any (fun b => r.ctx.forced.contains b.sig)) r.ctx.degraded r.ctx.mode
  payload ++ sealTrailer (s.sealProfile p.profile) p.sealId (r.closes % 2 ^ 32) st payload

/-- The Seal unit's stores for one publication, as Bucket writes of the release. -/
def sealPub (x : XCtx) (s : State) (p : Pub) (res : XRes) : XRes :=
  match res with
  | .go r =>
    let base := match segOf x.app p.owner with
      | some g => g.offset + p.buffer
      | none => p.buffer
    (sealStores base (sealDataset s x.app p r)).foldl (fun acc w => match acc with
      | .go q => storeAt x w.target 8 w.value.toNat q
      | .stop c i => .stop c i
      | .close q => .close q) (.go r)
  | .stop c i => .stop c i
  | .close r => .close r

/-- SEAL_COMPOSE: every VITAL publication of the task, before the closure (R301); nothing in host-assisted mode (R303). -/
def sealCompose (x : XCtx) (s : State) (r : Release) : XRes :=
  if hostMode s 4 then .go r else (s.vitalPubs x.td.task.val).foldl (fun acc p => sealPub x s p acc) (.go r)

/-- The closed half of a release (R38, R80). -/
def halfOf (td : TaskDef) (r : Release) : Half :=
  let c1 := closeC1 0x02 td.core.val td.task.val r.steps
  let c2 := BitVec.ofNat 64 r.opened
  { task := r.task, core := td.core, closes := r.closes, writes := r.writes, c1, c2, tally := tallyWords r.tally [c1, c2] }

/-- Closes the running release: Seal, closure, Bucket half, and the Tally message unless the lane withholds it (R38, R48). -/
def closeRun (ln : Lane) (c : Fin 4) (r : Release) (td : TaskDef) (s : State) : State :=
  match s.app with
  | none => s
  | some app =>
    match sealCompose { td, app, tb := s.tb } s r with
    | .go r1 =>
      let h := halfOf td r1
      let s1 := s.dropRun ln c
      let applied := if hostMode s 4 then 0 else (s.vitalPubs td.task.val).length
      let s2 := { s1.modLane ln (fun l => { l with halves := l.halves ++ [h] }) with
        tel := { s.tel with sealsApplied := s.tel.sealsApplied + applied } }
      if (s.lane ln).reported = none then
        s2.emit (.tally ln td.core r.task (BitVec.ofNat 16 r.opened) h.tally)
      else s2
    | .stop cause imm => stopRun ln c r cause imm s
    | .close _ => s

/-- One instruction of `words` words and `steps` steps. -/
def xpc (ln : Lane) (c : Fin 4) (words steps : Nat) (f : XCtx → Release → XRes) (s : State) : State :=
  xpcRun ln c words steps (closeRun ln c) f s

/-- An instruction of one step that writes D from a value of the registers. -/
def xpcD (ln : Lane) (c : Fin 4) (words : Nat) (d : Fin 64) (v : Release → Word) (s : State) : State :=
  xpc ln c words 1 (fun _ r => .go (xw r d (v r))) s

/-! ### Data movement -/

/-- MOV (R97): D := A. -/
def execXMov (ln : Lane) (c : Fin 4) (t : XType) (d a : Fin 64) (s : State) : Out :=
  .next (xpcD ln c 1 d (fun r => normT t (xr r a)) s)

/-- The words of an LDI: one literal word up to 32 bits, two for 64 bits (R96). -/
def ldiWords (t : XType) : Nat := if xWidth t ≤ 32 then 2 else 3

/-- LDI (R97): D := literal. -/
def execXLdi (ln : Lane) (c : Fin 4) (t : XType) (d : Fin 64) (lit : Word) (s : State) : Out :=
  .next (xpcD ln c (ldiWords t) d (fun _ => normT t lit) s)

/-- CVT (R100). -/
def execXCvt (ln : Lane) (c : Fin 4) (t : XType) (d a : Fin 64) (src : XType) (s : State) : Out :=
  .next (xpcD ln c 1 d (fun r => opCvt t src (xr r a)) s)

/-- SEL (R97): D := A when D is 1, otherwise B. -/
def execXSel (ln : Lane) (c : Fin 4) (t : XType) (d a b : Fin 64) (s : State) : Out :=
  .next (xpcD ln c 1 d (fun r => if isTrue (xr r d) then normT t (xr r a) else normT t (xr r b)) s)

/-- LD (R101): an illegal access stops the release with ACCESS-FAULT. -/
def execXLd (ln : Lane) (c : Fin 4) (t : XType) (d a : Fin 64) (sp : Space) (indexed : Bool) (off : BitVec 32)
    (s : State) : Out :=
  .next (xpc ln c 2 1 (fun x r => match loadNum x r sp (effAddr r a indexed off) (xSize t) with
    | some n => .go (xw r d (loadVal t n))
    | none => .stop evAccessFault 0) s)

/-- ST (R101): one Bucket write of S to STORE. -/
def execXSt (ln : Lane) (c : Fin 4) (t : XType) (src a : Fin 64) (indexed : Bool) (off : BitVec 32) (s : State) : Out :=
  .next (xpc ln c 2 1 (fun x r => storeAt x (effAddr r a indexed off) (xSize t) (rawOf t (xr r src)) r) s)

/-- STL (R101): a scratch write of S to LOCAL. -/
def execXStl (ln : Lane) (c : Fin 4) (t : XType) (src a : Fin 64) (indexed : Bool) (off : BitVec 32) (s : State) : Out :=
  .next (xpc ln c 2 1 (fun x r =>
    let ad := effAddr r a indexed off
    if ad % xSize t ≠ 0 ∨ x.td.localSize < ad + xSize t then .stop evAccessFault 0
    else .go { r with scratch := cWrite ad (leBytes (xSize t) (rawOf t (xr r src))) r.scratch }) s)

/-! ### Arithmetic (R98, R99) -/

/-- ADD. -/
def execXAdd (ln : Lane) (c : Fin 4) (t : XType) (d a b : Fin 64) (s : State) : Out :=
  .next (xpcD ln c 1 d (fun r => opAdd t (xr r a) (xr r b)) s)
/-- SUB. -/
def execXSub (ln : Lane) (c : Fin 4) (t : XType) (d a b : Fin 64) (s : State) : Out :=
  .next (xpcD ln c 1 d (fun r => opSub t (xr r a) (xr r b)) s)
/-- MUL. -/
def execXMul (ln : Lane) (c : Fin 4) (t : XType) (d a b : Fin 64) (s : State) : Out :=
  .next (xpcD ln c 1 d (fun r => opMul t (xr r a) (xr r b)) s)
/-- DIV. -/
def execXDiv (ln : Lane) (c : Fin 4) (t : XType) (d a b : Fin 64) (s : State) : Out :=
  .next (xpcD ln c 1 d (fun r => opDiv t (xr r a) (xr r b)) s)
/-- REM. -/
def execXRem (ln : Lane) (c : Fin 4) (t : XType) (d a b : Fin 64) (s : State) : Out :=
  .next (xpcD ln c 1 d (fun r => opRem t (xr r a) (xr r b)) s)
/-- NEG. -/
def execXNeg (ln : Lane) (c : Fin 4) (t : XType) (d a : Fin 64) (s : State) : Out :=
  .next (xpcD ln c 1 d (fun r => opNeg t (xr r a)) s)
/-- ABS. -/
def execXAbs (ln : Lane) (c : Fin 4) (t : XType) (d a : Fin 64) (s : State) : Out :=
  .next (xpcD ln c 1 d (fun r => opAbs t (xr r a)) s)
/-- MIN. -/
def execXMin (ln : Lane) (c : Fin 4) (t : XType) (d a b : Fin 64) (s : State) : Out :=
  .next (xpcD ln c 1 d (fun r => opMin t (xr r a) (xr r b)) s)
/-- MAX. -/
def execXMax (ln : Lane) (c : Fin 4) (t : XType) (d a b : Fin 64) (s : State) : Out :=
  .next (xpcD ln c 1 d (fun r => opMax t (xr r a) (xr r b)) s)
/-- ADDS. -/
def execXAdds (ln : Lane) (c : Fin 4) (t : XType) (d a b : Fin 64) (s : State) : Out :=
  .next (xpcD ln c 1 d (fun r => opAdds t (xr r a) (xr r b)) s)
/-- SUBS. -/
def execXSubs (ln : Lane) (c : Fin 4) (t : XType) (d a b : Fin 64) (s : State) : Out :=
  .next (xpcD ln c 1 d (fun r => opSubs t (xr r a) (xr r b)) s)
/-- SQRT. -/
def execXSqrt (ln : Lane) (c : Fin 4) (t : XType) (d a : Fin 64) (s : State) : Out :=
  .next (xpcD ln c 1 d (fun r => opSqrt t (xr r a)) s)
/-- ADDI. -/
def execXAddi (ln : Lane) (c : Fin 4) (t : XType) (d a : Fin 64) (imm : BitVec 8) (s : State) : Out :=
  .next (xpcD ln c 1 d (fun r => opAddi t (xr r a) imm) s)
/-- RINT. -/
def execXRint (ln : Lane) (c : Fin 4) (t : XType) (d a : Fin 64) (s : State) : Out :=
  .next (xpcD ln c 1 d (fun r => opRint t (xr r a)) s)
/-- LIMIT: D := MIN(MAX(D, A), B). -/
def execXLimit (ln : Lane) (c : Fin 4) (t : XType) (d a b : Fin 64) (s : State) : Out :=
  .next (xpcD ln c 1 d (fun r => opLimit t (xr r d) (xr r a) (xr r b)) s)

/-! ### Bits, shifts and comparisons (R97 to R99) -/

/-- AND. -/
def execXAnd (ln : Lane) (c : Fin 4) (t : XType) (d a b : Fin 64) (s : State) : Out :=
  .next (xpcD ln c 1 d (fun r => opAnd t (xr r a) (xr r b)) s)
/-- OR. -/
def execXOr (ln : Lane) (c : Fin 4) (t : XType) (d a b : Fin 64) (s : State) : Out :=
  .next (xpcD ln c 1 d (fun r => opOr t (xr r a) (xr r b)) s)
/-- XOR. -/
def execXXor (ln : Lane) (c : Fin 4) (t : XType) (d a b : Fin 64) (s : State) : Out :=
  .next (xpcD ln c 1 d (fun r => opXor t (xr r a) (xr r b)) s)
/-- NOT. -/
def execXNot (ln : Lane) (c : Fin 4) (t : XType) (d a : Fin 64) (s : State) : Out :=
  .next (xpcD ln c 1 d (fun r => opNot t (xr r a)) s)
/-- SHL by B, read as an operand of type T (R95). -/
def execXShl (ln : Lane) (c : Fin 4) (t : XType) (d a b : Fin 64) (s : State) : Out :=
  .next (xpcD ln c 1 d (fun r => opShl t (xr r a) (rawOf t (xr r b))) s)
/-- SHR by B. -/
def execXShr (ln : Lane) (c : Fin 4) (t : XType) (d a b : Fin 64) (s : State) : Out :=
  .next (xpcD ln c 1 d (fun r => opShr t (xr r a) (rawOf t (xr r b))) s)
/-- SHLI. -/
def execXShli (ln : Lane) (c : Fin 4) (t : XType) (d a : Fin 64) (imm : BitVec 8) (s : State) : Out :=
  .next (xpcD ln c 1 d (fun r => opShl t (xr r a) imm.toNat) s)
/-- SHRI. -/
def execXShri (ln : Lane) (c : Fin 4) (t : XType) (d a : Fin 64) (imm : BitVec 8) (s : State) : Out :=
  .next (xpcD ln c 1 d (fun r => opShr t (xr r a) imm.toNat) s)
/-- ROL by B. -/
def execXRol (ln : Lane) (c : Fin 4) (t : XType) (d a b : Fin 64) (s : State) : Out :=
  .next (xpcD ln c 1 d (fun r => opRol t (xr r a) (rawOf t (xr r b))) s)
/-- ROR by B. -/
def execXRor (ln : Lane) (c : Fin 4) (t : XType) (d a b : Fin 64) (s : State) : Out :=
  .next (xpcD ln c 1 d (fun r => opRor t (xr r a) (rawOf t (xr r b))) s)
/-- GETB. -/
def execXGetb (ln : Lane) (c : Fin 4) (t : XType) (d a : Fin 64) (imm : BitVec 8) (s : State) : Out :=
  .next (xpcD ln c 1 d (fun r => opGetb t (xr r a) imm) s)
/-- SETB. -/
def execXSetb (ln : Lane) (c : Fin 4) (t : XType) (d a : Fin 64) (imm : BitVec 8) (s : State) : Out :=
  .next (xpcD ln c 1 d (fun r => opSetb t (xr r a) imm) s)
/-- CLRB. -/
def execXClrb (ln : Lane) (c : Fin 4) (t : XType) (d a : Fin 64) (imm : BitVec 8) (s : State) : Out :=
  .next (xpcD ln c 1 d (fun r => opClrb t (xr r a) imm) s)
/-- EQ. -/
def execXEq (ln : Lane) (c : Fin 4) (t : XType) (d a b : Fin 64) (s : State) : Out :=
  .next (xpcD ln c 1 d (fun r => opEq t (xr r a) (xr r b)) s)
/-- NE. -/
def execXNe (ln : Lane) (c : Fin 4) (t : XType) (d a b : Fin 64) (s : State) : Out :=
  .next (xpcD ln c 1 d (fun r => opNe t (xr r a) (xr r b)) s)
/-- LT. -/
def execXLt (ln : Lane) (c : Fin 4) (t : XType) (d a b : Fin 64) (s : State) : Out :=
  .next (xpcD ln c 1 d (fun r => opLt t (xr r a) (xr r b)) s)
/-- LE. -/
def execXLe (ln : Lane) (c : Fin 4) (t : XType) (d a b : Fin 64) (s : State) : Out :=
  .next (xpcD ln c 1 d (fun r => opLe t (xr r a) (xr r b)) s)
/-- GT. -/
def execXGt (ln : Lane) (c : Fin 4) (t : XType) (d a b : Fin 64) (s : State) : Out :=
  .next (xpcD ln c 1 d (fun r => opGt t (xr r a) (xr r b)) s)
/-- GE. -/
def execXGe (ln : Lane) (c : Fin 4) (t : XType) (d a b : Fin 64) (s : State) : Out :=
  .next (xpcD ln c 1 d (fun r => opGe t (xr r a) (xr r b)) s)
/-- ISNAN. -/
def execXIsnan (ln : Lane) (c : Fin 4) (t : XType) (d a : Fin 64) (s : State) : Out :=
  .next (xpcD ln c 1 d (fun r => opIsnan t (xr r a)) s)

/-! ### Control flow (R103 to R106) -/

/-- The word a branch offset names, counted from the word after the instruction (R96). -/
def branchTo (r : Release) (off : Int) : Release := { r with pc := ((r.pc : Int) + off).toNat }

/-- JMP. -/
def execXJmp (ln : Lane) (c : Fin 4) (off : Int) (s : State) : Out :=
  .next (xpc ln c 1 1 (fun _ r => .go (branchTo r off)) s)
/-- BRT: when A is 1. -/
def execXBrt (ln : Lane) (c : Fin 4) (a : Fin 64) (off : Int) (s : State) : Out :=
  .next (xpc ln c 1 1 (fun _ r => .go (if isTrue (xr r a) then branchTo r off else r)) s)
/-- BRF: when A is 0. -/
def execXBrf (ln : Lane) (c : Fin 4) (a : Fin 64) (off : Int) (s : State) : Out :=
  .next (xpc ln c 1 1 (fun _ r => .go (if isTrue (xr r a) then r else branchTo r off)) s)

/-- The hidden count of the LOOP at a word (R104). -/
def loopCount (r : Release) (word : Nat) : Nat := ((r.loops.find? (fun l => l.word = word)).map (·.count)).getD 0

/-- Sets the hidden count of a LOOP. -/
def setLoop (r : Release) (word head n : Nat) : Release :=
  { r with loops := { word, head, count := n } :: r.loops.filter (fun l => l.word ≠ word) }

/-- LOOP: A := A − 1 as U32; back while A is not 0, at most `bound` − 1 times per entry (R104). The LOOP's own word
lies two words before the next one. -/
def execXLoop (ln : Lane) (c : Fin 4) (a : Fin 64) (off : Int) (bound : BitVec 32) (s : State) : Out :=
  .next (xpc ln c 2 1 (fun _ r =>
    let v := ofInt .u32 (intOf .u32 (xr r a) - 1)
    let r1 := xw r a v
    if v = 0 then .go r1
    else if loopCount r (r.pc - 2) + 1 = bound.toNat then .stop evLoopBound 0
    else
      let r2 := branchTo r1 off
      .go (setLoop r2 (r.pc - 2) r2.pc (loopCount r (r.pc - 2) + 1))) s)

/-- LOOP_BOUND (R104): the running LOOP would take its back-branch with a count of `bound` − 1; nothing otherwise. -/
def execLoopBound (ln : Lane) (c : Fin 4) (_off : Int) (bound : BitVec 32) (s : State) : Out :=
  .next (match s.running ln c with
    | some r => if loopCount r r.pc + 1 = bound.toNat then xpc ln c 2 1 (fun _ _ => .stop evLoopBound 0) s else s
    | none => s)

/-- CALL: the new frame takes v0 to v7 (R103); at most 32 frames (R94), which the loader ensures. -/
def execXCall (ln : Lane) (c : Fin 4) (fn : BitVec 24) (s : State) : Out :=
  .next (match s.running ln c with
    | none => s
    | some r0 =>
      if 31 ≤ r0.frames.length then s
      else xpc ln c 1 1 (fun x r => match x.app.funcs[fn.toNat]? with
        | some f => .go { r with
            frames := { regs := r.regs, fn := r.fn, ret := r.pc, loops := enterWord (r.pc - 1) r.pc r.loops } :: r.frames
            regs := r.regs.take 8 ++ List.replicate 56 0, fn := fn.toNat, pc := f.1, loops := [] }
        | none => .go r) s)

/-- RET: v0 to v3 return to the caller; at depth 0 the release closes (R103). -/
def execXRet (ln : Lane) (c : Fin 4) (s : State) : Out :=
  .next (xpc ln c 1 1 (fun _ r => match r.frames with
    | [] => .close r
    | f :: fs => .go { r with regs := r.regs.take 4 ++ f.regs.drop 4, fn := f.fn, pc := f.ret, loops := f.loops, frames := fs }) s)

/-- END: closes the release at any depth (R103). -/
def execXEnd (ln : Lane) (c : Fin 4) (s : State) : Out := .next (xpc ln c 1 1 (fun _ r => .close r) s)

/-- HALT: stops the release with APP-HALT; IMM is recorded (R106). -/
def execXHalt (ln : Lane) (c : Fin 4) (imm : BitVec 8) (s : State) : Out :=
  .next (xpc ln c 1 1 (fun _ _ => .stop evAppHalt imm.toNat) s)

/-- NOP. -/
def execXNop (ln : Lane) (c : Fin 4) (s : State) : Out := .next (xpc ln c 1 1 (fun _ r => .go r) s)

/-- STEPS: the steps so far, its own among them (R105). -/
def execXSteps (ln : Lane) (c : Fin 4) (d : Fin 64) (s : State) : Out :=
  .next (xpcD ln c 1 d (fun r => BitVec.ofNat 64 (r.steps % 2 ^ 32)) s)

/-- PERIOD: k × T_b in ns (R97). -/
def execXPeriod (ln : Lane) (c : Fin 4) (d : Fin 64) (s : State) : Out :=
  .next (xpc ln c 1 1 (fun x r => .go (xw r d (BitVec.ofNat 64 (x.td.period * x.tb)))) s)

/-- STEP_BUDGET (R88): an instruction of `steps` steps would exceed the budget, so it is not executed. -/
def execStepBudget (ln : Lane) (c : Fin 4) (steps : Nat) (s : State) : Out :=
  .next (match s.running ln c with
    | some r => match s.taskDef r.task with
      | some td => if td.stepBudget < r.steps + steps then stopRun ln c r evStepBudget 0 s else s
      | none => s
    | none => s)

/-! ### Timer, counter and edge blocks (R107, R108) -/

/-- The rounded preset: PT up to a whole number of periods, saturating at the largest multiple (R107). -/
def roundPreset (p : Nat) (pt : Int) : Int :=
  if pt ≤ 0 ∨ p = 0 then 0
  else
    let up := roundUp p pt.toNat
    if up ≤ 2 ^ 63 - 1 then (up : Int) else (((2 ^ 63 - 1) / p * p : Nat) : Int)

structure TimerSt where
  /-- ET and FLAGS of a timer instance (R108). -/
  et : Int
  run : Bool
  prev : Bool
  q : Bool
deriving DecidableEq, Repr

/-- TON of R107. -/
def tonStep (p ptr : Int) (i : Bool) (m : TimerSt) : TimerSt :=
  if i then
    let et := if !m.prev then 0 else if m.et < ptr then m.et + p else m.et
    { et, run := m.run, prev := i, q := decide (ptr ≤ et) }
  else { et := 0, run := m.run, prev := i, q := false }

/-- TOF of R107. -/
def tofStep (p ptr : Int) (i : Bool) (m : TimerSt) : TimerSt :=
  if i then { et := 0, run := false, prev := i, q := true }
  else
    let et := if m.prev then 0 else if m.run && m.et < ptr then m.et + p else m.et
    let run0 := m.prev || m.run
    let run1 := run0 && !(ptr ≤ et)
    { et, run := run1, prev := i, q := run1 }

/-- TP of R107. -/
def tpStep (p ptr : Int) (i : Bool) (m : TimerSt) : TimerSt :=
  let s1 : Int × Bool :=
    if m.run then (if m.et < ptr then m.et + p else m.et, true)
    else if i && !m.prev then (0, true)
    else if !i then (0, false)
    else (m.et, false)
  let run1 := s1.2 && !(ptr ≤ s1.1)
  { et := s1.1, run := run1, prev := i, q := run1 }

/-- A timer block: the instance from the STORE view, one scan, ET and FLAGS written back, Q to D (R107, R108). -/
def timerBlock (f : Int → Int → Bool → TimerSt → TimerSt) (d a b : Fin 64) (inst : BitVec 32) (x : XCtx) (r : Release) : XRes :=
  match segOf x.app x.td.task.val with
  | none => .stop evAccessFault 0
  | some g =>
    let ad := g.offset + inst.toNat
    match loadNum x r .store ad 8, loadNum x r .store (ad + 8) 8 with
    | some et, some fl =>
      let p := x.td.period * x.tb
      let m := f p (roundPreset p (intOf .time64 (xr r b))) (isTrue (xr r a))
        { et := sxt 64 et, run := fl.testBit 2, prev := fl.testBit 1, q := fl.testBit 0 }
      storeTwo x ad 8 (wrapNat 64 m.et) (ad + 8) 8 (b2n m.run * 4 + b2n m.prev * 2 + b2n m.q) (xw r d (ofBool m.q))
    | _, _ => .stop evAccessFault 0

/-- TON. -/
def execXTon (ln : Lane) (c : Fin 4) (d a b : Fin 64) (inst : BitVec 32) (s : State) : Out :=
  .next (xpc ln c 2 6 (timerBlock tonStep d a b inst) s)
/-- TOF. -/
def execXTof (ln : Lane) (c : Fin 4) (d a b : Fin 64) (inst : BitVec 32) (s : State) : Out :=
  .next (xpc ln c 2 6 (timerBlock tofStep d a b inst) s)
/-- TP. -/
def execXTp (ln : Lane) (c : Fin 4) (d a b : Fin 64) (inst : BitVec 32) (s : State) : Out :=
  .next (xpc ln c 2 6 (timerBlock tpStep d a b inst) s)

structure CountSt where
  /-- CV and FLAGS of a counter instance (R108). -/
  cv : Int
  prevCd : Bool
  prevCu : Bool
  qd : Bool
  q : Bool
deriving DecidableEq, Repr

/-- CTU of R107. -/
def ctuStep (cu rst : Bool) (pv : Int) (m : CountSt) : CountSt :=
  let cv := if rst then 0 else if cu && (!m.prevCu && m.cv < 2147483647) then m.cv + 1 else m.cv
  { m with cv, q := decide (pv ≤ cv), prevCu := cu }

/-- CTD of R107. -/
def ctdStep (cd ld : Bool) (pv : Int) (m : CountSt) : CountSt :=
  let cv := if ld then pv else if cd && (!m.prevCd && -2147483648 < m.cv) then m.cv - 1 else m.cv
  { m with cv, q := decide (cv ≤ 0), prevCd := cd }

/-- CTUD of R107: R, LD and the counting edges are exclusive, in that order. -/
def ctudStep (cu cd rst ld : Bool) (pv : Int) (m : CountSt) : CountSt :=
  let up := cu && !m.prevCu
  let dn := cd && !m.prevCd
  let cv := if rst then 0 else if ld then pv
    else if up && (!dn && m.cv < 2147483647) then m.cv + 1
    else if dn && (!up && -2147483648 < m.cv) then m.cv - 1 else m.cv
  { cv, prevCd := cd, prevCu := cu, qd := decide (cv ≤ 0), q := decide (pv ≤ cv) }

/-- A counter block: the instance read, one scan, CV and FLAGS written back, the result to D (R107, R108). -/
def counterBlock (f : Release → CountSt → CountSt) (out : CountSt → Word) (d : Fin 64) (inst : BitVec 32)
    (x : XCtx) (r : Release) : XRes :=
  match segOf x.app x.td.task.val with
  | none => .stop evAccessFault 0
  | some g =>
    let ad := g.offset + inst.toNat
    match loadNum x r .store ad 4, loadNum x r .store (ad + 4) 4 with
    | some cv, some fl =>
      let m := f r { cv := sxt 32 cv, prevCd := fl.testBit 3, prevCu := fl.testBit 2, qd := fl.testBit 1, q := fl.testBit 0 }
      storeTwo x ad 4 (wrapNat 32 m.cv) (ad + 4) 4
        (b2n m.prevCd * 8 + b2n m.prevCu * 4 + b2n m.qd * 2 + b2n m.q) (xw r d (out m))
    | _, _ => .stop evAccessFault 0

/-- CTU: CU from A, R from B, PV from C. -/
def execXCtu (ln : Lane) (c : Fin 4) (d a b k : Fin 64) (inst : BitVec 32) (s : State) : Out :=
  .next (xpc ln c 2 5 (counterBlock (fun r m => ctuStep (isTrue (xr r a)) (isTrue (xr r b)) (intOf .i32 (xr r k)) m)
    (fun m => ofBool m.q) d inst) s)
/-- CTD: CD from A, LD from B, PV from C. -/
def execXCtd (ln : Lane) (c : Fin 4) (d a b k : Fin 64) (inst : BitVec 32) (s : State) : Out :=
  .next (xpc ln c 2 5 (counterBlock (fun r m => ctdStep (isTrue (xr r a)) (isTrue (xr r b)) (intOf .i32 (xr r k)) m)
    (fun m => ofBool m.q) d inst) s)
/-- CTUD: CU from A, CD from B, PV from C, R and LD in D; QU and QD to D. -/
def execXCtud (ln : Lane) (c : Fin 4) (d a b k : Fin 64) (inst : BitVec 32) (s : State) : Out :=
  .next (xpc ln c 2 7 (counterBlock (fun r m => ctudStep (isTrue (xr r a)) (isTrue (xr r b))
      ((rawOf .u8 (xr r d)).testBit 0) ((rawOf .u8 (xr r d)).testBit 1) (intOf .i32 (xr r k)) m)
    (fun m => BitVec.ofNat 64 (b2n m.qd * 2 + b2n m.q)) d inst) s)

/-- An edge block: M read, Q to D, M written back (R107, R108). -/
def edgeBlock (q : Bool → Bool → Bool) (d a : Fin 64) (inst : BitVec 32) (x : XCtx) (r : Release) : XRes :=
  match segOf x.app x.td.task.val with
  | none => .stop evAccessFault 0
  | some g =>
    let ad := g.offset + inst.toNat
    match loadNum x r .store ad 1 with
    | some fl =>
      let clk := isTrue (xr r a)
      storeAt x ad 1 (b2n clk) (xw r d (ofBool (q clk (fl.testBit 0))))
    | none => .stop evAccessFault 0

/-- R_TRIG: Q := CLK and not M. -/
def execXRTrig (ln : Lane) (c : Fin 4) (d a : Fin 64) (inst : BitVec 32) (s : State) : Out :=
  .next (xpc ln c 2 2 (edgeBlock (fun clk m => clk && !m) d a inst) s)
/-- F_TRIG: Q := M and not CLK. -/
def execXFTrig (ln : Lane) (c : Fin 4) (d a : Fin 64) (inst : BitVec 32) (s : State) : Out :=
  .next (xpc ln c 2 2 (edgeBlock (fun clk m => m && !clk) d a inst) s)

end Sys2Proof.Machine
end

