-- ==== Sys2Proof/Machine/Images.lean ====
section
/-! DEFINITION. The input image (R73 to R76), the Standpipes (R77 to R79), release tokens (R33) and the release of tasks
(R69 to R71). -/

namespace Sys2Proof.Machine

/-! ### Assembling the image (R73) -/

/-- The forces that are in effect (R137). -/
def State.activeForces (s : State) : List Force :=
  (s.ctl.forces.map (·.2)).filter (fun f => f.state = .active || (f.state = .pending && f.removing))

/-- The force in effect of a kind on a target. -/
def State.forceOn (s : State) (kind target : Nat) : Option Force :=
  s.activeForces.find? (fun f => f.kind.toNat = kind && f.target.toNat = target)

/-- Did the group deliver a valid state frame for this boundary (R189)? -/
def Group.delivered (q : Group) : Bool := q.frameSeen && !q.linkLost

/-- The FIELD record of a channel (R73): the group's word, VALID 0 without a frame (R189), and a CHANNEL-IN force (R133). -/
def State.fieldRecord (s : State) (ch : Fin 128) : Nat :=
  let q := s.group (chGroup ch)
  let w := ((q.fieldWords[(chNo ch).val]?).getD 0).toNat
  let low := w % 65536 - (if !q.delivered && w.testBit 1 then 2 else 0)
  let fn := (q.chan (chNo ch)).fn.toNat
  match s.forceOn 2 ch.val with
  | some f =>
    let v := f.inForce.toNat
    v / 2 ^ 48 * 2 ^ 48 + fn * 2 ^ 40 + (low - low % 2) + 0x200 + v % 2
  | none => w / 65536 * 2 ^ 48 + fn * 2 ^ 40 + low + (if (s.forceOn 3 ch.val).isSome then 0x200 else 0)

/-- All channel indices. -/
def chanIndices : List (Fin 128) := List.finRange 128

/-- The GROUP record of a group (R73). -/
def State.groupRecord (s : State) (g : Fin 8) : Nat :=
  let q := s.group g
  q.vfSeen.toNat * 2 ^ 48 + b2n (q.gstat.getLsbD 7) * 128 + b2n q.delivered * 64 + b2n (q.gstat.getLsbD 5) * 32 + b2n q.delivered

/-- An edge record (R73). -/
def edgeRecord (e : EdgeRec) : Nat := e.chan.val * 2 ^ 57 + b2n e.rising * 2 ^ 56 + e.stamp % 2 ^ 56

/-- A Late Error Ring entry's bytes (R324). -/
def lateBytes (e : LateEntry) : Bytes :=
  leBytes 4 e.addr ++ leBytes 4 e.cycle.toNat ++ leBytes 2 e.seq.toNat ++ leBytes 1 e.window.val ++ leBytes 1 e.cause.val ++
    leBytes 1 (laneNo e.lane) ++ leBytes 1 e.core.val ++ [e.task] ++ leBytes 1 e.size

/-- Was an event word polled before the boundary at `t0` (R330)? -/
def polledBefore (t0 : Nat) (w : Word) : Bool :=
  let d := diff32 (t0 % 2 ^ 32) (w.toNat % 2 ^ 32)
  d != 0 && decide (d < 2 ^ 31)

/-- The EVENTS words of an image: beyond 32, the first 31 and a count of the others (R330). -/
def eventSection (ws : List Word) : List Word :=
  if ws.length ≤ 32 then ws
  else ws.take 31 ++ [BitVec.ofNat 64 (0xFF * 2 ^ 56 + (ws.length - 31) % 65536 * 2 ^ 32)]

/-- The length of an image in KiB for a TB_CODE (R73). -/
def imageKib (tbCode : Nat) : Nat := if tbCode = 0 then 16 else if tbCode = 2 then 64 else 32

/-- The header without its SEAL (R73), bytes 0x04 to 0x3F. -/
def State.imageHeader (s : State) (n lates edges events : Nat) (ovf : Bool) (dropped : Nat) : Bytes :=
  let flags := b2n s.time.timeLocked * 128 + s.time.selected.val * 64 + b2n ovf * 32 + b2n (!s.activeForces.isEmpty) * 16
  leBytes 2 (imageKib s.ctl.tbCode) ++ [1, BitVec.ofNat 8 flags] ++ leBytes 8 n ++ leBytes 8 (n * s.tb) ++ leBytes 4 s.tb ++
    leBytes 1 (n % s.macroM) ++ leBytes 1 lates ++ leBytes 2 edges ++ leBytes 2 dropped ++ leBytes 1 events ++ [0] ++
    leBytes 4 (wrapNat 32 s.time.utcOffset) ++ List.replicate 24 0

/-- Signals in image space under a force take the forced value (R133). -/
def forceImage (s : State) (img : Bytes) : Bytes :=
  s.activeForces.foldl (fun i f => if f.kind.toNat = 1 then (match s.signal f.target.toNat with
    | some e => if e.inImage then putImage e f.inForce.toNat i else i
    | none => i) else i) img

/-- The seal context of an image (R300). -/
def State.sealCtx (s : State) (n : Nat) : SealCtx :=
  { crcOk := true, cycle := BitVec.ofNat 32 n, mode := modeNo s.ctl.mode, degraded := s.degraded
    forced := (s.activeForces.filter (fun f => f.kind = 1)).map (fun f => f.target.toNat) }

/-- Assembles and seals the image of boundary `n`: the state after taking its edges, entries and words, and the image. -/
def assemble (n : Nat) (s : State) : State × Image :=
  let t0 := n * s.tb
  let mine := (s.fio.edges.filter (fun e => e.stamp < t0)).mergeSort (fun a b => a.stamp ≤ b.stamp)
  let later := s.fio.edges.filter (fun e => t0 ≤ e.stamp)
  let kept := mine.take 256
  let ovf := decide (256 < mine.length)
  let dropped := satAdd 16 s.fio.dropped (mine.length - kept.length)
  let lates := s.bri.late.filter (fun e => !e.delivered && (e.cycle.toNat != n % 2 ^ 32))
  let events := s.bri.imageEvents.filter (polledBefore t0)
  let words := eventSection events
  let body := chanIndices.flatMap (fun ch => leBytes 8 (s.fieldRecord ch)) ++
    (groupNos.flatMap (fun g => ((s.group g).countWords).flatMap (fun w => leBytes 8 w.toNat))) ++
    groupNos.flatMap (fun g => leBytes 8 (s.groupRecord g)) ++
    (fitTo 64 (s.ctl.fabLatch.flatMap (fun r => leBytes 4 r.toNat))) ++
    fitTo 2048 (kept.flatMap (fun e => leBytes 8 (edgeRecord e))) ++
    fitTo 1024 (lates.flatMap lateBytes) ++ fitTo 256 (words.flatMap (fun w => leBytes 8 w.toNat))
  let head := s.imageHeader n lates.length kept.length words.length ovf dropped
  let blank := fitTo (1024 * imageKib s.ctl.tbCode) (List.replicate 4 0 ++ head ++ body)
  let s1 := { s with
    fio := { s.fio with edges := later, dropped := 0 }
    bri := { s.bri with
      late := s.bri.late.map (fun e => if lates.contains e then { e with delivered := true } else e)
      lateLostImage := 0, imageEvents := s.bri.imageEvents.filter (fun w => !polledBefore t0 w)
      imageEvDropped := s.bri.imageEvDropped + (events.length - 31) * b2n (decide (32 < events.length))
      queueOverflow := [false, false, false] } }
  let s2 := raiseIf ovf evEdgeOverflow [] s1
  let s3 := raiseIf (decide (32 < events.length)) evImageEventOverflow [] s2
  let r := fillBus n s3 blank
  let img := forceImage r.1 r.2
  let whole := leBytes 4 (crc32c (img.drop 4)).toNat ++ img.drop 4
  (r.1, { cycle := n, bytes := whole, ctx := r.1.sealCtx n })

/-! ### Standpipes and vote windows -/

/-- A Standpipe takes an image (R77, R79); in HOLD a full one drops the new image (R127). -/
def feedLane (hold : Bool) (img : Image) (l : LaneSt) : LaneSt :=
  if l.state = .isIn then
    if 4 ≤ l.standpipe.length then
      (if hold then l else { l with standpipe := l.standpipe.drop 1 ++ [img] })
    else { l with standpipe := l.standpipe ++ [img], peak := max l.peak (l.standpipe.length + 1) }
  else l

/-- Is a task due at boundary `n` (R69)? -/
def TaskDef.due (d : TaskDef) (n : Nat) : Bool := d.period != 0 && n % d.period = d.phase

/-- The indices that a placement hand-over changes and that are not released between m1 and m2 (R63). -/
def State.moving (s : State) (c : Fin 4) : Bool :=
  s.ctl.moveState = 2 && s.ctl.moved.getLsbD c.val

/-- Modes in which tasks are released (R124). -/
def Mode.releases : Mode → Bool
  | .run => true
  | .hold => true
  | .standby => true
  | .off => false
  | .fabricOnly => false
  | .boot => false
  | .stop => false
  | .faultStop => false

/-- Opens the vote windows of boundary `n`: every due task on a TRIPLE index, over the lanes that are IN (R35, R41). -/
def openVotes (n : Nat) (s : State) : State :=
  if s.ctl.mode.releases then
    let due := ((s.app.map (·.tasks)).getD []).filter (fun d => d.due n && (s.triple d.core && !s.moving d.core))
    let ws := due.map (fun d => ({ core := d.core, task := d.task, opened := n, closes := n + d.period, lanes := s.inLanes } : Window))
    { s with rek := { s.rek with windows := s.rek.windows.filter (fun w => w.opened ≠ n) ++ ws } }
  else s

/-- An image is written into the Standpipes of the lanes that are IN, and the releases of its boundary are open. -/
def deliver (img : Image) (s : State) : State :=
  let hold := decide (s.ctl.mode = .hold)
  let lost := if hold then (s.inLanes.filter (fun ln => 4 ≤ (s.lane ln).standpipe.length)).length else 0
  let s1 := s.modLanes (feedLane hold img)
  let s2 := { s1 with ctl := { s1.ctl with
    sealed := some img, sealAt := s.time.now, imageReady := true, holdDropped := satAdd 32 s1.ctl.holdDropped lost } }
  if lost ≠ 0 ∧ lost = s.inLanes.length then s2 else openVotes img.cycle s2

/-- Modes in which images are sealed. -/
def Mode.seals : Mode → Bool
  | .stop => true
  | .run => true
  | .hold => true
  | .standby => true
  | .off => false
  | .fabricOnly => false
  | .boot => false
  | .faultStop => false

/-- IMAGE_SEALED (R73): the image of the present boundary, once. A STANDBY's lanes drink the forwarded image instead, so
its own waits for a takeover (R349). -/
def execImageSealed (t : Nat) (s : State) : Out :=
  let s := s.atTime t
  .next (if (s.ctl.mode.seals && s.ctl.ownImage.isNone) = true then
      let r := assemble s.cycleNow s
      let s1 := { r.1 with ctl := { r.1.ctl with ownImage := some r.2 } }
      if s.ctl.mode = .standby then s1 else forwardImage r.2 (deliver r.2 s1)
    else s)

/-- IMAGE_LATE (R20): no release, IMAGE-LATE, FAULT-STOP. -/
def execImageLate (t : Nat) (s : State) : Out :=
  let s := s.atTime t
  .next (if (s.ctl.mode.seals && s.ctl.ownImage.isNone) = true ∧ 60000 ≤ s.intoCycle ∧ s.inLanes ≠ [] then
      faultStop evImageLate (raise evImageLate [] (s.modLanes (fun l => { l with token := none })))
    else s)

/-! ### Tokens (R33, R78) -/

/-- The place of an IN lane on the token grid. -/
def State.gridPlace (s : State) (ln : Lane) : Option Nat := codePos (laneNo ln) (s.inLanes.map laneNo)

/-- RELEASE_TOKEN: an IN lane receives the token of the present boundary at its grid instant. -/
def execReleaseToken (t : Nat) (ln : Lane) (s : State) : Out :=
  let s := s.atTime t
  let n := s.cycleNow
  .next (match s.gridPlace ln with
    | some k =>
      let l := s.lane ln
      let open' := s.ctl.imageReady && s.ctl.sealed.any (fun i => i.cycle == n)
      if open' ∧ s.ctl.sealAt + 1000 * s.ctl.stagger * k ≤ s.time.now ∧ l.tokenFor ≠ some n then
        s.modLane ln (fun l => { l with token := some (n, s.time.now), signalled := none, tokenFor := some n })
      else s
    | none => s)

/-- A token that was not used within 20 µs is gone (R78). -/
def dropToken (ln : Lane) (s : State) : State :=
  let s1 := s.modLane ln (fun l => { l with token := none })
  { s1 with ctl := { s1.ctl with tokenTimeouts := satAdd 32 s1.ctl.tokenTimeouts 1 } }

/-- TOKEN_TIMEOUT (R78). -/
def execTokenTimeout (t : Nat) (ln : Lane) (s : State) : Out :=
  let s := s.atTime t
  .next (match (s.lane ln).token with
    | some (_, at0) => if at0 + 20000 ≤ s.time.now then dropToken ln s else s
    | none => s)

/-! ### Releases (R69 to R71) -/

/-- Does a lane run a task: on a TRIPLE index every IN lane, on a SPLIT index the lane that has it, unless FAULTED. -/
def State.runsTask (s : State) (ln : Lane) (d : TaskDef) : Bool :=
  if s.triple d.core then true
  else
    let x := (s.ctl.tasks[d.task.val]?).getD {}
    let bad := match ln with
      | .A => x.faultA
      | .B => x.faultB
      | .C => x.faultC
    decide (x.onLane = some ln) && !bad

/-- The parameter values in force for a release that opens at `n` (R143). -/
def LaneSt.constsAt (l : LaneSt) (n : Nat) : Bytes :=
  match l.paramsNew with
  | some (v, b) => if b ≤ n then v else l.params
  | none => l.params

/-- A fresh release of a task (R71, R94). -/
def newRelease (app : AppImage) (d : TaskDef) (n : Nat) (img : Bytes) (ctx : SealCtx) (l : LaneSt) : Release :=
  { task := d.task, opened := n, closes := n + d.period, fn := d.entryFn, pc := ((app.funcs[d.entryFn]?).map (·.1)).getD 0
    regs := List.replicate 64 0, frames := [], scratch := [], loops := [], steps := 0, used := 0, writes := []
    tally := tallyInit, image := img, ctx, snap := l.copy, consts := l.constsAt n }

/-- Puts a release among the open ones of its core: before the first of lower priority (R70). -/
def insertRelease (prio : Fin 16 → Nat) (r : Release) : List Release → List Release
  | [] => [r]
  | q :: qs => if prio q.task < prio r.task then r :: q :: qs else q :: insertRelease prio r qs

/-- The due tasks of a lane in the order of R70. -/
def State.dueTasks (s : State) (ln : Lane) (n : Nat) : List TaskDef :=
  (((s.app.map (·.tasks)).getD []).filter (fun d => d.due n && (s.runsTask ln d && !s.moving d.core))).mergeSort
    (fun a b => decide (b.priority < a.priority) || (a.priority == b.priority && decide (a.task ≤ b.task)))

/-- A lane releases the due tasks of boundary `n` on an image. -/
def releaseTasks (ln : Lane) (n : Nat) (img : Bytes) (ctx : SealCtx) (s : State) : State :=
  match s.app with
  | none => s
  | some app =>
    if s.ctl.mode.releases then
      let prio (t : Fin 16) : Nat := ((s.taskDef t).map (·.priority)).getD 0
      s.modLane ln (fun l => (s.dueTasks ln n).foldl (fun l d =>
        let k := l.core d.core
        l.setCore d.core { k with releases := insertRelease prio (newRelease app d n img ctx l) k.releases }) l)
    else s

/-! ### Drinking (R76 to R79, R298, R300) -/

/-- Is an image as the lane received it sealed, with a right seal context (R76, R300)? -/
def drinkOk (bytes : Bytes) (ctxOk : Bool) (img : Image) : Bool :=
  leAt bytes 0 4 == (crc32c (bytes.drop 4)).toNat && (ctxOk && (img.ctx.crcOk && img.ctx.cycle.toNat == img.cycle % 2 ^ 32))

/-- A lane drinks image `img`, whose bytes may be altered on their way. -/
def drink (ln : Lane) (recv : Option Bytes) (ctxOk gap : Bool) (rest : List Image) (img : Image) (s : State) : State :=
  let bytes := recv.getD img.bytes
  let s1 := s.modLane ln (fun l => { l with
    standpipe := rest, token := none, drunk := some img.cycle, signalled := some s.time.now })
  if !drinkOk bytes ctxOk img then reportCause ln evLaneInputFail s1
  else
    let s2 := if gap then reportCause ln evLaneImageGap s1 else s1
    let r := laneComplete ln img.ctx bytes s2
    releaseTasks ln img.cycle r.2 img.ctx r.1

/-- Do the cycles of images follow each other from the last one drunk? -/
def gapIn : Option Nat → List Image → Bool
  | _, [] => false
  | none, i :: r => gapIn (some i.cycle) r
  | some d, i :: r => decide (i.cycle ≠ d + 1) || gapIn (some i.cycle) r

/-- LANE_DRINK: in RUN the images up to the token's boundary, in HOLD the oldest (R76, R79, R127). -/
def execLaneDrink (t : Nat) (ln : Lane) (recv : Option Bytes) (ctxOk : Bool) (s : State) : Out :=
  let s := s.atTime t
  let l := s.lane ln
  .next (match l.token with
    | none => s
    | some (n, at0) =>
      if l.state ≠ .isIn then s
      else if at0 + 20000 < s.time.now then dropToken ln s
      else if s.ctl.mode = .hold then
        match l.standpipe with
        | img :: rest => drink ln recv ctxOk false rest img s
        | [] => s
      else
        let upTo := l.standpipe.filter (fun i => i.cycle ≤ n)
        match upTo.getLast? with
        | some img => drink ln recv ctxOk (gapIn l.drunk upTo) (l.standpipe.filter (fun i => n < i.cycle)) img s
        | none => s)

end Sys2Proof.Machine
end

