-- ==== Sys2Proof/Machine/Loader.lean ====
section
/-! DEFINITION. The application image container and its load checks (R109 to R117, R18, R62, R72, R75, R87, R103, R104),
and the translation digest of R119. -/

namespace Sys2Proof.Machine

/-- A load check's result: a value, or the reason of R117. -/
abbrev Load (α : Type) := Except Nat α

/-- Passes when the condition holds, else fails with a reason. -/
def need (reason : Nat) (c : Bool) : Load Unit := if c then .ok () else .error reason

/-- Rounds a length up to a multiple of 8. -/
def pad8 (n : Nat) : Nat := (n + 7) / 8 * 8

/-- Are all bytes of a part zero? -/
def zeroAt (b : Bytes) (off n : Nat) : Bool := (slice b off n).all (fun x => x == 0)

/-! ### Sections (R109) -/

structure Section where
  /-- A section: its KIND, where its header starts, and its content. -/
  kind : Nat
  start : Nat
  content : Bytes
deriving DecidableEq, Repr

/-- Reads sections from offset `off` on, at most `n` of them. -/
def readSections : Nat → Nat → Bytes → Load (List Section)
  | 0, off, b => if off = b.length then .ok [] else .error 1
  | n + 1, off, b =>
    if off = b.length then .ok []
    else
      let len := leAt b (off + 4) 4
      let c := slice b (off + 16) len
      if b.length < off + 16 + pad8 len ∨ leAt b (off + 2) 2 ≠ 1 ∨ leAt b (off + 8) 4 ≠ (crc32 c).toNat ∨
          leAt b (off + 12) 4 ≠ 0 ∨ zeroAt b (off + 16 + len) (pad8 len - len) = false then .error 1
      else (readSections n (off + 16 + pad8 len) b).map (fun r => { kind := leAt b off 2, start := off, content := c } :: r)

/-- The content of the section of a kind. -/
def sect (l : List Section) (kind : Nat) : Bytes := ((l.find? (fun x => x.kind = kind)).map (·.content)).getD []

/-- Reason 0x01: framing, order, FORMAT, MAGIC and CRCs, at most 16 MiB. -/
def checkFraming (b : Bytes) : Load (List Section) :=
  if 16777216 < b.length then .error 1
  else
    match readSections 9 0 b with
    | .error e => .error e
    | .ok l =>
      let kinds := l.map (·.kind)
      let h := sect l 1
      if (kinds = [1, 2, 3, 4, 5, 6, 8] ∨ kinds = [1, 2, 3, 4, 5, 6, 7, 8]) ∧ h.length = 64 ∧
          leAt h 0 4 = 0x31435058 ∧ leAt h 4 2 = 1 ∧ leAt h 0x14 4 = 0 then .ok l
      else .error 1

/-! ### Signature (R116, R424) -/

/-- The application keys of 0x8000:0B: identifier and public key. -/
def State.appKeys (s : State) : List (Bytes × Bytes) := (chunksOf 40 (s.odGet 0x8000 0x0B)).map (fun e => (e.take 8, e.drop 8))

/-- Does HASH equal the SHA-512 of the bytes before the SIGNATURE header? -/
def hashOk (b sig : Bytes) (start : Nat) : Bool := sig.take 64 == Config.sha512 (b.take start)

/-- Is SIG a signature over HASH with a known key? -/
def sigOk (keys : List (Bytes × Bytes)) (sig : Bytes) : Bool :=
  match keys.find? (fun k => k.1 = slice sig 64 8) with
  | some k => Config.ed25519 k.2 (sig.take 64) (slice sig 72 64)
  | none => false

/-- Reason 0x02: HASH and SIG. -/
def checkSignature (keys : List (Bytes × Bytes)) (b : Bytes) (l : List Section) : Load Unit :=
  let sig := sect l 8
  let start := ((l.find? (fun x => x.kind = 8)).map (·.start)).getD 0
  need 2 (decide (sig.length = 136) && (hashOk b sig start && sigOk keys sig))

/-- The edition of the running firmware (0x1000:03). -/
def State.edition (s : State) : BitVec 32 := if s.upd.fwActiveB then s.upd.fwB.ident else s.upd.fwA.ident

/-! ### Code (R96, R97, R103, R104, R110) -/

/-- Instruction formats of R96. -/
inductive Fmt where | r | cvt | i | l | m | b | c | k | n
deriving DecidableEq, Repr

/-- Legal values of T in R97: all, int and float, int, float, BOOL and int, U32, TIME64, or no T. -/
inductive TySet where | all | num | int | float | bits | u32 | time64 | noType
deriving DecidableEq, Repr

/-- Is a type code legal? -/
def TySet.has (x : TySet) (code : Nat) : Bool :=
  let isI := (1 ≤ code && code ≤ 8) || code == 11
  let isF := code == 9 || code == 10
  match x with
  | .all => decide (code ≤ 11)
  | .num => isI || isF
  | .int => isI
  | .float => isF
  | .bits => code == 0 || isI
  | .u32 => code == 3
  | .time64 => code == 11
  | .noType => code == 0

structure OpRow where
  /-- A row of the opcode table of R97: OP, format, types, and which of A, B, C are operands. -/
  op : Nat
  fmt : Fmt
  types : TySet
  a : Bool
  b : Bool
  c : Bool
deriving DecidableEq, Repr

/-- A row of format R with operands D, A and B. -/
def rowAB (op : Nat) (t : TySet) : OpRow := { op, fmt := .r, types := t, a := true, b := true, c := false }
/-- A row of format R with operands D and A. -/
def rowA (op : Nat) (t : TySet) : OpRow := { op, fmt := .r, types := t, a := true, b := false, c := false }
/-- A row of format I. -/
def rowI (op : Nat) : OpRow := { op, fmt := .i, types := .int, a := true, b := false, c := false }
/-- A row of another format. -/
def rowF (op : Nat) (f : Fmt) (t : TySet) (a b c : Bool) : OpRow := { op, fmt := f, types := t, a, b, c }

/-- The opcode table of R97. -/
def opRows : List OpRow :=
  [rowA 0x01 .all, rowF 0x02 .l .all false false false, rowF 0x03 .cvt .all true false false, rowAB 0x04 .all,
   rowF 0x10 .m .all true false false, rowF 0x11 .m .all true false false, rowF 0x12 .m .all true false false,
   rowAB 0x20 .num, rowAB 0x21 .num, rowAB 0x22 .num, rowAB 0x23 .num, rowAB 0x24 .int, rowA 0x25 .num,
   rowA 0x26 .num, rowAB 0x27 .num, rowAB 0x28 .num, rowAB 0x29 .int, rowAB 0x2A .int, rowA 0x2B .float,
   rowI 0x2C, rowA 0x2D .float, rowAB 0x2E .num] ++
  [rowAB 0x30 .bits, rowAB 0x31 .bits, rowAB 0x32 .bits, rowA 0x33 .bits, rowAB 0x34 .int, rowAB 0x35 .int,
   rowI 0x36, rowI 0x37, rowAB 0x38 .int, rowAB 0x39 .int, rowI 0x3A, rowI 0x3B, rowI 0x3C, rowAB 0x40 .all,
   rowAB 0x41 .all, rowAB 0x42 .num, rowAB 0x43 .num, rowAB 0x44 .num, rowAB 0x45 .num, rowA 0x46 .float] ++
  [rowF 0x50 .b .noType false false false, rowF 0x51 .b .noType true false false, rowF 0x52 .b .noType true false false,
   rowF 0x53 .b .noType true false false, rowF 0x54 .c .noType false false false, rowF 0x55 .n .noType false false false,
   rowF 0x56 .n .noType false false false, rowF 0x57 .i .noType false false false] ++
  [rowF 0x60 .k .noType true true false, rowF 0x61 .k .noType true true false, rowF 0x62 .k .noType true true false,
   rowF 0x63 .k .noType true true true, rowF 0x64 .k .noType true true true, rowF 0x65 .k .noType true true true,
   rowF 0x66 .k .noType true false false, rowF 0x67 .k .noType true false false, rowF 0x70 .n .noType false false false,
   rowF 0x71 .l .u32 false false false, rowF 0x72 .l .time64 false false false]

structure XWord where
  /-- A decoded instruction: its word index, OP, words, branch target, called function, and K-format offset. -/
  at0 : Nat
  op : Nat
  words : Nat
  target : Option Nat
  call : Option Nat
  inst : Option Nat
deriving DecidableEq, Repr

/-- The words of an LDI by its type code. -/
def ldiLits (t : Nat) : Nat := match xOfCode t with
  | some ty => if xWidth ty ≤ 32 then 1 else 2
  | none => 1

/-- Decodes the instruction at word `p` of the code, checking every field of R96 to R98 and R101. -/
def decodeX (code : List (BitVec 32)) (funcs p : Nat) : Option XWord :=
  let w := ((code[p]?).getD 0).toNat
  let lit := ((code[p + 1]?).getD 0).toNat
  let op := w / 2 ^ 24
  let t := field w 23 20
  let x : XWord := { at0 := p, op, words := 1, target := none, call := none, inst := none }
  match opRows.find? (fun r => r.op = op) with
  | none => none
  | some r =>
    match r.fmt with
    | .r => if r.types.has t ∧ field w 1 0 = 0 ∧ (r.b ∨ field w 7 2 = 0) then some x else none
    | .cvt => if r.types.has t ∧ field w 7 4 ≤ 11 ∧ field w 3 0 = 0 then some x else none
    | .i =>
      if op = 0x57 then (if field w 23 8 = 0 then some x else none)
      else if r.types.has t ∧ (op < 0x3A ∨ field w 7 0 < ((xOfCode t).map xWidth).getD 0) then some x else none
    | .l =>
      if r.types.has t ∧ field w 13 0 = 0 then some { x with words := if op = 0x02 then 1 + ldiLits t else 1 } else none
    | .m =>
      let sp := field w 7 6
      if r.types.has t ∧ field w 4 0 = 0 ∧ (w.testBit 5 ∨ field w 13 8 = 0) ∧ (op ≠ 0x11 ∨ sp = 1) ∧ (op ≠ 0x12 ∨ sp = 3)
      then some { x with words := 2 } else none
    | .b =>
      let words : Nat := if op = 0x53 then 2 else 1
      let target := (p + words : Int) + sxt 18 (field w 17 0)
      let fwd := decide (0 ≤ sxt 18 (field w 17 0))
      if (r.a ∨ field w 23 18 = 0) ∧ 0 ≤ target ∧
          (if op = 0x53 then target ≤ p ∧ 1 ≤ lit ∧ lit ≤ 16777216 else fwd = true) then
        some { x with words, target := some target.toNat }
      else none
    | .c => if field w 23 0 < funcs then some { x with call := some (field w 23 0) } else none
    | .k =>
      if (r.b ∨ field w 11 6 = 0) ∧ (r.c ∨ field w 5 0 = 0) then some { x with words := 2, inst := some lit } else none
    | .n => if field w 23 0 = 0 then some x else none

/-- Decodes a function's words from `p` up to `stop`; none where a word does not decode. -/
def decodeFn (code : List (BitVec 32)) (funcs : Nat) : Nat → Nat → Nat → Option (List XWord)
  | 0, p, stop => if p = stop then some [] else none
  | n + 1, p, stop =>
    if p = stop then some []
    else match decodeX code funcs p with
      | some x => if p + x.words ≤ stop then (decodeFn code funcs n (p + x.words) stop).map (x :: ·) else none
      | none => none

/-- The branch and loop structure of R104 in one function. -/
def loopsOk (xs : List XWord) : Bool :=
  let starts := xs.map (·.at0)
  let branches := xs.filterMap (fun x => x.target.map (fun t => (x.at0, t)))
  let ranges := (xs.filter (fun x => x.op = 0x53)).filterMap (fun x => x.target.map (fun t => (t, x.at0)))
  branches.all (fun b => starts.contains b.2) &&
  (ranges.all (fun r => branches.all (fun b =>
      decide (b.2 < r.1) || (decide (r.2 < b.2) || (decide (r.1 ≤ b.1) && decide (b.1 ≤ r.2))))) &&
   ranges.all (fun r => ranges.all (fun q =>
      decide (r.2 < q.1) || (decide (q.2 < r.1) || ((decide (r.1 ≤ q.1) && decide (q.2 ≤ r.2)) ||
        (decide (q.1 ≤ r.1) && decide (r.2 ≤ q.2)))))))

/-- Does the last instruction of a function end it (R110)? -/
def endsOk (xs : List XWord) : Bool :=
  match xs.getLast? with
  | some x => x.op = 0x55 || (x.op = 0x56 || x.op = 0x57)
  | none => false

/-- The callees of a set of functions. -/
def callees (fs : List (List XWord)) (l : List Nat) : List Nat :=
  (l.flatMap (fun f => ((fs[f]?).getD []).filterMap (·.call))).eraseDups

/-- The functions that stand at the end of a call chain of `n` more frames. -/
def chainLevel (fs : List (List XWord)) : Nat → List Nat → List Nat
  | 0, l => l
  | n + 1, l => chainLevel fs n (callees fs l)

/-- The functions reached from a set by calls, in at most `n` rounds. -/
def reachFrom (fs : List (List XWord)) : Nat → List Nat → List Nat
  | 0, l => l
  | n + 1, l => reachFrom fs n (l ++ callees fs l).eraseDups

structure CodeSect where
  /-- A checked CODE section: functions, words, and each function's instructions. -/
  funcs : List (Nat × Nat)
  code : List (BitVec 32)
  xs : List (List XWord)
deriving DecidableEq, Repr

/-- Reason 0x04: the CODE section. -/
def checkCode (b : Bytes) : Load CodeSect :=
  let fc := leAt b 0 4
  let wc := leAt b 4 4
  let funcs := tabulate fc (fun k => (leAt b (8 + 8 * k) 4, leAt b (12 + 8 * k) 4))
  let code := tabulate wc (fun k => BitVec.ofNat 32 (leAt b (8 + 8 * fc + 4 * k) 4))
  let covered := (funcs.map (·.2)).foldl (· + ·) 0
  let disjoint := (funcs.mergeSort (fun x y => decide (x.1 ≤ y.1))).foldl (fun (acc : Bool × Nat) f =>
    (acc.1 && decide (acc.2 ≤ f.1), f.1 + f.2)) (true, 0)
  if fc = 0 ∨ 4096 < fc ∨ 524288 < wc ∨ b.length ≠ 8 + 8 * fc + 4 * wc ∨ covered ≠ wc ∨ disjoint.1 = false ∨ wc < disjoint.2 ∨
      funcs.any (fun f => decide (131071 < f.2)) then .error 4
  else
    match funcs.mapM (fun f => decodeFn code fc f.2 f.1 (f.1 + f.2)) with
    | none => .error 4
    | some xs =>
      if xs.all (fun f => loopsOk f && endsOk f) ∧ (chainLevel xs 32 (List.range fc)).isEmpty then .ok { funcs, code, xs }
      else .error 4

/-! ### CONST (R111) -/

/-- One parameter entry. -/
def readParam (b : Bytes) : ParamDef :=
  { name := b.take 24, offset := leAt b 0x18 4, ty := leAt b 0x1C 1, cls := leAt b 0x1D 1
    min := BitVec.ofNat 64 (leAt b 0x20 8), max := BitVec.ofNat 64 (leAt b 0x28 8) }

/-- A parameter's type. -/
def ParamDef.xty (p : ParamDef) : XType := (xOfCode p.ty).getD .u64

/-- Does a value lie between two others in a type? A NaN never does. -/
def between (t : XType) (lo v hi : Word) : Bool := isTrue (opLe t lo v) && isTrue (opLe t v hi)

/-- Reason 0x05: the CONST section. -/
def checkConst (b : Bytes) : Load (List ParamDef × Bytes) :=
  let n := leAt b 0 4
  let dl := leAt b 4 4
  let raw := tabulate n (fun k => slice b (8 + 48 * k) 48)
  let ps := raw.map readParam
  let data := slice b (8 + 48 * n) dl
  let ok (p : ParamDef) : Bool :=
    decide (p.ty ≤ 11) && (decide (p.cls = 1 ∨ p.cls = 2) && (decide (p.offset % xSize p.xty = 0) &&
      (decide (p.offset + xSize p.xty ≤ dl) && (isTrue (opLe p.xty p.min p.max) &&
        between p.xty p.min (BitVec.ofNat 64 (leAt data p.offset (xSize p.xty))) p.max))))
  if 4096 < n ∨ 1048576 < dl ∨ b.length ≠ 8 + 48 * n + dl ∨ ps.all ok = false ∨ decide ((ps.map (·.name)).Nodup) = false ∨
      raw.all (fun e => leAt e 0x1E 2 = 0) = false then .error 5
  else .ok (ps, data)

/-! ### INSTANCE (R112) -/

/-- The size of a block instance by its kind (R108). -/
def blockSizeOk (k size : Nat) : Bool :=
  if k = 1 ∨ k = 2 ∨ k = 3 then size = 16
  else if 4 ≤ k ∧ k ≤ 8 then size = 8
  else k = 9 && (decide (8 ≤ size) && decide (size ≤ 65536))

/-- The block kind that a K-format opcode needs. -/
def kindOfOp (op : Nat) : Nat := op - 0x5F

structure TaskRow where
  /-- What the INSTANCE and TASKS checks share: a task and its ENTRY. -/
  task : Nat
  entryFn : Nat
deriving DecidableEq, Repr

/-- The K-format words that a task reaches. -/
def reachedK (xs : List (List XWord)) (fn : Nat) : List XWord :=
  (reachFrom xs 32 [fn]).flatMap (fun f => ((xs[f]?).getD []).filter (fun x => x.inst.isSome))

/-- Do ranges (owner, start, length) overlap nowhere? -/
def rangesApart : List (Nat × Nat × Nat) → Bool
  | [] => true
  | x :: r => r.all (fun y => decide (x.1 ≠ y.1) || (decide (x.2.1 + x.2.2 ≤ y.2.1) || decide (y.2.1 + y.2.2 ≤ x.2.1))) &&
      rangesApart r

/-- The initial data of the segments, from offset `off` on. -/
def segInits (b : Bytes) : Nat → List (Nat × Nat × Nat × Nat) → List SegDef
  | _, [] => []
  | off, (t, o, z, n) :: r => { task := t, offset := o, size := z, init := slice b off n } :: segInits b (off + pad8 n) r

/-- Reason 0x06: the INSTANCE section and the K-format words. -/
def checkInstance (taskCount : Nat) (tasks : List TaskRow) (xs : List (List XWord)) (b : Bytes) : Load (List SegDef × List BlockDef) :=
  let sc := leAt b 0 2
  let bc := leAt b 2 2
  let heads := tabulate sc (fun k => let e := slice b (8 + 16 * k) 16; (leAt e 0 1, leAt e 4 4, leAt e 8 4, leAt e 12 4))
  let blocks : List BlockDef := tabulate bc (fun k =>
    let e := slice b (8 + 16 * sc + 16 * k) 16
    ({ id := BitVec.ofNat 32 (leAt e 0 4), kind := leAt e 4 1, task := leAt e 5 1, tag := leAt e 6 2, offset := leAt e 8 4, size := leAt e 12 4 } : BlockDef))
  let base := 8 + 16 * sc + 16 * bc
  let dataLen := (heads.map (fun h => pad8 h.2.2.2)).foldl (· + ·) 0
  let segs := segInits b base heads
  let segOk (h : Nat × Nat × Nat × Nat) : Bool := decide (h.2.1 % 64 = 0) && (decide (0x20000 ≤ h.2.1) &&
    (decide (h.2.1 + h.2.2.1 ≤ 0x1FF0000) && decide (h.2.2.2 ≤ h.2.2.1)))
  let blockOk (d : BlockDef) : Bool := decide (d.offset % 8 = 0) && (blockSizeOk d.kind d.size &&
    ((d.kind == 9 || d.tag == 0) && segs.any (fun g => g.task = d.task && decide (d.offset + d.size ≤ g.size))))
  let wordOk (t : TaskRow) (x : XWord) : Bool := blocks.any (fun d =>
    d.task = t.task && (d.kind = kindOfOp x.op && some d.offset == x.inst))
  let taskOk (t : TaskRow) : Bool :=
    let ks := reachedK xs t.entryFn
    ks.all (wordOk t) && decide ((ks.filterMap (·.inst)).Nodup)
  if sc ≠ taskCount ∨ 32768 < bc ∨ leAt b 4 4 ≠ 0 ∨ b.length ≠ base + dataLen ∨ heads.map (·.1) ≠ tasks.map (·.task) ∨
      (tabulate sc (fun k => zeroAt b (8 + 16 * k + 1) 3)).all id = false ∨ heads.all segOk = false ∨
      rangesApart (heads.map (fun h => (0, h.2.1, h.2.2.1))) = false ∨ blocks.all blockOk = false ∨
      rangesApart (blocks.map (fun d => (d.task, d.offset, d.size))) = false ∨
      decide ((blocks.map (·.id)).Nodup) = false ∨ tasks.all taskOk = false then .error 6
  else .ok (segs, blocks)

/-! ### TASKS (R113, R62, R72, R18) -/

/-- The numbers of a read or write list. -/
def listAt (b : Bytes) (off n : Nat) : List Nat := tabulate n (fun k => leAt b (off + 2 * k) 2)

/-- One task entry. -/
def readTask (b e : Bytes) : TaskDef :=
  { task := Fin.ofNat 16 (leAt e 0 1), core := Fin.ofNat 4 (leAt e 1 1), priority := leAt e 2 1
    splitLane := Fin.ofNat 3 (leAt e 3 1), fallback := if leAt e 4 1 < 3 then some (Fin.ofNat 3 (leAt e 4 1)) else none
    period := leAt e 8 2, phase := leAt e 10 2, entryFn := leAt e 12 2, bucketBudget := leAt e 14 2, worstSteps := leAt e 0x10 4
    stepBudget := leAt e 0x14 4, localSize := leAt e 0x18 4
    reads := listAt b (leAt e 0x20 4) (leAt e 0x1C 2), writes := listAt b (leAt e 0x24 4) (leAt e 0x1E 2) }

/-- The fields of a task entry in their ranges. -/
def taskFieldsOk (funcs len : Nat) (e : Bytes) : Bool :=
  let bb := leAt e 14 2
  decide (leAt e 0 1 ≤ 15) && (decide (leAt e 1 1 ≤ 3) && (decide (leAt e 2 1 ≤ 15) && (decide (leAt e 3 1 ≤ 2) &&
  (decide (leAt e 4 1 ≤ 2 ∨ leAt e 4 1 = 255) && (zeroAt e 5 3 && (decide (1 ≤ leAt e 8 2 ∧ leAt e 8 2 ≤ 1024) &&
  (decide (leAt e 10 2 < leAt e 8 2) && (decide (leAt e 12 2 < funcs) &&
  (decide (bb = 0 ∨ (64 ≤ bb ∧ bb ≤ 16384 ∧ bb % 8 = 0)) && (decide (leAt e 0x14 4 = (5 * leAt e 0x10 4 + 3) / 4) &&
  (decide (leAt e 0x18 4 ≤ 65536) && (decide (leAt e 0x20 4 + 2 * leAt e 0x1C 2 ≤ len) &&
  (decide (leAt e 0x24 4 + 2 * leAt e 0x1E 2 ≤ len) && zeroAt e 0x28 8)))))))))))))

/-- The demand of a task on its core in steps (R72). -/
def demandOf (ts : List TaskDef) (t : TaskDef) : Nat :=
  ts.foldl (fun d h => if h.core = t.core ∧ h.task ≠ t.task ∧
      (t.priority < h.priority ∨ (h.priority = t.priority ∧ h.task < t.task)) then
    d + h.stepBudget * ((t.period + (h.period - 1)) / h.period) else d) t.stepBudget

/-- The check of R72 for every task, with an allowance in µs taken off each period (160 µs plus Λ in a pair, R350). -/
def budgetsFit (ts : List TaskDef) (tbCode off stagger : Nat) : Bool :=
  ts.all (fun t => decide (1000 * demandOf ts t + 400000 * (off + 2 * stagger) ≤ 400 * t.period * tbNs tbCode))

/-- Can two tasks be due in one basic cycle? -/
def meets (a b : TaskDef) : Bool := decide (a.phase % Nat.gcd a.period b.period = b.phase % Nat.gcd a.period b.period)

/-- The Bucket bytes of a task. -/
def declaredBucket (t : TaskDef) : Nat := if t.bucketBudget = 0 then 16384 else t.bucketBudget

/-- The largest sum of Bucket budgets due in any one basic cycle (R18): tasks that meet in pairs meet together. -/
def worstBuckets : List TaskDef → List TaskDef → Nat
  | [], chosen => (chosen.map declaredBucket).foldl (· + ·) 0
  | t :: r, chosen =>
    if chosen.all (fun c => meets c t) then max (worstBuckets r (t :: chosen)) (worstBuckets r chosen)
    else worstBuckets r chosen

/-- Is a placement legal for an image (R62): an index TRIPLE, and every index with a VITAL writer TRIPLE? -/
def placementOk (ts : List TaskDef) (sigs : List SigEntry) (p : BitVec 4) : Bool :=
  p != 0 && ts.all (fun t => p.getLsbD t.core.val ||
    !(t.writes.any (fun w => sigs.any (fun e => e.n = w && e.vital))))

structure TaskSect where
  /-- A checked TASKS section. -/
  placement : BitVec 4
  maxStagger : Nat
  tasks : List TaskDef
deriving DecidableEq, Repr

/-- Reason 0x07: the TASKS section. -/
def checkTasks (tbCode taskCount funcs : Nat) (sigs : List SigEntry) (b : Bytes) : Load TaskSect :=
  let n := leAt b 0 1
  let raw := tabulate n (fun k => slice b (4 + 48 * k) 48)
  let ts := raw.map (readTask b)
  let ms := leAt b 2 2
  let p := BitVec.ofNat 4 (leAt b 1 1)
  let nums := raw.map (fun e => leAt e 0 1)
  if n ≠ taskCount ∨ n = 0 ∨ 16 < n ∨ 15 < leAt b 1 1 ∨ (if tbCode = 0 then 100 else 200) < ms ∨ b.length < 4 + 48 * n ∨
      raw.all (taskFieldsOk funcs b.length) = false ∨ decide (nums.Pairwise (· < ·)) = false ∨
      budgetsFit ts tbCode 160 ms = false ∨ 65536 < worstBuckets ts [] ∨ placementOk ts sigs p = false ∨
      sigs.all (fun e => !e.inImage || (decide (0x15C0 ≤ e.offset) &&
        decide (e.offset + e.size ≤ 1024 * (if tbCode = 0 then 16 else if tbCode = 2 then 64 else 32)))) = false then .error 7
  else .ok { placement := p, maxStagger := ms, tasks := ts }

/-! ### SIGNALS (R86, R87, R114) -/

/-- One entry of the SIGNALS section. -/
def readSig (b : Bytes) : SigEntry :=
  { n := leAt b 0 2, entry := BitVec.ofNat 128 (beAt b 8 16), init := BitVec.ofNat 64 (leAt b 24 8) }

/-- Reads the SIGNALS section without judging it. -/
def readSigs (b : Bytes) : List SigEntry := tabulate (leAt b 0 2) (fun k => readSig (slice b (8 + 32 * k) 32))

/-- One owner field: a known kind, a task that lists the signal, the host with ID 0, or nothing. -/
def ownerOk (ts : List TaskDef) (placement : BitVec 4) (e : SigEntry) (o : Nat) : Bool :=
  if ownKind o = 0 then o == 0
  else if ownKind o = 1 then
    ts.any (fun t => t.task.val = ownId o && (t.writes.contains e.n && (!e.vital || placement.getLsbD t.core.val)))
  else ownKind o = 2 && ownId o == 0

/-- One directory entry (R86, R87). -/
def sigOkFor (ts : List TaskDef) (placement : BitVec 4) (e : SigEntry) : Bool :=
  decide (e.n ≤ 16383) && (decide (e.cls = 1 ∨ e.cls = 2) && (decide (e.bits 122 119 ≤ 11) && (decide (e.bits 69 64 = 0) &&
  (decide (e.offset % e.size = 0) &&
  (if e.inImage then e.owner1 == 0 && e.owner2 == 0
   else decide (e.offset + e.size ≤ 0x20000) && (ownerOk ts placement e e.owner1 && ownerOk ts placement e e.owner2))))))

/-- Reason 0x08: the SIGNALS section. -/
def checkSignals (t : TaskSect) (b : Bytes) : Load (List SigEntry) :=
  let n := leAt b 0 2
  let es := readSigs b
  let sum (l : List SigEntry) : Nat := (l.map (·.size)).foldl (· + ·) 0
  let named (d : TaskDef) : Bool := (d.reads ++ d.writes).all (fun k => es.any (fun e => e.n = k))
  let snap (d : TaskDef) : Nat := sum (es.filter (fun e => !e.inImage && d.reads.contains e.n))
  if b.length ≠ 8 + 32 * n ∨ zeroAt b 2 6 = false ∨ (tabulate n (fun k => zeroAt b (8 + 32 * k + 2) 6)).all id = false ∨
      decide ((es.map (·.n)).Pairwise (· < ·)) = false ∨ es.all (sigOkFor t.tasks t.placement) = false ∨
      rangesApart (es.map (fun e => (b2n e.inImage, e.offset, e.size))) = false ∨ 65536 < sum (es.filter (·.retained)) ∨
      t.tasks.all named = false ∨ t.tasks.any (fun d => decide (16384 < snap d)) then .error 8
  else .ok es

/-! ### The whole container (R117) -/

/-- The load checks of R117 in the order of their reasons. -/
def loadImage (keys : List (Bytes × Bytes)) (edition : BitVec 32) (b : Bytes) : Load AppImage :=
  match checkFraming b with
  | .error e => .error e
  | .ok l =>
    let h := sect l 1
    let tbCode := leAt h 6 1
    let taskCount := leAt h 7 1
    let tb := sect l 5
    let rows := tabulate (leAt tb 0 1) (fun k => ({ task := leAt tb (4 + 48 * k) 1, entryFn := leAt tb (16 + 48 * k) 2 } : TaskRow))
    match checkSignature keys b l, need 3 (decide (leAt h 8 4 ≤ edition.toNat) && decide (tbCode ≤ 2)) with
    | .error e, _ => .error e
    | _, .error e => .error e
    | .ok _, .ok _ =>
      match checkCode (sect l 2) with
      | .error e => .error e
      | .ok c =>
        match checkConst (sect l 3), checkInstance taskCount rows c.xs (sect l 4),
            checkTasks tbCode taskCount c.funcs.length (readSigs (sect l 6)) tb with
        | .error e, _, _ => .error e
        | _, .error e, _ => .error e
        | _, _, .error e => .error e
        | .ok k, .ok i, .ok t =>
          match checkSignals t (sect l 6) with
          | .error e => .error e
          | .ok es =>
            let hash := (sect l 8).take 64
            .ok { tbCode, minEdition := BitVec.ofNat 32 (leAt h 8 4), rollback := leAt h 0x10 4, funcs := c.funcs, code := c.code
                  params := k.1, constData := k.2, segs := i.1, blocks := i.2, placement := t.placement
                  maxStagger := t.maxStagger, tasks := t.tasks, signals := es, hash
                  ident := BitVec.ofNat 32 (beNat (hash.take 4)) }

/-! ### The translation digest (R119) -/

/-- The translation digest of native code for an image and an edition. -/
def translationDigest (native : List Word) (ident edition : BitVec 32) : Tally :=
  tallyWords (tallyWords tallyInit native)
    [closeC1 0x04 0 0 native.length, BitVec.ofNat 64 (ident.toNat * 2 ^ 32 + edition.toNat)]

/-- The digest that a lane's native code gives for the image in force. -/
def State.nativeDigest (s : State) (native : List Word) : Tally :=
  translationDigest native ((s.app.map (·.ident)).getD 0) s.edition

/-- The 16 bytes of a digest: P then Q, most significant byte first. -/
def tallyBytes (t : Tally) : Bytes := beBytes 8 t.p.toNat ++ beBytes 8 t.q.toNat

end Sys2Proof.Machine
end

