-- ==== Sys2Proof/Machine/Lanes.lean ====
section
/-! DEFINITION. The Reckoner's votes (R40 to R42, R55 to R59, R67), the lane states (R48 to R54), placement (R62 to R64)
and the debugger (R65, R66). -/

namespace Sys2Proof.Machine

/-! ### Tasks -/

/-- The running state of a task. -/
def State.task (s : State) (t : Fin 16) : TaskSt := (s.ctl.tasks[t.val]?).getD {}

/-- Changes the running state of a task. -/
def State.modTask (s : State) (t : Fin 16) (f : TaskSt → TaskSt) : State :=
  { s with ctl := { s.ctl with tasks := modAt t.val f s.ctl.tasks } }

/-- Is a task FAULTED on a lane? -/
def TaskSt.faulted (x : TaskSt) : Lane → Bool
  | .A => x.faultA
  | .B => x.faultB
  | .C => x.faultC

/-- Sets FAULTED of a task on a lane. -/
def TaskSt.setFault (ln : Lane) (v : Bool) (x : TaskSt) : TaskSt :=
  match ln with
  | .A => { x with faultA := v, restartA := false }
  | .B => { x with faultB := v, restartB := false }
  | .C => { x with faultC := v, restartC := false }

/-- With the cause APP-HALT the record holds IMM of the HALT (04, events). -/
def haltImm (cause : Code) (x : Option Stopped) : Bytes :=
  if cause = evAppHalt then (x.map (fun y => [BitVec.ofNat 8 y.imm])).getD [] else []

/-- A split task becomes FAULTED on a lane with a cause: SPLIT-TASK-FAULT, counted at 0x2100+n:0D (R46, R90). -/
def splitFault (ln : Lane) (t : Fin 16) (cause : Code) (s : State) : State :=
  raiseLane ln evSplitTaskFault (BitVec.ofNat 8 t.val :: BitVec.ofNat 8 (laneNo ln) :: (d16 cause.toNat ++
      haltImm cause (s.rek.stops.find? (fun x => x.lane = ln && (x.task = t && x.cause = cause)))))
    (s.modTask t (fun x => { x.setFault ln true with faults := satAdd 32 x.faults 1 }))

/-- The lane that runs a task while its index is SPLIT. -/
def TaskDef.ownLane (d : TaskDef) : Lane := laneOf d.splitLane.val

/-- The usable fallback lane of a task (R64). -/
def State.usableFallback (s : State) (d : TaskDef) : Option Lane :=
  match d.fallback with
  | some f => if s.odBool 0x2003 0x04 ∧ (s.lane (laneOf f.val)).state = .isIn then some (laneOf f.val) else none
  | none => none

/-- The tasks of the image in force. -/
def State.taskDefs (s : State) : List TaskDef := (s.app.map (·.tasks)).getD []

/-- The split tasks that no IN lane can run (R64). -/
def State.orphans (s : State) : List TaskDef :=
  s.taskDefs.filter (fun d => !s.triple d.core && ((s.task d.task).onLane = none && (s.usableFallback d).isNone))

/-! ### Tally messages (R40) -/

/-- Is a window the one that a message names? -/
def Window.named (w : Window) (core : Fin 4) (task : Fin 16) (cyc : BitVec 16) : Bool :=
  w.core = core && (w.task = task && BitVec.ofNat 16 w.opened == cyc)

/-- TALLY_MESSAGE: kept when its CRC is right and its window is open (R40). -/
def execTallyMessage (t : Nat) (ln : Lane) (core : Fin 4) (task : Fin 16) (cyc : BitVec 16) (tally : Tally) (crcOk : Bool)
    (s : State) : Out :=
  let s := s.atTime t
  let old := s.rek.kept.any (fun k => k.lane = ln && (k.core = core && (k.task = task && k.cyc == cyc)))
  .next (if (crcOk && (!old && s.rek.windows.any (fun w => w.named core task cyc))) = true then
      { s with rek := { s.rek with kept := s.rek.kept ++ [{ lane := ln, core, task, cyc, tally }] } }
    else s)

/-! ### Outcomes (R41, R42) -/

/-- The outcomes of R41, with the lane that a MAJORITY or LATE excludes. -/
inductive Outcome where | unanimous | majority (dissenter : Lane) | late (missing : Lane) | split | overrun
deriving DecidableEq, Repr

structure Poll where
  /-- An evaluated window: outcome, agreeing lanes, voted Tally. -/
  outcome : Outcome
  agree : List Lane
  tally : Tally
deriving DecidableEq, Repr

/-- The lane that an outcome excludes. -/
def Outcome.excludes : Outcome → Option Lane
  | .majority l => some l
  | .late l => some l
  | .unanimous => none
  | .split => none
  | .overrun => none

/-- Does an outcome end the deadline (R59)? -/
def Outcome.bad : Outcome → Bool
  | .split => true
  | .overrun => true
  | .unanimous => false
  | .majority _ => false
  | .late _ => false

/-- The table of R41 over the judging lanes and the Tallies they delivered. -/
def voteOn (judging : List Lane) (got : Lane → Option Tally) : Poll :=
  let delivered := judging.filter (fun l => (got l).isSome)
  if delivered.isEmpty then { outcome := .overrun, agree := [], tally := { p := 0, q := 0 } }
  else
    let same (l : Lane) : List Lane := delivered.filter (fun k => got k = got l)
    match delivered.find? (fun l => 2 ≤ (same l).length) with
    | none => { outcome := .split, agree := [], tally := { p := 0, q := 0 } }
    | some l =>
      let agree := same l
      let v := (got l).getD { p := 0, q := 0 }
      match judging.find? (fun k => !agree.contains k) with
      | none => { outcome := .unanimous, agree, tally := v }
      | some k => { outcome := if (got k).isSome then .majority k else .late k, agree, tally := v }

/-- The agreeing lanes in rotation order from lane r = (N + i) mod 3 (R42). -/
def rotation (closes core : Nat) (agree : List Lane) : List Lane :=
  ([0, 1, 2].map (fun k => laneOf (closes + core + k))).filter (fun l => agree.contains l)

/-- The judging lanes of a window: IN now and since its opening, `out` left out (R41, R51, R58). -/
def State.judging (s : State) (out : Option Lane) (w : Window) : List Lane :=
  s.inLanes.filter (fun l => w.lanes.contains l && (decide (((s.lane l).inSince.getD 0) ≤ w.opened) && decide (some l ≠ out)))

/-- The Tally that a lane delivered for a window. -/
def State.delivered (s : State) (w : Window) (ln : Lane) : Option Tally :=
  (s.rek.kept.find? (fun k => k.lane = ln && w.named k.core k.task k.cyc)).map (·.tally)

/-- Evaluates a window. -/
def State.poll (s : State) (out : Option Lane) (w : Window) : Poll := voteOn (s.judging out w) (s.delivered w)

/-- Evaluates the scrub window (R54, R55): a lane that has reported a cause delivers nothing. -/
def State.pollScrub (s : State) (out : Option Lane) : Poll :=
  voteOn (s.inLanes.filter (fun l => decide (some l ≠ out)))
    (fun l => if (s.lane l).reported.isSome then none else (s.lane l).scrub)

/-! ### The vote deadline (R41, R57 to R59, R89) -/

/-- The releases of a core that are still open at a deadline for boundary `b`. -/
def Core.lateReleases (k : Core) (b : Nat) : List Release := k.releases.filter (fun r => r.closes ≤ b)

/-- A lane abandons the releases that have not closed: cause DEADLINE (R89). -/
def abandonLane (b : Nat) (ln : Lane) (s : State) : State :=
  let cores : List (Fin 4) := [0, 1, 2, 3]
  let ends := cores.flatMap (fun c => ((s.core ln c).lateReleases b).map (fun r =>
    ({ lane := ln, task := r.task, closes := r.closes, cause := evDeadline, imm := 0 } : Stopped)))
  let s1 := cores.foldl (fun q c => q.setCore ln c { q.core ln c with
    releases := (q.core ln c).releases.filter (fun r => b < r.closes) }) s
  { s1 with rek := { s1.rek with stops := s1.rek.stops ++ ends } }

/-- Every lane that is IN abandons its late releases. -/
def abandonLate (b : Nat) (s : State) : State := s.inLanes.foldl (fun q l => abandonLane b l q) s

/-- The stop that a lane reported for a window. -/
def State.stopAt (s : State) (w : Window) (ln : Lane) : Option Stopped :=
  s.rek.stops.find? (fun x => x.lane = ln && (x.task = w.task && x.closes = w.closes))

/-- Its cause. -/
def State.stopOf (s : State) (w : Window) (ln : Lane) : Option Code := (s.stopAt w ln).map (·.cause)

/-- Windows in pour order (R43). -/
def pourOrder (ws : List Window) : List Window :=
  ws.mergeSort (fun a b => decide (a.core.val * 16 + a.task.val ≤ b.core.val * 16 + b.task.val))

/-- Counts one dissent (0x2001:0A to 0C). -/
def countDissent (ln : Lane) (r : Reckoner) : Reckoner :=
  match ln with
  | .A => { r with dissA := satAdd 64 r.dissA 1 }
  | .B => { r with dissB := satAdd 64 r.dissB 1 }
  | .C => { r with dissC := satAdd 64 r.dissC 1 }

/-- Counts the outcome of a task window (0x2001). -/
def countOutcome (o : Outcome) (r : Reckoner) : Reckoner :=
  match o with
  | .unanimous => { r with unanimous := satAdd 64 r.unanimous 1 }
  | .majority l => countDissent l { r with majority := satAdd 64 r.majority 1 }
  | .late l => countDissent l { r with late := satAdd 64 r.late 1 }
  | .split => { r with split := satAdd 64 r.split 1 }
  | .overrun => { r with split := satAdd 64 r.split 1 }

/-- Counts the scrub window. -/
def countScrub (o : Outcome) (r : Reckoner) : Reckoner :=
  let r1 := { r with scrubs := satAdd 64 r.scrubs 1, mismatches := if o = .unanimous then r.mismatches else satAdd 64 r.mismatches 1 }
  match o.excludes with
  | some l => countDissent l r1
  | none => r1

/-- The cause of an exclusion by a task window (R450). -/
def State.windowCause (s : State) (w : Window) (o : Outcome) (ln : Lane) : Code :=
  match (s.lane ln).reported with
  | some c => c
  | none => match o with
    | .majority _ => evVoteMajority
    | .late _ => (s.stopOf w ln).getD evVoteLate
    | .unanimous => evVoteLate
    | .split => evVoteLate
    | .overrun => evVoteLate

/-- The event of one decided task window (R41, R90). -/
def windowEvent (w : Window) (o : Outcome) (s : State) : State :=
  let head : Bytes := [BitVec.ofNat 8 w.core.val, BitVec.ofNat 8 w.task.val]
  let stop := lanes.findSome? (fun l => s.stopAt w l)
  let cause := (stop.map (·.cause)).getD 0
  match o with
  | .unanimous => s
  | .majority l => raise evVoteMajority (head ++ [BitVec.ofNat 8 (laneNo l)]) s
  | .late l => raise evVoteLate (head ++ (BitVec.ofNat 8 (laneNo l) ::
      (d16 (s.windowCause w o l).toNat ++ haltImm (s.windowCause w o l) (s.stopAt w l)))) s
  | .split => raise evVoteSplit (head ++ (d16 cause.toNat ++ haltImm cause stop)) s
  | .overrun => raise evOverrun (head ++ (d16 cause.toNat ++ haltImm cause stop))
      (s.modTask w.task (fun x => { x with faults := satAdd 32 x.faults 1 }))

/-- Split halves to pour at boundary `b`, or all in HOLD, in the order of R43. -/
def State.splitHalves (s : State) (b : Nat) (hold : Bool) : List (Lane × Fin 4 × Fin 16) :=
  s.inLanes.flatMap (fun l =>
    (((s.lane l).halves.filter (fun h => !s.triple h.core && (hold || decide (h.closes ≤ b)))).map
      (fun h => (l, h.core, h.task))).mergeSort (fun x y => decide (x.2.1.val * 16 + x.2.2.val ≤ y.2.1.val * 16 + y.2.2.val)))

/-- The stops of split tasks that end at `b` turn their tasks FAULTED (R90); they stay for the pour. -/
def faultSplits (b : Nat) (s : State) : State :=
  let isSplit (x : Stopped) : Bool := match s.taskDef x.task with
    | some d => !s.triple d.core
    | none => false
  let now := s.rek.stops.filter (fun x => decide (x.closes ≤ b) && isSplit x)
  let s1 := now.foldl (fun q x => if (q.task x.task).faulted x.lane then q else splitFault x.lane x.task x.cause q) s
  { s1 with rek := { s1.rek with stops := s1.rek.stops.filter (fun x => decide (b < x.closes) || isSplit x) } }

/-- A deadline that ends in SPLIT or an overrun (R59): the fabric hears of it, nothing is poured, FAULT-STOP. -/
def failDeadline (cause : Code) (deadline : Bool) (s : State) : State :=
  faultStopWith deadline cause (refresh { s with rek := { s.rek with badVerdict := true, pourDue := false } })

/-- Are all stops of the overrun windows of cause DEADLINE (R129)? -/
def State.allDeadline (s : State) (ws : List Window) : Bool :=
  s.rek.stops.all (fun x => x.cause = evDeadline || !(ws.any (fun w => w.task = x.task && w.closes = x.closes)))

/-- The windows of a deadline are decided with lane `x` excluded by a verdict, if any. -/
def decideWindows (n b : Nat) (ws : List Window) (polls : List Poll) (scrub : Poll) (x : Option Lane) (two : Bool)
    (s : State) : State :=
  let pairs := ws.zip polls
  let rek1 := countScrub scrub.outcome (polls.foldl (fun r p => countOutcome p.outcome r) s.rek)
  let s1 := pairs.foldl (fun q e => windowEvent e.1 e.2.outcome q) { s with rek := rek1 }
  let s2 := raiseIf (decide (scrub.outcome ≠ .unanimous)) evScrubMismatch
    (BitVec.ofNat 8 (n % 256) :: (match scrub.outcome.excludes with
      | some l => [BitVec.ofNat 8 (laneNo l)]
      | none => [0xFF])) s1
  let cause (l : Lane) : Code := match pairs.find? (fun e => e.2.outcome.excludes = some l) with
    | some e => s.windowCause e.1 e.2.outcome l
    | none => (s.lane l).reported.getD evScrubMismatch
  let s3 := match x with
    | some l => excludeLane l (cause l) s2
    | none => s2
  let lost := (pairs.filter (fun e => e.2.outcome = .overrun)).map (·.1)
  if two ∨ polls.any (fun p => p.outcome = .split) ∨ scrub.outcome.bad then
    failDeadline evVoteSplit false (if polls.any (fun p => p.outcome = .split) then s3 else raise evVoteSplit [] s3)
  else if lost ≠ [] then failDeadline evOverrun (s.allDeadline lost) s3
  else
    let s4 := faultSplits b s3
    let vs := pairs.map (fun e => ({ win := e.1, agree := rotation e.1.closes e.1.core.val e.2.agree, tally := e.2.tally } : Verdict))
    let hold := decide (s4.ctl.mode = .hold)
    lanesCheck { s4 with rek := { s4.rek with
      windows := s4.rek.windows.filter (fun w => !ws.contains w)
      kept := s4.rek.kept.filter (fun k => !ws.any (fun w => w.named k.core k.task k.cyc))
      verdicts := s4.rek.verdicts ++ vs, splits := s4.splitHalves b hold, pourFailed := [], pourDue := true, badVerdict := false } }

/-- The evaluation of one deadline (R41, R55, R58, R59). -/
def decideDeadline (s : State) : State :=
  let n := s.cycleNow
  let b := n + 1
  let hold := decide (s.ctl.mode = .hold)
  let s1 := if hold then s else abandonLate b s
  let ws := if hold then [] else pourOrder (s1.rek.windows.filter (fun w => w.closes ≤ b))
  let polls0 := ws.map (fun w => s1.poll none w)
  let scrub0 := s1.pollScrub none
  match (((polls0.map (·.outcome.excludes)) ++ [scrub0.outcome.excludes]).filterMap id).eraseDups with
  | [] => decideWindows n b ws polls0 scrub0 none false s1
  | [x] =>
    let again (p q : Poll) : Poll := if p.outcome.excludes = some x then p else q
    let polls := (polls0.zip ws).map (fun e => again e.1 (s1.poll (some x) e.2))
    decideWindows n b ws polls (again scrub0 (s1.pollScrub (some x))) (some x) false s1
  | _ => decideWindows n b ws polls0 scrub0 none true s1

/-- The Reckoner's instances or self-tests disagree: module LOCKOUT, no pour (R56). -/
def reckonerDisagree (s : State) : State :=
  lockout 1 (raiseFab evReckonerDisagree [] { s with rek := { s.rek with pourDue := false, verdicts := [], splits := [] } })

/-- VOTE_DEADLINE at T_b − 100 µs (R41): the self-tests of R57, the verdicts of both instances, the windows. -/
def execVoteDeadline (t : Nat) (agree selfTestOk : Bool) (s : State) : Out :=
  let s := s.atTime t
  .next (if s.ctl.mode.seals = true ∧ s.tb ≤ s.intoCycle + 100000 ∧ s.cis.poured = false ∧ s.rek.pourDue = false then
      let s1 := { s with rek := { s.rek with selfTests := satAdd 64 s.rek.selfTests 2 } }
      if agree && selfTestOk then decideDeadline s1 else reckonerDisagree s1
    else s)

/-- VERDICT_TIMEOUT: no verdicts within 5 µs of the deadline (R56). -/
def execVerdictTimeout (t : Nat) (s : State) : Out :=
  let s := s.atTime t
  .next (if s.ctl.mode.seals = true ∧ s.tb ≤ s.intoCycle + 95000 ∧ s.cis.poured = false ∧ s.rek.pourDue = false then
      reckonerDisagree s
    else s)

/-- A window of HOLD is decided (R67). -/
def decideHold (w : Window) (s : State) : State :=
  let p := s.poll none w
  let s1 := windowEvent w p.outcome { s with rek := countOutcome p.outcome s.rek }
  let s2 := match p.outcome.excludes with
    | some l => excludeLane l (s.windowCause w p.outcome l) s1
    | none => s1
  if p.outcome.bad then failDeadline evVoteSplit false s2
  else lanesCheck { s2 with rek := { s2.rek with
    windows := s2.rek.windows.filter (fun v => v ≠ w)
    kept := s2.rek.kept.filter (fun k => !w.named k.core k.task k.cyc)
    verdicts := s2.rek.verdicts ++ [{ win := w, agree := rotation w.closes w.core.val p.agree, tally := p.tally }] } }

/-- HOLD_VOTE: the oldest window of a task for which every IN lane has delivered (R67). -/
def execHoldVote (t : Nat) (core : Fin 4) (task : Fin 16) (s : State) : Out :=
  let s := s.atTime t
  let ready (w : Window) : Bool := w.core = core && (w.task = task &&
    ((s.judging none w).all (fun l => (s.delivered w l).isSome) && !(s.judging none w).isEmpty))
  .next (if s.ctl.mode = .hold then
      match s.rek.windows.find? ready with
      | some w => decideHold w s
      | none => s
    else s)

/-! ### Lane faults and resets (R48, R450) -/

/-- LANE_ECC_ERROR: the lane withholds its Tallies and reports LANE-ECC. -/
def execLaneEccError (t : Nat) (ln : Lane) (s : State) : Out := .next (reportCause ln evLaneEcc (s.atTime t))

/-- LANE_TRAP: the lane withholds its Tallies and reports LANE-TRAP. -/
def execLaneTrap (t : Nat) (ln : Lane) (s : State) : Out := .next (reportCause ln evLaneTrap (s.atTime t))

/-- Does native code give the voted translation digest (R50)? -/
def State.nativeOk (s : State) (native : List Word) : Bool := s.app.isSome && s.nativeDigest native = s.ctl.digest

/-- A lane of a warm restart has reset (bits 0 to 2) and passed its native code check (bits 3 to 5). -/
def warmMark (ln : Lane) (ok : Bool) (s : State) : State :=
  match s.ctl.warmRestart with
  | some m =>
    let a := if m.testBit (laneNo ln) then m else m + 2 ^ laneNo ln
    let b := if ok && !a.testBit (3 + laneNo ln) then a + 2 ^ (3 + laneNo ln) else a
    { s with ctl := { s.ctl with warmRestart := some b } }
  | none => s

/-- LANE_RESET_COMPLETE: an excluded lane may leave at the next boundary (R48); in a warm restart the lane's native code is
checked (R131). -/
def execLaneResetComplete (t : Nat) (ln : Lane) (native : List Word) (s : State) : Out :=
  let s := s.atTime t
  let s1 := warmMark ln (s.nativeOk native) s
  .next (if (s1.lane ln).state = .excluded then s1.modLane ln (fun l => { l with resetDone := true, native })
    else if s1.ctl.warmRestart.isSome then s1.modLane ln (fun l => { l with native })
    else s1)

/-- Entries of a lane into REINTEGRATING within 60 minutes (R52). -/
def State.reintCount (s : State) (ln : Lane) : Nat :=
  ((s.lane ln).reintegrations.filter (fun x => s.time.now < x + 3600000000000)).length

/-- A lane enters REINTEGRATING: step 1 of R50 checks its native code at once. -/
def enterReint (ln : Lane) (s : State) : State :=
  raiseLane ln evLaneReintegrating [BitVec.ofNat 8 (laneNo ln)] (s.modLane ln (fun l => { l with
    state := .reintegrating, commanded := false, resetDone := false, verified := false, copy := []
    reintegrations := s.time.now :: l.reintegrations.filter (fun x => s.time.now < x + 3600000000000)
    copySince := if s.nativeOk l.native then some s.time.now else none }))

/-- What a boundary does to one lane (R48, R52). -/
def laneBoundary (ln : Lane) (s : State) : State :=
  let l := s.lane ln
  if l.state = .excluded ∧ l.resetDone = true then
    (if l.commanded = true ∨ s.reintCount ln < s.odNat 0x2000 0x04 then enterReint ln s else laneToOut ln l.cause s)
  else if l.state = .out ∧ l.commanded = true then enterReint ln s
  else s

/-- A reintegration fails: EXCLUDED with cause REINTEGRATION-FAILED (R48). -/
def reintFailed (ln : Lane) (s : State) : State :=
  excludeLane ln evReintegrationFailed (raiseLane ln evReintegrationFailed [BitVec.ofNat 8 (laneNo ln)] s)

/-- The SIGNAL and INSTANCE regions of the store (R50, R54). -/
def State.copyRegions (s : State) : Cells := s.cis.mem.filter (fun c => c.1 < 0x1FF0000)

/-- REINTEGRATION_COPY_COMPLETE (R50): the digests agree when the copy is intact. -/
def execReintegrationCopyComplete (t : Nat) (ln : Lane) (intact : Bool) (s : State) : Out :=
  let s := s.atTime t
  let l := s.lane ln
  .next (match l.copySince with
    | some since =>
      if l.state = .reintegrating ∧ l.verified = false then
        (if intact ∧ s.time.now ≤ since + 250000000 then
          s.modLane ln (fun l => { l with verified := true, copy := s.copyRegions })
        else reintFailed ln s)
      else s
    | none => s)

/-- REINTEGRATION_TIMEOUT (R48). -/
def execReintegrationTimeout (t : Nat) (ln : Lane) (s : State) : Out :=
  let s := s.atTime t
  let l := s.lane ln
  .next (match l.copySince with
    | some since => if l.state = .reintegrating ∧ l.verified = false ∧ since + 250000000 ≤ s.time.now then reintFailed ln s else s
    | none => s)

/-- The scrub Tally of a read copy in cycle `n` (R54). -/
def scrubTally (copy : Cells) (n : Nat) : Tally :=
  let k := n % 256
  tallyWords (tallyWords tallyInit (tabulate 16384 (fun i => BitVec.ofNat 64 (cNum 8 (131072 * k + 8 * i) copy))))
    [closeC1 0x03 0 0 k, BitVec.ofNat 64 n]

/-- LANE_REJOIN (R51, R61): a verified lane enters IN at a macro-cycle start, before the image is released. -/
def execLaneRejoin (t : Nat) (ln : Lane) (s : State) : Out :=
  let s := s.atTime t
  let n := s.cycleNow
  let l := s.lane ln
  .next (if l.state = .reintegrating ∧ l.verified = true ∧ s.macroStart n = true ∧ l.rejoinFrom ≤ n ∧ s.ctl.imageReady = false ∧
      s.ctl.mode.seals = true then
      let like := match s.inLanes with
        | k :: _ => s.lane k
        | [] => l
      let s1 := s.modLane ln (fun l => { l with
        state := .isIn, inSince := some n, verified := false, copySince := none, reported := none, standpipe := [], drunk := none
        params := like.params, paramsNew := like.paramsNew, image := like.image, vitalTables := like.vitalTables
        scrub := some (scrubTally l.copy n) })
      let back := s.taskDefs.filter (fun d => !s.triple d.core && (d.ownLane = ln && (s.task d.task).onLane = none))
      raiseLane ln evLaneIn [BitVec.ofNat 8 (laneNo ln)]
        (back.foldl (fun q d => q.modTask d.task (fun x => { x with onLane := some ln })) s1)
    else s)

/-! ### Placement and fallback (R62 to R64) -/

/-- The lane on which a split task starts: its own, or its usable fallback lane. -/
def State.startLane (s : State) (d : TaskDef) : Option Lane :=
  if (s.lane d.ownLane).state = .isIn then some d.ownLane else s.usableFallback d

/-- Releases and windows of the moved indices end (R63). -/
def dropMoved (moved : BitVec 4) (s : State) : State :=
  let cores := ([0, 1, 2, 3] : List (Fin 4)).filter (fun c => moved.getLsbD c.val)
  let s1 := s.modLanes (fun l => { cores.foldl (fun q c => q.setCore c (q.core c).idle) l with
    halves := l.halves.filter (fun h => !moved.getLsbD h.core.val) })
  { s1 with rek := { s1.rek with windows := s1.rek.windows.filter (fun w => !moved.getLsbD w.core.val) } }

/-- PLACEMENT_MOVE: at m1 the moved tasks stop (R63). -/
def execPlacementMove (t : Nat) (s : State) : Out :=
  let s := s.atTime t
  let n := s.cycleNow
  .next (if s.ctl.moveState = 1 ∧ s.ctl.moveAt ≤ n ∧ s.macroStart n = true ∧ s.ctl.imageReady = false then
      let moved := s.ctl.placement ^^^ s.ctl.requested.setWidth 4
      dropMoved moved { s with ctl := { s.ctl with moveState := 2, moved, moveAt := n } }
    else s)

/-- PLACEMENT_RESUME: at m2 the moved tasks run under the new placement (R63). -/
def execPlacementResume (t : Nat) (s : State) : Out :=
  let s := s.atTime t
  let n := s.cycleNow
  .next (if s.ctl.moveState = 2 ∧ s.ctl.moveAt + s.macroM ≤ n ∧ s.macroStart n = true ∧ s.ctl.imageReady = false then
      let moved := s.ctl.moved
      let s1 := { s with ctl := { s.ctl with placement := s.ctl.requested.setWidth 4, moveState := 0, moved := 0 } }
      let mine := s1.taskDefs.filter (fun d => moved.getLsbD d.core.val)
      let s2 := mine.foldl (fun q d => q.modTask d.task (fun x => { x with
        onLane := if q.triple d.core then none else q.startLane d, faultA := false, faultB := false, faultC := false })) s1
      raise evPlacementChanged [s.ctl.requested] s2
    else s)

/-- FALLBACK_MOVE: at a macro-cycle start a split task moves to or from its fallback core (R64). -/
def execFallbackMove (t : Nat) (task : Fin 16) (s : State) : Out :=
  let s := s.atTime t
  .next (match s.taskDef task with
    | none => s
    | some d =>
      let cur := (s.task task).onLane
      let dest := s.startLane d
      if s.triple d.core ∨ s.macroStart s.cycleNow = false ∨ s.ctl.imageReady = true ∨ dest = cur ∨ dest = none then s
      else
        let s1 := s.modTask task (fun x => { x with onLane := dest })
        let other := d.fallback.map (fun f => laneOf f.val)
        if dest = other ∨ cur = other then
          raise evFallbackApplied [BitVec.ofNat 8 task.val, BitVec.ofNat 8 ((dest.map laneNo).getD 0)] s1
        else s1)

/-! ### The debugger (R66) -/

/-- The cores. -/
def coreNos : List (Fin 4) := [0, 1, 2, 3]

/-- The step count of lane A: that of the running release of its lowest core that runs one. -/
def State.laneASteps (s : State) : Nat := ((coreNos.findSome? (fun c => s.running .A c)).map (·.steps)).getD 0

/-- Logs one debugger action with lane A's step count (0x2000:20). -/
def logDebug (action : Nat) (s : State) : State :=
  { s with ctl := { s.ctl with debugLog := s.ctl.debugLog ++ [(BitVec.ofNat 32 action, BitVec.ofNat 32 s.laneASteps, s.cycleNow)] } }

/-- May the debugger act: HOLD with a debugger attached? -/
def State.debugging (s : State) : Bool := s.ctl.mode = .hold && s.ctl.debugger

/-- DEBUG_BREAKPOINT. -/
def execDebugBreakpoint (t : Nat) (pc : Nat) (s : State) : Out :=
  let s := s.atTime t
  .next (if s.debugging then
      logDebug 1 { s with ctl := { s.ctl with breakpoints := s.ctl.breakpoints.filter (· ≠ pc) ++ [pc] } }
    else s)

/-- DEBUG_RUN. -/
def execDebugRun (t : Nat) (s : State) : Out :=
  let s := s.atTime t
  .next (if s.debugging then logDebug 2 { s with ctl := { s.ctl with debugRun := none } } else s)

/-- DEBUG_STEP: every lane runs up to the same step count. -/
def execDebugStep (t : Nat) (n : BitVec 32) (s : State) : Out :=
  let s := s.atTime t
  .next (if s.debugging then logDebug 3 { s with ctl := { s.ctl with debugRun := some (s.laneASteps + n.toNat) } } else s)

/-- DEBUG_WRITE_VARIABLE: lane A writes at once, the others at the same step. -/
def execDebugWriteVariable (t : Nat) (core : Fin 4) (w : BWrite) (s : State) : Out :=
  let s := s.atTime t
  .next (match s.running .A core with
    | some r =>
      if s.debugging then
        let d : DebugWrite := { core, task := r.task, opened := r.opened, steps := r.steps, write := w, made := [] }
        debugReplay .A core (logDebug 4 { s with ctl := { s.ctl with debugWrites := s.ctl.debugWrites ++ [d] } })
      else s
    | none => s)

/-- BREAKPOINT_HIT: all lanes stop at the step at which lane A reached the breakpoint. -/
def execBreakpointHit (t : Nat) (pc : Nat) (s : State) : Out :=
  let s := s.atTime t
  .next (match coreNos.findSome? (fun c => (s.running .A c).filter (fun r => r.pc = pc)) with
    | some r =>
      if s.debugging ∧ s.ctl.breakpoints.contains pc then { s with ctl := { s.ctl with debugRun := some r.steps } } else s
    | none => s)

end Sys2Proof.Machine
end

