-- ==== Sys2Proof/Machine/Field.lean ====
section
/-! DEFINITION. Field groups: the filter chain and the sample (chapter 7), group link frames, banks and diagnostics. -/

namespace Sys2Proof.Machine

/-! ### Filter bank entries (R201) -/

/-- L of an entry. -/
def entL (e : BitVec 128) : Nat := field e.toNat 127 122 + 1
/-- D of an entry. -/
def entD (e : BitVec 128) : Nat := field e.toNat 121 116
/-- Is THRESH_MODE ABSOLUTE? -/
def entAbs (e : BitVec 128) : Bool := e.getLsbD 115
/-- GAIN. -/
def entGain (e : BitVec 128) : Nat := field e.toNat 111 96
/-- OFFSET. -/
def entOffset (e : BitVec 128) : Int := sxt 16 (field e.toNat 95 80)
/-- ON. -/
def entOn (e : BitVec 128) : Nat := field e.toNat 79 64
/-- OFF. -/
def entOff (e : BitVec 128) : Nat := field e.toNat 63 48
/-- FILTER_COUNT. -/
def entCount (e : BitVec 128) : Nat := field e.toNat 47 36

/-- Does an entry meet the alignment equation for A in units of 12.5 µs (R195)? -/
def aligned (e : BitVec 128) (a : Nat) : Bool := (entL e - 1) + 2 * entD e == a

/-- Are an entry's fields inside the ranges of R201? -/
def entryRange (e : BitVec 128) : Bool :=
  let lim := if entAbs e then (1, 1700) else (10, 990)
  let okT (v : Nat) : Bool := decide (lim.1 ≤ v ∧ v ≤ lim.2)
  field e.toNat 114 112 == 0 && (field e.toNat 35 0 == 0 && (okT (entOn e) && (okT (entOff e) &&
    (decide (entOff e < entOn e) && decide (1 ≤ entCount e ∧ entCount e ≤ 4000)))))

/-- Is a function one of the input channels of R195? -/
def isInputFn (f : BitVec 8) : Bool := f = 0x10 || (f = 0x11 || f = 0x12)

/-- The IN-LOOP entry of the stage 0 settings (R185), from TEST_PULSE in units of 10 µs. -/
def stage0Entry (testPulse : Nat) : BitVec 128 :=
  let n := max 10 (testPulse * 10 / 25 + 2)
  BitVec.ofNat 128 (0x8000 * 2 ^ 96 + 600 * 2 ^ 64 + 300 * 2 ^ 48 + n * 2 ^ 36)

/-- The entry in force for a channel of a group. -/
def Group.entry (q : Group) (testPulse c : Nat) : BitVec 128 :=
  if q.stage0 then stage0Entry testPulse
  else ((if q.bankB then q.entriesB else q.entriesA)[c]?).getD resetEntry

/-! ### The chain of R194 -/

/-- u(n): a sum of L codes in 0.01 V, halves rounding up. -/
def chainValue (m l : Nat) : Nat := (2 * m * 17000 + 4095 * l) / (2 * 4095 * l)

/-- VALUE(n): scaled and limited. -/
def scaleValue (u : Nat) (e : BitVec 128) : Nat :=
  (clampInt 0 65535 (((u * entGain e / 32768 : Nat) : Int) + entOffset e)).toNat

/-- Steps 1 to 3 on kept codes, newest first. -/
def chainOf (e : BitVec 128) (codes : List (BitVec 12)) : Nat :=
  scaleValue (chainValue (((codes.drop (entD e)).take (entL e)).foldl (fun a c => a + c.toNat) 0) (entL e)) e

/-- The on-threshold and the off-threshold in 0.01 V (R197). -/
def thresholds (e : BitVec 128) (vf : Nat) : Nat × Nat :=
  if entAbs e then (10 * entOn e, 10 * entOff e)
  else (max (entOn e * vf / 1000) 600, max (entOff e * vf / 1000) 300)

/-- Step 4: the level with its hysteresis. -/
def levelOf (th : Nat × Nat) (v : Nat) (old : Bool) : Bool := if th.1 ≤ v then true else if v ≤ th.2 then false else old

/-- The integrating counter and state of R199. -/
def integrate (n : Nat) (th : Nat × Nat) (v : Nat) (level : Bool) (count : Nat) (state : Bool) : Nat × Bool :=
  let k := if level && decide (th.1 ≤ v) then min n (count + 1) else if v ≤ th.2 then count - 1 else count
  (k, if k = n then true else if k = 0 then false else state)

/-- The debounce of R198: `count` is the number of samples at which the level has differed. -/
def debounce (n : Nat) (level : Bool) (count : Nat) (state : Bool) : Nat × Bool :=
  if level = state then (0, state) else if n ≤ count then (0, level) else (count + 1, state)

/-- VF over the last samples, in 0.01 V (R197). -/
def vfOf (codes : List (BitVec 12)) : Nat :=
  if codes = [] then 0 else chainValue (codes.foldl (fun a c => a + c.toNat) 0) codes.length

/-- The mean of the last 40 load currents (R218), truncated: DEDUCED, entry 59. -/
def mean40 (cur : List Nat) : Nat := ((cur.take 40).foldl (· + ·) 0) / 40

/-! ### The switches of a channel (R213, R215, R219 to R223, R342) -/

/-- What the processor path commands, DRIVE included (R342). -/
def Group.wants (q : Group) (c : Chan) : Bool := c.cmd && q.drive

/-- The positions to which the group drives the high-side and the low-side switch of a channel. -/
def Group.switches (q : Group) (k : Fin 16) : Bool × Bool :=
  let c := q.chan k
  let free := !c.tripped && !c.heldUntil.isSome
  let x := q.up && (q.rail && (q.wants c && (!c.inhibit && free)))
  if c.fn = 0x20 then (x && !c.stuckLow, x && !c.stuckHigh)
  else if c.fn = 0x21 then (x, q.up && q.lowCmd.getLsbD k.val)
  else if c.fn = 0x22 then
    let y := q.up && (q.highCmd.getLsbD k.val && free)
    (y, y)
  else (false, false)

/-- Does a switch of the channel that the group drives differ from its command, an overcurrent trip apart (R218)? -/
def Group.readbackBit (q : Group) (k : Fin 16) : Bool :=
  let c := q.chan k
  let w := q.wants c && !c.tripped
  if c.fn = 0x20 then c.highRb != w || c.lowRb != w
  else if c.fn = 0x21 then c.highRb != w
  else if c.fn = 0x22 then
    let y := q.highCmd.getLsbD k.val && !c.tripped
    c.highRb != y || c.lowRb != y
  else false

/-! ### One sample (R194, R197 to R199, R205 to R211, R218, R221 to R226) -/

structure SampleCtx where
  /-- What one channel's sample depends on beyond the channel itself. -/
  entry : BitVec 128
  vf : Nat
  vfLow : Bool
  time : Nat
  wetting : Nat
  countEdge : Nat
  gate : Nat
  chatterLimit : Nat
  threshold : Nat
  openLoadOn : Bool
  bias : Bool
  skip : Bool
  high : Bool
  low : Bool
deriving DecidableEq, Repr

/-- A run counter: one more while the condition holds, else 0. -/
def runOf (c : Bool) (n : Nat) : Nat := if c then n + 1 else 0

/-- The input side of a channel at one sample. -/
def Chan.sampleIn (x : SampleCtx) (code : BitVec 12) (c : Chan) : Chan :=
  let codes := (code :: c.codes).take 127
  let fn := c.fn
  let th := thresholds x.entry x.vf
  let v := chainOf x.entry codes
  let level := if isInputFn fn then levelOf th v c.level else false
  let st := if fn = 0x11 then integrate (entCount x.entry) th v level c.count c.state
    else if isInputFn fn then debounce (entCount x.entry) level c.count c.state else (0, false)
  let rejected := if isInputFn fn && (c.level != c.state && (level == c.state && st.2 == c.state)) then c.rejected + 1 else c.rejected
  let rv := scaleValue (chainValue code.toNat 1) x.entry
  let raw := if isInputFn fn then levelOf th rv c.raw else false
  let tap := if fn = 0x11 then integrate (entCount x.entry) th rv raw c.tapCount c.tapState else (0, false)
  let alt := runOf (isInputFn fn && raw != c.raw) c.altRun
  let quiet := if 8 ≤ alt then 0 else c.altQuiet + 1
  let ovr := isInputFn fn && (8 ≤ alt || (c.overRate && decide (quiet < 4000)))
  let seen := if raw != c.edgeLevel then c.edgeSeen + 1 else 0
  let edge := fn = 0x12 && decide (2 ≤ seen)
  let rise := edge && raw
  let fall := edge && !raw
  let counted := (rise && x.countEdge != 1) || (fall && x.countEdge != 0)
  let stamps := (if counted then (x.time - 25000) :: c.stamps else c.stamps).filter (fun s => decide (x.time < s + x.gate * 1000000))
  let timer := if raw && !c.raw then 0 else if raw && decide (3999 ≤ c.wetTimer) then 0 else c.wetTimer + 1
  let wet := if !isInputFn fn then 0
    else if x.wetting = 1 then (if 500 < chainValue code.toNat 1 then 2 else 0)
    else if x.wetting = 2 then (if raw && decide (timer < 40) then 10 else 0) else 0
  { c with
    age := c.age + 1, codes, value := v, level, state := st.2, count := st.1, rejected
    chatter := c.chatter || decide (x.chatterLimit ≠ 0 ∧ x.chatterLimit < rejected)
    tapLevel := raw, tapCount := tap.1, tapState := tap.2, rawPrev := c.raw, raw, altRun := alt, altQuiet := quiet, overRate := ovr
    edgeLevel := if edge then raw else c.edgeLevel, edgeSeen := if edge then 0 else seen, rise, fall
    edges := if counted then c.edges + 1 else c.edges, stamps
    onFor := runOf (isInputFn fn && st.2) c.onFor, wetTimer := timer, wetting := wet }

/-- The output side of a channel at one sample; a fabric command held open for 1 ms clears the trip of an
OUT-FABRIC-ONLY channel (R223). -/
def Chan.sampleOut (x : SampleCtx) (current pn : Nat) (highRb lowRb : Bool) (c : Chan) : Chan :=
  let both := highRb && lowRb
  let none2 := !highRb && !lowRb
  let hold (n m : Nat) : Nat := if x.skip then n else m
  let open22 := runOf (c.fn = 0x22 && !x.high) c.fabOpenFor
  { c with
    highRb, lowRb, current := (current :: c.current).take 40000
    overFor := runOf (decide (x.threshold < current)) c.overFor
    inrushFor := runOf (decide (1500 < current)) c.inrushFor
    limitFor := runOf (decide (2500 ≤ current)) c.limitFor
    cycles := if both && !(c.highRb && c.lowRb) then satAdd 32 c.cycles 1 else c.cycles
    stuckHighFor := hold c.stuckHighFor (runOf (highRb && !x.high) c.stuckHighFor)
    stuckLowFor := hold c.stuckLowFor (runOf (lowRb && !x.low) c.stuckLowFor)
    openAgainst := hold c.openAgainst (runOf ((x.high && !highRb) || (x.low && !lowRb)) c.openAgainst)
    lowCurFor := hold c.lowCurFor (runOf (x.openLoadOn && (both && (!x.vfLow && decide (current < 5)))) c.lowCurFor)
    curFor := hold c.curFor (runOf (decide (5 ≤ current)) c.curFor)
    biasFor := hold c.biasFor (runOf (x.bias && (none2 && (!x.vfLow && decide (x.vf < 2 * pn)))) c.biasFor)
    biasOff := hold c.biasOff (runOf (x.bias && (none2 && (!x.vfLow && decide (2 * pn < x.vf)))) c.biasOff)
    fabOpenFor := open22
    tripped := c.tripped && !(c.fn = 0x22 && decide (41 ≤ open22))
    short := c.short && !(c.fn = 0x22 && decide (41 ≤ open22)) }

/-- Is a channel's sample inside a test pulse or the 1 ms after it? -/
def State.inPulse (s : State) (ch : Nat) : Bool :=
  s.fab.pulse.any (fun p => p.1 == ch) ||
    s.fab.pulseEnd.any (fun p => p.1 == ch && decide (s.time.now < p.2 + 1000000))

/-- The sample context of a channel. -/
def State.sampleCtx (s : State) (g : Fin 8) (q : Group) (vf : Nat) (vfLow : Bool) (k : Fin 16) : SampleCtx :=
  let i := 0x3100 + 16 * g.val + k.val
  let c := q.chan k
  let sw := q.switches k
  let tp := (s.smap.map (·.testPulse)).getD 20
  { entry := q.entry tp k.val, vf, vfLow, time := s.time.now
    wetting := s.odNat i 0x03, countEdge := s.odNat i 0x06, gate := s.odNat i 0x07, chatterLimit := s.odNat i 0x05, threshold := s.odNat i 0x11
    openLoadOn := s.odBool i 0x13, bias := s.odBool i 0x14, skip := s.inPulse (16 * g.val + k.val)
    high := if c.fn = 0x22 then q.highCmd.getLsbD k.val else sw.1, low := sw.2 }

/-- One channel of a group at one sample. -/
def State.sampleChan (s : State) (g : Fin 8) (q : Group) (vf : Nat) (vfLow : Bool) (x : SampleIn) (k : Fin 16) : Chan :=
  let ctx := s.sampleCtx g q vf vfLow k
  ((q.chan k).sampleIn ctx (x.codes[k.val]?.getD 0)).sampleOut ctx (x.current[k.val]?.getD 0) (x.pnVolt[k.val]?.getD 0)
    (x.highRb.getLsbD k.val) (x.lowRb.getLsbD k.val)

/-- All channel numbers of a group. -/
def chanNos : List (Fin 16) := [0, 1, 2, 3, 4, 5, 6, 7, 8, 9, 10, 11, 12, 13, 14, 15]

/-- The edge records that a sample's channels give (R187, R188, R210): counted channels between boundary samples, state
changes of the other inputs; only channels whose edge records are on. -/
def State.newEdges (s : State) (g : Fin 8) (old new : Group) : List (Fin 16 × Bool × Nat) :=
  chanNos.filterMap (fun k =>
    let c := new.chan k
    let o := old.chan k
    if !s.odBool (0x3100 + 16 * g.val + k.val) 0x02 then none
    else if c.fn = 0x12 then
      (if (c.rise || c.fall) && s.intoCycle != 0 then some (k, c.rise, new.sampleNo - 1) else none)
    else if (c.fn = 0x10 || c.fn = 0x11) && c.state != o.state then some (k, c.state, new.sampleNo)
    else none)

/-- An edge frame of up to 16 records (R187). -/
def edgeFrame (g : Fin 8) (l : List (Fin 16 × Bool × Nat)) : Bytes :=
  let b : Bytes := [0x02, BitVec.ofNat 8 (g.val + 1), BitVec.ofNat 8 l.length, 0] ++
    l.flatMap (fun e => leBytes 4 (e.1.val * 2 ^ 28 + b2n e.2.1 * 2 ^ 27 + e.2.2 % 2 ^ 27))
  b ++ leBytes 2 (crc16 b)

/-- VF_LOW of R232: below 0.70 of nominal sets it, above 0.75 clears it. -/
def vfLowOf (vf nominal : Nat) (old : Bool) : Bool := if vf < 7 * nominal then true else if 15 * nominal < 2 * vf then false else old

/-- SAMPLE (R194): at a sample instant every channel of a group runs its chain, counter, edges and measurements. -/
def execSample (t : Nat) (g : Fin 8) (x : SampleIn) (s : State) : Out :=
  let s0 := s.atTime t
  let q := s0.group g
  .next (if q.up then
    let vfCodes := (x.vfCode :: q.vfCodes).take 64
    let vf := vfOf vfCodes
    let low := vfLowOf vf (s0.odNat (gIndex g) 0x01) q.vfLow
    let chans := chanNos.map (s0.sampleChan g q vf low x)
    let n := { q with sampleNo := s0.time.now / 25000, vfCodes, vf, vfLow := low, chans }
    let edges := s0.newEdges g q n
    let s1 := s0.modGroup g (fun _ => { n with edgeQueue := edges })
    let s2 := if low && !q.vfLow then raise evVfLow (BitVec.ofNat 8 (g.val + 1) :: d16 vf) s1
      else if q.vfLow && !low then raise evVfRestored (BitVec.ofNat 8 (g.val + 1) :: d16 vf) s1 else s1
    let s3 := chanNos.foldl (fun r k => if (n.chan k).overRate && !(q.chan k).overRate
      then raise evOverRate [BitVec.ofNat 8 (16 * g.val + k.val)] r else r) s2
    let s4 := chanNos.foldl (fun r k => if (n.chan k).chatter && !(q.chan k).chatter
      then raise evChatter (BitVec.ofNat 8 (16 * g.val + k.val) :: d16 (satAt 65535 (n.chan k).rejected)) r else r) s3
    if edges = [] then s4 else s4.emit (.groupFrame g (edgeFrame g edges))
  else s0)

/-! ### The boundary latch and the state frame (R187, R188, R200, R209, R218) -/

/-- Is an input channel's entry good for the group's A (R195, R200)? -/
def State.entryGood (s : State) (g : Fin 8) (q : Group) (k : Fin 16) : Bool :=
  !isInputFn (q.chan k).fn || aligned (((if q.bankB then q.entriesB else q.entriesA)[k.val]?).getD resetEntry) (s.odNat (gIndex g) 0x02)

/-- The channel word latched at a boundary: VALUE and the low bits of the FIELD record (R73, R200, R218). -/
def State.chanWord (s : State) (g : Fin 8) (q : Group) (k : Fin 16) : BitVec 32 :=
  let c := q.chan k
  let fn := c.fn
  let out := fn = 0x20 || (fn = 0x21 || fn = 0x22)
  let valid := decide (105000 ≤ 25 * (c.age - 1)) && (!q.stage0 && s.entryGood g q k)
  let value := if out then mean40 c.current else c.value
  let st := if out then c.highRb && c.lowRb else c.state
  let rb := out && (q.readbackBit k && !s.inPulse (16 * g.val + k.val))
  BitVec.ofNat 32 (value % 65536 * 65536 + b2n (out && c.openLoad) * 2 ^ 15 + b2n (out && c.tripped) * 2 ^ 14 +
    b2n c.chatter * 2 ^ 13 + b2n c.overRate * 2 ^ 12 + b2n c.maxOn * 2 ^ 11 + b2n rb * 2 ^ 10 + b2n valid * 2 + b2n st)

/-- FREQUENCY at a boundary (R209), from stamps newest first. -/
def frequency (stamps : List Nat) (t0 gate : Nat) : Nat :=
  let l := stamps.filter (fun s => decide (t0 < s + gate * 1000000 ∧ s + 25000 ≤ t0))
  match l.head?, l.getLast? with
  | some last, some first => if l.length < 2 then 0 else 1000000000000 * (l.length - 1) / (last - first)
  | _, _ => 0

/-- A group latches its channels at the boundary and MAX_ON clears with its state (R200, R205). -/
def latchGroup (s : State) (g : Fin 8) : State :=
  let q := s.group g
  if q.up then
    let latch (k : Fin 16) : Chan :=
      let c := q.chan k
      let c1 := { c with maxOn := c.maxOn && c.state }
      { c1 with latched := s.chanWord g (q.modChan k (fun _ => c1)) k }
    s.modGroup g (fun _ => { q with chans := chanNos.map latch })
  else s

/-- GSTAT of a state frame. -/
def Group.gstatByte (q : Group) : BitVec 8 := BitVec.ofNat 8 (b2n q.vfLow * 128 + b2n q.bankB * 32)

/-- The state frame of a group for the boundary (R187). -/
def State.stateFrame (s : State) (g : Fin 8) : Bytes :=
  let q := s.group g
  let atSample := q.sampleNo * 25000 = s.time.now
  let b : Bytes := [0x01, BitVec.ofNat 8 (g.val + 1)] ++ d16 (s.cycleNow % 65536) ++ d16 q.vf ++ [q.gstatByte, 0] ++
    d16 (bits16 (fun c => atSample && (q.chan (Fin.ofNat 16 c)).rise)).toNat ++
    d16 (bits16 (fun c => atSample && (q.chan (Fin.ofNat 16 c)).fall)).toNat ++
    chanNos.flatMap (fun k => leBytes 4 (q.chan k).latched.toNat) ++
    chanNos.flatMap (fun k => let c := q.chan k
      if c.fn = 0x12 then leBytes 4 c.edges.toNat ++
        leBytes 4 (frequency c.stamps s.time.now (s.odNat (0x3100 + 16 * g.val + k.val) 0x07) % 2 ^ 32) else [])
  b ++ leBytes 2 (crc16 b)

/-- Every group latches and sends its state frame. -/
def latchAll (s : State) : State :=
  let s1 := groupNos.foldl latchGroup s
  groupNos.foldl (fun q g => if (q.group g).up then q.emit (.groupFrame g (q.stateFrame g)) else q) s1

/-! ### Frames at the Commons (R186 to R189) -/

/-- A frame that fails its checks is discarded and counted (R186). -/
def linkError (g : Fin 8) (s : State) : State := s.modGroup g (fun q => { q with crcErrors := satAdd 32 q.crcErrors 1 })

/-- CRC, GROUP, KIND and length of a group link frame (R186). -/
def linkFrameOk (g : Fin 8) (kind len : Nat) (b : Bytes) : Bool :=
  b.length == len && (leAt b 0 1 == kind && (leAt b 1 1 == g.val + 1 &&
    leAt b (len - 2) 2 == crc16 (b.take (len - 2))))

/-- The number of IN-COUNT channels of a group. -/
def Group.countChans (q : Group) : List (Fin 16) := chanNos.filter (fun k => (q.chan k).fn = 0x12)

/-- The count records of a state frame in channel order, zero for channels that are not IN-COUNT (R73). -/
def countWordsOf (cs : List (Fin 16)) (b : Bytes) : List Word :=
  chanNos.map (fun k => match codePos k.val (cs.map (·.val)) with
    | some n => BitVec.ofNat 64 (leAt b (0x4C + 8 * n) 4 * 2 ^ 32 + leAt b (0x50 + 8 * n) 4)
    | none => 0)

/-- Edges of the boundary sample, stamped 25 µs before it (R188). -/
def boundaryEdges (s : State) (g : Fin 8) (rise fall : Nat) : List EdgeRec :=
  let t0 := s.time.now - s.intoCycle
  chanNos.flatMap (fun k =>
    let ch : Fin 128 := ⟨16 * g.val + k.val, by omega⟩
    if s.odBool (chIndex ch) 0x02 then
      (if rise.testBit k.val then [{ chan := ch, rising := true, stamp := t0 - 25000 }] else []) ++
      (if fall.testBit k.val then [{ chan := ch, rising := false, stamp := t0 - 25000 }] else [])
    else [])

/-- STATE_FRAME (R187, R189): a frame for the present boundary that arrives by t0 + 36 µs is taken. -/
def execStateFrame (t : Nat) (g : Fin 8) (bytes : Bytes) (s : State) : Out :=
  let s0 := s.atTime t
  let q := s0.group g
  let cs := q.countChans
  .next (if !linkFrameOk g 0x01 (0x4C + 8 * cs.length + 2) bytes then linkError g s0
  else if leAt bytes 2 2 ≠ s0.cycleNow % 65536 ∨ 36000 < s0.intoCycle ∨ q.linkLost ∧ q.frameSeen then s0
  else
    let fieldWords := tabulate 16 (fun k => BitVec.ofNat 32 (leAt bytes (0x0C + 4 * k) 4))
    let edges := if q.frameSeen then [] else boundaryEdges s0 g (leAt bytes 8 2) (leAt bytes 10 2)
    let s1 := s0.modGroup g (fun q => { q with
      frameSeen := true, everSeen := true, linkLost := false, fieldWords, countWords := countWordsOf cs bytes
      gstat := BitVec.ofNat 8 (leAt bytes 6 1), vfSeen := BitVec.ofNat 16 (leAt bytes 4 2) })
    let s2 := { s1 with fio := { s1.fio with edges := s1.fio.edges ++ edges } }
    if q.linkLost then raise evGroupLinkRestored [BitVec.ofNat 8 (g.val + 1)] s2 else s2)

/-- The time of an edge record's sample number, extended from 27 bits (R187). -/
def edgeStamp (now n : Nat) : Nat := (now / 25000 - wrapNat 27 (((now / 25000 : Nat) : Int) - n)) * 25000

/-- Has the image of the present cycle been sealed? -/
def State.imageSealedNow (s : State) : Bool := s.ctl.sealed.any (fun i => i.cycle == s.cycleNow)

/-- One edge record at the Commons: kept for its image, or dropped when that image is sealed (R189, R210). -/
def takeEdge (g : Fin 8) (s : State) (w : Nat) : State :=
  let ch : Fin 128 := ⟨16 * g.val + (field w 31 28) % 16, by omega⟩
  let stamp := edgeStamp s.time.now (field w 26 0)
  if !s.odBool (chIndex ch) 0x02 then s
  else if s.imageSealedNow ∧ stamp < s.time.now - s.intoCycle then
    { s with fio := { s.fio with dropped := satAdd 16 s.fio.dropped 1 } }
  else { s with fio := { s.fio with edges := s.fio.edges ++ [{ chan := ch, rising := w.testBit 27, stamp }] } }

/-- EDGE_FRAME (R187, R189). -/
def execEdgeFrame (t : Nat) (g : Fin 8) (bytes : Bytes) (s : State) : Out :=
  let s0 := s.atTime t
  let n := leAt bytes 2 1
  .next (if linkFrameOk g 0x02 (4 + 4 * n + 2) bytes && decide (1 ≤ n ∧ n ≤ 16) then
    (tabulate n (fun k => leAt bytes (4 + 4 * k) 4)).foldl (takeEdge g) s0
  else linkError g s0)

/-- GROUP_LINK_TIMEOUT (R189): no valid state frame by t0 + 36 µs. -/
def execGroupLinkTimeout (t : Nat) (g : Fin 8) (s : State) : Out :=
  let s0 := s.atTime t
  let q := s0.group g
  .next (if q.frameSeen = false ∧ 36000 ≤ s0.intoCycle then
    let s1 := s0.modGroup g (fun q => { q with missed := satAdd 32 q.missed 1, linkLost := true, frameSeen := true })
    if q.linkLost then s1 else raise evGroupLinkLost [BitVec.ofNat 8 (g.val + 1)] s1
  else s0)

/-! ### Configuration frames at the group (R186, R192, R195, R203) -/

/-- CONFIG_WRITE (R186): the group takes a configuration or swap frame and prepares its acknowledgement. A bank entry of
an input channel that fails the alignment equation is refused (R195). -/
def execConfigWrite (t : Nat) (g : Fin 8) (w : GroupConfig) (s : State) : Out :=
  let s0 := s.atTime t
  .next (if (s0.group g).up then
    match w with
    | .func c code =>
      s0.modGroup g (fun q => { q.modChan c (fun x => let y := { x with func := code }
        if y.fn = x.fn then y else y.fresh) with ack := some true })
    | .setting _ _ _ => s0.modGroup g (fun q => { q with ack := some true })
    | .bankEntry b c e =>
      if isInputFn ((s0.group g).chan c).fn && !aligned e (s0.odNat (gIndex g) 0x02) then
        raise evBankEntryRefused [BitVec.ofNat 8 (16 * g.val + c.val), BitVec.ofNat 8 (b2n b)]
          (s0.modGroup g (fun q => { q with ack := some false }))
      else s0.modGroup g (fun q =>
        if b then { q with entriesB := q.entriesB.set c.val e, ack := some true }
        else { q with entriesA := q.entriesA.set c.val e, ack := some true })
    | .swap n => s0.modGroup g (fun q => { q with swapAt := some n, ack := some true })
  else s0)

/-- CONFIG_ACK (R186): the acknowledgement reaches the Commons; a refused swap leaves no swap pending. -/
def execConfigAck (t : Nat) (g : Fin 8) (ok : Bool) (s : State) : Out :=
  let s0 := s.atTime t
  .next (if (s0.group g).ack = some ok then s0.modGroup g (fun q => { q with ack := none }) else s0)

/-- A channel after a bank swap: its counters are limited to the new N (R203). -/
def Chan.swapped (e : BitVec 128) (c : Chan) : Chan :=
  if c.fn = 0x11 then
    let n := entCount e
    let lim (k : Nat) (st : Bool) : Nat × Bool :=
      let k' := min n k
      (k', if k' = n then true else if k' = 0 then false else st)
    let a := lim c.count c.state
    let b := lim c.tapCount c.tapState
    { c with count := a.1, state := a.2, tapCount := b.1, tapState := b.2 }
  else c

/-- A group exchanges its banks (R203). -/
def Group.swapBank (q : Group) : Group :=
  let b := !q.bankB
  let ents := if b then q.entriesB else q.entriesA
  { q with bankB := b, swapAt := none
           chans := (q.chans.zipIdx).map (fun e => e.1.swapped ((ents[e.2]?).getD resetEntry)) }

/-- BANK_SWAP (R203): at the boundary of cycle N + 2 the named groups switch banks together. -/
def execBankSwap (t : Nat) (s : State) : Out :=
  let s0 := s.atTime t
  .next (if s0.fio.swapState = 1 ∧ s0.fio.swapAt ≤ s0.cycleNow then
    let g := s0.fio.swapGroups
    let s1 := groupNos.foldl (fun q k => if g.getLsbD k.val then q.modGroup k Group.swapBank else q) s0
    raise evBankSwapped (g :: leBytes 7 s0.fio.swapAt)
      { s1 with fio := { s1.fio with swapState := 2, swapCycle := s0.fio.swapAt } }
  else s0)

/-! ### Input diagnostics (R205, R206) -/

/-- MAX_ON (R205): at a boundary the state has been 1 for longer than the channel's maximum. -/
def execMaxOn (t : Nat) (ch : Fin 128) (s : State) : Out :=
  let s0 := s.atTime t
  let c := s0.chan ch
  let lim := s0.odNat (chIndex ch) 0x04
  .next (if lim ≠ 0 ∧ c.maxOn = false ∧ c.state = true ∧ overUs c.onFor (lim * 100000) = true then
    raise evMaxOn [BitVec.ofNat 8 ch.val] (s0.modChan ch (fun x => { x with maxOn := true }))
  else s0)

/-- CHATTER_WINDOW (R206): a one-second window ends; CHATTER is set above the limit and cleared at or below it. -/
def execChatterWindow (t : Nat) (ch : Fin 128) (s : State) : Out :=
  let s0 := s.atTime t
  let c := s0.chan ch
  let lim := s0.odNat (chIndex ch) 0x05
  let above := decide (lim ≠ 0 ∧ lim < c.rejected)
  let s1 := s0.modChan ch (fun x => { x with rejectedLast := satAt 65535 x.rejected, rejected := 0, chatter := above })
  .next (if above && !c.chatter then raise evChatter (BitVec.ofNat 8 ch.val :: d16 (satAt 65535 c.rejected)) s1 else s1)

end Sys2Proof.Machine
end

