-- ==== Sys2Proof/Machine/Outputs.lean ====
section
/-! DEFINITION. Output frames, apply instants, protection, silence and the keepalive at the groups (chapter 8). -/

namespace Sys2Proof.Machine

/-! ### Vital channels (R124, R451) -/

/-- The signal bound to a channel by an entry number; none for 0xFFFF. -/
def State.boundTo (s : State) (n : Nat) : Option SigEntry := if n = 0xFFFF then none else s.signal n

/-- The signal that drives a channel, while the bindings are in effect and its function is OUT or OUT-FABRIC (R451). -/
def State.boundSignal (s : State) (ch : Fin 128) : Option SigEntry :=
  let fn := (s.chan ch).fn
  if s.tel.bindState = 1 ∧ (fn = 0x20 ∨ fn = 0x21) then s.boundTo (s.odForceNat (chIndex ch) 0x19) else none

/-- The function code that a channel works with as the Commons knows it: its map role, else its configured code. -/
def State.chanFn (s : State) (ch : Fin 128) : BitVec 8 :=
  (s.smap.bind (fun m => mapRole m ch.val)).getD (BitVec.ofNat 8 (s.odNat (chIndex ch) 0x01))

/-- Is a channel vital with entry number `n` bound (R124)? -/
def State.vitalWith (s : State) (ch : Fin 128) (n : Nat) : Bool :=
  let fn := s.chanFn ch
  fn = 0x21 || (fn = 0x22 || (fn = 0x20 && (s.boundTo n).any (·.vital)))

/-- Is a channel vital under the bindings in force? -/
def State.vitalChan (s : State) (ch : Fin 128) : Bool := s.vitalWith ch (s.odForceNat (chIndex ch) 0x19)

/-! ### The sliding sums of R220 -/

/-- Clamp energy of the last second in mJ (0x3000+g:14). -/
def State.clampSum (s : State) (g : Fin 8) : Nat :=
  ((s.group g).clampWindow.filter (fun e => s.time.now < e.1 + 1000000000)).foldl (fun a e => a + e.2) 0

/-- The load current of all channels summed over the 40,000 samples of the last second (R220). -/
def State.currentTotal (s : State) (g : Fin 8) : Nat :=
  (s.group g).chans.foldl (fun a c => a + c.current.foldl (· + ·) 0) 0

/-- The mean of the group's summed load current over the last second in mA (0x3000+g:15), truncated:
DEDUCED, entry 59. -/
def State.currentSum (s : State) (g : Fin 8) : Nat := s.currentTotal g / 40000

/-- The current limit of a group in mA (R220, R233). -/
def State.currentLimit (s : State) (g : Fin 8) : Nat := if s.odBool (gIndex g) 0x11 then 2000 else 4000

/-- Switch-on is refused from the moment a sum exceeds its limit (R220); the record holds 0 for energy, 1 for current. -/
def checkInhibit (s : State) (g : Fin 8) : State :=
  let q := s.group g
  let e := decide (2000 < s.clampSum g)
  let c := decide (s.currentLimit g * 40000 < s.currentTotal g)
  if q.up ∧ q.inhibit = false ∧ (e = true ∨ c = true) then
    raise evSwitchOnInhibit [BitVec.ofNat 8 (g.val + 1), if e then 0 else 1]
      (s.modGroup g (fun q => { q with inhibit := true }))
  else s

/-! ### Output frames (R215, R216, R27) -/

/-- The absolute sample number of an APPLY field, nearest ahead of now; none when it lies behind. -/
def applySample (now apply : Nat) : Option Nat :=
  let n := now / 25000
  let d := diff32 apply (n % 2 ^ 32)
  if d < 2 ^ 31 then some (n + d) else none

/-- A discarded output frame is counted (0x3000+g:13). -/
def discardFrame (g : Fin 8) (s : State) : State := s.modGroup g (fun q => { q with discarded := satAdd 32 q.discarded 1 })

/-- A valid output frame: pending, replacing, or discarded (R216, R27). -/
def takeOutput (g : Fin 8) (f : OutFrame) (s : State) : State :=
  let q := s.group g
  let same := q.pending.any (fun p => p.apply == f.apply)
  if f.apply * 25000 ≤ s.time.now ∨ s.time.now + 4000000 < f.apply * 25000 ∨ (same = false ∧ 2 ≤ q.pending.length) then
    discardFrame g s
  else s.modGroup g (fun q => { q with
    frameAt := some s.time.now
    pending := if same then q.pending.map (fun p => if p.apply = f.apply then f else p) else q.pending ++ [f] })

/-- OUTPUT_FRAME (R216): an output frame arrives at a group. -/
def execOutputFrame (t : Nat) (g : Fin 8) (bytes : Bytes) (s : State) : Out :=
  let s0 := s.atTime t
  .next (if (s0.group g).up then
    if linkFrameOk g 0x10 14 bytes then
      match applySample s0.time.now (leAt bytes 4 4) with
      | some n => takeOutput g { apply := n, cmd := BitVec.ofNat 16 (leAt bytes 8 2), cycle := BitVec.ofNat 16 (leAt bytes 2 2) } s0
      | none => discardFrame g s0
    else linkError g s0
  else s0)

/-- DRIVE_FRAME (R342): the DRIVE flag is set within 1 µs. -/
def execDriveFrame (t : Nat) (g : Fin 8) (bytes : Bytes) (s : State) : Out :=
  let s0 := s.atTime t
  .next (if (s0.group g).up then
    if linkFrameOk g 0x11 6 bytes then s0.modGroup g (fun q => { q with drive := leAt bytes 2 1 == 1 }) else linkError g s0
  else s0)

/-! ### Apply instants (R217, R220, R223) -/

/-- Is the function one whose switches the processor path commands? -/
def isProcFn (f : BitVec 8) : Bool := f = 0x20 || f = 0x21

/-- A channel takes a command: an open-to-closed transition is refused while the group refuses switch-on. -/
def Chan.command (refuse on : Bool) (c : Chan) : Chan :=
  if !isProcFn c.fn then c
  else if on then
    let closed := c.cmd && !c.inhibit
    { c with cmd := true, inhibit := !closed && refuse }
  else { c with cmd := false, inhibit := false, openLoad := false }

/-- A channel takes the command of an output frame; a command to open clears a latched trip (R223). -/
def Chan.applyFrame (refuse on : Bool) (c : Chan) : Chan :=
  let c1 := c.command refuse on
  if isProcFn c.fn && !on then { c1 with tripped := false, short := false } else c1

/-- A group applies the commands of a frame. -/
def Group.applyCmd (cmd : BitVec 16) (q : Group) : Group :=
  { q with chans := (q.chans.zipIdx).map (fun e => e.1.applyFrame q.inhibit (cmd.getLsbD e.2)) }

/-- The OPEN-LOAD events of channels whose OPEN_LOAD a command to open has cleared (R224). -/
def openLoadEvents (old : State) (g : Fin 8) (s : State) : State :=
  chanNos.foldl (fun r k =>
    if ((old.group g).chan k).openLoad && !((s.group g).chan k).openLoad then
      raise evOpenLoad [BitVec.ofNat 8 (16 * g.val + k.val), 0] r else r) s

/-- One due frame takes effect; the first after a silence ends it (R228). -/
def applyFrame (g : Fin 8) (f : OutFrame) (s : State) : State :=
  let s1 := checkInhibit s g
  let was := (s1.group g).silent
  let s2 := s1.modGroup g (fun q => { q.applyCmd f.cmd with silent := false })
  let s3 := openLoadEvents s1 g s2
  if was then raise evGroupOutputResumed [BitVec.ofNat 8 (g.val + 1)] s3 else s3

/-- APPLY_INSTANT (R217): the frames whose APPLY has come take effect in order of their instants. -/
def execApplyInstant (t : Nat) (g : Fin 8) (s : State) : Out :=
  let s0 := s.atTime t
  let due : List OutFrame := (s0.group g).pending.filter (fun f => decide (f.apply * 25000 ≤ s0.time.now))
  let nth (k : Nat) : Nat := ((due[k]?).map (fun f => f.apply)).getD 0
  let ordered := if due.length = 2 ∧ nth 1 < nth 0 then due.reverse else due
  let s1 := s0.modGroup g (fun q => { q with pending := q.pending.filter (fun f => decide (s0.time.now < f.apply * 25000)) })
  .next (ordered.foldl (fun q f => applyFrame g f q) s1)

/-! ### Protection (R219 to R226) -/

/-- The continuous rating of a channel in mA (R214, R233). -/
def State.rating (s : State) (ch : Fin 128) : Nat := if s.odBool (gIndex (chGroup ch)) 0x11 then 250 else 500

/-- Is the function an output function? -/
def isOutputFn (f : BitVec 8) : Bool := f = 0x20 || (f = 0x21 || f = 0x22)

/-- A trip is latched and counted. -/
def tripChan (short : Bool) (c : Chan) : Chan :=
  { c with tripped := true, short := c.short || short, trips := satAdd 32 c.trips 1 }

/-- OVERCURRENT_TRIP (R221): above the threshold for the trip delay, or the 1 s mean above the rating. -/
def execOvercurrentTrip (t : Nat) (ch : Fin 128) (s : State) : Out :=
  let s0 := s.atTime t
  let c := s0.chan ch
  let long := c.overFor ≠ 0 ∧ s0.odNat (chIndex ch) 0x12 * 1000 ≤ 25 * (c.overFor - 1)
  let mean := s0.rating ch * 40000 < c.current.foldl (· + ·) 0
  .next (if isOutputFn c.fn = true ∧ c.tripped = false ∧ (long ∨ mean) then
    raise evOvercurrentTrip (BitVec.ofNat 8 ch.val :: d16 (c.current.head?.getD 0)) (s0.modChan ch (tripChan false))
  else s0)

/-- SHORT_CIRCUIT (R222): the limit active for 200 µs, or above 1.5 A for 20 ms. -/
def execShortCircuit (t : Nat) (ch : Fin 128) (s : State) : Out :=
  let s0 := s.atTime t
  let c := s0.chan ch
  let long := (c.limitFor ≠ 0 ∧ 200 ≤ 25 * (c.limitFor - 1)) ∨ (c.inrushFor ≠ 0 ∧ 20000 ≤ 25 * (c.inrushFor - 1))
  .next (if isOutputFn c.fn = true ∧ c.short = false ∧ long then
    raise evShortCircuit [BitVec.ofNat 8 ch.val] (s0.modChan ch (tripChan true))
  else s0)

/-- DEMAG_OVER (R219): a switch-off's measured clamp energy; above 200 mJ the channel is held open for 1 s. -/
def execDemagOver (t : Nat) (ch : Fin 128) (energy : Nat) (s : State) : Out :=
  let s0 := s.atTime t
  let g := chGroup ch
  .next (if (s0.group g).up then
    let s1 := s0.modGroup g (fun q => { q with
      clampWindow := (s0.time.now, energy) :: q.clampWindow.filter (fun e => s0.time.now < e.1 + 1000000000) })
    let s2 := s1.modChan ch (fun c => { c with clamp := satAt 65535 energy })
    if 200 < energy then
      raise evDemagOver (BitVec.ofNat 8 ch.val :: d16 (satAt 65535 energy))
        (s2.modChan ch (fun c => { c with demagOver := true, heldUntil := some (s0.time.now + 1000000000) }))
    else s2
  else s0)

/-- DEMAG_HOLD_EXPIRY (R219): after 1 s the channel follows its command again. -/
def execDemagHoldExpiry (t : Nat) (ch : Fin 128) (s : State) : Out :=
  let s0 := s.atTime t
  .next (match (s0.chan ch).heldUntil with
  | some u => if u ≤ s0.time.now then s0.modChan ch (fun c => { c with demagOver := false, heldUntil := none }) else s0
  | none => s0)

/-- SWITCH_ON_RESUMED (R220): both sums are below their release levels. -/
def execSwitchOnResumed (t : Nat) (g : Fin 8) (s : State) : Out :=
  let s0 := s.atTime t
  .next (if (s0.group g).inhibit = true ∧ s0.clampSum g < 1500 ∧ 10 * s0.currentSum g < 9 * s0.currentLimit g then
    raise evSwitchOnResumed [BitVec.ofNat 8 (g.val + 1)] (s0.modGroup g (fun q => { q with inhibit := false }))
  else s0)

/-- Has a count of samples spanned 100 ms? -/
def span100 (n : Nat) : Bool := n != 0 && decide (100000 ≤ 25 * (n - 1))

/-- OPEN_LOAD (R224, R225): low current while conducting, or the bias voltage, has lasted 100 ms. -/
def execOpenLoad (t : Nat) (ch : Fin 128) (s : State) : Out :=
  let s0 := s.atTime t
  let c := s0.chan ch
  .next (if !isOutputFn c.fn then s0
  else if c.openLoad = false ∧ (span100 c.lowCurFor = true ∨ span100 c.biasFor = true) then
    raise evOpenLoad [BitVec.ofNat 8 ch.val, 1] (s0.modChan ch (fun c => { c with openLoad := true }))
  else if c.openLoad = true ∧ (span100 c.curFor = true ∨ span100 c.biasOff = true) then
    raise evOpenLoad [BitVec.ofNat 8 ch.val, 0] (s0.modChan ch (fun c => { c with openLoad := false }))
  else s0)

/-- SWITCH_STUCK (R226): a switch reads closed for more than 500 µs while the group commands it open; a fabric-driven
low side is the fabric's to judge. The record holds 0 for the high-side switch and 1 for the low-side switch. -/
def execSwitchStuck (t : Nat) (ch : Fin 128) (s : State) : Out :=
  let s0 := s.atTime t
  let c := s0.chan ch
  .next (if isOutputFn c.fn = true ∧ c.stuckHigh = false ∧ overUs c.stuckHighFor 500 = true then
    raise evSwitchStuck [BitVec.ofNat 8 ch.val, 0] (s0.modChan ch (fun c => { c with stuckHigh := true }))
  else if c.fn = 0x20 ∧ c.stuckLow = false ∧ overUs c.stuckLowFor 500 = true then
    raise evSwitchStuck [BitVec.ofNat 8 ch.val, 1] (s0.modChan ch (fun c => { c with stuckLow := true }))
  else s0)

/-! ### Silence and the keepalive (R227, R230, R231, R185) -/

/-- The safe state a channel takes: 0 OFF, 1 ON, 2 HOLD; ON and HOLD of a vital channel act as OFF (R227). -/
def State.safeState (s : State) (ch : Fin 128) : Nat := if s.vitalChan ch then 0 else s.odNat (chIndex ch) 0x10

/-- A channel takes its safe state. -/
def Chan.toSafe (refuse : Bool) (safe : Nat) (c : Chan) : Chan :=
  if safe = 0 then c.command refuse false else if safe = 1 then c.command refuse true else c

/-- GROUP_OUTPUT_SILENT (R227): no valid output frame within the group timeout. -/
def execGroupOutputSilent (t : Nat) (g : Fin 8) (s : State) : Out :=
  let s0 := s.atTime t
  let q := s0.group g
  .next (match q.frameAt with
  | some f =>
    if q.up = true ∧ q.silent = false ∧ f + s0.odNat (gIndex g) 0x10 * 1000000 ≤ s0.time.now then
      let s1 := checkInhibit s0 g
      let safe (k : Nat) : Nat := if h : 16 * g.val + k < 128 then s0.safeState ⟨16 * g.val + k, h⟩ else 0
      let s2 := s1.modGroup g (fun q => { q with
        pending := [], silent := true, silences := satAdd 32 q.silences 1
        chans := (q.chans.zipIdx).map (fun e => e.1.toSafe q.inhibit (safe e.2)) })
      raise evGroupOutputSilent [BitVec.ofNat 8 (g.val + 1)] s2
    else s0
  | none => s0)

/-- KEEPALIVE_LOSS (R230): the toggle has stopped and the pumped rail falls below its hold level. -/
def execKeepaliveLoss (t : Nat) (g : Fin 8) (s : State) : Out :=
  let s0 := s.atTime t
  .next (if s0.fab.keepalive.getLsbD g.val then s0 else s0.modGroup g (fun q => { q with rail := false }))

/-- PUMPED_RAIL_AT_HOLD_LEVEL (R231): the toggle runs and the rail reaches its hold level. -/
def execPumpedRailAtHoldLevel (t : Nat) (g : Fin 8) (s : State) : Out :=
  let s0 := s.atTime t
  .next (if s0.fab.keepalive.getLsbD g.val && (s0.group g).up then s0.modGroup g (fun q => { q with rail := true }) else s0)

/-- A group without supply: what the Commons holds of it stays, everything in the group chip is lost (R185, R372). -/
def Group.powerDown (q : Group) : Group :=
  { ({} : Group) with
    missed := q.missed, crcErrors := q.crcErrors, fabricErrors := q.fabricErrors, discarded := q.discarded
    silences := q.silences, frameSeen := q.frameSeen, fieldWords := q.fieldWords, countWords := q.countWords
    gstat := q.gstat, vfSeen := q.vfSeen, linkLost := q.linkLost, everSeen := q.everSeen }

/-- A group whose converter is in regulation again starts with the stage 0 settings (R185). -/
def Group.powerUp (q : Group) : Group := { q.powerDown with up := true }

/-- GROUP_CONVERTER_FAIL (R185): both links of the group fall silent and its outputs turn off. -/
def execGroupConverterFail (t : Nat) (g : Fin 8) (s : State) : Out :=
  .next ((s.atTime t).modGroup g Group.powerDown)

end Sys2Proof.Machine
end

