-- ==== Sys2Proof/Machine/Status.lean ====
section
/-! DEFINITION. The Abacus status codes (chapter 15) and the source byte of a host order (R394). -/

namespace Sys2Proof.Machine

/-- OK. -/
def stOk : BitVec 16 := 0
/-- NO-OBJECT. -/
def stNoObject : BitVec 16 := 1
/-- NO-SUBINDEX. -/
def stNoSub : BitVec 16 := 2
/-- READ-ONLY. -/
def stReadOnly : BitVec 16 := 3
/-- WRITE-ONLY. -/
def stWriteOnly : BitVec 16 := 4
/-- AUTHORITY. -/
def stAuthority : BitVec 16 := 5
/-- WRONG-STATE. -/
def stWrongState : BitVec 16 := 6
/-- RANGE. -/
def stRange : BitVec 16 := 7
/-- TYPE. -/
def stType : BitVec 16 := 8
/-- SUPERSEDED. -/
def stSuperseded : BitVec 16 := 9
/-- BUSY. -/
def stBusy : BitVec 16 := 10
/-- SESSION. -/
def stSession : BitVec 16 := 11
/-- OFFSET. -/
def stOffset : BitVec 16 := 12
/-- INTERNAL. -/
def stInternal : BitVec 16 := 13

/-- The SDO abort code of a status. -/
def sdoAbort (st : BitVec 16) : BitVec 32 :=
  if st = stNoObject then 0x06020000 else if st = stNoSub then 0x06090011 else if st = stReadOnly then 0x06010002
  else if st = stWriteOnly then 0x06010001 else if st = stAuthority then 0x08000020 else if st = stWrongState then 0x08000022
  else if st = stRange then 0x06090030 else if st = stType then 0x06070010 else if st = stSuperseded then 0x08000020
  else if st = stBusy then 0x08000021 else if st = stOffset then 0x06070012 else 0x08000000

/-- The source byte of a host order: the session number, or 0x80 for SDO (R394). -/
def viaSource : Via → Nat
  | .abacus n _ _ _ _ => n.val
  | .sdo _ => 0x80

/-- An answer to a host request, with no data (R382, R390). -/
def answerMsg (via : Via) (st : BitVec 16) (data : Bytes) : Sent :=
  match via with
  | .abacus _ _ _ _ _ => .abacus via st data
  | .sdo bus => .sdo bus (if st = stOk then 0 else sdoAbort st) data

/-- The response frames of one answer: data above 1,400 bytes goes out as a stream in parts of 1,024 bytes (R383, R389). -/
def answerParts : Nat → Bytes → List Bytes
  | 0, b => [b]
  | n + 1, b => if b.length ≤ 1400 then [b] else b.take 1024 :: answerParts n (b.drop 1024)

/-- One session, 1 to 8. -/
def State.session (s : State) (n : Fin 9) : Session := (s.od.sessions[n.val]?).getD {}

/-- Changes one session. -/
def State.modSession (s : State) (n : Fin 9) (f : Session → Session) : State :=
  { s with od := { s.od with sessions := modAt n.val f s.od.sessions } }

/-- An answered request of an open session keeps its response until the next one (R386). -/
def keepAnswer (via : Via) (st : BitVec 16) (data : Bytes) (s : State) : State :=
  match via with
  | .abacus n seq _ _ _ => s.modSession n (fun x => if x.state = 2 ∧ x.lastSeq = seq then { x with stored := some (st, data) } else x)
  | .sdo _ => s

/-- Answers a host request (R386, R388, R390). -/
def respond (via : Via) (st : BitVec 16) (data : Bytes) (s : State) : State :=
  keepAnswer via st data (s.emitAll ((answerParts data.length data).map (answerMsg via st)))

end Sys2Proof.Machine
end

