-- ==== Sys2Proof/Machine/Pour.lean ====
section
/-! DEFINITION. The pour: checking Buckets (R43 to R47, R84), deciding every signal (R139, R393, R394), committing and
pushing back (R44, R85, R91, R133), substitution releases (R301), the output and request frames (R170, R215) and the delta
of a pair (R348). -/

namespace Sys2Proof.Machine

/-! ### Checking Buckets -/

structure Poured where
  /-- A checked Bucket: its task, core, opening, lane for a split core, the accepted writes, closure and Tally. -/
  task : Fin 16
  core : Fin 4
  opened : Nat
  lane : Option Lane
  writes : List BWrite
  c1 : Word
  c2 : Word
  tally : Tally
deriving DecidableEq, Repr

/-- The Bucket that reaches the pour buffer from a lane: its half, or what its path made of it. -/
def bucketFrom (recv : List PourCopy) (ln : Lane) (h : Half) : List BWrite × Word × Word :=
  match recv.find? (fun c => c.lane = ln && c.task = h.task) with
  | some c => (c.writes, c.c1, c.c2)
  | none => (h.writes, h.c1, h.c2)

/-- A lane's half of a task. -/
def State.halfOn (s : State) (ln : Lane) (core : Fin 4) (task : Fin 16) (p : Half → Bool) : Option Half :=
  (s.lane ln).halves.find? (fun h => h.core = core && (h.task = task && p h))

/-- One try of a window's pour from a lane (R44). -/
def tryPour (recv : List PourCopy) (v : Verdict) (ln : Lane) (s : State) : Option Poured :=
  match s.halfOn ln v.win.core v.win.task (fun h => h.closes = v.win.closes) with
  | none => none
  | some h =>
    let b := bucketFrom recv ln h
    if bucketTally b.1 b.2.1 b.2.2 = v.tally then
      some { task := h.task, core := h.core, opened := v.win.opened, lane := none, writes := b.1, c1 := b.2.1, c2 := b.2.2, tally := v.tally }
    else none

/-- A pour that failed its check: POUR-CHECK-FAIL, counted, the lane noted for R45. -/
def pourFail (core : Fin 4) (task : Fin 16) (ln : Lane) (vital : Bool) (s : State) : State :=
  let rek := { s.rek with pourFails := satAdd 64 s.rek.pourFails 1
                          pourFailed := if vital && !s.rek.pourFailed.contains ln then s.rek.pourFailed ++ [ln] else s.rek.pourFailed }
  raise evPourCheckFail [BitVec.ofNat 8 core.val, BitVec.ofNat 8 task.val, BitVec.ofNat 8 (laneNo ln)] { s with rek }

/-- The pour of one window: the rotation lane, then at most one restart (R44). -/
def pourWindow (recv : List PourCopy) (v : Verdict) (s : State) : State × Option Poured :=
  match v.agree with
  | [] => (s, none)
  | a :: rest =>
    match tryPour recv v a s with
    | some p => (s, some p)
    | none =>
      let s1 := pourFail v.win.core v.win.task a true s
      match rest with
      | [] => (s1, none)
      | c :: _ =>
        match tryPour recv v c s1 with
        | some p => ({ s1 with rek := { s1.rek with restarts := satAdd 64 s1.rek.restarts 1 } }, some p)
        | none => (pourFail v.win.core v.win.task c true s1, none)

/-- The pour of every window; none as soon as one has no clean pour. -/
def pourWindows (recv : List PourCopy) : List Verdict → State → State × Option (List Poured)
  | [], s => (s, some [])
  | v :: r, s =>
    match pourWindow recv v s with
    | (s1, none) => (s1, none)
    | (s1, some p) =>
      match pourWindows recv r s1 with
      | (s2, none) => (s2, none)
      | (s2, some ps) => (s2, some (p :: ps))

/-- Does a write cover exactly one owned signal, or lie in the task's segment (R84)? -/
def writeOwned (app : AppImage) (task : Fin 16) (w : BWrite) : Bool :=
  let n := 2 ^ w.size.val
  (match segOf app task.val with
   | some g => within w.target n g.offset g.size
   | none => false) ||
  app.signals.any (fun e => !e.inImage && (e.offset = w.target && (e.size = n && e.ownedBy task.val)))

/-- Does a write touch a VITAL signal (R47)? -/
def writeVital (app : AppImage) (w : BWrite) : Option SigEntry :=
  app.signals.find? (fun e => !e.inImage && (e.vital && (decide (w.target < e.offset + e.size) && decide (e.offset < w.target + 2 ^ w.size.val))))

/-- The writes of a split Bucket up to the first that R47 or R84 rejects, and that write's cause. -/
def splitAccept (app : AppImage) (task : Fin 16) : List BWrite → List BWrite × Option (Code × BWrite)
  | [] => ([], none)
  | w :: r =>
    if (writeVital app w).isSome then ([], some (evSplitVitalWrite, w))
    else if !writeOwned app task w then ([], some (evWriteNotOwned, w))
    else let q := splitAccept app task r; (w :: q.1, q.2)

/-- The pour of one split Bucket (R46, R47, R84). -/
def pourSplit (recv : List PourCopy) (app : AppImage) (x : Lane × Fin 4 × Fin 16) (s : State) : State × Option (Poured × Bool) :=
  match s.halfOn x.1 x.2.1 x.2.2 (fun _ => true) with
  | none => (s, none)
  | some h =>
    let b := bucketFrom recv x.1 h
    if bucketTally b.1 b.2.1 b.2.2 ≠ h.tally then
      (splitFault x.1 x.2.2 evPourCheckFail (pourFail x.2.1 x.2.2 x.1 false s), none)
    else
      let q := splitAccept app x.2.2 b.1
      let p : Poured := { task := h.task, core := h.core, opened := b.2.2.toNat, lane := some x.1, writes := q.1, c1 := b.2.1, c2 := b.2.2, tally := h.tally }
      match q.2 with
      | none => (s, some (p, true))
      | some (cause, w) =>
        let s1 := raiseLane x.1 cause (BitVec.ofNat 8 x.2.2.val :: BitVec.ofNat 8 (laneNo x.1) :: d32 w.target) s
        (splitFault x.1 x.2.2 cause s1, some (p, false))

/-- The pour of every split Bucket: what is accepted, and the tasks that fault. -/
def pourSplits (recv : List PourCopy) (app : AppImage) : List (Lane × Fin 4 × Fin 16) → State → State × List Poured × List (Fin 16)
  | [], s => (s, [], [])
  | x :: r, s =>
    let q := pourSplit recv app x s
    let z := pourSplits recv app r q.1
    match q.2 with
    | none => (z.1, z.2.1, x.2.2 :: z.2.2)
    | some (p, ok) => (z.1, p :: z.2.1, if ok then z.2.2 else x.2.2 :: z.2.2)

/-! ### Deciding the signals (R139, R393) -/

structure Order where
  /-- One order for a signal in a pour: value, PRIORITY, whether its owner is OWNER1, source byte, and its host request. -/
  value : Word
  prio : Nat
  first : Bool
  source : Nat
  host : Option HostOrder
deriving DecidableEq, Repr

/-- The owner field that an owner of a signal uses, and whether it is OWNER1. -/
def ownerField (e : SigEntry) (p : Nat → Bool) : Nat × Bool := if p e.owner1 then (e.owner1, true) else (e.owner2, false)

/-- The last write of a task to a signal in the pour. -/
def lastWrite (e : SigEntry) (t : Fin 16) (ps : List Poured) : Option Word :=
  (((ps.filter (fun p => p.task = t)).flatMap (·.writes)).reverse.find? (fun w => w.target = e.offset)).map (·.value)

/-- The orders of tasks for a signal. -/
def taskOrders (e : SigEntry) (ps : List Poured) : List Order :=
  ((ps.map (·.task)).eraseDups).filterMap (fun t => (lastWrite e t ps).map (fun v =>
    let o := ownerField e (fun o => ownIsTask o t.val)
    { value := v, prio := ownPrio o.1, first := o.2, source := 0x40 + t.val, host := none }))

/-- Does a host order come before another (R392, steps 2 to 4)? -/
def hostBeats (new old : HostOrder) : Bool :=
  decide (old.level < new.level) || (new.level == old.level && decide (new.client ≤ old.client))

/-- The host order that stands for a signal, and the host orders that lose to it. -/
def reduceHost : List HostOrder → Option HostOrder
  | [] => none
  | h :: r => some (r.foldl (fun best x => if hostBeats x best then x else best) h)

/-- A host order among the orders of a signal. -/
def hostOrder (e : SigEntry) (h : HostOrder) : Order :=
  let o := ownerField e (fun o => ownKind o = 2)
  { value := h.value, prio := ownPrio o.1, first := o.2, source := (h.via.map viaSource).getD 0, host := some h }

/-- Does an order prevail over another by PRIORITY, then OWNER1? -/
def orderBeats (new old : Order) : Bool := decide (old.prio < new.prio) || (new.prio == old.prio && (new.first && !old.first))

/-- The order that prevails without a force: the safe direction, then priority (R393). -/
def prevail (e : SigEntry) (os : List Order) : Option Order :=
  let safe := if e.safeDir then os.filter (fun o => o.value = e.safe) else []
  match (if safe.isEmpty then os else safe) with
  | [] => none
  | o :: r => some (r.foldl (fun best x => if orderBeats x best then x else best) o)

/-- The value of a force for boundary `b` (R135, R139). -/
def Force.at (f : Force) (b : Nat) : Word :=
  match f.valueFrom with
  | some (v, e) => if e ≤ b then v else f.inForce
  | none => f.inForce

/-- Is a force in effect at boundary `b` (R135, R137)? -/
def Force.onAt (f : Force) (b : Nat) : Bool :=
  match f.state with
  | .active => true
  | .pending => if f.removing then decide (b < f.effective) else decide (f.effective ≤ b)
  | .free => false
  | .refused => false

/-- The force entry of a kind on a target that is in effect at boundary `b`. -/
def State.forceAt (s : State) (kind target b : Nat) : Option (Nat × Force) :=
  s.ctl.forces.find? (fun f => f.2.kind.toNat = kind && (f.2.target.toNat = target && f.2.onAt b))

/-- ORDER-SUPERSEDED for one signal (R394). -/
def superseded (n winner loser b : Nat) (s : State) : State :=
  raise evOrderSuperseded (d16 (n + 32768) ++ ([BitVec.ofNat 8 winner, BitVec.ofNat 8 loser] ++ d32 b)) s

structure Decided where
  /-- What the pour decides for one signal: value to store, value without forces, losers, answers, the force. -/
  sig : SigEntry
  store : Option Word
  plain : Option Word
  winner : Nat
  losers : List Order
  answers : List (Via × BitVec 16)
  force : Option Nat
deriving DecidableEq, Repr

/-- Decides one signal of a pour. A task that becomes FAULTED in it gives no order (R91). -/
def decideSignal (s : State) (b : Nat) (ps : List Poured) (hosts : List HostOrder) (faulted : List (Fin 16)) (e : SigEntry) : Decided :=
  let hs := hosts.filter (fun h => h.entry = e.n)
  let best := reduceHost hs
  let lost := hs.filter (fun h => some h ≠ best)
  let os := taskOrders e (ps.filter (fun p => !faulted.contains p.task)) ++ (best.map (hostOrder e)).toList
  let win := prevail e os
  let plain := match win with
    | some o => some o.value
    | none => if faulted.any (fun t => e.ownedBy t.val) then some e.safe else none
  let force := s.forceAt 1 e.n b
  let beaten := (match force with
    | some _ => os
    | none => os.filter (fun o => some o ≠ win)) ++ lost.map (hostOrder e)
  { sig := e
    store := match force with
      | some f => some (f.2.at b)
      | none => plain
    plain, winner := match force, win with
      | some _, _ => 0xF0
      | none, some o => o.source
      | none, none => 0
    losers := beaten
    answers := hs.filterMap (fun h => h.via.map (fun v => (v, if beaten.any (fun o => o.host = some h) then stSuperseded else stOk)))
    force := force.map (·.1) }

/-! ### Committing (R44, R85) -/

/-- Writes bytes into a memory, one write after another. -/
def putAll (ws : List (Nat × Bytes)) (m : Cells) : Cells := ws.foldl (fun m w => cWrite w.1 w.2 m) m

/-- A commit reaches the store and the read copies of the lanes that are IN or REINTEGRATING. -/
def pushWrites (ws : List (Nat × Bytes)) (s : State) : State :=
  let s1 := { s with cis := { s.cis with mem := putAll ws s.cis.mem } }
  s1.modLanes (fun l => if l.state = .isIn ∨ l.state = .reintegrating then { l with copy := putAll ws l.copy } else l)

/-- CHANGE-ON-FORCED (R146): once per set and force entry, at the first release of a writer that opened at the set's
boundary or later and gives a forced signal another value. -/
def changeOnForced (ps : List Poured) (d : Decided) (s : State) : State :=
  match d.force, d.plain with
  | some f, some v =>
    let c := s.ctl.change
    let fresh := ps.any (fun p => (lastWrite d.sig p.task [p]).isSome && (decide (c.effective ≤ p.opened) &&
      decide (p.opened < c.effective + ((s.taskDef p.task).map (·.period)).getD 0)))
    if c.pending = [] ∧ 0 < c.applied ∧ fresh ∧ v ≠ sGet 0 d.sig.n s.cis.unforced ∧ c.onForced.contains f = false then
      raise evChangeOnForced (d32 c.effective ++ d16 f) { s with ctl := { s.ctl with change := { c with onForced := c.onForced ++ [f] } } }
    else s
  | _, _ => s

/-- What a decided signal leaves besides its value: its unforced value and the events of R394 and R146. -/
def settleSignal (b : Nat) (ps : List Poured) (s : State) (d : Decided) : State :=
  let s1 := changeOnForced ps d s
  let s2 := match d.plain with
    | some v => { s1 with cis := { s1.cis with unforced := sSet 0 d.sig.n v s1.cis.unforced } }
    | none => s1
  let s3 := d.losers.foldl (fun q o => superseded d.sig.n d.winner o.source b q) s2
  { s3 with cis := { s3.cis with answers := s3.cis.answers ++ d.answers } }

/-- Commits checked Buckets, host orders and safe values for boundary `b`. -/
def commitAll (b : Nat) (ps : List Poured) (takeHost : Bool) (faulted : List (Fin 16)) (s : State) : State :=
  let hosts := if takeHost then s.cis.orders.filter (fun h => h.boundary ≤ b) else []
  let inst := (ps.flatMap (·.writes)).filter (fun w => 0x20000 ≤ w.target)
  let ds := (s.signals.filter (fun e => !e.inImage)).map (decideSignal s b ps hosts faulted)
  let ws := inst.map (fun w => (w.target, leBytes (2 ^ w.size.val) w.value.toNat)) ++
    ds.filterMap (fun d => d.store.map (fun v => (d.sig.offset, leBytes d.sig.size v.toNat)))
  let s1 := pushWrites ws (ds.foldl (settleSignal b ps) s)
  if takeHost then { s1 with cis := { s1.cis with orders := s1.cis.orders.filter (fun h => b < h.boundary) } } else s1

/-- The statistics of a poured release (0x2100+n:0B, :0C, measurement 0x0005), and the end of held safe values (R64). -/
def countPoured (s : State) (p : Poured) : State :=
  let steps := p.c1.toNat % 2 ^ 32
  let budget := ((s.taskDef p.task).map (·.stepBudget)).getD 1
  s.modTask p.task (fun x => { x with
    lastSteps := steps, peakSteps := max x.peakSteps steps, load := some (max (x.load.getD 0) (steps * 1000 / max 1 budget)), safeHeld := false })

/-! ### Substitution releases (R301) -/

/-- The stores of the substitution release of one VITAL publication that closes at `b`. -/
def substStores (s : State) (app : AppImage) (b : Nat) (p : Pub) : List BWrite :=
  match segOf app p.owner with
  | none => []
  | some g =>
    let bs := s.bindings p.bindFirst p.bindCount
    let val (e : SigEntry) : Word := if e.vital then e.safe else s.sigValue e
    let payload := composeData true s val bs (List.replicate (p.length - 16) 0)
    let st := sealStatus (bs.any (fun x => s.forced x.sig)) s.degraded (modeNo s.ctl.mode)
    sealStores (g.offset + p.buffer) (payload ++ sealTrailer (s.sealProfile p.profile) p.sealId (b % 2 ^ 32) st payload)

/-- The substitution releases that close at `b`: one per owner whose release would close there. -/
def State.substitutions (s : State) (b : Nat) : List Poured :=
  match s.app with
  | none => []
  | some app =>
    if (s.substitutes s.ctl.mode && (s.ctl.mode != .faultStop && !hostMode s 4)) = true then
      (app.tasks.filter (fun d => d.due b && !(s.vitalPubs d.task.val).isEmpty)).map (fun d =>
        let ws := (s.vitalPubs d.task.val).flatMap (substStores s app b)
        let c1 := closeC1 0x02 d.core.val d.task.val 0
        let c2 := BitVec.ofNat 64 (b - d.period)
        ({ task := d.task, core := d.core, opened := b - d.period, lane := none, writes := ws, c1, c2, tally := bucketTally ws c1 c2 } : Poured))
    else []

/-- Seals applied and windows counted for substitution releases. -/
def countSubst (ps : List Poured) (s : State) : State :=
  { s with
    rek := { s.rek with unanimous := satAdd 64 s.rek.unanimous ps.length }
    tel := { s.tel with sealsApplied := s.tel.sealsApplied + (ps.flatMap (fun p => s.vitalPubs p.task.val)).length } }

/-! ### Output frames (R124, R139, R215, R451) -/

/-- The command of one channel for boundary `b` in a mode. -/
def State.cmdFor (s : State) (mode : Mode) (b : Nat) (ch : Fin 128) : Bool :=
  let fn := s.chanFn ch
  if fn ≠ 0x20 ∧ fn ≠ 0x21 then false
  else
    let live := match mode with
      | .run => true
      | .standby => true
      | .hold => !s.vitalChan ch || s.mapFlag 4
      | .off => false
      | .fabricOnly => false
      | .boot => false
      | .stop => false
      | .faultStop => false
    if !live then false
    else
      match s.forceAt 3 ch.val b with
      | some f => (f.2.at b).getLsbD 0
      | none => (s.boundSignal ch).any (fun e => s.storeValue e != 0)

/-- The output frame of a group for boundary `b` (R215). -/
def State.outputFrameBytes (s : State) (mode : Mode) (b : Nat) (g : Fin 8) : Bytes :=
  let cmd := ((bits16 (fun c => s.cmdFor mode b (Fin.ofNat 128 (16 * g.val + c))))).toNat
  let body : Bytes := [0x10, BitVec.ofNat 8 (g.val + 1)] ++ (leBytes 2 b ++ (leBytes 4 (b * s.tb / 25000) ++ (leBytes 2 cmd ++ [0, 0])))
  body ++ leBytes 2 (crc16 body)

/-- Sends the output frames of boundary `b`, and the present DRIVE value with them (R342). -/
def sendOutputs (mode : Mode) (b : Nat) (s : State) : State :=
  sendDrive (s.emitAll (groupNos.map (fun g => .groupFrame g (s.outputFrameBytes mode b g))))

/-! ### The delta of a pair (R348) -/

/-- The Bucket entry words of a write (R80). -/
def entryWords (w : BWrite) : List Word :=
  let head (v : Nat) : Word := BitVec.ofNat 64 (w.size.val * 2 ^ 62 + w.target % 2 ^ 25 * 2 ^ 32 + v)
  if w.size = 3 then [head 0, w.value] else [head (w.value.toNat % 2 ^ 32)]

/-- The window record of a poured window. -/
def deltaRecord (p : Poured) : Bytes :=
  let entries := (p.writes.flatMap entryWords).flatMap (fun w => beBytes 8 w.toNat)
  let lane := match p.lane with
    | none => 0xFF
    | some l => laneNo l
  [BitVec.ofNat 8 p.core.val, BitVec.ofNat 8 p.task.val, BitVec.ofNat 8 lane, 0] ++ (beBytes 4 entries.length ++
    (tallyBytes p.tally ++ (entries ++ (beBytes 8 p.c1.toNat ++ beBytes 8 p.c2.toNat))))

/-- An ACTIVE module sends the delta of its pour (R348, R351). -/
def sendDelta (ps : List Poured) (s : State) : State :=
  if s.pair.inPair && s.pair.state = .active then sendObject 3 s.cycleNow (ps.flatMap deltaRecord) s else s

/-! ### The pour -/

/-- The halves of the poured windows are free again (R82). -/
def freeHalves (vs : List Verdict) (xs : List (Lane × Fin 4 × Fin 16)) (s : State) : State :=
  let s1 := s.modLanes (fun l => { l with halves := l.halves.filter (fun h =>
    !vs.any (fun v => v.win.core = h.core && (v.win.task = h.task && v.win.closes = h.closes))) })
  let mine (x : Lane × Fin 4 × Fin 16) (h : Half) : Bool := h.core = x.2.1 && h.task = x.2.2
  let rest (x : Lane × Fin 4 × Fin 16) (hs : List Half) : List Half := (hs.filter (mine x)).drop 1 ++ hs.filter (fun h => !mine x h)
  xs.foldl (fun q x => q.modLane x.1 (fun l => { l with halves := rest x l.halves })) s1

/-- The pour does not commit: nothing of the deadline is applied, FAULT-STOP (R44, R59, R84). -/
def pourNothing (cause : Code) (s : State) : State :=
  faultStop cause { s with rek := { s.rek with pourDue := false, verdicts := [], splits := [] } }

/-- What follows every complete pour: output frames, request frame, buses, delta. -/
def afterPour (b : Nat) (ps : List Poured) (s : State) : State :=
  let s1 := { s with
    cis := { s.cis with lastPour := s.cycleNow, poured := true, pouredTasks := (ps.map (·.task)).eraseDups
                        pouredTallies := ps.map (fun p => (p.core, p.task, p.lane, p.tally)) }
    rek := { s.rek with pourDue := false, verdicts := [], splits := [], stops := s.rek.stops.filter (fun x => b < x.closes) } }
  sendDelta ps (stageBuses b (sendRequest (sendOutputs (s1.modeFrom b) b s1)))

/-- The commit of checked windows, split Buckets, substitutions and safe values. -/
def commitPour (b : Nat) (recv : List PourCopy) (app : AppImage) (ps : List Poured) (s : State) : State :=
  let q := pourSplits recv app s.rek.splits s
  let stopped := (q.1.rek.stops.filter (fun x => decide (x.closes ≤ b) && (match q.1.taskDef x.task with
    | some d => !q.1.triple d.core
    | none => false))).map (·.task)
  let alone := (q.1.orphans.filter (fun d => !(q.1.task d.task).safeHeld)).map (·.task)
  let subs := q.1.substitutions b
  let all := ps ++ q.2.1
  let s1 := freeHalves s.rek.verdicts s.rek.splits (commitAll b (all ++ subs) (q.1.ctl.mode ≠ .stop) (q.2.2 ++ stopped ++ alone) q.1)
  let s2 := all.foldl countPoured (countSubst subs s1)
  let s3 := alone.foldl (fun x t => x.modTask t (fun y => { y with safeHeld := true })) s2
  afterPour b all s3

/-- POUR (R43 to R47, R84): in the pour window after the verdicts. -/
def execPour (t : Nat) (recv : List PourCopy) (s : State) : Out :=
  let s := s.atTime t
  let b := s.cycleNow + 1
  .next (if s.ctl.mode.seals = true ∧ s.rek.pourDue = true ∧ s.cis.poured = false ∧ s.intoCycle + 15000 < s.tb then
      match s.app with
      | none => afterPour b [] s
      | some app =>
        match pourWindows recv s.rek.verdicts s with
        | (s1, none) => pourNothing evPourCheckFail s1
        | (s1, some ps) =>
          match ps.findSome? (fun p => (p.writes.find? (fun w => !writeOwned app p.task w)).map (fun w => (p.task, w))) with
          | some (tk, w) => pourNothing evWriteNotOwned (raise evWriteNotOwned (BitVec.ofNat 8 tk.val :: 0xFF :: d32 w.target) s1)
          | none => commitPour b recv app ps s1
    else s)

/-- After an exclusion at the end of the pour window, the signals of a split task left without a lane take their safe
values from the coming boundary `b` (R64): they are committed, and what leaves the module at `b` is staged anew. -/
def safeOrphans (b : Nat) (s : State) : State :=
  let alone := (s.orphans.filter (fun d => !(s.task d.task).safeHeld)).map (·.task)
  if alone = [] ∨ s.cis.poured = false ∨ s.ctl.mode.seals = false then s
  else
    let s1 := alone.foldl (fun x t => x.modTask t (fun y => { y with safeHeld := true })) (commitAll b [] false alone s)
    stageBuses b (sendRequest (sendOutputs (s1.modeFrom b) b s1))

/-- POUR_WINDOW_END (R45, R60): the lanes whose pour failed its check are excluded. -/
def execPourWindowEnd (t : Nat) (s : State) : Out :=
  let s := s.atTime t
  .next (if s.tb ≤ s.intoCycle + 15000 then
      let s1 := s.rek.pourFailed.foldl (fun q l => if (q.lane l).state = .isIn then excludeLane l evPourCheckFail q else q) s
      let s2 := { s1 with rek := { s1.rek with pourFailed := [] } }
      lanesCheck (if s.rek.pourFailed = [] then s2 else safeOrphans (s2.cycleNow + 1) s2)
    else s)

/-- POUR_LATE (R21): nothing of the pour is applied, FAULT-STOP. -/
def execPourLate (t : Nat) (s : State) : Out :=
  let s := s.atTime t
  .next (if s.ctl.mode.seals = true ∧ s.cis.poured = false ∧ s.tb ≤ s.intoCycle + 15000 then
      pourNothing evPourLate (raise evPourLate [] s)
    else s)

/-- RETAINED_SNAPSHOT (R92): at the boundaries of every 100 ms. -/
def execRetainedSnapshot (t : Nat) (s : State) : Out :=
  let s := s.atTime t
  .next (if s.cycleNow % (100000000 / s.tb) = 0 then snapshot s else s)

end Sys2Proof.Machine
end

