-- ==== Sys2Proof/Machine/Bindings.lean ====
section
/-! DEFINITION. The binding checks of stage 2 (R287, R308, R451) and the vital tables that the lanes read (R288). -/

namespace Sys2Proof.Machine

/-! ### The tables as configured -/

/-- The VALID publications of the configured table. -/
def State.allPubs (s : State) : List (Pub × Bytes) :=
  ((((chunksOf 32 (s.odForce 0x5400 0x01)).zipIdx).map (fun e => (readPub e.2 e.1, e.1))).filter (fun e => e.1.valid))

/-- The VALID subscriptions of the configured table. -/
def State.allSubs (s : State) : List (Rec × Bytes) :=
  (((chunksOf 32 (s.odForce 0x5400 0x02)).zipIdx).filter (fun e => (leAt e.1 0x10 1).testBit 0)).map
    (fun e => (readSub (hostMode s 3) e, e.1))

/-- The VALID MVB ports of the configured table. -/
def State.allPorts (s : State) : List (Bytes × Nat) :=
  ((chunksOf 16 (s.odForce 0x5600 0x03)).zipIdx).filter (fun e => (leAt e.1 3 1).testBit 0)

/-- The VALID PDOs of a bus in the configured table. -/
def State.allPdos (s : State) (bus : Fin 2) : List (Bytes × Nat) :=
  ((chunksOf 16 (s.odForce 0x5700 (0x10 * (bus.val + 1) + 8))).zipIdx).filter (fun e => (leAt e.1 6 1).testBit 0)

/-- The PDOs of both buses. -/
def State.bothPdos (s : State) : List (Fin 2 × Bytes × Nat) :=
  ([0, 1] : List (Fin 2)).flatMap (fun b => (s.allPdos b).map (fun e => (b, e.1, e.2)))

/-- The direction of an MVB port: 0 POLL-ONLY, 1 SINK, 2 SOURCE. -/
def portDir (b : Bytes) : Nat := leAt b 3 1 / 4 % 4

/-- The configured binding entries of a run, as bytes. -/
def State.rawBindings (s : State) (first count : Nat) : List Bytes :=
  tabulate count (fun k => slice (s.odForce 0x5400 0x03) (8 * (first + k)) 8)

/-- The number of configured binding entries. -/
def State.bindingCount (s : State) : Nat := (s.odForce 0x5400 0x03).length / 8

structure BindRun where
  /-- A run of bindings: its place, the bytes they may lie in, and whether they fill the image. -/
  first : Nat
  count : Nat
  room : Nat
  input : Bool
deriving DecidableEq, Repr

/-- Every run of bindings of the configured tables. -/
def State.bindRuns (s : State) : List BindRun :=
  (s.allPubs.map (fun e => ({ first := e.1.bindFirst, count := e.1.bindCount
                              room := e.1.length - (if e.1.isSealed then 16 else 0), input := false } : BindRun))) ++
  (s.allSubs.map (fun e => { first := e.1.bindFirst, count := e.1.bindCount
                             room := e.1.length - (if e.1.isSealed then 16 else 0), input := true })) ++
  ((s.allPorts.filter (fun e => portDir e.1 ≠ 0)).map (fun e => { first := leAt e.1 0x0A 2, count := leAt e.1 0x0C 2
                                                                  room := portSize e.1, input := portDir e.1 = 1 })) ++
  (s.bothPdos.map (fun e => { first := leAt e.2.1 0x0C 2, count := leAt e.2.1 0x0E 2, room := leAt e.2.1 4 1
                              input := !(leAt e.2.1 6 1).testBit 1 }))

/-! ### The checks -/

/-- The field ranges of a publication. -/
def pubRange (p : Pub) (b : Bytes) : Bool :=
  decide (1 ≤ p.period ∧ p.period ≤ 1024) && (decide (p.phase < p.period) && (decide (p.length ≤ 1432) &&
  ((!p.isSealed || decide (16 ≤ p.length)) && (decide (p.flags < 8) && (decide (p.profile ≤ 7) && (decide (p.stream ≤ 2047) &&
  (decide (p.owner ≤ 15 ∨ p.owner = 255) && zeroAt b 0x13 1)))))))

/-- The field ranges of a subscription. -/
def subRange (r : Rec) (b : Bytes) : Bool :=
  decide (r.length ≤ 1432) && ((!r.isSealed || decide (16 ≤ r.length)) && (decide (1 ≤ r.timeout) && (decide (leAt b 0x10 1 < 16) &&
  (decide (r.profile ≤ 7) && (decide (1 ≤ r.maxAge) && decide (1 ≤ r.period ∧ r.period ≤ 1024))))))

/-- The field ranges of an MVB port. -/
def portRange (b : Bytes) : Bool :=
  let p := leAt b 4 2
  decide (leAt b 0 2 < 4096) && (decide (leAt b 2 1 ≤ 4) && (decide (leAt b 3 1 < 16) && (decide (portDir b ≤ 2) &&
  ((List.range 11).any (fun k => p = 2 ^ k) && ((portDir b != 1 || decide (1 ≤ leAt b 6 2)) && zeroAt b 0x0E 2)))))

/-- The field ranges of a PDO. -/
def pdoRange (b : Bytes) : Bool :=
  decide (leAt b 0 4 < 2 ^ 30) && (decide (leAt b 4 1 ≤ 64) && (decide (leAt b 6 1 < 16) && (zeroAt b 7 1 &&
  ((leAt b 6 1).testBit 1 || decide (1 ≤ leAt b 8 2)))))

/-- The field ranges of a Seal profile (R304). -/
def profileRange (b : Bytes) : Bool :=
  let w := leAt b 0x18 1
  decide (leAt b 0x1B 1 ≤ 4) && (decide (leAt b 0x1A 1 ≤ 2) && ((leAt b 0x1B 1 != 0 || (w == 16 || (w == 32 || w == 64))) &&
  decide (leAt b 0x19 1 < 4)))

/-- One binding entry in its run: known signal, legal BIT, zeros, and for an input a signal of image space. -/
def bindingRange (app : AppImage) (r : BindRun) (b : Bytes) : Bool :=
  match appSignal app (leAt b 0 2) with
  | none => false
  | some e => zeroAt b 5 3 && ((decide (leAt b 4 1 ≤ 7) || leAt b 4 1 == 255) && (!r.input || e.inImage))

/-- The bits of a dataset that a binding takes: start and number. -/
def bindingBits (app : AppImage) (b : Bytes) : Nat × Nat :=
  let x := readBinding b
  match appSignal app x.sig with
  | some e => if e.ty = .bool then (if x.bitNo = 255 then (8 * x.offset, 8) else (8 * x.offset + x.bitNo, 1))
      else (8 * x.offset, 8 * e.size)
  | none => (0, 0)

/-- A stream entry of the configured table (R245). -/
def State.streamEntry (s : State) (n : Nat) : Bytes := slice (s.odForce 0x5100 0x03) (32 * n) 32

/-- Bytes of a PD frame beyond its dataset: Ethernet with VLAN tag and FCS, IPv4, UDP and the PD header. -/
def pdOverhead : Nat := 90

/-- Reason 3: the stream of a publication. -/
def pubStreamOk (s : State) (p : Pub) : Bool :=
  let e := s.streamEntry p.stream
  let per := 2 ^ leAt e 0x0A 1
  (leAt e 8 1).testBit 0 && ((leAt e 8 1).testBit 1 && (decide (p.period % per = 0) &&
  (decide (p.phase % per = leAt e 0x0B 1) && decide (p.length + pdOverhead ≤ leAt e 0x0C 2))))

/-- Reason 4: a VITAL publication. -/
def vitalPubOk (s : State) (app : AppImage) (placement : BitVec 4) (p : Pub) : Bool :=
  !p.vital || (p.isSealed && (match app.tasks.find? (fun d => d.task.val = p.owner), segOf app p.owner with
    | some d, some g =>
      placement.getLsbD d.core.val && (d.period = p.period && (d.phase = p.phase && (decide (p.buffer % 8 = 0) &&
      (decide (p.buffer + p.length ≤ g.size) &&
      (s.rawBindings p.bindFirst p.bindCount).all (fun b => d.reads.contains (leAt b 0 2) || d.writes.contains (leAt b 0 2))))))
    | _, _ => false))

/-- Reason 5: a VITAL subscription. -/
def vitalSubOk (s : State) (app : AppImage) (r : Rec) : Bool :=
  !r.isVital || (r.isSealed && (!r.keep && (s.rawBindings r.bindFirst r.bindCount).all (fun b =>
    (appSignal app (leAt b 0 2)).any (fun e => e.vital && e.inImage))))

/-- The image ranges of every record and every bound image-space signal (R296, R309, R313). -/
def State.busRanges (s : State) (app : AppImage) : List (Nat × Nat) :=
  let subs := s.allSubs.map (fun e => (e.1.record, 8 + (if e.1.withData then pad8 e.1.length else 0)))
  let sinks := (s.allPorts.filter (fun e => portDir e.1 = 1)).map (fun e => (leAt e.1 8 2, 8))
  let rpdos := (s.bothPdos.filter (fun e => !(leAt e.2.1 6 1).testBit 1)).map (fun e => (leAt e.2.1 0x0A 2, 8))
  let sigs := ((s.bindRuns.flatMap (fun r => (s.rawBindings r.first r.count).map (fun b => leAt b 0 2))).eraseDups).filterMap
    (fun n => (appSignal app n).bind (fun e => if e.inImage then some (e.offset, e.size) else none))
  subs ++ sinks ++ rpdos ++ sigs

/-- The poll time of a basic period in ns (R308). -/
def State.pollTime (s : State) (n : Nat) : Nat :=
  ((s.allPorts.filter (fun e => n % leAt e.1 4 2 = leAt e.1 0 2 % leAt e.1 4 2)).map (fun e => Config.mvbPollTime (portSize e.1))).foldl (· + ·) 0

/-- The busiest basic period: the poll times repeat after 1,024 periods. -/
def State.worstPoll (s : State) : Nat := ((List.range 1024).map s.pollTime).foldl max 0

/-- Reason 7: the MVB load and the PDO rules. -/
def busesOk (s : State) (tbCode : Nat) : Bool :=
  decide (s.worstPoll ≤ tbNs tbCode - 200000) && (s.bothPdos.all (fun e =>
    let b := e.2.1
    let ty := leAt b 5 1
    let tx := (leAt b 6 1).testBit 1
    (decide (leAt b 4 1 ≤ 8) || (leAt b 6 1).testBit 3) && (decide (1 ≤ ty ∧ ty ≤ 240) || (!tx && decide (254 ≤ ty)))) &&
  ([0, 1] : List (Fin 2)).all (fun b => decide (((s.allPdos b).filter (fun e => (leAt e.1 6 1).testBit 1)).length ≤ 64) &&
    decide (((s.allPdos b).filter (fun e => !(leAt e.1 6 1).testBit 1)).length ≤ 64)))

/-- The configured output binding of a channel. -/
def State.outBinding (s : State) (ch : Fin 128) : Nat := s.odForceNat (chIndex ch) 0x19

/-- Reason 8: the output bindings and stored safe states (R451). -/
def outputsOk (s : State) (app : AppImage) : Bool :=
  let fn (ch : Fin 128) : BitVec 8 := s.chanFn ch
  let sig (ch : Fin 128) : Option SigEntry := if s.outBinding ch = 0xFFFF then none else appSignal app (s.outBinding ch)
  let isOut (ch : Fin 128) : Bool := fn ch = 0x20 || fn ch = 0x21
  let vital (ch : Fin 128) : Bool := fn ch = 0x21 || (fn ch = 0x22 || (fn ch = 0x20 && (sig ch).any (·.vital)))
  let all : List (Fin 128) := List.finRange 128
  all.all (fun ch => s.outBinding ch = 0xFFFF || (sig ch).any (fun e => e.ty = .bool && !e.inImage)) &&
  (((s.smap.map (·.vital)).getD []).all (fun n =>
      let ch : Fin 128 := Fin.ofNat 128 n
      isOut ch && (sig ch).any (·.vital)) &&
  (all.all (fun ch => !isOut ch || (sig ch).all (fun e => !(e.vital && e.safeDir) || e.safe = 0)) &&
   all.all (fun ch => !vital ch || s.odNat (chIndex ch) 0x10 = 0)))

/-- The first failing reason of R287; 0 when every check passes. -/
def bindingReason (s : State) (app : AppImage) : Nat :=
  let runs := s.bindRuns
  let inBus (r : Nat × Nat) : Bool := decide (0x15C0 ≤ r.1) && decide (r.1 + r.2 ≤ 1024 *
    (if app.tbCode = 0 then 16 else if app.tbCode = 2 then 64 else 32))
  if (s.allPubs.all (fun e => pubRange e.1 e.2) && (s.allSubs.all (fun e => subRange e.1 e.2) && (s.allPorts.all (fun e => portRange e.1) &&
      (s.bothPdos.all (fun e => pdoRange e.2.1) && ((List.range 8).all (fun k => profileRange (s.odForce 0x5500 (k + 1))) &&
      runs.all (fun r => decide (r.first + r.count ≤ s.bindingCount) && (s.rawBindings r.first r.count).all (bindingRange app r))))))) = false then 1
  else if runs.all (fun r =>
      let bits := (s.rawBindings r.first r.count).map (bindingBits app)
      bits.all (fun x => decide (x.1 + x.2 ≤ 8 * r.room)) && rangesApart (bits.map (fun x => (0, x.1, x.2)))) = false then 2
  else if s.allPubs.all (fun e => pubStreamOk s e.1) = false then 3
  else if s.allPubs.all (fun e => vitalPubOk s app app.placement e.1) = false then 4
  else if s.allSubs.all (fun e => vitalSubOk s app e.1) = false then 5
  else if ((s.busRanges app).all inBus && rangesApart ((s.busRanges app).map (fun r => (0, r.1, r.2)))) = false then 6
  else if busesOk s app.tbCode = false then 7
  else if outputsOk s app = false then 8
  else 0

/-- The tables take effect, or none does and BINDING-REFUSED says why (R287). With no active image there is nothing to
bind (state NONE). -/
def applyBindings (app : Option AppImage) (s : State) : State :=
  match app with
  | none => { s with tel := { s.tel with bindState := 0, bindReason := 0 } }
  | some a =>
    let r := bindingReason s a
    let load := s.worstPoll / 1000
    if r = 0 then { s with tel := { s.tel with bindState := 1, bindReason := 0, mvbLoad := load } }
    else raise evBindingRefused [BitVec.ofNat 8 r] { s with tel := { s.tel with bindState := 2, bindReason := r, mvbLoad := load } }

/-! ### What the lanes read (R288) -/

/-- The VITAL entries of the tables in effect, their bindings and their Seal profiles. -/
def State.vitalTables (s : State) : Bytes :=
  if s.tel.bindState = 1 then
    let pubs := s.allPubs.filter (fun e => e.1.vital)
    let subs := s.allSubs.filter (fun e => e.1.isVital)
    pubs.flatMap (fun e => e.2 ++ ((s.rawBindings e.1.bindFirst e.1.bindCount).flatten ++ s.odForce 0x5500 (e.1.profile + 1))) ++
    subs.flatMap (fun e => e.2 ++ ((s.rawBindings e.1.bindFirst e.1.bindCount).flatten ++ s.odForce 0x5500 (e.1.profile + 1)))
  else []

/-- The binding digest of a lane over the bytes that it read. -/
def State.bindingDigest (s : State) (b : Bytes) : Tally :=
  let ws := (chunksOf 8 (fitTo (pad8 b.length) b)).map (fun c => BitVec.ofNat 64 (leNat c))
  tallyWords (tallyWords tallyInit ws) [closeC1 0x05 0 0 ws.length, BitVec.ofNat 64 (s.imageId.toNat * 2 ^ 32 + s.edition.toNat)]

end Sys2Proof.Machine
end

