-- ==== Sys2Proof/Machine/Build.lean ====
section
/-! DEFINITION. Building the committed state for an application image (R93, R147, R149, R362), the digest votes of R120
and R288, the configuration store (R380, R402) and the trial of an image (R425 to R429). -/

namespace Sys2Proof.Machine

/-! ### Image slots (R419) -/

/-- A slot by its kind and place. -/
def Update.slot (u : Update) (app b : Bool) : SlotSt :=
  if app then (if b then u.appB else u.appA) else (if b then u.fwB else u.fwA)

/-- Replaces a slot. -/
def Update.setSlot (app b : Bool) (x : SlotSt) (u : Update) : Update :=
  if app then (if b then { u with appB := x } else { u with appA := x })
  else (if b then { u with fwB := x } else { u with fwA := x })

/-- The active slot of a kind, as the boot selector names it. -/
def Update.active (u : Update) (app : Bool) : Option Bool := if app then u.appActive else some u.fwActiveB

/-- The content of the active application slot; empty when the boot selector names none. -/
def State.slotBytes (s : State) : Bytes := (s.upd.appActive.map (fun b => (s.upd.slot true b).bytes)).getD []

/-- The image of a container when every check of R117 passes. -/
def State.loaded (s : State) (b : Bytes) : Option AppImage :=
  match loadImage s.appKeys s.edition b with
  | .ok a => some a
  | .error _ => none

/-- The reason of R117 for which a container is rejected; 0 for none. -/
def State.loadReason (s : State) (b : Bytes) : Nat :=
  match loadImage s.appKeys s.edition b with
  | .ok _ => 0
  | .error r => r

/-- A lane rejects a container: IMAGE-REJECTED with the lane and the reason, which 0x1100:30 keeps (R117). -/
def rejectImage (ln : Lane) (reason : Nat) (s : State) : State :=
  raiseLane ln evImageRejected [BitVec.ofNat 8 (laneNo ln), BitVec.ofNat 8 reason] { s with ctl := { s.ctl with rejection := reason } }

/-! ### The new store (R83, R111, R112, R114, R147) -/

/-- The initial data of every instance segment. -/
def initSegments (app : AppImage) : Cells := app.segs.foldl (fun m g => cWrite g.offset g.init m) []

/-- The signals of the store in entry order. -/
def AppImage.stored (app : AppImage) : List SigEntry := app.signals.filter (fun e => !e.inImage)

/-- Every signal of the store at its INIT value. -/
def initSignals (app : AppImage) (m : Cells) : Cells := app.stored.foldl (fun m e => putStore e e.init m) m

/-- The parameter bytes of an image with stored values in the place of its own (R111, R147). -/
def constWith (app : AppImage) (vals : Sparse Word) : Bytes :=
  (app.params.zipIdx).foldl (fun b e =>
    match lookupKey e.2 vals with
    | some v => patch b e.1.offset (leBytes (xSize e.1.xty) v.toNat)
    | none => b) app.constData

/-- The stored parameter values that belong to an image (R147). -/
def State.storedParams (s : State) (app : AppImage) : Sparse Word :=
  match s.ctl.change.stored with
  | some (id, vals) => if id = app.ident then vals else []
  | none => []

/-- The valid retained copy with the higher sequence (R93). -/
def State.retainedCopy (s : State) : Option (Nat × Nat × BitVec 32 × Bytes × Bool) :=
  let ok (c : Option (Nat × Nat × BitVec 32 × Bytes × Bool)) : Option (Nat × Nat × BitVec 32 × Bytes × Bool) :=
    if s.rcd.fault then none else c.filter (fun x => x.2.2.2.2)
  match ok s.cis.retA, ok s.cis.retB with
  | some a, some b => if a.2.1 < b.2.1 then some b else some a
  | some a, none => some a
  | none, some b => some b
  | none, none => none

/-- Retained values written over a store, 8 bytes per RETAINED signal in entry order (assumption 17). -/
def putRetained (app : AppImage) (vals : Bytes) (m : Cells) : Cells :=
  ((app.stored.filter (·.retained)).zipIdx).foldl (fun m e => putStore e.1 (BitVec.ofNat 64 (leAt vals (8 * e.2) 8)) m) m

/-- The RETAINED signals are restored, or take their initial values (R93). -/
def restoreRetained (app : AppImage) (s : State) : State :=
  match s.retainedCopy with
  | some c =>
    if c.2.2.1 = app.ident then
      raise evRetainedRestored [] { s with cis := { s.cis with mem := putRetained app c.2.2.2.1 s.cis.mem } }
    else raise evRetainedLost [] s
  | none => raise evRetainedLost [] s

/-! ### Putting an image in force -/

/-- The stagger in use (R34). -/
def State.staggerFor (s : State) (app : Option AppImage) : Nat :=
  let most := (app.map (·.maxStagger)).getD 200
  let n := min (s.odNat 0x2002 0x01) most
  if s.ctl.tbCode = 0 then min n 100 else n

/-- Sets the stagger in use; STAGGER-LIMITED when it is below the stored value (R34). -/
def setStagger (app : Option AppImage) (s : State) : State :=
  let n := s.staggerFor app
  let want := s.odNat 0x2002 0x01
  raiseIf (decide (n < want)) evStaggerLimited (d16 want ++ d16 n) { s with ctl := { s.ctl with stagger := n } }

/-- FORCE-REMOVED of an entry: its number and target. -/
def forceGone (n : Nat) (f : Force) (s : State) : State := raise evForceRemoved (d16 n ++ d16 f.target.toNat) s

/-- Force entries on signals that the image does not have are removed (R140, R149). -/
def dropForces (app : AppImage) (s : State) : State :=
  let gone (f : Nat × Force) : Bool := f.2.kind = 1 && ((f.2.state = .active || f.2.state = .pending) &&
    !app.signals.any (fun e => e.n = f.2.target.toNat))
  let s1 := { s with ctl := { s.ctl with forces := s.ctl.forces.map (fun f =>
    if gone f then (f.1, { f.2 with state := .free, removing := false, valueFrom := none }) else f) } }
  (s.ctl.forces.filter gone).foldl (fun q f => forceGone f.1 f.2 q) s1

/-- The unforced values of all signals of the store stand as the store has them (R171). -/
def takeUnforced (app : AppImage) (s : State) : State :=
  { s with cis := { s.cis with unforced := app.stored.foldl (fun u e => sSet 0 e.n (s.storeValue e) u) [] } }

/-- An image goes into force over the store as it now stands: placement, stagger, tasks, parameters and read copies (R34,
R62, R147). -/
def installImage (app : AppImage) (s : State) : State :=
  let keep := s.storedParams app
  let params := constWith app keep
  let s1 := { s with ctl := { s.ctl with
    image := some app, placement := app.placement, requested := app.placement.setWidth 8, moveState := 0, moved := 0
    tasks := List.replicate 16 {}
    change := { s.ctl.change with applied := 0, stored := if keep = [] then none else s.ctl.change.stored } } }
  let s2 := s1.modLanes (fun l => { l with image := some app, params, paramsNew := none, copy := s.copyRegions })
  let s3 := app.tasks.foldl (fun q d => if q.triple d.core then q else q.modTask d.task (fun x => { x with onLane := q.startLane d })) s2
  checkBindings (takeUnforced app (setStagger (some app) (dropForces app s3)))

/-! ### Digest votes (R120, R288) -/

/-- A lane leaves because its digest differs or is missing: the event, then OUT with the same cause (R450). -/
def dissentOut (ev : Code) (s : State) (ln : Lane) : State :=
  if (s.lane ln).state = .out then s else laneToOut ln ev (raiseLane ln ev [BitVec.ofNat 8 (laneNo ln)] s)

/-- The lanes that a digest vote leaves outside the majority. -/
def outvoted (p : Poll) : List Lane := lanes.filter (fun l => !p.agree.contains l)

/-- Does a digest vote have an outcome (R120)? -/
def Poll.decided (p : Poll) : Bool := !p.outcome.bad

/-- The translation digests as delivered, voted over three lanes (R120). -/
def State.digestPoll (s : State) : Poll := voteOn lanes (fun l => (s.lane l).digest)

/-- The binding digests over the bytes that each lane read (R288). -/
def State.bindingPoll (s : State) (tables : List (Option Bytes)) : Poll :=
  voteOn lanes (fun l => ((tables[laneNo l]?).getD none).map s.bindingDigest)

/-- The binding digest vote: the vital tables in use are those that were read and voted. -/
def voteBindings (tables : List (Option Bytes)) (s : State) : State :=
  let p := s.bindingPoll tables
  if p.decided then
    let s1 := p.agree.foldl (fun q l => q.modLane l (fun x => { x with vitalTables := ((tables[laneNo l]?).getD none).getD [] })) s
    (outvoted p).foldl (dissentOut evBindingDissent) s1
  else faultStop evBindingSplit (raise evBindingSplit [] s)

/-! ### Carrying state across an exchange (R149) -/

/-- The first address of a block of an image. -/
def AppImage.blockAddr (app : AppImage) (d : BlockDef) : Nat :=
  ((app.segs.find? (fun g => g.task = d.task)).map (·.offset)).getD 0 + d.offset

/-- The old block that a new one carries on, or why not: its report code. -/
def carryCode (old : AppImage) (d : BlockDef) : Nat × Option BlockDef :=
  match old.blocks.find? (fun o => o.id = d.id) with
  | none => (1, none)
  | some o =>
    if o.kind = d.kind ∧ (d.kind = 9 → o.tag = d.tag ∧ o.size = d.size) then (0, some o) else (2, some o)

/-- One block instance of the new store: carried, or reset to zero, or for DATA to the segment's initial data. -/
def carryBlock (old new : AppImage) (mem : Cells) (m : Cells) (d : BlockDef) : Cells :=
  match carryCode old d with
  | (0, some o) => cWrite (new.blockAddr d) (cRead d.size (old.blockAddr o) mem) m
  | _ => if d.kind = 9 then m else cClear (new.blockAddr d) d.size m

/-- One signal of the new store: carried when entry number and TYPE agree, else INIT. -/
def carrySignal (old : AppImage) (mem : Cells) (m : Cells) (e : SigEntry) : Cells :=
  match old.stored.find? (fun o => o.n = e.n && o.ty = e.ty) with
  | some o => putStore e (BitVec.ofNat 64 (cNum o.size o.offset mem)) m
  | none => putStore e e.init m

/-- The new Cistern layout (R149 step 3); the mailboxes keep their content. -/
def carryStore (old new : AppImage) (mem : Cells) : Cells :=
  let m1 := new.blocks.foldl (carryBlock old new mem) (initSegments new)
  let m2 := new.stored.foldl (carrySignal old mem) m1
  (mem.filter (fun c => 0x1FF0000 ≤ c.1)).foldl (fun m c => cSet c.1 c.2 m) m2

/-- The report at 0x1100:40: ID, old KIND, new KIND, code (R149). -/
def carryReport (old new : AppImage) : List (BitVec 32 × Nat × Nat × Nat) :=
  new.blocks.map (fun d => let c := carryCode old d; (d.id, (c.2.map (·.kind)).getD 0, d.kind, c.1)) ++
    (old.blocks.filter (fun o => !new.blocks.any (fun d => d.id = o.id))).map (fun o => (o.id, o.kind, 0, 3))

/-- Both retained copies under the image now in force (R149 step 4). -/
def writeRetained (s : State) : State :=
  if s.rcd.fault then s
  else
    let seq := max ((s.cis.retA.map (·.2.1)).getD 0) ((s.cis.retB.map (·.2.1)).getD 0) + 1
    let c := some (s.cycleNow, seq, s.imageId, s.retainedBytes, true)
    { s with cis := { s.cis with retA := c, retB := c, lastSnapshot := s.cycleNow } }

/-- The digest of the native code that the lanes now run (R50, R120). -/
def takeDigest (s : State) : State :=
  match s.inLanes.head? with
  | some l => { s with ctl := { s.ctl with digest := s.nativeDigest (s.lane l).native } }
  | none => s

/-- The new image takes over the carried state (R149 steps 3 and 5); the old native code stays beside it. -/
def carryTo (new : AppImage) (s : State) : State :=
  let old := s.app.getD new
  let s1 := { s with
    cis := { s.cis with mem := carryStore old new s.cis.mem }
    ctl := { s.ctl with report := carryReport old new } }
  let s2 := s1.modLanes (fun l => { l with native := l.nativeNew, nativeNew := l.native, digest := none })
  takeDigest (applyBindings (some new) (installImage new s2))

/-- Program exchange on one module: carried state, both retained copies, no old native code any more (R149). -/
def exchangeTo (new : AppImage) (s : State) : State :=
  writeRetained ((carryTo new s).modLanes (fun l => { l with nativeNew := [] }))

/-! ### The configuration store (R380, R402) -/

/-- Is the object of a key stored? -/
def keyStored (k : Nat) : Bool := (odRow (k / 256) (k % 256)).any (·.stored)

/-- The stored writes of at least one second ago are in both copies. -/
def settleStore (now : Nat) (o : Od) : Od :=
  let done := o.storing.filter (fun w => w.2.2 + 1000000000 ≤ now)
  if done = [] then o
  else
    let put (x : Store) : Store := { x with seq := x.seq + 1, values := done.foldl (fun l w => setKey w.1 w.2.1 l) x.values }
    { o with storeA := put o.storeA, storeB := put o.storeB, storing := o.storing.filter (fun w => now < w.2.2 + 1000000000) }

/-- Every stored write reaches both copies: no supply was lost. -/
def flushStore (o : Od) : Od :=
  let put (x : Store) : Store := { x with seq := x.seq + 1, values := o.storing.foldl (fun l w => setKey w.1 w.2.1 l) x.values }
  if o.storing = [] then o else { o with storeA := put o.storeA, storeB := put o.storeB, storing := [] }

/-- Accepts the value of an object; a stored one also goes to the store. -/
def State.odStore (s : State) (i u : Nat) (v : Bytes) : State :=
  let s1 := s.odSet i u v
  if keyStored (odKey i u) then
    let o := settleStore s1.time.now s1.od
    { s1 with od := { o with storing := o.storing ++ [(odKey i u, v, s1.time.now)] } }
  else s1

/-- Is a key spared by RESTORE-DEFAULTS (R402)? -/
def restoreSpares (k : Nat) : Bool :=
  let i := k / 256
  let u := k % 256
  (i = 0x1200 && inR 0x08 0x0B u) || ((i = 0x7300 && u = 0x09) || ((i = 0x8000 && u = 0x0B) || (i = 0x7000 || i = 0x8020)))

/-- The copy of the store that a start loads. -/
def Od.newer (o : Od) : Store :=
  if o.storeA.crcOk && (!o.storeB.crcOk || decide (o.storeB.seq ≤ o.storeA.seq)) then o.storeA
  else if o.storeB.crcOk then o.storeB else {}

/-- A function mode takes effect (R395); the PTP servo waits for its offset sample (R284). -/
def takeFunction (s : State) (k : Nat) : State :=
  let v := s.odForceBool 0x1180 k
  if k = 2 then { s with time := { s.time with servoPending := if v = s.time.hostServo then none else some v } }
  else if (s.od.funcModes[k - 1]?).getD false = v then s
  else raise evFunctionModeChanged [BitVec.ofNat 8 k, BitVec.ofNat 8 (b2n v)]
    { s with od := { s.od with funcModes := modAt (k - 1) (fun _ => v) s.od.funcModes } }

/-- The objects timed "at restart" come into force (R381, R395). -/
def takeInForce (s : State) : State :=
  [1, 2, 3, 4, 5, 6, 7].foldl takeFunction { s with od := { s.od with inForce := s.od.values } }

/-- The stored configuration is loaded: every other object takes its default (R380), and RESTORE-DEFAULTS takes effect
(R402). -/
def loadConfig (s : State) : State :=
  let v := s.od.newer.values
  let kept := if s.od.restore then v.filter (fun e => restoreSpares e.1) else v
  let put (x : Store) : Store := if s.od.restore then { x with seq := x.seq + 1, values := kept } else x
  let s1 := { s with
    od := { s.od with values := kept, restore := false, storeA := put s.od.storeA, storeB := put s.od.storeB }
    rcd := { s.rcd with map := (lookupKey (odKey 0x7000 0x06) kept).map (chunksOf 16) } }
  takeInForce s1

/-! ### The trial of an image (R425 to R429) -/

/-- The present time has X1; the window counts only such time. -/
def Update.trialEnded (now : Nat) (u : Update) : Bool := decide (u.trialSince + u.trialLeft ≤ now)

/-- Has the trial window ended? Time without X1 does not count (R428). -/
def State.trialOver (s : State) : Bool := s.upd.trialEnded (if s.ctl.onStore then s.upd.trialSince else s.time.now)

/-- The trial window starts: event IMAGE-ACTIVATED with the kind and slot (R421, R426). -/
def beginTrial (app : Bool) (s : State) : State :=
  let b := (s.upd.active app).getD false
  raise evImageActivated [BitVec.ofNat 8 (b2n app), BitVec.ofNat 8 (b2n b)] { s with upd := { s.upd with
    state := .trial, app, slotB := b, trialSince := s.time.now, trialLeft := s.odNat 0x8000 0x09 * 1000000000 } }

/-- The half of the anti-rollback counter of a kind (R425). -/
def State.rollbackHalf (s : State) (app : Bool) : Nat :=
  if app then s.fab.rollback.toNat % 65536 else s.fab.rollback.toNat / 65536

/-- Raises the half of a kind; it never falls, and an index lies between 0 and 65,535 (R420, R425). -/
def raiseRollback (app : Bool) (n : Nat) (s : State) : State :=
  let fw := s.rollbackHalf false
  let ap := s.rollbackHalf true
  let m := min n 65535
  let v := if app then fw * 65536 + max ap m else max fw m * 65536 + ap
  { s with fab := { s.fab with rollback := BitVec.ofNat 32 v } }

/-- A trial passes when its window still runs and the module enters RUN, or STANDBY with pair state STANDBY (R428). -/
def passTrial (s : State) : State :=
  match s.upd.trialKind with
  | none => s
  | some app =>
    let on := decide (s.ctl.mode = .run) || (decide (s.ctl.mode = .standby) && decide (s.pair.state = .standby))
    if s.upd.state = .trial ∧ on = true ∧ s.trialOver = false then
      let b := (s.upd.active app).getD false
      let new := s.upd.slot app b
      let s1 := raiseRollback app new.rollback s
      let old := s1.upd.slot app (!b)
      let old' : SlotSt := if old.fallback then
        { old with fallback := false, state := if s1.rollbackHalf app ≤ old.rollback then old.state else 4 } else old
      let u := (s1.upd.setSlot app b { new with trial := false }).setSlot app (!b) old'
      raise evTrialPassed [] { s1 with upd := { u with state := .idle, trialKind := none, trialStarts := 0 } }
    else s

/-- The selector names a new slot on trial, and the old one as its FALLBACK (R426). -/
def selectImageSlot (app b : Bool) (s : State) : State :=
  let old := s.upd.active app
  let u0 := match old with
    | some o => s.upd.setSlot app o { s.upd.slot app o with fallback := true }
    | none => s.upd
  let u1 := u0.setSlot app b { u0.slot app b with trial := true, fallback := false }
  let u2 := if app then { u1 with appActive := some b } else { u1 with fwActiveB := b }
  { s with upd := { u2 with trialKind := some app, trialStarts := 0 } }

/-! ### Cold restart (R132, R366) -/

/-- What stage 3 started stops until the next stage 3 (DEDUCED, R132: start runs again from stage 1). -/
def stopNetwork (s : State) : State :=
  { s with
    sw := { s.sw with
      running := false, macs := [], toI1 := [], yielded := false, beacon := 0, master := 0xFFFF, heard := false
      heardCycle := false, missRun := 0, badRun := 0, goodRun := 0, since := 0
      ports := s.sw.ports.map (fun p => { p with link := 0, queue := [], onWire := none }) }
    od := { s.od with running := false, sessions := List.replicate 9 {}, sdo1 := {}, sdo2 := {} }
    tel := { s.tel with
      bindState := 0, bindReason := 0, pubs := [], subs := [], sinks := [], rpdos := [], md := [], mvbYield := false
      mvbRole := 0, publishing := false, can1 := { s.tel.can1 with state := 3, nmtStarted := false, queued := [] }
      can2 := { s.tel.can2 with state := 3, nmtStarted := false, queued := [] } } }

/-- A cold restart: the Cistern, the force table and the Standpipes are cleared, the event queue is emptied (R397), and
start runs again from stage 1. -/
def coldRestart (trigger : Nat) (s : State) : State :=
  let s0 := { s with evq := { s.evq with entries := [] } }
  let s1 := stopNetwork (dropAll (enterMode .boot trigger s0))
  let s2 := s1.modLanes (fun l =>
    { ({} : LaneSt) with cause := l.cause, reintegrations := l.reintegrations, peak := 0 })
  let c := s2.ctl
  let s3 := { s2 with
    ctl := { c with
      stage := 1, startAt := s2.time.now, stageEnds := [0, 4294967295, 4294967295, 4294967295], warm := false
      warmRestart := none, warmDenied := false, holdDropped := 0, pending := none, waiting := [], image := none
      rejection := 0, digest := { p := 0, q := 0 }, placement := 7, requested := 7, moveState := 0, moved := 0
      exchange := none, report := [], forces := [], tasks := List.replicate 16 {}, sealed := none, ownImage := none
      imageReady := false, change := { ({} : ChangeSet) with stored := c.change.stored } }
    cis := { ({} : Cistern) with retA := s2.cis.retA, retB := s2.cis.retB, retNextB := s2.cis.retNextB
                                 lastSnapshot := s2.cis.lastSnapshot }
    rek := { ({} : Reckoner) with
      unanimous := s2.rek.unanimous, majority := s2.rek.majority, late := s2.rek.late, split := s2.rek.split
      scrubs := s2.rek.scrubs, mismatches := s2.rek.mismatches, pourFails := s2.rek.pourFails
      restarts := s2.rek.restarts, selfTests := s2.rek.selfTests, dissA := s2.rek.dissA, dissB := s2.rek.dissB
      dissC := s2.rek.dissC }
    od := flushStore s2.od
    upd := { s2.upd with trialStarts := if s2.upd.trialKind.isSome then s2.upd.trialStarts + 1 else s2.upd.trialStarts } }
  let tb := match s3.loaded s3.slotBytes with
    | some a => a.tbCode
    | none => 1
  let s4 := { s3 with ctl := { s3.ctl with tbCode := tb } }
  if s4.pair.inPair then
    setDrive false { s4 with pair := { ({} : Pair) with
      inPair := true, preferred := s4.pair.preferred, epoch := s4.pair.epoch, partner := s4.pair.partner
      partnerId := s4.pair.partnerId, heartAt := s4.pair.heartAt, heartSince := s4.pair.heartSince
      seqIn := s4.pair.seqIn, seqOut := s4.pair.seqOut, refereeAt := s4.pair.refereeAt
      takeovers := s4.pair.takeovers, lastTakeover := s4.pair.lastTakeover, rejected := s4.pair.rejected
      resyncs := s4.pair.resyncs, resyncFails := s4.pair.resyncFails } }
  else s4

end Sys2Proof.Machine
end

