-- ==== Sys2Proof/Machine/TimeSync.lean ====
section
/-! DEFINITION. Time base and synchronisation (chapter 10), and the guardians' closing causes (R258). -/

namespace Sys2Proof.Machine

/-! ### The guardians' closing causes (R258) -/

/-- A closing cause by its bit of 0x5200:03. -/
def causeBit (i : Nat) : BitVec 8 := BitVec.ofNat 8 (2 ^ i)

/-- Is closing cause `i` active? -/
def State.hasCause (s : State) (i : Nat) : Bool := s.sw.causes.getLsbD i

/-- Sets a closing cause; closing raises GUARDIAN-CLOSED with the cause. -/
def closeGuard (i : Nat) (s : State) : State :=
  if s.hasCause i then s
  else
    let s1 := { s with sw := { s.sw with causes := s.sw.causes ||| causeBit i } }
    if s.sw.causes = 0 then
      raise evGuardianClosed [causeBit i] { s1 with sw := { s1.sw with closures := satAdd 32 s1.sw.closures 1 } }
    else s1

/-- Clears a closing cause; the guardians reopen when no cause remains. -/
def clearGuard (i : Nat) (s : State) : State :=
  if s.hasCause i then
    let s1 := { s with sw := { s.sw with causes := s.sw.causes &&& ~~~(causeBit i) } }
    raiseIf (s1.sw.causes = 0) evGuardianReopened [] s1
  else s

/-! ### Slots -/

/-- One PTP slot. -/
def State.ptp (s : State) (j : Fin 2) : PtpSlot := if j = 0 then s.time.slot0 else s.time.slot1

/-- Changes one PTP slot. -/
def State.modPtp (s : State) (j : Fin 2) (f : PtpSlot → PtpSlot) : State :=
  if j = 0 then { s with time := { s.time with slot0 := f s.time.slot0 } }
  else { s with time := { s.time with slot1 := f s.time.slot1 } }

/-- The other slot. -/
def otherSlot (j : Fin 2) : Fin 2 := if j = 0 then 1 else 0

/-- The subindex of an object of a slot (0x6001). -/
def ptpSub (j : Fin 2) (k : Nat) : Nat := 16 * j.val + k

/-- An interval given as a base-2 logarithm of seconds, in ns (R267). -/
def logNs (l : Int) : Nat := if 0 ≤ l then 1000000000 * 2 ^ l.toNat else 1000000000 / 2 ^ (-l).toNat

/-- The Sync interval of a slot in ns. -/
def State.syncNs (s : State) (j : Fin 2) : Nat := logNs (s.odForceInt 0x6001 (ptpSub j 0x08))
/-- The Announce interval of a slot in ns. -/
def State.announceNs (s : State) (j : Fin 2) : Nat := logNs (s.odForceInt 0x6001 (ptpSub j 0x09))

/-- The jump threshold in ns (R276). -/
def State.jumpLimit (s : State) : Nat := s.odNat 0x6002 0x01

/-- The guardian limit in ns (R258). -/
def State.guardLimit (s : State) : Nat := s.odForceNat 0x5200 0x02

/-- Is a slot eligible (R274)? -/
def State.eligible (s : State) (j : Fin 2) : Bool :=
  let x := s.ptp j
  x.state = .locked && (decide (16 ≤ x.run50) && (match x.refusedAt with
    | none => true
    | some r => decide (r + 10000000000 ≤ s.time.now)))

/-- The drift bound of the present HOLDOVER in ns (R275). -/
def State.driftBound (s : State) : Nat :=
  match s.time.holdoverSince with
  | some h => (s.time.now - h) * 500 / 1000000000
  | none => 0

/-- TIME_LOCKED as R275 states it. -/
def State.lockedNow (s : State) : Bool :=
  match s.time.state with
  | .locked => true
  | .grandmaster => true
  | .holdover => match s.time.holdoverSince with
    | some h => decide ((s.time.now - h) * 500 < s.guardLimit * 1000000000)
    | none => true
  | .free => false
  | .slewing => false

/-- The offset that R258 compares: that of the selected slot, in HOLDOVER the drift bound. -/
def State.guardOffset (s : State) : Nat :=
  match s.time.state with
  | .holdover => s.driftBound
  | .grandmaster => 0
  | .free => (s.ptp s.time.selected).offset.natAbs
  | .locked => (s.ptp s.time.selected).offset.natAbs
  | .slewing => (s.ptp s.time.selected).offset.natAbs

/-- TIME_LOCKED and the guardians' TIME cause follow the time state and the offset (R275, R258). -/
def timeGuard (s : State) : State :=
  let s1 := { s with time := { s.time with timeLocked := s.lockedNow } }
  if s1.guardLimit < s1.guardOffset ∨ !s1.time.timeLocked then closeGuard 0 s1
  else if 16 ≤ (s1.ptp s1.time.selected).runBelow then clearGuard 0 s1 else s1

/-- The module time state changes; entries into LOCKED and HOLDOVER raise their events (R273). -/
def setTime (new : TState) (s : State) : State :=
  if s.time.state = new then s
  else
    let s1 := { s with time := { s.time with
      state := new, holdoverSince := if new = .holdover then some s.time.now else none } }
    if new = .locked then raise evTimeLocked [] s1 else if new = .holdover then raise evTimeHoldover [] s1 else s1

/-- The number of a slot in records. -/
def slotByte (j : Fin 2) : Byte := BitVec.ofNat 8 j.val

/-- Selects a slot: event DOMAIN-SWITCHED (R274). -/
def selectSlot (j : Fin 2) (s : State) : State :=
  if s.time.selected = j then s
  else raise evDomainSwitched [slotByte s.time.selected, slotByte j] { s with time := { s.time with selected := j } }

/-- The selected slot no longer delivers: HOLDOVER when no slot is eligible (R273, R274). -/
def loseReference (s : State) : State :=
  if s.time.state = .locked ∧ !s.eligible (otherSlot s.time.selected) then setTime .holdover s else s

/-- The time state follows the slots: LOCKED after acquisition, from HOLDOVER, and after a completed slew (R273). -/
def followSlots (s : State) : State :=
  let sel := (s.ptp s.time.selected).state
  match s.time.state with
  | .free =>
    if sel = .grandmaster then setTime .grandmaster s
    else if s.time.acquired ∧ sel = .locked then setTime .locked s else s
  | .holdover =>
    if sel = .grandmaster then setTime .grandmaster s
    else if sel = .locked ∨ s.eligible 0 ∨ s.eligible 1 then setTime .locked s else s
  | .slewing =>
    if sel = .grandmaster then setTime .grandmaster s
    else if s.time.slew = 0 ∧ sel = .locked then setTime .locked s else s
  | .grandmaster => if sel = .locked then setTime .locked s else s
  | .locked => if sel = .grandmaster then setTime .grandmaster s else s

/-! ### Offset samples (R271 to R279) -/

/-- Phase corrections of the counter since a time, in ns. -/
def State.phaseSince (s : State) (since : Nat) : Int := s.time.phase * ((s.time.now - since : Nat) : Int) / 100000000000

/-- Modes in which the counter may step (R279). -/
def Mode.maySteps : Mode → Bool
  | .fabricOnly => true
  | .boot => true
  | .stop => true
  | .faultStop => true
  | .off => false
  | .run => false
  | .hold => false
  | .standby => false

/-- A sample that R276 refuses. -/
def refuseSample (j : Fin 2) (change : Int) (s : State) : State :=
  let near := fun (v : Int) => decide ((change - v).natAbs ≤ s.jumpLimit)
  let s1 := s.modPtp j (fun x => { x with
    state := .refused, jumps := satAdd 24 x.jumps 1, refusedAt := some s.time.now, eligibleSince := none
    run500 := 0, run50 := 0, runBelow := 0
    moved := match x.moved with
      | some (v, since) => if near v then some (v, since) else some (change, s.time.now)
      | none => some (change, s.time.now) })
  let s2 := raise evJumpRefused (slotByte j :: leBytes 7 (wrapNat 56 change)) s1
  if s.time.selected = j then loseReference s2 else s2

/-- The counts and the state of a slot after an accepted sample (R272, R274, R258). -/
def acceptSlot (offset : Int) (x : PtpSlot) : PtpSlot :=
  let n := offset.natAbs
  let run500 := if n ≤ 500 then x.run500 + 1 else 0
  let base : SlotState := if x.state = .locked then .locked else .measuring
  { x with
    accepted := some offset, corrected := 0, moved := none
    run500, run50 := if n ≤ 50 then x.run50 + 1 else 0, runBelow := if n < 500 then x.runBelow + 1 else 0
    state := if base = .locked then (if n ≤ 500 then .locked else .measuring) else if 16 ≤ run500 then .locked else .measuring }

/-- The servo's new rate from an accepted offset of the selected slot, within the limits of R261 (R284). -/
def servo (offset : Int) (s : State) : State :=
  let host := hostMode s 2
  let o := if host then offset + s.odInt 0x6000 0x0D else offset
  let tc := if host then s.odNat 0x6000 0x0C else 16
  { s with time := { s.time with
    rate := clampInt (-20000000) 20000000 (Config.servoRate s.time.rate o tc)
    phase := clampInt (-10000000) 10000000 (Config.servoPhase s.time.rate o tc), rateUpdateAt := s.time.now } }

/-- In LOCKED the offset of the selected slot counts for TIME-OFFSET: the one with the largest magnitude is kept (R408). -/
def noteOffset (j : Fin 2) (offset : Int) (s : State) : State :=
  if s.time.selected = j ∧ s.time.state = .locked ∧ (s.time.worst.getD 0).natAbs ≤ offset.natAbs then
    { s with time := { s.time with worst := some offset } }
  else s

/-- An accepted sample: the slot, the selection of R274, the servo and the time state. -/
def acceptSample (j : Fin 2) (offset : Int) (s : State) : State :=
  let s1 := s.modPtp j (acceptSlot offset)
  let s2 := s1.modPtp j (fun x => { x with eligibleSince := if s1.eligible j then some (x.eligibleSince.getD s.time.now) else none })
  let selSt := (s2.ptp s2.time.selected).state
  let s3 := if s2.time.selected ≠ j ∧ (selSt = .silent ∨ selSt = .refused) ∧ s2.eligible j then selectSlot j s2 else s2
  let s4 := if s3.time.selected = j ∧ s3.time.state ≠ .slewing then servo offset s3 else s3
  noteOffset j offset (followSlots s4)

/-- A written servo mode takes effect at the next offset sample (R284, R395). -/
def servoSwitch (s : State) : State :=
  match s.time.servoPending with
  | some m =>
    if hostMode s 2 == m then { s with time := { s.time with servoPending := none } }
    else
      let s1 := { s with
        time := { s.time with servoPending := none, hostServo := m }
        od := { s.od with funcModes := modAt 1 (fun _ => m) s.od.funcModes } }
      raise evFunctionModeChanged [2, BitVec.ofNat 8 (b2n m)] (raise evServoModeChanged [BitVec.ofNat 8 (b2n m)] s1)
  | none => s

/-- Acquisition: in FABRIC-ONLY, BOOT, STOP and FAULT-STOP the counter will step at the next boundary (R279, R281). -/
def acquire (j : Fin 2) (offset : Int) (s : State) : State :=
  let s1 := { s with time := { s.time with
    acquired := true, armed := false, calendarValid := true, stepPending := some (offset, false) } }
  raise evTimeAcquired [] (s1.modPtp j (fun x => { x with
    accepted := some offset, corrected := 0, state := .measuring, run500 := 0, run50 := 0, runBelow := 0 }))

/-- PTP_SYNC: one offset sample of a slot (R271 to R276, R279). -/
def execPtpSync (t : Nat) (j : Fin 2) (offset : Int) (s0 : State) : Out :=
  let s := s0.atTime t
  let x := s.ptp j
  .next (if x.state = .disabled ∨ x.state = .grandmaster ∨ x.master.isNone ∨ x.delay.isNone then s
    else
      let s1 := servoSwitch s
      let corrected := x.corrected + (match x.sampleAt with
        | some at0 => s1.phaseSince at0
        | none => 0)
      let s2 := s1.modPtp j (fun y => { y with offset, sampleAt := some s.time.now, corrected })
      let change := offset - x.accepted.getD 0 - (if x.accepted.isSome then corrected else 0)
      let first := s2.time.armed && s2.time.selected = j
      timeGuard (
        if first && s2.ctl.mode.maySteps then acquire j offset s2
        else if s2.jumpLimit < change.natAbs then refuseSample j change s2
        else acceptSample j offset (if first then
            { s2 with time := { s2.time with acquired := true, armed := false, calendarValid := true } }
          else s2)))

/-- SYNC_SILENCE: no valid sample for 3 sync intervals (R271, R272). -/
def execSyncSilence (t : Nat) (j : Fin 2) (s : State) : Out :=
  let s := s.atTime t
  let x := s.ptp j
  .next (if (x.state = .measuring ∨ x.state = .locked) ∧ (x.sampleAt.getD 0) + 3 * s.syncNs j ≤ s.time.now then
      let s1 := s.modPtp j (fun x => { x with state := .silent, eligibleSince := none, run500 := 0, run50 := 0, runBelow := 0 })
      timeGuard (if s.time.selected = j then loseReference s1 else s1)
    else s)

/-! ### Best master clock (R267, R282, R283) -/

/-- The attributes in the order the best master clock algorithm compares. -/
def announceRank (a : Announce) : List Nat :=
  [a.priority1.toNat, a.clockClass.toNat, a.accuracy.toNat, a.variance.toNat, a.priority2.toNat, a.gm.toNat, a.steps]

/-- Lexicographic order of attribute lists. -/
def rankLt : List Nat → List Nat → Bool
  | a :: as, b :: bs => decide (a < b) || (decide (a = b) && rankLt as bs)
  | [], [] => false
  | [], _ :: _ => true
  | _ :: _, [] => false

/-- The module's own announced attributes (R267). -/
def State.ownRank (s : State) (j : Fin 2) : List Nat :=
  [s.odForceNat 0x6001 (ptpSub j 0x06), 248, 0xFE, 0xFFFF, s.odForceNat 0x6001 (ptpSub j 0x07), Config.clockIdentity.toNat, 0]

/-- May the slot become master: not slave-only, and not a transparent clock (R265)? -/
def State.mayMaster (s : State) (j : Fin 2) : Bool :=
  !s.odForceBool 0x6001 (ptpSub j 0x05) && s.odForceNat 0x6001 (ptpSub j 0x04) != 2

/-- The last second of the present UTC day as a TAI second (R283). -/
def State.dayEnd (s : State) : Nat :=
  let utc := (((s.time.now / 1000000000 : Nat) : Int) - s.time.utcOffset).toNat
  (((utc / 86400 + 1) * 86400 : Nat) + s.time.utcOffset).toNat

/-- What the selected master's Announce tells of UTC (R282, R283). -/
def utcFrom (a : Announce) (s : State) : State :=
  let fresh := (a.leap61 && !s.time.leap61) || (a.leap59 && !s.time.leap59)
  let at0 := if a.leap61 then s.dayEnd else s.dayEnd - 1
  let s1 := { s with time := { s.time with
    utcValid := a.utcValid, utcReceived := if a.utcValid then some a.utcOffset else s.time.utcReceived
    leap61 := a.leap61, leap59 := a.leap59, leapAt := if fresh then at0 else if a.leap61 || a.leap59 then s.time.leapAt else 0 } }
  raiseIf fresh evLeapAnnounced [BitVec.ofNat 8 (if a.leap61 then 61 else 59)] s1

/-- A new best master for a slot: its grandmaster is reported when it changes (R272). -/
def takeMaster (j : Fin 2) (p : Fin 11) (a : Announce) (s : State) : State :=
  let x := s.ptp j
  let same := decide (x.master.map (fun m => (m.1.gm, m.2)) = some (a.gm, p))
  let s1 := s.modPtp j (fun x => { x with
    master := some (a, p), announceAt := s.time.now, gm := a.gm, delay := if same then x.delay else none
    state := if x.state = .grandmaster then .listening else x.state })
  let s2 := raiseIf (x.gm ≠ a.gm) evGrandmasterChanged (slotByte j :: leBytes 7 a.gm.toNat) s1
  if s.time.selected = j then utcFrom a s2 else s2

/-- The module becomes grandmaster of a domain (R272, R273). -/
def becomeGrandmaster (j : Fin 2) (s : State) : State :=
  let s1 := s.modPtp j (fun x => { x with
    state := .grandmaster, master := none, gm := Config.clockIdentity, eligibleSince := some s.time.now, runBelow := 0 })
  timeGuard (followSlots (raiseIf ((s.ptp j).gm ≠ Config.clockIdentity) evGrandmasterChanged
    (slotByte j :: leBytes 7 Config.clockIdentity.toNat) s1))

/-- PTP_ANNOUNCE (R267). -/
def execPtpAnnounce (t : Nat) (j : Fin 2) (p : Fin 11) (a : Announce) (s : State) : Out :=
  let s := s.atTime t
  let x := s.ptp j
  let rank := announceRank a
  .next (if x.state = .disabled then s
    else if s.mayMaster j && rankLt (s.ownRank j) rank then (if x.state = .listening then becomeGrandmaster j s else s)
    else
      match x.master with
      | some (m, q) => if (m.gm = a.gm ∧ q = p) ∨ rankLt rank (announceRank m) then takeMaster j p a s else s
      | none => takeMaster j p a s)

/-- ANNOUNCE_TIMEOUT: no Announce for 3 intervals (R267). -/
def execAnnounceTimeout (t : Nat) (j : Fin 2) (s : State) : Out :=
  let s := s.atTime t
  let x := s.ptp j
  .next (if x.state = .disabled ∨ x.state = .grandmaster ∨ s.time.now < x.announceAt + 3 * s.announceNs j then s
    else
      let s1 := s.modPtp j (fun x => { x with master := none, delay := none })
      if s.mayMaster j ∧ x.state = .listening then becomeGrandmaster j s1 else s1)

/-- PTP_DELAY_MESSAGE: a response gives the path delay; a request to a master port is answered (R271). -/
def execPtpDelayMessage (t : Nat) (j : Fin 2) (p : Fin 11) (m : DelayMsg) (delay : Int) (s : State) : Out :=
  let s := s.atTime t
  let x := s.ptp j
  let measured := (s.modPtp j (fun x => { x with delay := some delay }))
  let peer := { s with sw := { s.sw with ports := modAt p.val (fun q => { q with linkDelay := delay }) s.sw.ports } }
  .next (if x.state = .disabled then s
    else
      match m with
      | .delayReq => if x.state = .grandmaster then s.emit (.ptp j p 9 0) else s
      | .delayResp => if x.master.map (·.2) = some p then measured else s
      | .pdelayReq => s.emit (.ptp j p 3 0)
      | .pdelayResp => if x.master.map (·.2) = some p then peer.modPtp j (fun x => { x with delay := some delay }) else peer
      | .pdelayRespFollowUp => if x.master.map (·.2) = some p then peer.modPtp j (fun x => { x with delay := some delay }) else peer)

/-- PTP_MANAGEMENT: a GET is answered, a SET discarded (R264). -/
def execPtpManagement (t : Nat) (j : Fin 2) (p : Fin 11) (get : Bool) (_dataSet : BitVec 16) (s : State) : Out :=
  let s := s.atTime t
  .next (if get ∧ (s.ptp j).state ≠ .disabled then s.emit (.ptp j p 13 0) else s)

/-- Is the slot master on a port: grandmaster, or a boundary clock's port other than its slave port (R265)? -/
def State.masterOn (s : State) (j : Fin 2) (p : Fin 11) : Bool :=
  let x := s.ptp j
  x.state = .grandmaster || (x.state != .disabled && (s.odForceNat 0x6001 (ptpSub j 0x04) = 1 &&
    (match x.master with
      | some m => decide (m.2 ≠ p)
      | none => false)))

/-- PTP_SYNC_SEND: one-step Sync, two-step under GPTP (R264); 16 intervals as grandmaster clear the TIME cause (R258). -/
def execPtpSyncSend (t : Nat) (j : Fin 2) (p : Fin 11) (s : State) : Out :=
  let s := s.atTime t
  .next (if s.masterOn j p then
      let s1 := s.emitAll (if s.odForceNat 0x6001 (ptpSub j 0x03) = 2 then [.ptp j p 0 0, .ptp j p 8 0] else [.ptp j p 0 0])
      let x := s1.ptp j
      if x.state = .grandmaster ∧ (x.eligibleSince.getD s.time.now) + 16 * s.syncNs j ≤ s.time.now then
        timeGuard (s1.modPtp j (fun x => { x with runBelow := 16 }))
      else s1
    else s)

/-- ANNOUNCE_SEND. -/
def execAnnounceSend (t : Nat) (j : Fin 2) (p : Fin 11) (s : State) : Out :=
  let s := s.atTime t
  .next (if s.masterOn j p then s.emit (.ptp j p 11 0) else s)

/-- DELAY_REQ_SEND: Delay_Req on the slave port, Pdelay_Req on every port of a peer-to-peer profile. -/
def execDelayReqSend (t : Nat) (j : Fin 2) (p : Fin 11) (s : State) : Out :=
  let s := s.atTime t
  let x := s.ptp j
  .next (if x.state = .disabled then s
    else if s.odForceNat 0x6001 (ptpSub j 0x03) ≠ 0 then s.emit (.ptp j p 2 0)
    else if x.master.map (·.2) = some p then s.emit (.ptp j p 1 0) else s)

/-- FOLLOW_UP: a pending residence time of the same sequence, source port and egress port is added (R270). -/
def execFollowUp (t : Nat) (p : Fin 11) (seqId : BitVec 16) (srcPort : BitVec 80) (correction : Int) (s : State) : Out :=
  let s := s.atTime t
  let live := s.time.residences.filter (fun r => s.time.now ≤ r.time + 1000000000)
  let hit := fun (r : Residence) => r.seqId = seqId && (r.srcPort = srcPort && r.port = p)
  .next (match live.find? hit with
    | some r =>
      let s1 := { s with time := { s.time with residences := live.filter (fun r => !hit r) } }
      let sum := correction + (r.residence : Int)
      if 2 ^ 47 ≤ sum then
        s1.modPtp s1.time.selected (fun x => { x with tcDrops := satAdd 8 x.tcDrops 1 })
      else s1.emit (.ptp 0 p 8 sum)
    | none =>
      raise evFollowUpUnmatched (d16' seqId) { s with time := { s.time with
        residences := live, unmatched := satAdd 32 s.time.unmatched 1 } })
where
  /-- The sequence number in the record. -/
  d16' (q : BitVec 16) : Bytes := leBytes 2 q.toNat

/-! ### Selection, holdover, moves (R274 to R280) -/

/-- DOMAIN_PREFERENCE: the preferred slot has been eligible for 10 s (R274). -/
def execDomainPreference (t : Nat) (s : State) : Out :=
  let s := s.atTime t
  let j : Fin 2 := if s.odNat 0x6001 0x21 = 0 then 0 else 1
  .next (match (s.ptp j).eligibleSince with
    | some e => if s.time.selected ≠ j ∧ s.eligible j ∧ e + 10000000000 ≤ s.time.now then
        timeGuard (followSlots (selectSlot j s)) else s
    | none => s)

/-- HOLDOVER_EXHAUSTED: the drift bound has reached the guardian limit (R275). -/
def execHoldoverExhausted (t : Nat) (s : State) : Out :=
  let s := s.atTime t
  .next (if s.time.state = .holdover ∧ s.time.timeLocked ∧ !s.lockedNow then timeGuard (raise evHoldoverExhausted [] s) else s)

/-- Does a slot deliver offsets? -/
def State.delivers (s : State) (j : Fin 2) : Bool :=
  let x := s.ptp j
  x.state != .disabled && (x.state != .grandmaster && (x.master.isSome && (match x.sampleAt with
    | some a => decide (s.time.now < a + 3 * s.syncNs j)
    | none => false)))

/-- The steady move on which every delivering slot agrees, if R277 holds. -/
def State.steadyMove (s : State) : Option Int :=
  let js := [(0 : Fin 2), 1].filter (fun j => s.delivers j)
  let vals := js.filterMap (fun j => if (s.ptp j).state = .refused then (match (s.ptp j).moved with
    | some (v, since) => if since + 10000000000 ≤ s.time.now then some v else none
    | none => none) else none)
  match vals with
  | v :: vs => if vals.length = js.length ∧ vs.all (fun w => decide ((w - v).natAbs ≤ s.jumpLimit)) then some v else none
  | [] => none

/-- The sign of a phase correction that removes an offset. -/
def slewPhase (move : Int) : Int := if 0 < move then -10000000 else 10000000

/-- Modes in which FREE time may slew (R273). -/
def Mode.active : Mode → Bool
  | .run => true
  | .hold => true
  | .standby => true
  | .off => false
  | .fabricOnly => false
  | .boot => false
  | .stop => false
  | .faultStop => false

/-- REFERENCE_MOVED (R277, R278). -/
def execReferenceMoved (t : Nat) (s : State) : Out :=
  let s := s.atTime t
  .next (match s.steadyMove with
    | none => s
    | some v =>
      let adopt := fun (x : PtpSlot) => if x.state = .refused ∧ x.moved.isSome then
        { x with state := .measuring, accepted := some x.offset, corrected := 0, moved := none } else x
      let s1 := raise evReferenceMoved (leBytes 8 (wrapNat 64 v)) ((s.modPtp 0 adopt).modPtp 1 adopt)
      let move := (s1.ptp s1.time.selected).offset
      if move.natAbs ≤ 100000000 ∧ (s1.time.state ≠ .free ∨ s1.ctl.mode.active) then
        timeGuard (setTime .slewing { s1 with time := { s1.time with
          slew := move, phase := slewPhase move, rateUpdateAt := s.time.now, refMoved := none, acquired := true, armed := false } })
      else timeGuard { s1 with time := { s1.time with refMoved := some move } })

/-- The ns still to slew (0x6000:0E, R278). -/
def State.slewLeft (s : State) : Int :=
  let gone : Int := ((s.time.now - s.time.rateUpdateAt) / 10000 : Nat)
  if s.time.slew = 0 then 0
  else if 0 < s.time.slew then max 0 (s.time.slew - gone) else min 0 (s.time.slew + gone)

/-- SLEW_COMPLETE (R278). -/
def execSlewComplete (t : Nat) (s : State) : Out :=
  let s := s.atTime t
  .next (if s.time.state = .slewing ∧ s.time.slew ≠ 0 ∧ s.slewLeft = 0 then
      timeGuard (followSlots (raise evSlewComplete [] { s with time := { s.time with slew := 0, phase := 0 } }))
    else s)

/-- SERVO_UPDATE_TIMEOUT: no rate update for 2 sync intervals in host-assisted mode (R284). -/
def execServoUpdateTimeout (t : Nat) (s : State) : Out :=
  let s := s.atTime t
  .next (if hostMode s 2 ∧ (s.time.state = .locked ∨ s.time.state = .slewing) then timeGuard (setTime .holdover s) else s)

/-- REBASE judged at its boundary (R280): result 1 DONE, 2 REFUSED-MODE, 3 REFUSED-STATE. -/
def doRebase (s : State) : State :=
  let x := s.ptp s.time.selected
  let res := fun (n : Nat) => { s with time := { s.time with cmdResult := n } }
  if s.ctl.mode ≠ .stop then res 2
  else if s.time.refMoved.isSome ∨ (s.time.state = .free ∧ x.sampleAt.isSome) then
    raise evTimeRebased [] { s with time := { s.time with
      cmdResult := 1, stepPending := some (x.offset, true), refMoved := none, acquired := true, armed := false, calendarValid := true } }
  else res 3

/-! ### What a boundary does to the time base (R281 to R283) -/

/-- The UTC offset in effect from a boundary on (R282, R283). -/
def utcBoundary (s : State) : State :=
  let due := s.time.leapAt ≠ 0 ∧ ((s.time.leap61 ∧ (s.time.leapAt + 1) * 1000000000 ≤ s.time.now) ∨
    (s.time.leap59 ∧ s.time.leapAt * 1000000000 ≤ s.time.now))
  if due then
    let new := if s.time.leap61 then s.time.utcOffset + 1 else s.time.utcOffset - 1
    let fix := fun (x : PtpSlot) => { x with
      master := x.master.map (fun m => ({ m.1 with utcOffset := new, leap61 := false, leap59 := false }, m.2)) }
    let s1 := (s.modPtp 0 fix).modPtp 1 fix
    raise evLeapApplied (leBytes 2 (wrapNat 16 new)) { s1 with time := { s1.time with
      utcOffset := new, utcReceived := some new, leap61 := false, leap59 := false, leapAt := 0 } }
  else
    let fromMaster := (s.ptp s.time.selected).master.bind (fun m => if m.1.utcValid then some m.1.utcOffset else none)
    { s with time := { s.time with utcOffset := fromMaster.getD (s.time.utcReceived.getD (s.odInt 0x6000 0x09)) } }

/-- A group after a step: pending output frames and unsent edges are dropped (R281). -/
def Group.stepped (q : Group) : Group := { q with pending := [], edgeQueue := [] }

/-- TIME_STEP: the counter steps at a boundary of the old grid (R281). -/
def timeStep (s : State) : State :=
  match s.time.stepPending with
  | none => s
  | some (offset, _) =>
    if !s.ctl.mode.maySteps then { s with time := { s.time with stepPending := none } }
    else
      let new := (((s.time.now : Nat) : Int) - offset).toNat
      let d : Int := (new : Int) - (s.time.now : Int)
      let first := roundUp s.tb new
      let grid := if 2 * (first - new) < s.tb then first + s.tb else first
      let slot := fun (x : PtpSlot) => { x with corrected := x.corrected + d, sampleAt := x.sampleAt.map (fun _ => new), run500 := 0, run50 := 0, runBelow := 0 }
      let lost := s.fio.edges.length + (s.fio.groups.map (fun q => q.edgeQueue.length)).foldl (· + ·) 0
      { s with
        time := { s.time with
          now := new, stepPending := none, steps := satAdd 32 s.time.steps 1, lastStep := d, strobeMark := true, gridFrom := grid
          slot0 := slot s.time.slot0, slot1 := slot s.time.slot1 }
        sw := { s.sw with guardTime := List.replicate 11 none }
        fio := { s.fio with groups := s.fio.groups.map Group.stepped, edges := [], dropped := satAdd 16 s.fio.dropped lost } }

end Sys2Proof.Machine
end

