-- ==== Sys2Proof/Machine/SwitchOps.lean ====
section
/-! DEFINITION. The consist switch's tables (chapter 9): ports, streams, windows, the cycle matrix and its checks,
queues, wire times and guardians. -/

namespace Sys2Proof.Machine

/-! ### Ports (R235) -/

/-- One port. -/
def State.port (s : State) (p : Fin 11) : Port := (s.sw.ports[p.val]?).getD {}

/-- Changes one port. -/
def State.modPort (s : State) (p : Fin 11) (f : Port → Port) : State :=
  { s with sw := { s.sw with ports := modAt p.val f s.sw.ports } }

/-- The subindex of an object of a port (0x5000). -/
def portSub (p : Fin 11) (k : Nat) : Nat := 16 * p.val + k

/-- Is a port enabled? -/
def State.portEnabled (s : State) (p : Fin 11) : Bool := s.odForceBool 0x5000 (portSub p 1)

/-- The port number in records. -/
def portByte (p : Fin 11) : Byte := BitVec.ofNat 8 p.val

/-- The place of a scheduled egress port among the seven window tables: E1 to E6, BL2. -/
def schedNo (p : Fin 11) : Option Nat :=
  if 1 ≤ p.val ∧ p.val ≤ 6 then some (p.val - 1) else if p.val = 9 then some 6 else none

/-- The scheduled egress ports. -/
def schedPorts : List (Fin 11) := [1, 2, 3, 4, 5, 6, 9]

/-- The ports among which the switch forwards. -/
def switchPorts : List (Fin 11) := [1, 2, 3, 4, 5, 6, 9, 10]

/-- The redundant pair of a port: E1/E2 is 0, E3/E4 is 1. -/
def pairOf (p : Fin 11) : Option (Fin 2) :=
  if p.val = 1 ∨ p.val = 2 then some 0 else if p.val = 3 ∨ p.val = 4 then some 1 else none

/-- The mode of a redundant pair: 0 NONE, 1 PRP, 2 HSR (R242). -/
def State.redMode (s : State) (k : Fin 2) : Nat := s.odForceNat 0x5300 (k.val + 1)

/-- The mode in which a port works. -/
def State.portRed (s : State) (p : Fin 11) : Nat := ((pairOf p).map s.redMode).getD 0

/-- The other port of a redundant pair. -/
def partnerPort (p : Fin 11) : Fin 11 :=
  if p.val = 1 then 2 else if p.val = 2 then 1 else if p.val = 3 then 4 else if p.val = 4 then 3 else p

/-- The module's own MAC address: the base address from which its clockIdentity is formed (R267; assumption 21). -/
def ownMac : BitVec 48 := Config.clockIdentity.extractLsb' 40 24 ++ Config.clockIdentity.extractLsb' 0 24

/-- Is an address a group address? -/
def groupMac (m : BitVec 48) : Bool := m.getLsbD 40

/-! ### Streams (R245) -/

/-- DEST_MAC. -/
def stDest (b : Bytes) : BitVec 48 := BitVec.ofNat 48 (beAt b 0 6)
/-- VID. -/
def stVid (b : Bytes) : BitVec 12 := BitVec.ofNat 12 (leAt b 6 2)
/-- VALID. -/
def stValid (b : Bytes) : Bool := (leAt b 8 1).testBit 0
/-- LOCAL. -/
def stLocal (b : Bytes) : Bool := (leAt b 8 1).testBit 1
/-- VITAL. -/
def stVital (b : Bytes) : Bool := (leAt b 8 1).testBit 2
/-- ARRIVAL_CHECK. -/
def stCheck (b : Bytes) : Bool := (leAt b 8 1).testBit 3
/-- MAX_LEN. -/
def stMaxLen (b : Bytes) : Nat := leAt b 0x0C 2
/-- Is a stream active in a column? -/
def stActive (b : Bytes) (c : Nat) : Bool := c % 2 ^ leAt b 0x0A 1 = leAt b 0x0B 1

/-- The beacon stream of the open matrix: its MAC and VID as R253 fixes them. -/
def State.beaconStream (s : State) : Bytes := patch beaconStreamEntry 6 (leBytes 2 (s.odForceNat 0x5000 0x02))

/-- The stream table in force. -/
def State.streams (s : State) : List Bytes := (s.sw.matrix.map (·.streams)).getD [s.beaconStream]

/-- One stream of the table in force. -/
def State.stream (s : State) (n : Nat) : Bytes := (s.streams[n]?).getD []

/-- The stream that a destination and VID name (R238). -/
def State.findStream (s : State) (dest : BitVec 48) (vid : BitVec 12) : Option Nat :=
  (s.streams.zipIdx.find? (fun e => stValid e.1 && (stDest e.1 = dest && stVid e.1 = vid))).map (·.2)

/-! ### Windows (R246) -/

structure Win where
  /-- A window of one column: KIND, opening and end in ns from the boundary, STREAM, CLASSES. -/
  kind : Nat
  column : Nat
  start : Nat
  stop : Nat
  stream : Nat
  classes : Nat
deriving DecidableEq, Repr

/-- Reads a window entry. -/
def readWin (w : Word) : Win :=
  let n := w.toNat
  { kind := field n 63 62, column := field n 61 56, start := 40 * field n 55 40
    stop := 40 * (field n 55 40 + field n 39 24), stream := field n 23 12, classes := field n 7 0 }

/-- The window table in force on scheduled port number `k`. -/
def State.winTable (s : State) (k : Nat) : List Win :=
  match s.sw.matrix with
  | some m => ((m.windows[k]?).getD []).map readWin
  | none => (openWindows s.tb).map (fun n => readWin (BitVec.ofNat 64 n))

/-- The guardian's copy of the window table of scheduled port number `k` (R256). -/
def State.guardTable (s : State) (k : Nat) : List Win :=
  match s.sw.matrix with
  | some _ => ((s.sw.guardCopy[k]?).getD []).map readWin
  | none => (openWindows s.tb).map (fun n => readWin (BitVec.ofNat 64 n))

/-- The window of a table that is open at `x` ns into a cycle of column `c`. -/
def openWin (ws : List Win) (c x : Nat) : Option Win := ws.find? (fun w => w.column = c && (decide (w.start ≤ x) && decide (x < w.stop)))

/-- The EXCLUSIVE windows of a stream in a column. -/
def exclWins (ws : List Win) (c n : Nat) : List Win := ws.filter (fun w => w.kind = 1 && (w.column = c && w.stream = n))

/-- Do the window tables of a port name a stream? -/
def State.portCarries (s : State) (p : Fin 11) (n : Nat) : Bool :=
  match schedNo p with
  | some k => (s.winTable k).any (fun w => w.kind = 1 && w.stream = n)
  | none => false

/-- The wire time in ns of a frame at a link speed code (R250). -/
def wireNs (link len : Nat) : Nat :=
  if link = 1 then (8 + len) * 80 else if link = 3 then ((8 + len) * 16 + 4) / 5 else (8 + len) * 8

/-- The speed code of a scheduled port number when its link is up at full speed. -/
def fullSpeed (k : Nat) : Nat := if k = 6 then 3 else 2

/-! ### The cycle matrix (R247, R248) -/

/-- The matrix as configured. -/
def State.configMatrix (s : State) : Matrix :=
  { m := s.odForceNat 0x5100 0x01, tbCode := s.odForceNat 0x5100 0x02, streams := chunksOf 32 (s.odForce 0x5100 0x03)
    windows := tabulate 7 (fun k => (chunksOf 8 (s.odForce (0x5101 + k) 0x00)).map (fun c => BitVec.ofNat 64 (leNat c))) }

/-- Is any part of a matrix configured? -/
def State.matrixWritten (s : State) : Bool :=
  s.od.inForce.any (fun e => e.1 = odKey 0x5100 0x01 || (e.1 = odKey 0x5100 0x02 || (e.1 = odKey 0x5100 0x03 ||
    inR (odKey 0x5101 0) (odKey 0x5107 0) e.1)))

/-- Do two windows of one column overlap? -/
def winsApart : List Win → Bool
  | [] => true
  | w :: r => r.all (fun v => v.column != w.column || (decide (w.stop ≤ v.start) || decide (v.stop ≤ w.start))) && winsApart r

/-- Check 8 for one entry of the stream table. -/
def streamOk (n : Nat) (b : Bytes) : Bool :=
  !stValid b ||
  (decide (1 ≤ leAt b 6 2 ∧ leAt b 6 2 ≤ 4094) && (decide (leAt b 8 1 < 16) && (decide (leAt b 9 1 ≤ 10) &&
    ((leAt b 9 1 == 0) == stLocal b && (decide (leAt b 0x0A 1 ≤ 6) && (decide (leAt b 0x0B 1 < 2 ^ leAt b 0x0A 1) &&
    (decide (64 ≤ stMaxLen b ∧ stMaxLen b ≤ 1528) && (decide (leAt b 0x12 1 ≤ 200) && (leAt b 0x13 1 == 0 &&
    (decide (leAt b 0x14 2 ≤ 12800) && ((slice b 0x16 10).all (fun x => x == 0) &&
    ((stDest b == 0x034A45000001#48) == (n == 0)))))))))))))

/-- The first failing reason of R247 for a matrix; 0 when every check passes. -/
def matrixReason (s : State) (x : Matrix) : Nat :=
  let tabs := x.windows.map (fun ws => ws.map readWin)
  let tb := tbNs x.tbCode
  let guard := s.odForceNat 0x5200 0x01
  let active := tabs.zipIdx.filter (fun e => s.portEnabled ((schedPorts[e.2]?).getD 1))
  let cols := List.range x.m
  let inCol (ws : List Win) (c : Nat) : List Win := ws.filter (fun w => w.column = c)
  let exclOk (k : Nat) (w : Win) : Bool :=
    w.kind != 1 || ((x.streams[w.stream]?).any (fun b => stValid b && (stActive b w.column &&
      decide (wireNs (fullSpeed k) (stMaxLen b) + (if stLocal b then guard else 0) ≤ w.stop - w.start))))
  let tbWanted := ((s.app.map (·.tbCode)).getD 1)
  if ([1, 2, 4, 8, 16, 32, 64].contains x.m && x.tbCode == tbWanted) = false then 1
  else if tabs.all (fun ws => ws.all (fun w => decide (w.start < w.stop ∧ w.stop ≤ tb ∧ w.column < x.m) && w.kind != 3) &&
      (winsApart ws && cols.all (fun c => decide ((inCol ws c).length ≤ 32)))) = false then 2
  else if tabs.zipIdx.all (fun e => e.1.all (exclOk e.2)) = false then 3
  else if active.all (fun e => cols.all (fun c => (inCol e.1 c).any (fun w => w.kind = 1 && (w.stream = 0 && (w.start = 0 &&
      decide (3000 ≤ w.stop)))))) = false then 4
  else if active.all (fun e => cols.all (fun c => (inCol e.1 c).any (fun w => w.kind = 2 && w.classes.testBit 6))) = false then 5
  else if tabs.all (fun ws => ws.all (fun w => !(w.kind = 2 && w.classes.testBit 7))) = false then 6
  else if ((s.redMode 0 != 1 || x.windows[0]? == x.windows[1]?) && (s.redMode 1 != 1 || x.windows[2]? == x.windows[3]?)) = false then 7
  else if (x.streams.zipIdx.all (fun e => streamOk e.2 e.1) &&
      decide (((x.streams.filter stValid).map (fun b => (stDest b, stVid b))).Nodup)) = false then 8
  else 0

/-- The digest of a matrix (R248): LOCAL and INGRESS taken as zero. -/
def matrixDigest (x : Matrix) : BitVec 32 :=
  let plain (b : Bytes) : Bytes := patch (patch b 8 [BitVec.ofNat 8 (leAt b 8 1 - 2 * b2n (stLocal b))]) 9 [0]
  crc32 ([BitVec.ofNat 8 x.m, BitVec.ofNat 8 x.tbCode] ++ (x.streams.flatMap plain ++
    x.windows.flatMap (fun ws => ws.flatMap (fun w => leBytes 8 w.toNat))))

/-- The open matrix of R247. -/
def State.openMatrix (s : State) : Matrix :=
  { m := 1, tbCode := s.ctl.tbCode, streams := [s.beaconStream]
    windows := List.replicate 7 ((openWindows s.tb).map (BitVec.ofNat 64)) }

/-- The stored matrix is checked and activated, or refused (R247); the guardians load their copy (R256). -/
def activateMatrix (s : State) : State :=
  let s0 := { s with sw := { s.sw with matrix := none, matrixReason := 0, matrixState := 0, guardCopy := [], guardStreams := []
                                       guardTime := List.replicate 11 none } }
  let s1 := { s0 with sw := { s0.sw with digest := matrixDigest s0.openMatrix } }
  if s.matrixWritten = false then clearGuard 2 s1
  else
    let x := s.configMatrix
    let r := matrixReason s x
    if r = 0 then
      let d := matrixDigest x
      raise evMatrixActive (d32 d.toNat) (clearGuard 2 { s1 with sw := { s1.sw with
        matrix := some x, matrixState := 1, digest := d, guardCopy := x.windows, guardStreams := x.streams } })
    else raise evMatrixRefused [BitVec.ofNat 8 r] { s1 with sw := { s1.sw with matrixState := 2, matrixReason := r } }

/-! ### VLANs and addresses (R240, R241) -/

/-- The VLAN table entry of a VID. -/
def State.vlan (s : State) (vid : BitVec 12) : Option Nat :=
  ((chunksOf 4 (s.odForce 0x5000 0x05)).map leNat).find? (fun e => field e 31 20 = vid.toNat)

/-- Is a port a member of a VLAN? E7 and BL1 belong to none. -/
def State.member (s : State) (vid : BitVec 12) (p : Fin 11) : Bool :=
  (p.val != 7 && p.val != 8) && (s.vlan vid).any (fun e => 1 ≤ p.val && e.testBit (9 + p.val))

/-- Does a port send a VLAN untagged? -/
def State.untags (s : State) (vid : BitVec 12) (p : Fin 11) : Bool := (s.vlan vid).any (fun e => 1 ≤ p.val && e.testBit (p.val - 1))

/-- The entry of an address in the MAC table. -/
def State.macEntry (s : State) (m : BitVec 48) (vid : BitVec 12) : Option (BitVec 48 × BitVec 12 × Nat × Bool × Nat) :=
  s.sw.macs.find? (fun e => e.1 = m && e.2.1 = vid)

/-- The static entries of the MAC table (0x5000:06). -/
def State.staticMacs (s : State) : List (BitVec 48 × BitVec 12 × Nat × Bool × Nat) :=
  (chunksOf 12 (s.odForce 0x5000 0x06)).map (fun b => (BitVec.ofNat 48 (beAt b 0 6), BitVec.ofNat 12 (leAt b 6 2), leAt b 8 2, true, 0))

/-- A source address is learnt on a port (R241). -/
def learn (p : Fin 11) (m : BitVec 48) (vid : BitVec 12) (s : State) : State :=
  let put (l : List (BitVec 48 × BitVec 12 × Nat × Bool × Nat)) : List (BitVec 48 × BitVec 12 × Nat × Bool × Nat) :=
    l ++ [(m, vid, 2 ^ (p.val - 1), false, s.time.now)]
  if groupMac m then s
  else
    match s.macEntry m vid with
    | some e =>
      if e.2.2.2.1 then s
      else { s with sw := { s.sw with macs := put (s.sw.macs.filter (fun x => !(x.1 = m && x.2.1 = vid))) } }
    | none =>
      let sec := s.time.now / 1000000000
      let q := s.port p
      let n := if q.learntSec = sec then q.learnt else 0
      if s.odNat 0x5000 (portSub p 6) ≤ n then raise evLearningLimited [portByte p] s
      else if 4 ≤ (s.sw.macs.filter (fun x => Config.macSet x.1 x.2.1 = Config.macSet m vid)).length ∨ 4096 ≤ s.sw.macs.length then
        raise evMacTableFull (beBytes 6 m.toNat) s
      else
        let s1 := s.modPort p (fun q => { q with learnt := n + 1, learntSec := sec })
        { s1 with sw := { s1.sw with macs := put s1.sw.macs } }

/-! ### PTP frames in the switch (R265, R266, R269, R270) -/

/-- The offset of the PTP message in a frame's payload: directly over Ethernet, or over UDP/IPv4. -/
def ptpOffset (f : EthFrame) : Option Nat :=
  if f.etype = 0x88F7 then some 0
  else if f.etype = 0x0800 then
    let h := 4 * (leAt f.payload 0 1 % 16)
    let port := beAt f.payload (h + 2) 2
    if leAt f.payload 9 1 = 17 ∧ (port = 319 ∨ port = 320) then some (h + 8) else none
  else none

/-- The slot that uses a domain number. -/
def State.slotOfDomain (s : State) (d : Nat) : Option (Fin 2) :=
  ([0, 1] : List (Fin 2)).find? (fun j => s.odForceBool 0x6001 (ptpSub j 0x02) && s.odForceNat 0x6001 (ptpSub j 0x01) = d)

/-- Does the switch forward a PTP message of a domain (R265)? -/
def State.forwardsPtp (s : State) (d : Nat) : Bool :=
  match s.slotOfDomain d with
  | some j => s.odForceNat 0x6001 (ptpSub j 0x04) = 2
  | none => s.odForceBool 0x6001 0x22

/-! ### Queues (R239) -/

/-- The bytes held in a class of a port's queue. -/
def Port.classBytes (q : Port) (p : Fin 8 → Bool) : Nat := ((q.queue.filter (fun x => p x.cls)).map (·.f.len)).foldl (· + ·) 0

/-- Has a port's queue room for a frame of a class? -/
def Port.room (q : Port) (c : Fin 8) (len : Nat) : Bool :=
  if c = 7 then decide (q.classBytes (· = 7) + len ≤ 32768)
  else decide (q.classBytes (· ≠ 7) + len ≤ 262144) && decide (q.classBytes (· = c) + len ≤ 131072)

/-- Counts an egress drop. -/
def egressDrop (p : Fin 11) (s : State) : State := s.modPort p (fun q => { q with outDrops := satAdd 64 q.outDrops 1 })

/-- Puts a frame into the queue of its class, or drops it (R239). -/
def enqueueFrame (p : Fin 11) (x : QFrame) (s : State) : State :=
  if (s.port p).room x.cls x.f.len then s.modPort p (fun q => { q with queue := q.queue ++ [x] }) else egressDrop p s

/-- The frame as it leaves on a port: its VLAN tag and its redundancy tag, with its length (R240, R243). -/
def State.asSent (s : State) (p : Fin 11) (vid : BitVec 12) (pcp : BitVec 3) (red : RedTag) (f : EthFrame) : EthFrame :=
  let bare := f.len - 4 * b2n f.tag.isSome - (if f.red = .none then 0 else 6)
  let tag := if s.untags vid p then none else some (pcp, vid)
  { f with tag, red, len := max 64 (bare + 4 * b2n tag.isSome + (if red = .none then 0 else 6)) }

/-- The next sequence number of local frames on a redundant pair. -/
def State.redSeq (s : State) (k : Fin 2) : BitVec 16 := if k = 0 then s.sw.redSeq0 else s.sw.redSeq1

/-- One sequence number of a redundant pair has been used. -/
def bumpRed (k : Fin 2) (s : State) : State :=
  if k = 0 then { s with sw := { s.sw with redSeq0 := s.sw.redSeq0 + 1 } } else { s with sw := { s.sw with redSeq1 := s.sw.redSeq1 + 1 } }

/-- The redundancy tag of a locally originated frame on a port; PTP carries none on PRP (R243, R266). -/
def State.localTag (s : State) (p : Fin 11) (ptp : Bool) : RedTag :=
  match pairOf p with
  | some k => if s.redMode k = 1 then (if ptp then .none else .prp (s.redSeq k)) else if s.redMode k = 2 then .hsr (s.redSeq k) else .none
  | none => .none

/-- The module sends a frame of its own on ports of the switch (R243); both ports of a redundant pair carry one sequence
number. -/
def sendLocal (ps : List (Fin 11)) (cls : Fin 8) (stream : Option Nat) (vid : BitVec 12) (pcp : BitVec 3) (f : EthFrame) (s : State) : State :=
  let up := ps.filter (fun p => (s.port p).link ≠ 0)
  let both := switchPorts.filter (fun p => up.contains p || (s.portRed p != 0 && (up.contains (partnerPort p) && decide ((s.port p).link ≠ 0))))
  let ptp := (ptpOffset f).isSome
  let s1 := both.foldl (fun q p => enqueueFrame p { f := s.asSent p vid pcp (s.localTag p ptp) f, cls, stamp := s.time.now, isLocal := true
                                                    stream, inPort := 10 } q) s
  let used (k : Fin 2) : Bool := s.redMode k != 0 && both.any (fun p => pairOf p = some k)
  let s2 := if used 0 then bumpRed 0 s1 else s1
  if used 1 then bumpRed 1 s2 else s2

end Sys2Proof.Machine
end

