-- ==== Sys2Proof/Machine/Switch.lean ====
section
/-! DEFINITION. The consist switch's commands (chapter 9): frames in and out, links, redundancy, the cycle beacon and the
guardians. -/

namespace Sys2Proof.Machine

/-! ### Receiving a frame (R236 to R243, R259, R260) -/

/-- Is a frame dropped at the MAC: too short, too long, a bad FCS or an 802.1ad tag (R236)? -/
def macDrops (f : EthFrame) : Bool :=
  !f.fcsOk || (f.double || (decide (f.len < 64) || decide ((if f.red = .none then 1522 else 1528) < f.len)))

/-- Counts an ingress drop or demotion. -/
def ingressDrop (p : Fin 11) (s : State) : State := s.modPort p (fun q => { q with inDrops := satAdd 64 q.inDrops 1 })

/-- Delivers a frame to the internal port I1 or, from E7 and BL1, to what stands behind it. -/
def deliverFrame (p : Fin 11) (f : EthFrame) (s : State) : State := { s with sw := { s.sw with toI1 := s.sw.toI1 ++ [(p, f)] } }

/-- The VLAN and PCP of a frame on a port (R240). -/
def State.vlanOf (s : State) (p : Fin 11) (f : EthFrame) : BitVec 12 × BitVec 3 :=
  let pvid := BitVec.ofNat 12 (s.odForceNat 0x5000 (portSub p 2))
  match f.tag with
  | none => (pvid, 0)
  | some (pcp, v) => (if v = 0 then pvid else v, pcp)

/-- The class of a frame that is no stream frame, and whether it is demoted from class 7 (R238). -/
def State.classOf (s : State) (p : Fin 11) (pcp : BitVec 3) : Fin 8 × Bool :=
  let c := field (s.odForceNat 0x5000 (portSub p 3)) (3 * pcp.toNat + 2) (3 * pcp.toNat)
  if c = 7 then (0, true) else (Fin.ofNat 8 c, false)

/-- A policer's bucket after a frame, and whether the frame passes: credit in thousandths of a bit (R260; assumption 14). -/
def police (now rate burst len : Nat) (b : Option Bucket) : Bucket × Bool :=
  let most := burst * 8192 * 1000
  let credit := match b with
    | none => most
    | some b => min most (b.credit + (now - b.last) * rate)
  if len * 8000 ≤ credit then ({ credit := credit - len * 8000, last := now }, true) else ({ credit, last := now }, false)

/-- Polices a frame at its ingress port; excess is dropped, counted and reported once per second. -/
def policeFrame (p : Fin 11) (cls : Fin 8) (len : Nat) (s : State) : State × Bool :=
  if cls = 7 then (s, true)
  else
    let q := s.port p
    let six := cls = 6
    let r := if six then police s.time.now 2 4 len q.policer6
      else police s.time.now (s.odNat 0x5000 (portSub p 4)) (s.odNat 0x5000 (portSub p 5)) len q.policer
    let s1 := s.modPort p (fun q => if six then { q with policer6 := some r.1 } else { q with policer := some r.1 })
    if r.2 then (s1, true)
    else (raiseOncePerSec (p.val * 2 + b2n six) 0 evIngressPoliced [portByte p, BitVec.ofNat 8 (b2n six)] (ingressDrop p s1), false)

/-- Adds to the counters of a stream (0x5100:0C): on time, outside, discarded, aged out. -/
def countStream (n : Nat) (f : Nat × Nat × Nat × Nat → Nat × Nat × Nat × Nat) (s : State) : State :=
  { s with sw := { s.sw with streamCount := sSet (0, 0, 0, 0) n (f (sGet (0, 0, 0, 0) n s.sw.streamCount)) s.sw.streamCount } }

/-- The arrival check of a stream frame (R259): the state with its counters, and whether the frame goes on. -/
def arrivalCheck (p : Fin 11) (n : Nat) (s : State) : State × Bool :=
  let b := s.stream n
  if p.val = 10 ∨ stCheck b = false then (s, true)
  else
    let x : Int := (s.intoCycle : Int)
    let start : Int := 40 * (leAt b 0x0E 2 : Int)
    let tol : Int := 100 * (leAt b 0x12 1 : Int)
    let c := s.cycleNow % s.macroM
    let inside := decide (start - tol ≤ x ∧ x ≤ start + 40 * (leAt b 0x10 2 : Int) + tol)
    if leAt b 9 1 = p.val ∧ stActive b c = true ∧ inside = true then
      (countStream n (fun k => (satAdd 32 k.1 1, k.2)) s, true)
    else
      let s1 := raise evStreamOutsideWindow (d16 n ++ (portByte p :: leBytes 4 (wrapNat 32 (x - start))))
        (countStream n (fun k => (k.1, satAdd 32 k.2.1 1, k.2.2)) s)
      if stVital b then (countStream n (fun k => (k.1, k.2.1, satAdd 32 k.2.2.1 1, k.2.2.2)) s1, false) else (s1, true)

/-- Entries of the duplicate table older than 400 ms are forgotten; one without a second copy counts as missing on the
partner port (R242, R243). -/
def expireDups (s : State) : State :=
  let old (d : DupEntry) : Bool := decide (d.time + 400000000 ≤ s.time.now)
  let lost := (s.sw.dups.filter (fun d => old d && !d.both)).map (fun d => (partnerPort d.port).val - 1)
  { s with sw := { s.sw with
    dups := s.sw.dups.filter (fun d => !old d)
    missing := lost.foldl (fun m k => modAt k (fun x => satAdd 32 x 1) m) s.sw.missing } }

/-- Duplicate discard on a redundant pair: the state, and whether the frame is a first copy (R243). -/
def dedupe (p : Fin 11) (f : EthFrame) (s : State) : State × Bool :=
  match pairOf p, (match f.red with | .none => none | .prp q => some q | .hsr q => some q) with
  | some k, some q =>
    if s.redMode k = 0 ∨ (ptpOffset f).isSome = true then (s, true)
    else
      let s0 := expireDups s
      let hit (d : DupEntry) : Bool := d.pair = k && (d.src = f.src && d.seq = q)
      if s0.sw.dups.any hit then
        ({ s0 with sw := { s0.sw with
          dupDiscarded := satAdd 64 s0.sw.dupDiscarded 1
          dups := s0.sw.dups.map (fun d => if hit d && d.port != p then { d with both := true } else d) } }, false)
      else
        let srcs := ((s0.sw.dups.filter (fun d => d.pair = k)).map (·.src)).eraseDups
        if srcs.contains f.src = false ∧ 1024 ≤ srcs.length then (s0, true)
        else ({ s0 with sw := { s0.sw with dups := s0.sw.dups ++
          [{ pair := k, src := f.src, seq := q, time := s0.time.now, port := p, both := false }] } }, true)
  | _, _ => (s, true)

/-- May a frame that arrived on `p` leave on `q` (R235, R242)? -/
def State.mayForward (s : State) (p q : Fin 11) (own : Bool) : Bool :=
  p != q && ((q.val = 10 || (s.port q).link != 0) &&
    (if p.val = 10 ∨ q.val = 10 then true
     else if pairOf p = pairOf q ∧ (pairOf p).isSome = true ∧ s.portRed p ≠ 0 then s.portRed p = 2 && !own
     else s.portRed p = 0 && s.portRed q = 0))

/-- The ports that a frame leaves on (R241, R245). -/
def State.egressOf (s : State) (p : Fin 11) (f : EthFrame) (vid : BitVec 12) (stream : Option Nat) : List (Fin 11) :=
  let own := f.dest = ownMac
  let open_ := switchPorts.filter (fun q => s.mayForward p q own)
  match stream with
  | some n => open_.filter (fun q => q.val = 10 || s.portCarries q n)
  | none =>
    if own then open_.filter (fun q => q.val = 10)
    else
      let members := open_.filter (fun q => s.member vid q)
      match s.macEntry f.dest vid with
      | some e => members.filter (fun q => e.2.2.1.testBit (q.val - 1))
      | none => members

/-- Puts a frame on its way (R235, R241, R243, R245). -/
def forward (p : Fin 11) (f : EthFrame) (vid : BitVec 12) (pcp : BitVec 3) (cls : Fin 8) (stream : Option Nat) (s : State) : State :=
  let outs := s.egressOf p f vid stream
  if p.val = 10 then sendLocal (outs.filter (fun q => q.val ≠ 10)) cls stream vid pcp f s
  else
    outs.foldl (fun q o =>
      if o.val = 10 then deliverFrame p f q
      else enqueueFrame o { f := q.asSent o vid pcp f.red f, cls, stamp := q.time.now, isLocal := false, stream, inPort := p } q) s

/-- A PRP or HSR supervision frame was received on a port (R244; EtherType 0x88FB, assumption 21). -/
def heardSupervision (p : Fin 11) (f : EthFrame) (s : State) : State :=
  if s.portRed p ≠ 0 ∧ f.etype = 0x88FB then s.modPort p (fun q => { q with supervisionAt := some s.time.now, degraded := false }) else s

/-- A frame of the switched ports after the MAC: class, policer, learning, arrival and forwarding. -/
def switchFrame (p : Fin 11) (f : EthFrame) (s : State) : State :=
  let (vid, pcp) := s.vlanOf p f
  if s.member vid p = false then ingressDrop p s
  else
    let stream := s.findStream f.dest vid
    let c := if stream.isSome then ((7 : Fin 8), false) else s.classOf p pcp
    let s1 := if c.2 then ingressDrop p s else s
    let r := policeFrame p c.1 f.len s1
    if r.2 = false then r.1
    else
      let s2 := learn p f.src vid r.1
      let a := match stream with
        | some n => arrivalCheck p n s2
        | none => (s2, true)
      if a.2 = false then a.1
      else
        match (ptpOffset f).map (fun o => leAt f.payload (o + 4) 1) with
        | some d => if p.val = 10 ∨ a.1.forwardsPtp d = true then forward p f vid pcp c.1 stream a.1 else
            (if (a.1.slotOfDomain d).isSome then deliverFrame p f a.1 else a.1)
        | none => forward p f vid pcp c.1 stream a.1

/-- FRAME_RECEIVED: `t` is the frame's ingress stamp (R268; assumption 21). -/
def execFrameReceived (t : Nat) (p : Fin 11) (f : EthFrame) (s : State) : Out :=
  let s := s.atTime t
  .next (if s.sw.running = false ∨ p.val = 0 ∨ (p.val ≠ 10 ∧ (s.port p).link = 0) then s
    else if macDrops f then ingressDrop p s
    else
      let s1 := s.modPort p (fun q => { q with rx := satAdd 64 q.rx 1 })
      if p.val = 7 then deliverFrame p f s1
      else if p.val = 8 then (if f.etype = 0x88B6 then deliverFrame p f s1 else s1)
      else if s.portRed p = 2 ∧ f.src = ownMac then s1
      else
        let d := dedupe p f (heardSupervision p f s1)
        if d.2 then switchFrame p f d.1 else d.1)

/-! ### Sending a frame (R249 to R251, R256, R257, R269, R270) -/

/-- Did a frame miss an earlier window of its stream on a port, one that ended after its stamp and opened before the
window that opened at `cur` (R251)? -/
def State.missedWindow (s : State) (ws : List Win) (n stamp cur : Nat) : Bool :=
  let tb := s.tb
  let c0 := stamp / tb
  let c1 := cur / tb
  if c0 + s.macroM < c1 then true
  else (List.range (c1 + 1 - c0)).any (fun d => let c := c0 + d
    (exclWins ws (c % s.macroM) n).any (fun w => decide (stamp < c * tb + w.stop) && decide (c * tb + w.start < cur)))

/-- Is a stream frame to be dropped at the window that opened at `cur`: a local one that missed its window, a transit one
that is too old (R251)? -/
def State.isStale (s : State) (ws : List Win) (cur : Nat) (x : QFrame) : Bool :=
  match x.stream with
  | some n => s.missedWindow ws n x.stamp cur && (x.isLocal || decide (10000 * leAt (s.stream n) 0x14 2 < cur - x.stamp))
  | none => false

/-- A stale frame leaves its queue: counted, and a transit one raises TRANSIT-AGED-OUT. -/
def dropStale (p : Fin 11) (s : State) (x : QFrame) : State :=
  let s1 := egressDrop p s
  match x.stream with
  | some n => if x.isLocal then s1 else
      raise evTransitAgedOut (d16 n ++ [portByte p]) (countStream n (fun k => (k.1, k.2.1, k.2.2.1, satAdd 32 k.2.2.2 1)) s1)
  | none => s1

/-- The frame that a window lets go first: of its stream, or of the highest admitted class that is not empty (R249). -/
def firstFor (w : Win) (q : List QFrame) : Option QFrame :=
  if w.kind = 1 then q.find? (fun x => x.cls = 7 && x.stream = some w.stream)
  else if w.kind = 2 then
    match ([6, 5, 4, 3, 2, 1, 0] : List (Fin 8)).find? (fun c => w.classes.testBit c.val && q.any (fun x => x.cls = c)) with
    | some c => q.find? (fun x => x.cls = c)
    | none => none
  else none

/-- Does the gate let a frame start at `x` ns into the cycle (R249)? -/
def State.gateOpen (s : State) (w : Win) (x wire : Nat) (f : QFrame) : Bool :=
  decide (x + wire + (if f.isLocal then s.odForceNat 0x5200 0x01 else 0) ≤ w.stop) &&
    (!f.isLocal || (match f.stream with
      | some n => decide (f.f.len ≤ stMaxLen (s.stream n))
      | none => true))

/-- Does the guardian let a local frame start (R257)? Its windows and stream fields are its own copies (R256). -/
def State.guardianOpen (s : State) (k c x wire : Nat) (f : QFrame) : Bool :=
  match openWin (s.guardTable k) c x with
  | none => false
  | some w =>
    decide (x + wire + s.odForceNat 0x5200 0x01 ≤ w.stop) &&
      (if w.kind = 1 then
         let b := ((if s.sw.matrix.isSome then s.sw.guardStreams else [s.beaconStream])[w.stream]?).getD []
         s.sw.causes = 0 && (f.stream = some w.stream && (stLocal b && decide (f.f.len ≤ stMaxLen b)))
       else w.kind = 2 && (f.stream.isNone && w.classes.testBit f.cls.val))

/-- Adds a residence time to a PTP event message (R269), or keeps it for the Follow_Up (R270). The first result is none
when the correctionField overflows. -/
def transparent (x : QFrame) (p : Fin 11) (o : Nat) (s : State) : Option EthFrame × State :=
  let f := x.f
  let kind := leAt f.payload o 1 % 16
  let slot := s.slotOfDomain (leAt f.payload (o + 4) 1)
  let stay := s.time.now - x.stamp
  let link : Int := if kind = 0 ∧ (slot.any (fun j => s.odForceNat 0x6001 (ptpSub j 0x03) = 1)) = true then (s.port x.inPort).linkDelay else 0
  if 3 < kind then (some f, s)
  else if kind = 0 ∧ (leAt f.payload (o + 6) 1).testBit 1 = true then
    let live := s.time.residences.filter (fun r => s.time.now ≤ r.time + 1000000000)
    let e : Residence := { seqId := BitVec.ofNat 16 (beAt f.payload (o + 30) 2), srcPort := BitVec.ofNat 80 (beAt f.payload (o + 20) 10)
                           port := p, time := s.time.now, residence := stay }
    (some f, { s with time := { s.time with residences := if live.length < 64 then live ++ [e] else live } })
  else
    let sum := sxt 64 (beAt f.payload (o + 8) 8) + 65536 * ((stay : Int) + link)
    if 2 ^ 63 ≤ sum then (none, s.modPtp (slot.getD 0) (fun y => { y with tcDrops := satAdd 8 y.tcDrops 1 }))
    else
      let b1 := patch f.payload (o + 8) (beBytes 8 (wrapNat 64 sum))
      let b2 := if o = 0 then b1 else patch b1 (o - 2) [0, 0]
      (some { f with payload := b2 }, s)

/-- A frame starts on the wire. -/
def startFrame (p : Fin 11) (x : QFrame) (stop : Nat) (s : State) : State :=
  let r := match (if x.isLocal then none else ptpOffset x.f) with
    | some o => transparent x p o s
    | none => (some x.f, s)
  match r.1 with
  | none => r.2
  | some f =>
    let wire := wireNs (s.port p).link.val f.len
    (r.2.modPort p (fun q => { q with tx := satAdd 64 q.tx 1, onWire := some ({ x with f }, s.time.now + wire, stop) })).emit (.eth p f)

/-- Takes one frame out of a queue. -/
def takeOut (x : QFrame) : List QFrame → List QFrame
  | [] => []
  | y :: r => if y = x then r else y :: takeOut x r

/-- A frame may start on a scheduled port: the gate and, for a local frame, the guardian. -/
def transmitOn (p : Fin 11) (k : Nat) (s : State) : State :=
  let c := s.cycleNow % s.macroM
  let x := s.intoCycle
  let ws := s.winTable k
  match openWin ws c x with
  | none => s
  | some w =>
    let base := s.time.now - x
    let stale := if w.kind = 1 then (s.port p).queue.filter (fun q => q.stream = some w.stream && s.isStale ws (base + w.start) q) else []
    let s1 := stale.foldl (dropStale p) (s.modPort p (fun q => { q with queue := q.queue.filter (fun y => !stale.contains y) }))
    match firstFor w (s1.port p).queue with
    | none => s1
    | some f =>
      let wire := wireNs (s1.port p).link.val f.f.len
      if s1.gateOpen w x wire f then
        let s2 := s1.modPort p (fun q => { q with queue := takeOut f q.queue })
        if f.isLocal && !s1.guardianOpen k c x wire f then { s2 with sw := { s2.sw with withheld := satAdd 64 s2.sw.withheld 1 } }
        else startFrame p f (base + w.stop) s2
      else s1

/-- FRAME_TRANSMIT: a port that is idle starts the frame that its gate admits. -/
def execFrameTransmit (t : Nat) (p : Fin 11) (s : State) : Out :=
  let s := s.atTime t
  let busy := match (s.port p).onWire with
    | some (_, e, _) => decide (s.time.now < e)
    | none => false
  .next (if s.sw.running = false ∨ (s.port p).link = 0 ∨ busy = true then s
    else match schedNo p with
      | some k => transmitOn p k s
      | none =>
        match ([7, 6, 5, 4, 3, 2, 1, 0] : List (Fin 8)).findSome? (fun c => (s.port p).queue.find? (fun x => x.cls = c)) with
        | some f => startFrame p f s.time.now (s.modPort p (fun q => { q with queue := takeOut f q.queue }))
        | none => s)

/-- GUARDIAN_CUT: a local frame still on the wire as its window closes is ended with an invalid FCS (R257). -/
def execGuardianCut (t : Nat) (p : Fin 11) (s : State) : Out :=
  let s := s.atTime t
  .next (match (s.port p).onWire with
    | some (x, e, stop) =>
      if x.isLocal = true ∧ (schedNo p).isSome = true ∧ stop ≤ s.time.now ∧ s.time.now < e then
        let s1 := (s.modPort p (fun q => { q with onWire := none })).emit (.etherCut p)
        raise evGuardianCut (portByte p :: d16 (x.stream.getD 0xFFFF)) { s1 with sw := { s1.sw with cut := satAdd 32 s1.sw.cut 1 } }
      else s
    | none => s)

/-! ### Addresses, links, redundancy (R241, R242, R244) -/

/-- MAC_AGE_OUT: a learnt address not seen for the ageing time leaves the table. -/
def execMacAgeOut (t : Nat) (mac : BitVec 48) (s : State) : Out :=
  let s := s.atTime t
  let old (e : BitVec 48 × BitVec 12 × Nat × Bool × Nat) : Bool :=
    e.1 = mac && (!e.2.2.2.1 && decide (e.2.2.2.2 + s.odNat 0x5000 0x03 * 1000000000 ≤ s.time.now))
  .next { s with sw := { s.sw with macs := s.sw.macs.filter (fun e => !old e) } }

/-- REDUNDANCY-DEGRADED of a port, once until it is heard again. -/
def degrade (p : Fin 11) (s : State) : State :=
  match pairOf p with
  | some k =>
    if s.redMode k ≠ 0 ∧ (s.port p).degraded = false then
      raise evRedundancyDegraded [BitVec.ofNat 8 k.val, portByte p] (s.modPort p (fun q => { q with degraded := true }))
    else s
  | none => s

/-- LINK_DOWN. -/
def execLinkDown (t : Nat) (p : Fin 11) (s : State) : Out :=
  let s := s.atTime t
  .next (if (s.port p).link = 0 then s
    else degrade p (raise evLinkDown [portByte p] (s.modPort p (fun q => { q with link := 0, onWire := none }))))

/-- LINK_UP: E1 to E6 at 100 Mbit/s or 1 Gbit/s, E7 at 100 Mbit/s, BL1 and BL2 at 2.5 Gbit/s; from stage 3 on (R235, R237). -/
def execLinkUp (t : Nat) (p : Fin 11) (speed : Fin 4) (s : State) : Out :=
  let s := s.atTime t
  let fits := if 1 ≤ p.val ∧ p.val ≤ 6 then decide (speed.val = 1 ∨ speed.val = 2) else if p.val = 7 then speed.val = 1
    else if p.val = 8 ∨ p.val = 9 then speed.val = 3 else false
  .next (if fits = true ∧ s.sw.running = true ∧ s.portEnabled p = true ∧ (s.port p).link ≠ speed then
      raise evLinkUp [portByte p, BitVec.ofNat 8 speed.val] (s.modPort p (fun q => { q with link := speed, degraded := false, supervisionAt := some s.time.now }))
    else s)

/-- SUPERVISION_FRAME_SEND: class 5, on both ports of the pair (R238, R242; its layout is assumption 21). -/
def execSupervisionFrameSend (t : Nat) (k : Fin 2) (s : State) : Out :=
  let s := s.atTime t
  let tlv : Nat := if s.redMode k = 2 then 23 else 20
  let payload : Bytes := beBytes 2 1 ++ (beBytes 2 (s.redSeq k).toNat ++ ([BitVec.ofNat 8 tlv, 6] ++ (beBytes 6 ownMac.toNat ++ List.replicate 34 0)))
  let f : EthFrame := { dest := 0x01154E000100#48, src := ownMac, tag := none, double := false, etype := 0x88FB, len := 64
                        fcsOk := true, red := .none, payload }
  let ps : List (Fin 11) := if k = 0 then [1, 2] else [3, 4]
  .next (if s.sw.running = true ∧ s.redMode k ≠ 0 then sendLocal ps 5 none (BitVec.ofNat 12 (s.odForceNat 0x5000 (portSub 10 2))) 5 f s else s)

/-- REDUNDANCY_DEGRADED: no supervision frame on a port for 3 intervals of 2 s (R244). -/
def execRedundancyDegraded (t : Nat) (p : Fin 11) (s : State) : Out :=
  let s := s.atTime t
  let due := match (s.port p).supervisionAt with
    | some x => decide (x + 6000000000 ≤ s.time.now)
    | none => true
  .next (if s.sw.running = true ∧ s.portRed p ≠ 0 ∧ due = true then degrade p s else s)

/-! ### The cycle beacon (R252 to R255) -/

/-- The rank of a candidate; none for a FOLLOWER (R252). -/
def State.beaconRank (s : State) : Option Nat :=
  let r := s.odForceNat 0x5100 0x05
  if s.sw.yielded ∨ r = 0 then none else some (r - 1)

/-- The beacon payload of cycle `n` (R253). -/
def State.beaconPayload (s : State) (n : Nat) : Bytes :=
  let b := s.odForce 0x5100 0x06
  [1, 1] ++ (beBytes 2 s.nodeId.toNat ++ ([BitVec.ofNat 8 (s.beaconRank.getD 0), BitVec.ofNat 8 s.macroM, BitVec.ofNat 8 s.ctl.tbCode,
    BitVec.ofNat 8 (b2n s.time.timeLocked * 128 + s.time.selected.val * 64)] ++ (beBytes 8 n ++ ([BitVec.ofNat 8 (n % s.macroM), 0] ++
    ((tabulate 3 (fun k => beBytes 2 (leAt b (2 * k) 2))).flatten ++ (beBytes 4 s.sw.digest.toNat ++ (List.replicate 4 0 ++
    (beBytes 8 (n * s.tb) ++ List.replicate 8 0))))))))

/-- BEACON_SEND: a sending candidate sends the beacon in window 0 on every scheduled port whose link is up (R252). -/
def execBeaconSend (t : Nat) (s : State) : Out :=
  let s := s.atTime t
  let f : EthFrame := { dest := 0x034A45000001#48, src := ownMac, tag := none, double := false, etype := 0x88B5, len := 66
                        fcsOk := true, red := .none, payload := s.beaconPayload s.cycleNow }
  .next (if s.sw.running = true ∧ s.sw.beacon = 2 then sendLocal schedPorts 7 (some 0) (BitVec.ofNat 12 (s.odForceNat 0x5000 0x02)) 7 f s else s)

/-- The first field in which a beacon differs from the node's own values: 1 CYCLE, 2 COLUMN, 3 M, 4 TB_CODE, 5 DIGEST; 0 for none (R255). -/
def State.beaconDiffers (s : State) (n : Nat) (b : Bytes) : Nat :=
  if beAt b 8 8 ≠ n then 1 else if beAt b 0x10 1 ≠ n % s.macroM then 2 else if beAt b 5 1 ≠ s.macroM then 3
  else if beAt b 6 1 ≠ s.ctl.tbCode then 4 else if beAt b 0x18 4 ≠ s.sw.digest.toNat then 5 else 0

/-- The cycle in whose window 0 a beacon arrives on a port, within the tolerance of stream 0; none outside it. -/
def State.beaconCycle (s : State) (k : Nat) : Option Nat :=
  let x := s.intoCycle
  let tol := 100 * leAt (s.stream 0) 0x12 1
  let stop (c : Nat) : Nat := ((exclWins (s.winTable k) (c % s.macroM) 0).find? (fun w => w.start = 0) |>.map (·.stop)).getD 0
  if x ≤ stop s.cycleNow + tol then some s.cycleNow else if s.tb ≤ x + tol then some (s.cycleNow + 1) else none

/-- A beacon was heard: the node follows its sender, and the count of missed beacons starts again. -/
def hearBeacon (id : Nat) (s : State) : State :=
  { s with sw := { s.sw with heard := true, heardCycle := true, missRun := 0, master := BitVec.ofNat 16 id
                             beacon := if s.sw.beacon = 2 then 2 else 1 } }

/-- A beacon agrees with the node's own cycle (`d` = 0) or differs in the way `d`: the runs of R255 and the guard. -/
def countBeacon (d : Nat) (s : State) : State :=
  if d = 0 then
    let s1 := { s with sw := { s.sw with badRun := 0, goodRun := s.sw.goodRun + 1 } }
    if 16 ≤ s1.sw.goodRun then clearGuard 1 s1 else s1
  else
    let s1 := raise evBeaconMismatch [BitVec.ofNat 8 d] { s with sw := { s.sw with badRun := s.sw.badRun + 1, goodRun := 0 } }
    if 2 ≤ s1.sw.badRun then closeGuard 1 s1 else s1

/-- A master that hears a better beacon yields: MASTER-CONFLICT. -/
def yieldBeacon (own id rank : Nat) (s : State) : State :=
  if s.sw.beacon = 2 ∧ id ≠ s.nodeId.toNat ∧ (rank < own ∨ (rank = own ∧ id < s.nodeId.toNat)) then
    raise evMasterConflict ([BitVec.ofNat 8 own] ++ (d16 s.nodeId.toNat ++ ([BitVec.ofNat 8 rank] ++ d16 id)))
      { s with sw := { s.sw with beacon := 1, yielded := true } }
  else s

/-- BEACON_RECEIVED: a valid beacon is compared with the node's own state, and a second sender is resolved (R254, R255). -/
def execBeaconReceived (t : Nat) (p : Fin 11) (payload : Bytes) (s : State) : Out :=
  let s := s.atTime t
  .next (match (schedNo p).bind s.beaconCycle with
    | none => s
    | some n =>
      if s.sw.running = false ∨ payload.length ≠ 48 ∨ beAt payload 0 2 ≠ 0x0101 then s
      else
        let id := beAt payload 2 2
        let s1 := hearBeacon id s
        yieldBeacon (s.beaconRank.getD 0) id (beAt payload 4 1) (countBeacon (s1.beaconDiffers n payload) s1))

/-- BEACON_TIMEOUT: a candidate starts sending at its limit (R254 steps 1 and 2). -/
def execBeaconTimeout (t : Nat) (s : State) : Out :=
  let s := s.atTime t
  .next (match s.beaconRank with
    | none => s
    | some r =>
      let due := if s.sw.heard then decide (1 ≤ r) && decide (r + 1 ≤ s.sw.missRun) else decide (8 + 4 * r ≤ s.sw.since)
      if s.sw.running = true ∧ s.sw.beacon ≠ 2 ∧ due = true then
        raise evBeaconSending [] { s with sw := { s.sw with beacon := 2, master := s.nodeId } }
      else s)

/-- What a boundary does to the beacon state: a cycle without a valid beacon is a missed one, and a FOLLOWER without one for 8
cycles raises BEACON-LOST (R253, R254). -/
def beaconBoundary (s : State) : State :=
  if s.sw.running = false then s
  else
    let s0 := { s with sw := { s.sw with since := s.sw.since + 1, heardCycle := false } }
    if s.sw.heardCycle ∨ s.sw.beacon = 2 then s0
    else
      let s1 := { s0 with sw := { s0.sw with missed := satAdd 32 s0.sw.missed 1, missRun := s0.sw.missRun + 1 } }
      if s1.beaconRank = none ∧ s1.sw.missRun = 8 then raise evBeaconLost [] { s1 with sw := { s1.sw with beacon := 3 } } else s1

/-! ### The guardians' own checks (R256, R258) -/

/-- A guardian's copy as read back, where it was altered. -/
def readBackTable (copy : List Word) (x : Option Bytes) : List Word :=
  match x with
  | some b => (chunksOf 8 b).map (fun c => BitVec.ofNat 64 (leNat c))
  | none => copy

/-- GUARDIAN_TABLE_CHECK: once per macro cycle each guardian's copy is compared with the stored matrix. -/
def execGuardianTableCheck (t : Nat) (readBack : List (Option Bytes)) (s : State) : Out :=
  let s := s.atTime t
  .next (match s.sw.matrix with
    | none => s
    | some m =>
      let copy := s.sw.guardCopy.zipIdx.map (fun e => readBackTable e.1 ((readBack[e.2]?).getD none))
      let s1 := { s with sw := { s.sw with guardCopy := copy } }
      if copy = m.windows ∧ s1.sw.guardStreams = m.streams then s1
      else if s1.hasCause 2 then s1
      else closeGuard 2 (raise evGuardianTableFault [] s1))

/-- GUARDIAN_COUNTER_FAULT: a time value is checked against the previous one plus the elapsed time, within 40 ns. -/
def execGuardianCounterFault (t : Nat) (p : Fin 11) (value elapsed : Nat) (s : State) : Out :=
  let s := s.atTime t
  let old := (s.sw.guardTime[p.val]?).getD none
  let s1 := { s with sw := { s.sw with guardTime := modAt p.val (fun _ => some value) s.sw.guardTime } }
  .next (match old with
    | some v =>
      if 40 < (((value : Nat) : Int) - ((v + elapsed : Nat) : Int)).natAbs then
        closeGuard 3 { s1 with sw := { s1.sw with counterBadAt := some s.time.now } }
      else s1
    | none => s1)

/-- COUNTER_CAUSE_CLEARED: 1 s of values that pass. -/
def execCounterCauseCleared (t : Nat) (s : State) : Out :=
  let s := s.atTime t
  .next (match s.sw.counterBadAt with
    | some x => if x + 1000000000 ≤ s.time.now then clearGuard 3 { s with sw := { s.sw with counterBadAt := none } } else s
    | none => s)

/-! ### Sending process data (R291, R293) -/

/-- The 40-byte PD header (R289; its field order is IEC 61375-2-3's, assumption 21). -/
def State.pdHeader (s : State) (seq : BitVec 32) (p : Pub) : Bytes :=
  let h := beBytes 4 seq.toNat ++ (beBytes 2 0x0100 ++ (beBytes 2 0x5064 ++ (beBytes 4 p.comId ++ (beBytes 4 (s.odNat 0x5400 0x04) ++
    (beBytes 4 (s.odNat 0x5400 0x05) ++ (beBytes 4 p.length ++ List.replicate 12 0))))))
  h ++ leBytes 4 (crc32 h).toNat

/-- The telegrams of one comId share their sequence counter. -/
def bumpComId (comId : Nat) (seq : BitVec 32) (s : State) : State :=
  (s.pubs.filter (fun p => p.comId = comId)).foldl (fun q p =>
    { q with tel := { q.tel with pubs := sSet {} p.idx { sGet {} p.idx q.tel.pubs with seq } q.tel.pubs } }) s

/-- PD_SEND: the publication staged for the present cycle leaves in its stream's windows (R28, R291). -/
def execPdSend (t : Nat) (pub : Nat) (s : State) : Out :=
  let s := s.atTime t
  let x := sGet {} pub s.tel.pubs
  .next (match s.pubs.find? (fun p => p.idx = pub), x.staged with
    | some p, some (b, d) =>
      if b = s.cycleNow ∧ s.sw.running = true ∧ s.sw.matrix.isSome = true ∧ s.mayPublish = true then
        let st := s.stream p.stream
        let f : EthFrame := { dest := stDest st, src := ownMac, tag := none, double := false, etype := 0x0800, len := 86 + d.length
                              fcsOk := true, red := .none, payload := s.pdHeader x.seq p ++ d }
        let s1 := sendLocal (schedPorts.filter (fun q => s.portCarries q p.stream)) 7 (some p.stream) (stVid st) 7 f s
        let s2 := (bumpComId p.comId (x.seq + 1) { s1 with tel := { s1.tel with sent := s1.tel.sent + 1 } }).emit (.pd pub x.seq d)
        let y := sGet {} pub s2.tel.pubs
        { s2 with tel := { s2.tel with pubs := sSet {} pub { y with staged := none } s2.tel.pubs } }
      else s
    | _, _ => s)

end Sys2Proof.Machine
end

