-- ==== Sys2Proof/Machine/Start.lean ====
section
/-! DEFINITION. Staged start and the supply (chapter 14): the stages of R362 to R366, the hold-up store and its end
(R367 to R373), and the LED takeover of R376. -/

namespace Sys2Proof.Machine

/-! ### What a module keeps without supply -/

/-- A slot that was being written or is not verified yet is INVALID at the next start (R427). -/
def SlotSt.afterLoss (x : SlotSt) : SlotSt := if x.state = 1 ∨ x.state = 2 then { x with state := 4 } else x

/-- The update function at the next start: only the boot selector, the slots and a trial survive (R426 to R428). -/
def Update.afterLoss (u : Update) : Update :=
  { ({} : Update) with
    state := if u.state = .activating ∨ u.state = .trial then u.state else .idle
    app := u.app, slotB := u.slotB
    fwA := u.fwA.afterLoss, fwB := u.fwB.afterLoss, appA := u.appA.afterLoss, appB := u.appB.afterLoss
    fwActiveB := u.fwActiveB, appActive := u.appActive, trialKind := u.trialKind, trialLeft := u.trialLeft
    trialStarts := u.trialStarts }

/-- The module without supply: OFF. Nonvolatile memories keep their content, everything else returns to its power-up
state (R92, R147, R155, R380, R413, R419, R425). The model's own fields go on. -/
def State.unpowered (s : State) : State :=
  let o := settleStore s.time.now s.od
  { State.reset with
    pending := s.pending, sent := s.sent, freeCount := s.freeCount, serial := s.serial, issue := s.issue
    od := { ({} : Od) with storeA := o.storeA, storeB := o.storeB, restore := o.restore }
    cis := { ({} : Cistern) with retA := s.cis.retA, retB := s.cis.retB, retNextB := s.cis.retNextB }
    ctl := { ({} : Ctl) with change := { ({} : ChangeSet) with stored := s.ctl.change.stored } }
    fab := { ({} : Fabric) with copyA := s.fab.copyA, copyB := s.fab.copyB, rollback := s.fab.rollback }
    rcd := { ({} : Recorder) with slots := s.rcd.slots }
    upd := s.upd.afterLoss }

/-- The converter starts: every group and the fabric are supplied, and stage 0 begins in FABRIC-ONLY (R121, R362). -/
def powerUp (s : State) : State :=
  let s0 := s.unpowered
  let s1 := { s0 with
    fab := { s0.fab with powered := true }
    fio := { s0.fio with groups := s0.fio.groups.map Group.powerUp }
    upd := { s0.upd with trialStarts := if s0.upd.trialKind.isSome then s0.upd.trialStarts + 1 else 0 } }
  enterMode .fabricOnly 0 s1

/-- SUPPLY_ON (R362): X1 rises to 16.8 V in a module that is OFF. The counter starts at 0 (R262). -/
def execSupplyOn (_t : Nat) (s : State) : Out := .next (if s.ctl.mode = .off then powerUp s else s)

/-! ### Stage 0 (R155, R362) -/

/-- The time in ms since the start of the stages. -/
def State.startMs (s : State) : Nat := (s.time.now - s.ctl.startAt) / 1000000

/-- A stage ends now (R366). -/
def endStage (k : Nat) (s : State) : State :=
  { s with ctl := { s.ctl with stage := k + 1, stageEnds := modAt k (fun _ => s.startMs) s.ctl.stageEnds } }

/-- The copy that stage 0 takes, and whether it is copy B: the valid one with the higher sequence. -/
def Fabric.chosen (f : Fabric) : Option (MapCopy × Bool) :=
  if copyValid f.copyA && (!copyValid f.copyB || decide (f.copyB.seq.toNat ≤ f.copyA.seq.toNat)) then some (f.copyA, false)
  else if copyValid f.copyB then some (f.copyB, true) else none

/-- The copy that is invalid or older is rewritten from the chosen one. -/
def repairCopy (c : MapCopy) (second : Bool) (s : State) : State :=
  let other := if second then s.fab.copyA else s.fab.copyB
  if copyValid other && decide (other.seq = c.seq) then s
  else raiseFab evMapCopyRepaired []
    { s with fab := if second then { s.fab with copyA := c } else { s.fab with copyB := c } }

/-- The T_b of the HEADER in the active application slot; 1 ms with no valid image (R22, R362). -/
def State.startTb (s : State) : Nat := ((s.loaded s.slotBytes).map (·.tbCode)).getD 1

/-- A start continues what the update had begun (R426, R428). -/
def resumeTrial (s : State) : State :=
  if s.upd.state = .activating then beginTrial (s.upd.trialKind.getD true) s
  else { s with upd := { s.upd with trialSince := s.time.now } }

/-- STAGE_0_COMPLETE (R362): the self-test passes and a map is active; with no valid copy the fabric locks out (R155). -/
def execStage0Complete (t : Nat) (s : State) : Out :=
  let s := s.atTime t
  .next (if s.ctl.mode = .fabricOnly then
      match s.fab.chosen with
      | some (c, second) =>
        let s1 := enterMode .boot 0 (endStage 0 (activateMap (copyBytes c) (repairCopy c second s)))
        resumeTrial (refresh { s1 with ctl := { s1.ctl with tbCode := s1.startTb } })
      | none => lockout 4 (enterMode .boot 0 s)
    else s)

/-! ### Stage 1 (R185, R362, R380, R415, R432) -/

/-- The bank entries of a group as written (R201). -/
def State.storedBank (s : State) (base : Nat) (g : Fin 8) : List (BitVec 128) :=
  tabulate 16 (fun c => BitVec.ofNat 128 (beNat (s.odGet (base + g.val) (c + 1))))

/-- A channel takes its configured function code. -/
def Chan.setFunc (code : BitVec 8) (c : Chan) : Chan :=
  let d := { c with func := code }
  if d.fn = c.fn then d else d.fresh

/-- The Commons sends the function codes and both banks to a group, which adopts them (R185). -/
def loadGroup (g : Fin 8) (s : State) : State :=
  let code (c : Nat) : BitVec 8 := BitVec.ofNat 8 (s.odNat (0x3100 + 16 * g.val + c) 0x01)
  s.modGroup g (fun q => if q.up then
    { q with
      stage0 := false, entriesA := s.storedBank 0x3200 g, entriesB := s.storedBank 0x3210 g
      chans := (q.chans.zipIdx).map (fun e => e.1.setFunc (code e.2)) } else q)

/-- One strap contact as read: between its limits the reading is a free value (R432). -/
def readStrap (x : Option Bool) (s : State) : Bool × State :=
  match x with
  | some b => (b, s)
  | none => ((s.free 1) = 1, s.tick)

/-- SID0 to SID4 and PRS are read (R432). -/
def readStraps (straps : List (Option Bool)) (s : State) : State :=
  let step (acc : Nat × State) (k : Nat) : Nat × State :=
    let r := readStrap ((straps[k]?).getD (some false)) acc.2
    (acc.1 + b2n r.1 * 2 ^ k, r.2)
  let r := [0, 1, 2, 3, 4, 5].foldl step (0, s)
  { r.2 with ctl := { r.2.ctl with slotId := Fin.ofNat 32 (r.1 % 32), prs := r.1.testBit 5 } }

/-- The pair role in force: 0 NONE, 1 STRAP, 2 PREFERRED, 3 SECONDARY at 0x7300:01 (R338). NONE sets DRIVE. -/
def takePairRole (s : State) : State :=
  let r := s.odForceNat 0x7300 0x01
  let pref := r = 2 || (r = 1 && !s.ctl.prs)
  if r = 0 then setDrive true { s with pair := { s.pair with inPair := false, preferred := false } }
  else { s with pair := { s.pair with inPair := true, preferred := pref } }

/-- The Commons boots: straps, stored configuration, groups, recorder records, pair role (R338, R362, R380, R415, R432). -/
def commonsBoot (straps : List (Option Bool)) (s : State) : State :=
  let s1 := loadRecords (loadConfig (readStraps straps s))
  takePairRole (reportRoles (groupNos.foldl (fun q g => loadGroup g q) s1))

/-- STAGE_1_COMPLETE (R362): when every group has delivered a state frame, or 250 ms have passed. A module in FAULT-STOP
boots its Commons without completing the stage (R364). -/
def execStage1Complete (t : Nat) (straps : List (Option Bool)) (s : State) : Out :=
  let s := s.atTime t
  let groups := s.fio.groups.all (·.everSeen) || decide (s.ctl.startAt + 250000000 ≤ s.time.now)
  .next (if s.ctl.mode = .boot ∧ s.ctl.stage = 1 ∧ groups = true then endStage 1 (commonsBoot straps s)
    else if s.ctl.mode = .faultStop ∧ s.ctl.stage ≤ 1 ∧ s.sw.running = false then commonsBoot straps s
    else s)

/-! ### Stage 2 (R48, R120, R288, R362) -/

/-- Every lane enters IN at the end of stage 2 (R48). -/
def lanesIn (s : State) : State :=
  s.modLanes (fun l => { l with state := .isIn, inSince := some s.cycleNow, reported := none })

/-- Stage 2 with an application image: the digest vote, the new Cistern, the bindings and their vote. -/
def stage2Image (app : AppImage) (tables : List (Option Bytes)) (s : State) : State :=
  let p := s.digestPoll
  if p.decided then
    let s1 := (outvoted p).foldl (dissentOut evDigestDissent) (lanesIn s)
    let s2 := { s1 with
      ctl := { s1.ctl with digest := p.tally, image := some app }
      cis := { s1.cis with mem := initSignals app (initSegments app) } }
    let s3 := installImage app (restoreRetained app (applyBindings (some app) s2))
    let s4 := lanesCheck (voteBindings tables s3)
    if s4.ctl.mode = .boot then endStage 2 s4 else s4
  else faultStop evDigestSplit (raise evDigestSplit [] s)

/-- STAGE_2_COMPLETE (R362): when every lane has delivered its digest, or 1.5 s have passed, or the image is rejected.
With no valid image the lanes enter IN without a vote. -/
def execStage2Complete (t : Nat) (tables : List (Option Bytes)) (s : State) : Out :=
  let s := s.atTime t
  .next (if s.ctl.mode = .boot ∧ s.ctl.stage = 2 ∧ s.ctl.warm = false then
      match s.loaded s.slotBytes with
      | some app =>
        if lanes.all (fun l => (s.lane l).digest.isSome) = true ∨ s.ctl.startAt + 1500000000 ≤ s.time.now then
          stage2Image app tables s
        else s
      | none => endStage 2 (setStagger none (applyBindings none (lanesIn s)))
    else s)

/-! ### Stage 3 (R237, R247, R254, R272, R291, R312, R341, R362) -/

/-- A PTP slot at stage 3: LISTENING when enabled (R272). -/
def startSlot (s : State) (j : Fin 2) : State :=
  s.modPtp j (fun x => if s.odForceBool 0x6001 (ptpSub j 0x02) then { x with state := .listening } else { x with state := .disabled })

/-- The MVB role: OFF, device, or bus administrator (R308, R395). -/
def State.startMvb (s : State) : Nat := if !s.odForceBool 0x5600 0x01 then 0 else if hostMode s 6 then 1 else 2

/-- The network part of stage 3. -/
def startNetwork (s : State) : State :=
  let s1 := activateMatrix { s with sw := { s.sw with running := true, since := 0 } }
  let s2 := { s1 with sw := { s1.sw with macs := s1.staticMacs }, od := { s1.od with running := true } }
  let s3 := startSlot (startSlot s2 0) 1
  let s4 := { s3 with tel := { s3.tel with mvbRole := s3.startMvb, publishing := !s3.pair.inPair || s3.pair.drive } }
  let can (q : State) (b : Fin 2) : State := if q.odForceBool 0x5700 (canSub b 1) then setCan b 0 q else q
  let s5 := can (can s4 0) 1
  raiseIf (s5.sw.matrix.isNone && (s5.tel.bindState = 1 && !(s5.pubs).isEmpty)) evPdNotSent [] s5

/-- The result code for which RUN is refused (R122); 0 for none. -/
def State.runRefusal (s : State) : Nat :=
  if s.inLanes.length < 2 ∨ s.fab.lockout ≠ 0 then 3
  else if s.app.isNone ∨ s.tel.bindState = 2 then 7
  else if !s.roleMismatches.isEmpty then 5
  else 0

/-- COMMAND-REFUSED: the command and the result code (R122). -/
def refuseCommand (cmd result : Nat) (s : State) : State :=
  setResult result (raise evCommandRefused [BitVec.ofNat 8 cmd, BitVec.ofNat 8 result] s)

/-- Start is complete (R366). -/
def startComplete (s : State) : State :=
  let s1 := endStage 3 s
  raise evStartComplete (s1.ctl.stageEnds.flatMap (leBytes 4)) s1

/-- The module enters STOP at the end of stage 3. -/
def startStop (s : State) : State := startComplete (enterMode .stop 0 s)

/-- May a module drive: pair role NONE, or a lease, or the ALONE exception of R342? -/
def State.mayDrive (s : State) : Bool :=
  !s.pair.inPair || (s.pair.held || (s.pair.endorsed ||
    (decide (s.pair.state = .alone) && (s.pair.refereeSilent && s.odBool 0x7300 0x0B))))

/-- The mode of R121 after stage 3. RUN follows at the first macro-cycle start, where start is complete. -/
def startMode (s : State) : State :=
  if !s.odForceBool 0x1102 0x01 || s.app.isNone then startStop s
  else if s.pair.inPair && (s.pair.state = .standby || s.pair.state = .joining) then startComplete (enterMode .standby 0 s)
  else if s.pair.state = .out then startStop (refuseCommand 1 6 s)
  else
    let r := s.runRefusal
    if r ≠ 0 then startStop (refuseCommand 1 r s)
    else if s.mayDrive then
      { s with ctl := { s.ctl with pending := some (.run, s.nextMacro (s.cycleNow + 1)) } }
    else s

/-- STAGE_3_COMPLETE (R362, R364): a module in FAULT-STOP before the end of start carries out the network part only. -/
def execStage3Complete (t : Nat) (s : State) : Out :=
  let s := s.atTime t
  let net (q : State) : State := if q.sw.running then q else startNetwork q
  .next (if s.ctl.mode = .boot ∧ s.ctl.stage = 3 ∧ s.ctl.warm = false ∧ s.ctl.pending = none then
      let s1 := net s
      if s1.pair.inPair && !s1.pair.negotiated then s1 else startMode s1
    else if s.ctl.mode = .faultStop ∧ s.ctl.stage < 4 then net s
    else s)

/-! ### Missed stages (R363) -/

/-- The deadline of a stage in ms (R362). -/
def stageDeadline (k : Nat) : Nat := if k = 0 then 10 else if k = 1 then 250 else if k = 2 then 1500 else 3000

/-- STAGE_TIMEOUT (R363): the stage in progress is not complete at its deadline. -/
def execStageTimeout (t : Nat) (stage : Fin 4) (s : State) : Out :=
  let s := s.atTime t
  .next (if s.ctl.stage = stage.val ∧ stageDeadline stage.val ≤ s.startMs ∧ s.ctl.warm = false then
      if stage = 0 then
        (if s.ctl.mode = .fabricOnly then lockout (if s.fab.chosen.isSome then 5 else 4) (enterMode .boot 0 s) else s)
      else if s.ctl.mode = .boot then
        faultStop evStartTimeout (raise evStartTimeout [BitVec.ofNat 8 stage.val] s)
      else s
    else s)

/-! ### The supply (R367 to R373) -/

/-- SUPPLY_INTERRUPTION (R367): the converter runs from the hold-up store; nothing changes at any interface. -/
def execSupplyInterruption (t : Nat) (s : State) : Out :=
  let s := s.atTime t
  .next (if s.ctl.mode = .off ∨ s.ctl.onStore = true then s
    else { s with
      ctl := { s.ctl with onStore := true, exhausted := none }
      upd := { s.upd with trialLeft := s.upd.trialLeft - (s.time.now - s.upd.trialSince), trialSince := s.time.now } })

/-- STORE_EXHAUSTED (R369): the rails begin to leave regulation in their order. What follows comes from the deadlines that
the slowed parts miss (R370). -/
def execStoreExhausted (t : Nat) (s : State) : Out :=
  let s := s.atTime t
  .next (if s.ctl.onStore = true ∧ s.ctl.exhausted = none then
      { s with ctl := { s.ctl with exhausted := some s.time.now } } else s)

/-- A group whose converter left regulation restarts, and the Commons reloads its configuration (R372). -/
def restartGroup (s : State) (g : Fin 8) : State :=
  let s1 := sendRoles (s.modGroup g Group.powerUp)
  if 2 ≤ s1.ctl.stage then sendDrive (loadGroup g s1) else s1

/-- SUPPLY_RETURN (R372): X1 returns before the module is OFF. -/
def execSupplyReturn (t : Nat) (disturbed belowHold : Bool) (converters : List (Fin 8)) (s : State) : Out :=
  let s := s.atTime t
  .next (if s.ctl.onStore then
      let s1 := { s with ctl := { s.ctl with onStore := false, exhausted := none }, upd := { s.upd with trialSince := s.time.now } }
      if s.ctl.exhausted.isNone then s1
      else if belowHold then powerUp s
      else
        let s2 := converters.foldl restartGroup s1
        if disturbed then lockout 3 s2 else s2
    else s)

/-- SUPPLY_MEASUREMENT (R368): X1 for 0x1100:50 and the supply histograms (R408). -/
def execSupplyMeasurement (t : Nat) (x1 : BitVec 16) (s : State) : Out :=
  let s := s.atTime t
  .next (if s.ctl.mode = .off ∨ s.ctl.stage = 0 then s
    else measure 0x0001 0 (x1.setWidth 32)
      { s with ctl := { s.ctl with x1, x1Samples := (x1.toNat :: s.ctl.x1Samples).take 100 } })

/-- FABRIC_RESERVE_EXHAUSTED (R369): at least 100 ms after the store; the module is OFF. Nothing is left to record the
change. -/
def execFabricReserveExhausted (t : Nat) (s : State) : Out :=
  let s := s.atTime t
  .next (match s.ctl.exhausted with
    | some x => if x + 100000000 ≤ s.time.now then s.unpowered else s
    | none => s)

/-- LED_FALLBACK (R376): no valid request frame 250 ms after X1 reached 16.8 V, or R172 has fired. -/
def execLedFallback (t : Nat) (s : State) : Out :=
  let s := s.atTime t
  .next (if s.fab.powered ∧ (s.fab.fired = true ∨ (s.fab.seenFrame = false ∧ 250000000 ≤ s.time.now)) then
      { s with ctl := { s.ctl with ledFallback := true } } else s)

/-- CISTERN_ECC_ERROR (R373): an uncorrectable error in the Cistern during the copy of a warm restart. -/
def execCisternEccError (t : Nat) (s : State) : Out :=
  let s := s.atTime t
  .next (if s.ctl.mode = .boot ∧ s.ctl.warm = true then
      faultStop evStartTimeout (raise evWarmStateLost [] { s with ctl := { s.ctl with warmDenied := true } })
    else s)

end Sys2Proof.Machine
end

