-- ==== Sys2Proof/Machine/PairOps.lean ====
section
/-! DEFINITION. What the commands of a pair share (chapter 13): the lease (R342, R345), losing the partner (R353), the pair
states (R340), frames of the Siphon (R346, R347), planned hand-overs (R357) and the resynchronisation (R359). -/

namespace Sys2Proof.Machine

/-! ### The referee and the lease (R342 to R345) -/

/-- Has a referee frame arrived within 3 basic cycles? -/
def State.refereeOk (s : State) : Bool := s.pair.refereeAt.any (fun r => decide (s.time.now < r + 3 * s.tb))

/-- Is a lease held (R342)? -/
def State.leaseHeld (s : State) : Bool := (s.pair.held && decide (s.cycleNow < s.pair.expiry)) || s.pair.endorsed

/-- Does the ALONE exception of R342 hold? -/
def State.aloneDrives (s : State) : Bool :=
  decide (s.pair.state = .alone) && (s.pair.negotiated && (!s.refereeOk && s.odBool 0x7300 0x0B))

/-- The bytes of a referee message under its AUTH (R343). -/
def refereeBody (type : Nat) (m : RefereeMsg) : Bytes :=
  [1, BitVec.ofNat 8 type] ++ beBytes 2 m.pairId.toNat ++ beBytes 2 m.node.toNat ++
    beBytes 2 m.target.toNat ++ beBytes 4 m.epoch.toNat ++ beBytes 4 m.expiry.toNat ++ beBytes 8 m.fromCycle.toNat

/-- Is a message of the referee authentic and about this pair? Others are discarded (R342, R361). -/
def State.refereeGood (s : State) (type : Nat) (m : RefereeMsg) : Bool :=
  s.pair.inPair && (m.auth == (Config.hmacSha256 (s.odForce 0x7300 0x09) (refereeBody type m)).take 8 &&
    (m.pairId == BitVec.ofNat 16 (s.odForceNat 0x7300 0x08) && m.node == 0xFFFF))

/-- A referee frame has arrived: endorsement is not needed any more, and a silence ends (R361). -/
def hearReferee (s : State) : State :=
  raiseIf s.pair.refereeSilent evRefereeRestored []
    { s with pair := { s.pair with refereeAt := some s.time.now, refereeSilent := false, endorsed := false } }

/-- The cycle number nearest to the present one whose low 32 bits are given. -/
def State.fullCycle (s : State) (low : BitVec 32) : Nat :=
  let d := diff32 low.toNat (s.cycleNow % 2 ^ 32)
  if d < 2 ^ 31 then s.cycleNow + d else s.cycleNow - (2 ^ 32 - d)

/-- The module loses its lease: DRIVE 0, LEASE-LOST with its cause (0 REVOKE, 1 expiry, 2 no CONFIRM), no more publishing;
RELEASE is set (R345, R353). -/
def loseLease (cause : Nat) (s : State) : State :=
  let s1 := { s with
    pair := { s.pair with held := false, endorsed := false, lostLease := true, release := true }
    tel := { s.tel with publishing := false } }
  setDrive false (raise evLeaseLost [BitVec.ofNat 8 cause] s1)

/-- A lease begins to hold for a module in ALONE or ACTIVE: it drives and publishes. -/
def driveOn (s : State) : State :=
  let s1 := { s with tel := { s.tel with publishing := true } }
  if s1.pair.drive then s1 else setDrive true s1

/-- Sends a REQUEST to the referee (R343). -/
def sendRequestLease (s : State) : State := sendReferee 3 { s with pair := { s.pair with requestAt := some s.time.now } }

/-! ### Siphon frames (R346, R347) -/

/-- A frame is discarded, counted, and reported at most once per basic cycle: KIND and the check that failed (1 CRC, 2 KIND,
3 LENGTH, 4 SEQ, 5 CYCLE, 6 a delta's Tally). -/
def rejectFrame (kind check : Nat) (s : State) : State :=
  let s1 := { s with pair := { s.pair with
    rejected := satAdd 32 s.pair.rejected 1, seqIn := modAt kind (fun _ => none) s.pair.seqIn } }
  if s.pair.rejectRaised = some s.cycleNow then s1
  else raise evSiphonFrameRejected [BitVec.ofNat 8 kind, BitVec.ofNat 8 check]
    { s1 with pair := { s1.pair with rejectRaised := some s.cycleNow } }

/-- The check of R347 that a frame fails; 0 for none. -/
def State.frameFault (s : State) (f : SiphonFrame) : Nat :=
  let k := f.kind.toNat
  let n := f.payload.length
  let last := ((s.pair.seqIn[k]?).getD none)
  if f.crc ≠ siphonCrc f then 1
  else if k = 0 ∨ 6 < k then 2
  else if n < 16 ∨ 1024 < n then 3
  else if (match last with
    | some q => decide (f.seq ≠ q + 1)
    | none => decide (f.offset ≠ 0)) then 4
  else if f.cycle.toNat + 1 < s.cycleNow ∨ s.cycleNow + 1 < f.cycle.toNat then 5
  else 0

/-- Takes a frame of a kind, or discards it; a frame of another kind belongs to another command. The result says whether
it was taken and whether it was discarded. -/
def takeSiphon (kind : Nat) (f : SiphonFrame) (s : State) : State × Bool × Bool :=
  if !s.pair.inPair || (!s.sw.running || (1 ≤ f.kind.toNat && (f.kind.toNat ≤ 6 && f.kind.toNat ≠ kind))) then (s, false, false)
  else
    let r := s.frameFault f
    if r = 0 then ({ s with pair := { s.pair with seqIn := modAt kind (fun _ => some f.seq) s.pair.seqIn } }, true, false)
    else (rejectFrame f.kind.toNat r s, false, true)

/-! ### The shadow of a hitless exchange (R360) -/

/-- The slot of the image that is not active: B unless B is the active one. -/
def State.otherSlot (s : State) : Bool := !(s.upd.appActive.getD true)

/-- The shadow image becomes the active one: selector, trial (R421, R426). -/
def finishShadow (s : State) : State :=
  if s.pair.exchangeStep = 3 then
    let s1 := beginTrial true (selectImageSlot true s.otherSlot s)
    { s1.modLanes (fun l => { l with nativeNew := [] }) with pair := { s1.pair with exchangeStep := 0, shadowSince := none } }
  else s

/-- The shadow ends without effect: the lanes run the old image again; its store comes from the partner (R360). -/
def leaveShadow (s : State) : State :=
  if s.pair.exchangeStep = 3 then
    let s1 := raise evExchangeAborted [] { s with pair := { s.pair with exchangeStep := 0, shadowSince := none } }
    let s2 := s1.modLanes (fun l => { l with native := l.nativeNew, nativeNew := [] })
    match s2.loaded s2.slotBytes with
    | some old =>
      takeDigest (applyBindings (some old) (installImage old { s2 with cis := { s2.cis with mem := initSignals old (initSegments old) } }))
    | none => s2
  else s

/-! ### JOINING (R340, R341) -/

/-- JOINING asks its partner for the steps of R359 (the model's own CONTROL message, assumption 22). -/
def askResync (s : State) : State := sendControl (.exchangeStep 0) s

/-- A STANDBY module enters JOINING: no task is released, and its store is brought level again. -/
def toJoining (trigger : Nat) (s : State) : State :=
  let s1 := dropAll (setPair .joining trigger (leaveShadow s))
  askResync { s1 with pair := { s1.pair with
    level := false, resync := none, ownDigest := none, partnerDigest := none, findingAt := none, handover := none, delta := [] } }

/-! ### Losing the partner (R353, R354) -/

/-- The forwarding allowance of R349 in ns. -/
def lambdaNs (tbCode : Nat) : Nat := if tbCode = 0 then 90000 else if tbCode = 2 then 270000 else 150000

/-- The partner is lost: PARTNER-LOST (0 silence, 1 RELEASE) and what R340 and R354 say for the present state. -/
def partnerGone (cause : Nat) (s : State) : State :=
  let s0 := if cause = 0 then { s with pair := { s.pair with heartAt := none, partner := none } } else s
  let s1 := raise evPartnerLost [BitVec.ofNat 8 cause] { s0 with pair := { s0.pair with heartSince := none, endorsed := false } }
  match s.pair.state with
  | .standby =>
    let s2 := sendRequestLease { s1 with pair := { s1.pair with findingAt := some s.time.now, handover := none } }
    match s2.ctl.ownImage with
    | some img =>
      if s2.ctl.imageReady = false ∧ s2.intoCycle ≤ 60000 + lambdaNs s2.ctl.tbCode ∧ s2.ctl.mode = .standby then deliver img s2 else s2
    | none => s2
  | .active => setPair .alone evPartnerLost.toNat { s1 with pair := { s1.pair with handover := none, resync := none } }
  | .joining =>
    let s2 := raise evTakeoverImpossible [] (setPair .alone evPartnerLost.toNat { s1 with
      pair := { s1.pair with resync := none, level := false, exchangeStep := 0 }, ctl := { s1.ctl with exchange := none } })
    if s2.ctl.mode = .standby then enterMode .stop evTakeoverImpossible.toNat s2 else s2
  | .alone => s1
  | .out => s1

/-! ### Takeover (R354, R355) -/

/-- The pour that a module makes as ACTIVE or ALONE is its own from now on; it forwards and publishes. -/
def activate (trigger : Nat) (s : State) : State :=
  let heard := s.pair.heartAt.isSome
  let s1 := driveOn (setPair (if heard then .active else .alone) trigger (finishShadow s))
  let s2 := if s1.ctl.mode = .standby then enterMode .run trigger s1 else s1
  passTrial (nmtStart s2)

/-- The GRANT after a finding: the module takes over. -/
def takeOver (found : Nat) (s : State) : State :=
  let us := (s.time.now - found) / 1000
  let s1 := activate evTakeover.toNat { s with pair := { s.pair with
    findingAt := none, takeovers := satAdd 32 s.pair.takeovers 1, lastTakeover := satAt 65535 us } }
  raise evTakeover (d32 s1.pair.epoch.toNat ++ d16 (satAt 65535 us)) s1

/-! ### Planned hand-over (R357) -/

/-- A hand-over is proposed for the first macro-cycle start at least 4 basic cycles later. -/
def proposeHandover (incoming toStop simultaneous : Bool) (s : State) : State :=
  let m := s.nextMacro (s.cycleNow + 4)
  sendControl (.propose m) { s with pair := { s.pair with handover := some { m, incoming, toStop, confirmed := false, simultaneous } } }

/-- The hand-over is abandoned: HANDOVER-FAILED; the holdoff of R358 starts again, and a STOP command fails. -/
def failHandover (s : State) : State :=
  let s1 := raise evHandoverFailed [] { s with pair := { s.pair with
    handover := none, standbySince := s.pair.standbySince.map (fun _ => s.time.now) } }
  if s.pair.handover.any (·.toStop) && s.ctl.pending.isSome then setResult 8 { s1 with ctl := { s1.ctl with pending := none } } else s1

/-! ### Resynchronisation (R359) -/

/-- The size of the store in bytes. -/
def storeSize : Nat := 0x2000000

/-- The digest of the whole store, the MAILBOX region taken as zeros, with the cycle number in its closure. -/
def storeDigest (mem : Cells) (n : Nat) : Tally :=
  let m := mem.filter (fun c => c.1 < 0x1FF0000)
  tallyWords (tallyWords tallyInit (tabulate 4194304 (fun k => BitVec.ofNat 64 (cNum 8 (8 * k) m))))
    [closeC1 0x06 0 0 0, BitVec.ofNat 64 n]

/-- The force table as one CONTROL frame carries it: 24 bytes per entry in use (assumption 22). -/
def forceBytes (l : List (Nat × Force)) : Bytes :=
  l.flatMap (fun e =>
    let st : Nat := match e.2.state with
      | .free => 0
      | .pending => if e.2.removing then 4 else 1
      | .active => 2
      | .refused => 3
    leBytes 2 e.1 ++ ([e.2.kind, BitVec.ofNat 8 st] ++ (leBytes 2 e.2.target.toNat ++ ([0, e.2.source] ++
      (leBytes 8 e.2.inForce.toNat ++ leBytes 8 e.2.effective)))))

/-- The force table read from a CONTROL frame. -/
def readForces (b : Bytes) : List (Nat × Force) :=
  (chunksOf 24 b).map (fun c =>
    let st := leAt c 3 1
    let v : Word := BitVec.ofNat 64 (leAt c 8 8)
    (leAt c 0 2, { kind := BitVec.ofNat 8 (leAt c 2 1), target := BitVec.ofNat 16 (leAt c 4 2), value := v, inForce := v
                   state := if st = 1 ∨ st = 4 then .pending else if st = 2 then .active else if st = 3 then .refused else .free
                   removing := decide (st = 4), effective := leAt c 16 8, source := BitVec.ofNat 8 (leAt c 7 1) }))

/-- The parameter version that the lanes hold. -/
def State.paramsNow (s : State) : Bytes := (s.inLanes.head?.map (fun l => (s.lane l).params)).getD []

/-- An ACTIVE module starts the steps for its partner: the CONTROL frame, then the pending change set. -/
def startResync (s : State) : State :=
  if s.pair.inPair && s.pair.state = .active then
    let s1 := sendControl (.resyncState (forceBytes s.ctl.forces) s.paramsNow) { s with pair := { s.pair with resync := some (s.time.now, 0) } }
    if !s.ctl.change.pending.isEmpty then mirror (.changeSet (s.ctl.change.pending.map (fun e => (BitVec.ofNat 16 e.1, e.2))) s.ctl.change.effective) s1
    else s1
  else s

/-- Bytes of the copy that an ACTIVE module sends in one basic cycle, so that the whole store takes less than 250 ms. -/
def State.resyncChunk (s : State) : Nat := 196608 * s.tb / 1000000

/-- The frames of one part of the copy; OFFSET is the address. -/
def sendCopy (hi : Nat) : Nat → Nat → State → State
  | 0, _, s => s
  | n + 1, a, s =>
    if hi ≤ a then s
    else sendCopy hi n (a + 1024) (sendFrame 5 (decide (storeSize ≤ a + 1024)) s.cycleNow a (cRead 1024 a s.cis.mem) s)

/-- The ACTIVE module's part of R359 at a boundary: a part of the copy, and after it the digest of the whole store. -/
def resyncBoundary (n : Nat) (s : State) : State :=
  if s.pair.inPair && s.pair.state = .active then
    match s.pair.resync with
    | some (t0, a) =>
      if a < storeSize then
        let hi := min storeSize (a + s.resyncChunk)
        let s1 := sendCopy hi ((hi - a) / 1024 + 1) a s
        { s1 with pair := { s1.pair with resync := some (t0, hi) } }
      else
        let d := storeDigest s.cis.mem n
        sendControl (.digest d.p d.q) { s with pair := { s.pair with resync := none } }
    | none => s
  else s

/-- Failed resynchronisations within 60 minutes. -/
def State.resyncCount (s : State) : Nat := (s.pair.resyncFails.filter (fun x => s.time.now < x + 3600000000000)).length

/-- The steps fail: RESYNC-FAILED with the step; the third failure within 60 minutes puts the module OUT, else they start
again. -/
def resyncFailed (step : Nat) (s : State) : State :=
  let s1 := raise evResyncFailed [BitVec.ofNat 8 step] { s with pair := { s.pair with
    resync := none, level := false, partnerDigest := none, ownDigest := none
    resyncFails := s.time.now :: s.pair.resyncFails.filter (fun x => s.time.now < x + 3600000000000) } }
  if 3 ≤ s1.resyncCount then
    let s2 := setPair .out evResyncFailed.toNat { s1 with pair := { s1.pair with reason := 7 } }
    if s2.ctl.mode = .standby then enterMode .stop evResyncFailed.toNat s2 else s2
  else askResync s1

/-! ### Deltas (R348, R351) -/

/-- The Bucket entries of a delta record (R80). -/
def readEntries : List Word → List BWrite
  | [] => []
  | w :: r =>
    let n := w.toNat
    let size : Fin 4 := Fin.ofNat 4 (n / 2 ^ 62)
    let target := n / 2 ^ 32 % 2 ^ 25
    if size = 3 then
      match r with
      | v :: q => { size, target, value := v } :: readEntries q
      | [] => []
    else { size, target, value := BitVec.ofNat 64 (n % 2 ^ 32) } :: readEntries r

/-- The window records of a delta; `none` when a record is cut. -/
def readDelta : Nat → Bytes → Option (List Poured)
  | 0, _ => some []
  | n + 1, b =>
    if b.length < 40 then (if b.all (· == 0) then some [] else none)
    else
      let len := beAt b 4 4
      if len % 8 ≠ 0 ∨ b.length < 40 + len then none
      else
        let es := tabulate (len / 8) (fun k => BitVec.ofNat 64 (beAt b (24 + 8 * k) 8))
        let c1 : Word := BitVec.ofNat 64 (beAt b (24 + len) 8)
        let c2 : Word := BitVec.ofNat 64 (beAt b (32 + len) 8)
        let p : Poured := { task := Fin.ofNat 16 (beAt b 1 1), core := Fin.ofNat 4 (beAt b 0 1), opened := c2.toNat
                            lane := if beAt b 2 1 = 255 then none else some (laneOf (beAt b 2 1)), writes := readEntries es, c1, c2
                            tally := { p := BitVec.ofNat 64 (beAt b 8 8), q := BitVec.ofNat 64 (beAt b 16 8) } }
        (readDelta n (b.drop (40 + len))).map (fun r => p :: r)

/-- Does a record's Tally agree with its entries and closure? -/
def Poured.clean (p : Poured) : Bool := bucketTally p.writes p.c1 p.c2 == p.tally

/-- What the comparison of R351 needs of a window. -/
def Poured.key (p : Poured) : Fin 4 × Fin 16 × Option Lane × Tally := (p.core, p.task, p.lane, p.tally)

/-- The first window in which a delta and the module's own pour differ. -/
def State.deltaDiffers (s : State) (ps : List Poured) : Option (Fin 4 × Fin 16 × Option Lane × Tally) :=
  let theirs := ps.map Poured.key
  match theirs.find? (fun k => !s.cis.pouredTallies.contains k) with
  | some k => some k
  | none => s.cis.pouredTallies.find? (fun k => !theirs.contains k)

/-- DELTA-MISMATCH: the window, then JOINING. -/
def deltaMismatch (w : Option (Fin 4 × Fin 16 × Option Lane × Tally)) (s : State) : State :=
  let d : Bytes := match w with
    | some k => [BitVec.ofNat 8 k.1.val, BitVec.ofNat 8 k.2.1.val, BitVec.ofNat 8 ((k.2.2.1.map laneNo).getD 255)]
    | none => [0xFF, 0xFF, 0xFF]
  toJoining evDeltaMismatch.toNat (raise evDeltaMismatch d s)

/-- A complete delta of cycle `n`: garbage is discarded, a divergence ends STANDBY, and a JOINING module applies it. -/
def takeDelta (n : Nat) (s : State) : State :=
  let b := s.pair.delta
  let s0 := { s with pair := { s.pair with delta := [] } }
  match readDelta b.length b with
  | none => rejectFrame 3 6 s0
  | some ps =>
    if !ps.all Poured.clean then rejectFrame 3 6 s0
    else if s0.pair.state = .standby then
      if s0.pair.shadowSince.isSome then { s0 with pair := { s0.pair with deltaDone := some n } }
      else if s0.cis.lastPour = n then
        match s0.deltaDiffers ps with
        | some k => deltaMismatch (some k) s0
        | none => { s0 with pair := { s0.pair with deltaDone := some n } }
      else { s0 with pair := { s0.pair with delta := b } }
    else if s0.pair.state = .joining ∧ (s0.pair.resync.isSome = true ∨ s0.pair.level = true) then
      commitAll (n + 1) ps true [] { s0 with pair := { s0.pair with deltaDone := some n } }
    else s0

/-! ### Identity and budgets (R339, R350) -/

/-- The limits of R350 for the image in force. -/
def State.budgetOk (s : State) : Bool :=
  match s.app with
  | some a => budgetsFit a.tasks a.tbCode (160 + lambdaNs a.tbCode / 1000) a.maxStagger &&
      (a.tbCode != 0 || decide (worstBuckets a.tasks [] ≤ 32768))
  | none => true

/-- The verified image in the inactive application slot: its identifier, 0 for none (R360). -/
def State.shadowIdent (s : State) : BitVec 32 :=
  let x := s.upd.slot true s.otherSlot
  if x.state = 3 then x.ident else 0

/-- The digest of the Safety Map in force (R180). -/
def State.mapDigest (s : State) : Bytes := Config.sha256 ((s.fab.map.map (·.1)).getD emptyMap)

/-- The identity that the module sends in CONTROL frames. -/
def State.identity (s : State) : PartnerId :=
  { edition := s.edition, imageId := s.imageId, mapDigest := s.mapDigest, matrixDigest := s.sw.digest
    pairId := BitVec.ofNat 16 (s.odForceNat 0x7300 0x08), preferred := s.pair.preferred, slotId := s.ctl.slotId
    serial := s.serial, starting := !s.pair.negotiated, budgetOk := s.budgetOk, shadowImage := s.shadowIdent }

/-- The reason for which no pair is formed (R339, 0x7300:04); 0 for none. -/
def State.pairReason (s : State) (p : PartnerId) : Nat :=
  let me := s.identity
  if p.edition ≠ me.edition then 1
  else if p.imageId ≠ me.imageId then 2
  else if p.mapDigest ≠ me.mapDigest then 3
  else if p.matrixDigest ≠ me.matrixDigest then 4
  else if !(p.budgetOk && me.budgetOk) then 5
  else if p.pairId ≠ me.pairId then 6 else 0

/-- Is one serial number lower than another in ASCII order? -/
def serialLt : Bytes → Bytes → Bool
  | [], [] => false
  | [], _ :: _ => true
  | _ :: _, [] => false
  | a :: x, b :: y => decide (a.toNat < b.toNat) || (a == b && serialLt x y)

/-- Both modules found the same role: the lower slot ID, then the lower serial number, takes PREFERRED (R338, R432). -/
def settleRole (p : PartnerId) (s : State) : State :=
  if p.preferred = s.pair.preferred then
    let first := decide (s.ctl.slotId < p.slotId) || (s.ctl.slotId == p.slotId && serialLt s.serial p.serial)
    raise evRoleConflict [BitVec.ofNat 8 (if s.pair.preferred then 2 else 3)] { s with pair := { s.pair with preferred := first } }
  else s

end Sys2Proof.Machine
end

