-- ==== Sys2Proof/Machine/Pair.lean ====
section
/-! DEFINITION. The pair's commands (chapter 13): negotiation, heartbeats, images, deltas, mirrored state, the copy of a
resynchronisation, the referee, and the sending of hand-over messages. -/

namespace Sys2Proof.Machine

/-! ### Negotiation (R338 to R340) -/

/-- A pair cannot be formed: OUT with its reason; a Safety Map difference also raises MAP-PAIR-MISMATCH (R181, R339). -/
def pairRefused (r : Nat) (s : State) : State :=
  let s1 := raise evPairRefused [BitVec.ofNat 8 r] { s with pair := { s.pair with reason := r, negotiated := true } }
  setPair .out evPairRefused.toNat (raiseIf (decide (r = 3)) evMapPairMismatch [] s1)

/-- The negotiation with what was heard of the partner within 200 ms. A PREFERRED module whose partner also starts waits
for its lease. -/
def negotiate (partner : Option PartnerId) (s : State) : State :=
  match partner with
  | none =>
    let s1 := { s with pair := { s.pair with negotiated := true, partnerId := none } }
    if s1.leaseHeld then driveOn s1 else sendRequestLease s1
  | some p =>
    let r := s.pairReason p
    let s1 := { s with pair := { s.pair with partnerId := some p } }
    if r ≠ 0 then pairRefused r s1
    else
      let s2 := if s.pair.partnerId = some p then s1 else settleRole p s1
      if p.starting && s2.pair.preferred then
        if s2.leaseHeld then driveOn (setPair .active 0 { s2 with pair := { s2.pair with negotiated := true } })
        else if s2.pair.requestAt.any (fun q => decide (s.time.now < q + 1000000)) then s2
        else sendRequestLease s2
      else toJoining 0 { s2 with pair := { s2.pair with negotiated := true } }

/-- PAIR_NEGOTIATION (R339, R340): the identities have been exchanged, or 200 ms have passed without a partner. -/
def execPairNegotiation (t : Nat) (partner : Option PartnerId) (s : State) : Out :=
  let s := s.atTime t
  .next (if (s.pair.inPair && !s.pair.negotiated) = true ∧ 3 ≤ s.ctl.stage ∧ s.ctl.mode ≠ .faultStop then
      let s1 := if s.sw.running then s else startNetwork s
      negotiate partner (sendControl (.identity s1.identity) s1)
    else s)

/-! ### Heartbeats (R340, R342, R346, R353, R361) -/

/-- Does the module endorse its partner (R342)? The last lease is the partner's unless this module held it last. -/
def State.endorses (s : State) : Bool :=
  s.odBool 0x7300 0x0A && ((s.pair.state = .standby || s.pair.state = .joining) && (!s.refereeOk &&
    (if s.pair.epoch = 0 then !s.pair.preferred else s.pair.leaseEpoch != s.pair.epoch)))

/-- The payload of a heartbeat. -/
def State.heartbeat (s : State) : Bytes :=
  let flags := b2n s.pair.release + 2 * b2n s.leaseHeld + 4 * b2n s.pair.drive + 8 * b2n s.refereeOk + 16 * b2n s.endorses
  [BitVec.ofNat 8 (pstateNo s.pair.state), BitVec.ofNat 8 (modeNo s.ctl.mode), BitVec.ofNat 8 flags,
   BitVec.ofNat 8 (if s.pair.preferred then 2 else 3)] ++ (beBytes 4 s.pair.epoch.toNat ++
    (beBytes 4 (s.cis.lastPour % 2 ^ 32) ++ List.replicate 4 0))

/-- HEARTBEAT_SEND (R346): at every multiple of 5 µs, and at once with RELEASE (R353). -/
def execHeartbeatSend (t : Nat) (s : State) : Out :=
  let s := s.atTime t
  .next (if (s.pair.inPair && s.sw.running) = true ∧ (s.time.now % 5000 = 0 ∨ s.pair.release = true) then
      let s1 := sendFrame 1 true s.cycleNow 0 s.heartbeat s
      { s1 with pair := { s1.pair with release := false } }
    else s)

/-- Both modules show LEASE_HELD outside a planned hand-over: the lower EPOCH, or SECONDARY, clears DRIVE and sends RENEW
(R361). -/
def dualLease (was : Option Beat) (b : Beat) (s : State) : State :=
  if b.flags.getLsbD 1 && (s.leaseHeld && s.pair.handover.isNone) then
    let s1 := raiseIf (!(was.any (·.flags.getLsbD 1))) evDualLease [] s
    let lower := decide (s.pair.leaseEpoch < b.epoch) || (s.pair.leaseEpoch == b.epoch && !s.pair.preferred)
    if lower && s1.pair.drive then sendReferee 1 (setDrive false s1) else s1
  else s

/-- The endorsement that a heartbeat carries (R342). -/
def endorse (b : Beat) (s : State) : State :=
  let e := s.odBool 0x7300 0x0A && (!s.refereeOk && b.flags.getLsbD 4)
  let s1 := { s with pair := { s.pair with endorsed := e } }
  if e && !s.pair.endorsed then
    if !s1.pair.negotiated then negotiate s1.pair.partnerId s1
    else if s1.pair.state = .alone ∨ s1.pair.state = .active then driveOn s1 else s1
  else s1

/-- A valid heartbeat without RELEASE. -/
def aliveBeat (was : Option Beat) (b : Beat) (s : State) : State :=
  let long := s.pair.heartSince.any (fun h => decide (h + 1000000 ≤ s.time.now))
  let s1 := if s.pair.state = .alone ∧ s.pair.negotiated = true ∧ long = true then setPair .active 0 s else s
  endorse b (dualLease was b s1)

/-- SIPHON_HEARTBEAT (R346). -/
def execSiphonHeartbeat (t : Nat) (f : SiphonFrame) (s : State) : Out :=
  let s := s.atTime t
  let r := takeSiphon 1 f s
  .next (if r.2.1 then
      let q := r.1
      let p := f.payload
      let b : Beat := { state := beAt p 0 1, flags := BitVec.ofNat 8 (beAt p 2 1), epoch := BitVec.ofNat 32 (beAt p 4 4)
                        pour := beAt p 8 4, image := f.cycle.toNat }
      let q1 := { q with pair := { q.pair with
        heartAt := some q.time.now, heartSince := some (q.pair.heartSince.getD q.time.now), partner := some b
        epoch := if q.pair.epoch < b.epoch then b.epoch else q.pair.epoch } }
      if b.flags.getLsbD 0 then partnerGone 1 q1 else aliveBeat q.pair.partner b q1
    else r.1)

/-- PARTNER_LOST (R353): no valid heartbeat for 10.5 µs. -/
def execPartnerLost (t : Nat) (s : State) : Out :=
  let s := s.atTime t
  .next (match s.pair.heartAt with
    | some h => if s.pair.inPair = true ∧ h + 10500 ≤ s.time.now then partnerGone 0 s else s
    | none => s)

/-! ### The forwarded image (R349) -/

/-- The forwarded image with its context is whole: its CRC, and to the lanes of a STANDBY in time. -/
def forwardComplete (s : State) : State :=
  let b := s.pair.fwdImage
  let ctx := readCtx (s.pair.fwdCtx.take 2064)
  if leAt b 0 4 = (crc32c (b.drop 4)).toNat ∧ ctx.crcOk = true then
    let s1 := { s with pair := { s.pair with fwdReady := some s.cycleNow } }
    if s1.pair.state = .standby ∧ s1.ctl.mode = .standby ∧ s1.ctl.imageReady = false ∧
        s1.intoCycle ≤ 60000 + lambdaNs s1.ctl.tbCode then
      deliver { cycle := s1.cycleNow, bytes := b, ctx } s1
    else s1
  else s

/-- One frame of the image object, then of the seal context. -/
def takeImage (f : SiphonFrame) (s : State) : State :=
  let size := 1024 * imageKib s.ctl.tbCode
  let p := s.pair
  let inImg := decide (p.fwdImage.length < size)
  let have' := if inImg then p.fwdImage else p.fwdCtx
  let now := have' ++ f.payload
  let last := f.flags.getLsbD 0
  let none' := { s with pair := { p with fwdImage := [], fwdCtx := [] } }
  if f.cycle.toNat ≠ s.cycleNow then s
  else if f.offset ≠ have'.length then none'
  else if inImg then
    if last && decide (now.length ≠ size) then none' else { s with pair := { p with fwdImage := now } }
  else
    let s1 := { s with pair := { p with fwdCtx := now } }
    if last then forwardComplete s1 else s1

/-- SIPHON_IMAGE (R349). -/
def execSiphonImage (t : Nat) (f : SiphonFrame) (s : State) : Out :=
  let r := takeSiphon 2 f (s.atTime t)
  .next (if r.2.1 then takeImage f r.1
    else if r.2.2 then { r.1 with pair := { r.1.pair with fwdImage := [], fwdCtx := [] } } else r.1)

/-- FORWARD_IMAGE_LATE (R349): IMAGE-FORWARD-LATE and JOINING. -/
def execForwardImageLate (t : Nat) (s : State) : Out :=
  let s := s.atTime t
  .next (if s.pair.inPair = true ∧ s.pair.state = .standby ∧ s.ctl.mode = .standby ∧ s.ctl.imageReady = false ∧
      60000 + lambdaNs s.ctl.tbCode ≤ s.intoCycle then
      toJoining evImageForwardLate.toNat (raise evImageForwardLate [] s)
    else s)

/-! ### Deltas (R351) -/

/-- SIPHON_DELTA (R351): the records are checked when the delta is whole. -/
def execSiphonDelta (t : Nat) (f : SiphonFrame) (s : State) : Out :=
  let r := takeSiphon 3 f (s.atTime t)
  let q := r.1
  .next (if r.2.1 then
      if f.offset ≠ q.pair.delta.length ∧ f.offset ≠ 0 then { q with pair := { q.pair with delta := [] } }
      else
        let d := (if f.offset = 0 then [] else q.pair.delta) ++ f.payload
        let q1 := { q with pair := { q.pair with delta := d } }
        if f.flags.getLsbD 0 then takeDelta f.cycle.toNat q1 else q1
    else if r.2.2 then { q with pair := { q.pair with delta := [] } } else q)

/-- DELTA_DEADLINE (R351): the delta of the previous cycle's pour is missing or incomplete at T_b − 100 µs. A delta that
came before the own pour was complete is compared now. A partner loss found first takes precedence. -/
def execDeltaDeadline (t : Nat) (s : State) : Out :=
  let s := s.atTime t
  .next (if s.pair.inPair = true ∧ s.pair.heartAt.isSome = true ∧ s.pair.findingAt.isNone = true ∧ s.cis.poured = false ∧
      s.tb ≤ s.intoCycle + 100000 ∧ 1 ≤ s.cis.lastPour ∧ s.cis.lastPour + 1 = s.cycleNow then
      let s1 := if s.pair.delta.isEmpty || s.pair.deltaDone = some s.cis.lastPour then s else takeDelta s.cis.lastPour s
      if s1.pair.deltaDone = some s1.cis.lastPour then s1
      else if s1.pair.state = .standby ∧ s1.pair.shadowSince.isNone = true then deltaMismatch none s1
      else if s1.pair.state = .joining ∧ s1.pair.level = true then askResync { s1 with pair := { s1.pair with level := false } }
      else s1
    else s)

/-! ### Mirrored state (R352) -/

/-- Parameter bytes with the entries of a change set in place. -/
def patchParams (app : AppImage) (entries : List (Nat × Word)) (b : Bytes) : Bytes :=
  entries.foldl (fun x e => match app.params[e.1]? with
    | some p => patch x p.offset (leBytes (xSize p.xty) e.2.toNat)
    | none => x) b

/-- A change set is PENDING for boundary `b`, and every lane that is IN or REINTEGRATING has it (R142). -/
def deliverSet (entries : List (Nat × Word)) (b : Nat) (s : State) : State :=
  let s1 := { s with ctl := { s.ctl with change := { s.ctl.change with state := 2, reason := 0, effective := b, pending := entries } } }
  match s.app with
  | some app => s1.modLanes (fun l => if l.state = .isIn ∨ l.state = .reintegrating then
      { l with paramsNew := some (patchParams app entries l.params, b) } else l)
  | none => s1

/-- One force entry. -/
def State.force (s : State) (n : Nat) : Force := (lookupKey n s.ctl.forces).getD {}

/-- Replaces one force entry. -/
def putForce (n : Nat) (f : Force) (s : State) : State := { s with ctl := { s.ctl with forces := setKey n f s.ctl.forces } }

/-- A mirrored force, change set or host write takes its place for boundary `b`. -/
def applyMirror (m : MirrorMsg) (s : State) : State :=
  match m with
  | .force n kind target value on b =>
    let f := s.force n.val
    let busy := f.state = .active || f.state = .pending
    putForce n.val (if on then
        if busy then { f with inForce := f.at s.cycleNow, value, valueFrom := some (value, b) }
        else { f with kind, target, value, inForce := value, valueFrom := none, state := .pending, removing := false, effective := b }
      else if f.state = .active then { f with state := .pending, removing := true, effective := b }
      else { f with kind, target, value }) s
  | .changeSet es b => deliverSet (es.map (fun e => (e.1.toNat, e.2))) b s
  | .hostWrite e v b level client =>
    { s with cis := { s.cis with orders := s.cis.orders ++ [{ entry := e, value := v, boundary := b, via := none, level, client }] } }

/-- The boundary at which a mirrored change takes effect. -/
def mirrorBoundary : MirrorMsg → Nat
  | .force _ _ _ _ _ b => b
  | .changeSet _ b => b
  | .hostWrite _ _ b _ _ => b

/-- A mirrored frame was late or rejected (R340, R352). -/
def mirrorLost (s : State) : State :=
  if s.pair.state = .standby then toJoining 0 s
  else if s.pair.state = .joining && s.pair.level then askResync { s with pair := { s.pair with level := false } } else s

/-- SIPHON_STATE (R352). -/
def execSiphonState (t : Nat) (f : SiphonFrame) (m : MirrorMsg) (s : State) : Out :=
  let r := takeSiphon 4 f (s.atTime t)
  .next (if r.2.1 then (if mirrorBoundary m ≤ r.1.cycleNow then mirrorLost r.1
      else if r.1.pair.state = .standby ∨ r.1.pair.state = .joining then applyMirror m r.1 else r.1)
    else if r.2.2 then mirrorLost r.1 else r.1)

/-! ### The copy of a resynchronisation (R359) -/

/-- A part of the copy enters the store and the read copies. -/
def putCopy (a : Nat) (b : Bytes) (s : State) : State :=
  if a < 0x1FF0000 then pushWrites [(a, b)] s else { s with cis := { s.cis with mem := cWrite a b s.cis.mem } }

/-- SIPHON_RESYNC (R359): a rejected frame restarts the steps. -/
def execSiphonResync (t : Nat) (f : SiphonFrame) (s : State) : Out :=
  let r := takeSiphon 5 f (s.atTime t)
  let q := r.1
  .next (match q.pair.resync with
    | some (t0, a) =>
      if q.pair.state ≠ .joining then q
      else if r.2.1 = true ∧ f.offset = a then
        let q1 := putCopy a f.payload q
        { q1 with pair := { q1.pair with resync := some (t0, a + f.payload.length) } }
      else if r.2.1 = true ∨ r.2.2 = true then resyncFailed 2 q
      else q
    | none => q)

/-- RESYNC_COMPLETE (R359): the copy is complete and the partner's digest is there; the digests are compared. -/
def execResyncComplete (t : Nat) (s : State) : Out :=
  let s := s.atTime t
  .next (match s.pair.resync, s.pair.partnerDigest with
    | some (_, a), some d =>
      if s.pair.state = .joining ∧ storeSize ≤ a then
        let own := storeDigest s.cis.mem s.pair.digestCycle
        let s1 := { s with pair := { s.pair with ownDigest := some own } }
        if own = d then
          raise evResyncDone [] { s1 with pair := { s1.pair with
            resync := none, level := true, partnerDigest := none, resyncs := satAdd 32 s1.pair.resyncs 1 } }
        else resyncFailed 4 s1
      else s
    | _, _ => s)

/-- RESYNC_TIMEOUT (R359): the copy is not complete within 250 ms. -/
def execResyncTimeout (t : Nat) (s : State) : Out :=
  let s := s.atTime t
  .next (match s.pair.resync with
    | some (t0, a) =>
      if s.pair.state = .joining ∧ a < storeSize ∧ t0 + 250000000 ≤ s.time.now then resyncFailed 2 s else s
    | none => s)

/-! ### The referee (R342 to R345, R361) -/

/-- RENEW_SEND (R343): the holder sends RENEW within 20 µs after every boundary. -/
def execRenewSend (t : Nat) (s : State) : Out :=
  let s := s.atTime t
  .next (if (s.pair.inPair && s.pair.held) = true ∧ s.intoCycle ≤ 20000 then sendReferee 1 s else s)

/-- REFEREE_CONFIRM (R342): it extends the lease of the EPOCH that the module holds. -/
def execRefereeConfirm (t : Nat) (m : RefereeMsg) (s : State) : Out :=
  let s := s.atTime t
  .next (if s.refereeGood 2 m then
      let s1 := hearReferee s
      if s1.pair.held = true ∧ m.target = s1.nodeId ∧ m.epoch = s1.pair.leaseEpoch ∧ s1.pair.epoch ≤ m.epoch then
        { s1 with pair := { s1.pair with expiry := s1.fullCycle m.expiry, confirmed := true } }
      else s1
    else s)

/-- The lease of a GRANT. -/
def holdLease (m : RefereeMsg) (s : State) : State :=
  { s with pair := { s.pair with
    held := true, epoch := m.epoch, leaseEpoch := m.epoch, expiry := s.fullCycle m.expiry, confirmed := true, requestAt := none } }

/-- REFEREE_GRANT (R342): in reply to an own REQUEST within 1 ms, or as the incoming module of a confirmed hand-over. -/
def execRefereeGrant (t : Nat) (m : RefereeMsg) (s : State) : Out :=
  let s := s.atTime t
  .next (if s.refereeGood 4 m then
      let s1 := hearReferee s
      let asked := s1.pair.requestAt.any (fun q => decide (s1.time.now < q + 1000000))
      let coming := s1.pair.handover.any (fun h => h.incoming && (h.confirmed && (m.fromCycle.toNat + 1 == h.m &&
        decide (s1.time.now ≤ (h.m - 1) * s1.tb))))
      if m.target ≠ s1.nodeId ∨ m.epoch < s1.pair.epoch then s1
      else if asked then
        let s2 := holdLease m s1
        match s2.pair.findingAt with
        | some found => if s2.pair.state = .standby then takeOver found s2 else s2
        | none =>
          if !s2.pair.negotiated then negotiate s2.pair.partnerId s2
          else if s2.pair.state = .alone ∨ s2.pair.state = .active then driveOn s2 else s2
      else if coming then holdLease m s1
      else s1
    else s)

/-- REFEREE_REVOKE (R345): of the EPOCH that the module holds. -/
def execRefereeRevoke (t : Nat) (m : RefereeMsg) (s : State) : Out :=
  let s := s.atTime t
  .next (if s.refereeGood 5 m then
      let s1 := hearReferee s
      if s1.pair.held = true ∧ m.epoch = s1.pair.leaseEpoch then loseLease 0 s1 else s1
    else s)

/-- REFEREE_REFUSE (R361): the standby stays STANDBY. -/
def execRefereeRefuse (t : Nat) (m : RefereeMsg) (s : State) : Out :=
  let s := s.atTime t
  .next (if s.refereeGood 6 m then
      let s1 := hearReferee s
      let s2 := { s1 with pair := { s1.pair with requestAt := none, findingAt := none } }
      if s1.pair.findingAt.isSome then raise evTakeoverRefused [] s2 else s2
    else s)

/-- LEASE_EXPIRY (R345): the lease has expired, or the partner is lost and no CONFIRM of the cycle has come by
T_b − 100 µs. A module in ALONE may drive on without a lease (R342). -/
def execLeaseExpiry (t : Nat) (s : State) : Out :=
  let s := s.atTime t
  .next (if s.pair.inPair = true ∧ s.pair.drive = true ∧ s.leaseHeld = false then
      (if s.aloneDrives then
        raiseIf s.pair.held evAloneDrive [] { s with pair := { s.pair with held := false } }
      else loseLease 1 s)
    else if (s.pair.inPair && (s.pair.held && (!s.pair.endorsed && (s.pair.heartAt.isNone && !s.pair.confirmed)))) = true ∧
        s.tb ≤ s.intoCycle + 100000 ∧ s.aloneDrives = false then loseLease 2 s
    else s)

/-- REFEREE_SILENT (R361): no referee frame for 3 basic cycles. -/
def execRefereeSilent (t : Nat) (s : State) : Out :=
  let s := s.atTime t
  .next (if (s.pair.inPair && (s.sw.running && (!s.pair.refereeSilent && !s.refereeOk))) = true ∧ 3 * s.tb ≤ s.time.now then
      let s1 := raise evRefereeSilent [] { s with pair := { s.pair with refereeSilent := true } }
      if s1.aloneDrives = true ∧ s1.pair.drive = false then raise evAloneDrive [] (driveOn s1) else s1
    else s)

/-! ### Sending the hand-over (R357, R358) -/

/-- HANDOVER_SEND (R357): at m − 2 T_b the outgoing module names the incoming one, whose node ID is a free value of the
model (the identity of R339 does not list it). -/
def execHandoverSend (t : Nat) (s : State) : Out :=
  let s := s.atTime t
  .next (match s.pair.handover with
    | some h =>
      if (!h.incoming && h.confirmed) = true ∧ s.cycleNow + 2 = h.m then
        (s.emit (.referee 8 (s.refereeMsg 8 (s.free 16) (h.m - 1)))).tick
      else s
    | none => s)

/-- HANDOVER_DRIVE (R357): at m − T_b the incoming module drives, or the hand-over fails without a GRANT. The outgoing
module finds that from the partner's heartbeats. -/
def execHandoverDrive (t : Nat) (s : State) : Out :=
  let s := s.atTime t
  .next (match s.pair.handover with
    | some h =>
      if h.m ≤ s.cycleNow + 1 then
        if h.incoming then
          if (h.confirmed && s.leaseHeld) = false then failHandover s
          else if h.simultaneous then s else setDrive true s
        else if h.confirmed && s.pair.partner.any (·.flags.getLsbD 1) then s else failHandover s
      else s
    | none => s)

/-- REVERSION (R358): a PREFERRED module that has stayed STANDBY for the holdoff starts a hand-over as the incoming one. -/
def execReversion (t : Nat) (s : State) : Out :=
  let s := s.atTime t
  .next (match s.pair.standbySince with
    | some t0 =>
      if (s.pair.inPair && (s.pair.preferred && (s.odBool 0x7300 0x06 && s.pair.handover.isNone))) = true ∧ s.pair.state = .standby ∧
          s.ctl.mode = .standby ∧ s.pair.exchangeStep = 0 ∧ s.pair.findingAt = none ∧
          t0 + s.odNat 0x7300 0x05 * 1000000000 ≤ s.time.now then
        proposeHandover true false false (raise evReversion [] s)
      else s
    | none => s)

end Sys2Proof.Machine
end

