-- ==== Sys2Proof/Machine/Exchange.lean ====
section
/-! DEFINITION. Translation (R118 to R120), program exchange (R148, R149), the hitless exchange of a pair (R360), the CONTROL
frames of the Siphon, and the end of a planned hand-over (R357). -/

namespace Sys2Proof.Machine

/-! ### The new image -/

/-- The content of the inactive application slot. -/
def State.otherBytes (s : State) : Bytes := (s.upd.slot true s.otherSlot).bytes

/-- The image in the inactive application slot, when it passes every check of R117. -/
def State.nextImage (s : State) : Option AppImage := s.loaded s.otherBytes

/-- The exchange ends without effect: EXCHANGE-FAILED with the step; the old image stays active (R149). -/
def exchangeFailed (step : Nat) (s : State) : State :=
  let s1 := raise evExchangeFailed [BitVec.ofNat 8 step] (s.modLanes (fun l => { l with nativeNew := [], digest := none }))
  let inPair := s.pair.exchangeStep ≠ 0
  let s2 := { s1 with ctl := { s1.ctl with exchange := none }, pair := { s1.pair with exchangeStep := 0 } }
  if inPair then sendControl (.exchangeStep 6) s2
  else setResult 8 { s2 with ctl := { s2.ctl with pending := none } }

/-- Exchange on a single module, after the digest vote (R149 steps 3 to 5): EXCHANGE-DONE and the trial. -/
def exchangeDone (app : AppImage) (s : State) : State :=
  let s1 := selectImageSlot true s.otherSlot (exchangeTo app s)
  let s2 := setResult 2 { s1 with ctl := { s1.ctl with exchange := none, pending := none } }
  beginTrial true (raise evExchangeDone [] s2)

/-- The former ACTIVE module after the vote of step 5: the new image over an initial store, which its partner then brings
level (R359, R360). -/
def joinNew (app : AppImage) (s : State) : State :=
  let s1 := s.modLanes (fun l => { l with native := l.nativeNew, nativeNew := [], digest := none })
  let s2 := { s1 with
    cis := { s1.cis with mem := initSignals app (initSegments app) }
    ctl := { s1.ctl with exchange := none }, pair := { s1.pair with exchangeStep := 0, level := false } }
  askResync (takeDigest (applyBindings (some app) (installImage app s2)))

/-- The digest vote of an exchange (R149 step 2, R360). -/
def exchangeVote (app : AppImage) (s : State) : State :=
  let p := s.digestPoll
  if p.decided then
    let s1 := (outvoted p).foldl (dissentOut evDigestDissent) s
    if s1.pair.exchangeStep = 1 then { s1 with ctl := { s1.ctl with exchange := none }, pair := { s1.pair with exchangeStep := 2 } }
    else if s1.pair.exchangeStep = 5 then joinNew app s1
    else exchangeDone app s1
  else exchangeFailed 2 (raise evDigestSplit [] s)

/-- A lane has translated the new image of an exchange, or rejects it. The vote follows when every lane IN has delivered. -/
def exchangeTranslated (ln : Lane) (native : List Word) (s : State) : State :=
  let bytes := if s.pair.exchangeStep = 5 then s.slotBytes else s.otherBytes
  match s.loaded bytes with
  | some app =>
    let s1 := s.modLane ln (fun l => { l with nativeNew := native, digest := some (translationDigest native app.ident s.edition) })
    if s1.inLanes.all (fun l => (s1.lane l).digest.isSome) then exchangeVote app s1 else s1
  | none => exchangeFailed 1 (rejectImage ln (s.loadReason bytes) s)

/-- At the start, a lane loads the container of the active slot, checks it and translates it. -/
def startTranslated (ln : Lane) (native : List Word) (s : State) : State :=
  match s.loaded s.slotBytes with
  | some app => s.modLane ln (fun l => { l with
      image := some app, native, digest := some (translationDigest native app.ident s.edition) })
  | none => if s.upd.appActive.isSome then rejectImage ln (s.loadReason s.slotBytes) s else s

/-- A lane in REINTEGRATING whose native code differed has translated again (R50). -/
def reintTranslated (ln : Lane) (native : List Word) (s : State) : State :=
  if s.nativeOk native then s.modLane ln (fun l => { l with native, copySince := some s.time.now }) else reintFailed ln s

/-- TRANSLATION_COMPLETE (R119): at stage 2, in a warm restart (R131), in an exchange, or in a reintegration. -/
def execTranslationComplete (t : Nat) (ln : Lane) (native : List Word) (s : State) : Out :=
  let s := s.atTime t
  .next (if s.ctl.mode = .boot ∧ s.ctl.stage = 2 ∧ s.ctl.warm = false then startTranslated ln native s
    else if s.ctl.warmRestart.isSome then
      warmMark ln (s.nativeOk native) (s.modLane ln (fun l => { l with native }))
    else if (s.lane ln).state = .reintegrating ∧ (s.lane ln).copySince = none then reintTranslated ln native s
    else if s.ctl.exchange.isSome then exchangeTranslated ln native s
    else s)

/-! ### The hitless exchange (R360) -/

/-- Step 1 at the STANDBY: JOINING with its store kept level, and the lanes translate the new image. -/
def beginShadow (s : State) : State :=
  if s.pair.state = .standby ∧ s.pair.exchangeStep = 0 ∧ s.nextImage.isSome = true then
    let s1 := dropAll (setPair .joining 0 s)
    { s1 with
      pair := { s1.pair with exchangeStep := 1, level := true }
      ctl := { s1.ctl with exchange := some s1.time.now } }
  else sendControl (.exchangeStep 6) s

/-- Steps 2 and 3 at a macro-cycle start: the new Cistern, and the shadow on the forwarded images. -/
def shadowBoundary (n : Nat) (s : State) : State :=
  if s.pair.exchangeStep = 2 ∧ s.macroStart n = true ∧ s.ctl.mode = .standby then
    match s.nextImage with
    | some app =>
      let s1 := carryTo app s
      raise evExchangeShadow [] (setPair .standby evExchangeShadow.toNat
        { s1 with pair := { s1.pair with exchangeStep := 3, shadowSince := some s1.time.now } })
    | none => exchangeFailed 2 s
  else s

/-- The exchange that the ACTIVE module commanded ends without effect. -/
def exchangeDropped (s : State) : State :=
  if s.pair.exchangeStep = 10 then
    setResult 8 { s with pair := { s.pair with exchangeStep := 0 }, ctl := { s.ctl with pending := none } }
  else s

/-- EXCHANGE-ABORT (R360), given before step 4; `told` says that the partner has sent it. -/
def abortExchange (told : Bool) (s : State) : State :=
  let s0 := if told then s else sendControl (.exchangeStep 6) s
  if s.pair.exchangeStep = 3 then toJoining evExchangeAborted.toNat s0
  else if s.pair.exchangeStep = 1 ∨ s.pair.exchangeStep = 2 then
    raise evExchangeAborted [] { s0.modLanes (fun l => { l with nativeNew := [], digest := none }) with
      ctl := { s0.ctl with exchange := none }, pair := { s0.pair with exchangeStep := 0 } }
  else exchangeDropped s0

/-- SHADOW_PERIOD_EXPIRY (R360 step 4): a planned hand-over with simultaneous switching. -/
def execShadowPeriodExpiry (t : Nat) (s : State) : Out :=
  let s := s.atTime t
  .next (match s.pair.shadowSince with
    | some t0 =>
      if s.pair.exchangeStep = 3 ∧ s.pair.handover = none ∧ t0 + s.odNat 0x7300 0x0F * 1000000000 ≤ s.time.now then
        proposeHandover true false true s
      else s
    | none => s)

/-! ### CONTROL frames (R339, R357, R359, R360) -/

/-- A proposed hand-over is confirmed. -/
def takeProposal (m : Nat) (s : State) : State :=
  let simultaneous := s.pair.exchangeStep ≠ 0
  let take (incoming : Bool) : State := sendControl (.confirm m) { s with pair := { s.pair with
    handover := some { m, incoming, toStop := false, confirmed := true, simultaneous } } }
  if s.pair.handover.isSome ∨ m ≤ s.cycleNow then s
  else if s.pair.state = .standby ∧ s.ctl.mode = .standby ∧ s.pair.findingAt = none then take true
  else if s.pair.state = .active ∧ s.ctl.mode = .run then take false
  else s

/-- Step 1 of R359 at the JOINING module: force table and parameter values of the partner. -/
def beginResync (forces params : Bytes) (s : State) : State :=
  let s1 := s.modLanes (fun l => { l with params, paramsNew := none })
  raise evResyncStart [] { s1 with
    ctl := { s1.ctl with forces := readForces forces }
    pair := { s1.pair with resync := some (s1.time.now, 0), level := false, partnerDigest := none, ownDigest := none } }

/-- What a CONTROL frame of a cycle does. -/
def takeControl (cycle : Nat) (m : ControlMsg) (s : State) : State :=
  match m with
  | .identity p =>
    let s1 := { s with pair := { s.pair with partnerId := if s.pair.negotiated then some p else s.pair.partnerId } }
    if p.starting && s1.pair.negotiated then sendControl (.identity s1.identity) s1 else s1
  | .propose n => takeProposal n s
  | .confirm n =>
    match s.pair.handover with
    | some h => if h.m = n then { s with pair := { s.pair with handover := some { h with confirmed := true } } } else s
    | none => s
  | .resyncState forces params => if s.pair.state = .joining then beginResync forces params s else s
  | .digest p q =>
    if s.pair.state = .joining then { s with pair := { s.pair with partnerDigest := some { p, q }, digestCycle := cycle } } else s
  | .exchangeStep k =>
    if k = 0 then startResync s else if k = 1 then beginShadow s
    else if k = 6 then abortExchange true s else s

/-- SIPHON_CONTROL (R339, R357, R359, R360). -/
def execSiphonControl (t : Nat) (f : SiphonFrame) (m : ControlMsg) (s : State) : Out :=
  let r := takeSiphon 6 f (s.atTime t)
  .next (if r.2.1 then takeControl f.cycle.toNat m r.1 else r.1)

/-! ### The end of a hand-over (R123, R357, R360) -/

/-- The incoming module at m: RUN and ACTIVE. -/
def handoverIn (h : Handover) (s : State) : State :=
  let s1 := activate evHandoverDone.toNat { s with pair := { s.pair with handover := none } }
  raise evHandoverDone (leBytes 8 h.m) s1

/-- The outgoing module at m: no DRIVE; STANDBY, or STOP and JOINING after a STOP command, or the new image of an exchange. -/
def handoverOut (h : Handover) (s : State) : State :=
  let s1 := setDrive false { s with
    pair := { s.pair with handover := none, held := false }, tel := { s.tel with publishing := false } }
  let s2 := raise evHandoverDone (leBytes 8 h.m) s1
  if h.toStop then
    let s3 := dropAll (enterMode .stop evHandoverDone.toNat (setPair .joining evHandoverDone.toNat s2))
    askResync (setResult 2 { s3 with ctl := { s3.ctl with pending := none } })
  else if s2.pair.exchangeStep = 10 then
    let s3 := dropAll (enterMode .standby evHandoverDone.toNat (setPair .joining evHandoverDone.toNat s2))
    let s4 := beginTrial true (selectImageSlot true s3.otherSlot s3)
    setResult 2 { s4 with
      pair := { s4.pair with exchangeStep := 5, level := false }
      ctl := { s4.ctl with exchange := some s4.time.now, pending := none } }
  else enterMode .standby evHandoverDone.toNat (setPair .standby evHandoverDone.toNat s2)

/-- HANDOVER_DONE (R357): at m. -/
def execHandoverDone (t : Nat) (s : State) : Out :=
  let s := s.atTime t
  .next (match s.pair.handover with
    | some h =>
      if h.confirmed = true ∧ h.m ≤ s.cycleNow then
        if h.incoming then (if s.leaseHeld then handoverIn h s else failHandover s) else handoverOut h s
      else s
    | none => s)

end Sys2Proof.Machine
end

