-- ==== Sys2Proof/Machine/Flags.lean ====
section
/-! DEFINITION. The status words of the module (R368's supply word apart) and the LEDs: the module status word
(0x1100:05), the lane, fabric, output, time, pair, recorder and update status words, slot and session words, R137, R375
and R376. -/

namespace Sys2Proof.Machine

/-- Puts a number into a word at a bit. -/
def at2 (lo v : Nat) : Nat := v * 2 ^ lo

/-- A truth value at a bit of a word. -/
def bitAt (lo : Nat) (c : Bool) : Nat := if c then 2 ^ lo else 0

/-! ### Numbers of the states -/

/-- PTP slot states as 0x6001:0C codes them. -/
def slotStateNo : SlotState → Nat
  | .disabled => 0
  | .listening => 1
  | .measuring => 2
  | .locked => 3
  | .silent => 4
  | .refused => 5
  | .grandmaster => 6

/-- Module time states as 0x6000:01 codes them. -/
def tstateNo : TState → Nat
  | .free => 0
  | .locked => 1
  | .holdover => 2
  | .grandmaster => 3
  | .slewing => 4

/-- Update states as 0x8000:06 codes them. -/
def ustateNo : UState → Nat
  | .idle => 0
  | .receiving => 1
  | .complete => 2
  | .verifying => 3
  | .verified => 4
  | .failed => 5
  | .activating => 6
  | .trial => 7

/-- Force states as 0x2200+n:05 codes them. -/
def fostateNo : FoState → Nat
  | .free => 0
  | .pending => 1
  | .active => 2
  | .refused => 3

/-! ### Status words -/

/-- The module status word, 0x1100:05. -/
def State.moduleStatus (s : State) : Nat :=
  at2 16 s.activeForces.length + bitAt 7 (!s.ctl.change.pending.isEmpty) + bitAt 6 s.ctl.warm + bitAt 5 (s.fab.lockout ≠ 0) +
    bitAt 4 (s.mapFlag 5) + modeNo s.ctl.mode

/-- The lane status word, 0x2000:10. -/
def State.laneStatus (s : State) : Nat :=
  at2 16 (s.ctl.cycle % 256) + at2 10 (lstateNo s.lanC.state) + at2 8 (lstateNo s.lanB.state) +
    at2 6 (lstateNo s.lanA.state) + bitAt 5 s.degraded + bitAt 4 (s.ctl.mode = .hold && s.ctl.debugger) +
    s.ctl.placement.toNat

/-- The fabric status word, 0x4000:01. -/
def State.fabricStatus (s : State) : Nat :=
  bitAt 31 (s.fab.lockout ≠ 0) + at2 16 s.fab.linkOk.toNat + at2 8 s.fab.keepalive.toNat + bitAt 7 s.fab.map.isSome +
    bitAt 6 (copyValid s.fab.copyA) + bitAt 5 (copyValid s.fab.copyB) + bitAt 4 (s.fab.seenFrame && !s.fab.fired) +
    bitAt 3 (s.mapFlag 6) + bitAt 2 (s.mapFlag 7)

/-- The output status word of a channel, 0x3100+i:15. -/
def State.outputStatus (s : State) (ch : Fin 128) : Nat :=
  let c := s.chan ch
  bitAt 8 c.inhibit + bitAt 7 c.stuckHigh + bitAt 6 c.stuckLow + bitAt 5 c.demagOver + bitAt 4 c.short +
    bitAt 3 (c.tripped || c.short) + bitAt 2 c.openLoad + bitAt 1 c.lowRb + bitAt 0 c.highRb

/-- The time status word, 0x6000:02. -/
def State.timeStatus (s : State) : Nat :=
  let m := s.time
  bitAt 19 (m.state = .slewing) + bitAt 18 m.refMoved.isSome + bitAt 17 m.leap61 + bitAt 16 m.leap59 +
    bitAt 15 m.utcValid + bitAt 14 m.calendarValid + bitAt 13 m.acquired +
    bitAt 12 ((s.ptp m.selected).state = .grandmaster) + at2 8 (slotStateNo m.slot1.state) +
    at2 4 (slotStateNo m.slot0.state) + bitAt 3 m.hostServo + at2 2 m.selected.val + bitAt 1 (m.state = .holdover) +
    bitAt 0 m.timeLocked

/-- The pair status word, 0x7300:03. -/
def State.pairStatus (s : State) : Nat :=
  let p := s.pair
  bitAt 15 p.shadowSince.isSome + bitAt 14 p.handover.isSome + bitAt 13 p.endorsed + bitAt 12 s.refereeOk +
    bitAt 11 p.heartAt.isSome + bitAt 10 s.leaseHeld + bitAt 9 p.drive + bitAt 8 p.resync.isSome +
    at2 4 ((p.partner.map (·.state)).getD 15 % 16) + pstateNo p.state

/-- The recorder status word, 0x7000:01. -/
def State.recorderStatus (s : State) : Nat :=
  at2 12 ((s.rcd.map.map List.length).getD (defaultMap.length / 16)) + bitAt 3 s.rcd.map.isNone + bitAt 2 (hostMode s 7) +
    bitAt 1 s.rcd.tornFlag + bitAt 0 s.rcd.fault

/-- The update status word, 0x8000:06. -/
def State.updateStatus (s : State) : Nat :=
  let u := s.upd
  at2 24 u.reason + at2 12 (ustateNo u.state) + bitAt 11 u.app + bitAt 10 u.slotB + bitAt 9 u.delta

/-- A slot word, 0x8020:01 to :04. -/
def State.slotWord (s : State) (app b : Bool) : Nat :=
  let x := s.upd.slot app b
  (if x.state = 0 then 0 else at2 32 x.ident.toNat) + at2 16 (x.rollback % 65536) + at2 5 x.state +
    bitAt 4 (s.upd.active app = some b) + bitAt 3 x.trial + bitAt 2 x.fallback + bitAt 1 x.allCopies

/-- A session word, 0x1200:10 to :17. -/
def sessionWord (x : Session) : Nat :=
  at2 48 x.client + at2 44 x.level + at2 40 x.port.val + at2 32 x.state + min (2 ^ 32 - 1) x.served

/-- Ring state, 0x7140+r:06. -/
def Ring.word (r : Ring) : Nat := at2 12 (r.status % 16) + r.head % 4096

/-- The state of a task on a lane, 0x2100+n:08 to :0A: 2 FAULTED, 3 NOT-RELEASED, 1 with an open release, else 0. -/
def State.taskStateNo (s : State) (t : Fin 16) (ln : Lane) : Nat :=
  match s.taskDef t with
  | none => 0
  | some d =>
    if (s.task t).faulted ln then 2
    else if !s.triple d.core && (d.ownLane = ln && (s.task t).onLane = none) then 3
    else if (s.core ln d.core).releases.any (fun r => r.task = t) then 1
    else 0

/-! ### LEDs (R137, R285, R375, R376, chapter 6) -/

/-- What an LED shows. Flashing is 2 Hz, slow flashing 0.5 Hz (R375). -/
inductive Led where
  | off | lit | green | amber | red | flashGreen | flashAmber | flashRed | slowGreen
deriving DecidableEq, Repr

/-- The PWR LED (R375). -/
def State.ledPwr (s : State) : Led := if s.ctl.mode = .off then .off else if s.ctl.stage = 0 then .amber else .green

/-- The RUN LED (R375, R376). -/
def State.ledRun (s : State) : Led :=
  if s.ctl.ledFallback then .flashRed
  else
    match s.ctl.mode with
    | .off => .off
    | .fabricOnly => .off
    | .boot => if s.ctl.stage = 0 then .off else .flashGreen
    | .stop => .amber
    | .run => .green
    | .hold => .flashAmber
    | .standby => .slowGreen
    | .faultStop => .red

/-- Does the Commons show the LEDs that it drives from stage 3? -/
def State.ledsOn (s : State) : Bool := !s.ctl.ledFallback && decide (3 ≤ s.ctl.stage)

/-- The VOTE LED (R375). -/
def State.ledVote (s : State) : Led :=
  if !s.ledsOn then .off
  else if lanes.any (fun l => (s.lane l).state = .reintegrating) then .flashAmber
  else if s.inLanes.length = 3 then .green
  else if s.inLanes.length = 2 then .amber
  else .red

/-- The PAIR LED (R375). -/
def State.ledPair (s : State) : Led :=
  if !s.ledsOn || !s.pair.inPair then .off
  else
    match s.pair.state with
    | .active => .green
    | .standby => .slowGreen
    | .alone => .amber
    | .joining => .flashAmber
    | .out => .red

/-- The TIME LED (R285, R375). -/
def State.ledTime (s : State) : Led :=
  if !s.ledsOn then .off
  else if s.time.state = .slewing ∨ s.time.refMoved.isSome then .flashRed
  else if s.time.state = .locked ∨ s.time.state = .grandmaster then .green
  else if s.time.state = .holdover ∧ s.time.timeLocked = true then .flashGreen
  else .amber

/-- The FORCE LED (R137, R375, R376). -/
def State.ledForce (s : State) : Led := if !s.ctl.ledFallback && !s.activeForces.isEmpty then .lit else .off

/-- The instances that the map configures. -/
def State.liveInsts (s : State) : List Inst := (s.instsWhere (fun m => m.type ≠ 0)).map (fun i => s.inst i)

/-- The SAFE LED (chapter 6). -/
def State.ledSafe (s : State) : Led :=
  if s.liveInsts.isEmpty then .off
  else if s.liveInsts.all (fun x => x.state = .run) then .green
  else if s.liveInsts.any (fun x => x.state = .tripped) then .flashAmber
  else .off

/-- The LOCK LED (R179, chapter 6). -/
def State.ledLock (s : State) : Led :=
  if s.fab.lockout ≠ 0 then .red else if s.liveInsts.any (fun x => x.state = .locked) then .flashRed else .off

end Sys2Proof.Machine
end

