-- ==== Sys2Proof/Machine/OdRead.lean ====
section
/-! DEFINITION. What a read of an object gives (R377, R379, R381, R401): the objects of access RO and CONST from the
state, the RW objects that live outside the dictionary's own store, and the values latched at a boundary. -/

namespace Sys2Proof.Machine

/-! ### Numbers -/

/-- Instances of the exchange report with a code (0x1100:41 to :44). -/
def State.reportCount (s : State) (code : Nat) : Nat := (s.ctl.report.filter (fun r => r.2.2.2 = code)).length

/-- Objects of 0x1000 and 0x1100. -/
def State.read11 (s : State) (i u : Nat) : Int :=
  if i = 0x1000 then
    (if u = 2 then (s.issue : Int) else if u = 3 then (s.edition.toNat : Int) else (s.imageId.toNat : Int))
  else if i = 0x1101 then (if u = 2 then (s.ctl.result : Int) else (s.ctl.effective : Int))
  else if i = 0x1180 then (b2n (hostMode s (u - 0x10)) : Int)
  else if u = 0x01 then (modeNo s.ctl.mode : Int)
  else if u = 0x02 then (s.ctl.entryCycle : Int)
  else if u = 0x03 then (s.ctl.cause.toNat : Int)
  else if u = 0x04 then (s.warmCount : Int)
  else if u = 0x05 then (s.moduleStatus : Int)
  else if u = 0x06 then (s.ctl.holdDropped : Int)
  else if u = 0x10 then (s.tb : Int)
  else if u = 0x11 then (s.ctl.cycle : Int)
  else if u = 0x12 then (s.macroM : Int)
  else if u = 0x13 then ((s.ctl.cycle % s.macroM : Nat) : Int)
  else if u = 0x20 then ((s.retained.foldl (fun a e => a + e.size) 0 : Nat) : Int)
  else if u = 0x21 then (s.cis.lastSnapshot : Int)
  else if u = 0x22 then
    let ok (c : Option (Nat × Nat × BitVec 32 × Bytes × Bool)) : Nat := b2n (!s.rcd.fault && c.any (fun x => x.2.2.2.2))
    ((2 * ok s.cis.retB + ok s.cis.retA : Nat) : Int)
  else if u = 0x30 then (s.ctl.rejection : Int)
  else if inR 0x41 0x44 u then (s.reportCount (u - 0x41) : Int)
  else if u = 0x50 then (s.ctl.x1.toNat : Int)
  else if u = 0x51 then (s.ctl.stage : Int)
  else if inR 0x52 0x55 u then (((s.ctl.stageEnds[u - 0x52]?).getD 4294967295 : Nat) : Int)
  else 0

/-- Objects of 0x1200 and 0x1300. -/
def State.read12 (s : State) (i u : Nat) : Int :=
  if i = 0x1300 then
    (if u = 2 then (s.evq.entries.length : Int)
     else if u = 3 then (((s.evq.entries.getLast?.map (·.seq.toNat)).getD 0 : Nat) : Int)
     else (s.evq.overwritten : Int))
  else if inR 0x10 0x17 u then (sessionWord ((s.od.sessions[u - 0x0F]?).getD {}) : Int)
  else if u = 0x18 then (s.od.authFails : Int)
  else (s.od.limited : Int)

/-- The Reckoner's counters, 0x2001. -/
def Reckoner.counter (r : Reckoner) (u : Nat) : Nat :=
  if u = 1 then r.unanimous else if u = 2 then r.majority else if u = 3 then r.late else if u = 4 then r.split
  else if u = 5 then r.scrubs else if u = 6 then r.mismatches else if u = 7 then r.pourFails else if u = 8 then r.restarts
  else if u = 9 then r.selfTests else if u = 0x0A then r.dissA else if u = 0x0B then r.dissB else r.dissC

/-- Objects of 0x2000 to 0x2003. -/
def State.read20 (s : State) (i u : Nat) : Int :=
  if i = 0x2001 then (s.rek.counter u : Int)
  else if i = 0x2002 then (if u = 2 then (s.ctl.offsets.toNat : Int) else (s.ctl.stagger : Int))
  else if i = 0x2003 then
    (if u = 1 then (s.ctl.placement.toNat : Int) else if u = 2 then (s.ctl.requested.toNat : Int) else (s.ctl.moveState : Int))
  else if inR 1 3 u then (lstateNo (s.lane (laneOf (u - 1))).state : Int)
  else if inR 5 7 u then (s.reintCount (laneOf (u - 5)) : Int)
  else if inR 9 0x0B u then ((s.lane (laneOf (u - 9))).cause.toNat : Int)
  else if inR 0x0C 0x0E u then ((s.lane (laneOf (u - 0x0C))).peak : Int)
  else if u = 0x0F then (s.ctl.tokenTimeouts : Int)
  else (s.laneStatus : Int)

/-- Bytes of a task's read-set snapshot (R71). -/
def State.snapSize (s : State) (d : TaskDef) : Nat :=
  (s.signals.filter (fun e => !e.inImage && d.reads.contains e.n)).foldl (fun a e => a + e.size) 0

/-- Objects of 0x2100 + n. -/
def State.read21 (s : State) (t : Fin 16) (u : Nat) : Int :=
  let x := s.task t
  let ofDef (f : TaskDef → Nat) : Int := (((s.taskDef t).map f).getD 0 : Nat)
  let seg (f : SegDef → Nat) : Int :=
    (((s.app.bind (fun a => a.segs.find? (fun g => g.task = t.val))).map f).getD 0 : Nat)
  if u = 1 then ofDef (·.period) else if u = 2 then ofDef (·.phase) else if u = 3 then ofDef (·.core.val)
  else if u = 4 then ofDef (·.priority) else if u = 5 then ofDef (·.worstSteps) else if u = 6 then ofDef (·.stepBudget)
  else if u = 7 then ofDef (fun d => d.bucketBudget % 16384)
  else if inR 8 0x0A u then (s.taskStateNo t (laneOf (u - 8)) : Int)
  else if u = 0x0B then (x.lastSteps : Int) else if u = 0x0C then (x.peakSteps : Int) else if u = 0x0D then (x.faults : Int)
  else if u = 0x0F then ofDef (fun d => s.snapSize d % 16384)
  else if u = 0x10 then seg (·.offset) else seg (·.size)

/-- Objects of 0x2200 + n; :05 and :06 read their live value, as R381 sets these objects apart. -/
def State.read22 (s : State) (n u : Nat) : Int :=
  let f := s.force n
  if u = 1 then (f.kind.toNat : Int) else if u = 2 then (f.target.toNat : Int) else if u = 3 then (f.value.toNat : Int)
  else if u = 5 then (fostateNo f.state : Int) else if u = 6 then (f.effective : Int) else (f.source.toNat : Int)

/-- Objects of 0x2300. -/
def State.read23 (s : State) (u : Nat) : Int :=
  let c := s.ctl.change
  ((if u = 2 then c.target else if u = 4 then c.state else if u = 5 then c.reason else if u = 6 then c.effective
    else c.applied : Nat) : Int)

/-- Objects of 0x3000 + g. -/
def State.read30 (s : State) (g : Fin 8) (u : Nat) : Int :=
  let q := s.group g
  ((if u = 0x04 then q.vfSeen.toNat else if u = 0x05 then s.groupRecord g else if u = 0x06 then q.missed
    else if u = 0x07 then q.crcErrors else if u = 0x08 then q.fabricErrors else if u = 0x12 then b2n q.rail
    else if u = 0x13 then q.discarded else if u = 0x14 then s.clampSum g else if u = 0x15 then s.currentSum g
    else if u = 0x16 then b2n q.inhibit else q.silences : Nat) : Int)

/-- An 8-byte record of the latest image (0x3100+i:08, :09). -/
def State.imageRecord (s : State) (off : Nat) : Nat := (s.ctl.sealed.map (fun m => leAt m.bytes off 8)).getD 0

/-- Objects of 0x3100 + i. -/
def State.read31 (s : State) (ch : Fin 128) (u : Nat) : Int :=
  let c := s.chan ch
  ((if u = 0x08 then s.imageRecord (0x40 + 8 * ch.val) else if u = 0x09 then s.imageRecord (0x440 + 8 * ch.val)
    else if u = 0x0A then c.rejectedLast else if u = 0x15 then s.outputStatus ch else if u = 0x16 then c.clamp
    else if u = 0x17 then c.trips else c.cycles : Nat) : Int)

/-- Objects of 0x3220. -/
def State.read32 (s : State) (u : Nat) : Int :=
  ((if inR 1 8 u then b2n (s.group (Fin.ofNat 8 (u - 1))).bankB else if u = 0x0A then s.fio.swapCycle
    else s.fio.swapState : Nat) : Int)

/-- Objects of 0x4000, 0x4001 and 0x4101. -/
def State.read40 (s : State) (i u : Nat) : Int :=
  if i = 0x4001 then ((s.instRecord (u - 1)).toNat : Int)
  else if i = 0x4101 then (if u = 4 then (s.fab.writeState : Int) else (s.fab.reason : Int))
  else if u = 1 then (s.fabricStatus : Int) else if u = 2 then s.fab.deviation
  else ((if u = 3 then s.fab.tests else if u = 4 then s.fab.testFails else if u = 5 then s.fab.resets
    else if u = 6 then s.fab.invalid else s.fab.lockout : Nat) : Int)

/-- Objects of 0x5000 to 0x5300. -/
def State.read50 (s : State) (i u : Nat) : Int :=
  let w := s.sw
  if i = 0x5000 then
    let p := (w.ports[u / 16]?).getD {}
    ((if u = 0x04 then w.macs.length else if u % 16 = 0 then p.link.val else if u % 16 = 7 then p.rx
      else if u % 16 = 8 then p.tx else if u % 16 = 9 then p.inDrops else p.outDrops : Nat) : Int)
  else if i = 0x5100 then
    ((if u = 4 then w.digest.toNat else if u = 7 then w.beacon else if u = 8 then w.master.toNat
      else if u = 9 then w.matrixState else if u = 0x0A then w.matrixReason else w.missed : Nat) : Int)
  else if i = 0x5200 then
    ((if u = 3 then w.causes.toNat else if u = 4 then w.closures else if u = 5 then w.withheld else w.cut : Nat) : Int)
  else (w.dupDiscarded : Int)

/-- Objects of 0x5400 to 0x5700. -/
def State.read54 (s : State) (i u : Nat) : Int :=
  let x := s.tel
  ((if i = 0x5400 then
      (if u = 8 then x.bindState else if u = 9 then x.bindReason else if u = 0x10 then x.sent else if u = 0x11 then x.accepted
       else if u = 0x12 then x.headerErrors else x.timeouts)
    else if i = 0x5480 then (if u = 4 then x.md.length else x.mdRefused)
    else if i = 0x5500 then
      (if u = 0x10 then x.sealsApplied else if u = 0x11 then x.sealsChecked else if u = 0x12 then x.checkFails
       else if u = 0x13 then x.ageFails else x.lossFails)
    else if i = 0x5600 then
      (if u = 4 then 2 * b2n x.lineB + b2n x.lineA else if u = 5 then b2n x.activeB else if u = 6 then x.errA
       else if u = 7 then x.errB else if u = 8 then x.mvbRole else x.mvbLoad)
    else
      (if u % 16 = 0x0A then (s.canBus (Fin.ofNat 2 (u / 16 - 1))).state else if u % 16 = 0x0B then (s.canBus (Fin.ofNat 2 (u / 16 - 1))).busOffs
       else (s.canBus (Fin.ofNat 2 (u / 16 - 1))).withdrawn) : Nat) : Int)

/-- Objects of 0x6000 to 0x6003. -/
def State.read60 (s : State) (i u : Nat) : Int :=
  let m := s.time
  if i = 0x6001 then
    let x := if u < 16 then m.slot0 else m.slot1
    let k := u % 16
    (if k = 0x0C then (slotStateNo x.state : Int) else if k = 0x0D then x.offset else if k = 0x0E then (x.gm.toNat : Int)
     else ((at2 24 (min 255 x.tcDrops) + min 16777215 x.jumps : Nat) : Int))
  else if i = 0x6003 then ((Config.phyLatency (u - 0x10)).toNat : Int)
  else if u = 1 then (tstateNo m.state : Int) else if u = 2 then (s.timeStatus : Int) else if u = 3 then (m.now : Int)
  else if u = 4 then (if m.state = .holdover then (s.driftBound : Int) else ((s.ptp m.selected).accepted).getD 0)
  else if u = 5 then m.rate.tdiv 100
  else if u = 6 then (((m.holdoverSince.map (fun h => (m.now - h) / 1000000)).getD 0 : Nat) : Int)
  else if u = 7 then (s.calendar.toNat : Int)
  else if u = 8 then m.utcOffset else if u = 0x0A then (m.steps : Int) else if u = 0x0B then m.lastStep
  else if u = 0x0E then m.slew else (m.cmdResult : Int)

/-- Objects of 0x7000 to 0x717F. -/
def State.read70 (s : State) (i u : Nat) : Int :=
  ((if i = 0x7000 then (if u = 1 then s.recorderStatus else if u = 7 then s.rcd.written else s.rcd.torn)
    else if i = 0x7100 then (if u = 1 then s.bri.engine else if u = 3 then s.bri.halts else s.bri.moved)
    else
      let r := (s.bri.rings[i - 0x7140]?).getD {}
      if u = 6 then r.word else r.residue : Nat) : Int)

/-- Objects of 0x7200 and 0x7300. -/
def State.read72 (s : State) (i u : Nat) : Int :=
  let b := s.bri
  let p := s.pair
  ((if i = 0x7200 then
      (if u = 1 then b.lateErrors else if u = 2 then (b.late.filter (fun e => !e.delivered)).length
       else if u = 3 then b.lateLost else if u = 5 then b.broken else b.imageEvDropped)
    else if u = 2 then pstateNo p.state else if u = 3 then s.pairStatus else if u = 4 then p.reason
    else if u = 0x0C then p.epoch.toNat else if u = 0x0D then p.expiry else if u = 0x10 then p.takeovers
    else if u = 0x11 then p.lastTakeover else if u = 0x12 then p.rejected else p.resyncs : Nat) : Int)

/-- Objects of 0x8000 and 0x8020. -/
def State.read80 (s : State) (i u : Nat) : Int :=
  ((if i = 0x8020 then s.slotWord (2 < u) (u % 2 = 0)
    else if u = 6 then s.updateStatus else if u = 7 then s.upd.blocks.length else s.fab.rollback.toNat : Nat) : Int)

/-- The number that an object of access RO or CONST reads. -/
def State.readNumber (s : State) (i u : Nat) : Int :=
  if i < 0x1200 then s.read11 i u
  else if i < 0x2000 then s.read12 i u
  else if i < 0x2100 then s.read20 i u
  else if i < 0x2200 then s.read21 (Fin.ofNat 16 (i - 0x2100)) u
  else if i < 0x2300 then s.read22 (i - 0x2200) u
  else if i < 0x3000 then s.read23 u
  else if i < 0x3100 then s.read30 (Fin.ofNat 8 (i - 0x3001)) u
  else if i < 0x3200 then s.read31 (Fin.ofNat 128 (i - 0x3100)) u
  else if i < 0x4000 then s.read32 u
  else if i < 0x5000 then s.read40 i u
  else if i < 0x5400 then s.read50 i u
  else if i < 0x6000 then s.read54 i u
  else if i < 0x7000 then s.read60 i u
  else if i < 0x7200 then s.read70 i u
  else if i < 0x8000 then s.read72 i u
  else s.read80 i u

/-! ### Byte values -/

/-- The bytes of a text. -/
def asciiBytes (t : String) : Bytes := t.toList.map (fun c => BitVec.ofNat 8 c.toNat)

/-- An event queue entry, 24 bytes (R397). -/
def eventBytes (e : Event) : Bytes :=
  leBytes 8 e.time ++ leBytes 4 e.seq.toNat ++ leBytes 2 e.code.toNat ++ leBytes 1 (min 255 e.suppressed) ++ [e.source] ++
    fitTo 8 e.data

/-- Values of the parameters in force, 8 bytes each (0x2300:08). -/
def State.paramValues (s : State) : Bytes :=
  let c := s.paramsNow
  ((s.app.map (·.params)).getD []).flatMap (fun p => leBytes 8 (leAt c p.offset (xSize p.xty)))

/-- A Signal Directory entry, bit 127 in the first byte; an entry the image does not list reads zeros (R406). -/
def State.directoryEntry (s : State) (n : Nat) : Bytes := beBytes 16 ((s.signal n).map (fun e => e.entry.toNat) |>.getD 0)

/-- The bitmap of received blocks (0x8000:08). -/
def Update.bitmap (u : Update) : Bytes :=
  if u.blocks.isEmpty then [] else
    let n := (u.streamLen + 1023) / 1024
    tabulate ((n + 7) / 8) (fun k => BitVec.ofNat 8 ((List.range 8).foldl
      (fun a j => a + b2n ((lookupKey (8 * k + j) (u.blocks.map (fun b => (b.1, ())))).isSome) * 2 ^ j) 0))

/-- The stream counters, 16 bytes per stream of the matrix in force (0x5100:0C). -/
def State.streamCounters (s : State) : Bytes :=
  (List.range s.streams.length).flatMap (fun n =>
    let c := sGet (0, 0, 0, 0) n s.sw.streamCount
    leBytes 4 c.1 ++ leBytes 4 c.2.1 ++ leBytes 4 c.2.2.1 ++ leBytes 4 c.2.2.2)

/-- The code map as written, or the default map (0x7000:06). -/
def State.codeMap (s : State) : Bytes := (s.rcd.map.map List.flatten).getD defaultMap

/-- The active Safety Map (0x4100). -/
def State.mapBytes (s : State) : Bytes := (s.fab.map.map (·.1)).getD emptyMap

/-- A logged debugger action, 16 bytes (0x2000:20). -/
def debugBytes (e : BitVec 32 × BitVec 32 × Nat) : Bytes := leBytes 4 e.1.toNat ++ leBytes 4 e.2.1.toNat ++ leBytes 8 e.2.2

/-- One instance of the exchange report, 8 bytes (0x1100:40). -/
def reportBytes (r : BitVec 32 × Nat × Nat × Nat) : Bytes :=
  leBytes 4 r.1.toNat ++ leBytes 1 r.2.1 ++ leBytes 1 r.2.2.1 ++ leBytes 1 r.2.2.2 ++ [0]

/-- The bytes that an object of a type without a number reads. -/
def State.readBytes (s : State) (i u : Nat) : Bytes :=
  if i = 0x1000 then (if u = 1 then asciiBytes "CK-X3128" else s.serial)
  else if i = 0x1100 ∧ u = 0x31 then beBytes 8 s.ctl.digest.p.toNat ++ beBytes 8 s.ctl.digest.q.toNat
  else if i = 0x1100 then s.ctl.report.flatMap reportBytes
  else if i = 0x1300 then s.evq.entries.flatMap eventBytes
  else if i = 0x2000 then s.ctl.debugLog.flatMap debugBytes
  else if i = 0x2300 ∧ u = 1 then s.ctl.change.staged
  else if i = 0x2300 then s.paramValues
  else if i = 0x4100 then s.mapBytes
  else if i = 0x4101 ∧ u = 1 then Config.sha256 s.mapBytes
  else if i = 0x4101 then (match s.fab.staged with
    | some x => Config.sha256 x.1
    | none => List.replicate 32 0)
  else if i = 0x5100 ∧ u = 0x0C then s.streamCounters
  else if i = 0x5300 then s.sw.missing.flatMap (leBytes 4)
  else if i = 0x7000 ∧ u = 6 then s.codeMap
  else if i = 0x7000 ∧ u = 5 then (recRegionBytes s.rcd 3).take (s.codeMap.length / 16 * 8)
  else if i = 0x7000 then recRegionBytes s.rcd (u - 2)
  else if i = 0x7200 ∧ u = 4 then s.bri.late.flatMap lateBytes
  else if i = 0x7200 ∧ u = 6 then s.bri.replays.flatMap (leBytes 4)
  else if i = 0x7200 ∧ u = 7 then s.bri.refused.flatMap (leBytes 4)
  else if i = 0x7200 ∧ u = 0x12 then s.bri.queueDropped.flatMap (leBytes 4)
  else if i = 0x8000 then s.upd.bitmap
  else if inR 0x9000 0x93FF i then s.directoryEntry (16 * (i - 0x9000) + (u - 1))
  else s.odGet i u

/-! ### Reads -/

/-- RW objects whose value lives outside the dictionary's own store. -/
def odElsewhere (i u : Nat) : Bool :=
  inR 0x2200 0x22FF i || ((i = 0x2300 && u ≤ 2) || ((i = 0x2003 && u = 2) || (i = 0x4100 || (i = 0x7000 && u = 6))))

/-- A number in an object's type: saturating for unsigned types (R400). -/
def typedBytes (ty : OdType) (v : Int) : Bytes :=
  let w := 8 * odSize ty
  leBytes (odSize ty) (if odSigned ty then wrapNat w v else min (2 ^ w - 1) v.toNat)

/-- The present value of an object. -/
def State.odLive (s : State) (i u : Nat) : Bytes :=
  if u = 0 ∧ odRecord i = true then [BitVec.ofNat 8 (odSub0 i)]
  else
    match odRow i u with
    | none => []
    | some r =>
      if r.acc = .rw ∧ odElsewhere i u = false then s.odGet i u
      else if odNumeric r.ty then typedBytes r.ty (s.readNumber i u)
      else s.readBytes i u

/-- The objects whose value a read takes from the last boundary (R401): those timed "at a cycle boundary" that change
inside a cycle. Image records and banks change at the boundary only; force entries are set apart by R381. -/
def latchKeys : List (Nat × Nat) :=
  [(0x1100, 0x05), (0x1100, 0x11), (0x1100, 0x13), (0x2000, 0x10), (0x2002, 0x02), (0x2003, 0x01), (0x2003, 0x03),
   (0x2300, 0x08), (0x5100, 0x07), (0x5100, 0x08), (0x6000, 0x02), (0x6000, 0x08), (0x7300, 0x03)] ++
  (List.range 16).flatMap (fun n => [0x08, 0x09, 0x0A, 0x0B, 0x0C].map (fun u => (0x2100 + n, u))) ++
  (List.range 8).flatMap (fun g => [0x14, 0x15, 0x16].map (fun u => (0x3001 + g, u))) ++
  (List.range 128).map (fun c => (0x3100 + c, 0x15))

/-- The values of a boundary. -/
def latchObjects (s : State) : State :=
  { s with od := { s.od with latched := latchKeys.map (fun k => (odKey k.1 k.2, s.odLive k.1 k.2)) } }

/-- What a read of an object returns. -/
def State.odRead (s : State) (i u : Nat) : Bytes := (lookupKey (odKey i u) s.od.latched).getD (s.odLive i u)

end Sys2Proof.Machine
end

