-- ==== Sys2Proof/Machine/Boundary.lean ====
section
/-! DEFINITION. CYCLE_BOUNDARY (R14): what each part of the module does at a multiple of T_b. -/

namespace Sys2Proof.Machine

/-! ### Lanes and tasks -/

/-- One half of 0x2002:02: a lane's release minus the preceding lane's in µs; 0xFFFF when a lane was not IN or signalled
no release. -/
def releaseOffset (a b : LaneSt) : Nat :=
  match a.signalled, b.signalled with
  | some x, some y => if a.state = .isIn ∧ b.state = .isIn then wrapNat 16 (((y : Int) - (x : Int)).tdiv 1000) else 0xFFFF
  | none, _ => 0xFFFF
  | some _, none => 0xFFFF

/-- The release offsets of the cycle that ends (0x2002:02). -/
def takeOffsets (s : State) : State :=
  let v := at2 16 (releaseOffset s.lanA s.lanB) + releaseOffset s.lanB s.lanC
  { s.modLanes (fun l => { l with signalled := none }) with ctl := { s.ctl with offsets := BitVec.ofNat 32 v } }

/-- A FAULTED task restarts on a lane (R91). -/
def TaskSt.restart (x : TaskSt) : TaskSt :=
  { x with
    faultA := x.faultA && !x.restartA, faultB := x.faultB && !x.restartB, faultC := x.faultC && !x.restartC
    restartA := false, restartB := false, restartC := false }

/-- Tasks that wait for a restart become ACTIVE at a boundary of their period (R91). -/
def restartTasks (n : Nat) (s : State) : State :=
  s.taskDefs.foldl (fun q d => if d.due n then q.modTask d.task TaskSt.restart else q) s

/-- Every IN lane forms its scrub Tally over the slice of cycle `n` (R54). -/
def formScrubs (n : Nat) (s : State) : State :=
  if s.ctl.mode.seals then s.modLanes (fun l => if l.state = .isIn then { l with scrub := some (scrubTally l.copy n) } else l)
  else s

/-! ### Orders and answers (R391, R394) -/

/-- In STOP the Commons writes the host orders of a boundary into the store (R391). -/
def stopOrders (n : Nat) (s : State) : State :=
  if s.ctl.mode = .stop ∧ s.cis.orders.any (fun h => h.boundary ≤ n) = true then commitAll n [] true [] s else s

/-- Orders whose pour did not happen are answered WRONG-STATE; the results of the pour are answered. -/
def answerOrders (n : Nat) (s : State) : State :=
  let late := (s.cis.orders.filter (fun h => h.boundary ≤ n)).filterMap (fun h => h.via.map (fun v => (v, stWrongState)))
  let all := s.cis.answers ++ late
  let s1 := { s with cis := { s.cis with answers := [], orders := s.cis.orders.filter (fun h => n < h.boundary) } }
  all.foldl (fun q a => respond a.1 a.2 [] q) s1

/-- Forced values written for this boundary come into force (R135, R139). -/
def promoteForces (n : Nat) (s : State) : State :=
  { s with ctl := { s.ctl with forces := s.ctl.forces.map (fun e =>
      match e.2.valueFrom with
      | some (v, b) => if b ≤ n then (e.1, { e.2 with inForce := v, valueFrom := none }) else e
      | none => e) } }

/-- A written code map takes effect (R410). -/
def takeCodeMap (n : Nat) (s : State) : State :=
  match s.rcd.mapPending with
  | some (m, b) =>
    if b ≤ n then raise evRecorderMapChanged (d16 m.length) { s with rcd := { s.rcd with map := some m, mapPending := none } } else s
  | none => s

/-! ### The pair (R340, R345, R349, R359, R360) -/

/-- A module whose lease was lost enters JOINING while its partner is heard, in mode STANDBY from RUN, in STOP from HOLD. -/
def lostLease (s : State) : State :=
  if s.pair.lostLease ∧ s.pair.heartAt.isSome then
    let s1 := setPair .joining evLeaseLost.toNat (dropAll { s with pair := { s.pair with
      lostLease := false, level := false, resync := none, handover := none } })
    let s2 := if s1.ctl.mode = .run then enterMode .standby evLeaseLost.toNat s1
      else if s1.ctl.mode = .hold then enterMode .stop evLeaseLost.toNat s1 else s1
    askResync s2
  else { s with pair := { s.pair with lostLease := false } }

/-- A level module in mode STANDBY enters STANDBY at a macro-cycle start (R359). -/
def joinedStandby (n : Nat) (s : State) : State :=
  if s.pair.state = .joining ∧ s.pair.level = true ∧ s.ctl.mode = .standby ∧ s.macroStart n = true ∧ s.pair.exchangeStep = 0 then
    passTrial (setPair .standby evResyncDone.toNat s)
  else s

/-- The pair's part of a boundary. -/
def pairBoundary (n : Nat) (s : State) : State :=
  if s.pair.inPair then
    let s1 := { s with pair := { s.pair with confirmed := false, fwdImage := [], fwdCtx := [], fwdReady := none } }
    shadowBoundary n (resyncBoundary n (joinedStandby n (lostLease s1)))
  else s

/-- Step 1 of an exchange takes at most 1.2 s (R149). -/
def exchangeDeadline (s : State) : State :=
  match s.ctl.exchange with
  | some t0 => if t0 + 1200000000 ≤ s.time.now ∧ s.pair.exchangeStep ≠ 2 then exchangeFailed 1 s else s
  | none => s

/-! ### The boundary -/

/-- The cycle that starts at boundary `n`: what its own marks forget. -/
def openCycle (n : Nat) (s : State) : State :=
  { s with
    ctl := { s.ctl with cycle := n, imageReady := false, ownImage := none, fabLatch := tabulate 16 s.instRecord }
    cis := { s.cis with poured := false }
    rek := { s.rek with pourDue := false }
    fio := { s.fio with groups := s.fio.groups.map (fun q => { q with frameSeen := false }) } }

/-- In a mode without a pour, the Commons sends the frames of the next boundary at this one (R124, R170). -/
def idleFrames (n : Nat) (s : State) : State :=
  if s.ctl.mode.seals then s
  else if 2 ≤ s.ctl.stage ∨ s.sw.running = true then sendRequest (sendOutputs s.ctl.mode (n + 1) s)
  else s

/-- Everything that happens at boundary `n`. -/
def boundary (n : Nat) (s : State) : State :=
  let s1 := latchAll (openCycle n (takeOffsets s))
  let s2 := utcBoundary (beaconBoundary (expireDups (legacyBoundary n (busBoundary n (landOld s1)))))
  let s3 := lanes.foldl (fun q l => laneBoundary l q) s2
  let s4 := restartTasks n (promoteForces n (takeCodeMap n (answerOrders n (stopOrders n s3))))
  let s5 := formScrubs n (exchangeDeadline (pairBoundary n s4))
  let s6 := idleFrames n (groupNos.foldl checkInhibit s5)
  timeStep (latchObjects s6)

/-- CYCLE_BOUNDARY (R14, R23): at a multiple of T_b that the grid does not skip (R281). -/
def execCycleBoundary (t : Nat) (s : State) : Out :=
  let s := s.atTime t
  .next (if s.ctl.mode ≠ .off ∧ s.time.gridFrom ≤ s.time.now ∧ s.intoCycle = 0 then boundary s.cycleNow s else s)

end Sys2Proof.Machine
end

