-- ==== Sys2Proof/Machine/Host.lean ====
section
/-! DEFINITION. The front of every host request (chapter 15): frames and their MAC (R383, R386), sessions and their token
buckets (R384 to R387), SDO clients (R390), and the checks of R388 in their order. -/

namespace Sys2Proof.Machine

/-! ### Frames (R383) -/

/-- The type code of R378. -/
def odCode : OdType → Nat
  | .bool => 1 | .u8 => 2 | .u16 => 3 | .u32 => 4 | .u64 => 5
  | .i8 => 6 | .i16 => 7 | .i32 => 8 | .i64 => 9 | .f32 => 10 | .f64 => 11
  | .vstring => 12 | .ostring => 13 | .domain => 14 | .time64 => 15 | .record => 16

structure ReqFrame where
  /-- What a request frame carries beside SESSION, SEQ and MAC. -/
  op : Nat
  more : Bool := false
  index : Nat := 0
  sub : Nat := 0
  ty : Nat := 0
  offset : Nat := 0
  length : Nat := 0
  total : Nat := 0
  data : Bytes := []
deriving DecidableEq, Repr

/-- The bytes of a request frame before its MAC. -/
def frameBytes (n : Nat) (seq : BitVec 32) (f : ReqFrame) : Bytes :=
  [1, BitVec.ofNat 8 f.op, BitVec.ofNat 8 (64 * b2n f.more), BitVec.ofNat 8 n] ++ beBytes 4 seq.toNat ++ beBytes 2 f.index ++
    [BitVec.ofNat 8 f.sub, BitVec.ofNat 8 f.ty] ++ beBytes 4 f.offset ++ beBytes 2 f.length ++ [0, 0] ++ beBytes 4 f.total ++ f.data

/-- The MAC of a frame under a session key (R386). -/
def frameMac (key : Bytes) (n : Nat) (seq : BitVec 32) (f : ReqFrame) : Bytes :=
  (Config.hmacSha256 key (frameBytes n seq f)).take 16

/-- The type code that a request for an object carries: that of the object (DESIGN CHOICE). -/
def objType (i u : Nat) : Nat := ((odRow i u).map (fun r => odCode r.ty)).getD 2

/-- A READ of an object. -/
def readReq (i u : Nat) : ReqFrame := { op := 0x10, index := i, sub := u, ty := objType i u }

/-- A WRITE of an object. -/
def writeReq (i u : Nat) (ty : OdType) (data : Bytes) : ReqFrame :=
  { op := 0x11, index := i, sub := u, ty := odCode ty, length := data.length, data }

/-- A WRITE-SEGMENT. -/
def segmentReq (i u offset total : Nat) (more : Bool) (data : Bytes) : ReqFrame :=
  { op := 0x13, more, index := i, sub := u, ty := 14, offset, length := data.length, total, data }

/-! ### Sessions -/

/-- Is Abacus carried on a port (R382)? Ports E1 to E7 are 1 to 7, BL2 is 9. -/
def State.portOn (s : State) (p : Fin 11) : Bool :=
  let v := s.odForceNat 0x1200 0x01
  (1 ≤ p.val && p.val ≤ 7 && v.testBit (p.val - 1)) || (p.val = 9 && v.testBit 7)

/-- A session closes: SESSION-CLOSED with its cause 1 CLOSE, 2 idle, 3 MAC failures (R386). -/
def closeSession (n : Fin 9) (cause : Nat) (s : State) : State :=
  raiseFrom (BitVec.ofNat 8 n.val) evSessionClosed [BitVec.ofNat 8 n.val, BitVec.ofNat 8 cause] (s.modSession n (fun _ => {}))

/-- A frame fails its MAC or comes from elsewhere: discarded, counted, AUTH-FAILED; 16 within 1 s close the session. -/
def authFailed (n : Fin 9) (addr : Nat) (s : State) : State :=
  let fails := s.time.now :: ((s.session n).fails.filter (fun t => s.time.now < t + 1000000000))
  let s1 := { s with od := { s.od with authFails := satAdd 32 s.od.authFails 1 } }
  let s2 := raiseOncePerSec n.val (BitVec.ofNat 8 n.val) evAuthFailed (BitVec.ofNat 8 n.val :: leBytes 6 addr)
    (s1.modSession n (fun x => { x with fails }))
  if 16 ≤ fails.length then closeSession n 3 s2 else s2

/-- A request finds its bucket empty: discarded, counted, ABACUS-RATE-LIMITED (R387). -/
def rateLimited (item : Nat) (s : State) : State :=
  raiseOncePerSec item (if item ≤ 8 then BitVec.ofNat 8 item else 0) evAbacusRateLimited [BitVec.ofNat 8 item]
    { s with od := { s.od with limited := satAdd 32 s.od.limited 1 } }

/-- Takes a token of a session's bucket; without one the request is discarded. -/
def sessionToken (n : Fin 9) (s : State) : State × Bool :=
  let r := takeToken s.time.now (s.odNat 0x1200 0x05) (s.odNat 0x1200 0x06) (s.session n).bucket
  let s1 := s.modSession n (fun x => { x with bucket := some r.1 })
  if r.2 then (s1, true) else (rateLimited n.val s1, false)

/-- Takes a token of the shared bucket of session 0. -/
def zeroToken (s : State) : State × Bool :=
  let r := takeToken s.time.now 50 8 s.od.bucket0
  let s1 := { s with od := { s.od with bucket0 := some r.1 } }
  if r.2 then (s1, true) else (rateLimited 0 s1, false)

/-- Takes a token of the shared bucket of OPEN. -/
def openToken (s : State) : State × Bool :=
  let r := takeToken s.time.now 4 4 s.od.bucketOpen
  let s1 := { s with od := { s.od with bucketOpen := some r.1 } }
  if r.2 then (s1, true) else (rateLimited 0xFF s1, false)

structure Caller where
  /-- Who makes an accepted request: level, CLIENT_ID, source byte (R390, R394). -/
  level : Nat
  client : Nat
  source : Nat
deriving DecidableEq, Repr

/-- Is an object readable at L0 (R379, R385)? -/
def readableL0 (i u : Nat) : Bool :=
  (u = 0 && odRecord i) || (odRow i u).any (fun r => r.acc = .rw || ((r.acc = .ro || r.acc = .const) && r.level = 0))

/-- May session 0 make a request (R385)? -/
def State.zeroMay (s : State) (port : Fin 11) (f : ReqFrame) : Bool :=
  port.val = 7 && (s.odBool 0x1200 0x02 && (f.op = 0x20 || (f.op = 0x30 ||
    ((f.op = 0x10 || (f.op = 0x12 || f.op = 0x14)) && readableL0 f.index f.sub))))

/-- A request of session 0. -/
def admitZero (via : Via) (port : Fin 11) (f : ReqFrame) (s : State) : State × Option Caller :=
  let r := zeroToken s
  if !r.2 then (r.1, none)
  else if r.1.zeroMay port f then (r.1, some { level := 0, client := 0, source := 0 })
  else (respond via stSession [] r.1, none)

/-- A frame about another object discards the assembly buffer (R389). -/
def Session.keepAsm (f : ReqFrame) (x : Session) : Session :=
  if 0x10 ≤ f.op ∧ f.op ≤ 0x14 then { x with asm := x.asm.filter (fun a => a.1 = odKey f.index f.sub) } else x

/-- A request of session 1 to 8: MAC and source, bucket, then SEQ (R386, R387). -/
def admitSession (via : Via) (n : Fin 9) (seq : BitVec 32) (addr : Nat) (mac : Bytes) (f : ReqFrame) (s : State) :
    State × Option Caller :=
  let x := s.session n
  if x.state ≠ 2 then (respond via stSession [] s, none)
  else if addr ≠ x.addr ∨ mac ≠ frameMac x.key n.val seq f then (authFailed n addr s, none)
  else
    let r := sessionToken n s
    if !r.2 then (r.1, none)
    else if seq = x.lastSeq then
      (match x.stored with
       | some a => (r.1.emitAll ((answerParts a.2.length a.2).map (answerMsg via a.1)), none)
       | none => (r.1, none))
    else if seq < x.lastSeq then (r.1, none)
    else (r.1.modSession n (fun y => { Session.keepAsm f y with
        lastSeq := seq, stored := none, lastAt := s.time.now, served := (y.served + 1) % 2 ^ 32 }),
      some { level := x.level, client := x.client, source := n.val })

/-- The SDO server of a bus. -/
def State.sdoServer (s : State) (bus : Fin 2) : SdoServer := if bus = 0 then s.od.sdo1 else s.od.sdo2

/-- Replaces the transfer of an SDO server. -/
def State.setXfer (s : State) (bus : Fin 2) (x : Option SdoXfer) : State :=
  if bus = 0 then { s with od := { s.od with sdo1 := { s.od.sdo1 with xfer := x } } }
  else { s with od := { s.od with sdo2 := { s.od.sdo2 with xfer := x } } }

/-- The caller behind the SDO server of a bus (R390). -/
def State.sdoCaller (s : State) (bus : Fin 2) : Caller :=
  { level := min 2 (s.odNat 0x1200 (0x0C + bus.val)), client := 0xFF00 + bus.val + 1, source := 0x80 }

/-- A complete request over SDO: the bus runs its server, and a transfer in progress answers a new one with BUSY. Only reads
and writes of objects exist there (R390). -/
def admitSdo (via : Via) (bus : Fin 2) (f : ReqFrame) (s : State) : State × Option Caller :=
  if !s.canOn bus then (s, none)
  else if (s.sdoServer bus).xfer.isSome then (respond via stBusy [] s, none)
  else if f.op ≠ 0x10 ∧ f.op ≠ 0x11 then (respond via stSession [] s, none)
  else (s, some (s.sdoCaller bus))

/-- The front of every request: it is served for the caller given, or has already been dealt with. -/
def admission (via : Via) (f : ReqFrame) (s : State) : State × Option Caller :=
  match via with
  | .abacus n seq port addr mac =>
    if !(s.od.running && s.portOn port) then (s, none)
    else if n = 0 then admitZero via port f s
    else admitSession via n seq addr mac f s
  | .sdo bus => admitSdo via bus f s

/-- Serves a request. -/
def serve (via : Via) (f : ReqFrame) (act : Caller → State → State) (s : State) : State :=
  match admission via f s with
  | (s1, some c) => act c s1
  | (s1, none) => s1

/-! ### The checks of R388 -/

/-- A failed check's status. -/
def bad (c : Bool) (st : BitVec 16) : BitVec 16 := if c then st else stOk

/-- The first failing check. -/
def firstBad : List (BitVec 16) → BitVec 16
  | [] => stOk
  | st :: r => if st = stOk then firstBad r else st

/-- Does an object exist? -/
def objectFault (i u : Nat) : BitVec 16 :=
  if !odIndex i then stNoObject
  else if (odRow i u).isSome || (u = 0 && odRecord i) then stOk else stNoSub

/-- May a level read an object? -/
def readFault (i u level : Nat) : BitVec 16 :=
  firstBad [objectFault i u, bad ((odRow i u).any (fun r => r.acc = .wo)) stWriteOnly,
    bad ((odRow i u).any (fun r => (r.acc = .ro || r.acc = .const) && decide (level < r.level))) stAuthority]

/-- May a level write an object, by access and level? -/
def writeRight (i u level : Nat) : BitVec 16 :=
  firstBad [objectFault i u, bad (!((odRow i u).any (fun r => r.acc = .wo || r.acc = .rw))) stReadOnly,
    bad ((odRow i u).any (fun r => decide (level < r.level))) stAuthority]

/-- Does the object's timing allow a write in the present mode (R381)? 0x1180:02 may change in any mode (R284). -/
def State.timingFault (s : State) (i u : Nat) : BitVec 16 :=
  bad ((odRow i u).any (fun r => r.timing = .stop) && (decide (s.ctl.mode ≠ .stop) && !(i = 0x1180 && u = 0x02))) stWrongState

/-- Checks 2 to 5 for a write. -/
def State.writeFault (s : State) (i u level : Nat) : BitVec 16 := firstBad [writeRight i u level, s.timingFault i u]

/-- The length or value of the data does not fit the object's type (R378, R399). -/
def typeFault (r : OdRow) (ty : OdType) (data : Bytes) : Bool :=
  r.ty != ty ||
    (if odNumeric r.ty then data.length != odSize r.ty || (r.ty = .bool && decide (1 < leNat data))
     else if r.ty = .ostring then data.length != r.entry
     else if r.ty = .domain then r.entry != 0 && data.length % r.entry != 0
     else false)

/-- Values that the "least and greatest" of an object do not tell (R399 and the objects' own rules). -/
def State.specialRange (s : State) (i u v : Nat) : Bool :=
  let k := odFold i u
  if k = (0x5700, 0x16) then v = 1
  else if k = (0x6001, 0x01) then v = s.odNat 0x6001 (if u < 16 then 0x11 else 0x01)
  else if k = (0x7140, 0x01) then
    v % 32 != 0 || !(v = 0 || (inR 0x120000000 0x13FFFFFFF v || inR 0x200000000 0x200FFFFFF v))
  else if k = (0x8000, 0x02) then v % 16 / 2 != 0 || v / 32 != 0
  else if k = (0x2002, 0x01) then decide (s.ctl.tbCode = 0 ∧ 100 < v) || s.app.any (fun a => decide (a.maxStagger < v))
  else if k = (0x3001, 0x11) then v = 1 && (List.range 16).any (fun c => decide (375 < s.odNat (0x3100 + 16 * (i - 0x3001) + c) 0x11))
  else if k = (0x3100, 0x11) then s.odBool (0x3001 + (i - 0x3100) / 16) 0x11 && decide (375 < v)
  else if k = (0x3100, 0x10) then
    v != 0 && s.vitalWith (Fin.ofNat 128 (i - 0x3100)) (s.odNat i 0x19)
  else if k = (0x3100, 0x01) then !(v = 0 || (inR 0x10 0x12 v || inR 0x20 0x22 v))
  else if k = (0x3100, 0x19) then !(v = 0xFFFF || decide (v ≤ 16383))
  else false

/-- A value outside its range or rule (R399). -/
def State.rangeFault (s : State) (r : OdRow) (i u : Nat) (data : Bytes) : Bool :=
  if odNumeric r.ty then
    let x := odNumber r.ty data
    decide (x < r.lo) || (decide (r.hi < x) || s.specialRange i u (leNat data))
  else if r.ty = .domain then r.entry != 0 && decide (r.entry * r.count < data.length)
  else false

/-- TYPE of a write of an object. -/
def typeBad (i u : Nat) (ty : OdType) (data : Bytes) : BitVec 16 :=
  bad ((odRow i u).any (fun r => typeFault r ty data)) stType

/-- RANGE of a write of an object. -/
def State.rangeBad (s : State) (i u : Nat) (data : Bytes) : BitVec 16 :=
  bad ((odRow i u).any (fun r => s.rangeFault r i u data)) stRange

/-- Every check of R388 that the object dictionary itself makes of a write. -/
def State.plainFault (s : State) (i u level : Nat) (ty : OdType) (data : Bytes) : BitVec 16 :=
  firstBad [s.writeFault i u level, typeBad i u ty data, s.rangeBad i u data]

/-- The boundary of a write timed "at a cycle boundary" (R381), and of a force command (R135): before the verdict time
T_b - 95 us the closing boundary of the cycle, else the next one. -/
def State.hostBoundary (s : State) : Nat := s.cycleNow + (if s.intoCycle + 95000 < s.tb then 1 else 2)

/-- Two requests that come from one session or one SDO client. -/
def sameCaller (a b : Via) : Bool := sameWriter a b

end Sys2Proof.Machine
end

