-- ==== Sys2Proof/Machine/Modes.lean ====
section
/-! DEFINITION. Mode commands (R121, R122, R148), their effect (R123 to R128, R132), and the warm restart (R131, R373). -/

namespace Sys2Proof.Machine

/-! ### Judging a command (R121, R122, R148, R360) -/

/-- The command of a code of 0x1101:01. -/
def cmdOf (v : Nat) : Option ModeCmd :=
  if v = 1 then some .run else if v = 2 then some .stop else if v = 3 then some .hold else if v = 4 then some .resume
  else if v = 5 then some .restart else if v = 6 then some .exchange else none

/-- The code of a command. -/
def cmdNo : ModeCmd → Nat
  | .run => 1 | .stop => 2 | .hold => 3 | .resume => 4 | .restart => 5 | .exchange => 6

/-- Is the partner heard and STANDBY? -/
def State.partnerStandby (s : State) : Bool := s.pair.heartAt.isSome && s.pair.partner.any (fun b => b.state = 2)

/-- Is a command in the table of R121 for the present mode? In a pair EXCHANGE belongs to RUN (R360). -/
def State.inTable (s : State) : ModeCmd → Bool
  | .run => s.ctl.mode = .stop
  | .stop => s.ctl.mode = .run || (s.ctl.mode = .hold || s.ctl.mode = .standby)
  | .hold => s.ctl.mode = .run
  | .resume => s.ctl.mode = .hold
  | .restart => s.ctl.mode = .faultStop || s.ctl.mode = .stop
  | .exchange => if s.pair.inPair then s.ctl.mode = .run else s.ctl.mode = .stop

/-- The slot that EXCHANGE takes. -/
def State.exchangeSlot (s : State) : SlotSt := s.upd.slot true s.otherSlot

/-- Is the image of EXCHANGE below the anti-rollback counter (R426)? -/
def State.exchangeRolled (s : State) : Bool := s.exchangeSlot.state = 3 && decide (s.exchangeSlot.rollback < s.rollbackHalf true)

/-- The result code for which EXCHANGE is refused (R148, R360, R419, R421, R426); 0 for none. -/
def State.exchangeRefusal (s : State) : Nat :=
  let x := s.exchangeSlot
  if s.pair.inPair && !(s.pair.state = .active && s.partnerStandby) then 6
  else
    match s.app, s.nextImage with
    | some old, some new =>
      if x.state ≠ 3 ∨ x.allCopies = false ∨ s.upd.trialKind.isSome ∨ new.tbCode ≠ old.tbCode ∨ s.exchangeRolled = true then 7
      else if s.pair.inPair && (s.pair.partnerId.map (·.shadowImage)).getD 0 != s.shadowIdent then 7 else 0
    | some _, none => 7
    | none, _ => 7

/-- The result code with which a command is refused, in the order of R122; 0 for none. -/
def State.commandRefusal (s : State) (c : ModeCmd) : Nat :=
  let own : Nat := match c with
    | .run => if s.pair.state = .out then 6 else s.runRefusal
    | .stop => 0
    | .hold => if !s.mapFlag 5 then 5 else if s.pair.state ≠ .alone then 6 else 0
    | .resume => 0
    | .restart => if s.fab.lockout ≠ 0 then 3 else 0
    | .exchange => s.exchangeRefusal
  if !s.inTable c then 3
  else if own ≠ 0 then own
  else if s.ctl.pending.isSome then 3 else 0

/-- The effect of a rollback index below the counter (R426): REASON 6, ROLLBACK-REFUSED, the slot INVALID. -/
def rollbackRefused (app b : Bool) (s : State) : State :=
  raise evRollbackRefused [] { s with upd := (s.upd.setSlot app b { s.upd.slot app b with state := 4 }) |> fun u => { u with reason := 6 } }

/-- A refused command: COMMAND-REFUSED and the result code; a HOLD that the map does not permit is also DEBUG-REFUSED
(R65). -/
def refuseMode (source cmd result : Nat) (s : State) : State :=
  let s1 := setResult result (raiseFrom (BitVec.ofNat 8 source) evCommandRefused [BitVec.ofNat 8 cmd, BitVec.ofNat 8 result] s)
  if cmd = 3 ∧ result = 5 then raiseFrom (BitVec.ofNat 8 source) evDebugRefused [] s1 else s1

/-! ### Accepting a command -/

/-- An accepted command is PENDING for boundary `e`. -/
def pendCommand (c : ModeCmd) (e : Nat) (s : State) : State :=
  setResult 1 { s with ctl := { s.ctl with pending := some (c, e), effective := e } }

/-- STOP at boundary `n`: in a pair with a STANDBY partner it starts a planned hand-over, or joins the one in progress
(R123); in every other case it takes effect at the next boundary (R121, R126). -/
def acceptStop (n : Nat) (s : State) : State :=
  if s.ctl.mode = .run ∧ s.pair.state = .active then
    match s.pair.handover with
    | some h =>
      if h.incoming then pendCommand .stop (n + 1) s
      else pendCommand .stop h.m { s with pair := { s.pair with handover := some { h with toStop := true } } }
    | none =>
      if s.partnerStandby then pendCommand .stop (s.nextMacro (n + 4)) (proposeHandover false true false s)
      else pendCommand .stop (n + 1) s
  else pendCommand .stop (n + 1) s

/-- EXCHANGE at boundary `n`: the lanes load and translate the new image (R149); in a pair the partner's shadow begins
(R360). -/
def acceptExchange (n : Nat) (s : State) : State :=
  let s1 := pendCommand .exchange n s
  if s.pair.inPair then sendControl (.exchangeStep 1) { s1 with pair := { s1.pair with exchangeStep := 10 } }
  else { s1.modLanes (fun l => { l with digest := none, nativeNew := [] }) with ctl := { s1.ctl with exchange := some s1.time.now } }

/-- The effect of acceptance at boundary `n` (the When column of R121). -/
def acceptCommand (c : ModeCmd) (n : Nat) (s : State) : State :=
  match c with
  | .run => pendCommand .run (if s.pair.state = .joining then s.nextMacro (n + 1) else s.nextMacro (n + 2)) s
  | .stop => acceptStop n s
  | .hold => pendCommand .hold (n + 1) s
  | .resume => pendCommand .resume (s.nextMacro (n + 1)) s
  | .restart =>
    let s1 := setResult 2 (coldRestart 5 s)
    { s1 with ctl := { s1.ctl with effective := n } }
  | .exchange => acceptExchange n s

/-- A command write that prevails at its boundary is judged under R122, then accepted or refused. -/
def judgeMode (cmd source : Nat) (s : State) : BitVec 16 × State :=
  match cmdOf cmd with
  | none => (stRange, s)
  | some c =>
    let r := s.commandRefusal c
    if r ≠ 0 then
      let s1 := if c = .exchange ∧ r = 7 ∧ s.exchangeRolled = true then rollbackRefused true s.otherSlot s else s
      (stWrongState, refuseMode source cmd r s1)
    else (stOk, acceptCommand c s.cycleNow s)

/-! ### Arrival (R381, R388) -/

/-- A write waits for its boundary. -/
def queueWrite (i u : Nat) (data : Bytes) (via : Via) (c : Caller) (s : State) : State :=
  { s with ctl := { s.ctl with waiting := s.ctl.waiting ++
      [{ boundary := s.hostBoundary, key := odKey i u, data, via, level := c.level, client := c.client }] } }

/-- A write of 0x1101:01 arrives: EXCHANGE needs L3. A command without the authority is refused at once with
REFUSED-AUTHORITY (R122, R388). -/
def opMode (c : Caller) (via : Via) (v : Nat) (typeOk : Bool) (s : State) : State :=
  let st := firstBad [s.writeFault 0x1101 0x01 c.level, bad (decide (v = 6 ∧ c.level < 3)) stAuthority, bad (!typeOk) stType,
    bad (!inR 1 6 v) stRange]
  if st = stOk then queueWrite 0x1101 0x01 (leBytes 1 v) via c s
  else respond via st [] (if st = stAuthority then refuseMode c.source v 4 s else s)

/-- A mode command as a WRITE. -/
def modeWrite (t : Nat) (via : Via) (v : Nat) (s : State) : State :=
  serve via (writeReq 0x1101 0x01 .u8 (leBytes 1 v)) (fun c q => opMode c via v true q) (s.atTime t)

/-- RUN (R121, R122). -/
def execCmdRun (t : Nat) (via : Via) (s : State) : Out := .next (modeWrite t via 1 s)

/-- STOP (R121, R123, R126). -/
def execCmdStop (t : Nat) (via : Via) (s : State) : Out := .next (modeWrite t via 2 s)

/-- HOLD (R121, R122). -/
def execCmdHold (t : Nat) (via : Via) (s : State) : Out := .next (modeWrite t via 3 s)

/-- RESUME (R121, R128). -/
def execCmdResume (t : Nat) (via : Via) (s : State) : Out := .next (modeWrite t via 4 s)

/-- RESTART (R121, R132). -/
def execCmdRestart (t : Nat) (via : Via) (s : State) : Out := .next (modeWrite t via 5 s)

/-- EXCHANGE (R148, R149, R360). -/
def execCmdExchange (t : Nat) (via : Via) (s : State) : Out := .next (modeWrite t via 6 s)

/-! ### The change of mode -/

/-- Every FAULTED task restarts at its next period boundary (R91). -/
def restartAll (s : State) : State :=
  { s with ctl := { s.ctl with tasks := s.ctl.tasks.map (fun x => { x with
      restartA := x.restartA || x.faultA, restartB := x.restartB || x.faultB, restartC := x.restartC || x.faultC }) } }

/-- The module enters RUN (R91, R312, R314, R428). -/
def intoRun (trigger : Nat) (s : State) : State :=
  let old := s.ctl.mode
  let s1 := enterMode .run trigger s
  let s2 := if old = .stop then canRestart (restartTasks s1.cycleNow (restartAll s1)) else s1
  passTrial (nmtStart s2)

/-- RUN takes effect; in JOINING the module enters mode STANDBY (R121, R359). -/
def runEffect (trigger : Nat) (s : State) : State :=
  if s.pair.state = .joining ∨ s.pair.state = .standby then enterMode .standby trigger s
  else if s.ctl.mode = .boot then startComplete (intoRun trigger s)
  else intoRun trigger s

/-- STOP takes effect: open releases are abandoned (R126). A STANDBY module enters JOINING (R341). -/
def stopEffect (s : State) : State :=
  let s1 := dropAll (enterMode .stop 2 s)
  if s1.pair.state = .standby then toJoining 2 s1
  else if s1.pair.state = .joining ∧ s1.pair.exchangeStep ≠ 0 then abortExchange false s1
  else s1

/-- RESUME takes effect: every Standpipe is emptied, and every open release abandoned (R128). -/
def resumeEffect (s : State) : State :=
  intoRun 4 (dropAll (s.modLanes (fun l => { l with standpipe := [] })))

/-- The pending command is carried out. -/
def finishCommand (s : State) : State :=
  let s1 := { s with ctl := { s.ctl with pending := none } }
  if s.ctl.result = 1 then setResult 2 s1 else s1

/-- MODE_CHANGE (R121): at its boundary. A STOP that waits for a planned hand-over takes effect with it (R123), and an
exchange with its end. -/
def execModeChange (t : Nat) (s : State) : Out :=
  let s := s.atTime t
  .next (match s.ctl.pending with
    | none => s
    | some (c, e) =>
      if e ≤ s.cycleNow then
        match c with
        | .run => runEffect (if s.ctl.mode = .boot then 0 else 1) (finishCommand s)
        | .stop => if s.pair.handover.any (·.toStop) then s else stopEffect (finishCommand s)
        | .hold => enterMode .hold 3 (finishCommand s)
        | .resume => resumeEffect (finishCommand s)
        | .restart => s
        | .exchange => s
      else s)

/-! ### The warm restart (R131, R373) -/

/-- Have all lanes reset? -/
def warmAllReset (m : Nat) : Bool := m % 8 = 7

/-- Has every lane that is IN passed the check of its native code? -/
def State.warmPassed (s : State) (m : Nat) : Bool := s.inLanes.all (fun l => m.testBit (3 + laneNo l))

/-- BOOT with WARM: what is timed "at restart" comes into force, and a pair module negotiates again. -/
def warmBoot (s : State) : State :=
  let s1 := enterMode .boot evWarmRestart.toNat s
  let tables := lanes.map (fun l => (s1.lane l).vitalTables)
  let s2 := takePairRole (takeInForce { s1 with ctl := { s1.ctl with warm := true } })
  let s3 := applyBindings s2.app s2
  let s4 := { s3 with
    lanA := { s3.lanA with vitalTables := tables[0]?.getD [] }
    lanB := { s3.lanB with vitalTables := tables[1]?.getD [] }
    lanC := { s3.lanC with vitalTables := tables[2]?.getD [] } }
  if s4.pair.inPair then setPair .alone evWarmRestart.toNat { s4 with pair := { s4.pair with negotiated := false, reason := 0 } } else s4

/-- WARM_RESTART_BOOT (R131 step 3): at the first boundary after every lane has reset. -/
def execWarmRestartBoot (t : Nat) (s : State) : Out :=
  let s := s.atTime t
  .next (match s.ctl.warmRestart with
    | some m => if s.ctl.mode = .faultStop ∧ warmAllReset m = true ∧ s.intoCycle = 0 then warmBoot s else s
    | none => s)

/-- The end of BOOT in a warm restart: the lanes hold the committed state again (R131, R373). -/
def warmEnd (s : State) : State :=
  let s1 := s.modLanes (fun l => if l.state = .isIn then { l with copy := s.copyRegions, standpipe := [], drunk := none } else l)
  { s1 with ctl := { s1.ctl with warm := false, warmRestart := none } }

/-- WARM_RESTART_COMPLETE (R121, R131 step 5): at the first macro-cycle start after every lane has passed its check. -/
def execWarmRestartComplete (t : Nat) (s : State) : Out :=
  let s := s.atTime t
  .next (match s.ctl.warmRestart with
    | some m =>
      if s.ctl.mode = .boot ∧ s.ctl.warm = true ∧ s.warmPassed m = true ∧ s.intoCycle = 0 ∧ s.macroStart s.cycleNow = true ∧
          (s.pair.inPair = false ∨ s.pair.negotiated = true) then
        if s.pair.state = .standby ∨ s.pair.state = .joining then enterMode .standby evWarmRestart.toNat (warmEnd s)
        else if s.pair.state = .out then refuseCommand 1 6 (enterMode .stop evWarmRestart.toNat (warmEnd s))
        else if s.mayDrive then intoRun evWarmRestart.toNat (warmEnd s)
        else s
      else s
    | none => s)

/-- The start of the warm restart in progress. -/
def State.warmSince (s : State) : Nat := s.ctl.warmTimes.head?.getD 0

/-- WARM_RESTART_TIMEOUT (R131): back to FAULT-STOP with cause START-TIMEOUT. -/
def execWarmRestartTimeout (t : Nat) (s : State) : Out :=
  let s := s.atTime t
  .next (match s.ctl.warmRestart with
    | some m =>
      if warmAllReset m && s.warmPassed m then s
      else if s.warmSince + 1500000000 ≤ s.time.now then
        let s1 := raise evStartTimeout [BitVec.ofNat 8 s.ctl.stage] { s with ctl := { s.ctl with warmRestart := none } }
        if s.ctl.mode = .faultStop then
          raise evWarmRestartDenied (d16 evStartTimeout.toNat)
            (raise evFaultStop (d16 evStartTimeout.toNat) { s1 with ctl := { s1.ctl with cause := evStartTimeout } })
        else faultStop evStartTimeout s1
      else s
    | none => s)

end Sys2Proof.Machine
end

