-- ==== Sys2Proof/Machine/Forces.lean ====
section
/-! DEFINITION. The force table (R133 to R140) and parameter change sets (R141 to R147). -/

namespace Sys2Proof.Machine

/-! ### The force table (R133 to R140) -/

/-- Does a value lie within a type, zero-extended? -/
def valueFits (t : XType) (v : Word) : Bool :=
  if t = .bool then decide (v.toNat ≤ 1) else decide (v.toNat < 2 ^ (8 * xSize t))

/-- A module in STANDBY or JOINING takes no host writes to signals and no force commands (R352). -/
def State.follows (s : State) : Bool := s.pair.state = .standby || s.pair.state = .joining

/-- Is an entry PENDING or ACTIVE? -/
def Force.busy (f : Force) : Bool := f.state = .pending || f.state = .active

/-- The entry as the next write finds it: a REFUSED one is FREE (R140). -/
def Force.unrefuse (f : Force) : Force := if f.state = .refused then { f with state := .free } else f

/-- The signal that a SIGNAL force targets. -/
def State.forceSignal (s : State) (f : Force) : Option SigEntry := s.signal f.target.toNat

/-- The channel that a channel force targets. -/
def Force.channel (f : Force) : Fin 128 := Fin.ofNat 128 f.target.toNat

/-- Is the target vital (R136)? -/
def State.forceVital (s : State) (f : Force) : Bool :=
  if f.kind = 1 then (s.forceSignal f).any (·.vital)
  else (f.kind = 2 || f.kind = 3) && (decide (f.target.toNat < 128) && s.vitalChan f.channel)

/-- A Value that its layout or the signal's type does not allow. -/
def State.forceValueBad (s : State) (f : Force) (v : Word) : Bool :=
  if f.kind = 1 then (s.forceSignal f).any (fun e => !valueFits e.ty v)
  else if f.kind = 2 then v.toNat % 2 ^ 48 / 2 != 0
  else if f.kind = 3 then v.toNat / 2 != 0
  else false

/-- The RANGE cases of R136: no kind, no such target, a channel that cannot be forced, a value outside its layout. -/
def State.forceRange (s : State) (f : Force) : Bool :=
  (if f.kind = 1 then (s.forceSignal f).isNone
   else if f.kind = 2 then decide (128 ≤ f.target.toNat)
   else if f.kind = 3 then
     decide (128 ≤ f.target.toNat) || !(s.chanFn f.channel = 0x20 || s.chanFn f.channel = 0x21)
   else true) || s.forceValueBad f f.value

/-- Do two entries force the same target (R136)? -/
def sameTarget (a b : Force) : Bool :=
  a.target = b.target && ((a.kind = 1 && b.kind = 1) || ((a.kind = 2 || a.kind = 3) && (b.kind = 2 || b.kind = 3)))

/-- Does another entry force the target already? -/
def State.forceClash (s : State) (n : Nat) (f : Force) : Bool :=
  s.ctl.forces.any (fun e => e.1 != n && (e.2.busy && sameTarget e.2 f))

/-- The mirrored form of an entry (R352). -/
def mirrorForce (n : Fin 256) (f : Force) (on : Bool) (b : Nat) : State → State :=
  mirror (.force n f.kind f.target f.value on b)

/-- The object index of an entry. -/
def forceIndex (n : Fin 256) : Nat := 0x2200 + n.val

/-- A write that its access and level allow finds a REFUSED entry FREE. -/
def unrefuseEntry (n : Fin 256) (level u : Nat) (s : State) : State :=
  if writeRight (forceIndex n) u level = stOk ∧ (s.force n.val).state = .refused then putForce n.val (s.force n.val).unrefuse s else s

/-- A write of Kind or Target: only while the entry is FREE (R140). -/
def opForceField (n : Fin 256) (u : Nat) (c : Caller) (via : Via) (v : Nat) (typeOk : Bool) (s : State) : State :=
  let q := unrefuseEntry n c.level u s
  let f := q.force n.val
  let st := firstBad [q.writeFault (forceIndex n) u c.level, bad f.busy stWrongState, bad (!typeOk) stType,
    bad (decide ((if u = 1 then 3 else 16383) < v)) stRange]
  if st = stOk then
    let g := if u = 1 then { f with kind := BitVec.ofNat 8 v } else { f with target := BitVec.ofNat 16 v }
    respond via stOk [] (mirrorForce n g false q.hostBoundary (putForce n.val g q))
  else respond via st [] q

/-- A write of Value: while the entry is PENDING or ACTIVE it changes the forced value at a boundary (R135, R139). -/
def opForceValue (n : Fin 256) (c : Caller) (via : Via) (v : Nat) (typeOk : Bool) (s : State) : State :=
  let q := unrefuseEntry n c.level 0x03 s
  let f := q.force n.val
  let w := BitVec.ofNat 64 v
  let b := q.hostBoundary
  let st := firstBad [q.writeFault (forceIndex n) 0x03 c.level, bad (f.busy && q.follows) stWrongState, bad (!typeOk) stType,
    bad (f.busy && q.forceValueBad f w) stRange]
  if st = stOk then
    let g := if f.busy then { f with value := w, inForce := f.at (b - 1), valueFrom := some (w, b) } else { f with value := w }
    respond via stOk [] (mirrorForce n g f.busy b (putForce n.val g q))
  else respond via st [] q

/-- The refusals of an ACTIVATE in the order of R388 (R134, R136); 0 for none. -/
def State.activateFault (s : State) (n : Nat) (level : Nat) (f : Force) : BitVec 16 :=
  firstBad [bad (s.forceVital f && decide (level < 2)) stAuthority, bad (s.forceVital f && !s.mapFlag 3) stWrongState,
    bad (s.forceRange f) stRange, bad (s.forceClash n f) stBusy]

/-- ACTIVATE of an entry (R136, R140): a refusal under R134 or R136 leaves the entry REFUSED. -/
def activateForce (n : Fin 256) (c : Caller) (via : Via) (q : State) : State :=
  let f := q.force n.val
  let need := bad (q.forceVital f && decide (c.level < 2)) stAuthority
  if f.busy = true ∨ q.follows = true then respond via (if need = stOk then stWrongState else need) [] q
  else
    let st := q.activateFault n.val c.level f
    if st ≠ stOk then
      respond via st [] (raiseFrom (BitVec.ofNat 8 c.source) evForceRefused (d16 n.val ++ d16 st.toNat)
        (putForce n.val { f with state := .refused, source := BitVec.ofNat 8 c.source } q))
    else
      let b := q.hostBoundary
      let g := { f with state := .pending, removing := false, effective := b, source := BitVec.ofNat 8 c.source
                        inForce := f.value, valueFrom := none }
      respond via stOk [] (mirrorForce n g true b (putForce n.val g q))

/-- REMOVE of an entry (R140): only of an ACTIVE one. -/
def removeForce (n : Fin 256) (c : Caller) (via : Via) (q : State) : State :=
  let f := q.force n.val
  let st := firstBad [bad (q.forceVital f && decide (c.level < 2)) stAuthority,
    bad (decide (f.state ≠ .active) || q.follows) stWrongState]
  if st = stOk then
    let b := q.hostBoundary
    let g := { f with state := .pending, removing := true, effective := b, source := BitVec.ofNat 8 c.source }
    respond via stOk [] (mirrorForce n g false b (putForce n.val g q))
  else respond via st [] q

/-- A write of Command: 1 ACTIVATE, 2 REMOVE. -/
def opForceCommand (n : Fin 256) (c : Caller) (via : Via) (v : Nat) (typeOk : Bool) (s : State) : State :=
  let q := unrefuseEntry n c.level 0x04 s
  let st := firstBad [q.writeFault (forceIndex n) 0x04 c.level, bad (!typeOk) stType, bad (!inR 1 2 v) stRange]
  if st ≠ stOk then respond via st [] q
  else if v = 1 then activateForce n c via q
  else removeForce n c via q

/-- FORCE_KIND_WRITE (R140). -/
def execForceKindWrite (t : Nat) (via : Via) (n : Fin 256) (v : BitVec 8) (s : State) : Out :=
  .next (serve via (writeReq (forceIndex n) 0x01 .u8 (leBytes 1 v.toNat)) (fun c q => opForceField n 0x01 c via v.toNat true q) (s.atTime t))

/-- FORCE_TARGET_WRITE (R140). -/
def execForceTargetWrite (t : Nat) (via : Via) (n : Fin 256) (v : BitVec 16) (s : State) : Out :=
  .next (serve via (writeReq (forceIndex n) 0x02 .u16 (leBytes 2 v.toNat)) (fun c q => opForceField n 0x02 c via v.toNat true q) (s.atTime t))

/-- FORCE_VALUE_WRITE (R139, R140). -/
def execForceValueWrite (t : Nat) (via : Via) (n : Fin 256) (v : Word) (s : State) : Out :=
  .next (serve via (writeReq (forceIndex n) 0x03 .u64 (leBytes 8 v.toNat)) (fun c q => opForceValue n c via v.toNat true q) (s.atTime t))

/-- FORCE_ACTIVATE (R134, R136, R140). -/
def execForceActivate (t : Nat) (via : Via) (n : Fin 256) (s : State) : Out :=
  .next (serve via (writeReq (forceIndex n) 0x04 .u8 [1]) (fun c q => opForceCommand n c via 1 true q) (s.atTime t))

/-- FORCE_REMOVE (R140). -/
def execForceRemove (t : Nat) (via : Via) (n : Fin 256) (s : State) : Out :=
  .next (serve via (writeReq (forceIndex n) 0x04 .u8 [2]) (fun c q => opForceCommand n c via 2 true q) (s.atTime t))

/-- FORCE_BOUNDARY (R135, R137, R140): at b an activated entry is ACTIVE and a removed one FREE. -/
def execForceBoundary (t : Nat) (n : Fin 256) (s : State) : Out :=
  let s := s.atTime t
  let f := s.force n.val
  let data := d16 n.val ++ d16 f.target.toNat
  .next (if f.state = .pending ∧ f.effective ≤ s.cycleNow then
      if f.removing then
        raiseFrom f.source evForceRemoved data (putForce n.val { f with state := .free, removing := false, valueFrom := none } s)
      else raiseFrom f.source evForceSet data (putForce n.val { f with state := .active } s)
    else s)

/-! ### Parameter change sets (R141 to R147) -/

/-- The entries of a staged set: PARAM, its 6 bytes of padding, VALUE. -/
def setEntries (b : Bytes) : List (Nat × Bytes × Word) :=
  (chunksOf 16 b).map (fun e => (leAt e 0 2, slice e 2 6, BitVec.ofNat 64 (leAt e 8 8)))

/-- A write of Entries (R141): it replaces what is staged. -/
def opSetEntries (c : Caller) (via : Via) (data : Bytes) (typeOk : Bool) (s : State) : State :=
  let st := firstBad [s.writeFault 0x2300 0x01 c.level, bad (!typeOk || data.length % 16 != 0) stType,
    bad (decide (1024 < data.length) || (setEntries data).any (fun e => e.2.1.any (· != 0))) stRange]
  if st = stOk then
    let change := { s.ctl.change with staged := data
                                      state := if s.ctl.change.pending.isEmpty = false then 2 else if data.isEmpty then 0 else 1 }
    respond via stOk [] { s with ctl := { s.ctl with change } }
  else respond via st [] s

/-- A write of Target cycle. -/
def opSetTarget (c : Caller) (via : Via) (v : Nat) (typeOk : Bool) (s : State) : State :=
  let st := firstBad [s.writeFault 0x2300 0x02 c.level, bad (!typeOk) stType]
  if st = stOk then respond via stOk [] { s with ctl := { s.ctl with change := { s.ctl.change with target := v } } }
  else respond via st [] s

/-- The parameters of the active image. -/
def State.paramDefs (s : State) : List ParamDef := (s.app.map (·.params)).getD []

/-- A value outside its type or MIN to MAX. -/
def ParamDef.outside (p : ParamDef) (v : Word) : Bool := !(valueFits p.xty v && between p.xty p.min v p.max)

/-- The parameter of an entry that the image does not have. -/
def State.setNumber (s : State) (es : List (Nat × Word)) : Bool := es.any (fun e => decide (s.paramDefs.length ≤ e.1))

/-- Some value outside its parameter's range. -/
def State.setRange (s : State) (es : List (Nat × Word)) : Bool := es.any (fun e => (s.paramDefs[e.1]?).any (·.outside e.2))

/-- A parameter that appears twice. -/
def setTwice : List (Nat × Word) → Bool
  | [] => false
  | e :: r => r.any (fun x => x.1 = e.1) || setTwice r

/-- Some VITAL parameter. -/
def State.setVital (s : State) (es : List (Nat × Word)) : Bool := es.any (fun e => (s.paramDefs[e.1]?).any (fun p => p.cls = 1))

/-- The staged entries. -/
def State.stagedSet (s : State) : List (Nat × Word) := (setEntries s.ctl.change.staged).map (fun e => (e.1, e.2.2))

/-- The boundary of a set accepted now (R142). -/
def State.setBoundary (s : State) : Nat := if s.ctl.change.target = 0 then s.cycleNow + 3 else s.ctl.change.target

/-- Where change sets may be applied (R141). -/
def State.setMode (s : State) : Bool :=
  (s.ctl.mode = .stop || (s.ctl.mode = .run || s.ctl.mode = .hold)) && !s.follows

/-- The reason for which a set is refused (R141), in the order of R388; 0 for none. -/
def State.setReason (s : State) (level : Nat) : Nat :=
  let es := s.stagedSet
  if s.setVital es && decide (level < 2) then 5
  else if !s.setMode then 7
  else if es.isEmpty || decide (64 < es.length) then 1
  else if s.setNumber es then 2
  else if setTwice es then 4
  else if s.setRange es then 3
  else if s.setBoundary < s.cycleNow + 3 then 8
  else if !s.ctl.change.pending.isEmpty then 6
  else 0

/-- The status of a reason of R141. -/
def setStatus (r : Nat) : BitVec 16 :=
  if r = 0 then stOk else if r = 5 then stAuthority else if r = 7 then stWrongState else if r = 6 then stBusy else stRange

/-- APPLY (R141, R142). -/
def applySet (c : Caller) (via : Via) (s : State) : State :=
  let r := s.setReason c.level
  if r ≠ 0 then
    respond via (setStatus r) [] (raiseFrom (BitVec.ofNat 8 c.source) evChangeRefused [BitVec.ofNat 8 r]
      { s with ctl := { s.ctl with change := { s.ctl.change with state := 4, reason := r } } })
  else
    let b := s.setBoundary
    let es := s.stagedSet
    let s1 := deliverSet es b { s with ctl := { s.ctl with change := { s.ctl.change with staged := [] } } }
    respond via stOk [] (mirror (.changeSet (es.map (fun e => (BitVec.ofNat 16 e.1, e.2))) b) s1)

/-- DISCARD: nothing is staged; a set that is PENDING stays so. -/
def discardSet (via : Via) (s : State) : State :=
  respond via stOk [] { s with ctl := { s.ctl with change := { s.ctl.change with
    staged := [], reason := 0, state := if s.ctl.change.pending.isEmpty then 0 else 2 } } }

/-- A write of Command: 1 APPLY, 2 DISCARD; L2 when the set holds a VITAL parameter. -/
def opSetCommand (c : Caller) (via : Via) (v : Nat) (typeOk : Bool) (s : State) : State :=
  let st := firstBad [s.writeFault 0x2300 0x03 c.level,
    bad (decide (v = 2) && (s.setVital s.stagedSet && decide (c.level < 2))) stAuthority, bad (!typeOk) stType,
    bad (!inR 1 2 v) stRange]
  if st ≠ stOk then respond via st [] s
  else if v = 1 then applySet c via s
  else discardSet via s

/-- CS_APPLY (R141, R142). -/
def execCsApply (t : Nat) (via : Via) (s : State) : Out :=
  .next (serve via (writeReq 0x2300 0x03 .u8 [1]) (fun c q => opSetCommand c via 1 true q) (s.atTime t))

/-- CS_DISCARD (R141). -/
def execCsDiscard (t : Nat) (via : Via) (s : State) : Out :=
  .next (serve via (writeReq 0x2300 0x03 .u8 [2]) (fun c q => opSetCommand c via 2 true q) (s.atTime t))

/-- A lane at the effect boundary: it reads the new version, or cannot check the set and withholds its Tallies (R143). -/
def takeParams (badLanes : List Lane) (s : State) (ln : Lane) : State :=
  let l := s.lane ln
  match l.paramsNew with
  | some (v, _) =>
    if badLanes.contains ln then
      let q := s.modLane ln (fun x => { x with paramsNew := none })
      if l.state = .isIn then reportCause ln evLaneInputFail q else if l.state = .reintegrating then excludeLane ln evLaneInputFail q else q
    else s.modLane ln (fun x => { x with params := v, paramsNew := none })
  | none => s

/-- Applied values are stored with the image identifier (R147). -/
def storeApplied (s : State) : Option (BitVec 32 × Sparse Word) :=
  let old := match s.ctl.change.stored with
    | some (i, vs) => if i = s.imageId then vs else []
    | none => []
  some (s.imageId, s.ctl.change.pending.foldl (fun m e => setKey e.1 e.2 m) old)

/-- CHANGE_SET_EFFECT (R142, R143, R147): at boundary b. -/
def execChangeSetEffect (t : Nat) (badLanes : List Lane) (s : State) : Out :=
  let s := s.atTime t
  let x := s.ctl.change
  .next (if x.pending.isEmpty = false ∧ x.effective ≤ s.cycleNow then
      let s1 := lanes.foldl (fun q ln => takeParams badLanes q ln) s
      let change := { x with pending := [], state := 3, reason := 0, applied := satAdd 32 x.applied 1, onForced := []
                             stored := storeApplied s }
      raise evChangeApplied (d32 (x.effective % 2 ^ 32)) { s1 with ctl := { s1.ctl with change } }
    else s)

end Sys2Proof.Machine
end

