-- ==== Sys2Proof/Machine/Settings.lean ====
section
/-! DEFINITION. Writes of objects that have a rule of their own: lanes, tasks, placement and stagger (chapters 2, 3), the
Safety Map (chapter 6), channels and banks (chapters 7, 8), the time base (chapter 10), the bridge (chapter 12), the pair
(chapter 13), the configuration store and the code map (chapters 15, 17). -/

namespace Sys2Proof.Machine

/-- A write that only the object dictionary's own checks judge: the value is accepted, and `after` follows. -/
def opPlain (i u : Nat) (after : State → State) (c : Caller) (via : Via) (ty : OdType) (data : Bytes) (s : State) : State :=
  let st := s.plainFault i u c.level ty data
  if st = stOk then respond via stOk [] (after (s.odStore i u data)) else respond via st [] s

/-- A command write that is not kept as a value. -/
def opCommand (i u : Nat) (extra : List (BitVec 16)) (after : Caller → State → State) (c : Caller) (via : Via) (v : Nat) (typeOk : Bool)
    (s : State) : State :=
  let st := firstBad ([s.writeFault i u c.level] ++ extra ++ [bad (!typeOk) stType,
    bad ((odRow i u).any (fun r => decide ((v : Int) < r.lo) || decide (r.hi < (v : Int)))) stRange])
  if st = stOk then respond via stOk [] (after c s) else respond via st [] s

/-! ### Lanes, tasks, placement (R34, R48, R63, R65, R91) -/

/-- Lane `v` of 1 to 3. -/
def laneCode (v : Nat) : Lane := laneOf (v - 1)

/-- A write of 0x2000:08 (R48): the lane enters REINTEGRATING at the first boundary after the command. -/
def opLane (c : Caller) (via : Via) (v : Nat) (typeOk : Bool) (s : State) : State :=
  let x := s.lane (laneCode v)
  opCommand 0x2000 0x08 [bad (inR 1 3 v && !(x.state = .excluded || x.state = .out)) stWrongState]
    (fun _ q => q.modLane (laneCode v) (fun l => { l with commanded := true })) c via v typeOk s

/-- LANE_COMMAND (R48). -/
def execLaneCommand (t : Nat) (via : Via) (v : BitVec 8) (s : State) : Out :=
  .next (serve via (writeReq 0x2000 0x08 .u8 (leBytes 1 v.toNat)) (fun c q => opLane c via v.toNat true q) (s.atTime t))

/-- A write of 0x2002:01 (R34). -/
def opStagger (c : Caller) (via : Via) (ty : OdType) (data : Bytes) (s : State) : State :=
  opPlain 0x2002 0x01 (fun q => { q with ctl := { q.ctl with stagger := leNat data } }) c via ty data s

/-- STAGGER_WRITE (R34). -/
def execStaggerWrite (t : Nat) (via : Via) (v : BitVec 16) (s : State) : Out :=
  let d := leBytes 2 v.toNat
  .next (serve via (writeReq 0x2002 0x01 .u16 d) (fun c q => opStagger c via .u16 d q) (s.atTime t))

/-- A requested placement breaks R62, or moves a task whose period does not divide M (R63). -/
def State.placementBad (s : State) (p : BitVec 4) : Bool :=
  match s.app with
  | some a => !placementOk a.tasks a.signals p || a.tasks.any (fun d =>
      (p.getLsbD d.core.val != s.ctl.placement.getLsbD d.core.val) && s.macroM % d.period != 0)
  | none => p = 0

/-- A write of 0x2003:02 (R63). -/
def opPlacement (c : Caller) (via : Via) (v : Nat) (typeOk : Bool) (s : State) : State :=
  let p := BitVec.ofNat 4 v
  let st := firstBad [s.writeFault 0x2003 0x02 c.level, bad (decide (s.ctl.mode ≠ .run)) stWrongState, bad (!typeOk) stType,
    bad (decide (16 ≤ v)) stRange, bad (s.placementBad p) stRange, bad (decide (s.ctl.moveState ≠ 0)) stBusy]
  if st = stOk then
    respond via stOk [] { s with ctl := { s.ctl with
      requested := BitVec.ofNat 8 v, moveState := 1, moveAt := s.nextMacro (s.cycleNow + 1) } }
  else respond via st [] (if (st = stRange ∧ v < 16) ∨ st = stBusy then
    raiseFrom (BitVec.ofNat 8 c.source) evPlacementRefused [BitVec.ofNat 8 v] s else s)

/-- PLACEMENT_REQUEST (R63). -/
def execPlacementRequest (t : Nat) (via : Via) (v : BitVec 8) (s : State) : Out :=
  .next (serve via (writeReq 0x2003 0x02 .u8 (leBytes 1 v.toNat)) (fun c q => opPlacement c via v.toNat true q) (s.atTime t))

/-- A debugger's request to attach to lane A (R65). The spec names no object for it; its frame is that of a WRITE of
0x2000:20 without data (DESIGN CHOICE). -/
def opDebugAttach (c : Caller) (via : Via) (s : State) : State :=
  let st := firstBad [bad (decide (c.level < 2)) stAuthority, bad (decide (s.ctl.mode ≠ .hold)) stWrongState,
    bad (!s.mapFlag 5) stWrongState]
  if st = stOk then
    respond via stOk [] (raiseFrom (BitVec.ofNat 8 c.source) evDebugAttached [] { s with ctl := { s.ctl with debugger := true } })
  else respond via st [] (raiseFrom (BitVec.ofNat 8 c.source) evDebugRefused [] s)

/-- DEBUG_ATTACH (R65). -/
def execDebugAttach (t : Nat) (via : Via) (s : State) : Out :=
  .next (serve via (writeReq 0x2000 0x20 .domain []) (fun c q => opDebugAttach c via q) (s.atTime t))

/-- A FAULTED lane's task waits for its period boundary (R91). -/
def TaskSt.askRestart (ln : Lane) (x : TaskSt) : TaskSt :=
  match ln with
  | .A => { x with restartA := true }
  | .B => { x with restartB := true }
  | .C => { x with restartC := true }

/-- A write of 0x2100 + n:0E (R91). -/
def opTaskRestart (n : Fin 16) (c : Caller) (via : Via) (v : Nat) (typeOk : Bool) (s : State) : State :=
  opCommand (0x2100 + n.val) 0x0E [bad (inR 1 3 v && !(s.task n).faulted (laneCode v)) stWrongState]
    (fun _ q => q.modTask n (TaskSt.askRestart (laneCode v))) c via v typeOk s

/-- TASK_RESTART (R91). -/
def execTaskRestart (t : Nat) (via : Via) (task : Fin 16) (v : BitVec 8) (s : State) : Out :=
  .next (serve via (writeReq (0x2100 + task.val) 0x0E .u8 (leBytes 1 v.toNat)) (fun c q => opTaskRestart task c via v.toNat true q) (s.atTime t))

/-! ### The Safety Map (R160) -/

/-- A write of 0x4100: the fabric checks and stages the map. A map whose copies are being written makes it BUSY. -/
def opMap (c : Caller) (via : Via) (ty : OdType) (data : Bytes) (s : State) : State :=
  let st := firstBad [s.writeFault 0x4100 0x00 c.level, typeBad 0x4100 0x00 ty data, bad s.fab.writing.isSome stBusy]
  if st = stOk then respond via stOk [] (stageMap via data s) else respond via st [] s

/-- MAP_WRITE (R160). -/
def execMapWrite (t : Nat) (via : Via) (map : Bytes) (s : State) : Out :=
  .next (serve via (writeReq 0x4100 0x00 .domain map) (fun c q => opMap c via .domain map q) (s.atTime t))

/-- A write of 0x4101:03: only the session that wrote the staged map may echo its digest. -/
def opConfirm (c : Caller) (via : Via) (ty : OdType) (data : Bytes) (s : State) : State :=
  let st := firstBad [s.writeFault 0x4101 0x03 c.level, bad (!s.fab.staged.any (fun x => sameCaller via x.2.2)) stWrongState,
    typeBad 0x4101 0x03 ty data]
  if st = stOk then respond via stOk [] (echoMap data s) else respond via st [] s

/-- MAP_CONFIRM (R160). -/
def execMapConfirm (t : Nat) (via : Via) (digest : Bytes) (s : State) : Out :=
  .next (serve via (writeReq 0x4101 0x03 .ostring digest) (fun c q => opConfirm c via .ostring digest q) (s.atTime t))

/-! ### Channels and banks (R192, R195, R196, R202 to R204, R227, R233) -/

/-- A write of a function code: the group, while it runs, adopts it at once (R192). -/
def opFunction (ch : Fin 128) (c : Caller) (via : Via) (ty : OdType) (data : Bytes) (s : State) : State :=
  opPlain (chIndex ch) 0x01
    (fun q => reportRoles (q.modGroup (chGroup ch) (fun g => if g.up then g.modChan (chNo ch) (Chan.setFunc (BitVec.ofNat 8 (leNat data))) else g)))
    c via ty data s

/-- FUNCTION_WRITE (R192). -/
def execFunctionWrite (t : Nat) (via : Via) (ch : Fin 128) (v : BitVec 8) (s : State) : Out :=
  let d := leBytes 1 v.toNat
  .next (serve via (writeReq (chIndex ch) 0x01 .u8 d) (fun c q => opFunction ch c via .u8 d q) (s.atTime t))

/-- May a bank of a group be written now (R202)? -/
def State.bankWritable (s : State) (g : Fin 8) (bankB : Bool) : Bool :=
  s.ctl.mode = .stop || (s.odNat (gIndex g) 0x03 = 1 && bankB != (s.group g).bankB)

/-- The object index of a bank of a group. -/
def bankIndex (bankB : Bool) (g : Fin 8) : Nat := (if bankB then 0x3210 else 0x3200) + g.val

/-- A group that runs takes a bank entry. -/
def Group.putEntry (bankB : Bool) (k : Fin 16) (e : BitVec 128) (q : Group) : Group :=
  if !q.up then q else if bankB then { q with entriesB := q.entriesB.set k.val e } else { q with entriesA := q.entriesA.set k.val e }

/-- A write of a bank entry (R195, R201, R202). -/
def opBankEntry (bankB : Bool) (ch : Fin 128) (c : Caller) (via : Via) (ty : OdType) (data : Bytes) (s : State) : State :=
  let g := chGroup ch
  let i := bankIndex bankB g
  let u := (chNo ch).val + 1
  let e := BitVec.ofNat 128 (beNat data)
  let st := firstBad [writeRight i u c.level, bad (!s.bankWritable g bankB) stWrongState, typeBad i u ty data,
    bad (!entryRange e) stRange]
  let off := isInputFn (s.chanFn ch) && !aligned e (s.odNat (gIndex g) 0x02)
  if st ≠ stOk then respond via st [] s
  else if off then
    respond via stRange [] (raiseFrom (BitVec.ofNat 8 c.source) evBankEntryRefused [BitVec.ofNat 8 ch.val, BitVec.ofNat 8 (b2n bankB)] s)
  else respond via stOk [] ((s.odStore i u data).modGroup g (Group.putEntry bankB (chNo ch) e))

/-- BANK_ENTRY_WRITE (R195, R202). -/
def execBankEntryWrite (t : Nat) (via : Via) (bankB : Bool) (ch : Fin 128) (entry : BitVec 128) (s : State) : Out :=
  let d := beBytes 16 entry.toNat
  .next (serve via (writeReq (bankIndex bankB (chGroup ch)) ((chNo ch).val + 1) .ostring d)
    (fun c q => opBankEntry bankB ch c via .ostring d q) (s.atTime t))

/-- Channel `k` of a group. -/
def chanOf (g : Fin 8) (k : Nat) : Fin 128 := Fin.ofNat 128 (16 * g.val + k)

/-- Some entry of an input channel in a bank fails the alignment equation for A (R195). -/
def State.bankMisaligned (s : State) (bankB : Bool) (g : Fin 8) (a : Nat) : Bool :=
  (List.range 16).any (fun k => isInputFn (s.chanFn (chanOf g k)) &&
    !(((s.storedBank (if bankB then 0x3210 else 0x3200) g)[k]?).any (fun e => aligned e a)))

/-- A write of A (R196). -/
def opAlignment (g : Fin 8) (c : Caller) (via : Via) (ty : OdType) (data : Bytes) (s : State) : State :=
  let st := s.plainFault (gIndex g) 0x02 c.level ty data
  let a := leNat data
  if st ≠ stOk then respond via st [] s
  else if s.bankMisaligned false g a || s.bankMisaligned true g a then respond via stRange [] s
  else respond via stOk [] (s.odStore (gIndex g) 0x02 data)

/-- ALIGNMENT_WRITE (R196). -/
def execAlignmentWrite (t : Nat) (via : Via) (g : Fin 8) (v : BitVec 8) (s : State) : Out :=
  let d := leBytes 1 v.toNat
  .next (serve via (writeReq (gIndex g) 0x02 .u8 d) (fun c q => opAlignment g c via .u8 d q) (s.atTime t))

/-- Do two entries differ in GAIN, OFFSET, THRESH_MODE, ON, OFF or FILTER_COUNT (R204)? -/
def entriesDiffer (a b : BitVec 128) : Bool :=
  entGain a != entGain b || (entOffset a != entOffset b || (entAbs a != entAbs b || (entOn a != entOn b ||
    (entOff a != entOff b || entCount a != entCount b))))

/-- Do the banks differ on a channel with an input, ACK or RESTART role? -/
def State.roleDiffers (s : State) (g : Fin 8) : Bool :=
  ((s.storedBank 0x3200 g).zip (s.storedBank 0x3210 g)).zipIdx.any (fun e =>
    s.smap.any (fun m => mapRole m (chanOf g e.2).val = some 0x11) && entriesDiffer e.1.1 e.1.2)

/-- Why a swap of the named groups is refused (R204): 1 an entry fails R195, 2 the banks differ on a role, 3 a swap is
PENDING; 0 for none. -/
def State.swapReason (s : State) (groups : BitVec 8) : Nat :=
  let named := groupNos.filter (fun g => groups.getLsbD g.val)
  if named.any (fun g => s.bankMisaligned (!(s.group g).bankB) g (s.odNat (gIndex g) 0x02)) then 1
  else if s.ctl.mode ≠ .stop ∧ named.any (fun g => s.roleDiffers g) = true then 2
  else if s.fio.swapState = 1 then 3 else 0

/-- A refused swap: the event, and REFUSED at 0x3220:0B unless another swap is PENDING. -/
def refuseSwap (groups : BitVec 8) (source r : Nat) (s : State) : State :=
  raiseFrom (BitVec.ofNat 8 source) evBankSwapRefused [groups, BitVec.ofNat 8 r]
    { s with fio := { s.fio with swapState := if s.fio.swapState = 1 then 1 else 3 } }

/-- A write of 0x3220:09 (R202 to R204). -/
def opSwap (c : Caller) (via : Via) (v : Nat) (typeOk : Bool) (s : State) : State :=
  let groups := BitVec.ofNat 8 v
  let locked := groupNos.any (fun g => groups.getLsbD g.val && (s.odNat (gIndex g) 0x03 = 0 && s.ctl.mode ≠ .stop))
  let st := firstBad [s.writeFault 0x3220 0x09 c.level, bad locked stWrongState, bad (!typeOk) stType, bad (decide (256 ≤ v)) stRange]
  let r := s.swapReason groups
  if st ≠ stOk then respond via st [] s
  else if r ≠ 0 then respond via (if r = 3 then stBusy else stRange) [] (refuseSwap groups c.source r s)
  else respond via stOk [] { s with fio := { s.fio with swapState := 1, swapGroups := groups, swapAt := s.cycleNow + 2 } }

/-- BANK_SWAP_REQUEST (R203, R204). -/
def execBankSwapRequest (t : Nat) (via : Via) (groups : BitVec 8) (s : State) : Out :=
  .next (serve via (writeReq 0x3220 0x09 .u8 [groups]) (fun c q => opSwap c via groups.toNat true q) (s.atTime t))

/-- A write of a safe state (R227). -/
def opSafeState (ch : Fin 128) : Caller → Via → OdType → Bytes → State → State := opPlain (chIndex ch) 0x10 id

/-- SAFE_STATE_WRITE (R227): ON and HOLD are refused for a vital channel. -/
def execSafeStateWrite (t : Nat) (via : Via) (ch : Fin 128) (v : BitVec 8) (s : State) : Out :=
  .next (serve via (writeReq (chIndex ch) 0x10 .u8 [v]) (fun c q => opSafeState ch c via .u8 [v] q) (s.atTime t))

/-- A write of a group's derating (R233). -/
def opDerating (g : Fin 8) : Caller → Via → OdType → Bytes → State → State := opPlain (gIndex g) 0x11 id

/-- DERATING_WRITE (R233): refused while a threshold exceeds 375 mA. -/
def execDeratingWrite (t : Nat) (via : Via) (g : Fin 8) (v : BitVec 8) (s : State) : Out :=
  .next (serve via (writeReq (gIndex g) 0x11 .bool [v]) (fun c q => opDerating g c via .bool [v] q) (s.atTime t))

/-- A write of a trip threshold (R233). -/
def opTrip (ch : Fin 128) : Caller → Via → OdType → Bytes → State → State := opPlain (chIndex ch) 0x11 id

/-- TRIP_THRESHOLD_WRITE (R233): above 375 mA refused with derating set. -/
def execTripThresholdWrite (t : Nat) (via : Via) (ch : Fin 128) (v : BitVec 16) (s : State) : Out :=
  let d := leBytes 2 v.toNat
  .next (serve via (writeReq (chIndex ch) 0x11 .u16 d) (fun c q => opTrip ch c via .u16 d q) (s.atTime t))

/-! ### The time base (R280, R284) -/

/-- A write of 0x6000:10 arrives: it waits for its boundary. A request below L3 leaves REFUSED-AUTHORITY (R280, R122). -/
def opRebase (c : Caller) (via : Via) (v : Nat) (typeOk : Bool) (s : State) : State :=
  let st := firstBad [s.writeFault 0x6000 0x10 c.level, bad (!typeOk) stType, bad (decide (v ≠ 1)) stRange]
  if st = stOk then queueWrite 0x6000 0x10 [1] via c s
  else respond via st [] (if st = stAuthority then { s with time := { s.time with cmdResult := 4 } } else s)

/-- REBASE (R280). -/
def execRebase (t : Nat) (via : Via) (s : State) : Out :=
  .next (serve via (writeReq 0x6000 0x10 .u8 [1]) (fun c q => opRebase c via 1 true q) (s.atTime t))

/-- A write of 0x1180:02 (R284): in any mode; the mode changes at the next offset sample. -/
def opServo (c : Caller) (via : Via) (ty : OdType) (data : Bytes) (s : State) : State :=
  opPlain 0x1180 0x02 (fun q => { q with time := { q.time with
    servoPending := if (leNat data = 1) = q.time.hostServo then none else some (leNat data = 1) } }) c via ty data s

/-- SERVO_MODE_WRITE (R284). -/
def execServoModeWrite (t : Nat) (via : Via) (v : BitVec 8) (s : State) : Out :=
  .next (serve via (writeReq 0x1180 0x02 .u8 [v]) (fun c q => opServo c via .u8 [v] q) (s.atTime t))

/-! ### The bridge and the pair (R336, R340, R357, R360) -/

/-- A write of 0x7100:02: RESTART after HALTED-FINAL. -/
def opDmaRestart (c : Caller) (via : Via) (v : Nat) (typeOk : Bool) (s : State) : State :=
  opCommand 0x7100 0x02 [bad (decide (s.bri.engine ≠ 2)) stWrongState] (fun _ q => dmaResume q) c via v typeOk s

/-- DMA_ENGINE_RESTART (R336). -/
def execDmaEngineRestart (t : Nat) (via : Via) (s : State) : Out :=
  .next (serve via (writeReq 0x7100 0x02 .u8 [1]) (fun c q => opDmaRestart c via 1 true q) (s.atTime t))

/-- A write of 0x7300:0E arrives: it waits for its boundary; EXCHANGE-ABORT needs L3. -/
def opPairCommand (c : Caller) (via : Via) (v : Nat) (typeOk : Bool) (s : State) : State :=
  let st := firstBad [s.writeFault 0x7300 0x0E c.level, bad (decide (v = 3 ∧ c.level < 3)) stAuthority,
    bad (!s.pair.inPair) stWrongState, bad (!typeOk) stType, bad (!inR 1 3 v) stRange]
  if st = stOk then queueWrite 0x7300 0x0E (leBytes 1 v) via c s else respond via st [] s

/-- A pair command that prevails at its boundary. -/
def judgePair (v : Nat) (s : State) : BitVec 16 × State :=
  if v = 1 then
    if !(s.pair.state = .active && (s.ctl.mode = .run && s.partnerStandby)) then (stWrongState, s)
    else if s.pair.handover.isSome || s.pair.exchangeStep != 0 then (stBusy, s)
    else (stOk, proposeHandover false false false s)
  else if v = 2 then
    if s.pair.state = .out ∧ s.ctl.mode ≠ .faultStop then
      (stOk, setPair .alone 0 { s with pair := { s.pair with negotiated := false, reason := 0 } })
    else (stWrongState, s)
  else if s.pair.exchangeStep ≠ 0 ∧ s.pair.handover.isNone = true then (stOk, abortExchange false s)
  else (stWrongState, s)

/-- HAND_OVER (R357). -/
def execHandOver (t : Nat) (via : Via) (s : State) : Out :=
  .next (serve via (writeReq 0x7300 0x0E .u8 [1]) (fun c q => opPairCommand c via 1 true q) (s.atTime t))

/-- JOIN (R340). -/
def execPairJoin (t : Nat) (via : Via) (s : State) : Out :=
  .next (serve via (writeReq 0x7300 0x0E .u8 [2]) (fun c q => opPairCommand c via 2 true q) (s.atTime t))

/-- EXCHANGE_ABORT (R360). -/
def execExchangeAbort (t : Nat) (via : Via) (s : State) : Out :=
  .next (serve via (writeReq 0x7300 0x0E .u8 [3]) (fun c q => opPairCommand c via 3 true q) (s.atTime t))

/-! ### Keys, defaults and the code map (R384, R402, R409, R410) -/

/-- A write of a key. -/
def opKey (level : Fin 4) : Caller → Via → OdType → Bytes → State → State := opPlain 0x1200 (0x08 + level.val) id

/-- KEY_WRITE (R384): it applies to later OPENs. -/
def execKeyWrite (t : Nat) (via : Via) (level : Fin 4) (key : Bytes) (s : State) : Out :=
  .next (serve via (writeReq 0x1200 (0x08 + level.val) .ostring key) (fun c q => opKey level c via .ostring key q) (s.atTime t))

/-- A write of 0x1200:07: RESTORE-DEFAULTS at the next restart. -/
def opRestore (c : Caller) (via : Via) (v : Nat) (typeOk : Bool) (s : State) : State :=
  opCommand 0x1200 0x07 [] (fun _ q => { q with od := { q.od with restore := true } }) c via v typeOk s

/-- RESTORE_DEFAULTS (R402). -/
def execRestoreDefaults (t : Nat) (via : Via) (s : State) : Out :=
  .next (serve via (writeReq 0x1200 0x07 .u8 [1]) (fun c q => opRestore c via 1 true q) (s.atTime t))

/-- What R410 and the fields of R409 refuse in one entry: a value type of R95 or none, a histogram below 512 and an extreme
below 1,024. -/
def mapEntryBad (b : Bytes) : Bool :=
  let flags := leAt b 5 1
  let ty := leAt b 6 1 / 16
  let x := if ty = 0 then none else xOfCode ty
  let size := (x.map xSize).getD 0
  !inR 1 1000 (leAt b 2 2) || (!inR 1 255 (leAt b 4 1) || (decide (32 ≤ flags) || ((ty != 0 && x.isNone) ||
    ((ty != 0 && decide (8 < leAt b 6 1 % 16 + size)) ||
    (((flags.testBit 1 || flags.testBit 2) && ty = 0) ||
    ((flags.testBit 4 && !(x = some .u8 || (x = some .u16 || (x = some .u32 || x = some .u64)))) ||
    (decide (512 ≤ leAt b 8 2) || decide (1024 ≤ leAt b 10 2))))))))

/-- Some CODE appears twice. -/
def codesTwice : List Bytes → Bool
  | [] => false
  | b :: r => r.any (fun x => leAt x 0 2 = leAt b 0 2) || codesTwice r

/-- A write of 0x7000:06 (R410): the map takes effect at the next boundary. -/
def opCodeMap (c : Caller) (via : Via) (ty : OdType) (data : Bytes) (s : State) : State :=
  let es := chunksOf 16 data
  let st := firstBad [s.plainFault 0x7000 0x06 c.level ty data, bad (es.any mapEntryBad || codesTwice es) stRange]
  if st = stOk then
    let q := s.odStore 0x7000 0x06 data
    respond via stOk [] { q with rcd := { q.rcd with mapPending := some (es, s.cycleNow + 1) } }
  else respond via st [] s

/-- CODE_MAP_WRITE (R410). -/
def execCodeMapWrite (t : Nat) (via : Via) (map : Bytes) (s : State) : Out :=
  .next (serve via (writeReq 0x7000 0x06 .domain map) (fun c q => opCodeMap c via .domain map q) (s.atTime t))

end Sys2Proof.Machine
end

