-- ==== Sys2Proof/Machine/Updates.lean ====
section
/-! DEFINITION. Image update (R405, R419 to R430): the transfer, the rebuild of a delta, verification, activation, and the
end of a trial. -/

namespace Sys2Proof.Machine

/-! ### The rebuild (R423) -/

/-- The output of the operations of a delta; none when one of them is wrong. -/
def deltaOps (src : Bytes) : Nat → Bytes → Option Bytes
  | _, [] => some []
  | 0, _ => none
  | n + 1, b =>
    let op := leAt b 0 1
    let len := leAt b 4 4
    let from' := leAt b 8 4
    let data := slice b 12 len
    if b.length < 12 ∨ zeroAt b 1 3 = false ∨ len = 0 then none
    else if op = 1 then
      if src.length < from' + len then none
      else (deltaOps src n (b.drop 12)).map (fun r => slice src from' len ++ r)
    else if op = 2 then
      if data.length ≠ len ∨ src.length < from' + len then none
      else (deltaOps src n (b.drop (12 + len))).map (fun r => (slice src from' len).zipWith (· + ·) data ++ r)
    else if op = 3 then
      if data.length ≠ len ∨ from' ≠ 0 then none
      else (deltaOps src n (b.drop (12 + len))).map (fun r => data ++ r)
    else none

/-- The image that a delta stream gives against its source. -/
def rebuildDelta (source : SlotSt) (imageLen : Nat) (b : Bytes) : Option Bytes :=
  if b.length < 16 ∨ leAt b 0 4 ≠ 0x544C4458 ∨ leAt b 4 4 ≠ source.ident.toNat ∨ leAt b 8 4 ≠ imageLen ∨ zeroAt b 12 4 = false then none
  else match deltaOps source.bytes b.length (b.drop 16) with
    | some r => if r.length = imageLen then some r else none
    | none => none

/-- The received stream: the blocks in order of their offsets. -/
def Update.stream (u : Update) : Bytes :=
  (List.range ((u.streamLen + 1023) / 1024)).flatMap (fun k => ((lookupKey k u.blocks).map (·.2)).getD [])

/-- The rebuilt image. -/
def Update.rebuilt (u : Update) : Option Bytes :=
  if u.delta then
    match u.active u.app with
    | some b => rebuildDelta (u.slot u.app b) u.imageLen u.stream
    | none => none
  else some u.stream

/-! ### Verification (R420, R424) -/

structure Checked where
  /-- What the checks find of an image: REASON, or 0, its ID and its ROLLBACK_INDEX. -/
  reason : Nat
  ident : BitVec 32 := 0
  rollback : Nat := 0
deriving DecidableEq, Repr

/-- Steps 2 to 5 for an application image, and R117 in the lanes' own checks of step 6. -/
def State.checkApp (s : State) (b : Bytes) : Checked :=
  match checkFraming b with
  | .error _ => { reason := 4 }
  | .ok l =>
    let sig := sect l 8
    let start := ((l.find? (fun x => x.kind = 8)).map (·.start)).getD 0
    let h := sect l 1
    let rollback := leAt h 0x10 4
    let ident := BitVec.ofNat 32 (beNat (sig.take 4))
    let reason : Nat :=
      if sig.length ≠ 136 ∨ hashOk b sig start = false then 4
      else if sigOk s.appKeys sig = false then 5
      else if 65535 < rollback ∨ rollback < s.rollbackHalf true then 6
      else if s.edition.toNat < leAt h 8 4 then 7
      else if s.loadReason b ≠ 0 then 8 else 0
    { reason, ident, rollback }

/-- Steps 2 to 5 for a firmware package (R420). -/
def State.checkFirmware (s : State) (b : Bytes) : Checked :=
  let start := b.length - 152
  let sig := b.drop (start + 16)
  let rollback := leAt b 0x0C 4
  let edition := leAt b 8 4
  let framed := decide (216 ≤ b.length) && (leAt b 0 4 == 0x4B50574A && (leAt b 4 2 == 1 && (zeroAt b 0x20 32 &&
    (leAt b start 2 == 8 && (leAt b (start + 2) 2 == 1 && (leAt b (start + 4) 4 == 136 &&
    (leAt b (start + 8) 4 == (crc32 sig).toNat && zeroAt b (start + 12) 4)))))))
  let reason : Nat :=
    if framed = false ∨ hashOk b sig start = false then 4
    else if sigOk Config.firmwareKeys sig = false then 5
    else if 65535 < rollback ∨ rollback < s.rollbackHalf false then 6
    else if (leAt b 6 2).testBit (s.issue - 1) = false ∨ edition < ((s.app.map (fun a => a.minEdition.toNat)).getD 0) then 7
    else 0
  { reason, ident := BitVec.ofNat 32 edition, rollback }

/-- Step 6: a lane that found its copy bad or is not IN, or the Commons' own firmware copy bad. -/
def State.copiesBad (s : State) (badLanes : List Lane) (commonsOk : Bool) : Bool :=
  !badLanes.isEmpty || (s.inLanes.length != 3 || (!s.upd.app && !commonsOk))

/-- Every check of R424 on the received stream. -/
def State.checkImage (s : State) (badLanes : List Lane) (commonsOk : Bool) : Bytes × Checked :=
  match s.upd.rebuilt with
  | none => ([], { reason := 3 })
  | some b =>
    let x := if s.upd.app then s.checkApp b else s.checkFirmware b
    (b, if x.reason = 0 ∧ s.copiesBad badLanes commonsOk = true then { x with reason := 8 } else x)

/-! ### Commands (R405, R421, R422, R426) -/

/-- The code of STATE in 0x8000:06. -/
def Update.mayBegin (u : Update) : Bool :=
  u.state = .idle || (u.state = .complete || (u.state = .verified || u.state = .failed))

/-- Is a target the inactive slot of its kind? -/
def Update.targetFree (u : Update) (v : Nat) : Bool := u.active (v.testBit 4) != some (v.testBit 0)

/-- The lengths of a transfer. -/
def lengthsOk (app delta : Bool) (imageLen streamLen : Nat) : Bool :=
  inR 1 (if app then 16777216 else 25165824) imageLen && (if delta then decide (1 ≤ streamLen) else streamLen = imageLen)

/-- Replaces the slot of the transfer's target. -/
def Update.modTarget (u : Update) (f : SlotSt → SlotSt) : Update := u.setSlot u.app u.slotB (f (u.slot u.app u.slotB))

/-- The status of BEGIN after access and level. -/
def State.beginFault (s : State) : BitVec 16 :=
  let v := s.odNat 0x8000 0x02
  let app := v.testBit 4
  let delta := s.odNat 0x8000 0x03 = 1
  let src := (s.upd.active app).map (fun b => (s.upd.slot app b).state)
  firstBad [bad (!s.upd.targetFree v) stWrongState,
    bad (s.upd.trialKind.isSome && (s.upd.slot app (v.testBit 0)).fallback) stWrongState,
    bad (delta && src != some 3) stWrongState,
    bad (!lengthsOk app delta (s.odNat 0x8000 0x04) (s.odNat 0x8000 0x05)) stRange,
    bad (!s.upd.mayBegin) stBusy]

/-- BEGIN: any earlier transfer is discarded (R405), and its slot is INVALID unless it was VERIFIED. -/
def beginUpdate (c : Caller) (s : State) : State :=
  let v := s.odNat 0x8000 0x02
  let delta := s.odNat 0x8000 0x03 = 1
  let old := s.upd.modTarget SlotSt.afterLoss
  let u := { old with state := .receiving, reason := 0, app := v.testBit 4, slotB := v.testBit 0, delta, blocks := []
                      imageLen := s.odNat 0x8000 0x04, streamLen := s.odNat 0x8000 0x05 }
  raiseFrom (BitVec.ofNat 8 c.source) evUpdateBegun [BitVec.ofNat 8 v, BitVec.ofNat 8 (b2n delta)]
    { s with upd := u.modTarget (fun x => { x with state := 1, allCopies := false }) }

/-- The transfer's target slot. -/
def State.target (s : State) : SlotSt := s.upd.slot s.upd.app s.upd.slotB

/-- Is the image below the anti-rollback counter? -/
def State.targetRolled (s : State) : Bool := decide (s.target.rollback < s.rollbackHalf s.upd.app)

/-- May ACTIVATE start: a VERIFIED transfer with every copy, in STOP, or for an application in FAULT-STOP (R426)? -/
def State.mayActivate (s : State) : Bool :=
  s.upd.state = .verified && (s.target.state = 3 && (s.target.allCopies &&
    (s.ctl.mode = .stop || (s.upd.app && s.ctl.mode = .faultStop))))

/-- ACTIVATE: the selector names the new slot, and the module restarts cold into it (R426). -/
def activateSlot (s : State) : State :=
  let app := s.upd.app
  let s1 := selectImageSlot app s.upd.slotB s
  beginTrial app (coldRestart evImageActivated.toNat { s1 with upd := { s1.upd with state := .activating } })

/-- ABORT: UPDATE-ABORTED with REASON 10 (R421, R430). -/
def abortUpdate (c : Caller) (s : State) : State :=
  let u := s.upd.modTarget (fun x => if x.state = 3 then x else { x with state := 4 })
  raiseFrom (BitVec.ofNat 8 c.source) evUpdateAborted [] { s with upd := { u with state := .idle, reason := 10, blocks := [] } }

/-- The status of a command of 0x8000:01, its type being right. -/
def State.updateFault (s : State) (v level : Nat) : BitVec 16 :=
  if v = 1 then s.beginFault
  else if v = 2 then bad (decide (s.upd.state ≠ .complete)) stWrongState
  else if v = 3 then firstBad [bad (decide (level < 3)) stAuthority, bad (!s.mayActivate || s.targetRolled) stWrongState]
  else if v = 4 then bad (s.upd.state = .idle || (s.upd.state = .activating || s.upd.state = .trial)) stWrongState
  else stRange

/-- A write of 0x8000:01. -/
def opUpdate (c : Caller) (via : Via) (v : Nat) (typeOk : Bool) (s : State) : State :=
  let st := firstBad [s.writeFault 0x8000 0x01 c.level, if typeOk then s.updateFault v c.level else stType]
  if st ≠ stOk then
    respond via st [] (if st = stWrongState ∧ v = 3 ∧ s.mayActivate = true then rollbackRefused s.upd.app s.upd.slotB s else s)
  else if v = 1 then respond via stOk [] (beginUpdate c s)
  else if v = 2 then respond via stOk [] { s with upd := { s.upd with state := .verifying } }
  else if v = 3 then activateSlot (respond via stOk [] s)
  else respond via stOk [] (abortUpdate c s)

/-- A write of the target slot: only the inactive slot of the kind (0x8000:02). -/
def opUpdateTarget (c : Caller) (via : Via) (ty : OdType) (data : Bytes) (s : State) : State :=
  let st := firstBad [s.writeFault 0x8000 0x02 c.level,
    bad (typeBad 0x8000 0x02 ty data = stOk && !s.upd.targetFree (leNat data)) stWrongState,
    typeBad 0x8000 0x02 ty data, s.rangeBad 0x8000 0x02 data]
  if st = stOk then respond via stOk [] (s.odStore 0x8000 0x02 data) else respond via st [] s

/-- UPD_BEGIN (R405, R421, R422). -/
def execUpdBegin (t : Nat) (via : Via) (s : State) : Out :=
  .next (serve via (writeReq 0x8000 0x01 .u8 [1]) (fun c q => opUpdate c via 1 true q) (s.atTime t))

/-- UPD_VERIFY (R424). -/
def execUpdVerify (t : Nat) (via : Via) (s : State) : Out :=
  .next (serve via (writeReq 0x8000 0x01 .u8 [2]) (fun c q => opUpdate c via 2 true q) (s.atTime t))

/-- UPD_ACTIVATE (R426). -/
def execUpdActivate (t : Nat) (via : Via) (s : State) : Out :=
  .next (serve via (writeReq 0x8000 0x01 .u8 [3]) (fun c q => opUpdate c via 3 true q) (s.atTime t))

/-- UPD_ABORT (R421, R430). -/
def execUpdAbort (t : Nat) (via : Via) (s : State) : Out :=
  .next (serve via (writeReq 0x8000 0x01 .u8 [4]) (fun c q => opUpdate c via 4 true q) (s.atTime t))

/-! ### Blocks (R405) -/

/-- The bytes of a block write. -/
def blockBytes (offset length : Nat) (crc : BitVec 32) (data : Bytes) : Bytes :=
  leBytes 4 offset ++ leBytes 2 length ++ [0, 0] ++ leBytes 4 crc.toNat ++ data

/-- The length of the block at an offset. -/
def Update.blockLen (u : Update) (offset : Nat) : Nat := min 1024 (u.streamLen - offset)

/-- A block with a right OFFSET, LENGTH and CRC: it is stored; the last one completes the transfer. -/
def takeBlock (k : Nat) (crc : BitVec 32) (data : Bytes) (s : State) : State :=
  let blocks := setKey k (crc, data) s.upd.blocks
  let u := { s.upd with blocks }
  if blocks.length = (u.streamLen + 1023) / 1024 then
    raise evTransferComplete [] { s with upd := { u with state := .complete }.modTarget (fun x => { x with state := 2 }) }
  else { s with upd := u }

/-- A write of 0x8010:01 (R405, R430). -/
def opBlock (c : Caller) (via : Via) (ty : OdType) (b : Bytes) (s : State) : State :=
  let offset := leAt b 0 4
  let crc := BitVec.ofNat 32 (leAt b 8 4)
  let data := b.drop 12
  let st := firstBad [s.writeFault 0x8010 0x01 c.level, bad (decide (s.upd.state ≠ .receiving)) stWrongState,
    typeBad 0x8010 0x01 ty b, bad (decide (b.length < 12)) stType]
  if st ≠ stOk then respond via st [] s
  else if offset % 1024 ≠ 0 ∨ s.upd.streamLen ≤ offset ∨ leAt b 4 2 ≠ s.upd.blockLen offset ∨ data.length ≠ leAt b 4 2 then
    respond via stOffset [] { s with upd := { s.upd with reason := 2 } }
  else if leAt b 6 2 ≠ 0 then respond via stRange [] s
  else if crc ≠ crc32 data then
    respond via stRange [] (raiseFrom (BitVec.ofNat 8 c.source) evBlockRefused (d32 offset ++ [1])
      { s with upd := { s.upd with reason := 1 } })
  else match lookupKey (offset / 1024) s.upd.blocks with
    | some old => respond via (if old.1 = crc then stOk else stRange) [] s
    | none => respond via stOk [] (takeBlock (offset / 1024) crc data s)

/-- UPD_BLOCK (R405). -/
def execUpdBlock (t : Nat) (via : Via) (offset length : Nat) (crc : BitVec 32) (data : Bytes) (s : State) : Out :=
  let b := blockBytes offset length crc data
  .next (serve via (writeReq 0x8010 0x01 .domain b) (fun c q => opBlock c via .domain b q) (s.atTime t))

/-! ### The end of verification and of a trial (R424, R429) -/

/-- UPD_VERIFY_COMPLETE (R423, R424): VERIFIED, or FAILED with its REASON. -/
def execUpdVerifyComplete (t : Nat) (badLanes : List Lane) (commonsOk : Bool) (s : State) : Out :=
  let s := s.atTime t
  .next (if s.upd.state = .verifying then
      let x := s.checkImage badLanes commonsOk
      let r := x.2.reason
      if r = 0 then
        let u := s.upd.modTarget (fun _ => { bytes := x.1, state := 3, allCopies := true, ident := x.2.ident, rollback := x.2.rollback })
        raise evImageVerified (d32 x.2.ident.toNat) { s with upd := { u with state := .verified, reason := 0, blocks := [] } }
      else
        let u := s.upd.modTarget (fun y => { y with state := 4 })
        raise (if r = 6 then evRollbackRefused else evVerifyFailed) (if r = 6 then [] else [BitVec.ofNat 8 r])
          { s with upd := { u with state := .failed, reason := r } }
    else s)

/-- Has the trial failed (R429)? -/
def State.trialFailed (s : State) : Bool :=
  s.trialOver || (s.ctl.mode = .faultStop || (s.upd.trialStarts = 3 && decide (s.ctl.stage < 4)))

/-- The selector returns to the FALLBACK slot, and the failed slot is INVALID. -/
def Update.fallBack (app : Bool) (u : Update) : Update :=
  let b := (u.active app).getD false
  let old := u.slot app (!b)
  let back : Option Bool := if old.fallback then some (!b) else none
  let u1 := (u.setSlot app b { u.slot app b with state := 4, trial := false }).setSlot app (!b) { old with fallback := false }
  let u2 := if app then { u1 with appActive := back } else { u1 with fwActiveB := back.getD u1.fwActiveB }
  { u2 with state := .failed, reason := 9, trialKind := none, trialStarts := 0 }

/-- TRIAL_FALLBACK (R429): a cold restart into the old image. -/
def execTrialFallback (t : Nat) (s : State) : Out :=
  let s := s.atTime t
  .next (match s.upd.trialKind with
    | some app =>
      if s.trialFailed then
        raise evTrialFallback [] (coldRestart evTrialFallback.toNat { s with upd := s.upd.fallBack app })
      else s
    | none => s)

end Sys2Proof.Machine
end

