-- ==== Sys2Proof/Machine/Abacus.lean ====
section
/-! DEFINITION. The Abacus operations and the SDO servers (chapter 15): sessions (R384 to R386), object reads and writes
(R379, R381, R388, R389), the contest at a boundary (R392), signals (R391), events (R397) and SDO (R390). -/

namespace Sys2Proof.Machine

/-! ### Writes of objects -/

/-- A write of an object without a rule of its own: at its boundary, or at once (R381). -/
def opOther (i u : Nat) (c : Caller) (via : Via) (ty : OdType) (data : Bytes) (s : State) : State :=
  if (odRow i u).any (fun r => r.timing = .boundary) then
    let st := s.plainFault i u c.level ty data
    if st = stOk then queueWrite i u data via c s else respond via st [] s
  else opPlain i u id c via ty data s

/-- Writes of 0x2200 to 0x22FF. -/
def writeForce (n : Fin 256) (u : Nat) (c : Caller) (via : Via) (ty : OdType) (data : Bytes) (s : State) : State :=
  let ok := decide (typeBad (forceIndex n) u ty data = stOk)
  if u = 1 ∨ u = 2 then opForceField n u c via (leNat data) ok s
  else if u = 3 then opForceValue n c via (leNat data) ok s
  else if u = 4 then opForceCommand n c via (leNat data) ok s
  else opOther (forceIndex n) u c via ty data s

/-- Writes of command objects, by index and subindex; none for every other object. -/
def writeCommand (i u : Nat) : Option (Caller → Via → Nat → Bool → State → State) :=
  if i = 0x1101 ∧ u = 1 then some opMode
  else if i = 0x1200 ∧ u = 7 then some opRestore
  else if i = 0x2000 ∧ u = 8 then some opLane
  else if i = 0x2003 ∧ u = 2 then some opPlacement
  else if inR 0x2100 0x210F i = true ∧ u = 0x0E then some (opTaskRestart (Fin.ofNat 16 (i - 0x2100)))
  else if i = 0x2300 ∧ u = 2 then some opSetTarget
  else if i = 0x2300 ∧ u = 3 then some opSetCommand
  else if i = 0x3220 ∧ u = 9 then some opSwap
  else if i = 0x6000 ∧ u = 0x10 then some opRebase
  else if i = 0x7100 ∧ u = 2 then some opDmaRestart
  else if i = 0x7300 ∧ u = 0x0E then some opPairCommand
  else if i = 0x8000 ∧ u = 1 then some opUpdate
  else none

/-- Writes of other objects with a rule of their own; none for every other object. -/
def writeSpecial (i u : Nat) : Option (Caller → Via → OdType → Bytes → State → State) :=
  if inR 0x2200 0x22FF i then some (writeForce (Fin.ofNat 256 (i - 0x2200)) u)
  else if i = 0x1180 ∧ u = 2 then some opServo
  else if i = 0x2002 ∧ u = 1 then some opStagger
  else if i = 0x2300 ∧ u = 1 then
    some (fun c via ty data s => opSetEntries c via data (typeBad 0x2300 0x01 ty data = stOk) s)
  else if inR 0x3001 0x3008 i = true ∧ u = 2 then some (opAlignment (Fin.ofNat 8 (i - 0x3001)))
  else if inR 0x3100 0x317F i = true ∧ u = 1 then some (opFunction (Fin.ofNat 128 (i - 0x3100)))
  else if inR 0x3200 0x3207 i = true ∧ inR 1 16 u = true then some (opBankEntry false (Fin.ofNat 128 (16 * (i - 0x3200) + (u - 1))))
  else if inR 0x3210 0x3217 i = true ∧ inR 1 16 u = true then some (opBankEntry true (Fin.ofNat 128 (16 * (i - 0x3210) + (u - 1))))
  else if i = 0x4100 ∧ u = 0 then some opMap
  else if i = 0x4101 ∧ u = 3 then some opConfirm
  else if i = 0x7000 ∧ u = 6 then some opCodeMap
  else if i = 0x8000 ∧ u = 2 then some opUpdateTarget
  else if i = 0x8010 ∧ u = 1 then some opBlock
  else none

/-- A complete write of any object. -/
def writeObject (i u : Nat) (c : Caller) (via : Via) (ty : OdType) (data : Bytes) (s : State) : State :=
  match writeCommand i u, writeSpecial i u with
  | some op, _ => op c via (leNat data) (typeBad i u ty data = stOk) s
  | none, some op => op c via ty data s
  | none, none => opOther i u c via ty data s

/-- AB_WRITE (R381, R388). -/
def execAbWrite (t : Nat) (via : Via) (index : BitVec 16) (sub : BitVec 8) (ty : OdType) (data : Bytes) (s : State) : Out :=
  .next (serve via (writeReq index.toNat sub.toNat ty data) (fun c q => writeObject index.toNat sub.toNat c via ty data q) (s.atTime t))

/-! ### The contest at a boundary (R381, R392, R394) -/

/-- Does a write that comes later in order of acceptance prevail over an earlier one? -/
def PendW.beats (isMode : Bool) (w best : PendW) : Bool :=
  let stop (x : PendW) : Bool := isMode && x.data = [2]
  if stop w != stop best then stop w
  else if w.level ≠ best.level then decide (best.level < w.level)
  else if w.client ≠ best.client then decide (w.client < best.client)
  else true

/-- The place of the prevailing write, counted from the first of them. -/
def prevailing (isMode : Bool) : Nat → Nat × PendW → List PendW → Nat × PendW
  | _, best, [] => best
  | k, best, w :: r => prevailing isMode (k + 1) (if w.beats isMode best.2 then (k, w) else best) r

/-- A prevailing write is judged under its own rules. -/
def judgeWrite (i u : Nat) (w : PendW) (s : State) : BitVec 16 × State :=
  if i = 0x1101 ∧ u = 1 then judgeMode (leNat w.data) (viaSource w.via) s
  else if i = 0x6000 ∧ u = 0x10 then
    let q := doRebase s
    (if q.time.cmdResult = 1 then stOk else stWrongState, q)
  else if i = 0x7300 ∧ u = 0x0E then judgePair (leNat w.data) s
  else (stOk, s.odStore i u w.data)

/-- A write that did not prevail: SUPERSEDED and ORDER-SUPERSEDED. -/
def loseWrite (i winner b : Nat) (s : State) (w : PendW) : State :=
  respond w.via stSuperseded [] (raise evOrderSuperseded
    (d16 i ++ ([BitVec.ofNat 8 winner, BitVec.ofNat 8 (viaSource w.via)] ++ d32 (b % 2 ^ 32))) s)

/-- BOUNDARY_WRITE (R381, R392): the writes of one object that take effect at the earliest boundary due are contested. -/
def execBoundaryWrite (t : Nat) (index : BitVec 16) (sub : BitVec 8) (s : State) : Out :=
  let s := s.atTime t
  let i := index.toNat
  let u := sub.toNat
  let k := odKey i u
  let due := s.ctl.waiting.filter (fun w => w.key = k && decide (w.boundary ≤ s.cycleNow))
  .next (match due with
    | [] => s
    | d :: _ =>
      let b := due.foldl (fun m w => min m w.boundary) d.boundary
      match due.filter (fun w => w.boundary = b) with
      | [] => s
      | first :: rest =>
        let best := prevailing (i = 0x1101 && u = 1) 1 (0, first) rest
        let losers := (first :: rest).eraseIdx best.1
        let s1 := { s with ctl := { s.ctl with waiting := s.ctl.waiting.filter (fun w => !(w.key = k && w.boundary = b)) } }
        let r := judgeWrite i u best.2 s1
        losers.foldl (loseWrite i (viaSource best.2.via) b) (respond best.2.via r.1 [] r.2))

/-! ### Sessions (R384 to R386) -/

/-- The key of a level. -/
def State.levelKey (s : State) (level : Nat) : Bytes := s.odGet 0x1200 (0x08 + level)

/-- The lowest free session. -/
def State.freeSession (s : State) : Option (Fin 9) :=
  ([1, 2, 3, 4, 5, 6, 7, 8] : List (Fin 9)).find? (fun n => (s.session n).state = 0)

/-- The ASCII text of a session key. -/
def abacusText : Bytes := [0x41, 0x42, 0x41, 0x43, 0x55, 0x53, 0x31]

/-- The status of an OPEN (R384). -/
def State.openFault (s : State) (port : Fin 11) (client level : Nat) (nonce : Bytes) : BitVec 16 :=
  firstBad [bad (decide (level ≤ 3) && ((s.levelKey level).isEmpty && !(level = 3 && port.val = 7))) stAuthority,
    bad (decide (nonce.length ≠ 16)) stType, bad (decide (3 < level) || !inR 1 0xFEFF client) stRange, bad s.freeSession.isNone stBusy]

/-- AB_OPEN (R384): the lowest free session is OPENING. -/
def execAbOpen (t : Nat) (port : Fin 11) (addr : Nat) (clientId : BitVec 16) (level : BitVec 8) (nonce : Bytes) (s : State) : Out :=
  let s := s.atTime t
  .next (if !(s.od.running && s.portOn port) then s
    else
      let r := openToken s
      let q := r.1
      if !r.2 then q
      else
        let st := q.openFault port clientId.toNat level.toNat nonce
        match (if st = stOk then q.freeSession else none) with
        | some n =>
          let server := Config.nonce q.freeCount
          let key := Config.hmacSha256 (q.levelKey level.toNat) (abacusText ++ (nonce ++ (server ++ [BitVec.ofNat 8 n.val])))
          let q1 := q.tick.modSession n (fun _ => { ({} : Session) with
            state := 1, client := clientId.toNat, level := level.toNat, port, key, openedAt := q.time.now, lastAt := q.time.now })
          q1.emit (.abacusOpen port addr stOk ([BitVec.ofNat 8 n.val, 0, 0, 0] ++ server))
        | none => q.emit (.abacusOpen port addr st []))

/-- The AUTH of an OPENING session: a correct MAC with SEQ 1 makes it OPEN. -/
def authSession (via : Via) (n : Fin 9) (seq : BitVec 32) (addr : Nat) (mac : Bytes) (s : State) : State :=
  let x := s.session n
  if mac ≠ frameMac x.key n.val seq { op := 2 } then authFailed n addr s
  else
    let r := sessionToken n s
    if !r.2 ∨ seq ≠ 1 then r.1
    else
      let q := r.1.modSession n (fun y => { y with state := 2, lastSeq := 1, addr, lastAt := s.time.now, served := 1 })
      respond via stOk [] (raiseFrom (BitVec.ofNat 8 n.val) evSessionOpened
        ([BitVec.ofNat 8 n.val, BitVec.ofNat 8 x.level] ++ d16 x.client) q)

/-- AB_AUTH (R384). -/
def execAbAuth (t : Nat) (via : Via) (s : State) : Out :=
  let s := s.atTime t
  .next (match via with
    | .abacus n seq port addr mac =>
      if s.od.running && (s.portOn port && (n != 0 && (s.session n).state = 1)) then authSession via n seq addr mac s
      else serve via { op := 2 } (fun _ q => respond via stWrongState [] q) s
    | .sdo _ => serve via { op := 2 } (fun _ q => q) s)

/-- AB_CLOSE (R386). -/
def execAbClose (t : Nat) (via : Via) (s : State) : Out :=
  .next (serve via { op := 3 } (fun _ q =>
    let q1 := respond via stOk [] q
    match via with
    | .abacus n _ _ _ _ => closeSession n 1 q1
    | .sdo _ => q1) (s.atTime t))

/-- AB_KEEPALIVE (R386). -/
def execAbKeepalive (t : Nat) (via : Via) (s : State) : Out :=
  .next (serve via { op := 4 } (fun _ q => respond via stOk [] q) (s.atTime t))

/-- SESSION_OPEN_TIMEOUT (R384): a session still OPENING after 1 s is freed. -/
def execSessionOpenTimeout (t : Nat) (n : Fin 9) (s : State) : Out :=
  let s := s.atTime t
  let x := s.session n
  .next (if n ≠ 0 ∧ x.state = 1 ∧ x.openedAt + 1000000000 ≤ s.time.now then s.modSession n (fun _ => {}) else s)

/-- IDLE_TIMEOUT (R386). -/
def execIdleTimeout (t : Nat) (n : Fin 9) (s : State) : Out :=
  let s := s.atTime t
  let x := s.session n
  .next (if n ≠ 0 ∧ x.state = 2 ∧ x.lastAt + s.odNat 0x1200 0x04 * 1000000000 ≤ s.time.now then closeSession n 2 s else s)

/-! ### Reads (R379, R383, R389, R401) -/

/-- Is an object a DOMAIN? -/
def isDomain (i u : Nat) : Bool := (odRow i u).any (fun r => r.ty = .domain)

/-- AB_READ (R401): a DOMAIN above 1,400 bytes is read in parts only. -/
def execAbRead (t : Nat) (via : Via) (index : BitVec 16) (sub : BitVec 8) (s : State) : Out :=
  let i := index.toNat
  let u := sub.toNat
  .next (serve via (readReq i u) (fun c q =>
    let v := q.odRead i u
    let st := firstBad [readFault i u c.level, bad (decide (1400 < v.length)) stOffset]
    respond via st (if st = stOk then v else []) q) (s.atTime t))

/-- AB_READ_SEGMENT (R383). -/
def execAbReadSegment (t : Nat) (via : Via) (index : BitVec 16) (sub : BitVec 8) (offset length : Nat) (s : State) : Out :=
  let i := index.toNat
  let u := sub.toNat
  .next (serve via { op := 0x12, index := i, sub := u, ty := 14, offset, length } (fun c q =>
    let v := q.odRead i u
    let st := firstBad [readFault i u c.level, bad (!isDomain i u) stType,
      bad (decide (1400 < length) || decide (v.length < offset + length)) stOffset]
    respond via st (if st = stOk then slice v offset length else []) q) (s.atTime t))

/-- AB_BULK_READ (R389): LENGTH × 1,024 bytes from OFFSET, or what the DOMAIN has of them. -/
def execAbBulkRead (t : Nat) (via : Via) (index : BitVec 16) (sub : BitVec 8) (offset length : Nat) (s : State) : Out :=
  let i := index.toNat
  let u := sub.toNat
  .next (serve via { op := 0x14, index := i, sub := u, ty := 14, offset, length } (fun c q =>
    let v := q.odRead i u
    let st := firstBad [readFault i u c.level, bad (!isDomain i u) stType, bad (decide (v.length < offset)) stOffset]
    respond via st (if st = stOk then slice v offset (1024 * length) else []) q) (s.atTime t))

/-! ### The assembly of a DOMAIN (R389) -/

/-- How far segments cover a DOMAIN from its start. -/
def coverTo (segs : List (Nat × Bytes)) : Nat → Nat → Nat
  | 0, pos => pos
  | n + 1, pos =>
    let next := segs.foldl (fun m x => if x.1 ≤ pos then max m (x.1 + x.2.length) else m) pos
    if next = pos then pos else coverTo segs n next

/-- The value that segments make. -/
def assembleSegs (total : Nat) (segs : List (Nat × Bytes)) : Bytes :=
  segs.foldl (fun b x => patch b x.1 x.2) (List.replicate total 0)

/-- Does another session assemble the object? -/
def State.assembling (s : State) (n : Fin 9) (k : Nat) : Bool :=
  s.od.sessions.zipIdx.any (fun e => e.2 != n.val && e.1.asm.any (fun a => a.1 = k))

/-- A WRITE-SEGMENT of session `n`: the value is applied when the segments cover 0 to TOTAL and the one that completes them
clears MORE. -/
def takeSegment (n : Fin 9) (i u offset total : Nat) (more : Bool) (data : Bytes) (c : Caller) (via : Via) (s : State) : State :=
  let k := odKey i u
  let old := (s.session n).asm.filter (fun a => a.1 = k)
  let st := firstBad [writeRight i u c.level, bad (!isDomain i u) stType,
    bad (decide (1400 < data.length) || (decide (total < offset + data.length) || (decide (16777216 < total) ||
      old.any (fun a => a.2.1 != total)))) stOffset,
    bad (s.assembling n k) stBusy]
  if st ≠ stOk then respond via st [] s
  else
    let segs := ((old.map (·.2.2)).getD []) ++ [(offset, data)]
    if coverTo segs segs.length 0 = total ∧ more = false then
      writeObject i u c via .domain (assembleSegs total segs) (s.modSession n (fun x => { x with asm := none }))
    else respond via stOk [] (s.modSession n (fun x => { x with asm := some (k, total, segs) }))

/-- AB_WRITE_SEGMENT (R389). -/
def execAbWriteSegment (t : Nat) (via : Via) (index : BitVec 16) (sub : BitVec 8) (offset total : Nat) (more : Bool) (data : Bytes)
    (s : State) : Out :=
  let i := index.toNat
  let u := sub.toNat
  .next (serve via (segmentReq i u offset total more data) (fun c q => match via with
    | .abacus n _ _ _ _ => takeSegment n i u offset total more data c via q
    | .sdo _ => q) (s.atTime t))

/-! ### Signals and events (R391, R397) -/

/-- The type of R378 that carries an XPC type. -/
def typeOfX : XType → OdType
  | .bool => .bool | .u8 => .u8 | .u16 => .u16 | .u32 => .u32 | .u64 => .u64
  | .i8 => .i8 | .i16 => .i16 | .i32 => .i32 | .i64 => .i64 | .f32 => .f32 | .f64 => .f64 | .time64 => .time64

/-- The type code in the frame of a signal operation: the signal's (DESIGN CHOICE). -/
def State.signalType (s : State) (n : Nat) : Nat := ((s.signal n).map (fun e => odCode (typeOfX e.ty))).getD 2

/-- AB_READ_SIGNAL (R383, R406). -/
def execAbReadSignal (t : Nat) (via : Via) (entry : BitVec 16) (s : State) : Out :=
  let q0 := s.atTime t
  .next (serve via { op := 0x20, index := entry.toNat, ty := q0.signalType entry.toNat } (fun _ q =>
    match q.signal entry.toNat with
    | some e => respond via stOk (leBytes e.size (q.sigValue e).toNat) q
    | none => respond via stNoObject [] q) q0)

/-- The status of a WRITE-SIGNAL (R388, R391, R352). -/
def State.signalFault (s : State) (e : SigEntry) (level : Nat) (ty : OdType) (data : Bytes) : BitVec 16 :=
  let v := BitVec.ofNat 64 (leNat data)
  firstBad [bad (e.inImage || !e.hostOwned) stReadOnly, bad (decide (level < (if e.vital then 2 else 1))) stAuthority,
    bad (!s.setMode) stWrongState,
    bad (ty != typeOfX e.ty || (data.length != e.size || (e.ty = .bool && decide (1 < v.toNat)))) stType,
    bad (e.vital && v != e.safe) stRange]

/-- The boundary of a host write to a signal (R381); in a pair that of cycle N + 2 (R352). -/
def State.signalBoundary (s : State) : Nat := if s.pair.inPair then s.cycleNow + 2 else s.hostBoundary

/-- A WRITE-SIGNAL: accepted for its boundary, mirrored in a pair, and answered after the boundary (R394). -/
def writeSignal (n : Nat) (ty : OdType) (data : Bytes) (c : Caller) (via : Via) (s : State) : State :=
  match s.signal n with
  | none => respond via stNoObject [] s
  | some e =>
    let st := s.signalFault e c.level ty data
    if st ≠ stOk then respond via st [] s
    else
      let b := s.signalBoundary
      let value := BitVec.ofNat 64 (leNat data)
      let orders := s.cis.orders ++ [{ entry := n, value, boundary := b, via := some via, level := c.level, client := c.client }]
      mirror (.hostWrite n value b c.level c.client) { s with cis := { s.cis with orders } }

/-- AB_WRITE_SIGNAL (R391). -/
def execAbWriteSignal (t : Nat) (via : Via) (entry : BitVec 16) (ty : OdType) (data : Bytes) (s : State) : Out :=
  .next (serve via { op := 0x21, index := entry.toNat, ty := odCode ty, length := data.length, data }
    (fun c q => writeSignal entry.toNat ty data c via q) (s.atTime t))

/-- AB_EVENTS (R397): up to 58 entries from a SEQ, or from the oldest still held. -/
def execAbEvents (t : Nat) (via : Via) (fromSeq : BitVec 32) (s : State) : Out :=
  .next (serve via { op := 0x30, ty := 4, length := 4, data := leBytes 4 fromSeq.toNat } (fun _ q =>
    let es := (q.evq.entries.filter (fun e => fromSeq ≤ e.seq)).take 58
    respond via stOk (es.flatMap eventBytes) q) (s.atTime t))

/-! ### SDO (R390, CiA 301) -/

/-- An SDO answer with an abort code that no status of R388 has (PRESUMED, CiA 301). -/
def sdoReply (bus : Fin 2) (abort : BitVec 32) (data : Bytes) (s : State) : State := s.emit (.sdo bus abort data)

/-- An initiate request: the bus runs, and a transfer in progress answers it with BUSY. -/
def sdoInitiate (bus : Fin 2) (act : State → State) (s : State) : State :=
  if !s.canOn bus then s
  else if (s.sdoServer bus).xfer.isSome then sdoReply bus (sdoAbort stBusy) [] s
  else act s

/-- SDO_UPLOAD_INITIATE: up to 4 bytes expedited, else the length and a transfer. -/
def execSdoUploadInitiate (t : Nat) (bus : Fin 2) (index : BitVec 16) (sub : BitVec 8) (s : State) : Out :=
  let i := index.toNat
  let u := sub.toNat
  .next (sdoInitiate bus (fun q =>
    let st := readFault i u (q.sdoCaller bus).level
    let v := q.odRead i u
    if st ≠ stOk then respond (.sdo bus) st [] q
    else if v.length ≤ 4 then respond (.sdo bus) stOk v q
    else sdoReply bus 0 (leBytes 4 v.length) (q.setXfer bus (some
      { download := false, key := odKey i u, total := v.length, data := v, block := false, lastAt := q.time.now, toggle := false })))
    (s.atTime t))

/-- SDO_DOWNLOAD_INITIATE: a whole value, or the length of a transfer. -/
def execSdoDownloadInitiate (t : Nat) (bus : Fin 2) (index : BitVec 16) (sub : BitVec 8) (total : Nat) (data : Bytes) (s : State) : Out :=
  let i := index.toNat
  let u := sub.toNat
  .next (sdoInitiate bus (fun q =>
    let c := q.sdoCaller bus
    let ty := ((odRow i u).map (·.ty)).getD .u8
    if data.length = total then writeObject i u c (.sdo bus) ty data q
    else if !data.isEmpty then respond (.sdo bus) stType [] q
    else
      let st := writeRight i u c.level
      if st ≠ stOk then respond (.sdo bus) st [] q
      else sdoReply bus 0 [] (q.setXfer bus (some
        { download := true, key := odKey i u, total, data := [], block := false, lastAt := q.time.now, toggle := false })))
    (s.atTime t))

/-- The end of a download: the value is written, or its length is wrong. -/
def endDownload (bus : Fin 2) (x : SdoXfer) (s : State) : State :=
  let i := x.key / 256
  let u := x.key % 256
  let q := s.setXfer bus none
  if x.data.length ≠ x.total then respond (.sdo bus) stType [] q
  else writeObject i u (q.sdoCaller bus) (.sdo bus) (((odRow i u).map (·.ty)).getD .u8) x.data q

/-- A segment of a segmented transfer. -/
def sdoSegmentStep (bus : Fin 2) (x : SdoXfer) (toggle last : Bool) (data : Bytes) (s : State) : State :=
  if x.block then sdoReply bus 0x05040001 [] (s.setXfer bus none)
  else if toggle ≠ x.toggle then sdoReply bus 0x05030000 [] (s.setXfer bus none)
  else if x.download then
    let y := { x with data := x.data ++ data.take 7, toggle := !x.toggle, lastAt := s.time.now }
    if last then endDownload bus y s
    else if x.total < y.data.length then respond (.sdo bus) stType [] (s.setXfer bus none)
    else sdoReply bus 0 [] (s.setXfer bus (some y))
  else
    let rest := x.data.drop 7
    sdoReply bus 0 (x.data.take 7) (s.setXfer bus (if rest.isEmpty then none else
      some { x with data := rest, toggle := !x.toggle, lastAt := s.time.now }))

/-- SDO_SEGMENT (R390). -/
def execSdoSegment (t : Nat) (bus : Fin 2) (toggle last : Bool) (data : Bytes) (s : State) : Out :=
  let s := s.atTime t
  .next (if !s.canOn bus then s
    else match (s.sdoServer bus).xfer with
      | some x => sdoSegmentStep bus x toggle last data s
      | none => sdoReply bus 0x05040001 [] s)

/-- The SEQNO that a block download expects next: blocks of 127 segments of 7 bytes. -/
def SdoXfer.nextSeqno (x : SdoXfer) : Nat := x.data.length / 7 % 127 + 1

/-- The parts of the next block of an upload. -/
def sdoParts : Nat → Bytes → List Bytes
  | 0, _ => []
  | n + 1, b => if b.isEmpty then [] else b.take 7 :: sdoParts n (b.drop 7)

/-- A frame of a block transfer: a segment of a download, or the acknowledgement of an upload up to `seqno`. -/
def sdoBlockStep (bus : Fin 2) (x : SdoXfer) (seqno : Nat) (last : Bool) (data : Bytes) (s : State) : State :=
  if x.download then
    if seqno ≠ x.nextSeqno then sdoReply bus 0 [BitVec.ofNat 8 (x.nextSeqno - 1)] s
    else
      let y := { x with block := true, data := x.data ++ data.take 7, lastAt := s.time.now }
      if last then endDownload bus y s
      else if x.total < y.data.length then respond (.sdo bus) stType [] (s.setXfer bus none)
      else
        let q := s.setXfer bus (some y)
        if seqno = 127 then sdoReply bus 0 [127] q else q
  else
    let rest := x.data.drop (7 * seqno)
    if rest.isEmpty then s.setXfer bus none
    else (s.setXfer bus (some { x with block := true, data := rest, lastAt := s.time.now })).emitAll
      ((sdoParts 127 rest).map (fun p => .sdo bus 0 p))

/-- SDO_BLOCK_TRANSFER (R390). -/
def execSdoBlockTransfer (t : Nat) (bus : Fin 2) (seqno : Nat) (last : Bool) (data : Bytes) (s : State) : Out :=
  let s := s.atTime t
  .next (if !s.canOn bus then s
    else match (s.sdoServer bus).xfer with
      | some x => sdoBlockStep bus x seqno last data s
      | none => sdoReply bus 0x05040001 [] s)

/-- SDO_SEGMENT_TIMEOUT (R390): 1 s without a frame ends the transfer. -/
def execSdoSegmentTimeout (t : Nat) (bus : Fin 2) (s : State) : Out :=
  let s := s.atTime t
  .next (match (s.sdoServer bus).xfer with
    | some x => if x.lastAt + 1000000000 ≤ s.time.now then sdoReply bus 0x05040000 [] (s.setXfer bus none) else s
    | none => s)

end Sys2Proof.Machine
end

