-- ==== Sys2Proof/Machine/Dispatch.lean ====
section
/-! DEFINITION. The dispatch: one arm per command, each a direct call of its meaning. -/

namespace Sys2Proof.Machine

/-- The effect of one command on everything but the queue. -/
def exec (i : Instr) (s : State) : Host.Outcome State Fault Refusal :=
  match i with
  | .supplyOn t => Sys2Proof.Machine.execSupplyOn t s
  | .stage0Complete t => Sys2Proof.Machine.execStage0Complete t s
  | .stage1Complete t straps => Sys2Proof.Machine.execStage1Complete t straps s
  | .translationComplete t ln native => Sys2Proof.Machine.execTranslationComplete t ln native s
  | .stage2Complete t tables => Sys2Proof.Machine.execStage2Complete t tables s
  | .stage3Complete t => Sys2Proof.Machine.execStage3Complete t s
  | .pairNegotiation t partner => Sys2Proof.Machine.execPairNegotiation t partner s
  | .stageTimeout t stage => Sys2Proof.Machine.execStageTimeout t stage s
  | .supplyInterruption t => Sys2Proof.Machine.execSupplyInterruption t s
  | .storeExhausted t => Sys2Proof.Machine.execStoreExhausted t s
  | .supplyReturn t disturbed belowHold converters => Sys2Proof.Machine.execSupplyReturn t disturbed belowHold converters s
  | .supplyMeasurement t x1 => Sys2Proof.Machine.execSupplyMeasurement t x1 s
  | .cycleBoundary t => Sys2Proof.Machine.execCycleBoundary t s
  | .imageSealed t => Sys2Proof.Machine.execImageSealed t s
  | .imageLate t => Sys2Proof.Machine.execImageLate t s
  | .groupLinkTimeout t g => Sys2Proof.Machine.execGroupLinkTimeout t g s
  | .releaseToken t ln => Sys2Proof.Machine.execReleaseToken t ln s
  | .laneDrink t ln recv ctxOk => Sys2Proof.Machine.execLaneDrink t ln recv ctxOk s
  | .tokenTimeout t ln => Sys2Proof.Machine.execTokenTimeout t ln s
  | .xMov ln core ty d a => Sys2Proof.Machine.execXMov ln core ty d a s
  | .xLdi ln core ty d lit => Sys2Proof.Machine.execXLdi ln core ty d lit s
  | .xCvt ln core ty d a src => Sys2Proof.Machine.execXCvt ln core ty d a src s
  | .xSel ln core ty d a b => Sys2Proof.Machine.execXSel ln core ty d a b s
  | .xLd ln core ty d a sp indexed off => Sys2Proof.Machine.execXLd ln core ty d a sp indexed off s
  | .xSt ln core ty r a indexed off => Sys2Proof.Machine.execXSt ln core ty r a indexed off s
  | .xStl ln core ty r a indexed off => Sys2Proof.Machine.execXStl ln core ty r a indexed off s
  | .xAdd ln core ty d a b => Sys2Proof.Machine.execXAdd ln core ty d a b s
  | .xSub ln core ty d a b => Sys2Proof.Machine.execXSub ln core ty d a b s
  | .xMul ln core ty d a b => Sys2Proof.Machine.execXMul ln core ty d a b s
  | .xDiv ln core ty d a b => Sys2Proof.Machine.execXDiv ln core ty d a b s
  | .xRem ln core ty d a b => Sys2Proof.Machine.execXRem ln core ty d a b s
  | .xNeg ln core ty d a => Sys2Proof.Machine.execXNeg ln core ty d a s
  | .xAbs ln core ty d a => Sys2Proof.Machine.execXAbs ln core ty d a s
  | .xMin ln core ty d a b => Sys2Proof.Machine.execXMin ln core ty d a b s
  | .xMax ln core ty d a b => Sys2Proof.Machine.execXMax ln core ty d a b s
  | .xAdds ln core ty d a b => Sys2Proof.Machine.execXAdds ln core ty d a b s
  | .xSubs ln core ty d a b => Sys2Proof.Machine.execXSubs ln core ty d a b s
  | .xSqrt ln core ty d a => Sys2Proof.Machine.execXSqrt ln core ty d a s
  | .xAddi ln core ty d a imm => Sys2Proof.Machine.execXAddi ln core ty d a imm s
  | .xRint ln core ty d a => Sys2Proof.Machine.execXRint ln core ty d a s
  | .xLimit ln core ty d a b => Sys2Proof.Machine.execXLimit ln core ty d a b s
  | .xAnd ln core ty d a b => Sys2Proof.Machine.execXAnd ln core ty d a b s
  | .xOr ln core ty d a b => Sys2Proof.Machine.execXOr ln core ty d a b s
  | .xXor ln core ty d a b => Sys2Proof.Machine.execXXor ln core ty d a b s
  | .xNot ln core ty d a => Sys2Proof.Machine.execXNot ln core ty d a s
  | .xShl ln core ty d a b => Sys2Proof.Machine.execXShl ln core ty d a b s
  | .xShr ln core ty d a b => Sys2Proof.Machine.execXShr ln core ty d a b s
  | .xShli ln core ty d a imm => Sys2Proof.Machine.execXShli ln core ty d a imm s
  | .xShri ln core ty d a imm => Sys2Proof.Machine.execXShri ln core ty d a imm s
  | .xRol ln core ty d a b => Sys2Proof.Machine.execXRol ln core ty d a b s
  | .xRor ln core ty d a b => Sys2Proof.Machine.execXRor ln core ty d a b s
  | .xGetb ln core ty d a imm => Sys2Proof.Machine.execXGetb ln core ty d a imm s
  | .xSetb ln core ty d a imm => Sys2Proof.Machine.execXSetb ln core ty d a imm s
  | .xClrb ln core ty d a imm => Sys2Proof.Machine.execXClrb ln core ty d a imm s
  | .xEq ln core ty d a b => Sys2Proof.Machine.execXEq ln core ty d a b s
  | .xNe ln core ty d a b => Sys2Proof.Machine.execXNe ln core ty d a b s
  | .xLt ln core ty d a b => Sys2Proof.Machine.execXLt ln core ty d a b s
  | .xLe ln core ty d a b => Sys2Proof.Machine.execXLe ln core ty d a b s
  | .xGt ln core ty d a b => Sys2Proof.Machine.execXGt ln core ty d a b s
  | .xGe ln core ty d a b => Sys2Proof.Machine.execXGe ln core ty d a b s
  | .xIsnan ln core ty d a => Sys2Proof.Machine.execXIsnan ln core ty d a s
  | .xJmp ln core off => Sys2Proof.Machine.execXJmp ln core off s
  | .xBrt ln core a off => Sys2Proof.Machine.execXBrt ln core a off s
  | .xBrf ln core a off => Sys2Proof.Machine.execXBrf ln core a off s
  | .xLoop ln core a off bound => Sys2Proof.Machine.execXLoop ln core a off bound s
  | .loopBound ln core off bound => Sys2Proof.Machine.execLoopBound ln core off bound s
  | .xCall ln core fn => Sys2Proof.Machine.execXCall ln core fn s
  | .xRet ln core => Sys2Proof.Machine.execXRet ln core s
  | .xEnd ln core => Sys2Proof.Machine.execXEnd ln core s
  | .xHalt ln core imm => Sys2Proof.Machine.execXHalt ln core imm s
  | .xTon ln core d a b inst => Sys2Proof.Machine.execXTon ln core d a b inst s
  | .xTof ln core d a b inst => Sys2Proof.Machine.execXTof ln core d a b inst s
  | .xTp ln core d a b inst => Sys2Proof.Machine.execXTp ln core d a b inst s
  | .xCtu ln core d a b c inst => Sys2Proof.Machine.execXCtu ln core d a b c inst s
  | .xCtd ln core d a b c inst => Sys2Proof.Machine.execXCtd ln core d a b c inst s
  | .xCtud ln core d a b c inst => Sys2Proof.Machine.execXCtud ln core d a b c inst s
  | .xRTrig ln core d a inst => Sys2Proof.Machine.execXRTrig ln core d a inst s
  | .xFTrig ln core d a inst => Sys2Proof.Machine.execXFTrig ln core d a inst s
  | .xNop ln core => Sys2Proof.Machine.execXNop ln core s
  | .xSteps ln core d => Sys2Proof.Machine.execXSteps ln core d s
  | .xPeriod ln core d => Sys2Proof.Machine.execXPeriod ln core d s
  | .stepBudget ln core steps => Sys2Proof.Machine.execStepBudget ln core steps s
  | .tallyMessage t ln core task cyc tally crcOk => Sys2Proof.Machine.execTallyMessage t ln core task cyc tally crcOk s
  | .voteDeadline t agree selfTestOk => Sys2Proof.Machine.execVoteDeadline t agree selfTestOk s
  | .verdictTimeout t => Sys2Proof.Machine.execVerdictTimeout t s
  | .holdVote t core task => Sys2Proof.Machine.execHoldVote t core task s
  | .pour t recv => Sys2Proof.Machine.execPour t recv s
  | .pourWindowEnd t => Sys2Proof.Machine.execPourWindowEnd t s
  | .pourLate t => Sys2Proof.Machine.execPourLate t s
  | .laneEccError t ln => Sys2Proof.Machine.execLaneEccError t ln s
  | .laneTrap t ln => Sys2Proof.Machine.execLaneTrap t ln s
  | .laneResetComplete t ln native => Sys2Proof.Machine.execLaneResetComplete t ln native s
  | .reintegrationCopyComplete t ln intact => Sys2Proof.Machine.execReintegrationCopyComplete t ln intact s
  | .reintegrationTimeout t ln => Sys2Proof.Machine.execReintegrationTimeout t ln s
  | .laneRejoin t ln => Sys2Proof.Machine.execLaneRejoin t ln s
  | .laneCommand t via v => Sys2Proof.Machine.execLaneCommand t via v s
  | .staggerWrite t via v => Sys2Proof.Machine.execStaggerWrite t via v s
  | .placementRequest t via v => Sys2Proof.Machine.execPlacementRequest t via v s
  | .placementMove t => Sys2Proof.Machine.execPlacementMove t s
  | .placementResume t => Sys2Proof.Machine.execPlacementResume t s
  | .fallbackMove t task => Sys2Proof.Machine.execFallbackMove t task s
  | .debugAttach t via => Sys2Proof.Machine.execDebugAttach t via s
  | .debugBreakpoint t pc => Sys2Proof.Machine.execDebugBreakpoint t pc s
  | .debugRun t => Sys2Proof.Machine.execDebugRun t s
  | .debugStep t n => Sys2Proof.Machine.execDebugStep t n s
  | .debugWriteVariable t core w => Sys2Proof.Machine.execDebugWriteVariable t core w s
  | .breakpointHit t pc => Sys2Proof.Machine.execBreakpointHit t pc s
  | .taskRestart t via task v => Sys2Proof.Machine.execTaskRestart t via task v s
  | .retainedSnapshot t => Sys2Proof.Machine.execRetainedSnapshot t s
  | .cmdRun t via => Sys2Proof.Machine.execCmdRun t via s
  | .cmdStop t via => Sys2Proof.Machine.execCmdStop t via s
  | .cmdHold t via => Sys2Proof.Machine.execCmdHold t via s
  | .cmdResume t via => Sys2Proof.Machine.execCmdResume t via s
  | .cmdRestart t via => Sys2Proof.Machine.execCmdRestart t via s
  | .cmdExchange t via => Sys2Proof.Machine.execCmdExchange t via s
  | .modeChange t => Sys2Proof.Machine.execModeChange t s
  | .warmRestartBoot t => Sys2Proof.Machine.execWarmRestartBoot t s
  | .warmRestartComplete t => Sys2Proof.Machine.execWarmRestartComplete t s
  | .warmRestartTimeout t => Sys2Proof.Machine.execWarmRestartTimeout t s
  | .forceKindWrite t via n v => Sys2Proof.Machine.execForceKindWrite t via n v s
  | .forceTargetWrite t via n v => Sys2Proof.Machine.execForceTargetWrite t via n v s
  | .forceValueWrite t via n v => Sys2Proof.Machine.execForceValueWrite t via n v s
  | .forceActivate t via n => Sys2Proof.Machine.execForceActivate t via n s
  | .forceRemove t via n => Sys2Proof.Machine.execForceRemove t via n s
  | .forceBoundary t n => Sys2Proof.Machine.execForceBoundary t n s
  | .csApply t via => Sys2Proof.Machine.execCsApply t via s
  | .csDiscard t via => Sys2Proof.Machine.execCsDiscard t via s
  | .changeSetEffect t badLanes => Sys2Proof.Machine.execChangeSetEffect t badLanes s
  | .mapWrite t via map => Sys2Proof.Machine.execMapWrite t via map s
  | .mapConfirm t via digest => Sys2Proof.Machine.execMapConfirm t via digest s
  | .mapExpiry t => Sys2Proof.Machine.execMapExpiry t s
  | .mapCopiesWritten t => Sys2Proof.Machine.execMapCopiesWritten t s
  | .mapPeriodicCheck t work copyA copyB => Sys2Proof.Machine.execMapPeriodicCheck t work copyA copyB s
  | .boundaryStrobe t ticks => Sys2Proof.Machine.execBoundaryStrobe t ticks s
  | .requestFrame t bits => Sys2Proof.Machine.execRequestFrame t bits s
  | .requestLinkTimeout t => Sys2Proof.Machine.execRequestLinkTimeout t s
  | .fabricLinkFrame t frames => Sys2Proof.Machine.execFabricLinkFrame t frames s
  | .fabricLinkTimeout t g => Sys2Proof.Machine.execFabricLinkTimeout t g s
  | .discrepancyTimeout t k => Sys2Proof.Machine.execDiscrepancyTimeout t k s
  | .restoreDelayExpiry t k => Sys2Proof.Machine.execRestoreDelayExpiry t k s
  | .dsdWarning t k => Sys2Proof.Machine.execDsdWarning t k s
  | .vigilanceTrip t k => Sys2Proof.Machine.execVigilanceTrip t k s
  | .testPulse t ch => Sys2Proof.Machine.execTestPulse t ch s
  | .testPulseEnd t ch => Sys2Proof.Machine.execTestPulseEnd t ch s
  | .readbackTimeout t ch => Sys2Proof.Machine.execReadbackTimeout t ch s
  | .ackPulse t key rise1 rise2 fall1 fall2 => Sys2Proof.Machine.execAckPulse t key rise1 rise2 fall1 fall2 s
  | .restartPulse t k rise1 rise2 fall1 fall2 => Sys2Proof.Machine.execRestartPulse t k rise1 rise2 fall1 fall2 s
  | .dualRailFault t => Sys2Proof.Machine.execDualRailFault t s
  | .fabricMemoryFault t => Sys2Proof.Machine.execFabricMemoryFault t s
  | .sample t g x => Sys2Proof.Machine.execSample t g x s
  | .stateFrame t g bytes => Sys2Proof.Machine.execStateFrame t g bytes s
  | .edgeFrame t g bytes => Sys2Proof.Machine.execEdgeFrame t g bytes s
  | .outputFrame t g bytes => Sys2Proof.Machine.execOutputFrame t g bytes s
  | .driveFrame t g bytes => Sys2Proof.Machine.execDriveFrame t g bytes s
  | .applyInstant t g => Sys2Proof.Machine.execApplyInstant t g s
  | .configWrite t g w => Sys2Proof.Machine.execConfigWrite t g w s
  | .configAck t g ok => Sys2Proof.Machine.execConfigAck t g ok s
  | .functionWrite t via ch v => Sys2Proof.Machine.execFunctionWrite t via ch v s
  | .bankEntryWrite t via bankB ch entry => Sys2Proof.Machine.execBankEntryWrite t via bankB ch entry s
  | .alignmentWrite t via g v => Sys2Proof.Machine.execAlignmentWrite t via g v s
  | .bankSwapRequest t via groups => Sys2Proof.Machine.execBankSwapRequest t via groups s
  | .bankSwap t => Sys2Proof.Machine.execBankSwap t s
  | .maxOn t ch => Sys2Proof.Machine.execMaxOn t ch s
  | .chatterWindow t ch => Sys2Proof.Machine.execChatterWindow t ch s
  | .overcurrentTrip t ch => Sys2Proof.Machine.execOvercurrentTrip t ch s
  | .shortCircuit t ch => Sys2Proof.Machine.execShortCircuit t ch s
  | .demagOver t ch energy => Sys2Proof.Machine.execDemagOver t ch energy s
  | .demagHoldExpiry t ch => Sys2Proof.Machine.execDemagHoldExpiry t ch s
  | .switchOnResumed t g => Sys2Proof.Machine.execSwitchOnResumed t g s
  | .openLoad t ch => Sys2Proof.Machine.execOpenLoad t ch s
  | .switchStuck t ch => Sys2Proof.Machine.execSwitchStuck t ch s
  | .groupOutputSilent t g => Sys2Proof.Machine.execGroupOutputSilent t g s
  | .keepaliveLoss t g => Sys2Proof.Machine.execKeepaliveLoss t g s
  | .groupConverterFail t g => Sys2Proof.Machine.execGroupConverterFail t g s
  | .safeStateWrite t via ch v => Sys2Proof.Machine.execSafeStateWrite t via ch v s
  | .deratingWrite t via g v => Sys2Proof.Machine.execDeratingWrite t via g v s
  | .tripThresholdWrite t via ch v => Sys2Proof.Machine.execTripThresholdWrite t via ch v s
  | .frameReceived t p f => Sys2Proof.Machine.execFrameReceived t p f s
  | .frameTransmit t p => Sys2Proof.Machine.execFrameTransmit t p s
  | .guardianCut t p => Sys2Proof.Machine.execGuardianCut t p s
  | .macAgeOut t mac => Sys2Proof.Machine.execMacAgeOut t mac s
  | .linkDown t p => Sys2Proof.Machine.execLinkDown t p s
  | .linkUp t p speed => Sys2Proof.Machine.execLinkUp t p speed s
  | .supervisionFrameSend t pair => Sys2Proof.Machine.execSupervisionFrameSend t pair s
  | .redundancyDegraded t p => Sys2Proof.Machine.execRedundancyDegraded t p s
  | .beaconSend t => Sys2Proof.Machine.execBeaconSend t s
  | .beaconReceived t p payload => Sys2Proof.Machine.execBeaconReceived t p payload s
  | .beaconTimeout t => Sys2Proof.Machine.execBeaconTimeout t s
  | .guardianTableCheck t readBack => Sys2Proof.Machine.execGuardianTableCheck t readBack s
  | .guardianCounterFault t p value elapsed => Sys2Proof.Machine.execGuardianCounterFault t p value elapsed s
  | .ptpSync t slot offset => Sys2Proof.Machine.execPtpSync t slot offset s
  | .followUp t p seqId srcPort correction => Sys2Proof.Machine.execFollowUp t p seqId srcPort correction s
  | .ptpAnnounce t slot p a => Sys2Proof.Machine.execPtpAnnounce t slot p a s
  | .ptpDelayMessage t slot p m delay => Sys2Proof.Machine.execPtpDelayMessage t slot p m delay s
  | .ptpManagement t slot p get dataSet => Sys2Proof.Machine.execPtpManagement t slot p get dataSet s
  | .ptpSyncSend t slot p => Sys2Proof.Machine.execPtpSyncSend t slot p s
  | .announceTimeout t slot => Sys2Proof.Machine.execAnnounceTimeout t slot s
  | .syncSilence t slot => Sys2Proof.Machine.execSyncSilence t slot s
  | .domainPreference t => Sys2Proof.Machine.execDomainPreference t s
  | .holdoverExhausted t => Sys2Proof.Machine.execHoldoverExhausted t s
  | .referenceMoved t => Sys2Proof.Machine.execReferenceMoved t s
  | .slewComplete t => Sys2Proof.Machine.execSlewComplete t s
  | .rebase t via => Sys2Proof.Machine.execRebase t via s
  | .servoModeWrite t via v => Sys2Proof.Machine.execServoModeWrite t via v s
  | .servoUpdateTimeout t => Sys2Proof.Machine.execServoUpdateTimeout t s
  | .pdReceived t p => Sys2Proof.Machine.execPdReceived t p s
  | .pdSend t pub => Sys2Proof.Machine.execPdSend t pub s
  | .mdNotification t m => Sys2Proof.Machine.execMdNotification t m s
  | .mdRequest t m => Sys2Proof.Machine.execMdRequest t m s
  | .mdReply t m => Sys2Proof.Machine.execMdReply t m s
  | .mdReplyQuery t m => Sys2Proof.Machine.execMdReplyQuery t m s
  | .mdConfirm t m => Sys2Proof.Machine.execMdConfirm t m s
  | .mdError t m => Sys2Proof.Machine.execMdError t m s
  | .mdTimeout t session => Sys2Proof.Machine.execMdTimeout t session s
  | .mvbMasterFrame t fcode address => Sys2Proof.Machine.execMvbMasterFrame t fcode address s
  | .mvbSlaveFrame t lineB address data => Sys2Proof.Machine.execMvbSlaveFrame t lineB address data s
  | .mvbDeviceStatus t address => Sys2Proof.Machine.execMvbDeviceStatus t address s
  | .mvbForeignMaster t => Sys2Proof.Machine.execMvbForeignMaster t s
  | .mvbLineFault t lineB => Sys2Proof.Machine.execMvbLineFault t lineB s
  | .canRpdo t bus f => Sys2Proof.Machine.execCanRpdo t bus f s
  | .canSyncReceived t bus => Sys2Proof.Machine.execCanSyncReceived t bus s
  | .canHeartbeatSend t bus => Sys2Proof.Machine.execCanHeartbeatSend t bus s
  | .canHeartbeatLost t bus node => Sys2Proof.Machine.execCanHeartbeatLost t bus node s
  | .tpdoWithdraw t bus unsent => Sys2Proof.Machine.execTpdoWithdraw t bus unsent s
  | .canErrorPassive t bus => Sys2Proof.Machine.execCanErrorPassive t bus s
  | .canBusOff t bus => Sys2Proof.Machine.execCanBusOff t bus s
  | .canBusOffRecovery t bus => Sys2Proof.Machine.execCanBusOffRecovery t bus s
  | .sdoUploadInitiate t bus index sub => Sys2Proof.Machine.execSdoUploadInitiate t bus index sub s
  | .sdoDownloadInitiate t bus index sub total data => Sys2Proof.Machine.execSdoDownloadInitiate t bus index sub total data s
  | .sdoSegment t bus toggle last data => Sys2Proof.Machine.execSdoSegment t bus toggle last data s
  | .sdoBlockTransfer t bus seqno last data => Sys2Proof.Machine.execSdoBlockTransfer t bus seqno last data s
  | .sdoSegmentTimeout t bus => Sys2Proof.Machine.execSdoSegmentTimeout t bus s
  | .linkReplay t ln toLane => Sys2Proof.Machine.execLinkReplay t ln toLane s
  | .directRead t ln core addr size => Sys2Proof.Machine.execDirectRead t ln core addr size s
  | .directPostedWrite t ln core addr data => Sys2Proof.Machine.execDirectPostedWrite t ln core addr data s
  | .directNonpostedWrite t ln core addr data => Sys2Proof.Machine.execDirectNonpostedWrite t ln core addr data s
  | .exclusiveRead t who addr size => Sys2Proof.Machine.execExclusiveRead t who addr size s
  | .exclusiveWrite t who addr data => Sys2Proof.Machine.execExclusiveWrite t who addr data s
  | .eventQueuePop t ln core => Sys2Proof.Machine.execEventQueuePop t ln core s
  | .directCompletion t ln core c => Sys2Proof.Machine.execDirectCompletion t ln core c s
  | .bridgeTimeout t ln core => Sys2Proof.Machine.execBridgeTimeout t ln core s
  | .semaphoreBreak t granule => Sys2Proof.Machine.execSemaphoreBreak t granule s
  | .lateError t ln core window addr size cause => Sys2Proof.Machine.execLateError t ln core window addr size cause s
  | .eventPoll t => Sys2Proof.Machine.execEventPoll t s
  | .dmaDoorbell t ring owner => Sys2Proof.Machine.execDmaDoorbell t ring owner s
  | .dmaAbort t ring owner => Sys2Proof.Machine.execDmaAbort t ring owner s
  | .dmaDescriptorDone t ring => Sys2Proof.Machine.execDmaDescriptorDone t ring s
  | .chainLimit t ring => Sys2Proof.Machine.execChainLimit t ring s
  | .dmaBusError t moved => Sys2Proof.Machine.execDmaBusError t moved s
  | .dmaRestart t => Sys2Proof.Machine.execDmaRestart t s
  | .dmaEngineRestart t via => Sys2Proof.Machine.execDmaEngineRestart t via s
  | .heartbeatSend t => Sys2Proof.Machine.execHeartbeatSend t s
  | .siphonHeartbeat t f => Sys2Proof.Machine.execSiphonHeartbeat t f s
  | .partnerLost t => Sys2Proof.Machine.execPartnerLost t s
  | .siphonImage t f => Sys2Proof.Machine.execSiphonImage t f s
  | .forwardImageLate t => Sys2Proof.Machine.execForwardImageLate t s
  | .siphonDelta t f => Sys2Proof.Machine.execSiphonDelta t f s
  | .deltaDeadline t => Sys2Proof.Machine.execDeltaDeadline t s
  | .siphonState t f m => Sys2Proof.Machine.execSiphonState t f m s
  | .siphonResync t f => Sys2Proof.Machine.execSiphonResync t f s
  | .siphonControl t f m => Sys2Proof.Machine.execSiphonControl t f m s
  | .renewSend t => Sys2Proof.Machine.execRenewSend t s
  | .refereeConfirm t m => Sys2Proof.Machine.execRefereeConfirm t m s
  | .refereeGrant t m => Sys2Proof.Machine.execRefereeGrant t m s
  | .refereeRevoke t m => Sys2Proof.Machine.execRefereeRevoke t m s
  | .refereeRefuse t m => Sys2Proof.Machine.execRefereeRefuse t m s
  | .leaseExpiry t => Sys2Proof.Machine.execLeaseExpiry t s
  | .refereeSilent t => Sys2Proof.Machine.execRefereeSilent t s
  | .handOver t via => Sys2Proof.Machine.execHandOver t via s
  | .pairJoin t via => Sys2Proof.Machine.execPairJoin t via s
  | .exchangeAbort t via => Sys2Proof.Machine.execExchangeAbort t via s
  | .handoverSend t => Sys2Proof.Machine.execHandoverSend t s
  | .handoverDrive t => Sys2Proof.Machine.execHandoverDrive t s
  | .handoverDone t => Sys2Proof.Machine.execHandoverDone t s
  | .reversion t => Sys2Proof.Machine.execReversion t s
  | .resyncComplete t => Sys2Proof.Machine.execResyncComplete t s
  | .resyncTimeout t => Sys2Proof.Machine.execResyncTimeout t s
  | .shadowPeriodExpiry t => Sys2Proof.Machine.execShadowPeriodExpiry t s
  | .ledFallback t => Sys2Proof.Machine.execLedFallback t s
  | .abOpen t port addr clientId level nonce => Sys2Proof.Machine.execAbOpen t port addr clientId level nonce s
  | .abAuth t via => Sys2Proof.Machine.execAbAuth t via s
  | .abClose t via => Sys2Proof.Machine.execAbClose t via s
  | .abKeepalive t via => Sys2Proof.Machine.execAbKeepalive t via s
  | .abRead t via index sub => Sys2Proof.Machine.execAbRead t via index sub s
  | .abWrite t via index sub ty data => Sys2Proof.Machine.execAbWrite t via index sub ty data s
  | .abReadSegment t via index sub offset length => Sys2Proof.Machine.execAbReadSegment t via index sub offset length s
  | .abWriteSegment t via index sub offset total more data => Sys2Proof.Machine.execAbWriteSegment t via index sub offset total more data s
  | .abBulkRead t via index sub offset length => Sys2Proof.Machine.execAbBulkRead t via index sub offset length s
  | .abReadSignal t via entry => Sys2Proof.Machine.execAbReadSignal t via entry s
  | .abWriteSignal t via entry ty data => Sys2Proof.Machine.execAbWriteSignal t via entry ty data s
  | .abEvents t via fromSeq => Sys2Proof.Machine.execAbEvents t via fromSeq s
  | .sessionOpenTimeout t n => Sys2Proof.Machine.execSessionOpenTimeout t n s
  | .idleTimeout t n => Sys2Proof.Machine.execIdleTimeout t n s
  | .boundaryWrite t index sub => Sys2Proof.Machine.execBoundaryWrite t index sub s
  | .keyWrite t via level key => Sys2Proof.Machine.execKeyWrite t via level key s
  | .restoreDefaults t via => Sys2Proof.Machine.execRestoreDefaults t via s
  | .recorderMeasurement t code item value => Sys2Proof.Machine.execRecorderMeasurement t code item value s
  | .recordWrite t region n => Sys2Proof.Machine.execRecordWrite t region n s
  | .recorderFault t => Sys2Proof.Machine.execRecorderFault t s
  | .codeMapWrite t via map => Sys2Proof.Machine.execCodeMapWrite t via map s
  | .updBegin t via => Sys2Proof.Machine.execUpdBegin t via s
  | .updBlock t via offset length crc data => Sys2Proof.Machine.execUpdBlock t via offset length crc data s
  | .updVerify t via => Sys2Proof.Machine.execUpdVerify t via s
  | .updVerifyComplete t badLanes commonsOk => Sys2Proof.Machine.execUpdVerifyComplete t badLanes commonsOk s
  | .updActivate t via => Sys2Proof.Machine.execUpdActivate t via s
  | .updAbort t via => Sys2Proof.Machine.execUpdAbort t via s
  | .trialFallback t => Sys2Proof.Machine.execTrialFallback t s
  | .fabricReserveExhausted t => Sys2Proof.Machine.execFabricReserveExhausted t s
  | .pumpedRailAtHoldLevel t g => Sys2Proof.Machine.execPumpedRailAtHoldLevel t g s
  | .counterCauseCleared t => Sys2Proof.Machine.execCounterCauseCleared t s
  | .delayReqSend t slot p => Sys2Proof.Machine.execDelayReqSend t slot p s
  | .announceSend t slot p => Sys2Proof.Machine.execAnnounceSend t slot p s
  | .consumerHeartbeatReceived t bus node => Sys2Proof.Machine.execConsumerHeartbeatReceived t bus node s
  | .cisternEccError t => Sys2Proof.Machine.execCisternEccError t s

end Sys2Proof.Machine
end

