-- ==== Sys2Proof/Safety.lean ====
section
/-! DEFINITION. What counts as a sound state of the block: what every command is to keep. -/

namespace Sys2Proof.Machine

/-- The entries carry consecutive SEQ values, the last one just below `next` (R397: SEQ counts every entry). -/
def seqsBefore (next : BitVec 32) : List Event → Prop
  | [] => True
  | e :: r => e.seq + BitVec.ofNat 32 (r.length + 1) = next ∧ seqsBefore next r

structure EventQ.ok (q : EventQ) : Prop where
  /-- An event queue as R397 has it: it holds at most 512 entries, and SEQ rises by one from each entry to the next. -/
  room : q.entries.length ≤ 512
  seqs : seqsBefore q.nextSeq q.entries

/-- The eight groups, each with its sixteen channels (R8, R185). -/
def groupsOk (l : List Group) : Prop := l.length = 8 ∧ ∀ q ∈ l, q.chans.length = 16

structure State.Shaped (s : State) : Prop where
  /-- Every part that the spec numbers is there: 16 tasks (R86), 16 safety function instances (R157), 8 groups of 16
  channels, switch ports 1 to 10 (R235, number 0 unused), 64 DMA rings (R332), Abacus sessions 1 to 8 (R384, number 0
  unused). -/
  tasks : s.ctl.tasks.length = 16
  insts : s.fab.insts.length = 16
  groups : groupsOk s.fio.groups
  ports : s.sw.ports.length = 11
  rings : s.bri.rings.length = 64
  sessions : s.od.sessions.length = 9

structure State.Sound (s : State) : Prop where
  /-- A sound state: its event queue is as R397 has it, the Cistern Commons are in their one canonical form
  (assumption 3), and every numbered part is there. -/
  events : s.evq.ok
  memory : Memory.wf s.cis.mem = true
  shape : s.Shaped

structure State.CanRun (s : State) (ln : Lane) (c : Fin 4) (steps : Nat) (r : Release) (x : XCtx) : Prop where
  /-- The release `r` runs on a lane core with the declarations `x`, its step budget leaves room for an instruction of
  `steps` steps (R88), and no debugger holds it (R66). -/
  running : s.running ln c = some r
  app : s.app = some x.app
  task : s.taskDef r.task = some x.td
  tb : x.tb = s.tb
  budget : r.steps + steps ≤ x.td.stepBudget
  free : ¬(s.ctl.mode = .hold ∧ s.ctl.debugger = true)

/-- A release that has gone past an instruction of `words` words and `steps` steps (R96, R104, R105). -/
def Release.past (r : Release) (words steps : Nat) : Release :=
  { r with steps := r.steps + steps, pc := r.pc + words, loops := enterWord r.pc (r.pc + words) r.loops }

/-- A command completes, and its next state has a property. -/
def Gives (o : Out) (p : State → Prop) : Prop := ∃ t, o = .next t ∧ p t

/-- The parts of a state, as the frames name them: the module time and the rest of the time base; the module mode and the
rest of the module's control state; the lanes; the Reckoner; the bytes of the Cistern Commons and what else the
Cistern holds; the fabric; the field groups; the switch; the telegram engines; the other Commons memories and what else
the bridge and its DMA hold; the pair; the object dictionary; the update function; the event queue with the lifetime
recorder; and the model's own two, what has been sent (assumption 6) and the index of free values (assumption 4). -/
inductive Part where
  | now | time | mode | ctl | lanes | rek | mem | cis | fab | fio | sw | tel | dma | bri | pair | od | upd | records | sent | free
deriving DecidableEq, Repr

/-- Two states agree on a part. -/
def Part.same (s t : State) : Part → Prop
  | .now => s.time.now = t.time.now
  | .time => { s.time with now := 0 } = { t.time with now := 0 }
  | .mode => s.ctl.mode = t.ctl.mode
  | .ctl => { s.ctl with mode := .off } = { t.ctl with mode := .off }
  | .lanes => s.lanA = t.lanA ∧ s.lanB = t.lanB ∧ s.lanC = t.lanC
  | .rek => s.rek = t.rek
  | .mem => s.cis.mem = t.cis.mem
  | .cis => { s.cis with mem := [] } = { t.cis with mem := [] }
  | .fab => s.fab = t.fab
  | .fio => s.fio = t.fio
  | .sw => s.sw = t.sw
  | .tel => s.tel = t.tel
  | .dma => s.bri.mem = t.bri.mem
  | .bri => { s.bri with mem := [] } = { t.bri with mem := [] }
  | .pair => s.pair = t.pair
  | .od => s.od = t.od
  | .upd => s.upd = t.upd
  | .records => s.evq = t.evq ∧ s.rcd = t.rcd
  | .sent => s.sent = t.sent
  | .free => s.freeCount = t.freeCount

/-- Only the parts listed differ: every other part of `t` is as in `s`, and so are the queue, the serial number and the
hardware issue. -/
def Only (l : List Part) (s t : State) : Prop :=
  (∀ p, l.contains p = false → p.same s t) ∧ t.pending = s.pending ∧ t.serial = s.serial ∧ t.issue = s.issue

/-- The parts that a command may touch: no command changes anything else. -/
def touches : Instr → List Part
  | .supplyOn .. | .fabricReserveExhausted ..
    => [.now, .time, .mode, .ctl, .lanes, .rek, .mem, .cis, .fab, .fio, .sw, .tel, .dma, .bri, .pair, .od, .upd, .records]
  | .stage0Complete .. => [.now, .mode, .ctl, .lanes, .rek, .cis, .fab, .fio, .tel, .pair, .upd, .records, .sent]
  | .stage1Complete .. => [.now, .time, .ctl, .fio, .pair, .od, .records, .sent, .free]
  | .translationComplete ..
    => [.now, .ctl, .lanes, .rek, .mem, .cis, .fab, .tel, .dma, .bri, .pair, .upd, .records, .sent, .free]
  | .stage2Complete .. | .pour .. | .siphonHeartbeat ..
    => [.now, .mode, .ctl, .lanes, .rek, .mem, .cis, .fab, .tel, .pair, .records, .sent]
  | .stage3Complete .. => [.now, .time, .mode, .ctl, .fab, .sw, .tel, .bri, .od, .records]
  | .pairNegotiation ..
    => [.now, .time, .ctl, .lanes, .rek, .mem, .cis, .fab, .sw, .tel, .bri, .pair, .od, .records, .sent]
  | .stageTimeout .. | .verdictTimeout .. | .mapPeriodicCheck .. | .dualRailFault .. | .fabricMemoryFault ..
    => [.now, .mode, .ctl, .lanes, .rek, .cis, .fab, .fio, .tel, .pair, .records, .sent]
  | .supplyInterruption .. => [.now, .ctl, .upd]
  | .storeExhausted .. | .debugBreakpoint .. | .debugRun .. | .debugStep .. | .breakpointHit .. | .ledFallback ..
    => [.now, .ctl]
  | .supplyReturn .. | .cycleBoundary ..
    => [.now, .time, .mode, .ctl, .lanes, .rek, .mem, .cis, .fab, .fio, .sw, .tel, .dma, .bri, .pair, .od, .upd, .records, .sent]
  | .supplyMeasurement .. | .placementResume .. | .fallbackMove .. | .forceBoundary .. => [.now, .ctl, .records]
  | .imageSealed .. => [.now, .ctl, .lanes, .rek, .fio, .tel, .bri, .pair, .records, .sent]
  | .imageLate .. | .pourLate .. | .warmRestartTimeout .. | .cisternEccError ..
    => [.now, .mode, .ctl, .lanes, .rek, .cis, .fab, .tel, .pair, .records, .sent]
  | .groupLinkTimeout .. | .stateFrame .. | .applyInstant .. | .configWrite .. | .bankSwap .. | .maxOn ..
  | .chatterWindow .. | .overcurrentTrip .. | .shortCircuit .. | .demagOver .. | .switchOnResumed .. | .openLoad ..
  | .switchStuck .. | .groupOutputSilent .. => [.now, .fio, .records]
  | .releaseToken .. | .laneEccError .. | .laneTrap .. => [.now, .lanes]
  | .laneDrink .. => [.now, .ctl, .lanes, .tel, .records]
  | .tokenTimeout .. | .laneResetComplete .. => [.now, .ctl, .lanes]
  | .xMov .. | .xLdi .. | .xCvt .. | .xSel .. | .xLd .. | .xSt .. | .xStl .. | .xAdd .. | .xSub .. | .xMul ..
  | .xDiv .. | .xRem .. | .xNeg .. | .xAbs .. | .xMin .. | .xMax .. | .xAdds .. | .xSubs .. | .xSqrt .. | .xAddi ..
  | .xRint .. | .xLimit .. | .xAnd .. | .xOr .. | .xXor .. | .xNot .. | .xShl .. | .xShr .. | .xShli .. | .xShri ..
  | .xRol .. | .xRor .. | .xGetb .. | .xSetb .. | .xClrb .. | .xEq .. | .xNe .. | .xLt .. | .xLe .. | .xGt ..
  | .xGe .. | .xIsnan .. | .xJmp .. | .xBrt .. | .xBrf .. | .xLoop .. | .loopBound .. | .xCall .. | .xRet ..
  | .xEnd .. | .xHalt .. | .xTon .. | .xTof .. | .xTp .. | .xCtu .. | .xCtd .. | .xCtud .. | .xRTrig ..
  | .xFTrig .. | .xNop .. | .xSteps .. | .xPeriod .. => [.ctl, .lanes, .rek, .tel, .sent]
  | .stepBudget .. => [.lanes, .rek]
  | .tallyMessage .. => [.now, .rek]
  | .voteDeadline .. | .holdVote ..
    => [.now, .mode, .ctl, .lanes, .rek, .mem, .cis, .fab, .fio, .tel, .dma, .bri, .pair, .records, .sent, .free]
  | .pourWindowEnd ..
    => [.now, .mode, .ctl, .lanes, .rek, .mem, .cis, .fab, .tel, .dma, .bri, .pair, .records, .sent, .free]
  | .reintegrationCopyComplete .. | .reintegrationTimeout .. | .changeSetEffect ..
    => [.now, .ctl, .lanes, .rek, .mem, .dma, .bri, .records, .sent, .free]
  | .laneRejoin .. => [.now, .ctl, .lanes, .records]
  | .laneCommand .. => [.now, .lanes, .od, .records, .sent]
  | .staggerWrite .. | .placementRequest .. | .debugAttach .. | .taskRestart .. | .cmdRun .. | .cmdStop ..
  | .cmdHold .. | .cmdResume .. | .cmdRestart .. | .cmdExchange .. | .handOver .. | .pairJoin ..
  | .exchangeAbort .. => [.now, .ctl, .od, .records, .sent]
  | .placementMove .. | .debugWriteVariable .. => [.now, .ctl, .lanes, .rek]
  | .retainedSnapshot .. => [.now, .cis]
  | .modeChange .. => [.now, .mode, .ctl, .lanes, .rek, .mem, .cis, .fab, .tel, .bri, .pair, .upd, .records, .sent]
  | .warmRestartBoot .. => [.now, .time, .mode, .ctl, .lanes, .fab, .tel, .pair, .od, .records, .sent]
  | .warmRestartComplete .. => [.now, .mode, .ctl, .lanes, .fab, .tel, .bri, .upd, .records, .sent]
  | .forceKindWrite .. | .forceTargetWrite .. | .forceValueWrite .. | .forceActivate .. | .forceRemove ..
    => [.now, .ctl, .pair, .od, .records, .sent]
  | .csApply .. | .csDiscard .. => [.now, .ctl, .lanes, .pair, .od, .records, .sent]
  | .mapWrite .. | .mapConfirm .. => [.now, .fab, .od, .records, .sent]
  | .mapExpiry .. => [.now, .fab, .records]
  | .mapCopiesWritten .. | .fabricLinkFrame .. | .fabricLinkTimeout .. | .discrepancyTimeout ..
  | .restoreDelayExpiry .. | .dsdWarning .. | .vigilanceTrip .. | .testPulseEnd .. | .readbackTimeout ..
  | .ackPulse .. | .restartPulse .. => [.now, .fab, .fio, .pair, .records, .sent]
  | .boundaryStrobe .. => [.now, .time, .mode, .ctl, .lanes, .rek, .cis, .fab, .fio, .tel, .pair, .records, .sent]
  | .requestFrame .. => [.now, .ctl, .fab, .fio, .pair, .sent]
  | .requestLinkTimeout .. => [.now, .ctl, .fab, .fio, .pair, .records, .sent]
  | .testPulse .. => [.now, .fab, .fio, .pair, .sent]
  | .sample .. => [.now, .fio, .records, .sent]
  | .edgeFrame .. | .outputFrame .. | .driveFrame .. | .configAck .. | .demagHoldExpiry .. | .keepaliveLoss ..
  | .groupConverterFail .. | .pumpedRailAtHoldLevel .. => [.now, .fio]
  | .functionWrite .. | .bankEntryWrite .. | .bankSwapRequest .. => [.now, .fio, .od, .records, .sent]
  | .alignmentWrite .. | .safeStateWrite .. | .deratingWrite .. | .tripThresholdWrite .. | .abAuth .. | .abClose ..
  | .abKeepalive .. | .abRead .. | .abReadSegment .. | .abBulkRead .. | .abReadSignal .. | .abEvents ..
  | .keyWrite .. | .restoreDefaults .. | .codeMapWrite .. => [.now, .od, .records, .sent]
  | .frameReceived .. | .linkDown .. | .linkUp .. | .redundancyDegraded .. | .beaconReceived .. | .beaconTimeout ..
  | .guardianTableCheck .. | .guardianCounterFault .. | .counterCauseCleared .. => [.now, .sw, .records]
  | .frameTransmit .. | .ptpSyncSend .. => [.now, .time, .sw, .records, .sent]
  | .guardianCut .. => [.now, .sw, .records, .sent]
  | .macAgeOut .. | .supervisionFrameSend .. | .beaconSend .. => [.now, .sw]
  | .ptpSync .. => [.now, .time, .sw, .od, .records]
  | .followUp .. => [.now, .time, .records, .sent]
  | .ptpAnnounce .. | .announceTimeout .. | .syncSilence .. | .domainPreference .. | .holdoverExhausted ..
  | .referenceMoved .. | .slewComplete .. | .servoUpdateTimeout .. => [.now, .time, .sw, .records]
  | .ptpDelayMessage .. => [.now, .time, .sw, .sent]
  | .ptpManagement .. | .mvbMasterFrame .. | .renewSend .. | .delayReqSend .. | .announceSend .. => [.now, .sent]
  | .rebase .. => [.now, .time, .ctl, .od, .records, .sent]
  | .servoModeWrite .. => [.now, .time, .od, .records, .sent]
  | .pdReceived .. | .mdTimeout .. | .mvbForeignMaster .. | .canHeartbeatLost .. => [.now, .tel, .records]
  | .pdSend .. => [.now, .sw, .tel, .sent]
  | .mdNotification .. | .mdReply .. | .mdConfirm .. | .mdError .. | .mvbSlaveFrame .. | .canBusOffRecovery ..
    => [.now, .tel, .bri]
  | .mdRequest .. => [.now, .tel, .bri, .records, .sent]
  | .mdReplyQuery .. => [.now, .tel, .bri, .sent]
  | .mvbDeviceStatus .. | .canHeartbeatSend .. | .handoverSend .. => [.now, .sent, .free]
  | .mvbLineFault .. | .canErrorPassive .. | .canBusOff .. => [.now, .tel, .bri, .records]
  | .canRpdo .. | .consumerHeartbeatReceived .. => [.now, .tel]
  | .canSyncReceived .. | .recordWrite .. | .recorderFault .. => [.now, .records]
  | .recorderMeasurement .. => [.now, .time, .ctl, .records]
  | .tpdoWithdraw .. => [.now, .tel, .sent]
  | .sdoUploadInitiate .. | .sdoSegmentTimeout .. => [.now, .od, .sent]
  | .sdoDownloadInitiate .. | .sdoSegment .. | .sdoBlockTransfer .. | .abWrite .. | .abWriteSegment ..
    => [.now, .time, .mode, .ctl, .lanes, .rek, .mem, .cis, .fab, .fio, .sw, .tel, .dma, .bri, .pair, .od, .upd, .records, .sent, .free]
  | .linkReplay .. | .lateError .. => [.now, .bri, .records]
  | .directRead .. | .eventQueuePop .. => [.now, .lanes, .mem, .dma, .bri, .sent, .free]
  | .directPostedWrite .. => [.now, .mem, .dma, .bri, .sent]
  | .directNonpostedWrite .. => [.now, .lanes, .mem, .dma, .bri, .records, .sent, .free]
  | .exclusiveRead .. | .exclusiveWrite .. => [.now, .lanes, .mem, .dma, .bri, .sent]
  | .directCompletion .. | .bridgeTimeout .. => [.now, .lanes, .bri, .sent]
  | .semaphoreBreak .. => [.now, .lanes, .mem, .dma, .bri, .records, .sent]
  | .eventPoll .. => [.now, .lanes, .bri, .records]
  | .dmaDoorbell .. | .dmaDescriptorDone .. | .chainLimit .. | .dmaBusError .. => [.now, .mem, .dma, .bri, .records]
  | .dmaAbort .. | .dmaRestart .. => [.now, .mem, .dma, .bri, .records, .free]
  | .dmaEngineRestart .. => [.now, .mem, .dma, .bri, .od, .records, .sent, .free]
  | .heartbeatSend .. | .shadowPeriodExpiry .. => [.now, .pair, .sent]
  | .partnerLost .. => [.now, .mode, .ctl, .lanes, .rek, .fab, .tel, .pair, .records, .sent]
  | .siphonImage .. => [.now, .ctl, .lanes, .rek, .pair, .records]
  | .forwardImageLate .. | .siphonDelta .. | .deltaDeadline .. | .siphonState .. | .siphonControl ..
    => [.now, .ctl, .lanes, .rek, .mem, .cis, .fab, .tel, .pair, .records, .sent]
  | .siphonResync .. => [.now, .mode, .ctl, .lanes, .mem, .fab, .tel, .pair, .records, .sent]
  | .refereeConfirm .. | .refereeRefuse .. => [.now, .pair, .records]
  | .refereeGrant .. => [.now, .mode, .ctl, .lanes, .rek, .mem, .cis, .fab, .tel, .pair, .upd, .records, .sent]
  | .refereeRevoke .. | .leaseExpiry .. | .refereeSilent .. => [.now, .tel, .pair, .records, .sent]
  | .handoverDrive .. => [.now, .ctl, .pair, .records, .sent]
  | .handoverDone .. => [.now, .mode, .ctl, .lanes, .rek, .fab, .tel, .pair, .upd, .records, .sent]
  | .reversion .. => [.now, .pair, .records, .sent]
  | .resyncComplete .. | .resyncTimeout .. => [.now, .mode, .ctl, .fab, .tel, .pair, .records, .sent]
  | .abOpen .. => [.now, .od, .records, .sent, .free]
  | .abWriteSignal .. => [.now, .cis, .pair, .od, .records, .sent]
  | .sessionOpenTimeout .. => [.now, .od]
  | .idleTimeout .. => [.now, .od, .records]
  | .boundaryWrite ..
    => [.now, .time, .mode, .ctl, .lanes, .rek, .mem, .cis, .fab, .sw, .tel, .pair, .od, .upd, .records, .sent]
  | .updBegin .. | .updVerify .. | .updActivate .. | .updAbort .. | .trialFallback ..
    => [.now, .mode, .ctl, .lanes, .rek, .mem, .cis, .fab, .sw, .tel, .pair, .od, .upd, .records, .sent]
  | .updBlock .. => [.now, .od, .upd, .records, .sent]
  | .updVerifyComplete .. => [.now, .upd, .records]

end Sys2Proof.Machine
end

