-- ==== Sys2Proof/Certificates/Slice0/Obligations.lean ====
section
/-! DEFINITION. What is to be proved of the model. A clause that rests on a choice of the model says nothing of the spec: the entries of the
assumption log named at the end of a docstring are those it rests on. -/

open Sys2Proof Sys2Proof.Machine

/-- A step carries out the command at the front of the queue on the state with the queue's rest, and every command answers a next state: none faults and
none is refused. On an empty queue the block idles, which is the model's choice (assumption 7). (Model choices: assumptions 7, 8.) -/
def Obligations.StepRunsTheFrontCommand : Prop :=
  (∀ (c : Instr) (rest : List Instr) (s : State), step { s with pending := c :: rest } = exec c { s with pending := rest }) ∧
  (∀ (c : Instr) (s : State), ∃ t, exec c s = .next t ∧ t.pending = s.pending) ∧
  (∀ s : State, s.pending = [] → step s = .next s)

/-- The state after reset: the module is OFF without supply, no command waits, every lane is OUT, the Cistern lists no byte, no force entry is in use,
DRIVE is 0, the event queue is empty, no session is open, and the anti-rollback counter is 0. It is sound, and SUPPLY_ON starts it. The pair state,
which the spec names only from stage 3 on, is the model's choice (assumption 9). (Model choices: assumptions 9, 19.) -/
def Obligations.ResetState : Prop :=
  State.reset.Sound ∧ State.reset.ctl.mode = .off ∧ State.reset.pending = [] ∧ (∀ l, (State.reset.lane l).state = .out) ∧
  State.reset.cis.mem = [] ∧ State.reset.ctl.forces = [] ∧ State.reset.pair.drive = false ∧ State.reset.pair.state = .alone ∧
  State.reset.evq.entries = [] ∧ (∀ m, (State.reset.session m).state = 0) ∧ State.reset.fab.rollback = 0 ∧
  (∀ n, Gives (exec (.supplyOn n) State.reset) fun t => t.ctl.mode = .fabricOnly ∧ t.ctl.stage = 0 ∧ t.time.now = 0)

/-- Every step keeps a sound state sound: the event queue holds at most 512 entries with consecutive SEQ values (R397), the Cistern Commons keep their one
canonical form, and every numbered part of the machine is still there. (Model choices: assumption 3.) -/
def Obligations.StepKeepsSound : Prop :=
  ∀ s t : State, s.Sound → step s = .next t → t.Sound

/-- A command changes only the parts that `touches` lists for it: every other part of the module, the queue of waiting commands, the serial number and the
hardware issue stay as they are. (Model choices: assumptions 4, 6.) -/
def Obligations.CommandsTouchOnlyTheirParts : Prop :=
  ∀ (c : Instr) (s t : State), exec c s = .next t → Only (touches c) s t

/-- R379, R425: neither half of the anti-rollback counter ever falls, and no command changes the serial number or the hardware issue. -/
def Obligations.RollbackNeverFalls : Prop :=
  ∀ (c : Instr) (s t : State), s.Sound → exec c s = .next t →
    s.rollbackHalf false ≤ t.rollbackHalf false ∧ s.rollbackHalf true ≤ t.rollbackHalf true ∧ t.serial = s.serial ∧ t.issue = s.issue

/-- R97, R101, R105: an instruction with a result in D writes that one register of the running release, counts one step, goes past its words, and changes
nothing else of the machine. The values are those of the type's operation; the rules R98 to R100 about them are stated below. (Model choices:
assumption 2.) -/
def Obligations.XpcResultInstructions : Prop :=
  ∀ (ln : Lane) (c : Fin 4) (ty : XType) (d a b : Fin 64) (s : State) (r : Release) (x : XCtx), s.CanRun ln c 1 r x →
    let put (v : Word) : Out := .next (s.putRun ln c (xw (r.past 1 1) d v))
    exec (.xMov ln c ty d a) s = put (normT ty (xr r a)) ∧
    (∀ lit, exec (.xLdi ln c ty d lit) s = .next (s.putRun ln c (xw (r.past (ldiWords ty) 1) d (normT ty lit)))) ∧
    (∀ src, exec (.xCvt ln c ty d a src) s = put (opCvt ty src (xr r a))) ∧
    exec (.xSel ln c ty d a b) s = put (if (xr r d).getLsbD 0 then normT ty (xr r a) else normT ty (xr r b)) ∧
    exec (.xAdd ln c ty d a b) s = put (opAdd ty (xr r a) (xr r b)) ∧
    exec (.xSub ln c ty d a b) s = put (opSub ty (xr r a) (xr r b)) ∧
    exec (.xMul ln c ty d a b) s = put (opMul ty (xr r a) (xr r b)) ∧
    exec (.xDiv ln c ty d a b) s = put (opDiv ty (xr r a) (xr r b)) ∧
    exec (.xRem ln c ty d a b) s = put (opRem ty (xr r a) (xr r b)) ∧
    exec (.xNeg ln c ty d a) s = put (opNeg ty (xr r a)) ∧
    exec (.xAbs ln c ty d a) s = put (opAbs ty (xr r a)) ∧
    exec (.xMin ln c ty d a b) s = put (opMin ty (xr r a) (xr r b)) ∧
    exec (.xMax ln c ty d a b) s = put (opMax ty (xr r a) (xr r b)) ∧
    exec (.xAdds ln c ty d a b) s = put (opAdds ty (xr r a) (xr r b)) ∧
    exec (.xSubs ln c ty d a b) s = put (opSubs ty (xr r a) (xr r b)) ∧
    exec (.xSqrt ln c ty d a) s = put (opSqrt ty (xr r a)) ∧
    (∀ imm, exec (.xAddi ln c ty d a imm) s = put (opAddi ty (xr r a) imm)) ∧
    exec (.xRint ln c ty d a) s = put (opRint ty (xr r a)) ∧
    exec (.xLimit ln c ty d a b) s = put (opLimit ty (xr r d) (xr r a) (xr r b)) ∧
    exec (.xSteps ln c d) s = put (BitVec.ofNat 64 ((r.steps + 1) % 2 ^ 32)) ∧
    exec (.xPeriod ln c d) s = put (BitVec.ofNat 64 (x.td.period * s.tb)) ∧
    exec (.xNop ln c) s = .next (s.putRun ln c (r.past 1 1))

/-- R97, R105: the same for the bit, shift and comparison instructions; a count or a bit number that the instruction takes from a register is read as a
number of the type. (Model choices: assumption 2.) -/
def Obligations.XpcBitAndCompareInstructions : Prop :=
  ∀ (ln : Lane) (c : Fin 4) (ty : XType) (d a b : Fin 64) (imm : BitVec 8) (s : State) (r : Release) (x : XCtx),
    s.CanRun ln c 1 r x →
    let put (v : Word) : Out := .next (s.putRun ln c (xw (r.past 1 1) d v))
    exec (.xAnd ln c ty d a b) s = put (normT ty (xr r a &&& xr r b)) ∧
    exec (.xOr ln c ty d a b) s = put (normT ty (xr r a ||| xr r b)) ∧
    exec (.xXor ln c ty d a b) s = put (normT ty (xr r a ^^^ xr r b)) ∧
    exec (.xNot ln c ty d a) s = put (normT ty (~~~xr r a)) ∧
    exec (.xShl ln c ty d a b) s = put (opShl ty (xr r a) (rawOf ty (xr r b))) ∧
    exec (.xShr ln c ty d a b) s = put (opShr ty (xr r a) (rawOf ty (xr r b))) ∧
    exec (.xShli ln c ty d a imm) s = put (opShl ty (xr r a) imm.toNat) ∧
    exec (.xShri ln c ty d a imm) s = put (opShr ty (xr r a) imm.toNat) ∧
    exec (.xRol ln c ty d a b) s = put (opRol ty (xr r a) (rawOf ty (xr r b))) ∧
    exec (.xRor ln c ty d a b) s = put (opRor ty (xr r a) (rawOf ty (xr r b))) ∧
    exec (.xGetb ln c ty d a imm) s = put (if (rawOf ty (xr r a)).testBit imm.toNat then 1 else 0) ∧
    exec (.xSetb ln c ty d a imm) s = put (normT ty (xr r a ||| BitVec.ofNat 64 (2 ^ imm.toNat))) ∧
    exec (.xClrb ln c ty d a imm) s = put (normT ty (xr r a &&& ~~~BitVec.ofNat 64 (2 ^ imm.toNat))) ∧
    exec (.xEq ln c ty d a b) s = put (opEq ty (xr r a) (xr r b)) ∧
    exec (.xNe ln c ty d a b) s = put (opNe ty (xr r a) (xr r b)) ∧
    exec (.xLt ln c ty d a b) s = put (opLt ty (xr r a) (xr r b)) ∧
    exec (.xLe ln c ty d a b) s = put (opLe ty (xr r a) (xr r b)) ∧
    exec (.xGt ln c ty d a b) s = put (opGt ty (xr r a) (xr r b)) ∧
    exec (.xGe ln c ty d a b) s = put (opGe ty (xr r a) (xr r b)) ∧
    exec (.xIsnan ln c ty d a) s = put (if (fOf ty (xr r a)).isNan then 1 else 0)

/-- R95: every result of an integer type T that an instruction forms is in the register form of T, so that normalising it again changes nothing: for the
integer types the low bits of the type, zero-extended or sign-extended. R98: integer results wrap modulo 2 to the power of the width; DIV truncates
toward zero; REM has the sign of the dividend; DIV and REM by zero give 0; the least value over −1 is itself; ADDS and SUBS saturate; ADDI
sign-extends its immediate; shift and rotate counts are taken modulo the width. -/
def Obligations.XpcIntegerResults : Prop :=
  (∀ (ty : XType) (a b d : Word) (n : Nat) (imm : BitVec 8), xInt ty = true →
    ∀ v ∈ [normT ty a, opCvt ty ty a, opAdd ty a b, opSub ty a b, opMul ty a b, opDiv ty a b, opRem ty a b, opNeg ty a,
        opAbs ty a, opMin ty a b, opMax ty a b, opAdds ty a b, opSubs ty a b, opAddi ty a imm, opLimit ty d a b,
        opAnd ty a b, opOr ty a b, opXor ty a b, opNot ty a, opShl ty a n, opShr ty a n, opRol ty a n, opRor ty a n,
        opSetb ty a imm, opClrb ty a imm],
      normT ty v = v) ∧
  (∀ (ty : XType) (a b : Word) (imm : BitVec 8) (n : Nat), xInt ty = true →
    let x := intOf ty a
    let y := intOf ty b
    let wraps (v : Word) (i : Int) : Prop := xMin ty ≤ intOf ty v ∧ intOf ty v ≤ xMax ty ∧ (2 ^ xWidth ty : Int) ∣ intOf ty v - i
    wraps (opAdd ty a b) (x + y) ∧ wraps (opSub ty a b) (x - y) ∧ wraps (opMul ty a b) (x * y) ∧ wraps (opNeg ty a) (-x) ∧
    wraps (opAddi ty a imm) (x + imm.toInt) ∧
    (y = 0 → opDiv ty a b = 0 ∧ opRem ty a b = 0) ∧
    (y ≠ 0 → ¬(x = xMin ty ∧ y = -1) → intOf ty (opDiv ty a b) = x.tdiv y) ∧
    (x = xMin ty → y = -1 → intOf ty (opDiv ty a b) = xMin ty) ∧
    (y ≠ 0 → intOf ty (opRem ty a b) = x.tmod y) ∧
    intOf ty (opAdds ty a b) = max (xMin ty) (min (xMax ty) (x + y)) ∧
    intOf ty (opSubs ty a b) = max (xMin ty) (min (xMax ty) (x - y)) ∧
    opShl ty a n = opShl ty a (n % xWidth ty) ∧ opShr ty a n = opShr ty a (n % xWidth ty) ∧
    opRol ty a n = opRol ty a (n % xWidth ty) ∧ opRor ty a n = opRor ty a (n % xWidth ty))

/-- R99: an operation on a NaN delivers the canonical quiet NaN of its type; with a NaN operand every comparison but NE gives 0 and NE gives 1; +0 and −0
compare equal, and MIN and MAX order −0 below +0. -/
def Obligations.XpcFloatNaN : Prop :=
  ∀ (ty : XType) (a b : Word), xFloat ty = true → (fOf ty a).isNan = true →
    let qnan : Word := if ty = .f32 then 0x7FC00000 else 0x7FF8000000000000
    let plus : Word := 0
    let minus : Word := if ty = .f32 then 0x80000000 else 0x8000000000000000
    (∀ v ∈ [opAdd ty a b, opAdd ty b a, opSub ty a b, opSub ty b a, opMul ty a b, opMul ty b a, opDiv ty a b, opDiv ty b a,
        opNeg ty a, opAbs ty a, opMin ty a b, opMin ty b a, opMax ty a b, opMax ty b a, opSqrt ty a, opRint ty a,
        opLimit ty a b b, opLimit ty b a b, opLimit ty b b a], v = qnan) ∧
    (∀ v ∈ [opEq ty a b, opEq ty b a, opLt ty a b, opLt ty b a, opLe ty a b, opLe ty b a, opGt ty a b, opGt ty b a,
        opGe ty a b, opGe ty b a], v = 0) ∧
    opNe ty a b = 1 ∧ opNe ty b a = 1 ∧ opIsnan ty a = 1 ∧
    opEq ty plus minus = 1 ∧ opMin ty plus minus = minus ∧ opMax ty minus plus = plus ∧
    (∀ t2 : XType, xInt t2 = true → opCvt t2 ty a = 0) ∧ opCvt .bool ty a = 0

/-- R102: a BOOL occupies one byte in memory; ST of a BOOL writes 0 or 1, and LD of a BOOL byte gives 1 when the byte is not 0, and else 0. -/
def Obligations.XpcBoolInMemory : Prop :=
  ∀ (ln : Lane) (c : Fin 4) (d v a : Fin 64) (sp : Space) (indexed : Bool) (off : BitVec 32) (s : State) (r : Release) (x : XCtx),
    s.CanRun ln c 1 r x →
    let ad := off.toNat + (if indexed then (xr r a).toNat % 2 ^ 32 else 0)
    xSize .bool = 1 ∧
    (storeLegal x ad 1 = true → r.used + entryCost 1 ≤ bucketBudget x.td → ∃ q w,
      exec (.xSt ln c .bool v a indexed off) s = .next (s.putRun ln c q) ∧ q.writes = r.writes ++ [w] ∧ w.target = ad ∧ w.size = sizeCode 1 ∧
      w.value = (if (xr r v).getLsbD 0 then 1 else 0)) ∧
    (∀ m, loadNum x r sp ad 1 = some m → exec (.xLd ln c .bool d a sp indexed off) s =
      .next (s.putRun ln c (xw (r.past 2 1) d (if m = 0 then 0 else 1))))

/-- R103, R104: the branches. JMP, BRT and BRF go to the word that the offset names from the word after the instruction; a branch not taken goes on there.
The counts of LOOPs whose range is entered from outside start again. R104: a LOOP counts A down as U32. At 0 it falls through; it goes back while A is
not 0, and stops the release with LOOP-BOUND when it would go back with a count of BOUND − 1. LOOP_BOUND is that stop. The LOOP stands at word `r.pc`.
(Model choices: assumption 2.) -/
def Obligations.XpcBranchesAndLoops : Prop :=
  (∀ (ln : Lane) (c : Fin 4) (a : Fin 64) (off : Int) (s : State) (r : Release) (x : XCtx), s.CanRun ln c 1 r x →
    let far : Release := { r.past 1 1 with
      pc := ((r.pc : Int) + 1 + off).toNat, loops := enterWord r.pc ((r.pc : Int) + 1 + off).toNat r.loops }
    exec (.xJmp ln c off) s = .next (s.putRun ln c far) ∧
    exec (.xBrt ln c a off) s = .next (s.putRun ln c (if (xr r a).getLsbD 0 then far else r.past 1 1)) ∧
    exec (.xBrf ln c a off) s = .next (s.putRun ln c (if (xr r a).getLsbD 0 then r.past 1 1 else far))) ∧
  (∀ (ln : Lane) (c : Fin 4) (a : Fin 64) (off : Int) (bound : BitVec 32) (s : State) (r : Release) (x : XCtx),
    s.CanRun ln c 1 r x →
    let v : Word := BitVec.ofNat 64 (((xr r a).toNat + 2 ^ 32 - 1) % 2 ^ 32)
    let back : Nat := ((r.pc : Int) + 2 + off).toNat
    (v = 0 → exec (.xLoop ln c a off bound) s = .next (s.putRun ln c (xw (r.past 2 1) a 0))) ∧
    (v ≠ 0 → loopCount r r.pc + 1 = bound.toNat →
      exec (.xLoop ln c a off bound) s = .next (stopRun ln c r evLoopBound 0 s) ∧
      exec (.loopBound ln c off bound) s = .next (stopRun ln c r evLoopBound 0 s)) ∧
    (v ≠ 0 → loopCount r r.pc + 1 ≠ bound.toNat →
      ∃ q, exec (.xLoop ln c a off bound) s = .next (s.putRun ln c q) ∧
        q.pc = back ∧ q.regs = (xw r a v).regs ∧ q.steps = r.steps + 1 ∧ q.writes = r.writes ∧ q.tally = r.tally))

/-- R103: CALL gives the new frame the caller's v0 to v7 and zeros, and keeps the caller's registers; RET brings v0 to v3 back and leaves the caller's v4
to v63 as they were. R88, R106: HALT and an instruction that the step budget has no room for stop the release: it is gone from its core and its cause
and IMM are noted for its window; the store, the registers of the others and every other part stay. (Model choices: assumption 2.) -/
def Obligations.XpcCallsAndStops : Prop :=
  (∀ (ln : Lane) (c : Fin 4) (s : State) (r : Release) (x : XCtx), s.CanRun ln c 1 r x →
    (∀ (fn : BitVec 24) (f : Nat × Nat), r.frames.length < 31 → x.app.funcs[fn.toNat]? = some f →
      ∃ k, k.regs = r.regs ∧ k.fn = r.fn ∧ k.ret = r.pc + 1 ∧
        exec (.xCall ln c fn) s = .next (s.putRun ln c { r with
          steps := r.steps + 1, frames := k :: r.frames, fn := fn.toNat, pc := f.1, loops := []
          regs := r.regs.take 8 ++ List.replicate 56 0 })) ∧
    (∀ k ks, r.frames = k :: ks → ∃ l,
      exec (.xRet ln c) s = .next (s.putRun ln c { r with
        steps := r.steps + 1, frames := ks, fn := k.fn, pc := k.ret, loops := l
        regs := r.regs.take 4 ++ k.regs.drop 4 }))) ∧
  (∀ (ln : Lane) (c : Fin 4) (s : State) (r : Release),
    let ended (cause : Code) (imm : Nat) : Out := .next { s.dropRun ln c with
      rek := { s.rek with stops := s.rek.stops ++ [{ lane := ln, task := r.task, closes := r.closes, cause, imm }] } }
    (∀ x imm, s.CanRun ln c 1 r x → exec (.xHalt ln c imm) s = ended evAppHalt imm.toNat) ∧
    (∀ td steps, s.running ln c = some r → s.taskDef r.task = some td → td.stepBudget < r.steps + steps →
      exec (.stepBudget ln c steps) s = ended evStepBudget 0))

/-- R101: a load of type T from LOCAL, IMAGE, STORE or CONST writes D and nothing else; an access that is not legal stops the release with ACCESS-FAULT. A
load is legal when it is aligned and lies in its space: IMAGE and CONST inside their bytes. (Model choices: assumptions 2, 16.) -/
def Obligations.XpcLoads : Prop :=
  ∀ (ln : Lane) (c : Fin 4) (ty : XType) (d a : Fin 64) (sp : Space) (indexed : Bool) (off : BitVec 32) (s : State)
    (r : Release) (x : XCtx), s.CanRun ln c 1 r x →
    let ad := off.toNat + (if indexed then (xr r a).toNat % 2 ^ 32 else 0)
    let n := xSize ty
    let got (m : Nat) : Out := .next (s.putRun ln c (xw (r.past 2 1) d (loadVal ty m)))
    let fault : Out := .next (stopRun ln c r evAccessFault 0 s)
    (∀ m, loadNum x r sp ad n = some m → exec (.xLd ln c ty d a sp indexed off) s = got m) ∧
    (loadNum x r sp ad n = none → exec (.xLd ln c ty d a sp indexed off) s = fault) ∧
    (ad % n ≠ 0 → loadNum x r sp ad n = none) ∧
    (ad % n = 0 → loadNum x r .image ad n = if ad + n ≤ r.image.length then some (leAt r.image ad n) else none) ∧
    (ad % n = 0 → loadNum x r .const ad n = if ad + n ≤ r.consts.length then some (leAt r.consts ad n) else none) ∧
    (ad % n = 0 → loadNum x r .loc ad n = if ad + n ≤ x.td.localSize then some (cNum n ad r.scratch) else none)

/-- R80, R81, R101: a legal store adds one entry to the Bucket of its release and to its Tally, and stores to no memory; one that is not legal stops the
release with ACCESS-FAULT, and one over the Bucket budget with BUCKET-OVERFLOW. STL writes the LOCAL scratch of its release at the address alone.
(Model choices: assumptions 2, 16.) -/
def Obligations.XpcStores : Prop :=
  ∀ (ln : Lane) (c : Fin 4) (ty : XType) (v a : Fin 64) (indexed : Bool) (off : BitVec 32) (s : State)
    (r : Release) (x : XCtx), s.CanRun ln c 1 r x →
    let ad := off.toNat + (if indexed then (xr r a).toNat % 2 ^ 32 else 0)
    let n := xSize ty
    let w : BWrite := { size := sizeCode n, target := ad, value := BitVec.ofNat 64 (rawOf ty (xr r v) % 256 ^ n) }
    let legal : Prop := ad % n = 0 ∧ storeLegal x ad n = true
    (legal → r.used + entryCost n ≤ bucketBudget x.td →
      exec (.xSt ln c ty v a indexed off) s = .next (s.putRun ln c { r.past 2 1 with
        used := r.used + entryCost n, writes := r.writes ++ [w], tally := tallyWords r.tally (writeWords w) })) ∧
    (¬legal → exec (.xSt ln c ty v a indexed off) s = .next (stopRun ln c r evAccessFault 0 s)) ∧
    (legal → bucketBudget x.td < r.used + entryCost n →
      exec (.xSt ln c ty v a indexed off) s = .next (stopRun ln c r evBucketOverflow 0 s)) ∧
    (ad % n = 0 → ad + n ≤ x.td.localSize → Memory.wf r.scratch = true → ∃ m,
      exec (.xStl ln c ty v a indexed off) s = .next (s.putRun ln c { r.past 2 1 with scratch := m }) ∧
        Memory.wf m = true ∧ cRead n ad m = leBytes n (rawOf ty (xr r v)) ∧ (∀ b, b < ad ∨ ad + n ≤ b → cGet b m = cGet b r.scratch)) ∧
    (¬(ad % n = 0 ∧ ad + n ≤ x.td.localSize) →
      exec (.xStl ln c ty v a indexed off) s = .next (stopRun ln c r evAccessFault 0 s))

/-- R38, R80, R103, R301: END at any depth and RET at depth 0 close the release. The Seal unit writes the VITAL publications of the task first (here it
leaves the release `q`); then the half with its closure and Tally joins those of the lane, and the core is free of the release. The sent Tally names
the lane, the core, the task and the cycle number of the opening; a lane that is being reported sends none. Memory, the other lanes and the time stay.
(Model choices: assumption 2.) -/
def Obligations.XpcClose : Prop :=
  ∀ (ln : Lane) (c : Fin 4) (s : State) (r q : Release) (x : XCtx), s.CanRun ln c 1 r x →
    sealCompose x s { r with steps := r.steps + 1, pc := r.pc + 1 } = .go q →
    let half := halfOf x.td q
    let closed (o : Out) : Prop := ∃ t, o = .next t ∧ (t.core ln c).releases = (s.core ln c).releases.tail ∧
      (t.lane ln).halves = (s.lane ln).halves ++ [half] ∧
      t.sent = (if (s.lane ln).reported = none
        then s.sent ++ [.tally ln x.td.core r.task (BitVec.ofNat 16 r.opened) half.tally] else s.sent) ∧
      t.cis = s.cis ∧ t.time = s.time ∧ t.evq = s.evq ∧ t.rek = s.rek ∧
      (∀ l, l ≠ ln → t.lane l = s.lane l)
    half.writes = q.writes ∧ half.c1 = closeC1 0x02 x.td.core.val x.td.task.val q.steps ∧
      half.c2 = BitVec.ofNat 64 q.opened ∧
    closed (exec (.xEnd ln c) s) ∧ (r.frames = [] → closed (exec (.xRet ln c) s))

/-- R107, R108: a timer, counter or edge block reads its instance in the task's own segment, writes Q to D and writes its instance back through the
Bucket; `f` is the scan of its block. An instance outside the segment stops the release. (Model choices: assumptions 2, 16.) -/
def Obligations.XpcBlocks : Prop :=
  ∀ (ln : Lane) (c : Fin 4) (d a b k : Fin 64) (inst : BitVec 32) (s : State) (r : Release) (x : XCtx) (g : SegDef)
    (steps : Nat), s.CanRun ln c steps r x → segOf x.app x.td.task.val = some g →
    let ad := g.offset + inst.toNat
    let far : Release := { r with steps := r.steps + steps, pc := r.pc + 2 }
    let p := x.td.period * x.tb
    let timer (f : Int → Int → Bool → TimerSt → TimerSt) (o : Out) : Prop :=
      ∀ et fl, loadNum x r .store ad 8 = some et → loadNum x r .store (ad + 8) 8 = some fl →
        let m := f p (roundPreset p (intOf .time64 (xr r b))) (isTrue (xr r a))
          { et := sxt 64 et, run := fl.testBit 2, prev := fl.testBit 1, q := fl.testBit 0 }
        ∀ q, storeTwo x ad 8 (wrapNat 64 m.et) (ad + 8) 8 (b2n m.run * 4 + b2n m.prev * 2 + b2n m.q)
            (xw far d (ofBool m.q)) = .go q →
          ∃ l, o = .next (s.putRun ln c { q with loops := l })
    let count (f : CountSt → CountSt) (out : CountSt → Word) (o : Out) : Prop :=
      ∀ cv fl, loadNum x r .store ad 4 = some cv → loadNum x r .store (ad + 4) 4 = some fl →
        let m := f { cv := sxt 32 cv, prevCd := fl.testBit 3, prevCu := fl.testBit 2, qd := fl.testBit 1, q := fl.testBit 0 }
        ∀ q, storeTwo x ad 4 (wrapNat 32 m.cv) (ad + 4) 4 (b2n m.prevCd * 8 + b2n m.prevCu * 4 + b2n m.qd * 2 + b2n m.q)
            (xw far d (out m)) = .go q →
          ∃ l, o = .next (s.putRun ln c { q with loops := l })
    let edge (f : Bool → Bool → Bool) (o : Out) : Prop :=
      ∀ fl, loadNum x r .store ad 1 = some fl → ∀ q,
        storeAt x ad 1 (b2n (isTrue (xr r a))) (xw far d (ofBool (f (isTrue (xr r a)) (fl.testBit 0)))) = .go q →
          ∃ l, o = .next (s.putRun ln c { q with loops := l })
    (steps = 6 → timer tonStep (exec (.xTon ln c d a b inst) s) ∧ timer tofStep (exec (.xTof ln c d a b inst) s) ∧
      timer tpStep (exec (.xTp ln c d a b inst) s)) ∧
    (steps = 5 →
      count (ctuStep (isTrue (xr r a)) (isTrue (xr r b)) (intOf .i32 (xr r k))) (fun m => ofBool m.q)
        (exec (.xCtu ln c d a b k inst) s) ∧
      count (ctdStep (isTrue (xr r a)) (isTrue (xr r b)) (intOf .i32 (xr r k))) (fun m => ofBool m.q)
        (exec (.xCtd ln c d a b k inst) s)) ∧
    (steps = 7 →
      count (ctudStep (isTrue (xr r a)) (isTrue (xr r b)) ((rawOf .u8 (xr r d)).testBit 0)
          ((rawOf .u8 (xr r d)).testBit 1) (intOf .i32 (xr r k))) (fun m => BitVec.ofNat 64 (b2n m.qd * 2 + b2n m.q))
        (exec (.xCtud ln c d a b k inst) s)) ∧
    (steps = 2 → edge (fun clk m => clk && !m) (exec (.xRTrig ln c d a inst) s) ∧
      edge (fun clk m => m && !clk) (exec (.xFTrig ln c d a inst) s))

/-- R41: the outcome table. Over three judging lanes, or two, the Tallies that were delivered decide the outcome, the lanes that agree and the Tally that
is voted. (Model choices: assumption 24.) -/
def Obligations.VoteOutcomes : Prop :=
  ∀ (j : List Lane) (got : Lane → Option Tally) (v : Tally),
    (j ≠ [] → j.Nodup → (∀ l ∈ j, got l = some v) → 2 ≤ j.length →
      voteOn j got = { outcome := .unanimous, agree := j, tally := v }) ∧
    (∀ x w, j = lanes → x ∈ j → got x = some w → w ≠ v → (∀ l ∈ j, l ≠ x → got l = some v) →
      voteOn j got = { outcome := .majority x, agree := j.filter (fun l => decide (l ≠ x)), tally := v }) ∧
    (∀ x, j = lanes → x ∈ j → got x = none → (∀ l ∈ j, l ≠ x → got l = some v) →
      voteOn j got = { outcome := .late x, agree := j.filter (fun l => decide (l ≠ x)), tally := v }) ∧
    (j.Nodup → (∃ l ∈ j, got l ≠ none) → (∀ l ∈ j, ∀ k ∈ j, got l ≠ none → got l = got k → l = k) →
      (voteOn j got).outcome = .split) ∧
    ((∀ l ∈ j, got l = none) → (voteOn j got).outcome = .overrun)

/-- R42: the pour lane is lane (N + i) modulo 3 if it agrees, and else the next agreeing lane in the order A, B, C; the others follow in that order, so
that over three boundaries every agreeing lane pours in turn. -/
def Obligations.PourLane : Prop :=
  ∀ (n i : Nat) (agree : List Lane),
    let r := (n + i) % 3
    (agree.contains (laneOf r) = true → (Sys2Proof.Machine.rotation n i agree).head? = some (laneOf r)) ∧
    (agree.contains (laneOf r) = false → agree.contains (laneOf (r + 1)) = true →
      (Sys2Proof.Machine.rotation n i agree).head? = some (laneOf (r + 1))) ∧
    (agree.contains (laneOf r) = false → agree.contains (laneOf (r + 1)) = false → agree.contains (laneOf (r + 2)) = true →
      (Sys2Proof.Machine.rotation n i agree).head? = some (laneOf (r + 2))) ∧
    (∀ l, l ∈ Sys2Proof.Machine.rotation n i agree ↔ l ∈ agree) ∧
    (∀ l ∈ agree, ∃ k < 3, (Sys2Proof.Machine.rotation (n + k) i agree).head? = some l) ∧
    laneOf 0 = .A ∧ laneOf 1 = .B ∧ laneOf 2 = .C ∧ laneOf (r + 3) = laneOf r

/-- R40, R41, R56, R57, R67: the Reckoner keeps a message with a right CRC for an open window and no other; a deadline at which both instances and their
self-tests agree and every window is UNANIMOUS leaves its verdicts to the pour; a disagreement, a failed self-test or a verdict that does not come is
module LOCKOUT with nothing to pour; in HOLD a window is voted by itself. (Model choices: assumptions 24, 13.) -/
def Obligations.VotesComplete : Prop :=
  ∀ (n : Nat) (s : State),
    let a := s.atTime n
    (∀ ln core task cyc tally, s.rek.windows.any (fun w => w.named core task cyc) = true →
      s.rek.kept.any (fun k => k.lane = ln && (k.core = core && (k.task = task && k.cyc == cyc))) = false →
      (Gives (exec (.tallyMessage n ln core task cyc tally true) s) fun t =>
        t.rek = { s.rek with kept := s.rek.kept ++ [{ lane := ln, core, task, cyc, tally }] }) ∧
      (Gives (exec (.tallyMessage n ln core task cyc tally false) s) fun t => t.rek = s.rek)) ∧
    (∀ ln core task cyc tally ok, s.rek.windows.any (fun w => w.named core task cyc) = false →
      Gives (exec (.tallyMessage n ln core task cyc tally ok) s) fun t => t.rek = s.rek) ∧
    (∀ agree ok, s.ctl.mode.seals = true → a.tb ≤ a.intoCycle + 100000 → s.cis.poured = false → s.rek.pourDue = false →
      s.fab.lockout = 0 → (agree && ok) = false →
      Gives (exec (.voteDeadline n agree ok) s) fun t =>
        t.fab.lockout = 1 ∧ t.ctl.mode = .faultStop ∧ t.ctl.cause = evFabricLockout ∧ t.rek.pourDue = false ∧
        t.rek.verdicts = [] ∧ t.rek.splits = [] ∧ t.cis.mem = s.cis.mem) ∧
    (s.ctl.mode.seals = true → s.ctl.mode ≠ .hold → a.tb ≤ a.intoCycle + 100000 → s.cis.poured = false →
      s.rek.pourDue = false → 2 ≤ s.inLanes.length → (a.pollScrub none).outcome = .unanimous →
      (∀ w ∈ s.rek.windows, w.closes ≤ a.cycleNow + 1 → (a.poll none w).outcome = .unanimous) →
      Gives (exec (.voteDeadline n true true) s) fun t =>
        t.rek.pourDue = true ∧ t.rek.badVerdict = false ∧ t.ctl.mode = s.ctl.mode ∧
        t.rek.selfTests = satAdd 64 s.rek.selfTests 2 ∧ t.rek.scrubs = satAdd 64 s.rek.scrubs 1 ∧
        t.rek.windows = s.rek.windows.filter (fun w => !decide (w.closes ≤ a.cycleNow + 1)) ∧
        t.rek.verdicts = s.rek.verdicts ++ (pourOrder (s.rek.windows.filter (fun w => w.closes ≤ a.cycleNow + 1))).map
          (fun w => { win := w, agree := Sys2Proof.Machine.rotation w.closes w.core.val (a.poll none w).agree, tally := (a.poll none w).tally })) ∧
    (s.ctl.mode.seals = true → a.tb ≤ a.intoCycle + 95000 → s.cis.poured = false → s.rek.pourDue = false → s.fab.lockout = 0 →
      Gives (exec (.verdictTimeout n) s) fun t =>
        t.fab.lockout = 1 ∧ t.ctl.mode = .faultStop ∧ t.rek.verdicts = [] ∧ t.cis.mem = s.cis.mem) ∧
    (∀ core task w, s.ctl.mode = .hold → 2 ≤ s.inLanes.length →
      s.rek.windows.find? (fun w => w.core = core && (w.task = task &&
        ((a.judging none w).all (fun l => (a.delivered w l).isSome) && !(a.judging none w).isEmpty))) = some w →
      (a.poll none w).outcome = .unanimous →
      Gives (exec (.holdVote n core task) s) fun t =>
        t.ctl.mode = .hold ∧ t.rek.windows = s.rek.windows.filter (fun v => v ≠ w) ∧
        t.rek.verdicts = s.rek.verdicts ++
          [{ win := w, agree := Sys2Proof.Machine.rotation w.closes w.core.val (a.poll none w).agree, tally := (a.poll none w).tally }])

/-- R21, R44, R45, R59, R84, R92: the pour. When every window of the deadline has a clean pour whose writes its task owns, the pour is complete and in
this cycle; a window without a clean pour, a write that its task does not own, or a pour that is late commits nothing and ends in FAULT-STOP; a lane
whose pour failed its check is excluded at the end of the window; every 100 ms the retained signals go to the copy whose turn it is. (Model choices:
assumptions 25, 17.) -/
def Obligations.PourComplete : Prop :=
  ∀ (n : Nat) (s : State),
    let a := s.atTime n
    let due := s.ctl.mode.seals = true ∧ s.rek.pourDue = true ∧ s.cis.poured = false ∧ a.intoCycle + 15000 < a.tb
    (∀ recv, due → s.app = none → Gives (exec (.pour n recv) s) fun t =>
      t.cis.poured = true ∧ t.cis.lastPour = a.cycleNow ∧ t.rek.pourDue = false ∧ t.rek.verdicts = [] ∧ t.rek.splits = [] ∧
      t.cis.mem = s.cis.mem ∧ t.ctl.mode = s.ctl.mode) ∧
    (∀ recv app s1 ps, due → s.app = some app → pourWindows recv s.rek.verdicts a = (s1, some ps) →
      (∀ p ∈ ps, ∀ w ∈ p.writes, writeOwned app p.task w = true) →
      Gives (exec (.pour n recv) s) fun t =>
        t.cis.poured = true ∧ t.cis.lastPour = a.cycleNow ∧ t.rek.pourDue = false ∧ t.rek.verdicts = [] ∧ t.rek.splits = [] ∧
        t.ctl.mode = s.ctl.mode) ∧
    (∀ recv app s1, due → s.app = some app → pourWindows recv s.rek.verdicts a = (s1, none) →
      Gives (exec (.pour n recv) s) fun t =>
        t.cis.mem = s.cis.mem ∧ t.ctl.mode = .faultStop ∧ t.ctl.cause = evPourCheckFail ∧ t.rek.pourDue = false) ∧
    (∀ recv app s1 ps p w, due → s.app = some app → pourWindows recv s.rek.verdicts a = (s1, some ps) → p ∈ ps → w ∈ p.writes →
      writeOwned app p.task w = false →
      Gives (exec (.pour n recv) s) fun t =>
        t.cis.mem = s.cis.mem ∧ t.ctl.mode = .faultStop ∧ t.ctl.cause = evWriteNotOwned ∧ t.rek.pourDue = false) ∧
    (a.tb ≤ a.intoCycle + 15000 → Gives (exec (.pourWindowEnd n) s) fun t =>
      t.rek.pourFailed = [] ∧
      ∀ l ∈ s.rek.pourFailed, (s.lane l).state = .isIn → (t.lane l).state = .excluded ∧ (t.lane l).cause = evPourCheckFail) ∧
    (s.ctl.mode.seals = true → s.cis.poured = false → a.tb ≤ a.intoCycle + 15000 → Gives (exec (.pourLate n) s) fun t =>
      t.cis.mem = s.cis.mem ∧ t.ctl.mode = .faultStop ∧ t.ctl.cause = evPourLate ∧ t.rek.pourDue = false) ∧
    (a.cycleNow % (100000000 / a.tb) = 0 → s.rcd.fault = false → s.app ≠ none → Gives (exec (.retainedSnapshot n) s) fun t =>
      t.cis.lastSnapshot = a.cycleNow ∧ t.cis.retNextB = (!s.cis.retNextB) ∧ t.cis.mem = s.cis.mem ∧
      (s.cis.retNextB = true → t.cis.retA = s.cis.retA ∧ ∃ q, t.cis.retB = some (a.cycleNow, q, s.imageId, s.retainedBytes, true)) ∧
      (s.cis.retNextB = false → t.cis.retB = s.cis.retB ∧ ∃ q, t.cis.retA = some (a.cycleNow, q, s.imageId, s.retainedBytes, true)))

/-- R14, R23: a boundary opens the cycle of its number: no image is sealed and no pour is made yet, and a group's frame is yet to come. R408, R414, R416:
the recorder takes a measurement, writes a changed record into its older slot, and after a fault takes nothing more. (Model choices: assumptions 15,
45.) -/
def Obligations.BoundaryAndRecorderComplete : Prop :=
  ∀ (n : Nat) (s : State),
    let a := s.atTime n
    (s.ctl.mode ≠ .off → s.time.gridFrom ≤ a.time.now → a.intoCycle = 0 → Gives (exec (.cycleBoundary n) s) fun t =>
      t.ctl.cycle = a.cycleNow ∧ t.ctl.imageReady = false ∧ t.ctl.ownImage = none ∧ t.cis.poured = false) ∧
    (1 ≤ s.ctl.stage → ∀ item value,
      (item.toNat ≤ 4 → Gives (exec (.recorderMeasurement n 3 item value) s) fun t => t = measure 3 item value a) ∧
      (s.ctl.x1Samples ≠ [] → Gives (exec (.recorderMeasurement n 2 0 value) s) fun t =>
        t = measure 2 0 (BitVec.ofNat 32 (s.ctl.x1Samples.foldl (· + ·) 0 / s.ctl.x1Samples.length)) a) ∧
      Gives (exec (.recorderMeasurement n 8 0 value) s) (fun t => t = measure 8 0 1 a) ∧
      Gives (exec (.recorderMeasurement n 9 0 value) s) (fun t =>
        t = measure 9 0 (BitVec.ofNat 32 (a.measRise 9 0)) (a.measureTaken 9 0) ∧
        sGet 0 2304 (a.measureTaken 9 0).rcd.raised = s.rek.unanimous)) ∧
    (∀ (region : Fin 5) k, (region.val, k) ∈ s.rcd.dirty → s.rcd.fault = false →
      Gives (exec (.recordWrite n region k) s) fun t =>
        t.rcd.written = satAdd 64 s.rcd.written 1 ∧ (region.val ≠ 4 → (region.val, k) ∉ t.rcd.dirty) ∧
        t.rcd.bins = s.rcd.bins ∧ t.rcd.extremes = s.rcd.extremes ∧ t.rcd.counters = s.rcd.counters ∧
        (newerIn1 (recSlots s.rcd region.val k) = true →
          (recSlots t.rcd region.val k).2 = (recSlots s.rcd region.val k).2 ∧
          ((recSlots t.rcd region.val k).1.map (·.payload)) = some (recPayload t.rcd region.val k))) ∧
    (s.rcd.fault = false → Gives (exec (.recorderFault n) s) fun t =>
      t.rcd.fault = true ∧ t.rcd.slots = s.rcd.slots) ∧
    (s.rcd.fault = true → ∀ (region : Fin 5) k, Gives (exec (.recordWrite n region k) s) fun t => t.rcd = s.rcd)

/-- R362, R366: the stages of a start, each as it completes. SUPPLY_ON powers a module that is OFF: FABRIC-ONLY, stage 0, time 0, an empty Cistern, and
the nonvolatile memories as they were. Stage 0 takes a valid map copy and ends in BOOT; stage 1 ends when every group has delivered a state frame or
250 ms have passed; stage 2 of a module without a valid image ends with every lane IN. R367 to R373, R376: an interruption of X1 changes nothing at
any interface while the hold-up store lasts, and a return within it ends it; FABRIC_RESERVE_EXHAUSTED leaves the module OFF with its nonvolatile
memories; measurements and the LED takeover are noted; a Cistern error during a warm restart is FAULT-STOP. (Model choices: assumptions 13, 26, 28.) -/
def Obligations.StartAndSupply : Prop :=
  (∀ (n : Nat) (s : State),
    let a := s.atTime n
    (s.ctl.mode = .off → Gives (exec (.supplyOn n) s) fun t =>
      t.ctl.mode = .fabricOnly ∧ t.ctl.stage = 0 ∧ t.time.now = 0 ∧ t.fab.powered = true ∧ t.cis.mem = [] ∧
      t.fab.copyA = s.fab.copyA ∧ t.fab.copyB = s.fab.copyB ∧ t.fab.rollback = s.fab.rollback ∧
      t.cis.retA = s.cis.retA ∧ t.cis.retB = s.cis.retB ∧ t.sent = s.sent) ∧
    (∀ c second, s.ctl.mode = .fabricOnly → s.fab.chosen = some (c, second) → s.upd.state ≠ .activating →
      Gives (exec (.stage0Complete n) s) fun t =>
        t.ctl.mode = .boot ∧ t.ctl.stage = 1 ∧ t.fab.map = some (copyBytes c, readMap (copyBytes c)) ∧ t.time = a.time) ∧
    (∀ straps, s.ctl.mode = .boot → s.ctl.stage = 1 →
      (s.fio.groups.all (·.everSeen) = true ∨ s.ctl.startAt + 250000000 ≤ a.time.now) →
      Gives (exec (.stage1Complete n straps) s) fun t => t.ctl.mode = .boot ∧ t.ctl.stage = 2) ∧
    (∀ tables, s.ctl.mode = .boot → s.ctl.stage = 2 → s.ctl.warm = false → a.loaded a.slotBytes = none →
      Gives (exec (.stage2Complete n tables) s) fun t =>
        t.ctl.mode = .boot ∧ t.ctl.stage = 3 ∧ ∀ l, (t.lane l).state = .isIn) ∧
    (s.ctl.mode = .boot → s.ctl.stage = 3 → s.ctl.warm = false → s.ctl.pending = none → s.sw.running = true →
      s.pair.inPair = false → s.app = none →
      Gives (exec (.stage3Complete n) s) fun t => t.ctl.mode = .stop ∧ t.ctl.stage = 4) ∧
    (s.ctl.mode = .faultStop → s.ctl.stage < 4 → s.sw.running = false →
      Gives (exec (.stage3Complete n) s) fun t =>
        t.ctl.mode = .faultStop ∧ t.sw.running = true ∧ t.od.running = true) ∧
    (∀ k : Fin 4, 1 ≤ k.val → s.ctl.mode = .boot → s.ctl.stage = k.val → s.ctl.warm = false → stageDeadline k.val ≤ a.startMs →
      Gives (exec (.stageTimeout n k) s) fun t => t.ctl.mode = .faultStop ∧ t.ctl.cause = evStartTimeout)) ∧
  (∀ (n : Nat) (s : State),
    let a := s.atTime n
    (s.ctl.mode ≠ .off → s.ctl.onStore = false → Gives (exec (.supplyInterruption n) s) fun t =>
      t.ctl.onStore = true ∧ t.ctl.mode = s.ctl.mode ∧ t.sent = s.sent) ∧
    (s.ctl.onStore = true → s.ctl.exhausted = none → Gives (exec (.storeExhausted n) s) fun t =>
      t.ctl = { s.ctl with exhausted := some a.time.now }) ∧
    (∀ disturbed below gs, s.ctl.onStore = true → s.ctl.exhausted = none →
      Gives (exec (.supplyReturn n disturbed below gs) s) fun t =>
        t.ctl = { s.ctl with onStore := false, exhausted := none } ∧ Only [.now, .ctl, .upd] s t) ∧
    (∀ x1, s.ctl.mode ≠ .off → s.ctl.stage ≠ 0 → Gives (exec (.supplyMeasurement n x1) s) fun t => t.ctl.x1 = x1) ∧
    (∀ x, s.ctl.exhausted = some x → x + 100000000 ≤ a.time.now → Gives (exec (.fabricReserveExhausted n) s) fun t =>
      t.ctl.mode = .off ∧ t.cis.mem = [] ∧ t.fab.powered = false ∧ t.fab.copyA = s.fab.copyA ∧ t.fab.copyB = s.fab.copyB ∧
      t.fab.rollback = s.fab.rollback ∧ t.rcd.slots = s.rcd.slots ∧ t.cis.retA = s.cis.retA ∧ t.cis.retB = s.cis.retB) ∧
    (s.fab.powered = true → (s.fab.fired = true ∨ (s.fab.seenFrame = false ∧ 250000000 ≤ a.time.now)) →
      Gives (exec (.ledFallback n) s) fun t => t.ctl = { s.ctl with ledFallback := true }) ∧
    (s.ctl.mode = .boot → s.ctl.warm = true → Gives (exec (.cisternEccError n) s) fun t =>
      t.ctl.mode = .faultStop ∧ t.ctl.cause = evStartTimeout))

/-- R33, R73, R76 to R79, R20: the image of a boundary is sealed once, an IN lane receives its token at its grid instant and drinks the images up to it
(in HOLD the oldest one); a token not used within 20 µs is gone, and an image that is late ends the run. (Model choices: assumptions 13, 24.) -/
def Obligations.ImageAndTokensComplete : Prop :=
  ∀ (n : Nat) (s : State),
    let a := s.atTime n
    (s.ctl.mode.seals = true → s.ctl.ownImage = none → Gives (exec (.imageSealed n) s) fun t =>
      ∃ img : Image, t.ctl.ownImage = some img ∧ img.cycle = a.cycleNow ∧
        (s.ctl.mode ≠ .standby → t.ctl.sealed = some img ∧ t.ctl.sealAt = a.time.now ∧ t.ctl.imageReady = true)) ∧
    (s.ctl.mode.seals = true → s.ctl.ownImage = none → 60000 ≤ a.intoCycle → s.inLanes ≠ [] →
      Gives (exec (.imageLate n) s) fun t => t.ctl.mode = .faultStop ∧ t.ctl.cause = evImageLate) ∧
    (∀ ln k img, s.gridPlace ln = some k → s.ctl.imageReady = true → s.ctl.sealed = some img → img.cycle = a.cycleNow →
      s.ctl.sealAt + 1000 * s.ctl.stagger * k ≤ a.time.now → (s.lane ln).tokenFor ≠ some a.cycleNow →
      Gives (exec (.releaseToken n ln) s) fun t =>
        t.lane ln = { s.lane ln with token := some (a.cycleNow, a.time.now), signalled := none, tokenFor := some a.cycleNow } ∧
        ∀ m, m ≠ ln → t.lane m = s.lane m) ∧
    (∀ ln k at0, (s.lane ln).token = some (k, at0) → at0 + 20000 ≤ a.time.now → Gives (exec (.tokenTimeout n ln) s) fun t =>
      t.lane ln = { s.lane ln with token := none } ∧ t.ctl.tokenTimeouts = satAdd 32 s.ctl.tokenTimeouts 1 ∧
      ∀ m, m ≠ ln → t.lane m = s.lane m) ∧
    (∀ ln k at0 img recv ok, (s.lane ln).token = some (k, at0) → (s.lane ln).state = .isIn → a.time.now ≤ at0 + 20000 →
      s.ctl.mode ≠ .hold → ((s.lane ln).standpipe.filter (fun i => i.cycle ≤ k)).getLast? = some img →
      Gives (exec (.laneDrink n ln recv ok) s) fun t =>
        (t.lane ln).token = none ∧ (t.lane ln).drunk = some img.cycle ∧ (t.lane ln).signalled = some a.time.now ∧
        (t.lane ln).standpipe = (s.lane ln).standpipe.filter (fun i => k < i.cycle) ∧
        (drinkOk (recv.getD img.bytes) ok img = false → (t.lane ln).reported = some ((s.lane ln).reported.getD evLaneInputFail)) ∧
        ∀ m, m ≠ ln → t.lane m = s.lane m) ∧
    (∀ ln k at0 img rest recv ok, (s.lane ln).token = some (k, at0) → (s.lane ln).state = .isIn → a.time.now ≤ at0 + 20000 →
      s.ctl.mode = .hold → (s.lane ln).standpipe = img :: rest → Gives (exec (.laneDrink n ln recv ok) s) fun t =>
        (t.lane ln).token = none ∧ (t.lane ln).drunk = some img.cycle ∧ (t.lane ln).signalled = some a.time.now ∧
        (t.lane ln).standpipe = rest)

/-- R48, R50, R51, R450: a lane that meets a fault withholds its Tallies with the first cause; an excluded lane that has reset may leave at the next
boundary; a reintegrating lane verifies its intact copy, or is excluded again; a verified lane enters IN at a macro-cycle start before the image is
released. (Model choices: assumption 13.) -/
def Obligations.LaneStatesComplete : Prop :=
  ∀ (n : Nat) (s : State) (ln : Lane),
    let a := s.atTime n
    ((s.lane ln).state = .isIn → Gives (exec (.laneEccError n ln) s) fun t =>
      t.lane ln = { s.lane ln with reported := some ((s.lane ln).reported.getD evLaneEcc) } ∧ ∀ m, m ≠ ln → t.lane m = s.lane m) ∧
    ((s.lane ln).state = .isIn → Gives (exec (.laneTrap n ln) s) fun t =>
      t.lane ln = { s.lane ln with reported := some ((s.lane ln).reported.getD evLaneTrap) } ∧ ∀ m, m ≠ ln → t.lane m = s.lane m) ∧
    (∀ native, (s.lane ln).state = .excluded → Gives (exec (.laneResetComplete n ln native) s) fun t =>
      t.lane ln = { s.lane ln with resetDone := true, native } ∧ ∀ m, m ≠ ln → t.lane m = s.lane m) ∧
    (∀ since, (s.lane ln).copySince = some since → (s.lane ln).state = .reintegrating → (s.lane ln).verified = false →
      (a.time.now ≤ since + 250000000 → Gives (exec (.reintegrationCopyComplete n ln true) s) fun t =>
        t.lane ln = { s.lane ln with verified := true, copy := s.copyRegions } ∧ t.cis.mem = s.cis.mem) ∧
      (Gives (exec (.reintegrationCopyComplete n ln false) s) fun t =>
        (t.lane ln).state = .excluded ∧ (t.lane ln).cause = evReintegrationFailed) ∧
      (since + 250000000 ≤ a.time.now → Gives (exec (.reintegrationTimeout n ln) s) fun t =>
        (t.lane ln).state = .excluded ∧ (t.lane ln).cause = evReintegrationFailed)) ∧
    ((s.lane ln).state = .reintegrating → (s.lane ln).verified = true → a.macroStart a.cycleNow = true →
      (s.lane ln).rejoinFrom ≤ a.cycleNow → s.ctl.imageReady = false → s.ctl.mode.seals = true →
      Gives (exec (.laneRejoin n ln) s) fun t =>
        (t.lane ln).state = .isIn ∧ (t.lane ln).inSince = some a.cycleNow ∧ (t.lane ln).standpipe = [] ∧
        (t.lane ln).copy = (s.lane ln).copy ∧ (∀ m, m ≠ ln → t.lane m = s.lane m))

/-- R121, R381, R388: a mode command that is admitted with its level (EXCHANGE asks L3, the others L2) waits for its boundary, where R392 contests it;
nothing else about the mode changes on its arrival. R121, R126, R128: an accepted command takes effect at its boundary: RUN, STOP with every open
release abandoned, HOLD, and RESUME with empty Standpipes and no open release. (Model choices: assumptions 11, 32.) -/
def Obligations.ModeCommands : Prop :=
  (∀ (n : Nat) (via : Via) (s q : State) (c : Caller),
    let a := s.atTime n
    let waits (v : Nat) (x : Instr) : Prop := admission via (writeReq 0x1101 0x01 .u8 (leBytes 1 v)) a = (q, some c) →
      (if v = 6 then 3 else 2) ≤ c.level → Gives (exec x s) fun t =>
        t.ctl = { q.ctl with waiting := q.ctl.waiting ++ [{ boundary := q.hostBoundary, key := odKey 0x1101 0x01
                                                            data := leBytes 1 v, via, level := c.level, client := c.client }] }
    waits 1 (.cmdRun n via) ∧ waits 2 (.cmdStop n via) ∧ waits 3 (.cmdHold n via) ∧ waits 4 (.cmdResume n via) ∧
    waits 5 (.cmdRestart n via) ∧ waits 6 (.cmdExchange n via)) ∧
  (∀ (n : Nat) (s : State) (e : Nat),
    let a := s.atTime n
    e ≤ a.cycleNow → s.pair.state = .alone → s.ctl.result = 1 →
    (s.ctl.pending = some (.run, e) → s.ctl.mode = .stop → Gives (exec (.modeChange n) s) fun t =>
      t.ctl.mode = .run ∧ t.ctl.pending = none ∧ t.ctl.result = 2 ∧ t.ctl.entryCycle = a.cycleNow) ∧
    (s.ctl.pending = some (.stop, e) → s.pair.handover = none → Gives (exec (.modeChange n) s) fun t =>
      t.ctl.mode = .stop ∧ t.ctl.pending = none ∧ t.ctl.result = 2 ∧ t.rek.windows = [] ∧ t.rek.kept = [] ∧
      (∀ l c, (t.core l c).releases = []) ∧ (∀ l, (t.lane l).halves = []) ∧ t.cis.mem = s.cis.mem) ∧
    (s.ctl.pending = some (.hold, e) → Gives (exec (.modeChange n) s) fun t =>
      t.ctl.mode = .hold ∧ t.ctl.pending = none ∧ t.ctl.result = 2 ∧ t.ctl.debugLog = [] ∧ t.cis.mem = s.cis.mem) ∧
    (s.ctl.pending = some (.resume, e) → s.ctl.mode = .hold → Gives (exec (.modeChange n) s) fun t =>
      t.ctl.mode = .run ∧ t.ctl.pending = none ∧ t.ctl.debugger = false ∧ (∀ l, (t.lane l).standpipe = []) ∧
      (∀ l c, (t.core l c).releases = []) ∧ t.rek.windows = []))

/-- R129 to R131: a warm restart enters BOOT with WARM at a boundary once every lane has reset; RUN follows at a macro-cycle start when every lane that is
IN has passed its check, with the committed state in every such lane; and it ends in FAULT-STOP with START-TIMEOUT after 1.5 s. (Model choices:
assumption 27.) -/
def Obligations.WarmRestart : Prop :=
  ∀ (n : Nat) (s : State) (m : Nat),
    let a := s.atTime n
    s.ctl.warmRestart = some m →
    (s.ctl.mode = .faultStop → warmAllReset m = true → a.intoCycle = 0 → Gives (exec (.warmRestartBoot n) s) fun t =>
      t.ctl.mode = .boot ∧ t.ctl.warm = true ∧ t.cis.mem = s.cis.mem) ∧
    (s.ctl.mode = .boot → s.ctl.warm = true → a.warmPassed m = true → a.intoCycle = 0 → a.macroStart a.cycleNow = true →
      s.pair.inPair = false → s.pair.state = .alone → Gives (exec (.warmRestartComplete n) s) fun t =>
        t.ctl.mode = .run ∧ t.ctl.warm = false ∧ t.ctl.warmRestart = none ∧ t.cis.mem = s.cis.mem ∧
        ∀ l, (s.lane l).state = .isIn → (t.lane l).copy = s.copyRegions ∧ (t.lane l).standpipe = []) ∧
    ((warmAllReset m && a.warmPassed m) = false → a.warmSince + 1500000000 ≤ a.time.now →
      (s.ctl.mode = .boot ∨ s.ctl.mode = .faultStop) → Gives (exec (.warmRestartTimeout n) s) fun t =>
        t.ctl.mode = .faultStop ∧ t.ctl.cause = evStartTimeout ∧ t.ctl.warmRestart = none ∧ t.cis.mem = s.cis.mem)

/-- R135, R137 to R140: the writes of a force entry that are accepted. Kind and Target of a free entry; Value of a free entry at once, and of one that is
PENDING or ACTIVE from the boundary b on; ACTIVATE and REMOVE leave the entry PENDING for b; at b it is ACTIVE, or FREE. An ACTIVATE that R134 or R136
refuses leaves the entry REFUSED. (Model choices: assumptions 11, 30.) -/
def Obligations.ForceEntries : Prop :=
  ∀ (n : Nat) (via : Via) (k : Fin 256) (s q : State) (c : Caller),
    let a := s.atTime n
    let served (u : Nat) (ty : OdType) (d : Bytes) : Prop := admission via (writeReq (0x2200 + k.val) u ty d) a = (q, some c)
    let r (u : Nat) : State := unrefuseEntry k c.level u q
    let f (u : Nat) : Force := (r u).force k.val
    let free (u : Nat) : Prop := (f u).state = .free
    let right (u : Nat) : Prop := (r u).writeFault (0x2200 + k.val) u c.level = stOk
    (∀ v : BitVec 8, served 1 .u8 (leBytes 1 v.toNat) → right 1 → free 1 → v.toNat ≤ 3 →
      Gives (exec (.forceKindWrite n via k v) s) fun t => t.force k.val = { f 1 with kind := v }) ∧
    (∀ v : BitVec 16, served 2 .u16 (leBytes 2 v.toNat) → right 2 → free 2 → v.toNat ≤ 16383 →
      Gives (exec (.forceTargetWrite n via k v) s) fun t => t.force k.val = { f 2 with target := v }) ∧
    (∀ v : Word, served 3 .u64 (leBytes 8 v.toNat) → right 3 →
      (free 3 → Gives (exec (.forceValueWrite n via k v) s) fun t => t.force k.val = { f 3 with value := v }) ∧
      ((f 3).busy = true → q.follows = false → q.forceValueBad (f 3) v = false →
        Gives (exec (.forceValueWrite n via k v) s) fun t => t.force k.val = { f 3 with
          value := v, inForce := (f 3).at (q.hostBoundary - 1), valueFrom := some (v, q.hostBoundary) })) ∧
    (served 4 .u8 [1] → right 4 → free 4 → q.follows = false →
      ((r 4).activateFault k.val c.level (f 4) = stOk → Gives (exec (.forceActivate n via k) s) fun t =>
        (t.force k.val).state = .pending ∧ (t.force k.val).removing = false ∧ (t.force k.val).effective = q.hostBoundary ∧
        (t.force k.val).inForce = (f 4).value ∧ (t.force k.val).kind = (f 4).kind ∧ (t.force k.val).target = (f 4).target) ∧
      ((r 4).activateFault k.val c.level (f 4) ≠ stOk → Gives (exec (.forceActivate n via k) s) fun t =>
        (t.force k.val).state = .refused)) ∧
    (served 4 .u8 [2] → right 4 → (f 4).state = .active → q.follows = false →
      ((r 4).forceVital (f 4) && decide (c.level < 2)) = false → Gives (exec (.forceRemove n via k) s) fun t =>
        (t.force k.val).state = .pending ∧ (t.force k.val).removing = true ∧ (t.force k.val).effective = q.hostBoundary) ∧
    ((s.force k.val).state = .pending → (s.force k.val).effective ≤ a.cycleNow →
      ((s.force k.val).removing = true → Gives (exec (.forceBoundary n k) s) fun t => (t.force k.val).state = .free) ∧
      ((s.force k.val).removing = false → Gives (exec (.forceBoundary n k) s) fun t =>
        (t.force k.val).state = .active ∧ (t.force k.val).value = (s.force k.val).value))

/-- R141 to R143, R147: APPLY of an acceptable set delivers it to every lane for its boundary b; a set refused leaves the parameters as they are and says
its reason; DISCARD drops what is staged; at b the lanes that can check the set read the new version, and the set is counted. (Model choices:
assumptions 11, 31.) -/
def Obligations.ChangeSets : Prop :=
  ∀ (n : Nat) (via : Via) (s q : State) (c : Caller),
    let a := s.atTime n
    (admission via (writeReq 0x2300 0x03 .u8 [1]) a = (q, some c) → 1 ≤ c.level →
      (∀ app, q.app = some app → q.setReason c.level = 0 → Gives (exec (.csApply n via) s) fun t =>
        t.ctl.change.pending = q.stagedSet ∧ t.ctl.change.effective = q.setBoundary ∧ t.ctl.change.state = 2 ∧ t.ctl.change.staged = [] ∧
        ∀ l, (t.lane l).params = (s.lane l).params ∧ ((s.lane l).state = .isIn →
          (t.lane l).paramsNew = some (patchParams app q.stagedSet (s.lane l).params, q.setBoundary))) ∧
      (q.setReason c.level ≠ 0 → Gives (exec (.csApply n via) s) fun t =>
        t.ctl.change.pending = s.ctl.change.pending ∧ t.ctl.change.state = 4 ∧ t.ctl.change.reason = q.setReason c.level ∧
        ∀ l, t.lane l = s.lane l)) ∧
    (admission via (writeReq 0x2300 0x03 .u8 [2]) a = (q, some c) →
      (if q.setVital q.stagedSet = true then 2 else 1) ≤ c.level → Gives (exec (.csDiscard n via) s) fun t =>
      t.ctl.change.staged = [] ∧ t.ctl.change.reason = 0 ∧ t.ctl.change.pending = s.ctl.change.pending ∧
      t.ctl.change.state = (if s.ctl.change.pending.isEmpty then 0 else 2)) ∧
    (s.ctl.change.pending.isEmpty = false → s.ctl.change.effective ≤ a.cycleNow →
      (∀ badLanes, Gives (exec (.changeSetEffect n badLanes) s) fun t =>
        t.ctl.change.pending = [] ∧ t.ctl.change.state = 3 ∧ t.ctl.change.applied = satAdd 32 s.ctl.change.applied 1 ∧
        t.ctl.change.stored = storeApplied a) ∧
      Gives (exec (.changeSetEffect n []) s) fun t =>
        ∀ l v b, (s.lane l).paramsNew = some (v, b) → (t.lane l).params = v ∧ (t.lane l).paramsNew = none)

/-- R34, R48, R63, R65, R91: accepted host writes of the lanes and tasks: a lane command asks for reintegration, a stagger is in force, a placement waits
for the next macro-cycle start, a debugger is attached, and a FAULTED task waits for its period boundary. (Model choices: assumptions 11, 29.) -/
def Obligations.LaneAndTaskWrites : Prop :=
  ∀ (n : Nat) (via : Via) (s q : State) (c : Caller),
    let a := s.atTime n
    (∀ v : BitVec 8, admission via (writeReq 0x2000 0x08 .u8 (leBytes 1 v.toNat)) a = (q, some c) → q.writeFault 0x2000 0x08 c.level = stOk →
      1 ≤ v.toNat → v.toNat ≤ 3 → ((s.lane (laneCode v.toNat)).state = .excluded ∨ (s.lane (laneCode v.toNat)).state = .out) →
      Gives (exec (.laneCommand n via v) s) fun t => (t.lane (laneCode v.toNat)).commanded = true ∧
        ∀ l, l ≠ laneCode v.toNat → t.lane l = s.lane l) ∧
    (∀ v : BitVec 16, admission via (writeReq 0x2002 0x01 .u16 (leBytes 2 v.toNat)) a = (q, some c) →
      q.plainFault 0x2002 0x01 c.level .u16 (leBytes 2 v.toNat) = stOk →
      Gives (exec (.staggerWrite n via v) s) fun t => t.ctl.stagger = v.toNat) ∧
    (∀ v : BitVec 8, admission via (writeReq 0x2003 0x02 .u8 (leBytes 1 v.toNat)) a = (q, some c) → q.writeFault 0x2003 0x02 c.level = stOk →
      s.ctl.mode = .run → v.toNat < 16 → q.placementBad (BitVec.ofNat 4 v.toNat) = false → s.ctl.moveState = 0 →
      Gives (exec (.placementRequest n via v) s) fun t =>
        t.ctl.requested = v ∧ t.ctl.moveState = 1 ∧ t.ctl.moveAt = a.nextMacro (a.cycleNow + 1) ∧ t.ctl.placement = s.ctl.placement) ∧
    (admission via (writeReq 0x2000 0x20 .domain []) a = (q, some c) → 2 ≤ c.level → s.ctl.mode = .hold → a.mapFlag 5 = true →
      Gives (exec (.debugAttach n via) s) fun t => t.ctl.debugger = true ∧ t.ctl.mode = .hold) ∧
    (∀ (k : Fin 16) (v : BitVec 8), s.Shaped → admission via (writeReq (0x2100 + k.val) 0x0E .u8 (leBytes 1 v.toNat)) a = (q, some c) →
      q.writeFault (0x2100 + k.val) 0x0E c.level = stOk → 1 ≤ v.toNat → v.toNat ≤ 3 → (s.task k).faulted (laneCode v.toNat) = true →
      Gives (exec (.taskRestart n via k v) s) fun t => t.task k = (s.task k).askRestart (laneCode v.toNat) ∧
        ∀ j, j ≠ k → t.task j = s.task j)

/-- R63, R64: at m1 the moved indices have no open window and no half; at m2 the new placement holds; a split task moves to the lane on which it can start
at a macro-cycle start. R66: in HOLD an attached debugger sets breakpoints, lets the lanes run or step, and writes variables, each action logged with
lane A's step count; at a breakpoint all lanes stop at lane A's step. (Model choices: assumption 29.) -/
def Obligations.PlacementAndDebugger : Prop :=
  (∀ (n : Nat) (s : State),
    let a := s.atTime n
    a.macroStart a.cycleNow = true → s.ctl.imageReady = false →
    (s.ctl.moveState = 1 → s.ctl.moveAt ≤ a.cycleNow → Gives (exec (.placementMove n) s) fun t =>
      t.ctl.moveState = 2 ∧ t.ctl.moved = s.ctl.placement ^^^ s.ctl.requested.setWidth 4 ∧ t.ctl.moveAt = a.cycleNow ∧
      t.ctl.placement = s.ctl.placement ∧
      (∀ w ∈ t.rek.windows, w ∈ s.rek.windows ∧ (s.ctl.placement ^^^ s.ctl.requested.setWidth 4).getLsbD w.core.val = false) ∧
      ∀ l c, (s.ctl.placement ^^^ s.ctl.requested.setWidth 4).getLsbD c.val = true → (t.core l c).releases = []) ∧
    (s.ctl.moveState = 2 → s.ctl.moveAt + a.macroM ≤ a.cycleNow → Gives (exec (.placementResume n) s) fun t =>
      t.ctl.placement = s.ctl.requested.setWidth 4 ∧ t.ctl.moveState = 0 ∧ t.ctl.moved = 0) ∧
    (∀ (k : Fin 16) d l, s.Shaped → s.taskDef k = some d → s.triple d.core = false → s.startLane d = some l → (s.task k).onLane ≠ some l →
      Gives (exec (.fallbackMove n k) s) fun t =>
        t.task k = { s.task k with onLane := some l } ∧ (∀ j, j ≠ k → t.task j = s.task j) ∧ t.ctl.placement = s.ctl.placement)) ∧
  (∀ (n : Nat) (s : State),
    let a := s.atTime n
    let logs (k : Nat) (t : State) : Prop :=
      t.ctl.debugLog = s.ctl.debugLog ++ [(BitVec.ofNat 32 k, BitVec.ofNat 32 s.laneASteps, a.cycleNow)]
    s.ctl.mode = .hold → s.ctl.debugger = true →
    (∀ pc, Gives (exec (.debugBreakpoint n pc) s) fun t => pc ∈ t.ctl.breakpoints ∧ (∀ b ∈ s.ctl.breakpoints, b ∈ t.ctl.breakpoints) ∧ logs 1 t) ∧
    Gives (exec (.debugRun n) s) (fun t => t.ctl.debugRun = none ∧ logs 2 t) ∧
    (∀ k : BitVec 32, Gives (exec (.debugStep n k) s) fun t => t.ctl.debugRun = some (s.laneASteps + k.toNat) ∧ logs 3 t) ∧
    (∀ core w r, s.running .A core = some r → Gives (exec (.debugWriteVariable n core w) s) fun t =>
      t.ctl.debugWrites.length = s.ctl.debugWrites.length + 1 ∧
      t.ctl.debugWrites.getLast?.map (fun d => (d.core, d.task, d.opened, d.steps, d.write)) = some (core, r.task, r.opened, r.steps, w) ∧
      logs 4 t) ∧
    (∀ pc r, coreNos.findSome? (fun c => (s.running .A c).filter (fun r => r.pc = pc)) = some r → s.ctl.breakpoints.contains pc = true →
      Gives (exec (.breakpointHit n pc) s) fun t =>
        t.ctl.debugRun = some r.steps))

/-- R119, R50, R131, R149: a lane that has translated keeps its native code and its digest, at the start, in a warm restart, in a reintegration and in an
exchange. R339, R340: with no partner heard a module in a pair is negotiated alone, and drives under a lease it holds or asks the referee for one; a
partner with whom no pair can be formed leaves it OUT with its reason. (Model choices: assumptions 13, 26, 46, 52.) -/
def Obligations.TranslationAndNegotiation : Prop :=
  (∀ (n : Nat) (ln : Lane) (native : List Word) (s : State),
    let a := s.atTime n
    let after := Gives (exec (.translationComplete n ln native) s)
    (∀ app, s.ctl.mode = .boot → s.ctl.stage = 2 → s.ctl.warm = false → s.loaded s.slotBytes = some app → after fun t =>
      (t.lane ln).image = some app ∧ (t.lane ln).native = native ∧
      (t.lane ln).digest = some (translationDigest native app.ident s.edition) ∧ ∀ l, l ≠ ln → t.lane l = s.lane l) ∧
    (∀ m, ¬ (s.ctl.mode = .boot ∧ s.ctl.stage = 2 ∧ s.ctl.warm = false) → s.ctl.warmRestart = some m → after fun t =>
      (t.lane ln).native = native ∧ t.ctl.warmRestart ≠ none ∧
      ∀ k, t.ctl.warmRestart = some k → k.testBit (laneNo ln) = true ∧ (s.nativeOk native = true → k.testBit (3 + laneNo ln) = true)) ∧
    (s.ctl.mode = .run → s.ctl.warmRestart = none → (s.lane ln).state = .reintegrating → (s.lane ln).copySince = none →
      s.nativeOk native = true → after fun t =>
        (t.lane ln).native = native ∧ (t.lane ln).copySince = some a.time.now ∧ (t.lane ln).state = .reintegrating) ∧
    (∀ app since, s.ctl.mode = .stop → s.ctl.warmRestart = none → (s.lane ln).state = .isIn → s.ctl.exchange = some since →
      s.pair.exchangeStep = 0 → s.loaded s.otherBytes = some app →
      (∃ l, l ≠ ln ∧ (s.lane l).state = .isIn ∧ (s.lane l).digest = none) → after fun t =>
        (t.lane ln).nativeNew = native ∧ (t.lane ln).native = (s.lane ln).native ∧
        (t.lane ln).digest = some (translationDigest native app.ident s.edition) ∧ t.ctl.exchange = some since)) ∧
  (∀ (n : Nat) (s : State),
    let a := s.atTime n
    s.pair.inPair = true → s.pair.negotiated = false → 3 ≤ s.ctl.stage → s.ctl.mode ≠ .faultStop →
    (Gives (exec (.pairNegotiation n none) s) fun t => t.pair.negotiated = true ∧ t.pair.partnerId = none ∧ t.pair.state = s.pair.state ∧
      (s.sw.running = true → (a.leaseHeld = true → t.pair.drive = true ∧ t.tel.publishing = true) ∧
        (a.leaseHeld = false → t.pair.requestAt = some a.time.now ∧ t.pair.drive = s.pair.drive))) ∧
    (∀ p, s.sw.running = true → a.pairReason p ≠ 0 → Gives (exec (.pairNegotiation n (some p)) s) fun t =>
      t.pair.state = .out ∧ t.pair.reason = a.pairReason p ∧ t.pair.negotiated = true ∧ t.pair.partnerId = some p))

/-- R154, R163, R164, R167, R190: a sample of the fabric takes the frames that the groups sent and evaluates every instance of the map; a group link that
is silent for 100 us leaves the group's switches open and the instances that use it LOCKED with LINK; a discrepancy that lasts too long locks with
DISCREPANCY; a restore delay that has run restores RUN; a DSD warns, and trips. (Model choices: assumption 12.) -/
def Obligations.FabricSamples : Prop :=
  ∀ (n : Nat) (s : State),
    let a := s.atTime n
    s.fab.powered = true → s.Shaped →
    (∀ frames, Gives (exec (.fabricLinkFrame n frames) s) fun t =>
      let s1 := endLinkRuns (frames.foldl takeLinkFrame a)
      t.fab.insts = ((List.range 16).foldl evalInst (takeRequests s1)).fab.insts ∧
      t.fab.taps = s1.fab.taps ∧ t.fab.lowRb = s1.fab.lowRb ∧ t.fab.highRb = s1.fab.highRb) ∧
    (∀ (f : BitVec 96), crc16 (beBytes 10 (f.toNat / 2 ^ 16)) = f.toNat % 2 ^ 16 →
      (∀ p, s.fab.linkSeq[field f.toNat 87 85]?.getD none = some p → BitVec.ofNat 8 (field f.toNat 95 88) = p + 1) →
      Gives (exec (.fabricLinkFrame n [f]) s) fun t =>
        let g := field f.toNat 87 85
        t.fab.taps = s.fab.taps.set g (BitVec.ofNat 16 (field f.toNat 79 64)) ∧
        t.fab.lowRb = s.fab.lowRb.set g (BitVec.ofNat 16 (field f.toNat 63 48)) ∧
        t.fab.highRb = s.fab.highRb.set g (BitVec.ofNat 16 (field f.toNat 47 32)) ∧
        t.fab.linkAt = s.fab.linkAt.set g a.time.now) ∧
    (∀ (f : BitVec 96), crc16 (beBytes 10 (f.toNat / 2 ^ 16)) ≠ f.toNat % 2 ^ 16 →
      Gives (exec (.fabricLinkFrame n [f]) s) fun t =>
        t.fab.taps = s.fab.taps ∧ t.fab.lowRb = s.fab.lowRb ∧ t.fab.highRb = s.fab.highRb ∧ t.fab.linkAt = s.fab.linkAt) ∧
    (∀ g : Fin 8, (s.fab.linkAt[g.val]?.getD 0) + 100000 ≤ a.time.now → Gives (exec (.fabricLinkTimeout n g) s) fun t =>
      t.fab.linkOk.getLsbD g.val = false ∧ (t.group g).lowCmd = 0 ∧ (t.group g).highCmd = 0 ∧
      ∀ i m, i < 16 → s.mapInst i = some m → m.usesGroup g.val = true → s.fab.lockout = 0 →
        ((s.inst i).state = .run ∨ (s.inst i).state = .tripped) → (t.inst i).state = .locked ∧ (t.inst i).cause = 0x04) ∧
    (∀ (i : Fin 16) m, s.mapInst i.val = some m → s.fab.lockout = 0 →
      ((s.inst i.val).state = .run ∨ (s.inst i.val).state = .tripped) →
      (overUs (s.inst i.val).disagree1 m.discrepancy || overUs (s.inst i.val).disagree2 m.discrepancy) = true →
      Gives (exec (.discrepancyTimeout n i) s) fun t => (t.inst i.val).state = .locked ∧ (t.inst i.val).cause = 0x01) ∧
    (∀ (i : Fin 16) m, s.mapInst i.val = some m → s.fab.lockout = 0 → (s.inst i.val).state = .tripped → m.type ≠ 3 →
      (s.inst i.val).request = false → (s.inst i.val).owed = false → returnMet a i.val m = true →
      Gives (exec (.restoreDelayExpiry n i) s) fun t => (t.inst i.val).state = .run) ∧
    (∀ (i : Fin 16) m, s.mapInst i.val = some m → s.fab.lockout = 0 → m.type = 3 → (s.inst i.val).state = .run →
      ((s.inst i.val).warn = false → 40 * m.t2 ≤ (s.inst i.val).v → Gives (exec (.dsdWarning n i) s) fun t =>
        (t.inst i.val).warn = true ∧ (t.inst i.val).state = .run) ∧
      (40 * (m.t2 + m.t3) ≤ (s.inst i.val).v → Gives (exec (.vigilanceTrip n i) s) fun t =>
        (t.inst i.val).state = .tripped ∧ (t.inst i.val).cause = 0x12 ∧ (t.inst i.val).warn = false))

/-- R162, R174 to R178: a test pulse opens one closed low-side switch; its read-back is judged at its end; a low-side switch that reads closed for too
long against its command, and a failed test, lock the channel's instances and stop the group's keepalive. A valid reset pulse takes the LOCKED
instances whose cause is gone to TRIPPED; a valid restart pulse pays an owed restart; an invalid pulse is counted and resets nothing. (Model choices:
assumption 12.) -/
def Obligations.PulsesComplete : Prop :=
  ∀ (n : Nat) (s : State),
    let a := s.atTime n
    let locks (cause : BitVec 8) (ch : Fin 128) (t : State) : Prop :=
      t.fab.testFails = satAdd 32 s.fab.testFails 1 ∧ (chGroup ch, ch.val) ∈ t.fab.stopped ∧
      t.fab.keepalive.getLsbD (chGroup ch).val = false ∧
      ∀ i ∈ s.governors ch.val, s.fab.lockout = 0 → ((s.inst i).state = .run ∨ (s.inst i).state = .tripped) →
        (t.inst i).state = .locked ∧ (t.inst i).cause = cause
    s.Shaped →
    (∀ ch : Fin 128, s.fab.pulse = none → s.fabCloses ch.val = true →
      (match s.fab.pulseEnd with
        | some e => e.2 + 1000000 ≤ a.time.now
        | none => True) →
      Gives (exec (.testPulse n ch) s) fun t => t.fab.pulse = some (ch.val, a.time.now) ∧ t.fab.tests = satAdd 64 s.fab.tests 1 ∧
        t.fabCloses ch.val = false) ∧
    (∀ (ch : Fin 128) start, s.fab.pulse = some (ch.val, start) →
      start + 10000 * (s.smap.map (·.testPulse)).getD 0 ≤ a.time.now → Gives (exec (.testPulseEnd n ch) s) fun t =>
        t.fab.pulse = none ∧ t.fab.pulseEnd = some (ch.val, a.time.now) ∧
        ((s.fab.lowRb[ch.val / 16]?.getD 0).getLsbD (ch.val % 16) = false → t.fab.insts = s.fab.insts ∧ t.fab.testFails = s.fab.testFails) ∧
        ((s.fab.lowRb[ch.val / 16]?.getD 0).getLsbD (ch.val % 16) = true → locks 0x02 ch t)) ∧
    (∀ ch : Fin 128, s.fab.powered = true → s.governors ch.val ≠ [] → overUs (sGet 0 ch.val s.fab.stuckFor) 500 = true →
      s.fab.stopped.any (fun e => e.2 == ch.val) = false → Gives (exec (.readbackTimeout n ch) s) fun t => locks 0x03 ch t) ∧
    (∀ key rise1 rise2 fall1 fall2, s.fab.powered = true → s.fab.lockout = 0 →
      (if key then s.mapFlag 6 else (s.smap.map (fun m => m.ack1 != 0xFF)).getD false) = true →
      (pulseValid rise1 rise2 fall1 fall2 = true → Gives (exec (.ackPulse n key rise1 rise2 fall1 fall2) s) fun t =>
        t.fab.resets = satAdd 32 s.fab.resets 1 ∧ t.fab.invalid = s.fab.invalid ∧
        ∀ i m, i < 16 → s.mapInst i = some m → (s.inst i).state = .locked → causeGone a i m = true →
          (t.inst i).state = .tripped ∧ (t.inst i).cause = 0x15) ∧
      (pulseValid rise1 rise2 fall1 fall2 = false → Gives (exec (.ackPulse n key rise1 rise2 fall1 fall2) s) fun t =>
        t.fab.invalid = satAdd 32 s.fab.invalid 1 ∧ t.fab.resets = s.fab.resets ∧ t.fab.insts = s.fab.insts)) ∧
    (∀ (i : Fin 16) m rise1 rise2 fall1 fall2, s.fab.powered = true → s.fab.lockout = 0 → s.mapInst i.val = some m → m.hasRst = true →
      (pulseValid rise1 rise2 fall1 fall2 = true → (s.inst i.val).state = .tripped → (s.inst i.val).owed = true →
        returnMet a i.val m = true → Gives (exec (.restartPulse n i rise1 rise2 fall1 fall2) s) fun t =>
          t.fab.resets = satAdd 32 s.fab.resets 1 ∧ (t.inst i.val).owed = false ∧
          ((s.inst i.val).request = false → (t.inst i.val).state = .run) ∧
          ((s.inst i.val).request = true → (t.inst i.val).state = .tripped)) ∧
      (pulseValid rise1 rise2 fall1 fall2 = false → Gives (exec (.restartPulse n i rise1 rise2 fall1 fall2) s) fun t =>
        t.fab.invalid = satAdd 32 s.fab.invalid 1 ∧ t.fab.insts = s.fab.insts))

/-- R151, R170 to R173, R179: a valid request frame is the fabric's latest; after two boundaries without one the request link is lost, every request bit
is 0 and no keepalive runs; the strobe run measures the reference; a dual-rail or memory fault locks the module out. (Model choices: assumption 12.) -/
def Obligations.RequestLinkAndLockout : Prop :=
  ∀ (n : Nat) (s : State),
    let a := s.atTime n
    s.fab.powered = true →
    (∀ bits : BitVec 128, a.frameValid bits = true → (s.fab.fired = false ∨ field bits.toNat 95 92 = 2) →
      Gives (exec (.requestFrame n bits) s) fun t =>
        t.fab.frame = some bits ∧ t.fab.seenFrame = true ∧ t.fab.fired = false ∧ t.fab.missed = 0 ∧
        t.fab.expect = some (BitVec.ofNat 32 (field bits.toNat 127 96) + 1) ∧ t.fab.insts = s.fab.insts ∧
        (bits.getLsbD 88 = false → t.fab.keepalive = 0)) ∧
    (∀ bits : BitVec 128, a.frameValid bits = false → Gives (exec (.requestFrame n bits) s) fun t =>
      t.fab.frame = s.fab.frame ∧ t.fab.missed = s.fab.missed + 1 ∧ t.fab.insts = s.fab.insts) ∧
    (∀ e, s.fab.expect = some e → s.fab.fired = false → 1 ≤ diff32 ((a.time.now + 10000) / a.tb % 2 ^ 32) e.toNat →
      diff32 ((a.time.now + 10000) / a.tb % 2 ^ 32) e.toNat < 2 ^ 31 → Gives (exec (.requestLinkTimeout n) s) fun t =>
        t.fab.fired = true ∧ t.fab.heldOpen = true ∧ t.fab.keepalive = 0 ∧ t.ctl.ledFallback = true ∧
        (s.Shaped → ∀ i, i < 16 → (t.inst i).request = false)) ∧
    (∀ ticks b, s.time.strobeMark = false → s.fab.runStart = some b →
      (a.time.now < b + 100000000 → Gives (exec (.boundaryStrobe n ticks) s) fun t =>
        t.fab.runTicks = s.fab.runTicks + ticks ∧ t.fab.runStart = some b) ∧
      (b + 100000000 ≤ a.time.now → (((s.fab.runTicks + ticks : Nat) : Int) - 100000).natAbs ≤ 5000 →
        Gives (exec (.boundaryStrobe n ticks) s) fun t => t.fab.runTicks = 0 ∧ t.fab.runStart = some a.time.now ∧
          t.fab.deviation = ((((s.fab.runTicks + ticks : Nat) : Int) - 100000).tdiv 10) ∧ t.fab.lockout = s.fab.lockout) ∧
      (b + 100000000 ≤ a.time.now → 5000 < (((s.fab.runTicks + ticks : Nat) : Int) - 100000).natAbs → s.fab.lockout = 0 →
        Gives (exec (.boundaryStrobe n ticks) s) fun t => t.fab.lockout = 2 ∧ t.fab.keepalive = 0)) ∧
    (s.fab.lockout = 0 →
      Gives (exec (.dualRailFault n) s) (fun t => t.fab.lockout = 3 ∧ t.fab.keepalive = 0 ∧ t.fab.pulse = none ∧
        (s.ctl.mode.canFault = true → t.ctl.mode = .faultStop)) ∧
      Gives (exec (.fabricMemoryFault n) s) (fun t => t.fab.lockout = 6 ∧ t.fab.keepalive = 0 ∧ t.fab.pulse = none ∧
        (s.ctl.mode.canFault = true → t.ctl.mode = .faultStop)))

/-- R155, R159, R160, R162: a Safety Map that passes every check is staged, one that fails is refused with its reason; the right digest from the same
session lets the copies be written, a wrong one or 60 s without one discards the map; the new map makes its instances TRIPPED with START; the periodic
check repairs a copy that differs, and locks out when the working copy differs from both. (Model choices: assumptions 11, 33.) -/
def Obligations.SafetyMapCommands : Prop :=
  ∀ (n : Nat) (via : Via) (s q : State) (c : Caller),
    let a := s.atTime n
    (∀ map, admission via (writeReq 0x4100 0x00 .domain map) a = (q, some c) → 3 ≤ c.level → s.ctl.mode = .stop → s.fab.writing = none →
      (mapReason map = 0 → Gives (exec (.mapWrite n via map) s) fun t =>
        t.fab.staged = some (map, a.time.now, via) ∧ t.fab.writeState = 1 ∧ t.fab.reason = 0 ∧ t.fab.map = s.fab.map) ∧
      (mapReason map ≠ 0 → Gives (exec (.mapWrite n via map) s) fun t =>
        t.fab.staged = none ∧ t.fab.writeState = 3 ∧ t.fab.reason = mapReason map ∧ t.fab.map = s.fab.map)) ∧
    (∀ digest map at0 w, admission via (writeReq 0x4101 0x03 .ostring digest) a = (q, some c) → 3 ≤ c.level → digest.length = 32 →
      s.fab.staged = some (map, at0, w) → sameCaller via w = true →
      (digest = Config.sha256 map → Gives (exec (.mapConfirm n via digest) s) fun t =>
        t.fab.staged = none ∧ t.fab.writing = some map ∧ t.fab.map = s.fab.map) ∧
      (digest ≠ Config.sha256 map → Gives (exec (.mapConfirm n via digest) s) fun t =>
        t.fab.staged = none ∧ t.fab.writing = s.fab.writing ∧ t.fab.writeState = 3 ∧ t.fab.reason = 5)) ∧
    (∀ map at0 w, s.fab.staged = some (map, at0, w) → at0 + 60000000000 ≤ a.time.now → Gives (exec (.mapExpiry n) s) fun t =>
      t.fab.staged = none ∧ t.fab.writeState = 4 ∧ t.fab.map = s.fab.map) ∧
    (∀ map, s.Shaped → s.fab.writing = some map → Gives (exec (.mapCopiesWritten n) s) fun t =>
      t.fab.map = some (map, readMap map) ∧ t.fab.copyA = t.fab.copyB ∧ t.fab.copyA.bytes = map ∧ t.fab.writing = none ∧ t.fab.writeState = 2 ∧
      ∀ i, i < 16 → (((readMap map).insts[i]?).isSome = true → (t.inst i).state = .tripped ∧ (t.inst i).cause = 0x14) ∧
        (((readMap map).insts[i]?).isSome = false → (t.inst i).state = .off)) ∧
    (∀ work copyA copyB m0 sm, s.fab.powered = true → s.fab.map = some (m0, sm) →
      (copyBytes (altered s.fab.copyA copyA) = work.getD m0 → copyBytes (altered s.fab.copyB copyB) = work.getD m0 →
        Gives (exec (.mapPeriodicCheck n work copyA copyB) s) fun t => t.fab.lockout = s.fab.lockout ∧ t.fab.insts = s.fab.insts) ∧
      (copyBytes (altered s.fab.copyA copyA) = work.getD m0 → copyBytes (altered s.fab.copyB copyB) ≠ work.getD m0 →
        Gives (exec (.mapPeriodicCheck n work copyA copyB) s) fun t =>
          t.fab.copyB = altered s.fab.copyA copyA ∧ t.fab.copyA = altered s.fab.copyA copyA ∧ t.fab.lockout = s.fab.lockout) ∧
      (copyBytes (altered s.fab.copyA copyA) ≠ work.getD m0 → copyBytes (altered s.fab.copyB copyB) = work.getD m0 →
        Gives (exec (.mapPeriodicCheck n work copyA copyB) s) fun t =>
          t.fab.copyA = altered s.fab.copyB copyB ∧ t.fab.copyB = altered s.fab.copyB copyB ∧ t.fab.lockout = s.fab.lockout) ∧
      (copyBytes (altered s.fab.copyA copyA) ≠ work.getD m0 → copyBytes (altered s.fab.copyB copyB) ≠ work.getD m0 → s.fab.lockout = 0 →
        Gives (exec (.mapPeriodicCheck n work copyA copyB) s) fun t => t.fab.lockout = 4 ∧ t.fab.keepalive = 0))

/-- R186 to R190, R194, R200, R203, R205, R206: a sample runs every channel of its group through its chain; good state and edge frames reach the Commons,
bad ones are counted; a silent group is lost; a group takes its configuration and acknowledges it; a bank swap exchanges the banks of the groups
named; MAX_ON and CHATTER are set at their limits. (Model choices: assumption 34.) -/
def Obligations.FieldGroups : Prop :=
  ∀ (n : Nat) (s : State) (g : Fin 8),
    let a := s.atTime n
    let q := a.group g
    s.Shaped →
    (∀ x : SampleIn, q.up = true → Gives (exec (.sample n g x) s) fun t =>
      let vf := vfOf ((x.vfCode :: q.vfCodes).take 64)
      let low := vfLowOf vf (a.odNat (gIndex g) 0x01) q.vfLow
      (t.group g).sampleNo = a.time.now / 25000 ∧ (t.group g).vf = vf ∧ (t.group g).vfLow = low ∧
      (∀ k, (t.group g).chan k = a.sampleChan g q vf low x k) ∧ ∀ h, h ≠ g → t.group h = s.group h) ∧
    (∀ bytes, linkFrameOk g 0x01 (0x4C + 8 * q.countChans.length + 2) bytes = true →
      leAt bytes 2 2 = a.cycleNow % 65536 → a.intoCycle ≤ 36000 → ¬ (q.linkLost = true ∧ q.frameSeen = true) →
      Gives (exec (.stateFrame n g bytes) s) fun t =>
        (t.group g).frameSeen = true ∧ (t.group g).linkLost = false ∧
        (t.group g).fieldWords = tabulate 16 (fun k => BitVec.ofNat 32 (leAt bytes (0x0C + 4 * k) 4)) ∧
        (t.group g).countWords = countWordsOf q.countChans bytes ∧ (t.group g).vfSeen = BitVec.ofNat 16 (leAt bytes 4 2) ∧
        ∀ h, h ≠ g → t.group h = s.group h) ∧
    (∀ bytes, linkFrameOk g 0x01 (0x4C + 8 * q.countChans.length + 2) bytes = false → Gives (exec (.stateFrame n g bytes) s) fun t =>
      t.group g = { q with crcErrors := satAdd 32 q.crcErrors 1 } ∧ t.fio.edges = s.fio.edges) ∧
    (∀ bytes, linkFrameOk g 0x02 (4 + 4 * leAt bytes 2 1 + 2) bytes = true → 1 ≤ leAt bytes 2 1 → leAt bytes 2 1 ≤ 16 →
      Gives (exec (.edgeFrame n g bytes) s) fun t =>
        t.fio = ((tabulate (leAt bytes 2 1) (fun k => leAt bytes (4 + 4 * k) 4)).foldl (takeEdge g) a).fio ∧
        (∀ e ∈ s.fio.edges, e ∈ t.fio.edges) ∧
        (leAt bytes 2 1 = 1 → a.odBool (0x3100 + (16 * g.val + field (leAt bytes 4 4) 31 28 % 16)) 0x02 = true → a.imageSealedNow = false →
          t.fio.edges = s.fio.edges ++ [{ chan := Fin.ofNat 128 (16 * g.val + field (leAt bytes 4 4) 31 28 % 16)
                                          rising := (leAt bytes 4 4).testBit 27
                                          stamp := edgeStamp a.time.now (field (leAt bytes 4 4) 26 0) }])) ∧
    (∀ bytes, linkFrameOk g 0x02 (4 + 4 * leAt bytes 2 1 + 2) bytes = false → Gives (exec (.edgeFrame n g bytes) s) fun t =>
      t.group g = { q with crcErrors := satAdd 32 q.crcErrors 1 } ∧ t.fio.edges = s.fio.edges) ∧
    (q.frameSeen = false → 36000 ≤ a.intoCycle → Gives (exec (.groupLinkTimeout n g) s) fun t =>
      t.group g = { q with missed := satAdd 32 q.missed 1, linkLost := true, frameSeen := true }) ∧
    (q.up = true →
      (∀ c code, Gives (exec (.configWrite n g (.func c code)) s) fun t =>
        ((t.group g).chan c).func = code ∧ (t.group g).ack = some true ∧ ∀ d, d ≠ c → (t.group g).chan d = q.chan d) ∧
      (∀ c sub v, Gives (exec (.configWrite n g (.setting c sub v)) s) fun t => t.group g = { q with ack := some true }) ∧
      (∀ b c e, (isInputFn (q.chan c).fn && !aligned e (a.odNat (gIndex g) 0x02)) = false →
        Gives (exec (.configWrite n g (.bankEntry b c e)) s) fun t => (t.group g).ack = some true ∧
          (t.group g).entriesB = (if b then q.entriesB.set c.val e else q.entriesB) ∧
          (t.group g).entriesA = (if b then q.entriesA else q.entriesA.set c.val e)) ∧
      (∀ b c e, (isInputFn (q.chan c).fn && !aligned e (a.odNat (gIndex g) 0x02)) = true →
        Gives (exec (.configWrite n g (.bankEntry b c e)) s) fun t => t.group g = { q with ack := some false }) ∧
      (∀ k, Gives (exec (.configWrite n g (.swap k)) s) fun t => t.group g = { q with swapAt := some k, ack := some true })) ∧
    (∀ ok, q.ack = some ok → Gives (exec (.configAck n g ok) s) fun t => t.group g = { q with ack := none }) ∧
    (s.fio.swapState = 1 → s.fio.swapAt ≤ a.cycleNow → Gives (exec (.bankSwap n) s) fun t =>
      t.fio.swapState = 2 ∧ t.fio.swapCycle = s.fio.swapAt ∧
      t.group g = (if s.fio.swapGroups.getLsbD g.val then q.swapBank else q)) ∧
    (∀ ch : Fin 128, a.odNat (chIndex ch) 0x04 ≠ 0 → (s.chan ch).maxOn = false → (s.chan ch).state = true →
      overUs (s.chan ch).onFor (a.odNat (chIndex ch) 0x04 * 100000) = true → Gives (exec (.maxOn n ch) s) fun t =>
        t.chan ch = { s.chan ch with maxOn := true }) ∧
    (∀ ch : Fin 128, Gives (exec (.chatterWindow n ch) s) fun t =>
      t.chan ch = { s.chan ch with rejectedLast := satAt 65535 (s.chan ch).rejected, rejected := 0
                                   chatter := decide (a.odNat (chIndex ch) 0x05 ≠ 0 ∧ a.odNat (chIndex ch) 0x05 < (s.chan ch).rejected) })

/-- R192, R195, R196, R202 to R204, R227, R233: accepted host writes of channels, groups and banks are kept as written; a group that runs takes a function
or a bank entry at once; a swap waits for the cycle after next; a bank entry that fails the alignment equation is not kept. (Model choices:
assumptions 11, 34.) -/
def Obligations.FieldWrites : Prop :=
  ∀ (n : Nat) (via : Via) (s q : State) (c : Caller),
    let a := s.atTime n
    let served (i u : Nat) (ty : OdType) (d : Bytes) : Prop := admission via (writeReq i u ty d) a = (q, some c)
    s.Shaped →
    (∀ (ch : Fin 128) (v : BitVec 8), served (chIndex ch) 0x01 .u8 (leBytes 1 v.toNat) →
      q.plainFault (chIndex ch) 0x01 c.level .u8 (leBytes 1 v.toNat) = stOk → Gives (exec (.functionWrite n via ch v) s) fun t =>
        t.odGet (chIndex ch) 0x01 = leBytes 1 v.toNat ∧ ((s.group (chGroup ch)).up = true → (t.chan ch).func = v) ∧
        ((s.group (chGroup ch)).up = false → t.fio = s.fio)) ∧
    (∀ (ch : Fin 128) (b : Bool) (e : BitVec 128),
      let i := bankIndex b (chGroup ch)
      let u := (chNo ch).val + 1
      let d := beBytes 16 e.toNat
      served i u .ostring d → writeRight i u c.level = stOk → q.bankWritable (chGroup ch) b = true → typeBad i u .ostring d = stOk →
      entryRange e = true →
      ((isInputFn (q.chanFn ch) && !aligned e (q.odNat (gIndex (chGroup ch)) 0x02)) = false →
        Gives (exec (.bankEntryWrite n via b ch e) s) fun t => t.odGet i u = d ∧
          ((s.group (chGroup ch)).up = true → (if b then (t.group (chGroup ch)).entriesB = (s.group (chGroup ch)).entriesB.set (chNo ch).val e
            else (t.group (chGroup ch)).entriesA = (s.group (chGroup ch)).entriesA.set (chNo ch).val e))) ∧
      ((isInputFn (q.chanFn ch) && !aligned e (q.odNat (gIndex (chGroup ch)) 0x02)) = true →
        Gives (exec (.bankEntryWrite n via b ch e) s) fun t => t.odGet i u = q.odGet i u ∧ t.fio = s.fio)) ∧
    (∀ (g : Fin 8) (v : BitVec 8), served (gIndex g) 0x02 .u8 (leBytes 1 v.toNat) →
      q.plainFault (gIndex g) 0x02 c.level .u8 (leBytes 1 v.toNat) = stOk →
      q.bankMisaligned false g v.toNat = false → q.bankMisaligned true g v.toNat = false →
      Gives (exec (.alignmentWrite n via g v) s) fun t => t.odGet (gIndex g) 0x02 = leBytes 1 v.toNat ∧ t.fio = s.fio) ∧
    (∀ groups : BitVec 8, served 0x3220 0x09 .u8 [groups] → q.writeFault 0x3220 0x09 c.level = stOk →
      groupNos.any (fun g => groups.getLsbD g.val && (q.odNat (gIndex g) 0x03 = 0 && q.ctl.mode ≠ .stop)) = false →
      q.swapReason groups = 0 → Gives (exec (.bankSwapRequest n via groups) s) fun t =>
        t.fio.swapState = 1 ∧ t.fio.swapGroups = groups ∧ t.fio.swapAt = a.cycleNow + 2 ∧ t.fio.groups = s.fio.groups) ∧
    (∀ (ch : Fin 128) (v : BitVec 8), served (chIndex ch) 0x10 .u8 [v] → q.plainFault (chIndex ch) 0x10 c.level .u8 [v] = stOk →
      Gives (exec (.safeStateWrite n via ch v) s) fun t => t.odGet (chIndex ch) 0x10 = [v] ∧ t.fio = s.fio) ∧
    (∀ (g : Fin 8) (v : BitVec 8), served (gIndex g) 0x11 .bool [v] → q.plainFault (gIndex g) 0x11 c.level .bool [v] = stOk →
      Gives (exec (.deratingWrite n via g v) s) fun t => t.odGet (gIndex g) 0x11 = [v] ∧ t.fio = s.fio) ∧
    (∀ (ch : Fin 128) (v : BitVec 16), served (chIndex ch) 0x11 .u16 (leBytes 2 v.toNat) →
      q.plainFault (chIndex ch) 0x11 c.level .u16 (leBytes 2 v.toNat) = stOk →
      Gives (exec (.tripThresholdWrite n via ch v) s) fun t => t.odGet (chIndex ch) 0x11 = leBytes 2 v.toNat ∧ t.fio = s.fio)

/-- R27, R185, R215 to R232, R342: a group keeps a good output frame for its instant and counts a bad one; a due frame commands its channels; the
protections trip, hold open, mark and release a channel; a silent group takes the safe states; the pumped rail follows the keepalive. (Model choices:
assumption 34.) -/
def Obligations.Outputs : Prop :=
  ∀ (n : Nat) (s : State) (g : Fin 8) (ch : Fin 128),
    let a := s.atTime n
    let q := s.group g
    let c := s.chan ch
    s.Shaped →
    (∀ bytes k, q.up = true → linkFrameOk g 0x10 14 bytes = true → applySample a.time.now (leAt bytes 4 4) = some k →
      a.time.now < k * 25000 → k * 25000 ≤ a.time.now + 4000000 → q.pending.any (fun p => p.apply == k) = false → q.pending.length < 2 →
      Gives (exec (.outputFrame n g bytes) s) fun t => t.group g = { q with
        frameAt := some a.time.now
        pending := q.pending ++ [{ apply := k, cmd := BitVec.ofNat 16 (leAt bytes 8 2), cycle := BitVec.ofNat 16 (leAt bytes 2 2) }] }) ∧
    (∀ bytes, q.up = true → linkFrameOk g 0x10 14 bytes = false → Gives (exec (.outputFrame n g bytes) s) fun t =>
      t.group g = { q with crcErrors := satAdd 32 q.crcErrors 1 }) ∧
    (∀ bytes, q.up = true → linkFrameOk g 0x11 6 bytes = true → Gives (exec (.driveFrame n g bytes) s) fun t =>
      t.group g = { q with drive := leAt bytes 2 1 == 1 }) ∧
    (∀ f : OutFrame, q.pending = [f] → f.apply * 25000 ≤ a.time.now → Gives (exec (.applyInstant n g) s) fun t =>
      (t.group g).pending = [] ∧ (t.group g).silent = false ∧
      (∀ k, isProcFn (q.chan k).fn = true → ((t.group g).chan k).cmd = f.cmd.getLsbD k.val) ∧
      (∀ k, isProcFn (q.chan k).fn = false → (t.group g).chan k = q.chan k)) ∧
    (isOutputFn c.fn = true → c.tripped = false →
      ((c.overFor ≠ 0 ∧ a.odNat (chIndex ch) 0x12 * 1000 ≤ 25 * (c.overFor - 1)) ∨ a.rating ch * 40000 < c.current.foldl (· + ·) 0) →
      Gives (exec (.overcurrentTrip n ch) s) fun t => t.chan ch = { c with tripped := true, trips := satAdd 32 c.trips 1 }) ∧
    (isOutputFn c.fn = true → c.short = false →
      ((c.limitFor ≠ 0 ∧ 200 ≤ 25 * (c.limitFor - 1)) ∨ (c.inrushFor ≠ 0 ∧ 20000 ≤ 25 * (c.inrushFor - 1))) →
      Gives (exec (.shortCircuit n ch) s) fun t => t.chan ch = { c with tripped := true, short := true, trips := satAdd 32 c.trips 1 }) ∧
    (∀ energy, (s.group (chGroup ch)).up = true → Gives (exec (.demagOver n ch energy) s) fun t =>
      t.chan ch = (if 200 < energy then { c with clamp := satAt 65535 energy, demagOver := true, heldUntil := some (a.time.now + 1000000000) }
        else { c with clamp := satAt 65535 energy })) ∧
    (∀ u, c.heldUntil = some u → u ≤ a.time.now → Gives (exec (.demagHoldExpiry n ch) s) fun t =>
      t.chan ch = { c with demagOver := false, heldUntil := none }) ∧
    (q.inhibit = true → a.clampSum g < 1500 → 10 * a.currentSum g < 9 * a.currentLimit g → Gives (exec (.switchOnResumed n g) s) fun t =>
      t.group g = { q with inhibit := false }) ∧
    (isOutputFn c.fn = true →
      (c.openLoad = false → (span100 c.lowCurFor = true ∨ span100 c.biasFor = true) → Gives (exec (.openLoad n ch) s) fun t =>
        t.chan ch = { c with openLoad := true }) ∧
      (c.openLoad = true → (span100 c.curFor = true ∨ span100 c.biasOff = true) → Gives (exec (.openLoad n ch) s) fun t =>
        t.chan ch = { c with openLoad := false }) ∧
      (c.stuckHigh = false → overUs c.stuckHighFor 500 = true → Gives (exec (.switchStuck n ch) s) fun t =>
        t.chan ch = { c with stuckHigh := true }) ∧
      (c.fn = 0x20 → (c.stuckHigh = true ∨ overUs c.stuckHighFor 500 = false) → c.stuckLow = false → overUs c.stuckLowFor 500 = true →
        Gives (exec (.switchStuck n ch) s) fun t => t.chan ch = { c with stuckLow := true })) ∧
    (∀ f, q.frameAt = some f → q.up = true → q.silent = false → f + a.odNat (gIndex g) 0x10 * 1000000 ≤ a.time.now →
      Gives (exec (.groupOutputSilent n g) s) fun t =>
        (t.group g).pending = [] ∧ (t.group g).silent = true ∧ (t.group g).silences = satAdd 32 q.silences 1 ∧
        ∀ k : Fin 16, a.safeState (Fin.ofNat 128 (16 * g.val + k.val)) = 0 → isProcFn (q.chan k).fn = true → ((t.group g).chan k).cmd = false) ∧
    (s.fab.keepalive.getLsbD g.val = false → Gives (exec (.keepaliveLoss n g) s) fun t => t.group g = { q with rail := false }) ∧
    (s.fab.keepalive.getLsbD g.val = true → q.up = true → Gives (exec (.pumpedRailAtHoldLevel n g) s) fun t =>
      t.group g = { q with rail := true }) ∧
    Gives (exec (.groupConverterFail n g) s) (fun t => t.group g = q.powerDown ∧ (t.group g).up = false ∧ (t.group g).rail = false)

/-- R235 to R244, R249 to R251, R257: frames of the consist switch. A frame that the MAC refuses is an ingress drop; a good frame of an ordinary port is
counted and switched; an idle port starts the frame that its gate admits, and a local frame that the guardian does not let through is withheld; a
local frame still on the wire at its window's end is cut; an old learnt address leaves the table; links go down and up; supervision frames are sent
and missed. (Model choices: assumptions 5, 21, 35.) -/
def Obligations.SwitchFramesAndLinks : Prop :=
  ∀ (n : Nat) (s : State) (p : Fin 11),
    let a := s.atTime n
    let q := s.port p
    let idle : Prop := ∀ x e w, q.onWire = some (x, e, w) → e ≤ a.time.now
    s.Shaped → s.sw.running = true →
    (∀ f, p ≠ 0 → (p = 10 ∨ q.link ≠ 0) → macDrops f = true → Gives (exec (.frameReceived n p f) s) fun t =>
      t.port p = { q with inDrops := satAdd 64 q.inDrops 1 } ∧ t.sent = s.sent) ∧
    (∀ f, q.link ≠ 0 → macDrops f = false →
      (p = 7 → Gives (exec (.frameReceived n p f) s) fun t =>
        t.sw.toI1 = s.sw.toI1 ++ [(p, f)] ∧ (t.port p).rx = satAdd 64 q.rx 1) ∧
      (p ≠ 0 → p ≠ 7 → p ≠ 8 → a.portRed p = 0 → Gives (exec (.frameReceived n p f) s) fun t =>
        t = switchFrame p f (a.modPort p (fun x => { x with rx := satAdd 64 x.rx 1 })) ∧
        (a.member (a.vlanOf p f).1 p = false → t.port p = { q with rx := satAdd 64 q.rx 1, inDrops := satAdd 64 q.inDrops 1 }))) ∧
    (∀ x, q.link ≠ 0 → idle → schedNo p = none → q.queue = [x] → x.isLocal = true → Gives (exec (.frameTransmit n p) s) fun t =>
      t.sent = s.sent ++ [.eth p x.f] ∧
      t.port p = { q with queue := [], tx := satAdd 64 q.tx 1, onWire := some (x, a.time.now + wireNs q.link.val x.f.len, a.time.now) }) ∧
    (∀ x k w, q.link ≠ 0 → idle → schedNo p = some k → openWin (a.winTable k) (a.cycleNow % a.macroM) a.intoCycle = some w →
      (w.kind = 1 → ∀ y ∈ q.queue, y.stream = some w.stream →
        a.isStale (a.winTable k) (a.time.now - a.intoCycle + w.start) y = false) →
      firstFor w q.queue = some x → x.isLocal = true → a.gateOpen w a.intoCycle (wireNs q.link.val x.f.len) x = true →
      (a.guardianOpen k (a.cycleNow % a.macroM) a.intoCycle (wireNs q.link.val x.f.len) x = true →
        Gives (exec (.frameTransmit n p) s) fun t => t.sent = s.sent ++ [.eth p x.f] ∧ (t.port p).queue = takeOut x q.queue ∧
          (t.port p).tx = satAdd 64 q.tx 1) ∧
      (a.guardianOpen k (a.cycleNow % a.macroM) a.intoCycle (wireNs q.link.val x.f.len) x = false →
        Gives (exec (.frameTransmit n p) s) fun t => t.sent = s.sent ∧ (t.port p).queue = takeOut x q.queue ∧ (t.port p).tx = q.tx ∧
          t.sw.withheld = satAdd 64 s.sw.withheld 1)) ∧
    (∀ x e stop, q.onWire = some (x, e, stop) → x.isLocal = true → (schedNo p).isSome = true → stop ≤ a.time.now → a.time.now < e →
      Gives (exec (.guardianCut n p) s) fun t => t.port p = { q with onWire := none } ∧ t.sw.cut = satAdd 32 s.sw.cut 1 ∧
        t.sent = s.sent ++ [.etherCut p]) ∧
    (∀ mac, Gives (exec (.macAgeOut n mac) s) fun t => ∀ e, e ∈ t.sw.macs ↔ e ∈ s.sw.macs ∧
      ¬ (e.1 = mac ∧ e.2.2.2.1 = false ∧ e.2.2.2.2 + a.odNat 0x5000 0x03 * 1000000000 ≤ a.time.now)) ∧
    (q.link ≠ 0 → Gives (exec (.linkDown n p) s) fun t => (t.port p).link = 0 ∧ (t.port p).onWire = none ∧ (t.port p).queue = q.queue) ∧
    (∀ speed : Fin 4, a.portEnabled p = true → q.link ≠ speed →
      (if 1 ≤ p.val ∧ p.val ≤ 6 then speed = 1 ∨ speed = 2 else if p = 7 then speed = 1 else (p = 8 ∨ p = 9) ∧ speed = 3) →
      Gives (exec (.linkUp n p speed) s) fun t =>
        t.port p = { q with link := speed, degraded := false, supervisionAt := some a.time.now }) ∧
    (∀ k : Fin 2, a.redMode k ≠ 0 → pairOf p = some k → q.link ≠ 0 → q.queue = [] → Gives (exec (.supervisionFrameSend n k) s) fun t =>
      t.redSeq k = s.redSeq k + 1 ∧
      ∃ x, (t.port p).queue = [x] ∧ x.cls = 5 ∧ x.isLocal = true ∧ x.f.dest = 0x01154E000100#48 ∧ x.f.src = ownMac) ∧
    (a.portRed p ≠ 0 → (match q.supervisionAt with
        | some x => x + 6000000000 ≤ a.time.now
        | none => True) → Gives (exec (.redundancyDegraded n p) s) fun t => t.port p = { q with degraded := true })

/-- R252 to R258: a sending candidate queues its beacon on every scheduled port whose link is up; a beacon heard is compared with the node's own cycle; a
master yields to a better one; a candidate starts sending at its limit; a guardian whose copy differs, or whose counter jumps, is closed, and reopens
after 1 s of good values. (Model choices: assumptions 20, 35.) -/
def Obligations.BeaconAndGuardians : Prop :=
  ∀ (n : Nat) (s : State) (p : Fin 11),
    let a := s.atTime n
    s.Shaped →
    (s.sw.running = true → s.sw.beacon = 2 → p ∈ schedPorts → (s.port p).link ≠ 0 → (s.port p).queue = [] →
      Gives (exec (.beaconSend n) s) fun t =>
        ∃ x, (t.port p).queue = [x] ∧ x.cls = 7 ∧ x.stream = some 0 ∧ x.isLocal = true ∧ x.f.dest = 0x034A45000001#48 ∧
          x.f.etype = 0x88B5 ∧ x.f.payload = a.beaconPayload a.cycleNow) ∧
    (∀ m payload, (schedNo p).bind a.beaconCycle = some m → s.sw.running = true → payload.length = 48 → beAt payload 0 2 = 0x0101 →
      Gives (exec (.beaconReceived n p payload) s) fun t =>
        t.sw.heard = true ∧ t.sw.heardCycle = true ∧ t.sw.missRun = 0 ∧ t.sw.master = BitVec.ofNat 16 (beAt payload 2 2) ∧
        (a.beaconDiffers m payload = 0 → t.sw.badRun = 0 ∧ t.sw.goodRun = s.sw.goodRun + 1) ∧
        (a.beaconDiffers m payload ≠ 0 → t.sw.badRun = s.sw.badRun + 1 ∧ t.sw.goodRun = 0 ∧ (1 ≤ s.sw.badRun → t.hasCause 1 = true)) ∧
        (s.sw.beacon = 2 → beAt payload 2 2 ≠ a.nodeId.toNat → beAt payload 4 1 < a.beaconRank.getD 0 →
          t.sw.beacon = 1 ∧ t.sw.yielded = true)) ∧
    (∀ r, a.beaconRank = some r → s.sw.running = true → s.sw.beacon ≠ 2 →
      (if s.sw.heard then 1 ≤ r ∧ r + 1 ≤ s.sw.missRun else 8 + 4 * r ≤ s.sw.since) → Gives (exec (.beaconTimeout n) s) fun t =>
        t.sw.beacon = 2 ∧ t.sw.master = a.nodeId) ∧
    (∀ readBack m, s.sw.matrix = some m →
      let copy := s.sw.guardCopy.zipIdx.map (fun e => readBackTable e.1 ((readBack[e.2]?).getD none))
      Gives (exec (.guardianTableCheck n readBack) s) fun t => t.sw.guardCopy = copy ∧ t.sw.matrix = some m ∧
        (copy = m.windows → s.sw.guardStreams = m.streams → t.sw.causes = s.sw.causes) ∧
        (copy ≠ m.windows → t.hasCause 2 = true)) ∧
    (∀ value elapsed v, (s.sw.guardTime[p.val]?).getD none = some v → Gives (exec (.guardianCounterFault n p value elapsed) s) fun t =>
      t.sw.guardTime = modAt p.val (fun _ => some value) s.sw.guardTime ∧
      ((((value : Nat) : Int) - ((v + elapsed : Nat) : Int)).natAbs ≤ 40 → t.sw.causes = s.sw.causes) ∧
      (40 < (((value : Nat) : Int) - ((v + elapsed : Nat) : Int)).natAbs → t.hasCause 3 = true ∧ t.sw.counterBadAt = some a.time.now)) ∧
    (∀ x, s.sw.counterBadAt = some x → x + 1000000000 ≤ a.time.now → Gives (exec (.counterCauseCleared n) s) fun t =>
      t.hasCause 3 = false ∧ t.sw.counterBadAt = none)

/-- R262 to R272, R276, R279: messages of a PTP slot. An offset sample acquires the time, is refused when it jumps, or is accepted; a silent slot is
SILENT; an Announce gives a better master, or makes the module grandmaster; delays are measured and requests answered; Sync, Announce and delay
requests are sent by the port they belong to; a Follow_Up takes its residence time along. (Model choices: assumptions 5, 36.) -/
def Obligations.PtpSlots : Prop :=
  ∀ (n : Nat) (j : Fin 2) (p : Fin 11) (s : State),
    let a := s.atTime n
    let x := s.ptp j
    let corrected := x.corrected + (match x.sampleAt with
      | some at0 => a.phaseSince at0
      | none => 0)
    let change (offset : Int) : Int := offset - x.accepted.getD 0 - (if x.accepted.isSome then corrected else 0)
    let first : Bool := s.time.armed && s.time.selected = j
    (∀ offset, x.state ≠ .disabled → x.state ≠ .grandmaster → x.master.isSome = true → x.delay.isSome = true →
      (first = true → s.ctl.mode.maySteps = true → Gives (exec (.ptpSync n j offset) s) fun t =>
        t.time.acquired = true ∧ t.time.armed = false ∧ t.time.calendarValid = true ∧ t.time.stepPending = some (offset, false) ∧
        (t.ptp j).accepted = some offset ∧ (t.ptp j).state = .measuring) ∧
      ((first && s.ctl.mode.maySteps) = false → a.jumpLimit < (change offset).natAbs → Gives (exec (.ptpSync n j offset) s) fun t =>
        (t.ptp j).state = .refused ∧ (t.ptp j).jumps = satAdd 24 x.jumps 1 ∧ (t.ptp j).refusedAt = some a.time.now ∧
        (t.ptp j).accepted = x.accepted ∧ (t.ptp j).run500 = 0 ∧ t.time.rate = s.time.rate) ∧
      ((first && s.ctl.mode.maySteps) = false → (change offset).natAbs ≤ a.jumpLimit → Gives (exec (.ptpSync n j offset) s) fun t =>
        (t.ptp j).accepted = some offset ∧ (t.ptp j).corrected = 0 ∧ (t.ptp j).offset = offset ∧
        (t.ptp j).run500 = (if offset.natAbs ≤ 500 then x.run500 + 1 else 0) ∧
        (x.state ≠ .locked → 15 ≤ x.run500 → offset.natAbs ≤ 500 → (t.ptp j).state = .locked) ∧
        (500 < offset.natAbs → (t.ptp j).state = .measuring))) ∧
    ((x.state = .measuring ∨ x.state = .locked) → (x.sampleAt.getD 0) + 3 * a.syncNs j ≤ a.time.now →
      Gives (exec (.syncSilence n j) s) fun t => (t.ptp j).state = .silent ∧ (t.ptp j).run500 = 0 ∧ (t.ptp j).run50 = 0) ∧
    (∀ an, x.state ≠ .disabled →
      (a.mayMaster j = true → rankLt (a.ownRank j) (announceRank an) = true → x.state = .listening →
        Gives (exec (.ptpAnnounce n j p an) s) fun t =>
          (t.ptp j).state = .grandmaster ∧ (t.ptp j).master = none ∧ (t.ptp j).gm = Config.clockIdentity) ∧
      ((a.mayMaster j && rankLt (a.ownRank j) (announceRank an)) = false →
        (∀ m q, x.master = some (m, q) → (m.gm = an.gm ∧ q = p) ∨ rankLt (announceRank an) (announceRank m) = true) →
        Gives (exec (.ptpAnnounce n j p an) s) fun t =>
          (t.ptp j).master = some (an, p) ∧ (t.ptp j).announceAt = a.time.now ∧ (t.ptp j).gm = an.gm) ∧
      ((a.mayMaster j && rankLt (a.ownRank j) (announceRank an)) = false →
        (∀ m q, x.master = some (m, q) → ¬ (m.gm = an.gm ∧ q = p) ∧ rankLt (announceRank an) (announceRank m) = false) →
        x.master ≠ none → Gives (exec (.ptpAnnounce n j p an) s) fun t => t.ptp j = x)) ∧
    (x.state ≠ .disabled → x.state ≠ .grandmaster → x.announceAt + 3 * a.announceNs j ≤ a.time.now →
      Gives (exec (.announceTimeout n j) s) fun t => (t.ptp j).master = none ∧
        (a.mayMaster j = true → x.state = .listening → (t.ptp j).state = .grandmaster) ∧
        ((a.mayMaster j && x.state = .listening) = false → (t.ptp j).state = x.state ∧ (t.ptp j).delay = none)) ∧
    (∀ delay, s.Shaped → x.state ≠ .disabled →
      (x.state = .grandmaster → Gives (exec (.ptpDelayMessage n j p .delayReq delay) s) fun t => t.sent = s.sent ++ [.ptp j p 9 0]) ∧
      (x.master.map (·.2) = some p →
        Gives (exec (.ptpDelayMessage n j p .delayResp delay) s) (fun t => (t.ptp j).delay = some delay) ∧
        Gives (exec (.ptpDelayMessage n j p .pdelayResp delay) s) (fun t => (t.ptp j).delay = some delay ∧ (t.port p).linkDelay = delay) ∧
        Gives (exec (.ptpDelayMessage n j p .pdelayRespFollowUp delay) s) (fun t =>
          (t.ptp j).delay = some delay ∧ (t.port p).linkDelay = delay)) ∧
      (x.master.map (·.2) ≠ some p → Gives (exec (.ptpDelayMessage n j p .pdelayResp delay) s) fun t =>
        t.ptp j = x ∧ (t.port p).linkDelay = delay) ∧
      Gives (exec (.ptpDelayMessage n j p .pdelayReq delay) s) (fun t => t.sent = s.sent ++ [.ptp j p 3 0])) ∧
    (∀ ds, (x.state ≠ .disabled → Gives (exec (.ptpManagement n j p true ds) s) fun t => t.sent = s.sent ++ [.ptp j p 13 0]) ∧
      Gives (exec (.ptpManagement n j p false ds) s) (fun t => t = a)) ∧
    (a.masterOn j p = true →
      Gives (exec (.ptpSyncSend n j p) s) (fun t => t.sent = s.sent ++
        (if a.odForceNat 0x6001 (ptpSub j 0x03) = 2 then [.ptp j p 0 0, .ptp j p 8 0] else [.ptp j p 0 0])) ∧
      Gives (exec (.announceSend n j p) s) (fun t => t.sent = s.sent ++ [.ptp j p 11 0])) ∧
    (x.state ≠ .disabled →
      (a.odForceNat 0x6001 (ptpSub j 0x03) ≠ 0 → Gives (exec (.delayReqSend n j p) s) fun t => t.sent = s.sent ++ [.ptp j p 2 0]) ∧
      (a.odForceNat 0x6001 (ptpSub j 0x03) = 0 → x.master.map (·.2) = some p → Gives (exec (.delayReqSend n j p) s) fun t =>
        t.sent = s.sent ++ [.ptp j p 1 0])) ∧
    (∀ seqId srcPort correction,
      let live := s.time.residences.filter (fun r => a.time.now ≤ r.time + 1000000000)
      let hit (r : Residence) : Bool := r.seqId = seqId && (r.srcPort = srcPort && r.port = p)
      (∀ r, live.find? hit = some r → correction + (r.residence : Int) < 2 ^ 47 →
        Gives (exec (.followUp n p seqId srcPort correction) s) fun t =>
          t.sent = s.sent ++ [.ptp 0 p 8 (correction + (r.residence : Int))] ∧ t.time.residences = live.filter (fun r => !hit r)) ∧
      (live.find? hit = none → Gives (exec (.followUp n p seqId srcPort correction) s) fun t =>
        t.sent = s.sent ∧ t.time.unmatched = satAdd 32 s.time.unmatched 1))

/-- R273 to R280, R284: the time base. The preferred slot is selected after 10 s; an exhausted holdover ends TIME_LOCKED and closes the guardians; a
reference that moved is slewed to, or waits for REBASE; a completed slew ends; a host servo that falls silent leaves HOLDOVER; REBASE waits for its
boundary, and a servo mode for the next sample. (Model choices: assumptions 36, 54.) -/
def Obligations.TimeBaseCommands : Prop :=
  ∀ (n : Nat) (via : Via) (s q : State) (c : Caller),
    let a := s.atTime n
    (∀ (j : Fin 2) e, j = (if a.odNat 0x6001 0x21 = 0 then 0 else 1) → (s.ptp j).eligibleSince = some e → s.time.selected ≠ j →
      a.eligible j = true → e + 10000000000 ≤ a.time.now → Gives (exec (.domainPreference n) s) fun t => t.time.selected = j) ∧
    (s.time.state = .holdover → s.time.timeLocked = true → a.lockedNow = false → Gives (exec (.holdoverExhausted n) s) fun t =>
      t.time.timeLocked = false ∧ t.hasCause 0 = true ∧ t.time.state = .holdover) ∧
    (∀ v, a.steadyMove = some v →
      let move := (s.ptp s.time.selected).offset
      (move.natAbs ≤ 100000000 → (s.time.state ≠ .free ∨ s.ctl.mode.active = true) → Gives (exec (.referenceMoved n) s) fun t =>
        t.time.state = .slewing ∧ t.time.slew = move ∧ t.time.phase = slewPhase move ∧ t.time.refMoved = none) ∧
      (¬ (move.natAbs ≤ 100000000 ∧ (s.time.state ≠ .free ∨ s.ctl.mode.active = true)) → Gives (exec (.referenceMoved n) s) fun t =>
        t.time.refMoved = some move ∧ t.time.state = s.time.state ∧ t.time.slew = s.time.slew)) ∧
    (s.time.state = .slewing → s.time.slew ≠ 0 → a.slewLeft = 0 → Gives (exec (.slewComplete n) s) fun t =>
      t.time.slew = 0 ∧ t.time.phase = 0) ∧
    (hostMode a 2 = true → (s.time.state = .locked ∨ s.time.state = .slewing) → Gives (exec (.servoUpdateTimeout n) s) fun t =>
      t.time.state = .holdover ∧ t.time.holdoverSince = some a.time.now) ∧
    (admission via (writeReq 0x6000 0x10 .u8 [1]) a = (q, some c) → q.writeFault 0x6000 0x10 c.level = stOk → Gives (exec (.rebase n via) s) fun t =>
      t.ctl = { q.ctl with waiting := q.ctl.waiting ++ [{ boundary := q.hostBoundary, key := odKey 0x6000 0x10, data := [1], via
                                                          level := c.level, client := c.client }] } ∧ t.time = a.time) ∧
    (∀ v : BitVec 8, admission via (writeReq 0x1180 0x02 .u8 [v]) a = (q, some c) → q.plainFault 0x1180 0x02 c.level .u8 [v] = stOk →
      Gives (exec (.servoModeWrite n via v) s) fun t => t.odGet 0x1180 0x02 = [v] ∧
        t.time.servoPending = (if decide (v = 1) = s.time.hostServo then none else some (decide (v = 1))))

/-- R285: the TIME LED shows the module time state, while the Commons show the LEDs: green for LOCKED and GRANDMASTER, flashing green for HOLDOVER with
TIME_LOCKED 1, amber for HOLDOVER with TIME_LOCKED 0 and for FREE, flashing red for SLEWING and while REFERENCE_MOVED is set. -/
def Obligations.TimeLed : Prop :=
  ∀ s : State, s.ledsOn = true →
    (s.time.state = .slewing ∨ s.time.refMoved.isSome = true → s.ledTime = .flashRed) ∧
    (s.time.refMoved = none →
      (s.time.state = .locked ∨ s.time.state = .grandmaster → s.ledTime = .green) ∧
      (s.time.state = .holdover → s.time.timeLocked = true → s.ledTime = .flashGreen) ∧
      (s.time.state = .holdover → s.time.timeLocked = false → s.ledTime = .amber) ∧
      (s.time.state = .free → s.ledTime = .amber))

/-- R28, R291, R295, R306: process and message data. A telegram that passes every check becomes the next dataset of its subscription, one that fails is
counted and changes no subscription; a staged publication leaves with its sequence number; message data reaches the service cores, opens and ends its
session, and one beyond 64 sessions is refused. (Model choices: assumptions 5, 21, 37.) -/
def Obligations.ProcessAndMessageData : Prop :=
  ∀ (n : Nat) (s : State),
    let a := s.atTime n
    (∀ p e, s.tel.bindState = 1 → p.udpPort = 17224 → p.fcsOk = true → p.major = 1 → p.msgType = msgPd →
      a.subTable.filter (fun e => leAt e.1 0 4 = p.comId.toNat) = [e] →
      (pdCheck a p e = 0 → Gives (exec (.pdReceived n p) s) fun t =>
        t.tel.subs = sSet {} e.2 { sGet {} e.2 s.tel.subs with
          next := some (a.time.now, p.dataset)
          seqs := setKey p.srcIp.toNat p.seq.toNat (sGet {} e.2 s.tel.subs).seqs } s.tel.subs ∧
        t.tel.accepted = s.tel.accepted + 1 ∧ t.tel.headerErrors = s.tel.headerErrors) ∧
      (pdCheck a p e ≠ 0 → Gives (exec (.pdReceived n p) s) fun t =>
        t.tel.subs = s.tel.subs ∧ t.tel.headerErrors = satAdd 32 s.tel.headerErrors 1)) ∧
    (∀ p, s.tel.bindState = 1 → (p.udpPort ≠ 17224 ∨ p.fcsOk = false ∨ p.major ≠ 1 ∨ p.msgType ≠ msgPd) →
      Gives (exec (.pdReceived n p) s) fun t => t.tel.subs = s.tel.subs ∧ t.tel.headerErrors = satAdd 32 s.tel.headerErrors 1) ∧
    (∀ k p d, s.pubs.find? (fun p => p.idx = k) = some p → (sGet {} k s.tel.pubs).staged = some (a.cycleNow, d) → s.sw.running = true →
      s.sw.matrix.isSome = true → s.mayPublish = true → Gives (exec (.pdSend n k) s) fun t =>
        t.sent = s.sent ++ [.pd k (sGet {} k s.tel.pubs).seq d] ∧ t.tel.sent = s.tel.sent + 1 ∧
        (s.Shaped → d.length ≤ 1432 → ∀ o ∈ schedPorts, a.portCarries o p.stream = true → (s.port o).link ≠ 0 → (s.port o).queue = [] →
          ∃ x, (t.port o).queue = [x] ∧ x.stream = some p.stream ∧ x.isLocal = true ∧
            x.f.payload = a.pdHeader (sGet {} k s.tel.pubs).seq p ++ d)) ∧
    (∀ m, a.mdOpen m = true →
      Gives (exec (.mdNotification n m) s) (fun t => t.tel.mdIn = s.tel.mdIn ++ [m] ∧ t.tel.md = s.tel.md) ∧
      (s.tel.md.length < 64 → s.mdSession m.session = none → Gives (exec (.mdRequest n m) s) fun t =>
        t.tel.mdIn = s.tel.mdIn ++ [m] ∧
        t.tel.md = s.tel.md ++ [{ id := m.session, comId := m.comId, peer := m.srcIp, started := a.time.now, phase := 1 }]) ∧
      (64 ≤ s.tel.md.length → Gives (exec (.mdRequest n m) s) fun t =>
        t.tel.mdIn = s.tel.mdIn ∧ t.tel.md = s.tel.md ∧ t.tel.mdRefused = satAdd 32 s.tel.mdRefused 1 ∧
        t.sent = s.sent ++ [.md msgMe { m with data := [] }]) ∧
      ((s.mdSession m.session).isSome = true →
        let ended (t : State) : Prop := t.tel.mdIn = s.tel.mdIn ++ [m] ∧ t.tel.md = s.tel.md.filter (fun x => x.id ≠ m.session)
        Gives (exec (.mdReply n m) s) ended ∧ Gives (exec (.mdConfirm n m) s) ended ∧ Gives (exec (.mdError n m) s) ended ∧
        Gives (exec (.mdReplyQuery n m) s) fun t => ended t ∧ t.sent = s.sent ++ [.md msgMc { m with data := [] }])) ∧
    (∀ k x, s.mdSession k = some x →
      x.started + (if x.phase = 2 then a.odNat 0x5480 0x03 else a.odNat 0x5480 0x02) * 1000000 ≤ a.time.now →
      Gives (exec (.mdTimeout n k) s) fun t => t.tel.md = s.tel.md.filter (fun x => x.id ≠ k))

/-- R307 to R314: the legacy buses. A SOURCE port answers its master frame; data of a SINK port is taken from the active line; a foreign master makes the
bus administrator yield; a faulty line is left; an RPDO is kept for its boundary; heartbeats are sent, heard and lost; unsent TPDOs are withdrawn; a
controller goes error passive, bus-off, and recovers. The contents of a device status and of a heartbeat are open (assumption 18). (Model choices:
assumptions 18, 38.) -/
def Obligations.LegacyBuses : Prop :=
  ∀ (n : Nat) (s : State),
    let a := s.atTime n
    (∀ fcode address e, (a.portTable 2).find? (fun e => leAt e.1 0 2 = address.toNat && leAt e.1 2 1 = fcode.val) = some e →
      s.tel.mvbRole ≠ 0 → a.mayPublish = true → Gives (exec (.mvbMasterFrame n fcode address) s) fun t =>
        t.sent = s.sent ++ [.mvb address (((sGet {} e.2 s.tel.sinks).dataset).getD (List.replicate (portSize e.1) 0))]) ∧
    (∀ lineB address data e, s.tel.mvbRole ≠ 0 → s.tel.activeB = lineB → (if lineB then s.tel.faultB else s.tel.faultA) = false →
      (a.portTable 1).find? (fun e => leAt e.1 0 2 = address.toNat && portSize e.1 = data.length) = some e →
      Gives (exec (.mvbSlaveFrame n lineB address data) s) fun t =>
        t.tel.sinks = sSet {} e.2 { sGet {} e.2 s.tel.sinks with next := some (a.time.now, data) } s.tel.sinks ∧ t.tel.activeB = lineB) ∧
    (∀ address, s.tel.mvbRole ≠ 0 → address.toNat = a.odForceNat 0x5600 0x02 → Gives (exec (.mvbDeviceStatus n address) s) fun t =>
      ∃ w : BitVec 16, t.sent = s.sent ++ [.mvb address (leBytes 2 w.toNat)]) ∧
    (s.tel.mvbRole = 2 → s.tel.mvbYield = false → Gives (exec (.mvbForeignMaster n) s) fun t => t.tel.mvbYield = true ∧ t.tel.mvbRole = 2) ∧
    (s.tel.mvbRole ≠ 0 →
      (s.tel.faultB = false → Gives (exec (.mvbLineFault n true) s) fun t =>
        t.tel.faultB = true ∧ t.tel.lineB = false ∧ t.tel.activeB = false ∧ t.tel.errB = satAdd 32 s.tel.errB 1 ∧ t.tel.lineA = s.tel.lineA) ∧
      (s.tel.faultA = false → Gives (exec (.mvbLineFault n false) s) fun t =>
        t.tel.faultA = true ∧ t.tel.lineA = false ∧ t.tel.activeB = true ∧ t.tel.errA = satAdd 32 s.tel.errA 1 ∧ t.tel.lineB = s.tel.lineB)) ∧
    (∀ bus : Fin 2,
      (∀ f e, (a.pdoTable bus false).find? (fun e => leAt e.1 0 4 = f.cobId.toNat && (leAt e.1 6 1).testBit 3 == f.fd) = some e →
        s.canOn bus = true → leAt e.1 4 1 ≤ f.data.length → Gives (exec (.canRpdo n bus f) s) fun t =>
          t.tel.rpdos = sSet {} (pdoKey bus e.2) { sGet {} (pdoKey bus e.2) s.tel.rpdos with
            next := some (a.time.now, f.data.take (leAt e.1 4 1)) } s.tel.rpdos) ∧
      (a.makesSync bus = true → Gives (exec (.canSyncReceived n bus) s) fun t => t = raise evCanSyncConflict [busByte bus] a) ∧
      (s.canOn bus = true → a.odNat 0x5700 (canSub bus 7) ≠ 0 → Gives (exec (.canHeartbeatSend n bus) s) fun t =>
        ∃ w : BitVec 8, t.sent = s.sent ++ [.can bus { cobId := BitVec.ofNat 32 (0x700 + a.odForceNat 0x5700 (canSub bus 2)), fd := false
                                                       data := [w] }]) ∧
      (∀ node ms since, a.consumer bus node.toNat = some ms → (s.canBus bus).consumers.find? (fun x => x.1 = node.toNat) = some (node.toNat, since, false) →
        since + ms * 1000000 ≤ a.time.now → Gives (exec (.canHeartbeatLost n bus node) s) fun t => (node.toNat, since, true) ∈ (t.canBus bus).consumers) ∧
      (∀ node, (a.consumer bus node.toNat).isSome = true → s.canOn bus = true → Gives (exec (.consumerHeartbeatReceived n bus node) s) fun t =>
        (node.toNat, a.time.now, false) ∈ (t.canBus bus).consumers ∧ ∀ x ∈ (t.canBus bus).consumers, x.1 = node.toNat → x = (node.toNat, a.time.now, false)) ∧
      (∀ unsent, a.tb - 50000 ≤ a.intoCycle → s.canOn bus = true → Gives (exec (.tpdoWithdraw n bus unsent) s) fun t =>
        (t.canBus bus).queued = [] ∧ (t.canBus bus).withdrawn =
          satAdd 32 (s.canBus bus).withdrawn ((s.canBus bus).queued.length - ((s.canBus bus).queued.filter (fun x => !unsent.contains x.1)).length)) ∧
      ((s.canBus bus).state = 0 → Gives (exec (.canErrorPassive n bus) s) fun t => t.canBus bus = { s.canBus bus with state := 1 }) ∧
      (s.canOn bus = true → Gives (exec (.canBusOff n bus) s) fun t =>
        t.canBus bus = { s.canBus bus with state := 2, busOffs := satAdd 32 (s.canBus bus).busOffs 1, busOffAt := some a.time.now
                                           final := decide (10 ≤ (a.recoveries60 bus).length) }) ∧
      ((s.canBus bus).state = 2 → (s.canBus bus).final = false → ((s.canBus bus).busOffAt.getD 0) + 100000000 ≤ a.time.now →
        Gives (exec (.canBusOffRecovery n bus) s) fun t =>
          t.canBus bus = { s.canBus bus with state := 0, busOffAt := none, recoveries := a.time.now :: a.recoveries60 bus }))

/-- R318 to R321, R324, R326: direct accesses. The check at issue gives SIZE, WINDOW or ACCESS, and a refused access is answered with its code, is counted
and reaches nothing. A read that passes stalls its core with what the window holds, after every write the lane posted before; a pop takes the oldest
event word; a posted write leaves its core at once; the completion, a far-side error or the timeout of 50 µs ends the stall. (Model choices:
assumption 23.) -/
def Obligations.BridgeAccesses : Prop :=
  ∀ (n : Nat) (ln : Lane) (c : Fin 4) (addr size : Nat) (data : Bytes) (s : State),
    let a := s.atTime n
    let p := landBefore ln a
    let gone (code : Fin 8) (x t : State) : Prop :=
      t.sent = s.sent ++ [.completion ln c { code, data := [] }] ∧ t.cis = x.cis ∧ t.bri.mem = x.bri.mem ∧ t.bri.posted = x.bri.posted ∧
      t.bri.refused = modAt (laneNo ln) (satAdd 32 1) s.bri.refused ∧ (∀ l, t.lane l = s.lane l)
    (∀ k, (([1, 2, 4, 8, 32, 64].contains size = false ∨ addr % size ≠ 0) → s.issueCode ln c k addr size = 1) ∧
      ([1, 2, 4, 8, 32, 64].contains size = true → addr % size = 0 →
        (addr < 0xE0000000 ∨ 0xF0000000 ≤ addr → s.issueCode ln c k addr size = 2) ∧
        (0xE0000000 ≤ addr → addr + size ≤ 0xE0010000 → k = .read ∨ k = .posted →
          s.issueCode ln c k addr size = (if s.triple c = true ∨ (s.lane ln).state ≠ .isIn then 3 else 0)))) ∧
    ((s.core ln c).stall = none →
      (∀ code, code ≠ 0 → a.issueCode ln c .read addr size = code → Gives (exec (.directRead n ln c addr size) s) (gone code a)) ∧
      (∀ code, code ≠ 0 → a.issueCode ln c .posted addr data.length = code →
        Gives (exec (.directPostedWrite n ln c addr data) s) (gone code (landOld a))) ∧
      (∀ code, code ≠ 0 → a.issueCode ln c .nonposted addr data.length = code →
        Gives (exec (.directNonpostedWrite n ln c addr data) s) (gone code a)) ∧
      (∀ w off, a.issueCode ln c .read addr size = 0 → windowOf addr = some (w, off) → ¬(w = 1 ∧ off = 0) →
        Gives (exec (.directRead n ln c addr size) s) fun t =>
          (t.core ln c).stall = some { addr, size, data := some (p.windowData ln c w off size), exclusive := false, time := a.time.now, reached := true } ∧
          t.cis = p.cis ∧ t.bri.mem = p.bri.mem) ∧
      (a.issueCode ln c .read 0xE4000000 8 = 0 → Gives (exec (.eventQueuePop n ln c) s) fun t =>
        (t.core ln c).events = (s.core ln c).events.tail ∧
        ∃ w, ((s.core ln c).events = [] ∨ (s.core ln c).events.head? = some w) ∧ (t.core ln c).stall = some
          { addr := 0xE4000000, size := 8, data := some (leBytes 8 w.toNat), exclusive := false, time := a.time.now, reached := true }) ∧
      (a.issueCode ln c .posted addr data.length = 0 → Gives (exec (.directPostedWrite n ln c addr data) s) fun t =>
        t.core ln c = s.core ln c ∧ ∃ task, t.bri.posted = (landOld a).bri.posted ++ [{ lane := ln, core := c, task, op :=
          { addr, size := data.length, data := some data, exclusive := false, time := a.time.now, reached := false } }]) ∧
      (∀ n', Memory.wf s.cis.mem = true → Memory.wf s.bri.mem = true → s.bri.posted = [] → s.bri.semas = [] →
        a.issueCode ln c .posted addr data.length = 0 → ∃ t, exec (.directPostedWrite n ln c addr data) s = .next t ∧
          Gives (exec (.directRead n' ln c addr data.length) t) fun u => ∃ op, (u.core ln c).stall = some op ∧ op.data = some data) ∧
      (a.issueCode ln c .nonposted addr data.length = 0 → Gives (exec (.directNonpostedWrite n ln c addr data) s) fun t =>
        ∃ op, (t.core ln c).stall = some op ∧ op.addr = addr ∧ op.data = none)) ∧
    (∀ op, (s.core ln c).stall = some op →
      (∀ x, 4 ≤ x.code.val → x.code.val ≤ 6 → Gives (exec (.directCompletion n ln c x) s) fun t =>
        (t.core ln c).stall = none ∧ t.sent = s.sent ++ [.completion ln c { code := x.code, data := [] }]) ∧
      (∀ x, ¬(4 ≤ x.code.val ∧ x.code.val ≤ 6) → s.waits ln c = false → op.exclusive = false → Gives (exec (.directCompletion n ln c x) s) fun t =>
        (t.core ln c).stall = none ∧ t.sent = s.sent ++ [.completion ln c { code := 0, data := op.data.getD [] }]) ∧
      (op.time + 50000 ≤ a.time.now → Gives (exec (.bridgeTimeout n ln c) s) fun t =>
        (t.core ln c).stall = none ∧ t.sent = s.sent ++ [.completion ln c { code := 6, data := [] }]))

/-- R322, R323: semaphores. An exclusive read gives up its core's own semaphore, and takes that of its granule with the data, or waits where another holds
it or 16 are held; an exclusive write is performed, and frees the semaphore, only while it is held and only to its own bytes; LOCK-BROKEN answers the
other; a semaphore held for 20 µs is broken. (Model choices: assumption 23.) -/
def Obligations.BridgeSemaphores : Prop :=
  ∀ (n : Nat) (ln : Lane) (c : Fin 4) (addr size : Nat) (data : Bytes) (s : State),
    let a := s.atTime n
    let who := Initiator.core ln c
    let others := s.bri.semas.filter (fun x => !decide (x.holder = who))
    let at' := nativeTarget ln addr
    let busy := (others.find? (fun x => x.granule = granuleOf at')).isSome = true ∨ 16 ≤ others.length
    let op : DirectOp := { addr, size, data := none, exclusive := true, time := a.time.now, reached := false }
    (s.bri.posted = [] → s.bri.waiters = [] →
      (a.issueCode ln c .exclusive addr size = 0 → (s.core ln c).stall = none →
        (¬ busy → Gives (exec (.exclusiveRead n who addr size) s) fun t =>
          t.bri.semas = others ++ [{ granule := granuleOf at', holder := who, since := a.time.now }] ∧ (t.core ln c).exclusive = some (addr, size) ∧
          (t.core ln c).stall = some { op with data := some (a.commonsRead at' size), reached := true } ∧ t.cis = s.cis) ∧
        (busy → Gives (exec (.exclusiveRead n who addr size) s) fun t =>
          t.bri.semas = others ∧ t.bri.waiters = [(who, op)] ∧ (t.core ln c).stall = some op ∧ (t.core ln c).exclusive = none ∧ t.cis = s.cis)) ∧
      (a.issueCode ln c .exclusive addr data.length = 0 → (s.core ln c).stall = none →
        (s.holds who (granuleOf at') = true → (s.core ln c).exclusive = some (addr, data.length) →
          Gives (exec (.exclusiveWrite n who addr data) s) fun t =>
            t.bri.semas = s.bri.semas.filter (fun x => !(x.granule = granuleOf at' && decide (x.holder = who))) ∧
            t.cis.mem = cWrite at' data s.cis.mem ∧ (t.core ln c).exclusive = none ∧ (∃ op, (t.core ln c).stall = some op ∧ op.reached = true) ∧
            (Memory.wf s.cis.mem = true → ∀ b, b < at' ∨ at' + data.length ≤ b → cGet b t.cis.mem = cGet b s.cis.mem)) ∧
        (¬ (s.holds who (granuleOf at') = true ∧ (s.core ln c).exclusive = some (addr, data.length)) →
          Gives (exec (.exclusiveWrite n who addr data) s) fun t =>
            t.bri.semas = s.bri.semas ∧ t.cis = s.cis ∧ (t.core ln c).exclusive = none ∧
            ∃ op, (t.core ln c).stall = some op ∧ op.exclusive = true ∧ op.reached = false)) ∧
      (∀ g x, s.heldBy g = some x → x.since + 20000 ≤ a.time.now → Gives (exec (.semaphoreBreak n g) s) fun t =>
        t.bri.semas = s.bri.semas.filter (fun y => !decide (y.granule = g)) ∧ t.bri.broken = satAdd 32 s.bri.broken 1) ∧
      (∀ e : Nat, inMailbox e = true → data.length = 4 ∨ data.length = 8 → e % data.length = 0 →
        (s.holds .service (granuleOf e) = true → Gives (exec (.exclusiveWrite n .service e data) s) fun t =>
          t.cis.mem = cWrite e data s.cis.mem ∧ t.holds .service (granuleOf e) = false ∧ t.sent = s.sent ++ [.serviceCompletion { code := 0, data := [] }]) ∧
        (s.holds .service (granuleOf e) = false → Gives (exec (.exclusiveWrite n .service e data) s) fun t =>
          t.cis = s.cis ∧ t.sent = s.sent ++ [.serviceCompletion { code := 7, data := [] }]))) ∧
    (∀ x op, (s.core ln c).stall = some op → op.exclusive = true → op.reached = false → (s.core ln c).exclusive = none → s.waits ln c = false →
      ¬(4 ≤ x.code.val ∧ x.code.val ≤ 6) → Gives (exec (.directCompletion n ln c x) s) fun t =>
        (t.core ln c).stall = none ∧ t.sent = s.sent ++ [.completion ln c { code := 7, data := [] }])

/-- R317, R324, R325, R329, R330: a frame is dropped after 4 failed replays; a posted write that fails is recorded while fewer than 64 entries wait, and
is otherwise counted as lost; a poll forms one word for every source raised, in the order of the codes, and puts it where the routing mask sends it.
(Model choices: assumptions 15, 23.) -/
def Obligations.BridgeRecordsAndEvents : Prop :=
  ∀ (n : Nat) (ln : Lane) (c : Fin 4) (s : State),
    let a := s.atTime n
    (∀ toLane k, (s.bri.replayTry[2 * laneNo ln + b2n toLane]?).getD 0 = k →
      (k < 4 → Gives (exec (.linkReplay n ln toLane) s) fun t =>
        t.bri.replayTry = modAt (2 * laneNo ln + b2n toLane) (· + 1) s.bri.replayTry ∧ t.bri.replays = s.bri.replays) ∧
      (4 ≤ k → Gives (exec (.linkReplay n ln toLane) s) fun t =>
        t.bri.replayTry = modAt (2 * laneNo ln + b2n toLane) (fun _ => 0) s.bri.replayTry ∧
        t.bri.replays = modAt (laneNo ln) (satAdd 32 1) s.bri.replays)) ∧
    (∀ (window : Fin 4) (off size : Nat) (cause : Fin 8), 4 ≤ cause.val → cause.val ≤ 6 →
      ((s.bri.late.filter (fun e => !e.delivered)).length < 64 → Gives (exec (.lateError n ln c window off size cause) s) fun t =>
        t.bri.lateErrors = satAdd 32 s.bri.lateErrors 1 ∧ t.bri.lateSeq = s.bri.lateSeq + 1 ∧ t.bri.lateLost = s.bri.lateLost ∧
        ∃ e, t.bri.late.getLast? = some e ∧ e.addr = off ∧ e.cycle = BitVec.ofNat 32 a.cycleNow ∧ e.seq = s.bri.lateSeq ∧ e.window = window ∧
          e.cause = cause ∧ e.lane = ln ∧ e.core = c ∧ e.size = size ∧ e.delivered = false) ∧
      (64 ≤ (s.bri.late.filter (fun e => !e.delivered)).length → Gives (exec (.lateError n ln c window off size cause) s) fun t =>
        t.bri.late = s.bri.late ∧ t.bri.lateLost = satAdd 32 s.bri.lateLost 1 ∧ t.bri.lateErrors = s.bri.lateErrors) ∧
      Gives (exec (.lateError n ln c window off size cause) s) fun t => t.cis = s.cis ∧ t.bri.mem = s.bri.mem) ∧
    (Gives (exec (.eventPoll n) s) fun t => t.bri.raised = [] ∧
      t.bri.imageEvents = s.bri.imageEvents ++ ((s.bri.raised.mergeSort (fun x y => x.1 ≤ y.1)).filter (fun e =>
        (leAt (s.odGet 0x7200 0x10) (e.1 - 1) 1).testBit 0)).map (fun e => eventWord e.1 e.2.1 e.2.2 a.time.now)) ∧
    (∀ e, s.bri.raised = [e] → (leAt (s.odGet 0x7200 0x10) (e.1 - 1) 1).testBit (1 + laneNo ln) = true → (s.lane ln).state = .isIn →
      s.triple c = false → Gives (exec (.eventPoll n) s) fun t => (t.core ln c).events =
        if (s.core ln c).events.length < 64 then (s.core ln c).events ++ [eventWord e.1 e.2.1 e.2.2 a.time.now] else (s.core ln c).events)

/-- R332, R334, R335: a ring. Its owner's doorbell wakes it while its descriptor's OWN is 1; a descriptor done has its bytes at the destination, is
written back DONE without OWN, and HEAD moves on; a LINK is followed and moves nothing; the chain limit halts the ring; an abort stops it and writes
back ABORTED with what is left. Only the owner is heard (R337). R336: a bus error halts the engine and counts; the third within 10 s is final. 100 µs
after a halt that is not final the engine runs again; after a final halt, only the host's command makes it run. (Model choices: assumptions 4, 23.) -/
def Obligations.DmaRingsAndEngine : Prop :=
  (∀ (n : Nat) (r : Fin 64) (owner : BitVec 8) (s : State),
    let a := s.atTime n
    let p := landOld a
    let q := s.ring r.val
    let addr := p.descAddr r.val
    let d := p.desc addr
    let mine := s.ringOwner r.val = owner.toNat ∧ owner ≠ 0
    s.Shaped →
    (¬ mine → Gives (exec (.dmaDoorbell n r owner) s) (fun t => t.bri = p.bri ∧ t.cis = p.cis) ∧
      Gives (exec (.dmaAbort n r owner) s) (fun t => t.bri = s.bri ∧ t.cis = s.cis)) ∧
    (mine → s.bri.engine = 0 →
      (d.own = true → s.odNat (0x7140 + r.val) 0x04 ≠ 0 → p.descRefused r.val d = none → Gives (exec (.dmaDoorbell n r owner) s) fun t =>
        t.ring r.val = { q with awake := true, chain := 0 }) ∧
      (d.own = false → Gives (exec (.dmaDoorbell n r owner) s) fun t => t.ring r.val = { q with awake := false, chain := 0 }) ∧
      (∀ bad, d.own = true → s.odNat (0x7140 + r.val) 0x04 ≠ 0 → p.descRefused r.val d = some bad → Gives (exec (.dmaDoorbell n r owner) s) fun t =>
        t.ring r.val = { q with awake := false, chain := 0, status := 3, residue := d.length })) ∧
    (mine → q.awake = true →
      (s.bri.engine ≠ 0 → Gives (exec (.dmaAbort n r owner) s) fun t => t.ring r.val = { q with abort := true }) ∧
      (s.bri.engine = 0 → Gives (exec (.dmaAbort n r owner) s) fun t =>
        (t.ring r.val).awake = false ∧ (t.ring r.val).abort = false ∧ (t.ring r.val).status = 1 ∧
        (t.ring r.val).head = (q.head + 1) % max 1 (s.odNat (0x7140 + r.val) 0x02) ∧
        (t.ring r.val).residue ≤ (a.desc (a.descAddr r.val)).length)) ∧
    (q.awake = true → s.bri.engine = 0 → d.own = true →
      (q.chain < s.odNat (0x7140 + r.val) 0x04 → d.link = false → q.moved = 0 → p.touchesHeld d.dest d.length = false →
        p.descRefused r.val d = none → s.ringOwner r.val ≤ 6 → Memory.wf p.cis.mem = true → Memory.wf p.bri.mem = true →
        addr + 0x1C ≤ d.dest ∨ d.dest + d.length ≤ addr + 0x14 →
        Gives (exec (.dmaDescriptorDone n r) s) fun t => ∃ u, t = fetchDesc r.val u ∧ u.commonsRead d.dest d.length = p.commonsRead d.source d.length ∧
          u.ring r.val = { q with head := (q.head + 1) % max 1 (s.odNat (0x7140 + r.val) 0x02), status := 0, residue := 0, chain := q.chain + 1
                                  cur := none, moved := 0 } ∧
          u.bri.moved = satAdd 64 s.bri.moved d.length) ∧
      (q.chain < s.odNat (0x7140 + r.val) 0x04 → d.link = true → Gives (exec (.dmaDescriptorDone n r) s) fun t => ∃ u, t = fetchDesc r.val u ∧
        u.cis = p.cis ∧ u.bri.mem = p.bri.mem ∧ u.descAddr r.val = d.source ∧ (u.ring r.val).chain = q.chain + 1) ∧
      (q.chain < s.odNat (0x7140 + r.val) 0x04 → d.link = false → p.touchesHeld d.dest d.length = true →
        Gives (exec (.dmaDescriptorDone n r) s) fun t => t.bri = p.bri ∧ t.cis = p.cis)) ∧
    (q.awake = true → s.bri.engine = 0 → (a.desc (a.descAddr r.val)).own = true → s.odNat (0x7140 + r.val) 0x04 ≤ q.chain →
      Gives (exec (.chainLimit n r) s) fun t =>
        t.ring r.val = { q with awake := false, status := 4, residue := (a.desc (a.descAddr r.val)).length })) ∧
  (∀ (n : Nat) (moved : List Nat) (via : Via) (s q : State) (c : Caller),
    let a := s.atTime n
    let recent := s.bri.haltTimes.filter (fun h => a.time.now < h + 10000000000)
    (s.bri.engine = 0 → Gives (exec (.dmaBusError n moved) s) fun t =>
      t.bri.engine = (if 2 ≤ recent.length then 2 else 1) ∧ t.bri.halts = satAdd 32 s.bri.halts 1 ∧ t.bri.haltAt = some a.time.now ∧
      t.bri.haltTimes = a.time.now :: recent) ∧
    (∀ r : Fin 64, s.Shaped → s.bri.engine = 0 → s.bri.posted = [] → (s.ring r.val).awake = true → (s.desc (s.descAddr r.val)).own = true →
      (s.desc (s.descAddr r.val)).link = false → (∀ k : Fin 64, k ≠ r → (s.ring k.val).awake = false) → Gives (exec (.dmaBusError n moved) s) fun t =>
        (t.ring r.val).halted = true ∧ (t.ring r.val).status = 2 ∧ (t.ring r.val).awake = true ∧
        (t.ring r.val).residue = (s.desc (s.descAddr r.val)).length - (t.ring r.val).moved) ∧
    (∀ h, s.bri.haltAt = some h → s.bri.engine = 1 → h + 100000 ≤ a.time.now → Gives (exec (.dmaRestart n) s) fun t =>
      t.bri.engine = 0 ∧ t.bri.haltAt = none) ∧
    (admission via (writeReq 0x7100 0x02 .u8 [1]) a = (q, some c) → q.writeFault 0x7100 0x02 c.level = stOk →
      (s.bri.engine = 2 → Gives (exec (.dmaEngineRestart n via) s) fun t => t.bri.engine = 0 ∧ t.bri.haltAt = none) ∧
      (s.bri.engine ≠ 2 → Gives (exec (.dmaEngineRestart n via) s) fun t => t.bri = s.bri ∧ t.sent = q.sent ++ [answerMsg via stWrongState []])))

/-- R342, R343, R345, R361: the lease. Only an authentic message of the referee about the pair counts. A CONFIRM of the EPOCH held extends it; a GRANT in
reply to a REQUEST of the last 1 ms gives the lease, with which a module in ALONE or ACTIVE drives and a STANDBY that found its partner lost takes
over; any other GRANT gives none; a REVOKE of the EPOCH held, the EXPIRY, or a lost partner without CONFIRM takes DRIVE away; REFUSE ends the request;
only ALONE with a silent referee may drive without a lease. (Model choices: assumption 47.) -/
def Obligations.PairLease : Prop :=
  ∀ (n : Nat) (m : RefereeMsg) (s : State),
    let a := s.atTime n
    (s.pair.inPair = true → s.pair.held = true → a.intoCycle ≤ 20000 → Gives (exec (.renewSend n) s) fun t =>
      t.sent = s.sent ++ [.referee 1 (a.refereeMsg 1 a.nodeId 0)]) ∧
    (a.refereeGood 2 m = true →
      (s.pair.held = true → m.target = a.nodeId → m.epoch = s.pair.leaseEpoch → s.pair.epoch ≤ m.epoch →
        Gives (exec (.refereeConfirm n m) s) fun t =>
          t.pair.expiry = a.fullCycle m.expiry ∧ t.pair.confirmed = true ∧ t.pair.held = true ∧ t.pair.refereeAt = some a.time.now) ∧
      (s.pair.held = false ∨ m.target ≠ a.nodeId ∨ m.epoch ≠ s.pair.leaseEpoch ∨ m.epoch < s.pair.epoch →
        Gives (exec (.refereeConfirm n m) s) fun t =>
          t.pair.expiry = s.pair.expiry ∧ t.pair.held = s.pair.held ∧ t.pair.refereeAt = some a.time.now)) ∧
    (a.refereeGood 2 m = false → Gives (exec (.refereeConfirm n m) s) fun t => t.pair = s.pair ∧ t.sent = s.sent) ∧
    (a.refereeGood 4 m = true →
      (∀ r, m.target = a.nodeId → s.pair.epoch ≤ m.epoch → s.pair.requestAt = some r → a.time.now < r + 1000000 →
        (∀ found, s.pair.findingAt = some found → s.pair.state = .standby → Gives (exec (.refereeGrant n m) s) fun t =>
          t.pair.state = (if s.pair.heartAt.isSome then .active else .alone) ∧ t.pair.drive = true ∧ t.pair.held = true ∧ t.pair.epoch = m.epoch ∧
          t.pair.expiry = a.fullCycle m.expiry ∧ t.pair.takeovers = satAdd 32 s.pair.takeovers 1 ∧
          (s.ctl.mode = .standby → t.ctl.mode = .run)) ∧
        (s.pair.findingAt = none → s.pair.negotiated = true → Gives (exec (.refereeGrant n m) s) fun t =>
          t.pair.held = true ∧ t.pair.epoch = m.epoch ∧ t.pair.expiry = a.fullCycle m.expiry ∧ t.pair.state = s.pair.state ∧
          t.pair.drive = (s.pair.drive || (s.pair.state = .alone || s.pair.state = .active)))) ∧
      (m.target ≠ a.nodeId ∨ m.epoch < s.pair.epoch ∨ (s.pair.requestAt = none ∧ s.pair.handover = none) →
        Gives (exec (.refereeGrant n m) s) fun t => t.pair.held = s.pair.held ∧ t.pair.drive = s.pair.drive ∧ t.pair.state = s.pair.state)) ∧
    (a.refereeGood 5 m = true → s.pair.held = true → m.epoch = s.pair.leaseEpoch → Gives (exec (.refereeRevoke n m) s) fun t =>
      t.pair.held = false ∧ t.pair.drive = false ∧ t.pair.lostLease = true ∧ t.pair.release = true ∧ t.tel.publishing = false) ∧
    (a.refereeGood 6 m = true → Gives (exec (.refereeRefuse n m) s) fun t =>
      t.pair.requestAt = none ∧ t.pair.findingAt = none ∧ t.pair.state = s.pair.state ∧ t.pair.drive = s.pair.drive) ∧
    (s.pair.inPair = true → s.pair.drive = true → a.leaseHeld = false →
      (a.aloneDrives = false → Gives (exec (.leaseExpiry n) s) fun t => t.pair.drive = false ∧ t.pair.held = false ∧ t.tel.publishing = false) ∧
      (a.aloneDrives = true → Gives (exec (.leaseExpiry n) s) fun t => t.pair.drive = true ∧ t.pair.held = false)) ∧
    (s.pair.inPair = true → s.pair.held = true → a.leaseHeld = true → s.pair.endorsed = false → s.pair.heartAt = none → s.pair.confirmed = false →
      s.tb ≤ a.intoCycle + 100000 → a.aloneDrives = false → Gives (exec (.leaseExpiry n) s) fun t => t.pair.drive = false ∧ t.pair.held = false) ∧
    (s.pair.inPair = true → s.sw.running = true → s.pair.refereeSilent = false → a.refereeOk = false → 3 * s.tb ≤ a.time.now →
      Gives (exec (.refereeSilent n) s) fun t =>
        t.pair.refereeSilent = true ∧ t.pair.drive = (s.pair.drive || (s.pair.state = .alone && (s.pair.negotiated && s.odBool 0x7300 0x0B))))

/-- R346, R347, R349, R351 to R353: what is heard of the partner. A heartbeat goes out at each multiple of 5 µs; a valid one is kept; a frame that fails a
check is counted and belongs to nothing; a partner that is silent for 10.5 µs or sends RELEASE is lost; images and deltas are assembled, and a delta
that differs, is missing or late puts a STANDBY in JOINING; mirrored changes take their place. (Model choices: assumption 48.) -/
def Obligations.PairPartner : Prop :=
  ∀ (n : Nat) (f : SiphonFrame) (s : State),
    let a := s.atTime n
    let there := s.pair.inPair = true ∧ s.sw.running = true
    let good (k : Nat) := there ∧ f.kind.toNat = k ∧ a.frameFault f = 0
    let wrong (k : Nat) := there ∧ f.kind.toNat = k ∧ a.frameFault f ≠ 0
    let lost (t : State) :=
      (s.pair.state = .standby → t.pair.state = .standby ∧ t.pair.findingAt = some a.time.now ∧ t.pair.requestAt = some a.time.now) ∧
      (s.pair.state = .active → t.pair.state = .alone) ∧ (s.pair.state = .alone → t.pair.state = .alone) ∧ (s.pair.state = .out → t.pair.state = .out) ∧
      (s.pair.state = .joining → t.pair.state = .alone ∧ t.pair.level = false ∧ (s.ctl.mode = .standby → t.ctl.mode = .stop))
    (there → a.time.now % 5000 = 0 ∨ s.pair.release = true → Gives (exec (.heartbeatSend n) s) fun t => t.pair.release = false ∧
      ∃ h, t.sent = s.sent ++ [.siphon h] ∧ h.kind = 1 ∧ h.payload = a.heartbeat ∧ h.cycle = BitVec.ofNat 64 a.cycleNow) ∧
    (good 1 →
      (f.payload[2]? = none ∨ f.payload[2]?.any (fun b => b.getLsbD 0 = false) = true → Gives (exec (.siphonHeartbeat n f) s) fun t =>
        t.pair.heartAt = some a.time.now ∧ s.pair.epoch ≤ t.pair.epoch) ∧
      (f.payload[2]?.any (fun b => b.getLsbD 0) = true → Gives (exec (.siphonHeartbeat n f) s) fun t => lost t ∧ s.pair.epoch ≤ t.pair.epoch)) ∧
    (∀ h, s.pair.heartAt = some h → s.pair.inPair = true → h + 10500 ≤ a.time.now → Gives (exec (.partnerLost n) s) fun t => lost t ∧ t.pair.heartAt = none) ∧
    (wrong 1 → Gives (exec (.siphonHeartbeat n f) s) fun t => t.pair.rejected = satAdd 32 s.pair.rejected 1 ∧ t.pair.heartAt = s.pair.heartAt) ∧
    (wrong 2 → Gives (exec (.siphonImage n f) s) fun t =>
      t.pair.rejected = satAdd 32 s.pair.rejected 1 ∧ t.pair.fwdImage = [] ∧ t.pair.fwdCtx = []) ∧
    (wrong 3 → Gives (exec (.siphonDelta n f) s) fun t => t.pair.rejected = satAdd 32 s.pair.rejected 1 ∧ t.pair.delta = []) ∧
    (good 2 → f.cycle.toNat = a.cycleNow →
      (f.offset = s.pair.fwdImage.length → f.flags.getLsbD 0 = false → s.pair.fwdImage.length < 1024 * imageKib s.ctl.tbCode →
        Gives (exec (.siphonImage n f) s) fun t => t.pair.fwdImage = s.pair.fwdImage ++ f.payload ∧ t.pair.fwdCtx = s.pair.fwdCtx) ∧
      (f.offset = s.pair.fwdCtx.length → f.flags.getLsbD 0 = true → 1024 * imageKib s.ctl.tbCode ≤ s.pair.fwdImage.length →
        leAt s.pair.fwdImage 0 4 = (crc32c (s.pair.fwdImage.drop 4)).toNat → (readCtx ((s.pair.fwdCtx ++ f.payload).take 2064)).crcOk = true →
        Gives (exec (.siphonImage n f) s) fun t => t.pair.fwdReady = some a.cycleNow ∧
          (s.pair.state = .standby → s.ctl.mode = .standby → s.ctl.imageReady = false → a.intoCycle ≤ 60000 + lambdaNs s.ctl.tbCode →
            t.ctl.sealed = some { cycle := a.cycleNow, bytes := s.pair.fwdImage, ctx := readCtx ((s.pair.fwdCtx ++ f.payload).take 2064) }))) ∧
    (s.pair.inPair = true → s.pair.state = .standby → s.ctl.mode = .standby → s.ctl.imageReady = false → 60000 + lambdaNs s.ctl.tbCode ≤ a.intoCycle →
      Gives (exec (.forwardImageLate n) s) fun t => t.pair.state = .joining ∧ t.pair.level = false) ∧
    (good 3 → f.offset = 0 →
      (f.flags.getLsbD 0 = false → Gives (exec (.siphonDelta n f) s) fun t => t.pair.delta = f.payload) ∧
      (f.flags.getLsbD 0 = true → s.pair.state = .standby → s.pair.shadowSince = none → s.cis.lastPour = f.cycle.toNat →
        (∀ ps, readDelta f.payload.length f.payload = some ps → ps.all Poured.clean = true →
          (s.deltaDiffers ps = none → Gives (exec (.siphonDelta n f) s) fun t => t.pair.state = .standby ∧ t.pair.deltaDone = some f.cycle.toNat) ∧
          (s.deltaDiffers ps ≠ none → Gives (exec (.siphonDelta n f) s) fun t => t.pair.state = .joining)) ∧
        (∀ ps, readDelta f.payload.length f.payload = some ps → ps.all Poured.clean = false → Gives (exec (.siphonDelta n f) s) fun t =>
          t.pair.rejected = satAdd 32 s.pair.rejected 1 ∧ t.pair.delta = [] ∧ t.pair.state = .standby))) ∧
    (s.pair.inPair = true → s.pair.heartAt.isSome = true → s.pair.findingAt = none → s.cis.poured = false → s.tb ≤ a.intoCycle + 100000 →
      1 ≤ s.cis.lastPour → s.cis.lastPour + 1 = a.cycleNow → s.pair.state = .standby → s.pair.shadowSince = none →
      (s.pair.deltaDone ≠ some s.cis.lastPour → s.pair.delta = [] → Gives (exec (.deltaDeadline n) s) fun t => t.pair.state = .joining) ∧
      (s.pair.deltaDone = some s.cis.lastPour → Gives (exec (.deltaDeadline n) s) fun t => t.pair = s.pair)) ∧
    (∀ m, good 4 → s.pair.state = .standby →
      (a.cycleNow < mirrorBoundary m → Gives (exec (.siphonState n f m) s) fun t => t.pair.state = .standby ∧
        (∀ e v b level client, m = .hostWrite e v b level client →
          t.cis.orders = s.cis.orders ++ [{ entry := e, value := v, boundary := b, via := none, level, client }]) ∧
        (∀ es b, m = .changeSet es b → t.ctl.change.pending = es.map (fun e => (e.1.toNat, e.2)) ∧ t.ctl.change.effective = b)) ∧
      (mirrorBoundary m ≤ a.cycleNow → Gives (exec (.siphonState n f m) s) fun t => t.pair.state = .joining)) ∧
    (∀ m, wrong 4 → s.pair.state = .standby → Gives (exec (.siphonState n f m) s) fun t => t.pair.state = .joining)

/-- R357, R358, R360: planned hand-overs. A command of the pair waits for its boundary and proposes the hand-over there; the outgoing module names the
incoming one at m − 2 T_b; the incoming drives at m − T_b, or the hand-over fails without its lease; at m the two change places. Reversion and the end
of the shadow period propose one as the incoming module. (Model choices: assumptions 4, 49, 51.) -/
def Obligations.PairHandover : Prop :=
  ∀ (n : Nat) (via : Via) (s q : State) (c : Caller),
    let a := s.atTime n
    let kept (v : Byte) (t : State) : Prop := t.pair = q.pair ∧ t.sent = q.sent ∧ t.ctl.waiting = q.ctl.waiting ++
      [{ boundary := q.hostBoundary, key := odKey 0x7300 0x0E, data := [v], via, level := c.level, client := c.client }]
    (∀ v : Byte, admission via (writeReq 0x7300 0x0E .u8 [v]) a = (q, some c) → q.writeFault 0x7300 0x0E c.level = stOk →
      (s.pair.inPair = true → (v = 1 → Gives (exec (.handOver n via) s) (kept 1)) ∧ (v = 2 → Gives (exec (.pairJoin n via) s) (kept 2)) ∧
        (v = 3 → 3 ≤ c.level → Gives (exec (.exchangeAbort n via) s) (kept 3)) ∧
        (v = 3 → c.level < 3 → Gives (exec (.exchangeAbort n via) s) fun t => t.ctl = s.ctl ∧ t.sent = q.sent ++ [answerMsg via stAuthority []])) ∧
      (s.pair.inPair = false → v = 1 → Gives (exec (.handOver n via) s) fun t => t.ctl = s.ctl ∧ t.sent = q.sent ++ [answerMsg via stWrongState []])) ∧
    (∀ w : PendW, s.ctl.waiting = [w] → w.key = odKey 0x7300 0x0E → w.boundary ≤ a.cycleNow →
      (w.data = [1] → s.pair.state = .active → s.ctl.mode = .run → s.partnerStandby = true → s.pair.handover = none → s.pair.exchangeStep = 0 →
        Gives (exec (.boundaryWrite n 0x7300 0x0E) s) fun t => t.pair.handover = some
          { m := a.nextMacro (a.cycleNow + 4), incoming := false, toStop := false, confirmed := false, simultaneous := false }) ∧
      (w.data = [2] → s.pair.state = .out → s.ctl.mode ≠ .faultStop → Gives (exec (.boundaryWrite n 0x7300 0x0E) s) fun t =>
        t.pair.state = .alone ∧ t.pair.negotiated = false ∧ t.pair.reason = 0)) ∧
    (∀ h, s.pair.handover = some h →
      (h.incoming = false → h.confirmed = true → a.cycleNow + 2 = h.m → Gives (exec (.handoverSend n) s) fun t =>
        ∃ target, t.sent = s.sent ++ [.referee 8 (a.refereeMsg 8 target (h.m - 1))]) ∧
      (h.m ≤ a.cycleNow + 1 →
        (h.incoming = true → h.confirmed = true → a.leaseHeld = true → Gives (exec (.handoverDrive n) s) fun t =>
          t.pair.handover = some h ∧ t.pair.drive = (s.pair.drive || !h.simultaneous)) ∧
        (h.incoming = true → (h.confirmed = false ∨ a.leaseHeld = false) → Gives (exec (.handoverDrive n) s) fun t =>
          t.pair.handover = none ∧ t.pair.state = s.pair.state ∧ t.pair.drive = s.pair.drive) ∧
        (h.incoming = false → (h.confirmed = false ∨ s.pair.partner.any (fun b => b.flags.getLsbD 1) = false) → Gives (exec (.handoverDrive n) s) fun t =>
          t.pair.handover = none ∧ t.pair.state = s.pair.state ∧ t.pair.drive = s.pair.drive)) ∧
      (h.confirmed = true → h.m ≤ a.cycleNow →
        (h.incoming = true → a.leaseHeld = true → Gives (exec (.handoverDone n) s) fun t =>
          t.pair.state = (if s.pair.heartAt.isSome then .active else .alone) ∧ t.pair.drive = true ∧ t.pair.handover = none ∧
          (s.ctl.mode = .standby → t.ctl.mode = .run)) ∧
        (h.incoming = false → Gives (exec (.handoverDone n) s) fun t =>
          t.pair.drive = false ∧ t.pair.held = false ∧ t.pair.handover = none ∧ t.tel.publishing = false ∧
          (h.toStop = true → t.pair.state = .joining ∧ t.ctl.mode = .stop) ∧
          (h.toStop = false → t.ctl.mode = .standby ∧
            (s.pair.exchangeStep = 10 → t.pair.state = .joining ∧ t.pair.exchangeStep = 5) ∧
            (s.pair.exchangeStep ≠ 10 → t.pair.state = .standby))))) ∧
    (∀ t0, s.pair.standbySince = some t0 → s.pair.inPair = true → s.pair.preferred = true → s.odBool 0x7300 0x06 = true → s.pair.handover = none →
      s.pair.state = .standby → s.ctl.mode = .standby → s.pair.exchangeStep = 0 → s.pair.findingAt = none →
      t0 + s.odNat 0x7300 0x05 * 1000000000 ≤ a.time.now → Gives (exec (.reversion n) s) fun t => t.pair.handover = some
        { m := a.nextMacro (a.cycleNow + 4), incoming := true, toStop := false, confirmed := false, simultaneous := false }) ∧
    (∀ t0, s.pair.shadowSince = some t0 → s.pair.exchangeStep = 3 → s.pair.handover = none → t0 + s.odNat 0x7300 0x0F * 1000000000 ≤ a.time.now →
      Gives (exec (.shadowPeriodExpiry n) s) fun t => t.pair.handover = some
        { m := a.nextMacro (a.cycleNow + 4), incoming := true, toStop := false, confirmed := false, simultaneous := true })

/-- R357, R359, R360: CONTROL and RESYNC frames. A proposal is confirmed and a confirmation kept; a copy begins with the partner's parameter values, each
frame at its OFFSET enters the store, and the digests of both stores decide; a rejected frame, a late copy or digests that differ fail the
resynchronisation, and the third failure within 60 minutes puts the module OUT. (Model choices: assumptions 22, 50.) -/
def Obligations.PairResync : Prop :=
  ∀ (n : Nat) (f : SiphonFrame) (s : State),
    let a := s.atTime n
    let good (k : Nat) := s.pair.inPair = true ∧ s.sw.running = true ∧ f.kind.toNat = k ∧ a.frameFault f = 0
    let wrong (k : Nat) := s.pair.inPair = true ∧ s.sw.running = true ∧ f.kind.toNat = k ∧ a.frameFault f ≠ 0
    let failed (t : State) := t.pair.level = false ∧ t.pair.resync = none ∧ t.pair.state = (if 2 ≤ a.resyncCount then .out else .joining) ∧
      t.cis = s.cis
    (∀ m h, good 6 → s.pair.handover = some h → m = h.m → Gives (exec (.siphonControl n f (.confirm m)) s) fun t =>
      t.pair.handover = some { h with confirmed := true }) ∧
    (∀ m, good 6 → s.pair.handover = none → a.cycleNow < m → s.pair.findingAt = none → s.pair.state = .standby → s.ctl.mode = .standby →
      Gives (exec (.siphonControl n f (.propose m)) s) fun t => t.pair.handover = some
        { m, incoming := true, toStop := false, confirmed := true, simultaneous := decide (s.pair.exchangeStep ≠ 0) }) ∧
    (∀ forces params, good 6 → s.pair.state = .joining → Gives (exec (.siphonControl n f (.resyncState forces params)) s) fun t =>
      t.pair.resync = some (a.time.now, 0) ∧ t.pair.level = false ∧ t.ctl.forces = readForces forces ∧
      ∀ l, (t.lane l).params = params ∧ (t.lane l).paramsNew = none) ∧
    (∀ p q, good 6 → s.pair.state = .joining → Gives (exec (.siphonControl n f (.digest p q)) s) fun t =>
      t.pair.partnerDigest = some { p, q } ∧ t.pair.digestCycle = f.cycle.toNat) ∧
    (∀ m, wrong 6 → Gives (exec (.siphonControl n f m) s) fun t => t.pair.rejected = satAdd 32 s.pair.rejected 1 ∧ t.pair.handover = s.pair.handover) ∧
    (∀ t0 at', s.pair.resync = some (t0, at') → s.pair.state = .joining →
      (good 5 → f.offset = at' → Gives (exec (.siphonResync n f) s) fun t =>
        t.pair.resync = some (t0, at' + f.payload.length) ∧ t.cis.mem = cWrite at' f.payload s.cis.mem ∧
        (Memory.wf s.cis.mem = true → ∀ b, b < at' ∨ at' + f.payload.length ≤ b → cGet b t.cis.mem = cGet b s.cis.mem) ∧
        (at' < 0x1FF0000 → ∀ l, (s.lane l).state = .isIn → (t.lane l).copy = cWrite at' f.payload (s.lane l).copy)) ∧
      (good 5 → f.offset ≠ at' → Gives (exec (.siphonResync n f) s) failed) ∧
      (wrong 5 → Gives (exec (.siphonResync n f) s) failed) ∧
      (at' < storeSize → t0 + 250000000 ≤ a.time.now → Gives (exec (.resyncTimeout n) s) failed) ∧
      (∀ d, s.pair.partnerDigest = some d → storeSize ≤ at' →
        (storeDigest s.cis.mem s.pair.digestCycle = d → Gives (exec (.resyncComplete n) s) fun t =>
          t.pair.level = true ∧ t.pair.resync = none ∧ t.pair.ownDigest = some d ∧ t.pair.resyncs = satAdd 32 s.pair.resyncs 1 ∧ t.pair.state = .joining) ∧
        (storeDigest s.cis.mem s.pair.digestCycle ≠ d → Gives (exec (.resyncComplete n) s) failed)))

/-- R383 to R387, R390: the front of a host request. An open session's request with the right MAC and source, a token and a higher SEQ is served under
that session; a wrong MAC or source is counted; the last SEQ again repeats the stored answer; an older SEQ is dropped; a session that is not open is
answered SESSION; a request over SDO is served under its bus. (Model choices: assumptions 6, 39.) -/
def Obligations.HostAdmission : Prop :=
  ∀ (s : State) (m : Fin 9) (seq : BitVec 32) (port : Fin 11) (addr : Nat) (mac : Bytes) (f : ReqFrame),
    let via := Via.abacus m seq port addr mac
    let x := s.session m
    (s.od.running = true → s.portOn port = true → m ≠ 0 →
      (x.state ≠ 2 → admission via f s = (respond via stSession [] s, none)) ∧
      (x.state = 2 → (addr ≠ x.addr ∨ mac ≠ frameMac x.key m.val seq f) →
        (admission via f s).2 = none ∧ (admission via f s).1.od.authFails = satAdd 32 s.od.authFails 1 ∧ (admission via f s).1.sent = s.sent) ∧
      (∀ q, x.state = 2 → addr = x.addr → mac = frameMac x.key m.val seq f → sessionToken m s = (q, true) →
        (x.lastSeq < seq → s.Shaped → (admission via f s).2 = some { level := x.level, client := x.client, source := m.val } ∧
          ((admission via f s).1.session m).lastSeq = seq ∧ ((admission via f s).1.session m).lastAt = s.time.now ∧
          ((admission via f s).1.session m).stored = none ∧ (admission via f s).1.sent = s.sent) ∧
        (∀ st d, seq = x.lastSeq → x.stored = some (st, d) → d.length ≤ 1400 →
          (admission via f s).2 = none ∧ (admission via f s).1.sent = s.sent ++ [answerMsg via st d]) ∧
        (seq < x.lastSeq → (admission via f s).2 = none ∧ (admission via f s).1.sent = s.sent)) ∧
      (∀ q, x.state = 2 → addr = x.addr → mac = frameMac x.key m.val seq f → sessionToken m s = (q, false) →
        admission via f s = (q, none) ∧ q.od.limited = satAdd 32 s.od.limited 1)) ∧
    (s.od.running = false → admission via f s = (s, none)) ∧
    (∀ bus : Fin 2,
      (s.canOn bus = true → (s.sdoServer bus).xfer = none → (f.op = 0x10 ∨ f.op = 0x11) → admission (.sdo bus) f s = (s, some (s.sdoCaller bus))) ∧
      (s.canOn bus = true → (s.sdoServer bus).xfer ≠ none → admission (.sdo bus) f s = (respond (.sdo bus) stBusy [] s, none)) ∧
      (s.canOn bus = false → admission (.sdo bus) f s = (s, none)) ∧ (s.sdoCaller bus).level ≤ 2)

/-- R384, R386: OPEN takes the lowest free session and answers with the server's nonce, from which the session key follows; AUTH with the right MAC and
SEQ 1 opens it; CLOSE, the idle timeout and the OPEN timeout free it; KEEPALIVE is answered. (Model choices: assumptions 4, 6, 39.) -/
def Obligations.AbacusSessions : Prop :=
  ∀ (n : Nat) (s q : State) (m : Fin 9) (port : Fin 11) (addr : Nat),
    let a := s.atTime n
    let x := s.session m
    s.Shaped →
    (∀ clientId level nonce, s.od.running = true → s.portOn port = true → openToken a = (q, true) →
      (q.openFault port clientId.toNat level.toNat nonce = stOk → q.freeSession = some m → Gives (exec (.abOpen n port addr clientId level nonce) s) fun t =>
        (t.session m).state = 1 ∧ (t.session m).client = clientId.toNat ∧ (t.session m).level = level.toNat ∧ (t.session m).openedAt = a.time.now ∧
        ∃ server, t.sent = s.sent ++ [.abacusOpen port addr stOk ([BitVec.ofNat 8 m.val, 0, 0, 0] ++ server)] ∧
          (t.session m).key = Config.hmacSha256 (q.levelKey level.toNat) (abacusText ++ (nonce ++ (server ++ [BitVec.ofNat 8 m.val])))) ∧
      (q.openFault port clientId.toNat level.toNat nonce ≠ stOk → Gives (exec (.abOpen n port addr clientId level nonce) s) fun t =>
        t.od.sessions = s.od.sessions ∧ t.sent = s.sent ++ [.abacusOpen port addr (q.openFault port clientId.toNat level.toNat nonce) []])) ∧
    (s.od.running = true → s.portOn port = true → m ≠ 0 → x.state = 1 → sessionToken m a = (q, true) →
      Gives (exec (.abAuth n (.abacus m 1 port addr (frameMac x.key m.val 1 { op := 2 }))) s) fun t =>
        (t.session m).state = 2 ∧ (t.session m).lastSeq = 1 ∧ (t.session m).addr = addr ∧ (t.session m).lastAt = a.time.now ∧
        t.sent = s.sent ++ [.abacus (.abacus m 1 port addr (frameMac x.key m.val 1 { op := 2 })) stOk []]) ∧
    (∀ seq mac, s.od.running = true → s.portOn port = true → m ≠ 0 → x.state = 1 → mac ≠ frameMac x.key m.val seq { op := 2 } →
      Gives (exec (.abAuth n (.abacus m seq port addr mac)) s) fun t =>
        (t.session m).state ≠ 2 ∧ t.od.authFails = satAdd 32 s.od.authFails 1 ∧ t.sent = s.sent) ∧
    (∀ seq mac c, admission (.abacus m seq port addr mac) { op := 3 } a = (q, some c) → Gives (exec (.abClose n (.abacus m seq port addr mac)) s) fun t =>
      t.session m = {} ∧ t.sent = q.sent ++ [.abacus (.abacus m seq port addr mac) stOk []]) ∧
    (∀ via c, admission via { op := 4 } a = (q, some c) → Gives (exec (.abKeepalive n via) s) fun t => t.sent = q.sent ++ [answerMsg via stOk []]) ∧
    (m ≠ 0 → x.state = 1 → x.openedAt + 1000000000 ≤ a.time.now → Gives (exec (.sessionOpenTimeout n m) s) fun t => t.session m = {}) ∧
    (m ≠ 0 → x.state = 2 → x.lastAt + a.odNat 0x1200 0x04 * 1000000000 ≤ a.time.now → Gives (exec (.idleTimeout n m) s) fun t => t.session m = {})

/-- R379, R381, R383, R388, R389, R391, R397: operations that are served. A read answers the object's value; a write that every check allows is kept, at
once or after its boundary; segments of a DOMAIN are kept until they cover it; signals are read, and written as orders of their boundary; events are
answered from the queue. A check that fails is answered and nothing is kept. (Model choices: assumptions 6, 10, 11, 40.) -/
def Obligations.AbacusOperations : Prop :=
  ∀ (n : Nat) (via : Via) (s q : State) (c : Caller) (index : BitVec 16) (sub : BitVec 8),
    let a := s.atTime n
    let i := index.toNat
    let u := sub.toNat
    (admission via (readReq i u) a = (q, some c) →
      (readFault i u c.level = stOk → (q.odRead i u).length ≤ 1400 → Gives (exec (.abRead n via index sub) s) fun t =>
        t.sent = q.sent ++ [answerMsg via stOk (q.odRead i u)]) ∧
      (readFault i u c.level ≠ stOk → Gives (exec (.abRead n via index sub) s) fun t =>
        t.sent = q.sent ++ [answerMsg via (readFault i u c.level) []])) ∧
    (∀ offset length, admission via { op := 0x12, index := i, sub := u, ty := 14, offset, length } a = (q, some c) → readFault i u c.level = stOk →
      isDomain i u = true → length ≤ 1400 → offset + length ≤ (q.odRead i u).length →
      Gives (exec (.abReadSegment n via index sub offset length) s) fun t =>
        t.sent = q.sent ++ [answerMsg via stOk (slice (q.odRead i u) offset length)]) ∧
    (∀ offset length, admission via { op := 0x14, index := i, sub := u, ty := 14, offset, length } a = (q, some c) → readFault i u c.level = stOk →
      isDomain i u = true → offset ≤ (q.odRead i u).length → Gives (exec (.abBulkRead n via index sub offset length) s) fun t =>
        let d := slice (q.odRead i u) offset (1024 * length)
        t.sent = q.sent ++ (answerParts d.length d).map (answerMsg via stOk)) ∧
    (∀ ty data, admission via (writeReq i u ty data) a = (q, some c) → writeCommand i u = none → writeSpecial i u = none →
      ((odRow i u).any (fun r => r.timing = .boundary) = false → q.plainFault i u c.level ty data = stOk →
        Gives (exec (.abWrite n via index sub ty data) s) fun t => t.odGet i u = data ∧ t.sent = q.sent ++ [answerMsg via stOk []]) ∧
      ((odRow i u).any (fun r => r.timing = .boundary) = true → q.plainFault i u c.level ty data = stOk →
        Gives (exec (.abWrite n via index sub ty data) s) fun t => t.od = q.od ∧ t.sent = q.sent ∧
          t.ctl.waiting = q.ctl.waiting ++ [{ boundary := q.hostBoundary, key := odKey i u, data, via, level := c.level, client := c.client }]) ∧
      (q.plainFault i u c.level ty data ≠ stOk → Gives (exec (.abWrite n via index sub ty data) s) fun t =>
        t.od.values = q.od.values ∧ t.ctl = q.ctl ∧ t.sent = q.sent ++ [answerMsg via (q.plainFault i u c.level ty data) []])) ∧
    (∀ m seq port addr mac offset total more data,
      let v := Via.abacus m seq port addr mac
      let old := (q.session m).asm.filter (fun a => a.1 = odKey i u)
      let segs := ((old.map (·.2.2)).getD []) ++ [(offset, data)]
      s.Shaped → admission v (segmentReq i u offset total more data) a = (q, some c) → writeRight i u c.level = stOk → isDomain i u = true →
      data.length ≤ 1400 → offset + data.length ≤ total → total ≤ 16777216 → old.any (fun a => a.2.1 != total) = false →
      q.assembling m (odKey i u) = false →
      (¬ (coverTo segs segs.length 0 = total ∧ more = false) → Gives (exec (.abWriteSegment n v index sub offset total more data) s) fun t =>
        (t.session m).asm = some (odKey i u, total, segs) ∧ t.sent = q.sent ++ [answerMsg v stOk []]) ∧
      (coverTo segs segs.length 0 = total → more = false → Gives (exec (.abWriteSegment n v index sub offset total more data) s) fun t =>
        t = writeObject i u c v .domain (assembleSegs total segs) (q.modSession m (fun x => { x with asm := none })))) ∧
    (∀ e, admission via { op := 0x20, index := i, ty := a.signalType i } a = (q, some c) → q.signal i = some e → e.size ≤ 1400 →
      Gives (exec (.abReadSignal n via index) s) fun t => t.sent = q.sent ++ [answerMsg via stOk (leBytes e.size (q.sigValue e).toNat)]) ∧
    (∀ ty data e, admission via { op := 0x21, index := i, ty := odCode ty, length := data.length, data } a = (q, some c) → q.signal i = some e →
      (q.signalFault e c.level ty data = stOk → Gives (exec (.abWriteSignal n via index ty data) s) fun t =>
        t.cis.orders = s.cis.orders ++ [{ entry := i, value := BitVec.ofNat 64 (leNat data), boundary := q.signalBoundary, via := some via
                                          level := c.level, client := c.client }] ∧ t.cis.mem = s.cis.mem) ∧
      (q.signalFault e c.level ty data ≠ stOk → Gives (exec (.abWriteSignal n via index ty data) s) fun t =>
        t.cis = s.cis ∧ t.sent = q.sent ++ [answerMsg via (q.signalFault e c.level ty data) []])) ∧
    (∀ fromSeq : BitVec 32, admission via { op := 0x30, ty := 4, length := 4, data := leBytes 4 fromSeq.toNat } a = (q, some c) →
      Gives (exec (.abEvents n via fromSeq) s) fun t =>
        let d := ((q.evq.entries.filter (fun e => fromSeq ≤ e.seq)).take 58).flatMap eventBytes
        t.sent = q.sent ++ (answerParts d.length d).map (answerMsg via stOk))

/-- R381, R384, R392, R402, R410: the write that prevails at a boundary is kept and leaves the queue with those it beats; of two, the higher level, then
the lower client, then the later prevails, and a STOP before any other mode command. A key, a code map and RESTORE-DEFAULTS are taken. (Model choices:
assumptions 11, 42.) -/
def Obligations.BoundaryContest : Prop :=
  ∀ (n : Nat) (via : Via) (s q : State) (c : Caller),
    let a := s.atTime n
    (∀ (index : BitVec 16) (sub : BitVec 8) (w : PendW) rest,
      s.ctl.waiting.filter (fun w => w.key = odKey index.toNat sub.toNat && decide (w.boundary ≤ a.cycleNow)) = w :: rest →
      (∀ v ∈ rest, v.boundary = w.boundary) → (index, sub) ≠ (0x1101, 1) → (index, sub) ≠ (0x6000, 0x10) → (index, sub) ≠ (0x7300, 0x0E) →
      Gives (exec (.boundaryWrite n index sub) s) fun t =>
        t.odGet index.toNat sub.toNat = (prevailing false 1 (0, w) rest).2.data ∧
        t.ctl.waiting = s.ctl.waiting.filter (fun v => !(v.key = odKey index.toNat sub.toNat && v.boundary = w.boundary)) ∧
        (rest = [] → t.sent = s.sent ++ [answerMsg w.via stOk []])) ∧
    (∀ (b : Bool) (w v : PendW),
      let pick := (prevailing b 1 (0, w) [v]).2
      (b = true → w.data = [2] → v.data ≠ [2] → pick = w) ∧ (b = true → v.data = [2] → w.data ≠ [2] → pick = v) ∧
      ((b = false ∨ (w.data = [2] ↔ v.data = [2])) →
        (v.level < w.level → pick = w) ∧ (w.level < v.level → pick = v) ∧
        (w.level = v.level → (w.client < v.client → pick = w) ∧ (v.client < w.client → pick = v) ∧ (w.client = v.client → pick = v)))) ∧
    (∀ (level : Fin 4) key, admission via (writeReq 0x1200 (0x08 + level.val) .ostring key) a = (q, some c) →
      q.plainFault 0x1200 (0x08 + level.val) c.level .ostring key = stOk → Gives (exec (.keyWrite n via level key) s) fun t =>
        t.levelKey level.val = key ∧ ∀ m, (t.session m).key = (q.session m).key) ∧
    (admission via (writeReq 0x1200 0x07 .u8 [1]) a = (q, some c) → q.writeFault 0x1200 0x07 c.level = stOk → Gives (exec (.restoreDefaults n via) s) fun t =>
      t.od.restore = true ∧ t.od.values = q.od.values) ∧
    (∀ map, admission via (writeReq 0x7000 0x06 .domain map) a = (q, some c) → q.plainFault 0x7000 0x06 c.level .domain map = stOk →
      ((chunksOf 16 map).any mapEntryBad || codesTwice (chunksOf 16 map)) = false → Gives (exec (.codeMapWrite n via map) s) fun t =>
        t.odGet 0x7000 0x06 = map ∧ t.rcd.mapPending = some (chunksOf 16 map, a.cycleNow + 1))

/-- R390: the SDO server of a bus answers up to 4 bytes at once and more in a transfer; a download is written when its data is complete; a wrong toggle or
a second without a frame ends the transfer (the abort codes are CiA 301's, PRESUMED). (Model choices: assumptions 6, 41.) -/
def Obligations.SdoTransfers : Prop :=
  ∀ (n : Nat) (s : State) (bus : Fin 2) (index : BitVec 16) (sub : BitVec 8),
    let a := s.atTime n
    let i := index.toNat
    let u := sub.toNat
    let level := (a.sdoCaller bus).level
    s.canOn bus = true →
    ((s.sdoServer bus).xfer = none →
      (readFault i u level = stOk → (a.odRead i u).length ≤ 4 → Gives (exec (.sdoUploadInitiate n bus index sub) s) fun t =>
        t.sent = s.sent ++ [.sdo bus 0 (a.odRead i u)] ∧ (t.sdoServer bus).xfer = none) ∧
      (readFault i u level = stOk → 4 < (a.odRead i u).length → Gives (exec (.sdoUploadInitiate n bus index sub) s) fun t =>
        t.sent = s.sent ++ [.sdo bus 0 (leBytes 4 (a.odRead i u).length)] ∧
        (t.sdoServer bus).xfer = some { download := false, key := odKey i u, total := (a.odRead i u).length, data := a.odRead i u, block := false
                                        lastAt := a.time.now, toggle := false }) ∧
      (readFault i u level ≠ stOk → Gives (exec (.sdoUploadInitiate n bus index sub) s) fun t =>
        t.sent = s.sent ++ [.sdo bus (sdoAbort (readFault i u level)) []]) ∧
      (∀ data, Gives (exec (.sdoDownloadInitiate n bus index sub data.length data) s) fun t =>
        t = writeObject i u (a.sdoCaller bus) (.sdo bus) (((odRow i u).map (·.ty)).getD .u8) data a) ∧
      (∀ total, total ≠ 0 → writeRight i u level = stOk → Gives (exec (.sdoDownloadInitiate n bus index sub total []) s) fun t =>
        t.sent = s.sent ++ [.sdo bus 0 []] ∧
        (t.sdoServer bus).xfer = some { download := true, key := odKey i u, total, data := [], block := false
                                        lastAt := a.time.now, toggle := false })) ∧
    (∀ x, (s.sdoServer bus).xfer = some x →
      (∀ last data, x.block = false → x.download = true → last = false → (x.data ++ data.take 7).length ≤ x.total →
        Gives (exec (.sdoSegment n bus x.toggle last data) s) fun t => t.sent = s.sent ++ [.sdo bus 0 []] ∧
          (t.sdoServer bus).xfer = some { x with data := x.data ++ data.take 7, toggle := !x.toggle, lastAt := a.time.now }) ∧
      (∀ data, x.block = false → x.download = true → (x.data ++ data.take 7).length = x.total →
        Gives (exec (.sdoSegment n bus x.toggle true data) s) fun t =>
          t = endDownload bus { x with data := x.data ++ data.take 7, toggle := !x.toggle, lastAt := a.time.now } a) ∧
      (∀ last data, x.block = false → x.download = false → Gives (exec (.sdoSegment n bus x.toggle last data) s) fun t =>
        t.sent = s.sent ++ [.sdo bus 0 (x.data.take 7)] ∧
        (t.sdoServer bus).xfer = (if (x.data.drop 7).isEmpty then none else
          some { x with data := x.data.drop 7, toggle := !x.toggle, lastAt := a.time.now })) ∧
      (∀ last data, x.block = false → Gives (exec (.sdoSegment n bus (!x.toggle) last data) s) fun t =>
        (t.sdoServer bus).xfer = none ∧ t.sent = s.sent ++ [.sdo bus 0x05030000 []]) ∧
      (∀ data, x.download = true → (x.data ++ data.take 7).length ≤ x.total →
        Gives (exec (.sdoBlockTransfer n bus x.nextSeqno false data) s) fun t =>
          (t.sdoServer bus).xfer = some { x with block := true, data := x.data ++ data.take 7, lastAt := a.time.now }) ∧
      (∀ seqno data, x.download = true → seqno ≠ x.nextSeqno → Gives (exec (.sdoBlockTransfer n bus seqno false data) s) fun t =>
        t.sent = s.sent ++ [.sdo bus 0 [BitVec.ofNat 8 (x.nextSeqno - 1)]] ∧ (t.sdoServer bus).xfer = some x) ∧
      (∀ seqno last data, x.download = false → Gives (exec (.sdoBlockTransfer n bus seqno last data) s) fun t =>
        (t.sdoServer bus).xfer = (if (x.data.drop (7 * seqno)).isEmpty then none else
          some { x with block := true, data := x.data.drop (7 * seqno), lastAt := a.time.now })) ∧
      (x.lastAt + 1000000000 ≤ a.time.now → Gives (exec (.sdoSegmentTimeout n bus) s) fun t =>
        (t.sdoServer bus).xfer = none ∧ t.sent = s.sent ++ [.sdo bus 0x05040000 []]))

/-- R405, R421, R422, R430: the transfer of an image. BEGIN discards an earlier transfer and leaves STATE RECEIVING with the target, form and lengths as
written and no block; a block of the right offset, length and CRC is held, and the last one leaves COMPLETE; a block held already changes nothing; a
block that fails leaves the blocks as they are, and its REASON; VERIFY leaves VERIFYING; ABORT leaves IDLE with REASON 10; a check that fails changes
no slot and no STATE. (Model choices: assumptions 11, 43.) -/
def Obligations.UpdateTransfer : Prop :=
  ∀ (n : Nat) (via : Via) (s q : State) (c : Caller),
    let a := s.atTime n
    let served (v : Byte) : Prop := admission via (writeReq 0x8000 0x01 .u8 [v]) a = (q, some c) ∧ q.writeFault 0x8000 0x01 c.level = stOk
    (served 1 →
      (q.beginFault = stOk → Gives (exec (.updBegin n via) s) fun t =>
        t.upd.state = .receiving ∧ t.upd.reason = 0 ∧ t.upd.blocks = [] ∧ t.upd.app = (q.odNat 0x8000 0x02).testBit 4 ∧
        t.upd.slotB = (q.odNat 0x8000 0x02).testBit 0 ∧ t.upd.delta = decide (q.odNat 0x8000 0x03 = 1) ∧
        t.upd.imageLen = q.odNat 0x8000 0x04 ∧ t.upd.streamLen = q.odNat 0x8000 0x05 ∧ t.target.state = 1 ∧
        (t.upd.active t.upd.app ≠ some t.upd.slotB)) ∧
      (q.beginFault ≠ stOk → Gives (exec (.updBegin n via) s) fun t =>
        t.upd = s.upd ∧ t.sent = q.sent ++ [answerMsg via q.beginFault []])) ∧
    (∀ (offset length : Nat) (crc : BitVec 32) (data : Bytes),
      let b := blockBytes offset length crc data
      admission via (writeReq 0x8010 0x01 .domain b) a = (q, some c) → q.writeFault 0x8010 0x01 c.level = stOk → typeBad 0x8010 0x01 .domain b = stOk →
      s.upd.state = .receiving → offset < 4294967296 → length < 65536 →
      (offset % 1024 = 0 → offset < s.upd.streamLen → length = s.upd.blockLen offset → data.length = length →
        (crc = crc32 data → lookupKey (offset / 1024) s.upd.blocks = none → Gives (exec (.updBlock n via offset length crc data) s) fun t =>
          t.upd.blocks = setKey (offset / 1024) (crc, data) s.upd.blocks ∧
          t.upd.state = (if (setKey (offset / 1024) (crc, data) s.upd.blocks).length = (s.upd.streamLen + 1023) / 1024 then .complete else .receiving)) ∧
        (∀ old, crc = crc32 data → lookupKey (offset / 1024) s.upd.blocks = some old → Gives (exec (.updBlock n via offset length crc data) s) fun t =>
          t.upd = s.upd ∧ t.sent = q.sent ++ [answerMsg via (if old.1 = crc then stOk else stRange) []]) ∧
        (crc ≠ crc32 data → Gives (exec (.updBlock n via offset length crc data) s) fun t =>
          t.upd = { s.upd with reason := 1 } ∧ t.sent = q.sent ++ [answerMsg via stRange []])) ∧
      (offset % 1024 ≠ 0 ∨ s.upd.streamLen ≤ offset ∨ length ≠ s.upd.blockLen offset ∨ data.length ≠ length →
        Gives (exec (.updBlock n via offset length crc data) s) fun t =>
          t.upd = { s.upd with reason := 2 } ∧ t.sent = q.sent ++ [answerMsg via stOffset []])) ∧
    (served 2 →
      (s.upd.state = .complete → Gives (exec (.updVerify n via) s) fun t => t.upd = { s.upd with state := .verifying }) ∧
      (s.upd.state ≠ .complete → Gives (exec (.updVerify n via) s) fun t => t.upd = s.upd ∧ t.sent = q.sent ++ [answerMsg via stWrongState []])) ∧
    (served 4 →
      (s.upd.state ≠ .idle → s.upd.state ≠ .activating → s.upd.state ≠ .trial → Gives (exec (.updAbort n via) s) fun t =>
        t.upd.state = .idle ∧ t.upd.reason = 10 ∧ t.upd.blocks = [] ∧
        (s.target.state = 3 → t.target = s.target) ∧ (s.target.state ≠ 3 → t.target = { s.target with state := 4 })) ∧
      (s.upd.state = .idle ∨ s.upd.state = .activating ∨ s.upd.state = .trial → Gives (exec (.updAbort n via) s) fun t =>
        t.upd = s.upd ∧ t.sent = q.sent ++ [answerMsg via stWrongState []]))

/-- R421, R424, R426, R429: VERIFY ends VERIFIED with the rebuilt image in the target slot, or FAILED with its REASON and the slot INVALID; a verified
image that ACTIVATE starts is the active slot in its trial, the old slot is its FALLBACK, and the module starts again from stage 1; an image below the
counter half is refused, its slot INVALID; a trial that failed returns to the FALLBACK slot. (Model choices: assumptions 43, 44.) -/
def Obligations.UpdateVerdicts : Prop :=
  ∀ (n : Nat) (via : Via) (s q : State) (c : Caller),
    let a := s.atTime n
    (∀ (bad : List Lane) (commonsOk : Bool), s.upd.state = .verifying →
      let x := (a.checkImage bad commonsOk).2
      (x.reason = 0 → Gives (exec (.updVerifyComplete n bad commonsOk) s) fun t =>
        t.upd.state = .verified ∧ t.upd.reason = 0 ∧ bad = [] ∧ (∀ l, (s.lane l).state = .isIn) ∧
        t.target = { bytes := (a.checkImage bad commonsOk).1, state := 3, allCopies := true, ident := x.ident, rollback := x.rollback }) ∧
      (x.reason ≠ 0 → Gives (exec (.updVerifyComplete n bad commonsOk) s) fun t =>
        t.upd.state = .failed ∧ t.upd.reason = x.reason ∧ t.target = { s.target with state := 4 })) ∧
    (admission via (writeReq 0x8000 0x01 .u8 [3]) a = (q, some c) → q.writeFault 0x8000 0x01 c.level = stOk →
      (3 ≤ c.level → q.mayActivate = true → q.targetRolled = false →
        Gives (exec (.updActivate n via) s) fun t =>
          t.upd.state = .trial ∧ t.upd.active s.upd.app = some s.upd.slotB ∧ t.target.bytes = s.target.bytes ∧ t.target.trial = true ∧
          t.upd.trialKind = some s.upd.app ∧ t.ctl.stage = 1 ∧ t.ctl.mode = .boot ∧
          (∀ b, s.upd.active s.upd.app = some b → b ≠ s.upd.slotB → (t.upd.slot s.upd.app b).fallback = true)) ∧
      (3 ≤ c.level → q.mayActivate = true → q.targetRolled = true → Gives (exec (.updActivate n via) s) fun t =>
        t.upd = { s.upd.modTarget (fun x => { x with state := 4 }) with reason := 6 } ∧ t.ctl = s.ctl ∧
        t.sent = q.sent ++ [answerMsg via stWrongState []]) ∧
      (c.level < 3 → Gives (exec (.updActivate n via) s) fun t => t.upd = s.upd ∧ t.sent = q.sent ++ [answerMsg via stAuthority []]) ∧
      (3 ≤ c.level → q.mayActivate = false → Gives (exec (.updActivate n via) s) fun t =>
        t.upd = s.upd ∧ t.sent = q.sent ++ [answerMsg via stWrongState []])) ∧
    (∀ app b, s.upd.trialKind = some app → a.trialFailed = true → s.upd.active app = some b →
      Gives (exec (.trialFallback n) s) fun t =>
        t.upd.state = .failed ∧ t.upd.reason = 9 ∧ t.upd.trialKind = none ∧ (t.upd.slot app b).state = 4 ∧ t.ctl.stage = 1 ∧ t.ctl.mode = .boot ∧
        ((s.upd.slot app !b).fallback = true → t.upd.active app = some !b))
end

