-- ==== Sys2Proof/Laws/Frames.lean ====
section
/-! SUPPORT. Frames: the steps by which the lemmas of Laws/Only*.lean find which parts of a state an operation touches. -/

set_option Elab.async false

namespace Sys2Proof.Machine

/-- Every part of `a` is a part of `b`. -/
def sub (a b : List Part) : Bool := a.all (fun p => b.contains p)

theorem sub_trans {a b c : List Part} (h : sub a b = true) (k : sub b c = true) : sub a c = true := by
  simp only [sub, List.all_eq_true, List.contains_iff_mem] at *
  exact fun p hp => k p (h p hp)

theorem Part.same_refl (s : State) (p : Part) : p.same s s := by cases p <;> simp [Part.same]

theorem Part.same_trans {s t u : State} {p : Part} (h : p.same s t) (k : p.same t u) : p.same s u := by
  cases p <;> simp only [Part.same] at * <;> simp_all

theorem Only.refl (l : List Part) (s : State) : Only l s s := ⟨fun p _ => p.same_refl s, rfl, rfl, rfl⟩

theorem Only.trans {l : List Part} {s t u : State} (h : Only l s t) (k : Only l t u) : Only l s u :=
  ⟨fun p hp => Part.same_trans (h.1 p hp) (k.1 p hp), k.2.1.trans h.2.1, k.2.2.1.trans h.2.2.1, k.2.2.2.trans h.2.2.2⟩

theorem Only.mono {d w : List Part} {s t : State} (hs : sub d w = true) (h : Only d s t) : Only w s t := by
  refine ⟨fun p hp => h.1 p ?_, h.2⟩
  by_contra hd
  simp only [sub, List.all_eq_true] at hs
  have := hs p (by simpa using hd)
  rw [hp] at this
  exact Bool.noConfusion this

/-- An update of the parts `d` alone. -/
def Upd (d : List Part) (s t : State) : Prop := Only d s t

theorem Only_upd {d w : List Part} {r s t : State} (hw : sub d w = true) (h : Only w r s) (e : Upd d s t) : Only w r t :=
  h.trans (Only.mono hw e)

/-- A state written out field by field, that differs in the parts `w` alone. -/
def Mk (w : List Part) (r : State) (pd : List Instr) (ti : TimeBase) (ct : Ctl) (la lb lc : LaneSt)
    (rk : Reckoner) (ci : Cistern) (fa : Fabric) (fi : FieldIo) (sw : SwitchSt) (te : Telegrams) (br : Bridge) (pr : Pair)
    (od : Od) (up : Update) (ev : EventQ) (rc : Recorder) (se : List Sent) (fr : Nat) (sn : Bytes) (is : Nat) : Prop :=
  Only w r (State.mk pd ti ct la lb lc rk ci fa fi sw te br pr od up ev rc se fr sn is)

theorem Only_mk {w : List Part} {r : State} {pd ti ct la lb lc rk ci fa fi sw te br pr od up ev rc se fr sn is} :
    Only w r (State.mk pd ti ct la lb lc rk ci fa fi sw te br pr od up ev rc se fr sn is) ↔
      Mk w r pd ti ct la lb lc rk ci fa fi sw te br pr od up ev rc se fr sn is := Iff.rfl

theorem Mk_of {d w : List Part} {r s : State} {pd ti ct la lb lc rk ci fa fi sw te br pr od up ev rc se fr sn is}
    (hw : sub d w = true) (_ : pd = s.pending) (h : Only w r s)
    (e : Upd d s (State.mk pd ti ct la lb lc rk ci fa fi sw te br pr od up ev rc se fr sn is)) :
    Mk w r pd ti ct la lb lc rk ci fa fi sw te br pr od up ev rc se fr sn is := Only_upd hw h e

theorem Upd_of {d : List Part} {s t : State} (hp : t.pending = s.pending) (h : t.serial = s.serial) (hi : t.issue = s.issue)
    (e : ∀ p, d.contains p = true ∨ p.same s t) : Upd d s t :=
  ⟨fun p hd => (e p).resolve_left (fun ht => Bool.noConfusion (hd.symm.trans ht)), hp, h, hi⟩

/-- The one of two values that a part takes: the new one when the part is listed. -/
def pick {α : Type} (d : List Part) (p : Part) (new old : α) : α := match d.contains p with
  | true => new
  | false => old

/-- `s` with the parts `d` taken from `t`. -/
def patched (d : List Part) (s t : State) : State :=
  { pending := s.pending, serial := s.serial, issue := s.issue
    time := { pick d .time t.time s.time with now := pick d .now t.time.now s.time.now }
    ctl := { pick d .ctl t.ctl s.ctl with mode := pick d .mode t.ctl.mode s.ctl.mode }
    lanA := pick d .lanes t.lanA s.lanA, lanB := pick d .lanes t.lanB s.lanB, lanC := pick d .lanes t.lanC s.lanC
    rek := pick d .rek t.rek s.rek
    cis := { pick d .cis t.cis s.cis with mem := pick d .mem t.cis.mem s.cis.mem }
    fab := pick d .fab t.fab s.fab, fio := pick d .fio t.fio s.fio, sw := pick d .sw t.sw s.sw
    tel := pick d .tel t.tel s.tel
    bri := { pick d .bri t.bri s.bri with mem := pick d .dma t.bri.mem s.bri.mem }
    pair := pick d .pair t.pair s.pair, od := pick d .od t.od s.od, upd := pick d .upd t.upd s.upd
    evq := pick d .records t.evq s.evq, rcd := pick d .records t.rcd s.rcd, sent := pick d .sent t.sent s.sent
    freeCount := pick d .free t.freeCount s.freeCount }

theorem pick_false {α : Type} {d : List Part} {p : Part} {new old : α} (h : d.contains p = false) :
    pick d p new old = old := by
  unfold pick; rw [h]

theorem Upd_rfl {d : List Part} {s t : State} (e : t = patched d s t) : Upd d s t := by
  refine ⟨fun p hp => ?_, ?_, ?_, ?_⟩
  · cases p <;> (rw [e]; simp only [Part.same, patched, pick_false hp, and_self])
  all_goals rw [e]; rfl

/-- An outcome whose next state differs in the parts `w` alone. -/
def OutOnly (w : List Part) (r : State) (o : Out) : Prop := ∀ s, o = .next s → Only w r s

theorem Only_ite {w : List Part} {r : State} {c : Prop} [Decidable c] {a b : State} (ha : c → Only w r a)
    (hb : ¬ c → Only w r b) : Only w r (if c then a else b) := by
  split
  · exact ha ‹_›
  · exact hb ‹_›

theorem Only_fst_ite {α : Type} {w : List Part} {r : State} {c : Prop} [Decidable c] {a b : State × α}
    (ha : c → Only w r a.1) (hb : ¬ c → Only w r b.1) : Only w r (if c then a else b).1 := by
  split
  · exact ha ‹_›
  · exact hb ‹_›

theorem Only_snd_ite {α : Type} {w : List Part} {r : State} {c : Prop} [Decidable c] {a b : α × State}
    (ha : c → Only w r a.2) (hb : ¬ c → Only w r b.2) : Only w r (if c then a else b).2 := by
  split
  · exact ha ‹_›
  · exact hb ‹_›

theorem Only_of_fst {α : Type} {w : List Part} {r : State} {q : State × α} {s : State} {x : α} (e : q = (s, x))
    (h : Only w r q.1) : Only w r s := by rw [e] at h; exact h

theorem Only_of_snd {α : Type} {w : List Part} {r : State} {q : α × State} {s : State} {x : α} (e : q = (x, s))
    (h : Only w r q.2) : Only w r s := by rw [e] at h; exact h

theorem OutOnly_ite {w : List Part} {r : State} {c : Prop} [Decidable c] {a b : Out} (ha : c → OutOnly w r a)
    (hb : ¬ c → OutOnly w r b) : OutOnly w r (if c then a else b) := by
  split
  · exact ha ‹_›
  · exact hb ‹_›

theorem OutOnly_next {w : List Part} {r s : State} : OutOnly w r (.next s) ↔ Only w r s :=
  ⟨fun h => h s rfl, fun h t e => by cases e; exact h⟩

theorem only_foldl {α : Type} {w : List Part} {r : State} {f : State → α → State} {l : List α} {s : State}
    (hf : ∀ s a, Only w r s → Only w r (f s a)) (h : Only w r s) : Only w r (l.foldl f s) := by
  induction l generalizing s with
  | nil => exact h
  | cons a l ih => exact ih (hf s a h)

theorem only_foldl_fst {α β : Type} {w : List Part} {r : State} {f : State × β → α → State × β} {l : List α} {s : State × β}
    (hf : ∀ s a, Only w r s.1 → Only w r (f s a).1) (h : Only w r s.1) : Only w r (l.foldl f s).1 := by
  induction l generalizing s with
  | nil => exact h
  | cons a l ih => exact ih (hf s a h)

/-! ### What an untouched part says of its fields -/

theorem Only.ctl {l : List Part} {s t : State} (h : Only l s t) (h1 : l.contains .ctl = false) (h2 : l.contains .mode = false) :
    t.ctl = s.ctl := by
  have a := h.1 .ctl h1
  have b := h.1 .mode h2
  simp only [Part.same] at a b
  calc t.ctl = { ({ t.ctl with mode := .off } : Ctl) with mode := t.ctl.mode } := rfl
    _ = { ({ s.ctl with mode := .off } : Ctl) with mode := s.ctl.mode } := by rw [← a, ← b]
    _ = s.ctl := rfl

theorem Only.cis {l : List Part} {s t : State} (h : Only l s t) (h1 : l.contains .cis = false) (h2 : l.contains .mem = false) :
    t.cis = s.cis := by
  have a := h.1 .cis h1
  have b := h.1 .mem h2
  simp only [Part.same] at a b
  calc t.cis = { ({ t.cis with mem := [] } : Cistern) with mem := t.cis.mem } := rfl
    _ = { ({ s.cis with mem := [] } : Cistern) with mem := s.cis.mem } := by rw [← a, ← b]
    _ = s.cis := rfl

theorem Only.bri {l : List Part} {s t : State} (h : Only l s t) (h1 : l.contains .bri = false) (h2 : l.contains .dma = false) :
    t.bri = s.bri := by
  have a := h.1 .bri h1
  have b := h.1 .dma h2
  simp only [Part.same] at a b
  calc t.bri = { ({ t.bri with mem := [] } : Bridge) with mem := t.bri.mem } := rfl
    _ = { ({ s.bri with mem := [] } : Bridge) with mem := s.bri.mem } := by rw [← a, ← b]
    _ = s.bri := rfl

theorem Only.time {l : List Part} {s t : State} (h : Only l s t) (h1 : l.contains .time = false) (h2 : l.contains .now = false) :
    t.time = s.time := by
  have a := h.1 .time h1
  have b := h.1 .now h2
  simp only [Part.same] at a b
  calc t.time = { ({ t.time with now := 0 } : TimeBase) with now := t.time.now } := rfl
    _ = { ({ s.time with now := 0 } : TimeBase) with now := s.time.now } := by rw [← a, ← b]
    _ = s.time := rfl

theorem Only.mode {l : List Part} {s t : State} (h : Only l s t) (h1 : l.contains .mode = false) :
    t.ctl.mode = s.ctl.mode := (h.1 .mode h1).symm

theorem Only.mem {l : List Part} {s t : State} (h : Only l s t) (h1 : l.contains .mem = false) :
    t.cis.mem = s.cis.mem := (h.1 .mem h1).symm

theorem Only.now {l : List Part} {s t : State} (h : Only l s t) (h1 : l.contains .now = false) :
    t.time.now = s.time.now := (h.1 .now h1).symm

theorem Only.lanes {l : List Part} {s t : State} (h : Only l s t) (h1 : l.contains .lanes = false) :
    t.lanA = s.lanA ∧ t.lanB = s.lanB ∧ t.lanC = s.lanC :=
  have a := h.1 .lanes h1
  ⟨a.1.symm, a.2.1.symm, a.2.2.symm⟩

theorem Only.records {l : List Part} {s t : State} (h : Only l s t) (h1 : l.contains .records = false) :
    t.evq = s.evq ∧ t.rcd = s.rcd :=
  have a := h.1 .records h1
  ⟨a.1.symm, a.2.symm⟩

theorem Only.free {l : List Part} {s t : State} (h : Only l s t) (h1 : l.contains .free = false) :
    t.freeCount = s.freeCount := (h.1 .free h1).symm

theorem Only.fab {l : List Part} {s t : State} (h : Only l s t) (h1 : l.contains .fab = false) : t.fab = s.fab :=
  (h.1 .fab h1).symm

theorem Only.fio {l : List Part} {s t : State} (h : Only l s t) (h1 : l.contains .fio = false) : t.fio = s.fio :=
  (h.1 .fio h1).symm

theorem Only.sw {l : List Part} {s t : State} (h : Only l s t) (h1 : l.contains .sw = false) : t.sw = s.sw :=
  (h.1 .sw h1).symm

theorem Only.tel {l : List Part} {s t : State} (h : Only l s t) (h1 : l.contains .tel = false) : t.tel = s.tel :=
  (h.1 .tel h1).symm

theorem Only.pair {l : List Part} {s t : State} (h : Only l s t) (h1 : l.contains .pair = false) : t.pair = s.pair :=
  (h.1 .pair h1).symm

theorem Only.od {l : List Part} {s t : State} (h : Only l s t) (h1 : l.contains .od = false) : t.od = s.od :=
  (h.1 .od h1).symm

theorem Only.upd {l : List Part} {s t : State} (h : Only l s t) (h1 : l.contains .upd = false) : t.upd = s.upd :=
  (h.1 .upd h1).symm

theorem Only.rek {l : List Part} {s t : State} (h : Only l s t) (h1 : l.contains .rek = false) : t.rek = s.rek :=
  (h.1 .rek h1).symm

theorem Only.sent {l : List Part} {s t : State} (h : Only l s t) (h1 : l.contains .sent = false) : t.sent = s.sent :=
  (h.1 .sent h1).symm

end Sys2Proof.Machine
end

