-- ==== Sys2Proof/Laws/Memory.lean ====
section
/-! SUPPORT. The canonical form of sparse data and of byte memories: every memory operation keeps it (assumption 3). -/

set_option Elab.async false

namespace Sys2Proof.Machine

/-! ### The canonical form -/

theorem sWfFrom_mono {α : Type} [DecidableEq α] {d : α} : ∀ {l : Sparse α} {a b : Nat}, a ≤ b → sWfFrom d b l = true → sWfFrom d a l = true
  | [], _, _, _, _ => rfl
  | (k, v) :: r, a, b, hab, h => by
    simp only [sWfFrom, Bool.and_eq_true, decide_eq_true_eq] at h ⊢
    exact ⟨le_trans hab h.1, h.2⟩

theorem sWfFrom_sSet {α : Type} [DecidableEq α] {d : α} {k : Nat} {v : α} : ∀ {l : Sparse α} {a : Nat}, a ≤ k →
    sWfFrom d a l = true → sWfFrom d a (sSet d k v l) = true
  | [], a, hk, _ => by
    unfold sSet
    split
    · rfl
    · simp_all [sWfFrom]
  | (k', v') :: r, a, hk, h => by
    have h' := h
    simp only [sWfFrom, Bool.and_eq_true, decide_eq_true_eq] at h
    unfold sSet
    split
    · split
      · exact h'
      · simp only [sWfFrom, Bool.and_eq_true, decide_eq_true_eq]
        exact ⟨hk, ‹_›, by omega, h.2⟩
    · split
      · split
        · exact sWfFrom_mono (by omega) h.2.2
        · subst_vars
          simp only [sWfFrom, Bool.and_eq_true, decide_eq_true_eq]
          exact ⟨h.1, ‹_›, h.2.2⟩
      · simp only [sWfFrom, Bool.and_eq_true, decide_eq_true_eq]
        exact ⟨h.1, h.2.1, sWfFrom_sSet (by omega) h.2.2⟩

theorem wf_cSet {a : Nat} {b : Byte} {m : Cells} (h : Memory.wf m = true) : Memory.wf (cSet a b m) = true :=
  sWfFrom_sSet (Nat.zero_le _) h

theorem wf_cWrite : ∀ {bs : Bytes} {a : Nat} {m : Cells}, Memory.wf m = true → Memory.wf (cWrite a bs m) = true
  | [], _, _, h => h
  | _ :: bs, a, _, h => wf_cWrite (bs := bs) (a := a + 1) (wf_cSet h)

theorem wf_cClear : ∀ {n a : Nat} {m : Cells}, Memory.wf m = true → Memory.wf (cClear a n m) = true
  | 0, _, _, h => h
  | n + 1, a, _, h => wf_cClear (n := n) (a := a + 1) (wf_cSet h)

theorem wf_foldl {α : Type} {f : Cells → α → Cells} (hf : ∀ m x, Memory.wf m = true → Memory.wf (f m x) = true) :
    ∀ {l : List α} {m : Cells}, Memory.wf m = true → Memory.wf (l.foldl f m) = true
  | [], _, h => h
  | x :: r, m, h => wf_foldl hf (l := r) (hf m x h)

/-! ### Reading back what was written -/

theorem sGet_sSet_self {α : Type} [DecidableEq α] {d : α} {k : Nat} {v : α} :
    ∀ {l : Sparse α} {a : Nat}, sWfFrom d a l = true → sGet d k (sSet d k v l) = v
  | [], _, _ => by
    unfold sSet
    split
    · simp_all [sGet]
    · simp [sGet]
  | (k', v') :: r, a, h => by
    simp only [sWfFrom, Bool.and_eq_true, decide_eq_true_eq] at h
    unfold sSet
    split
    · rename_i hk
      split
      · rename_i hv
        have hne : k ≠ k' := by omega
        simp [sGet, hne, hk, hv]
      · simp [sGet]
    · split
      · rename_i hk hv
        subst hv
        split
        · rename_i hd
          cases r with
          | nil => simp [sGet, hd]
          | cons e r =>
            have h2 := h.2.2
            simp only [sWfFrom, Bool.and_eq_true, decide_eq_true_eq] at h2
            have hne : k ≠ e.1 := by omega
            have hlt : k < e.1 := by omega
            simp [sGet, hne, hlt, hd]
        · simp [sGet]
      · rename_i hk hv
        have ih := sGet_sSet_self (k := k) (v := v) h.2.2
        simp [sGet, hv, hk, ih]

theorem sGet_sSet_other {α : Type} [DecidableEq α] {d : α} {k j : Nat} {v : α} (hj : j ≠ k) :
    ∀ {l : Sparse α} {a : Nat}, sWfFrom d a l = true → sGet d j (sSet d k v l) = sGet d j l
  | [], _, _ => by
    unfold sSet
    split
    · rfl
    · simp [sGet, hj]
  | (k', v') :: r, a, h => by
    simp only [sWfFrom, Bool.and_eq_true, decide_eq_true_eq] at h
    unfold sSet
    split
    · split
      · rfl
      · rename_i hk _
        by_cases h1 : j < k
        · have h2 : j ≠ k' := by omega
          have h3 : j < k' := by omega
          simp [sGet, hj, h1, h2, h3]
        · simp [sGet, hj, h1]
    · split
      · rename_i hk hv
        subst hv
        split
        · cases r with
          | nil => simp [sGet, hj]
          | cons e r =>
            have h2 := h.2.2
            simp only [sWfFrom, Bool.and_eq_true, decide_eq_true_eq] at h2
            by_cases h1 : j < k
            · have h3 : j ≠ e.1 := by omega
              have h4 : j < e.1 := by omega
              simp [sGet, hj, h1, h3, h4]
            · simp [sGet, hj, h1]
        · simp [sGet, hj]
      · have ih := sGet_sSet_other (v := v) hj h.2.2
        simp [sGet, ih]

theorem cGet_cSet_self {a : Nat} {b : Byte} {m : Cells} (h : Memory.wf m = true) : cGet a (cSet a b m) = b :=
  sGet_sSet_self h

theorem cGet_cSet_other {a c : Nat} {b : Byte} {m : Cells} (hc : c ≠ a) (h : Memory.wf m = true) :
    cGet c (cSet a b m) = cGet c m :=
  sGet_sSet_other hc h

/-- Bytes outside a written range keep their value. -/
theorem cGet_cWrite_outside : ∀ {bs : Bytes} {a c : Nat} {m : Cells}, Memory.wf m = true → (c < a ∨ a + bs.length ≤ c) →
    cGet c (cWrite a bs m) = cGet c m
  | [], _, _, _, _, _ => rfl
  | b :: bs, a, c, m, h, hc => by
    have hl : (b :: bs).length = bs.length + 1 := rfl
    have h1 := cGet_cWrite_outside (bs := bs) (a := a + 1) (c := c) (wf_cSet (a := a) (b := b) h) (by omega)
    have h2 : cGet c (cSet a b m) = cGet c m := cGet_cSet_other (by omega) h
    exact h1.trans h2

/-! ### The operations over the Cistern Commons -/

theorem wf_putStore {e : SigEntry} {w : Word} {m : Cells} (h : Memory.wf m = true) : Memory.wf (putStore e w m) = true :=
  wf_cWrite h

theorem wf_initSegments (app : AppImage) : Memory.wf (initSegments app) = true :=
  wf_foldl (fun _ _ => wf_cWrite) rfl

theorem wf_initSignals {app : AppImage} {m : Cells} (h : Memory.wf m = true) : Memory.wf (initSignals app m) = true :=
  wf_foldl (fun _ _ => wf_putStore) h

theorem wf_putRetained {app : AppImage} {b : Bytes} {m : Cells} (h : Memory.wf m = true) :
    Memory.wf (putRetained app b m) = true :=
  wf_foldl (fun _ _ => wf_putStore) h

theorem wf_putAll {ws : List (Nat × Bytes)} {m : Cells} (h : Memory.wf m = true) : Memory.wf (putAll ws m) = true :=
  wf_foldl (fun _ _ => wf_cWrite) h

theorem wf_carryBlock {old new : AppImage} {mem m : Cells} {d : BlockDef} (h : Memory.wf m = true) :
    Memory.wf (carryBlock old new mem m d) = true := by
  unfold carryBlock
  split
  · exact wf_cWrite h
  · split
    · exact h
    · exact wf_cClear h

theorem wf_carrySignal {old : AppImage} {mem m : Cells} {e : SigEntry} (h : Memory.wf m = true) :
    Memory.wf (carrySignal old mem m e) = true := by
  unfold carrySignal
  split
  · exact wf_putStore h
  · exact wf_putStore h

theorem wf_carryStore (old new : AppImage) (mem : Cells) : Memory.wf (carryStore old new mem) = true :=
  wf_foldl (fun _ _ => wf_cSet) (wf_foldl (fun _ _ => wf_carrySignal) (wf_foldl (fun _ _ => wf_carryBlock) (wf_initSegments new)))

end Sys2Proof.Machine
end

