-- ==== Sys2Proof/Laws/Kept.lean ====
section
/-! SUPPORT. The event queue and the invariant that every operation keeps: its statement, and the steps by which the
lemmas of Laws/Keeps*.lean go through the operations. -/

set_option Elab.async false

namespace Sys2Proof.Machine

/-! ### The event queue (R397) -/

theorem seqsBefore_drop {n : BitVec 32} : ∀ (l : List Event) (d : Nat), seqsBefore n l → seqsBefore n (l.drop d)
  | [], d, _ => by simp [seqsBefore]
  | e :: r, 0, h => h
  | e :: r, d + 1, h => seqsBefore_drop r d h.2

theorem seqsBefore_push {n : BitVec 32} {x : Event} (hx : x.seq = n) : ∀ (l : List Event), seqsBefore n l → seqsBefore (n + 1) (l ++ [x])
  | [], _ => by simp [seqsBefore, hx]
  | e :: r, h => by
    refine ⟨?_, seqsBefore_push hx r h.2⟩
    have h1 := h.1
    have e2 : (r ++ [x]).length + 1 = (r.length + 1) + 1 := by simp
    change e.seq + BitVec.ofNat 32 ((r ++ [x]).length + 1) = n + 1
    rw [e2, BitVec.ofNat_add, ← BitVec.add_assoc, h1]
    rfl

theorem enqueue_entries (q : EventQ) (x : Event) : ∃ d, (enqueue q x).entries = q.entries.drop d ++ [x] := by
  by_cases hf : 512 ≤ q.entries.length
  · exact ⟨_, congrArg (· ++ [x]) (if_pos hf)⟩
  · exact ⟨0, congrArg (· ++ [x]) (if_neg hf)⟩

theorem enqueue_room (q : EventQ) (x : Event) (h : q.entries.length ≤ 512) : (enqueue q x).entries.length ≤ 512 := by
  unfold enqueue
  dsimp only
  split
  · rw [List.length_append, List.length_drop, List.length_singleton]; omega
  · rw [List.length_append, List.length_singleton]; omega

theorem enqueue_ok {q : EventQ} {x : Event} (hx : x.seq = q.nextSeq) (h : q.ok) : (enqueue q x).ok := by
  refine ⟨enqueue_room q x h.room, ?_⟩
  obtain ⟨d, hd⟩ := enqueue_entries q x
  rw [hd]
  exact seqsBefore_push hx _ (seqsBefore_drop _ _ h.seqs)

/-! ### The invariant -/

structure Fixed where
  /-- What no command changes, and the least values of the two anti-rollback halves (R379, R425). -/
  serial : Bytes
  issue : Nat
  queue : List Instr
  fw : Nat
  ap : Nat

structure Shape (c : Ctl) (f : Fabric) (g : FieldIo) (w : SwitchSt) (b : Bridge) (o : Od) : Prop where
  /-- `State.Shaped` over the parts of a state that it reads. -/
  tasks : c.tasks.length = 16
  insts : f.insts.length = 16
  groups : groupsOk g.groups
  ports : w.ports.length = 11
  rings : b.rings.length = 64
  sessions : o.sessions.length = 9

structure Holds (k : Fixed) (q : EventQ) (c : Cistern) (f : Fabric) (sn : Bytes) (i : Nat) (p : List Instr) (ct : Ctl)
    (g : FieldIo) (w : SwitchSt) (b : Bridge) (o : Od) : Prop where
  /-- `Inv` over the parts of a state that it reads. -/
  events : q.ok
  mem : Memory.wf c.mem = true
  firmware : k.fw ≤ f.rollback.toNat / 65536
  application : k.ap ≤ f.rollback.toNat % 65536
  serial : sn = k.serial
  issue : i = k.issue
  queue : p = k.queue
  shape : Shape ct f g w b o

/-- A sound state that keeps what `k` fixes: every command answers such a state from such a state. -/
def Inv (k : Fixed) (s : State) : Prop :=
  Holds k s.evq s.cis s.fab s.serial s.issue s.pending s.ctl s.fio s.sw s.bri s.od

/-- An outcome whose next state is such a state. -/
def OutInv (k : Fixed) (o : Out) : Prop := ∀ s, o = .next s → Inv k s

theorem Inv_mk {k : Fixed} (pd ti ct la lb lc rk ci fa fi sw te br pr od up ev rc se fr sn is) :
    Inv k (State.mk pd ti ct la lb lc rk ci fa fi sw te br pr od up ev rc se fr sn is) ↔
      Holds k ev ci fa sn is pd ct fi sw br od := Iff.rfl

/-- The parts of a new state have the shape that those of `s` have. -/
def Like (s : State) (ct : Ctl) (fa : Fabric) (fi : FieldIo) (sw : SwitchSt) (br : Bridge) (od : Od) : Prop :=
  ct.tasks.length = s.ctl.tasks.length ∧ fa.insts.length = s.fab.insts.length ∧ sw.ports.length = s.sw.ports.length ∧
  br.rings.length = s.bri.rings.length ∧ od.sessions.length = s.od.sessions.length ∧
  (groupsOk s.fio.groups → groupsOk fi.groups)

theorem Holds_put {k : Fixed} {s : State} {ev : EventQ} {ci : Cistern} {fa : Fabric} {ct : Ctl} {fi : FieldIo}
    {sw : SwitchSt} {br : Bridge} {od : Od}
    (h1 : ev.entries = s.evq.entries) (h2 : ev.nextSeq = s.evq.nextSeq) (h3 : ci.mem = s.cis.mem)
    (h4 : fa.rollback = s.fab.rollback) (hs : Shape ct fa fi sw br od) (h : Inv k s) :
    Holds k ev ci fa s.serial s.issue s.pending ct fi sw br od := by
  refine ⟨⟨?_, ?_⟩, ?_, ?_, ?_, h.5, h.6, h.7, hs⟩
  · rw [h1]; exact h.1.1
  · rw [h1, h2]; exact h.1.2
  · rw [h3]; exact h.2
  · rw [h4]; exact h.3
  · rw [h4]; exact h.4

theorem Holds_of {k : Fixed} {s : State} {ev : EventQ} {ci : Cistern} {fa : Fabric} {ct : Ctl} {fi : FieldIo}
    {sw : SwitchSt} {br : Bridge} {od : Od}
    (h1 : ev.entries = s.evq.entries) (h2 : ev.nextSeq = s.evq.nextSeq) (h3 : ci.mem = s.cis.mem)
    (h4 : fa.rollback = s.fab.rollback) (hl : Like s ct fa fi sw br od) (h : Inv k s) :
    Holds k ev ci fa s.serial s.issue s.pending ct fi sw br od := by
  have q := h.8
  exact Holds_put h1 h2 h3 h4 ⟨hl.1.trans q.1, hl.2.1.trans q.2, hl.2.2.2.2.2 q.3, hl.2.2.1.trans q.4, hl.2.2.2.1.trans q.5,
    hl.2.2.2.2.1.trans q.6⟩ h

theorem Holds_mem {k : Fixed} {s : State} {ci : Cistern} (hm : Memory.wf ci.mem = true) (h : Inv k s) :
    Holds k s.evq ci s.fab s.serial s.issue s.pending s.ctl s.fio s.sw s.bri s.od := ⟨h.1, hm, h.3, h.4, h.5, h.6, h.7, h.8⟩

theorem groupsOk_map {l : List Group} {f : Group → Group} (hf : ∀ q, q.chans.length = 16 → (f q).chans.length = 16)
    (h : groupsOk l) : groupsOk (l.map f) := by
  refine ⟨by rw [List.length_map]; exact h.1, fun q hq => ?_⟩
  obtain ⟨r, hr, rfl⟩ := List.mem_map.mp hq
  exact hf r (h.2 r hr)

theorem groupsOk_zip {l : List Group} {f : Group × Nat → Group} (hf : ∀ e, e.1.chans.length = 16 → (f e).chans.length = 16)
    (h : groupsOk l) : groupsOk (l.zipIdx.map f) := by
  refine ⟨by rw [List.length_map, List.length_zipIdx]; exact h.1, fun q hq => ?_⟩
  obtain ⟨e, he, rfl⟩ := List.mem_map.mp hq
  exact hf e (h.2 _ (List.fst_mem_of_mem_zipIdx he))

theorem groupsOk_modAt {l : List Group} {n : Nat} {f : Group → Group} (hf : ∀ q, q.chans.length = 16 → (f q).chans.length = 16)
    (h : groupsOk l) : groupsOk (modAt n f l) := by
  refine ⟨by rw [modAt, List.length_modify]; exact h.1, fun q hq => ?_⟩
  obtain ⟨i, hi⟩ := List.mem_iff_getElem?.mp hq
  rw [modAt, List.getElem?_modify] at hi
  cases hl : l[i]? with
  | none => rw [hl] at hi; simp at hi
  | some r =>
    rw [hl] at hi
    have hr := h.2 r (List.mem_iff_getElem?.mpr ⟨i, hl⟩)
    obtain rfl := Option.some.inj hi
    split
    · exact hf r hr
    · exact hr

theorem Inv_ite {k : Fixed} {c : Prop} [Decidable c] {a b : State} (ha : c → Inv k a) (hb : ¬ c → Inv k b) :
    Inv k (if c then a else b) := by
  split
  · exact ha ‹_›
  · exact hb ‹_›

theorem Inv_fst_ite {α : Type} {k : Fixed} {c : Prop} [Decidable c] {a b : State × α} (ha : c → Inv k a.1) (hb : ¬ c → Inv k b.1) :
    Inv k (if c then a else b).1 := by
  split
  · exact ha ‹_›
  · exact hb ‹_›

theorem Inv_snd_ite {α : Type} {k : Fixed} {c : Prop} [Decidable c] {a b : α × State} (ha : c → Inv k a.2) (hb : ¬ c → Inv k b.2) :
    Inv k (if c then a else b).2 := by
  split
  · exact ha ‹_›
  · exact hb ‹_›

theorem Inv_of_fst {α : Type} {k : Fixed} {r : State × α} {s : State} {x : α} (e : r = (s, x)) (h : Inv k r.1) : Inv k s := by
  rw [e] at h; exact h

theorem Inv_of_snd {α : Type} {k : Fixed} {r : α × State} {s : State} {x : α} (e : r = (x, s)) (h : Inv k r.2) : Inv k s := by
  rw [e] at h; exact h

theorem keeps_foldl_fst {α β : Type} {k : Fixed} {f : State × β → α → State × β} {l : List α} {s : State × β}
    (hf : ∀ s a, Inv k s.1 → Inv k (f s a).1) (h : Inv k s.1) : Inv k (l.foldl f s).1 := by
  induction l generalizing s with
  | nil => exact h
  | cons a r ih => exact ih (hf s a h)

theorem kept_ite {α : Type} {P : α → Prop} {c : Prop} [Decidable c] {a : α} {r : Option α} (ha : P a)
    (hr : ∀ f, r = some f → P f) : ∀ f, (if c then some a else r) = some f → P f := by
  intro f e
  by_cases hc : c
  · rw [if_pos hc] at e; exact Option.some.inj e ▸ ha
  · rw [if_neg hc] at e; exact hr f e

theorem OutInv_ite {k : Fixed} {c : Prop} [Decidable c] {a b : Out} (ha : c → OutInv k a) (hb : ¬ c → OutInv k b) :
    OutInv k (if c then a else b) := by
  split
  · exact ha ‹_›
  · exact hb ‹_›

theorem OutInv_next {k : Fixed} {s : State} : OutInv k (.next s) ↔ Inv k s :=
  ⟨fun h => h s rfl, fun h t e => by cases e; exact h⟩

theorem keeps_foldl {α : Type} {k : Fixed} {f : State → α → State} {l : List α} {s : State}
    (hf : ∀ s a, Inv k s → Inv k (f s a)) (h : Inv k s) : Inv k (l.foldl f s) := by
  induction l generalizing s with
  | nil => exact h
  | cons a r ih => exact ih (hf s a h)

/-! ### Events and records -/

theorem keeps_evq {k : Fixed} {s : State} {q : EventQ} (hq : q.ok) (h : Inv k s) : Inv k { s with evq := q } :=
  ⟨hq, h.2, h.3, h.4, h.5, h.6, h.7, h.8⟩

theorem keeps_record {k : Fixed} (a0 a1) (s : State) (h : Inv k s) : Inv k (record a0 a1 s) := by
  unfold record
  refine Inv_ite (fun _ => h) (fun _ => ?_)
  split
  · exact h
  · exact h

theorem keeps_recordSuppressed {k : Fixed} (a0) (s : State) (h : Inv k s) : Inv k (recordSuppressed a0 s) := by
  unfold recordSuppressed
  split
  · exact Inv_ite (fun _ => h) (fun _ => h)
  · exact h

theorem keeps_raiseFrom {k : Fixed} (a0 a1 a2) (s : State) (h : Inv k s) : Inv k (raiseFrom a0 a1 a2 s) := by
  unfold raiseFrom
  refine Inv_ite (fun _ => ?_) (fun _ => ?_)
  · exact keeps_record _ _ _ (keeps_evq (enqueue_ok rfl h.1) h)
  · refine Inv_ite (fun _ => ?_) (fun _ => ?_)
    · exact keeps_record _ _ _ (keeps_evq (enqueue_ok rfl ⟨h.1.1, h.1.2⟩) h)
    · exact keeps_recordSuppressed _ _ (keeps_evq ⟨h.1.1, h.1.2⟩ h)

theorem keeps_raiseOncePerSec {k : Fixed} (a0 a1 a2 a3) (s : State) (h : Inv k s) : Inv k (raiseOncePerSec a0 a1 a2 a3 s) := by
  unfold raiseOncePerSec
  extract_lets
  exact Inv_ite (fun _ => keeps_raiseFrom _ _ _ _ (keeps_evq ⟨h.1.1, h.1.2⟩ h)) (fun _ => h)

theorem keeps_measure {k : Fixed} (a0 a1 a2) (s : State) (h : Inv k s) : Inv k (measure a0 a1 a2 s) := by
  unfold measure
  extract_lets
  refine Inv_ite (fun _ => keeps_record _ _ _ h) (fun _ => ?_)
  have h1 : Inv k _ := keeps_evq (q := { s.evq with buckets := setKey (bucketOf s a0).2.2 (bucketOf s a0).1 s.evq.buckets })
    ⟨h.1.1, h.1.2⟩ h
  exact Inv_ite (fun _ => keeps_record _ _ _ h1) (fun _ => keeps_recordSuppressed _ _ h1)

end Sys2Proof.Machine
end

