-- ==== Sys2Proof/Laws/State.lean ====
section
/-! SUPPORT. What each named update of State leaves as it was, and what the updates write: one lemma per field per update. -/

set_option Elab.async false

namespace Sys2Proof.Machine

@[simp] theorem State.atTime_now (s : State) (t : Nat) : (s.atTime t).time.now = max s.time.now t := rfl
@[simp] theorem State.tick_freeCount (s : State) : s.tick.freeCount = s.freeCount + 1 := rfl
@[simp] theorem State.emit_sent (s : State) (x : Sent) : (s.emit x).sent = s.sent ++ [x] := rfl
@[simp] theorem State.emitAll_sent (s : State) (xs : List Sent) : (s.emitAll xs).sent = s.sent ++ xs := rfl
@[simp] theorem State.setLane_lane (s : State) (ln : Lane) (l : LaneSt) : (s.setLane ln l).lane ln = l := by cases ln <;> rfl
@[simp] theorem State.modLane_lane (s : State) (ln : Lane) (f : LaneSt → LaneSt) : (s.modLane ln f).lane ln = f (s.lane ln) := by
  cases ln <;> rfl
theorem State.setLane_other {s : State} {ln m : Lane} {l : LaneSt} (h : m ≠ ln) : (s.setLane ln l).lane m = s.lane m := by
  cases ln <;> cases m <;> first | rfl | exact absurd rfl h
@[simp] theorem State.modLanes_lane (s : State) (f : LaneSt → LaneSt) (ln : Lane) : (s.modLanes f).lane ln = f (s.lane ln) := by
  cases ln <;> rfl

@[simp] theorem State.atTime_pending (s : State) (t : Nat) : (s.atTime t).pending = s.pending := rfl
@[simp] theorem State.atTime_ctl (s : State) (t : Nat) : (s.atTime t).ctl = s.ctl := rfl
@[simp] theorem State.atTime_lanA (s : State) (t : Nat) : (s.atTime t).lanA = s.lanA := rfl
@[simp] theorem State.atTime_lanB (s : State) (t : Nat) : (s.atTime t).lanB = s.lanB := rfl
@[simp] theorem State.atTime_lanC (s : State) (t : Nat) : (s.atTime t).lanC = s.lanC := rfl
@[simp] theorem State.atTime_rek (s : State) (t : Nat) : (s.atTime t).rek = s.rek := rfl
@[simp] theorem State.atTime_cis (s : State) (t : Nat) : (s.atTime t).cis = s.cis := rfl
@[simp] theorem State.atTime_fab (s : State) (t : Nat) : (s.atTime t).fab = s.fab := rfl
@[simp] theorem State.atTime_fio (s : State) (t : Nat) : (s.atTime t).fio = s.fio := rfl
@[simp] theorem State.atTime_sw (s : State) (t : Nat) : (s.atTime t).sw = s.sw := rfl
@[simp] theorem State.atTime_tel (s : State) (t : Nat) : (s.atTime t).tel = s.tel := rfl
@[simp] theorem State.atTime_bri (s : State) (t : Nat) : (s.atTime t).bri = s.bri := rfl
@[simp] theorem State.atTime_pair (s : State) (t : Nat) : (s.atTime t).pair = s.pair := rfl
@[simp] theorem State.atTime_od (s : State) (t : Nat) : (s.atTime t).od = s.od := rfl
@[simp] theorem State.atTime_upd (s : State) (t : Nat) : (s.atTime t).upd = s.upd := rfl
@[simp] theorem State.atTime_evq (s : State) (t : Nat) : (s.atTime t).evq = s.evq := rfl
@[simp] theorem State.atTime_rcd (s : State) (t : Nat) : (s.atTime t).rcd = s.rcd := rfl
@[simp] theorem State.atTime_sent (s : State) (t : Nat) : (s.atTime t).sent = s.sent := rfl
@[simp] theorem State.atTime_freeCount (s : State) (t : Nat) : (s.atTime t).freeCount = s.freeCount := rfl
@[simp] theorem State.atTime_serial (s : State) (t : Nat) : (s.atTime t).serial = s.serial := rfl
@[simp] theorem State.atTime_issue (s : State) (t : Nat) : (s.atTime t).issue = s.issue := rfl

@[simp] theorem State.tick_pending (s : State) : (s.tick).pending = s.pending := rfl
@[simp] theorem State.tick_time (s : State) : (s.tick).time = s.time := rfl
@[simp] theorem State.tick_ctl (s : State) : (s.tick).ctl = s.ctl := rfl
@[simp] theorem State.tick_lanA (s : State) : (s.tick).lanA = s.lanA := rfl
@[simp] theorem State.tick_lanB (s : State) : (s.tick).lanB = s.lanB := rfl
@[simp] theorem State.tick_lanC (s : State) : (s.tick).lanC = s.lanC := rfl
@[simp] theorem State.tick_rek (s : State) : (s.tick).rek = s.rek := rfl
@[simp] theorem State.tick_cis (s : State) : (s.tick).cis = s.cis := rfl
@[simp] theorem State.tick_fab (s : State) : (s.tick).fab = s.fab := rfl
@[simp] theorem State.tick_fio (s : State) : (s.tick).fio = s.fio := rfl
@[simp] theorem State.tick_sw (s : State) : (s.tick).sw = s.sw := rfl
@[simp] theorem State.tick_tel (s : State) : (s.tick).tel = s.tel := rfl
@[simp] theorem State.tick_bri (s : State) : (s.tick).bri = s.bri := rfl
@[simp] theorem State.tick_pair (s : State) : (s.tick).pair = s.pair := rfl
@[simp] theorem State.tick_od (s : State) : (s.tick).od = s.od := rfl
@[simp] theorem State.tick_upd (s : State) : (s.tick).upd = s.upd := rfl
@[simp] theorem State.tick_evq (s : State) : (s.tick).evq = s.evq := rfl
@[simp] theorem State.tick_rcd (s : State) : (s.tick).rcd = s.rcd := rfl
@[simp] theorem State.tick_sent (s : State) : (s.tick).sent = s.sent := rfl
@[simp] theorem State.tick_serial (s : State) : (s.tick).serial = s.serial := rfl
@[simp] theorem State.tick_issue (s : State) : (s.tick).issue = s.issue := rfl

@[simp] theorem State.emit_pending (s : State) (x : Sent) : (s.emit x).pending = s.pending := rfl
@[simp] theorem State.emit_time (s : State) (x : Sent) : (s.emit x).time = s.time := rfl
@[simp] theorem State.emit_ctl (s : State) (x : Sent) : (s.emit x).ctl = s.ctl := rfl
@[simp] theorem State.emit_lanA (s : State) (x : Sent) : (s.emit x).lanA = s.lanA := rfl
@[simp] theorem State.emit_lanB (s : State) (x : Sent) : (s.emit x).lanB = s.lanB := rfl
@[simp] theorem State.emit_lanC (s : State) (x : Sent) : (s.emit x).lanC = s.lanC := rfl
@[simp] theorem State.emit_rek (s : State) (x : Sent) : (s.emit x).rek = s.rek := rfl
@[simp] theorem State.emit_cis (s : State) (x : Sent) : (s.emit x).cis = s.cis := rfl
@[simp] theorem State.emit_fab (s : State) (x : Sent) : (s.emit x).fab = s.fab := rfl
@[simp] theorem State.emit_fio (s : State) (x : Sent) : (s.emit x).fio = s.fio := rfl
@[simp] theorem State.emit_sw (s : State) (x : Sent) : (s.emit x).sw = s.sw := rfl
@[simp] theorem State.emit_tel (s : State) (x : Sent) : (s.emit x).tel = s.tel := rfl
@[simp] theorem State.emit_bri (s : State) (x : Sent) : (s.emit x).bri = s.bri := rfl
@[simp] theorem State.emit_pair (s : State) (x : Sent) : (s.emit x).pair = s.pair := rfl
@[simp] theorem State.emit_od (s : State) (x : Sent) : (s.emit x).od = s.od := rfl
@[simp] theorem State.emit_upd (s : State) (x : Sent) : (s.emit x).upd = s.upd := rfl
@[simp] theorem State.emit_evq (s : State) (x : Sent) : (s.emit x).evq = s.evq := rfl
@[simp] theorem State.emit_rcd (s : State) (x : Sent) : (s.emit x).rcd = s.rcd := rfl
@[simp] theorem State.emit_freeCount (s : State) (x : Sent) : (s.emit x).freeCount = s.freeCount := rfl
@[simp] theorem State.emit_serial (s : State) (x : Sent) : (s.emit x).serial = s.serial := rfl
@[simp] theorem State.emit_issue (s : State) (x : Sent) : (s.emit x).issue = s.issue := rfl

@[simp] theorem State.emitAll_pending (s : State) (xs : List Sent) : (s.emitAll xs).pending = s.pending := rfl
@[simp] theorem State.emitAll_time (s : State) (xs : List Sent) : (s.emitAll xs).time = s.time := rfl
@[simp] theorem State.emitAll_ctl (s : State) (xs : List Sent) : (s.emitAll xs).ctl = s.ctl := rfl
@[simp] theorem State.emitAll_lanA (s : State) (xs : List Sent) : (s.emitAll xs).lanA = s.lanA := rfl
@[simp] theorem State.emitAll_lanB (s : State) (xs : List Sent) : (s.emitAll xs).lanB = s.lanB := rfl
@[simp] theorem State.emitAll_lanC (s : State) (xs : List Sent) : (s.emitAll xs).lanC = s.lanC := rfl
@[simp] theorem State.emitAll_rek (s : State) (xs : List Sent) : (s.emitAll xs).rek = s.rek := rfl
@[simp] theorem State.emitAll_cis (s : State) (xs : List Sent) : (s.emitAll xs).cis = s.cis := rfl
@[simp] theorem State.emitAll_fab (s : State) (xs : List Sent) : (s.emitAll xs).fab = s.fab := rfl
@[simp] theorem State.emitAll_fio (s : State) (xs : List Sent) : (s.emitAll xs).fio = s.fio := rfl
@[simp] theorem State.emitAll_sw (s : State) (xs : List Sent) : (s.emitAll xs).sw = s.sw := rfl
@[simp] theorem State.emitAll_tel (s : State) (xs : List Sent) : (s.emitAll xs).tel = s.tel := rfl
@[simp] theorem State.emitAll_bri (s : State) (xs : List Sent) : (s.emitAll xs).bri = s.bri := rfl
@[simp] theorem State.emitAll_pair (s : State) (xs : List Sent) : (s.emitAll xs).pair = s.pair := rfl
@[simp] theorem State.emitAll_od (s : State) (xs : List Sent) : (s.emitAll xs).od = s.od := rfl
@[simp] theorem State.emitAll_upd (s : State) (xs : List Sent) : (s.emitAll xs).upd = s.upd := rfl
@[simp] theorem State.emitAll_evq (s : State) (xs : List Sent) : (s.emitAll xs).evq = s.evq := rfl
@[simp] theorem State.emitAll_rcd (s : State) (xs : List Sent) : (s.emitAll xs).rcd = s.rcd := rfl
@[simp] theorem State.emitAll_freeCount (s : State) (xs : List Sent) : (s.emitAll xs).freeCount = s.freeCount := rfl
@[simp] theorem State.emitAll_serial (s : State) (xs : List Sent) : (s.emitAll xs).serial = s.serial := rfl
@[simp] theorem State.emitAll_issue (s : State) (xs : List Sent) : (s.emitAll xs).issue = s.issue := rfl

@[simp] theorem State.setLane_pending (s : State) (ln : Lane) (l : LaneSt) : (s.setLane ln l).pending = s.pending := by cases ln <;> rfl
@[simp] theorem State.setLane_time (s : State) (ln : Lane) (l : LaneSt) : (s.setLane ln l).time = s.time := by cases ln <;> rfl
@[simp] theorem State.setLane_ctl (s : State) (ln : Lane) (l : LaneSt) : (s.setLane ln l).ctl = s.ctl := by cases ln <;> rfl
@[simp] theorem State.setLane_rek (s : State) (ln : Lane) (l : LaneSt) : (s.setLane ln l).rek = s.rek := by cases ln <;> rfl
@[simp] theorem State.setLane_cis (s : State) (ln : Lane) (l : LaneSt) : (s.setLane ln l).cis = s.cis := by cases ln <;> rfl
@[simp] theorem State.setLane_fab (s : State) (ln : Lane) (l : LaneSt) : (s.setLane ln l).fab = s.fab := by cases ln <;> rfl
@[simp] theorem State.setLane_fio (s : State) (ln : Lane) (l : LaneSt) : (s.setLane ln l).fio = s.fio := by cases ln <;> rfl
@[simp] theorem State.setLane_sw (s : State) (ln : Lane) (l : LaneSt) : (s.setLane ln l).sw = s.sw := by cases ln <;> rfl
@[simp] theorem State.setLane_tel (s : State) (ln : Lane) (l : LaneSt) : (s.setLane ln l).tel = s.tel := by cases ln <;> rfl
@[simp] theorem State.setLane_bri (s : State) (ln : Lane) (l : LaneSt) : (s.setLane ln l).bri = s.bri := by cases ln <;> rfl
@[simp] theorem State.setLane_pair (s : State) (ln : Lane) (l : LaneSt) : (s.setLane ln l).pair = s.pair := by cases ln <;> rfl
@[simp] theorem State.setLane_od (s : State) (ln : Lane) (l : LaneSt) : (s.setLane ln l).od = s.od := by cases ln <;> rfl
@[simp] theorem State.setLane_upd (s : State) (ln : Lane) (l : LaneSt) : (s.setLane ln l).upd = s.upd := by cases ln <;> rfl
@[simp] theorem State.setLane_evq (s : State) (ln : Lane) (l : LaneSt) : (s.setLane ln l).evq = s.evq := by cases ln <;> rfl
@[simp] theorem State.setLane_rcd (s : State) (ln : Lane) (l : LaneSt) : (s.setLane ln l).rcd = s.rcd := by cases ln <;> rfl
@[simp] theorem State.setLane_sent (s : State) (ln : Lane) (l : LaneSt) : (s.setLane ln l).sent = s.sent := by cases ln <;> rfl
@[simp] theorem State.setLane_freeCount (s : State) (ln : Lane) (l : LaneSt) : (s.setLane ln l).freeCount = s.freeCount := by cases ln <;> rfl
@[simp] theorem State.setLane_serial (s : State) (ln : Lane) (l : LaneSt) : (s.setLane ln l).serial = s.serial := by cases ln <;> rfl
@[simp] theorem State.setLane_issue (s : State) (ln : Lane) (l : LaneSt) : (s.setLane ln l).issue = s.issue := by cases ln <;> rfl

@[simp] theorem State.modLane_pending (s : State) (ln : Lane) (f : LaneSt → LaneSt) : (s.modLane ln f).pending = s.pending := by cases ln <;> rfl
@[simp] theorem State.modLane_time (s : State) (ln : Lane) (f : LaneSt → LaneSt) : (s.modLane ln f).time = s.time := by cases ln <;> rfl
@[simp] theorem State.modLane_ctl (s : State) (ln : Lane) (f : LaneSt → LaneSt) : (s.modLane ln f).ctl = s.ctl := by cases ln <;> rfl
@[simp] theorem State.modLane_rek (s : State) (ln : Lane) (f : LaneSt → LaneSt) : (s.modLane ln f).rek = s.rek := by cases ln <;> rfl
@[simp] theorem State.modLane_cis (s : State) (ln : Lane) (f : LaneSt → LaneSt) : (s.modLane ln f).cis = s.cis := by cases ln <;> rfl
@[simp] theorem State.modLane_fab (s : State) (ln : Lane) (f : LaneSt → LaneSt) : (s.modLane ln f).fab = s.fab := by cases ln <;> rfl
@[simp] theorem State.modLane_fio (s : State) (ln : Lane) (f : LaneSt → LaneSt) : (s.modLane ln f).fio = s.fio := by cases ln <;> rfl
@[simp] theorem State.modLane_sw (s : State) (ln : Lane) (f : LaneSt → LaneSt) : (s.modLane ln f).sw = s.sw := by cases ln <;> rfl
@[simp] theorem State.modLane_tel (s : State) (ln : Lane) (f : LaneSt → LaneSt) : (s.modLane ln f).tel = s.tel := by cases ln <;> rfl
@[simp] theorem State.modLane_bri (s : State) (ln : Lane) (f : LaneSt → LaneSt) : (s.modLane ln f).bri = s.bri := by cases ln <;> rfl
@[simp] theorem State.modLane_pair (s : State) (ln : Lane) (f : LaneSt → LaneSt) : (s.modLane ln f).pair = s.pair := by cases ln <;> rfl
@[simp] theorem State.modLane_od (s : State) (ln : Lane) (f : LaneSt → LaneSt) : (s.modLane ln f).od = s.od := by cases ln <;> rfl
@[simp] theorem State.modLane_upd (s : State) (ln : Lane) (f : LaneSt → LaneSt) : (s.modLane ln f).upd = s.upd := by cases ln <;> rfl
@[simp] theorem State.modLane_evq (s : State) (ln : Lane) (f : LaneSt → LaneSt) : (s.modLane ln f).evq = s.evq := by cases ln <;> rfl
@[simp] theorem State.modLane_rcd (s : State) (ln : Lane) (f : LaneSt → LaneSt) : (s.modLane ln f).rcd = s.rcd := by cases ln <;> rfl
@[simp] theorem State.modLane_sent (s : State) (ln : Lane) (f : LaneSt → LaneSt) : (s.modLane ln f).sent = s.sent := by cases ln <;> rfl
@[simp] theorem State.modLane_freeCount (s : State) (ln : Lane) (f : LaneSt → LaneSt) : (s.modLane ln f).freeCount = s.freeCount := by cases ln <;> rfl
@[simp] theorem State.modLane_serial (s : State) (ln : Lane) (f : LaneSt → LaneSt) : (s.modLane ln f).serial = s.serial := by cases ln <;> rfl
@[simp] theorem State.modLane_issue (s : State) (ln : Lane) (f : LaneSt → LaneSt) : (s.modLane ln f).issue = s.issue := by cases ln <;> rfl

@[simp] theorem State.modLanes_pending (s : State) (f : LaneSt → LaneSt) : (s.modLanes f).pending = s.pending := rfl
@[simp] theorem State.modLanes_time (s : State) (f : LaneSt → LaneSt) : (s.modLanes f).time = s.time := rfl
@[simp] theorem State.modLanes_ctl (s : State) (f : LaneSt → LaneSt) : (s.modLanes f).ctl = s.ctl := rfl
@[simp] theorem State.modLanes_rek (s : State) (f : LaneSt → LaneSt) : (s.modLanes f).rek = s.rek := rfl
@[simp] theorem State.modLanes_cis (s : State) (f : LaneSt → LaneSt) : (s.modLanes f).cis = s.cis := rfl
@[simp] theorem State.modLanes_fab (s : State) (f : LaneSt → LaneSt) : (s.modLanes f).fab = s.fab := rfl
@[simp] theorem State.modLanes_fio (s : State) (f : LaneSt → LaneSt) : (s.modLanes f).fio = s.fio := rfl
@[simp] theorem State.modLanes_sw (s : State) (f : LaneSt → LaneSt) : (s.modLanes f).sw = s.sw := rfl
@[simp] theorem State.modLanes_tel (s : State) (f : LaneSt → LaneSt) : (s.modLanes f).tel = s.tel := rfl
@[simp] theorem State.modLanes_bri (s : State) (f : LaneSt → LaneSt) : (s.modLanes f).bri = s.bri := rfl
@[simp] theorem State.modLanes_pair (s : State) (f : LaneSt → LaneSt) : (s.modLanes f).pair = s.pair := rfl
@[simp] theorem State.modLanes_od (s : State) (f : LaneSt → LaneSt) : (s.modLanes f).od = s.od := rfl
@[simp] theorem State.modLanes_upd (s : State) (f : LaneSt → LaneSt) : (s.modLanes f).upd = s.upd := rfl
@[simp] theorem State.modLanes_evq (s : State) (f : LaneSt → LaneSt) : (s.modLanes f).evq = s.evq := rfl
@[simp] theorem State.modLanes_rcd (s : State) (f : LaneSt → LaneSt) : (s.modLanes f).rcd = s.rcd := rfl
@[simp] theorem State.modLanes_sent (s : State) (f : LaneSt → LaneSt) : (s.modLanes f).sent = s.sent := rfl
@[simp] theorem State.modLanes_freeCount (s : State) (f : LaneSt → LaneSt) : (s.modLanes f).freeCount = s.freeCount := rfl
@[simp] theorem State.modLanes_serial (s : State) (f : LaneSt → LaneSt) : (s.modLanes f).serial = s.serial := rfl
@[simp] theorem State.modLanes_issue (s : State) (f : LaneSt → LaneSt) : (s.modLanes f).issue = s.issue := rfl

@[simp] theorem State.setCore_pending (s : State) (ln : Lane) (c : Fin 4) (k : Core) : (s.setCore ln c k).pending = s.pending := by cases ln <;> rfl
@[simp] theorem State.setCore_time (s : State) (ln : Lane) (c : Fin 4) (k : Core) : (s.setCore ln c k).time = s.time := by cases ln <;> rfl
@[simp] theorem State.setCore_ctl (s : State) (ln : Lane) (c : Fin 4) (k : Core) : (s.setCore ln c k).ctl = s.ctl := by cases ln <;> rfl
@[simp] theorem State.setCore_rek (s : State) (ln : Lane) (c : Fin 4) (k : Core) : (s.setCore ln c k).rek = s.rek := by cases ln <;> rfl
@[simp] theorem State.setCore_cis (s : State) (ln : Lane) (c : Fin 4) (k : Core) : (s.setCore ln c k).cis = s.cis := by cases ln <;> rfl
@[simp] theorem State.setCore_fab (s : State) (ln : Lane) (c : Fin 4) (k : Core) : (s.setCore ln c k).fab = s.fab := by cases ln <;> rfl
@[simp] theorem State.setCore_fio (s : State) (ln : Lane) (c : Fin 4) (k : Core) : (s.setCore ln c k).fio = s.fio := by cases ln <;> rfl
@[simp] theorem State.setCore_sw (s : State) (ln : Lane) (c : Fin 4) (k : Core) : (s.setCore ln c k).sw = s.sw := by cases ln <;> rfl
@[simp] theorem State.setCore_tel (s : State) (ln : Lane) (c : Fin 4) (k : Core) : (s.setCore ln c k).tel = s.tel := by cases ln <;> rfl
@[simp] theorem State.setCore_bri (s : State) (ln : Lane) (c : Fin 4) (k : Core) : (s.setCore ln c k).bri = s.bri := by cases ln <;> rfl
@[simp] theorem State.setCore_pair (s : State) (ln : Lane) (c : Fin 4) (k : Core) : (s.setCore ln c k).pair = s.pair := by cases ln <;> rfl
@[simp] theorem State.setCore_od (s : State) (ln : Lane) (c : Fin 4) (k : Core) : (s.setCore ln c k).od = s.od := by cases ln <;> rfl
@[simp] theorem State.setCore_upd (s : State) (ln : Lane) (c : Fin 4) (k : Core) : (s.setCore ln c k).upd = s.upd := by cases ln <;> rfl
@[simp] theorem State.setCore_evq (s : State) (ln : Lane) (c : Fin 4) (k : Core) : (s.setCore ln c k).evq = s.evq := by cases ln <;> rfl
@[simp] theorem State.setCore_rcd (s : State) (ln : Lane) (c : Fin 4) (k : Core) : (s.setCore ln c k).rcd = s.rcd := by cases ln <;> rfl
@[simp] theorem State.setCore_sent (s : State) (ln : Lane) (c : Fin 4) (k : Core) : (s.setCore ln c k).sent = s.sent := by cases ln <;> rfl
@[simp] theorem State.setCore_freeCount (s : State) (ln : Lane) (c : Fin 4) (k : Core) : (s.setCore ln c k).freeCount = s.freeCount := by cases ln <;> rfl
@[simp] theorem State.setCore_serial (s : State) (ln : Lane) (c : Fin 4) (k : Core) : (s.setCore ln c k).serial = s.serial := by cases ln <;> rfl
@[simp] theorem State.setCore_issue (s : State) (ln : Lane) (c : Fin 4) (k : Core) : (s.setCore ln c k).issue = s.issue := by cases ln <;> rfl

@[simp] theorem State.putRun_pending (s : State) (ln : Lane) (c : Fin 4) (r : Release) : (s.putRun ln c r).pending = s.pending := by cases ln <;> rfl
@[simp] theorem State.putRun_time (s : State) (ln : Lane) (c : Fin 4) (r : Release) : (s.putRun ln c r).time = s.time := by cases ln <;> rfl
@[simp] theorem State.putRun_ctl (s : State) (ln : Lane) (c : Fin 4) (r : Release) : (s.putRun ln c r).ctl = s.ctl := by cases ln <;> rfl
@[simp] theorem State.putRun_rek (s : State) (ln : Lane) (c : Fin 4) (r : Release) : (s.putRun ln c r).rek = s.rek := by cases ln <;> rfl
@[simp] theorem State.putRun_cis (s : State) (ln : Lane) (c : Fin 4) (r : Release) : (s.putRun ln c r).cis = s.cis := by cases ln <;> rfl
@[simp] theorem State.putRun_fab (s : State) (ln : Lane) (c : Fin 4) (r : Release) : (s.putRun ln c r).fab = s.fab := by cases ln <;> rfl
@[simp] theorem State.putRun_fio (s : State) (ln : Lane) (c : Fin 4) (r : Release) : (s.putRun ln c r).fio = s.fio := by cases ln <;> rfl
@[simp] theorem State.putRun_sw (s : State) (ln : Lane) (c : Fin 4) (r : Release) : (s.putRun ln c r).sw = s.sw := by cases ln <;> rfl
@[simp] theorem State.putRun_tel (s : State) (ln : Lane) (c : Fin 4) (r : Release) : (s.putRun ln c r).tel = s.tel := by cases ln <;> rfl
@[simp] theorem State.putRun_bri (s : State) (ln : Lane) (c : Fin 4) (r : Release) : (s.putRun ln c r).bri = s.bri := by cases ln <;> rfl
@[simp] theorem State.putRun_pair (s : State) (ln : Lane) (c : Fin 4) (r : Release) : (s.putRun ln c r).pair = s.pair := by cases ln <;> rfl
@[simp] theorem State.putRun_od (s : State) (ln : Lane) (c : Fin 4) (r : Release) : (s.putRun ln c r).od = s.od := by cases ln <;> rfl
@[simp] theorem State.putRun_upd (s : State) (ln : Lane) (c : Fin 4) (r : Release) : (s.putRun ln c r).upd = s.upd := by cases ln <;> rfl
@[simp] theorem State.putRun_evq (s : State) (ln : Lane) (c : Fin 4) (r : Release) : (s.putRun ln c r).evq = s.evq := by cases ln <;> rfl
@[simp] theorem State.putRun_rcd (s : State) (ln : Lane) (c : Fin 4) (r : Release) : (s.putRun ln c r).rcd = s.rcd := by cases ln <;> rfl
@[simp] theorem State.putRun_sent (s : State) (ln : Lane) (c : Fin 4) (r : Release) : (s.putRun ln c r).sent = s.sent := by cases ln <;> rfl
@[simp] theorem State.putRun_freeCount (s : State) (ln : Lane) (c : Fin 4) (r : Release) : (s.putRun ln c r).freeCount = s.freeCount := by cases ln <;> rfl
@[simp] theorem State.putRun_serial (s : State) (ln : Lane) (c : Fin 4) (r : Release) : (s.putRun ln c r).serial = s.serial := by cases ln <;> rfl
@[simp] theorem State.putRun_issue (s : State) (ln : Lane) (c : Fin 4) (r : Release) : (s.putRun ln c r).issue = s.issue := by cases ln <;> rfl

@[simp] theorem State.dropRun_pending (s : State) (ln : Lane) (c : Fin 4) : (s.dropRun ln c).pending = s.pending := by cases ln <;> rfl
@[simp] theorem State.dropRun_time (s : State) (ln : Lane) (c : Fin 4) : (s.dropRun ln c).time = s.time := by cases ln <;> rfl
@[simp] theorem State.dropRun_ctl (s : State) (ln : Lane) (c : Fin 4) : (s.dropRun ln c).ctl = s.ctl := by cases ln <;> rfl
@[simp] theorem State.dropRun_rek (s : State) (ln : Lane) (c : Fin 4) : (s.dropRun ln c).rek = s.rek := by cases ln <;> rfl
@[simp] theorem State.dropRun_cis (s : State) (ln : Lane) (c : Fin 4) : (s.dropRun ln c).cis = s.cis := by cases ln <;> rfl
@[simp] theorem State.dropRun_fab (s : State) (ln : Lane) (c : Fin 4) : (s.dropRun ln c).fab = s.fab := by cases ln <;> rfl
@[simp] theorem State.dropRun_fio (s : State) (ln : Lane) (c : Fin 4) : (s.dropRun ln c).fio = s.fio := by cases ln <;> rfl
@[simp] theorem State.dropRun_sw (s : State) (ln : Lane) (c : Fin 4) : (s.dropRun ln c).sw = s.sw := by cases ln <;> rfl
@[simp] theorem State.dropRun_tel (s : State) (ln : Lane) (c : Fin 4) : (s.dropRun ln c).tel = s.tel := by cases ln <;> rfl
@[simp] theorem State.dropRun_bri (s : State) (ln : Lane) (c : Fin 4) : (s.dropRun ln c).bri = s.bri := by cases ln <;> rfl
@[simp] theorem State.dropRun_pair (s : State) (ln : Lane) (c : Fin 4) : (s.dropRun ln c).pair = s.pair := by cases ln <;> rfl
@[simp] theorem State.dropRun_od (s : State) (ln : Lane) (c : Fin 4) : (s.dropRun ln c).od = s.od := by cases ln <;> rfl
@[simp] theorem State.dropRun_upd (s : State) (ln : Lane) (c : Fin 4) : (s.dropRun ln c).upd = s.upd := by cases ln <;> rfl
@[simp] theorem State.dropRun_evq (s : State) (ln : Lane) (c : Fin 4) : (s.dropRun ln c).evq = s.evq := by cases ln <;> rfl
@[simp] theorem State.dropRun_rcd (s : State) (ln : Lane) (c : Fin 4) : (s.dropRun ln c).rcd = s.rcd := by cases ln <;> rfl
@[simp] theorem State.dropRun_sent (s : State) (ln : Lane) (c : Fin 4) : (s.dropRun ln c).sent = s.sent := by cases ln <;> rfl
@[simp] theorem State.dropRun_freeCount (s : State) (ln : Lane) (c : Fin 4) : (s.dropRun ln c).freeCount = s.freeCount := by cases ln <;> rfl
@[simp] theorem State.dropRun_serial (s : State) (ln : Lane) (c : Fin 4) : (s.dropRun ln c).serial = s.serial := by cases ln <;> rfl
@[simp] theorem State.dropRun_issue (s : State) (ln : Lane) (c : Fin 4) : (s.dropRun ln c).issue = s.issue := by cases ln <;> rfl

@[simp] theorem State.modGroup_pending (s : State) (g : Fin 8) (f : Group → Group) : (s.modGroup g f).pending = s.pending := rfl
@[simp] theorem State.modGroup_time (s : State) (g : Fin 8) (f : Group → Group) : (s.modGroup g f).time = s.time := rfl
@[simp] theorem State.modGroup_ctl (s : State) (g : Fin 8) (f : Group → Group) : (s.modGroup g f).ctl = s.ctl := rfl
@[simp] theorem State.modGroup_lanA (s : State) (g : Fin 8) (f : Group → Group) : (s.modGroup g f).lanA = s.lanA := rfl
@[simp] theorem State.modGroup_lanB (s : State) (g : Fin 8) (f : Group → Group) : (s.modGroup g f).lanB = s.lanB := rfl
@[simp] theorem State.modGroup_lanC (s : State) (g : Fin 8) (f : Group → Group) : (s.modGroup g f).lanC = s.lanC := rfl
@[simp] theorem State.modGroup_rek (s : State) (g : Fin 8) (f : Group → Group) : (s.modGroup g f).rek = s.rek := rfl
@[simp] theorem State.modGroup_cis (s : State) (g : Fin 8) (f : Group → Group) : (s.modGroup g f).cis = s.cis := rfl
@[simp] theorem State.modGroup_fab (s : State) (g : Fin 8) (f : Group → Group) : (s.modGroup g f).fab = s.fab := rfl
@[simp] theorem State.modGroup_sw (s : State) (g : Fin 8) (f : Group → Group) : (s.modGroup g f).sw = s.sw := rfl
@[simp] theorem State.modGroup_tel (s : State) (g : Fin 8) (f : Group → Group) : (s.modGroup g f).tel = s.tel := rfl
@[simp] theorem State.modGroup_bri (s : State) (g : Fin 8) (f : Group → Group) : (s.modGroup g f).bri = s.bri := rfl
@[simp] theorem State.modGroup_pair (s : State) (g : Fin 8) (f : Group → Group) : (s.modGroup g f).pair = s.pair := rfl
@[simp] theorem State.modGroup_od (s : State) (g : Fin 8) (f : Group → Group) : (s.modGroup g f).od = s.od := rfl
@[simp] theorem State.modGroup_upd (s : State) (g : Fin 8) (f : Group → Group) : (s.modGroup g f).upd = s.upd := rfl
@[simp] theorem State.modGroup_evq (s : State) (g : Fin 8) (f : Group → Group) : (s.modGroup g f).evq = s.evq := rfl
@[simp] theorem State.modGroup_rcd (s : State) (g : Fin 8) (f : Group → Group) : (s.modGroup g f).rcd = s.rcd := rfl
@[simp] theorem State.modGroup_sent (s : State) (g : Fin 8) (f : Group → Group) : (s.modGroup g f).sent = s.sent := rfl
@[simp] theorem State.modGroup_freeCount (s : State) (g : Fin 8) (f : Group → Group) : (s.modGroup g f).freeCount = s.freeCount := rfl
@[simp] theorem State.modGroup_serial (s : State) (g : Fin 8) (f : Group → Group) : (s.modGroup g f).serial = s.serial := rfl
@[simp] theorem State.modGroup_issue (s : State) (g : Fin 8) (f : Group → Group) : (s.modGroup g f).issue = s.issue := rfl

@[simp] theorem State.modChan_pending (s : State) (ch : Fin 128) (f : Chan → Chan) : (s.modChan ch f).pending = s.pending := rfl
@[simp] theorem State.modChan_time (s : State) (ch : Fin 128) (f : Chan → Chan) : (s.modChan ch f).time = s.time := rfl
@[simp] theorem State.modChan_ctl (s : State) (ch : Fin 128) (f : Chan → Chan) : (s.modChan ch f).ctl = s.ctl := rfl
@[simp] theorem State.modChan_lanA (s : State) (ch : Fin 128) (f : Chan → Chan) : (s.modChan ch f).lanA = s.lanA := rfl
@[simp] theorem State.modChan_lanB (s : State) (ch : Fin 128) (f : Chan → Chan) : (s.modChan ch f).lanB = s.lanB := rfl
@[simp] theorem State.modChan_lanC (s : State) (ch : Fin 128) (f : Chan → Chan) : (s.modChan ch f).lanC = s.lanC := rfl
@[simp] theorem State.modChan_rek (s : State) (ch : Fin 128) (f : Chan → Chan) : (s.modChan ch f).rek = s.rek := rfl
@[simp] theorem State.modChan_cis (s : State) (ch : Fin 128) (f : Chan → Chan) : (s.modChan ch f).cis = s.cis := rfl
@[simp] theorem State.modChan_fab (s : State) (ch : Fin 128) (f : Chan → Chan) : (s.modChan ch f).fab = s.fab := rfl
@[simp] theorem State.modChan_sw (s : State) (ch : Fin 128) (f : Chan → Chan) : (s.modChan ch f).sw = s.sw := rfl
@[simp] theorem State.modChan_tel (s : State) (ch : Fin 128) (f : Chan → Chan) : (s.modChan ch f).tel = s.tel := rfl
@[simp] theorem State.modChan_bri (s : State) (ch : Fin 128) (f : Chan → Chan) : (s.modChan ch f).bri = s.bri := rfl
@[simp] theorem State.modChan_pair (s : State) (ch : Fin 128) (f : Chan → Chan) : (s.modChan ch f).pair = s.pair := rfl
@[simp] theorem State.modChan_od (s : State) (ch : Fin 128) (f : Chan → Chan) : (s.modChan ch f).od = s.od := rfl
@[simp] theorem State.modChan_upd (s : State) (ch : Fin 128) (f : Chan → Chan) : (s.modChan ch f).upd = s.upd := rfl
@[simp] theorem State.modChan_evq (s : State) (ch : Fin 128) (f : Chan → Chan) : (s.modChan ch f).evq = s.evq := rfl
@[simp] theorem State.modChan_rcd (s : State) (ch : Fin 128) (f : Chan → Chan) : (s.modChan ch f).rcd = s.rcd := rfl
@[simp] theorem State.modChan_sent (s : State) (ch : Fin 128) (f : Chan → Chan) : (s.modChan ch f).sent = s.sent := rfl
@[simp] theorem State.modChan_freeCount (s : State) (ch : Fin 128) (f : Chan → Chan) : (s.modChan ch f).freeCount = s.freeCount := rfl
@[simp] theorem State.modChan_serial (s : State) (ch : Fin 128) (f : Chan → Chan) : (s.modChan ch f).serial = s.serial := rfl
@[simp] theorem State.modChan_issue (s : State) (ch : Fin 128) (f : Chan → Chan) : (s.modChan ch f).issue = s.issue := rfl

@[simp] theorem State.modInst_pending (s : State) (i : Nat) (f : Inst → Inst) : (s.modInst i f).pending = s.pending := rfl
@[simp] theorem State.modInst_time (s : State) (i : Nat) (f : Inst → Inst) : (s.modInst i f).time = s.time := rfl
@[simp] theorem State.modInst_ctl (s : State) (i : Nat) (f : Inst → Inst) : (s.modInst i f).ctl = s.ctl := rfl
@[simp] theorem State.modInst_lanA (s : State) (i : Nat) (f : Inst → Inst) : (s.modInst i f).lanA = s.lanA := rfl
@[simp] theorem State.modInst_lanB (s : State) (i : Nat) (f : Inst → Inst) : (s.modInst i f).lanB = s.lanB := rfl
@[simp] theorem State.modInst_lanC (s : State) (i : Nat) (f : Inst → Inst) : (s.modInst i f).lanC = s.lanC := rfl
@[simp] theorem State.modInst_rek (s : State) (i : Nat) (f : Inst → Inst) : (s.modInst i f).rek = s.rek := rfl
@[simp] theorem State.modInst_cis (s : State) (i : Nat) (f : Inst → Inst) : (s.modInst i f).cis = s.cis := rfl
@[simp] theorem State.modInst_fio (s : State) (i : Nat) (f : Inst → Inst) : (s.modInst i f).fio = s.fio := rfl
@[simp] theorem State.modInst_sw (s : State) (i : Nat) (f : Inst → Inst) : (s.modInst i f).sw = s.sw := rfl
@[simp] theorem State.modInst_tel (s : State) (i : Nat) (f : Inst → Inst) : (s.modInst i f).tel = s.tel := rfl
@[simp] theorem State.modInst_bri (s : State) (i : Nat) (f : Inst → Inst) : (s.modInst i f).bri = s.bri := rfl
@[simp] theorem State.modInst_pair (s : State) (i : Nat) (f : Inst → Inst) : (s.modInst i f).pair = s.pair := rfl
@[simp] theorem State.modInst_od (s : State) (i : Nat) (f : Inst → Inst) : (s.modInst i f).od = s.od := rfl
@[simp] theorem State.modInst_upd (s : State) (i : Nat) (f : Inst → Inst) : (s.modInst i f).upd = s.upd := rfl
@[simp] theorem State.modInst_evq (s : State) (i : Nat) (f : Inst → Inst) : (s.modInst i f).evq = s.evq := rfl
@[simp] theorem State.modInst_rcd (s : State) (i : Nat) (f : Inst → Inst) : (s.modInst i f).rcd = s.rcd := rfl
@[simp] theorem State.modInst_sent (s : State) (i : Nat) (f : Inst → Inst) : (s.modInst i f).sent = s.sent := rfl
@[simp] theorem State.modInst_freeCount (s : State) (i : Nat) (f : Inst → Inst) : (s.modInst i f).freeCount = s.freeCount := rfl
@[simp] theorem State.modInst_serial (s : State) (i : Nat) (f : Inst → Inst) : (s.modInst i f).serial = s.serial := rfl
@[simp] theorem State.modInst_issue (s : State) (i : Nat) (f : Inst → Inst) : (s.modInst i f).issue = s.issue := rfl

@[simp] theorem State.modRing_pending (s : State) (r : Nat) (f : Ring → Ring) : (s.modRing r f).pending = s.pending := rfl
@[simp] theorem State.modRing_time (s : State) (r : Nat) (f : Ring → Ring) : (s.modRing r f).time = s.time := rfl
@[simp] theorem State.modRing_ctl (s : State) (r : Nat) (f : Ring → Ring) : (s.modRing r f).ctl = s.ctl := rfl
@[simp] theorem State.modRing_lanA (s : State) (r : Nat) (f : Ring → Ring) : (s.modRing r f).lanA = s.lanA := rfl
@[simp] theorem State.modRing_lanB (s : State) (r : Nat) (f : Ring → Ring) : (s.modRing r f).lanB = s.lanB := rfl
@[simp] theorem State.modRing_lanC (s : State) (r : Nat) (f : Ring → Ring) : (s.modRing r f).lanC = s.lanC := rfl
@[simp] theorem State.modRing_rek (s : State) (r : Nat) (f : Ring → Ring) : (s.modRing r f).rek = s.rek := rfl
@[simp] theorem State.modRing_cis (s : State) (r : Nat) (f : Ring → Ring) : (s.modRing r f).cis = s.cis := rfl
@[simp] theorem State.modRing_fab (s : State) (r : Nat) (f : Ring → Ring) : (s.modRing r f).fab = s.fab := rfl
@[simp] theorem State.modRing_fio (s : State) (r : Nat) (f : Ring → Ring) : (s.modRing r f).fio = s.fio := rfl
@[simp] theorem State.modRing_sw (s : State) (r : Nat) (f : Ring → Ring) : (s.modRing r f).sw = s.sw := rfl
@[simp] theorem State.modRing_tel (s : State) (r : Nat) (f : Ring → Ring) : (s.modRing r f).tel = s.tel := rfl
@[simp] theorem State.modRing_pair (s : State) (r : Nat) (f : Ring → Ring) : (s.modRing r f).pair = s.pair := rfl
@[simp] theorem State.modRing_od (s : State) (r : Nat) (f : Ring → Ring) : (s.modRing r f).od = s.od := rfl
@[simp] theorem State.modRing_upd (s : State) (r : Nat) (f : Ring → Ring) : (s.modRing r f).upd = s.upd := rfl
@[simp] theorem State.modRing_evq (s : State) (r : Nat) (f : Ring → Ring) : (s.modRing r f).evq = s.evq := rfl
@[simp] theorem State.modRing_rcd (s : State) (r : Nat) (f : Ring → Ring) : (s.modRing r f).rcd = s.rcd := rfl
@[simp] theorem State.modRing_sent (s : State) (r : Nat) (f : Ring → Ring) : (s.modRing r f).sent = s.sent := rfl
@[simp] theorem State.modRing_freeCount (s : State) (r : Nat) (f : Ring → Ring) : (s.modRing r f).freeCount = s.freeCount := rfl
@[simp] theorem State.modRing_serial (s : State) (r : Nat) (f : Ring → Ring) : (s.modRing r f).serial = s.serial := rfl
@[simp] theorem State.modRing_issue (s : State) (r : Nat) (f : Ring → Ring) : (s.modRing r f).issue = s.issue := rfl

@[simp] theorem State.modTask_pending (s : State) (t : Fin 16) (f : TaskSt → TaskSt) : (s.modTask t f).pending = s.pending := rfl
@[simp] theorem State.modTask_time (s : State) (t : Fin 16) (f : TaskSt → TaskSt) : (s.modTask t f).time = s.time := rfl
@[simp] theorem State.modTask_lanA (s : State) (t : Fin 16) (f : TaskSt → TaskSt) : (s.modTask t f).lanA = s.lanA := rfl
@[simp] theorem State.modTask_lanB (s : State) (t : Fin 16) (f : TaskSt → TaskSt) : (s.modTask t f).lanB = s.lanB := rfl
@[simp] theorem State.modTask_lanC (s : State) (t : Fin 16) (f : TaskSt → TaskSt) : (s.modTask t f).lanC = s.lanC := rfl
@[simp] theorem State.modTask_rek (s : State) (t : Fin 16) (f : TaskSt → TaskSt) : (s.modTask t f).rek = s.rek := rfl
@[simp] theorem State.modTask_cis (s : State) (t : Fin 16) (f : TaskSt → TaskSt) : (s.modTask t f).cis = s.cis := rfl
@[simp] theorem State.modTask_fab (s : State) (t : Fin 16) (f : TaskSt → TaskSt) : (s.modTask t f).fab = s.fab := rfl
@[simp] theorem State.modTask_fio (s : State) (t : Fin 16) (f : TaskSt → TaskSt) : (s.modTask t f).fio = s.fio := rfl
@[simp] theorem State.modTask_sw (s : State) (t : Fin 16) (f : TaskSt → TaskSt) : (s.modTask t f).sw = s.sw := rfl
@[simp] theorem State.modTask_tel (s : State) (t : Fin 16) (f : TaskSt → TaskSt) : (s.modTask t f).tel = s.tel := rfl
@[simp] theorem State.modTask_bri (s : State) (t : Fin 16) (f : TaskSt → TaskSt) : (s.modTask t f).bri = s.bri := rfl
@[simp] theorem State.modTask_pair (s : State) (t : Fin 16) (f : TaskSt → TaskSt) : (s.modTask t f).pair = s.pair := rfl
@[simp] theorem State.modTask_od (s : State) (t : Fin 16) (f : TaskSt → TaskSt) : (s.modTask t f).od = s.od := rfl
@[simp] theorem State.modTask_upd (s : State) (t : Fin 16) (f : TaskSt → TaskSt) : (s.modTask t f).upd = s.upd := rfl
@[simp] theorem State.modTask_evq (s : State) (t : Fin 16) (f : TaskSt → TaskSt) : (s.modTask t f).evq = s.evq := rfl
@[simp] theorem State.modTask_rcd (s : State) (t : Fin 16) (f : TaskSt → TaskSt) : (s.modTask t f).rcd = s.rcd := rfl
@[simp] theorem State.modTask_sent (s : State) (t : Fin 16) (f : TaskSt → TaskSt) : (s.modTask t f).sent = s.sent := rfl
@[simp] theorem State.modTask_freeCount (s : State) (t : Fin 16) (f : TaskSt → TaskSt) : (s.modTask t f).freeCount = s.freeCount := rfl
@[simp] theorem State.modTask_serial (s : State) (t : Fin 16) (f : TaskSt → TaskSt) : (s.modTask t f).serial = s.serial := rfl
@[simp] theorem State.modTask_issue (s : State) (t : Fin 16) (f : TaskSt → TaskSt) : (s.modTask t f).issue = s.issue := rfl

@[simp] theorem State.modPort_pending (s : State) (p : Fin 11) (f : Port → Port) : (s.modPort p f).pending = s.pending := rfl
@[simp] theorem State.modPort_time (s : State) (p : Fin 11) (f : Port → Port) : (s.modPort p f).time = s.time := rfl
@[simp] theorem State.modPort_ctl (s : State) (p : Fin 11) (f : Port → Port) : (s.modPort p f).ctl = s.ctl := rfl
@[simp] theorem State.modPort_lanA (s : State) (p : Fin 11) (f : Port → Port) : (s.modPort p f).lanA = s.lanA := rfl
@[simp] theorem State.modPort_lanB (s : State) (p : Fin 11) (f : Port → Port) : (s.modPort p f).lanB = s.lanB := rfl
@[simp] theorem State.modPort_lanC (s : State) (p : Fin 11) (f : Port → Port) : (s.modPort p f).lanC = s.lanC := rfl
@[simp] theorem State.modPort_rek (s : State) (p : Fin 11) (f : Port → Port) : (s.modPort p f).rek = s.rek := rfl
@[simp] theorem State.modPort_cis (s : State) (p : Fin 11) (f : Port → Port) : (s.modPort p f).cis = s.cis := rfl
@[simp] theorem State.modPort_fab (s : State) (p : Fin 11) (f : Port → Port) : (s.modPort p f).fab = s.fab := rfl
@[simp] theorem State.modPort_fio (s : State) (p : Fin 11) (f : Port → Port) : (s.modPort p f).fio = s.fio := rfl
@[simp] theorem State.modPort_tel (s : State) (p : Fin 11) (f : Port → Port) : (s.modPort p f).tel = s.tel := rfl
@[simp] theorem State.modPort_bri (s : State) (p : Fin 11) (f : Port → Port) : (s.modPort p f).bri = s.bri := rfl
@[simp] theorem State.modPort_pair (s : State) (p : Fin 11) (f : Port → Port) : (s.modPort p f).pair = s.pair := rfl
@[simp] theorem State.modPort_od (s : State) (p : Fin 11) (f : Port → Port) : (s.modPort p f).od = s.od := rfl
@[simp] theorem State.modPort_upd (s : State) (p : Fin 11) (f : Port → Port) : (s.modPort p f).upd = s.upd := rfl
@[simp] theorem State.modPort_evq (s : State) (p : Fin 11) (f : Port → Port) : (s.modPort p f).evq = s.evq := rfl
@[simp] theorem State.modPort_rcd (s : State) (p : Fin 11) (f : Port → Port) : (s.modPort p f).rcd = s.rcd := rfl
@[simp] theorem State.modPort_sent (s : State) (p : Fin 11) (f : Port → Port) : (s.modPort p f).sent = s.sent := rfl
@[simp] theorem State.modPort_freeCount (s : State) (p : Fin 11) (f : Port → Port) : (s.modPort p f).freeCount = s.freeCount := rfl
@[simp] theorem State.modPort_serial (s : State) (p : Fin 11) (f : Port → Port) : (s.modPort p f).serial = s.serial := rfl
@[simp] theorem State.modPort_issue (s : State) (p : Fin 11) (f : Port → Port) : (s.modPort p f).issue = s.issue := rfl

@[simp] theorem State.modCan_pending (s : State) (bus : Fin 2) (f : CanBus → CanBus) : (s.modCan bus f).pending = s.pending := by unfold State.modCan; split <;> rfl
@[simp] theorem State.modCan_time (s : State) (bus : Fin 2) (f : CanBus → CanBus) : (s.modCan bus f).time = s.time := by unfold State.modCan; split <;> rfl
@[simp] theorem State.modCan_ctl (s : State) (bus : Fin 2) (f : CanBus → CanBus) : (s.modCan bus f).ctl = s.ctl := by unfold State.modCan; split <;> rfl
@[simp] theorem State.modCan_lanA (s : State) (bus : Fin 2) (f : CanBus → CanBus) : (s.modCan bus f).lanA = s.lanA := by unfold State.modCan; split <;> rfl
@[simp] theorem State.modCan_lanB (s : State) (bus : Fin 2) (f : CanBus → CanBus) : (s.modCan bus f).lanB = s.lanB := by unfold State.modCan; split <;> rfl
@[simp] theorem State.modCan_lanC (s : State) (bus : Fin 2) (f : CanBus → CanBus) : (s.modCan bus f).lanC = s.lanC := by unfold State.modCan; split <;> rfl
@[simp] theorem State.modCan_rek (s : State) (bus : Fin 2) (f : CanBus → CanBus) : (s.modCan bus f).rek = s.rek := by unfold State.modCan; split <;> rfl
@[simp] theorem State.modCan_cis (s : State) (bus : Fin 2) (f : CanBus → CanBus) : (s.modCan bus f).cis = s.cis := by unfold State.modCan; split <;> rfl
@[simp] theorem State.modCan_fab (s : State) (bus : Fin 2) (f : CanBus → CanBus) : (s.modCan bus f).fab = s.fab := by unfold State.modCan; split <;> rfl
@[simp] theorem State.modCan_fio (s : State) (bus : Fin 2) (f : CanBus → CanBus) : (s.modCan bus f).fio = s.fio := by unfold State.modCan; split <;> rfl
@[simp] theorem State.modCan_sw (s : State) (bus : Fin 2) (f : CanBus → CanBus) : (s.modCan bus f).sw = s.sw := by unfold State.modCan; split <;> rfl
@[simp] theorem State.modCan_bri (s : State) (bus : Fin 2) (f : CanBus → CanBus) : (s.modCan bus f).bri = s.bri := by unfold State.modCan; split <;> rfl
@[simp] theorem State.modCan_pair (s : State) (bus : Fin 2) (f : CanBus → CanBus) : (s.modCan bus f).pair = s.pair := by unfold State.modCan; split <;> rfl
@[simp] theorem State.modCan_od (s : State) (bus : Fin 2) (f : CanBus → CanBus) : (s.modCan bus f).od = s.od := by unfold State.modCan; split <;> rfl
@[simp] theorem State.modCan_upd (s : State) (bus : Fin 2) (f : CanBus → CanBus) : (s.modCan bus f).upd = s.upd := by unfold State.modCan; split <;> rfl
@[simp] theorem State.modCan_evq (s : State) (bus : Fin 2) (f : CanBus → CanBus) : (s.modCan bus f).evq = s.evq := by unfold State.modCan; split <;> rfl
@[simp] theorem State.modCan_rcd (s : State) (bus : Fin 2) (f : CanBus → CanBus) : (s.modCan bus f).rcd = s.rcd := by unfold State.modCan; split <;> rfl
@[simp] theorem State.modCan_sent (s : State) (bus : Fin 2) (f : CanBus → CanBus) : (s.modCan bus f).sent = s.sent := by unfold State.modCan; split <;> rfl
@[simp] theorem State.modCan_freeCount (s : State) (bus : Fin 2) (f : CanBus → CanBus) : (s.modCan bus f).freeCount = s.freeCount := by unfold State.modCan; split <;> rfl
@[simp] theorem State.modCan_serial (s : State) (bus : Fin 2) (f : CanBus → CanBus) : (s.modCan bus f).serial = s.serial := by unfold State.modCan; split <;> rfl
@[simp] theorem State.modCan_issue (s : State) (bus : Fin 2) (f : CanBus → CanBus) : (s.modCan bus f).issue = s.issue := by unfold State.modCan; split <;> rfl

@[simp] theorem State.modPtp_pending (s : State) (j : Fin 2) (f : PtpSlot → PtpSlot) : (s.modPtp j f).pending = s.pending := by unfold State.modPtp; split <;> rfl
@[simp] theorem State.modPtp_ctl (s : State) (j : Fin 2) (f : PtpSlot → PtpSlot) : (s.modPtp j f).ctl = s.ctl := by unfold State.modPtp; split <;> rfl
@[simp] theorem State.modPtp_lanA (s : State) (j : Fin 2) (f : PtpSlot → PtpSlot) : (s.modPtp j f).lanA = s.lanA := by unfold State.modPtp; split <;> rfl
@[simp] theorem State.modPtp_lanB (s : State) (j : Fin 2) (f : PtpSlot → PtpSlot) : (s.modPtp j f).lanB = s.lanB := by unfold State.modPtp; split <;> rfl
@[simp] theorem State.modPtp_lanC (s : State) (j : Fin 2) (f : PtpSlot → PtpSlot) : (s.modPtp j f).lanC = s.lanC := by unfold State.modPtp; split <;> rfl
@[simp] theorem State.modPtp_rek (s : State) (j : Fin 2) (f : PtpSlot → PtpSlot) : (s.modPtp j f).rek = s.rek := by unfold State.modPtp; split <;> rfl
@[simp] theorem State.modPtp_cis (s : State) (j : Fin 2) (f : PtpSlot → PtpSlot) : (s.modPtp j f).cis = s.cis := by unfold State.modPtp; split <;> rfl
@[simp] theorem State.modPtp_fab (s : State) (j : Fin 2) (f : PtpSlot → PtpSlot) : (s.modPtp j f).fab = s.fab := by unfold State.modPtp; split <;> rfl
@[simp] theorem State.modPtp_fio (s : State) (j : Fin 2) (f : PtpSlot → PtpSlot) : (s.modPtp j f).fio = s.fio := by unfold State.modPtp; split <;> rfl
@[simp] theorem State.modPtp_sw (s : State) (j : Fin 2) (f : PtpSlot → PtpSlot) : (s.modPtp j f).sw = s.sw := by unfold State.modPtp; split <;> rfl
@[simp] theorem State.modPtp_tel (s : State) (j : Fin 2) (f : PtpSlot → PtpSlot) : (s.modPtp j f).tel = s.tel := by unfold State.modPtp; split <;> rfl
@[simp] theorem State.modPtp_bri (s : State) (j : Fin 2) (f : PtpSlot → PtpSlot) : (s.modPtp j f).bri = s.bri := by unfold State.modPtp; split <;> rfl
@[simp] theorem State.modPtp_pair (s : State) (j : Fin 2) (f : PtpSlot → PtpSlot) : (s.modPtp j f).pair = s.pair := by unfold State.modPtp; split <;> rfl
@[simp] theorem State.modPtp_od (s : State) (j : Fin 2) (f : PtpSlot → PtpSlot) : (s.modPtp j f).od = s.od := by unfold State.modPtp; split <;> rfl
@[simp] theorem State.modPtp_upd (s : State) (j : Fin 2) (f : PtpSlot → PtpSlot) : (s.modPtp j f).upd = s.upd := by unfold State.modPtp; split <;> rfl
@[simp] theorem State.modPtp_evq (s : State) (j : Fin 2) (f : PtpSlot → PtpSlot) : (s.modPtp j f).evq = s.evq := by unfold State.modPtp; split <;> rfl
@[simp] theorem State.modPtp_rcd (s : State) (j : Fin 2) (f : PtpSlot → PtpSlot) : (s.modPtp j f).rcd = s.rcd := by unfold State.modPtp; split <;> rfl
@[simp] theorem State.modPtp_sent (s : State) (j : Fin 2) (f : PtpSlot → PtpSlot) : (s.modPtp j f).sent = s.sent := by unfold State.modPtp; split <;> rfl
@[simp] theorem State.modPtp_freeCount (s : State) (j : Fin 2) (f : PtpSlot → PtpSlot) : (s.modPtp j f).freeCount = s.freeCount := by unfold State.modPtp; split <;> rfl
@[simp] theorem State.modPtp_serial (s : State) (j : Fin 2) (f : PtpSlot → PtpSlot) : (s.modPtp j f).serial = s.serial := by unfold State.modPtp; split <;> rfl
@[simp] theorem State.modPtp_issue (s : State) (j : Fin 2) (f : PtpSlot → PtpSlot) : (s.modPtp j f).issue = s.issue := by unfold State.modPtp; split <;> rfl

@[simp] theorem State.modSession_pending (s : State) (n : Fin 9) (f : Session → Session) : (s.modSession n f).pending = s.pending := rfl
@[simp] theorem State.modSession_time (s : State) (n : Fin 9) (f : Session → Session) : (s.modSession n f).time = s.time := rfl
@[simp] theorem State.modSession_ctl (s : State) (n : Fin 9) (f : Session → Session) : (s.modSession n f).ctl = s.ctl := rfl
@[simp] theorem State.modSession_lanA (s : State) (n : Fin 9) (f : Session → Session) : (s.modSession n f).lanA = s.lanA := rfl
@[simp] theorem State.modSession_lanB (s : State) (n : Fin 9) (f : Session → Session) : (s.modSession n f).lanB = s.lanB := rfl
@[simp] theorem State.modSession_lanC (s : State) (n : Fin 9) (f : Session → Session) : (s.modSession n f).lanC = s.lanC := rfl
@[simp] theorem State.modSession_rek (s : State) (n : Fin 9) (f : Session → Session) : (s.modSession n f).rek = s.rek := rfl
@[simp] theorem State.modSession_cis (s : State) (n : Fin 9) (f : Session → Session) : (s.modSession n f).cis = s.cis := rfl
@[simp] theorem State.modSession_fab (s : State) (n : Fin 9) (f : Session → Session) : (s.modSession n f).fab = s.fab := rfl
@[simp] theorem State.modSession_fio (s : State) (n : Fin 9) (f : Session → Session) : (s.modSession n f).fio = s.fio := rfl
@[simp] theorem State.modSession_sw (s : State) (n : Fin 9) (f : Session → Session) : (s.modSession n f).sw = s.sw := rfl
@[simp] theorem State.modSession_tel (s : State) (n : Fin 9) (f : Session → Session) : (s.modSession n f).tel = s.tel := rfl
@[simp] theorem State.modSession_bri (s : State) (n : Fin 9) (f : Session → Session) : (s.modSession n f).bri = s.bri := rfl
@[simp] theorem State.modSession_pair (s : State) (n : Fin 9) (f : Session → Session) : (s.modSession n f).pair = s.pair := rfl
@[simp] theorem State.modSession_upd (s : State) (n : Fin 9) (f : Session → Session) : (s.modSession n f).upd = s.upd := rfl
@[simp] theorem State.modSession_evq (s : State) (n : Fin 9) (f : Session → Session) : (s.modSession n f).evq = s.evq := rfl
@[simp] theorem State.modSession_rcd (s : State) (n : Fin 9) (f : Session → Session) : (s.modSession n f).rcd = s.rcd := rfl
@[simp] theorem State.modSession_sent (s : State) (n : Fin 9) (f : Session → Session) : (s.modSession n f).sent = s.sent := rfl
@[simp] theorem State.modSession_freeCount (s : State) (n : Fin 9) (f : Session → Session) : (s.modSession n f).freeCount = s.freeCount := rfl
@[simp] theorem State.modSession_serial (s : State) (n : Fin 9) (f : Session → Session) : (s.modSession n f).serial = s.serial := rfl
@[simp] theorem State.modSession_issue (s : State) (n : Fin 9) (f : Session → Session) : (s.modSession n f).issue = s.issue := rfl

@[simp] theorem State.setXfer_pending (s : State) (bus : Fin 2) (x : Option SdoXfer) : (s.setXfer bus x).pending = s.pending := by unfold State.setXfer; split <;> rfl
@[simp] theorem State.setXfer_time (s : State) (bus : Fin 2) (x : Option SdoXfer) : (s.setXfer bus x).time = s.time := by unfold State.setXfer; split <;> rfl
@[simp] theorem State.setXfer_ctl (s : State) (bus : Fin 2) (x : Option SdoXfer) : (s.setXfer bus x).ctl = s.ctl := by unfold State.setXfer; split <;> rfl
@[simp] theorem State.setXfer_lanA (s : State) (bus : Fin 2) (x : Option SdoXfer) : (s.setXfer bus x).lanA = s.lanA := by unfold State.setXfer; split <;> rfl
@[simp] theorem State.setXfer_lanB (s : State) (bus : Fin 2) (x : Option SdoXfer) : (s.setXfer bus x).lanB = s.lanB := by unfold State.setXfer; split <;> rfl
@[simp] theorem State.setXfer_lanC (s : State) (bus : Fin 2) (x : Option SdoXfer) : (s.setXfer bus x).lanC = s.lanC := by unfold State.setXfer; split <;> rfl
@[simp] theorem State.setXfer_rek (s : State) (bus : Fin 2) (x : Option SdoXfer) : (s.setXfer bus x).rek = s.rek := by unfold State.setXfer; split <;> rfl
@[simp] theorem State.setXfer_cis (s : State) (bus : Fin 2) (x : Option SdoXfer) : (s.setXfer bus x).cis = s.cis := by unfold State.setXfer; split <;> rfl
@[simp] theorem State.setXfer_fab (s : State) (bus : Fin 2) (x : Option SdoXfer) : (s.setXfer bus x).fab = s.fab := by unfold State.setXfer; split <;> rfl
@[simp] theorem State.setXfer_fio (s : State) (bus : Fin 2) (x : Option SdoXfer) : (s.setXfer bus x).fio = s.fio := by unfold State.setXfer; split <;> rfl
@[simp] theorem State.setXfer_sw (s : State) (bus : Fin 2) (x : Option SdoXfer) : (s.setXfer bus x).sw = s.sw := by unfold State.setXfer; split <;> rfl
@[simp] theorem State.setXfer_tel (s : State) (bus : Fin 2) (x : Option SdoXfer) : (s.setXfer bus x).tel = s.tel := by unfold State.setXfer; split <;> rfl
@[simp] theorem State.setXfer_bri (s : State) (bus : Fin 2) (x : Option SdoXfer) : (s.setXfer bus x).bri = s.bri := by unfold State.setXfer; split <;> rfl
@[simp] theorem State.setXfer_pair (s : State) (bus : Fin 2) (x : Option SdoXfer) : (s.setXfer bus x).pair = s.pair := by unfold State.setXfer; split <;> rfl
@[simp] theorem State.setXfer_upd (s : State) (bus : Fin 2) (x : Option SdoXfer) : (s.setXfer bus x).upd = s.upd := by unfold State.setXfer; split <;> rfl
@[simp] theorem State.setXfer_evq (s : State) (bus : Fin 2) (x : Option SdoXfer) : (s.setXfer bus x).evq = s.evq := by unfold State.setXfer; split <;> rfl
@[simp] theorem State.setXfer_rcd (s : State) (bus : Fin 2) (x : Option SdoXfer) : (s.setXfer bus x).rcd = s.rcd := by unfold State.setXfer; split <;> rfl
@[simp] theorem State.setXfer_sent (s : State) (bus : Fin 2) (x : Option SdoXfer) : (s.setXfer bus x).sent = s.sent := by unfold State.setXfer; split <;> rfl
@[simp] theorem State.setXfer_freeCount (s : State) (bus : Fin 2) (x : Option SdoXfer) : (s.setXfer bus x).freeCount = s.freeCount := by unfold State.setXfer; split <;> rfl
@[simp] theorem State.setXfer_serial (s : State) (bus : Fin 2) (x : Option SdoXfer) : (s.setXfer bus x).serial = s.serial := by unfold State.setXfer; split <;> rfl
@[simp] theorem State.setXfer_issue (s : State) (bus : Fin 2) (x : Option SdoXfer) : (s.setXfer bus x).issue = s.issue := by unfold State.setXfer; split <;> rfl

@[simp] theorem State.odSet_pending (s : State) (i u : Nat) (v : Bytes) : (s.odSet i u v).pending = s.pending := rfl
@[simp] theorem State.odSet_time (s : State) (i u : Nat) (v : Bytes) : (s.odSet i u v).time = s.time := rfl
@[simp] theorem State.odSet_ctl (s : State) (i u : Nat) (v : Bytes) : (s.odSet i u v).ctl = s.ctl := rfl
@[simp] theorem State.odSet_lanA (s : State) (i u : Nat) (v : Bytes) : (s.odSet i u v).lanA = s.lanA := rfl
@[simp] theorem State.odSet_lanB (s : State) (i u : Nat) (v : Bytes) : (s.odSet i u v).lanB = s.lanB := rfl
@[simp] theorem State.odSet_lanC (s : State) (i u : Nat) (v : Bytes) : (s.odSet i u v).lanC = s.lanC := rfl
@[simp] theorem State.odSet_rek (s : State) (i u : Nat) (v : Bytes) : (s.odSet i u v).rek = s.rek := rfl
@[simp] theorem State.odSet_cis (s : State) (i u : Nat) (v : Bytes) : (s.odSet i u v).cis = s.cis := rfl
@[simp] theorem State.odSet_fab (s : State) (i u : Nat) (v : Bytes) : (s.odSet i u v).fab = s.fab := rfl
@[simp] theorem State.odSet_fio (s : State) (i u : Nat) (v : Bytes) : (s.odSet i u v).fio = s.fio := rfl
@[simp] theorem State.odSet_sw (s : State) (i u : Nat) (v : Bytes) : (s.odSet i u v).sw = s.sw := rfl
@[simp] theorem State.odSet_tel (s : State) (i u : Nat) (v : Bytes) : (s.odSet i u v).tel = s.tel := rfl
@[simp] theorem State.odSet_bri (s : State) (i u : Nat) (v : Bytes) : (s.odSet i u v).bri = s.bri := rfl
@[simp] theorem State.odSet_pair (s : State) (i u : Nat) (v : Bytes) : (s.odSet i u v).pair = s.pair := rfl
@[simp] theorem State.odSet_upd (s : State) (i u : Nat) (v : Bytes) : (s.odSet i u v).upd = s.upd := rfl
@[simp] theorem State.odSet_evq (s : State) (i u : Nat) (v : Bytes) : (s.odSet i u v).evq = s.evq := rfl
@[simp] theorem State.odSet_rcd (s : State) (i u : Nat) (v : Bytes) : (s.odSet i u v).rcd = s.rcd := rfl
@[simp] theorem State.odSet_sent (s : State) (i u : Nat) (v : Bytes) : (s.odSet i u v).sent = s.sent := rfl
@[simp] theorem State.odSet_freeCount (s : State) (i u : Nat) (v : Bytes) : (s.odSet i u v).freeCount = s.freeCount := rfl
@[simp] theorem State.odSet_serial (s : State) (i u : Nat) (v : Bytes) : (s.odSet i u v).serial = s.serial := rfl
@[simp] theorem State.odSet_issue (s : State) (i u : Nat) (v : Bytes) : (s.odSet i u v).issue = s.issue := rfl

/-! ### Events and records write the event queue and the recorder only (R397, R411) -/

/-- `t` is `s` but for its event queue and its recorder. -/
def OnlyRecords (s t : State) : Prop := t = { s with evq := t.evq, rcd := t.rcd }

theorem OnlyRecords.refl (s : State) : OnlyRecords s s := rfl

theorem OnlyRecords.trans {s t u : State} (h : OnlyRecords s t) (h1 : OnlyRecords t u) : OnlyRecords s u := by
  unfold OnlyRecords at *
  rw [h1]
  conv_lhs => rw [h]

theorem OnlyRecords.ite {c : Prop} [Decidable c] {s t u : State} (h : OnlyRecords s t) (h1 : OnlyRecords s u) :
    OnlyRecords s (if c then t else u) := by
  split
  · exact h
  · exact h1

theorem record_only (c : Nat) (d : Bytes) (s : State) : OnlyRecords s (record c d s) := by
  unfold record
  refine .ite (.refl s) ?_
  split <;> rfl

theorem recordSuppressed_only (c : Nat) (s : State) : OnlyRecords s (recordSuppressed c s) := by
  unfold recordSuppressed
  split
  · exact .ite (.refl s) rfl
  · rfl

theorem evq_only (s : State) (q : EventQ) : OnlyRecords s { s with evq := q } := rfl

theorem raiseFrom_only (x : BitVec 8) (c : Code) (d : Bytes) (s : State) : OnlyRecords s (raiseFrom x c d s) := by
  unfold raiseFrom
  refine .ite ((evq_only s _).trans (record_only _ _ _)) ?_
  exact .ite ((evq_only s _).trans (record_only _ _ _)) ((evq_only s _).trans (recordSuppressed_only _ _))

theorem raise_only (c : Code) (d : Bytes) (s : State) : OnlyRecords s (raise c d s) := raiseFrom_only _ _ _ _

theorem raiseLane_only (ln : Lane) (c : Code) (d : Bytes) (s : State) : OnlyRecords s (raiseLane ln c d s) :=
  raiseFrom_only _ _ _ _

theorem raiseFab_only (c : Code) (d : Bytes) (s : State) : OnlyRecords s (raiseFab c d s) := raiseFrom_only _ _ _ _

theorem raiseIf_only (b : Bool) (c : Code) (d : Bytes) (s : State) : OnlyRecords s (raiseIf b c d s) :=
  .ite (raise_only _ _ _) (.refl s)

theorem raiseOncePerSec_only (n : Nat) (x : BitVec 8) (c : Code) (d : Bytes) (s : State) :
    OnlyRecords s (raiseOncePerSec n x c d s) :=
  .ite ((evq_only s _).trans (raiseFrom_only _ _ _ _)) (.refl s)

theorem measure_only (c : Nat) (i : BitVec 8) (v : BitVec 32) (s : State) : OnlyRecords s (measure c i v s) :=
  .ite (record_only _ _ _) (.ite ((evq_only s _).trans (record_only _ _ _)) ((evq_only s _).trans (recordSuppressed_only _ _)))

theorem OnlyRecords.pending {s t : State} (h : OnlyRecords s t) : t.pending = s.pending := by unfold OnlyRecords at h; rw [h]
theorem OnlyRecords.time {s t : State} (h : OnlyRecords s t) : t.time = s.time := by unfold OnlyRecords at h; rw [h]
theorem OnlyRecords.ctl {s t : State} (h : OnlyRecords s t) : t.ctl = s.ctl := by unfold OnlyRecords at h; rw [h]
theorem OnlyRecords.lanA {s t : State} (h : OnlyRecords s t) : t.lanA = s.lanA := by unfold OnlyRecords at h; rw [h]
theorem OnlyRecords.lanB {s t : State} (h : OnlyRecords s t) : t.lanB = s.lanB := by unfold OnlyRecords at h; rw [h]
theorem OnlyRecords.lanC {s t : State} (h : OnlyRecords s t) : t.lanC = s.lanC := by unfold OnlyRecords at h; rw [h]
theorem OnlyRecords.rek {s t : State} (h : OnlyRecords s t) : t.rek = s.rek := by unfold OnlyRecords at h; rw [h]
theorem OnlyRecords.cis {s t : State} (h : OnlyRecords s t) : t.cis = s.cis := by unfold OnlyRecords at h; rw [h]
theorem OnlyRecords.fab {s t : State} (h : OnlyRecords s t) : t.fab = s.fab := by unfold OnlyRecords at h; rw [h]
theorem OnlyRecords.fio {s t : State} (h : OnlyRecords s t) : t.fio = s.fio := by unfold OnlyRecords at h; rw [h]
theorem OnlyRecords.sw {s t : State} (h : OnlyRecords s t) : t.sw = s.sw := by unfold OnlyRecords at h; rw [h]
theorem OnlyRecords.tel {s t : State} (h : OnlyRecords s t) : t.tel = s.tel := by unfold OnlyRecords at h; rw [h]
theorem OnlyRecords.bri {s t : State} (h : OnlyRecords s t) : t.bri = s.bri := by unfold OnlyRecords at h; rw [h]
theorem OnlyRecords.pair {s t : State} (h : OnlyRecords s t) : t.pair = s.pair := by unfold OnlyRecords at h; rw [h]
theorem OnlyRecords.od {s t : State} (h : OnlyRecords s t) : t.od = s.od := by unfold OnlyRecords at h; rw [h]
theorem OnlyRecords.upd {s t : State} (h : OnlyRecords s t) : t.upd = s.upd := by unfold OnlyRecords at h; rw [h]
theorem OnlyRecords.sent {s t : State} (h : OnlyRecords s t) : t.sent = s.sent := by unfold OnlyRecords at h; rw [h]
theorem OnlyRecords.freeCount {s t : State} (h : OnlyRecords s t) : t.freeCount = s.freeCount := by unfold OnlyRecords at h; rw [h]
theorem OnlyRecords.serial {s t : State} (h : OnlyRecords s t) : t.serial = s.serial := by unfold OnlyRecords at h; rw [h]
theorem OnlyRecords.issue {s t : State} (h : OnlyRecords s t) : t.issue = s.issue := by unfold OnlyRecords at h; rw [h]

@[simp] theorem record_pending (c : Nat) (d : Bytes) (s : State) : (record c d s).pending = s.pending := (record_only c d s).pending
@[simp] theorem record_time (c : Nat) (d : Bytes) (s : State) : (record c d s).time = s.time := (record_only c d s).time
@[simp] theorem record_ctl (c : Nat) (d : Bytes) (s : State) : (record c d s).ctl = s.ctl := (record_only c d s).ctl
@[simp] theorem record_lanA (c : Nat) (d : Bytes) (s : State) : (record c d s).lanA = s.lanA := (record_only c d s).lanA
@[simp] theorem record_lanB (c : Nat) (d : Bytes) (s : State) : (record c d s).lanB = s.lanB := (record_only c d s).lanB
@[simp] theorem record_lanC (c : Nat) (d : Bytes) (s : State) : (record c d s).lanC = s.lanC := (record_only c d s).lanC
@[simp] theorem record_rek (c : Nat) (d : Bytes) (s : State) : (record c d s).rek = s.rek := (record_only c d s).rek
@[simp] theorem record_cis (c : Nat) (d : Bytes) (s : State) : (record c d s).cis = s.cis := (record_only c d s).cis
@[simp] theorem record_fab (c : Nat) (d : Bytes) (s : State) : (record c d s).fab = s.fab := (record_only c d s).fab
@[simp] theorem record_fio (c : Nat) (d : Bytes) (s : State) : (record c d s).fio = s.fio := (record_only c d s).fio
@[simp] theorem record_sw (c : Nat) (d : Bytes) (s : State) : (record c d s).sw = s.sw := (record_only c d s).sw
@[simp] theorem record_tel (c : Nat) (d : Bytes) (s : State) : (record c d s).tel = s.tel := (record_only c d s).tel
@[simp] theorem record_bri (c : Nat) (d : Bytes) (s : State) : (record c d s).bri = s.bri := (record_only c d s).bri
@[simp] theorem record_pair (c : Nat) (d : Bytes) (s : State) : (record c d s).pair = s.pair := (record_only c d s).pair
@[simp] theorem record_od (c : Nat) (d : Bytes) (s : State) : (record c d s).od = s.od := (record_only c d s).od
@[simp] theorem record_upd (c : Nat) (d : Bytes) (s : State) : (record c d s).upd = s.upd := (record_only c d s).upd
@[simp] theorem record_sent (c : Nat) (d : Bytes) (s : State) : (record c d s).sent = s.sent := (record_only c d s).sent
@[simp] theorem record_freeCount (c : Nat) (d : Bytes) (s : State) : (record c d s).freeCount = s.freeCount := (record_only c d s).freeCount
@[simp] theorem record_serial (c : Nat) (d : Bytes) (s : State) : (record c d s).serial = s.serial := (record_only c d s).serial
@[simp] theorem record_issue (c : Nat) (d : Bytes) (s : State) : (record c d s).issue = s.issue := (record_only c d s).issue

@[simp] theorem recordSuppressed_pending (c : Nat) (s : State) : (recordSuppressed c s).pending = s.pending := (recordSuppressed_only c s).pending
@[simp] theorem recordSuppressed_time (c : Nat) (s : State) : (recordSuppressed c s).time = s.time := (recordSuppressed_only c s).time
@[simp] theorem recordSuppressed_ctl (c : Nat) (s : State) : (recordSuppressed c s).ctl = s.ctl := (recordSuppressed_only c s).ctl
@[simp] theorem recordSuppressed_lanA (c : Nat) (s : State) : (recordSuppressed c s).lanA = s.lanA := (recordSuppressed_only c s).lanA
@[simp] theorem recordSuppressed_lanB (c : Nat) (s : State) : (recordSuppressed c s).lanB = s.lanB := (recordSuppressed_only c s).lanB
@[simp] theorem recordSuppressed_lanC (c : Nat) (s : State) : (recordSuppressed c s).lanC = s.lanC := (recordSuppressed_only c s).lanC
@[simp] theorem recordSuppressed_rek (c : Nat) (s : State) : (recordSuppressed c s).rek = s.rek := (recordSuppressed_only c s).rek
@[simp] theorem recordSuppressed_cis (c : Nat) (s : State) : (recordSuppressed c s).cis = s.cis := (recordSuppressed_only c s).cis
@[simp] theorem recordSuppressed_fab (c : Nat) (s : State) : (recordSuppressed c s).fab = s.fab := (recordSuppressed_only c s).fab
@[simp] theorem recordSuppressed_fio (c : Nat) (s : State) : (recordSuppressed c s).fio = s.fio := (recordSuppressed_only c s).fio
@[simp] theorem recordSuppressed_sw (c : Nat) (s : State) : (recordSuppressed c s).sw = s.sw := (recordSuppressed_only c s).sw
@[simp] theorem recordSuppressed_tel (c : Nat) (s : State) : (recordSuppressed c s).tel = s.tel := (recordSuppressed_only c s).tel
@[simp] theorem recordSuppressed_bri (c : Nat) (s : State) : (recordSuppressed c s).bri = s.bri := (recordSuppressed_only c s).bri
@[simp] theorem recordSuppressed_pair (c : Nat) (s : State) : (recordSuppressed c s).pair = s.pair := (recordSuppressed_only c s).pair
@[simp] theorem recordSuppressed_od (c : Nat) (s : State) : (recordSuppressed c s).od = s.od := (recordSuppressed_only c s).od
@[simp] theorem recordSuppressed_upd (c : Nat) (s : State) : (recordSuppressed c s).upd = s.upd := (recordSuppressed_only c s).upd
@[simp] theorem recordSuppressed_sent (c : Nat) (s : State) : (recordSuppressed c s).sent = s.sent := (recordSuppressed_only c s).sent
@[simp] theorem recordSuppressed_freeCount (c : Nat) (s : State) : (recordSuppressed c s).freeCount = s.freeCount := (recordSuppressed_only c s).freeCount
@[simp] theorem recordSuppressed_serial (c : Nat) (s : State) : (recordSuppressed c s).serial = s.serial := (recordSuppressed_only c s).serial
@[simp] theorem recordSuppressed_issue (c : Nat) (s : State) : (recordSuppressed c s).issue = s.issue := (recordSuppressed_only c s).issue

@[simp] theorem raiseFrom_pending (x : BitVec 8) (c : Code) (d : Bytes) (s : State) : (raiseFrom x c d s).pending = s.pending := (raiseFrom_only x c d s).pending
@[simp] theorem raiseFrom_time (x : BitVec 8) (c : Code) (d : Bytes) (s : State) : (raiseFrom x c d s).time = s.time := (raiseFrom_only x c d s).time
@[simp] theorem raiseFrom_ctl (x : BitVec 8) (c : Code) (d : Bytes) (s : State) : (raiseFrom x c d s).ctl = s.ctl := (raiseFrom_only x c d s).ctl
@[simp] theorem raiseFrom_lanA (x : BitVec 8) (c : Code) (d : Bytes) (s : State) : (raiseFrom x c d s).lanA = s.lanA := (raiseFrom_only x c d s).lanA
@[simp] theorem raiseFrom_lanB (x : BitVec 8) (c : Code) (d : Bytes) (s : State) : (raiseFrom x c d s).lanB = s.lanB := (raiseFrom_only x c d s).lanB
@[simp] theorem raiseFrom_lanC (x : BitVec 8) (c : Code) (d : Bytes) (s : State) : (raiseFrom x c d s).lanC = s.lanC := (raiseFrom_only x c d s).lanC
@[simp] theorem raiseFrom_rek (x : BitVec 8) (c : Code) (d : Bytes) (s : State) : (raiseFrom x c d s).rek = s.rek := (raiseFrom_only x c d s).rek
@[simp] theorem raiseFrom_cis (x : BitVec 8) (c : Code) (d : Bytes) (s : State) : (raiseFrom x c d s).cis = s.cis := (raiseFrom_only x c d s).cis
@[simp] theorem raiseFrom_fab (x : BitVec 8) (c : Code) (d : Bytes) (s : State) : (raiseFrom x c d s).fab = s.fab := (raiseFrom_only x c d s).fab
@[simp] theorem raiseFrom_fio (x : BitVec 8) (c : Code) (d : Bytes) (s : State) : (raiseFrom x c d s).fio = s.fio := (raiseFrom_only x c d s).fio
@[simp] theorem raiseFrom_sw (x : BitVec 8) (c : Code) (d : Bytes) (s : State) : (raiseFrom x c d s).sw = s.sw := (raiseFrom_only x c d s).sw
@[simp] theorem raiseFrom_tel (x : BitVec 8) (c : Code) (d : Bytes) (s : State) : (raiseFrom x c d s).tel = s.tel := (raiseFrom_only x c d s).tel
@[simp] theorem raiseFrom_bri (x : BitVec 8) (c : Code) (d : Bytes) (s : State) : (raiseFrom x c d s).bri = s.bri := (raiseFrom_only x c d s).bri
@[simp] theorem raiseFrom_pair (x : BitVec 8) (c : Code) (d : Bytes) (s : State) : (raiseFrom x c d s).pair = s.pair := (raiseFrom_only x c d s).pair
@[simp] theorem raiseFrom_od (x : BitVec 8) (c : Code) (d : Bytes) (s : State) : (raiseFrom x c d s).od = s.od := (raiseFrom_only x c d s).od
@[simp] theorem raiseFrom_upd (x : BitVec 8) (c : Code) (d : Bytes) (s : State) : (raiseFrom x c d s).upd = s.upd := (raiseFrom_only x c d s).upd
@[simp] theorem raiseFrom_sent (x : BitVec 8) (c : Code) (d : Bytes) (s : State) : (raiseFrom x c d s).sent = s.sent := (raiseFrom_only x c d s).sent
@[simp] theorem raiseFrom_freeCount (x : BitVec 8) (c : Code) (d : Bytes) (s : State) : (raiseFrom x c d s).freeCount = s.freeCount := (raiseFrom_only x c d s).freeCount
@[simp] theorem raiseFrom_serial (x : BitVec 8) (c : Code) (d : Bytes) (s : State) : (raiseFrom x c d s).serial = s.serial := (raiseFrom_only x c d s).serial
@[simp] theorem raiseFrom_issue (x : BitVec 8) (c : Code) (d : Bytes) (s : State) : (raiseFrom x c d s).issue = s.issue := (raiseFrom_only x c d s).issue

@[simp] theorem raise_pending (c : Code) (d : Bytes) (s : State) : (raise c d s).pending = s.pending := (raise_only c d s).pending
@[simp] theorem raise_time (c : Code) (d : Bytes) (s : State) : (raise c d s).time = s.time := (raise_only c d s).time
@[simp] theorem raise_ctl (c : Code) (d : Bytes) (s : State) : (raise c d s).ctl = s.ctl := (raise_only c d s).ctl
@[simp] theorem raise_lanA (c : Code) (d : Bytes) (s : State) : (raise c d s).lanA = s.lanA := (raise_only c d s).lanA
@[simp] theorem raise_lanB (c : Code) (d : Bytes) (s : State) : (raise c d s).lanB = s.lanB := (raise_only c d s).lanB
@[simp] theorem raise_lanC (c : Code) (d : Bytes) (s : State) : (raise c d s).lanC = s.lanC := (raise_only c d s).lanC
@[simp] theorem raise_rek (c : Code) (d : Bytes) (s : State) : (raise c d s).rek = s.rek := (raise_only c d s).rek
@[simp] theorem raise_cis (c : Code) (d : Bytes) (s : State) : (raise c d s).cis = s.cis := (raise_only c d s).cis
@[simp] theorem raise_fab (c : Code) (d : Bytes) (s : State) : (raise c d s).fab = s.fab := (raise_only c d s).fab
@[simp] theorem raise_fio (c : Code) (d : Bytes) (s : State) : (raise c d s).fio = s.fio := (raise_only c d s).fio
@[simp] theorem raise_sw (c : Code) (d : Bytes) (s : State) : (raise c d s).sw = s.sw := (raise_only c d s).sw
@[simp] theorem raise_tel (c : Code) (d : Bytes) (s : State) : (raise c d s).tel = s.tel := (raise_only c d s).tel
@[simp] theorem raise_bri (c : Code) (d : Bytes) (s : State) : (raise c d s).bri = s.bri := (raise_only c d s).bri
@[simp] theorem raise_pair (c : Code) (d : Bytes) (s : State) : (raise c d s).pair = s.pair := (raise_only c d s).pair
@[simp] theorem raise_od (c : Code) (d : Bytes) (s : State) : (raise c d s).od = s.od := (raise_only c d s).od
@[simp] theorem raise_upd (c : Code) (d : Bytes) (s : State) : (raise c d s).upd = s.upd := (raise_only c d s).upd
@[simp] theorem raise_sent (c : Code) (d : Bytes) (s : State) : (raise c d s).sent = s.sent := (raise_only c d s).sent
@[simp] theorem raise_freeCount (c : Code) (d : Bytes) (s : State) : (raise c d s).freeCount = s.freeCount := (raise_only c d s).freeCount
@[simp] theorem raise_serial (c : Code) (d : Bytes) (s : State) : (raise c d s).serial = s.serial := (raise_only c d s).serial
@[simp] theorem raise_issue (c : Code) (d : Bytes) (s : State) : (raise c d s).issue = s.issue := (raise_only c d s).issue

@[simp] theorem raiseLane_pending (ln : Lane) (c : Code) (d : Bytes) (s : State) : (raiseLane ln c d s).pending = s.pending := (raiseLane_only ln c d s).pending
@[simp] theorem raiseLane_time (ln : Lane) (c : Code) (d : Bytes) (s : State) : (raiseLane ln c d s).time = s.time := (raiseLane_only ln c d s).time
@[simp] theorem raiseLane_ctl (ln : Lane) (c : Code) (d : Bytes) (s : State) : (raiseLane ln c d s).ctl = s.ctl := (raiseLane_only ln c d s).ctl
@[simp] theorem raiseLane_lanA (ln : Lane) (c : Code) (d : Bytes) (s : State) : (raiseLane ln c d s).lanA = s.lanA := (raiseLane_only ln c d s).lanA
@[simp] theorem raiseLane_lanB (ln : Lane) (c : Code) (d : Bytes) (s : State) : (raiseLane ln c d s).lanB = s.lanB := (raiseLane_only ln c d s).lanB
@[simp] theorem raiseLane_lanC (ln : Lane) (c : Code) (d : Bytes) (s : State) : (raiseLane ln c d s).lanC = s.lanC := (raiseLane_only ln c d s).lanC
@[simp] theorem raiseLane_rek (ln : Lane) (c : Code) (d : Bytes) (s : State) : (raiseLane ln c d s).rek = s.rek := (raiseLane_only ln c d s).rek
@[simp] theorem raiseLane_cis (ln : Lane) (c : Code) (d : Bytes) (s : State) : (raiseLane ln c d s).cis = s.cis := (raiseLane_only ln c d s).cis
@[simp] theorem raiseLane_fab (ln : Lane) (c : Code) (d : Bytes) (s : State) : (raiseLane ln c d s).fab = s.fab := (raiseLane_only ln c d s).fab
@[simp] theorem raiseLane_fio (ln : Lane) (c : Code) (d : Bytes) (s : State) : (raiseLane ln c d s).fio = s.fio := (raiseLane_only ln c d s).fio
@[simp] theorem raiseLane_sw (ln : Lane) (c : Code) (d : Bytes) (s : State) : (raiseLane ln c d s).sw = s.sw := (raiseLane_only ln c d s).sw
@[simp] theorem raiseLane_tel (ln : Lane) (c : Code) (d : Bytes) (s : State) : (raiseLane ln c d s).tel = s.tel := (raiseLane_only ln c d s).tel
@[simp] theorem raiseLane_bri (ln : Lane) (c : Code) (d : Bytes) (s : State) : (raiseLane ln c d s).bri = s.bri := (raiseLane_only ln c d s).bri
@[simp] theorem raiseLane_pair (ln : Lane) (c : Code) (d : Bytes) (s : State) : (raiseLane ln c d s).pair = s.pair := (raiseLane_only ln c d s).pair
@[simp] theorem raiseLane_od (ln : Lane) (c : Code) (d : Bytes) (s : State) : (raiseLane ln c d s).od = s.od := (raiseLane_only ln c d s).od
@[simp] theorem raiseLane_upd (ln : Lane) (c : Code) (d : Bytes) (s : State) : (raiseLane ln c d s).upd = s.upd := (raiseLane_only ln c d s).upd
@[simp] theorem raiseLane_sent (ln : Lane) (c : Code) (d : Bytes) (s : State) : (raiseLane ln c d s).sent = s.sent := (raiseLane_only ln c d s).sent
@[simp] theorem raiseLane_freeCount (ln : Lane) (c : Code) (d : Bytes) (s : State) : (raiseLane ln c d s).freeCount = s.freeCount := (raiseLane_only ln c d s).freeCount
@[simp] theorem raiseLane_serial (ln : Lane) (c : Code) (d : Bytes) (s : State) : (raiseLane ln c d s).serial = s.serial := (raiseLane_only ln c d s).serial
@[simp] theorem raiseLane_issue (ln : Lane) (c : Code) (d : Bytes) (s : State) : (raiseLane ln c d s).issue = s.issue := (raiseLane_only ln c d s).issue

@[simp] theorem raiseFab_pending (c : Code) (d : Bytes) (s : State) : (raiseFab c d s).pending = s.pending := (raiseFab_only c d s).pending
@[simp] theorem raiseFab_time (c : Code) (d : Bytes) (s : State) : (raiseFab c d s).time = s.time := (raiseFab_only c d s).time
@[simp] theorem raiseFab_ctl (c : Code) (d : Bytes) (s : State) : (raiseFab c d s).ctl = s.ctl := (raiseFab_only c d s).ctl
@[simp] theorem raiseFab_lanA (c : Code) (d : Bytes) (s : State) : (raiseFab c d s).lanA = s.lanA := (raiseFab_only c d s).lanA
@[simp] theorem raiseFab_lanB (c : Code) (d : Bytes) (s : State) : (raiseFab c d s).lanB = s.lanB := (raiseFab_only c d s).lanB
@[simp] theorem raiseFab_lanC (c : Code) (d : Bytes) (s : State) : (raiseFab c d s).lanC = s.lanC := (raiseFab_only c d s).lanC
@[simp] theorem raiseFab_rek (c : Code) (d : Bytes) (s : State) : (raiseFab c d s).rek = s.rek := (raiseFab_only c d s).rek
@[simp] theorem raiseFab_cis (c : Code) (d : Bytes) (s : State) : (raiseFab c d s).cis = s.cis := (raiseFab_only c d s).cis
@[simp] theorem raiseFab_fab (c : Code) (d : Bytes) (s : State) : (raiseFab c d s).fab = s.fab := (raiseFab_only c d s).fab
@[simp] theorem raiseFab_fio (c : Code) (d : Bytes) (s : State) : (raiseFab c d s).fio = s.fio := (raiseFab_only c d s).fio
@[simp] theorem raiseFab_sw (c : Code) (d : Bytes) (s : State) : (raiseFab c d s).sw = s.sw := (raiseFab_only c d s).sw
@[simp] theorem raiseFab_tel (c : Code) (d : Bytes) (s : State) : (raiseFab c d s).tel = s.tel := (raiseFab_only c d s).tel
@[simp] theorem raiseFab_bri (c : Code) (d : Bytes) (s : State) : (raiseFab c d s).bri = s.bri := (raiseFab_only c d s).bri
@[simp] theorem raiseFab_pair (c : Code) (d : Bytes) (s : State) : (raiseFab c d s).pair = s.pair := (raiseFab_only c d s).pair
@[simp] theorem raiseFab_od (c : Code) (d : Bytes) (s : State) : (raiseFab c d s).od = s.od := (raiseFab_only c d s).od
@[simp] theorem raiseFab_upd (c : Code) (d : Bytes) (s : State) : (raiseFab c d s).upd = s.upd := (raiseFab_only c d s).upd
@[simp] theorem raiseFab_sent (c : Code) (d : Bytes) (s : State) : (raiseFab c d s).sent = s.sent := (raiseFab_only c d s).sent
@[simp] theorem raiseFab_freeCount (c : Code) (d : Bytes) (s : State) : (raiseFab c d s).freeCount = s.freeCount := (raiseFab_only c d s).freeCount
@[simp] theorem raiseFab_serial (c : Code) (d : Bytes) (s : State) : (raiseFab c d s).serial = s.serial := (raiseFab_only c d s).serial
@[simp] theorem raiseFab_issue (c : Code) (d : Bytes) (s : State) : (raiseFab c d s).issue = s.issue := (raiseFab_only c d s).issue

@[simp] theorem raiseIf_pending (b : Bool) (c : Code) (d : Bytes) (s : State) : (raiseIf b c d s).pending = s.pending := (raiseIf_only b c d s).pending
@[simp] theorem raiseIf_time (b : Bool) (c : Code) (d : Bytes) (s : State) : (raiseIf b c d s).time = s.time := (raiseIf_only b c d s).time
@[simp] theorem raiseIf_ctl (b : Bool) (c : Code) (d : Bytes) (s : State) : (raiseIf b c d s).ctl = s.ctl := (raiseIf_only b c d s).ctl
@[simp] theorem raiseIf_lanA (b : Bool) (c : Code) (d : Bytes) (s : State) : (raiseIf b c d s).lanA = s.lanA := (raiseIf_only b c d s).lanA
@[simp] theorem raiseIf_lanB (b : Bool) (c : Code) (d : Bytes) (s : State) : (raiseIf b c d s).lanB = s.lanB := (raiseIf_only b c d s).lanB
@[simp] theorem raiseIf_lanC (b : Bool) (c : Code) (d : Bytes) (s : State) : (raiseIf b c d s).lanC = s.lanC := (raiseIf_only b c d s).lanC
@[simp] theorem raiseIf_rek (b : Bool) (c : Code) (d : Bytes) (s : State) : (raiseIf b c d s).rek = s.rek := (raiseIf_only b c d s).rek
@[simp] theorem raiseIf_cis (b : Bool) (c : Code) (d : Bytes) (s : State) : (raiseIf b c d s).cis = s.cis := (raiseIf_only b c d s).cis
@[simp] theorem raiseIf_fab (b : Bool) (c : Code) (d : Bytes) (s : State) : (raiseIf b c d s).fab = s.fab := (raiseIf_only b c d s).fab
@[simp] theorem raiseIf_fio (b : Bool) (c : Code) (d : Bytes) (s : State) : (raiseIf b c d s).fio = s.fio := (raiseIf_only b c d s).fio
@[simp] theorem raiseIf_sw (b : Bool) (c : Code) (d : Bytes) (s : State) : (raiseIf b c d s).sw = s.sw := (raiseIf_only b c d s).sw
@[simp] theorem raiseIf_tel (b : Bool) (c : Code) (d : Bytes) (s : State) : (raiseIf b c d s).tel = s.tel := (raiseIf_only b c d s).tel
@[simp] theorem raiseIf_bri (b : Bool) (c : Code) (d : Bytes) (s : State) : (raiseIf b c d s).bri = s.bri := (raiseIf_only b c d s).bri
@[simp] theorem raiseIf_pair (b : Bool) (c : Code) (d : Bytes) (s : State) : (raiseIf b c d s).pair = s.pair := (raiseIf_only b c d s).pair
@[simp] theorem raiseIf_od (b : Bool) (c : Code) (d : Bytes) (s : State) : (raiseIf b c d s).od = s.od := (raiseIf_only b c d s).od
@[simp] theorem raiseIf_upd (b : Bool) (c : Code) (d : Bytes) (s : State) : (raiseIf b c d s).upd = s.upd := (raiseIf_only b c d s).upd
@[simp] theorem raiseIf_sent (b : Bool) (c : Code) (d : Bytes) (s : State) : (raiseIf b c d s).sent = s.sent := (raiseIf_only b c d s).sent
@[simp] theorem raiseIf_freeCount (b : Bool) (c : Code) (d : Bytes) (s : State) : (raiseIf b c d s).freeCount = s.freeCount := (raiseIf_only b c d s).freeCount
@[simp] theorem raiseIf_serial (b : Bool) (c : Code) (d : Bytes) (s : State) : (raiseIf b c d s).serial = s.serial := (raiseIf_only b c d s).serial
@[simp] theorem raiseIf_issue (b : Bool) (c : Code) (d : Bytes) (s : State) : (raiseIf b c d s).issue = s.issue := (raiseIf_only b c d s).issue

@[simp] theorem raiseOncePerSec_pending (n : Nat) (x : BitVec 8) (c : Code) (d : Bytes) (s : State) : (raiseOncePerSec n x c d s).pending = s.pending := (raiseOncePerSec_only n x c d s).pending
@[simp] theorem raiseOncePerSec_time (n : Nat) (x : BitVec 8) (c : Code) (d : Bytes) (s : State) : (raiseOncePerSec n x c d s).time = s.time := (raiseOncePerSec_only n x c d s).time
@[simp] theorem raiseOncePerSec_ctl (n : Nat) (x : BitVec 8) (c : Code) (d : Bytes) (s : State) : (raiseOncePerSec n x c d s).ctl = s.ctl := (raiseOncePerSec_only n x c d s).ctl
@[simp] theorem raiseOncePerSec_lanA (n : Nat) (x : BitVec 8) (c : Code) (d : Bytes) (s : State) : (raiseOncePerSec n x c d s).lanA = s.lanA := (raiseOncePerSec_only n x c d s).lanA
@[simp] theorem raiseOncePerSec_lanB (n : Nat) (x : BitVec 8) (c : Code) (d : Bytes) (s : State) : (raiseOncePerSec n x c d s).lanB = s.lanB := (raiseOncePerSec_only n x c d s).lanB
@[simp] theorem raiseOncePerSec_lanC (n : Nat) (x : BitVec 8) (c : Code) (d : Bytes) (s : State) : (raiseOncePerSec n x c d s).lanC = s.lanC := (raiseOncePerSec_only n x c d s).lanC
@[simp] theorem raiseOncePerSec_rek (n : Nat) (x : BitVec 8) (c : Code) (d : Bytes) (s : State) : (raiseOncePerSec n x c d s).rek = s.rek := (raiseOncePerSec_only n x c d s).rek
@[simp] theorem raiseOncePerSec_cis (n : Nat) (x : BitVec 8) (c : Code) (d : Bytes) (s : State) : (raiseOncePerSec n x c d s).cis = s.cis := (raiseOncePerSec_only n x c d s).cis
@[simp] theorem raiseOncePerSec_fab (n : Nat) (x : BitVec 8) (c : Code) (d : Bytes) (s : State) : (raiseOncePerSec n x c d s).fab = s.fab := (raiseOncePerSec_only n x c d s).fab
@[simp] theorem raiseOncePerSec_fio (n : Nat) (x : BitVec 8) (c : Code) (d : Bytes) (s : State) : (raiseOncePerSec n x c d s).fio = s.fio := (raiseOncePerSec_only n x c d s).fio
@[simp] theorem raiseOncePerSec_sw (n : Nat) (x : BitVec 8) (c : Code) (d : Bytes) (s : State) : (raiseOncePerSec n x c d s).sw = s.sw := (raiseOncePerSec_only n x c d s).sw
@[simp] theorem raiseOncePerSec_tel (n : Nat) (x : BitVec 8) (c : Code) (d : Bytes) (s : State) : (raiseOncePerSec n x c d s).tel = s.tel := (raiseOncePerSec_only n x c d s).tel
@[simp] theorem raiseOncePerSec_bri (n : Nat) (x : BitVec 8) (c : Code) (d : Bytes) (s : State) : (raiseOncePerSec n x c d s).bri = s.bri := (raiseOncePerSec_only n x c d s).bri
@[simp] theorem raiseOncePerSec_pair (n : Nat) (x : BitVec 8) (c : Code) (d : Bytes) (s : State) : (raiseOncePerSec n x c d s).pair = s.pair := (raiseOncePerSec_only n x c d s).pair
@[simp] theorem raiseOncePerSec_od (n : Nat) (x : BitVec 8) (c : Code) (d : Bytes) (s : State) : (raiseOncePerSec n x c d s).od = s.od := (raiseOncePerSec_only n x c d s).od
@[simp] theorem raiseOncePerSec_upd (n : Nat) (x : BitVec 8) (c : Code) (d : Bytes) (s : State) : (raiseOncePerSec n x c d s).upd = s.upd := (raiseOncePerSec_only n x c d s).upd
@[simp] theorem raiseOncePerSec_sent (n : Nat) (x : BitVec 8) (c : Code) (d : Bytes) (s : State) : (raiseOncePerSec n x c d s).sent = s.sent := (raiseOncePerSec_only n x c d s).sent
@[simp] theorem raiseOncePerSec_freeCount (n : Nat) (x : BitVec 8) (c : Code) (d : Bytes) (s : State) : (raiseOncePerSec n x c d s).freeCount = s.freeCount := (raiseOncePerSec_only n x c d s).freeCount
@[simp] theorem raiseOncePerSec_serial (n : Nat) (x : BitVec 8) (c : Code) (d : Bytes) (s : State) : (raiseOncePerSec n x c d s).serial = s.serial := (raiseOncePerSec_only n x c d s).serial
@[simp] theorem raiseOncePerSec_issue (n : Nat) (x : BitVec 8) (c : Code) (d : Bytes) (s : State) : (raiseOncePerSec n x c d s).issue = s.issue := (raiseOncePerSec_only n x c d s).issue

@[simp] theorem measure_pending (c : Nat) (i : BitVec 8) (v : BitVec 32) (s : State) : (measure c i v s).pending = s.pending := (measure_only c i v s).pending
@[simp] theorem measure_time (c : Nat) (i : BitVec 8) (v : BitVec 32) (s : State) : (measure c i v s).time = s.time := (measure_only c i v s).time
@[simp] theorem measure_ctl (c : Nat) (i : BitVec 8) (v : BitVec 32) (s : State) : (measure c i v s).ctl = s.ctl := (measure_only c i v s).ctl
@[simp] theorem measure_lanA (c : Nat) (i : BitVec 8) (v : BitVec 32) (s : State) : (measure c i v s).lanA = s.lanA := (measure_only c i v s).lanA
@[simp] theorem measure_lanB (c : Nat) (i : BitVec 8) (v : BitVec 32) (s : State) : (measure c i v s).lanB = s.lanB := (measure_only c i v s).lanB
@[simp] theorem measure_lanC (c : Nat) (i : BitVec 8) (v : BitVec 32) (s : State) : (measure c i v s).lanC = s.lanC := (measure_only c i v s).lanC
@[simp] theorem measure_rek (c : Nat) (i : BitVec 8) (v : BitVec 32) (s : State) : (measure c i v s).rek = s.rek := (measure_only c i v s).rek
@[simp] theorem measure_cis (c : Nat) (i : BitVec 8) (v : BitVec 32) (s : State) : (measure c i v s).cis = s.cis := (measure_only c i v s).cis
@[simp] theorem measure_fab (c : Nat) (i : BitVec 8) (v : BitVec 32) (s : State) : (measure c i v s).fab = s.fab := (measure_only c i v s).fab
@[simp] theorem measure_fio (c : Nat) (i : BitVec 8) (v : BitVec 32) (s : State) : (measure c i v s).fio = s.fio := (measure_only c i v s).fio
@[simp] theorem measure_sw (c : Nat) (i : BitVec 8) (v : BitVec 32) (s : State) : (measure c i v s).sw = s.sw := (measure_only c i v s).sw
@[simp] theorem measure_tel (c : Nat) (i : BitVec 8) (v : BitVec 32) (s : State) : (measure c i v s).tel = s.tel := (measure_only c i v s).tel
@[simp] theorem measure_bri (c : Nat) (i : BitVec 8) (v : BitVec 32) (s : State) : (measure c i v s).bri = s.bri := (measure_only c i v s).bri
@[simp] theorem measure_pair (c : Nat) (i : BitVec 8) (v : BitVec 32) (s : State) : (measure c i v s).pair = s.pair := (measure_only c i v s).pair
@[simp] theorem measure_od (c : Nat) (i : BitVec 8) (v : BitVec 32) (s : State) : (measure c i v s).od = s.od := (measure_only c i v s).od
@[simp] theorem measure_upd (c : Nat) (i : BitVec 8) (v : BitVec 32) (s : State) : (measure c i v s).upd = s.upd := (measure_only c i v s).upd
@[simp] theorem measure_sent (c : Nat) (i : BitVec 8) (v : BitVec 32) (s : State) : (measure c i v s).sent = s.sent := (measure_only c i v s).sent
@[simp] theorem measure_freeCount (c : Nat) (i : BitVec 8) (v : BitVec 32) (s : State) : (measure c i v s).freeCount = s.freeCount := (measure_only c i v s).freeCount
@[simp] theorem measure_serial (c : Nat) (i : BitVec 8) (v : BitVec 32) (s : State) : (measure c i v s).serial = s.serial := (measure_only c i v s).serial
@[simp] theorem measure_issue (c : Nat) (i : BitVec 8) (v : BitVec 32) (s : State) : (measure c i v s).issue = s.issue := (measure_only c i v s).issue

end Sys2Proof.Machine
end

