-- ==== Sys2Proof/Laws/OnlyA.lean ====
section
/-! SUPPORT. The parts of a state that each operation touches (Laws/Frames.lean): the shared operations, events, the XPC set. -/

set_option Elab.async false

set_option linter.all false

namespace Sys2Proof.Machine

theorem only_State_setLane {m0 : List Part} {z0 : State} (hm : sub [.lanes] m0 = true)
    (s : State) (a1) (a2) (h : Only m0 z0 s) : Only m0 z0 (State.setLane s a1 a2) := by
  unfold State.setLane
  repeat' first
    | with_reducible assumption | (simp only [↓Only_mk]; with_reducible refine Mk_of hm rfl ?_ ?_)
    | ((with_reducible refine Upd_rfl ?_); rfl) | split

theorem only_State_modLane {m0 : List Part} {z0 : State} (hm : sub [.lanes] m0 = true)
    (s : State) (a1) (a2) (h : Only m0 z0 s) : Only m0 z0 (State.modLane s a1 a2) := by
  unfold State.modLane
  repeat' first
    | with_reducible assumption | exact sub_trans (by decide) hm | with_reducible apply only_State_setLane

theorem only_State_modLanes {m0 : List Part} {z0 : State} (hm : sub [.lanes] m0 = true)
    (s : State) (a1) (h : Only m0 z0 s) : Only m0 z0 (State.modLanes s a1) := by
  unfold State.modLanes
  repeat' first
    | with_reducible assumption | (simp only [↓Only_mk]; with_reducible refine Mk_of hm rfl ?_ ?_)
    | ((with_reducible refine Upd_rfl ?_); rfl)

theorem only_State_setCore {m0 : List Part} {z0 : State} (hm : sub [.lanes] m0 = true)
    (s : State) (a1) (a2) (a3) (h : Only m0 z0 s) : Only m0 z0 (State.setCore s a1 a2 a3) := by
  unfold State.setCore
  repeat' first
    | with_reducible assumption | exact sub_trans (by decide) hm | with_reducible apply only_State_setLane

theorem only_State_modGroup {m0 : List Part} {z0 : State} (hm : sub [.fio] m0 = true)
    (s : State) (a1) (a2) (h : Only m0 z0 s) : Only m0 z0 (State.modGroup s a1 a2) := by
  unfold State.modGroup
  repeat' first
    | with_reducible assumption | (simp only [↓Only_mk]; with_reducible refine Mk_of hm rfl ?_ ?_)
    | ((with_reducible refine Upd_rfl ?_); rfl)

theorem only_State_modChan {m0 : List Part} {z0 : State} (hm : sub [.fio] m0 = true)
    (s : State) (a1) (a2) (h : Only m0 z0 s) : Only m0 z0 (State.modChan s a1 a2) := by
  unfold State.modChan
  repeat' first
    | with_reducible assumption | exact sub_trans (by decide) hm | with_reducible apply only_State_modGroup

theorem only_State_atTime {m0 : List Part} {z0 : State} (hm : sub [.now] m0 = true)
    (s : State) (a1) (h : Only m0 z0 s) : Only m0 z0 (State.atTime s a1) := by
  unfold State.atTime
  repeat' first
    | with_reducible assumption | (simp only [↓Only_mk]; with_reducible refine Mk_of hm rfl ?_ ?_)
    | ((with_reducible refine Upd_rfl ?_); rfl)

theorem only_State_tick {m0 : List Part} {z0 : State} (hm : sub [.free] m0 = true)
    (s : State) (h : Only m0 z0 s) : Only m0 z0 (State.tick s) := by
  unfold State.tick
  repeat' first
    | with_reducible assumption | (simp only [↓Only_mk]; with_reducible refine Mk_of hm rfl ?_ ?_)
    | ((with_reducible refine Upd_rfl ?_); rfl)

theorem only_State_emit {m0 : List Part} {z0 : State} (hm : sub [.sent] m0 = true)
    (s : State) (a1) (h : Only m0 z0 s) : Only m0 z0 (State.emit s a1) := by
  unfold State.emit
  repeat' first
    | with_reducible assumption | (simp only [↓Only_mk]; with_reducible refine Mk_of hm rfl ?_ ?_)
    | ((with_reducible refine Upd_rfl ?_); rfl)

theorem only_State_emitAll {m0 : List Part} {z0 : State} (hm : sub [.sent] m0 = true)
    (s : State) (a1) (h : Only m0 z0 s) : Only m0 z0 (State.emitAll s a1) := by
  unfold State.emitAll
  repeat' first
    | with_reducible assumption | (simp only [↓Only_mk]; with_reducible refine Mk_of hm rfl ?_ ?_)
    | ((with_reducible refine Upd_rfl ?_); rfl)

theorem only_record {m0 : List Part} {z0 : State} (hm : sub [.records] m0 = true)
    (a0) (a1) (s : State) (h : Only m0 z0 s) : Only m0 z0 (record a0 a1 s) := by
  refine Only_upd hm h ?_
  rw [show record a0 a1 s = _ from record_only a0 a1 s]
  exact Upd_of rfl rfl rfl (by intro p; cases p <;> first | exact .inl rfl | exact .inr rfl | exact .inr ⟨rfl, rfl, rfl⟩)

theorem only_recordSuppressed {m0 : List Part} {z0 : State} (hm : sub [.records] m0 = true)
    (a0) (s : State) (h : Only m0 z0 s) : Only m0 z0 (recordSuppressed a0 s) := by
  refine Only_upd hm h ?_
  rw [show recordSuppressed a0 s = _ from recordSuppressed_only a0 s]
  exact Upd_of rfl rfl rfl (by intro p; cases p <;> first | exact .inl rfl | exact .inr rfl | exact .inr ⟨rfl, rfl, rfl⟩)

theorem only_raiseFrom {m0 : List Part} {z0 : State} (hm : sub [.records] m0 = true)
    (a0) (a1) (a2) (s : State) (h : Only m0 z0 s) : Only m0 z0 (raiseFrom a0 a1 a2 s) := by
  refine Only_upd hm h ?_
  rw [show raiseFrom a0 a1 a2 s = _ from raiseFrom_only a0 a1 a2 s]
  exact Upd_of rfl rfl rfl (by intro p; cases p <;> first | exact .inl rfl | exact .inr rfl | exact .inr ⟨rfl, rfl, rfl⟩)

theorem only_raise {m0 : List Part} {z0 : State} (hm : sub [.records] m0 = true)
    (a0) (a1) (s : State) (h : Only m0 z0 s) : Only m0 z0 (raise a0 a1 s) := by
  unfold raise
  repeat' first
    | with_reducible assumption | exact sub_trans (by decide) hm | with_reducible apply only_raiseFrom

theorem only_raiseLane {m0 : List Part} {z0 : State} (hm : sub [.records] m0 = true)
    (a0) (a1) (a2) (s : State) (h : Only m0 z0 s) : Only m0 z0 (raiseLane a0 a1 a2 s) := by
  unfold raiseLane
  repeat' first
    | with_reducible assumption | exact sub_trans (by decide) hm | with_reducible apply only_raiseFrom

theorem only_raiseFab {m0 : List Part} {z0 : State} (hm : sub [.records] m0 = true)
    (a0) (a1) (s : State) (h : Only m0 z0 s) : Only m0 z0 (raiseFab a0 a1 s) := by
  unfold raiseFab
  repeat' first
    | with_reducible assumption | exact sub_trans (by decide) hm | with_reducible apply only_raiseFrom

theorem only_raiseIf {m0 : List Part} {z0 : State} (hm : sub [.records] m0 = true)
    (a0) (a1) (a2) (s : State) (h : Only m0 z0 s) : Only m0 z0 (raiseIf a0 a1 a2 s) := by
  unfold raiseIf
  repeat' first
    | with_reducible assumption | exact sub_trans (by decide) hm | with_reducible apply only_raise
    | with_reducible refine Only_ite ?_ ?_ | intro _

theorem only_raiseOncePerSec {m0 : List Part} {z0 : State} (hm : sub [.records] m0 = true)
    (a0) (a1) (a2) (a3) (s : State) (h : Only m0 z0 s) : Only m0 z0 (raiseOncePerSec a0 a1 a2 a3 s) := by
  refine Only_upd hm h ?_
  rw [show raiseOncePerSec a0 a1 a2 a3 s = _ from raiseOncePerSec_only a0 a1 a2 a3 s]
  exact Upd_of rfl rfl rfl (by intro p; cases p <;> first | exact .inl rfl | exact .inr rfl | exact .inr ⟨rfl, rfl, rfl⟩)

theorem only_measure {m0 : List Part} {z0 : State} (hm : sub [.records] m0 = true)
    (a0) (a1) (a2) (s : State) (h : Only m0 z0 s) : Only m0 z0 (measure a0 a1 a2 s) := by
  refine Only_upd hm h ?_
  rw [show measure a0 a1 a2 s = _ from measure_only a0 a1 a2 s]
  exact Upd_of rfl rfl rfl (by intro p; cases p <;> first | exact .inl rfl | exact .inr rfl | exact .inr ⟨rfl, rfl, rfl⟩)

theorem only_State_odSet {m0 : List Part} {z0 : State} (hm : sub [.od] m0 = true)
    (s : State) (a1) (a2) (a3) (h : Only m0 z0 s) : Only m0 z0 (State.odSet s a1 a2 a3) := by
  unfold State.odSet
  repeat' first
    | with_reducible assumption | (simp only [↓Only_mk]; with_reducible refine Mk_of hm rfl ?_ ?_)
    | ((with_reducible refine Upd_rfl ?_); rfl)

theorem only_State_putRun {m0 : List Part} {z0 : State} (hm : sub [.lanes] m0 = true)
    (s : State) (a1) (a2) (a3) (h : Only m0 z0 s) : Only m0 z0 (State.putRun s a1 a2 a3) := by
  unfold State.putRun
  repeat' first
    | with_reducible assumption | exact sub_trans (by decide) hm | with_reducible apply only_State_setCore

theorem only_State_dropRun {m0 : List Part} {z0 : State} (hm : sub [.lanes] m0 = true)
    (s : State) (a1) (a2) (h : Only m0 z0 s) : Only m0 z0 (State.dropRun s a1 a2) := by
  unfold State.dropRun
  repeat' first
    | with_reducible assumption | exact sub_trans (by decide) hm | with_reducible apply only_State_setCore

theorem only_stopRun {m0 : List Part} {z0 : State} (hm : sub [.lanes, .rek] m0 = true)
    (a0) (a1) (a2) (a3) (a4) (s : State) (h : Only m0 z0 s) : Only m0 z0 (stopRun a0 a1 a2 a3 a4 s) := by
  unfold stopRun
  repeat' first
    | with_reducible assumption | exact sub_trans (by decide) hm | with_reducible apply only_State_dropRun
    | (simp only [↓Only_mk]; with_reducible refine Mk_of hm rfl ?_ ?_) | ((with_reducible refine Upd_rfl ?_); rfl)

theorem only_xpcSettle {m0 : List Part} {z0 : State} (hm : sub [.lanes, .rek] m0 = true)
    (ln c close td r res) (s : State) (h : Only m0 z0 s) (hf : ∀ a b s, Only m0 z0 s → Only m0 z0 (close a b s)) :
    Only m0 z0 (xpcSettle ln c close td r res s) := by
  unfold xpcSettle
  repeat' first
    | with_reducible assumption | exact sub_trans (by decide) hm | with_reducible apply hf
    | with_reducible apply only_State_putRun | with_reducible apply only_stopRun | split

theorem only_xpcCore {m0 : List Part} {z0 : State} (hm : sub [.lanes, .rek] m0 = true)
    (ln c w st close f) (s : State) (h : Only m0 z0 s) (hf : ∀ a b s, Only m0 z0 s → Only m0 z0 (close a b s)) :
    Only m0 z0 (xpcCore ln c w st close f s) := by
  unfold xpcCore
  repeat' first
    | with_reducible assumption | exact sub_trans (by decide) hm | with_reducible apply hf
    | with_reducible apply only_stopRun | with_reducible apply only_xpcSettle | intro _ | split

theorem only_replayWrite {m0 : List Part} {z0 : State} (hm : sub [.lanes, .rek] m0 = true)
    (a0) (a1) (a2) (s : State) (h : Only m0 z0 s) : Only m0 z0 (replayWrite a0 a1 a2 s) := by
  unfold replayWrite
  repeat' first
    | with_reducible assumption | exact sub_trans (by decide) hm | with_reducible apply only_xpcSettle | intro _ | split

theorem only_debugReplay {m0 : List Part} {z0 : State} (hm : sub [.ctl, .lanes, .rek] m0 = true)
    (a0) (a1) (s : State) (h : Only m0 z0 s) : Only m0 z0 (debugReplay a0 a1 s) := by
  unfold debugReplay
  repeat' first
    | with_reducible assumption | exact sub_trans (by decide) hm | with_reducible apply only_replayWrite
    | with_reducible apply only_foldl | intro _ | (simp only [↓Only_mk]; with_reducible refine Mk_of hm rfl ?_ ?_)
    | ((with_reducible refine Upd_rfl ?_); rfl) | split

theorem only_xpcRun {m0 : List Part} {z0 : State} (hm : sub [.ctl, .lanes, .rek] m0 = true)
    (ln c w st close f) (s : State) (h : Only m0 z0 s) (hf : ∀ a b s, Only m0 z0 s → Only m0 z0 (close a b s)) :
    Only m0 z0 (xpcRun ln c w st close f s) := by
  unfold xpcRun
  repeat' first
    | with_reducible assumption | exact sub_trans (by decide) hm | with_reducible apply hf
    | with_reducible apply only_debugReplay | with_reducible apply only_xpcCore | with_reducible refine Only_ite ?_ ?_
    | intro _

theorem only_closeRun {m0 : List Part} {z0 : State} (hm : sub [.lanes, .rek, .tel, .sent] m0 = true)
    (a0) (a1) (a2) (a3) (s : State) (h : Only m0 z0 s) : Only m0 z0 (closeRun a0 a1 a2 a3 s) := by
  unfold closeRun
  repeat' first
    | with_reducible assumption | exact sub_trans (by decide) hm | with_reducible apply only_State_dropRun
    | with_reducible apply only_State_modLane | with_reducible apply only_State_emit | with_reducible apply only_stopRun
    | intro _ | (simp only [↓Only_mk]; with_reducible refine Mk_of hm rfl ?_ ?_)
    | ((with_reducible refine Upd_rfl ?_); rfl) | split

theorem only_xpc {m0 : List Part} {z0 : State} (hm : sub [.ctl, .lanes, .rek, .tel, .sent] m0 = true)
    (a0) (a1) (a2) (a3) (a4) (s : State) (h : Only m0 z0 s) : Only m0 z0 (xpc a0 a1 a2 a3 a4 s) := by
  unfold xpc
  repeat' first
    | with_reducible assumption | exact sub_trans (by decide) hm | with_reducible apply only_xpcRun
    | with_reducible apply only_closeRun

theorem only_xpcD {m0 : List Part} {z0 : State} (hm : sub [.ctl, .lanes, .rek, .tel, .sent] m0 = true)
    (a0) (a1) (a2) (a3) (a4) (s : State) (h : Only m0 z0 s) : Only m0 z0 (xpcD a0 a1 a2 a3 a4 s) := by
  unfold xpcD
  repeat' first
    | with_reducible assumption | exact sub_trans (by decide) hm | with_reducible apply only_xpc

theorem only_execXMov {m0 : List Part} {z0 : State} (hm : sub [.ctl, .lanes, .rek, .tel, .sent] m0 = true)
    (a0) (a1) (a2) (a3) (a4) (s : State) (h : Only m0 z0 s) : OutOnly m0 z0 (execXMov a0 a1 a2 a3 a4 s) := by
  unfold execXMov
  repeat' first
    | with_reducible assumption | exact sub_trans (by decide) hm | with_reducible apply only_xpcD
    | with_reducible refine OutOnly_next.mpr ?_

theorem only_execXLdi {m0 : List Part} {z0 : State} (hm : sub [.ctl, .lanes, .rek, .tel, .sent] m0 = true)
    (a0) (a1) (a2) (a3) (a4) (s : State) (h : Only m0 z0 s) : OutOnly m0 z0 (execXLdi a0 a1 a2 a3 a4 s) := by
  unfold execXLdi
  repeat' first
    | with_reducible assumption | exact sub_trans (by decide) hm | with_reducible apply only_xpcD
    | with_reducible refine OutOnly_next.mpr ?_

theorem only_execXCvt {m0 : List Part} {z0 : State} (hm : sub [.ctl, .lanes, .rek, .tel, .sent] m0 = true)
    (a0) (a1) (a2) (a3) (a4) (a5) (s : State) (h : Only m0 z0 s) : OutOnly m0 z0 (execXCvt a0 a1 a2 a3 a4 a5 s) := by
  unfold execXCvt
  repeat' first
    | with_reducible assumption | exact sub_trans (by decide) hm | with_reducible apply only_xpcD
    | with_reducible refine OutOnly_next.mpr ?_

theorem only_execXSel {m0 : List Part} {z0 : State} (hm : sub [.ctl, .lanes, .rek, .tel, .sent] m0 = true)
    (a0) (a1) (a2) (a3) (a4) (a5) (s : State) (h : Only m0 z0 s) : OutOnly m0 z0 (execXSel a0 a1 a2 a3 a4 a5 s) := by
  unfold execXSel
  repeat' first
    | with_reducible assumption | exact sub_trans (by decide) hm | with_reducible apply only_xpcD
    | with_reducible refine OutOnly_next.mpr ?_

theorem only_execXLd {m0 : List Part} {z0 : State} (hm : sub [.ctl, .lanes, .rek, .tel, .sent] m0 = true)
    (a0) (a1) (a2) (a3) (a4) (a5) (a6) (a7) (s : State) (h :
    Only m0 z0 s) : OutOnly m0 z0 (execXLd a0 a1 a2 a3 a4 a5 a6 a7 s) := by
  unfold execXLd
  repeat' first
    | with_reducible assumption | exact sub_trans (by decide) hm | with_reducible apply only_xpc
    | with_reducible refine OutOnly_next.mpr ?_

theorem only_execXSt {m0 : List Part} {z0 : State} (hm : sub [.ctl, .lanes, .rek, .tel, .sent] m0 = true)
    (a0) (a1) (a2) (a3) (a4) (a5) (a6) (s : State) (h :
    Only m0 z0 s) : OutOnly m0 z0 (execXSt a0 a1 a2 a3 a4 a5 a6 s) := by
  unfold execXSt
  repeat' first
    | with_reducible assumption | exact sub_trans (by decide) hm | with_reducible apply only_xpc
    | with_reducible refine OutOnly_next.mpr ?_

theorem only_execXStl {m0 : List Part} {z0 : State} (hm : sub [.ctl, .lanes, .rek, .tel, .sent] m0 = true)
    (a0) (a1) (a2) (a3) (a4) (a5) (a6) (s : State) (h :
    Only m0 z0 s) : OutOnly m0 z0 (execXStl a0 a1 a2 a3 a4 a5 a6 s) := by
  unfold execXStl
  repeat' first
    | with_reducible assumption | exact sub_trans (by decide) hm | with_reducible apply only_xpc
    | with_reducible refine OutOnly_next.mpr ?_

theorem only_execXAdd {m0 : List Part} {z0 : State} (hm : sub [.ctl, .lanes, .rek, .tel, .sent] m0 = true)
    (a0) (a1) (a2) (a3) (a4) (a5) (s : State) (h : Only m0 z0 s) : OutOnly m0 z0 (execXAdd a0 a1 a2 a3 a4 a5 s) := by
  unfold execXAdd
  repeat' first
    | with_reducible assumption | exact sub_trans (by decide) hm | with_reducible apply only_xpcD
    | with_reducible refine OutOnly_next.mpr ?_

theorem only_execXSub {m0 : List Part} {z0 : State} (hm : sub [.ctl, .lanes, .rek, .tel, .sent] m0 = true)
    (a0) (a1) (a2) (a3) (a4) (a5) (s : State) (h : Only m0 z0 s) : OutOnly m0 z0 (execXSub a0 a1 a2 a3 a4 a5 s) := by
  unfold execXSub
  repeat' first
    | with_reducible assumption | exact sub_trans (by decide) hm | with_reducible apply only_xpcD
    | with_reducible refine OutOnly_next.mpr ?_

theorem only_execXMul {m0 : List Part} {z0 : State} (hm : sub [.ctl, .lanes, .rek, .tel, .sent] m0 = true)
    (a0) (a1) (a2) (a3) (a4) (a5) (s : State) (h : Only m0 z0 s) : OutOnly m0 z0 (execXMul a0 a1 a2 a3 a4 a5 s) := by
  unfold execXMul
  repeat' first
    | with_reducible assumption | exact sub_trans (by decide) hm | with_reducible apply only_xpcD
    | with_reducible refine OutOnly_next.mpr ?_

theorem only_execXDiv {m0 : List Part} {z0 : State} (hm : sub [.ctl, .lanes, .rek, .tel, .sent] m0 = true)
    (a0) (a1) (a2) (a3) (a4) (a5) (s : State) (h : Only m0 z0 s) : OutOnly m0 z0 (execXDiv a0 a1 a2 a3 a4 a5 s) := by
  unfold execXDiv
  repeat' first
    | with_reducible assumption | exact sub_trans (by decide) hm | with_reducible apply only_xpcD
    | with_reducible refine OutOnly_next.mpr ?_

theorem only_execXRem {m0 : List Part} {z0 : State} (hm : sub [.ctl, .lanes, .rek, .tel, .sent] m0 = true)
    (a0) (a1) (a2) (a3) (a4) (a5) (s : State) (h : Only m0 z0 s) : OutOnly m0 z0 (execXRem a0 a1 a2 a3 a4 a5 s) := by
  unfold execXRem
  repeat' first
    | with_reducible assumption | exact sub_trans (by decide) hm | with_reducible apply only_xpcD
    | with_reducible refine OutOnly_next.mpr ?_

theorem only_execXNeg {m0 : List Part} {z0 : State} (hm : sub [.ctl, .lanes, .rek, .tel, .sent] m0 = true)
    (a0) (a1) (a2) (a3) (a4) (s : State) (h : Only m0 z0 s) : OutOnly m0 z0 (execXNeg a0 a1 a2 a3 a4 s) := by
  unfold execXNeg
  repeat' first
    | with_reducible assumption | exact sub_trans (by decide) hm | with_reducible apply only_xpcD
    | with_reducible refine OutOnly_next.mpr ?_

theorem only_execXAbs {m0 : List Part} {z0 : State} (hm : sub [.ctl, .lanes, .rek, .tel, .sent] m0 = true)
    (a0) (a1) (a2) (a3) (a4) (s : State) (h : Only m0 z0 s) : OutOnly m0 z0 (execXAbs a0 a1 a2 a3 a4 s) := by
  unfold execXAbs
  repeat' first
    | with_reducible assumption | exact sub_trans (by decide) hm | with_reducible apply only_xpcD
    | with_reducible refine OutOnly_next.mpr ?_

theorem only_execXMin {m0 : List Part} {z0 : State} (hm : sub [.ctl, .lanes, .rek, .tel, .sent] m0 = true)
    (a0) (a1) (a2) (a3) (a4) (a5) (s : State) (h : Only m0 z0 s) : OutOnly m0 z0 (execXMin a0 a1 a2 a3 a4 a5 s) := by
  unfold execXMin
  repeat' first
    | with_reducible assumption | exact sub_trans (by decide) hm | with_reducible apply only_xpcD
    | with_reducible refine OutOnly_next.mpr ?_

theorem only_execXMax {m0 : List Part} {z0 : State} (hm : sub [.ctl, .lanes, .rek, .tel, .sent] m0 = true)
    (a0) (a1) (a2) (a3) (a4) (a5) (s : State) (h : Only m0 z0 s) : OutOnly m0 z0 (execXMax a0 a1 a2 a3 a4 a5 s) := by
  unfold execXMax
  repeat' first
    | with_reducible assumption | exact sub_trans (by decide) hm | with_reducible apply only_xpcD
    | with_reducible refine OutOnly_next.mpr ?_

theorem only_execXAdds {m0 : List Part} {z0 : State} (hm : sub [.ctl, .lanes, .rek, .tel, .sent] m0 = true)
    (a0) (a1) (a2) (a3) (a4) (a5) (s : State) (h : Only m0 z0 s) : OutOnly m0 z0 (execXAdds a0 a1 a2 a3 a4 a5 s) := by
  unfold execXAdds
  repeat' first
    | with_reducible assumption | exact sub_trans (by decide) hm | with_reducible apply only_xpcD
    | with_reducible refine OutOnly_next.mpr ?_

theorem only_execXSubs {m0 : List Part} {z0 : State} (hm : sub [.ctl, .lanes, .rek, .tel, .sent] m0 = true)
    (a0) (a1) (a2) (a3) (a4) (a5) (s : State) (h : Only m0 z0 s) : OutOnly m0 z0 (execXSubs a0 a1 a2 a3 a4 a5 s) := by
  unfold execXSubs
  repeat' first
    | with_reducible assumption | exact sub_trans (by decide) hm | with_reducible apply only_xpcD
    | with_reducible refine OutOnly_next.mpr ?_

theorem only_execXSqrt {m0 : List Part} {z0 : State} (hm : sub [.ctl, .lanes, .rek, .tel, .sent] m0 = true)
    (a0) (a1) (a2) (a3) (a4) (s : State) (h : Only m0 z0 s) : OutOnly m0 z0 (execXSqrt a0 a1 a2 a3 a4 s) := by
  unfold execXSqrt
  repeat' first
    | with_reducible assumption | exact sub_trans (by decide) hm | with_reducible apply only_xpcD
    | with_reducible refine OutOnly_next.mpr ?_

theorem only_execXAddi {m0 : List Part} {z0 : State} (hm : sub [.ctl, .lanes, .rek, .tel, .sent] m0 = true)
    (a0) (a1) (a2) (a3) (a4) (a5) (s : State) (h : Only m0 z0 s) : OutOnly m0 z0 (execXAddi a0 a1 a2 a3 a4 a5 s) := by
  unfold execXAddi
  repeat' first
    | with_reducible assumption | exact sub_trans (by decide) hm | with_reducible apply only_xpcD
    | with_reducible refine OutOnly_next.mpr ?_

theorem only_execXRint {m0 : List Part} {z0 : State} (hm : sub [.ctl, .lanes, .rek, .tel, .sent] m0 = true)
    (a0) (a1) (a2) (a3) (a4) (s : State) (h : Only m0 z0 s) : OutOnly m0 z0 (execXRint a0 a1 a2 a3 a4 s) := by
  unfold execXRint
  repeat' first
    | with_reducible assumption | exact sub_trans (by decide) hm | with_reducible apply only_xpcD
    | with_reducible refine OutOnly_next.mpr ?_

theorem only_execXLimit {m0 : List Part} {z0 : State} (hm : sub [.ctl, .lanes, .rek, .tel, .sent] m0 = true)
    (a0) (a1) (a2) (a3) (a4) (a5) (s : State) (h : Only m0 z0 s) : OutOnly m0 z0 (execXLimit a0 a1 a2 a3 a4 a5 s) := by
  unfold execXLimit
  repeat' first
    | with_reducible assumption | exact sub_trans (by decide) hm | with_reducible apply only_xpcD
    | with_reducible refine OutOnly_next.mpr ?_

theorem only_execXAnd {m0 : List Part} {z0 : State} (hm : sub [.ctl, .lanes, .rek, .tel, .sent] m0 = true)
    (a0) (a1) (a2) (a3) (a4) (a5) (s : State) (h : Only m0 z0 s) : OutOnly m0 z0 (execXAnd a0 a1 a2 a3 a4 a5 s) := by
  unfold execXAnd
  repeat' first
    | with_reducible assumption | exact sub_trans (by decide) hm | with_reducible apply only_xpcD
    | with_reducible refine OutOnly_next.mpr ?_

theorem only_execXOr {m0 : List Part} {z0 : State} (hm : sub [.ctl, .lanes, .rek, .tel, .sent] m0 = true)
    (a0) (a1) (a2) (a3) (a4) (a5) (s : State) (h : Only m0 z0 s) : OutOnly m0 z0 (execXOr a0 a1 a2 a3 a4 a5 s) := by
  unfold execXOr
  repeat' first
    | with_reducible assumption | exact sub_trans (by decide) hm | with_reducible apply only_xpcD
    | with_reducible refine OutOnly_next.mpr ?_

theorem only_execXXor {m0 : List Part} {z0 : State} (hm : sub [.ctl, .lanes, .rek, .tel, .sent] m0 = true)
    (a0) (a1) (a2) (a3) (a4) (a5) (s : State) (h : Only m0 z0 s) : OutOnly m0 z0 (execXXor a0 a1 a2 a3 a4 a5 s) := by
  unfold execXXor
  repeat' first
    | with_reducible assumption | exact sub_trans (by decide) hm | with_reducible apply only_xpcD
    | with_reducible refine OutOnly_next.mpr ?_

theorem only_execXNot {m0 : List Part} {z0 : State} (hm : sub [.ctl, .lanes, .rek, .tel, .sent] m0 = true)
    (a0) (a1) (a2) (a3) (a4) (s : State) (h : Only m0 z0 s) : OutOnly m0 z0 (execXNot a0 a1 a2 a3 a4 s) := by
  unfold execXNot
  repeat' first
    | with_reducible assumption | exact sub_trans (by decide) hm | with_reducible apply only_xpcD
    | with_reducible refine OutOnly_next.mpr ?_

theorem only_execXShl {m0 : List Part} {z0 : State} (hm : sub [.ctl, .lanes, .rek, .tel, .sent] m0 = true)
    (a0) (a1) (a2) (a3) (a4) (a5) (s : State) (h : Only m0 z0 s) : OutOnly m0 z0 (execXShl a0 a1 a2 a3 a4 a5 s) := by
  unfold execXShl
  repeat' first
    | with_reducible assumption | exact sub_trans (by decide) hm | with_reducible apply only_xpcD
    | with_reducible refine OutOnly_next.mpr ?_

theorem only_execXShr {m0 : List Part} {z0 : State} (hm : sub [.ctl, .lanes, .rek, .tel, .sent] m0 = true)
    (a0) (a1) (a2) (a3) (a4) (a5) (s : State) (h : Only m0 z0 s) : OutOnly m0 z0 (execXShr a0 a1 a2 a3 a4 a5 s) := by
  unfold execXShr
  repeat' first
    | with_reducible assumption | exact sub_trans (by decide) hm | with_reducible apply only_xpcD
    | with_reducible refine OutOnly_next.mpr ?_

theorem only_execXShli {m0 : List Part} {z0 : State} (hm : sub [.ctl, .lanes, .rek, .tel, .sent] m0 = true)
    (a0) (a1) (a2) (a3) (a4) (a5) (s : State) (h : Only m0 z0 s) : OutOnly m0 z0 (execXShli a0 a1 a2 a3 a4 a5 s) := by
  unfold execXShli
  repeat' first
    | with_reducible assumption | exact sub_trans (by decide) hm | with_reducible apply only_xpcD
    | with_reducible refine OutOnly_next.mpr ?_

theorem only_execXShri {m0 : List Part} {z0 : State} (hm : sub [.ctl, .lanes, .rek, .tel, .sent] m0 = true)
    (a0) (a1) (a2) (a3) (a4) (a5) (s : State) (h : Only m0 z0 s) : OutOnly m0 z0 (execXShri a0 a1 a2 a3 a4 a5 s) := by
  unfold execXShri
  repeat' first
    | with_reducible assumption | exact sub_trans (by decide) hm | with_reducible apply only_xpcD
    | with_reducible refine OutOnly_next.mpr ?_

theorem only_execXRol {m0 : List Part} {z0 : State} (hm : sub [.ctl, .lanes, .rek, .tel, .sent] m0 = true)
    (a0) (a1) (a2) (a3) (a4) (a5) (s : State) (h : Only m0 z0 s) : OutOnly m0 z0 (execXRol a0 a1 a2 a3 a4 a5 s) := by
  unfold execXRol
  repeat' first
    | with_reducible assumption | exact sub_trans (by decide) hm | with_reducible apply only_xpcD
    | with_reducible refine OutOnly_next.mpr ?_

theorem only_execXRor {m0 : List Part} {z0 : State} (hm : sub [.ctl, .lanes, .rek, .tel, .sent] m0 = true)
    (a0) (a1) (a2) (a3) (a4) (a5) (s : State) (h : Only m0 z0 s) : OutOnly m0 z0 (execXRor a0 a1 a2 a3 a4 a5 s) := by
  unfold execXRor
  repeat' first
    | with_reducible assumption | exact sub_trans (by decide) hm | with_reducible apply only_xpcD
    | with_reducible refine OutOnly_next.mpr ?_

theorem only_execXGetb {m0 : List Part} {z0 : State} (hm : sub [.ctl, .lanes, .rek, .tel, .sent] m0 = true)
    (a0) (a1) (a2) (a3) (a4) (a5) (s : State) (h : Only m0 z0 s) : OutOnly m0 z0 (execXGetb a0 a1 a2 a3 a4 a5 s) := by
  unfold execXGetb
  repeat' first
    | with_reducible assumption | exact sub_trans (by decide) hm | with_reducible apply only_xpcD
    | with_reducible refine OutOnly_next.mpr ?_

theorem only_execXSetb {m0 : List Part} {z0 : State} (hm : sub [.ctl, .lanes, .rek, .tel, .sent] m0 = true)
    (a0) (a1) (a2) (a3) (a4) (a5) (s : State) (h : Only m0 z0 s) : OutOnly m0 z0 (execXSetb a0 a1 a2 a3 a4 a5 s) := by
  unfold execXSetb
  repeat' first
    | with_reducible assumption | exact sub_trans (by decide) hm | with_reducible apply only_xpcD
    | with_reducible refine OutOnly_next.mpr ?_

theorem only_execXClrb {m0 : List Part} {z0 : State} (hm : sub [.ctl, .lanes, .rek, .tel, .sent] m0 = true)
    (a0) (a1) (a2) (a3) (a4) (a5) (s : State) (h : Only m0 z0 s) : OutOnly m0 z0 (execXClrb a0 a1 a2 a3 a4 a5 s) := by
  unfold execXClrb
  repeat' first
    | with_reducible assumption | exact sub_trans (by decide) hm | with_reducible apply only_xpcD
    | with_reducible refine OutOnly_next.mpr ?_

theorem only_execXEq {m0 : List Part} {z0 : State} (hm : sub [.ctl, .lanes, .rek, .tel, .sent] m0 = true)
    (a0) (a1) (a2) (a3) (a4) (a5) (s : State) (h : Only m0 z0 s) : OutOnly m0 z0 (execXEq a0 a1 a2 a3 a4 a5 s) := by
  unfold execXEq
  repeat' first
    | with_reducible assumption | exact sub_trans (by decide) hm | with_reducible apply only_xpcD
    | with_reducible refine OutOnly_next.mpr ?_

theorem only_execXNe {m0 : List Part} {z0 : State} (hm : sub [.ctl, .lanes, .rek, .tel, .sent] m0 = true)
    (a0) (a1) (a2) (a3) (a4) (a5) (s : State) (h : Only m0 z0 s) : OutOnly m0 z0 (execXNe a0 a1 a2 a3 a4 a5 s) := by
  unfold execXNe
  repeat' first
    | with_reducible assumption | exact sub_trans (by decide) hm | with_reducible apply only_xpcD
    | with_reducible refine OutOnly_next.mpr ?_

theorem only_execXLt {m0 : List Part} {z0 : State} (hm : sub [.ctl, .lanes, .rek, .tel, .sent] m0 = true)
    (a0) (a1) (a2) (a3) (a4) (a5) (s : State) (h : Only m0 z0 s) : OutOnly m0 z0 (execXLt a0 a1 a2 a3 a4 a5 s) := by
  unfold execXLt
  repeat' first
    | with_reducible assumption | exact sub_trans (by decide) hm | with_reducible apply only_xpcD
    | with_reducible refine OutOnly_next.mpr ?_

theorem only_execXLe {m0 : List Part} {z0 : State} (hm : sub [.ctl, .lanes, .rek, .tel, .sent] m0 = true)
    (a0) (a1) (a2) (a3) (a4) (a5) (s : State) (h : Only m0 z0 s) : OutOnly m0 z0 (execXLe a0 a1 a2 a3 a4 a5 s) := by
  unfold execXLe
  repeat' first
    | with_reducible assumption | exact sub_trans (by decide) hm | with_reducible apply only_xpcD
    | with_reducible refine OutOnly_next.mpr ?_

theorem only_execXGt {m0 : List Part} {z0 : State} (hm : sub [.ctl, .lanes, .rek, .tel, .sent] m0 = true)
    (a0) (a1) (a2) (a3) (a4) (a5) (s : State) (h : Only m0 z0 s) : OutOnly m0 z0 (execXGt a0 a1 a2 a3 a4 a5 s) := by
  unfold execXGt
  repeat' first
    | with_reducible assumption | exact sub_trans (by decide) hm | with_reducible apply only_xpcD
    | with_reducible refine OutOnly_next.mpr ?_

theorem only_execXGe {m0 : List Part} {z0 : State} (hm : sub [.ctl, .lanes, .rek, .tel, .sent] m0 = true)
    (a0) (a1) (a2) (a3) (a4) (a5) (s : State) (h : Only m0 z0 s) : OutOnly m0 z0 (execXGe a0 a1 a2 a3 a4 a5 s) := by
  unfold execXGe
  repeat' first
    | with_reducible assumption | exact sub_trans (by decide) hm | with_reducible apply only_xpcD
    | with_reducible refine OutOnly_next.mpr ?_

theorem only_execXIsnan {m0 : List Part} {z0 : State} (hm : sub [.ctl, .lanes, .rek, .tel, .sent] m0 = true)
    (a0) (a1) (a2) (a3) (a4) (s : State) (h : Only m0 z0 s) : OutOnly m0 z0 (execXIsnan a0 a1 a2 a3 a4 s) := by
  unfold execXIsnan
  repeat' first
    | with_reducible assumption | exact sub_trans (by decide) hm | with_reducible apply only_xpcD
    | with_reducible refine OutOnly_next.mpr ?_

theorem only_execXJmp {m0 : List Part} {z0 : State} (hm : sub [.ctl, .lanes, .rek, .tel, .sent] m0 = true)
    (a0) (a1) (a2) (s : State) (h : Only m0 z0 s) : OutOnly m0 z0 (execXJmp a0 a1 a2 s) := by
  unfold execXJmp
  repeat' first
    | with_reducible assumption | exact sub_trans (by decide) hm | with_reducible apply only_xpc
    | with_reducible refine OutOnly_next.mpr ?_

theorem only_execXBrt {m0 : List Part} {z0 : State} (hm : sub [.ctl, .lanes, .rek, .tel, .sent] m0 = true)
    (a0) (a1) (a2) (a3) (s : State) (h : Only m0 z0 s) : OutOnly m0 z0 (execXBrt a0 a1 a2 a3 s) := by
  unfold execXBrt
  repeat' first
    | with_reducible assumption | exact sub_trans (by decide) hm | with_reducible apply only_xpc
    | with_reducible refine OutOnly_next.mpr ?_

theorem only_execXBrf {m0 : List Part} {z0 : State} (hm : sub [.ctl, .lanes, .rek, .tel, .sent] m0 = true)
    (a0) (a1) (a2) (a3) (s : State) (h : Only m0 z0 s) : OutOnly m0 z0 (execXBrf a0 a1 a2 a3 s) := by
  unfold execXBrf
  repeat' first
    | with_reducible assumption | exact sub_trans (by decide) hm | with_reducible apply only_xpc
    | with_reducible refine OutOnly_next.mpr ?_

theorem only_execXLoop {m0 : List Part} {z0 : State} (hm : sub [.ctl, .lanes, .rek, .tel, .sent] m0 = true)
    (a0) (a1) (a2) (a3) (a4) (s : State) (h : Only m0 z0 s) : OutOnly m0 z0 (execXLoop a0 a1 a2 a3 a4 s) := by
  unfold execXLoop
  repeat' first
    | with_reducible assumption | exact sub_trans (by decide) hm | with_reducible apply only_xpc
    | with_reducible refine OutOnly_next.mpr ?_

theorem only_execLoopBound {m0 : List Part} {z0 : State} (hm : sub [.ctl, .lanes, .rek, .tel, .sent] m0 = true)
    (a0) (a1) (a2) (a3) (s : State) (h : Only m0 z0 s) : OutOnly m0 z0 (execLoopBound a0 a1 a2 a3 s) := by
  unfold execLoopBound
  repeat' first
    | with_reducible assumption | exact sub_trans (by decide) hm | with_reducible apply only_xpc
    | with_reducible refine OutOnly_next.mpr ?_ | intro _ | split

theorem only_execXCall {m0 : List Part} {z0 : State} (hm : sub [.ctl, .lanes, .rek, .tel, .sent] m0 = true)
    (a0) (a1) (a2) (s : State) (h : Only m0 z0 s) : OutOnly m0 z0 (execXCall a0 a1 a2 s) := by
  unfold execXCall
  repeat' first
    | with_reducible assumption | exact sub_trans (by decide) hm | with_reducible apply only_xpc
    | with_reducible refine OutOnly_next.mpr ?_ | intro _ | split

theorem only_execXRet {m0 : List Part} {z0 : State} (hm : sub [.ctl, .lanes, .rek, .tel, .sent] m0 = true)
    (a0) (a1) (s : State) (h : Only m0 z0 s) : OutOnly m0 z0 (execXRet a0 a1 s) := by
  unfold execXRet
  repeat' first
    | with_reducible assumption | exact sub_trans (by decide) hm | with_reducible apply only_xpc
    | with_reducible refine OutOnly_next.mpr ?_

theorem only_execXEnd {m0 : List Part} {z0 : State} (hm : sub [.ctl, .lanes, .rek, .tel, .sent] m0 = true)
    (a0) (a1) (s : State) (h : Only m0 z0 s) : OutOnly m0 z0 (execXEnd a0 a1 s) := by
  unfold execXEnd
  repeat' first
    | with_reducible assumption | exact sub_trans (by decide) hm | with_reducible apply only_xpc
    | with_reducible refine OutOnly_next.mpr ?_

theorem only_execXHalt {m0 : List Part} {z0 : State} (hm : sub [.ctl, .lanes, .rek, .tel, .sent] m0 = true)
    (a0) (a1) (a2) (s : State) (h : Only m0 z0 s) : OutOnly m0 z0 (execXHalt a0 a1 a2 s) := by
  unfold execXHalt
  repeat' first
    | with_reducible assumption | exact sub_trans (by decide) hm | with_reducible apply only_xpc
    | with_reducible refine OutOnly_next.mpr ?_

theorem only_execXNop {m0 : List Part} {z0 : State} (hm : sub [.ctl, .lanes, .rek, .tel, .sent] m0 = true)
    (a0) (a1) (s : State) (h : Only m0 z0 s) : OutOnly m0 z0 (execXNop a0 a1 s) := by
  unfold execXNop
  repeat' first
    | with_reducible assumption | exact sub_trans (by decide) hm | with_reducible apply only_xpc
    | with_reducible refine OutOnly_next.mpr ?_

theorem only_execXSteps {m0 : List Part} {z0 : State} (hm : sub [.ctl, .lanes, .rek, .tel, .sent] m0 = true)
    (a0) (a1) (a2) (s : State) (h : Only m0 z0 s) : OutOnly m0 z0 (execXSteps a0 a1 a2 s) := by
  unfold execXSteps
  repeat' first
    | with_reducible assumption | exact sub_trans (by decide) hm | with_reducible apply only_xpcD
    | with_reducible refine OutOnly_next.mpr ?_

theorem only_execXPeriod {m0 : List Part} {z0 : State} (hm : sub [.ctl, .lanes, .rek, .tel, .sent] m0 = true)
    (a0) (a1) (a2) (s : State) (h : Only m0 z0 s) : OutOnly m0 z0 (execXPeriod a0 a1 a2 s) := by
  unfold execXPeriod
  repeat' first
    | with_reducible assumption | exact sub_trans (by decide) hm | with_reducible apply only_xpc
    | with_reducible refine OutOnly_next.mpr ?_

theorem only_execStepBudget {m0 : List Part} {z0 : State} (hm : sub [.lanes, .rek] m0 = true)
    (a0) (a1) (a2) (s : State) (h : Only m0 z0 s) : OutOnly m0 z0 (execStepBudget a0 a1 a2 s) := by
  unfold execStepBudget
  repeat' first
    | with_reducible assumption | exact sub_trans (by decide) hm | with_reducible apply only_stopRun
    | with_reducible refine OutOnly_next.mpr ?_ | intro _ | split

theorem only_execXTon {m0 : List Part} {z0 : State} (hm : sub [.ctl, .lanes, .rek, .tel, .sent] m0 = true)
    (a0) (a1) (a2) (a3) (a4) (a5) (s : State) (h : Only m0 z0 s) : OutOnly m0 z0 (execXTon a0 a1 a2 a3 a4 a5 s) := by
  unfold execXTon
  repeat' first
    | with_reducible assumption | exact sub_trans (by decide) hm | with_reducible apply only_xpc
    | with_reducible refine OutOnly_next.mpr ?_

theorem only_execXTof {m0 : List Part} {z0 : State} (hm : sub [.ctl, .lanes, .rek, .tel, .sent] m0 = true)
    (a0) (a1) (a2) (a3) (a4) (a5) (s : State) (h : Only m0 z0 s) : OutOnly m0 z0 (execXTof a0 a1 a2 a3 a4 a5 s) := by
  unfold execXTof
  repeat' first
    | with_reducible assumption | exact sub_trans (by decide) hm | with_reducible apply only_xpc
    | with_reducible refine OutOnly_next.mpr ?_

theorem only_execXTp {m0 : List Part} {z0 : State} (hm : sub [.ctl, .lanes, .rek, .tel, .sent] m0 = true)
    (a0) (a1) (a2) (a3) (a4) (a5) (s : State) (h : Only m0 z0 s) : OutOnly m0 z0 (execXTp a0 a1 a2 a3 a4 a5 s) := by
  unfold execXTp
  repeat' first
    | with_reducible assumption | exact sub_trans (by decide) hm | with_reducible apply only_xpc
    | with_reducible refine OutOnly_next.mpr ?_

theorem only_execXCtu {m0 : List Part} {z0 : State} (hm : sub [.ctl, .lanes, .rek, .tel, .sent] m0 = true)
    (a0) (a1) (a2) (a3) (a4) (a5) (a6) (s : State) (h :
    Only m0 z0 s) : OutOnly m0 z0 (execXCtu a0 a1 a2 a3 a4 a5 a6 s) := by
  unfold execXCtu
  repeat' first
    | with_reducible assumption | exact sub_trans (by decide) hm | with_reducible apply only_xpc
    | with_reducible refine OutOnly_next.mpr ?_

theorem only_execXCtd {m0 : List Part} {z0 : State} (hm : sub [.ctl, .lanes, .rek, .tel, .sent] m0 = true)
    (a0) (a1) (a2) (a3) (a4) (a5) (a6) (s : State) (h :
    Only m0 z0 s) : OutOnly m0 z0 (execXCtd a0 a1 a2 a3 a4 a5 a6 s) := by
  unfold execXCtd
  repeat' first
    | with_reducible assumption | exact sub_trans (by decide) hm | with_reducible apply only_xpc
    | with_reducible refine OutOnly_next.mpr ?_

theorem only_execXCtud {m0 : List Part} {z0 : State} (hm : sub [.ctl, .lanes, .rek, .tel, .sent] m0 = true)
    (a0) (a1) (a2) (a3) (a4) (a5) (a6) (s : State) (h :
    Only m0 z0 s) : OutOnly m0 z0 (execXCtud a0 a1 a2 a3 a4 a5 a6 s) := by
  unfold execXCtud
  repeat' first
    | with_reducible assumption | exact sub_trans (by decide) hm | with_reducible apply only_xpc
    | with_reducible refine OutOnly_next.mpr ?_

theorem only_execXRTrig {m0 : List Part} {z0 : State} (hm : sub [.ctl, .lanes, .rek, .tel, .sent] m0 = true)
    (a0) (a1) (a2) (a3) (a4) (s : State) (h : Only m0 z0 s) : OutOnly m0 z0 (execXRTrig a0 a1 a2 a3 a4 s) := by
  unfold execXRTrig
  repeat' first
    | with_reducible assumption | exact sub_trans (by decide) hm | with_reducible apply only_xpc
    | with_reducible refine OutOnly_next.mpr ?_

theorem only_execXFTrig {m0 : List Part} {z0 : State} (hm : sub [.ctl, .lanes, .rek, .tel, .sent] m0 = true)
    (a0) (a1) (a2) (a3) (a4) (s : State) (h : Only m0 z0 s) : OutOnly m0 z0 (execXFTrig a0 a1 a2 a3 a4 s) := by
  unfold execXFTrig
  repeat' first
    | with_reducible assumption | exact sub_trans (by decide) hm | with_reducible apply only_xpc
    | with_reducible refine OutOnly_next.mpr ?_

end Sys2Proof.Machine
end

