-- ==== Sys2Proof/Laws/OnlyB.lean ====
section
/-! SUPPORT. The parts of a state that each operation touches (Laws/Frames.lean): the fabric, modes, telegrams. -/

set_option Elab.async false

set_option linter.all false

namespace Sys2Proof.Machine

theorem only_State_modInst {m0 : List Part} {z0 : State} (hm : sub [.fab] m0 = true)
    (s : State) (a1) (a2) (h : Only m0 z0 s) : Only m0 z0 (State.modInst s a1 a2) := by
  unfold State.modInst
  repeat' first
    | with_reducible assumption | (simp only [↓Only_mk]; with_reducible refine Mk_of hm rfl ?_ ?_)
    | ((with_reducible refine Upd_rfl ?_); rfl)

theorem only_enterTripped {m0 : List Part} {z0 : State} (hm : sub [.fab, .records] m0 = true)
    (a0) (a1) (a2) (s : State) (h : Only m0 z0 s) : Only m0 z0 (enterTripped a0 a1 a2 s) := by
  unfold enterTripped
  repeat' first
    | with_reducible assumption | exact sub_trans (by decide) hm | with_reducible apply only_raiseFab
    | with_reducible apply only_State_modInst

theorem only_enterReset {m0 : List Part} {z0 : State} (hm : sub [.fab, .records] m0 = true)
    (a0) (a1) (s : State) (h : Only m0 z0 s) : Only m0 z0 (enterReset a0 a1 s) := by
  unfold enterReset
  repeat' first
    | with_reducible assumption | exact sub_trans (by decide) hm | with_reducible apply only_raiseFab
    | with_reducible apply only_State_modInst

theorem only_enterRun {m0 : List Part} {z0 : State} (hm : sub [.fab, .records] m0 = true)
    (a0) (s : State) (h : Only m0 z0 s) : Only m0 z0 (enterRun a0 s) := by
  unfold enterRun
  repeat' first
    | with_reducible assumption | exact sub_trans (by decide) hm | with_reducible apply only_raiseFab
    | with_reducible apply only_State_modInst

theorem only_enterLocked {m0 : List Part} {z0 : State} (hm : sub [.fab, .records] m0 = true)
    (a0) (a1) (s : State) (h : Only m0 z0 s) : Only m0 z0 (enterLocked a0 a1 s) := by
  unfold enterLocked
  repeat' first
    | with_reducible assumption | exact sub_trans (by decide) hm | with_reducible apply only_raiseFab
    | with_reducible apply only_State_modInst | with_reducible refine Only_ite ?_ ?_ | intro _

theorem only_keepalives {m0 : List Part} {z0 : State} (hm : sub [.fab] m0 = true)
    (s : State) (h : Only m0 z0 s) : Only m0 z0 (keepalives s) := by
  unfold keepalives
  repeat' first
    | with_reducible assumption | (simp only [↓Only_mk]; with_reducible refine Mk_of hm rfl ?_ ?_)
    | ((with_reducible refine Upd_rfl ?_); rfl)

theorem only_driveGroup {m0 : List Part} {z0 : State} (hm : sub [.fab, .fio, .sent] m0 = true)
    (a0) (a1) (s : State) (h : Only m0 z0 s) : Only m0 z0 (driveGroup a0 a1 s) := by
  unfold driveGroup
  repeat' first
    | with_reducible assumption | exact sub_trans (by decide) hm | with_reducible apply only_State_modGroup
    | with_reducible apply only_State_emit | with_reducible refine Only_ite ?_ ?_ | intro _
    | (simp only [↓Only_mk]; with_reducible refine Mk_of hm rfl ?_ ?_) | ((with_reducible refine Upd_rfl ?_); rfl)

theorem only_refreshWith {m0 : List Part} {z0 : State} (hm : sub [.fab, .fio, .sent] m0 = true)
    (a0) (s : State) (h : Only m0 z0 s) : Only m0 z0 (refreshWith a0 s) := by
  unfold refreshWith
  repeat' first
    | with_reducible assumption | exact sub_trans (by decide) hm | with_reducible apply only_driveGroup
    | with_reducible apply only_keepalives | with_reducible apply only_foldl | intro _

theorem only_refresh {m0 : List Part} {z0 : State} (hm : sub [.fab, .fio, .sent] m0 = true)
    (s : State) (h : Only m0 z0 s) : Only m0 z0 (refresh s) := by
  unfold refresh
  repeat' first
    | with_reducible assumption | exact sub_trans (by decide) hm | with_reducible apply only_refreshWith

theorem only_poke {m0 : List Part} {z0 : State} (hm : sub [.bri] m0 = true)
    (a0) (a1) (s : State) (h : Only m0 z0 s) : Only m0 z0 (poke a0 a1 s) := by
  unfold poke
  repeat' first
    | with_reducible assumption | (simp only [↓Only_mk]; with_reducible refine Mk_of hm rfl ?_ ?_)
    | ((with_reducible refine Upd_rfl ?_); rfl)

theorem only_dropStaged {m0 : List Part} {z0 : State} (hm : sub [.fab, .records] m0 = true)
    (s : State) (h : Only m0 z0 s) : Only m0 z0 (dropStaged s) := by
  unfold dropStaged
  repeat' first
    | with_reducible assumption | exact sub_trans (by decide) hm | with_reducible apply only_raiseFab
    | with_reducible refine Only_ite ?_ ?_ | intro _ | (simp only [↓Only_mk]; with_reducible refine Mk_of hm rfl ?_ ?_)
    | ((with_reducible refine Upd_rfl ?_); rfl)

theorem only_endDebug {m0 : List Part} {z0 : State} (hm : sub [.ctl] m0 = true)
    (s : State) (h : Only m0 z0 s) : Only m0 z0 (endDebug s) := by
  unfold endDebug
  repeat' first
    | with_reducible assumption | (simp only [↓Only_mk]; with_reducible refine Mk_of hm rfl ?_ ?_)
    | ((with_reducible refine Upd_rfl ?_); rfl)

theorem only_enterMode {m0 : List Part} {z0 : State} (hm : sub [.mode, .ctl, .fab, .records] m0 = true)
    (a0) (a1) (s : State) (h : Only m0 z0 s) : Only m0 z0 (enterMode a0 a1 s) := by
  unfold enterMode
  repeat' first
    | with_reducible assumption | exact sub_trans (by decide) hm | with_reducible apply only_dropStaged
    | with_reducible apply only_endDebug | with_reducible apply only_raise | with_reducible refine Only_ite ?_ ?_
    | intro _ | (simp only [↓Only_mk]; with_reducible refine Mk_of hm rfl ?_ ?_)
    | ((with_reducible refine Upd_rfl ?_); rfl)

theorem only_setResult {m0 : List Part} {z0 : State} (hm : sub [.ctl] m0 = true)
    (a0) (s : State) (h : Only m0 z0 s) : Only m0 z0 (setResult a0 s) := by
  unfold setResult
  repeat' first
    | with_reducible assumption | (simp only [↓Only_mk]; with_reducible refine Mk_of hm rfl ?_ ?_)
    | ((with_reducible refine Upd_rfl ?_); rfl)

theorem only_sendRequest {m0 : List Part} {z0 : State} (hm : sub [.sent] m0 = true)
    (s : State) (h : Only m0 z0 s) : Only m0 z0 (sendRequest s) := by
  unfold sendRequest
  repeat' first
    | with_reducible assumption | exact sub_trans (by decide) hm | with_reducible apply only_State_emit

theorem only_sendStopNotice {m0 : List Part} {z0 : State} (hm : sub [.sent] m0 = true)
    (s : State) (h : Only m0 z0 s) : Only m0 z0 (sendStopNotice s) := by
  unfold sendStopNotice
  repeat' first
    | with_reducible assumption | exact sub_trans (by decide) hm | with_reducible apply only_State_emit

theorem only_snapshot {m0 : List Part} {z0 : State} (hm : sub [.cis] m0 = true)
    (s : State) (h : Only m0 z0 s) : Only m0 z0 (snapshot s) := by
  unfold snapshot
  refine Only_ite (fun _ => h) (fun _ => ?_)
  extract_lets _ _ _ _ c
  refine Only_upd hm h (Upd_of rfl rfl rfl ?_)
  intro p; cases p <;> first | exact .inl rfl | exact .inr rfl | exact .inr ⟨rfl, rfl⟩ | exact .inr ⟨rfl, rfl, rfl⟩ | (right; simp only [Part.same]; unfold c; split <;> rfl)

theorem only_sendDrive {m0 : List Part} {z0 : State} (hm : sub [.sent] m0 = true)
    (s : State) (h : Only m0 z0 s) : Only m0 z0 (sendDrive s) := by
  unfold sendDrive
  repeat' first
    | with_reducible assumption | exact sub_trans (by decide) hm | with_reducible apply only_State_emitAll

theorem only_setDrive {m0 : List Part} {z0 : State} (hm : sub [.pair, .sent] m0 = true)
    (a0) (s : State) (h : Only m0 z0 s) : Only m0 z0 (setDrive a0 s) := by
  unfold setDrive
  repeat' first
    | with_reducible assumption | exact sub_trans (by decide) hm | with_reducible apply only_sendDrive
    | (simp only [↓Only_mk]; with_reducible refine Mk_of hm rfl ?_ ?_) | ((with_reducible refine Upd_rfl ?_); rfl)

theorem only_setPair {m0 : List Part} {z0 : State} (hm : sub [.tel, .pair, .records] m0 = true)
    (a0) (a1) (s : State) (h : Only m0 z0 s) : Only m0 z0 (setPair a0 a1 s) := by
  unfold setPair
  repeat' first
    | with_reducible assumption | exact sub_trans (by decide) hm | with_reducible apply only_raise
    | with_reducible refine Only_ite ?_ ?_ | intro _ | (simp only [↓Only_mk]; with_reducible refine Mk_of hm rfl ?_ ?_)
    | ((with_reducible refine Upd_rfl ?_); rfl)

theorem only_sendReferee {m0 : List Part} {z0 : State} (hm : sub [.sent] m0 = true)
    (a0) (s : State) (h : Only m0 z0 s) : Only m0 z0 (sendReferee a0 s) := by
  unfold sendReferee
  repeat' first
    | with_reducible assumption | exact sub_trans (by decide) hm | with_reducible apply only_State_emit

theorem only_pairRelease {m0 : List Part} {z0 : State} (hm : sub [.pair, .sent] m0 = true)
    (s : State) (h : Only m0 z0 s) : Only m0 z0 (pairRelease s) := by
  unfold pairRelease
  repeat' first
    | with_reducible assumption | exact sub_trans (by decide) hm | with_reducible apply only_sendReferee
    | with_reducible refine Only_ite ?_ ?_ | intro _ | (simp only [↓Only_mk]; with_reducible refine Mk_of hm rfl ?_ ?_)
    | ((with_reducible refine Upd_rfl ?_); rfl)

theorem only_pairFaultStop {m0 : List Part} {z0 : State} (hm : sub [.tel, .pair, .records, .sent] m0 = true)
    (s : State) (h : Only m0 z0 s) : Only m0 z0 (pairFaultStop s) := by
  unfold pairFaultStop
  repeat' first
    | with_reducible assumption | exact sub_trans (by decide) hm | with_reducible apply only_setDrive
    | with_reducible apply only_setPair | with_reducible apply only_pairRelease | with_reducible refine Only_ite ?_ ?_
    | intro _ | (simp only [↓Only_mk]; with_reducible refine Mk_of hm rfl ?_ ?_)
    | ((with_reducible refine Upd_rfl ?_); rfl)

theorem only_dropAll {m0 : List Part} {z0 : State} (hm : sub [.lanes, .rek] m0 = true)
    (s : State) (h : Only m0 z0 s) : Only m0 z0 (dropAll s) := by
  unfold dropAll
  repeat' first
    | with_reducible assumption | exact sub_trans (by decide) hm | with_reducible apply only_State_modLanes
    | (simp only [↓Only_mk]; with_reducible refine Mk_of hm rfl ?_ ?_) | ((with_reducible refine Upd_rfl ?_); rfl)

theorem only_warmReset {m0 : List Part} {z0 : State} (hm : sub [.ctl, .lanes, .records] m0 = true)
    (s : State) (h : Only m0 z0 s) : Only m0 z0 (warmReset s) := by
  unfold warmReset
  repeat' first
    | with_reducible assumption | exact sub_trans (by decide) hm | with_reducible apply only_raise
    | with_reducible apply only_State_modLanes | (simp only [↓Only_mk]; with_reducible refine Mk_of hm rfl ?_ ?_)
    | ((with_reducible refine Upd_rfl ?_); rfl)

theorem only_faultStopWith {m0 : List Part} {z0 : State} (hm : sub [.mode, .ctl, .lanes, .rek, .cis, .fab, .tel, .pair, .records, .sent] m0 = true)
    (a0) (a1) (s : State) (h : Only m0 z0 s) : Only m0 z0 (faultStopWith a0 a1 s) := by
  unfold faultStopWith
  repeat' first
    | with_reducible assumption | exact sub_trans (by decide) hm | with_reducible apply only_setResult
    | with_reducible apply only_enterMode | with_reducible apply only_raise | with_reducible apply only_pairFaultStop
    | with_reducible apply only_sendStopNotice | with_reducible apply only_snapshot | with_reducible apply only_dropAll
    | with_reducible apply only_warmReset | with_reducible refine Only_ite ?_ ?_ | intro _
    | (simp only [↓Only_mk]; with_reducible refine Mk_of hm rfl ?_ ?_) | ((with_reducible refine Upd_rfl ?_); rfl)

theorem only_faultStop {m0 : List Part} {z0 : State} (hm : sub [.mode, .ctl, .lanes, .rek, .cis, .fab, .tel, .pair, .records, .sent] m0 = true)
    (a0) (s : State) (h : Only m0 z0 s) : Only m0 z0 (faultStop a0 s) := by
  unfold faultStop
  repeat' first
    | with_reducible assumption | exact sub_trans (by decide) hm | with_reducible apply only_faultStopWith

theorem only_lockout {m0 : List Part} {z0 : State} (hm : sub [.mode, .ctl, .lanes, .rek, .cis, .fab, .fio, .tel, .pair, .records, .sent] m0 = true)
    (a0) (s : State) (h : Only m0 z0 s) : Only m0 z0 (lockout a0 s) := by
  unfold lockout
  repeat' first
    | with_reducible assumption | exact sub_trans (by decide) hm | with_reducible apply only_refresh
    | with_reducible apply only_faultStop | with_reducible apply only_raiseFab | with_reducible refine Only_ite ?_ ?_
    | intro _ | (simp only [↓Only_mk]; with_reducible refine Mk_of hm rfl ?_ ?_)
    | ((with_reducible refine Upd_rfl ?_); rfl)

theorem only_exclude {m0 : List Part} {z0 : State} (hm : sub [.lanes, .rek, .records] m0 = true)
    (a0) (a1) (s : State) (h : Only m0 z0 s) : Only m0 z0 (exclude a0 a1 s) := by
  unfold exclude
  repeat' first
    | with_reducible assumption | exact sub_trans (by decide) hm | with_reducible apply only_State_modLane
    | with_reducible apply only_raiseLane | (simp only [↓Only_mk]; with_reducible refine Mk_of hm rfl ?_ ?_)
    | ((with_reducible refine Upd_rfl ?_); rfl)

theorem only_laneToOut {m0 : List Part} {z0 : State} (hm : sub [.lanes, .records] m0 = true)
    (a0) (a1) (s : State) (h : Only m0 z0 s) : Only m0 z0 (laneToOut a0 a1 s) := by
  unfold laneToOut
  repeat' first
    | with_reducible assumption | exact sub_trans (by decide) hm | with_reducible apply only_raiseLane
    | with_reducible apply only_State_modLane

theorem only_lanesCheck {m0 : List Part} {z0 : State} (hm : sub [.mode, .ctl, .lanes, .rek, .cis, .fab, .tel, .pair, .records, .sent] m0 = true)
    (s : State) (h : Only m0 z0 s) : Only m0 z0 (lanesCheck s) := by
  unfold lanesCheck
  repeat' first
    | with_reducible assumption | exact sub_trans (by decide) hm | with_reducible apply only_faultStop
    | with_reducible apply only_raise | with_reducible refine Only_ite ?_ ?_ | intro _

theorem only_reportCause {m0 : List Part} {z0 : State} (hm : sub [.lanes] m0 = true)
    (a0) (a1) (s : State) (h : Only m0 z0 s) : Only m0 z0 (reportCause a0 a1 s) := by
  unfold reportCause
  repeat' first
    | with_reducible assumption | exact sub_trans (by decide) hm | with_reducible apply only_State_modLane

theorem only_sealEvent {m0 : List Part} {z0 : State} (hm : sub [.tel, .records] m0 = true)
    (a0) (a1) (a2) (s : State) (h : Only m0 z0 s) : Only m0 z0 (sealEvent a0 a1 a2 s) := by
  unfold sealEvent
  repeat' first
    | with_reducible assumption | exact sub_trans (by decide) hm | with_reducible apply only_raise
    | (simp only [↓Only_mk]; with_reducible refine Mk_of hm rfl ?_ ?_) | ((with_reducible refine Upd_rfl ?_); rfl)
    | split

theorem only_countCheck {m0 : List Part} {z0 : State} (hm : sub [.tel] m0 = true)
    (s : State) (h : Only m0 z0 s) : Only m0 z0 (countCheck s) := by
  unfold countCheck
  repeat' first
    | with_reducible assumption | (simp only [↓Only_mk]; with_reducible refine Mk_of hm rfl ?_ ?_)
    | ((with_reducible refine Upd_rfl ?_); rfl)

theorem only_fillRecord {m0 : List Part} {z0 : State} (hm : sub [.tel, .records] m0 = true)
    (n ev put r x) (acc : State × Bytes) (h : Only m0 z0 acc.1) (hf : ∀ a b s, Only m0 z0 s → Only m0 z0 (put a b s)) :
    Only m0 z0 (fillRecord n ev put r x acc).1 := by
  unfold fillRecord
  repeat' first
    | with_reducible assumption | exact sub_trans (by decide) hm | with_reducible apply hf
    | with_reducible apply only_raise | with_reducible apply only_sealEvent | with_reducible apply only_countCheck
    | with_reducible refine Only_ite ?_ ?_ | intro _ | (simp only [↓Only_mk]; with_reducible refine Mk_of hm rfl ?_ ?_)
    | ((with_reducible refine Upd_rfl ?_); rfl)

theorem only_putSub {m0 : List Part} {z0 : State} (hm : sub [.tel] m0 = true)
    (a0) (a1) (s : State) (h : Only m0 z0 s) : Only m0 z0 (putSub a0 a1 s) := by
  unfold putSub
  repeat' first
    | with_reducible assumption | (simp only [↓Only_mk]; with_reducible refine Mk_of hm rfl ?_ ?_)
    | ((with_reducible refine Upd_rfl ?_); rfl)

theorem only_putSink {m0 : List Part} {z0 : State} (hm : sub [.tel] m0 = true)
    (a0) (a1) (s : State) (h : Only m0 z0 s) : Only m0 z0 (putSink a0 a1 s) := by
  unfold putSink
  repeat' first
    | with_reducible assumption | (simp only [↓Only_mk]; with_reducible refine Mk_of hm rfl ?_ ?_)
    | ((with_reducible refine Upd_rfl ?_); rfl)

theorem only_putPdo {m0 : List Part} {z0 : State} (hm : sub [.tel] m0 = true)
    (a0) (a1) (s : State) (h : Only m0 z0 s) : Only m0 z0 (putPdo a0 a1 s) := by
  unfold putPdo
  repeat' first
    | with_reducible assumption | (simp only [↓Only_mk]; with_reducible refine Mk_of hm rfl ?_ ?_)
    | ((with_reducible refine Upd_rfl ?_); rfl)

theorem only_fillBus {m0 : List Part} {z0 : State} (hm : sub [.tel, .records] m0 = true)
    (n) (s : State) (b) (h : Only m0 z0 s) : Only m0 z0 (fillBus n s b).1 := by
  unfold fillBus
  repeat' first
    | with_reducible assumption | exact sub_trans (by decide) hm | with_reducible apply only_fillRecord
    | with_reducible apply only_putSub | with_reducible apply only_putSink | with_reducible apply only_putPdo
    | with_reducible apply only_foldl_fst | with_reducible apply only_foldl | intro _

theorem only_laneCheck {m0 : List Part} {z0 : State} (hm : sub [.tel, .records] m0 = true)
    (a b) (acc : State × Bytes) (r) (h : Only m0 z0 acc.1) : Only m0 z0 (laneCheck a b acc r).1 := by
  unfold laneCheck
  repeat' first
    | with_reducible assumption | exact sub_trans (by decide) hm | with_reducible apply only_sealEvent
    | with_reducible apply only_countCheck

theorem only_laneComplete {m0 : List Part} {z0 : State} (hm : sub [.tel, .records] m0 = true)
    (a0) (a1) (a2) (s : State) (h : Only m0 z0 s) : Only m0 z0 (laneComplete a0 a1 a2 s).1 := by
  unfold laneComplete
  repeat' first
    | with_reducible assumption | exact sub_trans (by decide) hm | with_reducible apply only_laneCheck
    | with_reducible refine Only_fst_ite ?_ ?_ | with_reducible apply only_foldl_fst | with_reducible apply only_foldl
    | intro _

theorem only_busBoundary {m0 : List Part} {z0 : State} (hm : sub [.tel] m0 = true)
    (a0) (s : State) (h : Only m0 z0 s) : Only m0 z0 (busBoundary a0 s) := by
  unfold busBoundary
  repeat' first
    | with_reducible assumption | (simp only [↓Only_mk]; with_reducible refine Mk_of hm rfl ?_ ?_)
    | ((with_reducible refine Upd_rfl ?_); rfl)

theorem only_stagePub {m0 : List Part} {z0 : State} (hm : sub [.tel] m0 = true)
    (a0) (s : State) (a2) (h : Only m0 z0 s) : Only m0 z0 (stagePub a0 s a2) := by
  unfold stagePub
  repeat' first
    | with_reducible assumption | with_reducible refine Only_ite ?_ ?_ | intro _
    | (simp only [↓Only_mk]; with_reducible refine Mk_of hm rfl ?_ ?_) | ((with_reducible refine Upd_rfl ?_); rfl)

theorem only_stageBuses {m0 : List Part} {z0 : State} (hm : sub [.tel] m0 = true)
    (a0) (s : State) (h : Only m0 z0 s) : Only m0 z0 (stageBuses a0 s) := by
  unfold stageBuses
  repeat' first
    | with_reducible assumption | exact sub_trans (by decide) hm | with_reducible apply only_stagePub
    | with_reducible apply only_putSink | with_reducible apply only_putPdo | with_reducible apply only_foldl | intro _

theorem only_State_modCan {m0 : List Part} {z0 : State} (hm : sub [.tel] m0 = true)
    (s : State) (a1) (a2) (h : Only m0 z0 s) : Only m0 z0 (State.modCan s a1 a2) := by
  unfold State.modCan
  repeat' first
    | with_reducible assumption | with_reducible refine Only_ite ?_ ?_ | intro _
    | (simp only [↓Only_mk]; with_reducible refine Mk_of hm rfl ?_ ?_) | ((with_reducible refine Upd_rfl ?_); rfl)

theorem only_setCan {m0 : List Part} {z0 : State} (hm : sub [.tel, .bri] m0 = true)
    (a0) (a1) (s : State) (h : Only m0 z0 s) : Only m0 z0 (setCan a0 a1 s) := by
  unfold setCan
  repeat' first
    | with_reducible assumption | exact sub_trans (by decide) hm | with_reducible apply only_poke
    | with_reducible apply only_State_modCan

theorem only_lineChanged {m0 : List Part} {z0 : State} (hm : sub [.bri] m0 = true)
    (old s : State) (h : Only m0 z0 s) : Only m0 z0 (lineChanged old s) := by
  unfold lineChanged
  repeat' first
    | with_reducible assumption | exact sub_trans (by decide) hm | with_reducible apply only_poke
    | with_reducible refine Only_ite ?_ ?_ | intro _

theorem only_flushTpdos {m0 : List Part} {z0 : State} (hm : sub [.tel, .sent] m0 = true)
    (a0) (a1) (s : State) (h : Only m0 z0 s) : Only m0 z0 (flushTpdos a0 a1 s) := by
  unfold flushTpdos
  repeat' first
    | with_reducible assumption | exact sub_trans (by decide) hm | with_reducible apply only_State_emitAll
    | with_reducible apply only_State_modCan

theorem only_canBoundary {m0 : List Part} {z0 : State} (hm : sub [.tel, .sent] m0 = true)
    (a0) (s : State) (a2) (h : Only m0 z0 s) : Only m0 z0 (canBoundary a0 s a2) := by
  unfold canBoundary
  repeat' first
    | with_reducible assumption | exact sub_trans (by decide) hm | with_reducible apply only_flushTpdos
    | with_reducible apply only_State_emit | with_reducible apply only_State_modCan
    | with_reducible refine Only_ite ?_ ?_ | intro _

theorem only_nmtStart {m0 : List Part} {z0 : State} (hm : sub [.tel, .sent] m0 = true)
    (s : State) (h : Only m0 z0 s) : Only m0 z0 (nmtStart s) := by
  unfold nmtStart
  repeat' first
    | with_reducible assumption | exact sub_trans (by decide) hm | with_reducible apply only_State_emit
    | with_reducible apply only_State_modCan | with_reducible refine Only_ite ?_ ?_ | with_reducible apply only_foldl
    | intro _

theorem only_canRestart {m0 : List Part} {z0 : State} (hm : sub [.tel, .bri] m0 = true)
    (s : State) (h : Only m0 z0 s) : Only m0 z0 (canRestart s) := by
  unfold canRestart
  repeat' first
    | with_reducible assumption | exact sub_trans (by decide) hm | with_reducible apply only_State_modCan
    | with_reducible apply only_setCan | with_reducible refine Only_ite ?_ ?_ | with_reducible apply only_foldl | intro _

theorem only_mvbLine {m0 : List Part} {z0 : State} (hm : sub [.tel, .bri, .records] m0 = true)
    (a0) (s : State) (h : Only m0 z0 s) : Only m0 z0 (mvbLine a0 s) := by
  unfold mvbLine
  repeat' first
    | with_reducible assumption | exact sub_trans (by decide) hm | with_reducible apply only_lineChanged
    | with_reducible apply only_raiseIf | (simp only [↓Only_mk]; with_reducible refine Mk_of hm rfl ?_ ?_)
    | ((with_reducible refine Upd_rfl ?_); rfl)

theorem only_mvbBoundary {m0 : List Part} {z0 : State} (hm : sub [.tel, .bri, .records, .sent] m0 = true)
    (a0) (s : State) (h : Only m0 z0 s) : Only m0 z0 (mvbBoundary a0 s) := by
  unfold mvbBoundary
  repeat' first
    | with_reducible assumption | exact sub_trans (by decide) hm | with_reducible apply only_mvbLine
    | with_reducible apply only_State_emitAll | with_reducible refine Only_ite ?_ ?_ | intro _
    | (simp only [↓Only_mk]; with_reducible refine Mk_of hm rfl ?_ ?_) | ((with_reducible refine Upd_rfl ?_); rfl)

theorem only_legacyBoundary {m0 : List Part} {z0 : State} (hm : sub [.tel, .bri, .records, .sent] m0 = true)
    (a0) (s : State) (h : Only m0 z0 s) : Only m0 z0 (legacyBoundary a0 s) := by
  unfold legacyBoundary
  repeat' first
    | with_reducible assumption | exact sub_trans (by decide) hm | with_reducible apply only_canBoundary
    | with_reducible apply only_mvbBoundary | with_reducible apply only_foldl

theorem only_pdError {m0 : List Part} {z0 : State} (hm : sub [.tel, .records] m0 = true)
    (a0) (a1) (s : State) (h : Only m0 z0 s) : Only m0 z0 (pdError a0 a1 s) := by
  unfold pdError
  repeat' first
    | with_reducible assumption | exact sub_trans (by decide) hm | with_reducible apply only_raise
    | (simp only [↓Only_mk]; with_reducible refine Mk_of hm rfl ?_ ?_) | ((with_reducible refine Upd_rfl ?_); rfl)

theorem only_pdAccept {m0 : List Part} {z0 : State} (hm : sub [.tel] m0 = true)
    (a0) (s : State) (a2) (h : Only m0 z0 s) : Only m0 z0 (pdAccept a0 s a2) := by
  unfold pdAccept
  repeat' first
    | with_reducible assumption | exact sub_trans (by decide) hm | with_reducible apply only_putSub
    | (simp only [↓Only_mk]; with_reducible refine Mk_of hm rfl ?_ ?_) | ((with_reducible refine Upd_rfl ?_); rfl)

theorem only_execPdReceived {m0 : List Part} {z0 : State} (hm : sub [.now, .tel, .records] m0 = true)
    (a0) (a1) (s : State) (h : Only m0 z0 s) : OutOnly m0 z0 (execPdReceived a0 a1 s) := by
  unfold execPdReceived
  repeat' first
    | with_reducible assumption | exact sub_trans (by decide) hm | with_reducible apply only_State_atTime
    | with_reducible apply only_pdError | with_reducible apply only_pdAccept | with_reducible apply only_foldl
    | with_reducible refine OutOnly_next.mpr ?_ | intro _ | split

theorem only_mdClose {m0 : List Part} {z0 : State} (hm : sub [.tel] m0 = true)
    (a0) (s : State) (h : Only m0 z0 s) : Only m0 z0 (mdClose a0 s) := by
  unfold mdClose
  repeat' first
    | with_reducible assumption | (simp only [↓Only_mk]; with_reducible refine Mk_of hm rfl ?_ ?_)
    | ((with_reducible refine Upd_rfl ?_); rfl)

theorem only_mdDeliver {m0 : List Part} {z0 : State} (hm : sub [.tel, .bri] m0 = true)
    (a0) (s : State) (h : Only m0 z0 s) : Only m0 z0 (mdDeliver a0 s) := by
  unfold mdDeliver
  repeat' first
    | with_reducible assumption | exact sub_trans (by decide) hm | with_reducible apply only_poke
    | (simp only [↓Only_mk]; with_reducible refine Mk_of hm rfl ?_ ?_) | ((with_reducible refine Upd_rfl ?_); rfl)
    | split

theorem only_execMdNotification {m0 : List Part} {z0 : State} (hm : sub [.now, .tel, .bri] m0 = true)
    (a0) (a1) (s : State) (h : Only m0 z0 s) : OutOnly m0 z0 (execMdNotification a0 a1 s) := by
  unfold execMdNotification
  repeat' first
    | with_reducible assumption | exact sub_trans (by decide) hm | with_reducible apply only_State_atTime
    | with_reducible apply only_mdDeliver | with_reducible refine Only_ite ?_ ?_
    | with_reducible refine OutOnly_next.mpr ?_ | intro _

theorem only_execMdRequest {m0 : List Part} {z0 : State} (hm : sub [.now, .tel, .bri, .records, .sent] m0 = true)
    (a0) (a1) (s : State) (h : Only m0 z0 s) : OutOnly m0 z0 (execMdRequest a0 a1 s) := by
  unfold execMdRequest
  repeat' first
    | with_reducible assumption | exact sub_trans (by decide) hm | with_reducible apply only_State_atTime
    | with_reducible apply only_raise | with_reducible apply only_State_emit | with_reducible apply only_mdDeliver
    | with_reducible refine Only_ite ?_ ?_ | with_reducible refine OutOnly_next.mpr ?_ | intro _
    | (simp only [↓Only_mk]; with_reducible refine Mk_of hm rfl ?_ ?_) | ((with_reducible refine Upd_rfl ?_); rfl)

theorem only_execMdReply {m0 : List Part} {z0 : State} (hm : sub [.now, .tel, .bri] m0 = true)
    (a0) (a1) (s : State) (h : Only m0 z0 s) : OutOnly m0 z0 (execMdReply a0 a1 s) := by
  unfold execMdReply
  repeat' first
    | with_reducible assumption | exact sub_trans (by decide) hm | with_reducible apply only_State_atTime
    | with_reducible apply only_mdDeliver | with_reducible apply only_mdClose | with_reducible refine Only_ite ?_ ?_
    | with_reducible refine OutOnly_next.mpr ?_ | intro _

theorem only_execMdReplyQuery {m0 : List Part} {z0 : State} (hm : sub [.now, .tel, .bri, .sent] m0 = true)
    (a0) (a1) (s : State) (h : Only m0 z0 s) : OutOnly m0 z0 (execMdReplyQuery a0 a1 s) := by
  unfold execMdReplyQuery
  repeat' first
    | with_reducible assumption | exact sub_trans (by decide) hm | with_reducible apply only_State_atTime
    | with_reducible apply only_State_emit | with_reducible apply only_mdDeliver | with_reducible apply only_mdClose
    | with_reducible refine Only_ite ?_ ?_ | with_reducible refine OutOnly_next.mpr ?_ | intro _

theorem only_execMdConfirm {m0 : List Part} {z0 : State} (hm : sub [.now, .tel, .bri] m0 = true)
    (a0) (a1) (s : State) (h : Only m0 z0 s) : OutOnly m0 z0 (execMdConfirm a0 a1 s) := by
  unfold execMdConfirm
  repeat' first
    | with_reducible assumption | exact sub_trans (by decide) hm | with_reducible apply only_State_atTime
    | with_reducible apply only_mdDeliver | with_reducible apply only_mdClose | with_reducible refine Only_ite ?_ ?_
    | with_reducible refine OutOnly_next.mpr ?_ | intro _

theorem only_execMdError {m0 : List Part} {z0 : State} (hm : sub [.now, .tel, .bri] m0 = true)
    (a0) (a1) (s : State) (h : Only m0 z0 s) : OutOnly m0 z0 (execMdError a0 a1 s) := by
  unfold execMdError
  repeat' first
    | with_reducible assumption | exact sub_trans (by decide) hm | with_reducible apply only_State_atTime
    | with_reducible apply only_mdDeliver | with_reducible apply only_mdClose | with_reducible refine Only_ite ?_ ?_
    | with_reducible refine OutOnly_next.mpr ?_ | intro _

theorem only_execMdTimeout {m0 : List Part} {z0 : State} (hm : sub [.now, .tel, .records] m0 = true)
    (a0) (a1) (s : State) (h : Only m0 z0 s) : OutOnly m0 z0 (execMdTimeout a0 a1 s) := by
  unfold execMdTimeout
  repeat' first
    | with_reducible assumption | exact sub_trans (by decide) hm | with_reducible apply only_State_atTime
    | with_reducible apply only_raise | with_reducible apply only_mdClose | with_reducible refine Only_ite ?_ ?_
    | with_reducible refine OutOnly_next.mpr ?_ | intro _ | split

theorem only_execMvbMasterFrame {m0 : List Part} {z0 : State} (hm : sub [.now, .sent] m0 = true)
    (a0) (a1) (a2) (s : State) (h : Only m0 z0 s) : OutOnly m0 z0 (execMvbMasterFrame a0 a1 a2 s) := by
  unfold execMvbMasterFrame
  repeat' first
    | with_reducible assumption | exact sub_trans (by decide) hm | with_reducible apply only_State_atTime
    | with_reducible apply only_State_emit | with_reducible refine OutOnly_next.mpr ?_ | intro _ | split

theorem only_mvbSeen {m0 : List Part} {z0 : State} (hm : sub [.tel] m0 = true)
    (a0) (s : State) (h : Only m0 z0 s) : Only m0 z0 (mvbSeen a0 s) := by
  unfold mvbSeen
  repeat' first
    | with_reducible assumption | (simp only [↓Only_mk]; with_reducible refine Mk_of hm rfl ?_ ?_)
    | ((with_reducible refine Upd_rfl ?_); rfl)

theorem only_execMvbSlaveFrame {m0 : List Part} {z0 : State} (hm : sub [.now, .tel, .bri] m0 = true)
    (a0) (a1) (a2) (a3) (s : State) (h : Only m0 z0 s) : OutOnly m0 z0 (execMvbSlaveFrame a0 a1 a2 a3 s) := by
  unfold execMvbSlaveFrame
  repeat' first
    | with_reducible assumption | exact sub_trans (by decide) hm | with_reducible apply only_State_atTime
    | with_reducible apply only_lineChanged | with_reducible apply only_mvbSeen | with_reducible apply only_putSink
    | with_reducible refine Only_ite ?_ ?_ | with_reducible apply only_foldl | with_reducible refine OutOnly_next.mpr ?_
    | with_reducible refine OutOnly_ite ?_ ?_ | intro _
    | (extract_lets +onlyGivenNames x; have hx : Only m0 z0 x := ?hx; case' hx => unfold x)
    | extract_lets +onlyGivenNames _ | (simp only [↓Only_mk]; with_reducible refine Mk_of hm rfl ?_ ?_)
    | ((with_reducible refine Upd_rfl ?_); rfl) | split | dsimp only

theorem only_execMvbDeviceStatus {m0 : List Part} {z0 : State} (hm : sub [.now, .sent, .free] m0 = true)
    (a0) (a1) (s : State) (h : Only m0 z0 s) : OutOnly m0 z0 (execMvbDeviceStatus a0 a1 s) := by
  unfold execMvbDeviceStatus
  repeat' first
    | with_reducible assumption | exact sub_trans (by decide) hm | with_reducible apply only_State_atTime
    | with_reducible apply only_State_tick | with_reducible apply only_State_emit | with_reducible refine Only_ite ?_ ?_
    | with_reducible refine OutOnly_next.mpr ?_ | intro _

theorem only_execMvbForeignMaster {m0 : List Part} {z0 : State} (hm : sub [.now, .tel, .records] m0 = true)
    (a0) (s : State) (h : Only m0 z0 s) : OutOnly m0 z0 (execMvbForeignMaster a0 s) := by
  unfold execMvbForeignMaster
  repeat' first
    | with_reducible assumption | exact sub_trans (by decide) hm | with_reducible apply only_State_atTime
    | with_reducible apply only_raise | with_reducible refine Only_ite ?_ ?_ | with_reducible refine OutOnly_next.mpr ?_
    | intro _ | (simp only [↓Only_mk]; with_reducible refine Mk_of hm rfl ?_ ?_)
    | ((with_reducible refine Upd_rfl ?_); rfl)

theorem only_execMvbLineFault {m0 : List Part} {z0 : State} (hm : sub [.now, .tel, .bri, .records] m0 = true)
    (a0) (a1) (s : State) (h : Only m0 z0 s) : OutOnly m0 z0 (execMvbLineFault a0 a1 s) := by
  unfold execMvbLineFault
  repeat' first
    | with_reducible assumption | exact sub_trans (by decide) hm | with_reducible apply only_State_atTime
    | with_reducible apply only_lineChanged | with_reducible apply only_raise | with_reducible refine Only_ite ?_ ?_
    | with_reducible refine OutOnly_next.mpr ?_ | intro _
    | (simp only [↓Only_mk]; with_reducible refine Mk_of hm rfl ?_ ?_) | ((with_reducible refine Upd_rfl ?_); rfl)

theorem only_execCanRpdo {m0 : List Part} {z0 : State} (hm : sub [.now, .tel] m0 = true)
    (a0) (a1) (a2) (s : State) (h : Only m0 z0 s) : OutOnly m0 z0 (execCanRpdo a0 a1 a2 s) := by
  unfold execCanRpdo
  repeat' first
    | with_reducible assumption | exact sub_trans (by decide) hm | with_reducible apply only_State_atTime
    | with_reducible apply only_putPdo | with_reducible refine OutOnly_next.mpr ?_ | intro _ | split

theorem only_execCanSyncReceived {m0 : List Part} {z0 : State} (hm : sub [.now, .records] m0 = true)
    (a0) (a1) (s : State) (h : Only m0 z0 s) : OutOnly m0 z0 (execCanSyncReceived a0 a1 s) := by
  unfold execCanSyncReceived
  repeat' first
    | with_reducible assumption | exact sub_trans (by decide) hm | with_reducible apply only_State_atTime
    | with_reducible apply only_raiseIf | with_reducible refine OutOnly_next.mpr ?_

theorem only_execCanHeartbeatSend {m0 : List Part} {z0 : State} (hm : sub [.now, .sent, .free] m0 = true)
    (a0) (a1) (s : State) (h : Only m0 z0 s) : OutOnly m0 z0 (execCanHeartbeatSend a0 a1 s) := by
  unfold execCanHeartbeatSend
  repeat' first
    | with_reducible assumption | exact sub_trans (by decide) hm | with_reducible apply only_State_atTime
    | with_reducible apply only_State_tick | with_reducible apply only_State_emit | with_reducible refine Only_ite ?_ ?_
    | with_reducible refine OutOnly_next.mpr ?_ | intro _

theorem only_putConsumer {m0 : List Part} {z0 : State} (hm : sub [.tel] m0 = true)
    (a0) (a1) (a2) (a3) (s : State) (h : Only m0 z0 s) : Only m0 z0 (putConsumer a0 a1 a2 a3 s) := by
  unfold putConsumer
  repeat' first
    | with_reducible assumption | exact sub_trans (by decide) hm | with_reducible apply only_State_modCan

theorem only_execCanHeartbeatLost {m0 : List Part} {z0 : State} (hm : sub [.now, .tel, .records] m0 = true)
    (a0) (a1) (a2) (s : State) (h : Only m0 z0 s) : OutOnly m0 z0 (execCanHeartbeatLost a0 a1 a2 s) := by
  unfold execCanHeartbeatLost
  repeat' first
    | with_reducible assumption | exact sub_trans (by decide) hm | with_reducible apply only_State_atTime
    | with_reducible apply only_raise | with_reducible apply only_putConsumer | with_reducible refine Only_ite ?_ ?_
    | with_reducible refine OutOnly_next.mpr ?_ | intro _ | split

theorem only_execConsumerHeartbeatReceived {m0 : List Part} {z0 : State} (hm : sub [.now, .tel] m0 = true)
    (a0) (a1) (a2) (s : State) (h : Only m0 z0 s) : OutOnly m0 z0 (execConsumerHeartbeatReceived a0 a1 a2 s) := by
  unfold execConsumerHeartbeatReceived
  repeat' first
    | with_reducible assumption | exact sub_trans (by decide) hm | with_reducible apply only_State_atTime
    | with_reducible apply only_putConsumer | with_reducible refine Only_ite ?_ ?_
    | with_reducible refine OutOnly_next.mpr ?_ | intro _

theorem only_execTpdoWithdraw {m0 : List Part} {z0 : State} (hm : sub [.now, .tel, .sent] m0 = true)
    (a0) (a1) (a2) (s : State) (h : Only m0 z0 s) : OutOnly m0 z0 (execTpdoWithdraw a0 a1 a2 s) := by
  unfold execTpdoWithdraw
  repeat' first
    | with_reducible assumption | exact sub_trans (by decide) hm | with_reducible apply only_State_atTime
    | with_reducible apply only_flushTpdos | with_reducible refine Only_ite ?_ ?_
    | with_reducible refine OutOnly_next.mpr ?_ | intro _

theorem only_execCanErrorPassive {m0 : List Part} {z0 : State} (hm : sub [.now, .tel, .bri, .records] m0 = true)
    (a0) (a1) (s : State) (h : Only m0 z0 s) : OutOnly m0 z0 (execCanErrorPassive a0 a1 s) := by
  unfold execCanErrorPassive
  repeat' first
    | with_reducible assumption | exact sub_trans (by decide) hm | with_reducible apply only_State_atTime
    | with_reducible apply only_raise | with_reducible apply only_setCan | with_reducible refine Only_ite ?_ ?_
    | with_reducible refine OutOnly_next.mpr ?_ | intro _

theorem only_execCanBusOff {m0 : List Part} {z0 : State} (hm : sub [.now, .tel, .bri, .records] m0 = true)
    (a0) (a1) (s : State) (h : Only m0 z0 s) : OutOnly m0 z0 (execCanBusOff a0 a1 s) := by
  unfold execCanBusOff
  repeat' first
    | with_reducible assumption | exact sub_trans (by decide) hm | with_reducible apply only_State_atTime
    | with_reducible apply only_raise | with_reducible apply only_State_modCan | with_reducible apply only_setCan
    | with_reducible apply only_raiseIf | with_reducible refine Only_ite ?_ ?_
    | with_reducible refine OutOnly_next.mpr ?_ | intro _

theorem only_execCanBusOffRecovery {m0 : List Part} {z0 : State} (hm : sub [.now, .tel, .bri] m0 = true)
    (a0) (a1) (s : State) (h : Only m0 z0 s) : OutOnly m0 z0 (execCanBusOffRecovery a0 a1 s) := by
  unfold execCanBusOffRecovery
  repeat' first
    | with_reducible assumption | exact sub_trans (by decide) hm | with_reducible apply only_State_atTime
    | with_reducible apply only_State_modCan | with_reducible apply only_setCan | with_reducible refine Only_ite ?_ ?_
    | with_reducible refine OutOnly_next.mpr ?_ | intro _

theorem only_fabricChanged {m0 : List Part} {z0 : State} (hm : sub [.fab, .fio, .pair, .sent] m0 = true)
    (s : State) (h : Only m0 z0 s) : Only m0 z0 (fabricChanged s) := by
  unfold fabricChanged
  repeat' first
    | with_reducible assumption | exact sub_trans (by decide) hm | with_reducible apply only_refresh
    | with_reducible apply only_pairRelease | with_reducible refine Only_ite ?_ ?_ | intro _

theorem only_checkDiscrepancy {m0 : List Part} {z0 : State} (hm : sub [.fab, .records] m0 = true)
    (a0) (s : State) (h : Only m0 z0 s) : Only m0 z0 (checkDiscrepancy a0 s) := by
  unfold checkDiscrepancy
  repeat' first
    | with_reducible assumption | exact sub_trans (by decide) hm | with_reducible apply only_enterLocked
    | with_reducible refine Only_ite ?_ ?_ | intro _ | split

theorem only_checkRestore {m0 : List Part} {z0 : State} (hm : sub [.fab, .records] m0 = true)
    (a0) (s : State) (h : Only m0 z0 s) : Only m0 z0 (checkRestore a0 s) := by
  unfold checkRestore
  repeat' first
    | with_reducible assumption | exact sub_trans (by decide) hm | with_reducible apply only_enterRun
    | with_reducible refine Only_ite ?_ ?_ | intro _ | split

theorem only_checkWarning {m0 : List Part} {z0 : State} (hm : sub [.fab, .records] m0 = true)
    (a0) (s : State) (h : Only m0 z0 s) : Only m0 z0 (checkWarning a0 s) := by
  unfold checkWarning
  repeat' first
    | with_reducible assumption | exact sub_trans (by decide) hm | with_reducible apply only_raiseFab
    | with_reducible apply only_State_modInst | with_reducible refine Only_ite ?_ ?_ | intro _ | split

theorem only_checkVigilance {m0 : List Part} {z0 : State} (hm : sub [.fab, .records] m0 = true)
    (a0) (s : State) (h : Only m0 z0 s) : Only m0 z0 (checkVigilance a0 s) := by
  unfold checkVigilance
  repeat' first
    | with_reducible assumption | exact sub_trans (by decide) hm | with_reducible apply only_enterTripped
    | with_reducible refine Only_ite ?_ ?_ | intro _ | split

theorem only_senseInst {m0 : List Part} {z0 : State} (hm : sub [.fab] m0 = true)
    (a0) (a1) (s : State) (h : Only m0 z0 s) : Only m0 z0 (senseInst a0 a1 s) := by
  unfold senseInst
  repeat' first
    | with_reducible assumption | exact sub_trans (by decide) hm | with_reducible apply only_State_modInst

theorem only_evalPair {m0 : List Part} {z0 : State} (hm : sub [.fab, .records] m0 = true)
    (a0) (a1) (s : State) (h : Only m0 z0 s) : Only m0 z0 (evalPair a0 a1 s) := by
  unfold evalPair
  repeat' first
    | with_reducible assumption | exact sub_trans (by decide) hm | with_reducible apply only_enterTripped
    | with_reducible apply only_enterRun | with_reducible refine Only_ite ?_ ?_ | intro _

theorem only_evalDsd {m0 : List Part} {z0 : State} (hm : sub [.fab, .records] m0 = true)
    (a0) (a1) (s : State) (h : Only m0 z0 s) : Only m0 z0 (evalDsd a0 a1 s) := by
  unfold evalDsd
  repeat' first
    | with_reducible assumption | exact sub_trans (by decide) hm | with_reducible apply only_State_modInst
    | with_reducible apply only_enterTripped | with_reducible apply only_enterRun | with_reducible refine Only_ite ?_ ?_
    | intro _

theorem only_evalInst {m0 : List Part} {z0 : State} (hm : sub [.fab, .records] m0 = true)
    (s : State) (a1) (h : Only m0 z0 s) : Only m0 z0 (evalInst s a1) := by
  unfold evalInst
  repeat' first
    | with_reducible assumption | exact sub_trans (by decide) hm | with_reducible apply only_senseInst
    | with_reducible apply only_checkRestore | with_reducible apply only_checkVigilance
    | with_reducible apply only_checkWarning | with_reducible apply only_checkDiscrepancy
    | with_reducible apply only_evalDsd | with_reducible apply only_evalPair | intro _ | split

theorem only_takeRequests {m0 : List Part} {z0 : State} (hm : sub [.fab] m0 = true)
    (s : State) (h : Only m0 z0 s) : Only m0 z0 (takeRequests s) := by
  unfold takeRequests
  repeat' first
    | with_reducible assumption | exact sub_trans (by decide) hm | with_reducible apply only_State_modInst
    | with_reducible apply only_foldl | intro _ | (simp only [↓Only_mk]; with_reducible refine Mk_of hm rfl ?_ ?_)
    | ((with_reducible refine Upd_rfl ?_); rfl) | split

theorem only_takeLinkFrame {m0 : List Part} {z0 : State} (hm : sub [.fab] m0 = true)
    (s : State) (a1) (h : Only m0 z0 s) : Only m0 z0 (takeLinkFrame s a1) := by
  unfold takeLinkFrame
  repeat' first
    | with_reducible assumption | with_reducible refine Only_ite ?_ ?_ | intro _
    | (simp only [↓Only_mk]; with_reducible refine Mk_of hm rfl ?_ ?_) | ((with_reducible refine Upd_rfl ?_); rfl)

theorem only_endLinkRuns {m0 : List Part} {z0 : State} (hm : sub [.fab] m0 = true)
    (s : State) (h : Only m0 z0 s) : Only m0 z0 (endLinkRuns s) := by
  unfold endLinkRuns
  repeat' first
    | with_reducible assumption | (simp only [↓Only_mk]; with_reducible refine Mk_of hm rfl ?_ ?_)
    | ((with_reducible refine Upd_rfl ?_); rfl)

theorem only_endPulseOnTrip {m0 : List Part} {z0 : State} (hm : sub [.fab] m0 = true)
    (s : State) (h : Only m0 z0 s) : Only m0 z0 (endPulseOnTrip s) := by
  unfold endPulseOnTrip
  repeat' first
    | with_reducible assumption | intro _ | (simp only [↓Only_mk]; with_reducible refine Mk_of hm rfl ?_ ?_)
    | ((with_reducible refine Upd_rfl ?_); rfl) | split

theorem only_execFabricLinkFrame {m0 : List Part} {z0 : State} (hm : sub [.now, .fab, .fio, .pair, .records, .sent] m0 = true)
    (a0) (a1) (s : State) (h : Only m0 z0 s) : OutOnly m0 z0 (execFabricLinkFrame a0 a1 s) := by
  unfold execFabricLinkFrame
  repeat' first
    | with_reducible assumption | exact sub_trans (by decide) hm | with_reducible apply only_State_atTime
    | with_reducible apply only_endLinkRuns | with_reducible apply only_takeLinkFrame
    | with_reducible apply only_evalInst | with_reducible apply only_takeRequests
    | with_reducible apply only_fabricChanged | with_reducible apply only_refreshWith
    | with_reducible apply only_endPulseOnTrip | with_reducible refine Only_ite ?_ ?_ | with_reducible apply only_foldl
    | with_reducible refine OutOnly_next.mpr ?_ | intro _

theorem only_execFabricLinkTimeout {m0 : List Part} {z0 : State} (hm : sub [.now, .fab, .fio, .pair, .records, .sent] m0 = true)
    (a0) (a1) (s : State) (h : Only m0 z0 s) : OutOnly m0 z0 (execFabricLinkTimeout a0 a1 s) := by
  unfold execFabricLinkTimeout
  repeat' first
    | with_reducible assumption | exact sub_trans (by decide) hm | with_reducible apply only_State_atTime
    | with_reducible apply only_State_modGroup | with_reducible apply only_enterLocked
    | with_reducible apply only_fabricChanged | with_reducible apply only_raiseFab | with_reducible refine Only_ite ?_ ?_
    | with_reducible apply only_foldl | with_reducible refine OutOnly_next.mpr ?_ | intro _
    | (simp only [↓Only_mk]; with_reducible refine Mk_of hm rfl ?_ ?_) | ((with_reducible refine Upd_rfl ?_); rfl)

theorem only_execDiscrepancyTimeout {m0 : List Part} {z0 : State} (hm : sub [.now, .fab, .fio, .pair, .records, .sent] m0 = true)
    (a0) (a1) (s : State) (h : Only m0 z0 s) : OutOnly m0 z0 (execDiscrepancyTimeout a0 a1 s) := by
  unfold execDiscrepancyTimeout
  repeat' first
    | with_reducible assumption | exact sub_trans (by decide) hm | with_reducible apply only_fabricChanged
    | with_reducible apply only_checkDiscrepancy | with_reducible apply only_State_atTime
    | with_reducible refine OutOnly_next.mpr ?_

theorem only_execRestoreDelayExpiry {m0 : List Part} {z0 : State} (hm : sub [.now, .fab, .fio, .pair, .records, .sent] m0 = true)
    (a0) (a1) (s : State) (h : Only m0 z0 s) : OutOnly m0 z0 (execRestoreDelayExpiry a0 a1 s) := by
  unfold execRestoreDelayExpiry
  repeat' first
    | with_reducible assumption | exact sub_trans (by decide) hm | with_reducible apply only_fabricChanged
    | with_reducible apply only_checkRestore | with_reducible apply only_State_atTime
    | with_reducible refine OutOnly_next.mpr ?_

theorem only_execDsdWarning {m0 : List Part} {z0 : State} (hm : sub [.now, .fab, .fio, .pair, .records, .sent] m0 = true)
    (a0) (a1) (s : State) (h : Only m0 z0 s) : OutOnly m0 z0 (execDsdWarning a0 a1 s) := by
  unfold execDsdWarning
  repeat' first
    | with_reducible assumption | exact sub_trans (by decide) hm | with_reducible apply only_fabricChanged
    | with_reducible apply only_checkWarning | with_reducible apply only_State_atTime
    | with_reducible refine OutOnly_next.mpr ?_

theorem only_execVigilanceTrip {m0 : List Part} {z0 : State} (hm : sub [.now, .fab, .fio, .pair, .records, .sent] m0 = true)
    (a0) (a1) (s : State) (h : Only m0 z0 s) : OutOnly m0 z0 (execVigilanceTrip a0 a1 s) := by
  unfold execVigilanceTrip
  repeat' first
    | with_reducible assumption | exact sub_trans (by decide) hm | with_reducible apply only_fabricChanged
    | with_reducible apply only_checkVigilance | with_reducible apply only_State_atTime
    | with_reducible refine OutOnly_next.mpr ?_

theorem only_takeFrame {m0 : List Part} {z0 : State} (hm : sub [.ctl, .fab, .fio, .pair, .sent] m0 = true)
    (a0) (s : State) (h : Only m0 z0 s) : Only m0 z0 (takeFrame a0 s) := by
  unfold takeFrame
  repeat' first
    | with_reducible assumption | exact sub_trans (by decide) hm | with_reducible apply only_fabricChanged
    | (simp only [↓Only_mk]; with_reducible refine Mk_of hm rfl ?_ ?_) | ((with_reducible refine Upd_rfl ?_); rfl)
    | split

theorem only_execRequestFrame {m0 : List Part} {z0 : State} (hm : sub [.now, .ctl, .fab, .fio, .pair, .sent] m0 = true)
    (a0) (a1) (s : State) (h : Only m0 z0 s) : OutOnly m0 z0 (execRequestFrame a0 a1 s) := by
  unfold execRequestFrame
  repeat' first
    | with_reducible assumption | exact sub_trans (by decide) hm | with_reducible apply only_State_atTime
    | with_reducible apply only_takeFrame | with_reducible refine Only_ite ?_ ?_
    | with_reducible refine OutOnly_next.mpr ?_ | intro _
    | (simp only [↓Only_mk]; with_reducible refine Mk_of hm rfl ?_ ?_) | ((with_reducible refine Upd_rfl ?_); rfl)

theorem only_execRequestLinkTimeout {m0 : List Part} {z0 : State} (hm : sub [.now, .ctl, .fab, .fio, .pair, .records, .sent] m0 = true)
    (a0) (s : State) (h : Only m0 z0 s) : OutOnly m0 z0 (execRequestLinkTimeout a0 s) := by
  unfold execRequestLinkTimeout
  extract_lets +onlyGivenNames s0
  have h0 : Only m0 z0 s0 := only_State_atTime (sub_trans (by decide) hm) _ _ h
  clear_value s0
  refine OutOnly_next.mpr ?_
  split
  · extract_lets +onlyGivenNames due
    refine Only_ite (fun _ => ?_) (fun _ => h0)
    extract_lets +onlyGivenNames c s1
    have h1 : Only m0 z0 s1 := Only_upd (d := [.fab]) (sub_trans (by decide) hm) h0 (Upd_of rfl rfl rfl (by intro p; cases p <;> first | exact .inl rfl | exact .inr rfl | exact .inr ⟨rfl, rfl⟩ | exact .inr ⟨rfl, rfl, rfl⟩))
    clear_value s1
    extract_lets +onlyGivenNames s2
    have h2 : Only m0 z0 s2 := only_foldl (fun _ _ hq => only_State_modInst (sub_trans (by decide) hm) _ _ _ hq) h1
    clear_value s2
    exact only_fabricChanged (sub_trans (by decide) hm) _ (only_raiseFab (sub_trans (by decide) hm) _ _ _ (Only_upd (d := [.ctl]) (sub_trans (by decide) hm) h2 (Upd_of rfl rfl rfl (by intro p; cases p <;> first | exact .inl rfl | exact .inr rfl | exact .inr ⟨rfl, rfl⟩ | exact .inr ⟨rfl, rfl, rfl⟩))))
  · exact h0

theorem only_execBoundaryStrobe {m0 : List Part} {z0 : State} (hm : sub [.now, .time, .mode, .ctl, .lanes, .rek, .cis, .fab, .fio, .tel, .pair, .records, .sent] m0 = true)
    (a0) (a1) (s : State) (h : Only m0 z0 s) : OutOnly m0 z0 (execBoundaryStrobe a0 a1 s) := by
  unfold execBoundaryStrobe
  repeat' first
    | with_reducible assumption | exact sub_trans (by decide) hm | with_reducible apply only_State_atTime
    | with_reducible apply only_lockout | with_reducible refine Only_ite ?_ ?_ | with_reducible apply only_foldl
    | with_reducible refine OutOnly_next.mpr ?_ | with_reducible refine OutOnly_ite ?_ ?_ | intro _
    | (extract_lets +onlyGivenNames x; have hx : Only m0 z0 x := ?hx; case' hx => unfold x)
    | extract_lets +onlyGivenNames _ | (simp only [↓Only_mk]; with_reducible refine Mk_of hm rfl ?_ ?_)
    | ((with_reducible refine Upd_rfl ?_); rfl) | split | dsimp only

theorem only_execDualRailFault {m0 : List Part} {z0 : State} (hm : sub [.now, .mode, .ctl, .lanes, .rek, .cis, .fab, .fio, .tel, .pair, .records, .sent] m0 = true)
    (a0) (s : State) (h : Only m0 z0 s) : OutOnly m0 z0 (execDualRailFault a0 s) := by
  unfold execDualRailFault
  repeat' first
    | with_reducible assumption | exact sub_trans (by decide) hm | with_reducible apply only_State_atTime
    | with_reducible apply only_lockout | with_reducible refine Only_ite ?_ ?_
    | with_reducible refine OutOnly_next.mpr ?_ | intro _

theorem only_execFabricMemoryFault {m0 : List Part} {z0 : State} (hm : sub [.now, .mode, .ctl, .lanes, .rek, .cis, .fab, .fio, .tel, .pair, .records, .sent] m0 = true)
    (a0) (s : State) (h : Only m0 z0 s) : OutOnly m0 z0 (execFabricMemoryFault a0 s) := by
  unfold execFabricMemoryFault
  repeat' first
    | with_reducible assumption | exact sub_trans (by decide) hm | with_reducible apply only_State_atTime
    | with_reducible apply only_lockout | with_reducible refine Only_ite ?_ ?_
    | with_reducible refine OutOnly_next.mpr ?_ | intro _

theorem only_channelFails {m0 : List Part} {z0 : State} (hm : sub [.fab, .fio, .pair, .records, .sent] m0 = true)
    (a0) (a1) (a2) (s : State) (h : Only m0 z0 s) : Only m0 z0 (channelFails a0 a1 a2 s) := by
  unfold channelFails
  repeat' first
    | with_reducible assumption | exact sub_trans (by decide) hm | with_reducible apply only_enterLocked
    | with_reducible apply only_raiseFab | with_reducible apply only_fabricChanged | with_reducible apply only_foldl
    | intro _ | (simp only [↓Only_mk]; with_reducible refine Mk_of hm rfl ?_ ?_)
    | ((with_reducible refine Upd_rfl ?_); rfl)

theorem only_execTestPulse {m0 : List Part} {z0 : State} (hm : sub [.now, .fab, .fio, .pair, .sent] m0 = true)
    (a0) (a1) (s : State) (h : Only m0 z0 s) : OutOnly m0 z0 (execTestPulse a0 a1 s) := by
  unfold execTestPulse
  repeat' first
    | with_reducible assumption | exact sub_trans (by decide) hm | with_reducible apply only_State_atTime
    | with_reducible apply only_fabricChanged | with_reducible refine Only_ite ?_ ?_
    | with_reducible refine OutOnly_next.mpr ?_ | intro _
    | (simp only [↓Only_mk]; with_reducible refine Mk_of hm rfl ?_ ?_) | ((with_reducible refine Upd_rfl ?_); rfl)

theorem only_execTestPulseEnd {m0 : List Part} {z0 : State} (hm : sub [.now, .fab, .fio, .pair, .records, .sent] m0 = true)
    (a0) (a1) (s : State) (h : Only m0 z0 s) : OutOnly m0 z0 (execTestPulseEnd a0 a1 s) := by
  unfold execTestPulseEnd
  repeat' first
    | with_reducible assumption | exact sub_trans (by decide) hm | with_reducible apply only_State_atTime
    | with_reducible apply only_channelFails | with_reducible apply only_fabricChanged
    | with_reducible refine Only_ite ?_ ?_ | with_reducible apply only_foldl | with_reducible refine OutOnly_next.mpr ?_
    | with_reducible refine OutOnly_ite ?_ ?_ | intro _
    | (extract_lets +onlyGivenNames x; have hx : Only m0 z0 x := ?hx; case' hx => unfold x)
    | extract_lets +onlyGivenNames _ | (simp only [↓Only_mk]; with_reducible refine Mk_of hm rfl ?_ ?_)
    | ((with_reducible refine Upd_rfl ?_); rfl) | split | dsimp only

theorem only_execReadbackTimeout {m0 : List Part} {z0 : State} (hm : sub [.now, .fab, .fio, .pair, .records, .sent] m0 = true)
    (a0) (a1) (s : State) (h : Only m0 z0 s) : OutOnly m0 z0 (execReadbackTimeout a0 a1 s) := by
  unfold execReadbackTimeout
  repeat' first
    | with_reducible assumption | exact sub_trans (by decide) hm | with_reducible apply only_State_atTime
    | with_reducible apply only_channelFails | with_reducible refine Only_ite ?_ ?_
    | with_reducible refine OutOnly_next.mpr ?_ | intro _

theorem only_resetInst {m0 : List Part} {z0 : State} (hm : sub [.fab, .records] m0 = true)
    (s : State) (a1) (h : Only m0 z0 s) : Only m0 z0 (resetInst s a1) := by
  unfold resetInst
  repeat' first
    | with_reducible assumption | exact sub_trans (by decide) hm | with_reducible apply only_enterReset
    | with_reducible refine Only_ite ?_ ?_ | with_reducible apply only_foldl | intro _
    | (extract_lets +onlyGivenNames x; have hx : Only m0 z0 x := ?hx; case' hx => unfold x)
    | extract_lets +onlyGivenNames _ | (simp only [↓Only_mk]; with_reducible refine Mk_of hm rfl ?_ ?_)
    | ((with_reducible refine Upd_rfl ?_); rfl) | split | dsimp only

theorem only_invalidPulse {m0 : List Part} {z0 : State} (hm : sub [.fab, .records] m0 = true)
    (s : State) (h : Only m0 z0 s) : Only m0 z0 (invalidPulse s) := by
  unfold invalidPulse
  repeat' first
    | with_reducible assumption | exact sub_trans (by decide) hm | with_reducible apply only_raiseFab
    | (simp only [↓Only_mk]; with_reducible refine Mk_of hm rfl ?_ ?_) | ((with_reducible refine Upd_rfl ?_); rfl)

theorem only_countPulse {m0 : List Part} {z0 : State} (hm : sub [.fab] m0 = true)
    (s : State) (h : Only m0 z0 s) : Only m0 z0 (countPulse s) := by
  unfold countPulse
  repeat' first
    | with_reducible assumption | (simp only [↓Only_mk]; with_reducible refine Mk_of hm rfl ?_ ?_)
    | ((with_reducible refine Upd_rfl ?_); rfl)

theorem only_execAckPulse {m0 : List Part} {z0 : State} (hm : sub [.now, .fab, .fio, .pair, .records, .sent] m0 = true)
    (a0) (a1) (a2) (a3) (a4) (a5) (s : State) (h :
    Only m0 z0 s) : OutOnly m0 z0 (execAckPulse a0 a1 a2 a3 a4 a5 s) := by
  unfold execAckPulse
  repeat' first
    | with_reducible assumption | exact sub_trans (by decide) hm | with_reducible apply only_State_atTime
    | with_reducible apply only_fabricChanged | with_reducible apply only_resetInst
    | with_reducible apply only_countPulse | with_reducible apply only_invalidPulse
    | with_reducible refine Only_ite ?_ ?_ | with_reducible apply only_foldl | with_reducible refine OutOnly_next.mpr ?_
    | intro _

theorem only_execRestartPulse {m0 : List Part} {z0 : State} (hm : sub [.now, .fab, .fio, .pair, .records, .sent] m0 = true)
    (a0) (a1) (a2) (a3) (a4) (a5) (s : State) (h :
    Only m0 z0 s) : OutOnly m0 z0 (execRestartPulse a0 a1 a2 a3 a4 a5 s) := by
  unfold execRestartPulse
  repeat' first
    | with_reducible assumption | exact sub_trans (by decide) hm | with_reducible apply only_State_atTime
    | with_reducible apply only_countPulse | with_reducible apply only_State_modInst
    | with_reducible apply only_fabricChanged | with_reducible apply only_enterRun
    | with_reducible apply only_invalidPulse | with_reducible refine Only_ite ?_ ?_
    | with_reducible refine OutOnly_next.mpr ?_ | intro _ | split

theorem only_reportRoles {m0 : List Part} {z0 : State} (hm : sub [.records] m0 = true)
    (s : State) (h : Only m0 z0 s) : Only m0 z0 (reportRoles s) := by
  unfold reportRoles
  repeat' first
    | with_reducible assumption | exact sub_trans (by decide) hm | with_reducible apply only_raise
    | with_reducible apply only_foldl | intro _

theorem only_sendRoles {m0 : List Part} {z0 : State} (hm : sub [.fio] m0 = true)
    (s : State) (h : Only m0 z0 s) : Only m0 z0 (sendRoles s) := by
  unfold sendRoles
  repeat' first
    | with_reducible assumption | (simp only [↓Only_mk]; with_reducible refine Mk_of hm rfl ?_ ?_)
    | ((with_reducible refine Upd_rfl ?_); rfl) | split

theorem only_checkBindings {m0 : List Part} {z0 : State} (hm : sub [.fab, .records] m0 = true)
    (s : State) (h : Only m0 z0 s) : Only m0 z0 (checkBindings s) := by
  unfold checkBindings
  repeat' first
    | with_reducible assumption | exact sub_trans (by decide) hm | with_reducible apply only_raise
    | with_reducible refine Only_ite ?_ ?_ | with_reducible apply only_foldl | intro _
    | (simp only [↓Only_mk]; with_reducible refine Mk_of hm rfl ?_ ?_) | ((with_reducible refine Upd_rfl ?_); rfl)

theorem only_activateMap {m0 : List Part} {z0 : State} (hm : sub [.fab, .fio, .records] m0 = true)
    (a0) (s : State) (h : Only m0 z0 s) : Only m0 z0 (activateMap a0 s) := by
  unfold activateMap
  repeat' first
    | with_reducible assumption | exact sub_trans (by decide) hm | with_reducible apply only_sendRoles
    | with_reducible apply only_enterTripped | with_reducible apply only_checkBindings | with_reducible apply only_foldl
    | intro _ | (simp only [↓Only_mk]; with_reducible refine Mk_of hm rfl ?_ ?_)
    | ((with_reducible refine Upd_rfl ?_); rfl) | split

theorem only_stageMap {m0 : List Part} {z0 : State} (hm : sub [.fab, .records] m0 = true)
    (a0) (a1) (s : State) (h : Only m0 z0 s) : Only m0 z0 (stageMap a0 a1 s) := by
  unfold stageMap
  repeat' first
    | with_reducible assumption | exact sub_trans (by decide) hm | with_reducible apply only_raiseFab
    | with_reducible refine Only_ite ?_ ?_ | intro _ | (simp only [↓Only_mk]; with_reducible refine Mk_of hm rfl ?_ ?_)
    | ((with_reducible refine Upd_rfl ?_); rfl)

theorem only_echoMap {m0 : List Part} {z0 : State} (hm : sub [.fab, .records] m0 = true)
    (a0) (s : State) (h : Only m0 z0 s) : Only m0 z0 (echoMap a0 s) := by
  unfold echoMap
  repeat' first
    | with_reducible assumption | exact sub_trans (by decide) hm | with_reducible apply only_raiseFab | intro _
    | (simp only [↓Only_mk]; with_reducible refine Mk_of hm rfl ?_ ?_) | ((with_reducible refine Upd_rfl ?_); rfl)
    | split

theorem only_execMapExpiry {m0 : List Part} {z0 : State} (hm : sub [.now, .fab, .records] m0 = true)
    (a0) (s : State) (h : Only m0 z0 s) : OutOnly m0 z0 (execMapExpiry a0 s) := by
  unfold execMapExpiry
  repeat' first
    | with_reducible assumption | exact sub_trans (by decide) hm | with_reducible apply only_State_atTime
    | with_reducible apply only_raiseFab | with_reducible refine OutOnly_next.mpr ?_ | intro _
    | (simp only [↓Only_mk]; with_reducible refine Mk_of hm rfl ?_ ?_) | ((with_reducible refine Upd_rfl ?_); rfl)
    | split

theorem only_execMapCopiesWritten {m0 : List Part} {z0 : State} (hm : sub [.now, .fab, .fio, .pair, .records, .sent] m0 = true)
    (a0) (s : State) (h : Only m0 z0 s) : OutOnly m0 z0 (execMapCopiesWritten a0 s) := by
  unfold execMapCopiesWritten
  repeat' first
    | with_reducible assumption | exact sub_trans (by decide) hm | with_reducible apply only_State_atTime
    | with_reducible apply only_activateMap | with_reducible apply only_fabricChanged
    | with_reducible apply only_reportRoles | with_reducible apply only_raiseFab
    | with_reducible refine OutOnly_next.mpr ?_ | (simp only [↓Only_mk]; with_reducible refine Mk_of hm rfl ?_ ?_)
    | ((with_reducible refine Upd_rfl ?_); rfl) | split

theorem only_execMapPeriodicCheck {m0 : List Part} {z0 : State} (hm : sub [.now, .mode, .ctl, .lanes, .rek, .cis, .fab, .fio, .tel, .pair, .records, .sent] m0 = true)
    (a0) (a1) (a2) (a3) (s : State) (h : Only m0 z0 s) : OutOnly m0 z0 (execMapPeriodicCheck a0 a1 a2 a3 s) := by
  unfold execMapPeriodicCheck
  repeat' first
    | with_reducible assumption | exact sub_trans (by decide) hm | with_reducible apply only_State_atTime
    | with_reducible apply only_raiseFab | with_reducible apply only_lockout | with_reducible refine Only_ite ?_ ?_
    | with_reducible apply only_foldl | with_reducible refine OutOnly_next.mpr ?_
    | with_reducible refine OutOnly_ite ?_ ?_ | intro _
    | (extract_lets +onlyGivenNames x; have hx : Only m0 z0 x := ?hx; case' hx => unfold x)
    | extract_lets +onlyGivenNames _ | (simp only [↓Only_mk]; with_reducible refine Mk_of hm rfl ?_ ?_)
    | ((with_reducible refine Upd_rfl ?_); rfl) | split | dsimp only

end Sys2Proof.Machine
end

