-- ==== Sys2Proof/Laws/OnlyC.lean ====
section
/-! SUPPORT. The parts of a state that each operation touches (Laws/Frames.lean): the field groups, outputs, the bridge, images and lanes. -/

set_option Elab.async false

set_option linter.all false

namespace Sys2Proof.Machine

theorem only_execSample {m0 : List Part} {z0 : State} (hm : sub [.now, .fio, .records, .sent] m0 = true)
    (a0) (a1) (a2) (s : State) (h : Only m0 z0 s) : OutOnly m0 z0 (execSample a0 a1 a2 s) := by
  unfold execSample
  repeat' first
    | with_reducible assumption | exact sub_trans (by decide) hm | with_reducible apply only_State_atTime
    | with_reducible apply only_State_modGroup | with_reducible apply only_raise | with_reducible apply only_State_emit
    | with_reducible refine Only_ite ?_ ?_ | with_reducible apply only_foldl | with_reducible refine OutOnly_next.mpr ?_
    | intro _

theorem only_latchGroup {m0 : List Part} {z0 : State} (hm : sub [.fio] m0 = true)
    (s : State) (a1) (h : Only m0 z0 s) : Only m0 z0 (latchGroup s a1) := by
  unfold latchGroup
  repeat' first
    | with_reducible assumption | exact sub_trans (by decide) hm | with_reducible apply only_State_modGroup
    | with_reducible refine Only_ite ?_ ?_ | intro _

theorem only_latchAll {m0 : List Part} {z0 : State} (hm : sub [.fio, .sent] m0 = true)
    (s : State) (h : Only m0 z0 s) : Only m0 z0 (latchAll s) := by
  unfold latchAll
  repeat' first
    | with_reducible assumption | exact sub_trans (by decide) hm | with_reducible apply only_latchGroup
    | with_reducible apply only_State_emit | with_reducible refine Only_ite ?_ ?_ | with_reducible apply only_foldl
    | intro _

theorem only_linkError {m0 : List Part} {z0 : State} (hm : sub [.fio] m0 = true)
    (a0) (s : State) (h : Only m0 z0 s) : Only m0 z0 (linkError a0 s) := by
  unfold linkError
  repeat' first
    | with_reducible assumption | exact sub_trans (by decide) hm | with_reducible apply only_State_modGroup

theorem only_execStateFrame {m0 : List Part} {z0 : State} (hm : sub [.now, .fio, .records] m0 = true)
    (a0) (a1) (a2) (s : State) (h : Only m0 z0 s) : OutOnly m0 z0 (execStateFrame a0 a1 a2 s) := by
  unfold execStateFrame
  repeat' first
    | with_reducible assumption | exact sub_trans (by decide) hm | with_reducible apply only_State_atTime
    | with_reducible apply only_linkError | with_reducible apply only_State_modGroup | with_reducible apply only_raise
    | with_reducible refine Only_ite ?_ ?_ | with_reducible refine OutOnly_next.mpr ?_ | intro _
    | (simp only [↓Only_mk]; with_reducible refine Mk_of hm rfl ?_ ?_) | ((with_reducible refine Upd_rfl ?_); rfl)

theorem only_takeEdge {m0 : List Part} {z0 : State} (hm : sub [.fio] m0 = true)
    (a0) (s : State) (a2) (h : Only m0 z0 s) : Only m0 z0 (takeEdge a0 s a2) := by
  unfold takeEdge
  repeat' first
    | with_reducible assumption | with_reducible refine Only_ite ?_ ?_ | intro _
    | (simp only [↓Only_mk]; with_reducible refine Mk_of hm rfl ?_ ?_) | ((with_reducible refine Upd_rfl ?_); rfl)

theorem only_execEdgeFrame {m0 : List Part} {z0 : State} (hm : sub [.now, .fio] m0 = true)
    (a0) (a1) (a2) (s : State) (h : Only m0 z0 s) : OutOnly m0 z0 (execEdgeFrame a0 a1 a2 s) := by
  unfold execEdgeFrame
  repeat' first
    | with_reducible assumption | exact sub_trans (by decide) hm | with_reducible apply only_State_atTime
    | with_reducible apply only_takeEdge | with_reducible apply only_linkError | with_reducible refine Only_ite ?_ ?_
    | with_reducible apply only_foldl | with_reducible refine OutOnly_next.mpr ?_ | intro _

theorem only_execGroupLinkTimeout {m0 : List Part} {z0 : State} (hm : sub [.now, .fio, .records] m0 = true)
    (a0) (a1) (s : State) (h : Only m0 z0 s) : OutOnly m0 z0 (execGroupLinkTimeout a0 a1 s) := by
  unfold execGroupLinkTimeout
  repeat' first
    | with_reducible assumption | exact sub_trans (by decide) hm | with_reducible apply only_State_atTime
    | with_reducible apply only_State_modGroup | with_reducible apply only_raise | with_reducible refine Only_ite ?_ ?_
    | with_reducible refine OutOnly_next.mpr ?_ | intro _

theorem only_execConfigWrite {m0 : List Part} {z0 : State} (hm : sub [.now, .fio, .records] m0 = true)
    (a0) (a1) (a2) (s : State) (h : Only m0 z0 s) : OutOnly m0 z0 (execConfigWrite a0 a1 a2 s) := by
  unfold execConfigWrite
  repeat' first
    | with_reducible assumption | exact sub_trans (by decide) hm | with_reducible apply only_State_atTime
    | with_reducible apply only_State_modGroup | with_reducible apply only_raise
    | with_reducible refine OutOnly_next.mpr ?_ | intro _ | split

theorem only_execConfigAck {m0 : List Part} {z0 : State} (hm : sub [.now, .fio] m0 = true)
    (a0) (a1) (a2) (s : State) (h : Only m0 z0 s) : OutOnly m0 z0 (execConfigAck a0 a1 a2 s) := by
  unfold execConfigAck
  repeat' first
    | with_reducible assumption | exact sub_trans (by decide) hm | with_reducible apply only_State_atTime
    | with_reducible apply only_State_modGroup | with_reducible refine Only_ite ?_ ?_
    | with_reducible refine OutOnly_next.mpr ?_ | intro _

theorem only_execBankSwap {m0 : List Part} {z0 : State} (hm : sub [.now, .fio, .records] m0 = true)
    (a0) (s : State) (h : Only m0 z0 s) : OutOnly m0 z0 (execBankSwap a0 s) := by
  unfold execBankSwap
  repeat' first
    | with_reducible assumption | exact sub_trans (by decide) hm | with_reducible apply only_State_atTime
    | with_reducible apply only_State_modGroup | with_reducible apply only_raise | with_reducible refine Only_ite ?_ ?_
    | with_reducible apply only_foldl | with_reducible refine OutOnly_next.mpr ?_ | intro _
    | (simp only [↓Only_mk]; with_reducible refine Mk_of hm rfl ?_ ?_) | ((with_reducible refine Upd_rfl ?_); rfl)

theorem only_execMaxOn {m0 : List Part} {z0 : State} (hm : sub [.now, .fio, .records] m0 = true)
    (a0) (a1) (s : State) (h : Only m0 z0 s) : OutOnly m0 z0 (execMaxOn a0 a1 s) := by
  unfold execMaxOn
  repeat' first
    | with_reducible assumption | exact sub_trans (by decide) hm | with_reducible apply only_State_atTime
    | with_reducible apply only_raise | with_reducible apply only_State_modChan | with_reducible refine Only_ite ?_ ?_
    | with_reducible refine OutOnly_next.mpr ?_ | intro _

theorem only_execChatterWindow {m0 : List Part} {z0 : State} (hm : sub [.now, .fio, .records] m0 = true)
    (a0) (a1) (s : State) (h : Only m0 z0 s) : OutOnly m0 z0 (execChatterWindow a0 a1 s) := by
  unfold execChatterWindow
  repeat' first
    | with_reducible assumption | exact sub_trans (by decide) hm | with_reducible apply only_State_atTime
    | with_reducible apply only_State_modChan | with_reducible apply only_raise | with_reducible refine Only_ite ?_ ?_
    | with_reducible refine OutOnly_next.mpr ?_ | intro _

theorem only_checkInhibit {m0 : List Part} {z0 : State} (hm : sub [.fio, .records] m0 = true)
    (s : State) (a1) (h : Only m0 z0 s) : Only m0 z0 (checkInhibit s a1) := by
  unfold checkInhibit
  repeat' first
    | with_reducible assumption | exact sub_trans (by decide) hm | with_reducible apply only_raise
    | with_reducible apply only_State_modGroup | with_reducible refine Only_ite ?_ ?_ | intro _

theorem only_discardFrame {m0 : List Part} {z0 : State} (hm : sub [.fio] m0 = true)
    (a0) (s : State) (h : Only m0 z0 s) : Only m0 z0 (discardFrame a0 s) := by
  unfold discardFrame
  repeat' first
    | with_reducible assumption | exact sub_trans (by decide) hm | with_reducible apply only_State_modGroup

theorem only_takeOutput {m0 : List Part} {z0 : State} (hm : sub [.fio] m0 = true)
    (a0) (a1) (s : State) (h : Only m0 z0 s) : Only m0 z0 (takeOutput a0 a1 s) := by
  unfold takeOutput
  repeat' first
    | with_reducible assumption | exact sub_trans (by decide) hm | with_reducible apply only_discardFrame
    | with_reducible apply only_State_modGroup | with_reducible refine Only_ite ?_ ?_ | intro _

theorem only_execOutputFrame {m0 : List Part} {z0 : State} (hm : sub [.now, .fio] m0 = true)
    (a0) (a1) (a2) (s : State) (h : Only m0 z0 s) : OutOnly m0 z0 (execOutputFrame a0 a1 a2 s) := by
  unfold execOutputFrame
  repeat' first
    | with_reducible assumption | exact sub_trans (by decide) hm | with_reducible apply only_State_atTime
    | with_reducible apply only_takeOutput | with_reducible apply only_discardFrame | with_reducible apply only_linkError
    | with_reducible refine OutOnly_next.mpr ?_ | intro _ | split

theorem only_execDriveFrame {m0 : List Part} {z0 : State} (hm : sub [.now, .fio] m0 = true)
    (a0) (a1) (a2) (s : State) (h : Only m0 z0 s) : OutOnly m0 z0 (execDriveFrame a0 a1 a2 s) := by
  unfold execDriveFrame
  repeat' first
    | with_reducible assumption | exact sub_trans (by decide) hm | with_reducible apply only_State_atTime
    | with_reducible apply only_State_modGroup | with_reducible apply only_linkError
    | with_reducible refine Only_ite ?_ ?_ | with_reducible refine OutOnly_next.mpr ?_ | intro _

theorem only_openLoadEvents {m0 : List Part} {z0 : State} (hm : sub [.records] m0 = true)
    (old g) (s : State) (h : Only m0 z0 s) : Only m0 z0 (openLoadEvents old g s) := by
  unfold openLoadEvents
  repeat' first
    | with_reducible assumption | exact sub_trans (by decide) hm | with_reducible apply only_raise
    | with_reducible refine Only_ite ?_ ?_ | with_reducible apply only_foldl | intro _

theorem only_applyFrame {m0 : List Part} {z0 : State} (hm : sub [.fio, .records] m0 = true)
    (a0) (a1) (s : State) (h : Only m0 z0 s) : Only m0 z0 (applyFrame a0 a1 s) := by
  unfold applyFrame
  repeat' first
    | with_reducible assumption | exact sub_trans (by decide) hm | with_reducible apply only_checkInhibit
    | with_reducible apply only_State_modGroup | with_reducible apply only_openLoadEvents
    | with_reducible apply only_raise | with_reducible refine Only_ite ?_ ?_ | intro _

theorem only_execApplyInstant {m0 : List Part} {z0 : State} (hm : sub [.now, .fio, .records] m0 = true)
    (a0) (a1) (s : State) (h : Only m0 z0 s) : OutOnly m0 z0 (execApplyInstant a0 a1 s) := by
  unfold execApplyInstant
  repeat' first
    | with_reducible assumption | exact sub_trans (by decide) hm | with_reducible apply only_State_atTime
    | with_reducible apply only_State_modGroup | with_reducible apply only_applyFrame | with_reducible apply only_foldl
    | with_reducible refine OutOnly_next.mpr ?_ | intro _

theorem only_execOvercurrentTrip {m0 : List Part} {z0 : State} (hm : sub [.now, .fio, .records] m0 = true)
    (a0) (a1) (s : State) (h : Only m0 z0 s) : OutOnly m0 z0 (execOvercurrentTrip a0 a1 s) := by
  unfold execOvercurrentTrip
  repeat' first
    | with_reducible assumption | exact sub_trans (by decide) hm | with_reducible apply only_State_atTime
    | with_reducible apply only_raise | with_reducible apply only_State_modChan | with_reducible refine Only_ite ?_ ?_
    | with_reducible refine OutOnly_next.mpr ?_ | intro _

theorem only_execShortCircuit {m0 : List Part} {z0 : State} (hm : sub [.now, .fio, .records] m0 = true)
    (a0) (a1) (s : State) (h : Only m0 z0 s) : OutOnly m0 z0 (execShortCircuit a0 a1 s) := by
  unfold execShortCircuit
  repeat' first
    | with_reducible assumption | exact sub_trans (by decide) hm | with_reducible apply only_State_atTime
    | with_reducible apply only_raise | with_reducible apply only_State_modChan | with_reducible refine Only_ite ?_ ?_
    | with_reducible refine OutOnly_next.mpr ?_ | intro _

theorem only_execDemagOver {m0 : List Part} {z0 : State} (hm : sub [.now, .fio, .records] m0 = true)
    (a0) (a1) (a2) (s : State) (h : Only m0 z0 s) : OutOnly m0 z0 (execDemagOver a0 a1 a2 s) := by
  unfold execDemagOver
  repeat' first
    | with_reducible assumption | exact sub_trans (by decide) hm | with_reducible apply only_State_atTime
    | with_reducible apply only_State_modGroup | with_reducible apply only_State_modChan
    | with_reducible apply only_raise | with_reducible refine Only_ite ?_ ?_ | with_reducible refine OutOnly_next.mpr ?_
    | intro _

theorem only_execDemagHoldExpiry {m0 : List Part} {z0 : State} (hm : sub [.now, .fio] m0 = true)
    (a0) (a1) (s : State) (h : Only m0 z0 s) : OutOnly m0 z0 (execDemagHoldExpiry a0 a1 s) := by
  unfold execDemagHoldExpiry
  repeat' first
    | with_reducible assumption | exact sub_trans (by decide) hm | with_reducible apply only_State_atTime
    | with_reducible apply only_State_modChan | with_reducible refine OutOnly_next.mpr ?_ | intro _ | split

theorem only_execSwitchOnResumed {m0 : List Part} {z0 : State} (hm : sub [.now, .fio, .records] m0 = true)
    (a0) (a1) (s : State) (h : Only m0 z0 s) : OutOnly m0 z0 (execSwitchOnResumed a0 a1 s) := by
  unfold execSwitchOnResumed
  repeat' first
    | with_reducible assumption | exact sub_trans (by decide) hm | with_reducible apply only_State_atTime
    | with_reducible apply only_raise | with_reducible apply only_State_modGroup | with_reducible refine Only_ite ?_ ?_
    | with_reducible refine OutOnly_next.mpr ?_ | intro _

theorem only_execOpenLoad {m0 : List Part} {z0 : State} (hm : sub [.now, .fio, .records] m0 = true)
    (a0) (a1) (s : State) (h : Only m0 z0 s) : OutOnly m0 z0 (execOpenLoad a0 a1 s) := by
  unfold execOpenLoad
  repeat' first
    | with_reducible assumption | exact sub_trans (by decide) hm | with_reducible apply only_State_atTime
    | with_reducible apply only_raise | with_reducible apply only_State_modChan | with_reducible refine Only_ite ?_ ?_
    | with_reducible refine OutOnly_next.mpr ?_ | intro _

theorem only_execSwitchStuck {m0 : List Part} {z0 : State} (hm : sub [.now, .fio, .records] m0 = true)
    (a0) (a1) (s : State) (h : Only m0 z0 s) : OutOnly m0 z0 (execSwitchStuck a0 a1 s) := by
  unfold execSwitchStuck
  repeat' first
    | with_reducible assumption | exact sub_trans (by decide) hm | with_reducible apply only_State_atTime
    | with_reducible apply only_raise | with_reducible apply only_State_modChan | with_reducible refine Only_ite ?_ ?_
    | with_reducible refine OutOnly_next.mpr ?_ | intro _

theorem only_execGroupOutputSilent {m0 : List Part} {z0 : State} (hm : sub [.now, .fio, .records] m0 = true)
    (a0) (a1) (s : State) (h : Only m0 z0 s) : OutOnly m0 z0 (execGroupOutputSilent a0 a1 s) := by
  unfold execGroupOutputSilent
  repeat' first
    | with_reducible assumption | exact sub_trans (by decide) hm | with_reducible apply only_State_atTime
    | with_reducible apply only_checkInhibit | with_reducible apply only_State_modGroup | with_reducible apply only_raise
    | with_reducible refine OutOnly_next.mpr ?_ | intro _ | split

theorem only_execKeepaliveLoss {m0 : List Part} {z0 : State} (hm : sub [.now, .fio] m0 = true)
    (a0) (a1) (s : State) (h : Only m0 z0 s) : OutOnly m0 z0 (execKeepaliveLoss a0 a1 s) := by
  unfold execKeepaliveLoss
  repeat' first
    | with_reducible assumption | exact sub_trans (by decide) hm | with_reducible apply only_State_atTime
    | with_reducible apply only_State_modGroup | with_reducible refine Only_ite ?_ ?_
    | with_reducible refine OutOnly_next.mpr ?_ | intro _

theorem only_execPumpedRailAtHoldLevel {m0 : List Part} {z0 : State} (hm : sub [.now, .fio] m0 = true)
    (a0) (a1) (s : State) (h : Only m0 z0 s) : OutOnly m0 z0 (execPumpedRailAtHoldLevel a0 a1 s) := by
  unfold execPumpedRailAtHoldLevel
  repeat' first
    | with_reducible assumption | exact sub_trans (by decide) hm | with_reducible apply only_State_atTime
    | with_reducible apply only_State_modGroup | with_reducible refine Only_ite ?_ ?_
    | with_reducible refine OutOnly_next.mpr ?_ | intro _

theorem only_execGroupConverterFail {m0 : List Part} {z0 : State} (hm : sub [.now, .fio] m0 = true)
    (a0) (a1) (s : State) (h : Only m0 z0 s) : OutOnly m0 z0 (execGroupConverterFail a0 a1 s) := by
  unfold execGroupConverterFail
  repeat' first
    | with_reducible assumption | exact sub_trans (by decide) hm | with_reducible apply only_State_modGroup
    | with_reducible apply only_State_atTime | with_reducible refine OutOnly_next.mpr ?_

theorem only_applyBindings {m0 : List Part} {z0 : State} (hm : sub [.tel, .records] m0 = true)
    (a0) (s : State) (h : Only m0 z0 s) : Only m0 z0 (applyBindings a0 s) := by
  unfold applyBindings
  repeat' first
    | with_reducible assumption | exact sub_trans (by decide) hm | with_reducible apply only_raise
    | with_reducible refine Only_ite ?_ ?_ | with_reducible apply only_foldl | intro _
    | (extract_lets +onlyGivenNames x; have hx : Only m0 z0 x := ?hx; case' hx => unfold x)
    | extract_lets +onlyGivenNames _ | (simp only [↓Only_mk]; with_reducible refine Mk_of hm rfl ?_ ?_)
    | ((with_reducible refine Upd_rfl ?_); rfl) | split | dsimp only

theorem only_loadRecords {m0 : List Part} {z0 : State} (hm : sub [.records] m0 = true)
    (s : State) (h : Only m0 z0 s) : Only m0 z0 (loadRecords s) := by
  unfold loadRecords
  repeat' first
    | with_reducible assumption | exact sub_trans (by decide) hm | with_reducible apply only_raise
    | with_reducible refine Only_ite ?_ ?_ | with_reducible apply only_foldl | intro _
    | (extract_lets +onlyGivenNames x; have hx : Only m0 z0 x := ?hx; case' hx => unfold x)
    | extract_lets +onlyGivenNames _ | (simp only [↓Only_mk]; with_reducible refine Mk_of hm rfl ?_ ?_)
    | ((with_reducible refine Upd_rfl ?_); rfl) | split | dsimp only

theorem only_State_measureTaken {m0 : List Part} {z0 : State} (hm : sub [.time, .ctl, .records] m0 = true)
    (s : State) (a1) (a2) (h : Only m0 z0 s) : Only m0 z0 (State.measureTaken s a1 a2) := by
  unfold State.measureTaken
  repeat' first
    | with_reducible assumption | with_reducible refine Only_ite ?_ ?_ | intro _
    | (simp only [↓Only_mk]; with_reducible refine Mk_of hm rfl ?_ ?_) | ((with_reducible refine Upd_rfl ?_); rfl)

theorem only_execRecorderMeasurement {m0 : List Part} {z0 : State} (hm : sub [.now, .time, .ctl, .records] m0 = true)
    (a0) (a1) (a2) (a3) (s : State) (h : Only m0 z0 s) : OutOnly m0 z0 (execRecorderMeasurement a0 a1 a2 a3 s) := by
  unfold execRecorderMeasurement
  repeat' first
    | with_reducible assumption | exact sub_trans (by decide) hm | with_reducible apply only_State_atTime
    | with_reducible apply only_measure | with_reducible apply only_State_measureTaken | with_reducible refine Only_ite ?_ ?_
    | with_reducible refine OutOnly_next.mpr ?_ | intro _ | split

theorem only_execRecordWrite {m0 : List Part} {z0 : State} (hm : sub [.now, .records] m0 = true)
    (a0) (a1) (a2) (s : State) (h : Only m0 z0 s) : OutOnly m0 z0 (execRecordWrite a0 a1 a2 s) := by
  unfold execRecordWrite
  repeat' first
    | with_reducible assumption | exact sub_trans (by decide) hm | with_reducible apply only_State_atTime
    | with_reducible refine Only_ite ?_ ?_ | with_reducible refine OutOnly_next.mpr ?_ | intro _
    | (simp only [↓Only_mk]; with_reducible refine Mk_of hm rfl ?_ ?_) | ((with_reducible refine Upd_rfl ?_); rfl)

theorem only_execRecorderFault {m0 : List Part} {z0 : State} (hm : sub [.now, .records] m0 = true)
    (a0) (s : State) (h : Only m0 z0 s) : OutOnly m0 z0 (execRecorderFault a0 s) := by
  unfold execRecorderFault
  repeat' first
    | with_reducible assumption | exact sub_trans (by decide) hm | with_reducible apply only_State_atTime
    | with_reducible apply only_raise | with_reducible refine Only_ite ?_ ?_ | with_reducible refine OutOnly_next.mpr ?_
    | intro _ | (simp only [↓Only_mk]; with_reducible refine Mk_of hm rfl ?_ ?_)
    | ((with_reducible refine Upd_rfl ?_); rfl)

theorem only_refuseAccess {m0 : List Part} {z0 : State} (hm : sub [.bri, .sent] m0 = true)
    (a0) (a1) (a2) (s : State) (h : Only m0 z0 s) : Only m0 z0 (refuseAccess a0 a1 a2 s) := by
  unfold refuseAccess
  repeat' first
    | with_reducible assumption | exact sub_trans (by decide) hm | with_reducible apply only_State_emit
    | (simp only [↓Only_mk]; with_reducible refine Mk_of hm rfl ?_ ?_) | ((with_reducible refine Upd_rfl ?_); rfl)

theorem only_commonsWrite {m0 : List Part} {z0 : State} (hm : sub [.mem, .dma] m0 = true)
    (a0) (a1) (s : State) (h : Only m0 z0 s) : Only m0 z0 (commonsWrite a0 a1 s) := by
  unfold commonsWrite
  repeat' first
    | with_reducible assumption | exact sub_trans (by decide) hm | with_reducible refine Only_ite ?_ ?_
    | with_reducible apply only_foldl | intro _
    | (extract_lets +onlyGivenNames x; have hx : Only m0 z0 x := ?hx; case' hx => unfold x)
    | extract_lets +onlyGivenNames _ | (simp only [↓Only_mk]; with_reducible refine Mk_of hm rfl ?_ ?_)
    | ((with_reducible refine Upd_rfl ?_); rfl) | split | dsimp only

theorem only_grantRead {m0 : List Part} {z0 : State} (hm : sub [.lanes, .bri, .sent] m0 = true)
    (a0) (a1) (s : State) (h : Only m0 z0 s) : Only m0 z0 (grantRead a0 a1 s) := by
  unfold grantRead
  repeat' first
    | with_reducible assumption | exact sub_trans (by decide) hm | with_reducible apply only_State_setCore
    | with_reducible apply only_State_emit | (simp only [↓Only_mk]; with_reducible refine Mk_of hm rfl ?_ ?_)
    | ((with_reducible refine Upd_rfl ?_); rfl) | split

theorem only_serveOne {m0 : List Part} {z0 : State} (hm : sub [.lanes, .mem, .dma, .bri, .sent] m0 = true)
    (s : State) (a1) (h : Only m0 z0 s) : Only m0 z0 (serveOne s a1) := by
  unfold serveOne
  repeat' first
    | with_reducible assumption | exact sub_trans (by decide) hm | with_reducible apply only_grantRead
    | with_reducible apply only_commonsWrite | with_reducible refine Only_ite ?_ ?_ | intro _
    | (simp only [↓Only_mk]; with_reducible refine Mk_of hm rfl ?_ ?_) | ((with_reducible refine Upd_rfl ?_); rfl)

theorem only_serveWaiters {m0 : List Part} {z0 : State} (hm : sub [.lanes, .mem, .dma, .bri, .sent] m0 = true)
    (s : State) (h : Only m0 z0 s) : Only m0 z0 (serveWaiters s) := by
  unfold serveWaiters
  repeat' first
    | with_reducible assumption | exact sub_trans (by decide) hm | with_reducible apply only_serveOne
    | with_reducible apply only_foldl | (simp only [↓Only_mk]; with_reducible refine Mk_of hm rfl ?_ ?_)
    | ((with_reducible refine Upd_rfl ?_); rfl)

theorem only_dropSemas {m0 : List Part} {z0 : State} (hm : sub [.lanes, .mem, .dma, .bri, .sent] m0 = true)
    (a0) (s : State) (h : Only m0 z0 s) : Only m0 z0 (dropSemas a0 s) := by
  unfold dropSemas
  repeat' first
    | with_reducible assumption | exact sub_trans (by decide) hm | with_reducible apply only_serveWaiters
    | (simp only [↓Only_mk]; with_reducible refine Mk_of hm rfl ?_ ?_) | ((with_reducible refine Upd_rfl ?_); rfl)

theorem only_waitFor {m0 : List Part} {z0 : State} (hm : sub [.bri] m0 = true)
    (a0) (s : State) (h : Only m0 z0 s) : Only m0 z0 (waitFor a0 s) := by
  unfold waitFor
  repeat' first
    | with_reducible assumption | (simp only [↓Only_mk]; with_reducible refine Mk_of hm rfl ?_ ?_)
    | ((with_reducible refine Upd_rfl ?_); rfl)

theorem only_landOne {m0 : List Part} {z0 : State} (hm : sub [.mem, .dma, .bri] m0 = true)
    (s : State) (a1) (h : Only m0 z0 s) : Only m0 z0 (landOne s a1) := by
  unfold landOne
  repeat' first
    | with_reducible assumption | exact sub_trans (by decide) hm | with_reducible apply only_waitFor
    | with_reducible apply only_commonsWrite | with_reducible refine Only_ite ?_ ?_ | intro _

theorem only_landWhere {m0 : List Part} {z0 : State} (hm : sub [.mem, .dma, .bri] m0 = true)
    (a0) (s : State) (h : Only m0 z0 s) : Only m0 z0 (landWhere a0 s) := by
  unfold landWhere
  repeat' first
    | with_reducible assumption | exact sub_trans (by decide) hm | with_reducible apply only_landOne
    | with_reducible apply only_foldl | (simp only [↓Only_mk]; with_reducible refine Mk_of hm rfl ?_ ?_)
    | ((with_reducible refine Upd_rfl ?_); rfl)

theorem only_landBefore {m0 : List Part} {z0 : State} (hm : sub [.mem, .dma, .bri] m0 = true)
    (a0) (s : State) (h : Only m0 z0 s) : Only m0 z0 (landBefore a0 s) := by
  unfold landBefore
  repeat' first
    | with_reducible assumption | exact sub_trans (by decide) hm | with_reducible apply only_landWhere

theorem only_landOld {m0 : List Part} {z0 : State} (hm : sub [.mem, .dma, .bri] m0 = true)
    (s : State) (h : Only m0 z0 s) : Only m0 z0 (landOld s) := by
  unfold landOld
  repeat' first
    | with_reducible assumption | exact sub_trans (by decide) hm | with_reducible apply only_landWhere

theorem only_linkOk {m0 : List Part} {z0 : State} (hm : sub [.bri] m0 = true)
    (a0) (a1) (s : State) (h : Only m0 z0 s) : Only m0 z0 (linkOk a0 a1 s) := by
  unfold linkOk
  repeat' first
    | with_reducible assumption | (simp only [↓Only_mk]; with_reducible refine Mk_of hm rfl ?_ ?_)
    | ((with_reducible refine Upd_rfl ?_); rfl)

theorem only_State_modRing {m0 : List Part} {z0 : State} (hm : sub [.bri] m0 = true)
    (s : State) (a1) (a2) (h : Only m0 z0 s) : Only m0 z0 (State.modRing s a1 a2) := by
  unfold State.modRing
  repeat' first
    | with_reducible assumption | (simp only [↓Only_mk]; with_reducible refine Mk_of hm rfl ?_ ?_)
    | ((with_reducible refine Upd_rfl ?_); rfl)

theorem only_writeBack {m0 : List Part} {z0 : State} (hm : sub [.mem, .dma, .bri] m0 = true)
    (a0) (a1) (a2) (a3) (s : State) (h : Only m0 z0 s) : Only m0 z0 (writeBack a0 a1 a2 a3 s) := by
  unfold writeBack
  repeat' first
    | with_reducible assumption | exact sub_trans (by decide) hm | with_reducible apply only_State_modRing
    | with_reducible apply only_commonsWrite

theorem only_advance {m0 : List Part} {z0 : State} (hm : sub [.bri] m0 = true)
    (a0) (s : State) (h : Only m0 z0 s) : Only m0 z0 (advance a0 s) := by
  unfold advance
  repeat' first
    | with_reducible assumption | exact sub_trans (by decide) hm | with_reducible apply only_State_modRing

theorem only_haltRing {m0 : List Part} {z0 : State} (hm : sub [.mem, .dma, .bri] m0 = true)
    (a0) (a1) (s : State) (h : Only m0 z0 s) : Only m0 z0 (haltRing a0 a1 s) := by
  unfold haltRing
  repeat' first
    | with_reducible assumption | exact sub_trans (by decide) hm | with_reducible apply only_poke
    | with_reducible apply only_State_modRing | with_reducible apply only_writeBack

theorem only_fetchDesc {m0 : List Part} {z0 : State} (hm : sub [.mem, .dma, .bri, .records] m0 = true)
    (a0) (s : State) (h : Only m0 z0 s) : Only m0 z0 (fetchDesc a0 s) := by
  unfold fetchDesc
  repeat' first
    | with_reducible assumption | exact sub_trans (by decide) hm | with_reducible apply only_State_modRing
    | with_reducible apply only_raise | with_reducible apply only_haltRing | with_reducible refine Only_ite ?_ ?_
    | intro _ | split

theorem only_moveBytes {m0 : List Part} {z0 : State} (hm : sub [.mem, .dma, .bri] m0 = true)
    (a0) (a1) (a2) (s : State) (h : Only m0 z0 s) : Only m0 z0 (moveBytes a0 a1 a2 s) := by
  unfold moveBytes
  repeat' first
    | with_reducible assumption | exact sub_trans (by decide) hm | with_reducible apply only_commonsWrite
    | (simp only [↓Only_mk]; with_reducible refine Mk_of hm rfl ?_ ?_) | ((with_reducible refine Upd_rfl ?_); rfl)

theorem only_ringBell {m0 : List Part} {z0 : State} (hm : sub [.mem, .dma, .bri, .records] m0 = true)
    (a0) (s : State) (h : Only m0 z0 s) : Only m0 z0 (ringBell a0 s) := by
  unfold ringBell
  repeat' first
    | with_reducible assumption | exact sub_trans (by decide) hm | with_reducible apply only_fetchDesc
    | with_reducible apply only_State_modRing

theorem only_abortNow {m0 : List Part} {z0 : State} (hm : sub [.mem, .dma, .bri, .records, .free] m0 = true)
    (a0) (s : State) (h : Only m0 z0 s) : Only m0 z0 (abortNow a0 s) := by
  unfold abortNow
  repeat' first
    | with_reducible assumption | exact sub_trans (by decide) hm | with_reducible apply only_State_tick
    | with_reducible apply only_moveBytes | with_reducible apply only_writeBack | with_reducible apply only_State_modRing
    | with_reducible apply only_advance | with_reducible apply only_raise | with_reducible apply only_poke
    | with_reducible refine Only_ite ?_ ?_ | intro _

theorem only_ringAbort {m0 : List Part} {z0 : State} (hm : sub [.mem, .dma, .bri, .records, .free] m0 = true)
    (a0) (s : State) (h : Only m0 z0 s) : Only m0 z0 (ringAbort a0 s) := by
  unfold ringAbort
  repeat' first
    | with_reducible assumption | exact sub_trans (by decide) hm | with_reducible apply only_abortNow
    | with_reducible apply only_State_modRing | with_reducible refine Only_ite ?_ ?_ | intro _

theorem only_dmaResume {m0 : List Part} {z0 : State} (hm : sub [.mem, .dma, .bri, .records, .free] m0 = true)
    (s : State) (h : Only m0 z0 s) : Only m0 z0 (dmaResume s) := by
  unfold dmaResume
  repeat' first
    | with_reducible assumption | exact sub_trans (by decide) hm | with_reducible apply only_raise
    | with_reducible apply only_State_modRing | with_reducible apply only_abortNow | with_reducible apply only_fetchDesc
    | with_reducible refine Only_ite ?_ ?_ | with_reducible apply only_foldl | intro _
    | (simp only [↓Only_mk]; with_reducible refine Mk_of hm rfl ?_ ?_) | ((with_reducible refine Upd_rfl ?_); rfl)

theorem only_excludeLane {m0 : List Part} {z0 : State} (hm : sub [.ctl, .lanes, .rek, .mem, .dma, .bri, .records, .sent, .free] m0 = true)
    (a0) (a1) (s : State) (h : Only m0 z0 s) : Only m0 z0 (excludeLane a0 a1 s) := by
  unfold excludeLane
  repeat' first
    | with_reducible assumption | exact sub_trans (by decide) hm | with_reducible apply only_exclude
    | with_reducible apply only_dropSemas | with_reducible apply only_ringAbort | with_reducible apply only_foldl
    | intro _ | (simp only [↓Only_mk]; with_reducible refine Mk_of hm rfl ?_ ?_)
    | ((with_reducible refine Upd_rfl ?_); rfl)

theorem only_openOp {m0 : List Part} {z0 : State} (hm : sub [.lanes] m0 = true)
    (a0) (a1) (a2) (s : State) (h : Only m0 z0 s) : Only m0 z0 (openOp a0 a1 a2 s) := by
  unfold openOp
  repeat' first
    | with_reducible assumption | exact sub_trans (by decide) hm | with_reducible apply only_State_setCore

theorem only_popEvent {m0 : List Part} {z0 : State} (hm : sub [.lanes, .free] m0 = true)
    (a0) (a1) (a2) (s : State) (h : Only m0 z0 s) : Only m0 z0 (popEvent a0 a1 a2 s) := by
  unfold popEvent
  repeat' first
    | with_reducible assumption | exact sub_trans (by decide) hm | with_reducible apply only_State_setCore
    | with_reducible apply only_State_tick | extract_lets +onlyGivenNames _ | split

theorem only_directRead {m0 : List Part} {z0 : State} (hm : sub [.lanes, .mem, .dma, .bri, .sent, .free] m0 = true)
    (a0) (a1) (a2) (a3) (s : State) (h : Only m0 z0 s) : Only m0 z0 (directRead a0 a1 a2 a3 s) := by
  unfold directRead
  repeat' first
    | with_reducible assumption | exact sub_trans (by decide) hm | with_reducible apply only_refuseAccess
    | with_reducible apply only_linkOk | with_reducible apply only_landBefore | with_reducible apply only_popEvent
    | with_reducible apply only_openOp | with_reducible refine Only_ite ?_ ?_ | intro _ | split

theorem only_execDirectRead {m0 : List Part} {z0 : State} (hm : sub [.now, .lanes, .mem, .dma, .bri, .sent, .free] m0 = true)
    (a0) (a1) (a2) (a3) (a4) (s : State) (h : Only m0 z0 s) : OutOnly m0 z0 (execDirectRead a0 a1 a2 a3 a4 s) := by
  unfold execDirectRead
  repeat' first
    | with_reducible assumption | exact sub_trans (by decide) hm | with_reducible apply only_directRead
    | with_reducible apply only_State_atTime | with_reducible refine OutOnly_next.mpr ?_

theorem only_execEventQueuePop {m0 : List Part} {z0 : State} (hm : sub [.now, .lanes, .mem, .dma, .bri, .sent, .free] m0 = true)
    (a0) (a1) (a2) (s : State) (h : Only m0 z0 s) : OutOnly m0 z0 (execEventQueuePop a0 a1 a2 s) := by
  unfold execEventQueuePop
  repeat' first
    | with_reducible assumption | exact sub_trans (by decide) hm | with_reducible apply only_directRead
    | with_reducible apply only_State_atTime | with_reducible refine OutOnly_next.mpr ?_

theorem only_execDirectPostedWrite {m0 : List Part} {z0 : State} (hm : sub [.now, .mem, .dma, .bri, .sent] m0 = true)
    (a0) (a1) (a2) (a3) (a4) (s : State) (h :
    Only m0 z0 s) : OutOnly m0 z0 (execDirectPostedWrite a0 a1 a2 a3 a4 s) := by
  unfold execDirectPostedWrite
  repeat' first
    | with_reducible assumption | exact sub_trans (by decide) hm | with_reducible apply only_landOld
    | with_reducible apply only_State_atTime | with_reducible apply only_refuseAccess | with_reducible apply only_linkOk
    | with_reducible refine Only_ite ?_ ?_ | with_reducible refine OutOnly_next.mpr ?_ | intro _
    | (simp only [↓Only_mk]; with_reducible refine Mk_of hm rfl ?_ ?_) | ((with_reducible refine Upd_rfl ?_); rfl)

theorem only_execDirectNonpostedWrite {m0 : List Part} {z0 : State} (hm : sub [.now, .lanes, .mem, .dma, .bri, .records, .sent, .free] m0 = true)
    (a0) (a1) (a2) (a3) (a4) (s : State) (h :
    Only m0 z0 s) : OutOnly m0 z0 (execDirectNonpostedWrite a0 a1 a2 a3 a4 s) := by
  unfold execDirectNonpostedWrite
  repeat' first
    | with_reducible assumption | exact sub_trans (by decide) hm | with_reducible apply only_State_atTime
    | with_reducible apply only_refuseAccess | with_reducible apply only_linkOk | with_reducible apply only_landBefore
    | with_reducible apply only_openOp | with_reducible apply only_ringBell | with_reducible apply only_ringAbort
    | with_reducible refine Only_ite ?_ ?_ | with_reducible refine OutOnly_next.mpr ?_ | intro _

theorem only_exclusiveRead {m0 : List Part} {z0 : State} (hm : sub [.lanes, .mem, .dma, .bri, .sent] m0 = true)
    (a0) (a1) (s : State) (h : Only m0 z0 s) : Only m0 z0 (exclusiveRead a0 a1 s) := by
  unfold exclusiveRead
  repeat' first
    | with_reducible assumption | exact sub_trans (by decide) hm | with_reducible apply only_dropSemas
    | with_reducible apply only_State_setCore | with_reducible apply only_waitFor | with_reducible apply only_grantRead
    | with_reducible refine Only_ite ?_ ?_ | intro _ | split

theorem only_execExclusiveRead {m0 : List Part} {z0 : State} (hm : sub [.now, .lanes, .mem, .dma, .bri, .sent] m0 = true)
    (a0) (a1) (a2) (a3) (s : State) (h : Only m0 z0 s) : OutOnly m0 z0 (execExclusiveRead a0 a1 a2 a3 s) := by
  unfold execExclusiveRead
  repeat' first
    | with_reducible assumption | exact sub_trans (by decide) hm | with_reducible apply only_State_atTime
    | with_reducible apply only_refuseAccess | with_reducible apply only_exclusiveRead | with_reducible apply only_linkOk
    | with_reducible apply only_landBefore | with_reducible apply only_landOld | with_reducible refine Only_ite ?_ ?_
    | with_reducible refine OutOnly_next.mpr ?_ | intro _ | split

theorem only_execExclusiveWrite {m0 : List Part} {z0 : State} (hm : sub [.now, .lanes, .mem, .dma, .bri, .sent] m0 = true)
    (a0) (a1) (a2) (a3) (s : State) (h : Only m0 z0 s) : OutOnly m0 z0 (execExclusiveWrite a0 a1 a2 a3 s) := by
  unfold execExclusiveWrite
  repeat' first
    | with_reducible assumption | exact sub_trans (by decide) hm | with_reducible apply only_State_atTime
    | with_reducible apply only_dropSemas | with_reducible apply only_commonsWrite
    | with_reducible apply only_refuseAccess | with_reducible apply only_linkOk | with_reducible apply only_landBefore
    | with_reducible apply only_State_setCore | with_reducible apply only_poke | with_reducible apply only_State_emit
    | with_reducible refine Only_ite ?_ ?_ | with_reducible refine OutOnly_next.mpr ?_ | intro _ | split

theorem only_answer {m0 : List Part} {z0 : State} (hm : sub [.lanes, .bri, .sent] m0 = true)
    (a0) (a1) (a2) (s : State) (h : Only m0 z0 s) : Only m0 z0 (answer a0 a1 a2 s) := by
  unfold answer
  repeat' first
    | with_reducible assumption | exact sub_trans (by decide) hm | with_reducible apply only_State_setCore
    | with_reducible apply only_State_emit | (simp only [↓Only_mk]; with_reducible refine Mk_of hm rfl ?_ ?_)
    | ((with_reducible refine Upd_rfl ?_); rfl)

theorem only_execDirectCompletion {m0 : List Part} {z0 : State} (hm : sub [.now, .lanes, .bri, .sent] m0 = true)
    (a0) (a1) (a2) (a3) (s : State) (h : Only m0 z0 s) : OutOnly m0 z0 (execDirectCompletion a0 a1 a2 a3 s) := by
  unfold execDirectCompletion
  repeat' first
    | with_reducible assumption | exact sub_trans (by decide) hm | with_reducible apply only_linkOk
    | with_reducible apply only_State_atTime | with_reducible apply only_answer
    | with_reducible refine OutOnly_next.mpr ?_ | intro _ | split

theorem only_execBridgeTimeout {m0 : List Part} {z0 : State} (hm : sub [.now, .lanes, .bri, .sent] m0 = true)
    (a0) (a1) (a2) (s : State) (h : Only m0 z0 s) : OutOnly m0 z0 (execBridgeTimeout a0 a1 a2 s) := by
  unfold execBridgeTimeout
  repeat' first
    | with_reducible assumption | exact sub_trans (by decide) hm | with_reducible apply only_State_atTime
    | with_reducible apply only_answer | with_reducible refine OutOnly_next.mpr ?_ | intro _ | split

theorem only_execSemaphoreBreak {m0 : List Part} {z0 : State} (hm : sub [.now, .lanes, .mem, .dma, .bri, .records, .sent] m0 = true)
    (a0) (a1) (s : State) (h : Only m0 z0 s) : OutOnly m0 z0 (execSemaphoreBreak a0 a1 s) := by
  unfold execSemaphoreBreak
  repeat' first
    | with_reducible assumption | exact sub_trans (by decide) hm | with_reducible apply only_State_atTime
    | with_reducible apply only_dropSemas | with_reducible apply only_raise | with_reducible refine OutOnly_next.mpr ?_
    | intro _ | (simp only [↓Only_mk]; with_reducible refine Mk_of hm rfl ?_ ?_)
    | ((with_reducible refine Upd_rfl ?_); rfl) | split

theorem only_execLinkReplay {m0 : List Part} {z0 : State} (hm : sub [.now, .bri, .records] m0 = true)
    (a0) (a1) (a2) (s : State) (h : Only m0 z0 s) : OutOnly m0 z0 (execLinkReplay a0 a1 a2 s) := by
  unfold execLinkReplay
  repeat' first
    | with_reducible assumption | exact sub_trans (by decide) hm | with_reducible apply only_State_atTime
    | with_reducible apply only_raise | with_reducible refine Only_ite ?_ ?_ | with_reducible refine OutOnly_next.mpr ?_
    | intro _ | (simp only [↓Only_mk]; with_reducible refine Mk_of hm rfl ?_ ?_)
    | ((with_reducible refine Upd_rfl ?_); rfl)

theorem only_recordLate {m0 : List Part} {z0 : State} (hm : sub [.bri, .records] m0 = true)
    (a0) (a1) (a2) (a3) (a4) (a5) (a6) (s : State) (h : Only m0 z0 s) :
    Only m0 z0 (recordLate a0 a1 a2 a3 a4 a5 a6 s) := by
  unfold recordLate
  repeat' first
    | with_reducible assumption | exact sub_trans (by decide) hm | with_reducible apply only_raiseIf
    | with_reducible apply only_poke | with_reducible apply only_raise | with_reducible refine Only_ite ?_ ?_ | intro _
    | (simp only [↓Only_mk]; with_reducible refine Mk_of hm rfl ?_ ?_) | ((with_reducible refine Upd_rfl ?_); rfl)

theorem only_execLateError {m0 : List Part} {z0 : State} (hm : sub [.now, .bri, .records] m0 = true)
    (a0) (a1) (a2) (a3) (a4) (a5) (a6) (s : State) (h :
    Only m0 z0 s) : OutOnly m0 z0 (execLateError a0 a1 a2 a3 a4 a5 a6 s) := by
  unfold execLateError
  repeat' first
    | with_reducible assumption | exact sub_trans (by decide) hm | with_reducible apply only_State_atTime
    | with_reducible apply only_recordLate | with_reducible refine OutOnly_next.mpr ?_ | intro _
    | (simp only [↓Only_mk]; with_reducible refine Mk_of hm rfl ?_ ?_) | ((with_reducible refine Upd_rfl ?_); rfl)
    | split

theorem only_queueWord {m0 : List Part} {z0 : State} (hm : sub [.lanes, .bri, .records] m0 = true)
    (a0) (a1) (s : State) (a3) (h : Only m0 z0 s) : Only m0 z0 (queueWord a0 a1 s a3) := by
  unfold queueWord
  repeat' first
    | with_reducible assumption | exact sub_trans (by decide) hm | with_reducible apply only_State_setCore
    | with_reducible apply only_raiseIf | with_reducible refine Only_ite ?_ ?_ | intro _
    | (simp only [↓Only_mk]; with_reducible refine Mk_of hm rfl ?_ ?_) | ((with_reducible refine Upd_rfl ?_); rfl)

theorem only_routeWord {m0 : List Part} {z0 : State} (hm : sub [.lanes, .bri, .records] m0 = true)
    (a0) (a1) (s : State) (h : Only m0 z0 s) : Only m0 z0 (routeWord a0 a1 s) := by
  unfold routeWord
  repeat' first
    | with_reducible assumption | exact sub_trans (by decide) hm | with_reducible apply only_queueWord
    | with_reducible refine Only_ite ?_ ?_ | with_reducible apply only_foldl | intro _
    | (simp only [↓Only_mk]; with_reducible refine Mk_of hm rfl ?_ ?_) | ((with_reducible refine Upd_rfl ?_); rfl)

theorem only_execEventPoll {m0 : List Part} {z0 : State} (hm : sub [.now, .lanes, .bri, .records] m0 = true)
    (a0) (s : State) (h : Only m0 z0 s) : OutOnly m0 z0 (execEventPoll a0 s) := by
  unfold execEventPoll
  repeat' first
    | with_reducible assumption | exact sub_trans (by decide) hm | with_reducible apply only_State_atTime
    | with_reducible apply only_routeWord | with_reducible apply only_foldl | with_reducible refine OutOnly_next.mpr ?_
    | intro _ | (simp only [↓Only_mk]; with_reducible refine Mk_of hm rfl ?_ ?_)
    | ((with_reducible refine Upd_rfl ?_); rfl)

theorem only_execDmaDoorbell {m0 : List Part} {z0 : State} (hm : sub [.now, .mem, .dma, .bri, .records] m0 = true)
    (a0) (a1) (a2) (s : State) (h : Only m0 z0 s) : OutOnly m0 z0 (execDmaDoorbell a0 a1 a2 s) := by
  unfold execDmaDoorbell
  repeat' first
    | with_reducible assumption | exact sub_trans (by decide) hm | with_reducible apply only_landOld
    | with_reducible apply only_State_atTime | with_reducible apply only_ringBell | with_reducible refine Only_ite ?_ ?_
    | with_reducible refine OutOnly_next.mpr ?_ | intro _

theorem only_execDmaAbort {m0 : List Part} {z0 : State} (hm : sub [.now, .mem, .dma, .bri, .records, .free] m0 = true)
    (a0) (a1) (a2) (s : State) (h : Only m0 z0 s) : OutOnly m0 z0 (execDmaAbort a0 a1 a2 s) := by
  unfold execDmaAbort
  repeat' first
    | with_reducible assumption | exact sub_trans (by decide) hm | with_reducible apply only_State_atTime
    | with_reducible apply only_ringAbort | with_reducible refine Only_ite ?_ ?_
    | with_reducible refine OutOnly_next.mpr ?_ | intro _

theorem only_followLink {m0 : List Part} {z0 : State} (hm : sub [.bri] m0 = true)
    (a0) (a1) (s : State) (h : Only m0 z0 s) : Only m0 z0 (followLink a0 a1 s) := by
  unfold followLink
  repeat' first
    | with_reducible assumption | exact sub_trans (by decide) hm | with_reducible apply only_State_modRing

theorem only_execDmaDescriptorDone {m0 : List Part} {z0 : State} (hm : sub [.now, .mem, .dma, .bri, .records] m0 = true)
    (a0) (a1) (s : State) (h : Only m0 z0 s) : OutOnly m0 z0 (execDmaDescriptorDone a0 a1 s) := by
  unfold execDmaDescriptorDone
  repeat' first
    | with_reducible assumption | exact sub_trans (by decide) hm | with_reducible apply only_landOld
    | with_reducible apply only_State_atTime | with_reducible apply only_fetchDesc | with_reducible apply only_followLink
    | with_reducible apply only_State_modRing | with_reducible apply only_writeBack | with_reducible apply only_moveBytes
    | with_reducible apply only_advance | with_reducible apply only_poke | with_reducible refine Only_ite ?_ ?_
    | with_reducible refine OutOnly_next.mpr ?_ | intro _

theorem only_execChainLimit {m0 : List Part} {z0 : State} (hm : sub [.now, .mem, .dma, .bri, .records] m0 = true)
    (a0) (a1) (s : State) (h : Only m0 z0 s) : OutOnly m0 z0 (execChainLimit a0 a1 s) := by
  unfold execChainLimit
  repeat' first
    | with_reducible assumption | exact sub_trans (by decide) hm | with_reducible apply only_State_atTime
    | with_reducible apply only_raise | with_reducible apply only_haltRing | with_reducible refine Only_ite ?_ ?_
    | with_reducible refine OutOnly_next.mpr ?_ | intro _

theorem only_haltOne {m0 : List Part} {z0 : State} (hm : sub [.mem, .dma, .bri] m0 = true)
    (a0) (s : State) (a2) (h : Only m0 z0 s) : Only m0 z0 (haltOne a0 s a2) := by
  unfold haltOne
  repeat' first
    | with_reducible assumption | exact sub_trans (by decide) hm | with_reducible apply only_State_modRing
    | with_reducible apply only_writeBack | with_reducible apply only_moveBytes | with_reducible refine Only_ite ?_ ?_
    | intro _

theorem only_execDmaBusError {m0 : List Part} {z0 : State} (hm : sub [.now, .mem, .dma, .bri, .records] m0 = true)
    (a0) (a1) (s : State) (h : Only m0 z0 s) : OutOnly m0 z0 (execDmaBusError a0 a1 s) := by
  unfold execDmaBusError
  extract_lets s1 s2 times final n c s3
  have h1 : Only m0 z0 s1 := only_landOld (sub_trans (by decide) hm) _ (only_State_atTime (sub_trans (by decide) hm) _ _ h)
  clear_value s1
  refine OutOnly_next.mpr (Only_ite (fun _ => h1) (fun _ => ?_))
  have h2 : Only m0 z0 s2 := only_foldl (fun _ _ hq => only_haltOne (sub_trans (by decide) hm) _ _ _ hq) h1
  clear_value s2
  have h3 : Only m0 z0 s3 := Only_upd (d := [.bri]) (sub_trans (by decide) hm) h2 (Upd_of rfl rfl rfl (by intro p; cases p <;> first | exact .inl rfl | exact .inr rfl | exact .inr ⟨rfl, rfl⟩ | exact .inr ⟨rfl, rfl, rfl⟩))
  exact only_raiseIf (sub_trans (by decide) hm) _ _ _ _ (only_poke (sub_trans (by decide) hm) _ _ _ (only_raise (sub_trans (by decide) hm) _ _ _ h3))

theorem only_execDmaRestart {m0 : List Part} {z0 : State} (hm : sub [.now, .mem, .dma, .bri, .records, .free] m0 = true)
    (a0) (s : State) (h : Only m0 z0 s) : OutOnly m0 z0 (execDmaRestart a0 s) := by
  unfold execDmaRestart
  repeat' first
    | with_reducible assumption | exact sub_trans (by decide) hm | with_reducible apply only_State_atTime
    | with_reducible apply only_dmaResume | with_reducible refine OutOnly_next.mpr ?_ | intro _ | split

theorem only_bumpSeq {m0 : List Part} {z0 : State} (hm : sub [.pair] m0 = true)
    (a0) (s : State) (h : Only m0 z0 s) : Only m0 z0 (bumpSeq a0 s) := by
  unfold bumpSeq
  repeat' first
    | with_reducible assumption | (simp only [↓Only_mk]; with_reducible refine Mk_of hm rfl ?_ ?_)
    | ((with_reducible refine Upd_rfl ?_); rfl)

theorem only_sendFrame {m0 : List Part} {z0 : State} (hm : sub [.pair, .sent] m0 = true)
    (a0) (a1) (a2) (a3) (a4) (s : State) (h : Only m0 z0 s) : Only m0 z0 (sendFrame a0 a1 a2 a3 a4 s) := by
  unfold sendFrame
  repeat' first
    | with_reducible assumption | exact sub_trans (by decide) hm | with_reducible apply only_State_emit
    | with_reducible apply only_bumpSeq

theorem only_sendObjectFrom {m0 : List Part} {z0 : State} (hm : sub [.pair, .sent] m0 = true)
    (a0) (a1) (a2) (a3) (a4) (s : State) (h : Only m0 z0 s) : Only m0 z0 (sendObjectFrom a0 a1 a2 a3 a4 s) := by
  induction a3 generalizing a4 s with
  | zero => exact h
  | succ n ih =>
    exact Only_ite (fun _ => only_sendFrame (sub_trans (by decide) hm) _ _ _ _ _ _ h) (fun _ => ih _ _ (only_sendFrame (sub_trans (by decide) hm) _ _ _ _ _ _ h))

theorem only_sendObject {m0 : List Part} {z0 : State} (hm : sub [.pair, .sent] m0 = true)
    (a0) (a1) (a2) (s : State) (h : Only m0 z0 s) : Only m0 z0 (sendObject a0 a1 a2 s) := by
  unfold sendObject
  repeat' first
    | with_reducible assumption | exact sub_trans (by decide) hm | with_reducible apply only_sendObjectFrom

theorem only_sendControl {m0 : List Part} {z0 : State} (hm : sub [.pair, .sent] m0 = true)
    (a0) (s : State) (h : Only m0 z0 s) : Only m0 z0 (sendControl a0 s) := by
  unfold sendControl
  repeat' first
    | with_reducible assumption | exact sub_trans (by decide) hm | with_reducible apply only_State_emit
    | with_reducible apply only_bumpSeq

theorem only_mirror {m0 : List Part} {z0 : State} (hm : sub [.pair, .sent] m0 = true)
    (a0) (s : State) (h : Only m0 z0 s) : Only m0 z0 (mirror a0 s) := by
  unfold mirror
  repeat' first
    | with_reducible assumption | exact sub_trans (by decide) hm | with_reducible apply only_State_emit
    | with_reducible apply only_bumpSeq | with_reducible refine Only_ite ?_ ?_ | intro _

theorem only_forwardImage {m0 : List Part} {z0 : State} (hm : sub [.pair, .sent] m0 = true)
    (a0) (s : State) (h : Only m0 z0 s) : Only m0 z0 (forwardImage a0 s) := by
  unfold forwardImage
  repeat' first
    | with_reducible assumption | exact sub_trans (by decide) hm | with_reducible apply only_sendObject
    | with_reducible refine Only_ite ?_ ?_ | intro _

theorem only_assemble {m0 : List Part} {z0 : State} (hm : sub [.fio, .tel, .bri, .records] m0 = true)
    (a0) (s : State) (h : Only m0 z0 s) : Only m0 z0 (assemble a0 s).1 := by
  unfold assemble
  repeat' first
    | with_reducible assumption | exact sub_trans (by decide) hm | with_reducible apply only_raiseIf
    | with_reducible apply only_fillBus | (simp only [↓Only_mk]; with_reducible refine Mk_of hm rfl ?_ ?_)
    | ((with_reducible refine Upd_rfl ?_); rfl)

theorem only_openVotes {m0 : List Part} {z0 : State} (hm : sub [.rek] m0 = true)
    (a0) (s : State) (h : Only m0 z0 s) : Only m0 z0 (openVotes a0 s) := by
  unfold openVotes
  repeat' first
    | with_reducible assumption | with_reducible refine Only_ite ?_ ?_ | intro _
    | (simp only [↓Only_mk]; with_reducible refine Mk_of hm rfl ?_ ?_) | ((with_reducible refine Upd_rfl ?_); rfl)

theorem only_deliver {m0 : List Part} {z0 : State} (hm : sub [.ctl, .lanes, .rek] m0 = true)
    (a0) (s : State) (h : Only m0 z0 s) : Only m0 z0 (deliver a0 s) := by
  unfold deliver
  repeat' first
    | with_reducible assumption | exact sub_trans (by decide) hm | with_reducible apply only_State_modLanes
    | with_reducible apply only_openVotes | with_reducible refine Only_ite ?_ ?_ | intro _
    | (simp only [↓Only_mk]; with_reducible refine Mk_of hm rfl ?_ ?_) | ((with_reducible refine Upd_rfl ?_); rfl)

theorem only_execImageSealed {m0 : List Part} {z0 : State} (hm : sub [.now, .ctl, .lanes, .rek, .fio, .tel, .bri, .pair, .records, .sent] m0 = true)
    (a0) (s : State) (h : Only m0 z0 s) : OutOnly m0 z0 (execImageSealed a0 s) := by
  unfold execImageSealed
  extract_lets s0 r x c s1
  have h0 : Only m0 z0 s0 := only_State_atTime (sub_trans (by decide) hm) _ _ h
  clear_value s0
  have hr : Only m0 z0 r.1 := only_assemble (sub_trans (by decide) hm) _ _ h0
  clear_value r
  have h1 : Only m0 z0 s1 := Only_upd (d := [.ctl]) (sub_trans (by decide) hm) hr (Upd_rfl rfl)
  clear_value s1
  refine OutOnly_next.mpr (Only_ite (fun _ => Only_ite (fun _ => h1) (fun _ => ?_)) (fun _ => h0))
  exact only_forwardImage (sub_trans (by decide) hm) _ _ (only_deliver (sub_trans (by decide) hm) _ _ h1)

theorem only_execImageLate {m0 : List Part} {z0 : State} (hm : sub [.now, .mode, .ctl, .lanes, .rek, .cis, .fab, .tel, .pair, .records, .sent] m0 = true)
    (a0) (s : State) (h : Only m0 z0 s) : OutOnly m0 z0 (execImageLate a0 s) := by
  unfold execImageLate
  repeat' first
    | with_reducible assumption | exact sub_trans (by decide) hm | with_reducible apply only_State_atTime
    | with_reducible apply only_faultStop | with_reducible apply only_raise | with_reducible apply only_State_modLanes
    | with_reducible refine Only_ite ?_ ?_ | with_reducible refine OutOnly_next.mpr ?_ | intro _

theorem only_execReleaseToken {m0 : List Part} {z0 : State} (hm : sub [.now, .lanes] m0 = true)
    (a0) (a1) (s : State) (h : Only m0 z0 s) : OutOnly m0 z0 (execReleaseToken a0 a1 s) := by
  unfold execReleaseToken
  repeat' first
    | with_reducible assumption | exact sub_trans (by decide) hm | with_reducible apply only_State_atTime
    | with_reducible apply only_State_modLane | with_reducible refine Only_ite ?_ ?_
    | with_reducible refine OutOnly_next.mpr ?_ | intro _ | split

theorem only_dropToken {m0 : List Part} {z0 : State} (hm : sub [.ctl, .lanes] m0 = true)
    (a0) (s : State) (h : Only m0 z0 s) : Only m0 z0 (dropToken a0 s) := by
  unfold dropToken
  repeat' first
    | with_reducible assumption | exact sub_trans (by decide) hm | with_reducible apply only_State_modLane
    | (simp only [↓Only_mk]; with_reducible refine Mk_of hm rfl ?_ ?_) | ((with_reducible refine Upd_rfl ?_); rfl)

theorem only_execTokenTimeout {m0 : List Part} {z0 : State} (hm : sub [.now, .ctl, .lanes] m0 = true)
    (a0) (a1) (s : State) (h : Only m0 z0 s) : OutOnly m0 z0 (execTokenTimeout a0 a1 s) := by
  unfold execTokenTimeout
  repeat' first
    | with_reducible assumption | exact sub_trans (by decide) hm | with_reducible apply only_State_atTime
    | with_reducible apply only_dropToken | with_reducible refine OutOnly_next.mpr ?_ | intro _ | split

theorem only_releaseTasks {m0 : List Part} {z0 : State} (hm : sub [.lanes] m0 = true)
    (a0) (a1) (a2) (a3) (s : State) (h : Only m0 z0 s) : Only m0 z0 (releaseTasks a0 a1 a2 a3 s) := by
  unfold releaseTasks
  repeat' first
    | with_reducible assumption | exact sub_trans (by decide) hm | with_reducible apply only_State_modLane | intro _
    | split

theorem only_drink {m0 : List Part} {z0 : State} (hm : sub [.lanes, .tel, .records] m0 = true)
    (a0) (a1) (a2) (a3) (a4) (a5) (s : State) (h : Only m0 z0 s) : Only m0 z0 (drink a0 a1 a2 a3 a4 a5 s) := by
  unfold drink
  repeat' first
    | with_reducible assumption | exact sub_trans (by decide) hm | with_reducible apply only_State_modLane
    | with_reducible apply only_reportCause | with_reducible apply only_laneComplete
    | with_reducible apply only_releaseTasks | with_reducible refine Only_ite ?_ ?_ | intro _

theorem only_execLaneDrink {m0 : List Part} {z0 : State} (hm : sub [.now, .ctl, .lanes, .tel, .records] m0 = true)
    (a0) (a1) (a2) (a3) (s : State) (h : Only m0 z0 s) : OutOnly m0 z0 (execLaneDrink a0 a1 a2 a3 s) := by
  unfold execLaneDrink
  repeat' first
    | with_reducible assumption | exact sub_trans (by decide) hm | with_reducible apply only_State_atTime
    | with_reducible apply only_dropToken | with_reducible apply only_drink | with_reducible refine OutOnly_next.mpr ?_
    | intro _ | extract_lets +onlyGivenNames _ | split

theorem only_State_modTask {m0 : List Part} {z0 : State} (hm : sub [.ctl] m0 = true)
    (s : State) (a1) (a2) (h : Only m0 z0 s) : Only m0 z0 (State.modTask s a1 a2) := by
  unfold State.modTask
  repeat' first
    | with_reducible assumption | (simp only [↓Only_mk]; with_reducible refine Mk_of hm rfl ?_ ?_)
    | ((with_reducible refine Upd_rfl ?_); rfl)

theorem only_splitFault {m0 : List Part} {z0 : State} (hm : sub [.ctl, .records] m0 = true)
    (a0) (a1) (a2) (s : State) (h : Only m0 z0 s) : Only m0 z0 (splitFault a0 a1 a2 s) := by
  unfold splitFault
  repeat' first
    | with_reducible assumption | exact sub_trans (by decide) hm | with_reducible apply only_raiseLane
    | with_reducible apply only_State_modTask

theorem only_execTallyMessage {m0 : List Part} {z0 : State} (hm : sub [.now, .rek] m0 = true)
    (a0) (a1) (a2) (a3) (a4) (a5) (a6) (s : State) (h :
    Only m0 z0 s) : OutOnly m0 z0 (execTallyMessage a0 a1 a2 a3 a4 a5 a6 s) := by
  unfold execTallyMessage
  repeat' first
    | with_reducible assumption | exact sub_trans (by decide) hm | with_reducible apply only_State_atTime
    | with_reducible refine Only_ite ?_ ?_ | with_reducible refine OutOnly_next.mpr ?_ | intro _
    | (simp only [↓Only_mk]; with_reducible refine Mk_of hm rfl ?_ ?_) | ((with_reducible refine Upd_rfl ?_); rfl)

theorem only_abandonLane {m0 : List Part} {z0 : State} (hm : sub [.lanes, .rek] m0 = true)
    (a0) (a1) (s : State) (h : Only m0 z0 s) : Only m0 z0 (abandonLane a0 a1 s) := by
  unfold abandonLane
  repeat' first
    | with_reducible assumption | exact sub_trans (by decide) hm | with_reducible apply only_State_setCore
    | with_reducible apply only_foldl | intro _ | (simp only [↓Only_mk]; with_reducible refine Mk_of hm rfl ?_ ?_)
    | ((with_reducible refine Upd_rfl ?_); rfl)

theorem only_abandonLate {m0 : List Part} {z0 : State} (hm : sub [.lanes, .rek] m0 = true)
    (a0) (s : State) (h : Only m0 z0 s) : Only m0 z0 (abandonLate a0 s) := by
  unfold abandonLate
  repeat' first
    | with_reducible assumption | exact sub_trans (by decide) hm | with_reducible apply only_abandonLane
    | with_reducible apply only_foldl | intro _

theorem only_windowEvent {m0 : List Part} {z0 : State} (hm : sub [.ctl, .records] m0 = true)
    (a0) (a1) (s : State) (h : Only m0 z0 s) : Only m0 z0 (windowEvent a0 a1 s) := by
  unfold windowEvent
  repeat' first
    | with_reducible assumption | exact sub_trans (by decide) hm | with_reducible apply only_raise
    | with_reducible apply only_State_modTask | split

theorem only_faultSplits {m0 : List Part} {z0 : State} (hm : sub [.ctl, .rek, .records] m0 = true)
    (a0) (s : State) (h : Only m0 z0 s) : Only m0 z0 (faultSplits a0 s) := by
  unfold faultSplits
  repeat' first
    | with_reducible assumption | exact sub_trans (by decide) hm | with_reducible apply only_splitFault
    | with_reducible refine Only_ite ?_ ?_ | with_reducible apply only_foldl | intro _
    | (simp only [↓Only_mk]; with_reducible refine Mk_of hm rfl ?_ ?_) | ((with_reducible refine Upd_rfl ?_); rfl)

theorem only_failDeadline {m0 : List Part} {z0 : State} (hm : sub [.mode, .ctl, .lanes, .rek, .cis, .fab, .fio, .tel, .pair, .records, .sent] m0 = true)
    (a0) (a1) (s : State) (h : Only m0 z0 s) : Only m0 z0 (failDeadline a0 a1 s) := by
  unfold failDeadline
  repeat' first
    | with_reducible assumption | exact sub_trans (by decide) hm | with_reducible apply only_faultStopWith
    | with_reducible apply only_refresh | (simp only [↓Only_mk]; with_reducible refine Mk_of hm rfl ?_ ?_)
    | ((with_reducible refine Upd_rfl ?_); rfl)

theorem only_decideWindows {m0 : List Part} {z0 : State} (hm : sub [.mode, .ctl, .lanes, .rek, .mem, .cis, .fab, .fio, .tel, .dma, .bri, .pair, .records, .sent, .free] m0 = true)
    (a0) (a1) (a2) (a3) (a4) (a5) (a6) (s : State) (h : Only m0 z0 s) :
    Only m0 z0 (decideWindows a0 a1 a2 a3 a4 a5 a6 s) := by
  unfold decideWindows
  repeat' first
    | with_reducible assumption | exact sub_trans (by decide) hm | with_reducible apply only_windowEvent
    | with_reducible apply only_raiseIf | with_reducible apply only_excludeLane | with_reducible apply only_failDeadline
    | with_reducible apply only_raise | with_reducible apply only_faultSplits | with_reducible apply only_lanesCheck
    | with_reducible refine Only_ite ?_ ?_ | with_reducible apply only_foldl | intro _
    | (extract_lets +onlyGivenNames x; have hx : Only m0 z0 x := ?hx; case' hx => unfold x)
    | extract_lets +onlyGivenNames _ | (simp only [↓Only_mk]; with_reducible refine Mk_of hm rfl ?_ ?_)
    | ((with_reducible refine Upd_rfl ?_); rfl) | split | dsimp only

theorem only_decideDeadline {m0 : List Part} {z0 : State} (hm : sub [.mode, .ctl, .lanes, .rek, .mem, .cis, .fab, .fio, .tel, .dma, .bri, .pair, .records, .sent, .free] m0 = true)
    (s : State) (h : Only m0 z0 s) : Only m0 z0 (decideDeadline s) := by
  unfold decideDeadline
  repeat' first
    | with_reducible assumption | exact sub_trans (by decide) hm | with_reducible apply only_abandonLate
    | with_reducible apply only_decideWindows | with_reducible refine Only_ite ?_ ?_ | intro _
    | extract_lets +onlyGivenNames _ | split

theorem only_reckonerDisagree {m0 : List Part} {z0 : State} (hm : sub [.mode, .ctl, .lanes, .rek, .cis, .fab, .fio, .tel, .pair, .records, .sent] m0 = true)
    (s : State) (h : Only m0 z0 s) : Only m0 z0 (reckonerDisagree s) := by
  unfold reckonerDisagree
  repeat' first
    | with_reducible assumption | exact sub_trans (by decide) hm | with_reducible apply only_lockout
    | with_reducible apply only_raiseFab | (simp only [↓Only_mk]; with_reducible refine Mk_of hm rfl ?_ ?_)
    | ((with_reducible refine Upd_rfl ?_); rfl)

theorem only_execVoteDeadline {m0 : List Part} {z0 : State} (hm : sub [.now, .mode, .ctl, .lanes, .rek, .mem, .cis, .fab, .fio, .tel, .dma, .bri, .pair, .records, .sent, .free] m0 = true)
    (a0) (a1) (a2) (s : State) (h : Only m0 z0 s) : OutOnly m0 z0 (execVoteDeadline a0 a1 a2 s) := by
  unfold execVoteDeadline
  repeat' first
    | with_reducible assumption | exact sub_trans (by decide) hm | with_reducible apply only_State_atTime
    | with_reducible apply only_decideDeadline | with_reducible apply only_reckonerDisagree
    | with_reducible refine Only_ite ?_ ?_ | with_reducible refine OutOnly_next.mpr ?_ | intro _
    | (simp only [↓Only_mk]; with_reducible refine Mk_of hm rfl ?_ ?_) | ((with_reducible refine Upd_rfl ?_); rfl)

theorem only_execVerdictTimeout {m0 : List Part} {z0 : State} (hm : sub [.now, .mode, .ctl, .lanes, .rek, .cis, .fab, .fio, .tel, .pair, .records, .sent] m0 = true)
    (a0) (s : State) (h : Only m0 z0 s) : OutOnly m0 z0 (execVerdictTimeout a0 s) := by
  unfold execVerdictTimeout
  repeat' first
    | with_reducible assumption | exact sub_trans (by decide) hm | with_reducible apply only_State_atTime
    | with_reducible apply only_reckonerDisagree | with_reducible refine Only_ite ?_ ?_
    | with_reducible refine OutOnly_next.mpr ?_ | intro _

theorem only_decideHold {m0 : List Part} {z0 : State} (hm : sub [.mode, .ctl, .lanes, .rek, .mem, .cis, .fab, .fio, .tel, .dma, .bri, .pair, .records, .sent, .free] m0 = true)
    (a0) (s : State) (h : Only m0 z0 s) : Only m0 z0 (decideHold a0 s) := by
  unfold decideHold
  repeat' first
    | with_reducible assumption | exact sub_trans (by decide) hm | with_reducible apply only_windowEvent
    | with_reducible apply only_excludeLane | with_reducible apply only_failDeadline
    | with_reducible apply only_lanesCheck | with_reducible refine Only_ite ?_ ?_ | with_reducible apply only_foldl
    | intro _ | (extract_lets +onlyGivenNames x; have hx : Only m0 z0 x := ?hx; case' hx => unfold x)
    | extract_lets +onlyGivenNames _ | (simp only [↓Only_mk]; with_reducible refine Mk_of hm rfl ?_ ?_)
    | ((with_reducible refine Upd_rfl ?_); rfl) | split | dsimp only

theorem only_execHoldVote {m0 : List Part} {z0 : State} (hm : sub [.now, .mode, .ctl, .lanes, .rek, .mem, .cis, .fab, .fio, .tel, .dma, .bri, .pair, .records, .sent, .free] m0 = true)
    (a0) (a1) (a2) (s : State) (h : Only m0 z0 s) : OutOnly m0 z0 (execHoldVote a0 a1 a2 s) := by
  unfold execHoldVote
  repeat' first
    | with_reducible assumption | exact sub_trans (by decide) hm | with_reducible apply only_State_atTime
    | with_reducible apply only_decideHold | with_reducible refine OutOnly_next.mpr ?_ | intro _ | split

theorem only_execLaneEccError {m0 : List Part} {z0 : State} (hm : sub [.now, .lanes] m0 = true)
    (a0) (a1) (s : State) (h : Only m0 z0 s) : OutOnly m0 z0 (execLaneEccError a0 a1 s) := by
  unfold execLaneEccError
  repeat' first
    | with_reducible assumption | exact sub_trans (by decide) hm | with_reducible apply only_reportCause
    | with_reducible apply only_State_atTime | with_reducible refine OutOnly_next.mpr ?_

theorem only_execLaneTrap {m0 : List Part} {z0 : State} (hm : sub [.now, .lanes] m0 = true)
    (a0) (a1) (s : State) (h : Only m0 z0 s) : OutOnly m0 z0 (execLaneTrap a0 a1 s) := by
  unfold execLaneTrap
  repeat' first
    | with_reducible assumption | exact sub_trans (by decide) hm | with_reducible apply only_reportCause
    | with_reducible apply only_State_atTime | with_reducible refine OutOnly_next.mpr ?_

theorem only_warmMark {m0 : List Part} {z0 : State} (hm : sub [.ctl] m0 = true)
    (a0) (a1) (s : State) (h : Only m0 z0 s) : Only m0 z0 (warmMark a0 a1 s) := by
  unfold warmMark
  repeat' first
    | with_reducible assumption | (simp only [↓Only_mk]; with_reducible refine Mk_of hm rfl ?_ ?_)
    | ((with_reducible refine Upd_rfl ?_); rfl) | split

theorem only_execLaneResetComplete {m0 : List Part} {z0 : State} (hm : sub [.now, .ctl, .lanes] m0 = true)
    (a0) (a1) (a2) (s : State) (h : Only m0 z0 s) : OutOnly m0 z0 (execLaneResetComplete a0 a1 a2 s) := by
  unfold execLaneResetComplete
  repeat' first
    | with_reducible assumption | exact sub_trans (by decide) hm | with_reducible apply only_State_atTime
    | with_reducible apply only_warmMark | with_reducible apply only_State_modLane | with_reducible refine Only_ite ?_ ?_
    | with_reducible refine OutOnly_next.mpr ?_ | intro _

theorem only_enterReint {m0 : List Part} {z0 : State} (hm : sub [.lanes, .records] m0 = true)
    (a0) (s : State) (h : Only m0 z0 s) : Only m0 z0 (enterReint a0 s) := by
  unfold enterReint
  repeat' first
    | with_reducible assumption | exact sub_trans (by decide) hm | with_reducible apply only_raiseLane
    | with_reducible apply only_State_modLane

theorem only_laneBoundary {m0 : List Part} {z0 : State} (hm : sub [.lanes, .records] m0 = true)
    (a0) (s : State) (h : Only m0 z0 s) : Only m0 z0 (laneBoundary a0 s) := by
  unfold laneBoundary
  repeat' first
    | with_reducible assumption | exact sub_trans (by decide) hm | with_reducible apply only_enterReint
    | with_reducible apply only_laneToOut | with_reducible refine Only_ite ?_ ?_ | intro _

theorem only_reintFailed {m0 : List Part} {z0 : State} (hm : sub [.ctl, .lanes, .rek, .mem, .dma, .bri, .records, .sent, .free] m0 = true)
    (a0) (s : State) (h : Only m0 z0 s) : Only m0 z0 (reintFailed a0 s) := by
  unfold reintFailed
  repeat' first
    | with_reducible assumption | exact sub_trans (by decide) hm | with_reducible apply only_excludeLane
    | with_reducible apply only_raiseLane

theorem only_execReintegrationCopyComplete {m0 : List Part} {z0 : State} (hm : sub [.now, .ctl, .lanes, .rek, .mem, .dma, .bri, .records, .sent, .free] m0 = true)
    (a0) (a1) (a2) (s : State) (h : Only m0 z0 s) : OutOnly m0 z0 (execReintegrationCopyComplete a0 a1 a2 s) := by
  unfold execReintegrationCopyComplete
  repeat' first
    | with_reducible assumption | exact sub_trans (by decide) hm | with_reducible apply only_State_atTime
    | with_reducible apply only_State_modLane | with_reducible apply only_reintFailed
    | with_reducible refine OutOnly_next.mpr ?_ | intro _ | split

theorem only_execReintegrationTimeout {m0 : List Part} {z0 : State} (hm : sub [.now, .ctl, .lanes, .rek, .mem, .dma, .bri, .records, .sent, .free] m0 = true)
    (a0) (a1) (s : State) (h : Only m0 z0 s) : OutOnly m0 z0 (execReintegrationTimeout a0 a1 s) := by
  unfold execReintegrationTimeout
  repeat' first
    | with_reducible assumption | exact sub_trans (by decide) hm | with_reducible apply only_State_atTime
    | with_reducible apply only_reintFailed | with_reducible refine OutOnly_next.mpr ?_ | intro _ | split

theorem only_execLaneRejoin {m0 : List Part} {z0 : State} (hm : sub [.now, .ctl, .lanes, .records] m0 = true)
    (a0) (a1) (s : State) (h : Only m0 z0 s) : OutOnly m0 z0 (execLaneRejoin a0 a1 s) := by
  unfold execLaneRejoin
  repeat' first
    | with_reducible assumption | exact sub_trans (by decide) hm | with_reducible apply only_State_atTime
    | with_reducible apply only_State_modLane | with_reducible apply only_raiseLane
    | with_reducible apply only_State_modTask | with_reducible refine Only_ite ?_ ?_ | with_reducible apply only_foldl
    | with_reducible refine OutOnly_next.mpr ?_ | intro _

theorem only_dropMoved {m0 : List Part} {z0 : State} (hm : sub [.lanes, .rek] m0 = true)
    (a0) (s : State) (h : Only m0 z0 s) : Only m0 z0 (dropMoved a0 s) := by
  unfold dropMoved
  repeat' first
    | with_reducible assumption | exact sub_trans (by decide) hm | with_reducible apply only_State_modLanes
    | (simp only [↓Only_mk]; with_reducible refine Mk_of hm rfl ?_ ?_) | ((with_reducible refine Upd_rfl ?_); rfl)

theorem only_execPlacementMove {m0 : List Part} {z0 : State} (hm : sub [.now, .ctl, .lanes, .rek] m0 = true)
    (a0) (s : State) (h : Only m0 z0 s) : OutOnly m0 z0 (execPlacementMove a0 s) := by
  unfold execPlacementMove
  repeat' first
    | with_reducible assumption | exact sub_trans (by decide) hm | with_reducible apply only_State_atTime
    | with_reducible apply only_dropMoved | with_reducible refine Only_ite ?_ ?_
    | with_reducible refine OutOnly_next.mpr ?_ | intro _
    | (simp only [↓Only_mk]; with_reducible refine Mk_of hm rfl ?_ ?_) | ((with_reducible refine Upd_rfl ?_); rfl)

theorem only_execPlacementResume {m0 : List Part} {z0 : State} (hm : sub [.now, .ctl, .records] m0 = true)
    (a0) (s : State) (h : Only m0 z0 s) : OutOnly m0 z0 (execPlacementResume a0 s) := by
  unfold execPlacementResume
  repeat' first
    | with_reducible assumption | exact sub_trans (by decide) hm | with_reducible apply only_State_atTime
    | with_reducible apply only_State_modTask | with_reducible apply only_raise | with_reducible refine Only_ite ?_ ?_
    | with_reducible apply only_foldl | with_reducible refine OutOnly_next.mpr ?_ | intro _
    | (simp only [↓Only_mk]; with_reducible refine Mk_of hm rfl ?_ ?_) | ((with_reducible refine Upd_rfl ?_); rfl)

theorem only_execFallbackMove {m0 : List Part} {z0 : State} (hm : sub [.now, .ctl, .records] m0 = true)
    (a0) (a1) (s : State) (h : Only m0 z0 s) : OutOnly m0 z0 (execFallbackMove a0 a1 s) := by
  unfold execFallbackMove
  repeat' first
    | with_reducible assumption | exact sub_trans (by decide) hm | with_reducible apply only_State_atTime
    | with_reducible apply only_State_modTask | with_reducible apply only_raise | with_reducible refine Only_ite ?_ ?_
    | with_reducible refine OutOnly_next.mpr ?_ | intro _ | split

theorem only_logDebug {m0 : List Part} {z0 : State} (hm : sub [.ctl] m0 = true)
    (a0) (s : State) (h : Only m0 z0 s) : Only m0 z0 (logDebug a0 s) := by
  unfold logDebug
  repeat' first
    | with_reducible assumption | (simp only [↓Only_mk]; with_reducible refine Mk_of hm rfl ?_ ?_)
    | ((with_reducible refine Upd_rfl ?_); rfl)

theorem only_execDebugBreakpoint {m0 : List Part} {z0 : State} (hm : sub [.now, .ctl] m0 = true)
    (a0) (a1) (s : State) (h : Only m0 z0 s) : OutOnly m0 z0 (execDebugBreakpoint a0 a1 s) := by
  unfold execDebugBreakpoint
  repeat' first
    | with_reducible assumption | exact sub_trans (by decide) hm | with_reducible apply only_State_atTime
    | with_reducible apply only_logDebug | with_reducible refine Only_ite ?_ ?_
    | with_reducible refine OutOnly_next.mpr ?_ | intro _
    | (simp only [↓Only_mk]; with_reducible refine Mk_of hm rfl ?_ ?_) | ((with_reducible refine Upd_rfl ?_); rfl)

theorem only_execDebugRun {m0 : List Part} {z0 : State} (hm : sub [.now, .ctl] m0 = true)
    (a0) (s : State) (h : Only m0 z0 s) : OutOnly m0 z0 (execDebugRun a0 s) := by
  unfold execDebugRun
  repeat' first
    | with_reducible assumption | exact sub_trans (by decide) hm | with_reducible apply only_State_atTime
    | with_reducible apply only_logDebug | with_reducible refine Only_ite ?_ ?_
    | with_reducible refine OutOnly_next.mpr ?_ | intro _
    | (simp only [↓Only_mk]; with_reducible refine Mk_of hm rfl ?_ ?_) | ((with_reducible refine Upd_rfl ?_); rfl)

theorem only_execDebugStep {m0 : List Part} {z0 : State} (hm : sub [.now, .ctl] m0 = true)
    (a0) (a1) (s : State) (h : Only m0 z0 s) : OutOnly m0 z0 (execDebugStep a0 a1 s) := by
  unfold execDebugStep
  repeat' first
    | with_reducible assumption | exact sub_trans (by decide) hm | with_reducible apply only_State_atTime
    | with_reducible apply only_logDebug | with_reducible refine Only_ite ?_ ?_
    | with_reducible refine OutOnly_next.mpr ?_ | intro _
    | (simp only [↓Only_mk]; with_reducible refine Mk_of hm rfl ?_ ?_) | ((with_reducible refine Upd_rfl ?_); rfl)

theorem only_execDebugWriteVariable {m0 : List Part} {z0 : State} (hm : sub [.now, .ctl, .lanes, .rek] m0 = true)
    (a0) (a1) (a2) (s : State) (h : Only m0 z0 s) : OutOnly m0 z0 (execDebugWriteVariable a0 a1 a2 s) := by
  unfold execDebugWriteVariable
  repeat' first
    | with_reducible assumption | exact sub_trans (by decide) hm | with_reducible apply only_State_atTime
    | with_reducible apply only_debugReplay | with_reducible apply only_logDebug
    | with_reducible refine OutOnly_next.mpr ?_ | intro _
    | (simp only [↓Only_mk]; with_reducible refine Mk_of hm rfl ?_ ?_) | ((with_reducible refine Upd_rfl ?_); rfl)
    | split

theorem only_execBreakpointHit {m0 : List Part} {z0 : State} (hm : sub [.now, .ctl] m0 = true)
    (a0) (a1) (s : State) (h : Only m0 z0 s) : OutOnly m0 z0 (execBreakpointHit a0 a1 s) := by
  unfold execBreakpointHit
  repeat' first
    | with_reducible assumption | exact sub_trans (by decide) hm | with_reducible apply only_State_atTime
    | with_reducible refine OutOnly_next.mpr ?_ | intro _
    | (simp only [↓Only_mk]; with_reducible refine Mk_of hm rfl ?_ ?_) | ((with_reducible refine Upd_rfl ?_); rfl)
    | split

end Sys2Proof.Machine
end

