-- ==== Sys2Proof/Laws/OnlyD.lean ====
section
/-! SUPPORT. The parts of a state that each operation touches (Laws/Frames.lean): building an image, time, the switch and the start. -/

set_option Elab.async false

set_option linter.all false

namespace Sys2Proof.Machine

theorem only_rejectImage {m0 : List Part} {z0 : State} (hm : sub [.ctl, .records] m0 = true)
    (a0) (a1) (s : State) (h : Only m0 z0 s) : Only m0 z0 (rejectImage a0 a1 s) := by
  unfold rejectImage
  repeat' first
    | with_reducible assumption | exact sub_trans (by decide) hm | with_reducible apply only_raiseLane
    | (simp only [↓Only_mk]; with_reducible refine Mk_of hm rfl ?_ ?_) | ((with_reducible refine Upd_rfl ?_); rfl)

theorem only_restoreRetained {m0 : List Part} {z0 : State} (hm : sub [.mem, .records] m0 = true)
    (a0) (s : State) (h : Only m0 z0 s) : Only m0 z0 (restoreRetained a0 s) := by
  unfold restoreRetained
  repeat' first
    | with_reducible assumption | exact sub_trans (by decide) hm | with_reducible apply only_raise
    | with_reducible refine Only_ite ?_ ?_ | with_reducible apply only_foldl | intro _
    | (extract_lets +onlyGivenNames x; have hx : Only m0 z0 x := ?hx; case' hx => unfold x)
    | extract_lets +onlyGivenNames _ | (simp only [↓Only_mk]; with_reducible refine Mk_of hm rfl ?_ ?_)
    | ((with_reducible refine Upd_rfl ?_); rfl) | split | dsimp only

theorem only_setStagger {m0 : List Part} {z0 : State} (hm : sub [.ctl, .records] m0 = true)
    (a0) (s : State) (h : Only m0 z0 s) : Only m0 z0 (setStagger a0 s) := by
  unfold setStagger
  repeat' first
    | with_reducible assumption | exact sub_trans (by decide) hm | with_reducible apply only_raiseIf
    | (simp only [↓Only_mk]; with_reducible refine Mk_of hm rfl ?_ ?_) | ((with_reducible refine Upd_rfl ?_); rfl)

theorem only_forceGone {m0 : List Part} {z0 : State} (hm : sub [.records] m0 = true)
    (a0) (a1) (s : State) (h : Only m0 z0 s) : Only m0 z0 (forceGone a0 a1 s) := by
  unfold forceGone
  repeat' first
    | with_reducible assumption | exact sub_trans (by decide) hm | with_reducible apply only_raise

theorem only_dropForces {m0 : List Part} {z0 : State} (hm : sub [.ctl, .records] m0 = true)
    (a0) (s : State) (h : Only m0 z0 s) : Only m0 z0 (dropForces a0 s) := by
  unfold dropForces
  repeat' first
    | with_reducible assumption | exact sub_trans (by decide) hm | with_reducible apply only_forceGone
    | with_reducible apply only_foldl | intro _ | (simp only [↓Only_mk]; with_reducible refine Mk_of hm rfl ?_ ?_)
    | ((with_reducible refine Upd_rfl ?_); rfl)

theorem only_takeUnforced {m0 : List Part} {z0 : State} (hm : sub [.cis] m0 = true)
    (a0) (s : State) (h : Only m0 z0 s) : Only m0 z0 (takeUnforced a0 s) := by
  unfold takeUnforced
  repeat' first
    | with_reducible assumption | (simp only [↓Only_mk]; with_reducible refine Mk_of hm rfl ?_ ?_)
    | ((with_reducible refine Upd_rfl ?_); rfl)

theorem only_installImage {m0 : List Part} {z0 : State} (hm : sub [.ctl, .lanes, .cis, .fab, .records] m0 = true)
    (a0) (s : State) (h : Only m0 z0 s) : Only m0 z0 (installImage a0 s) := by
  unfold installImage
  repeat' first
    | with_reducible assumption | exact sub_trans (by decide) hm | with_reducible apply only_State_modLanes
    | with_reducible apply only_State_modTask | with_reducible apply only_checkBindings
    | with_reducible apply only_takeUnforced | with_reducible apply only_setStagger
    | with_reducible apply only_dropForces | with_reducible refine Only_ite ?_ ?_ | with_reducible apply only_foldl
    | intro _ | (simp only [↓Only_mk]; with_reducible refine Mk_of hm rfl ?_ ?_)
    | ((with_reducible refine Upd_rfl ?_); rfl)

theorem only_dissentOut {m0 : List Part} {z0 : State} (hm : sub [.lanes, .records] m0 = true)
    (a0) (s : State) (a2) (h : Only m0 z0 s) : Only m0 z0 (dissentOut a0 s a2) := by
  unfold dissentOut
  repeat' first
    | with_reducible assumption | exact sub_trans (by decide) hm | with_reducible apply only_laneToOut
    | with_reducible apply only_raiseLane | with_reducible refine Only_ite ?_ ?_ | intro _

theorem only_voteBindings {m0 : List Part} {z0 : State} (hm : sub [.mode, .ctl, .lanes, .rek, .cis, .fab, .tel, .pair, .records, .sent] m0 = true)
    (a0) (s : State) (h : Only m0 z0 s) : Only m0 z0 (voteBindings a0 s) := by
  unfold voteBindings
  repeat' first
    | with_reducible assumption | exact sub_trans (by decide) hm | with_reducible apply only_State_modLane
    | with_reducible apply only_dissentOut | with_reducible apply only_faultStop | with_reducible apply only_raise
    | with_reducible refine Only_ite ?_ ?_ | with_reducible apply only_foldl | intro _

theorem only_writeRetained {m0 : List Part} {z0 : State} (hm : sub [.cis] m0 = true)
    (s : State) (h : Only m0 z0 s) : Only m0 z0 (writeRetained s) := by
  unfold writeRetained
  repeat' first
    | with_reducible assumption | with_reducible refine Only_ite ?_ ?_ | intro _
    | (simp only [↓Only_mk]; with_reducible refine Mk_of hm rfl ?_ ?_) | ((with_reducible refine Upd_rfl ?_); rfl)

theorem only_takeDigest {m0 : List Part} {z0 : State} (hm : sub [.ctl] m0 = true)
    (s : State) (h : Only m0 z0 s) : Only m0 z0 (takeDigest s) := by
  unfold takeDigest
  repeat' first
    | with_reducible assumption | (simp only [↓Only_mk]; with_reducible refine Mk_of hm rfl ?_ ?_)
    | ((with_reducible refine Upd_rfl ?_); rfl) | split

theorem only_carryTo {m0 : List Part} {z0 : State} (hm : sub [.ctl, .lanes, .mem, .cis, .fab, .tel, .records] m0 = true)
    (a0) (s : State) (h : Only m0 z0 s) : Only m0 z0 (carryTo a0 s) := by
  unfold carryTo
  repeat' first
    | with_reducible assumption | exact sub_trans (by decide) hm | with_reducible apply only_State_modLanes
    | with_reducible apply only_takeDigest | with_reducible apply only_applyBindings
    | with_reducible apply only_installImage | with_reducible refine Only_ite ?_ ?_ | with_reducible apply only_foldl
    | intro _ | (extract_lets +onlyGivenNames x; have hx : Only m0 z0 x := ?hx; case' hx => unfold x)
    | extract_lets +onlyGivenNames _ | (simp only [↓Only_mk]; with_reducible refine Mk_of hm rfl ?_ ?_)
    | ((with_reducible refine Upd_rfl ?_); rfl) | split | dsimp only

theorem only_exchangeTo {m0 : List Part} {z0 : State} (hm : sub [.ctl, .lanes, .mem, .cis, .fab, .tel, .records] m0 = true)
    (a0) (s : State) (h : Only m0 z0 s) : Only m0 z0 (exchangeTo a0 s) := by
  unfold exchangeTo
  repeat' first
    | with_reducible assumption | exact sub_trans (by decide) hm | with_reducible apply only_writeRetained
    | with_reducible apply only_State_modLanes | with_reducible apply only_carryTo

theorem only_State_odStore {m0 : List Part} {z0 : State} (hm : sub [.od] m0 = true)
    (s : State) (a1) (a2) (a3) (h : Only m0 z0 s) : Only m0 z0 (State.odStore s a1 a2 a3) := by
  unfold State.odStore
  repeat' first
    | with_reducible assumption | exact sub_trans (by decide) hm | with_reducible apply only_State_odSet
    | with_reducible refine Only_ite ?_ ?_ | intro _ | (simp only [↓Only_mk]; with_reducible refine Mk_of hm rfl ?_ ?_)
    | ((with_reducible refine Upd_rfl ?_); rfl)

theorem only_takeFunction {m0 : List Part} {z0 : State} (hm : sub [.time, .od, .records] m0 = true)
    (s : State) (a1) (h : Only m0 z0 s) : Only m0 z0 (takeFunction s a1) := by
  unfold takeFunction
  repeat' first
    | with_reducible assumption | exact sub_trans (by decide) hm | with_reducible apply only_raise
    | with_reducible refine Only_ite ?_ ?_ | intro _ | (simp only [↓Only_mk]; with_reducible refine Mk_of hm rfl ?_ ?_)
    | ((with_reducible refine Upd_rfl ?_); rfl)

theorem only_takeInForce {m0 : List Part} {z0 : State} (hm : sub [.time, .od, .records] m0 = true)
    (s : State) (h : Only m0 z0 s) : Only m0 z0 (takeInForce s) := by
  unfold takeInForce
  repeat' first
    | with_reducible assumption | exact sub_trans (by decide) hm | with_reducible apply only_takeFunction
    | with_reducible apply only_foldl | (simp only [↓Only_mk]; with_reducible refine Mk_of hm rfl ?_ ?_)
    | ((with_reducible refine Upd_rfl ?_); rfl)

theorem only_loadConfig {m0 : List Part} {z0 : State} (hm : sub [.time, .od, .records] m0 = true)
    (s : State) (h : Only m0 z0 s) : Only m0 z0 (loadConfig s) := by
  unfold loadConfig
  repeat' first
    | with_reducible assumption | exact sub_trans (by decide) hm | with_reducible apply only_takeInForce
    | (simp only [↓Only_mk]; with_reducible refine Mk_of hm rfl ?_ ?_) | ((with_reducible refine Upd_rfl ?_); rfl)

theorem only_beginTrial {m0 : List Part} {z0 : State} (hm : sub [.upd, .records] m0 = true)
    (a0) (s : State) (h : Only m0 z0 s) : Only m0 z0 (beginTrial a0 s) := by
  unfold beginTrial
  repeat' first
    | with_reducible assumption | exact sub_trans (by decide) hm | with_reducible apply only_raise
    | (simp only [↓Only_mk]; with_reducible refine Mk_of hm rfl ?_ ?_) | ((with_reducible refine Upd_rfl ?_); rfl)

theorem only_raiseRollback {m0 : List Part} {z0 : State} (hm : sub [.fab] m0 = true)
    (a0) (a1) (s : State) (h : Only m0 z0 s) : Only m0 z0 (raiseRollback a0 a1 s) := by
  unfold raiseRollback
  repeat' first
    | with_reducible assumption | exact sub_trans (by decide) hm | with_reducible refine Only_ite ?_ ?_
    | with_reducible apply only_foldl | intro _
    | (extract_lets +onlyGivenNames x; have hx : Only m0 z0 x := ?hx; case' hx => unfold x)
    | extract_lets +onlyGivenNames _ | (simp only [↓Only_mk]; with_reducible refine Mk_of hm rfl ?_ ?_)
    | ((with_reducible refine Upd_rfl ?_); rfl) | split | dsimp only

theorem only_passTrial {m0 : List Part} {z0 : State} (hm : sub [.fab, .upd, .records] m0 = true)
    (s : State) (h : Only m0 z0 s) : Only m0 z0 (passTrial s) := by
  unfold passTrial
  repeat' first
    | with_reducible assumption | exact sub_trans (by decide) hm | with_reducible apply only_raiseRollback
    | with_reducible apply only_raise | with_reducible refine Only_ite ?_ ?_ | with_reducible apply only_foldl | intro _
    | (extract_lets +onlyGivenNames x; have hx : Only m0 z0 x := ?hx; case' hx => unfold x)
    | extract_lets +onlyGivenNames _ | (simp only [↓Only_mk]; with_reducible refine Mk_of hm rfl ?_ ?_)
    | ((with_reducible refine Upd_rfl ?_); rfl) | split | dsimp only

theorem only_selectImageSlot {m0 : List Part} {z0 : State} (hm : sub [.upd] m0 = true)
    (a0) (a1) (s : State) (h : Only m0 z0 s) : Only m0 z0 (selectImageSlot a0 a1 s) := by
  unfold selectImageSlot
  repeat' first
    | with_reducible assumption | (simp only [↓Only_mk]; with_reducible refine Mk_of hm rfl ?_ ?_)
    | ((with_reducible refine Upd_rfl ?_); rfl)

theorem only_stopNetwork {m0 : List Part} {z0 : State} (hm : sub [.sw, .tel, .od] m0 = true)
    (s : State) (h : Only m0 z0 s) : Only m0 z0 (stopNetwork s) := by
  unfold stopNetwork
  repeat' first
    | with_reducible assumption | (simp only [↓Only_mk]; with_reducible refine Mk_of hm rfl ?_ ?_)
    | ((with_reducible refine Upd_rfl ?_); rfl)

theorem only_coldRestart {m0 : List Part} {z0 : State} (hm : sub [.mode, .ctl, .lanes, .rek, .mem, .cis, .fab, .sw, .tel, .pair, .od, .upd, .records, .sent] m0 = true)
    (a0) (s : State) (h : Only m0 z0 s) : Only m0 z0 (coldRestart a0 s) := by
  unfold coldRestart
  extract_lets e0 s0 s1 b s2 c x3 x4 x5 x6 s3 tb y3 s4
  have h0 : Only m0 z0 s0 := Only_upd (d := [.records]) (sub_trans (by decide) hm) h (Upd_of rfl rfl rfl (by intro p; cases p <;> first | exact .inl rfl | exact .inr rfl | exact .inr ⟨rfl, rfl⟩ | exact .inr ⟨rfl, rfl, rfl⟩))
  have h1 : Only m0 z0 s1 := only_stopNetwork (sub_trans (by decide) hm) _ (only_dropAll (sub_trans (by decide) hm) _ (only_enterMode (sub_trans (by decide) hm) _ _ _ h0))
  clear_value s1
  have h2 : Only m0 z0 s2 := only_State_modLanes (sub_trans (by decide) hm) _ _ h1
  clear_value s2
  have h3 : Only m0 z0 s3 := Only_upd (d := [.ctl, .cis, .mem, .rek, .od, .upd]) (sub_trans (by decide) hm) h2 (Upd_of rfl rfl rfl (by intro p; cases p <;> first | exact .inl rfl | exact .inr rfl | exact .inr ⟨rfl, rfl⟩ | exact .inr ⟨rfl, rfl, rfl⟩))
  clear_value s3
  have h4 : Only m0 z0 s4 := Only_upd (d := [.ctl]) (sub_trans (by decide) hm) h3 (Upd_of rfl rfl rfl (by intro p; cases p <;> first | exact .inl rfl | exact .inr rfl | exact .inr ⟨rfl, rfl⟩ | exact .inr ⟨rfl, rfl, rfl⟩))
  clear_value s4
  exact Only_ite (fun _ => only_setDrive (sub_trans (by decide) hm) _ _ (Only_upd (d := [.pair]) (sub_trans (by decide) hm) h4 (Upd_of rfl rfl rfl (by intro p; cases p <;> first | exact .inl rfl | exact .inr rfl | exact .inr ⟨rfl, rfl⟩ | exact .inr ⟨rfl, rfl, rfl⟩)))) (fun _ => h4)

theorem only_closeGuard {m0 : List Part} {z0 : State} (hm : sub [.sw, .records] m0 = true)
    (a0) (s : State) (h : Only m0 z0 s) : Only m0 z0 (closeGuard a0 s) := by
  unfold closeGuard
  repeat' first
    | with_reducible assumption | exact sub_trans (by decide) hm | with_reducible apply only_raise
    | with_reducible refine Only_ite ?_ ?_ | intro _ | (simp only [↓Only_mk]; with_reducible refine Mk_of hm rfl ?_ ?_)
    | ((with_reducible refine Upd_rfl ?_); rfl)

theorem only_clearGuard {m0 : List Part} {z0 : State} (hm : sub [.sw, .records] m0 = true)
    (a0) (s : State) (h : Only m0 z0 s) : Only m0 z0 (clearGuard a0 s) := by
  unfold clearGuard
  repeat' first
    | with_reducible assumption | exact sub_trans (by decide) hm | with_reducible apply only_raiseIf
    | with_reducible refine Only_ite ?_ ?_ | intro _ | (simp only [↓Only_mk]; with_reducible refine Mk_of hm rfl ?_ ?_)
    | ((with_reducible refine Upd_rfl ?_); rfl)

theorem only_State_modPtp {m0 : List Part} {z0 : State} (hm : sub [.time] m0 = true)
    (s : State) (a1) (a2) (h : Only m0 z0 s) : Only m0 z0 (State.modPtp s a1 a2) := by
  unfold State.modPtp
  repeat' first
    | with_reducible assumption | with_reducible refine Only_ite ?_ ?_ | intro _
    | (simp only [↓Only_mk]; with_reducible refine Mk_of hm rfl ?_ ?_) | ((with_reducible refine Upd_rfl ?_); rfl)

theorem only_timeGuard {m0 : List Part} {z0 : State} (hm : sub [.time, .sw, .records] m0 = true)
    (s : State) (h : Only m0 z0 s) : Only m0 z0 (timeGuard s) := by
  unfold timeGuard
  repeat' first
    | with_reducible assumption | exact sub_trans (by decide) hm | with_reducible apply only_closeGuard
    | with_reducible apply only_clearGuard | with_reducible refine Only_ite ?_ ?_ | intro _
    | (simp only [↓Only_mk]; with_reducible refine Mk_of hm rfl ?_ ?_) | ((with_reducible refine Upd_rfl ?_); rfl)

theorem only_setTime {m0 : List Part} {z0 : State} (hm : sub [.time, .records] m0 = true)
    (a0) (s : State) (h : Only m0 z0 s) : Only m0 z0 (setTime a0 s) := by
  unfold setTime
  repeat' first
    | with_reducible assumption | exact sub_trans (by decide) hm | with_reducible apply only_raise
    | with_reducible refine Only_ite ?_ ?_ | intro _ | (simp only [↓Only_mk]; with_reducible refine Mk_of hm rfl ?_ ?_)
    | ((with_reducible refine Upd_rfl ?_); rfl)

theorem only_selectSlot {m0 : List Part} {z0 : State} (hm : sub [.time, .records] m0 = true)
    (a0) (s : State) (h : Only m0 z0 s) : Only m0 z0 (selectSlot a0 s) := by
  unfold selectSlot
  repeat' first
    | with_reducible assumption | exact sub_trans (by decide) hm | with_reducible apply only_raise
    | with_reducible refine Only_ite ?_ ?_ | intro _ | (simp only [↓Only_mk]; with_reducible refine Mk_of hm rfl ?_ ?_)
    | ((with_reducible refine Upd_rfl ?_); rfl)

theorem only_loseReference {m0 : List Part} {z0 : State} (hm : sub [.time, .records] m0 = true)
    (s : State) (h : Only m0 z0 s) : Only m0 z0 (loseReference s) := by
  unfold loseReference
  repeat' first
    | with_reducible assumption | exact sub_trans (by decide) hm | with_reducible apply only_setTime
    | with_reducible refine Only_ite ?_ ?_ | intro _

theorem only_followSlots {m0 : List Part} {z0 : State} (hm : sub [.time, .records] m0 = true)
    (s : State) (h : Only m0 z0 s) : Only m0 z0 (followSlots s) := by
  unfold followSlots
  repeat' first
    | with_reducible assumption | exact sub_trans (by decide) hm | with_reducible apply only_setTime
    | with_reducible refine Only_ite ?_ ?_ | intro _ | split

theorem only_refuseSample {m0 : List Part} {z0 : State} (hm : sub [.time, .records] m0 = true)
    (a0) (a1) (s : State) (h : Only m0 z0 s) : Only m0 z0 (refuseSample a0 a1 s) := by
  unfold refuseSample
  repeat' first
    | with_reducible assumption | exact sub_trans (by decide) hm | with_reducible apply only_State_modPtp
    | with_reducible apply only_raise | with_reducible apply only_loseReference | with_reducible refine Only_ite ?_ ?_
    | intro _

theorem only_servo {m0 : List Part} {z0 : State} (hm : sub [.time] m0 = true)
    (a0) (s : State) (h : Only m0 z0 s) : Only m0 z0 (servo a0 s) := by
  unfold servo
  repeat' first
    | with_reducible assumption | (simp only [↓Only_mk]; with_reducible refine Mk_of hm rfl ?_ ?_)
    | ((with_reducible refine Upd_rfl ?_); rfl)

theorem only_noteOffset {m0 : List Part} {z0 : State} (hm : sub [.time] m0 = true)
    (a0) (a1) (s : State) (h : Only m0 z0 s) : Only m0 z0 (noteOffset a0 a1 s) := by
  unfold noteOffset
  repeat' first
    | with_reducible assumption | with_reducible refine Only_ite ?_ ?_ | intro _
    | (simp only [↓Only_mk]; with_reducible refine Mk_of hm rfl ?_ ?_) | ((with_reducible refine Upd_rfl ?_); rfl)

theorem only_acceptSample {m0 : List Part} {z0 : State} (hm : sub [.time, .records] m0 = true)
    (a0) (a1) (s : State) (h : Only m0 z0 s) : Only m0 z0 (acceptSample a0 a1 s) := by
  unfold acceptSample
  repeat' first
    | with_reducible assumption | exact sub_trans (by decide) hm | with_reducible apply only_State_modPtp
    | with_reducible apply only_selectSlot | with_reducible apply only_servo | with_reducible apply only_followSlots
    | with_reducible apply only_noteOffset | with_reducible refine Only_ite ?_ ?_ | intro _

theorem only_servoSwitch {m0 : List Part} {z0 : State} (hm : sub [.time, .od, .records] m0 = true)
    (s : State) (h : Only m0 z0 s) : Only m0 z0 (servoSwitch s) := by
  unfold servoSwitch
  repeat' first
    | with_reducible assumption | exact sub_trans (by decide) hm | with_reducible apply only_raise | intro _
    | (simp only [↓Only_mk]; with_reducible refine Mk_of hm rfl ?_ ?_) | ((with_reducible refine Upd_rfl ?_); rfl)
    | split

theorem only_acquire {m0 : List Part} {z0 : State} (hm : sub [.time, .records] m0 = true)
    (a0) (a1) (s : State) (h : Only m0 z0 s) : Only m0 z0 (acquire a0 a1 s) := by
  unfold acquire
  repeat' first
    | with_reducible assumption | exact sub_trans (by decide) hm | with_reducible apply only_raise
    | with_reducible apply only_State_modPtp | (simp only [↓Only_mk]; with_reducible refine Mk_of hm rfl ?_ ?_)
    | ((with_reducible refine Upd_rfl ?_); rfl)

theorem only_execPtpSync {m0 : List Part} {z0 : State} (hm : sub [.now, .time, .sw, .od, .records] m0 = true)
    (a0) (a1) (a2) (s : State) (h : Only m0 z0 s) : OutOnly m0 z0 (execPtpSync a0 a1 a2 s) := by
  unfold execPtpSync
  repeat' first
    | with_reducible assumption | exact sub_trans (by decide) hm | with_reducible apply only_State_atTime
    | with_reducible apply only_servoSwitch | with_reducible apply only_State_modPtp
    | with_reducible apply only_timeGuard | with_reducible apply only_acquire | with_reducible apply only_refuseSample
    | with_reducible apply only_acceptSample | with_reducible refine Only_ite ?_ ?_
    | with_reducible refine OutOnly_next.mpr ?_ | intro _
    | (simp only [↓Only_mk]; with_reducible refine Mk_of hm rfl ?_ ?_) | ((with_reducible refine Upd_rfl ?_); rfl)

theorem only_execSyncSilence {m0 : List Part} {z0 : State} (hm : sub [.now, .time, .sw, .records] m0 = true)
    (a0) (a1) (s : State) (h : Only m0 z0 s) : OutOnly m0 z0 (execSyncSilence a0 a1 s) := by
  unfold execSyncSilence
  repeat' first
    | with_reducible assumption | exact sub_trans (by decide) hm | with_reducible apply only_State_atTime
    | with_reducible apply only_State_modPtp | with_reducible apply only_timeGuard
    | with_reducible apply only_loseReference | with_reducible refine Only_ite ?_ ?_
    | with_reducible refine OutOnly_next.mpr ?_ | intro _

theorem only_utcFrom {m0 : List Part} {z0 : State} (hm : sub [.time, .records] m0 = true)
    (a0) (s : State) (h : Only m0 z0 s) : Only m0 z0 (utcFrom a0 s) := by
  unfold utcFrom
  repeat' first
    | with_reducible assumption | exact sub_trans (by decide) hm | with_reducible apply only_raiseIf
    | (simp only [↓Only_mk]; with_reducible refine Mk_of hm rfl ?_ ?_) | ((with_reducible refine Upd_rfl ?_); rfl)

theorem only_takeMaster {m0 : List Part} {z0 : State} (hm : sub [.time, .records] m0 = true)
    (a0) (a1) (a2) (s : State) (h : Only m0 z0 s) : Only m0 z0 (takeMaster a0 a1 a2 s) := by
  unfold takeMaster
  repeat' first
    | with_reducible assumption | exact sub_trans (by decide) hm | with_reducible apply only_State_modPtp
    | with_reducible apply only_raiseIf | with_reducible apply only_utcFrom | with_reducible refine Only_ite ?_ ?_
    | intro _

theorem only_becomeGrandmaster {m0 : List Part} {z0 : State} (hm : sub [.time, .sw, .records] m0 = true)
    (a0) (s : State) (h : Only m0 z0 s) : Only m0 z0 (becomeGrandmaster a0 s) := by
  unfold becomeGrandmaster
  repeat' first
    | with_reducible assumption | exact sub_trans (by decide) hm | with_reducible apply only_State_modPtp
    | with_reducible apply only_timeGuard | with_reducible apply only_followSlots | with_reducible apply only_raiseIf

theorem only_execPtpAnnounce {m0 : List Part} {z0 : State} (hm : sub [.now, .time, .sw, .records] m0 = true)
    (a0) (a1) (a2) (a3) (s : State) (h : Only m0 z0 s) : OutOnly m0 z0 (execPtpAnnounce a0 a1 a2 a3 s) := by
  unfold execPtpAnnounce
  repeat' first
    | with_reducible assumption | exact sub_trans (by decide) hm | with_reducible apply only_State_atTime
    | with_reducible apply only_becomeGrandmaster | with_reducible apply only_takeMaster
    | with_reducible refine OutOnly_next.mpr ?_ | intro _ | split

theorem only_execAnnounceTimeout {m0 : List Part} {z0 : State} (hm : sub [.now, .time, .sw, .records] m0 = true)
    (a0) (a1) (s : State) (h : Only m0 z0 s) : OutOnly m0 z0 (execAnnounceTimeout a0 a1 s) := by
  unfold execAnnounceTimeout
  repeat' first
    | with_reducible assumption | exact sub_trans (by decide) hm | with_reducible apply only_State_atTime
    | with_reducible apply only_State_modPtp | with_reducible apply only_becomeGrandmaster
    | with_reducible refine Only_ite ?_ ?_ | with_reducible refine OutOnly_next.mpr ?_ | intro _

theorem only_execPtpDelayMessage {m0 : List Part} {z0 : State} (hm : sub [.now, .time, .sw, .sent] m0 = true)
    (a0) (a1) (a2) (a3) (a4) (s : State) (h : Only m0 z0 s) : OutOnly m0 z0 (execPtpDelayMessage a0 a1 a2 a3 a4 s) := by
  unfold execPtpDelayMessage
  repeat' first
    | with_reducible assumption | exact sub_trans (by decide) hm | with_reducible apply only_State_atTime
    | with_reducible apply only_State_modPtp | with_reducible apply only_State_emit
    | with_reducible refine OutOnly_next.mpr ?_ | intro _
    | (simp only [↓Only_mk]; with_reducible refine Mk_of hm rfl ?_ ?_) | ((with_reducible refine Upd_rfl ?_); rfl)
    | split

theorem only_execPtpManagement {m0 : List Part} {z0 : State} (hm : sub [.now, .sent] m0 = true)
    (a0) (a1) (a2) (a3) (a4) (s : State) (h : Only m0 z0 s) : OutOnly m0 z0 (execPtpManagement a0 a1 a2 a3 a4 s) := by
  unfold execPtpManagement
  repeat' first
    | with_reducible assumption | exact sub_trans (by decide) hm | with_reducible apply only_State_atTime
    | with_reducible apply only_State_emit | with_reducible refine Only_ite ?_ ?_
    | with_reducible refine OutOnly_next.mpr ?_ | intro _

theorem only_execPtpSyncSend {m0 : List Part} {z0 : State} (hm : sub [.now, .time, .sw, .records, .sent] m0 = true)
    (a0) (a1) (a2) (s : State) (h : Only m0 z0 s) : OutOnly m0 z0 (execPtpSyncSend a0 a1 a2 s) := by
  unfold execPtpSyncSend
  repeat' first
    | with_reducible assumption | exact sub_trans (by decide) hm | with_reducible apply only_State_atTime
    | with_reducible apply only_State_emitAll | with_reducible apply only_timeGuard
    | with_reducible apply only_State_modPtp | with_reducible refine Only_ite ?_ ?_
    | with_reducible refine OutOnly_next.mpr ?_ | intro _

theorem only_execAnnounceSend {m0 : List Part} {z0 : State} (hm : sub [.now, .sent] m0 = true)
    (a0) (a1) (a2) (s : State) (h : Only m0 z0 s) : OutOnly m0 z0 (execAnnounceSend a0 a1 a2 s) := by
  unfold execAnnounceSend
  repeat' first
    | with_reducible assumption | exact sub_trans (by decide) hm | with_reducible apply only_State_atTime
    | with_reducible apply only_State_emit | with_reducible refine Only_ite ?_ ?_
    | with_reducible refine OutOnly_next.mpr ?_ | intro _

theorem only_execDelayReqSend {m0 : List Part} {z0 : State} (hm : sub [.now, .sent] m0 = true)
    (a0) (a1) (a2) (s : State) (h : Only m0 z0 s) : OutOnly m0 z0 (execDelayReqSend a0 a1 a2 s) := by
  unfold execDelayReqSend
  repeat' first
    | with_reducible assumption | exact sub_trans (by decide) hm | with_reducible apply only_State_atTime
    | with_reducible apply only_State_emit | with_reducible refine Only_ite ?_ ?_
    | with_reducible refine OutOnly_next.mpr ?_ | intro _

theorem only_execFollowUp {m0 : List Part} {z0 : State} (hm : sub [.now, .time, .records, .sent] m0 = true)
    (a0) (a1) (a2) (a3) (a4) (s : State) (h : Only m0 z0 s) : OutOnly m0 z0 (execFollowUp a0 a1 a2 a3 a4 s) := by
  unfold execFollowUp
  repeat' first
    | with_reducible assumption | exact sub_trans (by decide) hm | with_reducible apply only_State_atTime
    | with_reducible apply only_State_modPtp | with_reducible apply only_State_emit | with_reducible apply only_raise
    | with_reducible refine Only_ite ?_ ?_ | with_reducible apply only_foldl | with_reducible refine OutOnly_next.mpr ?_
    | with_reducible refine OutOnly_ite ?_ ?_ | intro _
    | (extract_lets +onlyGivenNames x; have hx : Only m0 z0 x := ?hx; case' hx => unfold x)
    | extract_lets +onlyGivenNames _ | (simp only [↓Only_mk]; with_reducible refine Mk_of hm rfl ?_ ?_)
    | ((with_reducible refine Upd_rfl ?_); rfl) | split | dsimp only

theorem only_execDomainPreference {m0 : List Part} {z0 : State} (hm : sub [.now, .time, .sw, .records] m0 = true)
    (a0) (s : State) (h : Only m0 z0 s) : OutOnly m0 z0 (execDomainPreference a0 s) := by
  unfold execDomainPreference
  repeat' first
    | with_reducible assumption | exact sub_trans (by decide) hm | with_reducible apply only_State_atTime
    | with_reducible apply only_timeGuard | with_reducible apply only_followSlots | with_reducible apply only_selectSlot
    | with_reducible refine OutOnly_next.mpr ?_ | intro _ | split

theorem only_execHoldoverExhausted {m0 : List Part} {z0 : State} (hm : sub [.now, .time, .sw, .records] m0 = true)
    (a0) (s : State) (h : Only m0 z0 s) : OutOnly m0 z0 (execHoldoverExhausted a0 s) := by
  unfold execHoldoverExhausted
  repeat' first
    | with_reducible assumption | exact sub_trans (by decide) hm | with_reducible apply only_State_atTime
    | with_reducible apply only_timeGuard | with_reducible apply only_raise | with_reducible refine Only_ite ?_ ?_
    | with_reducible refine OutOnly_next.mpr ?_ | intro _

theorem only_execReferenceMoved {m0 : List Part} {z0 : State} (hm : sub [.now, .time, .sw, .records] m0 = true)
    (a0) (s : State) (h : Only m0 z0 s) : OutOnly m0 z0 (execReferenceMoved a0 s) := by
  unfold execReferenceMoved
  repeat' first
    | with_reducible assumption | exact sub_trans (by decide) hm | with_reducible apply only_State_atTime
    | with_reducible apply only_raise | with_reducible apply only_State_modPtp | with_reducible apply only_timeGuard
    | with_reducible apply only_setTime | with_reducible refine Only_ite ?_ ?_ | with_reducible apply only_foldl
    | with_reducible refine OutOnly_next.mpr ?_ | with_reducible refine OutOnly_ite ?_ ?_ | intro _
    | (extract_lets +onlyGivenNames x; have hx : Only m0 z0 x := ?hx; case' hx => unfold x)
    | extract_lets +onlyGivenNames _ | (simp only [↓Only_mk]; with_reducible refine Mk_of hm rfl ?_ ?_)
    | ((with_reducible refine Upd_rfl ?_); rfl) | split | dsimp only

theorem only_execSlewComplete {m0 : List Part} {z0 : State} (hm : sub [.now, .time, .sw, .records] m0 = true)
    (a0) (s : State) (h : Only m0 z0 s) : OutOnly m0 z0 (execSlewComplete a0 s) := by
  unfold execSlewComplete
  repeat' first
    | with_reducible assumption | exact sub_trans (by decide) hm | with_reducible apply only_State_atTime
    | with_reducible apply only_timeGuard | with_reducible apply only_followSlots | with_reducible apply only_raise
    | with_reducible refine Only_ite ?_ ?_ | with_reducible refine OutOnly_next.mpr ?_ | intro _
    | (simp only [↓Only_mk]; with_reducible refine Mk_of hm rfl ?_ ?_) | ((with_reducible refine Upd_rfl ?_); rfl)

theorem only_execServoUpdateTimeout {m0 : List Part} {z0 : State} (hm : sub [.now, .time, .sw, .records] m0 = true)
    (a0) (s : State) (h : Only m0 z0 s) : OutOnly m0 z0 (execServoUpdateTimeout a0 s) := by
  unfold execServoUpdateTimeout
  repeat' first
    | with_reducible assumption | exact sub_trans (by decide) hm | with_reducible apply only_State_atTime
    | with_reducible apply only_timeGuard | with_reducible apply only_setTime | with_reducible refine Only_ite ?_ ?_
    | with_reducible refine OutOnly_next.mpr ?_ | intro _

theorem only_doRebase {m0 : List Part} {z0 : State} (hm : sub [.time, .records] m0 = true)
    (s : State) (h : Only m0 z0 s) : Only m0 z0 (doRebase s) := by
  unfold doRebase
  repeat' first
    | with_reducible assumption | exact sub_trans (by decide) hm | with_reducible apply only_raise
    | with_reducible refine Only_ite ?_ ?_ | intro _ | (simp only [↓Only_mk]; with_reducible refine Mk_of hm rfl ?_ ?_)
    | ((with_reducible refine Upd_rfl ?_); rfl)

theorem only_utcBoundary {m0 : List Part} {z0 : State} (hm : sub [.time, .records] m0 = true)
    (s : State) (h : Only m0 z0 s) : Only m0 z0 (utcBoundary s) := by
  unfold utcBoundary
  repeat' first
    | with_reducible assumption | exact sub_trans (by decide) hm | with_reducible apply only_State_modPtp
    | with_reducible apply only_raise | with_reducible refine Only_ite ?_ ?_ | intro _
    | (simp only [↓Only_mk]; with_reducible refine Mk_of hm rfl ?_ ?_) | ((with_reducible refine Upd_rfl ?_); rfl)

theorem only_timeStep {m0 : List Part} {z0 : State} (hm : sub [.now, .time, .fio, .sw] m0 = true)
    (s : State) (h : Only m0 z0 s) : Only m0 z0 (timeStep s) := by
  unfold timeStep
  repeat' first
    | with_reducible assumption | intro _ | (simp only [↓Only_mk]; with_reducible refine Mk_of hm rfl ?_ ?_)
    | ((with_reducible refine Upd_rfl ?_); rfl) | split

theorem only_State_modPort {m0 : List Part} {z0 : State} (hm : sub [.sw] m0 = true)
    (s : State) (a1) (a2) (h : Only m0 z0 s) : Only m0 z0 (State.modPort s a1 a2) := by
  unfold State.modPort
  repeat' first
    | with_reducible assumption | (simp only [↓Only_mk]; with_reducible refine Mk_of hm rfl ?_ ?_)
    | ((with_reducible refine Upd_rfl ?_); rfl)

theorem only_activateMatrix {m0 : List Part} {z0 : State} (hm : sub [.sw, .records] m0 = true)
    (s : State) (h : Only m0 z0 s) : Only m0 z0 (activateMatrix s) := by
  unfold activateMatrix
  repeat' first
    | with_reducible assumption | exact sub_trans (by decide) hm | with_reducible apply only_clearGuard
    | with_reducible apply only_raise | with_reducible refine Only_ite ?_ ?_ | intro _
    | (simp only [↓Only_mk]; with_reducible refine Mk_of hm rfl ?_ ?_) | ((with_reducible refine Upd_rfl ?_); rfl)

theorem only_learn {m0 : List Part} {z0 : State} (hm : sub [.sw, .records] m0 = true)
    (a0) (a1) (a2) (s : State) (h : Only m0 z0 s) : Only m0 z0 (learn a0 a1 a2 s) := by
  unfold learn
  repeat' first
    | with_reducible assumption | exact sub_trans (by decide) hm | with_reducible apply only_raise
    | with_reducible apply only_State_modPort | with_reducible refine Only_ite ?_ ?_ | with_reducible apply only_foldl
    | intro _ | (extract_lets +onlyGivenNames x; have hx : Only m0 z0 x := ?hx; case' hx => unfold x)
    | extract_lets +onlyGivenNames _ | (simp only [↓Only_mk]; with_reducible refine Mk_of hm rfl ?_ ?_)
    | ((with_reducible refine Upd_rfl ?_); rfl) | split | dsimp only

theorem only_egressDrop {m0 : List Part} {z0 : State} (hm : sub [.sw] m0 = true)
    (a0) (s : State) (h : Only m0 z0 s) : Only m0 z0 (egressDrop a0 s) := by
  unfold egressDrop
  repeat' first
    | with_reducible assumption | exact sub_trans (by decide) hm | with_reducible apply only_State_modPort

theorem only_enqueueFrame {m0 : List Part} {z0 : State} (hm : sub [.sw] m0 = true)
    (a0) (a1) (s : State) (h : Only m0 z0 s) : Only m0 z0 (enqueueFrame a0 a1 s) := by
  unfold enqueueFrame
  repeat' first
    | with_reducible assumption | exact sub_trans (by decide) hm | with_reducible apply only_State_modPort
    | with_reducible apply only_egressDrop | with_reducible refine Only_ite ?_ ?_ | intro _

theorem only_bumpRed {m0 : List Part} {z0 : State} (hm : sub [.sw] m0 = true)
    (a0) (s : State) (h : Only m0 z0 s) : Only m0 z0 (bumpRed a0 s) := by
  unfold bumpRed
  repeat' first
    | with_reducible assumption | with_reducible refine Only_ite ?_ ?_ | intro _
    | (simp only [↓Only_mk]; with_reducible refine Mk_of hm rfl ?_ ?_) | ((with_reducible refine Upd_rfl ?_); rfl)

theorem only_sendLocal {m0 : List Part} {z0 : State} (hm : sub [.sw] m0 = true)
    (a0) (a1) (a2) (a3) (a4) (a5) (s : State) (h : Only m0 z0 s) : Only m0 z0 (sendLocal a0 a1 a2 a3 a4 a5 s) := by
  unfold sendLocal
  repeat' first
    | with_reducible assumption | exact sub_trans (by decide) hm | with_reducible apply only_enqueueFrame
    | with_reducible apply only_bumpRed | with_reducible refine Only_ite ?_ ?_ | with_reducible apply only_foldl
    | intro _

theorem only_ingressDrop {m0 : List Part} {z0 : State} (hm : sub [.sw] m0 = true)
    (a0) (s : State) (h : Only m0 z0 s) : Only m0 z0 (ingressDrop a0 s) := by
  unfold ingressDrop
  repeat' first
    | with_reducible assumption | exact sub_trans (by decide) hm | with_reducible apply only_State_modPort

theorem only_deliverFrame {m0 : List Part} {z0 : State} (hm : sub [.sw] m0 = true)
    (a0) (a1) (s : State) (h : Only m0 z0 s) : Only m0 z0 (deliverFrame a0 a1 s) := by
  unfold deliverFrame
  repeat' first
    | with_reducible assumption | (simp only [↓Only_mk]; with_reducible refine Mk_of hm rfl ?_ ?_)
    | ((with_reducible refine Upd_rfl ?_); rfl)

theorem only_policeFrame {m0 : List Part} {z0 : State} (hm : sub [.sw, .records] m0 = true)
    (a0) (a1) (a2) (s : State) (h : Only m0 z0 s) : Only m0 z0 (policeFrame a0 a1 a2 s).1 := by
  unfold policeFrame
  repeat' first
    | with_reducible assumption | exact sub_trans (by decide) hm | with_reducible apply only_State_modPort
    | with_reducible apply only_raiseOncePerSec | with_reducible apply only_ingressDrop
    | with_reducible refine Only_fst_ite ?_ ?_ | intro _

theorem only_countStream {m0 : List Part} {z0 : State} (hm : sub [.sw] m0 = true)
    (a0) (a1) (s : State) (h : Only m0 z0 s) : Only m0 z0 (countStream a0 a1 s) := by
  unfold countStream
  repeat' first
    | with_reducible assumption | (simp only [↓Only_mk]; with_reducible refine Mk_of hm rfl ?_ ?_)
    | ((with_reducible refine Upd_rfl ?_); rfl)

theorem only_arrivalCheck {m0 : List Part} {z0 : State} (hm : sub [.sw, .records] m0 = true)
    (a0) (a1) (s : State) (h : Only m0 z0 s) : Only m0 z0 (arrivalCheck a0 a1 s).1 := by
  unfold arrivalCheck
  repeat' first
    | with_reducible assumption | exact sub_trans (by decide) hm | with_reducible apply only_countStream
    | with_reducible apply only_raise | with_reducible refine Only_fst_ite ?_ ?_ | intro _

theorem only_expireDups {m0 : List Part} {z0 : State} (hm : sub [.sw] m0 = true)
    (s : State) (h : Only m0 z0 s) : Only m0 z0 (expireDups s) := by
  unfold expireDups
  repeat' first
    | with_reducible assumption | (simp only [↓Only_mk]; with_reducible refine Mk_of hm rfl ?_ ?_)
    | ((with_reducible refine Upd_rfl ?_); rfl)

theorem only_dedupe {m0 : List Part} {z0 : State} (hm : sub [.sw] m0 = true)
    (a0) (a1) (s : State) (h : Only m0 z0 s) : Only m0 z0 (dedupe a0 a1 s).1 := by
  unfold dedupe
  repeat' first
    | with_reducible assumption | exact sub_trans (by decide) hm | with_reducible apply only_expireDups
    | with_reducible refine Only_of_fst (by assumption) ?_ | with_reducible refine Only_ite ?_ ?_
    | with_reducible refine Only_fst_ite ?_ ?_ | with_reducible apply only_foldl_fst | with_reducible apply only_foldl
    | intro _ | (extract_lets +onlyGivenNames x; have hx : Only m0 z0 x := ?hx; case' hx => unfold x)
    | extract_lets +onlyGivenNames _ | (simp only [↓Only_mk]; with_reducible refine Mk_of hm rfl ?_ ?_)
    | ((with_reducible refine Upd_rfl ?_); rfl) | split | dsimp only

theorem only_forward {m0 : List Part} {z0 : State} (hm : sub [.sw] m0 = true)
    (a0) (a1) (a2) (a3) (a4) (a5) (s : State) (h : Only m0 z0 s) : Only m0 z0 (forward a0 a1 a2 a3 a4 a5 s) := by
  unfold forward
  repeat' first
    | with_reducible assumption | exact sub_trans (by decide) hm | with_reducible apply only_sendLocal
    | with_reducible apply only_deliverFrame | with_reducible apply only_enqueueFrame
    | with_reducible refine Only_ite ?_ ?_ | with_reducible apply only_foldl | intro _

theorem only_heardSupervision {m0 : List Part} {z0 : State} (hm : sub [.sw] m0 = true)
    (a0) (a1) (s : State) (h : Only m0 z0 s) : Only m0 z0 (heardSupervision a0 a1 s) := by
  unfold heardSupervision
  repeat' first
    | with_reducible assumption | exact sub_trans (by decide) hm | with_reducible apply only_State_modPort
    | with_reducible refine Only_ite ?_ ?_ | intro _

theorem only_switchFrame {m0 : List Part} {z0 : State} (hm : sub [.sw, .records] m0 = true)
    (a0) (a1) (s : State) (h : Only m0 z0 s) : Only m0 z0 (switchFrame a0 a1 s) := by
  unfold switchFrame
  repeat' first
    | with_reducible assumption | exact sub_trans (by decide) hm | with_reducible apply only_ingressDrop
    | with_reducible apply only_policeFrame | with_reducible apply only_learn | with_reducible apply only_arrivalCheck
    | with_reducible apply only_forward | with_reducible apply only_deliverFrame | with_reducible refine Only_ite ?_ ?_
    | intro _ | split

theorem only_execFrameReceived {m0 : List Part} {z0 : State} (hm : sub [.now, .sw, .records] m0 = true)
    (a0) (a1) (a2) (s : State) (h : Only m0 z0 s) : OutOnly m0 z0 (execFrameReceived a0 a1 a2 s) := by
  unfold execFrameReceived
  repeat' first
    | with_reducible assumption | exact sub_trans (by decide) hm | with_reducible apply only_State_atTime
    | with_reducible apply only_ingressDrop | with_reducible apply only_State_modPort
    | with_reducible apply only_deliverFrame | with_reducible apply only_dedupe
    | with_reducible apply only_heardSupervision | with_reducible apply only_switchFrame
    | with_reducible refine Only_ite ?_ ?_ | with_reducible refine OutOnly_next.mpr ?_ | intro _

theorem only_dropStale {m0 : List Part} {z0 : State} (hm : sub [.sw, .records] m0 = true)
    (a0) (s : State) (a2) (h : Only m0 z0 s) : Only m0 z0 (dropStale a0 s a2) := by
  unfold dropStale
  repeat' first
    | with_reducible assumption | exact sub_trans (by decide) hm | with_reducible apply only_egressDrop
    | with_reducible apply only_raise | with_reducible apply only_countStream | intro _ | split

theorem only_transparent {m0 : List Part} {z0 : State} (hm : sub [.time] m0 = true)
    (a0) (a1) (a2) (s : State) (h : Only m0 z0 s) : Only m0 z0 (transparent a0 a1 a2 s).2 := by
  unfold transparent
  repeat' first
    | with_reducible assumption | exact sub_trans (by decide) hm | with_reducible apply only_State_modPtp
    | with_reducible refine Only_snd_ite ?_ ?_ | intro _
    | (simp only [↓Only_mk]; with_reducible refine Mk_of hm rfl ?_ ?_) | ((with_reducible refine Upd_rfl ?_); rfl)

theorem only_startFrame {m0 : List Part} {z0 : State} (hm : sub [.time, .sw, .sent] m0 = true)
    (a0) (a1) (a2) (s : State) (h : Only m0 z0 s) : Only m0 z0 (startFrame a0 a1 a2 s) := by
  unfold startFrame
  extract_lets r
  have hr : Only m0 z0 r.2 := by
    unfold r
    split
    · exact only_transparent (sub_trans (by decide) hm) _ _ _ _ h
    · exact h
  clear_value r
  split
  · exact hr
  · exact only_State_emit (sub_trans (by decide) hm) _ _ (only_State_modPort (sub_trans (by decide) hm) _ _ _ hr)

theorem only_transmitOn {m0 : List Part} {z0 : State} (hm : sub [.time, .sw, .records, .sent] m0 = true)
    (a0) (a1) (s : State) (h : Only m0 z0 s) : Only m0 z0 (transmitOn a0 a1 s) := by
  unfold transmitOn
  repeat' first
    | with_reducible assumption | exact sub_trans (by decide) hm | with_reducible apply only_dropStale
    | with_reducible apply only_State_modPort | with_reducible apply only_startFrame
    | with_reducible refine Only_ite ?_ ?_ | with_reducible apply only_foldl | intro _
    | (extract_lets +onlyGivenNames x; have hx : Only m0 z0 x := ?hx; case' hx => unfold x)
    | extract_lets +onlyGivenNames _ | (simp only [↓Only_mk]; with_reducible refine Mk_of hm rfl ?_ ?_)
    | ((with_reducible refine Upd_rfl ?_); rfl) | split | dsimp only

theorem only_execFrameTransmit {m0 : List Part} {z0 : State} (hm : sub [.now, .time, .sw, .records, .sent] m0 = true)
    (a0) (a1) (s : State) (h : Only m0 z0 s) : OutOnly m0 z0 (execFrameTransmit a0 a1 s) := by
  unfold execFrameTransmit
  repeat' first
    | with_reducible assumption | exact sub_trans (by decide) hm | with_reducible apply only_State_atTime
    | with_reducible apply only_transmitOn | with_reducible apply only_startFrame
    | with_reducible apply only_State_modPort | with_reducible refine OutOnly_next.mpr ?_ | intro _ | split

theorem only_execGuardianCut {m0 : List Part} {z0 : State} (hm : sub [.now, .sw, .records, .sent] m0 = true)
    (a0) (a1) (s : State) (h : Only m0 z0 s) : OutOnly m0 z0 (execGuardianCut a0 a1 s) := by
  unfold execGuardianCut
  repeat' first
    | with_reducible assumption | exact sub_trans (by decide) hm | with_reducible apply only_State_atTime
    | with_reducible apply only_State_emit | with_reducible apply only_State_modPort | with_reducible apply only_raise
    | with_reducible refine OutOnly_next.mpr ?_ | intro _
    | (simp only [↓Only_mk]; with_reducible refine Mk_of hm rfl ?_ ?_) | ((with_reducible refine Upd_rfl ?_); rfl)
    | split

theorem only_execMacAgeOut {m0 : List Part} {z0 : State} (hm : sub [.now, .sw] m0 = true)
    (a0) (a1) (s : State) (h : Only m0 z0 s) : OutOnly m0 z0 (execMacAgeOut a0 a1 s) := by
  unfold execMacAgeOut
  repeat' first
    | with_reducible assumption | exact sub_trans (by decide) hm | with_reducible apply only_State_atTime
    | with_reducible refine OutOnly_next.mpr ?_ | (simp only [↓Only_mk]; with_reducible refine Mk_of hm rfl ?_ ?_)
    | ((with_reducible refine Upd_rfl ?_); rfl)

theorem only_degrade {m0 : List Part} {z0 : State} (hm : sub [.sw, .records] m0 = true)
    (a0) (s : State) (h : Only m0 z0 s) : Only m0 z0 (degrade a0 s) := by
  unfold degrade
  repeat' first
    | with_reducible assumption | exact sub_trans (by decide) hm | with_reducible apply only_raise
    | with_reducible apply only_State_modPort | intro _ | split

theorem only_execLinkDown {m0 : List Part} {z0 : State} (hm : sub [.now, .sw, .records] m0 = true)
    (a0) (a1) (s : State) (h : Only m0 z0 s) : OutOnly m0 z0 (execLinkDown a0 a1 s) := by
  unfold execLinkDown
  repeat' first
    | with_reducible assumption | exact sub_trans (by decide) hm | with_reducible apply only_State_atTime
    | with_reducible apply only_degrade | with_reducible apply only_raise | with_reducible apply only_State_modPort
    | with_reducible refine Only_ite ?_ ?_ | with_reducible refine OutOnly_next.mpr ?_ | intro _

theorem only_execLinkUp {m0 : List Part} {z0 : State} (hm : sub [.now, .sw, .records] m0 = true)
    (a0) (a1) (a2) (s : State) (h : Only m0 z0 s) : OutOnly m0 z0 (execLinkUp a0 a1 a2 s) := by
  unfold execLinkUp
  repeat' first
    | with_reducible assumption | exact sub_trans (by decide) hm | with_reducible apply only_State_atTime
    | with_reducible apply only_raise | with_reducible apply only_State_modPort | with_reducible refine Only_ite ?_ ?_
    | with_reducible refine OutOnly_next.mpr ?_ | intro _

theorem only_execSupervisionFrameSend {m0 : List Part} {z0 : State} (hm : sub [.now, .sw] m0 = true)
    (a0) (a1) (s : State) (h : Only m0 z0 s) : OutOnly m0 z0 (execSupervisionFrameSend a0 a1 s) := by
  unfold execSupervisionFrameSend
  repeat' first
    | with_reducible assumption | exact sub_trans (by decide) hm | with_reducible apply only_State_atTime
    | with_reducible apply only_sendLocal | with_reducible refine Only_ite ?_ ?_
    | with_reducible refine OutOnly_next.mpr ?_ | intro _

theorem only_execRedundancyDegraded {m0 : List Part} {z0 : State} (hm : sub [.now, .sw, .records] m0 = true)
    (a0) (a1) (s : State) (h : Only m0 z0 s) : OutOnly m0 z0 (execRedundancyDegraded a0 a1 s) := by
  unfold execRedundancyDegraded
  repeat' first
    | with_reducible assumption | exact sub_trans (by decide) hm | with_reducible apply only_State_atTime
    | with_reducible apply only_degrade | with_reducible refine Only_ite ?_ ?_
    | with_reducible refine OutOnly_next.mpr ?_ | intro _

theorem only_execBeaconSend {m0 : List Part} {z0 : State} (hm : sub [.now, .sw] m0 = true)
    (a0) (s : State) (h : Only m0 z0 s) : OutOnly m0 z0 (execBeaconSend a0 s) := by
  unfold execBeaconSend
  repeat' first
    | with_reducible assumption | exact sub_trans (by decide) hm | with_reducible apply only_State_atTime
    | with_reducible apply only_sendLocal | with_reducible refine Only_ite ?_ ?_
    | with_reducible refine OutOnly_next.mpr ?_ | intro _

theorem only_hearBeacon {m0 : List Part} {z0 : State} (hm : sub [.sw] m0 = true)
    (a0) (s : State) (h : Only m0 z0 s) : Only m0 z0 (hearBeacon a0 s) := by
  unfold hearBeacon
  repeat' first
    | with_reducible assumption | (simp only [↓Only_mk]; with_reducible refine Mk_of hm rfl ?_ ?_)
    | ((with_reducible refine Upd_rfl ?_); rfl)

theorem only_countBeacon {m0 : List Part} {z0 : State} (hm : sub [.sw, .records] m0 = true)
    (a0) (s : State) (h : Only m0 z0 s) : Only m0 z0 (countBeacon a0 s) := by
  unfold countBeacon
  repeat' first
    | with_reducible assumption | exact sub_trans (by decide) hm | with_reducible apply only_clearGuard
    | with_reducible apply only_raise | with_reducible apply only_closeGuard | with_reducible refine Only_ite ?_ ?_
    | intro _ | (simp only [↓Only_mk]; with_reducible refine Mk_of hm rfl ?_ ?_)
    | ((with_reducible refine Upd_rfl ?_); rfl)

theorem only_yieldBeacon {m0 : List Part} {z0 : State} (hm : sub [.sw, .records] m0 = true)
    (a0) (a1) (a2) (s : State) (h : Only m0 z0 s) : Only m0 z0 (yieldBeacon a0 a1 a2 s) := by
  unfold yieldBeacon
  repeat' first
    | with_reducible assumption | exact sub_trans (by decide) hm | with_reducible apply only_raise
    | with_reducible refine Only_ite ?_ ?_ | intro _ | (simp only [↓Only_mk]; with_reducible refine Mk_of hm rfl ?_ ?_)
    | ((with_reducible refine Upd_rfl ?_); rfl)

theorem only_execBeaconReceived {m0 : List Part} {z0 : State} (hm : sub [.now, .sw, .records] m0 = true)
    (a0) (a1) (a2) (s : State) (h : Only m0 z0 s) : OutOnly m0 z0 (execBeaconReceived a0 a1 a2 s) := by
  unfold execBeaconReceived
  repeat' first
    | with_reducible assumption | exact sub_trans (by decide) hm | with_reducible apply only_State_atTime
    | with_reducible apply only_hearBeacon | with_reducible apply only_yieldBeacon
    | with_reducible apply only_countBeacon | with_reducible refine OutOnly_next.mpr ?_ | intro _ | split

theorem only_execBeaconTimeout {m0 : List Part} {z0 : State} (hm : sub [.now, .sw, .records] m0 = true)
    (a0) (s : State) (h : Only m0 z0 s) : OutOnly m0 z0 (execBeaconTimeout a0 s) := by
  unfold execBeaconTimeout
  repeat' first
    | with_reducible assumption | exact sub_trans (by decide) hm | with_reducible apply only_State_atTime
    | with_reducible apply only_raise | with_reducible refine Only_ite ?_ ?_ | with_reducible apply only_foldl
    | with_reducible refine OutOnly_next.mpr ?_ | with_reducible refine OutOnly_ite ?_ ?_ | intro _
    | (extract_lets +onlyGivenNames x; have hx : Only m0 z0 x := ?hx; case' hx => unfold x)
    | extract_lets +onlyGivenNames _ | (simp only [↓Only_mk]; with_reducible refine Mk_of hm rfl ?_ ?_)
    | ((with_reducible refine Upd_rfl ?_); rfl) | split | dsimp only

theorem only_beaconBoundary {m0 : List Part} {z0 : State} (hm : sub [.sw, .records] m0 = true)
    (s : State) (h : Only m0 z0 s) : Only m0 z0 (beaconBoundary s) := by
  unfold beaconBoundary
  repeat' first
    | with_reducible assumption | exact sub_trans (by decide) hm | with_reducible apply only_raise
    | with_reducible refine Only_ite ?_ ?_ | intro _ | (simp only [↓Only_mk]; with_reducible refine Mk_of hm rfl ?_ ?_)
    | ((with_reducible refine Upd_rfl ?_); rfl)

theorem only_execGuardianTableCheck {m0 : List Part} {z0 : State} (hm : sub [.now, .sw, .records] m0 = true)
    (a0) (a1) (s : State) (h : Only m0 z0 s) : OutOnly m0 z0 (execGuardianTableCheck a0 a1 s) := by
  unfold execGuardianTableCheck
  repeat' first
    | with_reducible assumption | exact sub_trans (by decide) hm | with_reducible apply only_State_atTime
    | with_reducible apply only_closeGuard | with_reducible apply only_raise | with_reducible refine Only_ite ?_ ?_
    | with_reducible apply only_foldl | with_reducible refine OutOnly_next.mpr ?_
    | with_reducible refine OutOnly_ite ?_ ?_ | intro _
    | (extract_lets +onlyGivenNames x; have hx : Only m0 z0 x := ?hx; case' hx => unfold x)
    | extract_lets +onlyGivenNames _ | (simp only [↓Only_mk]; with_reducible refine Mk_of hm rfl ?_ ?_)
    | ((with_reducible refine Upd_rfl ?_); rfl) | split | dsimp only

theorem only_execGuardianCounterFault {m0 : List Part} {z0 : State} (hm : sub [.now, .sw, .records] m0 = true)
    (a0) (a1) (a2) (a3) (s : State) (h : Only m0 z0 s) : OutOnly m0 z0 (execGuardianCounterFault a0 a1 a2 a3 s) := by
  unfold execGuardianCounterFault
  repeat' first
    | with_reducible assumption | exact sub_trans (by decide) hm | with_reducible apply only_State_atTime
    | with_reducible apply only_closeGuard | with_reducible refine OutOnly_next.mpr ?_ | intro _
    | (simp only [↓Only_mk]; with_reducible refine Mk_of hm rfl ?_ ?_) | ((with_reducible refine Upd_rfl ?_); rfl)
    | split

theorem only_execCounterCauseCleared {m0 : List Part} {z0 : State} (hm : sub [.now, .sw, .records] m0 = true)
    (a0) (s : State) (h : Only m0 z0 s) : OutOnly m0 z0 (execCounterCauseCleared a0 s) := by
  unfold execCounterCauseCleared
  repeat' first
    | with_reducible assumption | exact sub_trans (by decide) hm | with_reducible apply only_State_atTime
    | with_reducible apply only_clearGuard | with_reducible refine OutOnly_next.mpr ?_ | intro _
    | (simp only [↓Only_mk]; with_reducible refine Mk_of hm rfl ?_ ?_) | ((with_reducible refine Upd_rfl ?_); rfl)
    | split

theorem only_bumpComId {m0 : List Part} {z0 : State} (hm : sub [.tel] m0 = true)
    (a0) (a1) (s : State) (h : Only m0 z0 s) : Only m0 z0 (bumpComId a0 a1 s) := by
  unfold bumpComId
  repeat' first
    | with_reducible assumption | exact sub_trans (by decide) hm | with_reducible apply only_foldl | intro _
    | (simp only [↓Only_mk]; with_reducible refine Mk_of hm rfl ?_ ?_) | ((with_reducible refine Upd_rfl ?_); rfl)

theorem only_execPdSend {m0 : List Part} {z0 : State} (hm : sub [.now, .sw, .tel, .sent] m0 = true)
    (a0) (a1) (s : State) (h : Only m0 z0 s) : OutOnly m0 z0 (execPdSend a0 a1 s) := by
  unfold execPdSend
  extract_lets +onlyGivenNames s0 x
  have h0 : Only m0 z0 s0 := only_State_atTime (sub_trans (by decide) hm) _ _ h
  clear_value s0 x
  refine OutOnly_next.mpr ?_
  split
  · refine Only_ite (fun _ => ?_) (fun _ => h0)
    extract_lets +onlyGivenNames st f s1
    have h1 : Only m0 z0 s1 := only_sendLocal (sub_trans (by decide) hm) _ _ _ _ _ _ _ h0
    clear_value s1
    extract_lets +onlyGivenNames c s2
    have h2 : Only m0 z0 s2 := only_State_emit (sub_trans (by decide) hm) _ _ (only_bumpComId (sub_trans (by decide) hm) _ _ _ (Only_upd (d := [.tel]) (sub_trans (by decide) hm) h1 (Upd_of rfl rfl rfl (by intro p; cases p <;> first | exact .inl rfl | exact .inr rfl | exact .inr ⟨rfl, rfl⟩ | exact .inr ⟨rfl, rfl, rfl⟩))))
    clear_value s2
    exact Only_upd (d := [.tel]) (sub_trans (by decide) hm) h2 (Upd_of rfl rfl rfl (by intro p; cases p <;> first | exact .inl rfl | exact .inr rfl | exact .inr ⟨rfl, rfl⟩ | exact .inr ⟨rfl, rfl, rfl⟩))
  · exact h0

theorem only_State_unpowered {m0 : List Part} {z0 : State} (hm : sub [.now, .time, .mode, .ctl, .lanes, .rek, .mem, .cis, .fab, .fio, .sw, .tel, .dma, .bri, .pair, .od, .upd, .records] m0 = true)
    (s : State) (h : Only m0 z0 s) : Only m0 z0 (State.unpowered s) := by
  unfold State.unpowered
  extract_lets o
  exact Only_upd hm h (Upd_of rfl rfl rfl (by intro p; cases p <;> first | exact .inl rfl | exact .inr rfl | exact .inr ⟨rfl, rfl⟩ | exact .inr ⟨rfl, rfl, rfl⟩))

theorem only_powerUp {m0 : List Part} {z0 : State} (hm : sub [.now, .time, .mode, .ctl, .lanes, .rek, .mem, .cis, .fab, .fio, .sw, .tel, .dma, .bri, .pair, .od, .upd, .records] m0 = true)
    (s : State) (h : Only m0 z0 s) : Only m0 z0 (powerUp s) := by
  unfold powerUp
  repeat' first
    | with_reducible assumption | exact sub_trans (by decide) hm | with_reducible apply only_State_unpowered
    | with_reducible apply only_enterMode | (simp only [↓Only_mk]; with_reducible refine Mk_of hm rfl ?_ ?_)
    | ((with_reducible refine Upd_rfl ?_); rfl)

theorem only_execSupplyOn {m0 : List Part} {z0 : State} (hm : sub [.now, .time, .mode, .ctl, .lanes, .rek, .mem, .cis, .fab, .fio, .sw, .tel, .dma, .bri, .pair, .od, .upd, .records] m0 = true)
    (a0) (s : State) (h : Only m0 z0 s) : OutOnly m0 z0 (execSupplyOn a0 s) := by
  unfold execSupplyOn
  repeat' first
    | with_reducible assumption | exact sub_trans (by decide) hm | with_reducible apply only_powerUp
    | with_reducible refine Only_ite ?_ ?_ | with_reducible refine OutOnly_next.mpr ?_ | intro _

theorem only_endStage {m0 : List Part} {z0 : State} (hm : sub [.ctl] m0 = true)
    (a0) (s : State) (h : Only m0 z0 s) : Only m0 z0 (endStage a0 s) := by
  unfold endStage
  repeat' first
    | with_reducible assumption | (simp only [↓Only_mk]; with_reducible refine Mk_of hm rfl ?_ ?_)
    | ((with_reducible refine Upd_rfl ?_); rfl)

theorem only_repairCopy {m0 : List Part} {z0 : State} (hm : sub [.fab, .records] m0 = true)
    (a0) (a1) (s : State) (h : Only m0 z0 s) : Only m0 z0 (repairCopy a0 a1 s) := by
  unfold repairCopy
  repeat' first
    | with_reducible assumption | exact sub_trans (by decide) hm | with_reducible apply only_raiseFab
    | with_reducible refine Only_ite ?_ ?_ | with_reducible apply only_foldl | intro _
    | (extract_lets +onlyGivenNames x; have hx : Only m0 z0 x := ?hx; case' hx => unfold x)
    | extract_lets +onlyGivenNames _ | (simp only [↓Only_mk]; with_reducible refine Mk_of hm rfl ?_ ?_)
    | ((with_reducible refine Upd_rfl ?_); rfl) | split | dsimp only

theorem only_resumeTrial {m0 : List Part} {z0 : State} (hm : sub [.upd, .records] m0 = true)
    (s : State) (h : Only m0 z0 s) : Only m0 z0 (resumeTrial s) := by
  unfold resumeTrial
  repeat' first
    | with_reducible assumption | exact sub_trans (by decide) hm | with_reducible apply only_beginTrial
    | with_reducible refine Only_ite ?_ ?_ | intro _ | (simp only [↓Only_mk]; with_reducible refine Mk_of hm rfl ?_ ?_)
    | ((with_reducible refine Upd_rfl ?_); rfl)

theorem only_execStage0Complete {m0 : List Part} {z0 : State} (hm : sub [.now, .mode, .ctl, .lanes, .rek, .cis, .fab, .fio, .tel, .pair, .upd, .records, .sent] m0 = true)
    (a0) (s : State) (h : Only m0 z0 s) : OutOnly m0 z0 (execStage0Complete a0 s) := by
  unfold execStage0Complete
  extract_lets +onlyGivenNames s0
  have h0 : Only m0 z0 s0 := only_State_atTime (sub_trans (by decide) hm) _ _ h
  clear_value s0
  refine OutOnly_next.mpr (Only_ite (fun _ => ?_) (fun _ => h0))
  split
  · extract_lets +onlyGivenNames s1
    have h1 : Only m0 z0 s1 := only_enterMode (sub_trans (by decide) hm) _ _ _ (only_endStage (sub_trans (by decide) hm) _ _ (only_activateMap (sub_trans (by decide) hm) _ _ (only_repairCopy (sub_trans (by decide) hm) _ _ _ h0)))
    clear_value s1
    exact only_resumeTrial (sub_trans (by decide) hm) _ (only_refresh (sub_trans (by decide) hm) _ (Only_upd (d := [.ctl]) (sub_trans (by decide) hm) h1 (Upd_of rfl rfl rfl (by intro p; cases p <;> first | exact .inl rfl | exact .inr rfl | exact .inr ⟨rfl, rfl⟩ | exact .inr ⟨rfl, rfl, rfl⟩))))
  · exact only_lockout (sub_trans (by decide) hm) _ _ (only_enterMode (sub_trans (by decide) hm) _ _ _ h0)

theorem only_loadGroup {m0 : List Part} {z0 : State} (hm : sub [.fio] m0 = true)
    (a0) (s : State) (h : Only m0 z0 s) : Only m0 z0 (loadGroup a0 s) := by
  unfold loadGroup
  repeat' first
    | with_reducible assumption | exact sub_trans (by decide) hm | with_reducible apply only_State_modGroup

theorem only_readStrap {m0 : List Part} {z0 : State} (hm : sub [.free] m0 = true)
    (a0) (s : State) (h : Only m0 z0 s) : Only m0 z0 (readStrap a0 s).2 := by
  unfold readStrap
  repeat' first
    | with_reducible assumption | exact sub_trans (by decide) hm | with_reducible apply only_State_tick | split

theorem only_readStraps {m0 : List Part} {z0 : State} (hm : sub [.ctl, .free] m0 = true)
    (a0) (s : State) (h : Only m0 z0 s) : Only m0 z0 (readStraps a0 s) := by
  unfold readStraps
  extract_lets step r
  have hr : ∀ (l : List Nat) (acc : Nat × State), Only m0 z0 acc.2 → Only m0 z0 (l.foldl step acc).2 := by
    intro l
    induction l with
    | nil => exact fun _ h => h
    | cons x l ih => exact fun acc h => ih _ (only_readStrap (sub_trans (by decide) hm) _ _ h)
  have h1 : Only m0 z0 r.2 := hr _ (0, s) h
  clear_value r
  exact Only_upd (d := [.ctl]) (sub_trans (by decide) hm) h1 (Upd_of rfl rfl rfl (by intro p; cases p <;> first | exact .inl rfl | exact .inr rfl | exact .inr ⟨rfl, rfl⟩ | exact .inr ⟨rfl, rfl, rfl⟩))

theorem only_takePairRole {m0 : List Part} {z0 : State} (hm : sub [.pair, .sent] m0 = true)
    (s : State) (h : Only m0 z0 s) : Only m0 z0 (takePairRole s) := by
  unfold takePairRole
  repeat' first
    | with_reducible assumption | exact sub_trans (by decide) hm | with_reducible apply only_setDrive
    | with_reducible refine Only_ite ?_ ?_ | intro _ | (simp only [↓Only_mk]; with_reducible refine Mk_of hm rfl ?_ ?_)
    | ((with_reducible refine Upd_rfl ?_); rfl)

theorem only_commonsBoot {m0 : List Part} {z0 : State} (hm : sub [.time, .ctl, .fio, .pair, .od, .records, .sent, .free] m0 = true)
    (a0) (s : State) (h : Only m0 z0 s) : Only m0 z0 (commonsBoot a0 s) := by
  unfold commonsBoot
  repeat' first
    | with_reducible assumption | exact sub_trans (by decide) hm | with_reducible apply only_loadRecords
    | with_reducible apply only_loadConfig | with_reducible apply only_readStraps
    | with_reducible apply only_takePairRole | with_reducible apply only_reportRoles
    | with_reducible apply only_loadGroup | with_reducible apply only_foldl | intro _

theorem only_execStage1Complete {m0 : List Part} {z0 : State} (hm : sub [.now, .time, .ctl, .fio, .pair, .od, .records, .sent, .free] m0 = true)
    (a0) (a1) (s : State) (h : Only m0 z0 s) : OutOnly m0 z0 (execStage1Complete a0 a1 s) := by
  unfold execStage1Complete
  repeat' first
    | with_reducible assumption | exact sub_trans (by decide) hm | with_reducible apply only_State_atTime
    | with_reducible apply only_endStage | with_reducible apply only_commonsBoot | with_reducible refine Only_ite ?_ ?_
    | with_reducible refine OutOnly_next.mpr ?_ | intro _

theorem only_lanesIn {m0 : List Part} {z0 : State} (hm : sub [.lanes] m0 = true)
    (s : State) (h : Only m0 z0 s) : Only m0 z0 (lanesIn s) := by
  unfold lanesIn
  repeat' first
    | with_reducible assumption | exact sub_trans (by decide) hm | with_reducible apply only_State_modLanes

theorem only_stage2Image {m0 : List Part} {z0 : State} (hm : sub [.mode, .ctl, .lanes, .rek, .mem, .cis, .fab, .tel, .pair, .records, .sent] m0 = true)
    (a0) (a1) (s : State) (h : Only m0 z0 s) : Only m0 z0 (stage2Image a0 a1 s) := by
  unfold stage2Image
  repeat' first
    | with_reducible assumption | exact sub_trans (by decide) hm | with_reducible apply only_dissentOut
    | with_reducible apply only_lanesIn | with_reducible apply only_installImage
    | with_reducible apply only_restoreRetained | with_reducible apply only_applyBindings
    | with_reducible apply only_lanesCheck | with_reducible apply only_voteBindings | with_reducible apply only_endStage
    | with_reducible apply only_faultStop | with_reducible apply only_raise | with_reducible refine Only_ite ?_ ?_
    | with_reducible apply only_foldl | intro _
    | (extract_lets +onlyGivenNames x; have hx : Only m0 z0 x := ?hx; case' hx => unfold x)
    | extract_lets +onlyGivenNames _ | (simp only [↓Only_mk]; with_reducible refine Mk_of hm rfl ?_ ?_)
    | ((with_reducible refine Upd_rfl ?_); rfl) | split | dsimp only

theorem only_execStage2Complete {m0 : List Part} {z0 : State} (hm : sub [.now, .mode, .ctl, .lanes, .rek, .mem, .cis, .fab, .tel, .pair, .records, .sent] m0 = true)
    (a0) (a1) (s : State) (h : Only m0 z0 s) : OutOnly m0 z0 (execStage2Complete a0 a1 s) := by
  unfold execStage2Complete
  repeat' first
    | with_reducible assumption | exact sub_trans (by decide) hm | with_reducible apply only_State_atTime
    | with_reducible apply only_stage2Image | with_reducible apply only_endStage | with_reducible apply only_setStagger
    | with_reducible apply only_applyBindings | with_reducible apply only_lanesIn
    | with_reducible refine OutOnly_next.mpr ?_ | intro _ | split

theorem only_startSlot {m0 : List Part} {z0 : State} (hm : sub [.time] m0 = true)
    (s : State) (a1) (h : Only m0 z0 s) : Only m0 z0 (startSlot s a1) := by
  unfold startSlot
  repeat' first
    | with_reducible assumption | exact sub_trans (by decide) hm | with_reducible apply only_State_modPtp

theorem only_startNetwork {m0 : List Part} {z0 : State} (hm : sub [.time, .sw, .tel, .bri, .od, .records] m0 = true)
    (s : State) (h : Only m0 z0 s) : Only m0 z0 (startNetwork s) := by
  unfold startNetwork
  repeat' first
    | with_reducible assumption | exact sub_trans (by decide) hm | with_reducible apply only_activateMatrix
    | with_reducible apply only_startSlot | with_reducible apply only_setCan | with_reducible apply only_raiseIf
    | with_reducible refine Only_ite ?_ ?_ | intro _ | (simp only [↓Only_mk]; with_reducible refine Mk_of hm rfl ?_ ?_)
    | ((with_reducible refine Upd_rfl ?_); rfl)

theorem only_refuseCommand {m0 : List Part} {z0 : State} (hm : sub [.ctl, .records] m0 = true)
    (a0) (a1) (s : State) (h : Only m0 z0 s) : Only m0 z0 (refuseCommand a0 a1 s) := by
  unfold refuseCommand
  repeat' first
    | with_reducible assumption | exact sub_trans (by decide) hm | with_reducible apply only_setResult
    | with_reducible apply only_raise

theorem only_startComplete {m0 : List Part} {z0 : State} (hm : sub [.ctl, .records] m0 = true)
    (s : State) (h : Only m0 z0 s) : Only m0 z0 (startComplete s) := by
  unfold startComplete
  repeat' first
    | with_reducible assumption | exact sub_trans (by decide) hm | with_reducible apply only_endStage
    | with_reducible apply only_raise

theorem only_startStop {m0 : List Part} {z0 : State} (hm : sub [.mode, .ctl, .fab, .records] m0 = true)
    (s : State) (h : Only m0 z0 s) : Only m0 z0 (startStop s) := by
  unfold startStop
  repeat' first
    | with_reducible assumption | exact sub_trans (by decide) hm | with_reducible apply only_startComplete
    | with_reducible apply only_enterMode

theorem only_startMode {m0 : List Part} {z0 : State} (hm : sub [.mode, .ctl, .fab, .records] m0 = true)
    (s : State) (h : Only m0 z0 s) : Only m0 z0 (startMode s) := by
  unfold startMode
  repeat' first
    | with_reducible assumption | exact sub_trans (by decide) hm | with_reducible apply only_startStop
    | with_reducible apply only_startComplete | with_reducible apply only_enterMode
    | with_reducible apply only_refuseCommand | with_reducible refine Only_ite ?_ ?_ | intro _
    | (simp only [↓Only_mk]; with_reducible refine Mk_of hm rfl ?_ ?_) | ((with_reducible refine Upd_rfl ?_); rfl)

theorem only_execStage3Complete {m0 : List Part} {z0 : State} (hm : sub [.now, .time, .mode, .ctl, .fab, .sw, .tel, .bri, .od, .records] m0 = true)
    (a0) (s : State) (h : Only m0 z0 s) : OutOnly m0 z0 (execStage3Complete a0 s) := by
  unfold execStage3Complete
  repeat' first
    | with_reducible assumption | exact sub_trans (by decide) hm | with_reducible apply only_State_atTime
    | with_reducible apply only_startNetwork | with_reducible apply only_startMode | with_reducible refine Only_ite ?_ ?_
    | with_reducible refine OutOnly_next.mpr ?_ | intro _

theorem only_execStageTimeout {m0 : List Part} {z0 : State} (hm : sub [.now, .mode, .ctl, .lanes, .rek, .cis, .fab, .fio, .tel, .pair, .records, .sent] m0 = true)
    (a0) (a1) (s : State) (h : Only m0 z0 s) : OutOnly m0 z0 (execStageTimeout a0 a1 s) := by
  unfold execStageTimeout
  repeat' first
    | with_reducible assumption | exact sub_trans (by decide) hm | with_reducible apply only_State_atTime
    | with_reducible apply only_lockout | with_reducible apply only_enterMode | with_reducible apply only_faultStop
    | with_reducible apply only_raise | with_reducible refine Only_ite ?_ ?_ | with_reducible refine OutOnly_next.mpr ?_
    | intro _

theorem only_execSupplyInterruption {m0 : List Part} {z0 : State} (hm : sub [.now, .ctl, .upd] m0 = true)
    (a0) (s : State) (h : Only m0 z0 s) : OutOnly m0 z0 (execSupplyInterruption a0 s) := by
  unfold execSupplyInterruption
  repeat' first
    | with_reducible assumption | exact sub_trans (by decide) hm | with_reducible apply only_State_atTime
    | with_reducible refine Only_ite ?_ ?_ | with_reducible refine OutOnly_next.mpr ?_ | intro _
    | (simp only [↓Only_mk]; with_reducible refine Mk_of hm rfl ?_ ?_) | ((with_reducible refine Upd_rfl ?_); rfl)

theorem only_execStoreExhausted {m0 : List Part} {z0 : State} (hm : sub [.now, .ctl] m0 = true)
    (a0) (s : State) (h : Only m0 z0 s) : OutOnly m0 z0 (execStoreExhausted a0 s) := by
  unfold execStoreExhausted
  repeat' first
    | with_reducible assumption | exact sub_trans (by decide) hm | with_reducible apply only_State_atTime
    | with_reducible refine Only_ite ?_ ?_ | with_reducible refine OutOnly_next.mpr ?_ | intro _
    | (simp only [↓Only_mk]; with_reducible refine Mk_of hm rfl ?_ ?_) | ((with_reducible refine Upd_rfl ?_); rfl)

theorem only_restartGroup {m0 : List Part} {z0 : State} (hm : sub [.fio, .sent] m0 = true)
    (s : State) (a1) (h : Only m0 z0 s) : Only m0 z0 (restartGroup s a1) := by
  unfold restartGroup
  repeat' first
    | with_reducible assumption | exact sub_trans (by decide) hm | with_reducible apply only_sendRoles
    | with_reducible apply only_State_modGroup | with_reducible apply only_sendDrive
    | with_reducible apply only_loadGroup | with_reducible refine Only_ite ?_ ?_ | intro _

theorem only_execSupplyReturn {m0 : List Part} {z0 : State} (hm : sub [.now, .time, .mode, .ctl, .lanes, .rek, .mem, .cis, .fab, .fio, .sw, .tel, .dma, .bri, .pair, .od, .upd, .records, .sent] m0 = true)
    (a0) (a1) (a2) (a3) (s : State) (h : Only m0 z0 s) : OutOnly m0 z0 (execSupplyReturn a0 a1 a2 a3 s) := by
  unfold execSupplyReturn
  repeat' first
    | with_reducible assumption | exact sub_trans (by decide) hm | with_reducible apply only_State_atTime
    | with_reducible apply only_powerUp | with_reducible apply only_restartGroup | with_reducible apply only_lockout
    | with_reducible refine Only_ite ?_ ?_ | with_reducible apply only_foldl | with_reducible refine OutOnly_next.mpr ?_
    | intro _ | (simp only [↓Only_mk]; with_reducible refine Mk_of hm rfl ?_ ?_)
    | ((with_reducible refine Upd_rfl ?_); rfl)

theorem only_execSupplyMeasurement {m0 : List Part} {z0 : State} (hm : sub [.now, .ctl, .records] m0 = true)
    (a0) (a1) (s : State) (h : Only m0 z0 s) : OutOnly m0 z0 (execSupplyMeasurement a0 a1 s) := by
  unfold execSupplyMeasurement
  repeat' first
    | with_reducible assumption | exact sub_trans (by decide) hm | with_reducible apply only_State_atTime
    | with_reducible apply only_measure | with_reducible refine Only_ite ?_ ?_
    | with_reducible refine OutOnly_next.mpr ?_ | intro _
    | (simp only [↓Only_mk]; with_reducible refine Mk_of hm rfl ?_ ?_) | ((with_reducible refine Upd_rfl ?_); rfl)

theorem only_execFabricReserveExhausted {m0 : List Part} {z0 : State} (hm : sub [.now, .time, .mode, .ctl, .lanes, .rek, .mem, .cis, .fab, .fio, .sw, .tel, .dma, .bri, .pair, .od, .upd, .records] m0 = true)
    (a0) (s : State) (h : Only m0 z0 s) : OutOnly m0 z0 (execFabricReserveExhausted a0 s) := by
  unfold execFabricReserveExhausted
  repeat' first
    | with_reducible assumption | exact sub_trans (by decide) hm | with_reducible apply only_State_atTime
    | with_reducible apply only_State_unpowered | with_reducible refine OutOnly_next.mpr ?_ | intro _ | split

theorem only_execLedFallback {m0 : List Part} {z0 : State} (hm : sub [.now, .ctl] m0 = true)
    (a0) (s : State) (h : Only m0 z0 s) : OutOnly m0 z0 (execLedFallback a0 s) := by
  unfold execLedFallback
  repeat' first
    | with_reducible assumption | exact sub_trans (by decide) hm | with_reducible apply only_State_atTime
    | with_reducible refine Only_ite ?_ ?_ | with_reducible refine OutOnly_next.mpr ?_ | intro _
    | (simp only [↓Only_mk]; with_reducible refine Mk_of hm rfl ?_ ?_) | ((with_reducible refine Upd_rfl ?_); rfl)

theorem only_execCisternEccError {m0 : List Part} {z0 : State} (hm : sub [.now, .mode, .ctl, .lanes, .rek, .cis, .fab, .tel, .pair, .records, .sent] m0 = true)
    (a0) (s : State) (h : Only m0 z0 s) : OutOnly m0 z0 (execCisternEccError a0 s) := by
  unfold execCisternEccError
  repeat' first
    | with_reducible assumption | exact sub_trans (by decide) hm | with_reducible apply only_State_atTime
    | with_reducible apply only_faultStop | with_reducible apply only_raise | with_reducible refine Only_ite ?_ ?_
    | with_reducible refine OutOnly_next.mpr ?_ | intro _
    | (simp only [↓Only_mk]; with_reducible refine Mk_of hm rfl ?_ ?_) | ((with_reducible refine Upd_rfl ?_); rfl)

theorem only_State_modSession {m0 : List Part} {z0 : State} (hm : sub [.od] m0 = true)
    (s : State) (a1) (a2) (h : Only m0 z0 s) : Only m0 z0 (State.modSession s a1 a2) := by
  unfold State.modSession
  repeat' first
    | with_reducible assumption | (simp only [↓Only_mk]; with_reducible refine Mk_of hm rfl ?_ ?_)
    | ((with_reducible refine Upd_rfl ?_); rfl)

theorem only_keepAnswer {m0 : List Part} {z0 : State} (hm : sub [.od] m0 = true)
    (a0) (a1) (a2) (s : State) (h : Only m0 z0 s) : Only m0 z0 (keepAnswer a0 a1 a2 s) := by
  unfold keepAnswer
  repeat' first
    | with_reducible assumption | exact sub_trans (by decide) hm | with_reducible apply only_State_modSession | split

theorem only_respond {m0 : List Part} {z0 : State} (hm : sub [.od, .sent] m0 = true)
    (a0) (a1) (a2) (s : State) (h : Only m0 z0 s) : Only m0 z0 (respond a0 a1 a2 s) := by
  unfold respond
  repeat' first
    | with_reducible assumption | exact sub_trans (by decide) hm | with_reducible apply only_keepAnswer
    | with_reducible apply only_State_emitAll

end Sys2Proof.Machine
end

