-- ==== Sys2Proof/Laws/OnlyE.lean ====
section
/-! SUPPORT. The parts of a state that each operation touches (Laws/Frames.lean): the pour, the pair, the exchange and the cycle boundary. -/

set_option Elab.async false

set_option linter.all false

namespace Sys2Proof.Machine

theorem only_pourFail {m0 : List Part} {z0 : State} (hm : sub [.rek, .records] m0 = true)
    (a0) (a1) (a2) (a3) (s : State) (h : Only m0 z0 s) : Only m0 z0 (pourFail a0 a1 a2 a3 s) := by
  unfold pourFail
  repeat' first
    | with_reducible assumption | exact sub_trans (by decide) hm | with_reducible apply only_raise
    | (simp only [↓Only_mk]; with_reducible refine Mk_of hm rfl ?_ ?_) | ((with_reducible refine Upd_rfl ?_); rfl)

theorem only_pourWindow {m0 : List Part} {z0 : State} (hm : sub [.rek, .records] m0 = true)
    (a0) (a1) (s : State) (h : Only m0 z0 s) : Only m0 z0 (pourWindow a0 a1 s).1 := by
  unfold pourWindow
  repeat' first
    | with_reducible assumption | exact sub_trans (by decide) hm | with_reducible apply only_pourFail
    | with_reducible refine Only_of_fst (by assumption) ?_ | with_reducible refine Only_ite ?_ ?_
    | with_reducible refine Only_fst_ite ?_ ?_ | with_reducible apply only_foldl_fst | with_reducible apply only_foldl
    | intro _ | (extract_lets +onlyGivenNames x; have hx : Only m0 z0 x := ?hx; case' hx => unfold x)
    | extract_lets +onlyGivenNames _ | (simp only [↓Only_mk]; with_reducible refine Mk_of hm rfl ?_ ?_)
    | ((with_reducible refine Upd_rfl ?_); rfl) | split | dsimp only

theorem only_pourWindows {m0 : List Part} {z0 : State} (hm : sub [.rek, .records] m0 = true)
    (a0) (a1) (s : State) (h : Only m0 z0 s) : Only m0 z0 (pourWindows a0 a1 s).1 := by
  induction a1 generalizing s with
  | nil => exact h
  | cons v r ih =>
    unfold pourWindows
    split
    · exact Only_of_fst ‹_› (only_pourWindow (sub_trans (by decide) hm) _ _ _ h)
    · have h1 := Only_of_fst ‹_› (only_pourWindow (sub_trans (by decide) hm) _ _ _ h)
      split
      · exact Only_of_fst ‹_› (ih _ h1)
      · exact Only_of_fst ‹_› (ih _ h1)

theorem only_pourSplit {m0 : List Part} {z0 : State} (hm : sub [.ctl, .rek, .records] m0 = true)
    (a0) (a1) (a2) (s : State) (h : Only m0 z0 s) : Only m0 z0 (pourSplit a0 a1 a2 s).1 := by
  unfold pourSplit
  repeat' first
    | with_reducible assumption | exact sub_trans (by decide) hm | with_reducible apply only_splitFault
    | with_reducible apply only_pourFail | with_reducible apply only_raiseLane | intro _ | extract_lets +onlyGivenNames _
    | split

theorem only_pourSplits {m0 : List Part} {z0 : State} (hm : sub [.ctl, .rek, .records] m0 = true)
    (a0) (a1) (a2) (s : State) (h : Only m0 z0 s) : Only m0 z0 (pourSplits a0 a1 a2 s).1 := by
  induction a2 generalizing s with
  | nil => exact h
  | cons x r ih =>
    unfold pourSplits
    extract_lets q z
    have hz : Only m0 z0 z.1 := ih _ (only_pourSplit (sub_trans (by decide) hm) _ _ _ _ h)
    clear_value z
    split
    · exact hz
    · exact hz

theorem only_superseded {m0 : List Part} {z0 : State} (hm : sub [.records] m0 = true)
    (a0) (a1) (a2) (a3) (s : State) (h : Only m0 z0 s) : Only m0 z0 (superseded a0 a1 a2 a3 s) := by
  unfold superseded
  repeat' first
    | with_reducible assumption | exact sub_trans (by decide) hm | with_reducible apply only_raise

theorem only_pushWrites {m0 : List Part} {z0 : State} (hm : sub [.lanes, .mem] m0 = true)
    (a0) (s : State) (h : Only m0 z0 s) : Only m0 z0 (pushWrites a0 s) := by
  unfold pushWrites
  repeat' first
    | with_reducible assumption | exact sub_trans (by decide) hm | with_reducible apply only_State_modLanes
    | with_reducible refine Only_ite ?_ ?_ | with_reducible apply only_foldl | intro _
    | (extract_lets +onlyGivenNames x; have hx : Only m0 z0 x := ?hx; case' hx => unfold x)
    | extract_lets +onlyGivenNames _ | (simp only [↓Only_mk]; with_reducible refine Mk_of hm rfl ?_ ?_)
    | ((with_reducible refine Upd_rfl ?_); rfl) | split | dsimp only

theorem only_changeOnForced {m0 : List Part} {z0 : State} (hm : sub [.ctl, .records] m0 = true)
    (a0) (a1) (s : State) (h : Only m0 z0 s) : Only m0 z0 (changeOnForced a0 a1 s) := by
  unfold changeOnForced
  repeat' first
    | with_reducible assumption | exact sub_trans (by decide) hm | with_reducible apply only_raise
    | with_reducible refine Only_ite ?_ ?_ | with_reducible apply only_foldl | intro _
    | (extract_lets +onlyGivenNames x; have hx : Only m0 z0 x := ?hx; case' hx => unfold x)
    | extract_lets +onlyGivenNames _ | (simp only [↓Only_mk]; with_reducible refine Mk_of hm rfl ?_ ?_)
    | ((with_reducible refine Upd_rfl ?_); rfl) | split | dsimp only

theorem only_settleSignal {m0 : List Part} {z0 : State} (hm : sub [.ctl, .cis, .records] m0 = true)
    (a0) (a1) (s : State) (a3) (h : Only m0 z0 s) : Only m0 z0 (settleSignal a0 a1 s a3) := by
  unfold settleSignal
  extract_lets s1 c1 s2 s3 c2
  have h1 : Only m0 z0 s1 := only_changeOnForced (sub_trans (by decide) hm) _ _ _ h
  clear_value s1
  have h2 : Only m0 z0 s2 := by
    unfold s2
    split
    · exact Only_upd (d := [.cis]) (sub_trans (by decide) hm) h1 (Upd_of rfl rfl rfl (by intro p; cases p <;> first | exact .inl rfl | exact .inr rfl | exact .inr ⟨rfl, rfl⟩ | exact .inr ⟨rfl, rfl, rfl⟩))
    · exact h1
  clear_value s2
  have h3 : Only m0 z0 s3 := only_foldl (fun _ _ hq => only_superseded (sub_trans (by decide) hm) _ _ _ _ _ hq) h2
  clear_value s3
  exact Only_upd (d := [.cis]) (sub_trans (by decide) hm) h3 (Upd_of rfl rfl rfl (by intro p; cases p <;> first | exact .inl rfl | exact .inr rfl | exact .inr ⟨rfl, rfl⟩ | exact .inr ⟨rfl, rfl, rfl⟩))

theorem only_commitAll {m0 : List Part} {z0 : State} (hm : sub [.ctl, .lanes, .mem, .cis, .records] m0 = true)
    (a0) (a1) (a2) (a3) (s : State) (h : Only m0 z0 s) : Only m0 z0 (commitAll a0 a1 a2 a3 s) := by
  unfold commitAll
  repeat' first
    | with_reducible assumption | exact sub_trans (by decide) hm | with_reducible apply only_pushWrites
    | with_reducible apply only_settleSignal | with_reducible refine Only_ite ?_ ?_ | with_reducible apply only_foldl
    | intro _ | (simp only [↓Only_mk]; with_reducible refine Mk_of hm rfl ?_ ?_)
    | ((with_reducible refine Upd_rfl ?_); rfl)

theorem only_countPoured {m0 : List Part} {z0 : State} (hm : sub [.ctl] m0 = true)
    (s : State) (a1) (h : Only m0 z0 s) : Only m0 z0 (countPoured s a1) := by
  unfold countPoured
  repeat' first
    | with_reducible assumption | exact sub_trans (by decide) hm | with_reducible apply only_State_modTask

theorem only_countSubst {m0 : List Part} {z0 : State} (hm : sub [.rek, .tel] m0 = true)
    (a0) (s : State) (h : Only m0 z0 s) : Only m0 z0 (countSubst a0 s) := by
  unfold countSubst
  repeat' first
    | with_reducible assumption | (simp only [↓Only_mk]; with_reducible refine Mk_of hm rfl ?_ ?_)
    | ((with_reducible refine Upd_rfl ?_); rfl)

theorem only_sendOutputs {m0 : List Part} {z0 : State} (hm : sub [.sent] m0 = true)
    (a0) (a1) (s : State) (h : Only m0 z0 s) : Only m0 z0 (sendOutputs a0 a1 s) := by
  unfold sendOutputs
  repeat' first
    | with_reducible assumption | exact sub_trans (by decide) hm | with_reducible apply only_sendDrive
    | with_reducible apply only_State_emitAll

theorem only_sendDelta {m0 : List Part} {z0 : State} (hm : sub [.pair, .sent] m0 = true)
    (a0) (s : State) (h : Only m0 z0 s) : Only m0 z0 (sendDelta a0 s) := by
  unfold sendDelta
  repeat' first
    | with_reducible assumption | exact sub_trans (by decide) hm | with_reducible apply only_sendObject
    | with_reducible refine Only_ite ?_ ?_ | intro _

theorem only_freeHalves {m0 : List Part} {z0 : State} (hm : sub [.lanes] m0 = true)
    (a0) (a1) (s : State) (h : Only m0 z0 s) : Only m0 z0 (freeHalves a0 a1 s) := by
  unfold freeHalves
  repeat' first
    | with_reducible assumption | exact sub_trans (by decide) hm | with_reducible apply only_State_modLanes
    | with_reducible apply only_State_modLane | with_reducible apply only_foldl | intro _

theorem only_pourNothing {m0 : List Part} {z0 : State} (hm : sub [.mode, .ctl, .lanes, .rek, .cis, .fab, .tel, .pair, .records, .sent] m0 = true)
    (a0) (s : State) (h : Only m0 z0 s) : Only m0 z0 (pourNothing a0 s) := by
  unfold pourNothing
  repeat' first
    | with_reducible assumption | exact sub_trans (by decide) hm | with_reducible apply only_faultStop
    | (simp only [↓Only_mk]; with_reducible refine Mk_of hm rfl ?_ ?_) | ((with_reducible refine Upd_rfl ?_); rfl)

theorem only_afterPour {m0 : List Part} {z0 : State} (hm : sub [.rek, .cis, .tel, .pair, .sent] m0 = true)
    (a0) (a1) (s : State) (h : Only m0 z0 s) : Only m0 z0 (afterPour a0 a1 s) := by
  unfold afterPour
  repeat' first
    | with_reducible assumption | exact sub_trans (by decide) hm | with_reducible apply only_sendDelta
    | with_reducible apply only_stageBuses | with_reducible apply only_sendRequest
    | with_reducible apply only_sendOutputs | (simp only [↓Only_mk]; with_reducible refine Mk_of hm rfl ?_ ?_)
    | ((with_reducible refine Upd_rfl ?_); rfl)

theorem only_commitPour {m0 : List Part} {z0 : State} (hm : sub [.ctl, .lanes, .rek, .mem, .cis, .tel, .pair, .records, .sent] m0 = true)
    (a0) (a1) (a2) (a3) (s : State) (h : Only m0 z0 s) : Only m0 z0 (commitPour a0 a1 a2 a3 s) := by
  unfold commitPour
  repeat' first
    | with_reducible assumption | exact sub_trans (by decide) hm | with_reducible apply only_pourSplits
    | with_reducible apply only_freeHalves | with_reducible apply only_commitAll | with_reducible apply only_countPoured
    | with_reducible apply only_countSubst | with_reducible apply only_State_modTask
    | with_reducible apply only_afterPour | with_reducible apply only_foldl | intro _

theorem only_execPour {m0 : List Part} {z0 : State} (hm : sub [.now, .mode, .ctl, .lanes, .rek, .mem, .cis, .fab, .tel, .pair, .records, .sent] m0 = true)
    (a0) (a1) (s : State) (h : Only m0 z0 s) : OutOnly m0 z0 (execPour a0 a1 s) := by
  unfold execPour
  repeat' first
    | with_reducible assumption | exact sub_trans (by decide) hm | with_reducible apply only_State_atTime
    | with_reducible apply only_afterPour | with_reducible apply only_pourWindows | with_reducible apply only_pourNothing
    | with_reducible apply only_raise | with_reducible apply only_commitPour
    | with_reducible refine Only_of_fst (by assumption) ?_ | with_reducible refine OutOnly_next.mpr ?_ | intro _ | split

theorem only_safeOrphans {m0 : List Part} {z0 : State} (hm : sub [.ctl, .lanes, .mem, .cis, .tel, .records, .sent] m0 = true)
    (a0) (s : State) (h : Only m0 z0 s) : Only m0 z0 (safeOrphans a0 s) := by
  unfold safeOrphans
  repeat' first
    | with_reducible assumption | exact sub_trans (by decide) hm | with_reducible apply only_State_modTask
    | with_reducible apply only_commitAll | with_reducible apply only_stageBuses | with_reducible apply only_sendRequest
    | with_reducible apply only_sendOutputs | with_reducible refine Only_ite ?_ ?_ | with_reducible apply only_foldl
    | intro _

theorem only_execPourWindowEnd {m0 : List Part} {z0 : State} (hm : sub [.now, .mode, .ctl, .lanes, .rek, .mem, .cis, .fab, .tel, .dma, .bri, .pair, .records, .sent, .free] m0 = true)
    (a0) (s : State) (h : Only m0 z0 s) : OutOnly m0 z0 (execPourWindowEnd a0 s) := by
  unfold execPourWindowEnd
  repeat' first
    | with_reducible assumption | exact sub_trans (by decide) hm | with_reducible apply only_State_atTime
    | with_reducible apply only_excludeLane | with_reducible apply only_lanesCheck
    | with_reducible apply only_safeOrphans | with_reducible refine Only_ite ?_ ?_ | with_reducible apply only_foldl
    | with_reducible refine OutOnly_next.mpr ?_ | intro _
    | (simp only [↓Only_mk]; with_reducible refine Mk_of hm rfl ?_ ?_) | ((with_reducible refine Upd_rfl ?_); rfl)

theorem only_execPourLate {m0 : List Part} {z0 : State} (hm : sub [.now, .mode, .ctl, .lanes, .rek, .cis, .fab, .tel, .pair, .records, .sent] m0 = true)
    (a0) (s : State) (h : Only m0 z0 s) : OutOnly m0 z0 (execPourLate a0 s) := by
  unfold execPourLate
  repeat' first
    | with_reducible assumption | exact sub_trans (by decide) hm | with_reducible apply only_State_atTime
    | with_reducible apply only_pourNothing | with_reducible apply only_raise | with_reducible refine Only_ite ?_ ?_
    | with_reducible refine OutOnly_next.mpr ?_ | intro _

theorem only_execRetainedSnapshot {m0 : List Part} {z0 : State} (hm : sub [.now, .cis] m0 = true)
    (a0) (s : State) (h : Only m0 z0 s) : OutOnly m0 z0 (execRetainedSnapshot a0 s) := by
  unfold execRetainedSnapshot
  repeat' first
    | with_reducible assumption | exact sub_trans (by decide) hm | with_reducible apply only_State_atTime
    | with_reducible apply only_snapshot | with_reducible refine Only_ite ?_ ?_
    | with_reducible refine OutOnly_next.mpr ?_ | intro _

theorem only_hearReferee {m0 : List Part} {z0 : State} (hm : sub [.pair, .records] m0 = true)
    (s : State) (h : Only m0 z0 s) : Only m0 z0 (hearReferee s) := by
  unfold hearReferee
  repeat' first
    | with_reducible assumption | exact sub_trans (by decide) hm | with_reducible apply only_raiseIf
    | (simp only [↓Only_mk]; with_reducible refine Mk_of hm rfl ?_ ?_) | ((with_reducible refine Upd_rfl ?_); rfl)

theorem only_loseLease {m0 : List Part} {z0 : State} (hm : sub [.tel, .pair, .records, .sent] m0 = true)
    (a0) (s : State) (h : Only m0 z0 s) : Only m0 z0 (loseLease a0 s) := by
  unfold loseLease
  repeat' first
    | with_reducible assumption | exact sub_trans (by decide) hm | with_reducible apply only_setDrive
    | with_reducible apply only_raise | (simp only [↓Only_mk]; with_reducible refine Mk_of hm rfl ?_ ?_)
    | ((with_reducible refine Upd_rfl ?_); rfl)

theorem only_driveOn {m0 : List Part} {z0 : State} (hm : sub [.tel, .pair, .sent] m0 = true)
    (s : State) (h : Only m0 z0 s) : Only m0 z0 (driveOn s) := by
  unfold driveOn
  repeat' first
    | with_reducible assumption | exact sub_trans (by decide) hm | with_reducible apply only_setDrive
    | with_reducible refine Only_ite ?_ ?_ | intro _ | (simp only [↓Only_mk]; with_reducible refine Mk_of hm rfl ?_ ?_)
    | ((with_reducible refine Upd_rfl ?_); rfl)

theorem only_sendRequestLease {m0 : List Part} {z0 : State} (hm : sub [.pair, .sent] m0 = true)
    (s : State) (h : Only m0 z0 s) : Only m0 z0 (sendRequestLease s) := by
  unfold sendRequestLease
  repeat' first
    | with_reducible assumption | exact sub_trans (by decide) hm | with_reducible apply only_sendReferee
    | (simp only [↓Only_mk]; with_reducible refine Mk_of hm rfl ?_ ?_) | ((with_reducible refine Upd_rfl ?_); rfl)

theorem only_rejectFrame {m0 : List Part} {z0 : State} (hm : sub [.pair, .records] m0 = true)
    (a0) (a1) (s : State) (h : Only m0 z0 s) : Only m0 z0 (rejectFrame a0 a1 s) := by
  unfold rejectFrame
  repeat' first
    | with_reducible assumption | exact sub_trans (by decide) hm | with_reducible apply only_raise
    | with_reducible refine Only_ite ?_ ?_ | intro _ | (simp only [↓Only_mk]; with_reducible refine Mk_of hm rfl ?_ ?_)
    | ((with_reducible refine Upd_rfl ?_); rfl)

theorem only_takeSiphon {m0 : List Part} {z0 : State} (hm : sub [.pair, .records] m0 = true)
    (a0) (a1) (s : State) (h : Only m0 z0 s) : Only m0 z0 (takeSiphon a0 a1 s).1 := by
  unfold takeSiphon
  repeat' first
    | with_reducible assumption | exact sub_trans (by decide) hm | with_reducible apply only_rejectFrame
    | with_reducible refine Only_fst_ite ?_ ?_ | intro _
    | (simp only [↓Only_mk]; with_reducible refine Mk_of hm rfl ?_ ?_) | ((with_reducible refine Upd_rfl ?_); rfl)

theorem only_finishShadow {m0 : List Part} {z0 : State} (hm : sub [.lanes, .pair, .upd, .records] m0 = true)
    (s : State) (h : Only m0 z0 s) : Only m0 z0 (finishShadow s) := by
  unfold finishShadow
  repeat' first
    | with_reducible assumption | exact sub_trans (by decide) hm | with_reducible apply only_beginTrial
    | with_reducible apply only_selectImageSlot | with_reducible apply only_State_modLanes
    | with_reducible refine Only_ite ?_ ?_ | intro _ | (simp only [↓Only_mk]; with_reducible refine Mk_of hm rfl ?_ ?_)
    | ((with_reducible refine Upd_rfl ?_); rfl)

theorem only_leaveShadow {m0 : List Part} {z0 : State} (hm : sub [.ctl, .lanes, .mem, .cis, .fab, .tel, .pair, .records] m0 = true)
    (s : State) (h : Only m0 z0 s) : Only m0 z0 (leaveShadow s) := by
  unfold leaveShadow
  repeat' first
    | with_reducible assumption | exact sub_trans (by decide) hm | with_reducible apply only_raise
    | with_reducible apply only_State_modLanes | with_reducible apply only_takeDigest
    | with_reducible apply only_applyBindings | with_reducible apply only_installImage
    | with_reducible refine Only_ite ?_ ?_ | with_reducible apply only_foldl | intro _
    | (extract_lets +onlyGivenNames x; have hx : Only m0 z0 x := ?hx; case' hx => unfold x)
    | extract_lets +onlyGivenNames _ | (simp only [↓Only_mk]; with_reducible refine Mk_of hm rfl ?_ ?_)
    | ((with_reducible refine Upd_rfl ?_); rfl) | split | dsimp only

theorem only_askResync {m0 : List Part} {z0 : State} (hm : sub [.pair, .sent] m0 = true)
    (s : State) (h : Only m0 z0 s) : Only m0 z0 (askResync s) := by
  unfold askResync
  repeat' first
    | with_reducible assumption | exact sub_trans (by decide) hm | with_reducible apply only_sendControl

theorem only_toJoining {m0 : List Part} {z0 : State} (hm : sub [.ctl, .lanes, .rek, .mem, .cis, .fab, .tel, .pair, .records, .sent] m0 = true)
    (a0) (s : State) (h : Only m0 z0 s) : Only m0 z0 (toJoining a0 s) := by
  unfold toJoining
  repeat' first
    | with_reducible assumption | exact sub_trans (by decide) hm | with_reducible apply only_dropAll
    | with_reducible apply only_setPair | with_reducible apply only_leaveShadow | with_reducible apply only_askResync
    | (simp only [↓Only_mk]; with_reducible refine Mk_of hm rfl ?_ ?_) | ((with_reducible refine Upd_rfl ?_); rfl)

theorem only_partnerGone {m0 : List Part} {z0 : State} (hm : sub [.mode, .ctl, .lanes, .rek, .fab, .tel, .pair, .records, .sent] m0 = true)
    (a0) (s : State) (h : Only m0 z0 s) : Only m0 z0 (partnerGone a0 s) := by
  unfold partnerGone
  repeat' first
    | with_reducible assumption | exact sub_trans (by decide) hm | with_reducible apply only_raise
    | with_reducible apply only_sendRequestLease | with_reducible apply only_deliver | with_reducible apply only_setPair
    | with_reducible apply only_enterMode | with_reducible refine Only_ite ?_ ?_ | with_reducible apply only_foldl
    | intro _ | (extract_lets +onlyGivenNames x; have hx : Only m0 z0 x := ?hx; case' hx => unfold x)
    | extract_lets +onlyGivenNames _ | (simp only [↓Only_mk]; with_reducible refine Mk_of hm rfl ?_ ?_)
    | ((with_reducible refine Upd_rfl ?_); rfl) | split | dsimp only

theorem only_activate {m0 : List Part} {z0 : State} (hm : sub [.mode, .ctl, .lanes, .fab, .tel, .pair, .upd, .records, .sent] m0 = true)
    (a0) (s : State) (h : Only m0 z0 s) : Only m0 z0 (activate a0 s) := by
  unfold activate
  repeat' first
    | with_reducible assumption | exact sub_trans (by decide) hm | with_reducible apply only_driveOn
    | with_reducible apply only_setPair | with_reducible apply only_finishShadow | with_reducible apply only_enterMode
    | with_reducible apply only_passTrial | with_reducible apply only_nmtStart | with_reducible refine Only_ite ?_ ?_
    | intro _

theorem only_takeOver {m0 : List Part} {z0 : State} (hm : sub [.mode, .ctl, .lanes, .fab, .tel, .pair, .upd, .records, .sent] m0 = true)
    (a0) (s : State) (h : Only m0 z0 s) : Only m0 z0 (takeOver a0 s) := by
  unfold takeOver
  repeat' first
    | with_reducible assumption | exact sub_trans (by decide) hm | with_reducible apply only_activate
    | with_reducible apply only_raise | (simp only [↓Only_mk]; with_reducible refine Mk_of hm rfl ?_ ?_)
    | ((with_reducible refine Upd_rfl ?_); rfl)

theorem only_proposeHandover {m0 : List Part} {z0 : State} (hm : sub [.pair, .sent] m0 = true)
    (a0) (a1) (a2) (s : State) (h : Only m0 z0 s) : Only m0 z0 (proposeHandover a0 a1 a2 s) := by
  unfold proposeHandover
  repeat' first
    | with_reducible assumption | exact sub_trans (by decide) hm | with_reducible apply only_sendControl
    | (simp only [↓Only_mk]; with_reducible refine Mk_of hm rfl ?_ ?_) | ((with_reducible refine Upd_rfl ?_); rfl)

theorem only_failHandover {m0 : List Part} {z0 : State} (hm : sub [.ctl, .pair, .records] m0 = true)
    (s : State) (h : Only m0 z0 s) : Only m0 z0 (failHandover s) := by
  unfold failHandover
  repeat' first
    | with_reducible assumption | exact sub_trans (by decide) hm | with_reducible apply only_raise
    | with_reducible apply only_setResult | with_reducible refine Only_ite ?_ ?_ | intro _
    | (simp only [↓Only_mk]; with_reducible refine Mk_of hm rfl ?_ ?_) | ((with_reducible refine Upd_rfl ?_); rfl)

theorem only_startResync {m0 : List Part} {z0 : State} (hm : sub [.pair, .sent] m0 = true)
    (s : State) (h : Only m0 z0 s) : Only m0 z0 (startResync s) := by
  unfold startResync
  repeat' first
    | with_reducible assumption | exact sub_trans (by decide) hm | with_reducible apply only_sendControl
    | with_reducible apply only_mirror | with_reducible refine Only_ite ?_ ?_ | intro _
    | (simp only [↓Only_mk]; with_reducible refine Mk_of hm rfl ?_ ?_) | ((with_reducible refine Upd_rfl ?_); rfl)

theorem only_sendCopy {m0 : List Part} {z0 : State} (hm : sub [.pair, .sent] m0 = true)
    (a0) (a1) (a2) (s : State) (h : Only m0 z0 s) : Only m0 z0 (sendCopy a0 a1 a2 s) := by
  induction a1 generalizing a2 s with
  | zero => exact h
  | succ n ih => exact Only_ite (fun _ => h) (fun _ => ih _ _ (only_sendFrame (sub_trans (by decide) hm) _ _ _ _ _ _ h))

theorem only_resyncBoundary {m0 : List Part} {z0 : State} (hm : sub [.pair, .sent] m0 = true)
    (a0) (s : State) (h : Only m0 z0 s) : Only m0 z0 (resyncBoundary a0 s) := by
  unfold resyncBoundary
  repeat' first
    | with_reducible assumption | exact sub_trans (by decide) hm | with_reducible apply only_sendCopy
    | with_reducible apply only_sendControl | intro _ | (simp only [↓Only_mk]; with_reducible refine Mk_of hm rfl ?_ ?_)
    | ((with_reducible refine Upd_rfl ?_); rfl) | split

theorem only_resyncFailed {m0 : List Part} {z0 : State} (hm : sub [.mode, .ctl, .fab, .tel, .pair, .records, .sent] m0 = true)
    (a0) (s : State) (h : Only m0 z0 s) : Only m0 z0 (resyncFailed a0 s) := by
  unfold resyncFailed
  repeat' first
    | with_reducible assumption | exact sub_trans (by decide) hm | with_reducible apply only_raise
    | with_reducible apply only_setPair | with_reducible apply only_enterMode | with_reducible apply only_askResync
    | with_reducible refine Only_ite ?_ ?_ | intro _ | (simp only [↓Only_mk]; with_reducible refine Mk_of hm rfl ?_ ?_)
    | ((with_reducible refine Upd_rfl ?_); rfl)

theorem only_deltaMismatch {m0 : List Part} {z0 : State} (hm : sub [.ctl, .lanes, .rek, .mem, .cis, .fab, .tel, .pair, .records, .sent] m0 = true)
    (a0) (s : State) (h : Only m0 z0 s) : Only m0 z0 (deltaMismatch a0 s) := by
  unfold deltaMismatch
  repeat' first
    | with_reducible assumption | exact sub_trans (by decide) hm | with_reducible apply only_toJoining
    | with_reducible apply only_raise

theorem only_takeDelta {m0 : List Part} {z0 : State} (hm : sub [.ctl, .lanes, .rek, .mem, .cis, .fab, .tel, .pair, .records, .sent] m0 = true)
    (a0) (s : State) (h : Only m0 z0 s) : Only m0 z0 (takeDelta a0 s) := by
  unfold takeDelta
  repeat' first
    | with_reducible assumption | exact sub_trans (by decide) hm | with_reducible apply only_rejectFrame
    | with_reducible apply only_deltaMismatch | with_reducible apply only_commitAll
    | with_reducible refine Only_ite ?_ ?_ | with_reducible apply only_foldl | intro _
    | (extract_lets +onlyGivenNames x; have hx : Only m0 z0 x := ?hx; case' hx => unfold x)
    | extract_lets +onlyGivenNames _ | (simp only [↓Only_mk]; with_reducible refine Mk_of hm rfl ?_ ?_)
    | ((with_reducible refine Upd_rfl ?_); rfl) | split | dsimp only

theorem only_settleRole {m0 : List Part} {z0 : State} (hm : sub [.pair, .records] m0 = true)
    (a0) (s : State) (h : Only m0 z0 s) : Only m0 z0 (settleRole a0 s) := by
  unfold settleRole
  repeat' first
    | with_reducible assumption | exact sub_trans (by decide) hm | with_reducible apply only_raise
    | with_reducible refine Only_ite ?_ ?_ | intro _ | (simp only [↓Only_mk]; with_reducible refine Mk_of hm rfl ?_ ?_)
    | ((with_reducible refine Upd_rfl ?_); rfl)

theorem only_pairRefused {m0 : List Part} {z0 : State} (hm : sub [.tel, .pair, .records] m0 = true)
    (a0) (s : State) (h : Only m0 z0 s) : Only m0 z0 (pairRefused a0 s) := by
  unfold pairRefused
  repeat' first
    | with_reducible assumption | exact sub_trans (by decide) hm | with_reducible apply only_raise
    | with_reducible apply only_setPair | with_reducible apply only_raiseIf
    | (simp only [↓Only_mk]; with_reducible refine Mk_of hm rfl ?_ ?_) | ((with_reducible refine Upd_rfl ?_); rfl)

theorem only_negotiate {m0 : List Part} {z0 : State} (hm : sub [.ctl, .lanes, .rek, .mem, .cis, .fab, .tel, .pair, .records, .sent] m0 = true)
    (a0) (s : State) (h : Only m0 z0 s) : Only m0 z0 (negotiate a0 s) := by
  unfold negotiate
  repeat' first
    | with_reducible assumption | exact sub_trans (by decide) hm | with_reducible apply only_driveOn
    | with_reducible apply only_sendRequestLease | with_reducible apply only_pairRefused
    | with_reducible apply only_settleRole | with_reducible apply only_setPair | with_reducible apply only_toJoining
    | with_reducible refine Only_ite ?_ ?_ | with_reducible apply only_foldl | intro _
    | (extract_lets +onlyGivenNames x; have hx : Only m0 z0 x := ?hx; case' hx => unfold x)
    | extract_lets +onlyGivenNames _ | (simp only [↓Only_mk]; with_reducible refine Mk_of hm rfl ?_ ?_)
    | ((with_reducible refine Upd_rfl ?_); rfl) | split | dsimp only

theorem only_execPairNegotiation {m0 : List Part} {z0 : State} (hm : sub [.now, .time, .ctl, .lanes, .rek, .mem, .cis, .fab, .sw, .tel, .bri, .pair, .od, .records, .sent] m0 = true)
    (a0) (a1) (s : State) (h : Only m0 z0 s) : OutOnly m0 z0 (execPairNegotiation a0 a1 s) := by
  unfold execPairNegotiation
  repeat' first
    | with_reducible assumption | exact sub_trans (by decide) hm | with_reducible apply only_State_atTime
    | with_reducible apply only_startNetwork | with_reducible apply only_negotiate
    | with_reducible apply only_sendControl | with_reducible refine Only_ite ?_ ?_
    | with_reducible refine OutOnly_next.mpr ?_ | intro _

theorem only_execHeartbeatSend {m0 : List Part} {z0 : State} (hm : sub [.now, .pair, .sent] m0 = true)
    (a0) (s : State) (h : Only m0 z0 s) : OutOnly m0 z0 (execHeartbeatSend a0 s) := by
  unfold execHeartbeatSend
  repeat' first
    | with_reducible assumption | exact sub_trans (by decide) hm | with_reducible apply only_State_atTime
    | with_reducible apply only_sendFrame | with_reducible refine Only_ite ?_ ?_
    | with_reducible refine OutOnly_next.mpr ?_ | intro _
    | (simp only [↓Only_mk]; with_reducible refine Mk_of hm rfl ?_ ?_) | ((with_reducible refine Upd_rfl ?_); rfl)

theorem only_dualLease {m0 : List Part} {z0 : State} (hm : sub [.pair, .records, .sent] m0 = true)
    (a0) (a1) (s : State) (h : Only m0 z0 s) : Only m0 z0 (dualLease a0 a1 s) := by
  unfold dualLease
  repeat' first
    | with_reducible assumption | exact sub_trans (by decide) hm | with_reducible apply only_raiseIf
    | with_reducible apply only_sendReferee | with_reducible apply only_setDrive | with_reducible refine Only_ite ?_ ?_
    | intro _

theorem only_endorse {m0 : List Part} {z0 : State} (hm : sub [.ctl, .lanes, .rek, .mem, .cis, .fab, .tel, .pair, .records, .sent] m0 = true)
    (a0) (s : State) (h : Only m0 z0 s) : Only m0 z0 (endorse a0 s) := by
  unfold endorse
  repeat' first
    | with_reducible assumption | exact sub_trans (by decide) hm | with_reducible apply only_negotiate
    | with_reducible apply only_driveOn | with_reducible refine Only_ite ?_ ?_ | intro _
    | (simp only [↓Only_mk]; with_reducible refine Mk_of hm rfl ?_ ?_) | ((with_reducible refine Upd_rfl ?_); rfl)

theorem only_aliveBeat {m0 : List Part} {z0 : State} (hm : sub [.ctl, .lanes, .rek, .mem, .cis, .fab, .tel, .pair, .records, .sent] m0 = true)
    (a0) (a1) (s : State) (h : Only m0 z0 s) : Only m0 z0 (aliveBeat a0 a1 s) := by
  unfold aliveBeat
  repeat' first
    | with_reducible assumption | exact sub_trans (by decide) hm | with_reducible apply only_setPair
    | with_reducible apply only_endorse | with_reducible apply only_dualLease | with_reducible refine Only_ite ?_ ?_
    | intro _

theorem only_execSiphonHeartbeat {m0 : List Part} {z0 : State} (hm : sub [.now, .mode, .ctl, .lanes, .rek, .mem, .cis, .fab, .tel, .pair, .records, .sent] m0 = true)
    (a0) (a1) (s : State) (h : Only m0 z0 s) : OutOnly m0 z0 (execSiphonHeartbeat a0 a1 s) := by
  unfold execSiphonHeartbeat
  repeat' first
    | with_reducible assumption | exact sub_trans (by decide) hm | with_reducible apply only_State_atTime
    | with_reducible apply only_takeSiphon | with_reducible apply only_partnerGone | with_reducible apply only_aliveBeat
    | with_reducible refine Only_ite ?_ ?_ | with_reducible refine OutOnly_next.mpr ?_ | intro _
    | (simp only [↓Only_mk]; with_reducible refine Mk_of hm rfl ?_ ?_) | ((with_reducible refine Upd_rfl ?_); rfl)

theorem only_execPartnerLost {m0 : List Part} {z0 : State} (hm : sub [.now, .mode, .ctl, .lanes, .rek, .fab, .tel, .pair, .records, .sent] m0 = true)
    (a0) (s : State) (h : Only m0 z0 s) : OutOnly m0 z0 (execPartnerLost a0 s) := by
  unfold execPartnerLost
  repeat' first
    | with_reducible assumption | exact sub_trans (by decide) hm | with_reducible apply only_State_atTime
    | with_reducible apply only_partnerGone | with_reducible refine OutOnly_next.mpr ?_ | intro _ | split

theorem only_forwardComplete {m0 : List Part} {z0 : State} (hm : sub [.ctl, .lanes, .rek, .pair] m0 = true)
    (s : State) (h : Only m0 z0 s) : Only m0 z0 (forwardComplete s) := by
  unfold forwardComplete
  repeat' first
    | with_reducible assumption | exact sub_trans (by decide) hm | with_reducible apply only_deliver
    | with_reducible refine Only_ite ?_ ?_ | intro _ | (simp only [↓Only_mk]; with_reducible refine Mk_of hm rfl ?_ ?_)
    | ((with_reducible refine Upd_rfl ?_); rfl)

theorem only_takeImage {m0 : List Part} {z0 : State} (hm : sub [.ctl, .lanes, .rek, .pair] m0 = true)
    (a0) (s : State) (h : Only m0 z0 s) : Only m0 z0 (takeImage a0 s) := by
  unfold takeImage
  repeat' first
    | with_reducible assumption | exact sub_trans (by decide) hm | with_reducible apply only_forwardComplete
    | with_reducible refine Only_ite ?_ ?_ | intro _ | (simp only [↓Only_mk]; with_reducible refine Mk_of hm rfl ?_ ?_)
    | ((with_reducible refine Upd_rfl ?_); rfl)

theorem only_execSiphonImage {m0 : List Part} {z0 : State} (hm : sub [.now, .ctl, .lanes, .rek, .pair, .records] m0 = true)
    (a0) (a1) (s : State) (h : Only m0 z0 s) : OutOnly m0 z0 (execSiphonImage a0 a1 s) := by
  unfold execSiphonImage
  repeat' first
    | with_reducible assumption | exact sub_trans (by decide) hm | with_reducible apply only_takeSiphon
    | with_reducible apply only_State_atTime | with_reducible apply only_takeImage | with_reducible refine Only_ite ?_ ?_
    | with_reducible refine OutOnly_next.mpr ?_ | intro _
    | (simp only [↓Only_mk]; with_reducible refine Mk_of hm rfl ?_ ?_) | ((with_reducible refine Upd_rfl ?_); rfl)

theorem only_execForwardImageLate {m0 : List Part} {z0 : State} (hm : sub [.now, .ctl, .lanes, .rek, .mem, .cis, .fab, .tel, .pair, .records, .sent] m0 = true)
    (a0) (s : State) (h : Only m0 z0 s) : OutOnly m0 z0 (execForwardImageLate a0 s) := by
  unfold execForwardImageLate
  repeat' first
    | with_reducible assumption | exact sub_trans (by decide) hm | with_reducible apply only_State_atTime
    | with_reducible apply only_toJoining | with_reducible apply only_raise | with_reducible refine Only_ite ?_ ?_
    | with_reducible refine OutOnly_next.mpr ?_ | intro _

theorem only_execSiphonDelta {m0 : List Part} {z0 : State} (hm : sub [.now, .ctl, .lanes, .rek, .mem, .cis, .fab, .tel, .pair, .records, .sent] m0 = true)
    (a0) (a1) (s : State) (h : Only m0 z0 s) : OutOnly m0 z0 (execSiphonDelta a0 a1 s) := by
  unfold execSiphonDelta
  repeat' first
    | with_reducible assumption | exact sub_trans (by decide) hm | with_reducible apply only_takeSiphon
    | with_reducible apply only_State_atTime | with_reducible apply only_takeDelta | with_reducible refine Only_ite ?_ ?_
    | with_reducible refine OutOnly_next.mpr ?_ | intro _
    | (simp only [↓Only_mk]; with_reducible refine Mk_of hm rfl ?_ ?_) | ((with_reducible refine Upd_rfl ?_); rfl)

theorem only_execDeltaDeadline {m0 : List Part} {z0 : State} (hm : sub [.now, .ctl, .lanes, .rek, .mem, .cis, .fab, .tel, .pair, .records, .sent] m0 = true)
    (a0) (s : State) (h : Only m0 z0 s) : OutOnly m0 z0 (execDeltaDeadline a0 s) := by
  unfold execDeltaDeadline
  repeat' first
    | with_reducible assumption | exact sub_trans (by decide) hm | with_reducible apply only_State_atTime
    | with_reducible apply only_takeDelta | with_reducible apply only_deltaMismatch | with_reducible apply only_askResync
    | with_reducible refine Only_ite ?_ ?_ | with_reducible refine OutOnly_next.mpr ?_ | intro _
    | (simp only [↓Only_mk]; with_reducible refine Mk_of hm rfl ?_ ?_) | ((with_reducible refine Upd_rfl ?_); rfl)

theorem only_deliverSet {m0 : List Part} {z0 : State} (hm : sub [.ctl, .lanes] m0 = true)
    (a0) (a1) (s : State) (h : Only m0 z0 s) : Only m0 z0 (deliverSet a0 a1 s) := by
  unfold deliverSet
  repeat' first
    | with_reducible assumption | exact sub_trans (by decide) hm | with_reducible apply only_State_modLanes
    | (simp only [↓Only_mk]; with_reducible refine Mk_of hm rfl ?_ ?_) | ((with_reducible refine Upd_rfl ?_); rfl)
    | split

theorem only_putForce {m0 : List Part} {z0 : State} (hm : sub [.ctl] m0 = true)
    (a0) (a1) (s : State) (h : Only m0 z0 s) : Only m0 z0 (putForce a0 a1 s) := by
  unfold putForce
  repeat' first
    | with_reducible assumption | (simp only [↓Only_mk]; with_reducible refine Mk_of hm rfl ?_ ?_)
    | ((with_reducible refine Upd_rfl ?_); rfl)

theorem only_applyMirror {m0 : List Part} {z0 : State} (hm : sub [.ctl, .lanes, .cis] m0 = true)
    (a0) (s : State) (h : Only m0 z0 s) : Only m0 z0 (applyMirror a0 s) := by
  unfold applyMirror
  repeat' first
    | with_reducible assumption | exact sub_trans (by decide) hm | with_reducible apply only_putForce
    | with_reducible apply only_deliverSet | (simp only [↓Only_mk]; with_reducible refine Mk_of hm rfl ?_ ?_)
    | ((with_reducible refine Upd_rfl ?_); rfl) | split

theorem only_mirrorLost {m0 : List Part} {z0 : State} (hm : sub [.ctl, .lanes, .rek, .mem, .cis, .fab, .tel, .pair, .records, .sent] m0 = true)
    (s : State) (h : Only m0 z0 s) : Only m0 z0 (mirrorLost s) := by
  unfold mirrorLost
  repeat' first
    | with_reducible assumption | exact sub_trans (by decide) hm | with_reducible apply only_toJoining
    | with_reducible apply only_askResync | with_reducible refine Only_ite ?_ ?_ | intro _
    | (simp only [↓Only_mk]; with_reducible refine Mk_of hm rfl ?_ ?_) | ((with_reducible refine Upd_rfl ?_); rfl)

theorem only_execSiphonState {m0 : List Part} {z0 : State} (hm : sub [.now, .ctl, .lanes, .rek, .mem, .cis, .fab, .tel, .pair, .records, .sent] m0 = true)
    (a0) (a1) (a2) (s : State) (h : Only m0 z0 s) : OutOnly m0 z0 (execSiphonState a0 a1 a2 s) := by
  unfold execSiphonState
  repeat' first
    | with_reducible assumption | exact sub_trans (by decide) hm | with_reducible apply only_takeSiphon
    | with_reducible apply only_State_atTime | with_reducible apply only_mirrorLost
    | with_reducible apply only_applyMirror | with_reducible refine Only_ite ?_ ?_
    | with_reducible refine OutOnly_next.mpr ?_ | intro _

theorem only_putCopy {m0 : List Part} {z0 : State} (hm : sub [.lanes, .mem] m0 = true)
    (a0) (a1) (s : State) (h : Only m0 z0 s) : Only m0 z0 (putCopy a0 a1 s) := by
  unfold putCopy
  repeat' first
    | with_reducible assumption | exact sub_trans (by decide) hm | with_reducible apply only_pushWrites
    | with_reducible refine Only_ite ?_ ?_ | with_reducible apply only_foldl | intro _
    | (extract_lets +onlyGivenNames x; have hx : Only m0 z0 x := ?hx; case' hx => unfold x)
    | extract_lets +onlyGivenNames _ | (simp only [↓Only_mk]; with_reducible refine Mk_of hm rfl ?_ ?_)
    | ((with_reducible refine Upd_rfl ?_); rfl) | split | dsimp only

theorem only_execSiphonResync {m0 : List Part} {z0 : State} (hm : sub [.now, .mode, .ctl, .lanes, .mem, .fab, .tel, .pair, .records, .sent] m0 = true)
    (a0) (a1) (s : State) (h : Only m0 z0 s) : OutOnly m0 z0 (execSiphonResync a0 a1 s) := by
  unfold execSiphonResync
  repeat' first
    | with_reducible assumption | exact sub_trans (by decide) hm | with_reducible apply only_takeSiphon
    | with_reducible apply only_State_atTime | with_reducible apply only_putCopy | with_reducible apply only_resyncFailed
    | with_reducible refine OutOnly_next.mpr ?_ | intro _
    | (simp only [↓Only_mk]; with_reducible refine Mk_of hm rfl ?_ ?_) | ((with_reducible refine Upd_rfl ?_); rfl)
    | split

theorem only_execResyncComplete {m0 : List Part} {z0 : State} (hm : sub [.now, .mode, .ctl, .fab, .tel, .pair, .records, .sent] m0 = true)
    (a0) (s : State) (h : Only m0 z0 s) : OutOnly m0 z0 (execResyncComplete a0 s) := by
  unfold execResyncComplete
  repeat' first
    | with_reducible assumption | exact sub_trans (by decide) hm | with_reducible apply only_State_atTime
    | with_reducible apply only_raise | with_reducible apply only_resyncFailed | with_reducible refine Only_ite ?_ ?_
    | with_reducible apply only_foldl | with_reducible refine OutOnly_next.mpr ?_
    | with_reducible refine OutOnly_ite ?_ ?_ | intro _
    | (extract_lets +onlyGivenNames x; have hx : Only m0 z0 x := ?hx; case' hx => unfold x)
    | extract_lets +onlyGivenNames _ | (simp only [↓Only_mk]; with_reducible refine Mk_of hm rfl ?_ ?_)
    | ((with_reducible refine Upd_rfl ?_); rfl) | split | dsimp only

theorem only_execResyncTimeout {m0 : List Part} {z0 : State} (hm : sub [.now, .mode, .ctl, .fab, .tel, .pair, .records, .sent] m0 = true)
    (a0) (s : State) (h : Only m0 z0 s) : OutOnly m0 z0 (execResyncTimeout a0 s) := by
  unfold execResyncTimeout
  repeat' first
    | with_reducible assumption | exact sub_trans (by decide) hm | with_reducible apply only_State_atTime
    | with_reducible apply only_resyncFailed | with_reducible refine OutOnly_next.mpr ?_ | intro _ | split

theorem only_execRenewSend {m0 : List Part} {z0 : State} (hm : sub [.now, .sent] m0 = true)
    (a0) (s : State) (h : Only m0 z0 s) : OutOnly m0 z0 (execRenewSend a0 s) := by
  unfold execRenewSend
  repeat' first
    | with_reducible assumption | exact sub_trans (by decide) hm | with_reducible apply only_State_atTime
    | with_reducible apply only_sendReferee | with_reducible refine Only_ite ?_ ?_
    | with_reducible refine OutOnly_next.mpr ?_ | intro _

theorem only_execRefereeConfirm {m0 : List Part} {z0 : State} (hm : sub [.now, .pair, .records] m0 = true)
    (a0) (a1) (s : State) (h : Only m0 z0 s) : OutOnly m0 z0 (execRefereeConfirm a0 a1 s) := by
  unfold execRefereeConfirm
  repeat' first
    | with_reducible assumption | exact sub_trans (by decide) hm | with_reducible apply only_State_atTime
    | with_reducible apply only_hearReferee | with_reducible refine Only_ite ?_ ?_
    | with_reducible refine OutOnly_next.mpr ?_ | intro _
    | (simp only [↓Only_mk]; with_reducible refine Mk_of hm rfl ?_ ?_) | ((with_reducible refine Upd_rfl ?_); rfl)

theorem only_holdLease {m0 : List Part} {z0 : State} (hm : sub [.pair] m0 = true)
    (a0) (s : State) (h : Only m0 z0 s) : Only m0 z0 (holdLease a0 s) := by
  unfold holdLease
  repeat' first
    | with_reducible assumption | (simp only [↓Only_mk]; with_reducible refine Mk_of hm rfl ?_ ?_)
    | ((with_reducible refine Upd_rfl ?_); rfl)

theorem only_execRefereeGrant {m0 : List Part} {z0 : State} (hm : sub [.now, .mode, .ctl, .lanes, .rek, .mem, .cis, .fab, .tel, .pair, .upd, .records, .sent] m0 = true)
    (a0) (a1) (s : State) (h : Only m0 z0 s) : OutOnly m0 z0 (execRefereeGrant a0 a1 s) := by
  unfold execRefereeGrant
  repeat' first
    | with_reducible assumption | exact sub_trans (by decide) hm | with_reducible apply only_State_atTime
    | with_reducible apply only_hearReferee | with_reducible apply only_holdLease | with_reducible apply only_takeOver
    | with_reducible apply only_negotiate | with_reducible apply only_driveOn | with_reducible refine Only_ite ?_ ?_
    | with_reducible refine OutOnly_next.mpr ?_ | intro _
    | (extract_lets +onlyGivenNames x; have hx : Only m0 z0 x := ?hx; case' hx => unfold x) | split

theorem only_execRefereeRevoke {m0 : List Part} {z0 : State} (hm : sub [.now, .tel, .pair, .records, .sent] m0 = true)
    (a0) (a1) (s : State) (h : Only m0 z0 s) : OutOnly m0 z0 (execRefereeRevoke a0 a1 s) := by
  unfold execRefereeRevoke
  repeat' first
    | with_reducible assumption | exact sub_trans (by decide) hm | with_reducible apply only_State_atTime
    | with_reducible apply only_hearReferee | with_reducible apply only_loseLease | with_reducible refine Only_ite ?_ ?_
    | with_reducible refine OutOnly_next.mpr ?_ | intro _

theorem only_execRefereeRefuse {m0 : List Part} {z0 : State} (hm : sub [.now, .pair, .records] m0 = true)
    (a0) (a1) (s : State) (h : Only m0 z0 s) : OutOnly m0 z0 (execRefereeRefuse a0 a1 s) := by
  unfold execRefereeRefuse
  repeat' first
    | with_reducible assumption | exact sub_trans (by decide) hm | with_reducible apply only_State_atTime
    | with_reducible apply only_hearReferee | with_reducible apply only_raise | with_reducible refine Only_ite ?_ ?_
    | with_reducible refine OutOnly_next.mpr ?_ | intro _
    | (simp only [↓Only_mk]; with_reducible refine Mk_of hm rfl ?_ ?_) | ((with_reducible refine Upd_rfl ?_); rfl)

theorem only_execLeaseExpiry {m0 : List Part} {z0 : State} (hm : sub [.now, .tel, .pair, .records, .sent] m0 = true)
    (a0) (s : State) (h : Only m0 z0 s) : OutOnly m0 z0 (execLeaseExpiry a0 s) := by
  unfold execLeaseExpiry
  repeat' first
    | with_reducible assumption | exact sub_trans (by decide) hm | with_reducible apply only_State_atTime
    | with_reducible apply only_raiseIf | with_reducible apply only_loseLease | with_reducible refine Only_ite ?_ ?_
    | with_reducible refine OutOnly_next.mpr ?_ | intro _
    | (simp only [↓Only_mk]; with_reducible refine Mk_of hm rfl ?_ ?_) | ((with_reducible refine Upd_rfl ?_); rfl)

theorem only_execRefereeSilent {m0 : List Part} {z0 : State} (hm : sub [.now, .tel, .pair, .records, .sent] m0 = true)
    (a0) (s : State) (h : Only m0 z0 s) : OutOnly m0 z0 (execRefereeSilent a0 s) := by
  unfold execRefereeSilent
  repeat' first
    | with_reducible assumption | exact sub_trans (by decide) hm | with_reducible apply only_State_atTime
    | with_reducible apply only_raise | with_reducible apply only_driveOn | with_reducible refine Only_ite ?_ ?_
    | with_reducible refine OutOnly_next.mpr ?_ | intro _
    | (simp only [↓Only_mk]; with_reducible refine Mk_of hm rfl ?_ ?_) | ((with_reducible refine Upd_rfl ?_); rfl)

theorem only_execHandoverSend {m0 : List Part} {z0 : State} (hm : sub [.now, .sent, .free] m0 = true)
    (a0) (s : State) (h : Only m0 z0 s) : OutOnly m0 z0 (execHandoverSend a0 s) := by
  unfold execHandoverSend
  repeat' first
    | with_reducible assumption | exact sub_trans (by decide) hm | with_reducible apply only_State_atTime
    | with_reducible apply only_State_tick | with_reducible apply only_State_emit
    | with_reducible refine OutOnly_next.mpr ?_ | intro _ | split

theorem only_execHandoverDrive {m0 : List Part} {z0 : State} (hm : sub [.now, .ctl, .pair, .records, .sent] m0 = true)
    (a0) (s : State) (h : Only m0 z0 s) : OutOnly m0 z0 (execHandoverDrive a0 s) := by
  unfold execHandoverDrive
  repeat' first
    | with_reducible assumption | exact sub_trans (by decide) hm | with_reducible apply only_State_atTime
    | with_reducible apply only_failHandover | with_reducible apply only_setDrive
    | with_reducible refine OutOnly_next.mpr ?_ | intro _ | split

theorem only_execReversion {m0 : List Part} {z0 : State} (hm : sub [.now, .pair, .records, .sent] m0 = true)
    (a0) (s : State) (h : Only m0 z0 s) : OutOnly m0 z0 (execReversion a0 s) := by
  unfold execReversion
  repeat' first
    | with_reducible assumption | exact sub_trans (by decide) hm | with_reducible apply only_State_atTime
    | with_reducible apply only_proposeHandover | with_reducible apply only_raise
    | with_reducible refine OutOnly_next.mpr ?_ | intro _ | split

theorem only_exchangeFailed {m0 : List Part} {z0 : State} (hm : sub [.ctl, .lanes, .pair, .records, .sent] m0 = true)
    (a0) (s : State) (h : Only m0 z0 s) : Only m0 z0 (exchangeFailed a0 s) := by
  unfold exchangeFailed
  repeat' first
    | with_reducible assumption | exact sub_trans (by decide) hm | with_reducible apply only_raise
    | with_reducible apply only_State_modLanes | with_reducible apply only_sendControl
    | with_reducible apply only_setResult | with_reducible refine Only_ite ?_ ?_ | intro _
    | (simp only [↓Only_mk]; with_reducible refine Mk_of hm rfl ?_ ?_) | ((with_reducible refine Upd_rfl ?_); rfl)

theorem only_exchangeDone {m0 : List Part} {z0 : State} (hm : sub [.ctl, .lanes, .mem, .cis, .fab, .tel, .upd, .records] m0 = true)
    (a0) (s : State) (h : Only m0 z0 s) : Only m0 z0 (exchangeDone a0 s) := by
  unfold exchangeDone
  extract_lets s1 s2
  have h1 : Only m0 z0 s1 := only_selectImageSlot (sub_trans (by decide) hm) _ _ _ (only_exchangeTo (sub_trans (by decide) hm) _ _ h)
  clear_value s1
  exact only_beginTrial (sub_trans (by decide) hm) _ _ (only_raise (sub_trans (by decide) hm) _ _ _ (only_setResult (sub_trans (by decide) hm) _ _ (Only_upd (d := [.ctl]) (sub_trans (by decide) hm) h1 (Upd_of rfl rfl rfl (by intro p; cases p <;> first | exact .inl rfl | exact .inr rfl | exact .inr ⟨rfl, rfl⟩ | exact .inr ⟨rfl, rfl, rfl⟩)))))

theorem only_joinNew {m0 : List Part} {z0 : State} (hm : sub [.ctl, .lanes, .mem, .cis, .fab, .tel, .pair, .records, .sent] m0 = true)
    (a0) (s : State) (h : Only m0 z0 s) : Only m0 z0 (joinNew a0 s) := by
  unfold joinNew
  repeat' first
    | with_reducible assumption | exact sub_trans (by decide) hm | with_reducible apply only_State_modLanes
    | with_reducible apply only_askResync | with_reducible apply only_takeDigest
    | with_reducible apply only_applyBindings | with_reducible apply only_installImage
    | with_reducible refine Only_ite ?_ ?_ | with_reducible apply only_foldl | intro _
    | (extract_lets +onlyGivenNames x; have hx : Only m0 z0 x := ?hx; case' hx => unfold x)
    | extract_lets +onlyGivenNames _ | (simp only [↓Only_mk]; with_reducible refine Mk_of hm rfl ?_ ?_)
    | ((with_reducible refine Upd_rfl ?_); rfl) | split | dsimp only

theorem only_exchangeVote {m0 : List Part} {z0 : State} (hm : sub [.ctl, .lanes, .mem, .cis, .fab, .tel, .pair, .upd, .records, .sent] m0 = true)
    (a0) (s : State) (h : Only m0 z0 s) : Only m0 z0 (exchangeVote a0 s) := by
  unfold exchangeVote
  repeat' first
    | with_reducible assumption | exact sub_trans (by decide) hm | with_reducible apply only_dissentOut
    | with_reducible apply only_joinNew | with_reducible apply only_exchangeDone
    | with_reducible apply only_exchangeFailed | with_reducible apply only_raise | with_reducible refine Only_ite ?_ ?_
    | with_reducible apply only_foldl | intro _ | (simp only [↓Only_mk]; with_reducible refine Mk_of hm rfl ?_ ?_)
    | ((with_reducible refine Upd_rfl ?_); rfl)

theorem only_exchangeTranslated {m0 : List Part} {z0 : State} (hm : sub [.ctl, .lanes, .mem, .cis, .fab, .tel, .pair, .upd, .records, .sent] m0 = true)
    (a0) (a1) (s : State) (h : Only m0 z0 s) : Only m0 z0 (exchangeTranslated a0 a1 s) := by
  unfold exchangeTranslated
  repeat' first
    | with_reducible assumption | exact sub_trans (by decide) hm | with_reducible apply only_State_modLane
    | with_reducible apply only_exchangeVote | with_reducible apply only_exchangeFailed
    | with_reducible apply only_rejectImage | intro _ | extract_lets +onlyGivenNames _ | split

theorem only_startTranslated {m0 : List Part} {z0 : State} (hm : sub [.ctl, .lanes, .records] m0 = true)
    (a0) (a1) (s : State) (h : Only m0 z0 s) : Only m0 z0 (startTranslated a0 a1 s) := by
  unfold startTranslated
  repeat' first
    | with_reducible assumption | exact sub_trans (by decide) hm | with_reducible apply only_State_modLane
    | with_reducible apply only_rejectImage | intro _ | split

theorem only_reintTranslated {m0 : List Part} {z0 : State} (hm : sub [.ctl, .lanes, .rek, .mem, .dma, .bri, .records, .sent, .free] m0 = true)
    (a0) (a1) (s : State) (h : Only m0 z0 s) : Only m0 z0 (reintTranslated a0 a1 s) := by
  unfold reintTranslated
  repeat' first
    | with_reducible assumption | exact sub_trans (by decide) hm | with_reducible apply only_State_modLane
    | with_reducible apply only_reintFailed | with_reducible refine Only_ite ?_ ?_ | intro _

theorem only_execTranslationComplete {m0 : List Part} {z0 : State} (hm : sub [.now, .ctl, .lanes, .rek, .mem, .cis, .fab, .tel, .dma, .bri, .pair, .upd, .records, .sent, .free] m0 = true)
    (a0) (a1) (a2) (s : State) (h : Only m0 z0 s) : OutOnly m0 z0 (execTranslationComplete a0 a1 a2 s) := by
  unfold execTranslationComplete
  repeat' first
    | with_reducible assumption | exact sub_trans (by decide) hm | with_reducible apply only_State_atTime
    | with_reducible apply only_startTranslated | with_reducible apply only_warmMark
    | with_reducible apply only_State_modLane | with_reducible apply only_reintTranslated
    | with_reducible apply only_exchangeTranslated | with_reducible refine Only_ite ?_ ?_
    | with_reducible refine OutOnly_next.mpr ?_ | intro _

theorem only_beginShadow {m0 : List Part} {z0 : State} (hm : sub [.ctl, .lanes, .rek, .tel, .pair, .records, .sent] m0 = true)
    (s : State) (h : Only m0 z0 s) : Only m0 z0 (beginShadow s) := by
  unfold beginShadow
  repeat' first
    | with_reducible assumption | exact sub_trans (by decide) hm | with_reducible apply only_dropAll
    | with_reducible apply only_setPair | with_reducible apply only_sendControl | with_reducible refine Only_ite ?_ ?_
    | intro _ | (simp only [↓Only_mk]; with_reducible refine Mk_of hm rfl ?_ ?_)
    | ((with_reducible refine Upd_rfl ?_); rfl)

theorem only_shadowBoundary {m0 : List Part} {z0 : State} (hm : sub [.ctl, .lanes, .mem, .cis, .fab, .tel, .pair, .records, .sent] m0 = true)
    (a0) (s : State) (h : Only m0 z0 s) : Only m0 z0 (shadowBoundary a0 s) := by
  unfold shadowBoundary
  refine Only_ite (fun _ => ?_) (fun _ => h)
  split
  · extract_lets +onlyGivenNames s1
    have h1 : Only m0 z0 s1 := only_carryTo (sub_trans (by decide) hm) _ _ h
    clear_value s1
    exact only_raise (sub_trans (by decide) hm) _ _ _ (only_setPair (sub_trans (by decide) hm) _ _ _
     (Only_upd (d := [.pair]) (sub_trans (by decide) hm) h1 (Upd_rfl rfl)))
  · exact only_exchangeFailed (sub_trans (by decide) hm) _ _ h

theorem only_exchangeDropped {m0 : List Part} {z0 : State} (hm : sub [.ctl, .pair] m0 = true)
    (s : State) (h : Only m0 z0 s) : Only m0 z0 (exchangeDropped s) := by
  unfold exchangeDropped
  repeat' first
    | with_reducible assumption | exact sub_trans (by decide) hm | with_reducible apply only_setResult
    | with_reducible refine Only_ite ?_ ?_ | intro _ | (simp only [↓Only_mk]; with_reducible refine Mk_of hm rfl ?_ ?_)
    | ((with_reducible refine Upd_rfl ?_); rfl)

theorem only_abortExchange {m0 : List Part} {z0 : State} (hm : sub [.ctl, .lanes, .rek, .mem, .cis, .fab, .tel, .pair, .records, .sent] m0 = true)
    (a0) (s : State) (h : Only m0 z0 s) : Only m0 z0 (abortExchange a0 s) := by
  unfold abortExchange
  repeat' first
    | with_reducible assumption | exact sub_trans (by decide) hm | with_reducible apply only_sendControl
    | with_reducible apply only_toJoining | with_reducible apply only_raise | with_reducible apply only_State_modLanes
    | with_reducible apply only_exchangeDropped | with_reducible refine Only_ite ?_ ?_ | intro _
    | (simp only [↓Only_mk]; with_reducible refine Mk_of hm rfl ?_ ?_) | ((with_reducible refine Upd_rfl ?_); rfl)

theorem only_execShadowPeriodExpiry {m0 : List Part} {z0 : State} (hm : sub [.now, .pair, .sent] m0 = true)
    (a0) (s : State) (h : Only m0 z0 s) : OutOnly m0 z0 (execShadowPeriodExpiry a0 s) := by
  unfold execShadowPeriodExpiry
  repeat' first
    | with_reducible assumption | exact sub_trans (by decide) hm | with_reducible apply only_State_atTime
    | with_reducible apply only_proposeHandover | with_reducible refine OutOnly_next.mpr ?_ | intro _ | split

theorem only_takeProposal {m0 : List Part} {z0 : State} (hm : sub [.pair, .sent] m0 = true)
    (a0) (s : State) (h : Only m0 z0 s) : Only m0 z0 (takeProposal a0 s) := by
  unfold takeProposal
  repeat' first
    | with_reducible assumption | exact sub_trans (by decide) hm | with_reducible apply only_sendControl
    | with_reducible refine Only_ite ?_ ?_ | intro _ | (simp only [↓Only_mk]; with_reducible refine Mk_of hm rfl ?_ ?_)
    | ((with_reducible refine Upd_rfl ?_); rfl)

theorem only_beginResync {m0 : List Part} {z0 : State} (hm : sub [.ctl, .lanes, .pair, .records] m0 = true)
    (a0) (a1) (s : State) (h : Only m0 z0 s) : Only m0 z0 (beginResync a0 a1 s) := by
  unfold beginResync
  repeat' first
    | with_reducible assumption | exact sub_trans (by decide) hm | with_reducible apply only_State_modLanes
    | with_reducible apply only_raise | (simp only [↓Only_mk]; with_reducible refine Mk_of hm rfl ?_ ?_)
    | ((with_reducible refine Upd_rfl ?_); rfl)

theorem only_takeControl {m0 : List Part} {z0 : State} (hm : sub [.ctl, .lanes, .rek, .mem, .cis, .fab, .tel, .pair, .records, .sent] m0 = true)
    (a0) (a1) (s : State) (h : Only m0 z0 s) : Only m0 z0 (takeControl a0 a1 s) := by
  unfold takeControl
  repeat' first
    | with_reducible assumption | exact sub_trans (by decide) hm | with_reducible apply only_sendControl
    | with_reducible apply only_takeProposal | with_reducible apply only_beginResync
    | with_reducible apply only_startResync | with_reducible apply only_beginShadow
    | with_reducible apply only_abortExchange | with_reducible refine Only_ite ?_ ?_ | with_reducible apply only_foldl
    | intro _ | (extract_lets +onlyGivenNames x; have hx : Only m0 z0 x := ?hx; case' hx => unfold x)
    | extract_lets +onlyGivenNames _ | (simp only [↓Only_mk]; with_reducible refine Mk_of hm rfl ?_ ?_)
    | ((with_reducible refine Upd_rfl ?_); rfl) | split | dsimp only

theorem only_execSiphonControl {m0 : List Part} {z0 : State} (hm : sub [.now, .ctl, .lanes, .rek, .mem, .cis, .fab, .tel, .pair, .records, .sent] m0 = true)
    (a0) (a1) (a2) (s : State) (h : Only m0 z0 s) : OutOnly m0 z0 (execSiphonControl a0 a1 a2 s) := by
  unfold execSiphonControl
  repeat' first
    | with_reducible assumption | exact sub_trans (by decide) hm | with_reducible apply only_takeSiphon
    | with_reducible apply only_State_atTime | with_reducible apply only_takeControl
    | with_reducible refine Only_ite ?_ ?_ | with_reducible refine OutOnly_next.mpr ?_ | intro _

theorem only_handoverIn {m0 : List Part} {z0 : State} (hm : sub [.mode, .ctl, .lanes, .fab, .tel, .pair, .upd, .records, .sent] m0 = true)
    (a0) (s : State) (h : Only m0 z0 s) : Only m0 z0 (handoverIn a0 s) := by
  unfold handoverIn
  repeat' first
    | with_reducible assumption | exact sub_trans (by decide) hm | with_reducible apply only_activate
    | with_reducible apply only_raise | (simp only [↓Only_mk]; with_reducible refine Mk_of hm rfl ?_ ?_)
    | ((with_reducible refine Upd_rfl ?_); rfl)

theorem only_handoverOut {m0 : List Part} {z0 : State} (hm : sub [.mode, .ctl, .lanes, .rek, .fab, .tel, .pair, .upd, .records, .sent] m0 = true)
    (a0) (s : State) (h : Only m0 z0 s) : Only m0 z0 (handoverOut a0 s) := by
  unfold handoverOut
  extract_lets +onlyGivenNames a b s1
  have h1 : Only m0 z0 s1 := only_setDrive (sub_trans (by decide) hm) _ _ (Only_upd (d := [.pair, .tel]) (sub_trans (by decide) hm) h (Upd_of rfl rfl rfl (by intro p; cases p <;> first | exact .inl rfl | exact .inr rfl | exact .inr ⟨rfl, rfl⟩ | exact .inr ⟨rfl, rfl, rfl⟩)))
  clear_value s1
  extract_lets +onlyGivenNames s2
  have h2 : Only m0 z0 s2 := only_raise (sub_trans (by decide) hm) _ _ _ h1
  clear_value s2
  refine Only_ite (fun _ => ?_) (fun _ => Only_ite (fun _ => ?_) (fun _ => ?_))
  · extract_lets +onlyGivenNames s3
    have h3 : Only m0 z0 s3 := only_dropAll (sub_trans (by decide) hm) _ (only_enterMode (sub_trans (by decide) hm) _ _ _ (only_setPair (sub_trans (by decide) hm) _ _ _ h2))
    clear_value s3
    exact only_askResync (sub_trans (by decide) hm) _ (only_setResult (sub_trans (by decide) hm) _ _ (Only_upd (d := [.ctl]) (sub_trans (by decide) hm) h3 (Upd_of rfl rfl rfl (by intro p; cases p <;> first | exact .inl rfl | exact .inr rfl | exact .inr ⟨rfl, rfl⟩ | exact .inr ⟨rfl, rfl, rfl⟩))))
  · extract_lets +onlyGivenNames s3
    have h3 : Only m0 z0 s3 := only_dropAll (sub_trans (by decide) hm) _ (only_enterMode (sub_trans (by decide) hm) _ _ _ (only_setPair (sub_trans (by decide) hm) _ _ _ h2))
    clear_value s3
    extract_lets +onlyGivenNames s4
    have h4 : Only m0 z0 s4 := only_beginTrial (sub_trans (by decide) hm) _ _ (only_selectImageSlot (sub_trans (by decide) hm) _ _ _ h3)
    clear_value s4
    exact only_setResult (sub_trans (by decide) hm) _ _ (Only_upd (d := [.pair, .ctl]) (sub_trans (by decide) hm) h4 (Upd_of rfl rfl rfl (by intro p; cases p <;> first | exact .inl rfl | exact .inr rfl | exact .inr ⟨rfl, rfl⟩ | exact .inr ⟨rfl, rfl, rfl⟩)))
  · exact only_enterMode (sub_trans (by decide) hm) _ _ _ (only_setPair (sub_trans (by decide) hm) _ _ _ h2)

theorem only_execHandoverDone {m0 : List Part} {z0 : State} (hm : sub [.now, .mode, .ctl, .lanes, .rek, .fab, .tel, .pair, .upd, .records, .sent] m0 = true)
    (a0) (s : State) (h : Only m0 z0 s) : OutOnly m0 z0 (execHandoverDone a0 s) := by
  unfold execHandoverDone
  repeat' first
    | with_reducible assumption | exact sub_trans (by decide) hm | with_reducible apply only_State_atTime
    | with_reducible apply only_handoverIn | with_reducible apply only_failHandover
    | with_reducible apply only_handoverOut | with_reducible refine Only_ite ?_ ?_ | with_reducible apply only_foldl
    | with_reducible refine OutOnly_next.mpr ?_ | with_reducible refine OutOnly_ite ?_ ?_ | intro _
    | (extract_lets +onlyGivenNames x; have hx : Only m0 z0 x := ?hx; case' hx => unfold x)
    | extract_lets +onlyGivenNames _ | (simp only [↓Only_mk]; with_reducible refine Mk_of hm rfl ?_ ?_)
    | ((with_reducible refine Upd_rfl ?_); rfl) | split | dsimp only

theorem only_latchObjects {m0 : List Part} {z0 : State} (hm : sub [.od] m0 = true)
    (s : State) (h : Only m0 z0 s) : Only m0 z0 (latchObjects s) := by
  unfold latchObjects
  repeat' first
    | with_reducible assumption | (simp only [↓Only_mk]; with_reducible refine Mk_of hm rfl ?_ ?_)
    | ((with_reducible refine Upd_rfl ?_); rfl)

theorem only_takeOffsets {m0 : List Part} {z0 : State} (hm : sub [.ctl, .lanes] m0 = true)
    (s : State) (h : Only m0 z0 s) : Only m0 z0 (takeOffsets s) := by
  unfold takeOffsets
  repeat' first
    | with_reducible assumption | exact sub_trans (by decide) hm | with_reducible apply only_State_modLanes
    | (simp only [↓Only_mk]; with_reducible refine Mk_of hm rfl ?_ ?_) | ((with_reducible refine Upd_rfl ?_); rfl)

theorem only_restartTasks {m0 : List Part} {z0 : State} (hm : sub [.ctl] m0 = true)
    (a0) (s : State) (h : Only m0 z0 s) : Only m0 z0 (restartTasks a0 s) := by
  unfold restartTasks
  repeat' first
    | with_reducible assumption | exact sub_trans (by decide) hm | with_reducible apply only_State_modTask
    | with_reducible refine Only_ite ?_ ?_ | with_reducible apply only_foldl | intro _

theorem only_formScrubs {m0 : List Part} {z0 : State} (hm : sub [.lanes] m0 = true)
    (a0) (s : State) (h : Only m0 z0 s) : Only m0 z0 (formScrubs a0 s) := by
  unfold formScrubs
  repeat' first
    | with_reducible assumption | exact sub_trans (by decide) hm | with_reducible apply only_State_modLanes
    | with_reducible refine Only_ite ?_ ?_ | intro _

theorem only_stopOrders {m0 : List Part} {z0 : State} (hm : sub [.ctl, .lanes, .mem, .cis, .records] m0 = true)
    (a0) (s : State) (h : Only m0 z0 s) : Only m0 z0 (stopOrders a0 s) := by
  unfold stopOrders
  repeat' first
    | with_reducible assumption | exact sub_trans (by decide) hm | with_reducible apply only_commitAll
    | with_reducible refine Only_ite ?_ ?_ | intro _

theorem only_answerOrders {m0 : List Part} {z0 : State} (hm : sub [.cis, .od, .sent] m0 = true)
    (a0) (s : State) (h : Only m0 z0 s) : Only m0 z0 (answerOrders a0 s) := by
  unfold answerOrders
  repeat' first
    | with_reducible assumption | exact sub_trans (by decide) hm | with_reducible apply only_respond
    | with_reducible apply only_foldl | intro _ | (simp only [↓Only_mk]; with_reducible refine Mk_of hm rfl ?_ ?_)
    | ((with_reducible refine Upd_rfl ?_); rfl)

theorem only_promoteForces {m0 : List Part} {z0 : State} (hm : sub [.ctl] m0 = true)
    (a0) (s : State) (h : Only m0 z0 s) : Only m0 z0 (promoteForces a0 s) := by
  unfold promoteForces
  repeat' first
    | with_reducible assumption | (simp only [↓Only_mk]; with_reducible refine Mk_of hm rfl ?_ ?_)
    | ((with_reducible refine Upd_rfl ?_); rfl)

theorem only_takeCodeMap {m0 : List Part} {z0 : State} (hm : sub [.records] m0 = true)
    (a0) (s : State) (h : Only m0 z0 s) : Only m0 z0 (takeCodeMap a0 s) := by
  unfold takeCodeMap
  repeat' first
    | with_reducible assumption | exact sub_trans (by decide) hm | with_reducible apply only_raise | intro _
    | (simp only [↓Only_mk]; with_reducible refine Mk_of hm rfl ?_ ?_) | ((with_reducible refine Upd_rfl ?_); rfl)
    | split

theorem only_lostLease {m0 : List Part} {z0 : State} (hm : sub [.mode, .ctl, .lanes, .rek, .fab, .tel, .pair, .records, .sent] m0 = true)
    (s : State) (h : Only m0 z0 s) : Only m0 z0 (lostLease s) := by
  unfold lostLease
  repeat' first
    | with_reducible assumption | exact sub_trans (by decide) hm | with_reducible apply only_setPair
    | with_reducible apply only_dropAll | with_reducible apply only_enterMode | with_reducible apply only_askResync
    | with_reducible refine Only_ite ?_ ?_ | intro _ | (simp only [↓Only_mk]; with_reducible refine Mk_of hm rfl ?_ ?_)
    | ((with_reducible refine Upd_rfl ?_); rfl)

theorem only_joinedStandby {m0 : List Part} {z0 : State} (hm : sub [.fab, .tel, .pair, .upd, .records] m0 = true)
    (a0) (s : State) (h : Only m0 z0 s) : Only m0 z0 (joinedStandby a0 s) := by
  unfold joinedStandby
  repeat' first
    | with_reducible assumption | exact sub_trans (by decide) hm | with_reducible apply only_passTrial
    | with_reducible apply only_setPair | with_reducible refine Only_ite ?_ ?_ | intro _

theorem only_pairBoundary {m0 : List Part} {z0 : State} (hm : sub [.mode, .ctl, .lanes, .rek, .mem, .cis, .fab, .tel, .pair, .upd, .records, .sent] m0 = true)
    (a0) (s : State) (h : Only m0 z0 s) : Only m0 z0 (pairBoundary a0 s) := by
  unfold pairBoundary
  repeat' first
    | with_reducible assumption | exact sub_trans (by decide) hm | with_reducible apply only_shadowBoundary
    | with_reducible apply only_resyncBoundary | with_reducible apply only_joinedStandby
    | with_reducible apply only_lostLease | with_reducible refine Only_ite ?_ ?_ | intro _
    | (simp only [↓Only_mk]; with_reducible refine Mk_of hm rfl ?_ ?_) | ((with_reducible refine Upd_rfl ?_); rfl)

theorem only_exchangeDeadline {m0 : List Part} {z0 : State} (hm : sub [.ctl, .lanes, .pair, .records, .sent] m0 = true)
    (s : State) (h : Only m0 z0 s) : Only m0 z0 (exchangeDeadline s) := by
  unfold exchangeDeadline
  repeat' first
    | with_reducible assumption | exact sub_trans (by decide) hm | with_reducible apply only_exchangeFailed | intro _
    | split

theorem only_openCycle {m0 : List Part} {z0 : State} (hm : sub [.ctl, .rek, .cis, .fio] m0 = true)
    (a0) (s : State) (h : Only m0 z0 s) : Only m0 z0 (openCycle a0 s) := by
  unfold openCycle
  repeat' first
    | with_reducible assumption | (simp only [↓Only_mk]; with_reducible refine Mk_of hm rfl ?_ ?_)
    | ((with_reducible refine Upd_rfl ?_); rfl)

theorem only_idleFrames {m0 : List Part} {z0 : State} (hm : sub [.sent] m0 = true)
    (a0) (s : State) (h : Only m0 z0 s) : Only m0 z0 (idleFrames a0 s) := by
  unfold idleFrames
  repeat' first
    | with_reducible assumption | exact sub_trans (by decide) hm | with_reducible apply only_sendRequest
    | with_reducible apply only_sendOutputs | with_reducible refine Only_ite ?_ ?_ | intro _

theorem only_boundary {m0 : List Part} {z0 : State} (hm : sub [.now, .time, .mode, .ctl, .lanes, .rek, .mem, .cis, .fab, .fio, .sw, .tel, .dma, .bri, .pair, .od, .upd, .records, .sent] m0 = true)
    (a0) (s : State) (h : Only m0 z0 s) : Only m0 z0 (boundary a0 s) := by
  unfold boundary
  repeat' first
    | with_reducible assumption | exact sub_trans (by decide) hm | with_reducible apply only_latchAll
    | with_reducible apply only_openCycle | with_reducible apply only_takeOffsets | with_reducible apply only_utcBoundary
    | with_reducible apply only_beaconBoundary | with_reducible apply only_expireDups
    | with_reducible apply only_legacyBoundary | with_reducible apply only_busBoundary
    | with_reducible apply only_landOld | with_reducible apply only_laneBoundary | with_reducible apply only_restartTasks
    | with_reducible apply only_promoteForces | with_reducible apply only_takeCodeMap
    | with_reducible apply only_answerOrders | with_reducible apply only_stopOrders
    | with_reducible apply only_formScrubs | with_reducible apply only_exchangeDeadline
    | with_reducible apply only_pairBoundary | with_reducible apply only_idleFrames
    | with_reducible apply only_checkInhibit | with_reducible apply only_timeStep
    | with_reducible apply only_latchObjects | with_reducible apply only_foldl | intro _

theorem only_execCycleBoundary {m0 : List Part} {z0 : State} (hm : sub [.now, .time, .mode, .ctl, .lanes, .rek, .mem, .cis, .fab, .fio, .sw, .tel, .dma, .bri, .pair, .od, .upd, .records, .sent] m0 = true)
    (a0) (s : State) (h : Only m0 z0 s) : OutOnly m0 z0 (execCycleBoundary a0 s) := by
  unfold execCycleBoundary
  repeat' first
    | with_reducible assumption | exact sub_trans (by decide) hm | with_reducible apply only_State_atTime
    | with_reducible apply only_boundary | with_reducible refine Only_ite ?_ ?_
    | with_reducible refine OutOnly_next.mpr ?_ | intro _

end Sys2Proof.Machine
end

