-- ==== Sys2Proof/Laws/OnlyF.lean ====
section
/-! SUPPORT. The parts of a state that each operation touches (Laws/Frames.lean): the host interface. -/

set_option Elab.async false

set_option linter.all false

namespace Sys2Proof.Machine

theorem only_closeSession {m0 : List Part} {z0 : State} (hm : sub [.od, .records] m0 = true)
    (a0) (a1) (s : State) (h : Only m0 z0 s) : Only m0 z0 (closeSession a0 a1 s) := by
  unfold closeSession
  repeat' first
    | with_reducible assumption | exact sub_trans (by decide) hm | with_reducible apply only_raiseFrom
    | with_reducible apply only_State_modSession

theorem only_authFailed {m0 : List Part} {z0 : State} (hm : sub [.od, .records] m0 = true)
    (a0) (a1) (s : State) (h : Only m0 z0 s) : Only m0 z0 (authFailed a0 a1 s) := by
  unfold authFailed
  repeat' first
    | with_reducible assumption | exact sub_trans (by decide) hm | with_reducible apply only_raiseOncePerSec
    | with_reducible apply only_State_modSession | with_reducible apply only_closeSession
    | with_reducible refine Only_ite ?_ ?_ | intro _ | (simp only [↓Only_mk]; with_reducible refine Mk_of hm rfl ?_ ?_)
    | ((with_reducible refine Upd_rfl ?_); rfl)

theorem only_rateLimited {m0 : List Part} {z0 : State} (hm : sub [.od, .records] m0 = true)
    (a0) (s : State) (h : Only m0 z0 s) : Only m0 z0 (rateLimited a0 s) := by
  unfold rateLimited
  repeat' first
    | with_reducible assumption | exact sub_trans (by decide) hm | with_reducible apply only_raiseOncePerSec
    | (simp only [↓Only_mk]; with_reducible refine Mk_of hm rfl ?_ ?_) | ((with_reducible refine Upd_rfl ?_); rfl)

theorem only_sessionToken {m0 : List Part} {z0 : State} (hm : sub [.od, .records] m0 = true)
    (a0) (s : State) (h : Only m0 z0 s) : Only m0 z0 (sessionToken a0 s).1 := by
  unfold sessionToken
  repeat' first
    | with_reducible assumption | exact sub_trans (by decide) hm | with_reducible apply only_State_modSession
    | with_reducible apply only_rateLimited | with_reducible refine Only_fst_ite ?_ ?_ | intro _

theorem only_zeroToken {m0 : List Part} {z0 : State} (hm : sub [.od, .records] m0 = true)
    (s : State) (h : Only m0 z0 s) : Only m0 z0 (zeroToken s).1 := by
  unfold zeroToken
  repeat' first
    | with_reducible assumption | exact sub_trans (by decide) hm | with_reducible apply only_rateLimited
    | with_reducible refine Only_fst_ite ?_ ?_ | intro _
    | (simp only [↓Only_mk]; with_reducible refine Mk_of hm rfl ?_ ?_) | ((with_reducible refine Upd_rfl ?_); rfl)

theorem only_openToken {m0 : List Part} {z0 : State} (hm : sub [.od, .records] m0 = true)
    (s : State) (h : Only m0 z0 s) : Only m0 z0 (openToken s).1 := by
  unfold openToken
  repeat' first
    | with_reducible assumption | exact sub_trans (by decide) hm | with_reducible apply only_rateLimited
    | with_reducible refine Only_fst_ite ?_ ?_ | intro _
    | (simp only [↓Only_mk]; with_reducible refine Mk_of hm rfl ?_ ?_) | ((with_reducible refine Upd_rfl ?_); rfl)

theorem only_admitZero {m0 : List Part} {z0 : State} (hm : sub [.od, .records, .sent] m0 = true)
    (a0) (a1) (a2) (s : State) (h : Only m0 z0 s) : Only m0 z0 (admitZero a0 a1 a2 s).1 := by
  unfold admitZero
  repeat' first
    | with_reducible assumption | exact sub_trans (by decide) hm | with_reducible apply only_zeroToken
    | with_reducible apply only_respond | with_reducible refine Only_fst_ite ?_ ?_ | intro _

theorem only_admitSession {m0 : List Part} {z0 : State} (hm : sub [.od, .records, .sent] m0 = true)
    (a0) (a1) (a2) (a3) (a4) (a5) (s : State) (h : Only m0 z0 s) : Only m0 z0 (admitSession a0 a1 a2 a3 a4 a5 s).1 := by
  unfold admitSession
  repeat' first
    | with_reducible assumption | exact sub_trans (by decide) hm | with_reducible apply only_respond
    | with_reducible apply only_authFailed | with_reducible apply only_sessionToken
    | with_reducible apply only_State_emitAll | with_reducible apply only_State_modSession
    | with_reducible refine Only_fst_ite ?_ ?_ | intro _ | split

theorem only_State_setXfer {m0 : List Part} {z0 : State} (hm : sub [.od] m0 = true)
    (s : State) (a1) (a2) (h : Only m0 z0 s) : Only m0 z0 (State.setXfer s a1 a2) := by
  unfold State.setXfer
  repeat' first
    | with_reducible assumption | with_reducible refine Only_ite ?_ ?_ | intro _
    | (simp only [↓Only_mk]; with_reducible refine Mk_of hm rfl ?_ ?_) | ((with_reducible refine Upd_rfl ?_); rfl)

theorem only_admitSdo {m0 : List Part} {z0 : State} (hm : sub [.od, .sent] m0 = true)
    (a0) (a1) (a2) (s : State) (h : Only m0 z0 s) : Only m0 z0 (admitSdo a0 a1 a2 s).1 := by
  unfold admitSdo
  repeat' first
    | with_reducible assumption | exact sub_trans (by decide) hm | with_reducible apply only_respond
    | with_reducible refine Only_fst_ite ?_ ?_ | intro _

theorem only_admit {m0 : List Part} {z0 : State} (hm : sub [.od, .records, .sent] m0 = true)
    (a0) (a1) (s : State) (h : Only m0 z0 s) : Only m0 z0 (admission a0 a1 s).1 := by
  unfold admission
  repeat' first
    | with_reducible assumption | exact sub_trans (by decide) hm | with_reducible apply only_admitZero
    | with_reducible apply only_admitSession | with_reducible apply only_admitSdo | intro _ | split

theorem only_serve {m0 : List Part} {z0 : State} (hm : sub [.od, .records, .sent] m0 = true)
    (v f act) (s : State) (h : Only m0 z0 s) (hf : ∀ c s, Only m0 z0 s → Only m0 z0 (act c s)) :
    Only m0 z0 (serve v f act s) := by
  unfold serve
  repeat' first
    | with_reducible assumption | exact sub_trans (by decide) hm | with_reducible apply hf
    | with_reducible apply only_admit | with_reducible refine Only_of_fst (by assumption) ?_ | split

theorem only_rollbackRefused {m0 : List Part} {z0 : State} (hm : sub [.upd, .records] m0 = true)
    (a0) (a1) (s : State) (h : Only m0 z0 s) : Only m0 z0 (rollbackRefused a0 a1 s) := by
  unfold rollbackRefused
  repeat' first
    | with_reducible assumption | exact sub_trans (by decide) hm | with_reducible apply only_raise
    | (simp only [↓Only_mk]; with_reducible refine Mk_of hm rfl ?_ ?_) | ((with_reducible refine Upd_rfl ?_); rfl)

theorem only_refuseMode {m0 : List Part} {z0 : State} (hm : sub [.ctl, .records] m0 = true)
    (a0) (a1) (a2) (s : State) (h : Only m0 z0 s) : Only m0 z0 (refuseMode a0 a1 a2 s) := by
  unfold refuseMode
  repeat' first
    | with_reducible assumption | exact sub_trans (by decide) hm | with_reducible apply only_setResult
    | with_reducible apply only_raiseFrom | with_reducible refine Only_ite ?_ ?_ | intro _

theorem only_pendCommand {m0 : List Part} {z0 : State} (hm : sub [.ctl] m0 = true)
    (a0) (a1) (s : State) (h : Only m0 z0 s) : Only m0 z0 (pendCommand a0 a1 s) := by
  unfold pendCommand
  repeat' first
    | with_reducible assumption | exact sub_trans (by decide) hm | with_reducible apply only_setResult
    | (simp only [↓Only_mk]; with_reducible refine Mk_of hm rfl ?_ ?_) | ((with_reducible refine Upd_rfl ?_); rfl)

theorem only_acceptStop {m0 : List Part} {z0 : State} (hm : sub [.ctl, .pair, .sent] m0 = true)
    (a0) (s : State) (h : Only m0 z0 s) : Only m0 z0 (acceptStop a0 s) := by
  unfold acceptStop
  repeat' first
    | with_reducible assumption | exact sub_trans (by decide) hm | with_reducible apply only_pendCommand
    | with_reducible apply only_proposeHandover | intro _
    | (simp only [↓Only_mk]; with_reducible refine Mk_of hm rfl ?_ ?_) | ((with_reducible refine Upd_rfl ?_); rfl)
    | split

theorem only_acceptExchange {m0 : List Part} {z0 : State} (hm : sub [.ctl, .lanes, .pair, .sent] m0 = true)
    (a0) (s : State) (h : Only m0 z0 s) : Only m0 z0 (acceptExchange a0 s) := by
  unfold acceptExchange
  repeat' first
    | with_reducible assumption | exact sub_trans (by decide) hm | with_reducible apply only_pendCommand
    | with_reducible apply only_sendControl | with_reducible apply only_State_modLanes
    | with_reducible refine Only_ite ?_ ?_ | intro _ | (simp only [↓Only_mk]; with_reducible refine Mk_of hm rfl ?_ ?_)
    | ((with_reducible refine Upd_rfl ?_); rfl)

theorem only_acceptCommand {m0 : List Part} {z0 : State} (hm : sub [.mode, .ctl, .lanes, .rek, .mem, .cis, .fab, .sw, .tel, .pair, .od, .upd, .records, .sent] m0 = true)
    (a0) (a1) (s : State) (h : Only m0 z0 s) : Only m0 z0 (acceptCommand a0 a1 s) := by
  unfold acceptCommand
  repeat' first
    | with_reducible assumption | exact sub_trans (by decide) hm | with_reducible apply only_pendCommand
    | with_reducible apply only_acceptStop | with_reducible apply only_setResult | with_reducible apply only_coldRestart
    | with_reducible apply only_acceptExchange | (simp only [↓Only_mk]; with_reducible refine Mk_of hm rfl ?_ ?_)
    | ((with_reducible refine Upd_rfl ?_); rfl) | split

theorem only_judgeMode {m0 : List Part} {z0 : State} (hm : sub [.mode, .ctl, .lanes, .rek, .mem, .cis, .fab, .sw, .tel, .pair, .od, .upd, .records, .sent] m0 = true)
    (a0) (a1) (s : State) (h : Only m0 z0 s) : Only m0 z0 (judgeMode a0 a1 s).2 := by
  unfold judgeMode
  repeat' first
    | with_reducible assumption | exact sub_trans (by decide) hm | with_reducible apply only_rollbackRefused
    | with_reducible apply only_refuseMode | with_reducible apply only_acceptCommand
    | with_reducible refine Only_snd_ite ?_ ?_ | intro _ | split

theorem only_queueWrite {m0 : List Part} {z0 : State} (hm : sub [.ctl] m0 = true)
    (a0) (a1) (a2) (a3) (a4) (s : State) (h : Only m0 z0 s) : Only m0 z0 (queueWrite a0 a1 a2 a3 a4 s) := by
  unfold queueWrite
  repeat' first
    | with_reducible assumption | (simp only [↓Only_mk]; with_reducible refine Mk_of hm rfl ?_ ?_)
    | ((with_reducible refine Upd_rfl ?_); rfl)

theorem only_opMode {m0 : List Part} {z0 : State} (hm : sub [.ctl, .od, .records, .sent] m0 = true)
    (a0) (a1) (a2) (a3) (s : State) (h : Only m0 z0 s) : Only m0 z0 (opMode a0 a1 a2 a3 s) := by
  unfold opMode
  repeat' first
    | with_reducible assumption | exact sub_trans (by decide) hm | with_reducible apply only_queueWrite
    | with_reducible apply only_respond | with_reducible apply only_refuseMode | with_reducible refine Only_ite ?_ ?_
    | intro _

theorem only_modeWrite {m0 : List Part} {z0 : State} (hm : sub [.now, .ctl, .od, .records, .sent] m0 = true)
    (a0) (a1) (a2) (s : State) (h : Only m0 z0 s) : Only m0 z0 (modeWrite a0 a1 a2 s) := by
  unfold modeWrite
  repeat' first
    | with_reducible assumption | exact sub_trans (by decide) hm | with_reducible apply only_serve
    | with_reducible apply only_opMode | with_reducible apply only_State_atTime | intro _

theorem only_execCmdRun {m0 : List Part} {z0 : State} (hm : sub [.now, .ctl, .od, .records, .sent] m0 = true)
    (a0) (a1) (s : State) (h : Only m0 z0 s) : OutOnly m0 z0 (execCmdRun a0 a1 s) := by
  unfold execCmdRun
  repeat' first
    | with_reducible assumption | exact sub_trans (by decide) hm | with_reducible apply only_modeWrite
    | with_reducible refine OutOnly_next.mpr ?_

theorem only_execCmdStop {m0 : List Part} {z0 : State} (hm : sub [.now, .ctl, .od, .records, .sent] m0 = true)
    (a0) (a1) (s : State) (h : Only m0 z0 s) : OutOnly m0 z0 (execCmdStop a0 a1 s) := by
  unfold execCmdStop
  repeat' first
    | with_reducible assumption | exact sub_trans (by decide) hm | with_reducible apply only_modeWrite
    | with_reducible refine OutOnly_next.mpr ?_

theorem only_execCmdHold {m0 : List Part} {z0 : State} (hm : sub [.now, .ctl, .od, .records, .sent] m0 = true)
    (a0) (a1) (s : State) (h : Only m0 z0 s) : OutOnly m0 z0 (execCmdHold a0 a1 s) := by
  unfold execCmdHold
  repeat' first
    | with_reducible assumption | exact sub_trans (by decide) hm | with_reducible apply only_modeWrite
    | with_reducible refine OutOnly_next.mpr ?_

theorem only_execCmdResume {m0 : List Part} {z0 : State} (hm : sub [.now, .ctl, .od, .records, .sent] m0 = true)
    (a0) (a1) (s : State) (h : Only m0 z0 s) : OutOnly m0 z0 (execCmdResume a0 a1 s) := by
  unfold execCmdResume
  repeat' first
    | with_reducible assumption | exact sub_trans (by decide) hm | with_reducible apply only_modeWrite
    | with_reducible refine OutOnly_next.mpr ?_

theorem only_execCmdRestart {m0 : List Part} {z0 : State} (hm : sub [.now, .ctl, .od, .records, .sent] m0 = true)
    (a0) (a1) (s : State) (h : Only m0 z0 s) : OutOnly m0 z0 (execCmdRestart a0 a1 s) := by
  unfold execCmdRestart
  repeat' first
    | with_reducible assumption | exact sub_trans (by decide) hm | with_reducible apply only_modeWrite
    | with_reducible refine OutOnly_next.mpr ?_

theorem only_execCmdExchange {m0 : List Part} {z0 : State} (hm : sub [.now, .ctl, .od, .records, .sent] m0 = true)
    (a0) (a1) (s : State) (h : Only m0 z0 s) : OutOnly m0 z0 (execCmdExchange a0 a1 s) := by
  unfold execCmdExchange
  repeat' first
    | with_reducible assumption | exact sub_trans (by decide) hm | with_reducible apply only_modeWrite
    | with_reducible refine OutOnly_next.mpr ?_

theorem only_restartAll {m0 : List Part} {z0 : State} (hm : sub [.ctl] m0 = true)
    (s : State) (h : Only m0 z0 s) : Only m0 z0 (restartAll s) := by
  unfold restartAll
  repeat' first
    | with_reducible assumption | (simp only [↓Only_mk]; with_reducible refine Mk_of hm rfl ?_ ?_)
    | ((with_reducible refine Upd_rfl ?_); rfl)

theorem only_intoRun {m0 : List Part} {z0 : State} (hm : sub [.mode, .ctl, .fab, .tel, .bri, .upd, .records, .sent] m0 = true)
    (a0) (s : State) (h : Only m0 z0 s) : Only m0 z0 (intoRun a0 s) := by
  unfold intoRun
  repeat' first
    | with_reducible assumption | exact sub_trans (by decide) hm | with_reducible apply only_enterMode
    | with_reducible apply only_canRestart | with_reducible apply only_restartTasks
    | with_reducible apply only_restartAll | with_reducible apply only_passTrial | with_reducible apply only_nmtStart
    | with_reducible refine Only_ite ?_ ?_ | intro _

theorem only_runEffect {m0 : List Part} {z0 : State} (hm : sub [.mode, .ctl, .fab, .tel, .bri, .upd, .records, .sent] m0 = true)
    (a0) (s : State) (h : Only m0 z0 s) : Only m0 z0 (runEffect a0 s) := by
  unfold runEffect
  repeat' first
    | with_reducible assumption | exact sub_trans (by decide) hm | with_reducible apply only_enterMode
    | with_reducible apply only_startComplete | with_reducible apply only_intoRun | with_reducible refine Only_ite ?_ ?_
    | intro _

theorem only_stopEffect {m0 : List Part} {z0 : State} (hm : sub [.mode, .ctl, .lanes, .rek, .mem, .cis, .fab, .tel, .pair, .records, .sent] m0 = true)
    (s : State) (h : Only m0 z0 s) : Only m0 z0 (stopEffect s) := by
  unfold stopEffect
  repeat' first
    | with_reducible assumption | exact sub_trans (by decide) hm | with_reducible apply only_dropAll
    | with_reducible apply only_enterMode | with_reducible apply only_toJoining | with_reducible apply only_abortExchange
    | with_reducible refine Only_ite ?_ ?_ | intro _

theorem only_resumeEffect {m0 : List Part} {z0 : State} (hm : sub [.mode, .ctl, .lanes, .rek, .fab, .tel, .bri, .upd, .records, .sent] m0 = true)
    (s : State) (h : Only m0 z0 s) : Only m0 z0 (resumeEffect s) := by
  unfold resumeEffect
  repeat' first
    | with_reducible assumption | exact sub_trans (by decide) hm | with_reducible apply only_intoRun
    | with_reducible apply only_dropAll | with_reducible apply only_State_modLanes

theorem only_finishCommand {m0 : List Part} {z0 : State} (hm : sub [.ctl] m0 = true)
    (s : State) (h : Only m0 z0 s) : Only m0 z0 (finishCommand s) := by
  unfold finishCommand
  repeat' first
    | with_reducible assumption | exact sub_trans (by decide) hm | with_reducible apply only_setResult
    | with_reducible refine Only_ite ?_ ?_ | intro _ | (simp only [↓Only_mk]; with_reducible refine Mk_of hm rfl ?_ ?_)
    | ((with_reducible refine Upd_rfl ?_); rfl)

theorem only_execModeChange {m0 : List Part} {z0 : State} (hm : sub [.now, .mode, .ctl, .lanes, .rek, .mem, .cis, .fab, .tel, .bri, .pair, .upd, .records, .sent] m0 = true)
    (a0) (s : State) (h : Only m0 z0 s) : OutOnly m0 z0 (execModeChange a0 s) := by
  unfold execModeChange
  repeat' first
    | with_reducible assumption | exact sub_trans (by decide) hm | with_reducible apply only_State_atTime
    | with_reducible apply only_runEffect | with_reducible apply only_finishCommand
    | with_reducible apply only_stopEffect | with_reducible apply only_enterMode | with_reducible apply only_resumeEffect
    | with_reducible refine OutOnly_next.mpr ?_ | intro _ | split

theorem only_warmBoot {m0 : List Part} {z0 : State} (hm : sub [.time, .mode, .ctl, .lanes, .fab, .tel, .pair, .od, .records, .sent] m0 = true)
    (s : State) (h : Only m0 z0 s) : Only m0 z0 (warmBoot s) := by
  unfold warmBoot
  extract_lets +onlyGivenNames s1 tables
  have h1 : Only m0 z0 s1 := only_enterMode (sub_trans (by decide) hm) _ _ _ h
  clear_value s1 tables
  extract_lets +onlyGivenNames c s2
  have h2 : Only m0 z0 s2 := only_takePairRole (sub_trans (by decide) hm) _ (only_takeInForce (sub_trans (by decide) hm) _ (Only_upd (d := [.ctl]) (sub_trans (by decide) hm) h1 (Upd_of rfl rfl rfl (by intro p; cases p <;> first | exact .inl rfl | exact .inr rfl | exact .inr ⟨rfl, rfl⟩ | exact .inr ⟨rfl, rfl, rfl⟩))))
  clear_value s2
  extract_lets +onlyGivenNames s3
  have h3 : Only m0 z0 s3 := only_applyBindings (sub_trans (by decide) hm) _ _ h2
  clear_value s3
  extract_lets +onlyGivenNames f g i s4
  have h4 : Only m0 z0 s4 := Only_upd (d := [.lanes]) (sub_trans (by decide) hm) h3 (Upd_of rfl rfl rfl (by intro p; cases p <;> first | exact .inl rfl | exact .inr rfl | exact .inr ⟨rfl, rfl⟩ | exact .inr ⟨rfl, rfl, rfl⟩))
  clear_value s4
  exact Only_ite (fun _ => only_setPair (sub_trans (by decide) hm) _ _ _ (Only_upd (d := [.pair]) (sub_trans (by decide) hm) h4 (Upd_of rfl rfl rfl (by intro p; cases p <;> first | exact .inl rfl | exact .inr rfl | exact .inr ⟨rfl, rfl⟩ | exact .inr ⟨rfl, rfl, rfl⟩)))) (fun _ => h4)

theorem only_execWarmRestartBoot {m0 : List Part} {z0 : State} (hm : sub [.now, .time, .mode, .ctl, .lanes, .fab, .tel, .pair, .od, .records, .sent] m0 = true)
    (a0) (s : State) (h : Only m0 z0 s) : OutOnly m0 z0 (execWarmRestartBoot a0 s) := by
  unfold execWarmRestartBoot
  repeat' first
    | with_reducible assumption | exact sub_trans (by decide) hm | with_reducible apply only_State_atTime
    | with_reducible apply only_warmBoot | with_reducible refine Only_ite ?_ ?_ | with_reducible apply only_foldl
    | with_reducible refine OutOnly_next.mpr ?_ | with_reducible refine OutOnly_ite ?_ ?_ | intro _
    | (extract_lets +onlyGivenNames x; have hx : Only m0 z0 x := ?hx; case' hx => unfold x)
    | extract_lets +onlyGivenNames _ | (simp only [↓Only_mk]; with_reducible refine Mk_of hm rfl ?_ ?_)
    | ((with_reducible refine Upd_rfl ?_); rfl) | split | dsimp only

theorem only_warmEnd {m0 : List Part} {z0 : State} (hm : sub [.ctl, .lanes] m0 = true)
    (s : State) (h : Only m0 z0 s) : Only m0 z0 (warmEnd s) := by
  unfold warmEnd
  repeat' first
    | with_reducible assumption | exact sub_trans (by decide) hm | with_reducible apply only_State_modLanes
    | (simp only [↓Only_mk]; with_reducible refine Mk_of hm rfl ?_ ?_) | ((with_reducible refine Upd_rfl ?_); rfl)

theorem only_execWarmRestartComplete {m0 : List Part} {z0 : State} (hm : sub [.now, .mode, .ctl, .lanes, .fab, .tel, .bri, .upd, .records, .sent] m0 = true)
    (a0) (s : State) (h : Only m0 z0 s) : OutOnly m0 z0 (execWarmRestartComplete a0 s) := by
  unfold execWarmRestartComplete
  repeat' first
    | with_reducible assumption | exact sub_trans (by decide) hm | with_reducible apply only_State_atTime
    | with_reducible apply only_enterMode | with_reducible apply only_warmEnd | with_reducible apply only_refuseCommand
    | with_reducible apply only_intoRun | with_reducible refine OutOnly_next.mpr ?_ | intro _ | split

theorem only_execWarmRestartTimeout {m0 : List Part} {z0 : State} (hm : sub [.now, .mode, .ctl, .lanes, .rek, .cis, .fab, .tel, .pair, .records, .sent] m0 = true)
    (a0) (s : State) (h : Only m0 z0 s) : OutOnly m0 z0 (execWarmRestartTimeout a0 s) := by
  unfold execWarmRestartTimeout
  repeat' first
    | with_reducible assumption | exact sub_trans (by decide) hm | with_reducible apply only_State_atTime
    | with_reducible apply only_raise | with_reducible apply only_faultStop | with_reducible refine OutOnly_next.mpr ?_
    | intro _ | (simp only [↓Only_mk]; with_reducible refine Mk_of hm rfl ?_ ?_)
    | ((with_reducible refine Upd_rfl ?_); rfl) | split

theorem only_mirrorForce {m0 : List Part} {z0 : State} (hm : sub [.pair, .sent] m0 = true)
    (a0) (a1) (a2) (a3) (s : State) (h : Only m0 z0 s) : Only m0 z0 (mirrorForce a0 a1 a2 a3 s) := by
  unfold mirrorForce
  repeat' first
    | with_reducible assumption | exact sub_trans (by decide) hm | with_reducible apply only_mirror

theorem only_unrefuseEntry {m0 : List Part} {z0 : State} (hm : sub [.ctl] m0 = true)
    (a0) (a1) (a2) (s : State) (h : Only m0 z0 s) : Only m0 z0 (unrefuseEntry a0 a1 a2 s) := by
  unfold unrefuseEntry
  repeat' first
    | with_reducible assumption | exact sub_trans (by decide) hm | with_reducible apply only_putForce
    | with_reducible refine Only_ite ?_ ?_ | intro _

theorem only_opForceField {m0 : List Part} {z0 : State} (hm : sub [.ctl, .pair, .od, .sent] m0 = true)
    (a0) (a1) (a2) (a3) (a4) (a5) (s : State) (h : Only m0 z0 s) : Only m0 z0 (opForceField a0 a1 a2 a3 a4 a5 s) := by
  unfold opForceField
  repeat' first
    | with_reducible assumption | exact sub_trans (by decide) hm | with_reducible apply only_unrefuseEntry
    | with_reducible apply only_respond | with_reducible apply only_mirrorForce | with_reducible apply only_putForce
    | with_reducible refine Only_ite ?_ ?_ | intro _

theorem only_opForceValue {m0 : List Part} {z0 : State} (hm : sub [.ctl, .pair, .od, .sent] m0 = true)
    (a0) (a1) (a2) (a3) (a4) (s : State) (h : Only m0 z0 s) : Only m0 z0 (opForceValue a0 a1 a2 a3 a4 s) := by
  unfold opForceValue
  repeat' first
    | with_reducible assumption | exact sub_trans (by decide) hm | with_reducible apply only_unrefuseEntry
    | with_reducible apply only_respond | with_reducible apply only_mirrorForce | with_reducible apply only_putForce
    | with_reducible refine Only_ite ?_ ?_ | intro _

theorem only_activateForce {m0 : List Part} {z0 : State} (hm : sub [.ctl, .pair, .od, .records, .sent] m0 = true)
    (a0) (a1) (a2) (s : State) (h : Only m0 z0 s) : Only m0 z0 (activateForce a0 a1 a2 s) := by
  unfold activateForce
  repeat' first
    | with_reducible assumption | exact sub_trans (by decide) hm | with_reducible apply only_respond
    | with_reducible apply only_raiseFrom | with_reducible apply only_putForce | with_reducible apply only_mirrorForce
    | with_reducible refine Only_ite ?_ ?_ | intro _

theorem only_removeForce {m0 : List Part} {z0 : State} (hm : sub [.ctl, .pair, .od, .sent] m0 = true)
    (a0) (a1) (a2) (s : State) (h : Only m0 z0 s) : Only m0 z0 (removeForce a0 a1 a2 s) := by
  unfold removeForce
  repeat' first
    | with_reducible assumption | exact sub_trans (by decide) hm | with_reducible apply only_respond
    | with_reducible apply only_mirrorForce | with_reducible apply only_putForce | with_reducible refine Only_ite ?_ ?_
    | intro _

theorem only_opForceCommand {m0 : List Part} {z0 : State} (hm : sub [.ctl, .pair, .od, .records, .sent] m0 = true)
    (a0) (a1) (a2) (a3) (a4) (s : State) (h : Only m0 z0 s) : Only m0 z0 (opForceCommand a0 a1 a2 a3 a4 s) := by
  unfold opForceCommand
  repeat' first
    | with_reducible assumption | exact sub_trans (by decide) hm | with_reducible apply only_unrefuseEntry
    | with_reducible apply only_respond | with_reducible apply only_activateForce | with_reducible apply only_removeForce
    | with_reducible refine Only_ite ?_ ?_ | intro _

theorem only_execForceKindWrite {m0 : List Part} {z0 : State} (hm : sub [.now, .ctl, .pair, .od, .records, .sent] m0 = true)
    (a0) (a1) (a2) (a3) (s : State) (h : Only m0 z0 s) : OutOnly m0 z0 (execForceKindWrite a0 a1 a2 a3 s) := by
  unfold execForceKindWrite
  repeat' first
    | with_reducible assumption | exact sub_trans (by decide) hm | with_reducible apply only_serve
    | with_reducible apply only_opForceField | with_reducible apply only_State_atTime
    | with_reducible refine OutOnly_next.mpr ?_ | intro _

theorem only_execForceTargetWrite {m0 : List Part} {z0 : State} (hm : sub [.now, .ctl, .pair, .od, .records, .sent] m0 = true)
    (a0) (a1) (a2) (a3) (s : State) (h : Only m0 z0 s) : OutOnly m0 z0 (execForceTargetWrite a0 a1 a2 a3 s) := by
  unfold execForceTargetWrite
  repeat' first
    | with_reducible assumption | exact sub_trans (by decide) hm | with_reducible apply only_serve
    | with_reducible apply only_opForceField | with_reducible apply only_State_atTime
    | with_reducible refine OutOnly_next.mpr ?_ | intro _

theorem only_execForceValueWrite {m0 : List Part} {z0 : State} (hm : sub [.now, .ctl, .pair, .od, .records, .sent] m0 = true)
    (a0) (a1) (a2) (a3) (s : State) (h : Only m0 z0 s) : OutOnly m0 z0 (execForceValueWrite a0 a1 a2 a3 s) := by
  unfold execForceValueWrite
  repeat' first
    | with_reducible assumption | exact sub_trans (by decide) hm | with_reducible apply only_serve
    | with_reducible apply only_opForceValue | with_reducible apply only_State_atTime
    | with_reducible refine OutOnly_next.mpr ?_ | intro _

theorem only_execForceActivate {m0 : List Part} {z0 : State} (hm : sub [.now, .ctl, .pair, .od, .records, .sent] m0 = true)
    (a0) (a1) (a2) (s : State) (h : Only m0 z0 s) : OutOnly m0 z0 (execForceActivate a0 a1 a2 s) := by
  unfold execForceActivate
  repeat' first
    | with_reducible assumption | exact sub_trans (by decide) hm | with_reducible apply only_serve
    | with_reducible apply only_opForceCommand | with_reducible apply only_State_atTime
    | with_reducible refine OutOnly_next.mpr ?_ | intro _

theorem only_execForceRemove {m0 : List Part} {z0 : State} (hm : sub [.now, .ctl, .pair, .od, .records, .sent] m0 = true)
    (a0) (a1) (a2) (s : State) (h : Only m0 z0 s) : OutOnly m0 z0 (execForceRemove a0 a1 a2 s) := by
  unfold execForceRemove
  repeat' first
    | with_reducible assumption | exact sub_trans (by decide) hm | with_reducible apply only_serve
    | with_reducible apply only_opForceCommand | with_reducible apply only_State_atTime
    | with_reducible refine OutOnly_next.mpr ?_ | intro _

theorem only_execForceBoundary {m0 : List Part} {z0 : State} (hm : sub [.now, .ctl, .records] m0 = true)
    (a0) (a1) (s : State) (h : Only m0 z0 s) : OutOnly m0 z0 (execForceBoundary a0 a1 s) := by
  unfold execForceBoundary
  repeat' first
    | with_reducible assumption | exact sub_trans (by decide) hm | with_reducible apply only_State_atTime
    | with_reducible apply only_raiseFrom | with_reducible apply only_putForce | with_reducible refine Only_ite ?_ ?_
    | with_reducible refine OutOnly_next.mpr ?_ | intro _

theorem only_opSetEntries {m0 : List Part} {z0 : State} (hm : sub [.ctl, .od, .sent] m0 = true)
    (a0) (a1) (a2) (a3) (s : State) (h : Only m0 z0 s) : Only m0 z0 (opSetEntries a0 a1 a2 a3 s) := by
  unfold opSetEntries
  repeat' first
    | with_reducible assumption | exact sub_trans (by decide) hm | with_reducible apply only_respond
    | with_reducible refine Only_ite ?_ ?_ | intro _ | (simp only [↓Only_mk]; with_reducible refine Mk_of hm rfl ?_ ?_)
    | ((with_reducible refine Upd_rfl ?_); rfl)

theorem only_opSetTarget {m0 : List Part} {z0 : State} (hm : sub [.ctl, .od, .sent] m0 = true)
    (a0) (a1) (a2) (a3) (s : State) (h : Only m0 z0 s) : Only m0 z0 (opSetTarget a0 a1 a2 a3 s) := by
  unfold opSetTarget
  repeat' first
    | with_reducible assumption | exact sub_trans (by decide) hm | with_reducible apply only_respond
    | with_reducible refine Only_ite ?_ ?_ | intro _ | (simp only [↓Only_mk]; with_reducible refine Mk_of hm rfl ?_ ?_)
    | ((with_reducible refine Upd_rfl ?_); rfl)

theorem only_applySet {m0 : List Part} {z0 : State} (hm : sub [.ctl, .lanes, .pair, .od, .records, .sent] m0 = true)
    (a0) (a1) (s : State) (h : Only m0 z0 s) : Only m0 z0 (applySet a0 a1 s) := by
  unfold applySet
  repeat' first
    | with_reducible assumption | exact sub_trans (by decide) hm | with_reducible apply only_respond
    | with_reducible apply only_raiseFrom | with_reducible apply only_deliverSet | with_reducible apply only_mirror
    | with_reducible refine Only_ite ?_ ?_ | intro _ | (simp only [↓Only_mk]; with_reducible refine Mk_of hm rfl ?_ ?_)
    | ((with_reducible refine Upd_rfl ?_); rfl)

theorem only_discardSet {m0 : List Part} {z0 : State} (hm : sub [.ctl, .od, .sent] m0 = true)
    (a0) (s : State) (h : Only m0 z0 s) : Only m0 z0 (discardSet a0 s) := by
  unfold discardSet
  repeat' first
    | with_reducible assumption | exact sub_trans (by decide) hm | with_reducible apply only_respond
    | (simp only [↓Only_mk]; with_reducible refine Mk_of hm rfl ?_ ?_) | ((with_reducible refine Upd_rfl ?_); rfl)

theorem only_opSetCommand {m0 : List Part} {z0 : State} (hm : sub [.ctl, .lanes, .pair, .od, .records, .sent] m0 = true)
    (a0) (a1) (a2) (a3) (s : State) (h : Only m0 z0 s) : Only m0 z0 (opSetCommand a0 a1 a2 a3 s) := by
  unfold opSetCommand
  repeat' first
    | with_reducible assumption | exact sub_trans (by decide) hm | with_reducible apply only_respond
    | with_reducible apply only_applySet | with_reducible apply only_discardSet | with_reducible refine Only_ite ?_ ?_
    | intro _

theorem only_execCsApply {m0 : List Part} {z0 : State} (hm : sub [.now, .ctl, .lanes, .pair, .od, .records, .sent] m0 = true)
    (a0) (a1) (s : State) (h : Only m0 z0 s) : OutOnly m0 z0 (execCsApply a0 a1 s) := by
  unfold execCsApply
  repeat' first
    | with_reducible assumption | exact sub_trans (by decide) hm | with_reducible apply only_serve
    | with_reducible apply only_opSetCommand | with_reducible apply only_State_atTime
    | with_reducible refine OutOnly_next.mpr ?_ | intro _

theorem only_execCsDiscard {m0 : List Part} {z0 : State} (hm : sub [.now, .ctl, .lanes, .pair, .od, .records, .sent] m0 = true)
    (a0) (a1) (s : State) (h : Only m0 z0 s) : OutOnly m0 z0 (execCsDiscard a0 a1 s) := by
  unfold execCsDiscard
  repeat' first
    | with_reducible assumption | exact sub_trans (by decide) hm | with_reducible apply only_serve
    | with_reducible apply only_opSetCommand | with_reducible apply only_State_atTime
    | with_reducible refine OutOnly_next.mpr ?_ | intro _

theorem only_takeParams {m0 : List Part} {z0 : State} (hm : sub [.ctl, .lanes, .rek, .mem, .dma, .bri, .records, .sent, .free] m0 = true)
    (a0) (s : State) (a2) (h : Only m0 z0 s) : Only m0 z0 (takeParams a0 s a2) := by
  unfold takeParams
  repeat' first
    | with_reducible assumption | exact sub_trans (by decide) hm | with_reducible apply only_State_modLane
    | with_reducible apply only_reportCause | with_reducible apply only_excludeLane | intro _
    | extract_lets +onlyGivenNames _ | split

theorem only_execChangeSetEffect {m0 : List Part} {z0 : State} (hm : sub [.now, .ctl, .lanes, .rek, .mem, .dma, .bri, .records, .sent, .free] m0 = true)
    (a0) (a1) (s : State) (h : Only m0 z0 s) : OutOnly m0 z0 (execChangeSetEffect a0 a1 s) := by
  unfold execChangeSetEffect
  repeat' first
    | with_reducible assumption | exact sub_trans (by decide) hm | with_reducible apply only_State_atTime
    | with_reducible apply only_takeParams | with_reducible apply only_raise | with_reducible refine Only_ite ?_ ?_
    | with_reducible apply only_foldl | with_reducible refine OutOnly_next.mpr ?_ | intro _
    | (simp only [↓Only_mk]; with_reducible refine Mk_of hm rfl ?_ ?_) | ((with_reducible refine Upd_rfl ?_); rfl)

theorem only_opPlain {m0 : List Part} {z0 : State} (hm : sub [.od, .sent] m0 = true)
    (i u after c v ty d) (s : State) (h : Only m0 z0 s) (hf : ∀ s, Only m0 z0 s → Only m0 z0 (after s)) :
    Only m0 z0 (opPlain i u after c v ty d s) := by
  unfold opPlain
  repeat' first
    | with_reducible assumption | exact sub_trans (by decide) hm | with_reducible apply hf
    | with_reducible apply only_respond | with_reducible apply only_State_odStore | with_reducible refine Only_ite ?_ ?_
    | intro _

theorem only_opCommand {m0 : List Part} {z0 : State} (hm : sub [.od, .sent] m0 = true)
    (i u ex after c v w t) (s : State) (h : Only m0 z0 s) (hf : ∀ c s, Only m0 z0 s → Only m0 z0 (after c s)) :
    Only m0 z0 (opCommand i u ex after c v w t s) := by
  unfold opCommand
  repeat' first
    | with_reducible assumption | exact sub_trans (by decide) hm | with_reducible apply hf
    | with_reducible apply only_respond | with_reducible refine Only_ite ?_ ?_ | intro _

theorem only_opLane {m0 : List Part} {z0 : State} (hm : sub [.lanes, .od, .sent] m0 = true)
    (a0) (a1) (a2) (a3) (s : State) (h : Only m0 z0 s) : Only m0 z0 (opLane a0 a1 a2 a3 s) := by
  unfold opLane
  repeat' first
    | with_reducible assumption | exact sub_trans (by decide) hm | with_reducible apply only_opCommand
    | with_reducible apply only_State_modLane | intro _

theorem only_execLaneCommand {m0 : List Part} {z0 : State} (hm : sub [.now, .lanes, .od, .records, .sent] m0 = true)
    (a0) (a1) (a2) (s : State) (h : Only m0 z0 s) : OutOnly m0 z0 (execLaneCommand a0 a1 a2 s) := by
  unfold execLaneCommand
  repeat' first
    | with_reducible assumption | exact sub_trans (by decide) hm | with_reducible apply only_serve
    | with_reducible apply only_opLane | with_reducible apply only_State_atTime
    | with_reducible refine OutOnly_next.mpr ?_ | intro _

theorem only_opStagger {m0 : List Part} {z0 : State} (hm : sub [.ctl, .od, .sent] m0 = true)
    (a0) (a1) (a2) (a3) (s : State) (h : Only m0 z0 s) : Only m0 z0 (opStagger a0 a1 a2 a3 s) := by
  unfold opStagger
  repeat' first
    | with_reducible assumption | exact sub_trans (by decide) hm | with_reducible apply only_opPlain | intro _
    | (simp only [↓Only_mk]; with_reducible refine Mk_of hm rfl ?_ ?_) | ((with_reducible refine Upd_rfl ?_); rfl)

theorem only_execStaggerWrite {m0 : List Part} {z0 : State} (hm : sub [.now, .ctl, .od, .records, .sent] m0 = true)
    (a0) (a1) (a2) (s : State) (h : Only m0 z0 s) : OutOnly m0 z0 (execStaggerWrite a0 a1 a2 s) := by
  unfold execStaggerWrite
  repeat' first
    | with_reducible assumption | exact sub_trans (by decide) hm | with_reducible apply only_serve
    | with_reducible apply only_opStagger | with_reducible apply only_State_atTime
    | with_reducible refine OutOnly_next.mpr ?_ | intro _

theorem only_opPlacement {m0 : List Part} {z0 : State} (hm : sub [.ctl, .od, .records, .sent] m0 = true)
    (a0) (a1) (a2) (a3) (s : State) (h : Only m0 z0 s) : Only m0 z0 (opPlacement a0 a1 a2 a3 s) := by
  unfold opPlacement
  repeat' first
    | with_reducible assumption | exact sub_trans (by decide) hm | with_reducible apply only_respond
    | with_reducible apply only_raiseFrom | with_reducible refine Only_ite ?_ ?_ | intro _
    | (simp only [↓Only_mk]; with_reducible refine Mk_of hm rfl ?_ ?_) | ((with_reducible refine Upd_rfl ?_); rfl)

theorem only_execPlacementRequest {m0 : List Part} {z0 : State} (hm : sub [.now, .ctl, .od, .records, .sent] m0 = true)
    (a0) (a1) (a2) (s : State) (h : Only m0 z0 s) : OutOnly m0 z0 (execPlacementRequest a0 a1 a2 s) := by
  unfold execPlacementRequest
  repeat' first
    | with_reducible assumption | exact sub_trans (by decide) hm | with_reducible apply only_serve
    | with_reducible apply only_opPlacement | with_reducible apply only_State_atTime
    | with_reducible refine OutOnly_next.mpr ?_ | intro _

theorem only_opDebugAttach {m0 : List Part} {z0 : State} (hm : sub [.ctl, .od, .records, .sent] m0 = true)
    (a0) (a1) (s : State) (h : Only m0 z0 s) : Only m0 z0 (opDebugAttach a0 a1 s) := by
  unfold opDebugAttach
  repeat' first
    | with_reducible assumption | exact sub_trans (by decide) hm | with_reducible apply only_respond
    | with_reducible apply only_raiseFrom | with_reducible refine Only_ite ?_ ?_ | intro _
    | (simp only [↓Only_mk]; with_reducible refine Mk_of hm rfl ?_ ?_) | ((with_reducible refine Upd_rfl ?_); rfl)

theorem only_execDebugAttach {m0 : List Part} {z0 : State} (hm : sub [.now, .ctl, .od, .records, .sent] m0 = true)
    (a0) (a1) (s : State) (h : Only m0 z0 s) : OutOnly m0 z0 (execDebugAttach a0 a1 s) := by
  unfold execDebugAttach
  repeat' first
    | with_reducible assumption | exact sub_trans (by decide) hm | with_reducible apply only_serve
    | with_reducible apply only_opDebugAttach | with_reducible apply only_State_atTime
    | with_reducible refine OutOnly_next.mpr ?_ | intro _

theorem only_opTaskRestart {m0 : List Part} {z0 : State} (hm : sub [.ctl, .od, .sent] m0 = true)
    (a0) (a1) (a2) (a3) (a4) (s : State) (h : Only m0 z0 s) : Only m0 z0 (opTaskRestart a0 a1 a2 a3 a4 s) := by
  unfold opTaskRestart
  repeat' first
    | with_reducible assumption | exact sub_trans (by decide) hm | with_reducible apply only_opCommand
    | with_reducible apply only_State_modTask | intro _

theorem only_execTaskRestart {m0 : List Part} {z0 : State} (hm : sub [.now, .ctl, .od, .records, .sent] m0 = true)
    (a0) (a1) (a2) (a3) (s : State) (h : Only m0 z0 s) : OutOnly m0 z0 (execTaskRestart a0 a1 a2 a3 s) := by
  unfold execTaskRestart
  repeat' first
    | with_reducible assumption | exact sub_trans (by decide) hm | with_reducible apply only_serve
    | with_reducible apply only_opTaskRestart | with_reducible apply only_State_atTime
    | with_reducible refine OutOnly_next.mpr ?_ | intro _

theorem only_opMap {m0 : List Part} {z0 : State} (hm : sub [.fab, .od, .records, .sent] m0 = true)
    (a0) (a1) (a2) (a3) (s : State) (h : Only m0 z0 s) : Only m0 z0 (opMap a0 a1 a2 a3 s) := by
  unfold opMap
  repeat' first
    | with_reducible assumption | exact sub_trans (by decide) hm | with_reducible apply only_respond
    | with_reducible apply only_stageMap | with_reducible refine Only_ite ?_ ?_ | intro _

theorem only_execMapWrite {m0 : List Part} {z0 : State} (hm : sub [.now, .fab, .od, .records, .sent] m0 = true)
    (a0) (a1) (a2) (s : State) (h : Only m0 z0 s) : OutOnly m0 z0 (execMapWrite a0 a1 a2 s) := by
  unfold execMapWrite
  repeat' first
    | with_reducible assumption | exact sub_trans (by decide) hm | with_reducible apply only_serve
    | with_reducible apply only_opMap | with_reducible apply only_State_atTime
    | with_reducible refine OutOnly_next.mpr ?_ | intro _

theorem only_opConfirm {m0 : List Part} {z0 : State} (hm : sub [.fab, .od, .records, .sent] m0 = true)
    (a0) (a1) (a2) (a3) (s : State) (h : Only m0 z0 s) : Only m0 z0 (opConfirm a0 a1 a2 a3 s) := by
  unfold opConfirm
  repeat' first
    | with_reducible assumption | exact sub_trans (by decide) hm | with_reducible apply only_respond
    | with_reducible apply only_echoMap | with_reducible refine Only_ite ?_ ?_ | intro _

theorem only_execMapConfirm {m0 : List Part} {z0 : State} (hm : sub [.now, .fab, .od, .records, .sent] m0 = true)
    (a0) (a1) (a2) (s : State) (h : Only m0 z0 s) : OutOnly m0 z0 (execMapConfirm a0 a1 a2 s) := by
  unfold execMapConfirm
  repeat' first
    | with_reducible assumption | exact sub_trans (by decide) hm | with_reducible apply only_serve
    | with_reducible apply only_opConfirm | with_reducible apply only_State_atTime
    | with_reducible refine OutOnly_next.mpr ?_ | intro _

theorem only_opFunction {m0 : List Part} {z0 : State} (hm : sub [.fio, .od, .records, .sent] m0 = true)
    (a0) (a1) (a2) (a3) (a4) (s : State) (h : Only m0 z0 s) : Only m0 z0 (opFunction a0 a1 a2 a3 a4 s) := by
  unfold opFunction
  repeat' first
    | with_reducible assumption | exact sub_trans (by decide) hm | with_reducible apply only_opPlain
    | with_reducible apply only_reportRoles | with_reducible apply only_State_modGroup | intro _

theorem only_execFunctionWrite {m0 : List Part} {z0 : State} (hm : sub [.now, .fio, .od, .records, .sent] m0 = true)
    (a0) (a1) (a2) (a3) (s : State) (h : Only m0 z0 s) : OutOnly m0 z0 (execFunctionWrite a0 a1 a2 a3 s) := by
  unfold execFunctionWrite
  repeat' first
    | with_reducible assumption | exact sub_trans (by decide) hm | with_reducible apply only_serve
    | with_reducible apply only_opFunction | with_reducible apply only_State_atTime
    | with_reducible refine OutOnly_next.mpr ?_ | intro _

theorem only_opBankEntry {m0 : List Part} {z0 : State} (hm : sub [.fio, .od, .records, .sent] m0 = true)
    (a0) (a1) (a2) (a3) (a4) (a5) (s : State) (h : Only m0 z0 s) : Only m0 z0 (opBankEntry a0 a1 a2 a3 a4 a5 s) := by
  unfold opBankEntry
  repeat' first
    | with_reducible assumption | exact sub_trans (by decide) hm | with_reducible apply only_respond
    | with_reducible apply only_raiseFrom | with_reducible apply only_State_modGroup
    | with_reducible apply only_State_odStore | with_reducible refine Only_ite ?_ ?_ | intro _

theorem only_execBankEntryWrite {m0 : List Part} {z0 : State} (hm : sub [.now, .fio, .od, .records, .sent] m0 = true)
    (a0) (a1) (a2) (a3) (a4) (s : State) (h : Only m0 z0 s) : OutOnly m0 z0 (execBankEntryWrite a0 a1 a2 a3 a4 s) := by
  unfold execBankEntryWrite
  repeat' first
    | with_reducible assumption | exact sub_trans (by decide) hm | with_reducible apply only_serve
    | with_reducible apply only_opBankEntry | with_reducible apply only_State_atTime
    | with_reducible refine OutOnly_next.mpr ?_ | intro _

theorem only_opAlignment {m0 : List Part} {z0 : State} (hm : sub [.od, .sent] m0 = true)
    (a0) (a1) (a2) (a3) (a4) (s : State) (h : Only m0 z0 s) : Only m0 z0 (opAlignment a0 a1 a2 a3 a4 s) := by
  unfold opAlignment
  repeat' first
    | with_reducible assumption | exact sub_trans (by decide) hm | with_reducible apply only_respond
    | with_reducible apply only_State_odStore | with_reducible refine Only_ite ?_ ?_ | intro _

theorem only_execAlignmentWrite {m0 : List Part} {z0 : State} (hm : sub [.now, .od, .records, .sent] m0 = true)
    (a0) (a1) (a2) (a3) (s : State) (h : Only m0 z0 s) : OutOnly m0 z0 (execAlignmentWrite a0 a1 a2 a3 s) := by
  unfold execAlignmentWrite
  repeat' first
    | with_reducible assumption | exact sub_trans (by decide) hm | with_reducible apply only_serve
    | with_reducible apply only_opAlignment | with_reducible apply only_State_atTime
    | with_reducible refine OutOnly_next.mpr ?_ | intro _

theorem only_refuseSwap {m0 : List Part} {z0 : State} (hm : sub [.fio, .records] m0 = true)
    (a0) (a1) (a2) (s : State) (h : Only m0 z0 s) : Only m0 z0 (refuseSwap a0 a1 a2 s) := by
  unfold refuseSwap
  repeat' first
    | with_reducible assumption | exact sub_trans (by decide) hm | with_reducible apply only_raiseFrom
    | (simp only [↓Only_mk]; with_reducible refine Mk_of hm rfl ?_ ?_) | ((with_reducible refine Upd_rfl ?_); rfl)

theorem only_opSwap {m0 : List Part} {z0 : State} (hm : sub [.fio, .od, .records, .sent] m0 = true)
    (a0) (a1) (a2) (a3) (s : State) (h : Only m0 z0 s) : Only m0 z0 (opSwap a0 a1 a2 a3 s) := by
  unfold opSwap
  repeat' first
    | with_reducible assumption | exact sub_trans (by decide) hm | with_reducible apply only_respond
    | with_reducible apply only_refuseSwap | with_reducible refine Only_ite ?_ ?_ | intro _
    | (simp only [↓Only_mk]; with_reducible refine Mk_of hm rfl ?_ ?_) | ((with_reducible refine Upd_rfl ?_); rfl)

theorem only_execBankSwapRequest {m0 : List Part} {z0 : State} (hm : sub [.now, .fio, .od, .records, .sent] m0 = true)
    (a0) (a1) (a2) (s : State) (h : Only m0 z0 s) : OutOnly m0 z0 (execBankSwapRequest a0 a1 a2 s) := by
  unfold execBankSwapRequest
  repeat' first
    | with_reducible assumption | exact sub_trans (by decide) hm | with_reducible apply only_serve
    | with_reducible apply only_opSwap | with_reducible apply only_State_atTime
    | with_reducible refine OutOnly_next.mpr ?_ | intro _

theorem only_opSafeState {m0 : List Part} {z0 : State} (hm : sub [.od, .sent] m0 = true)
    (a0) (a1) (a2) (a3) (a4) (s : State) (h : Only m0 z0 s) : Only m0 z0 (opSafeState a0 a1 a2 a3 a4 s) := only_opPlain (sub_trans (by decide) hm) _ _ _ _ _ _ _ _ h (fun _ hq => hq)

theorem only_execSafeStateWrite {m0 : List Part} {z0 : State} (hm : sub [.now, .od, .records, .sent] m0 = true)
    (a0) (a1) (a2) (a3) (s : State) (h : Only m0 z0 s) : OutOnly m0 z0 (execSafeStateWrite a0 a1 a2 a3 s) := by
  unfold execSafeStateWrite
  repeat' first
    | with_reducible assumption | exact sub_trans (by decide) hm | with_reducible apply only_serve
    | with_reducible apply only_opSafeState | with_reducible apply only_State_atTime
    | with_reducible refine OutOnly_next.mpr ?_ | intro _

theorem only_opDerating {m0 : List Part} {z0 : State} (hm : sub [.od, .sent] m0 = true)
    (a0) (a1) (a2) (a3) (a4) (s : State) (h : Only m0 z0 s) : Only m0 z0 (opDerating a0 a1 a2 a3 a4 s) := only_opPlain (sub_trans (by decide) hm) _ _ _ _ _ _ _ _ h (fun _ hq => hq)

theorem only_execDeratingWrite {m0 : List Part} {z0 : State} (hm : sub [.now, .od, .records, .sent] m0 = true)
    (a0) (a1) (a2) (a3) (s : State) (h : Only m0 z0 s) : OutOnly m0 z0 (execDeratingWrite a0 a1 a2 a3 s) := by
  unfold execDeratingWrite
  repeat' first
    | with_reducible assumption | exact sub_trans (by decide) hm | with_reducible apply only_serve
    | with_reducible apply only_opDerating | with_reducible apply only_State_atTime
    | with_reducible refine OutOnly_next.mpr ?_ | intro _

theorem only_opTrip {m0 : List Part} {z0 : State} (hm : sub [.od, .sent] m0 = true)
    (a0) (a1) (a2) (a3) (a4) (s : State) (h : Only m0 z0 s) : Only m0 z0 (opTrip a0 a1 a2 a3 a4 s) := only_opPlain (sub_trans (by decide) hm) _ _ _ _ _ _ _ _ h (fun _ hq => hq)

theorem only_execTripThresholdWrite {m0 : List Part} {z0 : State} (hm : sub [.now, .od, .records, .sent] m0 = true)
    (a0) (a1) (a2) (a3) (s : State) (h : Only m0 z0 s) : OutOnly m0 z0 (execTripThresholdWrite a0 a1 a2 a3 s) := by
  unfold execTripThresholdWrite
  repeat' first
    | with_reducible assumption | exact sub_trans (by decide) hm | with_reducible apply only_serve
    | with_reducible apply only_opTrip | with_reducible apply only_State_atTime
    | with_reducible refine OutOnly_next.mpr ?_ | intro _

theorem only_opRebase {m0 : List Part} {z0 : State} (hm : sub [.time, .ctl, .od, .sent] m0 = true)
    (a0) (a1) (a2) (a3) (s : State) (h : Only m0 z0 s) : Only m0 z0 (opRebase a0 a1 a2 a3 s) := by
  unfold opRebase
  repeat' first
    | with_reducible assumption | exact sub_trans (by decide) hm | with_reducible apply only_queueWrite
    | with_reducible apply only_respond | with_reducible refine Only_ite ?_ ?_ | intro _
    | (simp only [↓Only_mk]; with_reducible refine Mk_of hm rfl ?_ ?_) | ((with_reducible refine Upd_rfl ?_); rfl)

theorem only_execRebase {m0 : List Part} {z0 : State} (hm : sub [.now, .time, .ctl, .od, .records, .sent] m0 = true)
    (a0) (a1) (s : State) (h : Only m0 z0 s) : OutOnly m0 z0 (execRebase a0 a1 s) := by
  unfold execRebase
  repeat' first
    | with_reducible assumption | exact sub_trans (by decide) hm | with_reducible apply only_serve
    | with_reducible apply only_opRebase | with_reducible apply only_State_atTime
    | with_reducible refine OutOnly_next.mpr ?_ | intro _

theorem only_opServo {m0 : List Part} {z0 : State} (hm : sub [.time, .od, .sent] m0 = true)
    (a0) (a1) (a2) (a3) (s : State) (h : Only m0 z0 s) : Only m0 z0 (opServo a0 a1 a2 a3 s) := by
  unfold opServo
  repeat' first
    | with_reducible assumption | exact sub_trans (by decide) hm | with_reducible apply only_opPlain | intro _
    | (simp only [↓Only_mk]; with_reducible refine Mk_of hm rfl ?_ ?_) | ((with_reducible refine Upd_rfl ?_); rfl)

theorem only_execServoModeWrite {m0 : List Part} {z0 : State} (hm : sub [.now, .time, .od, .records, .sent] m0 = true)
    (a0) (a1) (a2) (s : State) (h : Only m0 z0 s) : OutOnly m0 z0 (execServoModeWrite a0 a1 a2 s) := by
  unfold execServoModeWrite
  repeat' first
    | with_reducible assumption | exact sub_trans (by decide) hm | with_reducible apply only_serve
    | with_reducible apply only_opServo | with_reducible apply only_State_atTime
    | with_reducible refine OutOnly_next.mpr ?_ | intro _

theorem only_opDmaRestart {m0 : List Part} {z0 : State} (hm : sub [.mem, .dma, .bri, .od, .records, .sent, .free] m0 = true)
    (a0) (a1) (a2) (a3) (s : State) (h : Only m0 z0 s) : Only m0 z0 (opDmaRestart a0 a1 a2 a3 s) := by
  unfold opDmaRestart
  repeat' first
    | with_reducible assumption | exact sub_trans (by decide) hm | with_reducible apply only_opCommand
    | with_reducible apply only_dmaResume | intro _

theorem only_execDmaEngineRestart {m0 : List Part} {z0 : State} (hm : sub [.now, .mem, .dma, .bri, .od, .records, .sent, .free] m0 = true)
    (a0) (a1) (s : State) (h : Only m0 z0 s) : OutOnly m0 z0 (execDmaEngineRestart a0 a1 s) := by
  unfold execDmaEngineRestart
  repeat' first
    | with_reducible assumption | exact sub_trans (by decide) hm | with_reducible apply only_serve
    | with_reducible apply only_opDmaRestart | with_reducible apply only_State_atTime
    | with_reducible refine OutOnly_next.mpr ?_ | intro _

theorem only_opPairCommand {m0 : List Part} {z0 : State} (hm : sub [.ctl, .od, .sent] m0 = true)
    (a0) (a1) (a2) (a3) (s : State) (h : Only m0 z0 s) : Only m0 z0 (opPairCommand a0 a1 a2 a3 s) := by
  unfold opPairCommand
  repeat' first
    | with_reducible assumption | exact sub_trans (by decide) hm | with_reducible apply only_queueWrite
    | with_reducible apply only_respond | with_reducible refine Only_ite ?_ ?_ | intro _

theorem only_judgePair {m0 : List Part} {z0 : State} (hm : sub [.ctl, .lanes, .rek, .mem, .cis, .fab, .tel, .pair, .records, .sent] m0 = true)
    (a0) (s : State) (h : Only m0 z0 s) : Only m0 z0 (judgePair a0 s).2 := by
  unfold judgePair
  repeat' first
    | with_reducible assumption | exact sub_trans (by decide) hm | with_reducible apply only_proposeHandover
    | with_reducible apply only_setPair | with_reducible apply only_abortExchange
    | with_reducible refine Only_snd_ite ?_ ?_ | intro _
    | (simp only [↓Only_mk]; with_reducible refine Mk_of hm rfl ?_ ?_) | ((with_reducible refine Upd_rfl ?_); rfl)

theorem only_execHandOver {m0 : List Part} {z0 : State} (hm : sub [.now, .ctl, .od, .records, .sent] m0 = true)
    (a0) (a1) (s : State) (h : Only m0 z0 s) : OutOnly m0 z0 (execHandOver a0 a1 s) := by
  unfold execHandOver
  repeat' first
    | with_reducible assumption | exact sub_trans (by decide) hm | with_reducible apply only_serve
    | with_reducible apply only_opPairCommand | with_reducible apply only_State_atTime
    | with_reducible refine OutOnly_next.mpr ?_ | intro _

theorem only_execPairJoin {m0 : List Part} {z0 : State} (hm : sub [.now, .ctl, .od, .records, .sent] m0 = true)
    (a0) (a1) (s : State) (h : Only m0 z0 s) : OutOnly m0 z0 (execPairJoin a0 a1 s) := by
  unfold execPairJoin
  repeat' first
    | with_reducible assumption | exact sub_trans (by decide) hm | with_reducible apply only_serve
    | with_reducible apply only_opPairCommand | with_reducible apply only_State_atTime
    | with_reducible refine OutOnly_next.mpr ?_ | intro _

theorem only_execExchangeAbort {m0 : List Part} {z0 : State} (hm : sub [.now, .ctl, .od, .records, .sent] m0 = true)
    (a0) (a1) (s : State) (h : Only m0 z0 s) : OutOnly m0 z0 (execExchangeAbort a0 a1 s) := by
  unfold execExchangeAbort
  repeat' first
    | with_reducible assumption | exact sub_trans (by decide) hm | with_reducible apply only_serve
    | with_reducible apply only_opPairCommand | with_reducible apply only_State_atTime
    | with_reducible refine OutOnly_next.mpr ?_ | intro _

theorem only_opKey {m0 : List Part} {z0 : State} (hm : sub [.od, .sent] m0 = true)
    (a0) (a1) (a2) (a3) (a4) (s : State) (h : Only m0 z0 s) : Only m0 z0 (opKey a0 a1 a2 a3 a4 s) := only_opPlain (sub_trans (by decide) hm) _ _ _ _ _ _ _ _ h (fun _ hq => hq)

theorem only_execKeyWrite {m0 : List Part} {z0 : State} (hm : sub [.now, .od, .records, .sent] m0 = true)
    (a0) (a1) (a2) (a3) (s : State) (h : Only m0 z0 s) : OutOnly m0 z0 (execKeyWrite a0 a1 a2 a3 s) := by
  unfold execKeyWrite
  repeat' first
    | with_reducible assumption | exact sub_trans (by decide) hm | with_reducible apply only_serve
    | with_reducible apply only_opKey | with_reducible apply only_State_atTime
    | with_reducible refine OutOnly_next.mpr ?_ | intro _

theorem only_opRestore {m0 : List Part} {z0 : State} (hm : sub [.od, .sent] m0 = true)
    (a0) (a1) (a2) (a3) (s : State) (h : Only m0 z0 s) : Only m0 z0 (opRestore a0 a1 a2 a3 s) := by
  unfold opRestore
  repeat' first
    | with_reducible assumption | exact sub_trans (by decide) hm | with_reducible apply only_opCommand | intro _
    | (simp only [↓Only_mk]; with_reducible refine Mk_of hm rfl ?_ ?_) | ((with_reducible refine Upd_rfl ?_); rfl)

theorem only_execRestoreDefaults {m0 : List Part} {z0 : State} (hm : sub [.now, .od, .records, .sent] m0 = true)
    (a0) (a1) (s : State) (h : Only m0 z0 s) : OutOnly m0 z0 (execRestoreDefaults a0 a1 s) := by
  unfold execRestoreDefaults
  repeat' first
    | with_reducible assumption | exact sub_trans (by decide) hm | with_reducible apply only_serve
    | with_reducible apply only_opRestore | with_reducible apply only_State_atTime
    | with_reducible refine OutOnly_next.mpr ?_ | intro _

theorem only_opCodeMap {m0 : List Part} {z0 : State} (hm : sub [.od, .records, .sent] m0 = true)
    (a0) (a1) (a2) (a3) (s : State) (h : Only m0 z0 s) : Only m0 z0 (opCodeMap a0 a1 a2 a3 s) := by
  unfold opCodeMap
  repeat' first
    | with_reducible assumption | exact sub_trans (by decide) hm | with_reducible apply only_State_odStore
    | with_reducible apply only_respond | with_reducible refine Only_ite ?_ ?_ | intro _
    | (simp only [↓Only_mk]; with_reducible refine Mk_of hm rfl ?_ ?_) | ((with_reducible refine Upd_rfl ?_); rfl)

theorem only_execCodeMapWrite {m0 : List Part} {z0 : State} (hm : sub [.now, .od, .records, .sent] m0 = true)
    (a0) (a1) (a2) (s : State) (h : Only m0 z0 s) : OutOnly m0 z0 (execCodeMapWrite a0 a1 a2 s) := by
  unfold execCodeMapWrite
  repeat' first
    | with_reducible assumption | exact sub_trans (by decide) hm | with_reducible apply only_serve
    | with_reducible apply only_opCodeMap | with_reducible apply only_State_atTime
    | with_reducible refine OutOnly_next.mpr ?_ | intro _

theorem only_beginUpdate {m0 : List Part} {z0 : State} (hm : sub [.upd, .records] m0 = true)
    (a0) (s : State) (h : Only m0 z0 s) : Only m0 z0 (beginUpdate a0 s) := by
  unfold beginUpdate
  repeat' first
    | with_reducible assumption | exact sub_trans (by decide) hm | with_reducible apply only_raiseFrom
    | (simp only [↓Only_mk]; with_reducible refine Mk_of hm rfl ?_ ?_) | ((with_reducible refine Upd_rfl ?_); rfl)

theorem only_activateSlot {m0 : List Part} {z0 : State} (hm : sub [.mode, .ctl, .lanes, .rek, .mem, .cis, .fab, .sw, .tel, .pair, .od, .upd, .records, .sent] m0 = true)
    (s : State) (h : Only m0 z0 s) : Only m0 z0 (activateSlot s) := by
  unfold activateSlot
  repeat' first
    | with_reducible assumption | exact sub_trans (by decide) hm | with_reducible apply only_selectImageSlot
    | with_reducible apply only_beginTrial | with_reducible apply only_coldRestart
    | (simp only [↓Only_mk]; with_reducible refine Mk_of hm rfl ?_ ?_) | ((with_reducible refine Upd_rfl ?_); rfl)

theorem only_abortUpdate {m0 : List Part} {z0 : State} (hm : sub [.upd, .records] m0 = true)
    (a0) (s : State) (h : Only m0 z0 s) : Only m0 z0 (abortUpdate a0 s) := by
  unfold abortUpdate
  repeat' first
    | with_reducible assumption | exact sub_trans (by decide) hm | with_reducible apply only_raiseFrom
    | (simp only [↓Only_mk]; with_reducible refine Mk_of hm rfl ?_ ?_) | ((with_reducible refine Upd_rfl ?_); rfl)

theorem only_opUpdate {m0 : List Part} {z0 : State} (hm : sub [.mode, .ctl, .lanes, .rek, .mem, .cis, .fab, .sw, .tel, .pair, .od, .upd, .records, .sent] m0 = true)
    (a0) (a1) (a2) (a3) (s : State) (h : Only m0 z0 s) : Only m0 z0 (opUpdate a0 a1 a2 a3 s) := by
  unfold opUpdate
  repeat' first
    | with_reducible assumption | exact sub_trans (by decide) hm | with_reducible apply only_respond
    | with_reducible apply only_rollbackRefused | with_reducible apply only_beginUpdate
    | with_reducible apply only_activateSlot | with_reducible apply only_abortUpdate
    | with_reducible refine Only_ite ?_ ?_ | intro _ | (simp only [↓Only_mk]; with_reducible refine Mk_of hm rfl ?_ ?_)
    | ((with_reducible refine Upd_rfl ?_); rfl)

theorem only_opUpdateTarget {m0 : List Part} {z0 : State} (hm : sub [.od, .sent] m0 = true)
    (a0) (a1) (a2) (a3) (s : State) (h : Only m0 z0 s) : Only m0 z0 (opUpdateTarget a0 a1 a2 a3 s) := by
  unfold opUpdateTarget
  repeat' first
    | with_reducible assumption | exact sub_trans (by decide) hm | with_reducible apply only_respond
    | with_reducible apply only_State_odStore | with_reducible refine Only_ite ?_ ?_ | intro _

theorem only_execUpdBegin {m0 : List Part} {z0 : State} (hm : sub [.now, .mode, .ctl, .lanes, .rek, .mem, .cis, .fab, .sw, .tel, .pair, .od, .upd, .records, .sent] m0 = true)
    (a0) (a1) (s : State) (h : Only m0 z0 s) : OutOnly m0 z0 (execUpdBegin a0 a1 s) := by
  unfold execUpdBegin
  repeat' first
    | with_reducible assumption | exact sub_trans (by decide) hm | with_reducible apply only_serve
    | with_reducible apply only_opUpdate | with_reducible apply only_State_atTime
    | with_reducible refine OutOnly_next.mpr ?_ | intro _

theorem only_execUpdVerify {m0 : List Part} {z0 : State} (hm : sub [.now, .mode, .ctl, .lanes, .rek, .mem, .cis, .fab, .sw, .tel, .pair, .od, .upd, .records, .sent] m0 = true)
    (a0) (a1) (s : State) (h : Only m0 z0 s) : OutOnly m0 z0 (execUpdVerify a0 a1 s) := by
  unfold execUpdVerify
  repeat' first
    | with_reducible assumption | exact sub_trans (by decide) hm | with_reducible apply only_serve
    | with_reducible apply only_opUpdate | with_reducible apply only_State_atTime
    | with_reducible refine OutOnly_next.mpr ?_ | intro _

theorem only_execUpdActivate {m0 : List Part} {z0 : State} (hm : sub [.now, .mode, .ctl, .lanes, .rek, .mem, .cis, .fab, .sw, .tel, .pair, .od, .upd, .records, .sent] m0 = true)
    (a0) (a1) (s : State) (h : Only m0 z0 s) : OutOnly m0 z0 (execUpdActivate a0 a1 s) := by
  unfold execUpdActivate
  repeat' first
    | with_reducible assumption | exact sub_trans (by decide) hm | with_reducible apply only_serve
    | with_reducible apply only_opUpdate | with_reducible apply only_State_atTime
    | with_reducible refine OutOnly_next.mpr ?_ | intro _

theorem only_execUpdAbort {m0 : List Part} {z0 : State} (hm : sub [.now, .mode, .ctl, .lanes, .rek, .mem, .cis, .fab, .sw, .tel, .pair, .od, .upd, .records, .sent] m0 = true)
    (a0) (a1) (s : State) (h : Only m0 z0 s) : OutOnly m0 z0 (execUpdAbort a0 a1 s) := by
  unfold execUpdAbort
  repeat' first
    | with_reducible assumption | exact sub_trans (by decide) hm | with_reducible apply only_serve
    | with_reducible apply only_opUpdate | with_reducible apply only_State_atTime
    | with_reducible refine OutOnly_next.mpr ?_ | intro _

theorem only_takeBlock {m0 : List Part} {z0 : State} (hm : sub [.upd, .records] m0 = true)
    (a0) (a1) (a2) (s : State) (h : Only m0 z0 s) : Only m0 z0 (takeBlock a0 a1 a2 s) := by
  unfold takeBlock
  repeat' first
    | with_reducible assumption | exact sub_trans (by decide) hm | with_reducible apply only_raise
    | with_reducible refine Only_ite ?_ ?_ | intro _ | (simp only [↓Only_mk]; with_reducible refine Mk_of hm rfl ?_ ?_)
    | ((with_reducible refine Upd_rfl ?_); rfl)

theorem only_opBlock {m0 : List Part} {z0 : State} (hm : sub [.od, .upd, .records, .sent] m0 = true)
    (a0) (a1) (a2) (a3) (s : State) (h : Only m0 z0 s) : Only m0 z0 (opBlock a0 a1 a2 a3 s) := by
  unfold opBlock
  repeat' first
    | with_reducible assumption | exact sub_trans (by decide) hm | with_reducible apply only_respond
    | with_reducible apply only_raiseFrom | with_reducible apply only_takeBlock | with_reducible refine Only_ite ?_ ?_
    | with_reducible apply only_foldl | intro _
    | (extract_lets +onlyGivenNames x; have hx : Only m0 z0 x := ?hx; case' hx => unfold x)
    | extract_lets +onlyGivenNames _ | (simp only [↓Only_mk]; with_reducible refine Mk_of hm rfl ?_ ?_)
    | ((with_reducible refine Upd_rfl ?_); rfl) | split | dsimp only

theorem only_execUpdBlock {m0 : List Part} {z0 : State} (hm : sub [.now, .od, .upd, .records, .sent] m0 = true)
    (a0) (a1) (a2) (a3) (a4) (a5) (s : State) (h :
    Only m0 z0 s) : OutOnly m0 z0 (execUpdBlock a0 a1 a2 a3 a4 a5 s) := by
  unfold execUpdBlock
  repeat' first
    | with_reducible assumption | exact sub_trans (by decide) hm | with_reducible apply only_serve
    | with_reducible apply only_opBlock | with_reducible apply only_State_atTime
    | with_reducible refine OutOnly_next.mpr ?_ | intro _

theorem only_execUpdVerifyComplete {m0 : List Part} {z0 : State} (hm : sub [.now, .upd, .records] m0 = true)
    (a0) (a1) (a2) (s : State) (h : Only m0 z0 s) : OutOnly m0 z0 (execUpdVerifyComplete a0 a1 a2 s) := by
  unfold execUpdVerifyComplete
  repeat' first
    | with_reducible assumption | exact sub_trans (by decide) hm | with_reducible apply only_State_atTime
    | with_reducible apply only_raise | with_reducible refine Only_ite ?_ ?_ | with_reducible refine OutOnly_next.mpr ?_
    | intro _ | (simp only [↓Only_mk]; with_reducible refine Mk_of hm rfl ?_ ?_)
    | ((with_reducible refine Upd_rfl ?_); rfl)

theorem only_execTrialFallback {m0 : List Part} {z0 : State} (hm : sub [.now, .mode, .ctl, .lanes, .rek, .mem, .cis, .fab, .sw, .tel, .pair, .od, .upd, .records, .sent] m0 = true)
    (a0) (s : State) (h : Only m0 z0 s) : OutOnly m0 z0 (execTrialFallback a0 s) := by
  unfold execTrialFallback
  repeat' first
    | with_reducible assumption | exact sub_trans (by decide) hm | with_reducible apply only_State_atTime
    | with_reducible apply only_raise | with_reducible apply only_coldRestart | with_reducible refine OutOnly_next.mpr ?_
    | intro _ | (simp only [↓Only_mk]; with_reducible refine Mk_of hm rfl ?_ ?_)
    | ((with_reducible refine Upd_rfl ?_); rfl) | split

theorem only_opOther {m0 : List Part} {z0 : State} (hm : sub [.ctl, .od, .sent] m0 = true)
    (a0) (a1) (a2) (a3) (a4) (a5) (s : State) (h : Only m0 z0 s) : Only m0 z0 (opOther a0 a1 a2 a3 a4 a5 s) := by
  unfold opOther
  refine Only_ite (fun _ => ?_) (fun _ => only_opPlain (sub_trans (by decide) hm) _ _ _ _ _ _ _ _ h (fun _ hq => hq))
  exact Only_ite (fun _ => only_queueWrite (sub_trans (by decide) hm) _ _ _ _ _ _ h) (fun _ => only_respond (sub_trans (by decide) hm) _ _ _ _ h)

theorem only_writeForce {m0 : List Part} {z0 : State} (hm : sub [.ctl, .pair, .od, .records, .sent] m0 = true)
    (a0) (a1) (a2) (a3) (a4) (a5) (s : State) (h : Only m0 z0 s) : Only m0 z0 (writeForce a0 a1 a2 a3 a4 a5 s) := by
  unfold writeForce
  repeat' first
    | with_reducible assumption | exact sub_trans (by decide) hm | with_reducible apply only_opForceField
    | with_reducible apply only_opForceValue | with_reducible apply only_opForceCommand
    | with_reducible apply only_opOther | with_reducible refine Only_ite ?_ ?_ | intro _

theorem only_writeCommand {m0 : List Part} {z0 : State} (hm : sub [.time, .mode, .ctl, .lanes, .rek, .mem, .cis, .fab, .fio, .sw, .tel, .dma, .bri, .pair, .od, .upd, .records, .sent, .free] m0 = true)
    (i u f) (e : writeCommand i u = some f) (a b c d) (s : State) (h : Only m0 z0 s) : Only m0 z0 (f a b c d s) := by
  have key : ∀ f, writeCommand i u = some f → ∀ a b c d (s : State), Only m0 z0 s → Only m0 z0 (f a b c d s) := by
    unfold writeCommand
    refine kept_ite (fun a b c d s h => only_opMode (sub_trans (by decide) hm) _ _ _ _ _ h) ?_
    refine kept_ite (fun a b c d s h => only_opRestore (sub_trans (by decide) hm) _ _ _ _ _ h) ?_
    refine kept_ite (fun a b c d s h => only_opLane (sub_trans (by decide) hm) _ _ _ _ _ h) ?_
    refine kept_ite (fun a b c d s h => only_opPlacement (sub_trans (by decide) hm) _ _ _ _ _ h) ?_
    refine kept_ite (fun a b c d s h => only_opTaskRestart (sub_trans (by decide) hm) _ _ _ _ _ _ h) ?_
    refine kept_ite (fun a b c d s h => only_opSetTarget (sub_trans (by decide) hm) _ _ _ _ _ h) ?_
    refine kept_ite (fun a b c d s h => only_opSetCommand (sub_trans (by decide) hm) _ _ _ _ _ h) ?_
    refine kept_ite (fun a b c d s h => only_opSwap (sub_trans (by decide) hm) _ _ _ _ _ h) ?_
    refine kept_ite (fun a b c d s h => only_opRebase (sub_trans (by decide) hm) _ _ _ _ _ h) ?_
    refine kept_ite (fun a b c d s h => only_opDmaRestart (sub_trans (by decide) hm) _ _ _ _ _ h) ?_
    refine kept_ite (fun a b c d s h => only_opPairCommand (sub_trans (by decide) hm) _ _ _ _ _ h) ?_
    refine kept_ite (fun a b c d s h => only_opUpdate (sub_trans (by decide) hm) _ _ _ _ _ h) ?_
    exact fun _ e => nomatch e
  exact key f e a b c d s h

theorem only_writeSpecial {m0 : List Part} {z0 : State} (hm : sub [.time, .ctl, .fab, .fio, .pair, .od, .upd, .records, .sent] m0 = true)
    (i u f) (e : writeSpecial i u = some f) (a b c d) (s : State) (h : Only m0 z0 s) : Only m0 z0 (f a b c d s) := by
  have key : ∀ f, writeSpecial i u = some f → ∀ a b c d (s : State), Only m0 z0 s → Only m0 z0 (f a b c d s) := by
    unfold writeSpecial
    refine kept_ite (fun a b c d s h => only_writeForce (sub_trans (by decide) hm) _ _ _ _ _ _ _ h) ?_
    refine kept_ite (fun a b c d s h => only_opServo (sub_trans (by decide) hm) _ _ _ _ _ h) ?_
    refine kept_ite (fun a b c d s h => only_opStagger (sub_trans (by decide) hm) _ _ _ _ _ h) ?_
    refine kept_ite (fun a b c d s h => only_opSetEntries (sub_trans (by decide) hm) _ _ _ _ _ h) ?_
    refine kept_ite (fun a b c d s h => only_opAlignment (sub_trans (by decide) hm) _ _ _ _ _ _ h) ?_
    refine kept_ite (fun a b c d s h => only_opFunction (sub_trans (by decide) hm) _ _ _ _ _ _ h) ?_
    refine kept_ite (fun a b c d s h => only_opBankEntry (sub_trans (by decide) hm) _ _ _ _ _ _ _ h) ?_
    refine kept_ite (fun a b c d s h => only_opBankEntry (sub_trans (by decide) hm) _ _ _ _ _ _ _ h) ?_
    refine kept_ite (fun a b c d s h => only_opMap (sub_trans (by decide) hm) _ _ _ _ _ h) ?_
    refine kept_ite (fun a b c d s h => only_opConfirm (sub_trans (by decide) hm) _ _ _ _ _ h) ?_
    refine kept_ite (fun a b c d s h => only_opCodeMap (sub_trans (by decide) hm) _ _ _ _ _ h) ?_
    refine kept_ite (fun a b c d s h => only_opUpdateTarget (sub_trans (by decide) hm) _ _ _ _ _ h) ?_
    refine kept_ite (fun a b c d s h => only_opBlock (sub_trans (by decide) hm) _ _ _ _ _ h) ?_
    exact fun _ e => nomatch e
  exact key f e a b c d s h

theorem only_writeObject {m0 : List Part} {z0 : State} (hm : sub [.time, .mode, .ctl, .lanes, .rek, .mem, .cis, .fab, .fio, .sw, .tel, .dma, .bri, .pair, .od, .upd, .records, .sent, .free] m0 = true)
    (a0) (a1) (a2) (a3) (a4) (a5) (s : State) (h : Only m0 z0 s) : Only m0 z0 (writeObject a0 a1 a2 a3 a4 a5 s) := by
  unfold writeObject
  split
  · exact only_writeCommand (sub_trans (by decide) hm) _ _ _ ‹_› _ _ _ _ _ h
  · exact only_writeSpecial (sub_trans (by decide) hm) _ _ _ ‹_› _ _ _ _ _ h
  · exact only_opOther (sub_trans (by decide) hm) _ _ _ _ _ _ _ h

theorem only_execAbWrite {m0 : List Part} {z0 : State} (hm : sub [.now, .time, .mode, .ctl, .lanes, .rek, .mem, .cis, .fab, .fio, .sw, .tel, .dma, .bri, .pair, .od, .upd, .records, .sent, .free] m0 = true)
    (a0) (a1) (a2) (a3) (a4) (a5) (s : State) (h : Only m0 z0 s) : OutOnly m0 z0 (execAbWrite a0 a1 a2 a3 a4 a5 s) := by
  unfold execAbWrite
  repeat' first
    | with_reducible assumption | exact sub_trans (by decide) hm | with_reducible apply only_serve
    | with_reducible apply only_writeObject | with_reducible apply only_State_atTime
    | with_reducible refine OutOnly_next.mpr ?_ | intro _

theorem only_judgeWrite {m0 : List Part} {z0 : State} (hm : sub [.time, .mode, .ctl, .lanes, .rek, .mem, .cis, .fab, .sw, .tel, .pair, .od, .upd, .records, .sent] m0 = true)
    (a0) (a1) (a2) (s : State) (h : Only m0 z0 s) : Only m0 z0 (judgeWrite a0 a1 a2 s).2 := by
  unfold judgeWrite
  repeat' first
    | with_reducible assumption | exact sub_trans (by decide) hm | with_reducible apply only_judgeMode
    | with_reducible apply only_doRebase | with_reducible apply only_judgePair | with_reducible apply only_State_odStore
    | with_reducible refine Only_snd_ite ?_ ?_ | intro _

theorem only_loseWrite {m0 : List Part} {z0 : State} (hm : sub [.od, .records, .sent] m0 = true)
    (a0) (a1) (a2) (s : State) (a4) (h : Only m0 z0 s) : Only m0 z0 (loseWrite a0 a1 a2 s a4) := by
  unfold loseWrite
  repeat' first
    | with_reducible assumption | exact sub_trans (by decide) hm | with_reducible apply only_respond
    | with_reducible apply only_raise

theorem only_execBoundaryWrite {m0 : List Part} {z0 : State} (hm : sub [.now, .time, .mode, .ctl, .lanes, .rek, .mem, .cis, .fab, .sw, .tel, .pair, .od, .upd, .records, .sent] m0 = true)
    (a0) (a1) (a2) (s : State) (h : Only m0 z0 s) : OutOnly m0 z0 (execBoundaryWrite a0 a1 a2 s) := by
  unfold execBoundaryWrite
  repeat' first
    | with_reducible assumption | exact sub_trans (by decide) hm | with_reducible apply only_State_atTime
    | with_reducible apply only_judgeWrite | with_reducible apply only_loseWrite | with_reducible apply only_respond
    | with_reducible refine Only_of_snd (by assumption) ?_ | with_reducible refine Only_ite ?_ ?_
    | with_reducible refine Only_snd_ite ?_ ?_ | with_reducible apply only_foldl
    | with_reducible refine OutOnly_next.mpr ?_ | with_reducible refine OutOnly_ite ?_ ?_ | intro _
    | (extract_lets +onlyGivenNames x; have hx : Only m0 z0 x := ?hx; case' hx => unfold x)
    | extract_lets +onlyGivenNames _ | (simp only [↓Only_mk]; with_reducible refine Mk_of hm rfl ?_ ?_)
    | ((with_reducible refine Upd_rfl ?_); rfl) | split | dsimp only

theorem only_execAbOpen {m0 : List Part} {z0 : State} (hm : sub [.now, .od, .records, .sent, .free] m0 = true)
    (a0) (a1) (a2) (a3) (a4) (a5) (s : State) (h : Only m0 z0 s) : OutOnly m0 z0 (execAbOpen a0 a1 a2 a3 a4 a5 s) := by
  unfold execAbOpen
  repeat' first
    | with_reducible assumption | exact sub_trans (by decide) hm | with_reducible apply only_State_atTime
    | with_reducible apply only_openToken | with_reducible apply only_State_modSession
    | with_reducible apply only_State_tick | with_reducible apply only_State_emit
    | with_reducible refine OutOnly_next.mpr ?_ | intro _ | extract_lets +onlyGivenNames _ | split

theorem only_authSession {m0 : List Part} {z0 : State} (hm : sub [.od, .records, .sent] m0 = true)
    (a0) (a1) (a2) (a3) (a4) (s : State) (h : Only m0 z0 s) : Only m0 z0 (authSession a0 a1 a2 a3 a4 s) := by
  unfold authSession
  repeat' first
    | with_reducible assumption | exact sub_trans (by decide) hm | with_reducible apply only_authFailed
    | with_reducible apply only_sessionToken | with_reducible apply only_State_modSession
    | with_reducible apply only_respond | with_reducible apply only_raiseFrom | with_reducible refine Only_ite ?_ ?_
    | intro _

theorem only_execAbAuth {m0 : List Part} {z0 : State} (hm : sub [.now, .od, .records, .sent] m0 = true)
    (a0) (a1) (s : State) (h : Only m0 z0 s) : OutOnly m0 z0 (execAbAuth a0 a1 s) := by
  unfold execAbAuth
  repeat' first
    | with_reducible assumption | exact sub_trans (by decide) hm | with_reducible apply only_State_atTime
    | with_reducible apply only_authSession | with_reducible apply only_serve | with_reducible apply only_respond
    | with_reducible refine OutOnly_next.mpr ?_ | intro _ | split

theorem only_execAbClose {m0 : List Part} {z0 : State} (hm : sub [.now, .od, .records, .sent] m0 = true)
    (a0) (a1) (s : State) (h : Only m0 z0 s) : OutOnly m0 z0 (execAbClose a0 a1 s) := by
  unfold execAbClose
  repeat' first
    | with_reducible assumption | exact sub_trans (by decide) hm | with_reducible apply only_serve
    | with_reducible apply only_respond | with_reducible apply only_closeSession | with_reducible apply only_State_atTime
    | with_reducible refine OutOnly_next.mpr ?_ | intro _ | split

theorem only_execAbKeepalive {m0 : List Part} {z0 : State} (hm : sub [.now, .od, .records, .sent] m0 = true)
    (a0) (a1) (s : State) (h : Only m0 z0 s) : OutOnly m0 z0 (execAbKeepalive a0 a1 s) := by
  unfold execAbKeepalive
  repeat' first
    | with_reducible assumption | exact sub_trans (by decide) hm | with_reducible apply only_serve
    | with_reducible apply only_respond | with_reducible apply only_State_atTime
    | with_reducible refine OutOnly_next.mpr ?_ | intro _

theorem only_execSessionOpenTimeout {m0 : List Part} {z0 : State} (hm : sub [.now, .od] m0 = true)
    (a0) (a1) (s : State) (h : Only m0 z0 s) : OutOnly m0 z0 (execSessionOpenTimeout a0 a1 s) := by
  unfold execSessionOpenTimeout
  repeat' first
    | with_reducible assumption | exact sub_trans (by decide) hm | with_reducible apply only_State_atTime
    | with_reducible apply only_State_modSession | with_reducible refine Only_ite ?_ ?_
    | with_reducible refine OutOnly_next.mpr ?_ | intro _

theorem only_execIdleTimeout {m0 : List Part} {z0 : State} (hm : sub [.now, .od, .records] m0 = true)
    (a0) (a1) (s : State) (h : Only m0 z0 s) : OutOnly m0 z0 (execIdleTimeout a0 a1 s) := by
  unfold execIdleTimeout
  repeat' first
    | with_reducible assumption | exact sub_trans (by decide) hm | with_reducible apply only_State_atTime
    | with_reducible apply only_closeSession | with_reducible refine Only_ite ?_ ?_
    | with_reducible refine OutOnly_next.mpr ?_ | intro _

theorem only_execAbRead {m0 : List Part} {z0 : State} (hm : sub [.now, .od, .records, .sent] m0 = true)
    (a0) (a1) (a2) (a3) (s : State) (h : Only m0 z0 s) : OutOnly m0 z0 (execAbRead a0 a1 a2 a3 s) := by
  unfold execAbRead
  repeat' first
    | with_reducible assumption | exact sub_trans (by decide) hm | with_reducible apply only_serve
    | with_reducible apply only_respond | with_reducible apply only_State_atTime
    | with_reducible refine OutOnly_next.mpr ?_ | intro _

theorem only_execAbReadSegment {m0 : List Part} {z0 : State} (hm : sub [.now, .od, .records, .sent] m0 = true)
    (a0) (a1) (a2) (a3) (a4) (a5) (s : State) (h :
    Only m0 z0 s) : OutOnly m0 z0 (execAbReadSegment a0 a1 a2 a3 a4 a5 s) := by
  unfold execAbReadSegment
  repeat' first
    | with_reducible assumption | exact sub_trans (by decide) hm | with_reducible apply only_serve
    | with_reducible apply only_respond | with_reducible apply only_State_atTime
    | with_reducible refine OutOnly_next.mpr ?_ | intro _

theorem only_execAbBulkRead {m0 : List Part} {z0 : State} (hm : sub [.now, .od, .records, .sent] m0 = true)
    (a0) (a1) (a2) (a3) (a4) (a5) (s : State) (h :
    Only m0 z0 s) : OutOnly m0 z0 (execAbBulkRead a0 a1 a2 a3 a4 a5 s) := by
  unfold execAbBulkRead
  repeat' first
    | with_reducible assumption | exact sub_trans (by decide) hm | with_reducible apply only_serve
    | with_reducible apply only_respond | with_reducible apply only_State_atTime
    | with_reducible refine OutOnly_next.mpr ?_ | intro _

theorem only_takeSegment {m0 : List Part} {z0 : State} (hm : sub [.time, .mode, .ctl, .lanes, .rek, .mem, .cis, .fab, .fio, .sw, .tel, .dma, .bri, .pair, .od, .upd, .records, .sent, .free] m0 = true)
    (a0) (a1) (a2) (a3) (a4) (a5) (a6) (a7) (a8) (s : State) (h : Only m0 z0 s) :
    Only m0 z0 (takeSegment a0 a1 a2 a3 a4 a5 a6 a7 a8 s) := by
  unfold takeSegment
  repeat' first
    | with_reducible assumption | exact sub_trans (by decide) hm | with_reducible apply only_respond
    | with_reducible apply only_writeObject | with_reducible apply only_State_modSession
    | with_reducible refine Only_ite ?_ ?_ | intro _

theorem only_execAbWriteSegment {m0 : List Part} {z0 : State} (hm : sub [.now, .time, .mode, .ctl, .lanes, .rek, .mem, .cis, .fab, .fio, .sw, .tel, .dma, .bri, .pair, .od, .upd, .records, .sent, .free] m0 = true)
    (a0) (a1) (a2) (a3) (a4) (a5) (a6) (a7) (s : State) (h :
    Only m0 z0 s) : OutOnly m0 z0 (execAbWriteSegment a0 a1 a2 a3 a4 a5 a6 a7 s) := by
  unfold execAbWriteSegment
  repeat' first
    | with_reducible assumption | exact sub_trans (by decide) hm | with_reducible apply only_serve
    | with_reducible apply only_takeSegment | with_reducible apply only_State_atTime
    | with_reducible refine OutOnly_next.mpr ?_ | intro _ | split

theorem only_execAbReadSignal {m0 : List Part} {z0 : State} (hm : sub [.now, .od, .records, .sent] m0 = true)
    (a0) (a1) (a2) (s : State) (h : Only m0 z0 s) : OutOnly m0 z0 (execAbReadSignal a0 a1 a2 s) := by
  unfold execAbReadSignal
  repeat' first
    | with_reducible assumption | exact sub_trans (by decide) hm | with_reducible apply only_State_atTime
    | with_reducible apply only_serve | with_reducible apply only_respond | with_reducible refine OutOnly_next.mpr ?_
    | intro _ | split

theorem only_writeSignal {m0 : List Part} {z0 : State} (hm : sub [.cis, .pair, .od, .sent] m0 = true)
    (a0) (a1) (a2) (a3) (a4) (s : State) (h : Only m0 z0 s) : Only m0 z0 (writeSignal a0 a1 a2 a3 a4 s) := by
  unfold writeSignal
  repeat' first
    | with_reducible assumption | exact sub_trans (by decide) hm | with_reducible apply only_respond
    | with_reducible apply only_mirror | with_reducible refine Only_ite ?_ ?_ | with_reducible apply only_foldl | intro _
    | (extract_lets +onlyGivenNames x; have hx : Only m0 z0 x := ?hx; case' hx => unfold x)
    | extract_lets +onlyGivenNames _ | (simp only [↓Only_mk]; with_reducible refine Mk_of hm rfl ?_ ?_)
    | ((with_reducible refine Upd_rfl ?_); rfl) | split | dsimp only

theorem only_execAbWriteSignal {m0 : List Part} {z0 : State} (hm : sub [.now, .cis, .pair, .od, .records, .sent] m0 = true)
    (a0) (a1) (a2) (a3) (a4) (s : State) (h : Only m0 z0 s) : OutOnly m0 z0 (execAbWriteSignal a0 a1 a2 a3 a4 s) := by
  unfold execAbWriteSignal
  repeat' first
    | with_reducible assumption | exact sub_trans (by decide) hm | with_reducible apply only_serve
    | with_reducible apply only_writeSignal | with_reducible apply only_State_atTime
    | with_reducible refine OutOnly_next.mpr ?_ | intro _

theorem only_execAbEvents {m0 : List Part} {z0 : State} (hm : sub [.now, .od, .records, .sent] m0 = true)
    (a0) (a1) (a2) (s : State) (h : Only m0 z0 s) : OutOnly m0 z0 (execAbEvents a0 a1 a2 s) := by
  unfold execAbEvents
  repeat' first
    | with_reducible assumption | exact sub_trans (by decide) hm | with_reducible apply only_serve
    | with_reducible apply only_respond | with_reducible apply only_State_atTime
    | with_reducible refine OutOnly_next.mpr ?_ | intro _

theorem only_sdoReply {m0 : List Part} {z0 : State} (hm : sub [.sent] m0 = true)
    (a0) (a1) (a2) (s : State) (h : Only m0 z0 s) : Only m0 z0 (sdoReply a0 a1 a2 s) := by
  unfold sdoReply
  repeat' first
    | with_reducible assumption | exact sub_trans (by decide) hm | with_reducible apply only_State_emit

theorem only_sdoInitiate {m0 : List Part} {z0 : State} (hm : sub [.sent] m0 = true)
    (b act) (s : State) (h : Only m0 z0 s) (hf : ∀ s, Only m0 z0 s → Only m0 z0 (act s)) :
    Only m0 z0 (sdoInitiate b act s) := by
  unfold sdoInitiate
  repeat' first
    | with_reducible assumption | exact sub_trans (by decide) hm | with_reducible apply hf
    | with_reducible apply only_sdoReply | with_reducible refine Only_ite ?_ ?_ | intro _

theorem only_execSdoUploadInitiate {m0 : List Part} {z0 : State} (hm : sub [.now, .od, .sent] m0 = true)
    (a0) (a1) (a2) (a3) (s : State) (h : Only m0 z0 s) : OutOnly m0 z0 (execSdoUploadInitiate a0 a1 a2 a3 s) := by
  unfold execSdoUploadInitiate
  repeat' first
    | with_reducible assumption | exact sub_trans (by decide) hm | with_reducible apply only_sdoInitiate
    | with_reducible apply only_respond | with_reducible apply only_sdoReply | with_reducible apply only_State_setXfer
    | with_reducible apply only_State_atTime | with_reducible refine Only_ite ?_ ?_
    | with_reducible refine OutOnly_next.mpr ?_ | intro _

theorem only_execSdoDownloadInitiate {m0 : List Part} {z0 : State} (hm : sub [.now, .time, .mode, .ctl, .lanes, .rek, .mem, .cis, .fab, .fio, .sw, .tel, .dma, .bri, .pair, .od, .upd, .records, .sent, .free] m0 = true)
    (a0) (a1) (a2) (a3) (a4) (a5) (s : State) (h :
    Only m0 z0 s) : OutOnly m0 z0 (execSdoDownloadInitiate a0 a1 a2 a3 a4 a5 s) := by
  unfold execSdoDownloadInitiate
  repeat' first
    | with_reducible assumption | exact sub_trans (by decide) hm | with_reducible apply only_sdoInitiate
    | with_reducible apply only_writeObject | with_reducible apply only_respond | with_reducible apply only_sdoReply
    | with_reducible apply only_State_setXfer | with_reducible apply only_State_atTime
    | with_reducible refine Only_ite ?_ ?_ | with_reducible refine OutOnly_next.mpr ?_ | intro _

theorem only_endDownload {m0 : List Part} {z0 : State} (hm : sub [.time, .mode, .ctl, .lanes, .rek, .mem, .cis, .fab, .fio, .sw, .tel, .dma, .bri, .pair, .od, .upd, .records, .sent, .free] m0 = true)
    (a0) (a1) (s : State) (h : Only m0 z0 s) : Only m0 z0 (endDownload a0 a1 s) := by
  unfold endDownload
  repeat' first
    | with_reducible assumption | exact sub_trans (by decide) hm | with_reducible apply only_State_setXfer
    | with_reducible apply only_respond | with_reducible apply only_writeObject | with_reducible refine Only_ite ?_ ?_
    | intro _

theorem only_sdoSegmentStep {m0 : List Part} {z0 : State} (hm : sub [.time, .mode, .ctl, .lanes, .rek, .mem, .cis, .fab, .fio, .sw, .tel, .dma, .bri, .pair, .od, .upd, .records, .sent, .free] m0 = true)
    (a0) (a1) (a2) (a3) (a4) (s : State) (h : Only m0 z0 s) : Only m0 z0 (sdoSegmentStep a0 a1 a2 a3 a4 s) := by
  unfold sdoSegmentStep
  repeat' first
    | with_reducible assumption | exact sub_trans (by decide) hm | with_reducible apply only_sdoReply
    | with_reducible apply only_State_setXfer | with_reducible apply only_endDownload | with_reducible apply only_respond
    | with_reducible refine Only_ite ?_ ?_ | intro _

theorem only_execSdoSegment {m0 : List Part} {z0 : State} (hm : sub [.now, .time, .mode, .ctl, .lanes, .rek, .mem, .cis, .fab, .fio, .sw, .tel, .dma, .bri, .pair, .od, .upd, .records, .sent, .free] m0 = true)
    (a0) (a1) (a2) (a3) (a4) (s : State) (h : Only m0 z0 s) : OutOnly m0 z0 (execSdoSegment a0 a1 a2 a3 a4 s) := by
  unfold execSdoSegment
  repeat' first
    | with_reducible assumption | exact sub_trans (by decide) hm | with_reducible apply only_State_atTime
    | with_reducible apply only_sdoSegmentStep | with_reducible apply only_sdoReply
    | with_reducible refine OutOnly_next.mpr ?_ | intro _ | split

theorem only_sdoBlockStep {m0 : List Part} {z0 : State} (hm : sub [.time, .mode, .ctl, .lanes, .rek, .mem, .cis, .fab, .fio, .sw, .tel, .dma, .bri, .pair, .od, .upd, .records, .sent, .free] m0 = true)
    (a0) (a1) (a2) (a3) (a4) (s : State) (h : Only m0 z0 s) : Only m0 z0 (sdoBlockStep a0 a1 a2 a3 a4 s) := by
  unfold sdoBlockStep
  repeat' first
    | with_reducible assumption | exact sub_trans (by decide) hm | with_reducible apply only_sdoReply
    | with_reducible apply only_endDownload | with_reducible apply only_respond | with_reducible apply only_State_setXfer
    | with_reducible apply only_State_emitAll | with_reducible refine Only_ite ?_ ?_ | intro _

theorem only_execSdoBlockTransfer {m0 : List Part} {z0 : State} (hm : sub [.now, .time, .mode, .ctl, .lanes, .rek, .mem, .cis, .fab, .fio, .sw, .tel, .dma, .bri, .pair, .od, .upd, .records, .sent, .free] m0 = true)
    (a0) (a1) (a2) (a3) (a4) (s : State) (h :
    Only m0 z0 s) : OutOnly m0 z0 (execSdoBlockTransfer a0 a1 a2 a3 a4 s) := by
  unfold execSdoBlockTransfer
  repeat' first
    | with_reducible assumption | exact sub_trans (by decide) hm | with_reducible apply only_State_atTime
    | with_reducible apply only_sdoBlockStep | with_reducible apply only_sdoReply
    | with_reducible refine OutOnly_next.mpr ?_ | intro _ | split

theorem only_execSdoSegmentTimeout {m0 : List Part} {z0 : State} (hm : sub [.now, .od, .sent] m0 = true)
    (a0) (a1) (s : State) (h : Only m0 z0 s) : OutOnly m0 z0 (execSdoSegmentTimeout a0 a1 s) := by
  unfold execSdoSegmentTimeout
  repeat' first
    | with_reducible assumption | exact sub_trans (by decide) hm | with_reducible apply only_State_atTime
    | with_reducible apply only_sdoReply | with_reducible apply only_State_setXfer
    | with_reducible refine OutOnly_next.mpr ?_ | intro _ | split

end Sys2Proof.Machine
end

