-- ==== Sys2Proof/Laws/Control.lean ====
section
/-! SUPPORT. What entering FAULT-STOP leaves (R129 to R131), for every command that enters it. -/

set_option Elab.async false

namespace Sys2Proof.Machine

@[simp] theorem enterMode_mode (m : Mode) (k : Nat) (s : State) : (enterMode m k s).ctl.mode = m := by
  unfold enterMode
  simp

theorem enterMode_cause (m : Mode) (k : Nat) (s : State) : (enterMode m k s).ctl.cause = s.ctl.cause := by
  unfold enterMode
  extract_lets old s0 s1 c2 s2 c3 s3
  have h0 : s0.ctl = s.ctl := by
    have h : Only [.fab, .records] s s0 := Only_ite (fun _ => only_dropStaged rfl _ (Only.refl _ _)) (fun _ => Only.refl _ _)
    exact h.ctl rfl rfl
  have h1 : s1.ctl.cause = s0.ctl.cause := by unfold s1; split <;> rfl
  have h2 : s2.ctl.cause = s1.ctl.cause := by unfold s2; split <;> rfl
  rw [raise_ctl]
  exact h2.trans (h1.trans (by rw [h0]))

/-- A module that enters FAULT-STOP shows its mode and its cause (R129). -/
theorem faultStopWith_ctl {d : Bool} {cause : Code} {s : State} (h : s.ctl.mode.canFault = true) :
    (faultStopWith d cause s).ctl.mode = .faultStop ∧ (faultStopWith d cause s).ctl.cause = cause := by
  unfold faultStopWith
  rw [if_pos h]
  extract_lets c s0 c0 s1 s2 s3
  have e1 : s1.ctl.mode = .faultStop ∧ s1.ctl.cause = cause := ⟨enterMode_mode _ _ _, enterMode_cause _ _ _⟩
  have e2 : s2.ctl = s1.ctl := raise_ctl _ _ _
  have e3 : s3.ctl = s2.ctl :=
    (only_pairFaultStop rfl _ (only_sendStopNotice rfl _ (only_snapshot rfl _ (only_dropAll rfl _
      (Only.refl [.lanes, .rek, .cis, .sent, .pair, .tel, .records] s2))))).ctl rfl rfl
  rw [← e2, ← e3] at e1
  split
  · have h4 : (warmReset s3).ctl.mode = s3.ctl.mode ∧ (warmReset s3).ctl.cause = s3.ctl.cause := by
      unfold warmReset
      simp [State.modLanes]
    exact ⟨h4.1.trans e1.1, h4.2.trans e1.2⟩
  · simpa using e1

theorem faultStop_ctl {cause : Code} {s : State} (h : s.ctl.mode.canFault = true) :
    (faultStop cause s).ctl.mode = .faultStop ∧ (faultStop cause s).ctl.cause = cause := faultStopWith_ctl h

/-! ### What an exclusion leaves of the lanes (R49) -/

/-- A lane keeps its state, its cause and its read copy when only its cores change. -/
def LaneSt.agrees (l k : LaneSt) : Prop := l.state = k.state ∧ l.cause = k.cause ∧ l.copy = k.copy ∧ l.standpipe = k.standpipe

theorem LaneSt.agrees_setCore (l : LaneSt) (c : Fin 4) (k : Core) : (l.setCore c k).agrees l := by
  unfold LaneSt.setCore LaneSt.agrees
  split
  · simp
  · split
    · simp
    · split <;> simp

theorem setCore_agrees (s : State) (ln : Lane) (c : Fin 4) (k : Core) (m : Lane) : ((s.setCore ln c k).lane m).agrees (s.lane m) := by
  unfold State.setCore
  by_cases h : m = ln
  · subst h
    rw [State.setLane_lane]
    exact LaneSt.agrees_setCore _ _ _
  · rw [State.setLane_other h]
    exact ⟨rfl, rfl, rfl, rfl⟩

theorem LaneSt.agrees_trans {a b c : LaneSt} (h : a.agrees b) (k : b.agrees c) : a.agrees c :=
  ⟨h.1.trans k.1, h.2.1.trans k.2.1, h.2.2.1.trans k.2.2.1, h.2.2.2.trans k.2.2.2⟩

theorem LaneSt.agrees_of_eq {a b : LaneSt} (h : a = b) : a.agrees b := h ▸ ⟨rfl, rfl, rfl, rfl⟩

/-- A served access changes no lane but in its cores (R321, R322). -/
theorem serveOne_agrees (s : State) (x : Initiator × DirectOp) (m : Lane) : ((serveOne s x).lane m).agrees (s.lane m) := by
  have keep : ∀ t : State, Only [.mem, .dma, .bri, .sent] s t → (t.lane m).agrees (s.lane m) := by
    intro t h
    have e := h.lanes rfl
    cases m
    · exact LaneSt.agrees_of_eq e.1
    · exact LaneSt.agrees_of_eq e.2.1
    · exact LaneSt.agrees_of_eq e.2.2
  unfold serveOne
  extract_lets a b0 keep'
  have hk : Only [.mem, .dma, .bri, .sent] s keep' := Only_upd (d := [.bri]) rfl (Only.refl _ _) (Upd_rfl rfl)
  split
  · split
    · exact keep _ hk
    · unfold grantRead
      extract_lets a' d
      split
      · exact LaneSt.agrees_trans (setCore_agrees _ _ _ _ _) (LaneSt.agrees_of_eq (by cases m <;> rfl))
      · exact LaneSt.agrees_of_eq (by cases m <;> rfl)
  · split
    · exact keep _ hk
    · exact keep _ (only_commonsWrite rfl _ _ _ (Only.refl _ _))

theorem serveWaiters_agrees (s : State) (m : Lane) : ((serveWaiters s).lane m).agrees (s.lane m) := by
  unfold serveWaiters
  generalize s.bri.waiters = ws
  suffices h : ∀ (ws : List (Initiator × DirectOp)) (t : State), (t.lane m).agrees (s.lane m) →
      ((ws.foldl serveOne t).lane m).agrees (s.lane m) from h ws _ (LaneSt.agrees_of_eq (by cases m <;> rfl))
  intro ws
  induction ws with
  | nil => exact fun t h => h
  | cons x r ih => exact fun t h => ih _ (LaneSt.agrees_trans (serveOne_agrees _ _ _) h)

/-- An exclusion leaves its lane EXCLUDED with its cause (R48, R450), and every other lane as it was but for its cores. -/
theorem excludeLane_lane (ln : Lane) (cause : Code) (s : State) :
    ((excludeLane ln cause s).lane ln).state = .excluded ∧ ((excludeLane ln cause s).lane ln).cause = cause ∧
    ∀ m, m ≠ ln → ((excludeLane ln cause s).lane m).agrees (s.lane m) := by
  have hx : ∀ m, ((excludeLane ln cause s).lane m).agrees ((exclude ln cause s).lane m) := by
    intro m
    unfold excludeLane
    extract_lets mine s1 gone b0 s2 c0 s3
    have h4 : Only [.mem, .dma, .bri, .records, .free] s3 ((s3.laneRings ln).foldl (fun q r => ringAbort r q) s3) :=
      only_foldl (fun _ _ h => only_ringAbort rfl _ _ h) (Only.refl _ _)
    have e4 := h4.lanes rfl
    have h3 : (s3.lane m).agrees (s1.lane m) := by
      unfold s3 dropSemas
      exact LaneSt.agrees_trans (serveWaiters_agrees _ _) (LaneSt.agrees_of_eq (by cases m <;> rfl))
    refine LaneSt.agrees_trans (LaneSt.agrees_of_eq ?_) h3
    cases m
    · exact e4.1
    · exact e4.2.1
    · exact e4.2.2
  have h0 : ∀ m, (exclude ln cause s).lane m = if m = ln then (exclude ln cause s).lane ln else s.lane m := by
    intro m
    split
    · next h => rw [h]
    · next h =>
      unfold exclude
      extract_lets s1 r0 s2
      have : (raiseLane ln evLaneExcluded (BitVec.ofNat 8 (laneNo ln) :: d16 cause.toNat) s2).lane m = s2.lane m := by
        cases m <;> simp [State.lane]
      rw [this]
      exact State.setLane_other (s := s) h
  have h1 : ((exclude ln cause s).lane ln).state = .excluded ∧ ((exclude ln cause s).lane ln).cause = cause := by
    unfold exclude
    extract_lets s1 r0 s2
    have : (raiseLane ln evLaneExcluded (BitVec.ofNat 8 (laneNo ln) :: d16 cause.toNat) s2).lane ln = s2.lane ln := by
      cases ln <;> simp [State.lane]
    rw [this]
    cases ln <;> exact ⟨rfl, rfl⟩
  refine ⟨(hx ln).1.trans h1.1, (hx ln).2.1.trans h1.2, fun m hm => ?_⟩
  have := h0 m
  rw [if_neg hm] at this
  rw [← this]
  exact hx m

end Sys2Proof.Machine
end

