-- ==== Sys2Proof/Laws/Dispatch.lean ====
section
/-! SUPPORT. What `exec` answers for each command, as the equation of its arm. -/

set_option Elab.async false

namespace Sys2Proof.Machine

@[simp] theorem exec_supplyOn (s : State) {t} : exec (.supplyOn t) s = execSupplyOn t s := rfl
@[simp] theorem exec_stage0Complete (s : State) {t} : exec (.stage0Complete t) s = execStage0Complete t s := rfl
@[simp] theorem exec_stage1Complete (s : State) {t} {straps} : exec (.stage1Complete t straps) s = execStage1Complete t straps s := rfl
@[simp] theorem exec_translationComplete (s : State) {t} {ln} {native} : exec (.translationComplete t ln native) s = execTranslationComplete t ln native s := rfl
@[simp] theorem exec_stage2Complete (s : State) {t} {tables} : exec (.stage2Complete t tables) s = execStage2Complete t tables s := rfl
@[simp] theorem exec_stage3Complete (s : State) {t} : exec (.stage3Complete t) s = execStage3Complete t s := rfl
@[simp] theorem exec_pairNegotiation (s : State) {t} {partner} : exec (.pairNegotiation t partner) s = execPairNegotiation t partner s := rfl
@[simp] theorem exec_stageTimeout (s : State) {t} {stage} : exec (.stageTimeout t stage) s = execStageTimeout t stage s := rfl
@[simp] theorem exec_supplyInterruption (s : State) {t} : exec (.supplyInterruption t) s = execSupplyInterruption t s := rfl
@[simp] theorem exec_storeExhausted (s : State) {t} : exec (.storeExhausted t) s = execStoreExhausted t s := rfl
@[simp] theorem exec_supplyReturn (s : State) {t} {disturbed} {belowHold} {converters} : exec (.supplyReturn t disturbed belowHold converters) s = execSupplyReturn t disturbed belowHold converters s := rfl
@[simp] theorem exec_supplyMeasurement (s : State) {t} {x1} : exec (.supplyMeasurement t x1) s = execSupplyMeasurement t x1 s := rfl
@[simp] theorem exec_cycleBoundary (s : State) {t} : exec (.cycleBoundary t) s = execCycleBoundary t s := rfl
@[simp] theorem exec_imageSealed (s : State) {t} : exec (.imageSealed t) s = execImageSealed t s := rfl
@[simp] theorem exec_imageLate (s : State) {t} : exec (.imageLate t) s = execImageLate t s := rfl
@[simp] theorem exec_groupLinkTimeout (s : State) {t} {g} : exec (.groupLinkTimeout t g) s = execGroupLinkTimeout t g s := rfl
@[simp] theorem exec_releaseToken (s : State) {t} {ln} : exec (.releaseToken t ln) s = execReleaseToken t ln s := rfl
@[simp] theorem exec_laneDrink (s : State) {t} {ln} {recv} {ctxOk} : exec (.laneDrink t ln recv ctxOk) s = execLaneDrink t ln recv ctxOk s := rfl
@[simp] theorem exec_tokenTimeout (s : State) {t} {ln} : exec (.tokenTimeout t ln) s = execTokenTimeout t ln s := rfl
@[simp] theorem exec_xMov (s : State) {ln} {core} {ty} {d} {a} : exec (.xMov ln core ty d a) s = execXMov ln core ty d a s := rfl
@[simp] theorem exec_xLdi (s : State) {ln} {core} {ty} {d} {lit} : exec (.xLdi ln core ty d lit) s = execXLdi ln core ty d lit s := rfl
@[simp] theorem exec_xCvt (s : State) {ln} {core} {ty} {d} {a} {src} : exec (.xCvt ln core ty d a src) s = execXCvt ln core ty d a src s := rfl
@[simp] theorem exec_xSel (s : State) {ln} {core} {ty} {d} {a} {b} : exec (.xSel ln core ty d a b) s = execXSel ln core ty d a b s := rfl
@[simp] theorem exec_xLd (s : State) {ln} {core} {ty} {d} {a} {sp} {indexed} {off} : exec (.xLd ln core ty d a sp indexed off) s = execXLd ln core ty d a sp indexed off s := rfl
@[simp] theorem exec_xSt (s : State) {ln} {core} {ty} {r} {a} {indexed} {off} : exec (.xSt ln core ty r a indexed off) s = execXSt ln core ty r a indexed off s := rfl
@[simp] theorem exec_xStl (s : State) {ln} {core} {ty} {r} {a} {indexed} {off} : exec (.xStl ln core ty r a indexed off) s = execXStl ln core ty r a indexed off s := rfl
@[simp] theorem exec_xAdd (s : State) {ln} {core} {ty} {d} {a} {b} : exec (.xAdd ln core ty d a b) s = execXAdd ln core ty d a b s := rfl
@[simp] theorem exec_xSub (s : State) {ln} {core} {ty} {d} {a} {b} : exec (.xSub ln core ty d a b) s = execXSub ln core ty d a b s := rfl
@[simp] theorem exec_xMul (s : State) {ln} {core} {ty} {d} {a} {b} : exec (.xMul ln core ty d a b) s = execXMul ln core ty d a b s := rfl
@[simp] theorem exec_xDiv (s : State) {ln} {core} {ty} {d} {a} {b} : exec (.xDiv ln core ty d a b) s = execXDiv ln core ty d a b s := rfl
@[simp] theorem exec_xRem (s : State) {ln} {core} {ty} {d} {a} {b} : exec (.xRem ln core ty d a b) s = execXRem ln core ty d a b s := rfl
@[simp] theorem exec_xNeg (s : State) {ln} {core} {ty} {d} {a} : exec (.xNeg ln core ty d a) s = execXNeg ln core ty d a s := rfl
@[simp] theorem exec_xAbs (s : State) {ln} {core} {ty} {d} {a} : exec (.xAbs ln core ty d a) s = execXAbs ln core ty d a s := rfl
@[simp] theorem exec_xMin (s : State) {ln} {core} {ty} {d} {a} {b} : exec (.xMin ln core ty d a b) s = execXMin ln core ty d a b s := rfl
@[simp] theorem exec_xMax (s : State) {ln} {core} {ty} {d} {a} {b} : exec (.xMax ln core ty d a b) s = execXMax ln core ty d a b s := rfl
@[simp] theorem exec_xAdds (s : State) {ln} {core} {ty} {d} {a} {b} : exec (.xAdds ln core ty d a b) s = execXAdds ln core ty d a b s := rfl
@[simp] theorem exec_xSubs (s : State) {ln} {core} {ty} {d} {a} {b} : exec (.xSubs ln core ty d a b) s = execXSubs ln core ty d a b s := rfl
@[simp] theorem exec_xSqrt (s : State) {ln} {core} {ty} {d} {a} : exec (.xSqrt ln core ty d a) s = execXSqrt ln core ty d a s := rfl
@[simp] theorem exec_xAddi (s : State) {ln} {core} {ty} {d} {a} {imm} : exec (.xAddi ln core ty d a imm) s = execXAddi ln core ty d a imm s := rfl
@[simp] theorem exec_xRint (s : State) {ln} {core} {ty} {d} {a} : exec (.xRint ln core ty d a) s = execXRint ln core ty d a s := rfl
@[simp] theorem exec_xLimit (s : State) {ln} {core} {ty} {d} {a} {b} : exec (.xLimit ln core ty d a b) s = execXLimit ln core ty d a b s := rfl
@[simp] theorem exec_xAnd (s : State) {ln} {core} {ty} {d} {a} {b} : exec (.xAnd ln core ty d a b) s = execXAnd ln core ty d a b s := rfl
@[simp] theorem exec_xOr (s : State) {ln} {core} {ty} {d} {a} {b} : exec (.xOr ln core ty d a b) s = execXOr ln core ty d a b s := rfl
@[simp] theorem exec_xXor (s : State) {ln} {core} {ty} {d} {a} {b} : exec (.xXor ln core ty d a b) s = execXXor ln core ty d a b s := rfl
@[simp] theorem exec_xNot (s : State) {ln} {core} {ty} {d} {a} : exec (.xNot ln core ty d a) s = execXNot ln core ty d a s := rfl
@[simp] theorem exec_xShl (s : State) {ln} {core} {ty} {d} {a} {b} : exec (.xShl ln core ty d a b) s = execXShl ln core ty d a b s := rfl
@[simp] theorem exec_xShr (s : State) {ln} {core} {ty} {d} {a} {b} : exec (.xShr ln core ty d a b) s = execXShr ln core ty d a b s := rfl
@[simp] theorem exec_xShli (s : State) {ln} {core} {ty} {d} {a} {imm} : exec (.xShli ln core ty d a imm) s = execXShli ln core ty d a imm s := rfl
@[simp] theorem exec_xShri (s : State) {ln} {core} {ty} {d} {a} {imm} : exec (.xShri ln core ty d a imm) s = execXShri ln core ty d a imm s := rfl
@[simp] theorem exec_xRol (s : State) {ln} {core} {ty} {d} {a} {b} : exec (.xRol ln core ty d a b) s = execXRol ln core ty d a b s := rfl
@[simp] theorem exec_xRor (s : State) {ln} {core} {ty} {d} {a} {b} : exec (.xRor ln core ty d a b) s = execXRor ln core ty d a b s := rfl
@[simp] theorem exec_xGetb (s : State) {ln} {core} {ty} {d} {a} {imm} : exec (.xGetb ln core ty d a imm) s = execXGetb ln core ty d a imm s := rfl
@[simp] theorem exec_xSetb (s : State) {ln} {core} {ty} {d} {a} {imm} : exec (.xSetb ln core ty d a imm) s = execXSetb ln core ty d a imm s := rfl
@[simp] theorem exec_xClrb (s : State) {ln} {core} {ty} {d} {a} {imm} : exec (.xClrb ln core ty d a imm) s = execXClrb ln core ty d a imm s := rfl
@[simp] theorem exec_xEq (s : State) {ln} {core} {ty} {d} {a} {b} : exec (.xEq ln core ty d a b) s = execXEq ln core ty d a b s := rfl
@[simp] theorem exec_xNe (s : State) {ln} {core} {ty} {d} {a} {b} : exec (.xNe ln core ty d a b) s = execXNe ln core ty d a b s := rfl
@[simp] theorem exec_xLt (s : State) {ln} {core} {ty} {d} {a} {b} : exec (.xLt ln core ty d a b) s = execXLt ln core ty d a b s := rfl
@[simp] theorem exec_xLe (s : State) {ln} {core} {ty} {d} {a} {b} : exec (.xLe ln core ty d a b) s = execXLe ln core ty d a b s := rfl
@[simp] theorem exec_xGt (s : State) {ln} {core} {ty} {d} {a} {b} : exec (.xGt ln core ty d a b) s = execXGt ln core ty d a b s := rfl
@[simp] theorem exec_xGe (s : State) {ln} {core} {ty} {d} {a} {b} : exec (.xGe ln core ty d a b) s = execXGe ln core ty d a b s := rfl
@[simp] theorem exec_xIsnan (s : State) {ln} {core} {ty} {d} {a} : exec (.xIsnan ln core ty d a) s = execXIsnan ln core ty d a s := rfl
@[simp] theorem exec_xJmp (s : State) {ln} {core} {off} : exec (.xJmp ln core off) s = execXJmp ln core off s := rfl
@[simp] theorem exec_xBrt (s : State) {ln} {core} {a} {off} : exec (.xBrt ln core a off) s = execXBrt ln core a off s := rfl
@[simp] theorem exec_xBrf (s : State) {ln} {core} {a} {off} : exec (.xBrf ln core a off) s = execXBrf ln core a off s := rfl
@[simp] theorem exec_xLoop (s : State) {ln} {core} {a} {off} {bound} : exec (.xLoop ln core a off bound) s = execXLoop ln core a off bound s := rfl
@[simp] theorem exec_loopBound (s : State) {ln} {core} {off} {bound} : exec (.loopBound ln core off bound) s = execLoopBound ln core off bound s := rfl
@[simp] theorem exec_xCall (s : State) {ln} {core} {fn} : exec (.xCall ln core fn) s = execXCall ln core fn s := rfl
@[simp] theorem exec_xRet (s : State) {ln} {core} : exec (.xRet ln core) s = execXRet ln core s := rfl
@[simp] theorem exec_xEnd (s : State) {ln} {core} : exec (.xEnd ln core) s = execXEnd ln core s := rfl
@[simp] theorem exec_xHalt (s : State) {ln} {core} {imm} : exec (.xHalt ln core imm) s = execXHalt ln core imm s := rfl
@[simp] theorem exec_xTon (s : State) {ln} {core} {d} {a} {b} {inst} : exec (.xTon ln core d a b inst) s = execXTon ln core d a b inst s := rfl
@[simp] theorem exec_xTof (s : State) {ln} {core} {d} {a} {b} {inst} : exec (.xTof ln core d a b inst) s = execXTof ln core d a b inst s := rfl
@[simp] theorem exec_xTp (s : State) {ln} {core} {d} {a} {b} {inst} : exec (.xTp ln core d a b inst) s = execXTp ln core d a b inst s := rfl
@[simp] theorem exec_xCtu (s : State) {ln} {core} {d} {a} {b} {c} {inst} : exec (.xCtu ln core d a b c inst) s = execXCtu ln core d a b c inst s := rfl
@[simp] theorem exec_xCtd (s : State) {ln} {core} {d} {a} {b} {c} {inst} : exec (.xCtd ln core d a b c inst) s = execXCtd ln core d a b c inst s := rfl
@[simp] theorem exec_xCtud (s : State) {ln} {core} {d} {a} {b} {c} {inst} : exec (.xCtud ln core d a b c inst) s = execXCtud ln core d a b c inst s := rfl
@[simp] theorem exec_xRTrig (s : State) {ln} {core} {d} {a} {inst} : exec (.xRTrig ln core d a inst) s = execXRTrig ln core d a inst s := rfl
@[simp] theorem exec_xFTrig (s : State) {ln} {core} {d} {a} {inst} : exec (.xFTrig ln core d a inst) s = execXFTrig ln core d a inst s := rfl
@[simp] theorem exec_xNop (s : State) {ln} {core} : exec (.xNop ln core) s = execXNop ln core s := rfl
@[simp] theorem exec_xSteps (s : State) {ln} {core} {d} : exec (.xSteps ln core d) s = execXSteps ln core d s := rfl
@[simp] theorem exec_xPeriod (s : State) {ln} {core} {d} : exec (.xPeriod ln core d) s = execXPeriod ln core d s := rfl
@[simp] theorem exec_stepBudget (s : State) {ln} {core} {steps} : exec (.stepBudget ln core steps) s = execStepBudget ln core steps s := rfl
@[simp] theorem exec_tallyMessage (s : State) {t} {ln} {core} {task} {cyc} {tally} {crcOk} : exec (.tallyMessage t ln core task cyc tally crcOk) s = execTallyMessage t ln core task cyc tally crcOk s := rfl
@[simp] theorem exec_voteDeadline (s : State) {t} {agree} {selfTestOk} : exec (.voteDeadline t agree selfTestOk) s = execVoteDeadline t agree selfTestOk s := rfl
@[simp] theorem exec_verdictTimeout (s : State) {t} : exec (.verdictTimeout t) s = execVerdictTimeout t s := rfl
@[simp] theorem exec_holdVote (s : State) {t} {core} {task} : exec (.holdVote t core task) s = execHoldVote t core task s := rfl
@[simp] theorem exec_pour (s : State) {t} {recv} : exec (.pour t recv) s = execPour t recv s := rfl
@[simp] theorem exec_pourWindowEnd (s : State) {t} : exec (.pourWindowEnd t) s = execPourWindowEnd t s := rfl
@[simp] theorem exec_pourLate (s : State) {t} : exec (.pourLate t) s = execPourLate t s := rfl
@[simp] theorem exec_laneEccError (s : State) {t} {ln} : exec (.laneEccError t ln) s = execLaneEccError t ln s := rfl
@[simp] theorem exec_laneTrap (s : State) {t} {ln} : exec (.laneTrap t ln) s = execLaneTrap t ln s := rfl
@[simp] theorem exec_laneResetComplete (s : State) {t} {ln} {native} : exec (.laneResetComplete t ln native) s = execLaneResetComplete t ln native s := rfl
@[simp] theorem exec_reintegrationCopyComplete (s : State) {t} {ln} {intact} : exec (.reintegrationCopyComplete t ln intact) s = execReintegrationCopyComplete t ln intact s := rfl
@[simp] theorem exec_reintegrationTimeout (s : State) {t} {ln} : exec (.reintegrationTimeout t ln) s = execReintegrationTimeout t ln s := rfl
@[simp] theorem exec_laneRejoin (s : State) {t} {ln} : exec (.laneRejoin t ln) s = execLaneRejoin t ln s := rfl
@[simp] theorem exec_laneCommand (s : State) {t} {via} {v} : exec (.laneCommand t via v) s = execLaneCommand t via v s := rfl
@[simp] theorem exec_staggerWrite (s : State) {t} {via} {v} : exec (.staggerWrite t via v) s = execStaggerWrite t via v s := rfl
@[simp] theorem exec_placementRequest (s : State) {t} {via} {v} : exec (.placementRequest t via v) s = execPlacementRequest t via v s := rfl
@[simp] theorem exec_placementMove (s : State) {t} : exec (.placementMove t) s = execPlacementMove t s := rfl
@[simp] theorem exec_placementResume (s : State) {t} : exec (.placementResume t) s = execPlacementResume t s := rfl
@[simp] theorem exec_fallbackMove (s : State) {t} {task} : exec (.fallbackMove t task) s = execFallbackMove t task s := rfl
@[simp] theorem exec_debugAttach (s : State) {t} {via} : exec (.debugAttach t via) s = execDebugAttach t via s := rfl
@[simp] theorem exec_debugBreakpoint (s : State) {t} {pc} : exec (.debugBreakpoint t pc) s = execDebugBreakpoint t pc s := rfl
@[simp] theorem exec_debugRun (s : State) {t} : exec (.debugRun t) s = execDebugRun t s := rfl
@[simp] theorem exec_debugStep (s : State) {t} {n} : exec (.debugStep t n) s = execDebugStep t n s := rfl
@[simp] theorem exec_debugWriteVariable (s : State) {t} {core} {w} : exec (.debugWriteVariable t core w) s = execDebugWriteVariable t core w s := rfl
@[simp] theorem exec_breakpointHit (s : State) {t} {pc} : exec (.breakpointHit t pc) s = execBreakpointHit t pc s := rfl
@[simp] theorem exec_taskRestart (s : State) {t} {via} {task} {v} : exec (.taskRestart t via task v) s = execTaskRestart t via task v s := rfl
@[simp] theorem exec_retainedSnapshot (s : State) {t} : exec (.retainedSnapshot t) s = execRetainedSnapshot t s := rfl
@[simp] theorem exec_cmdRun (s : State) {t} {via} : exec (.cmdRun t via) s = execCmdRun t via s := rfl
@[simp] theorem exec_cmdStop (s : State) {t} {via} : exec (.cmdStop t via) s = execCmdStop t via s := rfl
@[simp] theorem exec_cmdHold (s : State) {t} {via} : exec (.cmdHold t via) s = execCmdHold t via s := rfl
@[simp] theorem exec_cmdResume (s : State) {t} {via} : exec (.cmdResume t via) s = execCmdResume t via s := rfl
@[simp] theorem exec_cmdRestart (s : State) {t} {via} : exec (.cmdRestart t via) s = execCmdRestart t via s := rfl
@[simp] theorem exec_cmdExchange (s : State) {t} {via} : exec (.cmdExchange t via) s = execCmdExchange t via s := rfl
@[simp] theorem exec_modeChange (s : State) {t} : exec (.modeChange t) s = execModeChange t s := rfl
@[simp] theorem exec_warmRestartBoot (s : State) {t} : exec (.warmRestartBoot t) s = execWarmRestartBoot t s := rfl
@[simp] theorem exec_warmRestartComplete (s : State) {t} : exec (.warmRestartComplete t) s = execWarmRestartComplete t s := rfl
@[simp] theorem exec_warmRestartTimeout (s : State) {t} : exec (.warmRestartTimeout t) s = execWarmRestartTimeout t s := rfl
@[simp] theorem exec_forceKindWrite (s : State) {t} {via} {n} {v} : exec (.forceKindWrite t via n v) s = execForceKindWrite t via n v s := rfl
@[simp] theorem exec_forceTargetWrite (s : State) {t} {via} {n} {v} : exec (.forceTargetWrite t via n v) s = execForceTargetWrite t via n v s := rfl
@[simp] theorem exec_forceValueWrite (s : State) {t} {via} {n} {v} : exec (.forceValueWrite t via n v) s = execForceValueWrite t via n v s := rfl
@[simp] theorem exec_forceActivate (s : State) {t} {via} {n} : exec (.forceActivate t via n) s = execForceActivate t via n s := rfl
@[simp] theorem exec_forceRemove (s : State) {t} {via} {n} : exec (.forceRemove t via n) s = execForceRemove t via n s := rfl
@[simp] theorem exec_forceBoundary (s : State) {t} {n} : exec (.forceBoundary t n) s = execForceBoundary t n s := rfl
@[simp] theorem exec_csApply (s : State) {t} {via} : exec (.csApply t via) s = execCsApply t via s := rfl
@[simp] theorem exec_csDiscard (s : State) {t} {via} : exec (.csDiscard t via) s = execCsDiscard t via s := rfl
@[simp] theorem exec_changeSetEffect (s : State) {t} {badLanes} : exec (.changeSetEffect t badLanes) s = execChangeSetEffect t badLanes s := rfl
@[simp] theorem exec_mapWrite (s : State) {t} {via} {map} : exec (.mapWrite t via map) s = execMapWrite t via map s := rfl
@[simp] theorem exec_mapConfirm (s : State) {t} {via} {digest} : exec (.mapConfirm t via digest) s = execMapConfirm t via digest s := rfl
@[simp] theorem exec_mapExpiry (s : State) {t} : exec (.mapExpiry t) s = execMapExpiry t s := rfl
@[simp] theorem exec_mapCopiesWritten (s : State) {t} : exec (.mapCopiesWritten t) s = execMapCopiesWritten t s := rfl
@[simp] theorem exec_mapPeriodicCheck (s : State) {t} {work} {copyA} {copyB} : exec (.mapPeriodicCheck t work copyA copyB) s = execMapPeriodicCheck t work copyA copyB s := rfl
@[simp] theorem exec_boundaryStrobe (s : State) {t} {ticks} : exec (.boundaryStrobe t ticks) s = execBoundaryStrobe t ticks s := rfl
@[simp] theorem exec_requestFrame (s : State) {t} {bits} : exec (.requestFrame t bits) s = execRequestFrame t bits s := rfl
@[simp] theorem exec_requestLinkTimeout (s : State) {t} : exec (.requestLinkTimeout t) s = execRequestLinkTimeout t s := rfl
@[simp] theorem exec_fabricLinkFrame (s : State) {t} {frames} : exec (.fabricLinkFrame t frames) s = execFabricLinkFrame t frames s := rfl
@[simp] theorem exec_fabricLinkTimeout (s : State) {t} {g} : exec (.fabricLinkTimeout t g) s = execFabricLinkTimeout t g s := rfl
@[simp] theorem exec_discrepancyTimeout (s : State) {t} {i} : exec (.discrepancyTimeout t i) s = execDiscrepancyTimeout t i s := rfl
@[simp] theorem exec_restoreDelayExpiry (s : State) {t} {i} : exec (.restoreDelayExpiry t i) s = execRestoreDelayExpiry t i s := rfl
@[simp] theorem exec_dsdWarning (s : State) {t} {i} : exec (.dsdWarning t i) s = execDsdWarning t i s := rfl
@[simp] theorem exec_vigilanceTrip (s : State) {t} {i} : exec (.vigilanceTrip t i) s = execVigilanceTrip t i s := rfl
@[simp] theorem exec_testPulse (s : State) {t} {ch} : exec (.testPulse t ch) s = execTestPulse t ch s := rfl
@[simp] theorem exec_testPulseEnd (s : State) {t} {ch} : exec (.testPulseEnd t ch) s = execTestPulseEnd t ch s := rfl
@[simp] theorem exec_readbackTimeout (s : State) {t} {ch} : exec (.readbackTimeout t ch) s = execReadbackTimeout t ch s := rfl
@[simp] theorem exec_ackPulse (s : State) {t} {key} {rise1} {rise2} {fall1} {fall2} : exec (.ackPulse t key rise1 rise2 fall1 fall2) s = execAckPulse t key rise1 rise2 fall1 fall2 s := rfl
@[simp] theorem exec_restartPulse (s : State) {t} {i} {rise1} {rise2} {fall1} {fall2} : exec (.restartPulse t i rise1 rise2 fall1 fall2) s = execRestartPulse t i rise1 rise2 fall1 fall2 s := rfl
@[simp] theorem exec_dualRailFault (s : State) {t} : exec (.dualRailFault t) s = execDualRailFault t s := rfl
@[simp] theorem exec_fabricMemoryFault (s : State) {t} : exec (.fabricMemoryFault t) s = execFabricMemoryFault t s := rfl
@[simp] theorem exec_sample (s : State) {t} {g} {x} : exec (.sample t g x) s = execSample t g x s := rfl
@[simp] theorem exec_stateFrame (s : State) {t} {g} {bytes} : exec (.stateFrame t g bytes) s = execStateFrame t g bytes s := rfl
@[simp] theorem exec_edgeFrame (s : State) {t} {g} {bytes} : exec (.edgeFrame t g bytes) s = execEdgeFrame t g bytes s := rfl
@[simp] theorem exec_outputFrame (s : State) {t} {g} {bytes} : exec (.outputFrame t g bytes) s = execOutputFrame t g bytes s := rfl
@[simp] theorem exec_driveFrame (s : State) {t} {g} {bytes} : exec (.driveFrame t g bytes) s = execDriveFrame t g bytes s := rfl
@[simp] theorem exec_applyInstant (s : State) {t} {g} : exec (.applyInstant t g) s = execApplyInstant t g s := rfl
@[simp] theorem exec_configWrite (s : State) {t} {g} {w} : exec (.configWrite t g w) s = execConfigWrite t g w s := rfl
@[simp] theorem exec_configAck (s : State) {t} {g} {ok} : exec (.configAck t g ok) s = execConfigAck t g ok s := rfl
@[simp] theorem exec_functionWrite (s : State) {t} {via} {ch} {v} : exec (.functionWrite t via ch v) s = execFunctionWrite t via ch v s := rfl
@[simp] theorem exec_bankEntryWrite (s : State) {t} {via} {bankB} {ch} {entry} : exec (.bankEntryWrite t via bankB ch entry) s = execBankEntryWrite t via bankB ch entry s := rfl
@[simp] theorem exec_alignmentWrite (s : State) {t} {via} {g} {v} : exec (.alignmentWrite t via g v) s = execAlignmentWrite t via g v s := rfl
@[simp] theorem exec_bankSwapRequest (s : State) {t} {via} {groups} : exec (.bankSwapRequest t via groups) s = execBankSwapRequest t via groups s := rfl
@[simp] theorem exec_bankSwap (s : State) {t} : exec (.bankSwap t) s = execBankSwap t s := rfl
@[simp] theorem exec_maxOn (s : State) {t} {ch} : exec (.maxOn t ch) s = execMaxOn t ch s := rfl
@[simp] theorem exec_chatterWindow (s : State) {t} {ch} : exec (.chatterWindow t ch) s = execChatterWindow t ch s := rfl
@[simp] theorem exec_overcurrentTrip (s : State) {t} {ch} : exec (.overcurrentTrip t ch) s = execOvercurrentTrip t ch s := rfl
@[simp] theorem exec_shortCircuit (s : State) {t} {ch} : exec (.shortCircuit t ch) s = execShortCircuit t ch s := rfl
@[simp] theorem exec_demagOver (s : State) {t} {ch} {energy} : exec (.demagOver t ch energy) s = execDemagOver t ch energy s := rfl
@[simp] theorem exec_demagHoldExpiry (s : State) {t} {ch} : exec (.demagHoldExpiry t ch) s = execDemagHoldExpiry t ch s := rfl
@[simp] theorem exec_switchOnResumed (s : State) {t} {g} : exec (.switchOnResumed t g) s = execSwitchOnResumed t g s := rfl
@[simp] theorem exec_openLoad (s : State) {t} {ch} : exec (.openLoad t ch) s = execOpenLoad t ch s := rfl
@[simp] theorem exec_switchStuck (s : State) {t} {ch} : exec (.switchStuck t ch) s = execSwitchStuck t ch s := rfl
@[simp] theorem exec_groupOutputSilent (s : State) {t} {g} : exec (.groupOutputSilent t g) s = execGroupOutputSilent t g s := rfl
@[simp] theorem exec_keepaliveLoss (s : State) {t} {g} : exec (.keepaliveLoss t g) s = execKeepaliveLoss t g s := rfl
@[simp] theorem exec_groupConverterFail (s : State) {t} {g} : exec (.groupConverterFail t g) s = execGroupConverterFail t g s := rfl
@[simp] theorem exec_safeStateWrite (s : State) {t} {via} {ch} {v} : exec (.safeStateWrite t via ch v) s = execSafeStateWrite t via ch v s := rfl
@[simp] theorem exec_deratingWrite (s : State) {t} {via} {g} {v} : exec (.deratingWrite t via g v) s = execDeratingWrite t via g v s := rfl
@[simp] theorem exec_tripThresholdWrite (s : State) {t} {via} {ch} {v} : exec (.tripThresholdWrite t via ch v) s = execTripThresholdWrite t via ch v s := rfl
@[simp] theorem exec_frameReceived (s : State) {t} {p} {f} : exec (.frameReceived t p f) s = execFrameReceived t p f s := rfl
@[simp] theorem exec_frameTransmit (s : State) {t} {p} : exec (.frameTransmit t p) s = execFrameTransmit t p s := rfl
@[simp] theorem exec_guardianCut (s : State) {t} {p} : exec (.guardianCut t p) s = execGuardianCut t p s := rfl
@[simp] theorem exec_macAgeOut (s : State) {t} {mac} : exec (.macAgeOut t mac) s = execMacAgeOut t mac s := rfl
@[simp] theorem exec_linkDown (s : State) {t} {p} : exec (.linkDown t p) s = execLinkDown t p s := rfl
@[simp] theorem exec_linkUp (s : State) {t} {p} {speed} : exec (.linkUp t p speed) s = execLinkUp t p speed s := rfl
@[simp] theorem exec_supervisionFrameSend (s : State) {t} {pair} : exec (.supervisionFrameSend t pair) s = execSupervisionFrameSend t pair s := rfl
@[simp] theorem exec_redundancyDegraded (s : State) {t} {p} : exec (.redundancyDegraded t p) s = execRedundancyDegraded t p s := rfl
@[simp] theorem exec_beaconSend (s : State) {t} : exec (.beaconSend t) s = execBeaconSend t s := rfl
@[simp] theorem exec_beaconReceived (s : State) {t} {p} {payload} : exec (.beaconReceived t p payload) s = execBeaconReceived t p payload s := rfl
@[simp] theorem exec_beaconTimeout (s : State) {t} : exec (.beaconTimeout t) s = execBeaconTimeout t s := rfl
@[simp] theorem exec_guardianTableCheck (s : State) {t} {readBack} : exec (.guardianTableCheck t readBack) s = execGuardianTableCheck t readBack s := rfl
@[simp] theorem exec_guardianCounterFault (s : State) {t} {p} {value} {elapsed} : exec (.guardianCounterFault t p value elapsed) s = execGuardianCounterFault t p value elapsed s := rfl
@[simp] theorem exec_ptpSync (s : State) {t} {slot} {offset} : exec (.ptpSync t slot offset) s = execPtpSync t slot offset s := rfl
@[simp] theorem exec_followUp (s : State) {t} {p} {seqId} {srcPort} {correction} : exec (.followUp t p seqId srcPort correction) s = execFollowUp t p seqId srcPort correction s := rfl
@[simp] theorem exec_ptpAnnounce (s : State) {t} {slot} {p} {a} : exec (.ptpAnnounce t slot p a) s = execPtpAnnounce t slot p a s := rfl
@[simp] theorem exec_ptpDelayMessage (s : State) {t} {slot} {p} {m} {delay} : exec (.ptpDelayMessage t slot p m delay) s = execPtpDelayMessage t slot p m delay s := rfl
@[simp] theorem exec_ptpManagement (s : State) {t} {slot} {p} {get} {dataSet} : exec (.ptpManagement t slot p get dataSet) s = execPtpManagement t slot p get dataSet s := rfl
@[simp] theorem exec_ptpSyncSend (s : State) {t} {slot} {p} : exec (.ptpSyncSend t slot p) s = execPtpSyncSend t slot p s := rfl
@[simp] theorem exec_announceTimeout (s : State) {t} {slot} : exec (.announceTimeout t slot) s = execAnnounceTimeout t slot s := rfl
@[simp] theorem exec_syncSilence (s : State) {t} {slot} : exec (.syncSilence t slot) s = execSyncSilence t slot s := rfl
@[simp] theorem exec_domainPreference (s : State) {t} : exec (.domainPreference t) s = execDomainPreference t s := rfl
@[simp] theorem exec_holdoverExhausted (s : State) {t} : exec (.holdoverExhausted t) s = execHoldoverExhausted t s := rfl
@[simp] theorem exec_referenceMoved (s : State) {t} : exec (.referenceMoved t) s = execReferenceMoved t s := rfl
@[simp] theorem exec_slewComplete (s : State) {t} : exec (.slewComplete t) s = execSlewComplete t s := rfl
@[simp] theorem exec_rebase (s : State) {t} {via} : exec (.rebase t via) s = execRebase t via s := rfl
@[simp] theorem exec_servoModeWrite (s : State) {t} {via} {v} : exec (.servoModeWrite t via v) s = execServoModeWrite t via v s := rfl
@[simp] theorem exec_servoUpdateTimeout (s : State) {t} : exec (.servoUpdateTimeout t) s = execServoUpdateTimeout t s := rfl
@[simp] theorem exec_pdReceived (s : State) {t} {p} : exec (.pdReceived t p) s = execPdReceived t p s := rfl
@[simp] theorem exec_pdSend (s : State) {t} {pub} : exec (.pdSend t pub) s = execPdSend t pub s := rfl
@[simp] theorem exec_mdNotification (s : State) {t} {m} : exec (.mdNotification t m) s = execMdNotification t m s := rfl
@[simp] theorem exec_mdRequest (s : State) {t} {m} : exec (.mdRequest t m) s = execMdRequest t m s := rfl
@[simp] theorem exec_mdReply (s : State) {t} {m} : exec (.mdReply t m) s = execMdReply t m s := rfl
@[simp] theorem exec_mdReplyQuery (s : State) {t} {m} : exec (.mdReplyQuery t m) s = execMdReplyQuery t m s := rfl
@[simp] theorem exec_mdConfirm (s : State) {t} {m} : exec (.mdConfirm t m) s = execMdConfirm t m s := rfl
@[simp] theorem exec_mdError (s : State) {t} {m} : exec (.mdError t m) s = execMdError t m s := rfl
@[simp] theorem exec_mdTimeout (s : State) {t} {session} : exec (.mdTimeout t session) s = execMdTimeout t session s := rfl
@[simp] theorem exec_mvbMasterFrame (s : State) {t} {fcode} {address} : exec (.mvbMasterFrame t fcode address) s = execMvbMasterFrame t fcode address s := rfl
@[simp] theorem exec_mvbSlaveFrame (s : State) {t} {lineB} {address} {data} : exec (.mvbSlaveFrame t lineB address data) s = execMvbSlaveFrame t lineB address data s := rfl
@[simp] theorem exec_mvbDeviceStatus (s : State) {t} {address} : exec (.mvbDeviceStatus t address) s = execMvbDeviceStatus t address s := rfl
@[simp] theorem exec_mvbForeignMaster (s : State) {t} : exec (.mvbForeignMaster t) s = execMvbForeignMaster t s := rfl
@[simp] theorem exec_mvbLineFault (s : State) {t} {lineB} : exec (.mvbLineFault t lineB) s = execMvbLineFault t lineB s := rfl
@[simp] theorem exec_canRpdo (s : State) {t} {bus} {f} : exec (.canRpdo t bus f) s = execCanRpdo t bus f s := rfl
@[simp] theorem exec_canSyncReceived (s : State) {t} {bus} : exec (.canSyncReceived t bus) s = execCanSyncReceived t bus s := rfl
@[simp] theorem exec_canHeartbeatSend (s : State) {t} {bus} : exec (.canHeartbeatSend t bus) s = execCanHeartbeatSend t bus s := rfl
@[simp] theorem exec_canHeartbeatLost (s : State) {t} {bus} {node} : exec (.canHeartbeatLost t bus node) s = execCanHeartbeatLost t bus node s := rfl
@[simp] theorem exec_tpdoWithdraw (s : State) {t} {bus} {unsent} : exec (.tpdoWithdraw t bus unsent) s = execTpdoWithdraw t bus unsent s := rfl
@[simp] theorem exec_canErrorPassive (s : State) {t} {bus} : exec (.canErrorPassive t bus) s = execCanErrorPassive t bus s := rfl
@[simp] theorem exec_canBusOff (s : State) {t} {bus} : exec (.canBusOff t bus) s = execCanBusOff t bus s := rfl
@[simp] theorem exec_canBusOffRecovery (s : State) {t} {bus} : exec (.canBusOffRecovery t bus) s = execCanBusOffRecovery t bus s := rfl
@[simp] theorem exec_sdoUploadInitiate (s : State) {t} {bus} {index} {sub} : exec (.sdoUploadInitiate t bus index sub) s = execSdoUploadInitiate t bus index sub s := rfl
@[simp] theorem exec_sdoDownloadInitiate (s : State) {t} {bus} {index} {sub} {total} {data} : exec (.sdoDownloadInitiate t bus index sub total data) s = execSdoDownloadInitiate t bus index sub total data s := rfl
@[simp] theorem exec_sdoSegment (s : State) {t} {bus} {toggle} {last} {data} : exec (.sdoSegment t bus toggle last data) s = execSdoSegment t bus toggle last data s := rfl
@[simp] theorem exec_sdoBlockTransfer (s : State) {t} {bus} {seqno} {last} {data} : exec (.sdoBlockTransfer t bus seqno last data) s = execSdoBlockTransfer t bus seqno last data s := rfl
@[simp] theorem exec_sdoSegmentTimeout (s : State) {t} {bus} : exec (.sdoSegmentTimeout t bus) s = execSdoSegmentTimeout t bus s := rfl
@[simp] theorem exec_linkReplay (s : State) {t} {ln} {toLane} : exec (.linkReplay t ln toLane) s = execLinkReplay t ln toLane s := rfl
@[simp] theorem exec_directRead (s : State) {t} {ln} {core} {addr} {size} : exec (.directRead t ln core addr size) s = execDirectRead t ln core addr size s := rfl
@[simp] theorem exec_directPostedWrite (s : State) {t} {ln} {core} {addr} {data} : exec (.directPostedWrite t ln core addr data) s = execDirectPostedWrite t ln core addr data s := rfl
@[simp] theorem exec_directNonpostedWrite (s : State) {t} {ln} {core} {addr} {data} : exec (.directNonpostedWrite t ln core addr data) s = execDirectNonpostedWrite t ln core addr data s := rfl
@[simp] theorem exec_exclusiveRead (s : State) {t} {who} {addr} {size} : exec (.exclusiveRead t who addr size) s = execExclusiveRead t who addr size s := rfl
@[simp] theorem exec_exclusiveWrite (s : State) {t} {who} {addr} {data} : exec (.exclusiveWrite t who addr data) s = execExclusiveWrite t who addr data s := rfl
@[simp] theorem exec_eventQueuePop (s : State) {t} {ln} {core} : exec (.eventQueuePop t ln core) s = execEventQueuePop t ln core s := rfl
@[simp] theorem exec_directCompletion (s : State) {t} {ln} {core} {c} : exec (.directCompletion t ln core c) s = execDirectCompletion t ln core c s := rfl
@[simp] theorem exec_bridgeTimeout (s : State) {t} {ln} {core} : exec (.bridgeTimeout t ln core) s = execBridgeTimeout t ln core s := rfl
@[simp] theorem exec_semaphoreBreak (s : State) {t} {granule} : exec (.semaphoreBreak t granule) s = execSemaphoreBreak t granule s := rfl
@[simp] theorem exec_lateError (s : State) {t} {ln} {core} {window} {addr} {size} {cause} : exec (.lateError t ln core window addr size cause) s = execLateError t ln core window addr size cause s := rfl
@[simp] theorem exec_eventPoll (s : State) {t} : exec (.eventPoll t) s = execEventPoll t s := rfl
@[simp] theorem exec_dmaDoorbell (s : State) {t} {ring} {owner} : exec (.dmaDoorbell t ring owner) s = execDmaDoorbell t ring owner s := rfl
@[simp] theorem exec_dmaAbort (s : State) {t} {ring} {owner} : exec (.dmaAbort t ring owner) s = execDmaAbort t ring owner s := rfl
@[simp] theorem exec_dmaDescriptorDone (s : State) {t} {ring} : exec (.dmaDescriptorDone t ring) s = execDmaDescriptorDone t ring s := rfl
@[simp] theorem exec_chainLimit (s : State) {t} {ring} : exec (.chainLimit t ring) s = execChainLimit t ring s := rfl
@[simp] theorem exec_dmaBusError (s : State) {t} {moved} : exec (.dmaBusError t moved) s = execDmaBusError t moved s := rfl
@[simp] theorem exec_dmaRestart (s : State) {t} : exec (.dmaRestart t) s = execDmaRestart t s := rfl
@[simp] theorem exec_dmaEngineRestart (s : State) {t} {via} : exec (.dmaEngineRestart t via) s = execDmaEngineRestart t via s := rfl
@[simp] theorem exec_heartbeatSend (s : State) {t} : exec (.heartbeatSend t) s = execHeartbeatSend t s := rfl
@[simp] theorem exec_siphonHeartbeat (s : State) {t} {f} : exec (.siphonHeartbeat t f) s = execSiphonHeartbeat t f s := rfl
@[simp] theorem exec_partnerLost (s : State) {t} : exec (.partnerLost t) s = execPartnerLost t s := rfl
@[simp] theorem exec_siphonImage (s : State) {t} {f} : exec (.siphonImage t f) s = execSiphonImage t f s := rfl
@[simp] theorem exec_forwardImageLate (s : State) {t} : exec (.forwardImageLate t) s = execForwardImageLate t s := rfl
@[simp] theorem exec_siphonDelta (s : State) {t} {f} : exec (.siphonDelta t f) s = execSiphonDelta t f s := rfl
@[simp] theorem exec_deltaDeadline (s : State) {t} : exec (.deltaDeadline t) s = execDeltaDeadline t s := rfl
@[simp] theorem exec_siphonState (s : State) {t} {f} {m} : exec (.siphonState t f m) s = execSiphonState t f m s := rfl
@[simp] theorem exec_siphonResync (s : State) {t} {f} : exec (.siphonResync t f) s = execSiphonResync t f s := rfl
@[simp] theorem exec_siphonControl (s : State) {t} {f} {m} : exec (.siphonControl t f m) s = execSiphonControl t f m s := rfl
@[simp] theorem exec_renewSend (s : State) {t} : exec (.renewSend t) s = execRenewSend t s := rfl
@[simp] theorem exec_refereeConfirm (s : State) {t} {m} : exec (.refereeConfirm t m) s = execRefereeConfirm t m s := rfl
@[simp] theorem exec_refereeGrant (s : State) {t} {m} : exec (.refereeGrant t m) s = execRefereeGrant t m s := rfl
@[simp] theorem exec_refereeRevoke (s : State) {t} {m} : exec (.refereeRevoke t m) s = execRefereeRevoke t m s := rfl
@[simp] theorem exec_refereeRefuse (s : State) {t} {m} : exec (.refereeRefuse t m) s = execRefereeRefuse t m s := rfl
@[simp] theorem exec_leaseExpiry (s : State) {t} : exec (.leaseExpiry t) s = execLeaseExpiry t s := rfl
@[simp] theorem exec_refereeSilent (s : State) {t} : exec (.refereeSilent t) s = execRefereeSilent t s := rfl
@[simp] theorem exec_handOver (s : State) {t} {via} : exec (.handOver t via) s = execHandOver t via s := rfl
@[simp] theorem exec_pairJoin (s : State) {t} {via} : exec (.pairJoin t via) s = execPairJoin t via s := rfl
@[simp] theorem exec_exchangeAbort (s : State) {t} {via} : exec (.exchangeAbort t via) s = execExchangeAbort t via s := rfl
@[simp] theorem exec_handoverSend (s : State) {t} : exec (.handoverSend t) s = execHandoverSend t s := rfl
@[simp] theorem exec_handoverDrive (s : State) {t} : exec (.handoverDrive t) s = execHandoverDrive t s := rfl
@[simp] theorem exec_handoverDone (s : State) {t} : exec (.handoverDone t) s = execHandoverDone t s := rfl
@[simp] theorem exec_reversion (s : State) {t} : exec (.reversion t) s = execReversion t s := rfl
@[simp] theorem exec_resyncComplete (s : State) {t} : exec (.resyncComplete t) s = execResyncComplete t s := rfl
@[simp] theorem exec_resyncTimeout (s : State) {t} : exec (.resyncTimeout t) s = execResyncTimeout t s := rfl
@[simp] theorem exec_shadowPeriodExpiry (s : State) {t} : exec (.shadowPeriodExpiry t) s = execShadowPeriodExpiry t s := rfl
@[simp] theorem exec_ledFallback (s : State) {t} : exec (.ledFallback t) s = execLedFallback t s := rfl
@[simp] theorem exec_abOpen (s : State) {t} {port} {addr} {clientId} {level} {nonce} : exec (.abOpen t port addr clientId level nonce) s = execAbOpen t port addr clientId level nonce s := rfl
@[simp] theorem exec_abAuth (s : State) {t} {via} : exec (.abAuth t via) s = execAbAuth t via s := rfl
@[simp] theorem exec_abClose (s : State) {t} {via} : exec (.abClose t via) s = execAbClose t via s := rfl
@[simp] theorem exec_abKeepalive (s : State) {t} {via} : exec (.abKeepalive t via) s = execAbKeepalive t via s := rfl
@[simp] theorem exec_abRead (s : State) {t} {via} {index} {sub} : exec (.abRead t via index sub) s = execAbRead t via index sub s := rfl
@[simp] theorem exec_abWrite (s : State) {t} {via} {index} {sub} {ty} {data} : exec (.abWrite t via index sub ty data) s = execAbWrite t via index sub ty data s := rfl
@[simp] theorem exec_abReadSegment (s : State) {t} {via} {index} {sub} {offset} {length} : exec (.abReadSegment t via index sub offset length) s = execAbReadSegment t via index sub offset length s := rfl
@[simp] theorem exec_abWriteSegment (s : State) {t} {via} {index} {sub} {offset} {total} {more} {data} : exec (.abWriteSegment t via index sub offset total more data) s = execAbWriteSegment t via index sub offset total more data s := rfl
@[simp] theorem exec_abBulkRead (s : State) {t} {via} {index} {sub} {offset} {length} : exec (.abBulkRead t via index sub offset length) s = execAbBulkRead t via index sub offset length s := rfl
@[simp] theorem exec_abReadSignal (s : State) {t} {via} {entry} : exec (.abReadSignal t via entry) s = execAbReadSignal t via entry s := rfl
@[simp] theorem exec_abWriteSignal (s : State) {t} {via} {entry} {ty} {data} : exec (.abWriteSignal t via entry ty data) s = execAbWriteSignal t via entry ty data s := rfl
@[simp] theorem exec_abEvents (s : State) {t} {via} {fromSeq} : exec (.abEvents t via fromSeq) s = execAbEvents t via fromSeq s := rfl
@[simp] theorem exec_sessionOpenTimeout (s : State) {t} {n} : exec (.sessionOpenTimeout t n) s = execSessionOpenTimeout t n s := rfl
@[simp] theorem exec_idleTimeout (s : State) {t} {n} : exec (.idleTimeout t n) s = execIdleTimeout t n s := rfl
@[simp] theorem exec_boundaryWrite (s : State) {t} {index} {sub} : exec (.boundaryWrite t index sub) s = execBoundaryWrite t index sub s := rfl
@[simp] theorem exec_keyWrite (s : State) {t} {via} {level} {key} : exec (.keyWrite t via level key) s = execKeyWrite t via level key s := rfl
@[simp] theorem exec_restoreDefaults (s : State) {t} {via} : exec (.restoreDefaults t via) s = execRestoreDefaults t via s := rfl
@[simp] theorem exec_recorderMeasurement (s : State) {t} {code} {item} {value} : exec (.recorderMeasurement t code item value) s = execRecorderMeasurement t code item value s := rfl
@[simp] theorem exec_recordWrite (s : State) {t} {region} {n} : exec (.recordWrite t region n) s = execRecordWrite t region n s := rfl
@[simp] theorem exec_recorderFault (s : State) {t} : exec (.recorderFault t) s = execRecorderFault t s := rfl
@[simp] theorem exec_codeMapWrite (s : State) {t} {via} {map} : exec (.codeMapWrite t via map) s = execCodeMapWrite t via map s := rfl
@[simp] theorem exec_updBegin (s : State) {t} {via} : exec (.updBegin t via) s = execUpdBegin t via s := rfl
@[simp] theorem exec_updBlock (s : State) {t} {via} {offset} {length} {crc} {data} : exec (.updBlock t via offset length crc data) s = execUpdBlock t via offset length crc data s := rfl
@[simp] theorem exec_updVerify (s : State) {t} {via} : exec (.updVerify t via) s = execUpdVerify t via s := rfl
@[simp] theorem exec_updVerifyComplete (s : State) {t} {badLanes} {commonsOk} : exec (.updVerifyComplete t badLanes commonsOk) s = execUpdVerifyComplete t badLanes commonsOk s := rfl
@[simp] theorem exec_updActivate (s : State) {t} {via} : exec (.updActivate t via) s = execUpdActivate t via s := rfl
@[simp] theorem exec_updAbort (s : State) {t} {via} : exec (.updAbort t via) s = execUpdAbort t via s := rfl
@[simp] theorem exec_trialFallback (s : State) {t} : exec (.trialFallback t) s = execTrialFallback t s := rfl
@[simp] theorem exec_fabricReserveExhausted (s : State) {t} : exec (.fabricReserveExhausted t) s = execFabricReserveExhausted t s := rfl
@[simp] theorem exec_pumpedRailAtHoldLevel (s : State) {t} {g} : exec (.pumpedRailAtHoldLevel t g) s = execPumpedRailAtHoldLevel t g s := rfl
@[simp] theorem exec_counterCauseCleared (s : State) {t} : exec (.counterCauseCleared t) s = execCounterCauseCleared t s := rfl
@[simp] theorem exec_delayReqSend (s : State) {t} {slot} {p} : exec (.delayReqSend t slot p) s = execDelayReqSend t slot p s := rfl
@[simp] theorem exec_announceSend (s : State) {t} {slot} {p} : exec (.announceSend t slot p) s = execAnnounceSend t slot p s := rfl
@[simp] theorem exec_consumerHeartbeatReceived (s : State) {t} {bus} {node} : exec (.consumerHeartbeatReceived t bus node) s = execConsumerHeartbeatReceived t bus node s := rfl
@[simp] theorem exec_cisternEccError (s : State) {t} : exec (.cisternEccError t) s = execCisternEccError t s := rfl
end Sys2Proof.Machine
end

