-- ==== Sys2Proof/Laws/Parts.lean ====
section
/-! SUPPORT. A numbered part reads as it was written, and its neighbours as before: groups and channels, instances, switch
ports, tasks, DMA rings, sessions, PTP slots, CAN buses. -/

set_option Elab.async false

namespace Sys2Proof.Machine

theorem getD_modAt {α : Type} {l : List α} {n : Nat} {f : α → α} {d : α} (h : n < l.length) :
    ((modAt n f l)[n]?).getD d = f ((l[n]?).getD d) := by
  unfold modAt
  rw [List.getElem?_modify]
  simp [List.getElem?_eq_getElem h]

theorem getD_modAt_other {α : Type} {l : List α} {n m : Nat} {f : α → α} {d : α} (h : m ≠ n) :
    ((modAt n f l)[m]?).getD d = (l[m]?).getD d := by
  unfold modAt
  rw [List.getElem?_modify]
  simp [Ne.symm h]

theorem State.modGroup_group {s : State} {g : Fin 8} {f : Group → Group} (h : s.Shaped) : (s.modGroup g f).group g = f (s.group g) :=
  getD_modAt (by rw [h.groups.1]; exact g.isLt)

theorem State.modGroup_other {s : State} {g k : Fin 8} {f : Group → Group} (h : k ≠ g) : (s.modGroup g f).group k = s.group k :=
  getD_modAt_other (fun e => h (Fin.ext e))

/-- Every group has its sixteen channels. -/
theorem State.group_chans {s : State} (h : s.Shaped) (g : Fin 8) : (s.group g).chans.length = 16 := by
  have hg : g.val < s.fio.groups.length := by rw [h.groups.1]; exact g.isLt
  unfold State.group
  rw [List.getElem?_eq_getElem hg]
  exact h.groups.2 _ (List.getElem_mem hg)

theorem Group.modChan_chan {q : Group} {c : Fin 16} {f : Chan → Chan} (h : q.chans.length = 16) : (q.modChan c f).chan c = f (q.chan c) :=
  getD_modAt (by rw [h]; exact c.isLt)

theorem Group.modChan_other {q : Group} {c k : Fin 16} {f : Chan → Chan} (h : k ≠ c) : (q.modChan c f).chan k = q.chan k :=
  getD_modAt_other (fun e => h (Fin.ext e))

theorem State.modChan_chan {s : State} {ch : Fin 128} {f : Chan → Chan} (h : s.Shaped) : (s.modChan ch f).chan ch = f (s.chan ch) := by
  unfold State.chan State.modChan
  rw [State.modGroup_group h]
  exact Group.modChan_chan (State.group_chans h _)

theorem State.modInst_inst {s : State} {i : Nat} {f : Inst → Inst} (h : s.Shaped) (hi : i < 16) : (s.modInst i f).inst i = f (s.inst i) :=
  getD_modAt (by rw [h.insts]; exact hi)

theorem State.modInst_other {s : State} {i k : Nat} {f : Inst → Inst} (h : k ≠ i) : (s.modInst i f).inst k = s.inst k :=
  getD_modAt_other h

theorem State.modPort_port {s : State} {p : Fin 11} {f : Port → Port} (h : s.Shaped) : (s.modPort p f).port p = f (s.port p) :=
  getD_modAt (by rw [h.ports]; exact p.isLt)

theorem State.modPort_other {s : State} {p q : Fin 11} {f : Port → Port} (h : q ≠ p) : (s.modPort p f).port q = s.port q :=
  getD_modAt_other (fun e => h (Fin.ext e))

theorem State.modTask_task {s : State} {t : Fin 16} {f : TaskSt → TaskSt} (h : s.Shaped) : (s.modTask t f).task t = f (s.task t) :=
  getD_modAt (by rw [h.tasks]; exact t.isLt)

theorem State.modTask_other {s : State} {t u : Fin 16} {f : TaskSt → TaskSt} (h : u ≠ t) : (s.modTask t f).task u = s.task u :=
  getD_modAt_other (fun e => h (Fin.ext e))

theorem State.modRing_ring {s : State} {r : Nat} {f : Ring → Ring} (h : s.Shaped) (hr : r < 64) : (s.modRing r f).ring r = f (s.ring r) :=
  getD_modAt (by rw [h.rings]; exact hr)

theorem State.modRing_other {s : State} {r k : Nat} {f : Ring → Ring} (h : k ≠ r) : (s.modRing r f).ring k = s.ring k :=
  getD_modAt_other h

theorem State.modSession_session {s : State} {n : Fin 9} {f : Session → Session} (h : s.Shaped) :
    (s.modSession n f).session n = f (s.session n) := getD_modAt (by rw [h.sessions]; exact n.isLt)

theorem State.modSession_other {s : State} {n m : Fin 9} {f : Session → Session} (h : m ≠ n) :
    (s.modSession n f).session m = s.session m := getD_modAt_other (fun e => h (Fin.ext e))

theorem State.modPtp_ptp {s : State} {j : Fin 2} {f : PtpSlot → PtpSlot} : (s.modPtp j f).ptp j = f (s.ptp j) := by
  unfold State.modPtp State.ptp
  split <;> rfl

theorem State.atTime_shaped {s : State} {t : Nat} (h : s.Shaped) : (s.atTime t).Shaped := ⟨h.1, h.2, h.3, h.4, h.5, h.6⟩

end Sys2Proof.Machine
end

