-- ==== Sys2Proof/Laws/Host.lean ====
section
/-! SUPPORT. A host request as the statements speak of it: a request that is admitted is served by its action; admission changes only the
sessions, the records and the frames sent; an answer only the sessions and the frames sent; a mirrored message only the pair and the frames
sent. The force table reads as it was written. -/

set_option Elab.async false

namespace Sys2Proof.Machine

theorem Only.lanA {l : List Part} {s t : State} (h : Only l s t) (h1 : l.contains .lanes = false) : t.lanA = s.lanA :=
  (h.1 .lanes h1).1.symm

theorem Only.lanB {l : List Part} {s t : State} (h : Only l s t) (h1 : l.contains .lanes = false) : t.lanB = s.lanB :=
  (h.1 .lanes h1).2.1.symm

theorem Only.lanC {l : List Part} {s t : State} (h : Only l s t) (h1 : l.contains .lanes = false) : t.lanC = s.lanC :=
  (h.1 .lanes h1).2.2.symm

theorem Only.evq {l : List Part} {s t : State} (h : Only l s t) (h1 : l.contains .records = false) : t.evq = s.evq :=
  (h.1 .records h1).1.symm

theorem Only.rcd {l : List Part} {s t : State} (h : Only l s t) (h1 : l.contains .records = false) : t.rcd = s.rcd :=
  (h.1 .records h1).2.symm

/-- A request that is admitted is served by its action. -/
theorem serve_admitted {via : Via} {f : ReqFrame} {act : Caller → State → State} {s q : State} {c : Caller}
    (h : admission via f s = (q, some c)) : serve via f act s = act c q := by
  unfold serve
  rw [h]

/-- A request that is not admitted is dealt with by its admission. -/
theorem serve_refused {via : Via} {f : ReqFrame} {act : Caller → State → State} {s q : State}
    (h : admission via f s = (q, none)) : serve via f act s = q := by
  unfold serve
  rw [h]

/-- Admission changes the sessions, the records and the frames sent. -/
theorem admit_only {via : Via} {f : ReqFrame} {s q : State} {o : Option Caller} (h : admission via f s = (q, o)) :
    q = { s with od := q.od, evq := q.evq, rcd := q.rcd, sent := q.sent } := by
  have k := only_admit (m0 := [.od, .records, .sent]) (z0 := s) (by decide) via f s (Only.refl _ _)
  rw [h] at k
  have e := k.2
  have hp : q = State.mk q.pending q.time q.ctl q.lanA q.lanB q.lanC q.rek q.cis q.fab q.fio q.sw q.tel q.bri q.pair q.od q.upd q.evq
    q.rcd q.sent q.freeCount q.serial q.issue := rfl
  have e1 := k.time rfl rfl
  have e2 := k.ctl rfl rfl
  have e3 := k.lanA rfl
  have e4 := k.lanB rfl
  have e5 := k.lanC rfl
  have e6 := k.rek rfl
  have e7 := k.cis rfl rfl
  have e8 := k.fab rfl
  have e9 := k.fio rfl
  have e10 := k.sw rfl
  have e11 := k.tel rfl
  have e12 := k.bri rfl rfl
  have e13 := k.pair rfl
  have e14 := k.upd rfl
  have e15 := k.free rfl
  dsimp only at *
  rw [hp, e.1, e.2.1, e.2.2, e1, e2, e3, e4, e5, e6, e7, e8, e9, e10, e11, e12, e13, e14, e15]

/-- An answer changes the sessions and the frames sent. -/
theorem respond_is (via : Via) (st : BitVec 16) (d : Bytes) (s : State) :
    respond via st d s = { s with od := (respond via st d s).od, sent := (respond via st d s).sent } := by
  have k := only_respond (m0 := [.od, .sent]) (z0 := s) (by decide) via st d s (Only.refl _ _)
  generalize respond via st d s = q at k ⊢
  have e := k.2
  have hp : q = State.mk q.pending q.time q.ctl q.lanA q.lanB q.lanC q.rek q.cis q.fab q.fio q.sw q.tel q.bri q.pair q.od q.upd q.evq
    q.rcd q.sent q.freeCount q.serial q.issue := rfl
  have e1 := k.time rfl rfl
  have e2 := k.ctl rfl rfl
  have e3 := k.lanA rfl
  have e4 := k.lanB rfl
  have e5 := k.lanC rfl
  have e6 := k.rek rfl
  have e7 := k.cis rfl rfl
  have e8 := k.fab rfl
  have e9 := k.fio rfl
  have e10 := k.sw rfl
  have e11 := k.tel rfl
  have e12 := k.bri rfl rfl
  have e13 := k.pair rfl
  have e14 := k.upd rfl
  have e15 := k.free rfl
  have e16 := k.evq rfl
  have e17 := k.rcd rfl
  rw [hp, e.1, e.2.1, e.2.2, e1, e2, e3, e4, e5, e6, e7, e8, e9, e10, e11, e12, e13, e14, e15, e16, e17]

/-- A mirrored message changes the pair's counters and the frames sent. -/
theorem mirror_is (m : MirrorMsg) (s : State) : mirror m s = { s with pair := (mirror m s).pair, sent := (mirror m s).sent } := by
  have k := only_mirror (m0 := [.pair, .sent]) (z0 := s) (by decide) m s (Only.refl _ _)
  generalize mirror m s = q at k ⊢
  have e := k.2
  have hp : q = State.mk q.pending q.time q.ctl q.lanA q.lanB q.lanC q.rek q.cis q.fab q.fio q.sw q.tel q.bri q.pair q.od q.upd q.evq
    q.rcd q.sent q.freeCount q.serial q.issue := rfl
  have e1 := k.time rfl rfl
  have e2 := k.ctl rfl rfl
  have e3 := k.lanA rfl
  have e4 := k.lanB rfl
  have e5 := k.lanC rfl
  have e6 := k.rek rfl
  have e7 := k.cis rfl rfl
  have e8 := k.fab rfl
  have e9 := k.fio rfl
  have e10 := k.sw rfl
  have e11 := k.tel rfl
  have e12 := k.bri rfl rfl
  have e13 := k.od rfl
  have e14 := k.upd rfl
  have e15 := k.free rfl
  have e16 := k.evq rfl
  have e17 := k.rcd rfl
  rw [hp, e.1, e.2.1, e.2.2, e1, e2, e3, e4, e5, e6, e7, e8, e9, e10, e11, e12, e13, e14, e15, e16, e17]

@[simp] theorem respond_pending (via : Via) (st : BitVec 16) (d : Bytes) (s : State) : (respond via st d s).pending = s.pending := by rw [respond_is]
@[simp] theorem respond_time (via : Via) (st : BitVec 16) (d : Bytes) (s : State) : (respond via st d s).time = s.time := by rw [respond_is]
@[simp] theorem respond_ctl (via : Via) (st : BitVec 16) (d : Bytes) (s : State) : (respond via st d s).ctl = s.ctl := by rw [respond_is]
@[simp] theorem respond_lanA (via : Via) (st : BitVec 16) (d : Bytes) (s : State) : (respond via st d s).lanA = s.lanA := by rw [respond_is]
@[simp] theorem respond_lanB (via : Via) (st : BitVec 16) (d : Bytes) (s : State) : (respond via st d s).lanB = s.lanB := by rw [respond_is]
@[simp] theorem respond_lanC (via : Via) (st : BitVec 16) (d : Bytes) (s : State) : (respond via st d s).lanC = s.lanC := by rw [respond_is]
@[simp] theorem respond_rek (via : Via) (st : BitVec 16) (d : Bytes) (s : State) : (respond via st d s).rek = s.rek := by rw [respond_is]
@[simp] theorem respond_cis (via : Via) (st : BitVec 16) (d : Bytes) (s : State) : (respond via st d s).cis = s.cis := by rw [respond_is]
@[simp] theorem respond_fab (via : Via) (st : BitVec 16) (d : Bytes) (s : State) : (respond via st d s).fab = s.fab := by rw [respond_is]
@[simp] theorem respond_fio (via : Via) (st : BitVec 16) (d : Bytes) (s : State) : (respond via st d s).fio = s.fio := by rw [respond_is]
@[simp] theorem respond_sw (via : Via) (st : BitVec 16) (d : Bytes) (s : State) : (respond via st d s).sw = s.sw := by rw [respond_is]
@[simp] theorem respond_tel (via : Via) (st : BitVec 16) (d : Bytes) (s : State) : (respond via st d s).tel = s.tel := by rw [respond_is]
@[simp] theorem respond_bri (via : Via) (st : BitVec 16) (d : Bytes) (s : State) : (respond via st d s).bri = s.bri := by rw [respond_is]
@[simp] theorem respond_upd (via : Via) (st : BitVec 16) (d : Bytes) (s : State) : (respond via st d s).upd = s.upd := by rw [respond_is]
@[simp] theorem respond_evq (via : Via) (st : BitVec 16) (d : Bytes) (s : State) : (respond via st d s).evq = s.evq := by rw [respond_is]
@[simp] theorem respond_rcd (via : Via) (st : BitVec 16) (d : Bytes) (s : State) : (respond via st d s).rcd = s.rcd := by rw [respond_is]
@[simp] theorem respond_freeCount (via : Via) (st : BitVec 16) (d : Bytes) (s : State) : (respond via st d s).freeCount = s.freeCount := by rw [respond_is]
@[simp] theorem respond_serial (via : Via) (st : BitVec 16) (d : Bytes) (s : State) : (respond via st d s).serial = s.serial := by rw [respond_is]
@[simp] theorem respond_issue (via : Via) (st : BitVec 16) (d : Bytes) (s : State) : (respond via st d s).issue = s.issue := by rw [respond_is]
@[simp] theorem respond_pair (via : Via) (st : BitVec 16) (d : Bytes) (s : State) : (respond via st d s).pair = s.pair := by rw [respond_is]

@[simp] theorem mirror_pending (m : MirrorMsg) (s : State) : (mirror m s).pending = s.pending := by rw [mirror_is]
@[simp] theorem mirror_time (m : MirrorMsg) (s : State) : (mirror m s).time = s.time := by rw [mirror_is]
@[simp] theorem mirror_ctl (m : MirrorMsg) (s : State) : (mirror m s).ctl = s.ctl := by rw [mirror_is]
@[simp] theorem mirror_lanA (m : MirrorMsg) (s : State) : (mirror m s).lanA = s.lanA := by rw [mirror_is]
@[simp] theorem mirror_lanB (m : MirrorMsg) (s : State) : (mirror m s).lanB = s.lanB := by rw [mirror_is]
@[simp] theorem mirror_lanC (m : MirrorMsg) (s : State) : (mirror m s).lanC = s.lanC := by rw [mirror_is]
@[simp] theorem mirror_rek (m : MirrorMsg) (s : State) : (mirror m s).rek = s.rek := by rw [mirror_is]
@[simp] theorem mirror_cis (m : MirrorMsg) (s : State) : (mirror m s).cis = s.cis := by rw [mirror_is]
@[simp] theorem mirror_fab (m : MirrorMsg) (s : State) : (mirror m s).fab = s.fab := by rw [mirror_is]
@[simp] theorem mirror_fio (m : MirrorMsg) (s : State) : (mirror m s).fio = s.fio := by rw [mirror_is]
@[simp] theorem mirror_sw (m : MirrorMsg) (s : State) : (mirror m s).sw = s.sw := by rw [mirror_is]
@[simp] theorem mirror_tel (m : MirrorMsg) (s : State) : (mirror m s).tel = s.tel := by rw [mirror_is]
@[simp] theorem mirror_bri (m : MirrorMsg) (s : State) : (mirror m s).bri = s.bri := by rw [mirror_is]
@[simp] theorem mirror_upd (m : MirrorMsg) (s : State) : (mirror m s).upd = s.upd := by rw [mirror_is]
@[simp] theorem mirror_evq (m : MirrorMsg) (s : State) : (mirror m s).evq = s.evq := by rw [mirror_is]
@[simp] theorem mirror_rcd (m : MirrorMsg) (s : State) : (mirror m s).rcd = s.rcd := by rw [mirror_is]
@[simp] theorem mirror_freeCount (m : MirrorMsg) (s : State) : (mirror m s).freeCount = s.freeCount := by rw [mirror_is]
@[simp] theorem mirror_serial (m : MirrorMsg) (s : State) : (mirror m s).serial = s.serial := by rw [mirror_is]
@[simp] theorem mirror_issue (m : MirrorMsg) (s : State) : (mirror m s).issue = s.issue := by rw [mirror_is]
@[simp] theorem mirror_od (m : MirrorMsg) (s : State) : (mirror m s).od = s.od := by rw [mirror_is]

theorem admit_pending {via : Via} {f : ReqFrame} {s q : State} {o : Option Caller} (h : admission via f s = (q, o)) : q.pending = s.pending := by rw [admit_only h]
theorem admit_time {via : Via} {f : ReqFrame} {s q : State} {o : Option Caller} (h : admission via f s = (q, o)) : q.time = s.time := by rw [admit_only h]
theorem admit_ctl {via : Via} {f : ReqFrame} {s q : State} {o : Option Caller} (h : admission via f s = (q, o)) : q.ctl = s.ctl := by rw [admit_only h]
theorem admit_lanA {via : Via} {f : ReqFrame} {s q : State} {o : Option Caller} (h : admission via f s = (q, o)) : q.lanA = s.lanA := by rw [admit_only h]
theorem admit_lanB {via : Via} {f : ReqFrame} {s q : State} {o : Option Caller} (h : admission via f s = (q, o)) : q.lanB = s.lanB := by rw [admit_only h]
theorem admit_lanC {via : Via} {f : ReqFrame} {s q : State} {o : Option Caller} (h : admission via f s = (q, o)) : q.lanC = s.lanC := by rw [admit_only h]
theorem admit_rek {via : Via} {f : ReqFrame} {s q : State} {o : Option Caller} (h : admission via f s = (q, o)) : q.rek = s.rek := by rw [admit_only h]
theorem admit_cis {via : Via} {f : ReqFrame} {s q : State} {o : Option Caller} (h : admission via f s = (q, o)) : q.cis = s.cis := by rw [admit_only h]
theorem admit_fab {via : Via} {f : ReqFrame} {s q : State} {o : Option Caller} (h : admission via f s = (q, o)) : q.fab = s.fab := by rw [admit_only h]
theorem admit_fio {via : Via} {f : ReqFrame} {s q : State} {o : Option Caller} (h : admission via f s = (q, o)) : q.fio = s.fio := by rw [admit_only h]
theorem admit_sw {via : Via} {f : ReqFrame} {s q : State} {o : Option Caller} (h : admission via f s = (q, o)) : q.sw = s.sw := by rw [admit_only h]
theorem admit_tel {via : Via} {f : ReqFrame} {s q : State} {o : Option Caller} (h : admission via f s = (q, o)) : q.tel = s.tel := by rw [admit_only h]
theorem admit_bri {via : Via} {f : ReqFrame} {s q : State} {o : Option Caller} (h : admission via f s = (q, o)) : q.bri = s.bri := by rw [admit_only h]
theorem admit_upd {via : Via} {f : ReqFrame} {s q : State} {o : Option Caller} (h : admission via f s = (q, o)) : q.upd = s.upd := by rw [admit_only h]
theorem admit_freeCount {via : Via} {f : ReqFrame} {s q : State} {o : Option Caller} (h : admission via f s = (q, o)) : q.freeCount = s.freeCount := by rw [admit_only h]
theorem admit_serial {via : Via} {f : ReqFrame} {s q : State} {o : Option Caller} (h : admission via f s = (q, o)) : q.serial = s.serial := by rw [admit_only h]
theorem admit_issue {via : Via} {f : ReqFrame} {s q : State} {o : Option Caller} (h : admission via f s = (q, o)) : q.issue = s.issue := by rw [admit_only h]
theorem admit_pair {via : Via} {f : ReqFrame} {s q : State} {o : Option Caller} (h : admission via f s = (q, o)) : q.pair = s.pair := by rw [admit_only h]

@[simp] theorem respond_lane (via : Via) (st : BitVec 16) (d : Bytes) (s : State) (l : Lane) : (respond via st d s).lane l = s.lane l := by
  rw [respond_is]; cases l <;> rfl

@[simp] theorem mirror_lane (m : MirrorMsg) (s : State) (l : Lane) : (mirror m s).lane l = s.lane l := by
  rw [mirror_is]; cases l <;> rfl

theorem admit_lane {via : Via} {f : ReqFrame} {s q : State} {o : Option Caller} (h : admission via f s = (q, o)) (l : Lane) :
    q.lane l = s.lane l := by
  rw [admit_only h]; cases l <;> rfl

/-- A force entry reads as it was written. -/
@[simp] theorem putForce_force (k : Nat) (f : Force) (s : State) : (putForce k f s).force k = f := by
  unfold putForce State.force
  dsimp only
  generalize s.ctl.forces = l
  induction l with
  | nil => simp [setKey, lookupKey]
  | cons e r ih =>
    unfold setKey
    split <;> simp_all [lookupKey]

@[simp] theorem respond_force (via : Via) (st : BitVec 16) (d : Bytes) (s : State) (k : Nat) :
    (respond via st d s).force k = s.force k := by
  unfold State.force; simp

@[simp] theorem mirror_force (m : MirrorMsg) (s : State) (k : Nat) : (mirror m s).force k = s.force k := by
  unfold State.force; simp

@[simp] theorem raiseFrom_force (x : BitVec 8) (c : Code) (d : Bytes) (s : State) (k : Nat) : (raiseFrom x c d s).force k = s.force k := by
  unfold State.force; simp

end Sys2Proof.Machine
end

