-- ==== Sys2Proof/Laws/KeepsA.lean ====
section
/-! SUPPORT. The invariant of Laws/Kept.lean is kept by: the shared operations, events, the XPC set. -/

set_option Elab.async false

set_option linter.all false

namespace Sys2Proof.Machine

theorem keeps_State_setLane {k : Fixed} (s : State) (a1) (a2) (h : Inv k s) : Inv k (State.setLane s a1 a2) := by
  unfold State.setLane
  repeat' first
    | with_reducible assumption | (simp only [↓Inv_mk]; refine Holds_of ?_ ?_ ?_ ?_ ?_ ?_; rfl; rfl; rfl; rfl; exact ⟨rfl, rfl, rfl, rfl, rfl, id⟩) | split

theorem keeps_State_modLane {k : Fixed} (s : State) (a1) (a2) (h : Inv k s) : Inv k (State.modLane s a1 a2) := by
  unfold State.modLane
  repeat' first | with_reducible assumption | with_reducible apply keeps_State_setLane

theorem keeps_State_modLanes {k : Fixed} (s : State) (a1) (h : Inv k s) : Inv k (State.modLanes s a1) := by
  unfold State.modLanes
  repeat' first
    | with_reducible assumption | (simp only [↓Inv_mk]; refine Holds_of ?_ ?_ ?_ ?_ ?_ ?_; rfl; rfl; rfl; rfl; exact ⟨rfl, rfl, rfl, rfl, rfl, id⟩)

theorem keeps_State_setCore {k : Fixed} (s : State) (a1) (a2) (a3) (h : Inv k s) : Inv k (State.setCore s a1 a2 a3) := by
  unfold State.setCore
  repeat' first | with_reducible assumption | with_reducible apply keeps_State_setLane

theorem keeps_State_modGroup {k : Fixed} (s : State) (a1) (a2 : Group → Group)
    (hf : ∀ q, q.chans.length = 16 → (a2 q).chans.length = 16) (h : Inv k s) : Inv k (State.modGroup s a1 a2) := by
  unfold State.modGroup
  simp only [↓Inv_mk]
  exact Holds_of rfl rfl rfl rfl ⟨rfl, rfl, rfl, rfl, rfl, groupsOk_modAt hf⟩ h

theorem keeps_State_modChan {k : Fixed} (s : State) (a1) (a2) (h : Inv k s) : Inv k (State.modChan s a1 a2) := by
  unfold State.modChan
  refine keeps_State_modGroup _ _ _ (fun q hq => ?_) h
  unfold Group.modChan
  rw [modAt, List.length_modify]
  exact hq

theorem keeps_State_atTime {k : Fixed} (s : State) (a1) (h : Inv k s) : Inv k (State.atTime s a1) := by
  unfold State.atTime
  repeat' first
    | with_reducible assumption | (simp only [↓Inv_mk]; refine Holds_of ?_ ?_ ?_ ?_ ?_ ?_; rfl; rfl; rfl; rfl; exact ⟨rfl, rfl, rfl, rfl, rfl, id⟩)

theorem keeps_State_tick {k : Fixed} (s : State) (h : Inv k s) : Inv k (State.tick s) := by
  unfold State.tick
  repeat' first
    | with_reducible assumption | (simp only [↓Inv_mk]; refine Holds_of ?_ ?_ ?_ ?_ ?_ ?_; rfl; rfl; rfl; rfl; exact ⟨rfl, rfl, rfl, rfl, rfl, id⟩)

theorem keeps_State_emit {k : Fixed} (s : State) (a1) (h : Inv k s) : Inv k (State.emit s a1) := by
  unfold State.emit
  repeat' first
    | with_reducible assumption | (simp only [↓Inv_mk]; refine Holds_of ?_ ?_ ?_ ?_ ?_ ?_; rfl; rfl; rfl; rfl; exact ⟨rfl, rfl, rfl, rfl, rfl, id⟩)

theorem keeps_State_emitAll {k : Fixed} (s : State) (a1) (h : Inv k s) : Inv k (State.emitAll s a1) := by
  unfold State.emitAll
  repeat' first
    | with_reducible assumption | (simp only [↓Inv_mk]; refine Holds_of ?_ ?_ ?_ ?_ ?_ ?_; rfl; rfl; rfl; rfl; exact ⟨rfl, rfl, rfl, rfl, rfl, id⟩)

theorem keeps_raise {k : Fixed} (a0) (a1) (s : State) (h : Inv k s) : Inv k (raise a0 a1 s) := by
  unfold raise
  repeat' first | with_reducible assumption | with_reducible apply keeps_raiseFrom

theorem keeps_raiseLane {k : Fixed} (a0) (a1) (a2) (s : State) (h : Inv k s) : Inv k (raiseLane a0 a1 a2 s) := by
  unfold raiseLane
  repeat' first | with_reducible assumption | with_reducible apply keeps_raiseFrom

theorem keeps_raiseFab {k : Fixed} (a0) (a1) (s : State) (h : Inv k s) : Inv k (raiseFab a0 a1 s) := by
  unfold raiseFab
  repeat' first | with_reducible assumption | with_reducible apply keeps_raiseFrom

theorem keeps_raiseIf {k : Fixed} (a0) (a1) (a2) (s : State) (h : Inv k s) : Inv k (raiseIf a0 a1 a2 s) := by
  unfold raiseIf
  repeat' first
    | with_reducible assumption | with_reducible apply keeps_raise | with_reducible refine Inv_ite ?_ ?_ | intro _

theorem keeps_State_odSet {k : Fixed} (s : State) (a1) (a2) (a3) (h : Inv k s) : Inv k (State.odSet s a1 a2 a3) := by
  unfold State.odSet
  repeat' first
    | with_reducible assumption | (simp only [↓Inv_mk]; refine Holds_of ?_ ?_ ?_ ?_ ?_ ?_; rfl; rfl; rfl; rfl; exact ⟨rfl, rfl, rfl, rfl, rfl, id⟩)

theorem keeps_State_putRun {k : Fixed} (s : State) (a1) (a2) (a3) (h : Inv k s) : Inv k (State.putRun s a1 a2 a3) := by
  unfold State.putRun
  repeat' first | with_reducible assumption | with_reducible apply keeps_State_setCore

theorem keeps_State_dropRun {k : Fixed} (s : State) (a1) (a2) (h : Inv k s) : Inv k (State.dropRun s a1 a2) := by
  unfold State.dropRun
  repeat' first | with_reducible assumption | with_reducible apply keeps_State_setCore

theorem keeps_stopRun {k : Fixed} (a0) (a1) (a2) (a3) (a4) (s : State) (h : Inv k s) :
    Inv k (stopRun a0 a1 a2 a3 a4 s) := by
  unfold stopRun
  repeat' first
    | with_reducible assumption | with_reducible apply keeps_State_dropRun
    | (simp only [↓Inv_mk]; refine Holds_of ?_ ?_ ?_ ?_ ?_ ?_; rfl; rfl; rfl; rfl; exact ⟨rfl, rfl, rfl, rfl, rfl, id⟩)

theorem keeps_xpcSettle {k : Fixed} (ln c close td r res) (s : State) (h : Inv k s) (hf : ∀ a b s, Inv k s → Inv k (close a b s)) :
    Inv k (xpcSettle ln c close td r res s) := by
  unfold xpcSettle
  repeat' first
    | with_reducible assumption | with_reducible apply hf | with_reducible apply keeps_State_putRun
    | with_reducible apply keeps_stopRun | split

theorem keeps_xpcCore {k : Fixed} (ln c w st close f) (s : State) (h : Inv k s) (hf : ∀ a b s, Inv k s → Inv k (close a b s)) :
    Inv k (xpcCore ln c w st close f s) := by
  unfold xpcCore
  repeat' first
    | with_reducible assumption | with_reducible apply hf | with_reducible apply keeps_stopRun
    | with_reducible apply keeps_xpcSettle | intro _ | split

theorem keeps_replayWrite {k : Fixed} (a0) (a1) (a2) (s : State) (h : Inv k s) : Inv k (replayWrite a0 a1 a2 s) := by
  unfold replayWrite
  repeat' first | with_reducible assumption | with_reducible apply keeps_xpcSettle | intro _ | split

theorem keeps_debugReplay {k : Fixed} (a0) (a1) (s : State) (h : Inv k s) : Inv k (debugReplay a0 a1 s) := by
  unfold debugReplay
  repeat' first
    | with_reducible assumption | with_reducible apply keeps_replayWrite | with_reducible apply keeps_foldl | intro _
    | (simp only [↓Inv_mk]; refine Holds_of ?_ ?_ ?_ ?_ ?_ ?_; rfl; rfl; rfl; rfl; exact ⟨rfl, rfl, rfl, rfl, rfl, id⟩) | split

theorem keeps_xpcRun {k : Fixed} (ln c w st close f) (s : State) (h : Inv k s) (hf : ∀ a b s, Inv k s → Inv k (close a b s)) :
    Inv k (xpcRun ln c w st close f s) := by
  unfold xpcRun
  repeat' first
    | with_reducible assumption | with_reducible apply hf | with_reducible apply keeps_debugReplay
    | with_reducible apply keeps_xpcCore | with_reducible refine Inv_ite ?_ ?_ | intro _

theorem keeps_closeRun {k : Fixed} (a0) (a1) (a2) (a3) (s : State) (h : Inv k s) : Inv k (closeRun a0 a1 a2 a3 s) := by
  unfold closeRun
  repeat' first
    | with_reducible assumption | with_reducible apply keeps_State_dropRun | with_reducible apply keeps_State_modLane
    | with_reducible apply keeps_State_emit | with_reducible apply keeps_stopRun | intro _
    | (simp only [↓Inv_mk]; refine Holds_of ?_ ?_ ?_ ?_ ?_ ?_; rfl; rfl; rfl; rfl; exact ⟨rfl, rfl, rfl, rfl, rfl, id⟩) | split

theorem keeps_xpc {k : Fixed} (a0) (a1) (a2) (a3) (a4) (s : State) (h : Inv k s) : Inv k (xpc a0 a1 a2 a3 a4 s) := by
  unfold xpc
  repeat' first | with_reducible assumption | with_reducible apply keeps_xpcRun | with_reducible apply keeps_closeRun

theorem keeps_xpcD {k : Fixed} (a0) (a1) (a2) (a3) (a4) (s : State) (h : Inv k s) : Inv k (xpcD a0 a1 a2 a3 a4 s) := by
  unfold xpcD
  repeat' first | with_reducible assumption | with_reducible apply keeps_xpc

theorem keeps_execXMov {k : Fixed} (a0) (a1) (a2) (a3) (a4) (s : State) (h : Inv k s) :
    OutInv k (execXMov a0 a1 a2 a3 a4 s) := by
  unfold execXMov
  repeat' first
    | with_reducible assumption | with_reducible apply keeps_xpcD | with_reducible refine OutInv_next.mpr ?_

theorem keeps_execXLdi {k : Fixed} (a0) (a1) (a2) (a3) (a4) (s : State) (h : Inv k s) :
    OutInv k (execXLdi a0 a1 a2 a3 a4 s) := by
  unfold execXLdi
  repeat' first
    | with_reducible assumption | with_reducible apply keeps_xpcD | with_reducible refine OutInv_next.mpr ?_

theorem keeps_execXCvt {k : Fixed} (a0) (a1) (a2) (a3) (a4) (a5) (s : State) (h : Inv k s) :
    OutInv k (execXCvt a0 a1 a2 a3 a4 a5 s) := by
  unfold execXCvt
  repeat' first
    | with_reducible assumption | with_reducible apply keeps_xpcD | with_reducible refine OutInv_next.mpr ?_

theorem keeps_execXSel {k : Fixed} (a0) (a1) (a2) (a3) (a4) (a5) (s : State) (h : Inv k s) :
    OutInv k (execXSel a0 a1 a2 a3 a4 a5 s) := by
  unfold execXSel
  repeat' first
    | with_reducible assumption | with_reducible apply keeps_xpcD | with_reducible refine OutInv_next.mpr ?_

theorem keeps_execXLd {k : Fixed} (a0) (a1) (a2) (a3) (a4) (a5) (a6) (a7) (s : State) (h : Inv k s) :
    OutInv k (execXLd a0 a1 a2 a3 a4 a5 a6 a7 s) := by
  unfold execXLd
  repeat' first
    | with_reducible assumption | with_reducible apply keeps_xpc | with_reducible refine OutInv_next.mpr ?_

theorem keeps_execXSt {k : Fixed} (a0) (a1) (a2) (a3) (a4) (a5) (a6) (s : State) (h : Inv k s) :
    OutInv k (execXSt a0 a1 a2 a3 a4 a5 a6 s) := by
  unfold execXSt
  repeat' first
    | with_reducible assumption | with_reducible apply keeps_xpc | with_reducible refine OutInv_next.mpr ?_

theorem keeps_execXStl {k : Fixed} (a0) (a1) (a2) (a3) (a4) (a5) (a6) (s : State) (h : Inv k s) :
    OutInv k (execXStl a0 a1 a2 a3 a4 a5 a6 s) := by
  unfold execXStl
  repeat' first
    | with_reducible assumption | with_reducible apply keeps_xpc | with_reducible refine OutInv_next.mpr ?_

theorem keeps_execXAdd {k : Fixed} (a0) (a1) (a2) (a3) (a4) (a5) (s : State) (h : Inv k s) :
    OutInv k (execXAdd a0 a1 a2 a3 a4 a5 s) := by
  unfold execXAdd
  repeat' first
    | with_reducible assumption | with_reducible apply keeps_xpcD | with_reducible refine OutInv_next.mpr ?_

theorem keeps_execXSub {k : Fixed} (a0) (a1) (a2) (a3) (a4) (a5) (s : State) (h : Inv k s) :
    OutInv k (execXSub a0 a1 a2 a3 a4 a5 s) := by
  unfold execXSub
  repeat' first
    | with_reducible assumption | with_reducible apply keeps_xpcD | with_reducible refine OutInv_next.mpr ?_

theorem keeps_execXMul {k : Fixed} (a0) (a1) (a2) (a3) (a4) (a5) (s : State) (h : Inv k s) :
    OutInv k (execXMul a0 a1 a2 a3 a4 a5 s) := by
  unfold execXMul
  repeat' first
    | with_reducible assumption | with_reducible apply keeps_xpcD | with_reducible refine OutInv_next.mpr ?_

theorem keeps_execXDiv {k : Fixed} (a0) (a1) (a2) (a3) (a4) (a5) (s : State) (h : Inv k s) :
    OutInv k (execXDiv a0 a1 a2 a3 a4 a5 s) := by
  unfold execXDiv
  repeat' first
    | with_reducible assumption | with_reducible apply keeps_xpcD | with_reducible refine OutInv_next.mpr ?_

theorem keeps_execXRem {k : Fixed} (a0) (a1) (a2) (a3) (a4) (a5) (s : State) (h : Inv k s) :
    OutInv k (execXRem a0 a1 a2 a3 a4 a5 s) := by
  unfold execXRem
  repeat' first
    | with_reducible assumption | with_reducible apply keeps_xpcD | with_reducible refine OutInv_next.mpr ?_

theorem keeps_execXNeg {k : Fixed} (a0) (a1) (a2) (a3) (a4) (s : State) (h : Inv k s) :
    OutInv k (execXNeg a0 a1 a2 a3 a4 s) := by
  unfold execXNeg
  repeat' first
    | with_reducible assumption | with_reducible apply keeps_xpcD | with_reducible refine OutInv_next.mpr ?_

theorem keeps_execXAbs {k : Fixed} (a0) (a1) (a2) (a3) (a4) (s : State) (h : Inv k s) :
    OutInv k (execXAbs a0 a1 a2 a3 a4 s) := by
  unfold execXAbs
  repeat' first
    | with_reducible assumption | with_reducible apply keeps_xpcD | with_reducible refine OutInv_next.mpr ?_

theorem keeps_execXMin {k : Fixed} (a0) (a1) (a2) (a3) (a4) (a5) (s : State) (h : Inv k s) :
    OutInv k (execXMin a0 a1 a2 a3 a4 a5 s) := by
  unfold execXMin
  repeat' first
    | with_reducible assumption | with_reducible apply keeps_xpcD | with_reducible refine OutInv_next.mpr ?_

theorem keeps_execXMax {k : Fixed} (a0) (a1) (a2) (a3) (a4) (a5) (s : State) (h : Inv k s) :
    OutInv k (execXMax a0 a1 a2 a3 a4 a5 s) := by
  unfold execXMax
  repeat' first
    | with_reducible assumption | with_reducible apply keeps_xpcD | with_reducible refine OutInv_next.mpr ?_

theorem keeps_execXAdds {k : Fixed} (a0) (a1) (a2) (a3) (a4) (a5) (s : State) (h : Inv k s) :
    OutInv k (execXAdds a0 a1 a2 a3 a4 a5 s) := by
  unfold execXAdds
  repeat' first
    | with_reducible assumption | with_reducible apply keeps_xpcD | with_reducible refine OutInv_next.mpr ?_

theorem keeps_execXSubs {k : Fixed} (a0) (a1) (a2) (a3) (a4) (a5) (s : State) (h : Inv k s) :
    OutInv k (execXSubs a0 a1 a2 a3 a4 a5 s) := by
  unfold execXSubs
  repeat' first
    | with_reducible assumption | with_reducible apply keeps_xpcD | with_reducible refine OutInv_next.mpr ?_

theorem keeps_execXSqrt {k : Fixed} (a0) (a1) (a2) (a3) (a4) (s : State) (h : Inv k s) :
    OutInv k (execXSqrt a0 a1 a2 a3 a4 s) := by
  unfold execXSqrt
  repeat' first
    | with_reducible assumption | with_reducible apply keeps_xpcD | with_reducible refine OutInv_next.mpr ?_

theorem keeps_execXAddi {k : Fixed} (a0) (a1) (a2) (a3) (a4) (a5) (s : State) (h : Inv k s) :
    OutInv k (execXAddi a0 a1 a2 a3 a4 a5 s) := by
  unfold execXAddi
  repeat' first
    | with_reducible assumption | with_reducible apply keeps_xpcD | with_reducible refine OutInv_next.mpr ?_

theorem keeps_execXRint {k : Fixed} (a0) (a1) (a2) (a3) (a4) (s : State) (h : Inv k s) :
    OutInv k (execXRint a0 a1 a2 a3 a4 s) := by
  unfold execXRint
  repeat' first
    | with_reducible assumption | with_reducible apply keeps_xpcD | with_reducible refine OutInv_next.mpr ?_

theorem keeps_execXLimit {k : Fixed} (a0) (a1) (a2) (a3) (a4) (a5) (s : State) (h : Inv k s) :
    OutInv k (execXLimit a0 a1 a2 a3 a4 a5 s) := by
  unfold execXLimit
  repeat' first
    | with_reducible assumption | with_reducible apply keeps_xpcD | with_reducible refine OutInv_next.mpr ?_

theorem keeps_execXAnd {k : Fixed} (a0) (a1) (a2) (a3) (a4) (a5) (s : State) (h : Inv k s) :
    OutInv k (execXAnd a0 a1 a2 a3 a4 a5 s) := by
  unfold execXAnd
  repeat' first
    | with_reducible assumption | with_reducible apply keeps_xpcD | with_reducible refine OutInv_next.mpr ?_

theorem keeps_execXOr {k : Fixed} (a0) (a1) (a2) (a3) (a4) (a5) (s : State) (h : Inv k s) :
    OutInv k (execXOr a0 a1 a2 a3 a4 a5 s) := by
  unfold execXOr
  repeat' first
    | with_reducible assumption | with_reducible apply keeps_xpcD | with_reducible refine OutInv_next.mpr ?_

theorem keeps_execXXor {k : Fixed} (a0) (a1) (a2) (a3) (a4) (a5) (s : State) (h : Inv k s) :
    OutInv k (execXXor a0 a1 a2 a3 a4 a5 s) := by
  unfold execXXor
  repeat' first
    | with_reducible assumption | with_reducible apply keeps_xpcD | with_reducible refine OutInv_next.mpr ?_

theorem keeps_execXNot {k : Fixed} (a0) (a1) (a2) (a3) (a4) (s : State) (h : Inv k s) :
    OutInv k (execXNot a0 a1 a2 a3 a4 s) := by
  unfold execXNot
  repeat' first
    | with_reducible assumption | with_reducible apply keeps_xpcD | with_reducible refine OutInv_next.mpr ?_

theorem keeps_execXShl {k : Fixed} (a0) (a1) (a2) (a3) (a4) (a5) (s : State) (h : Inv k s) :
    OutInv k (execXShl a0 a1 a2 a3 a4 a5 s) := by
  unfold execXShl
  repeat' first
    | with_reducible assumption | with_reducible apply keeps_xpcD | with_reducible refine OutInv_next.mpr ?_

theorem keeps_execXShr {k : Fixed} (a0) (a1) (a2) (a3) (a4) (a5) (s : State) (h : Inv k s) :
    OutInv k (execXShr a0 a1 a2 a3 a4 a5 s) := by
  unfold execXShr
  repeat' first
    | with_reducible assumption | with_reducible apply keeps_xpcD | with_reducible refine OutInv_next.mpr ?_

theorem keeps_execXShli {k : Fixed} (a0) (a1) (a2) (a3) (a4) (a5) (s : State) (h : Inv k s) :
    OutInv k (execXShli a0 a1 a2 a3 a4 a5 s) := by
  unfold execXShli
  repeat' first
    | with_reducible assumption | with_reducible apply keeps_xpcD | with_reducible refine OutInv_next.mpr ?_

theorem keeps_execXShri {k : Fixed} (a0) (a1) (a2) (a3) (a4) (a5) (s : State) (h : Inv k s) :
    OutInv k (execXShri a0 a1 a2 a3 a4 a5 s) := by
  unfold execXShri
  repeat' first
    | with_reducible assumption | with_reducible apply keeps_xpcD | with_reducible refine OutInv_next.mpr ?_

theorem keeps_execXRol {k : Fixed} (a0) (a1) (a2) (a3) (a4) (a5) (s : State) (h : Inv k s) :
    OutInv k (execXRol a0 a1 a2 a3 a4 a5 s) := by
  unfold execXRol
  repeat' first
    | with_reducible assumption | with_reducible apply keeps_xpcD | with_reducible refine OutInv_next.mpr ?_

theorem keeps_execXRor {k : Fixed} (a0) (a1) (a2) (a3) (a4) (a5) (s : State) (h : Inv k s) :
    OutInv k (execXRor a0 a1 a2 a3 a4 a5 s) := by
  unfold execXRor
  repeat' first
    | with_reducible assumption | with_reducible apply keeps_xpcD | with_reducible refine OutInv_next.mpr ?_

theorem keeps_execXGetb {k : Fixed} (a0) (a1) (a2) (a3) (a4) (a5) (s : State) (h : Inv k s) :
    OutInv k (execXGetb a0 a1 a2 a3 a4 a5 s) := by
  unfold execXGetb
  repeat' first
    | with_reducible assumption | with_reducible apply keeps_xpcD | with_reducible refine OutInv_next.mpr ?_

theorem keeps_execXSetb {k : Fixed} (a0) (a1) (a2) (a3) (a4) (a5) (s : State) (h : Inv k s) :
    OutInv k (execXSetb a0 a1 a2 a3 a4 a5 s) := by
  unfold execXSetb
  repeat' first
    | with_reducible assumption | with_reducible apply keeps_xpcD | with_reducible refine OutInv_next.mpr ?_

theorem keeps_execXClrb {k : Fixed} (a0) (a1) (a2) (a3) (a4) (a5) (s : State) (h : Inv k s) :
    OutInv k (execXClrb a0 a1 a2 a3 a4 a5 s) := by
  unfold execXClrb
  repeat' first
    | with_reducible assumption | with_reducible apply keeps_xpcD | with_reducible refine OutInv_next.mpr ?_

theorem keeps_execXEq {k : Fixed} (a0) (a1) (a2) (a3) (a4) (a5) (s : State) (h : Inv k s) :
    OutInv k (execXEq a0 a1 a2 a3 a4 a5 s) := by
  unfold execXEq
  repeat' first
    | with_reducible assumption | with_reducible apply keeps_xpcD | with_reducible refine OutInv_next.mpr ?_

theorem keeps_execXNe {k : Fixed} (a0) (a1) (a2) (a3) (a4) (a5) (s : State) (h : Inv k s) :
    OutInv k (execXNe a0 a1 a2 a3 a4 a5 s) := by
  unfold execXNe
  repeat' first
    | with_reducible assumption | with_reducible apply keeps_xpcD | with_reducible refine OutInv_next.mpr ?_

theorem keeps_execXLt {k : Fixed} (a0) (a1) (a2) (a3) (a4) (a5) (s : State) (h : Inv k s) :
    OutInv k (execXLt a0 a1 a2 a3 a4 a5 s) := by
  unfold execXLt
  repeat' first
    | with_reducible assumption | with_reducible apply keeps_xpcD | with_reducible refine OutInv_next.mpr ?_

theorem keeps_execXLe {k : Fixed} (a0) (a1) (a2) (a3) (a4) (a5) (s : State) (h : Inv k s) :
    OutInv k (execXLe a0 a1 a2 a3 a4 a5 s) := by
  unfold execXLe
  repeat' first
    | with_reducible assumption | with_reducible apply keeps_xpcD | with_reducible refine OutInv_next.mpr ?_

theorem keeps_execXGt {k : Fixed} (a0) (a1) (a2) (a3) (a4) (a5) (s : State) (h : Inv k s) :
    OutInv k (execXGt a0 a1 a2 a3 a4 a5 s) := by
  unfold execXGt
  repeat' first
    | with_reducible assumption | with_reducible apply keeps_xpcD | with_reducible refine OutInv_next.mpr ?_

theorem keeps_execXGe {k : Fixed} (a0) (a1) (a2) (a3) (a4) (a5) (s : State) (h : Inv k s) :
    OutInv k (execXGe a0 a1 a2 a3 a4 a5 s) := by
  unfold execXGe
  repeat' first
    | with_reducible assumption | with_reducible apply keeps_xpcD | with_reducible refine OutInv_next.mpr ?_

theorem keeps_execXIsnan {k : Fixed} (a0) (a1) (a2) (a3) (a4) (s : State) (h : Inv k s) :
    OutInv k (execXIsnan a0 a1 a2 a3 a4 s) := by
  unfold execXIsnan
  repeat' first
    | with_reducible assumption | with_reducible apply keeps_xpcD | with_reducible refine OutInv_next.mpr ?_

theorem keeps_execXJmp {k : Fixed} (a0) (a1) (a2) (s : State) (h : Inv k s) : OutInv k (execXJmp a0 a1 a2 s) := by
  unfold execXJmp
  repeat' first
    | with_reducible assumption | with_reducible apply keeps_xpc | with_reducible refine OutInv_next.mpr ?_

theorem keeps_execXBrt {k : Fixed} (a0) (a1) (a2) (a3) (s : State) (h : Inv k s) : OutInv k (execXBrt a0 a1 a2 a3 s) := by
  unfold execXBrt
  repeat' first
    | with_reducible assumption | with_reducible apply keeps_xpc | with_reducible refine OutInv_next.mpr ?_

theorem keeps_execXBrf {k : Fixed} (a0) (a1) (a2) (a3) (s : State) (h : Inv k s) : OutInv k (execXBrf a0 a1 a2 a3 s) := by
  unfold execXBrf
  repeat' first
    | with_reducible assumption | with_reducible apply keeps_xpc | with_reducible refine OutInv_next.mpr ?_

theorem keeps_execXLoop {k : Fixed} (a0) (a1) (a2) (a3) (a4) (s : State) (h : Inv k s) :
    OutInv k (execXLoop a0 a1 a2 a3 a4 s) := by
  unfold execXLoop
  repeat' first
    | with_reducible assumption | with_reducible apply keeps_xpc | with_reducible refine OutInv_next.mpr ?_

theorem keeps_execLoopBound {k : Fixed} (a0) (a1) (a2) (a3) (s : State) (h : Inv k s) :
    OutInv k (execLoopBound a0 a1 a2 a3 s) := by
  unfold execLoopBound
  repeat' first
    | with_reducible assumption | with_reducible apply keeps_xpc | with_reducible refine OutInv_next.mpr ?_ | intro _
    | split

theorem keeps_execXCall {k : Fixed} (a0) (a1) (a2) (s : State) (h : Inv k s) : OutInv k (execXCall a0 a1 a2 s) := by
  unfold execXCall
  repeat' first
    | with_reducible assumption | with_reducible apply keeps_xpc | with_reducible refine OutInv_next.mpr ?_ | intro _
    | split

theorem keeps_execXRet {k : Fixed} (a0) (a1) (s : State) (h : Inv k s) : OutInv k (execXRet a0 a1 s) := by
  unfold execXRet
  repeat' first
    | with_reducible assumption | with_reducible apply keeps_xpc | with_reducible refine OutInv_next.mpr ?_

theorem keeps_execXEnd {k : Fixed} (a0) (a1) (s : State) (h : Inv k s) : OutInv k (execXEnd a0 a1 s) := by
  unfold execXEnd
  repeat' first
    | with_reducible assumption | with_reducible apply keeps_xpc | with_reducible refine OutInv_next.mpr ?_

theorem keeps_execXHalt {k : Fixed} (a0) (a1) (a2) (s : State) (h : Inv k s) : OutInv k (execXHalt a0 a1 a2 s) := by
  unfold execXHalt
  repeat' first
    | with_reducible assumption | with_reducible apply keeps_xpc | with_reducible refine OutInv_next.mpr ?_

theorem keeps_execXNop {k : Fixed} (a0) (a1) (s : State) (h : Inv k s) : OutInv k (execXNop a0 a1 s) := by
  unfold execXNop
  repeat' first
    | with_reducible assumption | with_reducible apply keeps_xpc | with_reducible refine OutInv_next.mpr ?_

theorem keeps_execXSteps {k : Fixed} (a0) (a1) (a2) (s : State) (h : Inv k s) : OutInv k (execXSteps a0 a1 a2 s) := by
  unfold execXSteps
  repeat' first
    | with_reducible assumption | with_reducible apply keeps_xpcD | with_reducible refine OutInv_next.mpr ?_

theorem keeps_execXPeriod {k : Fixed} (a0) (a1) (a2) (s : State) (h : Inv k s) : OutInv k (execXPeriod a0 a1 a2 s) := by
  unfold execXPeriod
  repeat' first
    | with_reducible assumption | with_reducible apply keeps_xpc | with_reducible refine OutInv_next.mpr ?_

theorem keeps_execStepBudget {k : Fixed} (a0) (a1) (a2) (s : State) (h : Inv k s) :
    OutInv k (execStepBudget a0 a1 a2 s) := by
  unfold execStepBudget
  repeat' first
    | with_reducible assumption | with_reducible apply keeps_stopRun | with_reducible refine OutInv_next.mpr ?_
    | intro _ | split

theorem keeps_execXTon {k : Fixed} (a0) (a1) (a2) (a3) (a4) (a5) (s : State) (h : Inv k s) :
    OutInv k (execXTon a0 a1 a2 a3 a4 a5 s) := by
  unfold execXTon
  repeat' first
    | with_reducible assumption | with_reducible apply keeps_xpc | with_reducible refine OutInv_next.mpr ?_

theorem keeps_execXTof {k : Fixed} (a0) (a1) (a2) (a3) (a4) (a5) (s : State) (h : Inv k s) :
    OutInv k (execXTof a0 a1 a2 a3 a4 a5 s) := by
  unfold execXTof
  repeat' first
    | with_reducible assumption | with_reducible apply keeps_xpc | with_reducible refine OutInv_next.mpr ?_

theorem keeps_execXTp {k : Fixed} (a0) (a1) (a2) (a3) (a4) (a5) (s : State) (h : Inv k s) :
    OutInv k (execXTp a0 a1 a2 a3 a4 a5 s) := by
  unfold execXTp
  repeat' first
    | with_reducible assumption | with_reducible apply keeps_xpc | with_reducible refine OutInv_next.mpr ?_

theorem keeps_execXCtu {k : Fixed} (a0) (a1) (a2) (a3) (a4) (a5) (a6) (s : State) (h : Inv k s) :
    OutInv k (execXCtu a0 a1 a2 a3 a4 a5 a6 s) := by
  unfold execXCtu
  repeat' first
    | with_reducible assumption | with_reducible apply keeps_xpc | with_reducible refine OutInv_next.mpr ?_

theorem keeps_execXCtd {k : Fixed} (a0) (a1) (a2) (a3) (a4) (a5) (a6) (s : State) (h : Inv k s) :
    OutInv k (execXCtd a0 a1 a2 a3 a4 a5 a6 s) := by
  unfold execXCtd
  repeat' first
    | with_reducible assumption | with_reducible apply keeps_xpc | with_reducible refine OutInv_next.mpr ?_

theorem keeps_execXCtud {k : Fixed} (a0) (a1) (a2) (a3) (a4) (a5) (a6) (s : State) (h : Inv k s) :
    OutInv k (execXCtud a0 a1 a2 a3 a4 a5 a6 s) := by
  unfold execXCtud
  repeat' first
    | with_reducible assumption | with_reducible apply keeps_xpc | with_reducible refine OutInv_next.mpr ?_

theorem keeps_execXRTrig {k : Fixed} (a0) (a1) (a2) (a3) (a4) (s : State) (h : Inv k s) :
    OutInv k (execXRTrig a0 a1 a2 a3 a4 s) := by
  unfold execXRTrig
  repeat' first
    | with_reducible assumption | with_reducible apply keeps_xpc | with_reducible refine OutInv_next.mpr ?_

theorem keeps_execXFTrig {k : Fixed} (a0) (a1) (a2) (a3) (a4) (s : State) (h : Inv k s) :
    OutInv k (execXFTrig a0 a1 a2 a3 a4 s) := by
  unfold execXFTrig
  repeat' first
    | with_reducible assumption | with_reducible apply keeps_xpc | with_reducible refine OutInv_next.mpr ?_

end Sys2Proof.Machine
end

