-- ==== Sys2Proof/Laws/KeepsB.lean ====
section
/-! SUPPORT. The invariant of Laws/Kept.lean is kept by: the fabric, modes, telegrams. -/

set_option Elab.async false

set_option linter.all false

namespace Sys2Proof.Machine

theorem keeps_State_modInst {k : Fixed} (s : State) (a1) (a2) (h : Inv k s) : Inv k (State.modInst s a1 a2) := by
  unfold State.modInst
  repeat' first
    | with_reducible assumption | (simp only [↓Inv_mk]; refine Holds_of ?_ ?_ ?_ ?_ ?_ ?_; rfl; rfl; rfl; rfl; exact ⟨by first | rfl | simp [modAt], by first | rfl | simp [modAt], by first | rfl | simp [modAt], by first | rfl | simp [modAt],
      by first | rfl | simp [modAt], id⟩)

theorem keeps_enterTripped {k : Fixed} (a0) (a1) (a2) (s : State) (h : Inv k s) : Inv k (enterTripped a0 a1 a2 s) := by
  unfold enterTripped
  repeat' first
    | with_reducible assumption | with_reducible apply keeps_raiseFab | with_reducible apply keeps_State_modInst

theorem keeps_enterReset {k : Fixed} (a0) (a1) (s : State) (h : Inv k s) : Inv k (enterReset a0 a1 s) := by
  unfold enterReset
  repeat' first
    | with_reducible assumption | with_reducible apply keeps_raiseFab | with_reducible apply keeps_State_modInst

theorem keeps_enterRun {k : Fixed} (a0) (s : State) (h : Inv k s) : Inv k (enterRun a0 s) := by
  unfold enterRun
  repeat' first
    | with_reducible assumption | with_reducible apply keeps_raiseFab | with_reducible apply keeps_State_modInst

theorem keeps_enterLocked {k : Fixed} (a0) (a1) (s : State) (h : Inv k s) : Inv k (enterLocked a0 a1 s) := by
  unfold enterLocked
  repeat' first
    | with_reducible assumption | with_reducible apply keeps_raiseFab | with_reducible apply keeps_State_modInst
    | with_reducible refine Inv_ite ?_ ?_ | intro _

theorem keeps_keepalives {k : Fixed} (s : State) (h : Inv k s) : Inv k (keepalives s) := by
  unfold keepalives
  repeat' first
    | with_reducible assumption | (simp only [↓Inv_mk]; refine Holds_of ?_ ?_ ?_ ?_ ?_ ?_; rfl; rfl; rfl; rfl; exact ⟨rfl, rfl, rfl, rfl, rfl, id⟩)

theorem keeps_driveGroup {k : Fixed} (a0) (a1) (s : State) (h : Inv k s) : Inv k (driveGroup a0 a1 s) := by
  unfold driveGroup
  repeat' first
    | with_reducible assumption | with_reducible apply keeps_State_modGroup | with_reducible apply keeps_State_emit
    | with_reducible refine Inv_ite ?_ ?_ | intro _
    | (simp only [↓Inv_mk]; refine Holds_of ?_ ?_ ?_ ?_ ?_ ?_; rfl; rfl; rfl; rfl; exact ⟨rfl, rfl, rfl, rfl, rfl, id⟩)

theorem keeps_refreshWith {k : Fixed} (a0) (s : State) (h : Inv k s) : Inv k (refreshWith a0 s) := by
  unfold refreshWith
  repeat' first
    | with_reducible assumption | with_reducible apply keeps_driveGroup | with_reducible apply keeps_keepalives
    | with_reducible apply keeps_foldl | intro _

theorem keeps_refresh {k : Fixed} (s : State) (h : Inv k s) : Inv k (refresh s) := by
  unfold refresh
  repeat' first | with_reducible assumption | with_reducible apply keeps_refreshWith

theorem keeps_poke {k : Fixed} (a0) (a1) (s : State) (h : Inv k s) : Inv k (poke a0 a1 s) := by
  unfold poke
  repeat' first
    | with_reducible assumption | (simp only [↓Inv_mk]; refine Holds_of ?_ ?_ ?_ ?_ ?_ ?_; rfl; rfl; rfl; rfl; exact ⟨rfl, rfl, rfl, rfl, rfl, id⟩)

theorem keeps_dropStaged {k : Fixed} (s : State) (h : Inv k s) : Inv k (dropStaged s) := by
  unfold dropStaged
  repeat' first
    | with_reducible assumption | with_reducible apply keeps_raiseFab | with_reducible refine Inv_ite ?_ ?_ | intro _
    | (simp only [↓Inv_mk]; refine Holds_of ?_ ?_ ?_ ?_ ?_ ?_; rfl; rfl; rfl; rfl; exact ⟨rfl, rfl, rfl, rfl, rfl, id⟩)

theorem keeps_endDebug {k : Fixed} (s : State) (h : Inv k s) : Inv k (endDebug s) := by
  unfold endDebug
  repeat' first
    | with_reducible assumption | (simp only [↓Inv_mk]; refine Holds_of ?_ ?_ ?_ ?_ ?_ ?_; rfl; rfl; rfl; rfl; exact ⟨rfl, rfl, rfl, rfl, rfl, id⟩)

theorem keeps_enterMode {k : Fixed} (a0) (a1) (s : State) (h : Inv k s) : Inv k (enterMode a0 a1 s) := by
  unfold enterMode
  repeat' first
    | with_reducible assumption | with_reducible apply keeps_dropStaged | with_reducible apply keeps_endDebug
    | with_reducible apply keeps_raise | with_reducible refine Inv_ite ?_ ?_ | intro _
    | (simp only [↓Inv_mk]; refine Holds_of ?_ ?_ ?_ ?_ ?_ ?_; rfl; rfl; rfl; rfl; exact ⟨rfl, rfl, rfl, rfl, rfl, id⟩)

theorem keeps_setResult {k : Fixed} (a0) (s : State) (h : Inv k s) : Inv k (setResult a0 s) := by
  unfold setResult
  repeat' first
    | with_reducible assumption | (simp only [↓Inv_mk]; refine Holds_of ?_ ?_ ?_ ?_ ?_ ?_; rfl; rfl; rfl; rfl; exact ⟨rfl, rfl, rfl, rfl, rfl, id⟩)

theorem keeps_sendRequest {k : Fixed} (s : State) (h : Inv k s) : Inv k (sendRequest s) := by
  unfold sendRequest
  repeat' first | with_reducible assumption | with_reducible apply keeps_State_emit

theorem keeps_sendStopNotice {k : Fixed} (s : State) (h : Inv k s) : Inv k (sendStopNotice s) := by
  unfold sendStopNotice
  repeat' first | with_reducible assumption | with_reducible apply keeps_State_emit

theorem keeps_snapshot {k : Fixed} (s : State) (h : Inv k s) : Inv k (snapshot s) := by
  unfold snapshot
  refine Inv_ite (fun _ => h) (fun _ => ?_)
  extract_lets _ _ _ _ c
  refine Holds_of (s := s) rfl rfl ?_ rfl ⟨rfl, rfl, rfl, rfl, rfl, id⟩ h
  unfold c
  split <;> rfl

theorem keeps_sendDrive {k : Fixed} (s : State) (h : Inv k s) : Inv k (sendDrive s) := by
  unfold sendDrive
  repeat' first | with_reducible assumption | with_reducible apply keeps_State_emitAll

theorem keeps_setDrive {k : Fixed} (a0) (s : State) (h : Inv k s) : Inv k (setDrive a0 s) := by
  unfold setDrive
  repeat' first
    | with_reducible assumption | with_reducible apply keeps_sendDrive
    | (simp only [↓Inv_mk]; refine Holds_of ?_ ?_ ?_ ?_ ?_ ?_; rfl; rfl; rfl; rfl; exact ⟨rfl, rfl, rfl, rfl, rfl, id⟩)

theorem keeps_setPair {k : Fixed} (a0) (a1) (s : State) (h : Inv k s) : Inv k (setPair a0 a1 s) := by
  unfold setPair
  repeat' first
    | with_reducible assumption | with_reducible apply keeps_raise | with_reducible refine Inv_ite ?_ ?_ | intro _
    | (simp only [↓Inv_mk]; refine Holds_of ?_ ?_ ?_ ?_ ?_ ?_; rfl; rfl; rfl; rfl; exact ⟨rfl, rfl, rfl, rfl, rfl, id⟩)

theorem keeps_sendReferee {k : Fixed} (a0) (s : State) (h : Inv k s) : Inv k (sendReferee a0 s) := by
  unfold sendReferee
  repeat' first | with_reducible assumption | with_reducible apply keeps_State_emit

theorem keeps_pairRelease {k : Fixed} (s : State) (h : Inv k s) : Inv k (pairRelease s) := by
  unfold pairRelease
  repeat' first
    | with_reducible assumption | with_reducible apply keeps_sendReferee | with_reducible refine Inv_ite ?_ ?_
    | intro _ | (simp only [↓Inv_mk]; refine Holds_of ?_ ?_ ?_ ?_ ?_ ?_; rfl; rfl; rfl; rfl; exact ⟨rfl, rfl, rfl, rfl, rfl, id⟩)

theorem keeps_pairFaultStop {k : Fixed} (s : State) (h : Inv k s) : Inv k (pairFaultStop s) := by
  unfold pairFaultStop
  repeat' first
    | with_reducible assumption | with_reducible apply keeps_setDrive | with_reducible apply keeps_setPair
    | with_reducible apply keeps_pairRelease | with_reducible refine Inv_ite ?_ ?_ | intro _
    | (simp only [↓Inv_mk]; refine Holds_of ?_ ?_ ?_ ?_ ?_ ?_; rfl; rfl; rfl; rfl; exact ⟨rfl, rfl, rfl, rfl, rfl, id⟩)

theorem keeps_dropAll {k : Fixed} (s : State) (h : Inv k s) : Inv k (dropAll s) := by
  unfold dropAll
  repeat' first
    | with_reducible assumption | with_reducible apply keeps_State_modLanes
    | (simp only [↓Inv_mk]; refine Holds_of ?_ ?_ ?_ ?_ ?_ ?_; rfl; rfl; rfl; rfl; exact ⟨rfl, rfl, rfl, rfl, rfl, id⟩)

theorem keeps_warmReset {k : Fixed} (s : State) (h : Inv k s) : Inv k (warmReset s) := by
  unfold warmReset
  repeat' first
    | with_reducible assumption | with_reducible apply keeps_raise | with_reducible apply keeps_State_modLanes
    | (simp only [↓Inv_mk]; refine Holds_of ?_ ?_ ?_ ?_ ?_ ?_; rfl; rfl; rfl; rfl; exact ⟨rfl, rfl, rfl, rfl, rfl, id⟩)

theorem keeps_faultStopWith {k : Fixed} (a0) (a1) (s : State) (h : Inv k s) : Inv k (faultStopWith a0 a1 s) := by
  unfold faultStopWith
  repeat' first
    | with_reducible assumption | with_reducible apply keeps_setResult | with_reducible apply keeps_enterMode
    | with_reducible apply keeps_raise | with_reducible apply keeps_pairFaultStop
    | with_reducible apply keeps_sendStopNotice | with_reducible apply keeps_snapshot
    | with_reducible apply keeps_dropAll | with_reducible apply keeps_warmReset | with_reducible refine Inv_ite ?_ ?_
    | intro _ | (simp only [↓Inv_mk]; refine Holds_of ?_ ?_ ?_ ?_ ?_ ?_; rfl; rfl; rfl; rfl; exact ⟨rfl, rfl, rfl, rfl, rfl, id⟩)

theorem keeps_faultStop {k : Fixed} (a0) (s : State) (h : Inv k s) : Inv k (faultStop a0 s) := by
  unfold faultStop
  repeat' first | with_reducible assumption | with_reducible apply keeps_faultStopWith

theorem keeps_lockout {k : Fixed} (a0) (s : State) (h : Inv k s) : Inv k (lockout a0 s) := by
  unfold lockout
  repeat' first
    | with_reducible assumption | with_reducible apply keeps_refresh | with_reducible apply keeps_faultStop
    | with_reducible apply keeps_raiseFab | with_reducible refine Inv_ite ?_ ?_ | intro _
    | (simp only [↓Inv_mk]; refine Holds_of ?_ ?_ ?_ ?_ ?_ ?_; rfl; rfl; rfl; rfl; exact ⟨rfl, rfl, rfl, rfl, rfl, id⟩)

theorem keeps_exclude {k : Fixed} (a0) (a1) (s : State) (h : Inv k s) : Inv k (exclude a0 a1 s) := by
  unfold exclude
  repeat' first
    | with_reducible assumption | with_reducible apply keeps_State_modLane | with_reducible apply keeps_raiseLane
    | (simp only [↓Inv_mk]; refine Holds_of ?_ ?_ ?_ ?_ ?_ ?_; rfl; rfl; rfl; rfl; exact ⟨rfl, rfl, rfl, rfl, rfl, id⟩)

theorem keeps_laneToOut {k : Fixed} (a0) (a1) (s : State) (h : Inv k s) : Inv k (laneToOut a0 a1 s) := by
  unfold laneToOut
  repeat' first
    | with_reducible assumption | with_reducible apply keeps_raiseLane | with_reducible apply keeps_State_modLane

theorem keeps_lanesCheck {k : Fixed} (s : State) (h : Inv k s) : Inv k (lanesCheck s) := by
  unfold lanesCheck
  repeat' first
    | with_reducible assumption | with_reducible apply keeps_faultStop | with_reducible apply keeps_raise
    | with_reducible refine Inv_ite ?_ ?_ | intro _

theorem keeps_reportCause {k : Fixed} (a0) (a1) (s : State) (h : Inv k s) : Inv k (reportCause a0 a1 s) := by
  unfold reportCause
  repeat' first | with_reducible assumption | with_reducible apply keeps_State_modLane

theorem keeps_sealEvent {k : Fixed} (a0) (a1) (a2) (s : State) (h : Inv k s) : Inv k (sealEvent a0 a1 a2 s) := by
  unfold sealEvent
  repeat' first
    | with_reducible assumption | with_reducible apply keeps_raise
    | (simp only [↓Inv_mk]; refine Holds_of ?_ ?_ ?_ ?_ ?_ ?_; rfl; rfl; rfl; rfl; exact ⟨rfl, rfl, rfl, rfl, rfl, id⟩) | split

theorem keeps_countCheck {k : Fixed} (s : State) (h : Inv k s) : Inv k (countCheck s) := by
  unfold countCheck
  repeat' first
    | with_reducible assumption | (simp only [↓Inv_mk]; refine Holds_of ?_ ?_ ?_ ?_ ?_ ?_; rfl; rfl; rfl; rfl; exact ⟨rfl, rfl, rfl, rfl, rfl, id⟩)

theorem keeps_fillRecord {k : Fixed} (n ev put r x) (acc : State × Bytes) (h : Inv k acc.1) (hf : ∀ a b s, Inv k s → Inv k (put a b s)) :
    Inv k (fillRecord n ev put r x acc).1 := by
  unfold fillRecord
  repeat' first
    | with_reducible assumption | with_reducible apply hf | with_reducible apply keeps_raise
    | with_reducible apply keeps_sealEvent | with_reducible apply keeps_countCheck
    | with_reducible refine Inv_ite ?_ ?_ | intro _
    | (simp only [↓Inv_mk]; refine Holds_of ?_ ?_ ?_ ?_ ?_ ?_; rfl; rfl; rfl; rfl; exact ⟨rfl, rfl, rfl, rfl, rfl, id⟩)

theorem keeps_putSub {k : Fixed} (a0) (a1) (s : State) (h : Inv k s) : Inv k (putSub a0 a1 s) := by
  unfold putSub
  repeat' first
    | with_reducible assumption | (simp only [↓Inv_mk]; refine Holds_of ?_ ?_ ?_ ?_ ?_ ?_; rfl; rfl; rfl; rfl; exact ⟨rfl, rfl, rfl, rfl, rfl, id⟩)

theorem keeps_putSink {k : Fixed} (a0) (a1) (s : State) (h : Inv k s) : Inv k (putSink a0 a1 s) := by
  unfold putSink
  repeat' first
    | with_reducible assumption | (simp only [↓Inv_mk]; refine Holds_of ?_ ?_ ?_ ?_ ?_ ?_; rfl; rfl; rfl; rfl; exact ⟨rfl, rfl, rfl, rfl, rfl, id⟩)

theorem keeps_putPdo {k : Fixed} (a0) (a1) (s : State) (h : Inv k s) : Inv k (putPdo a0 a1 s) := by
  unfold putPdo
  repeat' first
    | with_reducible assumption | (simp only [↓Inv_mk]; refine Holds_of ?_ ?_ ?_ ?_ ?_ ?_; rfl; rfl; rfl; rfl; exact ⟨rfl, rfl, rfl, rfl, rfl, id⟩)

theorem keeps_fillBus {k : Fixed} (n) (s : State) (b) (h : Inv k s) : Inv k (fillBus n s b).1 := by
  unfold fillBus
  repeat' first
    | with_reducible assumption | with_reducible apply keeps_fillRecord | with_reducible apply keeps_putSub
    | with_reducible apply keeps_putSink | with_reducible apply keeps_putPdo | with_reducible apply keeps_foldl_fst
    | with_reducible apply keeps_foldl | intro _

theorem keeps_laneCheck {k : Fixed} (a b) (acc : State × Bytes) (r) (h : Inv k acc.1) : Inv k (laneCheck a b acc r).1 := by
  unfold laneCheck
  repeat' first
    | with_reducible assumption | with_reducible apply keeps_sealEvent | with_reducible apply keeps_countCheck

theorem keeps_laneComplete {k : Fixed} (a0) (a1) (a2) (s : State) (h : Inv k s) : Inv k (laneComplete a0 a1 a2 s).1 := by
  unfold laneComplete
  repeat' first
    | with_reducible assumption | with_reducible apply keeps_laneCheck | with_reducible refine Inv_fst_ite ?_ ?_
    | with_reducible apply keeps_foldl_fst | with_reducible apply keeps_foldl | intro _

theorem keeps_busBoundary {k : Fixed} (a0) (s : State) (h : Inv k s) : Inv k (busBoundary a0 s) := by
  unfold busBoundary
  repeat' first
    | with_reducible assumption | (simp only [↓Inv_mk]; refine Holds_of ?_ ?_ ?_ ?_ ?_ ?_; rfl; rfl; rfl; rfl; exact ⟨rfl, rfl, rfl, rfl, rfl, id⟩)

theorem keeps_stagePub {k : Fixed} (a0) (s : State) (a2) (h : Inv k s) : Inv k (stagePub a0 s a2) := by
  unfold stagePub
  repeat' first
    | with_reducible assumption | with_reducible refine Inv_ite ?_ ?_ | intro _
    | (simp only [↓Inv_mk]; refine Holds_of ?_ ?_ ?_ ?_ ?_ ?_; rfl; rfl; rfl; rfl; exact ⟨rfl, rfl, rfl, rfl, rfl, id⟩)

theorem keeps_stageBuses {k : Fixed} (a0) (s : State) (h : Inv k s) : Inv k (stageBuses a0 s) := by
  unfold stageBuses
  repeat' first
    | with_reducible assumption | with_reducible apply keeps_stagePub | with_reducible apply keeps_putSink
    | with_reducible apply keeps_putPdo | with_reducible apply keeps_foldl | intro _

theorem keeps_State_modCan {k : Fixed} (s : State) (a1) (a2) (h : Inv k s) : Inv k (State.modCan s a1 a2) := by
  unfold State.modCan
  repeat' first
    | with_reducible assumption | with_reducible refine Inv_ite ?_ ?_ | intro _
    | (simp only [↓Inv_mk]; refine Holds_of ?_ ?_ ?_ ?_ ?_ ?_; rfl; rfl; rfl; rfl; exact ⟨rfl, rfl, rfl, rfl, rfl, id⟩)

theorem keeps_setCan {k : Fixed} (a0) (a1) (s : State) (h : Inv k s) : Inv k (setCan a0 a1 s) := by
  unfold setCan
  repeat' first
    | with_reducible assumption | with_reducible apply keeps_poke | with_reducible apply keeps_State_modCan

theorem keeps_lineChanged {k : Fixed} (old s : State) (h : Inv k s) : Inv k (lineChanged old s) := by
  unfold lineChanged
  repeat' first
    | with_reducible assumption | with_reducible apply keeps_poke | with_reducible refine Inv_ite ?_ ?_ | intro _

theorem keeps_flushTpdos {k : Fixed} (a0) (a1) (s : State) (h : Inv k s) : Inv k (flushTpdos a0 a1 s) := by
  unfold flushTpdos
  repeat' first
    | with_reducible assumption | with_reducible apply keeps_State_emitAll | with_reducible apply keeps_State_modCan

theorem keeps_canBoundary {k : Fixed} (a0) (s : State) (a2) (h : Inv k s) : Inv k (canBoundary a0 s a2) := by
  unfold canBoundary
  repeat' first
    | with_reducible assumption | with_reducible apply keeps_flushTpdos | with_reducible apply keeps_State_emit
    | with_reducible apply keeps_State_modCan | with_reducible refine Inv_ite ?_ ?_ | intro _

theorem keeps_nmtStart {k : Fixed} (s : State) (h : Inv k s) : Inv k (nmtStart s) := by
  unfold nmtStart
  repeat' first
    | with_reducible assumption | with_reducible apply keeps_State_emit | with_reducible apply keeps_State_modCan
    | with_reducible refine Inv_ite ?_ ?_ | with_reducible apply keeps_foldl | intro _

theorem keeps_canRestart {k : Fixed} (s : State) (h : Inv k s) : Inv k (canRestart s) := by
  unfold canRestart
  repeat' first
    | with_reducible assumption | with_reducible apply keeps_State_modCan | with_reducible apply keeps_setCan
    | with_reducible refine Inv_ite ?_ ?_ | with_reducible apply keeps_foldl | intro _

theorem keeps_mvbLine {k : Fixed} (a0) (s : State) (h : Inv k s) : Inv k (mvbLine a0 s) := by
  unfold mvbLine
  repeat' first
    | with_reducible assumption | with_reducible apply keeps_lineChanged | with_reducible apply keeps_raiseIf
    | (simp only [↓Inv_mk]; refine Holds_of ?_ ?_ ?_ ?_ ?_ ?_; rfl; rfl; rfl; rfl; exact ⟨rfl, rfl, rfl, rfl, rfl, id⟩)

theorem keeps_mvbBoundary {k : Fixed} (a0) (s : State) (h : Inv k s) : Inv k (mvbBoundary a0 s) := by
  unfold mvbBoundary
  repeat' first
    | with_reducible assumption | with_reducible apply keeps_mvbLine | with_reducible apply keeps_State_emitAll
    | with_reducible refine Inv_ite ?_ ?_ | intro _
    | (simp only [↓Inv_mk]; refine Holds_of ?_ ?_ ?_ ?_ ?_ ?_; rfl; rfl; rfl; rfl; exact ⟨rfl, rfl, rfl, rfl, rfl, id⟩)

theorem keeps_legacyBoundary {k : Fixed} (a0) (s : State) (h : Inv k s) : Inv k (legacyBoundary a0 s) := by
  unfold legacyBoundary
  repeat' first
    | with_reducible assumption | with_reducible apply keeps_canBoundary | with_reducible apply keeps_mvbBoundary
    | with_reducible apply keeps_foldl

theorem keeps_pdError {k : Fixed} (a0) (a1) (s : State) (h : Inv k s) : Inv k (pdError a0 a1 s) := by
  unfold pdError
  repeat' first
    | with_reducible assumption | with_reducible apply keeps_raise
    | (simp only [↓Inv_mk]; refine Holds_of ?_ ?_ ?_ ?_ ?_ ?_; rfl; rfl; rfl; rfl; exact ⟨rfl, rfl, rfl, rfl, rfl, id⟩)

theorem keeps_pdAccept {k : Fixed} (a0) (s : State) (a2) (h : Inv k s) : Inv k (pdAccept a0 s a2) := by
  unfold pdAccept
  repeat' first
    | with_reducible assumption | with_reducible apply keeps_putSub
    | (simp only [↓Inv_mk]; refine Holds_of ?_ ?_ ?_ ?_ ?_ ?_; rfl; rfl; rfl; rfl; exact ⟨rfl, rfl, rfl, rfl, rfl, id⟩)

theorem keeps_execPdReceived {k : Fixed} (a0) (a1) (s : State) (h : Inv k s) : OutInv k (execPdReceived a0 a1 s) := by
  unfold execPdReceived
  repeat' first
    | with_reducible assumption | with_reducible apply keeps_State_atTime | with_reducible apply keeps_pdError
    | with_reducible apply keeps_pdAccept | with_reducible apply keeps_foldl
    | with_reducible refine OutInv_next.mpr ?_ | intro _ | split

theorem keeps_mdClose {k : Fixed} (a0) (s : State) (h : Inv k s) : Inv k (mdClose a0 s) := by
  unfold mdClose
  repeat' first
    | with_reducible assumption | (simp only [↓Inv_mk]; refine Holds_of ?_ ?_ ?_ ?_ ?_ ?_; rfl; rfl; rfl; rfl; exact ⟨rfl, rfl, rfl, rfl, rfl, id⟩)

theorem keeps_mdDeliver {k : Fixed} (a0) (s : State) (h : Inv k s) : Inv k (mdDeliver a0 s) := by
  unfold mdDeliver
  repeat' first
    | with_reducible assumption | with_reducible apply keeps_poke
    | (simp only [↓Inv_mk]; refine Holds_of ?_ ?_ ?_ ?_ ?_ ?_; rfl; rfl; rfl; rfl; exact ⟨rfl, rfl, rfl, rfl, rfl, id⟩) | split

theorem keeps_execMdNotification {k : Fixed} (a0) (a1) (s : State) (h : Inv k s) :
    OutInv k (execMdNotification a0 a1 s) := by
  unfold execMdNotification
  repeat' first
    | with_reducible assumption | with_reducible apply keeps_State_atTime | with_reducible apply keeps_mdDeliver
    | with_reducible refine Inv_ite ?_ ?_ | with_reducible refine OutInv_next.mpr ?_ | intro _

theorem keeps_execMdRequest {k : Fixed} (a0) (a1) (s : State) (h : Inv k s) : OutInv k (execMdRequest a0 a1 s) := by
  unfold execMdRequest
  repeat' first
    | with_reducible assumption | with_reducible apply keeps_State_atTime | with_reducible apply keeps_raise
    | with_reducible apply keeps_State_emit | with_reducible apply keeps_mdDeliver
    | with_reducible refine Inv_ite ?_ ?_ | with_reducible refine OutInv_next.mpr ?_ | intro _
    | (simp only [↓Inv_mk]; refine Holds_of ?_ ?_ ?_ ?_ ?_ ?_; rfl; rfl; rfl; rfl; exact ⟨rfl, rfl, rfl, rfl, rfl, id⟩)

theorem keeps_execMdReply {k : Fixed} (a0) (a1) (s : State) (h : Inv k s) : OutInv k (execMdReply a0 a1 s) := by
  unfold execMdReply
  repeat' first
    | with_reducible assumption | with_reducible apply keeps_State_atTime | with_reducible apply keeps_mdDeliver
    | with_reducible apply keeps_mdClose | with_reducible refine Inv_ite ?_ ?_
    | with_reducible refine OutInv_next.mpr ?_ | intro _

theorem keeps_execMdReplyQuery {k : Fixed} (a0) (a1) (s : State) (h : Inv k s) : OutInv k (execMdReplyQuery a0 a1 s) := by
  unfold execMdReplyQuery
  repeat' first
    | with_reducible assumption | with_reducible apply keeps_State_atTime | with_reducible apply keeps_State_emit
    | with_reducible apply keeps_mdDeliver | with_reducible apply keeps_mdClose | with_reducible refine Inv_ite ?_ ?_
    | with_reducible refine OutInv_next.mpr ?_ | intro _

theorem keeps_execMdConfirm {k : Fixed} (a0) (a1) (s : State) (h : Inv k s) : OutInv k (execMdConfirm a0 a1 s) := by
  unfold execMdConfirm
  repeat' first
    | with_reducible assumption | with_reducible apply keeps_State_atTime | with_reducible apply keeps_mdDeliver
    | with_reducible apply keeps_mdClose | with_reducible refine Inv_ite ?_ ?_
    | with_reducible refine OutInv_next.mpr ?_ | intro _

theorem keeps_execMdError {k : Fixed} (a0) (a1) (s : State) (h : Inv k s) : OutInv k (execMdError a0 a1 s) := by
  unfold execMdError
  repeat' first
    | with_reducible assumption | with_reducible apply keeps_State_atTime | with_reducible apply keeps_mdDeliver
    | with_reducible apply keeps_mdClose | with_reducible refine Inv_ite ?_ ?_
    | with_reducible refine OutInv_next.mpr ?_ | intro _

theorem keeps_execMdTimeout {k : Fixed} (a0) (a1) (s : State) (h : Inv k s) : OutInv k (execMdTimeout a0 a1 s) := by
  unfold execMdTimeout
  repeat' first
    | with_reducible assumption | with_reducible apply keeps_State_atTime | with_reducible apply keeps_raise
    | with_reducible apply keeps_mdClose | with_reducible refine Inv_ite ?_ ?_
    | with_reducible refine OutInv_next.mpr ?_ | intro _ | split

theorem keeps_execMvbMasterFrame {k : Fixed} (a0) (a1) (a2) (s : State) (h : Inv k s) :
    OutInv k (execMvbMasterFrame a0 a1 a2 s) := by
  unfold execMvbMasterFrame
  repeat' first
    | with_reducible assumption | with_reducible apply keeps_State_atTime | with_reducible apply keeps_State_emit
    | with_reducible refine OutInv_next.mpr ?_ | intro _ | split

theorem keeps_mvbSeen {k : Fixed} (a0) (s : State) (h : Inv k s) : Inv k (mvbSeen a0 s) := by
  unfold mvbSeen
  repeat' first
    | with_reducible assumption | (simp only [↓Inv_mk]; refine Holds_of ?_ ?_ ?_ ?_ ?_ ?_; rfl; rfl; rfl; rfl; exact ⟨rfl, rfl, rfl, rfl, rfl, id⟩)

theorem keeps_execMvbSlaveFrame {k : Fixed} (a0) (a1) (a2) (a3) (s : State) (h : Inv k s) :
    OutInv k (execMvbSlaveFrame a0 a1 a2 a3 s) := by
  unfold execMvbSlaveFrame
  repeat' first
    | with_reducible assumption | with_reducible apply keeps_State_atTime | with_reducible apply keeps_lineChanged
    | with_reducible apply keeps_mvbSeen | with_reducible apply keeps_putSink
    | with_reducible refine OutInv_next.mpr ?_ | intro _
    | (simp only [↓Inv_mk]; refine Holds_of ?_ ?_ ?_ ?_ ?_ ?_; rfl; rfl; rfl; rfl; exact ⟨rfl, rfl, rfl, rfl, rfl, id⟩) | split

theorem keeps_execMvbDeviceStatus {k : Fixed} (a0) (a1) (s : State) (h : Inv k s) :
    OutInv k (execMvbDeviceStatus a0 a1 s) := by
  unfold execMvbDeviceStatus
  repeat' first
    | with_reducible assumption | with_reducible apply keeps_State_atTime | with_reducible apply keeps_State_tick
    | with_reducible apply keeps_State_emit | with_reducible refine Inv_ite ?_ ?_
    | with_reducible refine OutInv_next.mpr ?_ | intro _

theorem keeps_execMvbForeignMaster {k : Fixed} (a0) (s : State) (h : Inv k s) : OutInv k (execMvbForeignMaster a0 s) := by
  unfold execMvbForeignMaster
  repeat' first
    | with_reducible assumption | with_reducible apply keeps_State_atTime | with_reducible apply keeps_raise
    | with_reducible refine Inv_ite ?_ ?_ | with_reducible refine OutInv_next.mpr ?_ | intro _
    | (simp only [↓Inv_mk]; refine Holds_of ?_ ?_ ?_ ?_ ?_ ?_; rfl; rfl; rfl; rfl; exact ⟨rfl, rfl, rfl, rfl, rfl, id⟩)

theorem keeps_execMvbLineFault {k : Fixed} (a0) (a1) (s : State) (h : Inv k s) : OutInv k (execMvbLineFault a0 a1 s) := by
  unfold execMvbLineFault
  repeat' first
    | with_reducible assumption | with_reducible apply keeps_State_atTime | with_reducible apply keeps_lineChanged
    | with_reducible apply keeps_raise | with_reducible refine Inv_ite ?_ ?_
    | with_reducible refine OutInv_next.mpr ?_ | intro _
    | (simp only [↓Inv_mk]; refine Holds_of ?_ ?_ ?_ ?_ ?_ ?_; rfl; rfl; rfl; rfl; exact ⟨rfl, rfl, rfl, rfl, rfl, id⟩)

theorem keeps_execCanRpdo {k : Fixed} (a0) (a1) (a2) (s : State) (h : Inv k s) : OutInv k (execCanRpdo a0 a1 a2 s) := by
  unfold execCanRpdo
  repeat' first
    | with_reducible assumption | with_reducible apply keeps_State_atTime | with_reducible apply keeps_putPdo
    | with_reducible refine OutInv_next.mpr ?_ | intro _ | split

theorem keeps_execCanSyncReceived {k : Fixed} (a0) (a1) (s : State) (h : Inv k s) :
    OutInv k (execCanSyncReceived a0 a1 s) := by
  unfold execCanSyncReceived
  repeat' first
    | with_reducible assumption | with_reducible apply keeps_State_atTime | with_reducible apply keeps_raiseIf
    | with_reducible refine OutInv_next.mpr ?_

theorem keeps_execCanHeartbeatSend {k : Fixed} (a0) (a1) (s : State) (h : Inv k s) :
    OutInv k (execCanHeartbeatSend a0 a1 s) := by
  unfold execCanHeartbeatSend
  repeat' first
    | with_reducible assumption | with_reducible apply keeps_State_atTime | with_reducible apply keeps_State_tick
    | with_reducible apply keeps_State_emit | with_reducible refine Inv_ite ?_ ?_
    | with_reducible refine OutInv_next.mpr ?_ | intro _

theorem keeps_putConsumer {k : Fixed} (a0) (a1) (a2) (a3) (s : State) (h : Inv k s) :
    Inv k (putConsumer a0 a1 a2 a3 s) := by
  unfold putConsumer
  repeat' first | with_reducible assumption | with_reducible apply keeps_State_modCan

theorem keeps_execCanHeartbeatLost {k : Fixed} (a0) (a1) (a2) (s : State) (h : Inv k s) :
    OutInv k (execCanHeartbeatLost a0 a1 a2 s) := by
  unfold execCanHeartbeatLost
  repeat' first
    | with_reducible assumption | with_reducible apply keeps_State_atTime | with_reducible apply keeps_raise
    | with_reducible apply keeps_putConsumer | with_reducible refine Inv_ite ?_ ?_
    | with_reducible refine OutInv_next.mpr ?_ | intro _ | split

theorem keeps_execConsumerHeartbeatReceived {k : Fixed} (a0) (a1) (a2) (s : State) (h : Inv k s) :
    OutInv k (execConsumerHeartbeatReceived a0 a1 a2 s) := by
  unfold execConsumerHeartbeatReceived
  repeat' first
    | with_reducible assumption | with_reducible apply keeps_State_atTime | with_reducible apply keeps_putConsumer
    | with_reducible refine Inv_ite ?_ ?_ | with_reducible refine OutInv_next.mpr ?_ | intro _

theorem keeps_execTpdoWithdraw {k : Fixed} (a0) (a1) (a2) (s : State) (h : Inv k s) :
    OutInv k (execTpdoWithdraw a0 a1 a2 s) := by
  unfold execTpdoWithdraw
  repeat' first
    | with_reducible assumption | with_reducible apply keeps_State_atTime | with_reducible apply keeps_flushTpdos
    | with_reducible refine Inv_ite ?_ ?_ | with_reducible refine OutInv_next.mpr ?_ | intro _

theorem keeps_execCanErrorPassive {k : Fixed} (a0) (a1) (s : State) (h : Inv k s) :
    OutInv k (execCanErrorPassive a0 a1 s) := by
  unfold execCanErrorPassive
  repeat' first
    | with_reducible assumption | with_reducible apply keeps_State_atTime | with_reducible apply keeps_raise
    | with_reducible apply keeps_setCan | with_reducible refine Inv_ite ?_ ?_
    | with_reducible refine OutInv_next.mpr ?_ | intro _

theorem keeps_execCanBusOff {k : Fixed} (a0) (a1) (s : State) (h : Inv k s) : OutInv k (execCanBusOff a0 a1 s) := by
  unfold execCanBusOff
  repeat' first
    | with_reducible assumption | with_reducible apply keeps_State_atTime | with_reducible apply keeps_raise
    | with_reducible apply keeps_State_modCan | with_reducible apply keeps_setCan | with_reducible apply keeps_raiseIf
    | with_reducible refine Inv_ite ?_ ?_ | with_reducible refine OutInv_next.mpr ?_ | intro _

theorem keeps_execCanBusOffRecovery {k : Fixed} (a0) (a1) (s : State) (h : Inv k s) :
    OutInv k (execCanBusOffRecovery a0 a1 s) := by
  unfold execCanBusOffRecovery
  repeat' first
    | with_reducible assumption | with_reducible apply keeps_State_atTime | with_reducible apply keeps_State_modCan
    | with_reducible apply keeps_setCan | with_reducible refine Inv_ite ?_ ?_
    | with_reducible refine OutInv_next.mpr ?_ | intro _

theorem keeps_fabricChanged {k : Fixed} (s : State) (h : Inv k s) : Inv k (fabricChanged s) := by
  unfold fabricChanged
  repeat' first
    | with_reducible assumption | with_reducible apply keeps_refresh | with_reducible apply keeps_pairRelease
    | with_reducible refine Inv_ite ?_ ?_ | intro _

theorem keeps_checkDiscrepancy {k : Fixed} (a0) (s : State) (h : Inv k s) : Inv k (checkDiscrepancy a0 s) := by
  unfold checkDiscrepancy
  repeat' first
    | with_reducible assumption | with_reducible apply keeps_enterLocked | with_reducible refine Inv_ite ?_ ?_
    | intro _ | split

theorem keeps_checkRestore {k : Fixed} (a0) (s : State) (h : Inv k s) : Inv k (checkRestore a0 s) := by
  unfold checkRestore
  repeat' first
    | with_reducible assumption | with_reducible apply keeps_enterRun | with_reducible refine Inv_ite ?_ ?_ | intro _
    | split

theorem keeps_checkWarning {k : Fixed} (a0) (s : State) (h : Inv k s) : Inv k (checkWarning a0 s) := by
  unfold checkWarning
  repeat' first
    | with_reducible assumption | with_reducible apply keeps_raiseFab | with_reducible apply keeps_State_modInst
    | with_reducible refine Inv_ite ?_ ?_ | intro _ | split

theorem keeps_checkVigilance {k : Fixed} (a0) (s : State) (h : Inv k s) : Inv k (checkVigilance a0 s) := by
  unfold checkVigilance
  repeat' first
    | with_reducible assumption | with_reducible apply keeps_enterTripped | with_reducible refine Inv_ite ?_ ?_
    | intro _ | split

theorem keeps_senseInst {k : Fixed} (a0) (a1) (s : State) (h : Inv k s) : Inv k (senseInst a0 a1 s) := by
  unfold senseInst
  repeat' first | with_reducible assumption | with_reducible apply keeps_State_modInst

theorem keeps_evalPair {k : Fixed} (a0) (a1) (s : State) (h : Inv k s) : Inv k (evalPair a0 a1 s) := by
  unfold evalPair
  repeat' first
    | with_reducible assumption | with_reducible apply keeps_enterTripped | with_reducible apply keeps_enterRun
    | with_reducible refine Inv_ite ?_ ?_ | intro _

theorem keeps_evalDsd {k : Fixed} (a0) (a1) (s : State) (h : Inv k s) : Inv k (evalDsd a0 a1 s) := by
  unfold evalDsd
  repeat' first
    | with_reducible assumption | with_reducible apply keeps_State_modInst | with_reducible apply keeps_enterTripped
    | with_reducible apply keeps_enterRun | with_reducible refine Inv_ite ?_ ?_ | intro _

theorem keeps_evalInst {k : Fixed} (s : State) (a1) (h : Inv k s) : Inv k (evalInst s a1) := by
  unfold evalInst
  repeat' first
    | with_reducible assumption | with_reducible apply keeps_senseInst | with_reducible apply keeps_checkRestore
    | with_reducible apply keeps_checkVigilance | with_reducible apply keeps_checkWarning
    | with_reducible apply keeps_checkDiscrepancy | with_reducible apply keeps_evalDsd
    | with_reducible apply keeps_evalPair | intro _ | split

theorem keeps_takeRequests {k : Fixed} (s : State) (h : Inv k s) : Inv k (takeRequests s) := by
  unfold takeRequests
  repeat' first
    | with_reducible assumption | with_reducible apply keeps_State_modInst | with_reducible apply keeps_foldl
    | intro _ | (simp only [↓Inv_mk]; refine Holds_of ?_ ?_ ?_ ?_ ?_ ?_; rfl; rfl; rfl; rfl; exact ⟨rfl, rfl, rfl, rfl, rfl, id⟩) | split

theorem keeps_takeLinkFrame {k : Fixed} (s : State) (a1) (h : Inv k s) : Inv k (takeLinkFrame s a1) := by
  unfold takeLinkFrame
  repeat' first
    | with_reducible assumption | with_reducible refine Inv_ite ?_ ?_ | intro _
    | (simp only [↓Inv_mk]; refine Holds_of ?_ ?_ ?_ ?_ ?_ ?_; rfl; rfl; rfl; rfl; exact ⟨rfl, rfl, rfl, rfl, rfl, id⟩)

theorem keeps_endLinkRuns {k : Fixed} (s : State) (h : Inv k s) : Inv k (endLinkRuns s) := by
  unfold endLinkRuns
  repeat' first
    | with_reducible assumption | (simp only [↓Inv_mk]; refine Holds_of ?_ ?_ ?_ ?_ ?_ ?_; rfl; rfl; rfl; rfl; exact ⟨rfl, rfl, rfl, rfl, rfl, id⟩)

theorem keeps_endPulseOnTrip {k : Fixed} (s : State) (h : Inv k s) : Inv k (endPulseOnTrip s) := by
  unfold endPulseOnTrip
  repeat' first
    | with_reducible assumption | intro _ | (simp only [↓Inv_mk]; refine Holds_of ?_ ?_ ?_ ?_ ?_ ?_; rfl; rfl; rfl; rfl; exact ⟨rfl, rfl, rfl, rfl, rfl, id⟩)
    | split

theorem keeps_execFabricLinkFrame {k : Fixed} (a0) (a1) (s : State) (h : Inv k s) :
    OutInv k (execFabricLinkFrame a0 a1 s) := by
  unfold execFabricLinkFrame
  repeat' first
    | with_reducible assumption | with_reducible apply keeps_State_atTime | with_reducible apply keeps_endLinkRuns
    | with_reducible apply keeps_takeLinkFrame | with_reducible apply keeps_evalInst
    | with_reducible apply keeps_takeRequests | with_reducible apply keeps_fabricChanged
    | with_reducible apply keeps_refreshWith | with_reducible apply keeps_endPulseOnTrip
    | with_reducible refine Inv_ite ?_ ?_ | with_reducible apply keeps_foldl
    | with_reducible refine OutInv_next.mpr ?_ | intro _

theorem keeps_execFabricLinkTimeout {k : Fixed} (a0) (a1) (s : State) (h : Inv k s) :
    OutInv k (execFabricLinkTimeout a0 a1 s) := by
  unfold execFabricLinkTimeout
  repeat' first
    | with_reducible assumption | with_reducible apply keeps_State_atTime | with_reducible apply keeps_State_modGroup
    | with_reducible apply keeps_enterLocked | with_reducible apply keeps_fabricChanged
    | with_reducible apply keeps_raiseFab | with_reducible refine Inv_ite ?_ ?_ | with_reducible apply keeps_foldl
    | with_reducible refine OutInv_next.mpr ?_ | intro _
    | (simp only [↓Inv_mk]; refine Holds_of ?_ ?_ ?_ ?_ ?_ ?_; rfl; rfl; rfl; rfl; exact ⟨rfl, rfl, rfl, rfl, rfl, id⟩)

theorem keeps_execDiscrepancyTimeout {k : Fixed} (a0) (a1) (s : State) (h : Inv k s) :
    OutInv k (execDiscrepancyTimeout a0 a1 s) := by
  unfold execDiscrepancyTimeout
  repeat' first
    | with_reducible assumption | with_reducible apply keeps_fabricChanged
    | with_reducible apply keeps_checkDiscrepancy | with_reducible apply keeps_State_atTime
    | with_reducible refine OutInv_next.mpr ?_

theorem keeps_execRestoreDelayExpiry {k : Fixed} (a0) (a1) (s : State) (h : Inv k s) :
    OutInv k (execRestoreDelayExpiry a0 a1 s) := by
  unfold execRestoreDelayExpiry
  repeat' first
    | with_reducible assumption | with_reducible apply keeps_fabricChanged | with_reducible apply keeps_checkRestore
    | with_reducible apply keeps_State_atTime | with_reducible refine OutInv_next.mpr ?_

theorem keeps_execDsdWarning {k : Fixed} (a0) (a1) (s : State) (h : Inv k s) : OutInv k (execDsdWarning a0 a1 s) := by
  unfold execDsdWarning
  repeat' first
    | with_reducible assumption | with_reducible apply keeps_fabricChanged | with_reducible apply keeps_checkWarning
    | with_reducible apply keeps_State_atTime | with_reducible refine OutInv_next.mpr ?_

theorem keeps_execVigilanceTrip {k : Fixed} (a0) (a1) (s : State) (h : Inv k s) : OutInv k (execVigilanceTrip a0 a1 s) := by
  unfold execVigilanceTrip
  repeat' first
    | with_reducible assumption | with_reducible apply keeps_fabricChanged | with_reducible apply keeps_checkVigilance
    | with_reducible apply keeps_State_atTime | with_reducible refine OutInv_next.mpr ?_

theorem keeps_takeFrame {k : Fixed} (a0) (s : State) (h : Inv k s) : Inv k (takeFrame a0 s) := by
  unfold takeFrame
  repeat' first
    | with_reducible assumption | with_reducible apply keeps_fabricChanged
    | (simp only [↓Inv_mk]; refine Holds_of ?_ ?_ ?_ ?_ ?_ ?_; rfl; rfl; rfl; rfl; exact ⟨rfl, rfl, rfl, rfl, rfl, id⟩) | split

theorem keeps_execRequestFrame {k : Fixed} (a0) (a1) (s : State) (h : Inv k s) : OutInv k (execRequestFrame a0 a1 s) := by
  unfold execRequestFrame
  repeat' first
    | with_reducible assumption | with_reducible apply keeps_State_atTime | with_reducible apply keeps_takeFrame
    | with_reducible refine Inv_ite ?_ ?_ | with_reducible refine OutInv_next.mpr ?_ | intro _
    | (simp only [↓Inv_mk]; refine Holds_of ?_ ?_ ?_ ?_ ?_ ?_; rfl; rfl; rfl; rfl; exact ⟨rfl, rfl, rfl, rfl, rfl, id⟩)

theorem keeps_execRequestLinkTimeout {k : Fixed} (a0) (s : State) (h : Inv k s) :
    OutInv k (execRequestLinkTimeout a0 s) := by
  unfold execRequestLinkTimeout
  extract_lets +onlyGivenNames s0
  have h0 : Inv k s0 := keeps_State_atTime _ _ h
  clear_value s0
  refine OutInv_next.mpr ?_
  split
  · extract_lets +onlyGivenNames due
    refine Inv_ite (fun _ => ?_) (fun _ => h0)
    extract_lets +onlyGivenNames c s1
    have h1 : Inv k s1 := Holds_of (s := s0) rfl rfl rfl rfl ⟨rfl, rfl, rfl, rfl, rfl, id⟩ h0
    clear_value s1
    extract_lets +onlyGivenNames s2
    have h2 : Inv k s2 := keeps_foldl (fun _ _ hq => keeps_State_modInst _ _ _ hq) h1
    clear_value s2
    exact keeps_fabricChanged _ (keeps_raiseFab _ _ _ (Holds_of (s := s2) rfl rfl rfl rfl ⟨rfl, rfl, rfl, rfl, rfl, id⟩ h2))
  · exact h0

theorem keeps_execBoundaryStrobe {k : Fixed} (a0) (a1) (s : State) (h : Inv k s) :
    OutInv k (execBoundaryStrobe a0 a1 s) := by
  unfold execBoundaryStrobe
  repeat' first
    | with_reducible assumption | with_reducible apply keeps_State_atTime | with_reducible apply keeps_lockout
    | with_reducible refine OutInv_next.mpr ?_ | intro _
    | (simp only [↓Inv_mk]; refine Holds_of ?_ ?_ ?_ ?_ ?_ ?_; rfl; rfl; rfl; rfl; exact ⟨rfl, rfl, rfl, rfl, rfl, id⟩) | split

theorem keeps_execDualRailFault {k : Fixed} (a0) (s : State) (h : Inv k s) : OutInv k (execDualRailFault a0 s) := by
  unfold execDualRailFault
  repeat' first
    | with_reducible assumption | with_reducible apply keeps_State_atTime | with_reducible apply keeps_lockout
    | with_reducible refine Inv_ite ?_ ?_ | with_reducible refine OutInv_next.mpr ?_ | intro _

theorem keeps_execFabricMemoryFault {k : Fixed} (a0) (s : State) (h : Inv k s) : OutInv k (execFabricMemoryFault a0 s) := by
  unfold execFabricMemoryFault
  repeat' first
    | with_reducible assumption | with_reducible apply keeps_State_atTime | with_reducible apply keeps_lockout
    | with_reducible refine Inv_ite ?_ ?_ | with_reducible refine OutInv_next.mpr ?_ | intro _

theorem keeps_channelFails {k : Fixed} (a0) (a1) (a2) (s : State) (h : Inv k s) : Inv k (channelFails a0 a1 a2 s) := by
  unfold channelFails
  repeat' first
    | with_reducible assumption | with_reducible apply keeps_enterLocked | with_reducible apply keeps_raiseFab
    | with_reducible apply keeps_fabricChanged | with_reducible apply keeps_foldl | intro _
    | (simp only [↓Inv_mk]; refine Holds_of ?_ ?_ ?_ ?_ ?_ ?_; rfl; rfl; rfl; rfl; exact ⟨rfl, rfl, rfl, rfl, rfl, id⟩)

theorem keeps_execTestPulse {k : Fixed} (a0) (a1) (s : State) (h : Inv k s) : OutInv k (execTestPulse a0 a1 s) := by
  unfold execTestPulse
  repeat' first
    | with_reducible assumption | with_reducible apply keeps_State_atTime | with_reducible apply keeps_fabricChanged
    | with_reducible refine Inv_ite ?_ ?_ | with_reducible refine OutInv_next.mpr ?_ | intro _
    | (simp only [↓Inv_mk]; refine Holds_of ?_ ?_ ?_ ?_ ?_ ?_; rfl; rfl; rfl; rfl; exact ⟨rfl, rfl, rfl, rfl, rfl, id⟩)

theorem keeps_execTestPulseEnd {k : Fixed} (a0) (a1) (s : State) (h : Inv k s) : OutInv k (execTestPulseEnd a0 a1 s) := by
  unfold execTestPulseEnd
  repeat' first
    | with_reducible assumption | with_reducible apply keeps_State_atTime | with_reducible apply keeps_channelFails
    | with_reducible apply keeps_fabricChanged | with_reducible refine OutInv_next.mpr ?_ | intro _
    | (simp only [↓Inv_mk]; refine Holds_of ?_ ?_ ?_ ?_ ?_ ?_; rfl; rfl; rfl; rfl; exact ⟨rfl, rfl, rfl, rfl, rfl, id⟩) | split

theorem keeps_execReadbackTimeout {k : Fixed} (a0) (a1) (s : State) (h : Inv k s) :
    OutInv k (execReadbackTimeout a0 a1 s) := by
  unfold execReadbackTimeout
  repeat' first
    | with_reducible assumption | with_reducible apply keeps_State_atTime | with_reducible apply keeps_channelFails
    | with_reducible refine Inv_ite ?_ ?_ | with_reducible refine OutInv_next.mpr ?_ | intro _

theorem keeps_resetInst {k : Fixed} (s : State) (a1) (h : Inv k s) : Inv k (resetInst s a1) := by
  unfold resetInst
  repeat' first
    | with_reducible assumption | with_reducible apply keeps_enterReset | intro _
    | (simp only [↓Inv_mk]; refine Holds_of ?_ ?_ ?_ ?_ ?_ ?_; rfl; rfl; rfl; rfl; exact ⟨rfl, rfl, rfl, rfl, rfl, id⟩) | split

theorem keeps_invalidPulse {k : Fixed} (s : State) (h : Inv k s) : Inv k (invalidPulse s) := by
  unfold invalidPulse
  repeat' first
    | with_reducible assumption | with_reducible apply keeps_raiseFab
    | (simp only [↓Inv_mk]; refine Holds_of ?_ ?_ ?_ ?_ ?_ ?_; rfl; rfl; rfl; rfl; exact ⟨rfl, rfl, rfl, rfl, rfl, id⟩)

theorem keeps_countPulse {k : Fixed} (s : State) (h : Inv k s) : Inv k (countPulse s) := by
  unfold countPulse
  repeat' first
    | with_reducible assumption | (simp only [↓Inv_mk]; refine Holds_of ?_ ?_ ?_ ?_ ?_ ?_; rfl; rfl; rfl; rfl; exact ⟨rfl, rfl, rfl, rfl, rfl, id⟩)

theorem keeps_execAckPulse {k : Fixed} (a0) (a1) (a2) (a3) (a4) (a5) (s : State) (h : Inv k s) :
    OutInv k (execAckPulse a0 a1 a2 a3 a4 a5 s) := by
  unfold execAckPulse
  repeat' first
    | with_reducible assumption | with_reducible apply keeps_State_atTime | with_reducible apply keeps_fabricChanged
    | with_reducible apply keeps_resetInst | with_reducible apply keeps_countPulse
    | with_reducible apply keeps_invalidPulse | with_reducible refine Inv_ite ?_ ?_ | with_reducible apply keeps_foldl
    | with_reducible refine OutInv_next.mpr ?_ | intro _

theorem keeps_execRestartPulse {k : Fixed} (a0) (a1) (a2) (a3) (a4) (a5) (s : State) (h : Inv k s) :
    OutInv k (execRestartPulse a0 a1 a2 a3 a4 a5 s) := by
  unfold execRestartPulse
  repeat' first
    | with_reducible assumption | with_reducible apply keeps_State_atTime | with_reducible apply keeps_countPulse
    | with_reducible apply keeps_State_modInst | with_reducible apply keeps_fabricChanged
    | with_reducible apply keeps_enterRun | with_reducible apply keeps_invalidPulse
    | with_reducible refine Inv_ite ?_ ?_ | with_reducible refine OutInv_next.mpr ?_ | intro _ | split

theorem keeps_reportRoles {k : Fixed} (s : State) (h : Inv k s) : Inv k (reportRoles s) := by
  unfold reportRoles
  repeat' first
    | with_reducible assumption | with_reducible apply keeps_raise | with_reducible apply keeps_foldl | intro _

theorem keeps_sendRoles {k : Fixed} (s : State) (h : Inv k s) : Inv k (sendRoles s) := by
  unfold sendRoles
  split
  · exact h
  · simp only [↓Inv_mk]
    exact Holds_of rfl rfl rfl rfl ⟨rfl, rfl, rfl, rfl, rfl, groupsOk_zip (fun e he => by simpa using he)⟩ h

theorem keeps_checkBindings {k : Fixed} (s : State) (h : Inv k s) : Inv k (checkBindings s) := by
  unfold checkBindings
  repeat' first
    | with_reducible assumption | with_reducible apply keeps_raise | with_reducible refine Inv_ite ?_ ?_
    | with_reducible apply keeps_foldl | intro _
    | (simp only [↓Inv_mk]; refine Holds_of ?_ ?_ ?_ ?_ ?_ ?_; rfl; rfl; rfl; rfl; exact ⟨rfl, rfl, rfl, rfl, rfl, id⟩)

theorem keeps_activateMap {k : Fixed} (a0) (s : State) (h : Inv k s) : Inv k (activateMap a0 s) := by
  unfold activateMap
  repeat' first
    | with_reducible assumption | with_reducible apply keeps_sendRoles | with_reducible apply keeps_enterTripped
    | with_reducible apply keeps_checkBindings | with_reducible apply keeps_foldl | intro _
    | (simp only [↓Inv_mk]; refine Holds_of ?_ ?_ ?_ ?_ ?_ ?_; rfl; rfl; rfl; rfl; exact ⟨by first | rfl | simp [modAt], by first | rfl | simp [modAt], by first | rfl | simp [modAt], by first | rfl | simp [modAt],
      by first | rfl | simp [modAt], id⟩) | split

theorem keeps_stageMap {k : Fixed} (a0) (a1) (s : State) (h : Inv k s) : Inv k (stageMap a0 a1 s) := by
  unfold stageMap
  repeat' first
    | with_reducible assumption | with_reducible apply keeps_raiseFab | with_reducible refine Inv_ite ?_ ?_ | intro _
    | (simp only [↓Inv_mk]; refine Holds_of ?_ ?_ ?_ ?_ ?_ ?_; rfl; rfl; rfl; rfl; exact ⟨rfl, rfl, rfl, rfl, rfl, id⟩)

theorem keeps_echoMap {k : Fixed} (a0) (s : State) (h : Inv k s) : Inv k (echoMap a0 s) := by
  unfold echoMap
  repeat' first
    | with_reducible assumption | with_reducible apply keeps_raiseFab | intro _
    | (simp only [↓Inv_mk]; refine Holds_of ?_ ?_ ?_ ?_ ?_ ?_; rfl; rfl; rfl; rfl; exact ⟨rfl, rfl, rfl, rfl, rfl, id⟩) | split

theorem keeps_execMapExpiry {k : Fixed} (a0) (s : State) (h : Inv k s) : OutInv k (execMapExpiry a0 s) := by
  unfold execMapExpiry
  repeat' first
    | with_reducible assumption | with_reducible apply keeps_State_atTime | with_reducible apply keeps_raiseFab
    | with_reducible refine OutInv_next.mpr ?_ | intro _
    | (simp only [↓Inv_mk]; refine Holds_of ?_ ?_ ?_ ?_ ?_ ?_; rfl; rfl; rfl; rfl; exact ⟨rfl, rfl, rfl, rfl, rfl, id⟩) | split

theorem keeps_execMapCopiesWritten {k : Fixed} (a0) (s : State) (h : Inv k s) : OutInv k (execMapCopiesWritten a0 s) := by
  unfold execMapCopiesWritten
  repeat' first
    | with_reducible assumption | with_reducible apply keeps_State_atTime | with_reducible apply keeps_activateMap
    | with_reducible apply keeps_fabricChanged | with_reducible apply keeps_reportRoles
    | with_reducible apply keeps_raiseFab | with_reducible refine OutInv_next.mpr ?_
    | (simp only [↓Inv_mk]; refine Holds_of ?_ ?_ ?_ ?_ ?_ ?_; rfl; rfl; rfl; rfl; exact ⟨rfl, rfl, rfl, rfl, rfl, id⟩) | split

theorem keeps_execMapPeriodicCheck {k : Fixed} (a0) (a1) (a2) (a3) (s : State) (h : Inv k s) :
    OutInv k (execMapPeriodicCheck a0 a1 a2 a3 s) := by
  unfold execMapPeriodicCheck
  repeat' first
    | with_reducible assumption | with_reducible apply keeps_State_atTime | with_reducible apply keeps_raiseFab
    | with_reducible apply keeps_lockout | with_reducible refine OutInv_next.mpr ?_ | intro _
    | (simp only [↓Inv_mk]; refine Holds_of ?_ ?_ ?_ ?_ ?_ ?_; rfl; rfl; rfl; rfl; exact ⟨rfl, rfl, rfl, rfl, rfl, id⟩) | split

end Sys2Proof.Machine
end

