-- ==== Sys2Proof/Laws/KeepsC.lean ====
section
/-! SUPPORT. The invariant of Laws/Kept.lean is kept by: the field groups, outputs, the bridge, images and lanes. -/

set_option Elab.async false

set_option linter.all false

namespace Sys2Proof.Machine

theorem keeps_execSample {k : Fixed} (a0) (a1) (a2) (s : State) (h : Inv k s) : OutInv k (execSample a0 a1 a2 s) := by
  unfold execSample
  repeat' first
    | with_reducible assumption
    | (refine fun (q : Group) (hq : q.chans.length = 16) => (?_ : List.length _ = 16); (first | exact hq | simpa [modAt, Group.modChan, Group.swapBank, Group.applyCmd, Group.powerDown, chanNos] using hq | simp [Group.powerDown, chanNos])) | with_reducible apply keeps_State_atTime | with_reducible apply keeps_State_modGroup
    | with_reducible apply keeps_raise | with_reducible apply keeps_State_emit | with_reducible refine Inv_ite ?_ ?_
    | with_reducible apply keeps_foldl | with_reducible refine OutInv_next.mpr ?_ | intro _

theorem keeps_latchGroup {k : Fixed} (s : State) (a1) (h : Inv k s) : Inv k (latchGroup s a1) := by
  unfold latchGroup
  repeat' first
    | with_reducible assumption
    | (refine fun (q : Group) (hq : q.chans.length = 16) => (?_ : List.length _ = 16); (first | exact hq | simpa [modAt, Group.modChan, Group.swapBank, Group.applyCmd, Group.powerDown, chanNos] using hq | simp [Group.powerDown, chanNos])) | with_reducible apply keeps_State_modGroup | with_reducible refine Inv_ite ?_ ?_
    | intro _

theorem keeps_latchAll {k : Fixed} (s : State) (h : Inv k s) : Inv k (latchAll s) := by
  unfold latchAll
  repeat' first
    | with_reducible assumption | with_reducible apply keeps_latchGroup | with_reducible apply keeps_State_emit
    | with_reducible refine Inv_ite ?_ ?_ | with_reducible apply keeps_foldl | intro _

theorem keeps_linkError {k : Fixed} (a0) (s : State) (h : Inv k s) : Inv k (linkError a0 s) :=
  keeps_State_modGroup _ _ _ (fun _ hq => hq) h

theorem keeps_execStateFrame {k : Fixed} (a0) (a1) (a2) (s : State) (h : Inv k s) :
    OutInv k (execStateFrame a0 a1 a2 s) := by
  unfold execStateFrame
  repeat' first
    | with_reducible assumption | with_reducible apply keeps_State_atTime | with_reducible apply keeps_linkError
    | with_reducible apply keeps_State_modGroup | with_reducible apply keeps_raise
    | with_reducible refine Inv_ite ?_ ?_ | with_reducible refine OutInv_next.mpr ?_ | intro _
    | (simp only [↓Inv_mk]; refine Holds_of ?_ ?_ ?_ ?_ ?_ ?_; rfl; rfl; rfl; rfl; exact ⟨rfl, rfl, rfl, rfl, rfl, id⟩)

theorem keeps_takeEdge {k : Fixed} (a0) (s : State) (a2) (h : Inv k s) : Inv k (takeEdge a0 s a2) := by
  unfold takeEdge
  repeat' first
    | with_reducible assumption | with_reducible refine Inv_ite ?_ ?_ | intro _
    | (simp only [↓Inv_mk]; refine Holds_of ?_ ?_ ?_ ?_ ?_ ?_; rfl; rfl; rfl; rfl; exact ⟨rfl, rfl, rfl, rfl, rfl, id⟩)

theorem keeps_execEdgeFrame {k : Fixed} (a0) (a1) (a2) (s : State) (h : Inv k s) : OutInv k (execEdgeFrame a0 a1 a2 s) := by
  unfold execEdgeFrame
  repeat' first
    | with_reducible assumption | with_reducible apply keeps_State_atTime | with_reducible apply keeps_takeEdge
    | with_reducible apply keeps_linkError | with_reducible refine Inv_ite ?_ ?_ | with_reducible apply keeps_foldl
    | with_reducible refine OutInv_next.mpr ?_ | intro _

theorem keeps_execGroupLinkTimeout {k : Fixed} (a0) (a1) (s : State) (h : Inv k s) :
    OutInv k (execGroupLinkTimeout a0 a1 s) := by
  unfold execGroupLinkTimeout
  repeat' first
    | with_reducible assumption | with_reducible apply keeps_State_atTime | with_reducible apply keeps_State_modGroup
    | with_reducible apply keeps_raise | with_reducible refine Inv_ite ?_ ?_
    | with_reducible refine OutInv_next.mpr ?_ | intro _

theorem keeps_execConfigWrite {k : Fixed} (a0) (a1) (a2) (s : State) (h : Inv k s) :
    OutInv k (execConfigWrite a0 a1 a2 s) := by
  unfold execConfigWrite
  repeat' first
    | with_reducible assumption
    | (refine fun (q : Group) (hq : q.chans.length = 16) => (?_ : List.length _ = 16); (first | exact hq | simpa [modAt, Group.modChan, Group.swapBank, Group.applyCmd, Group.powerDown, chanNos] using hq | simp [Group.powerDown, chanNos])) | with_reducible apply keeps_State_atTime | with_reducible apply keeps_State_modGroup
    | with_reducible apply keeps_raise | with_reducible refine OutInv_next.mpr ?_ | intro _ | split

theorem keeps_execConfigAck {k : Fixed} (a0) (a1) (a2) (s : State) (h : Inv k s) : OutInv k (execConfigAck a0 a1 a2 s) := by
  unfold execConfigAck
  repeat' first
    | with_reducible assumption | with_reducible apply keeps_State_atTime | with_reducible apply keeps_State_modGroup
    | with_reducible refine Inv_ite ?_ ?_ | with_reducible refine OutInv_next.mpr ?_ | intro _

theorem keeps_execBankSwap {k : Fixed} (a0) (s : State) (h : Inv k s) : OutInv k (execBankSwap a0 s) := by
  unfold execBankSwap
  repeat' first
    | with_reducible assumption
    | (refine fun (q : Group) (hq : q.chans.length = 16) => (?_ : List.length _ = 16); (first | exact hq | simpa [modAt, Group.modChan, Group.swapBank, Group.applyCmd, Group.powerDown, chanNos] using hq | simp [Group.powerDown, chanNos])) | with_reducible apply keeps_State_atTime | with_reducible apply keeps_State_modGroup
    | with_reducible apply keeps_raise | with_reducible refine Inv_ite ?_ ?_ | with_reducible apply keeps_foldl
    | with_reducible refine OutInv_next.mpr ?_ | intro _
    | (simp only [↓Inv_mk]; refine Holds_of ?_ ?_ ?_ ?_ ?_ ?_; rfl; rfl; rfl; rfl; exact ⟨rfl, rfl, rfl, rfl, rfl, id⟩)

theorem keeps_execMaxOn {k : Fixed} (a0) (a1) (s : State) (h : Inv k s) : OutInv k (execMaxOn a0 a1 s) := by
  unfold execMaxOn
  repeat' first
    | with_reducible assumption | with_reducible apply keeps_State_atTime | with_reducible apply keeps_raise
    | with_reducible apply keeps_State_modChan | with_reducible refine Inv_ite ?_ ?_
    | with_reducible refine OutInv_next.mpr ?_ | intro _

theorem keeps_execChatterWindow {k : Fixed} (a0) (a1) (s : State) (h : Inv k s) : OutInv k (execChatterWindow a0 a1 s) := by
  unfold execChatterWindow
  repeat' first
    | with_reducible assumption | with_reducible apply keeps_State_atTime | with_reducible apply keeps_State_modChan
    | with_reducible apply keeps_raise | with_reducible refine Inv_ite ?_ ?_
    | with_reducible refine OutInv_next.mpr ?_ | intro _

theorem keeps_checkInhibit {k : Fixed} (s : State) (a1) (h : Inv k s) : Inv k (checkInhibit s a1) := by
  unfold checkInhibit
  repeat' first
    | with_reducible assumption | with_reducible apply keeps_raise | with_reducible apply keeps_State_modGroup
    | with_reducible refine Inv_ite ?_ ?_ | intro _

theorem keeps_discardFrame {k : Fixed} (a0) (s : State) (h : Inv k s) : Inv k (discardFrame a0 s) :=
  keeps_State_modGroup _ _ _ (fun _ hq => hq) h

theorem keeps_takeOutput {k : Fixed} (a0) (a1) (s : State) (h : Inv k s) : Inv k (takeOutput a0 a1 s) := by
  unfold takeOutput
  repeat' first
    | with_reducible assumption | with_reducible apply keeps_discardFrame | with_reducible apply keeps_State_modGroup
    | with_reducible refine Inv_ite ?_ ?_ | intro _

theorem keeps_execOutputFrame {k : Fixed} (a0) (a1) (a2) (s : State) (h : Inv k s) :
    OutInv k (execOutputFrame a0 a1 a2 s) := by
  unfold execOutputFrame
  repeat' first
    | with_reducible assumption | with_reducible apply keeps_State_atTime | with_reducible apply keeps_takeOutput
    | with_reducible apply keeps_discardFrame | with_reducible apply keeps_linkError
    | with_reducible refine OutInv_next.mpr ?_ | intro _ | split

theorem keeps_execDriveFrame {k : Fixed} (a0) (a1) (a2) (s : State) (h : Inv k s) :
    OutInv k (execDriveFrame a0 a1 a2 s) := by
  unfold execDriveFrame
  repeat' first
    | with_reducible assumption | with_reducible apply keeps_State_atTime | with_reducible apply keeps_State_modGroup
    | with_reducible apply keeps_linkError | with_reducible refine Inv_ite ?_ ?_
    | with_reducible refine OutInv_next.mpr ?_ | intro _

theorem keeps_openLoadEvents {k : Fixed} (old g) (s : State) (h : Inv k s) : Inv k (openLoadEvents old g s) := by
  unfold openLoadEvents
  repeat' first
    | with_reducible assumption | with_reducible apply keeps_raise | with_reducible refine Inv_ite ?_ ?_
    | with_reducible apply keeps_foldl | intro _

theorem keeps_applyFrame {k : Fixed} (a0) (a1) (s : State) (h : Inv k s) : Inv k (applyFrame a0 a1 s) := by
  unfold applyFrame
  repeat' first
    | with_reducible assumption
    | (refine fun (q : Group) (hq : q.chans.length = 16) => (?_ : List.length _ = 16); (first | exact hq | simpa [modAt, Group.modChan, Group.swapBank, Group.applyCmd, Group.powerDown, chanNos] using hq | simp [Group.powerDown, chanNos])) | with_reducible apply keeps_checkInhibit | with_reducible apply keeps_State_modGroup
    | with_reducible apply keeps_openLoadEvents | with_reducible apply keeps_raise
    | with_reducible refine Inv_ite ?_ ?_ | intro _

theorem keeps_execApplyInstant {k : Fixed} (a0) (a1) (s : State) (h : Inv k s) : OutInv k (execApplyInstant a0 a1 s) := by
  unfold execApplyInstant
  repeat' first
    | with_reducible assumption | with_reducible apply keeps_State_atTime | with_reducible apply keeps_State_modGroup
    | with_reducible apply keeps_applyFrame | with_reducible apply keeps_foldl
    | with_reducible refine OutInv_next.mpr ?_ | intro _

theorem keeps_execOvercurrentTrip {k : Fixed} (a0) (a1) (s : State) (h : Inv k s) :
    OutInv k (execOvercurrentTrip a0 a1 s) := by
  unfold execOvercurrentTrip
  repeat' first
    | with_reducible assumption | with_reducible apply keeps_State_atTime | with_reducible apply keeps_raise
    | with_reducible apply keeps_State_modChan | with_reducible refine Inv_ite ?_ ?_
    | with_reducible refine OutInv_next.mpr ?_ | intro _

theorem keeps_execShortCircuit {k : Fixed} (a0) (a1) (s : State) (h : Inv k s) : OutInv k (execShortCircuit a0 a1 s) := by
  unfold execShortCircuit
  repeat' first
    | with_reducible assumption | with_reducible apply keeps_State_atTime | with_reducible apply keeps_raise
    | with_reducible apply keeps_State_modChan | with_reducible refine Inv_ite ?_ ?_
    | with_reducible refine OutInv_next.mpr ?_ | intro _

theorem keeps_execDemagOver {k : Fixed} (a0) (a1) (a2) (s : State) (h : Inv k s) : OutInv k (execDemagOver a0 a1 a2 s) := by
  unfold execDemagOver
  repeat' first
    | with_reducible assumption | with_reducible apply keeps_State_atTime | with_reducible apply keeps_State_modGroup
    | with_reducible apply keeps_State_modChan | with_reducible apply keeps_raise
    | with_reducible refine Inv_ite ?_ ?_ | with_reducible refine OutInv_next.mpr ?_ | intro _

theorem keeps_execDemagHoldExpiry {k : Fixed} (a0) (a1) (s : State) (h : Inv k s) :
    OutInv k (execDemagHoldExpiry a0 a1 s) := by
  unfold execDemagHoldExpiry
  repeat' first
    | with_reducible assumption | with_reducible apply keeps_State_atTime | with_reducible apply keeps_State_modChan
    | with_reducible refine OutInv_next.mpr ?_ | intro _ | split

theorem keeps_execSwitchOnResumed {k : Fixed} (a0) (a1) (s : State) (h : Inv k s) :
    OutInv k (execSwitchOnResumed a0 a1 s) := by
  unfold execSwitchOnResumed
  repeat' first
    | with_reducible assumption | with_reducible apply keeps_State_atTime | with_reducible apply keeps_raise
    | with_reducible apply keeps_State_modGroup | with_reducible refine Inv_ite ?_ ?_
    | with_reducible refine OutInv_next.mpr ?_ | intro _

theorem keeps_execOpenLoad {k : Fixed} (a0) (a1) (s : State) (h : Inv k s) : OutInv k (execOpenLoad a0 a1 s) := by
  unfold execOpenLoad
  repeat' first
    | with_reducible assumption | with_reducible apply keeps_State_atTime | with_reducible apply keeps_raise
    | with_reducible apply keeps_State_modChan | with_reducible refine Inv_ite ?_ ?_
    | with_reducible refine OutInv_next.mpr ?_ | intro _

theorem keeps_execSwitchStuck {k : Fixed} (a0) (a1) (s : State) (h : Inv k s) : OutInv k (execSwitchStuck a0 a1 s) := by
  unfold execSwitchStuck
  repeat' first
    | with_reducible assumption | with_reducible apply keeps_State_atTime | with_reducible apply keeps_raise
    | with_reducible apply keeps_State_modChan | with_reducible refine Inv_ite ?_ ?_
    | with_reducible refine OutInv_next.mpr ?_ | intro _

theorem keeps_execGroupOutputSilent {k : Fixed} (a0) (a1) (s : State) (h : Inv k s) :
    OutInv k (execGroupOutputSilent a0 a1 s) := by
  unfold execGroupOutputSilent
  repeat' first
    | with_reducible assumption
    | (refine fun (q : Group) (hq : q.chans.length = 16) => (?_ : List.length _ = 16); (first | exact hq | simpa [modAt, Group.modChan, Group.swapBank, Group.applyCmd, Group.powerDown, chanNos] using hq | simp [Group.powerDown, chanNos])) | with_reducible apply keeps_State_atTime | with_reducible apply keeps_checkInhibit
    | with_reducible apply keeps_State_modGroup | with_reducible apply keeps_raise
    | with_reducible refine OutInv_next.mpr ?_ | intro _ | split

theorem keeps_execKeepaliveLoss {k : Fixed} (a0) (a1) (s : State) (h : Inv k s) : OutInv k (execKeepaliveLoss a0 a1 s) := by
  unfold execKeepaliveLoss
  repeat' first
    | with_reducible assumption | with_reducible apply keeps_State_atTime | with_reducible apply keeps_State_modGroup
    | with_reducible refine Inv_ite ?_ ?_ | with_reducible refine OutInv_next.mpr ?_ | intro _

theorem keeps_execPumpedRailAtHoldLevel {k : Fixed} (a0) (a1) (s : State) (h : Inv k s) :
    OutInv k (execPumpedRailAtHoldLevel a0 a1 s) := by
  unfold execPumpedRailAtHoldLevel
  repeat' first
    | with_reducible assumption | with_reducible apply keeps_State_atTime | with_reducible apply keeps_State_modGroup
    | with_reducible refine Inv_ite ?_ ?_ | with_reducible refine OutInv_next.mpr ?_ | intro _

theorem keeps_execGroupConverterFail {k : Fixed} (a0) (a1) (s : State) (h : Inv k s) :
    OutInv k (execGroupConverterFail a0 a1 s) := by
  unfold execGroupConverterFail
  repeat' first
    | with_reducible assumption
    | (refine fun (q : Group) (hq : q.chans.length = 16) => (?_ : List.length _ = 16); (first | exact hq | simpa [modAt, Group.modChan, Group.swapBank, Group.applyCmd, Group.powerDown, chanNos] using hq | simp [Group.powerDown, chanNos])) | with_reducible apply keeps_State_modGroup | with_reducible apply keeps_State_atTime
    | with_reducible refine OutInv_next.mpr ?_

theorem keeps_applyBindings {k : Fixed} (a0) (s : State) (h : Inv k s) : Inv k (applyBindings a0 s) := by
  unfold applyBindings
  repeat' first
    | with_reducible assumption | with_reducible apply keeps_raise | intro _
    | (simp only [↓Inv_mk]; refine Holds_of ?_ ?_ ?_ ?_ ?_ ?_; rfl; rfl; rfl; rfl; exact ⟨rfl, rfl, rfl, rfl, rfl, id⟩) | split

theorem keeps_loadRecords {k : Fixed} (s : State) (h : Inv k s) : Inv k (loadRecords s) := by
  unfold loadRecords
  repeat' first
    | with_reducible assumption | with_reducible apply keeps_raise | with_reducible apply keeps_foldl | intro _
    | (simp only [↓Inv_mk]; refine Holds_of ?_ ?_ ?_ ?_ ?_ ?_; rfl; rfl; rfl; rfl; exact ⟨rfl, rfl, rfl, rfl, rfl, id⟩) | split

theorem keeps_State_measureTaken {k : Fixed} (s : State) (a1) (a2) (h : Inv k s) : Inv k (State.measureTaken s a1 a2) := by
  unfold State.measureTaken
  repeat' first
    | with_reducible assumption | with_reducible refine Inv_ite ?_ ?_ | intro _
    | (simp only [↓Inv_mk]; refine Holds_of ?_ ?_ ?_ ?_ ?_ ?_; rfl; rfl; rfl; rfl; exact ⟨by first | rfl | simp [modAt], by first | rfl | simp [modAt], by first | rfl | simp [modAt], by first | rfl | simp [modAt],
      by first | rfl | simp [modAt], id⟩)

theorem keeps_execRecorderMeasurement {k : Fixed} (a0) (a1) (a2) (a3) (s : State) (h : Inv k s) :
    OutInv k (execRecorderMeasurement a0 a1 a2 a3 s) := by
  unfold execRecorderMeasurement
  repeat' first
    | with_reducible assumption | with_reducible apply keeps_State_atTime | with_reducible apply keeps_measure
    | with_reducible apply keeps_State_measureTaken
    | with_reducible refine Inv_ite ?_ ?_ | with_reducible refine OutInv_next.mpr ?_ | intro _ | split

theorem keeps_execRecordWrite {k : Fixed} (a0) (a1) (a2) (s : State) (h : Inv k s) :
    OutInv k (execRecordWrite a0 a1 a2 s) := by
  unfold execRecordWrite
  repeat' first
    | with_reducible assumption | with_reducible apply keeps_State_atTime | with_reducible refine Inv_ite ?_ ?_
    | with_reducible refine OutInv_next.mpr ?_ | intro _
    | (simp only [↓Inv_mk]; refine Holds_of ?_ ?_ ?_ ?_ ?_ ?_; rfl; rfl; rfl; rfl; exact ⟨rfl, rfl, rfl, rfl, rfl, id⟩)

theorem keeps_execRecorderFault {k : Fixed} (a0) (s : State) (h : Inv k s) : OutInv k (execRecorderFault a0 s) := by
  unfold execRecorderFault
  repeat' first
    | with_reducible assumption | with_reducible apply keeps_State_atTime | with_reducible apply keeps_raise
    | with_reducible refine Inv_ite ?_ ?_ | with_reducible refine OutInv_next.mpr ?_ | intro _
    | (simp only [↓Inv_mk]; refine Holds_of ?_ ?_ ?_ ?_ ?_ ?_; rfl; rfl; rfl; rfl; exact ⟨rfl, rfl, rfl, rfl, rfl, id⟩)

theorem keeps_refuseAccess {k : Fixed} (a0) (a1) (a2) (s : State) (h : Inv k s) : Inv k (refuseAccess a0 a1 a2 s) := by
  unfold refuseAccess
  repeat' first
    | with_reducible assumption | with_reducible apply keeps_State_emit
    | (simp only [↓Inv_mk]; refine Holds_of ?_ ?_ ?_ ?_ ?_ ?_; rfl; rfl; rfl; rfl; exact ⟨rfl, rfl, rfl, rfl, rfl, id⟩)

theorem keeps_commonsWrite {k : Fixed} (a0) (a1) (s : State) (h : Inv k s) : Inv k (commonsWrite a0 a1 s) := by
  unfold commonsWrite
  refine Inv_ite (fun _ => ?_) (fun _ => ?_)
  · exact ⟨h.1, wf_cWrite h.mem, h.3, h.4, h.5, h.6, h.7, h.8⟩
  · exact Holds_of (s := s) rfl rfl rfl rfl ⟨rfl, rfl, rfl, rfl, rfl, id⟩ h

theorem keeps_grantRead {k : Fixed} (a0) (a1) (s : State) (h : Inv k s) : Inv k (grantRead a0 a1 s) := by
  unfold grantRead
  repeat' first
    | with_reducible assumption | with_reducible apply keeps_State_setCore | with_reducible apply keeps_State_emit
    | (simp only [↓Inv_mk]; refine Holds_of ?_ ?_ ?_ ?_ ?_ ?_; rfl; rfl; rfl; rfl; exact ⟨rfl, rfl, rfl, rfl, rfl, id⟩) | split

theorem keeps_serveOne {k : Fixed} (s : State) (a1) (h : Inv k s) : Inv k (serveOne s a1) := by
  unfold serveOne
  repeat' first
    | with_reducible assumption | with_reducible apply keeps_grantRead | with_reducible apply keeps_commonsWrite
    | with_reducible refine Inv_ite ?_ ?_ | intro _
    | (simp only [↓Inv_mk]; refine Holds_of ?_ ?_ ?_ ?_ ?_ ?_; rfl; rfl; rfl; rfl; exact ⟨rfl, rfl, rfl, rfl, rfl, id⟩)

theorem keeps_serveWaiters {k : Fixed} (s : State) (h : Inv k s) : Inv k (serveWaiters s) := by
  unfold serveWaiters
  repeat' first
    | with_reducible assumption | with_reducible apply keeps_serveOne | with_reducible apply keeps_foldl
    | (simp only [↓Inv_mk]; refine Holds_of ?_ ?_ ?_ ?_ ?_ ?_; rfl; rfl; rfl; rfl; exact ⟨rfl, rfl, rfl, rfl, rfl, id⟩)

theorem keeps_dropSemas {k : Fixed} (a0) (s : State) (h : Inv k s) : Inv k (dropSemas a0 s) := by
  unfold dropSemas
  repeat' first
    | with_reducible assumption | with_reducible apply keeps_serveWaiters
    | (simp only [↓Inv_mk]; refine Holds_of ?_ ?_ ?_ ?_ ?_ ?_; rfl; rfl; rfl; rfl; exact ⟨rfl, rfl, rfl, rfl, rfl, id⟩)

theorem keeps_waitFor {k : Fixed} (a0) (s : State) (h : Inv k s) : Inv k (waitFor a0 s) := by
  unfold waitFor
  repeat' first
    | with_reducible assumption | (simp only [↓Inv_mk]; refine Holds_of ?_ ?_ ?_ ?_ ?_ ?_; rfl; rfl; rfl; rfl; exact ⟨rfl, rfl, rfl, rfl, rfl, id⟩)

theorem keeps_landOne {k : Fixed} (s : State) (a1) (h : Inv k s) : Inv k (landOne s a1) := by
  unfold landOne
  repeat' first
    | with_reducible assumption | with_reducible apply keeps_waitFor | with_reducible apply keeps_commonsWrite
    | with_reducible refine Inv_ite ?_ ?_ | intro _

theorem keeps_landWhere {k : Fixed} (a0) (s : State) (h : Inv k s) : Inv k (landWhere a0 s) := by
  unfold landWhere
  repeat' first
    | with_reducible assumption | with_reducible apply keeps_landOne | with_reducible apply keeps_foldl
    | (simp only [↓Inv_mk]; refine Holds_of ?_ ?_ ?_ ?_ ?_ ?_; rfl; rfl; rfl; rfl; exact ⟨rfl, rfl, rfl, rfl, rfl, id⟩)

theorem keeps_landBefore {k : Fixed} (a0) (s : State) (h : Inv k s) : Inv k (landBefore a0 s) := by
  unfold landBefore
  repeat' first | with_reducible assumption | with_reducible apply keeps_landWhere

theorem keeps_landOld {k : Fixed} (s : State) (h : Inv k s) : Inv k (landOld s) := by
  unfold landOld
  repeat' first | with_reducible assumption | with_reducible apply keeps_landWhere

theorem keeps_linkOk {k : Fixed} (a0) (a1) (s : State) (h : Inv k s) : Inv k (linkOk a0 a1 s) := by
  unfold linkOk
  repeat' first
    | with_reducible assumption | (simp only [↓Inv_mk]; refine Holds_of ?_ ?_ ?_ ?_ ?_ ?_; rfl; rfl; rfl; rfl; exact ⟨rfl, rfl, rfl, rfl, rfl, id⟩)

theorem keeps_State_modRing {k : Fixed} (s : State) (a1) (a2) (h : Inv k s) : Inv k (State.modRing s a1 a2) := by
  unfold State.modRing
  repeat' first
    | with_reducible assumption | (simp only [↓Inv_mk]; refine Holds_of ?_ ?_ ?_ ?_ ?_ ?_; rfl; rfl; rfl; rfl; exact ⟨by first | rfl | simp [modAt], by first | rfl | simp [modAt], by first | rfl | simp [modAt], by first | rfl | simp [modAt],
      by first | rfl | simp [modAt], id⟩)

theorem keeps_writeBack {k : Fixed} (a0) (a1) (a2) (a3) (s : State) (h : Inv k s) : Inv k (writeBack a0 a1 a2 a3 s) := by
  unfold writeBack
  repeat' first
    | with_reducible assumption | with_reducible apply keeps_State_modRing | with_reducible apply keeps_commonsWrite

theorem keeps_advance {k : Fixed} (a0) (s : State) (h : Inv k s) : Inv k (advance a0 s) := by
  unfold advance
  repeat' first | with_reducible assumption | with_reducible apply keeps_State_modRing

theorem keeps_haltRing {k : Fixed} (a0) (a1) (s : State) (h : Inv k s) : Inv k (haltRing a0 a1 s) := by
  unfold haltRing
  repeat' first
    | with_reducible assumption | with_reducible apply keeps_poke | with_reducible apply keeps_State_modRing
    | with_reducible apply keeps_writeBack

theorem keeps_fetchDesc {k : Fixed} (a0) (s : State) (h : Inv k s) : Inv k (fetchDesc a0 s) := by
  unfold fetchDesc
  repeat' first
    | with_reducible assumption | with_reducible apply keeps_State_modRing | with_reducible apply keeps_raise
    | with_reducible apply keeps_haltRing | with_reducible refine Inv_ite ?_ ?_ | intro _ | split

theorem keeps_moveBytes {k : Fixed} (a0) (a1) (a2) (s : State) (h : Inv k s) : Inv k (moveBytes a0 a1 a2 s) := by
  unfold moveBytes
  repeat' first
    | with_reducible assumption | with_reducible apply keeps_commonsWrite
    | (simp only [↓Inv_mk]; refine Holds_of ?_ ?_ ?_ ?_ ?_ ?_; rfl; rfl; rfl; rfl; exact ⟨rfl, rfl, rfl, rfl, rfl, id⟩)

theorem keeps_ringBell {k : Fixed} (a0) (s : State) (h : Inv k s) : Inv k (ringBell a0 s) := by
  unfold ringBell
  repeat' first
    | with_reducible assumption | with_reducible apply keeps_fetchDesc | with_reducible apply keeps_State_modRing

theorem keeps_abortNow {k : Fixed} (a0) (s : State) (h : Inv k s) : Inv k (abortNow a0 s) := by
  unfold abortNow
  repeat' first
    | with_reducible assumption | with_reducible apply keeps_State_tick | with_reducible apply keeps_moveBytes
    | with_reducible apply keeps_writeBack | with_reducible apply keeps_State_modRing
    | with_reducible apply keeps_advance | with_reducible apply keeps_raise | with_reducible apply keeps_poke
    | with_reducible refine Inv_ite ?_ ?_ | intro _

theorem keeps_ringAbort {k : Fixed} (a0) (s : State) (h : Inv k s) : Inv k (ringAbort a0 s) := by
  unfold ringAbort
  repeat' first
    | with_reducible assumption | with_reducible apply keeps_abortNow | with_reducible apply keeps_State_modRing
    | with_reducible refine Inv_ite ?_ ?_ | intro _

theorem keeps_dmaResume {k : Fixed} (s : State) (h : Inv k s) : Inv k (dmaResume s) := by
  unfold dmaResume
  repeat' first
    | with_reducible assumption | with_reducible apply keeps_raise | with_reducible apply keeps_State_modRing
    | with_reducible apply keeps_abortNow | with_reducible apply keeps_fetchDesc | with_reducible refine Inv_ite ?_ ?_
    | with_reducible apply keeps_foldl | intro _
    | (simp only [↓Inv_mk]; refine Holds_of ?_ ?_ ?_ ?_ ?_ ?_; rfl; rfl; rfl; rfl; exact ⟨rfl, rfl, rfl, rfl, rfl, id⟩)

theorem keeps_excludeLane {k : Fixed} (a0) (a1) (s : State) (h : Inv k s) : Inv k (excludeLane a0 a1 s) := by
  unfold excludeLane
  repeat' first
    | with_reducible assumption | with_reducible apply keeps_exclude | with_reducible apply keeps_dropSemas
    | with_reducible apply keeps_ringAbort | with_reducible apply keeps_foldl | intro _
    | (simp only [↓Inv_mk]; refine Holds_of ?_ ?_ ?_ ?_ ?_ ?_; rfl; rfl; rfl; rfl; exact ⟨by first | rfl | simp [modAt], by first | rfl | simp [modAt], by first | rfl | simp [modAt], by first | rfl | simp [modAt],
      by first | rfl | simp [modAt], id⟩)

theorem keeps_openOp {k : Fixed} (a0) (a1) (a2) (s : State) (h : Inv k s) : Inv k (openOp a0 a1 a2 s) := by
  unfold openOp
  repeat' first | with_reducible assumption | with_reducible apply keeps_State_setCore

theorem keeps_popEvent {k : Fixed} (a0) (a1) (a2) (s : State) (h : Inv k s) : Inv k (popEvent a0 a1 a2 s) := by
  unfold popEvent
  repeat' first
    | with_reducible assumption | with_reducible apply keeps_State_setCore | with_reducible apply keeps_State_tick
    | extract_lets +onlyGivenNames _ | split

theorem keeps_directRead {k : Fixed} (a0) (a1) (a2) (a3) (s : State) (h : Inv k s) : Inv k (directRead a0 a1 a2 a3 s) := by
  unfold directRead
  repeat' first
    | with_reducible assumption | with_reducible apply keeps_refuseAccess | with_reducible apply keeps_linkOk
    | with_reducible apply keeps_landBefore | with_reducible apply keeps_popEvent | with_reducible apply keeps_openOp
    | with_reducible refine Inv_ite ?_ ?_ | intro _ | split

theorem keeps_execDirectRead {k : Fixed} (a0) (a1) (a2) (a3) (a4) (s : State) (h : Inv k s) :
    OutInv k (execDirectRead a0 a1 a2 a3 a4 s) := by
  unfold execDirectRead
  repeat' first
    | with_reducible assumption | with_reducible apply keeps_directRead | with_reducible apply keeps_State_atTime
    | with_reducible refine OutInv_next.mpr ?_

theorem keeps_execEventQueuePop {k : Fixed} (a0) (a1) (a2) (s : State) (h : Inv k s) :
    OutInv k (execEventQueuePop a0 a1 a2 s) := by
  unfold execEventQueuePop
  repeat' first
    | with_reducible assumption | with_reducible apply keeps_directRead | with_reducible apply keeps_State_atTime
    | with_reducible refine OutInv_next.mpr ?_

theorem keeps_execDirectPostedWrite {k : Fixed} (a0) (a1) (a2) (a3) (a4) (s : State) (h : Inv k s) :
    OutInv k (execDirectPostedWrite a0 a1 a2 a3 a4 s) := by
  unfold execDirectPostedWrite
  repeat' first
    | with_reducible assumption | with_reducible apply keeps_landOld | with_reducible apply keeps_State_atTime
    | with_reducible apply keeps_refuseAccess | with_reducible apply keeps_linkOk
    | with_reducible refine Inv_ite ?_ ?_ | with_reducible refine OutInv_next.mpr ?_ | intro _
    | (simp only [↓Inv_mk]; refine Holds_of ?_ ?_ ?_ ?_ ?_ ?_; rfl; rfl; rfl; rfl; exact ⟨rfl, rfl, rfl, rfl, rfl, id⟩)

theorem keeps_execDirectNonpostedWrite {k : Fixed} (a0) (a1) (a2) (a3) (a4) (s : State) (h : Inv k s) :
    OutInv k (execDirectNonpostedWrite a0 a1 a2 a3 a4 s) := by
  unfold execDirectNonpostedWrite
  repeat' first
    | with_reducible assumption | with_reducible apply keeps_State_atTime | with_reducible apply keeps_refuseAccess
    | with_reducible apply keeps_linkOk | with_reducible apply keeps_landBefore | with_reducible apply keeps_openOp
    | with_reducible apply keeps_ringBell | with_reducible apply keeps_ringAbort | with_reducible refine Inv_ite ?_ ?_
    | with_reducible refine OutInv_next.mpr ?_ | intro _

theorem keeps_exclusiveRead {k : Fixed} (a0) (a1) (s : State) (h : Inv k s) : Inv k (exclusiveRead a0 a1 s) := by
  unfold exclusiveRead
  repeat' first
    | with_reducible assumption | with_reducible apply keeps_dropSemas | with_reducible apply keeps_State_setCore
    | with_reducible apply keeps_waitFor | with_reducible apply keeps_grantRead | with_reducible refine Inv_ite ?_ ?_
    | intro _ | split

theorem keeps_execExclusiveRead {k : Fixed} (a0) (a1) (a2) (a3) (s : State) (h : Inv k s) :
    OutInv k (execExclusiveRead a0 a1 a2 a3 s) := by
  unfold execExclusiveRead
  repeat' first
    | with_reducible assumption | with_reducible apply keeps_State_atTime | with_reducible apply keeps_refuseAccess
    | with_reducible apply keeps_exclusiveRead | with_reducible apply keeps_linkOk
    | with_reducible apply keeps_landBefore | with_reducible apply keeps_landOld | with_reducible refine Inv_ite ?_ ?_
    | with_reducible refine OutInv_next.mpr ?_ | intro _ | split

theorem keeps_execExclusiveWrite {k : Fixed} (a0) (a1) (a2) (a3) (s : State) (h : Inv k s) :
    OutInv k (execExclusiveWrite a0 a1 a2 a3 s) := by
  unfold execExclusiveWrite
  repeat' first
    | with_reducible assumption | with_reducible apply keeps_State_atTime | with_reducible apply keeps_dropSemas
    | with_reducible apply keeps_commonsWrite | with_reducible apply keeps_refuseAccess
    | with_reducible apply keeps_linkOk | with_reducible apply keeps_landBefore
    | with_reducible apply keeps_State_setCore | with_reducible apply keeps_poke
    | with_reducible apply keeps_State_emit | with_reducible refine Inv_ite ?_ ?_
    | with_reducible refine OutInv_next.mpr ?_ | intro _ | split

theorem keeps_answer {k : Fixed} (a0) (a1) (a2) (s : State) (h : Inv k s) : Inv k (answer a0 a1 a2 s) := by
  unfold answer
  repeat' first
    | with_reducible assumption | with_reducible apply keeps_State_setCore | with_reducible apply keeps_State_emit
    | (simp only [↓Inv_mk]; refine Holds_of ?_ ?_ ?_ ?_ ?_ ?_; rfl; rfl; rfl; rfl; exact ⟨rfl, rfl, rfl, rfl, rfl, id⟩)

theorem keeps_execDirectCompletion {k : Fixed} (a0) (a1) (a2) (a3) (s : State) (h : Inv k s) :
    OutInv k (execDirectCompletion a0 a1 a2 a3 s) := by
  unfold execDirectCompletion
  repeat' first
    | with_reducible assumption | with_reducible apply keeps_linkOk | with_reducible apply keeps_State_atTime
    | with_reducible apply keeps_answer | with_reducible refine OutInv_next.mpr ?_ | intro _ | split

theorem keeps_execBridgeTimeout {k : Fixed} (a0) (a1) (a2) (s : State) (h : Inv k s) :
    OutInv k (execBridgeTimeout a0 a1 a2 s) := by
  unfold execBridgeTimeout
  repeat' first
    | with_reducible assumption | with_reducible apply keeps_State_atTime | with_reducible apply keeps_answer
    | with_reducible refine OutInv_next.mpr ?_ | intro _ | split

theorem keeps_execSemaphoreBreak {k : Fixed} (a0) (a1) (s : State) (h : Inv k s) :
    OutInv k (execSemaphoreBreak a0 a1 s) := by
  unfold execSemaphoreBreak
  repeat' first
    | with_reducible assumption | with_reducible apply keeps_State_atTime | with_reducible apply keeps_dropSemas
    | with_reducible apply keeps_raise | with_reducible refine OutInv_next.mpr ?_ | intro _
    | (simp only [↓Inv_mk]; refine Holds_of ?_ ?_ ?_ ?_ ?_ ?_; rfl; rfl; rfl; rfl; exact ⟨rfl, rfl, rfl, rfl, rfl, id⟩) | split

theorem keeps_execLinkReplay {k : Fixed} (a0) (a1) (a2) (s : State) (h : Inv k s) :
    OutInv k (execLinkReplay a0 a1 a2 s) := by
  unfold execLinkReplay
  repeat' first
    | with_reducible assumption | with_reducible apply keeps_State_atTime | with_reducible apply keeps_raise
    | with_reducible refine Inv_ite ?_ ?_ | with_reducible refine OutInv_next.mpr ?_ | intro _
    | (simp only [↓Inv_mk]; refine Holds_of ?_ ?_ ?_ ?_ ?_ ?_; rfl; rfl; rfl; rfl; exact ⟨rfl, rfl, rfl, rfl, rfl, id⟩)

theorem keeps_recordLate {k : Fixed} (a0) (a1) (a2) (a3) (a4) (a5) (a6) (s : State) (h : Inv k s) :
    Inv k (recordLate a0 a1 a2 a3 a4 a5 a6 s) := by
  unfold recordLate
  repeat' first
    | with_reducible assumption | with_reducible apply keeps_raiseIf | with_reducible apply keeps_poke
    | with_reducible apply keeps_raise | with_reducible refine Inv_ite ?_ ?_ | intro _
    | (simp only [↓Inv_mk]; refine Holds_of ?_ ?_ ?_ ?_ ?_ ?_; rfl; rfl; rfl; rfl; exact ⟨rfl, rfl, rfl, rfl, rfl, id⟩)

theorem keeps_execLateError {k : Fixed} (a0) (a1) (a2) (a3) (a4) (a5) (a6) (s : State) (h : Inv k s) :
    OutInv k (execLateError a0 a1 a2 a3 a4 a5 a6 s) := by
  unfold execLateError
  repeat' first
    | with_reducible assumption | with_reducible apply keeps_State_atTime | with_reducible apply keeps_recordLate
    | with_reducible refine OutInv_next.mpr ?_ | intro _
    | (simp only [↓Inv_mk]; refine Holds_of ?_ ?_ ?_ ?_ ?_ ?_; rfl; rfl; rfl; rfl; exact ⟨rfl, rfl, rfl, rfl, rfl, id⟩) | split

theorem keeps_queueWord {k : Fixed} (a0) (a1) (s : State) (a3) (h : Inv k s) : Inv k (queueWord a0 a1 s a3) := by
  unfold queueWord
  repeat' first
    | with_reducible assumption | with_reducible apply keeps_State_setCore | with_reducible apply keeps_raiseIf
    | with_reducible refine Inv_ite ?_ ?_ | intro _
    | (simp only [↓Inv_mk]; refine Holds_of ?_ ?_ ?_ ?_ ?_ ?_; rfl; rfl; rfl; rfl; exact ⟨rfl, rfl, rfl, rfl, rfl, id⟩)

theorem keeps_routeWord {k : Fixed} (a0) (a1) (s : State) (h : Inv k s) : Inv k (routeWord a0 a1 s) := by
  unfold routeWord
  repeat' first
    | with_reducible assumption | with_reducible apply keeps_queueWord | with_reducible refine Inv_ite ?_ ?_
    | with_reducible apply keeps_foldl | intro _
    | (simp only [↓Inv_mk]; refine Holds_of ?_ ?_ ?_ ?_ ?_ ?_; rfl; rfl; rfl; rfl; exact ⟨rfl, rfl, rfl, rfl, rfl, id⟩)

theorem keeps_execEventPoll {k : Fixed} (a0) (s : State) (h : Inv k s) : OutInv k (execEventPoll a0 s) := by
  unfold execEventPoll
  repeat' first
    | with_reducible assumption | with_reducible apply keeps_State_atTime | with_reducible apply keeps_routeWord
    | with_reducible apply keeps_foldl | with_reducible refine OutInv_next.mpr ?_ | intro _
    | (simp only [↓Inv_mk]; refine Holds_of ?_ ?_ ?_ ?_ ?_ ?_; rfl; rfl; rfl; rfl; exact ⟨rfl, rfl, rfl, rfl, rfl, id⟩)

theorem keeps_execDmaDoorbell {k : Fixed} (a0) (a1) (a2) (s : State) (h : Inv k s) :
    OutInv k (execDmaDoorbell a0 a1 a2 s) := by
  unfold execDmaDoorbell
  repeat' first
    | with_reducible assumption | with_reducible apply keeps_landOld | with_reducible apply keeps_State_atTime
    | with_reducible apply keeps_ringBell | with_reducible refine Inv_ite ?_ ?_
    | with_reducible refine OutInv_next.mpr ?_ | intro _

theorem keeps_execDmaAbort {k : Fixed} (a0) (a1) (a2) (s : State) (h : Inv k s) : OutInv k (execDmaAbort a0 a1 a2 s) := by
  unfold execDmaAbort
  repeat' first
    | with_reducible assumption | with_reducible apply keeps_State_atTime | with_reducible apply keeps_ringAbort
    | with_reducible refine Inv_ite ?_ ?_ | with_reducible refine OutInv_next.mpr ?_ | intro _

theorem keeps_followLink {k : Fixed} (a0) (a1) (s : State) (h : Inv k s) : Inv k (followLink a0 a1 s) := by
  unfold followLink
  repeat' first | with_reducible assumption | with_reducible apply keeps_State_modRing

theorem keeps_execDmaDescriptorDone {k : Fixed} (a0) (a1) (s : State) (h : Inv k s) :
    OutInv k (execDmaDescriptorDone a0 a1 s) := by
  unfold execDmaDescriptorDone
  repeat' first
    | with_reducible assumption | with_reducible apply keeps_landOld | with_reducible apply keeps_State_atTime
    | with_reducible apply keeps_fetchDesc | with_reducible apply keeps_followLink
    | with_reducible apply keeps_State_modRing | with_reducible apply keeps_writeBack
    | with_reducible apply keeps_moveBytes | with_reducible apply keeps_advance | with_reducible apply keeps_poke
    | with_reducible refine Inv_ite ?_ ?_ | with_reducible refine OutInv_next.mpr ?_ | intro _

theorem keeps_execChainLimit {k : Fixed} (a0) (a1) (s : State) (h : Inv k s) : OutInv k (execChainLimit a0 a1 s) := by
  unfold execChainLimit
  repeat' first
    | with_reducible assumption | with_reducible apply keeps_State_atTime | with_reducible apply keeps_raise
    | with_reducible apply keeps_haltRing | with_reducible refine Inv_ite ?_ ?_
    | with_reducible refine OutInv_next.mpr ?_ | intro _

theorem keeps_haltOne {k : Fixed} (a0) (s : State) (a2) (h : Inv k s) : Inv k (haltOne a0 s a2) := by
  unfold haltOne
  repeat' first
    | with_reducible assumption | with_reducible apply keeps_State_modRing | with_reducible apply keeps_writeBack
    | with_reducible apply keeps_moveBytes | with_reducible refine Inv_ite ?_ ?_ | intro _

theorem keeps_execDmaBusError {k : Fixed} (a0) (a1) (s : State) (h : Inv k s) : OutInv k (execDmaBusError a0 a1 s) := by
  unfold execDmaBusError
  extract_lets s0 s1 times final n b0 s2
  have h0 : Inv k s0 := keeps_landOld _ (keeps_State_atTime _ _ h)
  refine OutInv_next.mpr (Inv_ite (fun _ => h0) (fun _ => ?_))
  have h1 : Inv k s1 := keeps_foldl (fun _ _ hq => keeps_haltOne _ _ _ hq) h0
  have h2 : Inv k s2 := by
    clear_value s1
    exact Holds_of (s := s1) rfl rfl rfl rfl ⟨rfl, rfl, rfl, rfl, rfl, id⟩ h1
  exact keeps_raiseIf _ _ _ _ (keeps_poke _ _ _ (keeps_raise _ _ _ h2))

theorem keeps_execDmaRestart {k : Fixed} (a0) (s : State) (h : Inv k s) : OutInv k (execDmaRestart a0 s) := by
  unfold execDmaRestart
  repeat' first
    | with_reducible assumption | with_reducible apply keeps_State_atTime | with_reducible apply keeps_dmaResume
    | with_reducible refine OutInv_next.mpr ?_ | intro _ | split

theorem keeps_bumpSeq {k : Fixed} (a0) (s : State) (h : Inv k s) : Inv k (bumpSeq a0 s) := by
  unfold bumpSeq
  repeat' first
    | with_reducible assumption | (simp only [↓Inv_mk]; refine Holds_of ?_ ?_ ?_ ?_ ?_ ?_; rfl; rfl; rfl; rfl; exact ⟨rfl, rfl, rfl, rfl, rfl, id⟩)

theorem keeps_sendFrame {k : Fixed} (a0) (a1) (a2) (a3) (a4) (s : State) (h : Inv k s) :
    Inv k (sendFrame a0 a1 a2 a3 a4 s) := by
  unfold sendFrame
  repeat' first
    | with_reducible assumption | with_reducible apply keeps_State_emit | with_reducible apply keeps_bumpSeq

theorem keeps_sendObjectFrom {k : Fixed} (a0) (a1) (a2) (a3) (a4) (s : State) (h : Inv k s) :
    Inv k (sendObjectFrom a0 a1 a2 a3 a4 s) := by
  induction a3 generalizing a4 s with
  | zero => exact h
  | succ n ih =>
    exact Inv_ite (fun _ => keeps_sendFrame _ _ _ _ _ _ h) (fun _ => ih _ _ (keeps_sendFrame _ _ _ _ _ _ h))

theorem keeps_sendObject {k : Fixed} (a0) (a1) (a2) (s : State) (h : Inv k s) : Inv k (sendObject a0 a1 a2 s) := by
  unfold sendObject
  repeat' first | with_reducible assumption | with_reducible apply keeps_sendObjectFrom

theorem keeps_sendControl {k : Fixed} (a0) (s : State) (h : Inv k s) : Inv k (sendControl a0 s) := by
  unfold sendControl
  repeat' first
    | with_reducible assumption | with_reducible apply keeps_State_emit | with_reducible apply keeps_bumpSeq

theorem keeps_mirror {k : Fixed} (a0) (s : State) (h : Inv k s) : Inv k (mirror a0 s) := by
  unfold mirror
  repeat' first
    | with_reducible assumption | with_reducible apply keeps_State_emit | with_reducible apply keeps_bumpSeq
    | with_reducible refine Inv_ite ?_ ?_ | intro _

theorem keeps_forwardImage {k : Fixed} (a0) (s : State) (h : Inv k s) : Inv k (forwardImage a0 s) := by
  unfold forwardImage
  repeat' first
    | with_reducible assumption | with_reducible apply keeps_sendObject | with_reducible refine Inv_ite ?_ ?_
    | intro _

theorem keeps_assemble {k : Fixed} (a0) (s : State) (h : Inv k s) : Inv k (assemble a0 s).1 := by
  unfold assemble
  repeat' first
    | with_reducible assumption | with_reducible apply keeps_raiseIf | with_reducible apply keeps_fillBus
    | (simp only [↓Inv_mk]; refine Holds_of ?_ ?_ ?_ ?_ ?_ ?_; rfl; rfl; rfl; rfl; exact ⟨rfl, rfl, rfl, rfl, rfl, id⟩)

theorem keeps_openVotes {k : Fixed} (a0) (s : State) (h : Inv k s) : Inv k (openVotes a0 s) := by
  unfold openVotes
  repeat' first
    | with_reducible assumption | with_reducible refine Inv_ite ?_ ?_ | intro _
    | (simp only [↓Inv_mk]; refine Holds_of ?_ ?_ ?_ ?_ ?_ ?_; rfl; rfl; rfl; rfl; exact ⟨rfl, rfl, rfl, rfl, rfl, id⟩)

theorem keeps_deliver {k : Fixed} (a0) (s : State) (h : Inv k s) : Inv k (deliver a0 s) := by
  unfold deliver
  repeat' first
    | with_reducible assumption | with_reducible apply keeps_State_modLanes | with_reducible apply keeps_openVotes
    | with_reducible refine Inv_ite ?_ ?_ | intro _
    | (simp only [↓Inv_mk]; refine Holds_of ?_ ?_ ?_ ?_ ?_ ?_; rfl; rfl; rfl; rfl; exact ⟨rfl, rfl, rfl, rfl, rfl, id⟩)

theorem keeps_execImageSealed {k : Fixed} (a0) (s : State) (h : Inv k s) : OutInv k (execImageSealed a0 s) := by
  unfold execImageSealed
  repeat' first
    | with_reducible assumption | with_reducible apply keeps_State_atTime | with_reducible apply keeps_assemble
    | with_reducible apply keeps_forwardImage | with_reducible apply keeps_deliver
    | with_reducible refine Inv_ite ?_ ?_ | with_reducible refine OutInv_next.mpr ?_ | intro _
    | (simp only [↓Inv_mk]; refine Holds_of ?_ ?_ ?_ ?_ ?_ ?_; rfl; rfl; rfl; rfl; exact ⟨rfl, rfl, rfl, rfl, rfl, id⟩)

theorem keeps_execImageLate {k : Fixed} (a0) (s : State) (h : Inv k s) : OutInv k (execImageLate a0 s) := by
  unfold execImageLate
  repeat' first
    | with_reducible assumption | with_reducible apply keeps_State_atTime | with_reducible apply keeps_faultStop
    | with_reducible apply keeps_raise | with_reducible apply keeps_State_modLanes
    | with_reducible refine Inv_ite ?_ ?_ | with_reducible refine OutInv_next.mpr ?_ | intro _

theorem keeps_execReleaseToken {k : Fixed} (a0) (a1) (s : State) (h : Inv k s) : OutInv k (execReleaseToken a0 a1 s) := by
  unfold execReleaseToken
  repeat' first
    | with_reducible assumption | with_reducible apply keeps_State_atTime | with_reducible apply keeps_State_modLane
    | with_reducible refine Inv_ite ?_ ?_ | with_reducible refine OutInv_next.mpr ?_ | intro _ | split

theorem keeps_dropToken {k : Fixed} (a0) (s : State) (h : Inv k s) : Inv k (dropToken a0 s) := by
  unfold dropToken
  repeat' first
    | with_reducible assumption | with_reducible apply keeps_State_modLane
    | (simp only [↓Inv_mk]; refine Holds_of ?_ ?_ ?_ ?_ ?_ ?_; rfl; rfl; rfl; rfl; exact ⟨rfl, rfl, rfl, rfl, rfl, id⟩)

theorem keeps_execTokenTimeout {k : Fixed} (a0) (a1) (s : State) (h : Inv k s) : OutInv k (execTokenTimeout a0 a1 s) := by
  unfold execTokenTimeout
  repeat' first
    | with_reducible assumption | with_reducible apply keeps_State_atTime | with_reducible apply keeps_dropToken
    | with_reducible refine OutInv_next.mpr ?_ | intro _ | split

theorem keeps_releaseTasks {k : Fixed} (a0) (a1) (a2) (a3) (s : State) (h : Inv k s) :
    Inv k (releaseTasks a0 a1 a2 a3 s) := by
  unfold releaseTasks
  repeat' first | with_reducible assumption | with_reducible apply keeps_State_modLane | intro _ | split

theorem keeps_drink {k : Fixed} (a0) (a1) (a2) (a3) (a4) (a5) (s : State) (h : Inv k s) :
    Inv k (drink a0 a1 a2 a3 a4 a5 s) := by
  unfold drink
  repeat' first
    | with_reducible assumption | with_reducible apply keeps_State_modLane | with_reducible apply keeps_reportCause
    | with_reducible apply keeps_laneComplete | with_reducible apply keeps_releaseTasks
    | with_reducible refine Inv_ite ?_ ?_ | intro _

theorem keeps_execLaneDrink {k : Fixed} (a0) (a1) (a2) (a3) (s : State) (h : Inv k s) :
    OutInv k (execLaneDrink a0 a1 a2 a3 s) := by
  unfold execLaneDrink
  repeat' first
    | with_reducible assumption | with_reducible apply keeps_State_atTime | with_reducible apply keeps_dropToken
    | with_reducible apply keeps_drink | with_reducible refine OutInv_next.mpr ?_ | intro _
    | extract_lets +onlyGivenNames _ | split

theorem keeps_State_modTask {k : Fixed} (s : State) (a1) (a2) (h : Inv k s) : Inv k (State.modTask s a1 a2) := by
  unfold State.modTask
  repeat' first
    | with_reducible assumption | (simp only [↓Inv_mk]; refine Holds_of ?_ ?_ ?_ ?_ ?_ ?_; rfl; rfl; rfl; rfl; exact ⟨by first | rfl | simp [modAt], by first | rfl | simp [modAt], by first | rfl | simp [modAt], by first | rfl | simp [modAt],
      by first | rfl | simp [modAt], id⟩)

theorem keeps_splitFault {k : Fixed} (a0) (a1) (a2) (s : State) (h : Inv k s) : Inv k (splitFault a0 a1 a2 s) := by
  unfold splitFault
  repeat' first
    | with_reducible assumption | with_reducible apply keeps_raiseLane | with_reducible apply keeps_State_modTask

theorem keeps_execTallyMessage {k : Fixed} (a0) (a1) (a2) (a3) (a4) (a5) (a6) (s : State) (h : Inv k s) :
    OutInv k (execTallyMessage a0 a1 a2 a3 a4 a5 a6 s) := by
  unfold execTallyMessage
  repeat' first
    | with_reducible assumption | with_reducible apply keeps_State_atTime | with_reducible refine Inv_ite ?_ ?_
    | with_reducible refine OutInv_next.mpr ?_ | intro _
    | (simp only [↓Inv_mk]; refine Holds_of ?_ ?_ ?_ ?_ ?_ ?_; rfl; rfl; rfl; rfl; exact ⟨rfl, rfl, rfl, rfl, rfl, id⟩)

theorem keeps_abandonLane {k : Fixed} (a0) (a1) (s : State) (h : Inv k s) : Inv k (abandonLane a0 a1 s) := by
  unfold abandonLane
  repeat' first
    | with_reducible assumption | with_reducible apply keeps_State_setCore | with_reducible apply keeps_foldl
    | intro _ | (simp only [↓Inv_mk]; refine Holds_of ?_ ?_ ?_ ?_ ?_ ?_; rfl; rfl; rfl; rfl; exact ⟨rfl, rfl, rfl, rfl, rfl, id⟩)

theorem keeps_abandonLate {k : Fixed} (a0) (s : State) (h : Inv k s) : Inv k (abandonLate a0 s) := by
  unfold abandonLate
  repeat' first
    | with_reducible assumption | with_reducible apply keeps_abandonLane | with_reducible apply keeps_foldl | intro _

theorem keeps_windowEvent {k : Fixed} (a0) (a1) (s : State) (h : Inv k s) : Inv k (windowEvent a0 a1 s) := by
  unfold windowEvent
  repeat' first
    | with_reducible assumption | with_reducible apply keeps_raise | with_reducible apply keeps_State_modTask | split

theorem keeps_faultSplits {k : Fixed} (a0) (s : State) (h : Inv k s) : Inv k (faultSplits a0 s) := by
  unfold faultSplits
  repeat' first
    | with_reducible assumption | with_reducible apply keeps_splitFault | with_reducible refine Inv_ite ?_ ?_
    | with_reducible apply keeps_foldl | intro _
    | (simp only [↓Inv_mk]; refine Holds_of ?_ ?_ ?_ ?_ ?_ ?_; rfl; rfl; rfl; rfl; exact ⟨rfl, rfl, rfl, rfl, rfl, id⟩)

theorem keeps_failDeadline {k : Fixed} (a0) (a1) (s : State) (h : Inv k s) : Inv k (failDeadline a0 a1 s) := by
  unfold failDeadline
  repeat' first
    | with_reducible assumption | with_reducible apply keeps_faultStopWith | with_reducible apply keeps_refresh
    | (simp only [↓Inv_mk]; refine Holds_of ?_ ?_ ?_ ?_ ?_ ?_; rfl; rfl; rfl; rfl; exact ⟨rfl, rfl, rfl, rfl, rfl, id⟩)

theorem keeps_decideWindows {k : Fixed} (a0) (a1) (a2) (a3) (a4) (a5) (a6) (s : State) (h : Inv k s) :
    Inv k (decideWindows a0 a1 a2 a3 a4 a5 a6 s) := by
  unfold decideWindows
  repeat' first
    | with_reducible assumption | with_reducible apply keeps_windowEvent | with_reducible apply keeps_raiseIf
    | with_reducible apply keeps_excludeLane | with_reducible apply keeps_failDeadline
    | with_reducible apply keeps_raise | with_reducible apply keeps_faultSplits
    | with_reducible apply keeps_lanesCheck | with_reducible apply keeps_foldl | intro _
    | (simp only [↓Inv_mk]; refine Holds_of ?_ ?_ ?_ ?_ ?_ ?_; rfl; rfl; rfl; rfl; exact ⟨rfl, rfl, rfl, rfl, rfl, id⟩) | split

theorem keeps_decideDeadline {k : Fixed} (s : State) (h : Inv k s) : Inv k (decideDeadline s) := by
  unfold decideDeadline
  repeat' first
    | with_reducible assumption | with_reducible apply keeps_abandonLate | with_reducible apply keeps_decideWindows
    | with_reducible refine Inv_ite ?_ ?_ | intro _ | extract_lets +onlyGivenNames _ | split

theorem keeps_reckonerDisagree {k : Fixed} (s : State) (h : Inv k s) : Inv k (reckonerDisagree s) := by
  unfold reckonerDisagree
  repeat' first
    | with_reducible assumption | with_reducible apply keeps_lockout | with_reducible apply keeps_raiseFab
    | (simp only [↓Inv_mk]; refine Holds_of ?_ ?_ ?_ ?_ ?_ ?_; rfl; rfl; rfl; rfl; exact ⟨rfl, rfl, rfl, rfl, rfl, id⟩)

theorem keeps_execVoteDeadline {k : Fixed} (a0) (a1) (a2) (s : State) (h : Inv k s) :
    OutInv k (execVoteDeadline a0 a1 a2 s) := by
  unfold execVoteDeadline
  repeat' first
    | with_reducible assumption | with_reducible apply keeps_State_atTime | with_reducible apply keeps_decideDeadline
    | with_reducible apply keeps_reckonerDisagree | with_reducible refine Inv_ite ?_ ?_
    | with_reducible refine OutInv_next.mpr ?_ | intro _
    | (simp only [↓Inv_mk]; refine Holds_of ?_ ?_ ?_ ?_ ?_ ?_; rfl; rfl; rfl; rfl; exact ⟨rfl, rfl, rfl, rfl, rfl, id⟩)

theorem keeps_execVerdictTimeout {k : Fixed} (a0) (s : State) (h : Inv k s) : OutInv k (execVerdictTimeout a0 s) := by
  unfold execVerdictTimeout
  repeat' first
    | with_reducible assumption | with_reducible apply keeps_State_atTime
    | with_reducible apply keeps_reckonerDisagree | with_reducible refine Inv_ite ?_ ?_
    | with_reducible refine OutInv_next.mpr ?_ | intro _

theorem keeps_decideHold {k : Fixed} (a0) (s : State) (h : Inv k s) : Inv k (decideHold a0 s) := by
  unfold decideHold
  repeat' first
    | with_reducible assumption | with_reducible apply keeps_windowEvent | with_reducible apply keeps_excludeLane
    | with_reducible apply keeps_failDeadline | with_reducible apply keeps_lanesCheck | intro _
    | (simp only [↓Inv_mk]; refine Holds_of ?_ ?_ ?_ ?_ ?_ ?_; rfl; rfl; rfl; rfl; exact ⟨rfl, rfl, rfl, rfl, rfl, id⟩) | split

theorem keeps_execHoldVote {k : Fixed} (a0) (a1) (a2) (s : State) (h : Inv k s) : OutInv k (execHoldVote a0 a1 a2 s) := by
  unfold execHoldVote
  repeat' first
    | with_reducible assumption | with_reducible apply keeps_State_atTime | with_reducible apply keeps_decideHold
    | with_reducible refine OutInv_next.mpr ?_ | intro _ | split

theorem keeps_execLaneEccError {k : Fixed} (a0) (a1) (s : State) (h : Inv k s) : OutInv k (execLaneEccError a0 a1 s) := by
  unfold execLaneEccError
  repeat' first
    | with_reducible assumption | with_reducible apply keeps_reportCause | with_reducible apply keeps_State_atTime
    | with_reducible refine OutInv_next.mpr ?_

theorem keeps_execLaneTrap {k : Fixed} (a0) (a1) (s : State) (h : Inv k s) : OutInv k (execLaneTrap a0 a1 s) := by
  unfold execLaneTrap
  repeat' first
    | with_reducible assumption | with_reducible apply keeps_reportCause | with_reducible apply keeps_State_atTime
    | with_reducible refine OutInv_next.mpr ?_

theorem keeps_warmMark {k : Fixed} (a0) (a1) (s : State) (h : Inv k s) : Inv k (warmMark a0 a1 s) := by
  unfold warmMark
  repeat' first
    | with_reducible assumption | (simp only [↓Inv_mk]; refine Holds_of ?_ ?_ ?_ ?_ ?_ ?_; rfl; rfl; rfl; rfl; exact ⟨rfl, rfl, rfl, rfl, rfl, id⟩) | split

theorem keeps_execLaneResetComplete {k : Fixed} (a0) (a1) (a2) (s : State) (h : Inv k s) :
    OutInv k (execLaneResetComplete a0 a1 a2 s) := by
  unfold execLaneResetComplete
  repeat' first
    | with_reducible assumption | with_reducible apply keeps_State_atTime | with_reducible apply keeps_warmMark
    | with_reducible apply keeps_State_modLane | with_reducible refine Inv_ite ?_ ?_
    | with_reducible refine OutInv_next.mpr ?_ | intro _

theorem keeps_enterReint {k : Fixed} (a0) (s : State) (h : Inv k s) : Inv k (enterReint a0 s) := by
  unfold enterReint
  repeat' first
    | with_reducible assumption | with_reducible apply keeps_raiseLane | with_reducible apply keeps_State_modLane

theorem keeps_laneBoundary {k : Fixed} (a0) (s : State) (h : Inv k s) : Inv k (laneBoundary a0 s) := by
  unfold laneBoundary
  repeat' first
    | with_reducible assumption | with_reducible apply keeps_enterReint | with_reducible apply keeps_laneToOut
    | with_reducible refine Inv_ite ?_ ?_ | intro _

theorem keeps_reintFailed {k : Fixed} (a0) (s : State) (h : Inv k s) : Inv k (reintFailed a0 s) := by
  unfold reintFailed
  repeat' first
    | with_reducible assumption | with_reducible apply keeps_excludeLane | with_reducible apply keeps_raiseLane

theorem keeps_execReintegrationCopyComplete {k : Fixed} (a0) (a1) (a2) (s : State) (h : Inv k s) :
    OutInv k (execReintegrationCopyComplete a0 a1 a2 s) := by
  unfold execReintegrationCopyComplete
  repeat' first
    | with_reducible assumption | with_reducible apply keeps_State_atTime | with_reducible apply keeps_State_modLane
    | with_reducible apply keeps_reintFailed | with_reducible refine OutInv_next.mpr ?_ | intro _ | split

theorem keeps_execReintegrationTimeout {k : Fixed} (a0) (a1) (s : State) (h : Inv k s) :
    OutInv k (execReintegrationTimeout a0 a1 s) := by
  unfold execReintegrationTimeout
  repeat' first
    | with_reducible assumption | with_reducible apply keeps_State_atTime | with_reducible apply keeps_reintFailed
    | with_reducible refine OutInv_next.mpr ?_ | intro _ | split

theorem keeps_execLaneRejoin {k : Fixed} (a0) (a1) (s : State) (h : Inv k s) : OutInv k (execLaneRejoin a0 a1 s) := by
  unfold execLaneRejoin
  repeat' first
    | with_reducible assumption | with_reducible apply keeps_State_atTime | with_reducible apply keeps_State_modLane
    | with_reducible apply keeps_raiseLane | with_reducible apply keeps_State_modTask
    | with_reducible refine Inv_ite ?_ ?_ | with_reducible apply keeps_foldl
    | with_reducible refine OutInv_next.mpr ?_ | intro _

theorem keeps_dropMoved {k : Fixed} (a0) (s : State) (h : Inv k s) : Inv k (dropMoved a0 s) := by
  unfold dropMoved
  repeat' first
    | with_reducible assumption | with_reducible apply keeps_State_modLanes
    | (simp only [↓Inv_mk]; refine Holds_of ?_ ?_ ?_ ?_ ?_ ?_; rfl; rfl; rfl; rfl; exact ⟨rfl, rfl, rfl, rfl, rfl, id⟩)

theorem keeps_execPlacementMove {k : Fixed} (a0) (s : State) (h : Inv k s) : OutInv k (execPlacementMove a0 s) := by
  unfold execPlacementMove
  repeat' first
    | with_reducible assumption | with_reducible apply keeps_State_atTime | with_reducible apply keeps_dropMoved
    | with_reducible refine Inv_ite ?_ ?_ | with_reducible refine OutInv_next.mpr ?_ | intro _
    | (simp only [↓Inv_mk]; refine Holds_of ?_ ?_ ?_ ?_ ?_ ?_; rfl; rfl; rfl; rfl; exact ⟨rfl, rfl, rfl, rfl, rfl, id⟩)

theorem keeps_execPlacementResume {k : Fixed} (a0) (s : State) (h : Inv k s) : OutInv k (execPlacementResume a0 s) := by
  unfold execPlacementResume
  repeat' first
    | with_reducible assumption | with_reducible apply keeps_State_atTime | with_reducible apply keeps_State_modTask
    | with_reducible apply keeps_raise | with_reducible refine Inv_ite ?_ ?_ | with_reducible apply keeps_foldl
    | with_reducible refine OutInv_next.mpr ?_ | intro _
    | (simp only [↓Inv_mk]; refine Holds_of ?_ ?_ ?_ ?_ ?_ ?_; rfl; rfl; rfl; rfl; exact ⟨rfl, rfl, rfl, rfl, rfl, id⟩)

theorem keeps_execFallbackMove {k : Fixed} (a0) (a1) (s : State) (h : Inv k s) : OutInv k (execFallbackMove a0 a1 s) := by
  unfold execFallbackMove
  repeat' first
    | with_reducible assumption | with_reducible apply keeps_State_atTime | with_reducible apply keeps_State_modTask
    | with_reducible apply keeps_raise | with_reducible refine Inv_ite ?_ ?_
    | with_reducible refine OutInv_next.mpr ?_ | intro _ | split

theorem keeps_logDebug {k : Fixed} (a0) (s : State) (h : Inv k s) : Inv k (logDebug a0 s) := by
  unfold logDebug
  repeat' first
    | with_reducible assumption | (simp only [↓Inv_mk]; refine Holds_of ?_ ?_ ?_ ?_ ?_ ?_; rfl; rfl; rfl; rfl; exact ⟨rfl, rfl, rfl, rfl, rfl, id⟩)

theorem keeps_execDebugBreakpoint {k : Fixed} (a0) (a1) (s : State) (h : Inv k s) :
    OutInv k (execDebugBreakpoint a0 a1 s) := by
  unfold execDebugBreakpoint
  repeat' first
    | with_reducible assumption | with_reducible apply keeps_State_atTime | with_reducible apply keeps_logDebug
    | with_reducible refine Inv_ite ?_ ?_ | with_reducible refine OutInv_next.mpr ?_ | intro _
    | (simp only [↓Inv_mk]; refine Holds_of ?_ ?_ ?_ ?_ ?_ ?_; rfl; rfl; rfl; rfl; exact ⟨rfl, rfl, rfl, rfl, rfl, id⟩)

theorem keeps_execDebugRun {k : Fixed} (a0) (s : State) (h : Inv k s) : OutInv k (execDebugRun a0 s) := by
  unfold execDebugRun
  repeat' first
    | with_reducible assumption | with_reducible apply keeps_State_atTime | with_reducible apply keeps_logDebug
    | with_reducible refine Inv_ite ?_ ?_ | with_reducible refine OutInv_next.mpr ?_ | intro _
    | (simp only [↓Inv_mk]; refine Holds_of ?_ ?_ ?_ ?_ ?_ ?_; rfl; rfl; rfl; rfl; exact ⟨rfl, rfl, rfl, rfl, rfl, id⟩)

theorem keeps_execDebugStep {k : Fixed} (a0) (a1) (s : State) (h : Inv k s) : OutInv k (execDebugStep a0 a1 s) := by
  unfold execDebugStep
  repeat' first
    | with_reducible assumption | with_reducible apply keeps_State_atTime | with_reducible apply keeps_logDebug
    | with_reducible refine Inv_ite ?_ ?_ | with_reducible refine OutInv_next.mpr ?_ | intro _
    | (simp only [↓Inv_mk]; refine Holds_of ?_ ?_ ?_ ?_ ?_ ?_; rfl; rfl; rfl; rfl; exact ⟨rfl, rfl, rfl, rfl, rfl, id⟩)

theorem keeps_execDebugWriteVariable {k : Fixed} (a0) (a1) (a2) (s : State) (h : Inv k s) :
    OutInv k (execDebugWriteVariable a0 a1 a2 s) := by
  unfold execDebugWriteVariable
  repeat' first
    | with_reducible assumption | with_reducible apply keeps_State_atTime | with_reducible apply keeps_debugReplay
    | with_reducible apply keeps_logDebug | with_reducible refine OutInv_next.mpr ?_ | intro _
    | (simp only [↓Inv_mk]; refine Holds_of ?_ ?_ ?_ ?_ ?_ ?_; rfl; rfl; rfl; rfl; exact ⟨rfl, rfl, rfl, rfl, rfl, id⟩) | split

theorem keeps_execBreakpointHit {k : Fixed} (a0) (a1) (s : State) (h : Inv k s) : OutInv k (execBreakpointHit a0 a1 s) := by
  unfold execBreakpointHit
  repeat' first
    | with_reducible assumption | with_reducible apply keeps_State_atTime | with_reducible refine OutInv_next.mpr ?_
    | intro _ | (simp only [↓Inv_mk]; refine Holds_of ?_ ?_ ?_ ?_ ?_ ?_; rfl; rfl; rfl; rfl; exact ⟨rfl, rfl, rfl, rfl, rfl, id⟩) | split

end Sys2Proof.Machine
end

