-- ==== Sys2Proof/Laws/KeepsD.lean ====
section
/-! SUPPORT. The invariant of Laws/Kept.lean is kept by: building an image, time, the switch and the start. -/

set_option Elab.async false

set_option linter.all false

namespace Sys2Proof.Machine

theorem keeps_rejectImage {k : Fixed} (a0) (a1) (s : State) (h : Inv k s) : Inv k (rejectImage a0 a1 s) := by
  unfold rejectImage
  repeat' first
    | with_reducible assumption | with_reducible apply keeps_raiseLane
    | (simp only [↓Inv_mk]; refine Holds_of ?_ ?_ ?_ ?_ ?_ ?_; rfl; rfl; rfl; rfl; exact ⟨rfl, rfl, rfl, rfl, rfl, id⟩)

theorem keeps_restoreRetained {k : Fixed} (a0) (s : State) (h : Inv k s) : Inv k (restoreRetained a0 s) := by
  unfold restoreRetained
  split
  · exact Inv_ite (fun _ => keeps_raise _ _ _ (⟨h.1, wf_putRetained h.mem, h.3, h.4, h.5, h.6, h.7, h.8⟩)) (fun _ => keeps_raise _ _ _ h)
  · exact keeps_raise _ _ _ h

theorem keeps_setStagger {k : Fixed} (a0) (s : State) (h : Inv k s) : Inv k (setStagger a0 s) := by
  unfold setStagger
  repeat' first
    | with_reducible assumption | with_reducible apply keeps_raiseIf
    | (simp only [↓Inv_mk]; refine Holds_of ?_ ?_ ?_ ?_ ?_ ?_; rfl; rfl; rfl; rfl; exact ⟨rfl, rfl, rfl, rfl, rfl, id⟩)

theorem keeps_forceGone {k : Fixed} (a0) (a1) (s : State) (h : Inv k s) : Inv k (forceGone a0 a1 s) := by
  unfold forceGone
  repeat' first | with_reducible assumption | with_reducible apply keeps_raise

theorem keeps_dropForces {k : Fixed} (a0) (s : State) (h : Inv k s) : Inv k (dropForces a0 s) := by
  unfold dropForces
  repeat' first
    | with_reducible assumption | with_reducible apply keeps_forceGone | with_reducible apply keeps_foldl | intro _
    | (simp only [↓Inv_mk]; refine Holds_of ?_ ?_ ?_ ?_ ?_ ?_; rfl; rfl; rfl; rfl; exact ⟨rfl, rfl, rfl, rfl, rfl, id⟩)

theorem keeps_takeUnforced {k : Fixed} (a0) (s : State) (h : Inv k s) : Inv k (takeUnforced a0 s) := by
  unfold takeUnforced
  repeat' first
    | with_reducible assumption | (simp only [↓Inv_mk]; refine Holds_of ?_ ?_ ?_ ?_ ?_ ?_; rfl; rfl; rfl; rfl; exact ⟨rfl, rfl, rfl, rfl, rfl, id⟩)

theorem keeps_installImage {k : Fixed} (a0) (s : State) (h : Inv k s) : Inv k (installImage a0 s) := by
  unfold installImage
  repeat' first
    | with_reducible assumption | with_reducible apply keeps_State_modLanes | with_reducible apply keeps_State_modTask
    | with_reducible apply keeps_checkBindings | with_reducible apply keeps_takeUnforced
    | with_reducible apply keeps_setStagger | with_reducible apply keeps_dropForces
    | with_reducible refine Inv_ite ?_ ?_ | with_reducible apply keeps_foldl | intro _
    | (simp only [↓Inv_mk]
       refine Holds_put (s := s) rfl rfl rfl rfl ⟨List.length_replicate, h.8.2, h.8.3, h.8.4, h.8.5, h.8.6⟩ ?_)

theorem keeps_dissentOut {k : Fixed} (a0) (s : State) (a2) (h : Inv k s) : Inv k (dissentOut a0 s a2) := by
  unfold dissentOut
  repeat' first
    | with_reducible assumption | with_reducible apply keeps_laneToOut | with_reducible apply keeps_raiseLane
    | with_reducible refine Inv_ite ?_ ?_ | intro _

theorem keeps_voteBindings {k : Fixed} (a0) (s : State) (h : Inv k s) : Inv k (voteBindings a0 s) := by
  unfold voteBindings
  repeat' first
    | with_reducible assumption | with_reducible apply keeps_State_modLane | with_reducible apply keeps_dissentOut
    | with_reducible apply keeps_faultStop | with_reducible apply keeps_raise | with_reducible refine Inv_ite ?_ ?_
    | with_reducible apply keeps_foldl | intro _

theorem keeps_writeRetained {k : Fixed} (s : State) (h : Inv k s) : Inv k (writeRetained s) := by
  unfold writeRetained
  repeat' first
    | with_reducible assumption | with_reducible refine Inv_ite ?_ ?_ | intro _
    | (simp only [↓Inv_mk]; refine Holds_of ?_ ?_ ?_ ?_ ?_ ?_; rfl; rfl; rfl; rfl; exact ⟨rfl, rfl, rfl, rfl, rfl, id⟩)

theorem keeps_takeDigest {k : Fixed} (s : State) (h : Inv k s) : Inv k (takeDigest s) := by
  unfold takeDigest
  repeat' first
    | with_reducible assumption | (simp only [↓Inv_mk]; refine Holds_of ?_ ?_ ?_ ?_ ?_ ?_; rfl; rfl; rfl; rfl; exact ⟨rfl, rfl, rfl, rfl, rfl, id⟩) | split

theorem keeps_carryTo {k : Fixed} (a0) (s : State) (h : Inv k s) : Inv k (carryTo a0 s) := by
  unfold carryTo
  extract_lets
  refine keeps_takeDigest _ (keeps_applyBindings _ _ (keeps_installImage _ _ (keeps_State_modLanes _ _ ?_)))
  exact ⟨h.1, wf_carryStore _ _ _, h.3, h.4, h.5, h.6, h.7, ⟨h.8.1, h.8.2, h.8.3, h.8.4, h.8.5, h.8.6⟩⟩

theorem keeps_exchangeTo {k : Fixed} (a0) (s : State) (h : Inv k s) : Inv k (exchangeTo a0 s) := by
  unfold exchangeTo
  repeat' first
    | with_reducible assumption | with_reducible apply keeps_writeRetained | with_reducible apply keeps_State_modLanes
    | with_reducible apply keeps_carryTo

theorem settleStore_sessions (n : Nat) (o : Od) : (settleStore n o).sessions = o.sessions := by
  unfold settleStore
  simp only []
  try (split <;> rfl)

theorem keeps_State_odStore {k : Fixed} (s : State) (a1) (a2) (a3) (h : Inv k s) : Inv k (State.odStore s a1 a2 a3) := by
  unfold State.odStore
  have h1 := keeps_State_odSet s a1 a2 a3 h
  refine Inv_ite (fun _ => ?_) (fun _ => h1)
  exact Holds_of (s := s.odSet a1 a2 a3) rfl rfl rfl rfl
    ⟨rfl, rfl, rfl, rfl, congrArg List.length (settleStore_sessions _ _), id⟩ h1

theorem keeps_takeFunction {k : Fixed} (s : State) (a1) (h : Inv k s) : Inv k (takeFunction s a1) := by
  unfold takeFunction
  repeat' first
    | with_reducible assumption | with_reducible apply keeps_raise | with_reducible refine Inv_ite ?_ ?_ | intro _
    | (simp only [↓Inv_mk]; refine Holds_of ?_ ?_ ?_ ?_ ?_ ?_; rfl; rfl; rfl; rfl; exact ⟨rfl, rfl, rfl, rfl, rfl, id⟩)

theorem keeps_takeInForce {k : Fixed} (s : State) (h : Inv k s) : Inv k (takeInForce s) := by
  unfold takeInForce
  repeat' first
    | with_reducible assumption | with_reducible apply keeps_takeFunction | with_reducible apply keeps_foldl
    | (simp only [↓Inv_mk]; refine Holds_of ?_ ?_ ?_ ?_ ?_ ?_; rfl; rfl; rfl; rfl; exact ⟨rfl, rfl, rfl, rfl, rfl, id⟩)

theorem keeps_loadConfig {k : Fixed} (s : State) (h : Inv k s) : Inv k (loadConfig s) := by
  unfold loadConfig
  repeat' first
    | with_reducible assumption | with_reducible apply keeps_takeInForce
    | (simp only [↓Inv_mk]; refine Holds_of ?_ ?_ ?_ ?_ ?_ ?_; rfl; rfl; rfl; rfl; exact ⟨rfl, rfl, rfl, rfl, rfl, id⟩)

theorem keeps_beginTrial {k : Fixed} (a0) (s : State) (h : Inv k s) : Inv k (beginTrial a0 s) := by
  unfold beginTrial
  repeat' first
    | with_reducible assumption | with_reducible apply keeps_raise
    | (simp only [↓Inv_mk]; refine Holds_of ?_ ?_ ?_ ?_ ?_ ?_; rfl; rfl; rfl; rfl; exact ⟨rfl, rfl, rfl, rfl, rfl, id⟩)

theorem keeps_raiseRollback {k : Fixed} (a0) (a1) (s : State) (h : Inv k s) : Inv k (raiseRollback a0 a1 s) := by
  have hf : s.rollbackHalf false = s.fab.rollback.toNat / 65536 := rfl
  have ha : s.rollbackHalf true = s.fab.rollback.toNat % 65536 := rfl
  have hlt := s.fab.rollback.isLt
  have h3 := h.firmware
  have h4 := h.application
  refine ⟨h.1, h.2, ?_, ?_, h.5, h.6, h.7, ⟨h.8.1, h.8.2, h.8.3, h.8.4, h.8.5, h.8.6⟩⟩
  all_goals
    unfold raiseRollback
    simp only [hf, ha, BitVec.toNat_ofNat]
    split <;> omega

theorem keeps_passTrial {k : Fixed} (s : State) (h : Inv k s) : Inv k (passTrial s) := by
  unfold passTrial
  repeat' first
    | with_reducible assumption | with_reducible apply keeps_raiseRollback | with_reducible apply keeps_raise
    | intro _ | (simp only [↓Inv_mk]; refine Holds_of ?_ ?_ ?_ ?_ ?_ ?_; rfl; rfl; rfl; rfl; exact ⟨rfl, rfl, rfl, rfl, rfl, id⟩) | split

theorem keeps_selectImageSlot {k : Fixed} (a0) (a1) (s : State) (h : Inv k s) : Inv k (selectImageSlot a0 a1 s) := by
  unfold selectImageSlot
  repeat' first
    | with_reducible assumption | (simp only [↓Inv_mk]; refine Holds_of ?_ ?_ ?_ ?_ ?_ ?_; rfl; rfl; rfl; rfl; exact ⟨rfl, rfl, rfl, rfl, rfl, id⟩)

theorem keeps_stopNetwork {k : Fixed} (s : State) (h : Inv k s) : Inv k (stopNetwork s) := by
  unfold stopNetwork
  exact Holds_put (s := s) rfl rfl rfl rfl
    ⟨h.8.1, h.8.2, h.8.3, (List.length_map _).trans h.8.4, h.8.5, List.length_replicate⟩ h

theorem flushStore_sessions (o : Od) : (flushStore o).sessions = o.sessions := by
  unfold flushStore
  dsimp only
  split <;> rfl

theorem keeps_coldRestart {k : Fixed} (a0) (s : State) (h : Inv k s) : Inv k (coldRestart a0 s) := by
  unfold coldRestart
  extract_lets e0 s0 s1 b s2 c x3 x4 x5 x6 s3 tb y3 s4
  have h0 : Inv k s0 := keeps_evq ⟨Nat.zero_le _, trivial⟩ h
  have h1 : Inv k s1 := keeps_stopNetwork _ (keeps_dropAll _ (keeps_enterMode _ _ _ h0))
  have h2 : Inv k s2 := keeps_State_modLanes _ _ h1
  clear_value s2
  have h3 : Inv k s3 := ⟨h2.1, rfl, h2.3, h2.4, h2.5, h2.6, h2.7,
    ⟨List.length_replicate, h2.8.2, h2.8.3, h2.8.4, h2.8.5, (congrArg List.length (flushStore_sessions _)).trans h2.8.6⟩⟩
  clear_value s3
  have h4 : Inv k s4 := Holds_of (s := s3) rfl rfl rfl rfl ⟨rfl, rfl, rfl, rfl, rfl, id⟩ h3
  clear_value s4
  exact Inv_ite (fun _ => keeps_setDrive _ _ (Holds_of (s := s4) rfl rfl rfl rfl ⟨rfl, rfl, rfl, rfl, rfl, id⟩ h4)) (fun _ => h4)

theorem keeps_closeGuard {k : Fixed} (a0) (s : State) (h : Inv k s) : Inv k (closeGuard a0 s) := by
  unfold closeGuard
  repeat' first
    | with_reducible assumption | with_reducible apply keeps_raise | with_reducible refine Inv_ite ?_ ?_ | intro _
    | (simp only [↓Inv_mk]; refine Holds_of ?_ ?_ ?_ ?_ ?_ ?_; rfl; rfl; rfl; rfl; exact ⟨rfl, rfl, rfl, rfl, rfl, id⟩)

theorem keeps_clearGuard {k : Fixed} (a0) (s : State) (h : Inv k s) : Inv k (clearGuard a0 s) := by
  unfold clearGuard
  repeat' first
    | with_reducible assumption | with_reducible apply keeps_raiseIf | with_reducible refine Inv_ite ?_ ?_ | intro _
    | (simp only [↓Inv_mk]; refine Holds_of ?_ ?_ ?_ ?_ ?_ ?_; rfl; rfl; rfl; rfl; exact ⟨rfl, rfl, rfl, rfl, rfl, id⟩)

theorem keeps_State_modPtp {k : Fixed} (s : State) (a1) (a2) (h : Inv k s) : Inv k (State.modPtp s a1 a2) := by
  unfold State.modPtp
  repeat' first
    | with_reducible assumption | with_reducible refine Inv_ite ?_ ?_ | intro _
    | (simp only [↓Inv_mk]; refine Holds_of ?_ ?_ ?_ ?_ ?_ ?_; rfl; rfl; rfl; rfl; exact ⟨rfl, rfl, rfl, rfl, rfl, id⟩)

theorem keeps_timeGuard {k : Fixed} (s : State) (h : Inv k s) : Inv k (timeGuard s) := by
  unfold timeGuard
  repeat' first
    | with_reducible assumption | with_reducible apply keeps_closeGuard | with_reducible apply keeps_clearGuard
    | with_reducible refine Inv_ite ?_ ?_ | intro _
    | (simp only [↓Inv_mk]; refine Holds_of ?_ ?_ ?_ ?_ ?_ ?_; rfl; rfl; rfl; rfl; exact ⟨rfl, rfl, rfl, rfl, rfl, id⟩)

theorem keeps_setTime {k : Fixed} (a0) (s : State) (h : Inv k s) : Inv k (setTime a0 s) := by
  unfold setTime
  repeat' first
    | with_reducible assumption | with_reducible apply keeps_raise | with_reducible refine Inv_ite ?_ ?_ | intro _
    | (simp only [↓Inv_mk]; refine Holds_of ?_ ?_ ?_ ?_ ?_ ?_; rfl; rfl; rfl; rfl; exact ⟨rfl, rfl, rfl, rfl, rfl, id⟩)

theorem keeps_selectSlot {k : Fixed} (a0) (s : State) (h : Inv k s) : Inv k (selectSlot a0 s) := by
  unfold selectSlot
  repeat' first
    | with_reducible assumption | with_reducible apply keeps_raise | with_reducible refine Inv_ite ?_ ?_ | intro _
    | (simp only [↓Inv_mk]; refine Holds_of ?_ ?_ ?_ ?_ ?_ ?_; rfl; rfl; rfl; rfl; exact ⟨rfl, rfl, rfl, rfl, rfl, id⟩)

theorem keeps_loseReference {k : Fixed} (s : State) (h : Inv k s) : Inv k (loseReference s) := by
  unfold loseReference
  repeat' first
    | with_reducible assumption | with_reducible apply keeps_setTime | with_reducible refine Inv_ite ?_ ?_ | intro _

theorem keeps_followSlots {k : Fixed} (s : State) (h : Inv k s) : Inv k (followSlots s) := by
  unfold followSlots
  repeat' first
    | with_reducible assumption | with_reducible apply keeps_setTime | with_reducible refine Inv_ite ?_ ?_ | intro _
    | split

theorem keeps_refuseSample {k : Fixed} (a0) (a1) (s : State) (h : Inv k s) : Inv k (refuseSample a0 a1 s) := by
  unfold refuseSample
  repeat' first
    | with_reducible assumption | with_reducible apply keeps_State_modPtp | with_reducible apply keeps_raise
    | with_reducible apply keeps_loseReference | with_reducible refine Inv_ite ?_ ?_ | intro _

theorem keeps_servo {k : Fixed} (a0) (s : State) (h : Inv k s) : Inv k (servo a0 s) := by
  unfold servo
  repeat' first
    | with_reducible assumption | (simp only [↓Inv_mk]; refine Holds_of ?_ ?_ ?_ ?_ ?_ ?_; rfl; rfl; rfl; rfl; exact ⟨rfl, rfl, rfl, rfl, rfl, id⟩)

theorem keeps_noteOffset {k : Fixed} (a0) (a1) (s : State) (h : Inv k s) : Inv k (noteOffset a0 a1 s) := by
  unfold noteOffset
  repeat' first
    | with_reducible assumption | with_reducible refine Inv_ite ?_ ?_ | intro _
    | (simp only [↓Inv_mk]; refine Holds_of ?_ ?_ ?_ ?_ ?_ ?_; rfl; rfl; rfl; rfl; exact ⟨rfl, rfl, rfl, rfl, rfl, id⟩)

theorem keeps_acceptSample {k : Fixed} (a0) (a1) (s : State) (h : Inv k s) : Inv k (acceptSample a0 a1 s) := by
  unfold acceptSample
  repeat' first
    | with_reducible assumption | with_reducible apply keeps_State_modPtp | with_reducible apply keeps_selectSlot
    | with_reducible apply keeps_servo | with_reducible apply keeps_followSlots | with_reducible apply keeps_noteOffset
    | with_reducible refine Inv_ite ?_ ?_ | intro _

theorem keeps_servoSwitch {k : Fixed} (s : State) (h : Inv k s) : Inv k (servoSwitch s) := by
  unfold servoSwitch
  repeat' first
    | with_reducible assumption | with_reducible apply keeps_raise | intro _
    | (simp only [↓Inv_mk]; refine Holds_of ?_ ?_ ?_ ?_ ?_ ?_; rfl; rfl; rfl; rfl; exact ⟨rfl, rfl, rfl, rfl, rfl, id⟩) | split

theorem keeps_acquire {k : Fixed} (a0) (a1) (s : State) (h : Inv k s) : Inv k (acquire a0 a1 s) := by
  unfold acquire
  repeat' first
    | with_reducible assumption | with_reducible apply keeps_raise | with_reducible apply keeps_State_modPtp
    | (simp only [↓Inv_mk]; refine Holds_of ?_ ?_ ?_ ?_ ?_ ?_; rfl; rfl; rfl; rfl; exact ⟨rfl, rfl, rfl, rfl, rfl, id⟩)

theorem keeps_execPtpSync {k : Fixed} (a0) (a1) (a2) (s : State) (h : Inv k s) : OutInv k (execPtpSync a0 a1 a2 s) := by
  unfold execPtpSync
  repeat' first
    | with_reducible assumption | with_reducible apply keeps_State_atTime | with_reducible apply keeps_servoSwitch
    | with_reducible apply keeps_State_modPtp | with_reducible apply keeps_timeGuard
    | with_reducible apply keeps_acquire | with_reducible apply keeps_refuseSample
    | with_reducible apply keeps_acceptSample | with_reducible refine Inv_ite ?_ ?_
    | with_reducible refine OutInv_next.mpr ?_ | intro _
    | (simp only [↓Inv_mk]; refine Holds_of ?_ ?_ ?_ ?_ ?_ ?_; rfl; rfl; rfl; rfl; exact ⟨rfl, rfl, rfl, rfl, rfl, id⟩)

theorem keeps_execSyncSilence {k : Fixed} (a0) (a1) (s : State) (h : Inv k s) : OutInv k (execSyncSilence a0 a1 s) := by
  unfold execSyncSilence
  repeat' first
    | with_reducible assumption | with_reducible apply keeps_State_atTime | with_reducible apply keeps_State_modPtp
    | with_reducible apply keeps_timeGuard | with_reducible apply keeps_loseReference
    | with_reducible refine Inv_ite ?_ ?_ | with_reducible refine OutInv_next.mpr ?_ | intro _

theorem keeps_utcFrom {k : Fixed} (a0) (s : State) (h : Inv k s) : Inv k (utcFrom a0 s) := by
  unfold utcFrom
  repeat' first
    | with_reducible assumption | with_reducible apply keeps_raiseIf
    | (simp only [↓Inv_mk]; refine Holds_of ?_ ?_ ?_ ?_ ?_ ?_; rfl; rfl; rfl; rfl; exact ⟨rfl, rfl, rfl, rfl, rfl, id⟩)

theorem keeps_takeMaster {k : Fixed} (a0) (a1) (a2) (s : State) (h : Inv k s) : Inv k (takeMaster a0 a1 a2 s) := by
  unfold takeMaster
  repeat' first
    | with_reducible assumption | with_reducible apply keeps_State_modPtp | with_reducible apply keeps_raiseIf
    | with_reducible apply keeps_utcFrom | with_reducible refine Inv_ite ?_ ?_ | intro _

theorem keeps_becomeGrandmaster {k : Fixed} (a0) (s : State) (h : Inv k s) : Inv k (becomeGrandmaster a0 s) := by
  unfold becomeGrandmaster
  repeat' first
    | with_reducible assumption | with_reducible apply keeps_State_modPtp | with_reducible apply keeps_timeGuard
    | with_reducible apply keeps_followSlots | with_reducible apply keeps_raiseIf

theorem keeps_execPtpAnnounce {k : Fixed} (a0) (a1) (a2) (a3) (s : State) (h : Inv k s) :
    OutInv k (execPtpAnnounce a0 a1 a2 a3 s) := by
  unfold execPtpAnnounce
  repeat' first
    | with_reducible assumption | with_reducible apply keeps_State_atTime
    | with_reducible apply keeps_becomeGrandmaster | with_reducible apply keeps_takeMaster
    | with_reducible refine OutInv_next.mpr ?_ | intro _ | split

theorem keeps_execAnnounceTimeout {k : Fixed} (a0) (a1) (s : State) (h : Inv k s) :
    OutInv k (execAnnounceTimeout a0 a1 s) := by
  unfold execAnnounceTimeout
  repeat' first
    | with_reducible assumption | with_reducible apply keeps_State_atTime | with_reducible apply keeps_State_modPtp
    | with_reducible apply keeps_becomeGrandmaster | with_reducible refine Inv_ite ?_ ?_
    | with_reducible refine OutInv_next.mpr ?_ | intro _

theorem keeps_execPtpDelayMessage {k : Fixed} (a0) (a1) (a2) (a3) (a4) (s : State) (h : Inv k s) :
    OutInv k (execPtpDelayMessage a0 a1 a2 a3 a4 s) := by
  unfold execPtpDelayMessage
  repeat' first
    | with_reducible assumption | with_reducible apply keeps_State_atTime | with_reducible apply keeps_State_modPtp
    | with_reducible apply keeps_State_emit | with_reducible refine OutInv_next.mpr ?_ | intro _
    | (simp only [↓Inv_mk]; refine Holds_of ?_ ?_ ?_ ?_ ?_ ?_; rfl; rfl; rfl; rfl; exact ⟨by first | rfl | simp [modAt], by first | rfl | simp [modAt], by first | rfl | simp [modAt], by first | rfl | simp [modAt],
      by first | rfl | simp [modAt], id⟩) | split

theorem keeps_execPtpManagement {k : Fixed} (a0) (a1) (a2) (a3) (a4) (s : State) (h : Inv k s) :
    OutInv k (execPtpManagement a0 a1 a2 a3 a4 s) := by
  unfold execPtpManagement
  repeat' first
    | with_reducible assumption | with_reducible apply keeps_State_atTime | with_reducible apply keeps_State_emit
    | with_reducible refine Inv_ite ?_ ?_ | with_reducible refine OutInv_next.mpr ?_ | intro _

theorem keeps_execPtpSyncSend {k : Fixed} (a0) (a1) (a2) (s : State) (h : Inv k s) :
    OutInv k (execPtpSyncSend a0 a1 a2 s) := by
  unfold execPtpSyncSend
  repeat' first
    | with_reducible assumption | with_reducible apply keeps_State_atTime | with_reducible apply keeps_State_emitAll
    | with_reducible apply keeps_timeGuard | with_reducible apply keeps_State_modPtp
    | with_reducible refine Inv_ite ?_ ?_ | with_reducible refine OutInv_next.mpr ?_ | intro _

theorem keeps_execAnnounceSend {k : Fixed} (a0) (a1) (a2) (s : State) (h : Inv k s) :
    OutInv k (execAnnounceSend a0 a1 a2 s) := by
  unfold execAnnounceSend
  repeat' first
    | with_reducible assumption | with_reducible apply keeps_State_atTime | with_reducible apply keeps_State_emit
    | with_reducible refine Inv_ite ?_ ?_ | with_reducible refine OutInv_next.mpr ?_ | intro _

theorem keeps_execDelayReqSend {k : Fixed} (a0) (a1) (a2) (s : State) (h : Inv k s) :
    OutInv k (execDelayReqSend a0 a1 a2 s) := by
  unfold execDelayReqSend
  repeat' first
    | with_reducible assumption | with_reducible apply keeps_State_atTime | with_reducible apply keeps_State_emit
    | with_reducible refine Inv_ite ?_ ?_ | with_reducible refine OutInv_next.mpr ?_ | intro _

theorem keeps_execFollowUp {k : Fixed} (a0) (a1) (a2) (a3) (a4) (s : State) (h : Inv k s) :
    OutInv k (execFollowUp a0 a1 a2 a3 a4 s) := by
  unfold execFollowUp
  repeat' first
    | with_reducible assumption | with_reducible apply keeps_State_atTime | with_reducible apply keeps_State_modPtp
    | with_reducible apply keeps_State_emit | with_reducible apply keeps_raise
    | with_reducible refine OutInv_next.mpr ?_ | intro _
    | (simp only [↓Inv_mk]; refine Holds_of ?_ ?_ ?_ ?_ ?_ ?_; rfl; rfl; rfl; rfl; exact ⟨rfl, rfl, rfl, rfl, rfl, id⟩) | split

theorem keeps_execDomainPreference {k : Fixed} (a0) (s : State) (h : Inv k s) : OutInv k (execDomainPreference a0 s) := by
  unfold execDomainPreference
  repeat' first
    | with_reducible assumption | with_reducible apply keeps_State_atTime | with_reducible apply keeps_timeGuard
    | with_reducible apply keeps_followSlots | with_reducible apply keeps_selectSlot
    | with_reducible refine OutInv_next.mpr ?_ | intro _ | split

theorem keeps_execHoldoverExhausted {k : Fixed} (a0) (s : State) (h : Inv k s) : OutInv k (execHoldoverExhausted a0 s) := by
  unfold execHoldoverExhausted
  repeat' first
    | with_reducible assumption | with_reducible apply keeps_State_atTime | with_reducible apply keeps_timeGuard
    | with_reducible apply keeps_raise | with_reducible refine Inv_ite ?_ ?_
    | with_reducible refine OutInv_next.mpr ?_ | intro _

theorem keeps_execReferenceMoved {k : Fixed} (a0) (s : State) (h : Inv k s) : OutInv k (execReferenceMoved a0 s) := by
  unfold execReferenceMoved
  repeat' first
    | with_reducible assumption | with_reducible apply keeps_State_atTime | with_reducible apply keeps_raise
    | with_reducible apply keeps_State_modPtp | with_reducible apply keeps_timeGuard
    | with_reducible apply keeps_setTime | with_reducible refine OutInv_next.mpr ?_ | intro _
    | (simp only [↓Inv_mk]; refine Holds_of ?_ ?_ ?_ ?_ ?_ ?_; rfl; rfl; rfl; rfl; exact ⟨rfl, rfl, rfl, rfl, rfl, id⟩) | split

theorem keeps_execSlewComplete {k : Fixed} (a0) (s : State) (h : Inv k s) : OutInv k (execSlewComplete a0 s) := by
  unfold execSlewComplete
  repeat' first
    | with_reducible assumption | with_reducible apply keeps_State_atTime | with_reducible apply keeps_timeGuard
    | with_reducible apply keeps_followSlots | with_reducible apply keeps_raise | with_reducible refine Inv_ite ?_ ?_
    | with_reducible refine OutInv_next.mpr ?_ | intro _
    | (simp only [↓Inv_mk]; refine Holds_of ?_ ?_ ?_ ?_ ?_ ?_; rfl; rfl; rfl; rfl; exact ⟨rfl, rfl, rfl, rfl, rfl, id⟩)

theorem keeps_execServoUpdateTimeout {k : Fixed} (a0) (s : State) (h : Inv k s) :
    OutInv k (execServoUpdateTimeout a0 s) := by
  unfold execServoUpdateTimeout
  repeat' first
    | with_reducible assumption | with_reducible apply keeps_State_atTime | with_reducible apply keeps_timeGuard
    | with_reducible apply keeps_setTime | with_reducible refine Inv_ite ?_ ?_
    | with_reducible refine OutInv_next.mpr ?_ | intro _

theorem keeps_doRebase {k : Fixed} (s : State) (h : Inv k s) : Inv k (doRebase s) := by
  unfold doRebase
  repeat' first
    | with_reducible assumption | with_reducible apply keeps_raise | with_reducible refine Inv_ite ?_ ?_ | intro _
    | (simp only [↓Inv_mk]; refine Holds_of ?_ ?_ ?_ ?_ ?_ ?_; rfl; rfl; rfl; rfl; exact ⟨rfl, rfl, rfl, rfl, rfl, id⟩)

theorem keeps_utcBoundary {k : Fixed} (s : State) (h : Inv k s) : Inv k (utcBoundary s) := by
  unfold utcBoundary
  repeat' first
    | with_reducible assumption | with_reducible apply keeps_State_modPtp | with_reducible apply keeps_raise
    | with_reducible refine Inv_ite ?_ ?_ | intro _
    | (simp only [↓Inv_mk]; refine Holds_of ?_ ?_ ?_ ?_ ?_ ?_; rfl; rfl; rfl; rfl; exact ⟨rfl, rfl, rfl, rfl, rfl, id⟩)

theorem keeps_timeStep {k : Fixed} (s : State) (h : Inv k s) : Inv k (timeStep s) := by
  unfold timeStep
  split
  · exact h
  · refine Inv_ite (fun _ => ?_) (fun _ => ?_)
    · exact Holds_of (s := s) rfl rfl rfl rfl ⟨rfl, rfl, rfl, rfl, rfl, id⟩ h
    · exact Holds_of (s := s) rfl rfl rfl rfl ⟨rfl, rfl, rfl, rfl, rfl, groupsOk_map (fun _ hq => hq)⟩ h

theorem keeps_State_modPort {k : Fixed} (s : State) (a1) (a2) (h : Inv k s) : Inv k (State.modPort s a1 a2) := by
  unfold State.modPort
  repeat' first
    | with_reducible assumption | (simp only [↓Inv_mk]; refine Holds_of ?_ ?_ ?_ ?_ ?_ ?_; rfl; rfl; rfl; rfl; exact ⟨by first | rfl | simp [modAt], by first | rfl | simp [modAt], by first | rfl | simp [modAt], by first | rfl | simp [modAt],
      by first | rfl | simp [modAt], id⟩)

theorem keeps_activateMatrix {k : Fixed} (s : State) (h : Inv k s) : Inv k (activateMatrix s) := by
  unfold activateMatrix
  repeat' first
    | with_reducible assumption | with_reducible apply keeps_clearGuard | with_reducible apply keeps_raise
    | with_reducible refine Inv_ite ?_ ?_ | intro _
    | (simp only [↓Inv_mk]; refine Holds_of ?_ ?_ ?_ ?_ ?_ ?_; rfl; rfl; rfl; rfl; exact ⟨rfl, rfl, rfl, rfl, rfl, id⟩)

theorem keeps_learn {k : Fixed} (a0) (a1) (a2) (s : State) (h : Inv k s) : Inv k (learn a0 a1 a2 s) := by
  unfold learn
  repeat' first
    | with_reducible assumption | with_reducible apply keeps_raise | with_reducible apply keeps_State_modPort
    | intro _ | (simp only [↓Inv_mk]; refine Holds_of ?_ ?_ ?_ ?_ ?_ ?_; rfl; rfl; rfl; rfl; exact ⟨rfl, rfl, rfl, rfl, rfl, id⟩) | split

theorem keeps_egressDrop {k : Fixed} (a0) (s : State) (h : Inv k s) : Inv k (egressDrop a0 s) := by
  unfold egressDrop
  repeat' first | with_reducible assumption | with_reducible apply keeps_State_modPort

theorem keeps_enqueueFrame {k : Fixed} (a0) (a1) (s : State) (h : Inv k s) : Inv k (enqueueFrame a0 a1 s) := by
  unfold enqueueFrame
  repeat' first
    | with_reducible assumption | with_reducible apply keeps_State_modPort | with_reducible apply keeps_egressDrop
    | with_reducible refine Inv_ite ?_ ?_ | intro _

theorem keeps_bumpRed {k : Fixed} (a0) (s : State) (h : Inv k s) : Inv k (bumpRed a0 s) := by
  unfold bumpRed
  repeat' first
    | with_reducible assumption | with_reducible refine Inv_ite ?_ ?_ | intro _
    | (simp only [↓Inv_mk]; refine Holds_of ?_ ?_ ?_ ?_ ?_ ?_; rfl; rfl; rfl; rfl; exact ⟨rfl, rfl, rfl, rfl, rfl, id⟩)

theorem keeps_sendLocal {k : Fixed} (a0) (a1) (a2) (a3) (a4) (a5) (s : State) (h : Inv k s) :
    Inv k (sendLocal a0 a1 a2 a3 a4 a5 s) := by
  unfold sendLocal
  repeat' first
    | with_reducible assumption | with_reducible apply keeps_enqueueFrame | with_reducible apply keeps_bumpRed
    | with_reducible refine Inv_ite ?_ ?_ | with_reducible apply keeps_foldl | intro _

theorem keeps_ingressDrop {k : Fixed} (a0) (s : State) (h : Inv k s) : Inv k (ingressDrop a0 s) := by
  unfold ingressDrop
  repeat' first | with_reducible assumption | with_reducible apply keeps_State_modPort

theorem keeps_deliverFrame {k : Fixed} (a0) (a1) (s : State) (h : Inv k s) : Inv k (deliverFrame a0 a1 s) := by
  unfold deliverFrame
  repeat' first
    | with_reducible assumption | (simp only [↓Inv_mk]; refine Holds_of ?_ ?_ ?_ ?_ ?_ ?_; rfl; rfl; rfl; rfl; exact ⟨rfl, rfl, rfl, rfl, rfl, id⟩)

theorem keeps_policeFrame {k : Fixed} (a0) (a1) (a2) (s : State) (h : Inv k s) : Inv k (policeFrame a0 a1 a2 s).1 := by
  unfold policeFrame
  repeat' first
    | with_reducible assumption | with_reducible apply keeps_State_modPort
    | with_reducible apply keeps_raiseOncePerSec | with_reducible apply keeps_ingressDrop
    | with_reducible refine Inv_fst_ite ?_ ?_ | intro _

theorem keeps_countStream {k : Fixed} (a0) (a1) (s : State) (h : Inv k s) : Inv k (countStream a0 a1 s) := by
  unfold countStream
  repeat' first
    | with_reducible assumption | (simp only [↓Inv_mk]; refine Holds_of ?_ ?_ ?_ ?_ ?_ ?_; rfl; rfl; rfl; rfl; exact ⟨rfl, rfl, rfl, rfl, rfl, id⟩)

theorem keeps_arrivalCheck {k : Fixed} (a0) (a1) (s : State) (h : Inv k s) : Inv k (arrivalCheck a0 a1 s).1 := by
  unfold arrivalCheck
  repeat' first
    | with_reducible assumption | with_reducible apply keeps_countStream | with_reducible apply keeps_raise
    | with_reducible refine Inv_fst_ite ?_ ?_ | intro _

theorem keeps_expireDups {k : Fixed} (s : State) (h : Inv k s) : Inv k (expireDups s) := by
  unfold expireDups
  repeat' first
    | with_reducible assumption | (simp only [↓Inv_mk]; refine Holds_of ?_ ?_ ?_ ?_ ?_ ?_; rfl; rfl; rfl; rfl; exact ⟨rfl, rfl, rfl, rfl, rfl, id⟩)

theorem keeps_dedupe {k : Fixed} (a0) (a1) (s : State) (h : Inv k s) : Inv k (dedupe a0 a1 s).1 := by
  unfold dedupe
  repeat' first
    | with_reducible assumption | with_reducible apply keeps_expireDups | intro _
    | (simp only [↓Inv_mk]; refine Holds_of ?_ ?_ ?_ ?_ ?_ ?_; rfl; rfl; rfl; rfl; exact ⟨rfl, rfl, rfl, rfl, rfl, id⟩) | split

theorem keeps_forward {k : Fixed} (a0) (a1) (a2) (a3) (a4) (a5) (s : State) (h : Inv k s) :
    Inv k (forward a0 a1 a2 a3 a4 a5 s) := by
  unfold forward
  repeat' first
    | with_reducible assumption | with_reducible apply keeps_sendLocal | with_reducible apply keeps_deliverFrame
    | with_reducible apply keeps_enqueueFrame | with_reducible refine Inv_ite ?_ ?_ | with_reducible apply keeps_foldl
    | intro _

theorem keeps_heardSupervision {k : Fixed} (a0) (a1) (s : State) (h : Inv k s) : Inv k (heardSupervision a0 a1 s) := by
  unfold heardSupervision
  repeat' first
    | with_reducible assumption | with_reducible apply keeps_State_modPort | with_reducible refine Inv_ite ?_ ?_
    | intro _

theorem keeps_switchFrame {k : Fixed} (a0) (a1) (s : State) (h : Inv k s) : Inv k (switchFrame a0 a1 s) := by
  unfold switchFrame
  repeat' first
    | with_reducible assumption | with_reducible apply keeps_ingressDrop | with_reducible apply keeps_policeFrame
    | with_reducible apply keeps_learn | with_reducible apply keeps_arrivalCheck | with_reducible apply keeps_forward
    | with_reducible apply keeps_deliverFrame | with_reducible refine Inv_ite ?_ ?_ | intro _ | split

theorem keeps_execFrameReceived {k : Fixed} (a0) (a1) (a2) (s : State) (h : Inv k s) :
    OutInv k (execFrameReceived a0 a1 a2 s) := by
  unfold execFrameReceived
  repeat' first
    | with_reducible assumption | with_reducible apply keeps_State_atTime | with_reducible apply keeps_ingressDrop
    | with_reducible apply keeps_State_modPort | with_reducible apply keeps_deliverFrame
    | with_reducible apply keeps_dedupe | with_reducible apply keeps_heardSupervision
    | with_reducible apply keeps_switchFrame | with_reducible refine Inv_ite ?_ ?_
    | with_reducible refine OutInv_next.mpr ?_ | intro _

theorem keeps_dropStale {k : Fixed} (a0) (s : State) (a2) (h : Inv k s) : Inv k (dropStale a0 s a2) := by
  unfold dropStale
  repeat' first
    | with_reducible assumption | with_reducible apply keeps_egressDrop | with_reducible apply keeps_raise
    | with_reducible apply keeps_countStream | intro _ | split

theorem keeps_transparent {k : Fixed} (a0) (a1) (a2) (s : State) (h : Inv k s) : Inv k (transparent a0 a1 a2 s).2 := by
  unfold transparent
  repeat' first
    | with_reducible assumption | with_reducible apply keeps_State_modPtp | with_reducible refine Inv_snd_ite ?_ ?_
    | intro _ | (simp only [↓Inv_mk]; refine Holds_of ?_ ?_ ?_ ?_ ?_ ?_; rfl; rfl; rfl; rfl; exact ⟨rfl, rfl, rfl, rfl, rfl, id⟩)

theorem keeps_startFrame {k : Fixed} (a0) (a1) (a2) (s : State) (h : Inv k s) : Inv k (startFrame a0 a1 a2 s) := by
  unfold startFrame
  extract_lets r
  have hr : Inv k r.2 := by
    unfold r
    split
    · exact keeps_transparent _ _ _ _ h
    · exact h
  clear_value r
  split
  · exact hr
  · exact keeps_State_emit _ _ (keeps_State_modPort _ _ _ hr)

theorem keeps_transmitOn {k : Fixed} (a0) (a1) (s : State) (h : Inv k s) : Inv k (transmitOn a0 a1 s) := by
  unfold transmitOn
  repeat' first
    | with_reducible assumption | with_reducible apply keeps_dropStale | with_reducible apply keeps_State_modPort
    | with_reducible apply keeps_startFrame | with_reducible apply keeps_foldl | intro _
    | (simp only [↓Inv_mk]; refine Holds_of ?_ ?_ ?_ ?_ ?_ ?_; rfl; rfl; rfl; rfl; exact ⟨rfl, rfl, rfl, rfl, rfl, id⟩) | split

theorem keeps_execFrameTransmit {k : Fixed} (a0) (a1) (s : State) (h : Inv k s) : OutInv k (execFrameTransmit a0 a1 s) := by
  unfold execFrameTransmit
  repeat' first
    | with_reducible assumption | with_reducible apply keeps_State_atTime | with_reducible apply keeps_transmitOn
    | with_reducible apply keeps_startFrame | with_reducible apply keeps_State_modPort
    | with_reducible refine OutInv_next.mpr ?_ | intro _ | split

theorem keeps_execGuardianCut {k : Fixed} (a0) (a1) (s : State) (h : Inv k s) : OutInv k (execGuardianCut a0 a1 s) := by
  unfold execGuardianCut
  repeat' first
    | with_reducible assumption | with_reducible apply keeps_State_atTime | with_reducible apply keeps_State_emit
    | with_reducible apply keeps_State_modPort | with_reducible apply keeps_raise
    | with_reducible refine OutInv_next.mpr ?_ | intro _
    | (simp only [↓Inv_mk]; refine Holds_of ?_ ?_ ?_ ?_ ?_ ?_; rfl; rfl; rfl; rfl; exact ⟨rfl, rfl, rfl, rfl, rfl, id⟩) | split

theorem keeps_execMacAgeOut {k : Fixed} (a0) (a1) (s : State) (h : Inv k s) : OutInv k (execMacAgeOut a0 a1 s) := by
  unfold execMacAgeOut
  repeat' first
    | with_reducible assumption | with_reducible apply keeps_State_atTime | with_reducible refine OutInv_next.mpr ?_
    | (simp only [↓Inv_mk]; refine Holds_of ?_ ?_ ?_ ?_ ?_ ?_; rfl; rfl; rfl; rfl; exact ⟨rfl, rfl, rfl, rfl, rfl, id⟩)

theorem keeps_degrade {k : Fixed} (a0) (s : State) (h : Inv k s) : Inv k (degrade a0 s) := by
  unfold degrade
  repeat' first
    | with_reducible assumption | with_reducible apply keeps_raise | with_reducible apply keeps_State_modPort
    | intro _ | split

theorem keeps_execLinkDown {k : Fixed} (a0) (a1) (s : State) (h : Inv k s) : OutInv k (execLinkDown a0 a1 s) := by
  unfold execLinkDown
  repeat' first
    | with_reducible assumption | with_reducible apply keeps_State_atTime | with_reducible apply keeps_degrade
    | with_reducible apply keeps_raise | with_reducible apply keeps_State_modPort
    | with_reducible refine Inv_ite ?_ ?_ | with_reducible refine OutInv_next.mpr ?_ | intro _

theorem keeps_execLinkUp {k : Fixed} (a0) (a1) (a2) (s : State) (h : Inv k s) : OutInv k (execLinkUp a0 a1 a2 s) := by
  unfold execLinkUp
  repeat' first
    | with_reducible assumption | with_reducible apply keeps_State_atTime | with_reducible apply keeps_raise
    | with_reducible apply keeps_State_modPort | with_reducible refine Inv_ite ?_ ?_
    | with_reducible refine OutInv_next.mpr ?_ | intro _

theorem keeps_execSupervisionFrameSend {k : Fixed} (a0) (a1) (s : State) (h : Inv k s) :
    OutInv k (execSupervisionFrameSend a0 a1 s) := by
  unfold execSupervisionFrameSend
  repeat' first
    | with_reducible assumption | with_reducible apply keeps_State_atTime | with_reducible apply keeps_sendLocal
    | with_reducible refine Inv_ite ?_ ?_ | with_reducible refine OutInv_next.mpr ?_ | intro _

theorem keeps_execRedundancyDegraded {k : Fixed} (a0) (a1) (s : State) (h : Inv k s) :
    OutInv k (execRedundancyDegraded a0 a1 s) := by
  unfold execRedundancyDegraded
  repeat' first
    | with_reducible assumption | with_reducible apply keeps_State_atTime | with_reducible apply keeps_degrade
    | with_reducible refine Inv_ite ?_ ?_ | with_reducible refine OutInv_next.mpr ?_ | intro _

theorem keeps_execBeaconSend {k : Fixed} (a0) (s : State) (h : Inv k s) : OutInv k (execBeaconSend a0 s) := by
  unfold execBeaconSend
  repeat' first
    | with_reducible assumption | with_reducible apply keeps_State_atTime | with_reducible apply keeps_sendLocal
    | with_reducible refine Inv_ite ?_ ?_ | with_reducible refine OutInv_next.mpr ?_ | intro _

theorem keeps_hearBeacon {k : Fixed} (a0) (s : State) (h : Inv k s) : Inv k (hearBeacon a0 s) := by
  unfold hearBeacon
  repeat' first
    | with_reducible assumption | (simp only [↓Inv_mk]; refine Holds_of ?_ ?_ ?_ ?_ ?_ ?_; rfl; rfl; rfl; rfl; exact ⟨rfl, rfl, rfl, rfl, rfl, id⟩)

theorem keeps_countBeacon {k : Fixed} (a0) (s : State) (h : Inv k s) : Inv k (countBeacon a0 s) := by
  unfold countBeacon
  repeat' first
    | with_reducible assumption | with_reducible apply keeps_clearGuard | with_reducible apply keeps_raise
    | with_reducible apply keeps_closeGuard | with_reducible refine Inv_ite ?_ ?_ | intro _
    | (simp only [↓Inv_mk]; refine Holds_of ?_ ?_ ?_ ?_ ?_ ?_; rfl; rfl; rfl; rfl; exact ⟨rfl, rfl, rfl, rfl, rfl, id⟩)

theorem keeps_yieldBeacon {k : Fixed} (a0) (a1) (a2) (s : State) (h : Inv k s) : Inv k (yieldBeacon a0 a1 a2 s) := by
  unfold yieldBeacon
  repeat' first
    | with_reducible assumption | with_reducible apply keeps_raise | with_reducible refine Inv_ite ?_ ?_ | intro _
    | (simp only [↓Inv_mk]; refine Holds_of ?_ ?_ ?_ ?_ ?_ ?_; rfl; rfl; rfl; rfl; exact ⟨rfl, rfl, rfl, rfl, rfl, id⟩)

theorem keeps_execBeaconReceived {k : Fixed} (a0) (a1) (a2) (s : State) (h : Inv k s) :
    OutInv k (execBeaconReceived a0 a1 a2 s) := by
  unfold execBeaconReceived
  repeat' first
    | with_reducible assumption | with_reducible apply keeps_State_atTime | with_reducible apply keeps_hearBeacon
    | with_reducible apply keeps_yieldBeacon | with_reducible apply keeps_countBeacon
    | with_reducible refine OutInv_next.mpr ?_ | intro _ | split

theorem keeps_execBeaconTimeout {k : Fixed} (a0) (s : State) (h : Inv k s) : OutInv k (execBeaconTimeout a0 s) := by
  unfold execBeaconTimeout
  repeat' first
    | with_reducible assumption | with_reducible apply keeps_State_atTime | with_reducible apply keeps_raise
    | with_reducible refine OutInv_next.mpr ?_ | intro _
    | (simp only [↓Inv_mk]; refine Holds_of ?_ ?_ ?_ ?_ ?_ ?_; rfl; rfl; rfl; rfl; exact ⟨rfl, rfl, rfl, rfl, rfl, id⟩) | split

theorem keeps_beaconBoundary {k : Fixed} (s : State) (h : Inv k s) : Inv k (beaconBoundary s) := by
  unfold beaconBoundary
  repeat' first
    | with_reducible assumption | with_reducible apply keeps_raise | with_reducible refine Inv_ite ?_ ?_ | intro _
    | (simp only [↓Inv_mk]; refine Holds_of ?_ ?_ ?_ ?_ ?_ ?_; rfl; rfl; rfl; rfl; exact ⟨rfl, rfl, rfl, rfl, rfl, id⟩)

theorem keeps_execGuardianTableCheck {k : Fixed} (a0) (a1) (s : State) (h : Inv k s) :
    OutInv k (execGuardianTableCheck a0 a1 s) := by
  unfold execGuardianTableCheck
  repeat' first
    | with_reducible assumption | with_reducible apply keeps_State_atTime | with_reducible apply keeps_closeGuard
    | with_reducible apply keeps_raise | with_reducible refine OutInv_next.mpr ?_ | intro _
    | (simp only [↓Inv_mk]; refine Holds_of ?_ ?_ ?_ ?_ ?_ ?_; rfl; rfl; rfl; rfl; exact ⟨rfl, rfl, rfl, rfl, rfl, id⟩) | split

theorem keeps_execGuardianCounterFault {k : Fixed} (a0) (a1) (a2) (a3) (s : State) (h : Inv k s) :
    OutInv k (execGuardianCounterFault a0 a1 a2 a3 s) := by
  unfold execGuardianCounterFault
  repeat' first
    | with_reducible assumption | with_reducible apply keeps_State_atTime | with_reducible apply keeps_closeGuard
    | with_reducible refine OutInv_next.mpr ?_ | intro _
    | (simp only [↓Inv_mk]; refine Holds_of ?_ ?_ ?_ ?_ ?_ ?_; rfl; rfl; rfl; rfl; exact ⟨rfl, rfl, rfl, rfl, rfl, id⟩) | split

theorem keeps_execCounterCauseCleared {k : Fixed} (a0) (s : State) (h : Inv k s) :
    OutInv k (execCounterCauseCleared a0 s) := by
  unfold execCounterCauseCleared
  repeat' first
    | with_reducible assumption | with_reducible apply keeps_State_atTime | with_reducible apply keeps_clearGuard
    | with_reducible refine OutInv_next.mpr ?_ | intro _
    | (simp only [↓Inv_mk]; refine Holds_of ?_ ?_ ?_ ?_ ?_ ?_; rfl; rfl; rfl; rfl; exact ⟨rfl, rfl, rfl, rfl, rfl, id⟩) | split

theorem keeps_bumpComId {k : Fixed} (a0) (a1) (s : State) (h : Inv k s) : Inv k (bumpComId a0 a1 s) := by
  unfold bumpComId
  repeat' first
    | with_reducible assumption | with_reducible apply keeps_foldl | intro _
    | (simp only [↓Inv_mk]; refine Holds_of ?_ ?_ ?_ ?_ ?_ ?_; rfl; rfl; rfl; rfl; exact ⟨rfl, rfl, rfl, rfl, rfl, id⟩)

theorem keeps_execPdSend {k : Fixed} (a0) (a1) (s : State) (h : Inv k s) : OutInv k (execPdSend a0 a1 s) := by
  unfold execPdSend
  repeat' first
    | with_reducible assumption | with_reducible apply keeps_State_atTime | with_reducible apply keeps_sendLocal
    | with_reducible apply keeps_State_emit | with_reducible apply keeps_bumpComId
    | with_reducible refine OutInv_next.mpr ?_ | intro _
    | (simp only [↓Inv_mk]; refine Holds_of ?_ ?_ ?_ ?_ ?_ ?_; rfl; rfl; rfl; rfl; exact ⟨rfl, rfl, rfl, rfl, rfl, id⟩) | split

theorem powered_length (q : Group) : q.powerUp.chans.length = 16 := List.length_replicate

theorem keeps_State_unpowered {k : Fixed} (s : State) (h : Inv k s) : Inv k (State.unpowered s) := by
  refine ⟨⟨Nat.zero_le _, trivial⟩, rfl, h.3, h.4, h.5, h.6, h.7, ⟨?_, ?_, ⟨?_, ?_⟩, ?_, ?_, ?_⟩⟩
  · exact List.length_replicate
  · exact List.length_replicate
  · exact List.length_replicate
  · intro q hq
    have hq : q ∈ List.replicate 8 ({} : Group) := hq
    rw [List.eq_of_mem_replicate hq]
    exact List.length_replicate
  · exact List.length_replicate
  · exact List.length_replicate
  · exact List.length_replicate

theorem keeps_powerUp {k : Fixed} (s : State) (h : Inv k s) : Inv k (powerUp s) := by
  unfold powerUp
  extract_lets s0 f g u s1
  have h0 : Inv k s0 := keeps_State_unpowered _ h
  exact keeps_enterMode _ _ _ (Holds_of (s := s0) rfl rfl rfl rfl
    ⟨rfl, rfl, rfl, rfl, rfl, groupsOk_map (fun q _ => powered_length q)⟩ h0)

theorem keeps_execSupplyOn {k : Fixed} (a0) (s : State) (h : Inv k s) : OutInv k (execSupplyOn a0 s) := by
  unfold execSupplyOn
  repeat' first
    | with_reducible assumption | with_reducible apply keeps_powerUp | with_reducible refine Inv_ite ?_ ?_
    | with_reducible refine OutInv_next.mpr ?_ | intro _

theorem keeps_endStage {k : Fixed} (a0) (s : State) (h : Inv k s) : Inv k (endStage a0 s) := by
  unfold endStage
  repeat' first
    | with_reducible assumption | (simp only [↓Inv_mk]; refine Holds_of ?_ ?_ ?_ ?_ ?_ ?_; rfl; rfl; rfl; rfl; exact ⟨rfl, rfl, rfl, rfl, rfl, id⟩)

theorem keeps_repairCopy {k : Fixed} (a0) (a1) (s : State) (h : Inv k s) : Inv k (repairCopy a0 a1 s) := by
  unfold repairCopy
  repeat' first
    | with_reducible assumption | with_reducible apply keeps_raiseFab | intro _
    | (simp only [↓Inv_mk]; refine Holds_of ?_ ?_ ?_ ?_ ?_ ?_; rfl; rfl; rfl; rfl; exact ⟨rfl, rfl, rfl, rfl, rfl, id⟩) | split

theorem keeps_resumeTrial {k : Fixed} (s : State) (h : Inv k s) : Inv k (resumeTrial s) := by
  unfold resumeTrial
  repeat' first
    | with_reducible assumption | with_reducible apply keeps_beginTrial | with_reducible refine Inv_ite ?_ ?_
    | intro _ | (simp only [↓Inv_mk]; refine Holds_of ?_ ?_ ?_ ?_ ?_ ?_; rfl; rfl; rfl; rfl; exact ⟨rfl, rfl, rfl, rfl, rfl, id⟩)

theorem keeps_execStage0Complete {k : Fixed} (a0) (s : State) (h : Inv k s) : OutInv k (execStage0Complete a0 s) := by
  unfold execStage0Complete
  repeat' first
    | with_reducible assumption | with_reducible apply keeps_State_atTime | with_reducible apply keeps_enterMode
    | with_reducible apply keeps_endStage | with_reducible apply keeps_activateMap
    | with_reducible apply keeps_repairCopy | with_reducible apply keeps_resumeTrial
    | with_reducible apply keeps_refresh | with_reducible apply keeps_lockout
    | with_reducible refine OutInv_next.mpr ?_ | intro _
    | (simp only [↓Inv_mk]; refine Holds_of ?_ ?_ ?_ ?_ ?_ ?_; rfl; rfl; rfl; rfl; exact ⟨rfl, rfl, rfl, rfl, rfl, id⟩) | split

theorem keeps_loadGroup {k : Fixed} (a0) (s : State) (h : Inv k s) : Inv k (loadGroup a0 s) := by
  unfold loadGroup
  refine keeps_State_modGroup _ _ _ (fun q hq => ?_) h
  split
  · simpa using hq
  · exact hq

theorem keeps_readStrap {k : Fixed} (a0) (s : State) (h : Inv k s) : Inv k (readStrap a0 s).2 := by
  unfold readStrap
  repeat' first | with_reducible assumption | with_reducible apply keeps_State_tick | split

theorem keeps_readStraps {k : Fixed} (a0) (s : State) (h : Inv k s) : Inv k (readStraps a0 s) := by
  unfold readStraps
  extract_lets step r
  have hr : ∀ (l : List Nat) (acc : Nat × State), Inv k acc.2 → Inv k (l.foldl step acc).2 := by
    intro l
    induction l with
    | nil => exact fun _ h => h
    | cons x l ih => exact fun acc h => ih _ (keeps_readStrap _ _ h)
  exact Holds_of (s := r.2) rfl rfl rfl rfl ⟨rfl, rfl, rfl, rfl, rfl, id⟩ (hr _ (0, s) h)

theorem keeps_takePairRole {k : Fixed} (s : State) (h : Inv k s) : Inv k (takePairRole s) := by
  unfold takePairRole
  repeat' first
    | with_reducible assumption | with_reducible apply keeps_setDrive | with_reducible refine Inv_ite ?_ ?_ | intro _
    | (simp only [↓Inv_mk]; refine Holds_of ?_ ?_ ?_ ?_ ?_ ?_; rfl; rfl; rfl; rfl; exact ⟨rfl, rfl, rfl, rfl, rfl, id⟩)

theorem keeps_commonsBoot {k : Fixed} (a0) (s : State) (h : Inv k s) : Inv k (commonsBoot a0 s) := by
  unfold commonsBoot
  repeat' first
    | with_reducible assumption | with_reducible apply keeps_loadRecords | with_reducible apply keeps_loadConfig
    | with_reducible apply keeps_readStraps | with_reducible apply keeps_takePairRole
    | with_reducible apply keeps_reportRoles | with_reducible apply keeps_loadGroup | with_reducible apply keeps_foldl
    | intro _

theorem keeps_execStage1Complete {k : Fixed} (a0) (a1) (s : State) (h : Inv k s) :
    OutInv k (execStage1Complete a0 a1 s) := by
  unfold execStage1Complete
  repeat' first
    | with_reducible assumption | with_reducible apply keeps_State_atTime | with_reducible apply keeps_endStage
    | with_reducible apply keeps_commonsBoot | with_reducible refine Inv_ite ?_ ?_
    | with_reducible refine OutInv_next.mpr ?_ | intro _

theorem keeps_lanesIn {k : Fixed} (s : State) (h : Inv k s) : Inv k (lanesIn s) := by
  unfold lanesIn
  repeat' first | with_reducible assumption | with_reducible apply keeps_State_modLanes

theorem keeps_stage2Image {k : Fixed} (a0) (a1) (s : State) (h : Inv k s) : Inv k (stage2Image a0 a1 s) := by
  unfold stage2Image
  extract_lets p s1 c1 c2 s2 s3 s4
  refine Inv_ite (fun _ => ?_) (fun _ => keeps_faultStop _ _ (keeps_raise _ _ _ h))
  have h1 : Inv k s1 := keeps_foldl (fun _ _ => keeps_dissentOut _ _ _) (keeps_lanesIn _ h)
  have h2 : Inv k s2 := ⟨h1.1, wf_initSignals (wf_initSegments _), h1.3, h1.4, h1.5, h1.6, h1.7,
    ⟨h1.8.1, h1.8.2, h1.8.3, h1.8.4, h1.8.5, h1.8.6⟩⟩
  have h4 : Inv k s4 := keeps_lanesCheck _ (keeps_voteBindings _ _ (keeps_installImage _ _
    (keeps_restoreRetained _ _ (keeps_applyBindings _ _ h2))))
  exact Inv_ite (fun _ => keeps_endStage _ _ h4) (fun _ => h4)

theorem keeps_execStage2Complete {k : Fixed} (a0) (a1) (s : State) (h : Inv k s) :
    OutInv k (execStage2Complete a0 a1 s) := by
  unfold execStage2Complete
  repeat' first
    | with_reducible assumption | with_reducible apply keeps_State_atTime | with_reducible apply keeps_stage2Image
    | with_reducible apply keeps_endStage | with_reducible apply keeps_setStagger
    | with_reducible apply keeps_applyBindings | with_reducible apply keeps_lanesIn
    | with_reducible refine OutInv_next.mpr ?_ | intro _ | split

theorem keeps_startSlot {k : Fixed} (s : State) (a1) (h : Inv k s) : Inv k (startSlot s a1) := by
  unfold startSlot
  repeat' first | with_reducible assumption | with_reducible apply keeps_State_modPtp

theorem keeps_startNetwork {k : Fixed} (s : State) (h : Inv k s) : Inv k (startNetwork s) := by
  unfold startNetwork
  repeat' first
    | with_reducible assumption | with_reducible apply keeps_activateMatrix | with_reducible apply keeps_startSlot
    | with_reducible apply keeps_setCan | with_reducible apply keeps_raiseIf | with_reducible refine Inv_ite ?_ ?_
    | intro _ | (simp only [↓Inv_mk]; refine Holds_of ?_ ?_ ?_ ?_ ?_ ?_; rfl; rfl; rfl; rfl; exact ⟨rfl, rfl, rfl, rfl, rfl, id⟩)

theorem keeps_refuseCommand {k : Fixed} (a0) (a1) (s : State) (h : Inv k s) : Inv k (refuseCommand a0 a1 s) := by
  unfold refuseCommand
  repeat' first | with_reducible assumption | with_reducible apply keeps_setResult | with_reducible apply keeps_raise

theorem keeps_startComplete {k : Fixed} (s : State) (h : Inv k s) : Inv k (startComplete s) := by
  unfold startComplete
  repeat' first | with_reducible assumption | with_reducible apply keeps_endStage | with_reducible apply keeps_raise

theorem keeps_startStop {k : Fixed} (s : State) (h : Inv k s) : Inv k (startStop s) := by
  unfold startStop
  repeat' first
    | with_reducible assumption | with_reducible apply keeps_startComplete | with_reducible apply keeps_enterMode

theorem keeps_startMode {k : Fixed} (s : State) (h : Inv k s) : Inv k (startMode s) := by
  unfold startMode
  repeat' first
    | with_reducible assumption | with_reducible apply keeps_startStop | with_reducible apply keeps_startComplete
    | with_reducible apply keeps_enterMode | with_reducible apply keeps_refuseCommand
    | with_reducible refine Inv_ite ?_ ?_ | intro _
    | (simp only [↓Inv_mk]; refine Holds_of ?_ ?_ ?_ ?_ ?_ ?_; rfl; rfl; rfl; rfl; exact ⟨rfl, rfl, rfl, rfl, rfl, id⟩)

theorem keeps_execStage3Complete {k : Fixed} (a0) (s : State) (h : Inv k s) : OutInv k (execStage3Complete a0 s) := by
  unfold execStage3Complete
  repeat' first
    | with_reducible assumption | with_reducible apply keeps_State_atTime | with_reducible apply keeps_startNetwork
    | with_reducible apply keeps_startMode | with_reducible refine Inv_ite ?_ ?_
    | with_reducible refine OutInv_next.mpr ?_ | intro _

theorem keeps_execStageTimeout {k : Fixed} (a0) (a1) (s : State) (h : Inv k s) : OutInv k (execStageTimeout a0 a1 s) := by
  unfold execStageTimeout
  repeat' first
    | with_reducible assumption | with_reducible apply keeps_State_atTime | with_reducible apply keeps_lockout
    | with_reducible apply keeps_enterMode | with_reducible apply keeps_faultStop | with_reducible apply keeps_raise
    | with_reducible refine Inv_ite ?_ ?_ | with_reducible refine OutInv_next.mpr ?_ | intro _

theorem keeps_execSupplyInterruption {k : Fixed} (a0) (s : State) (h : Inv k s) :
    OutInv k (execSupplyInterruption a0 s) := by
  unfold execSupplyInterruption
  repeat' first
    | with_reducible assumption | with_reducible apply keeps_State_atTime | with_reducible refine Inv_ite ?_ ?_
    | with_reducible refine OutInv_next.mpr ?_ | intro _
    | (simp only [↓Inv_mk]; refine Holds_of ?_ ?_ ?_ ?_ ?_ ?_; rfl; rfl; rfl; rfl; exact ⟨rfl, rfl, rfl, rfl, rfl, id⟩)

theorem keeps_execStoreExhausted {k : Fixed} (a0) (s : State) (h : Inv k s) : OutInv k (execStoreExhausted a0 s) := by
  unfold execStoreExhausted
  repeat' first
    | with_reducible assumption | with_reducible apply keeps_State_atTime | with_reducible refine Inv_ite ?_ ?_
    | with_reducible refine OutInv_next.mpr ?_ | intro _
    | (simp only [↓Inv_mk]; refine Holds_of ?_ ?_ ?_ ?_ ?_ ?_; rfl; rfl; rfl; rfl; exact ⟨rfl, rfl, rfl, rfl, rfl, id⟩)

theorem keeps_restartGroup {k : Fixed} (s : State) (a1) (h : Inv k s) : Inv k (restartGroup s a1) := by
  unfold restartGroup
  have h1 := keeps_sendRoles _ (keeps_State_modGroup s a1 Group.powerUp (fun q _ => powered_length q) h)
  exact Inv_ite (fun _ => keeps_sendDrive _ (keeps_loadGroup _ _ h1)) (fun _ => h1)

theorem keeps_execSupplyReturn {k : Fixed} (a0) (a1) (a2) (a3) (s : State) (h : Inv k s) :
    OutInv k (execSupplyReturn a0 a1 a2 a3 s) := by
  unfold execSupplyReturn
  repeat' first
    | with_reducible assumption | with_reducible apply keeps_State_atTime | with_reducible apply keeps_powerUp
    | with_reducible apply keeps_restartGroup | with_reducible apply keeps_lockout
    | with_reducible refine Inv_ite ?_ ?_ | with_reducible apply keeps_foldl
    | with_reducible refine OutInv_next.mpr ?_ | intro _
    | (simp only [↓Inv_mk]; refine Holds_of ?_ ?_ ?_ ?_ ?_ ?_; rfl; rfl; rfl; rfl; exact ⟨rfl, rfl, rfl, rfl, rfl, id⟩)

theorem keeps_execSupplyMeasurement {k : Fixed} (a0) (a1) (s : State) (h : Inv k s) :
    OutInv k (execSupplyMeasurement a0 a1 s) := by
  unfold execSupplyMeasurement
  repeat' first
    | with_reducible assumption | with_reducible apply keeps_State_atTime | with_reducible apply keeps_measure
    | with_reducible refine Inv_ite ?_ ?_ | with_reducible refine OutInv_next.mpr ?_ | intro _
    | (simp only [↓Inv_mk]; refine Holds_of ?_ ?_ ?_ ?_ ?_ ?_; rfl; rfl; rfl; rfl; exact ⟨rfl, rfl, rfl, rfl, rfl, id⟩)

theorem keeps_execFabricReserveExhausted {k : Fixed} (a0) (s : State) (h : Inv k s) :
    OutInv k (execFabricReserveExhausted a0 s) := by
  unfold execFabricReserveExhausted
  repeat' first
    | with_reducible assumption | with_reducible apply keeps_State_atTime | with_reducible apply keeps_State_unpowered
    | with_reducible refine OutInv_next.mpr ?_ | intro _ | split

theorem keeps_execLedFallback {k : Fixed} (a0) (s : State) (h : Inv k s) : OutInv k (execLedFallback a0 s) := by
  unfold execLedFallback
  repeat' first
    | with_reducible assumption | with_reducible apply keeps_State_atTime | with_reducible refine Inv_ite ?_ ?_
    | with_reducible refine OutInv_next.mpr ?_ | intro _
    | (simp only [↓Inv_mk]; refine Holds_of ?_ ?_ ?_ ?_ ?_ ?_; rfl; rfl; rfl; rfl; exact ⟨rfl, rfl, rfl, rfl, rfl, id⟩)

theorem keeps_execCisternEccError {k : Fixed} (a0) (s : State) (h : Inv k s) : OutInv k (execCisternEccError a0 s) := by
  unfold execCisternEccError
  repeat' first
    | with_reducible assumption | with_reducible apply keeps_State_atTime | with_reducible apply keeps_faultStop
    | with_reducible apply keeps_raise | with_reducible refine Inv_ite ?_ ?_
    | with_reducible refine OutInv_next.mpr ?_ | intro _
    | (simp only [↓Inv_mk]; refine Holds_of ?_ ?_ ?_ ?_ ?_ ?_; rfl; rfl; rfl; rfl; exact ⟨rfl, rfl, rfl, rfl, rfl, id⟩)

theorem keeps_State_modSession {k : Fixed} (s : State) (a1) (a2) (h : Inv k s) : Inv k (State.modSession s a1 a2) := by
  unfold State.modSession
  repeat' first
    | with_reducible assumption | (simp only [↓Inv_mk]; refine Holds_of ?_ ?_ ?_ ?_ ?_ ?_; rfl; rfl; rfl; rfl; exact ⟨by first | rfl | simp [modAt], by first | rfl | simp [modAt], by first | rfl | simp [modAt], by first | rfl | simp [modAt],
      by first | rfl | simp [modAt], id⟩)

theorem keeps_keepAnswer {k : Fixed} (a0) (a1) (a2) (s : State) (h : Inv k s) : Inv k (keepAnswer a0 a1 a2 s) := by
  unfold keepAnswer
  repeat' first | with_reducible assumption | with_reducible apply keeps_State_modSession | split

theorem keeps_respond {k : Fixed} (a0) (a1) (a2) (s : State) (h : Inv k s) : Inv k (respond a0 a1 a2 s) := by
  unfold respond
  repeat' first
    | with_reducible assumption | with_reducible apply keeps_keepAnswer | with_reducible apply keeps_State_emitAll

end Sys2Proof.Machine
end

