-- ==== Sys2Proof/Laws/KeepsE.lean ====
section
/-! SUPPORT. The invariant of Laws/Kept.lean is kept by: the pour, the pair, the exchange and the cycle boundary. -/

set_option Elab.async false

set_option linter.all false

namespace Sys2Proof.Machine

theorem keeps_pourFail {k : Fixed} (a0) (a1) (a2) (a3) (s : State) (h : Inv k s) : Inv k (pourFail a0 a1 a2 a3 s) := by
  unfold pourFail
  repeat' first
    | with_reducible assumption | with_reducible apply keeps_raise
    | (simp only [↓Inv_mk]; refine Holds_of ?_ ?_ ?_ ?_ ?_ ?_; rfl; rfl; rfl; rfl; exact ⟨rfl, rfl, rfl, rfl, rfl, id⟩)

theorem keeps_pourWindow {k : Fixed} (a0) (a1) (s : State) (h : Inv k s) : Inv k (pourWindow a0 a1 s).1 := by
  unfold pourWindow
  repeat' first
    | with_reducible assumption | with_reducible apply keeps_pourFail
    | (simp only [↓Inv_mk]; refine Holds_of ?_ ?_ ?_ ?_ ?_ ?_; rfl; rfl; rfl; rfl; exact ⟨rfl, rfl, rfl, rfl, rfl, id⟩) | split

theorem keeps_pourWindows {k : Fixed} (a0) (a1) (s : State) (h : Inv k s) : Inv k (pourWindows a0 a1 s).1 := by
  induction a1 generalizing s with
  | nil => exact h
  | cons v r ih =>
    unfold pourWindows
    split
    · exact Inv_of_fst ‹_› (keeps_pourWindow _ _ _ h)
    · have h1 := Inv_of_fst ‹_› (keeps_pourWindow _ _ _ h)
      split
      · exact Inv_of_fst ‹_› (ih _ h1)
      · exact Inv_of_fst ‹_› (ih _ h1)

theorem keeps_pourSplit {k : Fixed} (a0) (a1) (a2) (s : State) (h : Inv k s) : Inv k (pourSplit a0 a1 a2 s).1 := by
  unfold pourSplit
  repeat' first
    | with_reducible assumption | with_reducible apply keeps_splitFault | with_reducible apply keeps_pourFail
    | with_reducible apply keeps_raiseLane | intro _ | extract_lets +onlyGivenNames _ | split

theorem keeps_pourSplits {k : Fixed} (a0) (a1) (a2) (s : State) (h : Inv k s) : Inv k (pourSplits a0 a1 a2 s).1 := by
  induction a2 generalizing s with
  | nil => exact h
  | cons x r ih =>
    unfold pourSplits
    extract_lets q z
    have hz : Inv k z.1 := ih _ (keeps_pourSplit _ _ _ _ h)
    clear_value z
    split
    · exact hz
    · exact hz

theorem keeps_superseded {k : Fixed} (a0) (a1) (a2) (a3) (s : State) (h : Inv k s) : Inv k (superseded a0 a1 a2 a3 s) := by
  unfold superseded
  repeat' first | with_reducible assumption | with_reducible apply keeps_raise

theorem keeps_pushWrites {k : Fixed} (a0) (s : State) (h : Inv k s) : Inv k (pushWrites a0 s) := by
  unfold pushWrites
  exact keeps_State_modLanes _ _ (⟨h.1, wf_putAll h.mem, h.3, h.4, h.5, h.6, h.7, h.8⟩)

theorem keeps_changeOnForced {k : Fixed} (a0) (a1) (s : State) (h : Inv k s) : Inv k (changeOnForced a0 a1 s) := by
  unfold changeOnForced
  repeat' first
    | with_reducible assumption | with_reducible apply keeps_raise | intro _
    | (simp only [↓Inv_mk]; refine Holds_of ?_ ?_ ?_ ?_ ?_ ?_; rfl; rfl; rfl; rfl; exact ⟨rfl, rfl, rfl, rfl, rfl, id⟩) | split

theorem keeps_settleSignal {k : Fixed} (a0) (a1) (s : State) (a3) (h : Inv k s) : Inv k (settleSignal a0 a1 s a3) := by
  unfold settleSignal
  extract_lets s1 c1 s2 s3 c2
  have h1 : Inv k s1 := keeps_changeOnForced _ _ _ h
  clear_value s1
  have h2 : Inv k s2 := by
    unfold s2
    split
    · exact Holds_of (s := s1) rfl rfl rfl rfl ⟨rfl, rfl, rfl, rfl, rfl, id⟩ h1
    · exact h1
  clear_value s2
  have h3 : Inv k s3 := keeps_foldl (fun _ _ hq => keeps_superseded _ _ _ _ _ hq) h2
  exact Holds_of (s := s3) rfl rfl rfl rfl ⟨rfl, rfl, rfl, rfl, rfl, id⟩ h3

theorem keeps_commitAll {k : Fixed} (a0) (a1) (a2) (a3) (s : State) (h : Inv k s) : Inv k (commitAll a0 a1 a2 a3 s) := by
  unfold commitAll
  repeat' first
    | with_reducible assumption | with_reducible apply keeps_pushWrites | with_reducible apply keeps_settleSignal
    | with_reducible refine Inv_ite ?_ ?_ | with_reducible apply keeps_foldl | intro _
    | (simp only [↓Inv_mk]; refine Holds_of ?_ ?_ ?_ ?_ ?_ ?_; rfl; rfl; rfl; rfl; exact ⟨rfl, rfl, rfl, rfl, rfl, id⟩)

theorem keeps_countPoured {k : Fixed} (s : State) (a1) (h : Inv k s) : Inv k (countPoured s a1) := by
  unfold countPoured
  repeat' first | with_reducible assumption | with_reducible apply keeps_State_modTask

theorem keeps_countSubst {k : Fixed} (a0) (s : State) (h : Inv k s) : Inv k (countSubst a0 s) := by
  unfold countSubst
  repeat' first
    | with_reducible assumption | (simp only [↓Inv_mk]; refine Holds_of ?_ ?_ ?_ ?_ ?_ ?_; rfl; rfl; rfl; rfl; exact ⟨rfl, rfl, rfl, rfl, rfl, id⟩)

theorem keeps_sendOutputs {k : Fixed} (a0) (a1) (s : State) (h : Inv k s) : Inv k (sendOutputs a0 a1 s) := by
  unfold sendOutputs
  repeat' first
    | with_reducible assumption | with_reducible apply keeps_sendDrive | with_reducible apply keeps_State_emitAll

theorem keeps_sendDelta {k : Fixed} (a0) (s : State) (h : Inv k s) : Inv k (sendDelta a0 s) := by
  unfold sendDelta
  repeat' first
    | with_reducible assumption | with_reducible apply keeps_sendObject | with_reducible refine Inv_ite ?_ ?_
    | intro _

theorem keeps_freeHalves {k : Fixed} (a0) (a1) (s : State) (h : Inv k s) : Inv k (freeHalves a0 a1 s) := by
  unfold freeHalves
  repeat' first
    | with_reducible assumption | with_reducible apply keeps_State_modLanes | with_reducible apply keeps_State_modLane
    | with_reducible apply keeps_foldl | intro _

theorem keeps_pourNothing {k : Fixed} (a0) (s : State) (h : Inv k s) : Inv k (pourNothing a0 s) := by
  unfold pourNothing
  repeat' first
    | with_reducible assumption | with_reducible apply keeps_faultStop
    | (simp only [↓Inv_mk]; refine Holds_of ?_ ?_ ?_ ?_ ?_ ?_; rfl; rfl; rfl; rfl; exact ⟨rfl, rfl, rfl, rfl, rfl, id⟩)

theorem keeps_afterPour {k : Fixed} (a0) (a1) (s : State) (h : Inv k s) : Inv k (afterPour a0 a1 s) := by
  unfold afterPour
  repeat' first
    | with_reducible assumption | with_reducible apply keeps_sendDelta | with_reducible apply keeps_stageBuses
    | with_reducible apply keeps_sendRequest | with_reducible apply keeps_sendOutputs
    | (simp only [↓Inv_mk]; refine Holds_of ?_ ?_ ?_ ?_ ?_ ?_; rfl; rfl; rfl; rfl; exact ⟨rfl, rfl, rfl, rfl, rfl, id⟩)

theorem keeps_commitPour {k : Fixed} (a0) (a1) (a2) (a3) (s : State) (h : Inv k s) : Inv k (commitPour a0 a1 a2 a3 s) := by
  unfold commitPour
  repeat' first
    | with_reducible assumption | with_reducible apply keeps_pourSplits | with_reducible apply keeps_freeHalves
    | with_reducible apply keeps_commitAll | with_reducible apply keeps_countPoured
    | with_reducible apply keeps_countSubst | with_reducible apply keeps_State_modTask
    | with_reducible apply keeps_afterPour | with_reducible apply keeps_foldl | intro _

theorem keeps_execPour {k : Fixed} (a0) (a1) (s : State) (h : Inv k s) : OutInv k (execPour a0 a1 s) := by
  unfold execPour
  repeat' first
    | with_reducible assumption | with_reducible apply keeps_State_atTime | with_reducible apply keeps_afterPour
    | with_reducible apply keeps_pourWindows | with_reducible apply keeps_pourNothing
    | with_reducible apply keeps_raise | with_reducible apply keeps_commitPour
    | with_reducible refine Inv_of_fst (by assumption) ?_ | with_reducible refine OutInv_next.mpr ?_ | intro _ | split

theorem keeps_safeOrphans {k : Fixed} (a0) (s : State) (h : Inv k s) : Inv k (safeOrphans a0 s) := by
  unfold safeOrphans
  repeat' first
    | with_reducible assumption | with_reducible apply keeps_State_modTask | with_reducible apply keeps_commitAll
    | with_reducible apply keeps_stageBuses | with_reducible apply keeps_sendRequest
    | with_reducible apply keeps_sendOutputs | with_reducible refine Inv_ite ?_ ?_ | with_reducible apply keeps_foldl
    | intro _

theorem keeps_execPourWindowEnd {k : Fixed} (a0) (s : State) (h : Inv k s) : OutInv k (execPourWindowEnd a0 s) := by
  unfold execPourWindowEnd
  repeat' first
    | with_reducible assumption | with_reducible apply keeps_State_atTime | with_reducible apply keeps_excludeLane
    | with_reducible apply keeps_lanesCheck | with_reducible apply keeps_safeOrphans
    | with_reducible refine Inv_ite ?_ ?_ | with_reducible apply keeps_foldl
    | with_reducible refine OutInv_next.mpr ?_ | intro _
    | (simp only [↓Inv_mk]; refine Holds_of ?_ ?_ ?_ ?_ ?_ ?_; rfl; rfl; rfl; rfl; exact ⟨rfl, rfl, rfl, rfl, rfl, id⟩)

theorem keeps_execPourLate {k : Fixed} (a0) (s : State) (h : Inv k s) : OutInv k (execPourLate a0 s) := by
  unfold execPourLate
  repeat' first
    | with_reducible assumption | with_reducible apply keeps_State_atTime | with_reducible apply keeps_pourNothing
    | with_reducible apply keeps_raise | with_reducible refine Inv_ite ?_ ?_
    | with_reducible refine OutInv_next.mpr ?_ | intro _

theorem keeps_execRetainedSnapshot {k : Fixed} (a0) (s : State) (h : Inv k s) : OutInv k (execRetainedSnapshot a0 s) := by
  unfold execRetainedSnapshot
  repeat' first
    | with_reducible assumption | with_reducible apply keeps_State_atTime | with_reducible apply keeps_snapshot
    | with_reducible refine Inv_ite ?_ ?_ | with_reducible refine OutInv_next.mpr ?_ | intro _

theorem keeps_hearReferee {k : Fixed} (s : State) (h : Inv k s) : Inv k (hearReferee s) := by
  unfold hearReferee
  repeat' first
    | with_reducible assumption | with_reducible apply keeps_raiseIf
    | (simp only [↓Inv_mk]; refine Holds_of ?_ ?_ ?_ ?_ ?_ ?_; rfl; rfl; rfl; rfl; exact ⟨rfl, rfl, rfl, rfl, rfl, id⟩)

theorem keeps_loseLease {k : Fixed} (a0) (s : State) (h : Inv k s) : Inv k (loseLease a0 s) := by
  unfold loseLease
  repeat' first
    | with_reducible assumption | with_reducible apply keeps_setDrive | with_reducible apply keeps_raise
    | (simp only [↓Inv_mk]; refine Holds_of ?_ ?_ ?_ ?_ ?_ ?_; rfl; rfl; rfl; rfl; exact ⟨rfl, rfl, rfl, rfl, rfl, id⟩)

theorem keeps_driveOn {k : Fixed} (s : State) (h : Inv k s) : Inv k (driveOn s) := by
  unfold driveOn
  repeat' first
    | with_reducible assumption | with_reducible apply keeps_setDrive | with_reducible refine Inv_ite ?_ ?_ | intro _
    | (simp only [↓Inv_mk]; refine Holds_of ?_ ?_ ?_ ?_ ?_ ?_; rfl; rfl; rfl; rfl; exact ⟨rfl, rfl, rfl, rfl, rfl, id⟩)

theorem keeps_sendRequestLease {k : Fixed} (s : State) (h : Inv k s) : Inv k (sendRequestLease s) := by
  unfold sendRequestLease
  repeat' first
    | with_reducible assumption | with_reducible apply keeps_sendReferee
    | (simp only [↓Inv_mk]; refine Holds_of ?_ ?_ ?_ ?_ ?_ ?_; rfl; rfl; rfl; rfl; exact ⟨rfl, rfl, rfl, rfl, rfl, id⟩)

theorem keeps_rejectFrame {k : Fixed} (a0) (a1) (s : State) (h : Inv k s) : Inv k (rejectFrame a0 a1 s) := by
  unfold rejectFrame
  repeat' first
    | with_reducible assumption | with_reducible apply keeps_raise | with_reducible refine Inv_ite ?_ ?_ | intro _
    | (simp only [↓Inv_mk]; refine Holds_of ?_ ?_ ?_ ?_ ?_ ?_; rfl; rfl; rfl; rfl; exact ⟨rfl, rfl, rfl, rfl, rfl, id⟩)

theorem keeps_takeSiphon {k : Fixed} (a0) (a1) (s : State) (h : Inv k s) : Inv k (takeSiphon a0 a1 s).1 := by
  unfold takeSiphon
  repeat' first
    | with_reducible assumption | with_reducible apply keeps_rejectFrame | with_reducible refine Inv_fst_ite ?_ ?_
    | intro _ | (simp only [↓Inv_mk]; refine Holds_of ?_ ?_ ?_ ?_ ?_ ?_; rfl; rfl; rfl; rfl; exact ⟨rfl, rfl, rfl, rfl, rfl, id⟩)

theorem keeps_finishShadow {k : Fixed} (s : State) (h : Inv k s) : Inv k (finishShadow s) := by
  unfold finishShadow
  repeat' first
    | with_reducible assumption | with_reducible apply keeps_beginTrial | with_reducible apply keeps_selectImageSlot
    | with_reducible apply keeps_State_modLanes | with_reducible refine Inv_ite ?_ ?_ | intro _
    | (simp only [↓Inv_mk]; refine Holds_of ?_ ?_ ?_ ?_ ?_ ?_; rfl; rfl; rfl; rfl; exact ⟨rfl, rfl, rfl, rfl, rfl, id⟩)

theorem keeps_leaveShadow {k : Fixed} (s : State) (h : Inv k s) : Inv k (leaveShadow s) := by
  unfold leaveShadow
  refine Inv_ite (fun _ => ?_) (fun _ => h)
  extract_lets p s1 s2 c
  have h2 : Inv k s2 := keeps_State_modLanes _ _ (keeps_raise _ _ _ (Holds_of rfl rfl rfl rfl ⟨rfl, rfl, rfl, rfl, rfl, id⟩ h))
  clear_value s2
  split
  · exact keeps_takeDigest _ (keeps_applyBindings _ _ (keeps_installImage _ _
      (⟨h2.1, wf_initSignals (wf_initSegments _), h2.3, h2.4, h2.5, h2.6, h2.7,
      ⟨h2.8.1, h2.8.2, h2.8.3, h2.8.4, h2.8.5, h2.8.6⟩⟩)))
  · exact h2

theorem keeps_askResync {k : Fixed} (s : State) (h : Inv k s) : Inv k (askResync s) := by
  unfold askResync
  repeat' first | with_reducible assumption | with_reducible apply keeps_sendControl

theorem keeps_toJoining {k : Fixed} (a0) (s : State) (h : Inv k s) : Inv k (toJoining a0 s) := by
  unfold toJoining
  repeat' first
    | with_reducible assumption | with_reducible apply keeps_dropAll | with_reducible apply keeps_setPair
    | with_reducible apply keeps_leaveShadow | with_reducible apply keeps_askResync
    | (simp only [↓Inv_mk]; refine Holds_of ?_ ?_ ?_ ?_ ?_ ?_; rfl; rfl; rfl; rfl; exact ⟨rfl, rfl, rfl, rfl, rfl, id⟩)

theorem keeps_partnerGone {k : Fixed} (a0) (s : State) (h : Inv k s) : Inv k (partnerGone a0 s) := by
  unfold partnerGone
  repeat' first
    | with_reducible assumption | with_reducible apply keeps_raise | with_reducible apply keeps_sendRequestLease
    | with_reducible apply keeps_deliver | with_reducible apply keeps_setPair | with_reducible apply keeps_enterMode
    | intro _ | (simp only [↓Inv_mk]; refine Holds_of ?_ ?_ ?_ ?_ ?_ ?_; rfl; rfl; rfl; rfl; exact ⟨rfl, rfl, rfl, rfl, rfl, id⟩) | split

theorem keeps_activate {k : Fixed} (a0) (s : State) (h : Inv k s) : Inv k (activate a0 s) := by
  unfold activate
  repeat' first
    | with_reducible assumption | with_reducible apply keeps_driveOn | with_reducible apply keeps_setPair
    | with_reducible apply keeps_finishShadow | with_reducible apply keeps_enterMode
    | with_reducible apply keeps_passTrial | with_reducible apply keeps_nmtStart | with_reducible refine Inv_ite ?_ ?_
    | intro _

theorem keeps_takeOver {k : Fixed} (a0) (s : State) (h : Inv k s) : Inv k (takeOver a0 s) := by
  unfold takeOver
  repeat' first
    | with_reducible assumption | with_reducible apply keeps_activate | with_reducible apply keeps_raise
    | (simp only [↓Inv_mk]; refine Holds_of ?_ ?_ ?_ ?_ ?_ ?_; rfl; rfl; rfl; rfl; exact ⟨rfl, rfl, rfl, rfl, rfl, id⟩)

theorem keeps_proposeHandover {k : Fixed} (a0) (a1) (a2) (s : State) (h : Inv k s) :
    Inv k (proposeHandover a0 a1 a2 s) := by
  unfold proposeHandover
  repeat' first
    | with_reducible assumption | with_reducible apply keeps_sendControl
    | (simp only [↓Inv_mk]; refine Holds_of ?_ ?_ ?_ ?_ ?_ ?_; rfl; rfl; rfl; rfl; exact ⟨rfl, rfl, rfl, rfl, rfl, id⟩)

theorem keeps_failHandover {k : Fixed} (s : State) (h : Inv k s) : Inv k (failHandover s) := by
  unfold failHandover
  repeat' first
    | with_reducible assumption | with_reducible apply keeps_raise | with_reducible apply keeps_setResult
    | with_reducible refine Inv_ite ?_ ?_ | intro _
    | (simp only [↓Inv_mk]; refine Holds_of ?_ ?_ ?_ ?_ ?_ ?_; rfl; rfl; rfl; rfl; exact ⟨rfl, rfl, rfl, rfl, rfl, id⟩)

theorem keeps_startResync {k : Fixed} (s : State) (h : Inv k s) : Inv k (startResync s) := by
  unfold startResync
  repeat' first
    | with_reducible assumption | with_reducible apply keeps_sendControl | with_reducible apply keeps_mirror
    | with_reducible refine Inv_ite ?_ ?_ | intro _
    | (simp only [↓Inv_mk]; refine Holds_of ?_ ?_ ?_ ?_ ?_ ?_; rfl; rfl; rfl; rfl; exact ⟨rfl, rfl, rfl, rfl, rfl, id⟩)

theorem keeps_sendCopy {k : Fixed} (a0) (a1) (a2) (s : State) (h : Inv k s) : Inv k (sendCopy a0 a1 a2 s) := by
  induction a1 generalizing a2 s with
  | zero => exact h
  | succ n ih => exact Inv_ite (fun _ => h) (fun _ => ih _ _ (keeps_sendFrame _ _ _ _ _ _ h))

theorem keeps_resyncBoundary {k : Fixed} (a0) (s : State) (h : Inv k s) : Inv k (resyncBoundary a0 s) := by
  unfold resyncBoundary
  repeat' first
    | with_reducible assumption | with_reducible apply keeps_sendCopy | with_reducible apply keeps_sendControl
    | intro _ | (simp only [↓Inv_mk]; refine Holds_of ?_ ?_ ?_ ?_ ?_ ?_; rfl; rfl; rfl; rfl; exact ⟨rfl, rfl, rfl, rfl, rfl, id⟩) | split

theorem keeps_resyncFailed {k : Fixed} (a0) (s : State) (h : Inv k s) : Inv k (resyncFailed a0 s) := by
  unfold resyncFailed
  repeat' first
    | with_reducible assumption | with_reducible apply keeps_raise | with_reducible apply keeps_setPair
    | with_reducible apply keeps_enterMode | with_reducible apply keeps_askResync
    | with_reducible refine Inv_ite ?_ ?_ | intro _
    | (simp only [↓Inv_mk]; refine Holds_of ?_ ?_ ?_ ?_ ?_ ?_; rfl; rfl; rfl; rfl; exact ⟨rfl, rfl, rfl, rfl, rfl, id⟩)

theorem keeps_deltaMismatch {k : Fixed} (a0) (s : State) (h : Inv k s) : Inv k (deltaMismatch a0 s) := by
  unfold deltaMismatch
  repeat' first | with_reducible assumption | with_reducible apply keeps_toJoining | with_reducible apply keeps_raise

theorem keeps_takeDelta {k : Fixed} (a0) (s : State) (h : Inv k s) : Inv k (takeDelta a0 s) := by
  unfold takeDelta
  repeat' first
    | with_reducible assumption | with_reducible apply keeps_rejectFrame | with_reducible apply keeps_deltaMismatch
    | with_reducible apply keeps_commitAll | intro _
    | (simp only [↓Inv_mk]; refine Holds_of ?_ ?_ ?_ ?_ ?_ ?_; rfl; rfl; rfl; rfl; exact ⟨rfl, rfl, rfl, rfl, rfl, id⟩) | split

theorem keeps_settleRole {k : Fixed} (a0) (s : State) (h : Inv k s) : Inv k (settleRole a0 s) := by
  unfold settleRole
  repeat' first
    | with_reducible assumption | with_reducible apply keeps_raise | with_reducible refine Inv_ite ?_ ?_ | intro _
    | (simp only [↓Inv_mk]; refine Holds_of ?_ ?_ ?_ ?_ ?_ ?_; rfl; rfl; rfl; rfl; exact ⟨rfl, rfl, rfl, rfl, rfl, id⟩)

theorem keeps_pairRefused {k : Fixed} (a0) (s : State) (h : Inv k s) : Inv k (pairRefused a0 s) := by
  unfold pairRefused
  repeat' first
    | with_reducible assumption | with_reducible apply keeps_raise | with_reducible apply keeps_setPair
    | with_reducible apply keeps_raiseIf | (simp only [↓Inv_mk]; refine Holds_of ?_ ?_ ?_ ?_ ?_ ?_; rfl; rfl; rfl; rfl; exact ⟨rfl, rfl, rfl, rfl, rfl, id⟩)

theorem keeps_negotiate {k : Fixed} (a0) (s : State) (h : Inv k s) : Inv k (negotiate a0 s) := by
  unfold negotiate
  repeat' first
    | with_reducible assumption | with_reducible apply keeps_driveOn | with_reducible apply keeps_sendRequestLease
    | with_reducible apply keeps_pairRefused | with_reducible apply keeps_settleRole
    | with_reducible apply keeps_setPair | with_reducible apply keeps_toJoining | intro _
    | (simp only [↓Inv_mk]; refine Holds_of ?_ ?_ ?_ ?_ ?_ ?_; rfl; rfl; rfl; rfl; exact ⟨rfl, rfl, rfl, rfl, rfl, id⟩) | split

theorem keeps_execPairNegotiation {k : Fixed} (a0) (a1) (s : State) (h : Inv k s) :
    OutInv k (execPairNegotiation a0 a1 s) := by
  unfold execPairNegotiation
  repeat' first
    | with_reducible assumption | with_reducible apply keeps_State_atTime | with_reducible apply keeps_startNetwork
    | with_reducible apply keeps_negotiate | with_reducible apply keeps_sendControl
    | with_reducible refine Inv_ite ?_ ?_ | with_reducible refine OutInv_next.mpr ?_ | intro _

theorem keeps_execHeartbeatSend {k : Fixed} (a0) (s : State) (h : Inv k s) : OutInv k (execHeartbeatSend a0 s) := by
  unfold execHeartbeatSend
  repeat' first
    | with_reducible assumption | with_reducible apply keeps_State_atTime | with_reducible apply keeps_sendFrame
    | with_reducible refine Inv_ite ?_ ?_ | with_reducible refine OutInv_next.mpr ?_ | intro _
    | (simp only [↓Inv_mk]; refine Holds_of ?_ ?_ ?_ ?_ ?_ ?_; rfl; rfl; rfl; rfl; exact ⟨rfl, rfl, rfl, rfl, rfl, id⟩)

theorem keeps_dualLease {k : Fixed} (a0) (a1) (s : State) (h : Inv k s) : Inv k (dualLease a0 a1 s) := by
  unfold dualLease
  repeat' first
    | with_reducible assumption | with_reducible apply keeps_raiseIf | with_reducible apply keeps_sendReferee
    | with_reducible apply keeps_setDrive | with_reducible refine Inv_ite ?_ ?_ | intro _

theorem keeps_endorse {k : Fixed} (a0) (s : State) (h : Inv k s) : Inv k (endorse a0 s) := by
  unfold endorse
  repeat' first
    | with_reducible assumption | with_reducible apply keeps_negotiate | with_reducible apply keeps_driveOn
    | with_reducible refine Inv_ite ?_ ?_ | intro _
    | (simp only [↓Inv_mk]; refine Holds_of ?_ ?_ ?_ ?_ ?_ ?_; rfl; rfl; rfl; rfl; exact ⟨rfl, rfl, rfl, rfl, rfl, id⟩)

theorem keeps_aliveBeat {k : Fixed} (a0) (a1) (s : State) (h : Inv k s) : Inv k (aliveBeat a0 a1 s) := by
  unfold aliveBeat
  repeat' first
    | with_reducible assumption | with_reducible apply keeps_setPair | with_reducible apply keeps_endorse
    | with_reducible apply keeps_dualLease | with_reducible refine Inv_ite ?_ ?_ | intro _

theorem keeps_execSiphonHeartbeat {k : Fixed} (a0) (a1) (s : State) (h : Inv k s) :
    OutInv k (execSiphonHeartbeat a0 a1 s) := by
  unfold execSiphonHeartbeat
  repeat' first
    | with_reducible assumption | with_reducible apply keeps_State_atTime | with_reducible apply keeps_takeSiphon
    | with_reducible apply keeps_partnerGone | with_reducible apply keeps_aliveBeat
    | with_reducible refine Inv_ite ?_ ?_ | with_reducible refine OutInv_next.mpr ?_ | intro _
    | (simp only [↓Inv_mk]; refine Holds_of ?_ ?_ ?_ ?_ ?_ ?_; rfl; rfl; rfl; rfl; exact ⟨rfl, rfl, rfl, rfl, rfl, id⟩)

theorem keeps_execPartnerLost {k : Fixed} (a0) (s : State) (h : Inv k s) : OutInv k (execPartnerLost a0 s) := by
  unfold execPartnerLost
  repeat' first
    | with_reducible assumption | with_reducible apply keeps_State_atTime | with_reducible apply keeps_partnerGone
    | with_reducible refine OutInv_next.mpr ?_ | intro _ | split

theorem keeps_forwardComplete {k : Fixed} (s : State) (h : Inv k s) : Inv k (forwardComplete s) := by
  unfold forwardComplete
  repeat' first
    | with_reducible assumption | with_reducible apply keeps_deliver | with_reducible refine Inv_ite ?_ ?_ | intro _
    | (simp only [↓Inv_mk]; refine Holds_of ?_ ?_ ?_ ?_ ?_ ?_; rfl; rfl; rfl; rfl; exact ⟨rfl, rfl, rfl, rfl, rfl, id⟩)

theorem keeps_takeImage {k : Fixed} (a0) (s : State) (h : Inv k s) : Inv k (takeImage a0 s) := by
  unfold takeImage
  repeat' first
    | with_reducible assumption | with_reducible apply keeps_forwardComplete | with_reducible refine Inv_ite ?_ ?_
    | intro _ | (simp only [↓Inv_mk]; refine Holds_of ?_ ?_ ?_ ?_ ?_ ?_; rfl; rfl; rfl; rfl; exact ⟨rfl, rfl, rfl, rfl, rfl, id⟩)

theorem keeps_execSiphonImage {k : Fixed} (a0) (a1) (s : State) (h : Inv k s) : OutInv k (execSiphonImage a0 a1 s) := by
  unfold execSiphonImage
  repeat' first
    | with_reducible assumption | with_reducible apply keeps_takeSiphon | with_reducible apply keeps_State_atTime
    | with_reducible apply keeps_takeImage | with_reducible refine Inv_ite ?_ ?_
    | with_reducible refine OutInv_next.mpr ?_ | intro _
    | (simp only [↓Inv_mk]; refine Holds_of ?_ ?_ ?_ ?_ ?_ ?_; rfl; rfl; rfl; rfl; exact ⟨rfl, rfl, rfl, rfl, rfl, id⟩)

theorem keeps_execForwardImageLate {k : Fixed} (a0) (s : State) (h : Inv k s) : OutInv k (execForwardImageLate a0 s) := by
  unfold execForwardImageLate
  repeat' first
    | with_reducible assumption | with_reducible apply keeps_State_atTime | with_reducible apply keeps_toJoining
    | with_reducible apply keeps_raise | with_reducible refine Inv_ite ?_ ?_
    | with_reducible refine OutInv_next.mpr ?_ | intro _

theorem keeps_execSiphonDelta {k : Fixed} (a0) (a1) (s : State) (h : Inv k s) : OutInv k (execSiphonDelta a0 a1 s) := by
  unfold execSiphonDelta
  repeat' first
    | with_reducible assumption | with_reducible apply keeps_takeSiphon | with_reducible apply keeps_State_atTime
    | with_reducible apply keeps_takeDelta | with_reducible refine Inv_ite ?_ ?_
    | with_reducible refine OutInv_next.mpr ?_ | intro _
    | (simp only [↓Inv_mk]; refine Holds_of ?_ ?_ ?_ ?_ ?_ ?_; rfl; rfl; rfl; rfl; exact ⟨rfl, rfl, rfl, rfl, rfl, id⟩)

theorem keeps_execDeltaDeadline {k : Fixed} (a0) (s : State) (h : Inv k s) : OutInv k (execDeltaDeadline a0 s) := by
  unfold execDeltaDeadline
  repeat' first
    | with_reducible assumption | with_reducible apply keeps_State_atTime | with_reducible apply keeps_takeDelta
    | with_reducible apply keeps_deltaMismatch | with_reducible apply keeps_askResync
    | with_reducible refine Inv_ite ?_ ?_ | with_reducible refine OutInv_next.mpr ?_ | intro _
    | (simp only [↓Inv_mk]; refine Holds_of ?_ ?_ ?_ ?_ ?_ ?_; rfl; rfl; rfl; rfl; exact ⟨rfl, rfl, rfl, rfl, rfl, id⟩)

theorem keeps_deliverSet {k : Fixed} (a0) (a1) (s : State) (h : Inv k s) : Inv k (deliverSet a0 a1 s) := by
  unfold deliverSet
  repeat' first
    | with_reducible assumption | with_reducible apply keeps_State_modLanes
    | (simp only [↓Inv_mk]; refine Holds_of ?_ ?_ ?_ ?_ ?_ ?_; rfl; rfl; rfl; rfl; exact ⟨rfl, rfl, rfl, rfl, rfl, id⟩) | split

theorem keeps_putForce {k : Fixed} (a0) (a1) (s : State) (h : Inv k s) : Inv k (putForce a0 a1 s) := by
  unfold putForce
  repeat' first
    | with_reducible assumption | (simp only [↓Inv_mk]; refine Holds_of ?_ ?_ ?_ ?_ ?_ ?_; rfl; rfl; rfl; rfl; exact ⟨rfl, rfl, rfl, rfl, rfl, id⟩)

theorem keeps_applyMirror {k : Fixed} (a0) (s : State) (h : Inv k s) : Inv k (applyMirror a0 s) := by
  unfold applyMirror
  repeat' first
    | with_reducible assumption | with_reducible apply keeps_putForce | with_reducible apply keeps_deliverSet
    | (simp only [↓Inv_mk]; refine Holds_of ?_ ?_ ?_ ?_ ?_ ?_; rfl; rfl; rfl; rfl; exact ⟨rfl, rfl, rfl, rfl, rfl, id⟩) | split

theorem keeps_mirrorLost {k : Fixed} (s : State) (h : Inv k s) : Inv k (mirrorLost s) := by
  unfold mirrorLost
  repeat' first
    | with_reducible assumption | with_reducible apply keeps_toJoining | with_reducible apply keeps_askResync
    | with_reducible refine Inv_ite ?_ ?_ | intro _
    | (simp only [↓Inv_mk]; refine Holds_of ?_ ?_ ?_ ?_ ?_ ?_; rfl; rfl; rfl; rfl; exact ⟨rfl, rfl, rfl, rfl, rfl, id⟩)

theorem keeps_execSiphonState {k : Fixed} (a0) (a1) (a2) (s : State) (h : Inv k s) :
    OutInv k (execSiphonState a0 a1 a2 s) := by
  unfold execSiphonState
  repeat' first
    | with_reducible assumption | with_reducible apply keeps_takeSiphon | with_reducible apply keeps_State_atTime
    | with_reducible apply keeps_mirrorLost | with_reducible apply keeps_applyMirror
    | with_reducible refine Inv_ite ?_ ?_ | with_reducible refine OutInv_next.mpr ?_ | intro _

theorem keeps_putCopy {k : Fixed} (a0) (a1) (s : State) (h : Inv k s) : Inv k (putCopy a0 a1 s) := by
  unfold putCopy
  exact Inv_ite (fun _ => keeps_pushWrites _ _ h) (fun _ => ⟨h.1, wf_cWrite h.mem, h.3, h.4, h.5, h.6, h.7, h.8⟩)

theorem keeps_execSiphonResync {k : Fixed} (a0) (a1) (s : State) (h : Inv k s) : OutInv k (execSiphonResync a0 a1 s) := by
  unfold execSiphonResync
  repeat' first
    | with_reducible assumption | with_reducible apply keeps_takeSiphon | with_reducible apply keeps_State_atTime
    | with_reducible apply keeps_putCopy | with_reducible apply keeps_resyncFailed
    | with_reducible refine OutInv_next.mpr ?_ | intro _
    | (simp only [↓Inv_mk]; refine Holds_of ?_ ?_ ?_ ?_ ?_ ?_; rfl; rfl; rfl; rfl; exact ⟨rfl, rfl, rfl, rfl, rfl, id⟩) | split

theorem keeps_execResyncComplete {k : Fixed} (a0) (s : State) (h : Inv k s) : OutInv k (execResyncComplete a0 s) := by
  unfold execResyncComplete
  repeat' first
    | with_reducible assumption | with_reducible apply keeps_State_atTime | with_reducible apply keeps_raise
    | with_reducible apply keeps_resyncFailed | with_reducible refine OutInv_next.mpr ?_ | intro _
    | (simp only [↓Inv_mk]; refine Holds_of ?_ ?_ ?_ ?_ ?_ ?_; rfl; rfl; rfl; rfl; exact ⟨rfl, rfl, rfl, rfl, rfl, id⟩) | split

theorem keeps_execResyncTimeout {k : Fixed} (a0) (s : State) (h : Inv k s) : OutInv k (execResyncTimeout a0 s) := by
  unfold execResyncTimeout
  repeat' first
    | with_reducible assumption | with_reducible apply keeps_State_atTime | with_reducible apply keeps_resyncFailed
    | with_reducible refine OutInv_next.mpr ?_ | intro _ | split

theorem keeps_execRenewSend {k : Fixed} (a0) (s : State) (h : Inv k s) : OutInv k (execRenewSend a0 s) := by
  unfold execRenewSend
  repeat' first
    | with_reducible assumption | with_reducible apply keeps_State_atTime | with_reducible apply keeps_sendReferee
    | with_reducible refine Inv_ite ?_ ?_ | with_reducible refine OutInv_next.mpr ?_ | intro _

theorem keeps_execRefereeConfirm {k : Fixed} (a0) (a1) (s : State) (h : Inv k s) :
    OutInv k (execRefereeConfirm a0 a1 s) := by
  unfold execRefereeConfirm
  repeat' first
    | with_reducible assumption | with_reducible apply keeps_State_atTime | with_reducible apply keeps_hearReferee
    | with_reducible refine Inv_ite ?_ ?_ | with_reducible refine OutInv_next.mpr ?_ | intro _
    | (simp only [↓Inv_mk]; refine Holds_of ?_ ?_ ?_ ?_ ?_ ?_; rfl; rfl; rfl; rfl; exact ⟨rfl, rfl, rfl, rfl, rfl, id⟩)

theorem keeps_holdLease {k : Fixed} (a0) (s : State) (h : Inv k s) : Inv k (holdLease a0 s) := by
  unfold holdLease
  repeat' first
    | with_reducible assumption | (simp only [↓Inv_mk]; refine Holds_of ?_ ?_ ?_ ?_ ?_ ?_; rfl; rfl; rfl; rfl; exact ⟨rfl, rfl, rfl, rfl, rfl, id⟩)

theorem keeps_execRefereeGrant {k : Fixed} (a0) (a1) (s : State) (h : Inv k s) : OutInv k (execRefereeGrant a0 a1 s) := by
  unfold execRefereeGrant
  repeat' first
    | with_reducible assumption | with_reducible apply keeps_State_atTime | with_reducible apply keeps_hearReferee
    | with_reducible apply keeps_holdLease | with_reducible apply keeps_takeOver
    | with_reducible apply keeps_negotiate | with_reducible apply keeps_driveOn | with_reducible refine Inv_ite ?_ ?_
    | with_reducible refine OutInv_next.mpr ?_ | intro _
    | (extract_lets +onlyGivenNames x; have hx : Inv k x := ?hx; case' hx => unfold x) | split

theorem keeps_execRefereeRevoke {k : Fixed} (a0) (a1) (s : State) (h : Inv k s) : OutInv k (execRefereeRevoke a0 a1 s) := by
  unfold execRefereeRevoke
  repeat' first
    | with_reducible assumption | with_reducible apply keeps_State_atTime | with_reducible apply keeps_hearReferee
    | with_reducible apply keeps_loseLease | with_reducible refine Inv_ite ?_ ?_
    | with_reducible refine OutInv_next.mpr ?_ | intro _

theorem keeps_execRefereeRefuse {k : Fixed} (a0) (a1) (s : State) (h : Inv k s) : OutInv k (execRefereeRefuse a0 a1 s) := by
  unfold execRefereeRefuse
  repeat' first
    | with_reducible assumption | with_reducible apply keeps_State_atTime | with_reducible apply keeps_hearReferee
    | with_reducible apply keeps_raise | with_reducible refine Inv_ite ?_ ?_
    | with_reducible refine OutInv_next.mpr ?_ | intro _
    | (simp only [↓Inv_mk]; refine Holds_of ?_ ?_ ?_ ?_ ?_ ?_; rfl; rfl; rfl; rfl; exact ⟨rfl, rfl, rfl, rfl, rfl, id⟩)

theorem keeps_execLeaseExpiry {k : Fixed} (a0) (s : State) (h : Inv k s) : OutInv k (execLeaseExpiry a0 s) := by
  unfold execLeaseExpiry
  repeat' first
    | with_reducible assumption | with_reducible apply keeps_State_atTime | with_reducible apply keeps_raiseIf
    | with_reducible apply keeps_loseLease | with_reducible refine Inv_ite ?_ ?_
    | with_reducible refine OutInv_next.mpr ?_ | intro _
    | (simp only [↓Inv_mk]; refine Holds_of ?_ ?_ ?_ ?_ ?_ ?_; rfl; rfl; rfl; rfl; exact ⟨rfl, rfl, rfl, rfl, rfl, id⟩)

theorem keeps_execRefereeSilent {k : Fixed} (a0) (s : State) (h : Inv k s) : OutInv k (execRefereeSilent a0 s) := by
  unfold execRefereeSilent
  repeat' first
    | with_reducible assumption | with_reducible apply keeps_State_atTime | with_reducible apply keeps_raise
    | with_reducible apply keeps_driveOn | with_reducible refine Inv_ite ?_ ?_
    | with_reducible refine OutInv_next.mpr ?_ | intro _
    | (simp only [↓Inv_mk]; refine Holds_of ?_ ?_ ?_ ?_ ?_ ?_; rfl; rfl; rfl; rfl; exact ⟨rfl, rfl, rfl, rfl, rfl, id⟩)

theorem keeps_execHandoverSend {k : Fixed} (a0) (s : State) (h : Inv k s) : OutInv k (execHandoverSend a0 s) := by
  unfold execHandoverSend
  repeat' first
    | with_reducible assumption | with_reducible apply keeps_State_atTime | with_reducible apply keeps_State_tick
    | with_reducible apply keeps_State_emit | with_reducible refine OutInv_next.mpr ?_ | intro _ | split

theorem keeps_execHandoverDrive {k : Fixed} (a0) (s : State) (h : Inv k s) : OutInv k (execHandoverDrive a0 s) := by
  unfold execHandoverDrive
  repeat' first
    | with_reducible assumption | with_reducible apply keeps_State_atTime | with_reducible apply keeps_failHandover
    | with_reducible apply keeps_setDrive | with_reducible refine OutInv_next.mpr ?_ | intro _ | split

theorem keeps_execReversion {k : Fixed} (a0) (s : State) (h : Inv k s) : OutInv k (execReversion a0 s) := by
  unfold execReversion
  repeat' first
    | with_reducible assumption | with_reducible apply keeps_State_atTime | with_reducible apply keeps_proposeHandover
    | with_reducible apply keeps_raise | with_reducible refine OutInv_next.mpr ?_ | intro _ | split

theorem keeps_exchangeFailed {k : Fixed} (a0) (s : State) (h : Inv k s) : Inv k (exchangeFailed a0 s) := by
  unfold exchangeFailed
  repeat' first
    | with_reducible assumption | with_reducible apply keeps_raise | with_reducible apply keeps_State_modLanes
    | with_reducible apply keeps_sendControl | with_reducible apply keeps_setResult
    | with_reducible refine Inv_ite ?_ ?_ | intro _
    | (simp only [↓Inv_mk]; refine Holds_of ?_ ?_ ?_ ?_ ?_ ?_; rfl; rfl; rfl; rfl; exact ⟨rfl, rfl, rfl, rfl, rfl, id⟩)

theorem keeps_exchangeDone {k : Fixed} (a0) (s : State) (h : Inv k s) : Inv k (exchangeDone a0 s) := by
  unfold exchangeDone
  repeat' first
    | with_reducible assumption | with_reducible apply keeps_selectImageSlot | with_reducible apply keeps_exchangeTo
    | with_reducible apply keeps_setResult | with_reducible apply keeps_beginTrial | with_reducible apply keeps_raise
    | (simp only [↓Inv_mk]; refine Holds_of ?_ ?_ ?_ ?_ ?_ ?_; rfl; rfl; rfl; rfl; exact ⟨rfl, rfl, rfl, rfl, rfl, id⟩)

theorem keeps_joinNew {k : Fixed} (a0) (s : State) (h : Inv k s) : Inv k (joinNew a0 s) := by
  unfold joinNew
  refine keeps_askResync _ (keeps_takeDigest _ (keeps_applyBindings _ _ (keeps_installImage _ _ ?_)))
  have h1 : Inv k (s.modLanes (fun l => { l with native := l.nativeNew, nativeNew := [], digest := none })) :=
    keeps_State_modLanes _ _ h
  exact ⟨h1.1, wf_initSignals (wf_initSegments _), h1.3, h1.4, h1.5, h1.6, h1.7,
      ⟨h1.8.1, h1.8.2, h1.8.3, h1.8.4, h1.8.5, h1.8.6⟩⟩

theorem keeps_exchangeVote {k : Fixed} (a0) (s : State) (h : Inv k s) : Inv k (exchangeVote a0 s) := by
  unfold exchangeVote
  repeat' first
    | with_reducible assumption | with_reducible apply keeps_dissentOut | with_reducible apply keeps_joinNew
    | with_reducible apply keeps_exchangeDone | with_reducible apply keeps_exchangeFailed
    | with_reducible apply keeps_raise | with_reducible refine Inv_ite ?_ ?_ | with_reducible apply keeps_foldl
    | intro _ | (simp only [↓Inv_mk]; refine Holds_of ?_ ?_ ?_ ?_ ?_ ?_; rfl; rfl; rfl; rfl; exact ⟨rfl, rfl, rfl, rfl, rfl, id⟩)

theorem keeps_exchangeTranslated {k : Fixed} (a0) (a1) (s : State) (h : Inv k s) : Inv k (exchangeTranslated a0 a1 s) := by
  unfold exchangeTranslated
  repeat' first
    | with_reducible assumption | with_reducible apply keeps_State_modLane | with_reducible apply keeps_exchangeVote
    | with_reducible apply keeps_exchangeFailed | with_reducible apply keeps_rejectImage | intro _
    | extract_lets +onlyGivenNames _ | split

theorem keeps_startTranslated {k : Fixed} (a0) (a1) (s : State) (h : Inv k s) : Inv k (startTranslated a0 a1 s) := by
  unfold startTranslated
  repeat' first
    | with_reducible assumption | with_reducible apply keeps_State_modLane | with_reducible apply keeps_rejectImage
    | intro _ | split

theorem keeps_reintTranslated {k : Fixed} (a0) (a1) (s : State) (h : Inv k s) : Inv k (reintTranslated a0 a1 s) := by
  unfold reintTranslated
  repeat' first
    | with_reducible assumption | with_reducible apply keeps_State_modLane | with_reducible apply keeps_reintFailed
    | with_reducible refine Inv_ite ?_ ?_ | intro _

theorem keeps_execTranslationComplete {k : Fixed} (a0) (a1) (a2) (s : State) (h : Inv k s) :
    OutInv k (execTranslationComplete a0 a1 a2 s) := by
  unfold execTranslationComplete
  repeat' first
    | with_reducible assumption | with_reducible apply keeps_State_atTime | with_reducible apply keeps_startTranslated
    | with_reducible apply keeps_warmMark | with_reducible apply keeps_State_modLane
    | with_reducible apply keeps_reintTranslated | with_reducible apply keeps_exchangeTranslated
    | with_reducible refine Inv_ite ?_ ?_ | with_reducible refine OutInv_next.mpr ?_ | intro _

theorem keeps_beginShadow {k : Fixed} (s : State) (h : Inv k s) : Inv k (beginShadow s) := by
  unfold beginShadow
  repeat' first
    | with_reducible assumption | with_reducible apply keeps_dropAll | with_reducible apply keeps_setPair
    | with_reducible apply keeps_sendControl | with_reducible refine Inv_ite ?_ ?_ | intro _
    | (simp only [↓Inv_mk]; refine Holds_of ?_ ?_ ?_ ?_ ?_ ?_; rfl; rfl; rfl; rfl; exact ⟨rfl, rfl, rfl, rfl, rfl, id⟩)

theorem keeps_shadowBoundary {k : Fixed} (a0) (s : State) (h : Inv k s) : Inv k (shadowBoundary a0 s) := by
  unfold shadowBoundary
  repeat' first
    | with_reducible assumption | with_reducible apply keeps_carryTo | with_reducible apply keeps_raise
    | with_reducible apply keeps_setPair | with_reducible apply keeps_exchangeFailed | intro _
    | (simp only [↓Inv_mk]; refine Holds_of ?_ ?_ ?_ ?_ ?_ ?_; rfl; rfl; rfl; rfl; exact ⟨rfl, rfl, rfl, rfl, rfl, id⟩) | split

theorem keeps_exchangeDropped {k : Fixed} (s : State) (h : Inv k s) : Inv k (exchangeDropped s) := by
  unfold exchangeDropped
  repeat' first
    | with_reducible assumption | with_reducible apply keeps_setResult | with_reducible refine Inv_ite ?_ ?_ | intro _
    | (simp only [↓Inv_mk]; refine Holds_of ?_ ?_ ?_ ?_ ?_ ?_; rfl; rfl; rfl; rfl; exact ⟨rfl, rfl, rfl, rfl, rfl, id⟩)

theorem keeps_abortExchange {k : Fixed} (a0) (s : State) (h : Inv k s) : Inv k (abortExchange a0 s) := by
  unfold abortExchange
  repeat' first
    | with_reducible assumption | with_reducible apply keeps_sendControl | with_reducible apply keeps_toJoining
    | with_reducible apply keeps_raise | with_reducible apply keeps_State_modLanes
    | with_reducible apply keeps_exchangeDropped | with_reducible refine Inv_ite ?_ ?_ | intro _
    | (simp only [↓Inv_mk]; refine Holds_of ?_ ?_ ?_ ?_ ?_ ?_; rfl; rfl; rfl; rfl; exact ⟨rfl, rfl, rfl, rfl, rfl, id⟩)

theorem keeps_execShadowPeriodExpiry {k : Fixed} (a0) (s : State) (h : Inv k s) :
    OutInv k (execShadowPeriodExpiry a0 s) := by
  unfold execShadowPeriodExpiry
  repeat' first
    | with_reducible assumption | with_reducible apply keeps_State_atTime | with_reducible apply keeps_proposeHandover
    | with_reducible refine OutInv_next.mpr ?_ | intro _ | split

theorem keeps_takeProposal {k : Fixed} (a0) (s : State) (h : Inv k s) : Inv k (takeProposal a0 s) := by
  unfold takeProposal
  repeat' first
    | with_reducible assumption | with_reducible apply keeps_sendControl | with_reducible refine Inv_ite ?_ ?_
    | intro _ | (simp only [↓Inv_mk]; refine Holds_of ?_ ?_ ?_ ?_ ?_ ?_; rfl; rfl; rfl; rfl; exact ⟨rfl, rfl, rfl, rfl, rfl, id⟩)

theorem keeps_beginResync {k : Fixed} (a0) (a1) (s : State) (h : Inv k s) : Inv k (beginResync a0 a1 s) := by
  unfold beginResync
  repeat' first
    | with_reducible assumption | with_reducible apply keeps_State_modLanes | with_reducible apply keeps_raise
    | (simp only [↓Inv_mk]; refine Holds_of ?_ ?_ ?_ ?_ ?_ ?_; rfl; rfl; rfl; rfl; exact ⟨rfl, rfl, rfl, rfl, rfl, id⟩)

theorem keeps_takeControl {k : Fixed} (a0) (a1) (s : State) (h : Inv k s) : Inv k (takeControl a0 a1 s) := by
  unfold takeControl
  repeat' first
    | with_reducible assumption | with_reducible apply keeps_sendControl | with_reducible apply keeps_takeProposal
    | with_reducible apply keeps_beginResync | with_reducible apply keeps_startResync
    | with_reducible apply keeps_beginShadow | with_reducible apply keeps_abortExchange | intro _
    | (simp only [↓Inv_mk]; refine Holds_of ?_ ?_ ?_ ?_ ?_ ?_; rfl; rfl; rfl; rfl; exact ⟨rfl, rfl, rfl, rfl, rfl, id⟩) | split

theorem keeps_execSiphonControl {k : Fixed} (a0) (a1) (a2) (s : State) (h : Inv k s) :
    OutInv k (execSiphonControl a0 a1 a2 s) := by
  unfold execSiphonControl
  repeat' first
    | with_reducible assumption | with_reducible apply keeps_takeSiphon | with_reducible apply keeps_State_atTime
    | with_reducible apply keeps_takeControl | with_reducible refine Inv_ite ?_ ?_
    | with_reducible refine OutInv_next.mpr ?_ | intro _

theorem keeps_handoverIn {k : Fixed} (a0) (s : State) (h : Inv k s) : Inv k (handoverIn a0 s) := by
  unfold handoverIn
  repeat' first
    | with_reducible assumption | with_reducible apply keeps_activate | with_reducible apply keeps_raise
    | (simp only [↓Inv_mk]; refine Holds_of ?_ ?_ ?_ ?_ ?_ ?_; rfl; rfl; rfl; rfl; exact ⟨rfl, rfl, rfl, rfl, rfl, id⟩)

theorem keeps_handoverOut {k : Fixed} (a0) (s : State) (h : Inv k s) : Inv k (handoverOut a0 s) := by
  unfold handoverOut
  repeat' first
    | with_reducible assumption | with_reducible apply keeps_setDrive | with_reducible apply keeps_raise
    | with_reducible apply keeps_dropAll | with_reducible apply keeps_enterMode | with_reducible apply keeps_setPair
    | with_reducible apply keeps_askResync | with_reducible apply keeps_setResult
    | with_reducible apply keeps_beginTrial | with_reducible apply keeps_selectImageSlot
    | with_reducible refine Inv_ite ?_ ?_ | intro _
    | (simp only [↓Inv_mk]; refine Holds_of ?_ ?_ ?_ ?_ ?_ ?_; rfl; rfl; rfl; rfl; exact ⟨rfl, rfl, rfl, rfl, rfl, id⟩)

theorem keeps_execHandoverDone {k : Fixed} (a0) (s : State) (h : Inv k s) : OutInv k (execHandoverDone a0 s) := by
  unfold execHandoverDone
  repeat' first
    | with_reducible assumption | with_reducible apply keeps_State_atTime | with_reducible apply keeps_handoverIn
    | with_reducible apply keeps_failHandover | with_reducible apply keeps_handoverOut
    | with_reducible refine OutInv_next.mpr ?_ | intro _ | split

theorem keeps_latchObjects {k : Fixed} (s : State) (h : Inv k s) : Inv k (latchObjects s) := by
  unfold latchObjects
  repeat' first
    | with_reducible assumption | (simp only [↓Inv_mk]; refine Holds_of ?_ ?_ ?_ ?_ ?_ ?_; rfl; rfl; rfl; rfl; exact ⟨rfl, rfl, rfl, rfl, rfl, id⟩)

theorem keeps_takeOffsets {k : Fixed} (s : State) (h : Inv k s) : Inv k (takeOffsets s) := by
  unfold takeOffsets
  repeat' first
    | with_reducible assumption | with_reducible apply keeps_State_modLanes
    | (simp only [↓Inv_mk]; refine Holds_of ?_ ?_ ?_ ?_ ?_ ?_; rfl; rfl; rfl; rfl; exact ⟨rfl, rfl, rfl, rfl, rfl, id⟩)

theorem keeps_restartTasks {k : Fixed} (a0) (s : State) (h : Inv k s) : Inv k (restartTasks a0 s) := by
  unfold restartTasks
  repeat' first
    | with_reducible assumption | with_reducible apply keeps_State_modTask | with_reducible refine Inv_ite ?_ ?_
    | with_reducible apply keeps_foldl | intro _

theorem keeps_formScrubs {k : Fixed} (a0) (s : State) (h : Inv k s) : Inv k (formScrubs a0 s) := by
  unfold formScrubs
  repeat' first
    | with_reducible assumption | with_reducible apply keeps_State_modLanes | with_reducible refine Inv_ite ?_ ?_
    | intro _

theorem keeps_stopOrders {k : Fixed} (a0) (s : State) (h : Inv k s) : Inv k (stopOrders a0 s) := by
  unfold stopOrders
  repeat' first
    | with_reducible assumption | with_reducible apply keeps_commitAll | with_reducible refine Inv_ite ?_ ?_ | intro _

theorem keeps_answerOrders {k : Fixed} (a0) (s : State) (h : Inv k s) : Inv k (answerOrders a0 s) := by
  unfold answerOrders
  repeat' first
    | with_reducible assumption | with_reducible apply keeps_respond | with_reducible apply keeps_foldl | intro _
    | (simp only [↓Inv_mk]; refine Holds_of ?_ ?_ ?_ ?_ ?_ ?_; rfl; rfl; rfl; rfl; exact ⟨rfl, rfl, rfl, rfl, rfl, id⟩)

theorem keeps_promoteForces {k : Fixed} (a0) (s : State) (h : Inv k s) : Inv k (promoteForces a0 s) := by
  unfold promoteForces
  repeat' first
    | with_reducible assumption | (simp only [↓Inv_mk]; refine Holds_of ?_ ?_ ?_ ?_ ?_ ?_; rfl; rfl; rfl; rfl; exact ⟨rfl, rfl, rfl, rfl, rfl, id⟩)

theorem keeps_takeCodeMap {k : Fixed} (a0) (s : State) (h : Inv k s) : Inv k (takeCodeMap a0 s) := by
  unfold takeCodeMap
  repeat' first
    | with_reducible assumption | with_reducible apply keeps_raise | intro _
    | (simp only [↓Inv_mk]; refine Holds_of ?_ ?_ ?_ ?_ ?_ ?_; rfl; rfl; rfl; rfl; exact ⟨rfl, rfl, rfl, rfl, rfl, id⟩) | split

theorem keeps_lostLease {k : Fixed} (s : State) (h : Inv k s) : Inv k (lostLease s) := by
  unfold lostLease
  repeat' first
    | with_reducible assumption | with_reducible apply keeps_setPair | with_reducible apply keeps_dropAll
    | with_reducible apply keeps_enterMode | with_reducible apply keeps_askResync
    | with_reducible refine Inv_ite ?_ ?_ | intro _
    | (simp only [↓Inv_mk]; refine Holds_of ?_ ?_ ?_ ?_ ?_ ?_; rfl; rfl; rfl; rfl; exact ⟨rfl, rfl, rfl, rfl, rfl, id⟩)

theorem keeps_joinedStandby {k : Fixed} (a0) (s : State) (h : Inv k s) : Inv k (joinedStandby a0 s) := by
  unfold joinedStandby
  repeat' first
    | with_reducible assumption | with_reducible apply keeps_passTrial | with_reducible apply keeps_setPair
    | with_reducible refine Inv_ite ?_ ?_ | intro _

theorem keeps_pairBoundary {k : Fixed} (a0) (s : State) (h : Inv k s) : Inv k (pairBoundary a0 s) := by
  unfold pairBoundary
  repeat' first
    | with_reducible assumption | with_reducible apply keeps_shadowBoundary
    | with_reducible apply keeps_resyncBoundary | with_reducible apply keeps_joinedStandby
    | with_reducible apply keeps_lostLease | with_reducible refine Inv_ite ?_ ?_ | intro _
    | (simp only [↓Inv_mk]; refine Holds_of ?_ ?_ ?_ ?_ ?_ ?_; rfl; rfl; rfl; rfl; exact ⟨rfl, rfl, rfl, rfl, rfl, id⟩)

theorem keeps_exchangeDeadline {k : Fixed} (s : State) (h : Inv k s) : Inv k (exchangeDeadline s) := by
  unfold exchangeDeadline
  repeat' first | with_reducible assumption | with_reducible apply keeps_exchangeFailed | intro _ | split

theorem keeps_openCycle {k : Fixed} (a0) (s : State) (h : Inv k s) : Inv k (openCycle a0 s) := by
  unfold openCycle
  exact Holds_of (s := s) rfl rfl rfl rfl ⟨rfl, rfl, rfl, rfl, rfl, groupsOk_map (fun _ hq => hq)⟩ h

theorem keeps_idleFrames {k : Fixed} (a0) (s : State) (h : Inv k s) : Inv k (idleFrames a0 s) := by
  unfold idleFrames
  repeat' first
    | with_reducible assumption | with_reducible apply keeps_sendRequest | with_reducible apply keeps_sendOutputs
    | with_reducible refine Inv_ite ?_ ?_ | intro _

theorem keeps_boundary {k : Fixed} (a0) (s : State) (h : Inv k s) : Inv k (boundary a0 s) := by
  unfold boundary
  repeat' first
    | with_reducible assumption | with_reducible apply keeps_latchAll | with_reducible apply keeps_openCycle
    | with_reducible apply keeps_takeOffsets | with_reducible apply keeps_utcBoundary
    | with_reducible apply keeps_beaconBoundary | with_reducible apply keeps_expireDups
    | with_reducible apply keeps_legacyBoundary | with_reducible apply keeps_busBoundary
    | with_reducible apply keeps_landOld | with_reducible apply keeps_laneBoundary
    | with_reducible apply keeps_restartTasks | with_reducible apply keeps_promoteForces
    | with_reducible apply keeps_takeCodeMap | with_reducible apply keeps_answerOrders
    | with_reducible apply keeps_stopOrders | with_reducible apply keeps_formScrubs
    | with_reducible apply keeps_exchangeDeadline | with_reducible apply keeps_pairBoundary
    | with_reducible apply keeps_idleFrames | with_reducible apply keeps_checkInhibit
    | with_reducible apply keeps_timeStep | with_reducible apply keeps_latchObjects | with_reducible apply keeps_foldl
    | intro _

theorem keeps_execCycleBoundary {k : Fixed} (a0) (s : State) (h : Inv k s) : OutInv k (execCycleBoundary a0 s) := by
  unfold execCycleBoundary
  repeat' first
    | with_reducible assumption | with_reducible apply keeps_State_atTime | with_reducible apply keeps_boundary
    | with_reducible refine Inv_ite ?_ ?_ | with_reducible refine OutInv_next.mpr ?_ | intro _

end Sys2Proof.Machine
end

