-- ==== Sys2Proof/Laws/KeepsF.lean ====
section
/-! SUPPORT. The invariant of Laws/Kept.lean is kept by: the host interface. -/

set_option Elab.async false

set_option linter.all false

namespace Sys2Proof.Machine

theorem keeps_closeSession {k : Fixed} (a0) (a1) (s : State) (h : Inv k s) : Inv k (closeSession a0 a1 s) := by
  unfold closeSession
  repeat' first
    | with_reducible assumption | with_reducible apply keeps_raiseFrom | with_reducible apply keeps_State_modSession

theorem keeps_authFailed {k : Fixed} (a0) (a1) (s : State) (h : Inv k s) : Inv k (authFailed a0 a1 s) := by
  unfold authFailed
  repeat' first
    | with_reducible assumption | with_reducible apply keeps_raiseOncePerSec
    | with_reducible apply keeps_State_modSession | with_reducible apply keeps_closeSession
    | with_reducible refine Inv_ite ?_ ?_ | intro _
    | (simp only [↓Inv_mk]; refine Holds_of ?_ ?_ ?_ ?_ ?_ ?_; rfl; rfl; rfl; rfl; exact ⟨rfl, rfl, rfl, rfl, rfl, id⟩)

theorem keeps_rateLimited {k : Fixed} (a0) (s : State) (h : Inv k s) : Inv k (rateLimited a0 s) := by
  unfold rateLimited
  repeat' first
    | with_reducible assumption | with_reducible apply keeps_raiseOncePerSec
    | (simp only [↓Inv_mk]; refine Holds_of ?_ ?_ ?_ ?_ ?_ ?_; rfl; rfl; rfl; rfl; exact ⟨rfl, rfl, rfl, rfl, rfl, id⟩)

theorem keeps_sessionToken {k : Fixed} (a0) (s : State) (h : Inv k s) : Inv k (sessionToken a0 s).1 := by
  unfold sessionToken
  repeat' first
    | with_reducible assumption | with_reducible apply keeps_State_modSession | with_reducible apply keeps_rateLimited
    | with_reducible refine Inv_fst_ite ?_ ?_ | intro _

theorem keeps_zeroToken {k : Fixed} (s : State) (h : Inv k s) : Inv k (zeroToken s).1 := by
  unfold zeroToken
  repeat' first
    | with_reducible assumption | with_reducible apply keeps_rateLimited | with_reducible refine Inv_fst_ite ?_ ?_
    | intro _ | (simp only [↓Inv_mk]; refine Holds_of ?_ ?_ ?_ ?_ ?_ ?_; rfl; rfl; rfl; rfl; exact ⟨rfl, rfl, rfl, rfl, rfl, id⟩)

theorem keeps_openToken {k : Fixed} (s : State) (h : Inv k s) : Inv k (openToken s).1 := by
  unfold openToken
  repeat' first
    | with_reducible assumption | with_reducible apply keeps_rateLimited | with_reducible refine Inv_fst_ite ?_ ?_
    | intro _ | (simp only [↓Inv_mk]; refine Holds_of ?_ ?_ ?_ ?_ ?_ ?_; rfl; rfl; rfl; rfl; exact ⟨rfl, rfl, rfl, rfl, rfl, id⟩)

theorem keeps_admitZero {k : Fixed} (a0) (a1) (a2) (s : State) (h : Inv k s) : Inv k (admitZero a0 a1 a2 s).1 := by
  unfold admitZero
  repeat' first
    | with_reducible assumption | with_reducible apply keeps_zeroToken | with_reducible apply keeps_respond
    | with_reducible refine Inv_fst_ite ?_ ?_ | intro _

theorem keeps_admitSession {k : Fixed} (a0) (a1) (a2) (a3) (a4) (a5) (s : State) (h : Inv k s) :
    Inv k (admitSession a0 a1 a2 a3 a4 a5 s).1 := by
  unfold admitSession
  repeat' first
    | with_reducible assumption | with_reducible apply keeps_respond | with_reducible apply keeps_authFailed
    | with_reducible apply keeps_sessionToken | with_reducible apply keeps_State_emitAll
    | with_reducible apply keeps_State_modSession | with_reducible refine Inv_fst_ite ?_ ?_ | intro _ | split

theorem keeps_State_setXfer {k : Fixed} (s : State) (a1) (a2) (h : Inv k s) : Inv k (State.setXfer s a1 a2) := by
  unfold State.setXfer
  repeat' first
    | with_reducible assumption | with_reducible refine Inv_ite ?_ ?_ | intro _
    | (simp only [↓Inv_mk]; refine Holds_of ?_ ?_ ?_ ?_ ?_ ?_; rfl; rfl; rfl; rfl; exact ⟨rfl, rfl, rfl, rfl, rfl, id⟩)

theorem keeps_admitSdo {k : Fixed} (a0) (a1) (a2) (s : State) (h : Inv k s) : Inv k (admitSdo a0 a1 a2 s).1 := by
  unfold admitSdo
  repeat' first
    | with_reducible assumption | with_reducible apply keeps_respond | with_reducible refine Inv_fst_ite ?_ ?_
    | intro _

theorem keeps_admit {k : Fixed} (a0) (a1) (s : State) (h : Inv k s) : Inv k (admission a0 a1 s).1 := by
  unfold admission
  repeat' first
    | with_reducible assumption | with_reducible apply keeps_admitZero | with_reducible apply keeps_admitSession
    | with_reducible apply keeps_admitSdo | intro _ | split

theorem keeps_serve {k : Fixed} (v f act) (s : State) (h : Inv k s) (hf : ∀ c s, Inv k s → Inv k (act c s)) :
    Inv k (serve v f act s) := by
  unfold serve
  repeat' first
    | with_reducible assumption | with_reducible apply hf | with_reducible apply keeps_admit
    | with_reducible refine Inv_of_fst (by assumption) ?_ | split

theorem keeps_rollbackRefused {k : Fixed} (a0) (a1) (s : State) (h : Inv k s) : Inv k (rollbackRefused a0 a1 s) := by
  unfold rollbackRefused
  repeat' first
    | with_reducible assumption | with_reducible apply keeps_raise
    | (simp only [↓Inv_mk]; refine Holds_of ?_ ?_ ?_ ?_ ?_ ?_; rfl; rfl; rfl; rfl; exact ⟨rfl, rfl, rfl, rfl, rfl, id⟩)

theorem keeps_refuseMode {k : Fixed} (a0) (a1) (a2) (s : State) (h : Inv k s) : Inv k (refuseMode a0 a1 a2 s) := by
  unfold refuseMode
  repeat' first
    | with_reducible assumption | with_reducible apply keeps_setResult | with_reducible apply keeps_raiseFrom
    | with_reducible refine Inv_ite ?_ ?_ | intro _

theorem keeps_pendCommand {k : Fixed} (a0) (a1) (s : State) (h : Inv k s) : Inv k (pendCommand a0 a1 s) := by
  unfold pendCommand
  repeat' first
    | with_reducible assumption | with_reducible apply keeps_setResult
    | (simp only [↓Inv_mk]; refine Holds_of ?_ ?_ ?_ ?_ ?_ ?_; rfl; rfl; rfl; rfl; exact ⟨rfl, rfl, rfl, rfl, rfl, id⟩)

theorem keeps_acceptStop {k : Fixed} (a0) (s : State) (h : Inv k s) : Inv k (acceptStop a0 s) := by
  unfold acceptStop
  repeat' first
    | with_reducible assumption | with_reducible apply keeps_pendCommand | with_reducible apply keeps_proposeHandover
    | intro _ | (simp only [↓Inv_mk]; refine Holds_of ?_ ?_ ?_ ?_ ?_ ?_; rfl; rfl; rfl; rfl; exact ⟨rfl, rfl, rfl, rfl, rfl, id⟩) | split

theorem keeps_acceptExchange {k : Fixed} (a0) (s : State) (h : Inv k s) : Inv k (acceptExchange a0 s) := by
  unfold acceptExchange
  repeat' first
    | with_reducible assumption | with_reducible apply keeps_pendCommand | with_reducible apply keeps_sendControl
    | with_reducible apply keeps_State_modLanes | with_reducible refine Inv_ite ?_ ?_ | intro _
    | (simp only [↓Inv_mk]; refine Holds_of ?_ ?_ ?_ ?_ ?_ ?_; rfl; rfl; rfl; rfl; exact ⟨rfl, rfl, rfl, rfl, rfl, id⟩)

theorem keeps_acceptCommand {k : Fixed} (a0) (a1) (s : State) (h : Inv k s) : Inv k (acceptCommand a0 a1 s) := by
  unfold acceptCommand
  repeat' first
    | with_reducible assumption | with_reducible apply keeps_pendCommand | with_reducible apply keeps_acceptStop
    | with_reducible apply keeps_setResult | with_reducible apply keeps_coldRestart
    | with_reducible apply keeps_acceptExchange
    | (simp only [↓Inv_mk]; refine Holds_of ?_ ?_ ?_ ?_ ?_ ?_; rfl; rfl; rfl; rfl; exact ⟨rfl, rfl, rfl, rfl, rfl, id⟩) | split

theorem keeps_judgeMode {k : Fixed} (a0) (a1) (s : State) (h : Inv k s) : Inv k (judgeMode a0 a1 s).2 := by
  unfold judgeMode
  repeat' first
    | with_reducible assumption | with_reducible apply keeps_rollbackRefused | with_reducible apply keeps_refuseMode
    | with_reducible apply keeps_acceptCommand | with_reducible refine Inv_snd_ite ?_ ?_ | intro _ | split

theorem keeps_queueWrite {k : Fixed} (a0) (a1) (a2) (a3) (a4) (s : State) (h : Inv k s) :
    Inv k (queueWrite a0 a1 a2 a3 a4 s) := by
  unfold queueWrite
  repeat' first
    | with_reducible assumption | (simp only [↓Inv_mk]; refine Holds_of ?_ ?_ ?_ ?_ ?_ ?_; rfl; rfl; rfl; rfl; exact ⟨rfl, rfl, rfl, rfl, rfl, id⟩)

theorem keeps_opMode {k : Fixed} (a0) (a1) (a2) (a3) (s : State) (h : Inv k s) : Inv k (opMode a0 a1 a2 a3 s) := by
  unfold opMode
  repeat' first
    | with_reducible assumption | with_reducible apply keeps_queueWrite | with_reducible apply keeps_respond
    | with_reducible apply keeps_refuseMode | with_reducible refine Inv_ite ?_ ?_ | intro _

theorem keeps_modeWrite {k : Fixed} (a0) (a1) (a2) (s : State) (h : Inv k s) : Inv k (modeWrite a0 a1 a2 s) := by
  unfold modeWrite
  repeat' first
    | with_reducible assumption | with_reducible apply keeps_serve | with_reducible apply keeps_opMode
    | with_reducible apply keeps_State_atTime | intro _

theorem keeps_execCmdRun {k : Fixed} (a0) (a1) (s : State) (h : Inv k s) : OutInv k (execCmdRun a0 a1 s) := by
  unfold execCmdRun
  repeat' first
    | with_reducible assumption | with_reducible apply keeps_modeWrite | with_reducible refine OutInv_next.mpr ?_

theorem keeps_execCmdStop {k : Fixed} (a0) (a1) (s : State) (h : Inv k s) : OutInv k (execCmdStop a0 a1 s) := by
  unfold execCmdStop
  repeat' first
    | with_reducible assumption | with_reducible apply keeps_modeWrite | with_reducible refine OutInv_next.mpr ?_

theorem keeps_execCmdHold {k : Fixed} (a0) (a1) (s : State) (h : Inv k s) : OutInv k (execCmdHold a0 a1 s) := by
  unfold execCmdHold
  repeat' first
    | with_reducible assumption | with_reducible apply keeps_modeWrite | with_reducible refine OutInv_next.mpr ?_

theorem keeps_execCmdResume {k : Fixed} (a0) (a1) (s : State) (h : Inv k s) : OutInv k (execCmdResume a0 a1 s) := by
  unfold execCmdResume
  repeat' first
    | with_reducible assumption | with_reducible apply keeps_modeWrite | with_reducible refine OutInv_next.mpr ?_

theorem keeps_execCmdRestart {k : Fixed} (a0) (a1) (s : State) (h : Inv k s) : OutInv k (execCmdRestart a0 a1 s) := by
  unfold execCmdRestart
  repeat' first
    | with_reducible assumption | with_reducible apply keeps_modeWrite | with_reducible refine OutInv_next.mpr ?_

theorem keeps_execCmdExchange {k : Fixed} (a0) (a1) (s : State) (h : Inv k s) : OutInv k (execCmdExchange a0 a1 s) := by
  unfold execCmdExchange
  repeat' first
    | with_reducible assumption | with_reducible apply keeps_modeWrite | with_reducible refine OutInv_next.mpr ?_

theorem keeps_restartAll {k : Fixed} (s : State) (h : Inv k s) : Inv k (restartAll s) := by
  unfold restartAll
  repeat' first
    | with_reducible assumption | (simp only [↓Inv_mk]; refine Holds_of ?_ ?_ ?_ ?_ ?_ ?_; rfl; rfl; rfl; rfl; exact ⟨by first | rfl | simp [modAt], by first | rfl | simp [modAt], by first | rfl | simp [modAt], by first | rfl | simp [modAt],
      by first | rfl | simp [modAt], id⟩)

theorem keeps_intoRun {k : Fixed} (a0) (s : State) (h : Inv k s) : Inv k (intoRun a0 s) := by
  unfold intoRun
  repeat' first
    | with_reducible assumption | with_reducible apply keeps_enterMode | with_reducible apply keeps_canRestart
    | with_reducible apply keeps_restartTasks | with_reducible apply keeps_restartAll
    | with_reducible apply keeps_passTrial | with_reducible apply keeps_nmtStart | with_reducible refine Inv_ite ?_ ?_
    | intro _

theorem keeps_runEffect {k : Fixed} (a0) (s : State) (h : Inv k s) : Inv k (runEffect a0 s) := by
  unfold runEffect
  repeat' first
    | with_reducible assumption | with_reducible apply keeps_enterMode | with_reducible apply keeps_startComplete
    | with_reducible apply keeps_intoRun | with_reducible refine Inv_ite ?_ ?_ | intro _

theorem keeps_stopEffect {k : Fixed} (s : State) (h : Inv k s) : Inv k (stopEffect s) := by
  unfold stopEffect
  repeat' first
    | with_reducible assumption | with_reducible apply keeps_dropAll | with_reducible apply keeps_enterMode
    | with_reducible apply keeps_toJoining | with_reducible apply keeps_abortExchange
    | with_reducible refine Inv_ite ?_ ?_ | intro _

theorem keeps_resumeEffect {k : Fixed} (s : State) (h : Inv k s) : Inv k (resumeEffect s) := by
  unfold resumeEffect
  repeat' first
    | with_reducible assumption | with_reducible apply keeps_intoRun | with_reducible apply keeps_dropAll
    | with_reducible apply keeps_State_modLanes

theorem keeps_finishCommand {k : Fixed} (s : State) (h : Inv k s) : Inv k (finishCommand s) := by
  unfold finishCommand
  repeat' first
    | with_reducible assumption | with_reducible apply keeps_setResult | with_reducible refine Inv_ite ?_ ?_ | intro _
    | (simp only [↓Inv_mk]; refine Holds_of ?_ ?_ ?_ ?_ ?_ ?_; rfl; rfl; rfl; rfl; exact ⟨rfl, rfl, rfl, rfl, rfl, id⟩)

theorem keeps_execModeChange {k : Fixed} (a0) (s : State) (h : Inv k s) : OutInv k (execModeChange a0 s) := by
  unfold execModeChange
  repeat' first
    | with_reducible assumption | with_reducible apply keeps_State_atTime | with_reducible apply keeps_runEffect
    | with_reducible apply keeps_finishCommand | with_reducible apply keeps_stopEffect
    | with_reducible apply keeps_enterMode | with_reducible apply keeps_resumeEffect
    | with_reducible refine OutInv_next.mpr ?_ | intro _ | split

theorem keeps_warmBoot {k : Fixed} (s : State) (h : Inv k s) : Inv k (warmBoot s) := by
  unfold warmBoot
  repeat' first
    | with_reducible assumption | with_reducible apply keeps_enterMode | with_reducible apply keeps_takePairRole
    | with_reducible apply keeps_takeInForce | with_reducible apply keeps_applyBindings
    | with_reducible apply keeps_setPair | with_reducible refine Inv_ite ?_ ?_ | intro _
    | (simp only [↓Inv_mk]; refine Holds_of ?_ ?_ ?_ ?_ ?_ ?_; rfl; rfl; rfl; rfl; exact ⟨rfl, rfl, rfl, rfl, rfl, id⟩)

theorem keeps_execWarmRestartBoot {k : Fixed} (a0) (s : State) (h : Inv k s) : OutInv k (execWarmRestartBoot a0 s) := by
  unfold execWarmRestartBoot
  repeat' first
    | with_reducible assumption | with_reducible apply keeps_State_atTime | with_reducible apply keeps_warmBoot
    | with_reducible refine OutInv_next.mpr ?_ | intro _ | split

theorem keeps_warmEnd {k : Fixed} (s : State) (h : Inv k s) : Inv k (warmEnd s) := by
  unfold warmEnd
  repeat' first
    | with_reducible assumption | with_reducible apply keeps_State_modLanes
    | (simp only [↓Inv_mk]; refine Holds_of ?_ ?_ ?_ ?_ ?_ ?_; rfl; rfl; rfl; rfl; exact ⟨rfl, rfl, rfl, rfl, rfl, id⟩)

theorem keeps_execWarmRestartComplete {k : Fixed} (a0) (s : State) (h : Inv k s) :
    OutInv k (execWarmRestartComplete a0 s) := by
  unfold execWarmRestartComplete
  repeat' first
    | with_reducible assumption | with_reducible apply keeps_State_atTime | with_reducible apply keeps_enterMode
    | with_reducible apply keeps_warmEnd | with_reducible apply keeps_refuseCommand
    | with_reducible apply keeps_intoRun | with_reducible refine OutInv_next.mpr ?_ | intro _ | split

theorem keeps_execWarmRestartTimeout {k : Fixed} (a0) (s : State) (h : Inv k s) :
    OutInv k (execWarmRestartTimeout a0 s) := by
  unfold execWarmRestartTimeout
  repeat' first
    | with_reducible assumption | with_reducible apply keeps_State_atTime | with_reducible apply keeps_raise
    | with_reducible apply keeps_faultStop | with_reducible refine OutInv_next.mpr ?_ | intro _
    | (simp only [↓Inv_mk]; refine Holds_of ?_ ?_ ?_ ?_ ?_ ?_; rfl; rfl; rfl; rfl; exact ⟨rfl, rfl, rfl, rfl, rfl, id⟩) | split

theorem keeps_mirrorForce {k : Fixed} (a0) (a1) (a2) (a3) (s : State) (h : Inv k s) :
    Inv k (mirrorForce a0 a1 a2 a3 s) := by
  unfold mirrorForce
  repeat' first | with_reducible assumption | with_reducible apply keeps_mirror

theorem keeps_unrefuseEntry {k : Fixed} (a0) (a1) (a2) (s : State) (h : Inv k s) : Inv k (unrefuseEntry a0 a1 a2 s) := by
  unfold unrefuseEntry
  repeat' first
    | with_reducible assumption | with_reducible apply keeps_putForce | with_reducible refine Inv_ite ?_ ?_ | intro _

theorem keeps_opForceField {k : Fixed} (a0) (a1) (a2) (a3) (a4) (a5) (s : State) (h : Inv k s) :
    Inv k (opForceField a0 a1 a2 a3 a4 a5 s) := by
  unfold opForceField
  repeat' first
    | with_reducible assumption | with_reducible apply keeps_unrefuseEntry | with_reducible apply keeps_respond
    | with_reducible apply keeps_mirrorForce | with_reducible apply keeps_putForce
    | with_reducible refine Inv_ite ?_ ?_ | intro _

theorem keeps_opForceValue {k : Fixed} (a0) (a1) (a2) (a3) (a4) (s : State) (h : Inv k s) :
    Inv k (opForceValue a0 a1 a2 a3 a4 s) := by
  unfold opForceValue
  repeat' first
    | with_reducible assumption | with_reducible apply keeps_unrefuseEntry | with_reducible apply keeps_respond
    | with_reducible apply keeps_mirrorForce | with_reducible apply keeps_putForce
    | with_reducible refine Inv_ite ?_ ?_ | intro _

theorem keeps_activateForce {k : Fixed} (a0) (a1) (a2) (s : State) (h : Inv k s) : Inv k (activateForce a0 a1 a2 s) := by
  unfold activateForce
  repeat' first
    | with_reducible assumption | with_reducible apply keeps_respond | with_reducible apply keeps_raiseFrom
    | with_reducible apply keeps_putForce | with_reducible apply keeps_mirrorForce
    | with_reducible refine Inv_ite ?_ ?_ | intro _

theorem keeps_removeForce {k : Fixed} (a0) (a1) (a2) (s : State) (h : Inv k s) : Inv k (removeForce a0 a1 a2 s) := by
  unfold removeForce
  repeat' first
    | with_reducible assumption | with_reducible apply keeps_respond | with_reducible apply keeps_mirrorForce
    | with_reducible apply keeps_putForce | with_reducible refine Inv_ite ?_ ?_ | intro _

theorem keeps_opForceCommand {k : Fixed} (a0) (a1) (a2) (a3) (a4) (s : State) (h : Inv k s) :
    Inv k (opForceCommand a0 a1 a2 a3 a4 s) := by
  unfold opForceCommand
  repeat' first
    | with_reducible assumption | with_reducible apply keeps_unrefuseEntry | with_reducible apply keeps_respond
    | with_reducible apply keeps_activateForce | with_reducible apply keeps_removeForce
    | with_reducible refine Inv_ite ?_ ?_ | intro _

theorem keeps_execForceKindWrite {k : Fixed} (a0) (a1) (a2) (a3) (s : State) (h : Inv k s) :
    OutInv k (execForceKindWrite a0 a1 a2 a3 s) := by
  unfold execForceKindWrite
  repeat' first
    | with_reducible assumption | with_reducible apply keeps_serve | with_reducible apply keeps_opForceField
    | with_reducible apply keeps_State_atTime | with_reducible refine OutInv_next.mpr ?_ | intro _

theorem keeps_execForceTargetWrite {k : Fixed} (a0) (a1) (a2) (a3) (s : State) (h : Inv k s) :
    OutInv k (execForceTargetWrite a0 a1 a2 a3 s) := by
  unfold execForceTargetWrite
  repeat' first
    | with_reducible assumption | with_reducible apply keeps_serve | with_reducible apply keeps_opForceField
    | with_reducible apply keeps_State_atTime | with_reducible refine OutInv_next.mpr ?_ | intro _

theorem keeps_execForceValueWrite {k : Fixed} (a0) (a1) (a2) (a3) (s : State) (h : Inv k s) :
    OutInv k (execForceValueWrite a0 a1 a2 a3 s) := by
  unfold execForceValueWrite
  repeat' first
    | with_reducible assumption | with_reducible apply keeps_serve | with_reducible apply keeps_opForceValue
    | with_reducible apply keeps_State_atTime | with_reducible refine OutInv_next.mpr ?_ | intro _

theorem keeps_execForceActivate {k : Fixed} (a0) (a1) (a2) (s : State) (h : Inv k s) :
    OutInv k (execForceActivate a0 a1 a2 s) := by
  unfold execForceActivate
  repeat' first
    | with_reducible assumption | with_reducible apply keeps_serve | with_reducible apply keeps_opForceCommand
    | with_reducible apply keeps_State_atTime | with_reducible refine OutInv_next.mpr ?_ | intro _

theorem keeps_execForceRemove {k : Fixed} (a0) (a1) (a2) (s : State) (h : Inv k s) :
    OutInv k (execForceRemove a0 a1 a2 s) := by
  unfold execForceRemove
  repeat' first
    | with_reducible assumption | with_reducible apply keeps_serve | with_reducible apply keeps_opForceCommand
    | with_reducible apply keeps_State_atTime | with_reducible refine OutInv_next.mpr ?_ | intro _

theorem keeps_execForceBoundary {k : Fixed} (a0) (a1) (s : State) (h : Inv k s) : OutInv k (execForceBoundary a0 a1 s) := by
  unfold execForceBoundary
  repeat' first
    | with_reducible assumption | with_reducible apply keeps_State_atTime | with_reducible apply keeps_raiseFrom
    | with_reducible apply keeps_putForce | with_reducible refine Inv_ite ?_ ?_
    | with_reducible refine OutInv_next.mpr ?_ | intro _

theorem keeps_opSetEntries {k : Fixed} (a0) (a1) (a2) (a3) (s : State) (h : Inv k s) :
    Inv k (opSetEntries a0 a1 a2 a3 s) := by
  unfold opSetEntries
  repeat' first
    | with_reducible assumption | with_reducible apply keeps_respond | with_reducible refine Inv_ite ?_ ?_ | intro _
    | (simp only [↓Inv_mk]; refine Holds_of ?_ ?_ ?_ ?_ ?_ ?_; rfl; rfl; rfl; rfl; exact ⟨rfl, rfl, rfl, rfl, rfl, id⟩)

theorem keeps_opSetTarget {k : Fixed} (a0) (a1) (a2) (a3) (s : State) (h : Inv k s) :
    Inv k (opSetTarget a0 a1 a2 a3 s) := by
  unfold opSetTarget
  repeat' first
    | with_reducible assumption | with_reducible apply keeps_respond | with_reducible refine Inv_ite ?_ ?_ | intro _
    | (simp only [↓Inv_mk]; refine Holds_of ?_ ?_ ?_ ?_ ?_ ?_; rfl; rfl; rfl; rfl; exact ⟨rfl, rfl, rfl, rfl, rfl, id⟩)

theorem keeps_applySet {k : Fixed} (a0) (a1) (s : State) (h : Inv k s) : Inv k (applySet a0 a1 s) := by
  unfold applySet
  repeat' first
    | with_reducible assumption | with_reducible apply keeps_respond | with_reducible apply keeps_raiseFrom
    | with_reducible apply keeps_deliverSet | with_reducible apply keeps_mirror | with_reducible refine Inv_ite ?_ ?_
    | intro _ | (simp only [↓Inv_mk]; refine Holds_of ?_ ?_ ?_ ?_ ?_ ?_; rfl; rfl; rfl; rfl; exact ⟨rfl, rfl, rfl, rfl, rfl, id⟩)

theorem keeps_discardSet {k : Fixed} (a0) (s : State) (h : Inv k s) : Inv k (discardSet a0 s) := by
  unfold discardSet
  repeat' first
    | with_reducible assumption | with_reducible apply keeps_respond
    | (simp only [↓Inv_mk]; refine Holds_of ?_ ?_ ?_ ?_ ?_ ?_; rfl; rfl; rfl; rfl; exact ⟨rfl, rfl, rfl, rfl, rfl, id⟩)

theorem keeps_opSetCommand {k : Fixed} (a0) (a1) (a2) (a3) (s : State) (h : Inv k s) :
    Inv k (opSetCommand a0 a1 a2 a3 s) := by
  unfold opSetCommand
  repeat' first
    | with_reducible assumption | with_reducible apply keeps_respond | with_reducible apply keeps_applySet
    | with_reducible apply keeps_discardSet | with_reducible refine Inv_ite ?_ ?_ | intro _

theorem keeps_execCsApply {k : Fixed} (a0) (a1) (s : State) (h : Inv k s) : OutInv k (execCsApply a0 a1 s) := by
  unfold execCsApply
  repeat' first
    | with_reducible assumption | with_reducible apply keeps_serve | with_reducible apply keeps_opSetCommand
    | with_reducible apply keeps_State_atTime | with_reducible refine OutInv_next.mpr ?_ | intro _

theorem keeps_execCsDiscard {k : Fixed} (a0) (a1) (s : State) (h : Inv k s) : OutInv k (execCsDiscard a0 a1 s) := by
  unfold execCsDiscard
  repeat' first
    | with_reducible assumption | with_reducible apply keeps_serve | with_reducible apply keeps_opSetCommand
    | with_reducible apply keeps_State_atTime | with_reducible refine OutInv_next.mpr ?_ | intro _

theorem keeps_takeParams {k : Fixed} (a0) (s : State) (a2) (h : Inv k s) : Inv k (takeParams a0 s a2) := by
  unfold takeParams
  repeat' first
    | with_reducible assumption | with_reducible apply keeps_State_modLane | with_reducible apply keeps_reportCause
    | with_reducible apply keeps_excludeLane | intro _ | extract_lets +onlyGivenNames _ | split

theorem keeps_execChangeSetEffect {k : Fixed} (a0) (a1) (s : State) (h : Inv k s) :
    OutInv k (execChangeSetEffect a0 a1 s) := by
  unfold execChangeSetEffect
  repeat' first
    | with_reducible assumption | with_reducible apply keeps_State_atTime | with_reducible apply keeps_takeParams
    | with_reducible apply keeps_raise | with_reducible refine Inv_ite ?_ ?_ | with_reducible apply keeps_foldl
    | with_reducible refine OutInv_next.mpr ?_ | intro _
    | (simp only [↓Inv_mk]; refine Holds_of ?_ ?_ ?_ ?_ ?_ ?_; rfl; rfl; rfl; rfl; exact ⟨rfl, rfl, rfl, rfl, rfl, id⟩)

theorem keeps_opPlain {k : Fixed} (i u after c v ty d) (s : State) (h : Inv k s) (hf : ∀ s, Inv k s → Inv k (after s)) :
    Inv k (opPlain i u after c v ty d s) := by
  unfold opPlain
  repeat' first
    | with_reducible assumption | with_reducible apply hf | with_reducible apply keeps_respond
    | with_reducible apply keeps_State_odStore | with_reducible refine Inv_ite ?_ ?_ | intro _

theorem keeps_opCommand {k : Fixed} (i u ex after c v w t) (s : State) (h : Inv k s) (hf : ∀ c s, Inv k s → Inv k (after c s)) :
    Inv k (opCommand i u ex after c v w t s) := by
  unfold opCommand
  repeat' first
    | with_reducible assumption | with_reducible apply hf | with_reducible apply keeps_respond
    | with_reducible refine Inv_ite ?_ ?_ | intro _

theorem keeps_opLane {k : Fixed} (a0) (a1) (a2) (a3) (s : State) (h : Inv k s) : Inv k (opLane a0 a1 a2 a3 s) := by
  unfold opLane
  repeat' first
    | with_reducible assumption | with_reducible apply keeps_opCommand | with_reducible apply keeps_State_modLane
    | intro _

theorem keeps_execLaneCommand {k : Fixed} (a0) (a1) (a2) (s : State) (h : Inv k s) :
    OutInv k (execLaneCommand a0 a1 a2 s) := by
  unfold execLaneCommand
  repeat' first
    | with_reducible assumption | with_reducible apply keeps_serve | with_reducible apply keeps_opLane
    | with_reducible apply keeps_State_atTime | with_reducible refine OutInv_next.mpr ?_ | intro _

theorem keeps_opStagger {k : Fixed} (a0) (a1) (a2) (a3) (s : State) (h : Inv k s) : Inv k (opStagger a0 a1 a2 a3 s) := by
  unfold opStagger
  repeat' first
    | with_reducible assumption | with_reducible apply keeps_opPlain | intro _
    | (simp only [↓Inv_mk]; refine Holds_of ?_ ?_ ?_ ?_ ?_ ?_; rfl; rfl; rfl; rfl; exact ⟨rfl, rfl, rfl, rfl, rfl, id⟩)

theorem keeps_execStaggerWrite {k : Fixed} (a0) (a1) (a2) (s : State) (h : Inv k s) :
    OutInv k (execStaggerWrite a0 a1 a2 s) := by
  unfold execStaggerWrite
  repeat' first
    | with_reducible assumption | with_reducible apply keeps_serve | with_reducible apply keeps_opStagger
    | with_reducible apply keeps_State_atTime | with_reducible refine OutInv_next.mpr ?_ | intro _

theorem keeps_opPlacement {k : Fixed} (a0) (a1) (a2) (a3) (s : State) (h : Inv k s) :
    Inv k (opPlacement a0 a1 a2 a3 s) := by
  unfold opPlacement
  repeat' first
    | with_reducible assumption | with_reducible apply keeps_respond | with_reducible apply keeps_raiseFrom
    | with_reducible refine Inv_ite ?_ ?_ | intro _
    | (simp only [↓Inv_mk]; refine Holds_of ?_ ?_ ?_ ?_ ?_ ?_; rfl; rfl; rfl; rfl; exact ⟨rfl, rfl, rfl, rfl, rfl, id⟩)

theorem keeps_execPlacementRequest {k : Fixed} (a0) (a1) (a2) (s : State) (h : Inv k s) :
    OutInv k (execPlacementRequest a0 a1 a2 s) := by
  unfold execPlacementRequest
  repeat' first
    | with_reducible assumption | with_reducible apply keeps_serve | with_reducible apply keeps_opPlacement
    | with_reducible apply keeps_State_atTime | with_reducible refine OutInv_next.mpr ?_ | intro _

theorem keeps_opDebugAttach {k : Fixed} (a0) (a1) (s : State) (h : Inv k s) : Inv k (opDebugAttach a0 a1 s) := by
  unfold opDebugAttach
  repeat' first
    | with_reducible assumption | with_reducible apply keeps_respond | with_reducible apply keeps_raiseFrom
    | with_reducible refine Inv_ite ?_ ?_ | intro _
    | (simp only [↓Inv_mk]; refine Holds_of ?_ ?_ ?_ ?_ ?_ ?_; rfl; rfl; rfl; rfl; exact ⟨rfl, rfl, rfl, rfl, rfl, id⟩)

theorem keeps_execDebugAttach {k : Fixed} (a0) (a1) (s : State) (h : Inv k s) : OutInv k (execDebugAttach a0 a1 s) := by
  unfold execDebugAttach
  repeat' first
    | with_reducible assumption | with_reducible apply keeps_serve | with_reducible apply keeps_opDebugAttach
    | with_reducible apply keeps_State_atTime | with_reducible refine OutInv_next.mpr ?_ | intro _

theorem keeps_opTaskRestart {k : Fixed} (a0) (a1) (a2) (a3) (a4) (s : State) (h : Inv k s) :
    Inv k (opTaskRestart a0 a1 a2 a3 a4 s) := by
  unfold opTaskRestart
  repeat' first
    | with_reducible assumption | with_reducible apply keeps_opCommand | with_reducible apply keeps_State_modTask
    | intro _

theorem keeps_execTaskRestart {k : Fixed} (a0) (a1) (a2) (a3) (s : State) (h : Inv k s) :
    OutInv k (execTaskRestart a0 a1 a2 a3 s) := by
  unfold execTaskRestart
  repeat' first
    | with_reducible assumption | with_reducible apply keeps_serve | with_reducible apply keeps_opTaskRestart
    | with_reducible apply keeps_State_atTime | with_reducible refine OutInv_next.mpr ?_ | intro _

theorem keeps_opMap {k : Fixed} (a0) (a1) (a2) (a3) (s : State) (h : Inv k s) : Inv k (opMap a0 a1 a2 a3 s) := by
  unfold opMap
  repeat' first
    | with_reducible assumption | with_reducible apply keeps_respond | with_reducible apply keeps_stageMap
    | with_reducible refine Inv_ite ?_ ?_ | intro _

theorem keeps_execMapWrite {k : Fixed} (a0) (a1) (a2) (s : State) (h : Inv k s) : OutInv k (execMapWrite a0 a1 a2 s) := by
  unfold execMapWrite
  repeat' first
    | with_reducible assumption | with_reducible apply keeps_serve | with_reducible apply keeps_opMap
    | with_reducible apply keeps_State_atTime | with_reducible refine OutInv_next.mpr ?_ | intro _

theorem keeps_opConfirm {k : Fixed} (a0) (a1) (a2) (a3) (s : State) (h : Inv k s) : Inv k (opConfirm a0 a1 a2 a3 s) := by
  unfold opConfirm
  repeat' first
    | with_reducible assumption | with_reducible apply keeps_respond | with_reducible apply keeps_echoMap
    | with_reducible refine Inv_ite ?_ ?_ | intro _

theorem keeps_execMapConfirm {k : Fixed} (a0) (a1) (a2) (s : State) (h : Inv k s) :
    OutInv k (execMapConfirm a0 a1 a2 s) := by
  unfold execMapConfirm
  repeat' first
    | with_reducible assumption | with_reducible apply keeps_serve | with_reducible apply keeps_opConfirm
    | with_reducible apply keeps_State_atTime | with_reducible refine OutInv_next.mpr ?_ | intro _

theorem keeps_opFunction {k : Fixed} (a0) (a1) (a2) (a3) (a4) (s : State) (h : Inv k s) :
    Inv k (opFunction a0 a1 a2 a3 a4 s) := by
  unfold opFunction
  refine keeps_opPlain _ _ _ _ _ _ _ _ h (fun q hq => keeps_reportRoles _ (keeps_State_modGroup _ _ _ (fun g hg => ?_) hq))
  split
  · simpa [Group.modChan, modAt] using hg
  · exact hg

theorem keeps_execFunctionWrite {k : Fixed} (a0) (a1) (a2) (a3) (s : State) (h : Inv k s) :
    OutInv k (execFunctionWrite a0 a1 a2 a3 s) := by
  unfold execFunctionWrite
  repeat' first
    | with_reducible assumption | with_reducible apply keeps_serve | with_reducible apply keeps_opFunction
    | with_reducible apply keeps_State_atTime | with_reducible refine OutInv_next.mpr ?_ | intro _

theorem keeps_opBankEntry {k : Fixed} (a0) (a1) (a2) (a3) (a4) (a5) (s : State) (h : Inv k s) :
    Inv k (opBankEntry a0 a1 a2 a3 a4 a5 s) := by
  unfold opBankEntry
  refine Inv_ite (fun _ => keeps_respond _ _ _ _ h) (fun _ => Inv_ite (fun _ => keeps_respond _ _ _ _ (keeps_raiseFrom _ _ _ _ h))
    (fun _ => keeps_respond _ _ _ _ (keeps_State_modGroup _ _ _ (fun g hg => ?_) (keeps_State_odStore _ _ _ _ h))))
  unfold Group.putEntry
  split
  · exact hg
  · split <;> exact hg

theorem keeps_execBankEntryWrite {k : Fixed} (a0) (a1) (a2) (a3) (a4) (s : State) (h : Inv k s) :
    OutInv k (execBankEntryWrite a0 a1 a2 a3 a4 s) := by
  unfold execBankEntryWrite
  repeat' first
    | with_reducible assumption | with_reducible apply keeps_serve | with_reducible apply keeps_opBankEntry
    | with_reducible apply keeps_State_atTime | with_reducible refine OutInv_next.mpr ?_ | intro _

theorem keeps_opAlignment {k : Fixed} (a0) (a1) (a2) (a3) (a4) (s : State) (h : Inv k s) :
    Inv k (opAlignment a0 a1 a2 a3 a4 s) := by
  unfold opAlignment
  repeat' first
    | with_reducible assumption | with_reducible apply keeps_respond | with_reducible apply keeps_State_odStore
    | with_reducible refine Inv_ite ?_ ?_ | intro _

theorem keeps_execAlignmentWrite {k : Fixed} (a0) (a1) (a2) (a3) (s : State) (h : Inv k s) :
    OutInv k (execAlignmentWrite a0 a1 a2 a3 s) := by
  unfold execAlignmentWrite
  repeat' first
    | with_reducible assumption | with_reducible apply keeps_serve | with_reducible apply keeps_opAlignment
    | with_reducible apply keeps_State_atTime | with_reducible refine OutInv_next.mpr ?_ | intro _

theorem keeps_refuseSwap {k : Fixed} (a0) (a1) (a2) (s : State) (h : Inv k s) : Inv k (refuseSwap a0 a1 a2 s) := by
  unfold refuseSwap
  repeat' first
    | with_reducible assumption | with_reducible apply keeps_raiseFrom
    | (simp only [↓Inv_mk]; refine Holds_of ?_ ?_ ?_ ?_ ?_ ?_; rfl; rfl; rfl; rfl; exact ⟨rfl, rfl, rfl, rfl, rfl, id⟩)

theorem keeps_opSwap {k : Fixed} (a0) (a1) (a2) (a3) (s : State) (h : Inv k s) : Inv k (opSwap a0 a1 a2 a3 s) := by
  unfold opSwap
  repeat' first
    | with_reducible assumption | with_reducible apply keeps_respond | with_reducible apply keeps_refuseSwap
    | with_reducible refine Inv_ite ?_ ?_ | intro _
    | (simp only [↓Inv_mk]; refine Holds_of ?_ ?_ ?_ ?_ ?_ ?_; rfl; rfl; rfl; rfl; exact ⟨rfl, rfl, rfl, rfl, rfl, id⟩)

theorem keeps_execBankSwapRequest {k : Fixed} (a0) (a1) (a2) (s : State) (h : Inv k s) :
    OutInv k (execBankSwapRequest a0 a1 a2 s) := by
  unfold execBankSwapRequest
  repeat' first
    | with_reducible assumption | with_reducible apply keeps_serve | with_reducible apply keeps_opSwap
    | with_reducible apply keeps_State_atTime | with_reducible refine OutInv_next.mpr ?_ | intro _

theorem keeps_opSafeState {k : Fixed} (a0) (a1) (a2) (a3) (a4) (s : State) (h : Inv k s) :
    Inv k (opSafeState a0 a1 a2 a3 a4 s) := keeps_opPlain _ _ _ _ _ _ _ _ h (fun _ hq => hq)

theorem keeps_execSafeStateWrite {k : Fixed} (a0) (a1) (a2) (a3) (s : State) (h : Inv k s) :
    OutInv k (execSafeStateWrite a0 a1 a2 a3 s) := by
  unfold execSafeStateWrite
  repeat' first
    | with_reducible assumption | with_reducible apply keeps_serve | with_reducible apply keeps_opSafeState
    | with_reducible apply keeps_State_atTime | with_reducible refine OutInv_next.mpr ?_ | intro _

theorem keeps_opDerating {k : Fixed} (a0) (a1) (a2) (a3) (a4) (s : State) (h : Inv k s) :
    Inv k (opDerating a0 a1 a2 a3 a4 s) := keeps_opPlain _ _ _ _ _ _ _ _ h (fun _ hq => hq)

theorem keeps_execDeratingWrite {k : Fixed} (a0) (a1) (a2) (a3) (s : State) (h : Inv k s) :
    OutInv k (execDeratingWrite a0 a1 a2 a3 s) := by
  unfold execDeratingWrite
  repeat' first
    | with_reducible assumption | with_reducible apply keeps_serve | with_reducible apply keeps_opDerating
    | with_reducible apply keeps_State_atTime | with_reducible refine OutInv_next.mpr ?_ | intro _

theorem keeps_opTrip {k : Fixed} (a0) (a1) (a2) (a3) (a4) (s : State) (h : Inv k s) : Inv k (opTrip a0 a1 a2 a3 a4 s) := keeps_opPlain _ _ _ _ _ _ _ _ h (fun _ hq => hq)

theorem keeps_execTripThresholdWrite {k : Fixed} (a0) (a1) (a2) (a3) (s : State) (h : Inv k s) :
    OutInv k (execTripThresholdWrite a0 a1 a2 a3 s) := by
  unfold execTripThresholdWrite
  repeat' first
    | with_reducible assumption | with_reducible apply keeps_serve | with_reducible apply keeps_opTrip
    | with_reducible apply keeps_State_atTime | with_reducible refine OutInv_next.mpr ?_ | intro _

theorem keeps_opRebase {k : Fixed} (a0) (a1) (a2) (a3) (s : State) (h : Inv k s) : Inv k (opRebase a0 a1 a2 a3 s) := by
  unfold opRebase
  repeat' first
    | with_reducible assumption | with_reducible apply keeps_queueWrite | with_reducible apply keeps_respond
    | with_reducible refine Inv_ite ?_ ?_ | intro _
    | (simp only [↓Inv_mk]; refine Holds_of ?_ ?_ ?_ ?_ ?_ ?_; rfl; rfl; rfl; rfl; exact ⟨rfl, rfl, rfl, rfl, rfl, id⟩)

theorem keeps_execRebase {k : Fixed} (a0) (a1) (s : State) (h : Inv k s) : OutInv k (execRebase a0 a1 s) := by
  unfold execRebase
  repeat' first
    | with_reducible assumption | with_reducible apply keeps_serve | with_reducible apply keeps_opRebase
    | with_reducible apply keeps_State_atTime | with_reducible refine OutInv_next.mpr ?_ | intro _

theorem keeps_opServo {k : Fixed} (a0) (a1) (a2) (a3) (s : State) (h : Inv k s) : Inv k (opServo a0 a1 a2 a3 s) := by
  unfold opServo
  repeat' first
    | with_reducible assumption | with_reducible apply keeps_opPlain | intro _
    | (simp only [↓Inv_mk]; refine Holds_of ?_ ?_ ?_ ?_ ?_ ?_; rfl; rfl; rfl; rfl; exact ⟨rfl, rfl, rfl, rfl, rfl, id⟩)

theorem keeps_execServoModeWrite {k : Fixed} (a0) (a1) (a2) (s : State) (h : Inv k s) :
    OutInv k (execServoModeWrite a0 a1 a2 s) := by
  unfold execServoModeWrite
  repeat' first
    | with_reducible assumption | with_reducible apply keeps_serve | with_reducible apply keeps_opServo
    | with_reducible apply keeps_State_atTime | with_reducible refine OutInv_next.mpr ?_ | intro _

theorem keeps_opDmaRestart {k : Fixed} (a0) (a1) (a2) (a3) (s : State) (h : Inv k s) :
    Inv k (opDmaRestart a0 a1 a2 a3 s) := by
  unfold opDmaRestart
  repeat' first
    | with_reducible assumption | with_reducible apply keeps_opCommand | with_reducible apply keeps_dmaResume
    | intro _

theorem keeps_execDmaEngineRestart {k : Fixed} (a0) (a1) (s : State) (h : Inv k s) :
    OutInv k (execDmaEngineRestart a0 a1 s) := by
  unfold execDmaEngineRestart
  repeat' first
    | with_reducible assumption | with_reducible apply keeps_serve | with_reducible apply keeps_opDmaRestart
    | with_reducible apply keeps_State_atTime | with_reducible refine OutInv_next.mpr ?_ | intro _

theorem keeps_opPairCommand {k : Fixed} (a0) (a1) (a2) (a3) (s : State) (h : Inv k s) :
    Inv k (opPairCommand a0 a1 a2 a3 s) := by
  unfold opPairCommand
  repeat' first
    | with_reducible assumption | with_reducible apply keeps_queueWrite | with_reducible apply keeps_respond
    | with_reducible refine Inv_ite ?_ ?_ | intro _

theorem keeps_judgePair {k : Fixed} (a0) (s : State) (h : Inv k s) : Inv k (judgePair a0 s).2 := by
  unfold judgePair
  repeat' first
    | with_reducible assumption | with_reducible apply keeps_proposeHandover | with_reducible apply keeps_setPair
    | with_reducible apply keeps_abortExchange | with_reducible refine Inv_snd_ite ?_ ?_ | intro _
    | (simp only [↓Inv_mk]; refine Holds_of ?_ ?_ ?_ ?_ ?_ ?_; rfl; rfl; rfl; rfl; exact ⟨rfl, rfl, rfl, rfl, rfl, id⟩)

theorem keeps_execHandOver {k : Fixed} (a0) (a1) (s : State) (h : Inv k s) : OutInv k (execHandOver a0 a1 s) := by
  unfold execHandOver
  repeat' first
    | with_reducible assumption | with_reducible apply keeps_serve | with_reducible apply keeps_opPairCommand
    | with_reducible apply keeps_State_atTime | with_reducible refine OutInv_next.mpr ?_ | intro _

theorem keeps_execPairJoin {k : Fixed} (a0) (a1) (s : State) (h : Inv k s) : OutInv k (execPairJoin a0 a1 s) := by
  unfold execPairJoin
  repeat' first
    | with_reducible assumption | with_reducible apply keeps_serve | with_reducible apply keeps_opPairCommand
    | with_reducible apply keeps_State_atTime | with_reducible refine OutInv_next.mpr ?_ | intro _

theorem keeps_execExchangeAbort {k : Fixed} (a0) (a1) (s : State) (h : Inv k s) : OutInv k (execExchangeAbort a0 a1 s) := by
  unfold execExchangeAbort
  repeat' first
    | with_reducible assumption | with_reducible apply keeps_serve | with_reducible apply keeps_opPairCommand
    | with_reducible apply keeps_State_atTime | with_reducible refine OutInv_next.mpr ?_ | intro _

theorem keeps_opKey {k : Fixed} (a0) (a1) (a2) (a3) (a4) (s : State) (h : Inv k s) : Inv k (opKey a0 a1 a2 a3 a4 s) := keeps_opPlain _ _ _ _ _ _ _ _ h (fun _ hq => hq)

theorem keeps_execKeyWrite {k : Fixed} (a0) (a1) (a2) (a3) (s : State) (h : Inv k s) :
    OutInv k (execKeyWrite a0 a1 a2 a3 s) := by
  unfold execKeyWrite
  repeat' first
    | with_reducible assumption | with_reducible apply keeps_serve | with_reducible apply keeps_opKey
    | with_reducible apply keeps_State_atTime | with_reducible refine OutInv_next.mpr ?_ | intro _

theorem keeps_opRestore {k : Fixed} (a0) (a1) (a2) (a3) (s : State) (h : Inv k s) : Inv k (opRestore a0 a1 a2 a3 s) := by
  unfold opRestore
  repeat' first
    | with_reducible assumption | with_reducible apply keeps_opCommand | intro _
    | (simp only [↓Inv_mk]; refine Holds_of ?_ ?_ ?_ ?_ ?_ ?_; rfl; rfl; rfl; rfl; exact ⟨rfl, rfl, rfl, rfl, rfl, id⟩)

theorem keeps_execRestoreDefaults {k : Fixed} (a0) (a1) (s : State) (h : Inv k s) :
    OutInv k (execRestoreDefaults a0 a1 s) := by
  unfold execRestoreDefaults
  repeat' first
    | with_reducible assumption | with_reducible apply keeps_serve | with_reducible apply keeps_opRestore
    | with_reducible apply keeps_State_atTime | with_reducible refine OutInv_next.mpr ?_ | intro _

theorem keeps_opCodeMap {k : Fixed} (a0) (a1) (a2) (a3) (s : State) (h : Inv k s) : Inv k (opCodeMap a0 a1 a2 a3 s) := by
  unfold opCodeMap
  repeat' first
    | with_reducible assumption | with_reducible apply keeps_State_odStore | with_reducible apply keeps_respond
    | with_reducible refine Inv_ite ?_ ?_ | intro _
    | (simp only [↓Inv_mk]; refine Holds_of ?_ ?_ ?_ ?_ ?_ ?_; rfl; rfl; rfl; rfl; exact ⟨rfl, rfl, rfl, rfl, rfl, id⟩)

theorem keeps_execCodeMapWrite {k : Fixed} (a0) (a1) (a2) (s : State) (h : Inv k s) :
    OutInv k (execCodeMapWrite a0 a1 a2 s) := by
  unfold execCodeMapWrite
  repeat' first
    | with_reducible assumption | with_reducible apply keeps_serve | with_reducible apply keeps_opCodeMap
    | with_reducible apply keeps_State_atTime | with_reducible refine OutInv_next.mpr ?_ | intro _

theorem keeps_beginUpdate {k : Fixed} (a0) (s : State) (h : Inv k s) : Inv k (beginUpdate a0 s) := by
  unfold beginUpdate
  repeat' first
    | with_reducible assumption | with_reducible apply keeps_raiseFrom
    | (simp only [↓Inv_mk]; refine Holds_of ?_ ?_ ?_ ?_ ?_ ?_; rfl; rfl; rfl; rfl; exact ⟨rfl, rfl, rfl, rfl, rfl, id⟩)

theorem keeps_activateSlot {k : Fixed} (s : State) (h : Inv k s) : Inv k (activateSlot s) := by
  unfold activateSlot
  repeat' first
    | with_reducible assumption | with_reducible apply keeps_selectImageSlot | with_reducible apply keeps_beginTrial
    | with_reducible apply keeps_coldRestart
    | (simp only [↓Inv_mk]; refine Holds_of ?_ ?_ ?_ ?_ ?_ ?_; rfl; rfl; rfl; rfl; exact ⟨rfl, rfl, rfl, rfl, rfl, id⟩)

theorem keeps_abortUpdate {k : Fixed} (a0) (s : State) (h : Inv k s) : Inv k (abortUpdate a0 s) := by
  unfold abortUpdate
  repeat' first
    | with_reducible assumption | with_reducible apply keeps_raiseFrom
    | (simp only [↓Inv_mk]; refine Holds_of ?_ ?_ ?_ ?_ ?_ ?_; rfl; rfl; rfl; rfl; exact ⟨rfl, rfl, rfl, rfl, rfl, id⟩)

theorem keeps_opUpdate {k : Fixed} (a0) (a1) (a2) (a3) (s : State) (h : Inv k s) : Inv k (opUpdate a0 a1 a2 a3 s) := by
  unfold opUpdate
  repeat' first
    | with_reducible assumption | with_reducible apply keeps_respond | with_reducible apply keeps_rollbackRefused
    | with_reducible apply keeps_beginUpdate | with_reducible apply keeps_activateSlot
    | with_reducible apply keeps_abortUpdate | with_reducible refine Inv_ite ?_ ?_ | intro _
    | (simp only [↓Inv_mk]; refine Holds_of ?_ ?_ ?_ ?_ ?_ ?_; rfl; rfl; rfl; rfl; exact ⟨rfl, rfl, rfl, rfl, rfl, id⟩)

theorem keeps_opUpdateTarget {k : Fixed} (a0) (a1) (a2) (a3) (s : State) (h : Inv k s) :
    Inv k (opUpdateTarget a0 a1 a2 a3 s) := by
  unfold opUpdateTarget
  repeat' first
    | with_reducible assumption | with_reducible apply keeps_respond | with_reducible apply keeps_State_odStore
    | with_reducible refine Inv_ite ?_ ?_ | intro _

theorem keeps_execUpdBegin {k : Fixed} (a0) (a1) (s : State) (h : Inv k s) : OutInv k (execUpdBegin a0 a1 s) := by
  unfold execUpdBegin
  repeat' first
    | with_reducible assumption | with_reducible apply keeps_serve | with_reducible apply keeps_opUpdate
    | with_reducible apply keeps_State_atTime | with_reducible refine OutInv_next.mpr ?_ | intro _

theorem keeps_execUpdVerify {k : Fixed} (a0) (a1) (s : State) (h : Inv k s) : OutInv k (execUpdVerify a0 a1 s) := by
  unfold execUpdVerify
  repeat' first
    | with_reducible assumption | with_reducible apply keeps_serve | with_reducible apply keeps_opUpdate
    | with_reducible apply keeps_State_atTime | with_reducible refine OutInv_next.mpr ?_ | intro _

theorem keeps_execUpdActivate {k : Fixed} (a0) (a1) (s : State) (h : Inv k s) : OutInv k (execUpdActivate a0 a1 s) := by
  unfold execUpdActivate
  repeat' first
    | with_reducible assumption | with_reducible apply keeps_serve | with_reducible apply keeps_opUpdate
    | with_reducible apply keeps_State_atTime | with_reducible refine OutInv_next.mpr ?_ | intro _

theorem keeps_execUpdAbort {k : Fixed} (a0) (a1) (s : State) (h : Inv k s) : OutInv k (execUpdAbort a0 a1 s) := by
  unfold execUpdAbort
  repeat' first
    | with_reducible assumption | with_reducible apply keeps_serve | with_reducible apply keeps_opUpdate
    | with_reducible apply keeps_State_atTime | with_reducible refine OutInv_next.mpr ?_ | intro _

theorem keeps_takeBlock {k : Fixed} (a0) (a1) (a2) (s : State) (h : Inv k s) : Inv k (takeBlock a0 a1 a2 s) := by
  unfold takeBlock
  repeat' first
    | with_reducible assumption | with_reducible apply keeps_raise | with_reducible refine Inv_ite ?_ ?_ | intro _
    | (simp only [↓Inv_mk]; refine Holds_of ?_ ?_ ?_ ?_ ?_ ?_; rfl; rfl; rfl; rfl; exact ⟨rfl, rfl, rfl, rfl, rfl, id⟩)

theorem keeps_opBlock {k : Fixed} (a0) (a1) (a2) (a3) (s : State) (h : Inv k s) : Inv k (opBlock a0 a1 a2 a3 s) := by
  unfold opBlock
  repeat' first
    | with_reducible assumption | with_reducible apply keeps_respond | with_reducible apply keeps_raiseFrom
    | with_reducible apply keeps_takeBlock | intro _
    | (simp only [↓Inv_mk]; refine Holds_of ?_ ?_ ?_ ?_ ?_ ?_; rfl; rfl; rfl; rfl; exact ⟨rfl, rfl, rfl, rfl, rfl, id⟩) | split

theorem keeps_execUpdBlock {k : Fixed} (a0) (a1) (a2) (a3) (a4) (a5) (s : State) (h : Inv k s) :
    OutInv k (execUpdBlock a0 a1 a2 a3 a4 a5 s) := by
  unfold execUpdBlock
  repeat' first
    | with_reducible assumption | with_reducible apply keeps_serve | with_reducible apply keeps_opBlock
    | with_reducible apply keeps_State_atTime | with_reducible refine OutInv_next.mpr ?_ | intro _

theorem keeps_execUpdVerifyComplete {k : Fixed} (a0) (a1) (a2) (s : State) (h : Inv k s) :
    OutInv k (execUpdVerifyComplete a0 a1 a2 s) := by
  unfold execUpdVerifyComplete
  repeat' first
    | with_reducible assumption | with_reducible apply keeps_State_atTime | with_reducible apply keeps_raise
    | with_reducible refine Inv_ite ?_ ?_ | with_reducible refine OutInv_next.mpr ?_ | intro _
    | (simp only [↓Inv_mk]; refine Holds_of ?_ ?_ ?_ ?_ ?_ ?_; rfl; rfl; rfl; rfl; exact ⟨rfl, rfl, rfl, rfl, rfl, id⟩)

theorem keeps_execTrialFallback {k : Fixed} (a0) (s : State) (h : Inv k s) : OutInv k (execTrialFallback a0 s) := by
  unfold execTrialFallback
  repeat' first
    | with_reducible assumption | with_reducible apply keeps_State_atTime | with_reducible apply keeps_raise
    | with_reducible apply keeps_coldRestart | with_reducible refine OutInv_next.mpr ?_ | intro _
    | (simp only [↓Inv_mk]; refine Holds_of ?_ ?_ ?_ ?_ ?_ ?_; rfl; rfl; rfl; rfl; exact ⟨rfl, rfl, rfl, rfl, rfl, id⟩) | split

theorem keeps_opOther {k : Fixed} (a0) (a1) (a2) (a3) (a4) (a5) (s : State) (h : Inv k s) :
    Inv k (opOther a0 a1 a2 a3 a4 a5 s) := by
  unfold opOther
  refine Inv_ite (fun _ => ?_) (fun _ => keeps_opPlain _ _ _ _ _ _ _ _ h (fun _ hq => hq))
  exact Inv_ite (fun _ => keeps_queueWrite _ _ _ _ _ _ h) (fun _ => keeps_respond _ _ _ _ h)

theorem keeps_writeForce {k : Fixed} (a0) (a1) (a2) (a3) (a4) (a5) (s : State) (h : Inv k s) :
    Inv k (writeForce a0 a1 a2 a3 a4 a5 s) := by
  unfold writeForce
  repeat' first
    | with_reducible assumption | with_reducible apply keeps_opForceField | with_reducible apply keeps_opForceValue
    | with_reducible apply keeps_opForceCommand | with_reducible apply keeps_opOther
    | with_reducible refine Inv_ite ?_ ?_ | intro _

theorem keeps_writeCommand {k : Fixed} (i u f) (e : writeCommand i u = some f) (a b c d) (s : State) (h : Inv k s) :
    Inv k (f a b c d s) := by
  have key : ∀ f, writeCommand i u = some f → ∀ a b c d (s : State), Inv k s → Inv k (f a b c d s) := by
    unfold writeCommand
    refine kept_ite (fun a b c d s h => keeps_opMode _ _ _ _ _ h) ?_
    refine kept_ite (fun a b c d s h => keeps_opRestore _ _ _ _ _ h) ?_
    refine kept_ite (fun a b c d s h => keeps_opLane _ _ _ _ _ h) ?_
    refine kept_ite (fun a b c d s h => keeps_opPlacement _ _ _ _ _ h) ?_
    refine kept_ite (fun a b c d s h => keeps_opTaskRestart _ _ _ _ _ _ h) ?_
    refine kept_ite (fun a b c d s h => keeps_opSetTarget _ _ _ _ _ h) ?_
    refine kept_ite (fun a b c d s h => keeps_opSetCommand _ _ _ _ _ h) ?_
    refine kept_ite (fun a b c d s h => keeps_opSwap _ _ _ _ _ h) ?_
    refine kept_ite (fun a b c d s h => keeps_opRebase _ _ _ _ _ h) ?_
    refine kept_ite (fun a b c d s h => keeps_opDmaRestart _ _ _ _ _ h) ?_
    refine kept_ite (fun a b c d s h => keeps_opPairCommand _ _ _ _ _ h) ?_
    refine kept_ite (fun a b c d s h => keeps_opUpdate _ _ _ _ _ h) ?_
    exact fun _ e => nomatch e
  exact key f e a b c d s h

theorem keeps_writeSpecial {k : Fixed} (i u f) (e : writeSpecial i u = some f) (a b c d) (s : State) (h : Inv k s) :
    Inv k (f a b c d s) := by
  have key : ∀ f, writeSpecial i u = some f → ∀ a b c d (s : State), Inv k s → Inv k (f a b c d s) := by
    unfold writeSpecial
    refine kept_ite (fun a b c d s h => keeps_writeForce _ _ _ _ _ _ _ h) ?_
    refine kept_ite (fun a b c d s h => keeps_opServo _ _ _ _ _ h) ?_
    refine kept_ite (fun a b c d s h => keeps_opStagger _ _ _ _ _ h) ?_
    refine kept_ite (fun a b c d s h => keeps_opSetEntries _ _ _ _ _ h) ?_
    refine kept_ite (fun a b c d s h => keeps_opAlignment _ _ _ _ _ _ h) ?_
    refine kept_ite (fun a b c d s h => keeps_opFunction _ _ _ _ _ _ h) ?_
    refine kept_ite (fun a b c d s h => keeps_opBankEntry _ _ _ _ _ _ _ h) ?_
    refine kept_ite (fun a b c d s h => keeps_opBankEntry _ _ _ _ _ _ _ h) ?_
    refine kept_ite (fun a b c d s h => keeps_opMap _ _ _ _ _ h) ?_
    refine kept_ite (fun a b c d s h => keeps_opConfirm _ _ _ _ _ h) ?_
    refine kept_ite (fun a b c d s h => keeps_opCodeMap _ _ _ _ _ h) ?_
    refine kept_ite (fun a b c d s h => keeps_opUpdateTarget _ _ _ _ _ h) ?_
    refine kept_ite (fun a b c d s h => keeps_opBlock _ _ _ _ _ h) ?_
    exact fun _ e => nomatch e
  exact key f e a b c d s h

theorem keeps_writeObject {k : Fixed} (a0) (a1) (a2) (a3) (a4) (a5) (s : State) (h : Inv k s) :
    Inv k (writeObject a0 a1 a2 a3 a4 a5 s) := by
  unfold writeObject
  split
  · exact keeps_writeCommand _ _ _ ‹_› _ _ _ _ _ h
  · exact keeps_writeSpecial _ _ _ ‹_› _ _ _ _ _ h
  · exact keeps_opOther _ _ _ _ _ _ _ h

theorem keeps_execAbWrite {k : Fixed} (a0) (a1) (a2) (a3) (a4) (a5) (s : State) (h : Inv k s) :
    OutInv k (execAbWrite a0 a1 a2 a3 a4 a5 s) := by
  unfold execAbWrite
  repeat' first
    | with_reducible assumption | with_reducible apply keeps_serve | with_reducible apply keeps_writeObject
    | with_reducible apply keeps_State_atTime | with_reducible refine OutInv_next.mpr ?_ | intro _

theorem keeps_judgeWrite {k : Fixed} (a0) (a1) (a2) (s : State) (h : Inv k s) : Inv k (judgeWrite a0 a1 a2 s).2 := by
  unfold judgeWrite
  repeat' first
    | with_reducible assumption | with_reducible apply keeps_judgeMode | with_reducible apply keeps_doRebase
    | with_reducible apply keeps_judgePair | with_reducible apply keeps_State_odStore
    | with_reducible refine Inv_snd_ite ?_ ?_ | intro _

theorem keeps_loseWrite {k : Fixed} (a0) (a1) (a2) (s : State) (a4) (h : Inv k s) : Inv k (loseWrite a0 a1 a2 s a4) := by
  unfold loseWrite
  repeat' first | with_reducible assumption | with_reducible apply keeps_respond | with_reducible apply keeps_raise

theorem keeps_execBoundaryWrite {k : Fixed} (a0) (a1) (a2) (s : State) (h : Inv k s) :
    OutInv k (execBoundaryWrite a0 a1 a2 s) := by
  unfold execBoundaryWrite
  repeat' first
    | with_reducible assumption | with_reducible apply keeps_State_atTime | with_reducible apply keeps_judgeWrite
    | with_reducible apply keeps_loseWrite | with_reducible apply keeps_respond | with_reducible apply keeps_foldl
    | with_reducible refine OutInv_next.mpr ?_
    | (simp only [↓Inv_mk]; refine Holds_of ?_ ?_ ?_ ?_ ?_ ?_; rfl; rfl; rfl; rfl; exact ⟨rfl, rfl, rfl, rfl, rfl, id⟩) | split

theorem keeps_execAbOpen {k : Fixed} (a0) (a1) (a2) (a3) (a4) (a5) (s : State) (h : Inv k s) :
    OutInv k (execAbOpen a0 a1 a2 a3 a4 a5 s) := by
  unfold execAbOpen
  repeat' first
    | with_reducible assumption | with_reducible apply keeps_State_atTime | with_reducible apply keeps_openToken
    | with_reducible apply keeps_State_modSession | with_reducible apply keeps_State_tick
    | with_reducible apply keeps_State_emit | with_reducible refine OutInv_next.mpr ?_ | intro _
    | extract_lets +onlyGivenNames _ | split

theorem keeps_authSession {k : Fixed} (a0) (a1) (a2) (a3) (a4) (s : State) (h : Inv k s) :
    Inv k (authSession a0 a1 a2 a3 a4 s) := by
  unfold authSession
  repeat' first
    | with_reducible assumption | with_reducible apply keeps_authFailed | with_reducible apply keeps_sessionToken
    | with_reducible apply keeps_State_modSession | with_reducible apply keeps_respond
    | with_reducible apply keeps_raiseFrom | with_reducible refine Inv_ite ?_ ?_ | intro _

theorem keeps_execAbAuth {k : Fixed} (a0) (a1) (s : State) (h : Inv k s) : OutInv k (execAbAuth a0 a1 s) := by
  unfold execAbAuth
  repeat' first
    | with_reducible assumption | with_reducible apply keeps_State_atTime | with_reducible apply keeps_authSession
    | with_reducible apply keeps_serve | with_reducible apply keeps_respond | with_reducible refine OutInv_next.mpr ?_
    | intro _ | split

theorem keeps_execAbClose {k : Fixed} (a0) (a1) (s : State) (h : Inv k s) : OutInv k (execAbClose a0 a1 s) := by
  unfold execAbClose
  repeat' first
    | with_reducible assumption | with_reducible apply keeps_serve | with_reducible apply keeps_respond
    | with_reducible apply keeps_closeSession | with_reducible apply keeps_State_atTime
    | with_reducible refine OutInv_next.mpr ?_ | intro _ | split

theorem keeps_execAbKeepalive {k : Fixed} (a0) (a1) (s : State) (h : Inv k s) : OutInv k (execAbKeepalive a0 a1 s) := by
  unfold execAbKeepalive
  repeat' first
    | with_reducible assumption | with_reducible apply keeps_serve | with_reducible apply keeps_respond
    | with_reducible apply keeps_State_atTime | with_reducible refine OutInv_next.mpr ?_ | intro _

theorem keeps_execSessionOpenTimeout {k : Fixed} (a0) (a1) (s : State) (h : Inv k s) :
    OutInv k (execSessionOpenTimeout a0 a1 s) := by
  unfold execSessionOpenTimeout
  repeat' first
    | with_reducible assumption | with_reducible apply keeps_State_atTime
    | with_reducible apply keeps_State_modSession | with_reducible refine Inv_ite ?_ ?_
    | with_reducible refine OutInv_next.mpr ?_ | intro _

theorem keeps_execIdleTimeout {k : Fixed} (a0) (a1) (s : State) (h : Inv k s) : OutInv k (execIdleTimeout a0 a1 s) := by
  unfold execIdleTimeout
  repeat' first
    | with_reducible assumption | with_reducible apply keeps_State_atTime | with_reducible apply keeps_closeSession
    | with_reducible refine Inv_ite ?_ ?_ | with_reducible refine OutInv_next.mpr ?_ | intro _

theorem keeps_execAbRead {k : Fixed} (a0) (a1) (a2) (a3) (s : State) (h : Inv k s) :
    OutInv k (execAbRead a0 a1 a2 a3 s) := by
  unfold execAbRead
  repeat' first
    | with_reducible assumption | with_reducible apply keeps_serve | with_reducible apply keeps_respond
    | with_reducible apply keeps_State_atTime | with_reducible refine OutInv_next.mpr ?_ | intro _

theorem keeps_execAbReadSegment {k : Fixed} (a0) (a1) (a2) (a3) (a4) (a5) (s : State) (h : Inv k s) :
    OutInv k (execAbReadSegment a0 a1 a2 a3 a4 a5 s) := by
  unfold execAbReadSegment
  repeat' first
    | with_reducible assumption | with_reducible apply keeps_serve | with_reducible apply keeps_respond
    | with_reducible apply keeps_State_atTime | with_reducible refine OutInv_next.mpr ?_ | intro _

theorem keeps_execAbBulkRead {k : Fixed} (a0) (a1) (a2) (a3) (a4) (a5) (s : State) (h : Inv k s) :
    OutInv k (execAbBulkRead a0 a1 a2 a3 a4 a5 s) := by
  unfold execAbBulkRead
  repeat' first
    | with_reducible assumption | with_reducible apply keeps_serve | with_reducible apply keeps_respond
    | with_reducible apply keeps_State_atTime | with_reducible refine OutInv_next.mpr ?_ | intro _

theorem keeps_takeSegment {k : Fixed} (a0) (a1) (a2) (a3) (a4) (a5) (a6) (a7) (a8) (s : State) (h : Inv k s) :
    Inv k (takeSegment a0 a1 a2 a3 a4 a5 a6 a7 a8 s) := by
  unfold takeSegment
  repeat' first
    | with_reducible assumption | with_reducible apply keeps_respond | with_reducible apply keeps_writeObject
    | with_reducible apply keeps_State_modSession | with_reducible refine Inv_ite ?_ ?_ | intro _

theorem keeps_execAbWriteSegment {k : Fixed} (a0) (a1) (a2) (a3) (a4) (a5) (a6) (a7) (s : State) (h : Inv k s) :
    OutInv k (execAbWriteSegment a0 a1 a2 a3 a4 a5 a6 a7 s) := by
  unfold execAbWriteSegment
  repeat' first
    | with_reducible assumption | with_reducible apply keeps_serve | with_reducible apply keeps_takeSegment
    | with_reducible apply keeps_State_atTime | with_reducible refine OutInv_next.mpr ?_ | intro _ | split

theorem keeps_execAbReadSignal {k : Fixed} (a0) (a1) (a2) (s : State) (h : Inv k s) :
    OutInv k (execAbReadSignal a0 a1 a2 s) := by
  unfold execAbReadSignal
  repeat' first
    | with_reducible assumption | with_reducible apply keeps_State_atTime | with_reducible apply keeps_serve
    | with_reducible apply keeps_respond | with_reducible refine OutInv_next.mpr ?_ | intro _ | split

theorem keeps_writeSignal {k : Fixed} (a0) (a1) (a2) (a3) (a4) (s : State) (h : Inv k s) :
    Inv k (writeSignal a0 a1 a2 a3 a4 s) := by
  unfold writeSignal
  repeat' first
    | with_reducible assumption | with_reducible apply keeps_respond | with_reducible apply keeps_mirror | intro _
    | (simp only [↓Inv_mk]; refine Holds_of ?_ ?_ ?_ ?_ ?_ ?_; rfl; rfl; rfl; rfl; exact ⟨rfl, rfl, rfl, rfl, rfl, id⟩) | split

theorem keeps_execAbWriteSignal {k : Fixed} (a0) (a1) (a2) (a3) (a4) (s : State) (h : Inv k s) :
    OutInv k (execAbWriteSignal a0 a1 a2 a3 a4 s) := by
  unfold execAbWriteSignal
  repeat' first
    | with_reducible assumption | with_reducible apply keeps_serve | with_reducible apply keeps_writeSignal
    | with_reducible apply keeps_State_atTime | with_reducible refine OutInv_next.mpr ?_ | intro _

theorem keeps_execAbEvents {k : Fixed} (a0) (a1) (a2) (s : State) (h : Inv k s) : OutInv k (execAbEvents a0 a1 a2 s) := by
  unfold execAbEvents
  repeat' first
    | with_reducible assumption | with_reducible apply keeps_serve | with_reducible apply keeps_respond
    | with_reducible apply keeps_State_atTime | with_reducible refine OutInv_next.mpr ?_ | intro _

theorem keeps_sdoReply {k : Fixed} (a0) (a1) (a2) (s : State) (h : Inv k s) : Inv k (sdoReply a0 a1 a2 s) := by
  unfold sdoReply
  repeat' first | with_reducible assumption | with_reducible apply keeps_State_emit

theorem keeps_sdoInitiate {k : Fixed} (b act) (s : State) (h : Inv k s) (hf : ∀ s, Inv k s → Inv k (act s)) :
    Inv k (sdoInitiate b act s) := by
  unfold sdoInitiate
  repeat' first
    | with_reducible assumption | with_reducible apply hf | with_reducible apply keeps_sdoReply
    | with_reducible refine Inv_ite ?_ ?_ | intro _

theorem keeps_execSdoUploadInitiate {k : Fixed} (a0) (a1) (a2) (a3) (s : State) (h : Inv k s) :
    OutInv k (execSdoUploadInitiate a0 a1 a2 a3 s) := by
  unfold execSdoUploadInitiate
  repeat' first
    | with_reducible assumption | with_reducible apply keeps_sdoInitiate | with_reducible apply keeps_respond
    | with_reducible apply keeps_sdoReply | with_reducible apply keeps_State_setXfer
    | with_reducible apply keeps_State_atTime | with_reducible refine Inv_ite ?_ ?_
    | with_reducible refine OutInv_next.mpr ?_ | intro _

theorem keeps_execSdoDownloadInitiate {k : Fixed} (a0) (a1) (a2) (a3) (a4) (a5) (s : State) (h : Inv k s) :
    OutInv k (execSdoDownloadInitiate a0 a1 a2 a3 a4 a5 s) := by
  unfold execSdoDownloadInitiate
  repeat' first
    | with_reducible assumption | with_reducible apply keeps_sdoInitiate | with_reducible apply keeps_writeObject
    | with_reducible apply keeps_respond | with_reducible apply keeps_sdoReply
    | with_reducible apply keeps_State_setXfer | with_reducible apply keeps_State_atTime
    | with_reducible refine Inv_ite ?_ ?_ | with_reducible refine OutInv_next.mpr ?_ | intro _

theorem keeps_endDownload {k : Fixed} (a0) (a1) (s : State) (h : Inv k s) : Inv k (endDownload a0 a1 s) := by
  unfold endDownload
  repeat' first
    | with_reducible assumption | with_reducible apply keeps_State_setXfer | with_reducible apply keeps_respond
    | with_reducible apply keeps_writeObject | with_reducible refine Inv_ite ?_ ?_ | intro _

theorem keeps_sdoSegmentStep {k : Fixed} (a0) (a1) (a2) (a3) (a4) (s : State) (h : Inv k s) :
    Inv k (sdoSegmentStep a0 a1 a2 a3 a4 s) := by
  unfold sdoSegmentStep
  repeat' first
    | with_reducible assumption | with_reducible apply keeps_sdoReply | with_reducible apply keeps_State_setXfer
    | with_reducible apply keeps_endDownload | with_reducible apply keeps_respond
    | with_reducible refine Inv_ite ?_ ?_ | intro _

theorem keeps_execSdoSegment {k : Fixed} (a0) (a1) (a2) (a3) (a4) (s : State) (h : Inv k s) :
    OutInv k (execSdoSegment a0 a1 a2 a3 a4 s) := by
  unfold execSdoSegment
  repeat' first
    | with_reducible assumption | with_reducible apply keeps_State_atTime | with_reducible apply keeps_sdoSegmentStep
    | with_reducible apply keeps_sdoReply | with_reducible refine OutInv_next.mpr ?_ | intro _ | split

theorem keeps_sdoBlockStep {k : Fixed} (a0) (a1) (a2) (a3) (a4) (s : State) (h : Inv k s) :
    Inv k (sdoBlockStep a0 a1 a2 a3 a4 s) := by
  unfold sdoBlockStep
  repeat' first
    | with_reducible assumption | with_reducible apply keeps_sdoReply | with_reducible apply keeps_endDownload
    | with_reducible apply keeps_respond | with_reducible apply keeps_State_setXfer
    | with_reducible apply keeps_State_emitAll | with_reducible refine Inv_ite ?_ ?_ | intro _

theorem keeps_execSdoBlockTransfer {k : Fixed} (a0) (a1) (a2) (a3) (a4) (s : State) (h : Inv k s) :
    OutInv k (execSdoBlockTransfer a0 a1 a2 a3 a4 s) := by
  unfold execSdoBlockTransfer
  repeat' first
    | with_reducible assumption | with_reducible apply keeps_State_atTime | with_reducible apply keeps_sdoBlockStep
    | with_reducible apply keeps_sdoReply | with_reducible refine OutInv_next.mpr ?_ | intro _ | split

theorem keeps_execSdoSegmentTimeout {k : Fixed} (a0) (a1) (s : State) (h : Inv k s) :
    OutInv k (execSdoSegmentTimeout a0 a1 s) := by
  unfold execSdoSegmentTimeout
  repeat' first
    | with_reducible assumption | with_reducible apply keeps_State_atTime | with_reducible apply keeps_sdoReply
    | with_reducible apply keeps_State_setXfer | with_reducible refine OutInv_next.mpr ?_ | intro _ | split

end Sys2Proof.Machine
end

