-- ==== Sys2Proof/WellFormed.lean ====
section
/-! DEFINITION. Which terms of `Instr` a command can be: the bounds that a field's width or a frame's format sets. A value
that the module itself refuses or discards is well formed. -/

namespace Sys2Proof

/-- A TIME64 value (R23). -/
def timeOk (t : Nat) : Bool := decide (t < 2 ^ 64)

/-- A host request: an Abacus frame carries 16 MAC bytes and comes from a 6-byte address and port (R382, R386). -/
def Via.wf : Via → Bool
  | .abacus _ _ _ addr mac => decide (addr < 2 ^ 48) && decide (mac.length = 16)
  | .sdo _ => true

/-- The bits of a register that a type uses (R95). -/
def XType.width : XType → Nat
  | .bool => 1
  | .u8 => 8
  | .i8 => 8
  | .u16 => 16
  | .i16 => 16
  | .u32 => 32
  | .i32 => 32
  | .f32 => 32
  | .u64 => 64
  | .i64 => 64
  | .f64 => 64
  | .time64 => 64

/-- F32 or F64. -/
def XType.isFloat (ty : XType) : Bool := ty = .f32 || ty = .f64
/-- Every numeric type (R97). -/
def XType.isNum (ty : XType) : Bool := !(ty = .bool)
/-- The integer types, TIME64 among them (R97). -/
def XType.isInt (ty : XType) : Bool := ty.isNum && !ty.isFloat
/-- The integer types and BOOL (R97). -/
def XType.isBits (ty : XType) : Bool := !ty.isFloat

/-- A branch offset of JMP, BRT and BRF: 18 bits, and forward only (R98, R104). -/
def fwdOk (off : Int) : Bool := decide (0 ≤ off ∧ off < 2 ^ 17)
/-- A LOOP's offset: 18 bits, and back over the two words of the LOOP at least (R98, R104). -/
def backOk (off : Int) : Bool := decide (-(2 ^ 17) ≤ off ∧ off ≤ -2)
/-- A LOOP's BOUND: 1 to 16,777,216 (R104). -/
def boundOk (b : BitVec 32) : Bool := decide (1 ≤ b.toNat ∧ b.toNat ≤ 16777216)

/-- Nothing stands twice in a list. -/
def noRepeat {α : Type} [DecidableEq α] : List α → Bool
  | [] => true
  | x :: r => !r.contains x && noRepeat r

/-- A Bucket write: a Commons address and a value of 1, 2, 4 or 8 bytes (R38). -/
def BWrite.wf (w : BWrite) : Bool := decide (w.target < 2 ^ 32) && decide (w.value.toNat < 2 ^ (8 * 2 ^ w.size.val))
/-- A Bucket half lies within the 64 KiB of one basic cycle's Buckets (R18). -/
def PourCopy.wf (p : PourCopy) : Bool := decide (p.writes.length ≤ 65536) && p.writes.all BWrite.wf
/-- One sample instant delivers 16 values of each kind (R193). -/
def SampleIn.wf (x : SampleIn) : Bool :=
  decide (x.codes.length = 16) && (decide (x.current.length = 16) && decide (x.pnVolt.length = 16))
/-- A frame is at least as long as its payload. -/
def EthFrame.wf (f : EthFrame) : Bool := decide (f.payload.length ≤ f.len)
/-- The fields of a PD header have 16, 16 and 8 bits (R289). -/
def PdTelegram.wf (p : PdTelegram) : Bool :=
  decide (p.udpPort < 65536) && (decide (p.udpLen < 65536) && decide (p.major < 256))
/-- A message dataset of at most 16,384 bytes (R306). -/
def MdTelegram.wf (m : MdTelegram) : Bool := decide (m.data.length ≤ 16384)
/-- A CAN frame carries at most 8 bytes, in FD mode 64 (R311). -/
def CanFrame.wf (f : CanFrame) : Bool := decide (f.data.length ≤ if f.fd then 64 else 8)
/-- A Siphon frame's OFFSET has 32 bits, and LENGTH has 16 bits (R346). -/
def SiphonFrame.wf (f : SiphonFrame) : Bool := decide (f.offset < 2 ^ 32) && decide (f.payload.length < 65536)
/-- A referee message carries 8 bytes of AUTH (R343). -/
def RefereeMsg.wf (m : RefereeMsg) : Bool := decide (m.auth.length = 8)

/-- The well-formed commands. -/
def Instr.wf (i : Instr) : Bool :=
  match i with
  | .supplyOn t => timeOk t
  | .stage0Complete t => timeOk t
  | .stage1Complete t straps => timeOk t && decide (straps.length = 6)
  | .translationComplete t _ native => timeOk t && decide (native.length ≤ 524288)
  | .stage2Complete t tables => timeOk t && decide (tables.length = 3)
  | .stage3Complete t => timeOk t
  | .pairNegotiation t _ => timeOk t
  | .stageTimeout t _ => timeOk t
  | .supplyInterruption t => timeOk t
  | .storeExhausted t => timeOk t
  | .supplyReturn t _ _ converters => timeOk t && noRepeat converters
  | .supplyMeasurement t _ => timeOk t
  | .cycleBoundary t => timeOk t
  | .imageSealed t => timeOk t
  | .imageLate t => timeOk t
  | .groupLinkTimeout t _ => timeOk t
  | .releaseToken t _ => timeOk t
  | .laneDrink t _ _ _ => timeOk t
  | .tokenTimeout t _ => timeOk t
  | .xMov _ _ _ _ _ => true
  | .xLdi _ _ _ _ _ => true
  | .xCvt _ _ _ _ _ _ => true
  | .xSel _ _ _ _ _ _ => true
  | .xLd _ _ _ _ a _ indexed _ => (indexed || a = 0)
  | .xSt _ _ _ _ a indexed _ => (indexed || a = 0)
  | .xStl _ _ _ _ a indexed _ => (indexed || a = 0)
  | .xAdd _ _ ty _ _ _ => ty.isNum
  | .xSub _ _ ty _ _ _ => ty.isNum
  | .xMul _ _ ty _ _ _ => ty.isNum
  | .xDiv _ _ ty _ _ _ => ty.isNum
  | .xRem _ _ ty _ _ _ => ty.isInt
  | .xNeg _ _ ty _ _ => ty.isNum
  | .xAbs _ _ ty _ _ => ty.isNum
  | .xMin _ _ ty _ _ _ => ty.isNum
  | .xMax _ _ ty _ _ _ => ty.isNum
  | .xAdds _ _ ty _ _ _ => ty.isInt
  | .xSubs _ _ ty _ _ _ => ty.isInt
  | .xSqrt _ _ ty _ _ => ty.isFloat
  | .xAddi _ _ ty _ _ _ => ty.isInt
  | .xRint _ _ ty _ _ => ty.isFloat
  | .xLimit _ _ ty _ _ _ => ty.isNum
  | .xAnd _ _ ty _ _ _ => ty.isBits
  | .xOr _ _ ty _ _ _ => ty.isBits
  | .xXor _ _ ty _ _ _ => ty.isBits
  | .xNot _ _ ty _ _ => ty.isBits
  | .xShl _ _ ty _ _ _ => ty.isInt
  | .xShr _ _ ty _ _ _ => ty.isInt
  | .xShli _ _ ty _ _ _ => ty.isInt
  | .xShri _ _ ty _ _ _ => ty.isInt
  | .xRol _ _ ty _ _ _ => ty.isInt
  | .xRor _ _ ty _ _ _ => ty.isInt
  | .xGetb _ _ ty _ _ imm => (ty.isInt && decide (imm.toNat < ty.width))
  | .xSetb _ _ ty _ _ imm => (ty.isInt && decide (imm.toNat < ty.width))
  | .xClrb _ _ ty _ _ imm => (ty.isInt && decide (imm.toNat < ty.width))
  | .xEq _ _ _ _ _ _ => true
  | .xNe _ _ _ _ _ _ => true
  | .xLt _ _ ty _ _ _ => ty.isNum
  | .xLe _ _ ty _ _ _ => ty.isNum
  | .xGt _ _ ty _ _ _ => ty.isNum
  | .xGe _ _ ty _ _ _ => ty.isNum
  | .xIsnan _ _ ty _ _ => ty.isFloat
  | .xJmp _ _ off => fwdOk off
  | .xBrt _ _ _ off => fwdOk off
  | .xBrf _ _ _ off => fwdOk off
  | .xLoop _ _ _ off bound => (backOk off && boundOk bound)
  | .loopBound _ _ off bound => (backOk off && boundOk bound)
  | .xCall _ _ _ => true
  | .xRet _ _ => true
  | .xEnd _ _ => true
  | .xHalt _ _ _ => true
  | .xTon _ _ _ _ _ _ => true
  | .xTof _ _ _ _ _ _ => true
  | .xTp _ _ _ _ _ _ => true
  | .xCtu _ _ _ _ _ _ _ => true
  | .xCtd _ _ _ _ _ _ _ => true
  | .xCtud _ _ _ _ _ _ _ => true
  | .xRTrig _ _ _ _ _ => true
  | .xFTrig _ _ _ _ _ => true
  | .xNop _ _ => true
  | .xSteps _ _ _ => true
  | .xPeriod _ _ _ => true
  | .stepBudget _ _ steps => decide (steps < 2 ^ 64)
  | .tallyMessage t _ _ _ _ _ _ => timeOk t
  | .voteDeadline t _ _ => timeOk t
  | .verdictTimeout t => timeOk t
  | .holdVote t _ _ => timeOk t
  | .pour t recv => timeOk t && recv.all PourCopy.wf
  | .pourWindowEnd t => timeOk t
  | .pourLate t => timeOk t
  | .laneEccError t _ => timeOk t
  | .laneTrap t _ => timeOk t
  | .laneResetComplete t _ native => timeOk t && decide (native.length ≤ 524288)
  | .reintegrationCopyComplete t _ _ => timeOk t
  | .reintegrationTimeout t _ => timeOk t
  | .laneRejoin t _ => timeOk t
  | .laneCommand t via _ => timeOk t && via.wf
  | .staggerWrite t via _ => timeOk t && via.wf
  | .placementRequest t via _ => timeOk t && via.wf
  | .placementMove t => timeOk t
  | .placementResume t => timeOk t
  | .fallbackMove t _ => timeOk t
  | .debugAttach t via => timeOk t && via.wf
  | .debugBreakpoint t _ => timeOk t
  | .debugRun t => timeOk t
  | .debugStep t _ => timeOk t
  | .debugWriteVariable t _ w => timeOk t && w.wf
  | .breakpointHit t _ => timeOk t
  | .taskRestart t via _ _ => timeOk t && via.wf
  | .retainedSnapshot t => timeOk t
  | .cmdRun t via => timeOk t && via.wf
  | .cmdStop t via => timeOk t && via.wf
  | .cmdHold t via => timeOk t && via.wf
  | .cmdResume t via => timeOk t && via.wf
  | .cmdRestart t via => timeOk t && via.wf
  | .cmdExchange t via => timeOk t && via.wf
  | .modeChange t => timeOk t
  | .warmRestartBoot t => timeOk t
  | .warmRestartComplete t => timeOk t
  | .warmRestartTimeout t => timeOk t
  | .forceKindWrite t via _ _ => timeOk t && via.wf
  | .forceTargetWrite t via _ _ => timeOk t && via.wf
  | .forceValueWrite t via _ _ => timeOk t && via.wf
  | .forceActivate t via _ => timeOk t && via.wf
  | .forceRemove t via _ => timeOk t && via.wf
  | .forceBoundary t _ => timeOk t
  | .csApply t via => timeOk t && via.wf
  | .csDiscard t via => timeOk t && via.wf
  | .changeSetEffect t badLanes => timeOk t && noRepeat badLanes
  | .mapWrite t via _ => timeOk t && via.wf
  | .mapConfirm t via digest => timeOk t && via.wf && decide (digest.length = 32)
  | .mapExpiry t => timeOk t
  | .mapCopiesWritten t => timeOk t
  | .mapPeriodicCheck t _ _ _ => timeOk t
  | .boundaryStrobe t _ => timeOk t
  | .requestFrame t _ => timeOk t
  | .requestLinkTimeout t => timeOk t
  | .fabricLinkFrame t _ => timeOk t
  | .fabricLinkTimeout t _ => timeOk t
  | .discrepancyTimeout t _ => timeOk t
  | .restoreDelayExpiry t _ => timeOk t
  | .dsdWarning t _ => timeOk t
  | .vigilanceTrip t _ => timeOk t
  | .testPulse t _ => timeOk t
  | .testPulseEnd t _ => timeOk t
  | .readbackTimeout t _ => timeOk t
  | .ackPulse t _ _ _ _ _ => timeOk t
  | .restartPulse t _ _ _ _ _ => timeOk t
  | .dualRailFault t => timeOk t
  | .fabricMemoryFault t => timeOk t
  | .sample t _ x => timeOk t && x.wf
  | .stateFrame t _ _ => timeOk t
  | .edgeFrame t _ _ => timeOk t
  | .outputFrame t _ _ => timeOk t
  | .driveFrame t _ _ => timeOk t
  | .applyInstant t _ => timeOk t
  | .configWrite t _ _ => timeOk t
  | .configAck t _ _ => timeOk t
  | .functionWrite t via _ _ => timeOk t && via.wf
  | .bankEntryWrite t via _ _ _ => timeOk t && via.wf
  | .alignmentWrite t via _ _ => timeOk t && via.wf
  | .bankSwapRequest t via _ => timeOk t && via.wf
  | .bankSwap t => timeOk t
  | .maxOn t _ => timeOk t
  | .chatterWindow t _ => timeOk t
  | .overcurrentTrip t _ => timeOk t
  | .shortCircuit t _ => timeOk t
  | .demagOver t _ _ => timeOk t
  | .demagHoldExpiry t _ => timeOk t
  | .switchOnResumed t _ => timeOk t
  | .openLoad t _ => timeOk t
  | .switchStuck t _ => timeOk t
  | .groupOutputSilent t _ => timeOk t
  | .keepaliveLoss t _ => timeOk t
  | .groupConverterFail t _ => timeOk t
  | .safeStateWrite t via _ _ => timeOk t && via.wf
  | .deratingWrite t via _ _ => timeOk t && via.wf
  | .tripThresholdWrite t via _ _ => timeOk t && via.wf
  | .frameReceived t _ f => timeOk t && f.wf
  | .frameTransmit t _ => timeOk t
  | .guardianCut t _ => timeOk t
  | .macAgeOut t _ => timeOk t
  | .linkDown t _ => timeOk t
  | .linkUp t _ _ => timeOk t
  | .supervisionFrameSend t _ => timeOk t
  | .redundancyDegraded t _ => timeOk t
  | .beaconSend t => timeOk t
  | .beaconReceived t _ _ => timeOk t
  | .beaconTimeout t => timeOk t
  | .guardianTableCheck t readBack => timeOk t && decide (readBack.length ≤ 128)
  | .guardianCounterFault t _ _ _ => timeOk t
  | .ptpSync t _ _ => timeOk t
  | .followUp t _ _ _ _ => timeOk t
  | .ptpAnnounce t _ _ _ => timeOk t
  | .ptpDelayMessage t _ _ _ _ => timeOk t
  | .ptpManagement t _ _ _ _ => timeOk t
  | .ptpSyncSend t _ _ => timeOk t
  | .announceTimeout t _ => timeOk t
  | .syncSilence t _ => timeOk t
  | .domainPreference t => timeOk t
  | .holdoverExhausted t => timeOk t
  | .referenceMoved t => timeOk t
  | .slewComplete t => timeOk t
  | .rebase t via => timeOk t && via.wf
  | .servoModeWrite t via _ => timeOk t && via.wf
  | .servoUpdateTimeout t => timeOk t
  | .pdReceived t p => timeOk t && p.wf
  | .pdSend t _ => timeOk t
  | .mdNotification t m => timeOk t && m.wf
  | .mdRequest t m => timeOk t && m.wf
  | .mdReply t m => timeOk t && m.wf
  | .mdReplyQuery t m => timeOk t && m.wf
  | .mdConfirm t m => timeOk t && m.wf
  | .mdError t m => timeOk t && m.wf
  | .mdTimeout t _ => timeOk t
  | .mvbMasterFrame t _ _ => timeOk t
  | .mvbSlaveFrame t _ _ _ => timeOk t
  | .mvbDeviceStatus t _ => timeOk t
  | .mvbForeignMaster t => timeOk t
  | .mvbLineFault t _ => timeOk t
  | .canRpdo t _ f => timeOk t && f.wf
  | .canSyncReceived t _ => timeOk t
  | .canHeartbeatSend t _ => timeOk t
  | .canHeartbeatLost t _ _ => timeOk t
  | .tpdoWithdraw t _ _ => timeOk t
  | .canErrorPassive t _ => timeOk t
  | .canBusOff t _ => timeOk t
  | .canBusOffRecovery t _ => timeOk t
  | .sdoUploadInitiate t _ _ _ => timeOk t
  | .sdoDownloadInitiate t _ _ _ _ data => timeOk t && decide (data.length ≤ 4)
  | .sdoSegment t _ _ _ data => timeOk t && decide (data.length ≤ 7)
  | .sdoBlockTransfer t _ seqno _ data => timeOk t && decide (data.length ≤ 7 ∧ 1 ≤ seqno ∧ seqno ≤ 127)
  | .sdoSegmentTimeout t _ => timeOk t
  | .linkReplay t _ _ => timeOk t
  | .directRead t _ _ _ _ => timeOk t
  | .directPostedWrite t _ _ _ _ => timeOk t
  | .directNonpostedWrite t _ _ _ _ => timeOk t
  | .exclusiveRead t _ _ _ => timeOk t
  | .exclusiveWrite t _ _ _ => timeOk t
  | .eventQueuePop t _ _ => timeOk t
  | .directCompletion t _ _ _ => timeOk t
  | .bridgeTimeout t _ _ => timeOk t
  | .semaphoreBreak t _ => timeOk t
  | .lateError t _ _ _ _ _ _ => timeOk t
  | .eventPoll t => timeOk t
  | .dmaDoorbell t _ _ => timeOk t
  | .dmaAbort t _ _ => timeOk t
  | .dmaDescriptorDone t _ => timeOk t
  | .chainLimit t _ => timeOk t
  | .dmaBusError t _ => timeOk t
  | .dmaRestart t => timeOk t
  | .dmaEngineRestart t via => timeOk t && via.wf
  | .heartbeatSend t => timeOk t
  | .siphonHeartbeat t f => timeOk t && f.wf
  | .partnerLost t => timeOk t
  | .siphonImage t f => timeOk t && f.wf
  | .forwardImageLate t => timeOk t
  | .siphonDelta t f => timeOk t && f.wf
  | .deltaDeadline t => timeOk t
  | .siphonState t f _ => timeOk t && f.wf
  | .siphonResync t f => timeOk t && f.wf
  | .siphonControl t f _ => timeOk t && f.wf
  | .renewSend t => timeOk t
  | .refereeConfirm t m => timeOk t && m.wf
  | .refereeGrant t m => timeOk t && m.wf
  | .refereeRevoke t m => timeOk t && m.wf
  | .refereeRefuse t m => timeOk t && m.wf
  | .leaseExpiry t => timeOk t
  | .refereeSilent t => timeOk t
  | .handOver t via => timeOk t && via.wf
  | .pairJoin t via => timeOk t && via.wf
  | .exchangeAbort t via => timeOk t && via.wf
  | .handoverSend t => timeOk t
  | .handoverDrive t => timeOk t
  | .handoverDone t => timeOk t
  | .reversion t => timeOk t
  | .resyncComplete t => timeOk t
  | .resyncTimeout t => timeOk t
  | .shadowPeriodExpiry t => timeOk t
  | .ledFallback t => timeOk t
  | .abOpen t _ addr _ _ nonce => timeOk t && (decide (addr < 2 ^ 48) && decide (nonce.length = 16))
  | .abAuth t via => timeOk t && via.wf
  | .abClose t via => timeOk t && via.wf
  | .abKeepalive t via => timeOk t && via.wf
  | .abRead t via _ _ => timeOk t && via.wf
  | .abWrite t via _ _ _ data => timeOk t && via.wf && decide (data.length ≤ 1400)
  | .abReadSegment t via _ _ offset length => timeOk t && via.wf && decide (offset + length ≤ 2 ^ 32)
  | .abWriteSegment t via _ _ offset _ _ data => timeOk t && via.wf && (decide (data.length ≤ 1400) && decide (offset + data.length ≤ 2 ^ 32))
  | .abBulkRead t via _ _ offset length => timeOk t && via.wf && decide (offset + length ≤ 2 ^ 32)
  | .abReadSignal t via _ => timeOk t && via.wf
  | .abWriteSignal t via _ _ data => timeOk t && via.wf && decide (data.length ≤ 1400)
  | .abEvents t via _ => timeOk t && via.wf
  | .sessionOpenTimeout t n => timeOk t && decide (n ≠ 0)
  | .idleTimeout t n => timeOk t && decide (n ≠ 0)
  | .boundaryWrite t _ _ => timeOk t
  | .keyWrite t via level key => timeOk t && via.wf && (decide (key.length = 32) && decide (level ≠ 0))
  | .restoreDefaults t via => timeOk t && via.wf
  | .recorderMeasurement t _ _ _ => timeOk t
  | .recordWrite t _ _ => timeOk t
  | .recorderFault t => timeOk t
  | .codeMapWrite t via _ => timeOk t && via.wf
  | .updBegin t via => timeOk t && via.wf
  | .updBlock t via offset length _ data => timeOk t && via.wf && (decide (data.length ≤ 1024) && decide (offset + length < 2 ^ 32))
  | .updVerify t via => timeOk t && via.wf
  | .updVerifyComplete t badLanes _ => timeOk t && noRepeat badLanes
  | .updActivate t via => timeOk t && via.wf
  | .updAbort t via => timeOk t && via.wf
  | .trialFallback t => timeOk t
  | .fabricReserveExhausted t => timeOk t
  | .pumpedRailAtHoldLevel t _ => timeOk t
  | .counterCauseCleared t => timeOk t
  | .delayReqSend t _ _ => timeOk t
  | .announceSend t _ _ => timeOk t
  | .consumerHeartbeatReceived t _ _ => timeOk t
  | .cisternEccError t => timeOk t

end Sys2Proof
end

