-- ==== Sys2Proof/Tests/Slice0.lean ====
section
/-! SUPPORT. The model's own tests: ill-formed terms that the checks refuse, states that meet the hypotheses of the statements, and single steps
whose results are worked out by hand from the rules that a comment names. -/

set_option Elab.async false

namespace Sys2Proof.Tests

open Sys2Proof Sys2Proof.Machine

/-! ### Well-formedness: each check refuses a term -/

/-- An SDO request, and an Abacus request whose MAC is short. -/
def sdo : Via := .sdo 0
def shortMac : Via := .abacus 1 0 7 0 [1]

theorem test_wf_time : (Instr.cycleBoundary (2 ^ 64)).wf = false ∧ (Instr.cycleBoundary (2 ^ 64 - 1)).wf = true := by decide
theorem test_wf_via : (Instr.cmdRun 0 shortMac).wf = false ∧ (Instr.cmdRun 0 (.abacus 1 0 7 (2 ^ 48) (List.replicate 16 0))).wf = false ∧
    (Instr.cmdRun 0 (.abacus 1 0 7 1 (List.replicate 16 0))).wf = true ∧ (Instr.cmdRun 0 sdo).wf = true := by decide
theorem test_wf_start : (Instr.stage1Complete 0 []).wf = false ∧ (Instr.stage2Complete 0 []).wf = false ∧
    (Instr.supplyReturn 0 false false [1, 1]).wf = false := by decide
theorem test_wf_native (l : List Word) (h : 524288 < l.length) : (Instr.translationComplete 0 .A l).wf = false ∧
    (Instr.laneResetComplete 0 .A l).wf = false := by
  constructor <;> simp only [Instr.wf] <;> simp <;> omega
theorem test_wf_memory_forms : (Instr.xLd .A 0 .u8 0 1 .image false 0).wf = false ∧ (Instr.xSt .A 0 .u8 0 1 false 0).wf = false ∧
    (Instr.xStl .A 0 .u8 0 1 false 0).wf = false ∧ (Instr.xLd .A 0 .u8 0 1 .image true 0).wf = true := by decide
theorem test_wf_num_types : (Instr.xAdd .A 0 .bool 0 0 0).wf = false ∧ (Instr.xSub .A 0 .bool 0 0 0).wf = false ∧ (Instr.xMul .A 0 .bool 0 0 0).wf = false ∧
    (Instr.xDiv .A 0 .bool 0 0 0).wf = false ∧ (Instr.xNeg .A 0 .bool 0 0).wf = false ∧ (Instr.xAbs .A 0 .bool 0 0).wf = false ∧
    (Instr.xMin .A 0 .bool 0 0 0).wf = false ∧ (Instr.xMax .A 0 .bool 0 0 0).wf = false ∧ (Instr.xLimit .A 0 .bool 0 0 0).wf = false ∧
    (Instr.xLt .A 0 .bool 0 0 0).wf = false ∧ (Instr.xLe .A 0 .bool 0 0 0).wf = false ∧ (Instr.xGt .A 0 .bool 0 0 0).wf = false ∧
    (Instr.xGe .A 0 .bool 0 0 0).wf = false := by decide
theorem test_wf_int_types : (Instr.xRem .A 0 .f32 0 0 0).wf = false ∧ (Instr.xAdds .A 0 .f64 0 0 0).wf = false ∧ (Instr.xSubs .A 0 .bool 0 0 0).wf = false ∧
    (Instr.xAddi .A 0 .f32 0 0 0).wf = false ∧ (Instr.xShl .A 0 .bool 0 0 0).wf = false ∧ (Instr.xShr .A 0 .f32 0 0 0).wf = false ∧
    (Instr.xShli .A 0 .f32 0 0 0).wf = false ∧ (Instr.xShri .A 0 .bool 0 0 0).wf = false ∧ (Instr.xRol .A 0 .f64 0 0 0).wf = false ∧
    (Instr.xRor .A 0 .f64 0 0 0).wf = false := by decide
theorem test_wf_float_and_bits : (Instr.xSqrt .A 0 .u8 0 0).wf = false ∧ (Instr.xRint .A 0 .u8 0 0).wf = false ∧ (Instr.xIsnan .A 0 .u8 0 0).wf = false ∧
    (Instr.xAnd .A 0 .f32 0 0 0).wf = false ∧ (Instr.xOr .A 0 .f32 0 0 0).wf = false ∧ (Instr.xXor .A 0 .f32 0 0 0).wf = false ∧
    (Instr.xNot .A 0 .f32 0 0).wf = false := by decide
theorem test_wf_bit_numbers : (Instr.xGetb .A 0 .u8 0 0 8).wf = false ∧ (Instr.xSetb .A 0 .u8 0 0 8).wf = false ∧ (Instr.xClrb .A 0 .bool 0 0 0).wf = false ∧
    (Instr.xGetb .A 0 .u8 0 0 7).wf = true := by decide
theorem test_wf_offsets : (Instr.xJmp .A 0 (-1)).wf = false ∧ (Instr.xBrt .A 0 0 (2 ^ 17)).wf = false ∧ (Instr.xBrf .A 0 0 (-1)).wf = false ∧
    (Instr.xLoop .A 0 0 (-1) 1).wf = false ∧ (Instr.xLoop .A 0 0 (-2) 0).wf = false ∧ (Instr.loopBound .A 0 (-2) 16777217).wf = false ∧
    (Instr.xLoop .A 0 0 (-2) 1).wf = true := by decide
theorem test_wf_steps : (Instr.stepBudget .A 0 (2 ^ 64)).wf = false := by decide
theorem test_wf_pour : (Instr.pour 0 [{ lane := .A, task := 0, writes := [{ size := 0, target := 0, value := 256 }], c1 := 0, c2 := 0 }]).wf =
    false := by decide
theorem test_wf_writes : (Instr.debugWriteVariable 0 0 { size := 1, target := 0, value := 65536 }).wf = false := by decide
theorem test_wf_lists : (Instr.changeSetEffect 0 [.A, .A]).wf = false ∧ (Instr.updVerifyComplete 0 [.B, .B] true).wf = false ∧
    (Instr.mapConfirm 0 sdo []).wf = false ∧ (Instr.keyWrite 0 sdo 1 []).wf = false ∧ (Instr.keyWrite 0 sdo 0 (List.replicate 32 0)).wf = false := by decide
theorem test_wf_message (m : MdTelegram) (h : 16384 < m.data.length) : (Instr.mdRequest 0 m).wf = false := by
  simp only [Instr.wf, MdTelegram.wf]
  simp
  omega
theorem test_wf_frames :
    (Instr.pdReceived 0 { (default : PdTelegram) with udpPort := 65536 }).wf = false ∧
    (Instr.canRpdo 0 0 { cobId := 0, fd := false, data := List.replicate 9 0 }).wf = false ∧
    (Instr.siphonDelta 0 { (default : SiphonFrame) with offset := 2 ^ 32 }).wf = false ∧
    (Instr.refereeGrant 0 { (default : RefereeMsg) with auth := [] }).wf = false ∧
    (Instr.frameReceived 0 1 { (default : EthFrame) with len := 0, payload := [0] }).wf = false ∧
    (Instr.sample 0 0 { (default : SampleIn) with codes := [] }).wf = false := by decide
theorem test_wf_host_lengths : (Instr.sdoDownloadInitiate 0 0 0 0 0 [0, 0, 0, 0, 0]).wf = false ∧ (Instr.sdoBlockTransfer 0 0 0 false []).wf = false ∧
    (Instr.abOpen 0 7 0 0 0 []).wf = false ∧ (Instr.sessionOpenTimeout 0 0).wf = false ∧ (Instr.idleTimeout 0 0).wf = false ∧
    (Instr.abReadSegment 0 sdo 0 0 (2 ^ 32) 1).wf = false ∧ (Instr.updBlock 0 sdo (2 ^ 32) 0 0 []).wf = false ∧
    (Instr.sdoSegment 0 0 false false (List.replicate 8 0)).wf = false := by decide
theorem test_wf_read_back (l : List (Option Bytes)) (h : 128 < l.length) : (Instr.guardianTableCheck 0 l).wf = false := by
  simp only [Instr.wf]
  simp
  omega

/-! ### Small states -/

/-- `n` bytes of zero. -/
def zeros (n : Nat) : Bytes := List.replicate n 0
/-- A task on core 0 that runs in every cycle, an image of it alone, and its release on lane A. -/
def task0 : TaskDef :=
  { task := 0, core := 0, priority := 0, splitLane := 0, fallback := none, period := 1, phase := 0, entryFn := 0, bucketBudget := 1024
    worstSteps := 100, stepBudget := 100, localSize := 64, reads := [], writes := [] }
def app0 : AppImage :=
  { tbCode := 1, minEdition := 0, rollback := 0, funcs := [(0, 0)], code := [], params := [], constData := []
    segs := [{ task := 0, offset := 0x1000000, size := 64, init := [] }], blocks := [], placement := 7, maxStagger := 0, tasks := [task0]
    signals := [], hash := [], ident := 0 }
def noCtx : SealCtx := { crcOk := true, cycle := 0, mode := 3, degraded := false, forced := [] }
def rel0 : Release :=
  { task := 0, opened := 5, closes := 6, fn := 0, pc := 0, regs := List.replicate 64 0, frames := [], scratch := [], loops := [], steps := 0, used := 0
    writes := [], tally := tallyInit, image := List.replicate 8 7, ctx := noCtx, snap := [], consts := [1, 2] }
def ctx0 : XCtx := { td := task0, app := app0, tb := 1000000 }
def running (r : Release) : State :=
  { State.reset with
    lanA := { State.reset.lanA with state := .isIn, core0 := { State.reset.lanA.core0 with releases := [r] } }
    ctl := { State.reset.ctl with mode := .run, stage := 4, image := some app0 } }

theorem runs (steps : Nat) (r : Release) (h : r.steps + steps ≤ 100) (h0 : r.task = 0) : (running r).CanRun .A 0 steps r ctx0 where
  running := rfl
  app := rfl
  task := by rw [h0]; rfl
  tb := rfl
  budget := h
  free := by rintro ⟨h, -⟩; cases h

theorem reset_shaped : State.reset.Shaped where
  tasks := by decide
  insts := by decide
  groups := ⟨by decide, by decide⟩
  ports := by decide
  rings := by decide
  sessions := by decide

/-- A module in STOP with its hosts on: CAN bus 1 carries an SDO client of L2. -/
def host : State :=
  { State.reset with
    tel := { State.reset.tel with can1 := { State.reset.tel.can1 with state := 0 } }
    ctl := { State.reset.ctl with mode := .stop, stage := 4 }
    od := { State.reset.od with running := true, values := [(odKey 0x1200 0x0C, [2])] } }

/-- The SDO client's request is served: the premise of the statements about host commands. -/
def serves (s : State) (f : ReqFrame) : Prop := admission sdo f (s.atTime 0) = (s.atTime 0, some { level := 2, client := 0xFF01, source := 0x80 })

/-! ### States that meet the hypotheses of the statements about XPC -/

theorem wit_XpcResultInstructions : (running rel0).CanRun .A 0 1 rel0 ctx0 := runs 1 rel0 (by decide) rfl
theorem wit_XpcBitAndCompareInstructions : (running rel0).CanRun .A 0 1 rel0 ctx0 := runs 1 rel0 (by decide) rfl
theorem wit_XpcIntegerResults : xInt .u8 = true ∧ xInt .i64 = true ∧ intOf .i8 0x80 ≠ 0 ∧ intOf .i8 (0xFFFFFFFFFFFFFF80 : Word) = xMin .i8 ∧
    intOf .i8 (0xFFFFFFFFFFFFFFFF : Word) = -1 ∧ intOf .u16 0 = 0 ∧
    ¬(intOf .u16 7 = xMin .u16 ∧ intOf .u16 (2 : Word) = -1) := by decide +kernel
theorem wit_XpcFloatNaN : xFloat .f32 = true ∧ (fOf .f32 0x7FC00000).isNan = true ∧ xFloat .f64 = true ∧
    (fOf .f64 0x7FF8000000000000).isNan = true := by decide +kernel
theorem wit_XpcBoolInMemory : (running rel0).CanRun .A 0 1 rel0 ctx0 ∧ storeLegal ctx0 0x1000000 1 = true ∧
    rel0.used + entryCost 1 ≤ bucketBudget task0 ∧ loadNum ctx0 rel0 .image 3 1 = some 7 ∧ loadNum ctx0 rel0 .const 0 1 = some 1 :=
  ⟨runs 1 rel0 (by decide) rfl, by decide +kernel⟩
theorem wit_XpcBranchesAndLoops : (running rel0).CanRun .A 0 1 rel0 ctx0 ∧
    (BitVec.ofNat 64 (((1 : Word).toNat + 2 ^ 32 - 1) % 2 ^ 32) : Word) = 0 ∧
    (BitVec.ofNat 64 (((0 : Word).toNat + 2 ^ 32 - 1) % 2 ^ 32) : Word) ≠ 0 ∧ loopCount rel0 0 + 1 = (1 : BitVec 32).toNat ∧
    loopCount rel0 0 + 1 ≠ (2 : BitVec 32).toNat :=
  ⟨runs 1 rel0 (by decide) rfl, by decide +kernel⟩
def called : Release := { rel0 with frames := [{ fn := 0, ret := 1, regs := rel0.regs, loops := [] }] }
theorem wit_XpcCallsAndStops : (running rel0).CanRun .A 0 1 rel0 ctx0 ∧ rel0.frames.length < 31 ∧ app0.funcs[(0 : BitVec 24).toNat]? = some (0, 0) ∧
    (running called).CanRun .A 0 1 called ctx0 ∧ called.frames ≠ [] ∧ (running rel0).running .A 0 = some rel0 ∧
    (running rel0).taskDef rel0.task = some task0 ∧ task0.stepBudget < rel0.steps + 101 :=
  ⟨runs 1 rel0 (by decide) rfl, by decide, by decide, runs 1 called (by decide) rfl, by decide, rfl, rfl, by decide⟩
theorem wit_XpcLoads : (running rel0).CanRun .A 0 1 rel0 ctx0 ∧ loadNum ctx0 rel0 .image 7 1 = some 7 ∧ loadNum ctx0 rel0 .image 8 1 = none ∧
    3 % xSize .u16 ≠ 0 ∧ 8 % xSize .u64 = 0 :=
  ⟨runs 1 rel0 (by decide) rfl, by decide +kernel⟩
theorem wit_XpcStores : (running rel0).CanRun .A 0 1 rel0 ctx0 ∧ (0x1000000 % xSize .u8 = 0 ∧ storeLegal ctx0 0x1000000 (xSize .u8) = true) ∧
    rel0.used + entryCost (xSize .u8) ≤ bucketBudget task0 ∧ storeLegal ctx0 0 1 = false ∧
    (running { rel0 with used := 1024 }).CanRun .A 0 1 { rel0 with used := 1024 } ctx0 ∧ bucketBudget task0 < 1024 + entryCost 1 ∧
    60 % xSize .u32 = 0 ∧ 60 + xSize .u32 ≤ task0.localSize ∧ Memory.wf rel0.scratch = true ∧ ¬(64 % 4 = 0 ∧ 64 + 4 ≤ task0.localSize) :=
  ⟨runs 1 rel0 (by decide) rfl, by decide +kernel, by decide +kernel, by decide +kernel, runs 1 _ (by decide) rfl, by decide +kernel, by decide, by decide,
    rfl, by decide⟩
theorem wit_XpcClose : (running rel0).CanRun .A 0 1 rel0 ctx0 ∧ rel0.frames = [] ∧
    sealCompose ctx0 (running rel0) { rel0 with steps := 1, pc := 1 } = .go { rel0 with steps := 1, pc := 1 } :=
  ⟨runs 1 rel0 (by decide) rfl, rfl, rfl⟩
theorem wit_XpcBlocks : (∀ k, k ≤ 7 → (running rel0).CanRun .A 0 k rel0 ctx0) ∧
    segOf app0 0 = some { task := 0, offset := 0x1000000, size := 64, init := [] } ∧
    loadNum ctx0 rel0 .store 0x1000000 8 = some 0 ∧ loadNum ctx0 rel0 .store 0x1000008 8 = some 0 ∧ loadNum ctx0 rel0 .store 0x1000000 4 = some 0 ∧
    loadNum ctx0 rel0 .store 0x1000004 4 = some 0 ∧ loadNum ctx0 rel0 .store 0x1000000 1 = some 0 ∧
    (match storeTwo ctx0 0x1000000 8 0 0x1000008 8 0 rel0 with
      | .go _ => true
      | _ => false) = true ∧
    (match storeAt ctx0 0x1000000 1 1 rel0 with
      | .go _ => true
      | _ => false) = true :=
  ⟨fun k h => runs k rel0 (by show 0 + k ≤ 100; omega) rfl, by decide +kernel⟩

/-! ### Votes, the pour, lanes and start -/

/-- A module in mode `m` at `now`, its lanes IN. -/
def live (m : Mode) (now : Nat) : State :=
  let l : LaneSt := { State.reset.lanA with state := .isIn, inSince := some 0, scrub := some tallyInit }
  { State.reset with
    time := { State.reset.time with now }, ctl := { State.reset.ctl with mode := m, stage := 4, image := some app0 }, lanA := l, lanB := l, lanC := l
    cis := { State.reset.cis with poured := false } }

def tally1 : Tally := { p := 1, q := 2 }
theorem wit_VoteOutcomes : (([Lane.A, .B] : List Lane) ≠ [] ∧ [Lane.A, .B].Nodup ∧ (∀ l ∈ [Lane.A, .B], (fun _ => some tally1) l = some tally1)) ∧
    (Lane.A ∈ lanes ∧ (fun l => if l = Lane.A then some tallyInit else some tally1) Lane.A = some tallyInit ∧ tallyInit ≠ tally1 ∧
      ∀ l ∈ lanes, l ≠ Lane.A → (fun l => if l = Lane.A then some tallyInit else some tally1) l = some tally1) ∧
    ((fun l => if l = Lane.C then none else some tally1) Lane.C = none ∧
      ∀ l ∈ lanes, l ≠ Lane.C → (fun l => if l = Lane.C then none else some tally1) l = some tally1) ∧
    ((∃ l ∈ [Lane.A, .B], (fun l => if l = Lane.A then some tallyInit else some tally1) l ≠ none) ∧
      ∀ l ∈ [Lane.A, .B], ∀ k ∈ [Lane.A, .B], (fun l => if l = Lane.A then some tallyInit else some tally1) l =
        (fun l => if l = Lane.A then some tallyInit else some tally1) k → l = k) := by decide
theorem wit_PourLane : [Lane.B].contains (laneOf (0 % 3)) = false ∧ [Lane.B].contains (laneOf (0 % 3 + 1)) = true ∧
    [Lane.C].contains (laneOf (0 % 3)) = false ∧ [Lane.C].contains (laneOf (0 % 3 + 1)) = false ∧
    [Lane.C].contains (laneOf (0 % 3 + 2)) = true ∧ [Lane.A].contains (laneOf (0 % 3)) = true := by decide

def window0 : Window := { core := 0, task := 0, opened := 0, closes := 1, lanes := lanes }
def kept0 : List Kept := lanes.map (fun l => { lane := l, core := 0, task := 0, cyc := 0, tally := tally1 })
/-- The vote deadline of cycle 0 with one window and the Tallies of all lanes. -/
def voting (m : Mode) : State := { live m 950000 with rek := { State.reset.rek with windows := [window0], kept := kept0 } }
theorem wit_VotesComplete : (voting .run).rek.windows.any (fun w => w.named 0 0 0) = true ∧
    ({ voting .run with rek := { (voting .run).rek with kept := [] } }).rek.kept.any (fun k => k.lane = Lane.A && (k.core = 0 && (k.task = 0 && k.cyc == 0))) = false ∧
    (voting .run).rek.windows.any (fun w => w.named 1 0 0) = false ∧
    ((voting .run).ctl.mode.seals = true ∧ ((voting .run).atTime 0).tb ≤ ((voting .run).atTime 0).intoCycle + 95000 ∧ (voting .run).cis.poured = false ∧
      (voting .run).rek.pourDue = false ∧ (voting .run).fab.lockout = 0 ∧ (voting .run).ctl.mode ≠ .hold ∧ 2 ≤ (voting .run).inLanes.length ∧
      (((voting .run).atTime 0).pollScrub none).outcome = .unanimous ∧
      ∀ w ∈ (voting .run).rek.windows, (((voting .run).atTime 0).poll none w).outcome = .unanimous) ∧
    ((voting .hold).ctl.mode = .hold ∧ 2 ≤ (voting .hold).inLanes.length ∧
      (voting .hold).rek.windows.find? (fun w => w.core = 0 && (w.task = 0 &&
        ((((voting .hold).atTime 0).judging none w).all (fun l => (((voting .hold).atTime 0).delivered w l).isSome) &&
          !(((voting .hold).atTime 0).judging none w).isEmpty))) = some window0 ∧
      (((voting .hold).atTime 0).poll none window0).outcome = .unanimous) := by decide +kernel

def badWrite : BWrite := { size := 2, target := 0, value := 1 }
def half0 (ws : List BWrite) : Half := { (halfOf task0 rel0) with writes := ws, closes := 1, c1 := 0, c2 := 0 }
def poured0 (ws : List BWrite) : Poured :=
  { task := 0, core := 0, opened := 0, lane := none, writes := ws, c1 := 0, c2 := 0, tally := bucketTally ws 0 0 }
/-- The pour window with one verdict, whose Bucket on lane A holds `ws`. -/
def pouring (ws : List BWrite) (v : Tally) : State :=
  let s := live .run 960000
  { s with rek := { State.reset.rek with pourDue := true, verdicts := [{ win := window0, agree := [.A], tally := v }] }
           lanA := { s.lanA with halves := [half0 ws] } }
theorem wit_PourComplete : (let s := pouring [] tally1
    s.ctl.mode.seals = true ∧ s.rek.pourDue = true ∧ s.cis.poured = false ∧ (s.atTime 0).intoCycle + 15000 < (s.atTime 0).tb ∧ s.app = some app0) ∧
    (pourWindows [] (pouring [] (bucketTally [] 0 0)).rek.verdicts ((pouring [] (bucketTally [] 0 0)).atTime 0)).2 = some [poured0 []] ∧
    (pourWindows [] (pouring [] tally1).rek.verdicts ((pouring [] tally1).atTime 0)).2 = none ∧
    (pourWindows [] (pouring [badWrite] (bucketTally [badWrite] 0 0)).rek.verdicts ((pouring [badWrite] (bucketTally [badWrite] 0 0)).atTime 0)).2 =
      some [poured0 [badWrite]] ∧ writeOwned app0 0 badWrite = false ∧
    ({ live .run 990000 with ctl := { State.reset.ctl with image := none } }).app = none ∧
    (live .run 990000).tb ≤ (live .run 990000).intoCycle + 15000 ∧ (live .run 990000).cis.poured = false ∧ (live .run 990000).ctl.mode.seals = true ∧
    (live .run 0).cycleNow % (100000000 / (live .run 0).tb) = 0 ∧ (live .run 0).rcd.fault = false ∧ (live .run 0).app ≠ none := by decide +kernel
/-- A recorder with one changed record. -/
def dirty : State := { live .run 0 with rcd := { State.reset.rcd with dirty := [(2, 1)] } }
theorem wit_BoundaryAndRecorderComplete : (live .run 0).ctl.mode ≠ .off ∧ (live .run 0).time.gridFrom ≤ 0 ∧ (live .run 0).intoCycle = 0 ∧
    1 ≤ (live .run 0).ctl.stage ∧ (2, 1) ∈ dirty.rcd.dirty ∧ dirty.rcd.fault = false ∧
    newerIn1 (none, some { seq := 0, crcOk := true, payload := [] }) = true ∧
    ({ dirty with rcd := { dirty.rcd with fault := true } }).rcd.fault = true := by decide

theorem wit_StartAndSupply : State.reset.ctl.mode = .off ∧ (({ State.reset.fab with copyA := State.reset.fab.copyA } : Fabric).chosen).isSome = true ∧
    State.reset.upd.state ≠ .activating ∧
    (let s := { State.reset with ctl := { State.reset.ctl with mode := .boot, stage := 1 }, time := { State.reset.time with now := 250000000 } }
     s.ctl.startAt + 250000000 ≤ (s.atTime 0).time.now) ∧
    (let s := { State.reset with ctl := { State.reset.ctl with mode := .boot, stage := 2 } }
     s.ctl.warm = false ∧ (s.atTime 0).loaded (s.atTime 0).slotBytes = none) ∧
    (let s := { State.reset with ctl := { State.reset.ctl with mode := .boot, stage := 3 }, sw := { State.reset.sw with running := true } }
     s.ctl.warm = false ∧ s.ctl.pending = none ∧ s.sw.running = true ∧ s.pair.inPair = false ∧ s.app = none) ∧
    (let s := { State.reset with ctl := { State.reset.ctl with mode := .faultStop, stage := 3 } }
     s.ctl.stage < 4 ∧ s.sw.running = false) ∧
    (let s := { State.reset with ctl := { State.reset.ctl with mode := .boot, stage := 3 }, time := { State.reset.time with now := 100000000000 } }
     s.ctl.stage = (3 : Fin 4).val ∧ stageDeadline 3 ≤ (s.atTime 0).startMs) ∧
    (let s := { live .run 100000000 with ctl := { (live .run 0).ctl with onStore := true, exhausted := some 0 } }
     s.ctl.exhausted = some 0 ∧ 0 + 100000000 ≤ (s.atTime 0).time.now) ∧
    (let s := { live .run 0 with ctl := { (live .run 0).ctl with onStore := true } }
     s.ctl.onStore = true ∧ s.ctl.exhausted = none) ∧
    ((live .run 0).ctl.mode ≠ .off ∧ (live .run 0).ctl.stage ≠ 0 ∧ (live .run 0).ctl.onStore = false) ∧
    (let s := { live .run 0 with fab := { State.reset.fab with powered := true, fired := true } }
     s.fab.powered = true ∧ s.fab.fired = true) ∧
    (let s := { live .boot 0 with ctl := { (live .boot 0).ctl with warm := true } }
     s.ctl.mode = .boot ∧ s.ctl.warm = true) := by decide +kernel

def image0 : Image := { cycle := 0, bytes := [], ctx := noCtx }
/-- Cycle 0 with its image sealed and in every Standpipe, lane A with its token. -/
def tokens (m : Mode) : State :=
  let s := live m 70000
  { s with ctl := { s.ctl with imageReady := true, sealed := some image0, ownImage := some image0 }
           lanA := { s.lanA with token := some (0, 60000), standpipe := [image0] } }
theorem wit_ImageAndTokensComplete : ((live .run 70000).ctl.mode.seals = true ∧ (live .run 70000).ctl.ownImage = none ∧
      60000 ≤ ((live .run 70000).atTime 0).intoCycle ∧ (live .run 70000).inLanes ≠ []) ∧
    ((tokens .run).gridPlace .B = some 1 ∧ (tokens .run).ctl.imageReady = true ∧ (tokens .run).ctl.sealed = some image0 ∧
      image0.cycle = ((tokens .run).atTime 0).cycleNow ∧ (tokens .run).ctl.sealAt + 1000 * (tokens .run).ctl.stagger * 1 ≤ ((tokens .run).atTime 0).time.now ∧
      ((tokens .run).lane .B).tokenFor ≠ some 0) ∧
    (((tokens .run).lane .A).token = some (0, 60000) ∧ 60000 + 20000 ≤ ((tokens .run).atTime 80000).time.now) ∧
    (((tokens .run).lane .A).state = .isIn ∧ ((tokens .run).atTime 0).time.now ≤ 60000 + 20000 ∧
      (((tokens .run).lane .A).standpipe.filter (fun i => i.cycle ≤ 0)).getLast? = some image0) ∧
    ((tokens .hold).ctl.mode = .hold ∧ ((tokens .hold).lane .A).standpipe = [image0]) := by decide +kernel
def oneLane (l : LaneSt) (m : Mode) : State := { live m 0 with lanA := l }
theorem wit_LaneStatesComplete : ((live .run 0).lane .A).state = .isIn ∧ ((oneLane { State.reset.lanA with state := .excluded } .run).lane .A).state = .excluded ∧
    (let s := oneLane { State.reset.lanA with state := .reintegrating, copySince := some 0 } .run
     (s.lane .A).copySince = some 0 ∧ (s.lane .A).state = .reintegrating ∧ (s.lane .A).verified = false ∧
     (s.atTime 250000000).time.now ≤ 0 + 250000000 ∧ 0 + 250000000 ≤ (s.atTime 250000000).time.now) ∧
    (let s := oneLane { State.reset.lanA with state := .reintegrating, verified := true } .run
     (s.lane .A).state = .reintegrating ∧ (s.lane .A).verified = true ∧ (s.atTime 0).macroStart (s.atTime 0).cycleNow = true ∧
     (s.lane .A).rejoinFrom ≤ (s.atTime 0).cycleNow ∧ s.ctl.imageReady = false ∧ s.ctl.mode.seals = true) := by decide +kernel

/-! ### A session of L3 -/

/-- Session 1 is open at L3 on port E7. -/
def l3 (s : State) : State :=
  { s with od := { s.od with running := true, sessions := (List.replicate 9 ({} : Session)).set 1 { state := 2, client := 5, level := 3, port := 7 } } }
/-- A request of that session with its right MAC. -/
def via3 (f : ReqFrame) : Via := .abacus 1 1 7 0 (frameMac [] 1 1 f)

theorem token_taken (n : Fin 9) (s : State) (b : Option Bucket) (hb : (s.session n).bucket = b)
    (h : (takeToken s.time.now (s.odNat 0x1200 0x05) (s.odNat 0x1200 0x06) b).2 = true) : (sessionToken n s).2 = true := by
  unfold sessionToken
  rw [hb]
  simp only [h, if_true]

/-- The state once such a request is admitted, and its caller. -/
def after3 (f : ReqFrame) (s : State) : State :=
  (sessionToken 1 (l3 s)).1.modSession 1 (fun y => { Session.keepAsm f y with
    lastSeq := 1, stored := none, lastAt := (l3 s).time.now, served := (y.served + 1) % 2 ^ 32 })
def caller3 : Caller := { level := 3, client := 5, source := 1 }
/-- A request of the session of L3 is served. -/
theorem serves3 (s : State) (f : ReqFrame) (hp : (l3 s).portOn 7 = true)
    (ht : (takeToken (l3 s).time.now ((l3 s).odNat 0x1200 0x05) ((l3 s).odNat 0x1200 0x06) none).2 = true) :
    admission (via3 f) f (l3 s) = (after3 f s, some caller3) := by
  have h1 : (l3 s).session 1 = { state := 2, client := 5, level := 3, port := 7 } := rfl
  have h2 : (l3 s).od.running = true := rfl
  have ht' : (sessionToken 1 (l3 s)).2 = true := token_taken 1 (l3 s) none (by rw [h1]) ht
  unfold admission via3
  simp [h2, hp, admitSession, h1, ht', after3, caller3]
/-! ### Modes, forces, change sets, lanes and tasks -/

theorem wit_ModeCommands : serves host (writeReq 0x1101 0x01 .u8 [1]) ∧ serves host (writeReq 0x1101 0x01 .u8 [5]) ∧ (if (5 : Nat) = 6 then 3 else 2) ≤ 2 ∧
    (∀ f, admission (via3 f) f ((l3 (live .run 0)).atTime 0) = (after3 f (live .run 0), some caller3)) ∧
    (let s := { live .stop 1000000 with ctl := { (live .stop 0).ctl with pending := some (.run, 1), result := 1 } }
     1 ≤ (s.atTime 0).cycleNow ∧ s.pair.state = .alone ∧ s.ctl.result = 1 ∧ s.ctl.pending = some (.run, 1) ∧ s.ctl.mode = .stop ∧
     s.pair.handover = none) ∧
    (let s := { live .hold 1000000 with ctl := { (live .hold 0).ctl with pending := some (.resume, 1), result := 1 } }
     s.ctl.pending = some (.resume, 1) ∧ s.ctl.mode = .hold) := by
  exact ⟨rfl, rfl, by decide, fun f => serves3 (live .run 0) f (by decide +kernel) (by decide +kernel), by decide, by decide⟩
theorem wit_WarmRestart : (let s := { live .faultStop 0 with ctl := { (live .faultStop 0).ctl with warmRestart := some 7 } }
     s.ctl.warmRestart = some 7 ∧ s.ctl.mode = .faultStop ∧ warmAllReset 7 = true ∧ (s.atTime 0).intoCycle = 0) ∧
    (let s := { live .boot 0 with ctl := { (live .boot 0).ctl with warmRestart := some 63, warm := true } }
     (s.atTime 0).warmPassed 63 = true ∧ (s.atTime 0).macroStart (s.atTime 0).cycleNow = true ∧ s.pair.inPair = false ∧ s.pair.state = .alone) ∧
    (let s := { live .boot 1500000000 with ctl := { (live .boot 0).ctl with warmRestart := some 0, warm := true } }
     (warmAllReset 0 && (s.atTime 0).warmPassed 0) = false ∧ (s.atTime 0).warmSince + 1500000000 ≤ (s.atTime 0).time.now) := by decide +kernel

def force0 : Force := { kind := 2, target := 0, value := 1 }
/-- The host's module with one force entry in use. -/
def forced (f : Force) : State := { host with ctl := { host.ctl with forces := [(0, f)], image := some app0 } }
theorem wit_ForceEntries : serves (forced force0) (writeReq 0x2200 1 .u8 [3]) ∧ serves (forced force0) (writeReq 0x2200 2 .u16 [0xFF, 0x3F]) ∧
    serves (forced force0) (writeReq 0x2200 3 .u64 [1, 0, 0, 0, 0, 0, 0, 0]) ∧ serves (forced force0) (writeReq 0x2200 4 .u8 [1]) ∧
    serves (forced force0) (writeReq 0x2200 4 .u8 [2]) ∧
    (let q := (forced force0).atTime 0
     (unrefuseEntry 0 2 1 q).writeFault 0x2200 1 2 = stOk ∧ ((unrefuseEntry 0 2 1 q).force 0).state = .free ∧ q.follows = false ∧
     (unrefuseEntry 0 2 4 q).activateFault 0 2 ((unrefuseEntry 0 2 4 q).force 0) = stOk) ∧
    (let q := (forced { force0 with kind := 0 }).atTime 0
     ((unrefuseEntry 0 2 4 q).force 0).state = .free ∧ (unrefuseEntry 0 2 4 q).writeFault 0x2200 4 2 = stOk ∧
     (unrefuseEntry 0 2 4 q).activateFault 0 2 ((unrefuseEntry 0 2 4 q).force 0) ≠ stOk) ∧
    (let q := (forced { force0 with state := .active }).atTime 0
     ((unrefuseEntry 0 2 3 q).force 0).busy = true ∧ q.forceValueBad { force0 with state := .active } 1 = false ∧
     ((unrefuseEntry 0 2 4 q).force 0).state = .active ∧ ((unrefuseEntry 0 2 4 q).forceVital { force0 with state := .active } && decide (2 < 2)) = false) ∧
    (let s := forced { force0 with state := .pending, effective := 0 }
     (s.force 0).state = .pending ∧ (s.force 0).effective ≤ (s.atTime 0).cycleNow ∧ (s.force 0).removing = false) := by
  refine ⟨rfl, rfl, rfl, rfl, rfl, ?_, ?_, ?_, ?_⟩ <;> decide +kernel
/-- The host's module in mode `m` with an image. -/
def hostIn (m : Mode) (a : AppImage) : State := { host with ctl := { host.ctl with mode := m, image := some a } }
def param0 : ParamDef := { name := [], offset := 0, ty := 1, cls := 2, min := 0, max := 10 }
/-- A staged change set that sets parameter 0, and the image that has it. -/
def set0 : Bytes := zeros 8 ++ [5] ++ zeros 7
def staging (b : Bytes) : State :=
  let s := hostIn .stop { app0 with params := [param0] }
  { s with ctl := { s.ctl with change := { staged := b } } }
theorem wit_ChangeSets : serves (staging set0) (writeReq 0x2300 0x03 .u8 [1]) ∧ serves (staging []) (writeReq 0x2300 0x03 .u8 [1]) ∧
    serves (staging set0) (writeReq 0x2300 0x03 .u8 [2]) ∧
    (((staging set0).atTime 0).app = some { app0 with params := [param0] } ∧ ((staging set0).atTime 0).setReason 2 = 0 ∧
      ((staging set0).atTime 0).stagedSet = [(0, 5)] ∧ ((staging []).atTime 0).setReason 2 ≠ 0 ∧
      (if ((staging set0).atTime 0).setVital ((staging set0).atTime 0).stagedSet = true then 2 else 1) ≤ 2) ∧
    (let s := { live .run 0 with
        ctl := { (live .run 0).ctl with change := { pending := [(0, 5)] } }, lanA := { State.reset.lanA with paramsNew := some ([], 0) } }
     s.ctl.change.pending.isEmpty = false ∧ s.ctl.change.effective ≤ (s.atTime 0).cycleNow ∧ (s.lane .A).paramsNew = some ([], 0)) := by
  refine ⟨rfl, rfl, rfl, ?_, ?_⟩ <;> decide +kernel

/-- A module whose Safety Map has the flags that let it be debugged. -/
def mapped (f : BitVec 8) (is : List MapInst) : Option (Bytes × SafetyMap) :=
  some ([], { flags := f, ack1 := 0xFF, ack2 := 0xFF, testInterval := 1, testPulse := 10, version := 0, vital := [], insts := is })
def holding : State := { hostIn .hold app0 with fab := { State.reset.fab with map := mapped 0xFF [] } }
def faulted : State := { host with ctl := { host.ctl with tasks := { ({} : TaskSt) with faultA := true } :: List.replicate 15 {} } }
/-- A request of the session of L3 to a module in STOP is served. -/
theorem l3_stop (f : ReqFrame) : admission (via3 f) f ((l3 (live .stop 0)).atTime 0) = (after3 f (live .stop 0), some caller3) :=
  serves3 (live .stop 0) f (by decide +kernel) (by decide +kernel)
theorem wit_LaneAndTaskWrites : serves host (writeReq 0x2000 0x08 .u8 (leBytes 1 1)) ∧ (after3 (writeReq 0x2002 0x01 .u16 (leBytes 2 0)) (live .stop 0)).plainFault 0x2002 0x01 3 .u16 (leBytes 2 0) = stOk ∧
    serves (hostIn .run app0) (writeReq 0x2003 0x02 .u8 (leBytes 1 7)) ∧ serves holding (writeReq 0x2000 0x20 .domain []) ∧
    serves faulted (writeReq 0x2100 0x0E .u8 (leBytes 1 1)) ∧ faulted.Shaped ∧
    ((host.atTime 0).writeFault 0x2000 0x08 2 = stOk ∧ laneCode 1 = .A ∧ ((host.lane .A).state = .excluded ∨ (host.lane .A).state = .out)) ∧
    (let s := hostIn .run app0
     (s.atTime 0).writeFault 0x2003 0x02 2 = stOk ∧ s.ctl.mode = .run ∧ (s.atTime 0).placementBad (BitVec.ofNat 4 7) = false ∧ s.ctl.moveState = 0) ∧
    (holding.ctl.mode = .hold ∧ (holding.atTime 0).mapFlag 5 = true) ∧
    ((faulted.atTime 0).writeFault 0x2100 0x0E 2 = stOk ∧ (faulted.task 0).faulted (laneCode 1) = true) := by
  refine ⟨rfl, ?_, rfl, rfl, rfl, ?_, ?_, ?_, ?_, ?_⟩
  rotate_left
  · exact { reset_shaped with tasks := by decide }
  all_goals decide +kernel

/-- A module whose placement change stands at `k`. -/
def moving (k now : Nat) : State := { live .run now with ctl := { (live .run 0).ctl with moveState := k, requested := 3, placement := 7 } }
/-- A module in HOLD with its debugger attached and a release of task 0 open. -/
def debugged : State :=
  { running rel0 with ctl := { (running rel0).ctl with mode := .hold, debugger := true, breakpoints := [0] } }
theorem wit_PlacementAndDebugger :
    (let s := moving 1 0
     (s.atTime 0).macroStart (s.atTime 0).cycleNow = true ∧ s.ctl.imageReady = false ∧ s.ctl.moveState = 1 ∧ s.ctl.moveAt ≤ (s.atTime 0).cycleNow) ∧
    (let s := moving 2 ((live .run 0).macroM * 1000000)
     (s.atTime 0).macroStart (s.atTime 0).cycleNow = true ∧ s.ctl.moveState = 2 ∧ s.ctl.moveAt + (s.atTime 0).macroM ≤ (s.atTime 0).cycleNow) ∧
    (let s := { live .run 0 with ctl := { (live .run 0).ctl with placement := 6 } }
     s.taskDef 0 = some task0 ∧ s.triple task0.core = false ∧ s.startLane task0 = some .A ∧ (s.task 0).onLane ≠ some .A) ∧
    (debugged.ctl.mode = .hold ∧ debugged.ctl.debugger = true ∧ debugged.running .A 0 = some rel0 ∧
      coreNos.findSome? (fun c => (debugged.running .A c).filter (fun r => r.pc = 0)) = some rel0 ∧ debugged.ctl.breakpoints.contains 0 = true) := by
  decide +kernel
/-! ### The fabric -/

/-- An instance of type `ty` on channels 0 and 1 that governs channel 16 and has a RST pair. -/
def inst0 (ty : Nat) : MapInst :=
  { type := ty, options := 0, request := 0xFFFF, ins := [0, 1, 0xFF, 0xFF, 0xFF], rst := [2, 3], outs := [16, 0xFF, 0xFF, 0xFF], warn := 0xFF, outkind := 0
    t1 := 50, t2 := 5000, t3 := 1000, t4 := 0 }
/-- A module whose fabric runs one such instance `i` at `now`, its inputs closed. -/
def fabricAt (ty : Nat) (i : Inst) (now : Nat) : State :=
  { live .run now with fab := { State.reset.fab with
      powered := true, map := mapped 0xFF [inst0 ty], insts := i :: List.replicate 15 {}, taps := 3 :: List.replicate 7 0, openFor := [(16, 4000)]
      linkOk := 1, linkFor := 4000 :: List.replicate 7 0 } }
def link0 : BitVec 96 := BitVec.ofNat 96 (crc16 (beBytes 10 0))
theorem fabric_shaped (ty : Nat) (i : Inst) (now : Nat) : (fabricAt ty i now).Shaped := { reset_shaped with insts := rfl }
theorem wit_FabricSamples : (∀ ty i now, (fabricAt ty i now).fab.powered = true ∧ (fabricAt ty i now).Shaped) ∧
    (crc16 (beBytes 10 (link0.toNat / 2 ^ 16)) = link0.toNat % 2 ^ 16 ∧
      crc16 (beBytes 10 ((link0 + 1).toNat / 2 ^ 16)) ≠ (link0 + 1).toNat % 2 ^ 16 ∧
      (fabricAt 1 {} 0).fab.linkSeq[field link0.toNat 87 85]?.getD none = none) ∧
    (let s := fabricAt 1 { state := .run } 100000
     (s.fab.linkAt[(0 : Fin 8).val]?.getD 0) + 100000 ≤ (s.atTime 0).time.now ∧ s.mapInst 0 = some (inst0 1) ∧ (inst0 1).usesGroup 0 = true ∧
     s.fab.lockout = 0 ∧ (s.inst 0).state = .run) ∧
    (let s := fabricAt 1 { state := .run, disagree1 := 3000 } 0
     (overUs (s.inst 0).disagree1 (inst0 1).discrepancy || overUs (s.inst 0).disagree2 (inst0 1).discrepancy) = true) ∧
    (let s := fabricAt 1 { state := .tripped } 0
     (s.inst 0).state = .tripped ∧ (inst0 1).type ≠ 3 ∧ (s.inst 0).request = false ∧ (s.inst 0).owed = false ∧ returnMet (s.atTime 0) 0 (inst0 1) = true) ∧
    (let s := fabricAt 3 { state := .run, v := 240000 } 0
     s.mapInst 0 = some (inst0 3) ∧ (inst0 3).type = 3 ∧ (s.inst 0).state = .run ∧ (s.inst 0).warn = false ∧ 40 * (inst0 3).t2 ≤ (s.inst 0).v ∧
     40 * ((inst0 3).t2 + (inst0 3).t3) ≤ (s.inst 0).v) :=
  ⟨fun ty i now => ⟨rfl, fabric_shaped ty i now⟩, by decide +kernel⟩
theorem wit_PulsesComplete :
    (let s := fabricAt 1 { state := .run } 0
     s.fab.pulse = none ∧ s.fabCloses 16 = true ∧ s.fab.pulseEnd = none ∧ (0 : Nat) ∈ s.governors 16) ∧
    (let s := { fabricAt 1 { state := .run } 100000 with fab := { (fabricAt 1 { state := .run } 0).fab with pulse := some (16, 0) } }
     s.fab.pulse = some (16, 0) ∧ 0 + 10000 * (s.smap.map (·.testPulse)).getD 0 ≤ (s.atTime 0).time.now ∧
     (s.fab.lowRb[(16 : Fin 128).val / 16]?.getD 0).getLsbD ((16 : Fin 128).val % 16) = false ∧
     ({ s with fab := { s.fab with lowRb := [0, 1] } }.fab.lowRb[(16 : Fin 128).val / 16]?.getD 0).getLsbD ((16 : Fin 128).val % 16) = true) ∧
    (let s := { fabricAt 1 {} 0 with fab := { (fabricAt 1 {} 0).fab with stuckFor := [(16, 22)] } }
     s.governors 16 ≠ [] ∧ overUs (sGet 0 16 s.fab.stuckFor) 500 = true ∧ s.fab.stopped.any (fun e => e.2 == 16) = false) ∧
    (pulseValid 0 50000000 250000000 300000000 = true ∧ pulseValid 0 0 199999999 199999999 = false) ∧
    (let s := fabricAt 1 { state := .locked, cause := 0x01 } 0
     s.mapFlag 6 = true ∧ (s.smap.map (fun m => m.ack1 != 0xFF)).getD false = false ∧ (s.inst 0).state = .locked ∧ causeGone (s.atTime 0) 0 (inst0 1) = true) ∧
    (let s := fabricAt 1 { state := .tripped, owed := true } 0
     s.mapInst 0 = some (inst0 1) ∧ (inst0 1).hasRst = true ∧ (s.inst 0).state = .tripped ∧ (s.inst 0).owed = true ∧
     returnMet (s.atTime 0) 0 (inst0 1) = true ∧ s.fab.lockout = 0) := by decide +kernel

/-- The request frame of cycle 1 in mode RUN, with its CRC. -/
def req0 : BitVec 128 :=
  let n := (1 * 2 ^ 96 + 3 * 2 ^ 92) / 2 ^ 16
  BitVec.ofNat 128 (n * 2 ^ 16 + crc16 (beBytes 14 n))
theorem wit_RequestLinkAndLockout :
    (let s := fabricAt 1 {} 0
     s.fab.powered = true ∧ (s.atTime 0).frameValid req0 = true ∧ s.fab.fired = false ∧ (s.atTime 0).frameValid (req0 + 1) = false ∧ s.fab.lockout = 0) ∧
    (let s := { fabricAt 1 {} 3000000 with fab := { (fabricAt 1 {} 0).fab with expect := some 1 } }
     s.fab.expect = some 1 ∧ 1 ≤ diff32 (((s.atTime 0).time.now + 10000) / (s.atTime 0).tb % 2 ^ 32) (1 : BitVec 32).toNat ∧
     diff32 (((s.atTime 0).time.now + 10000) / (s.atTime 0).tb % 2 ^ 32) (1 : BitVec 32).toNat < 2 ^ 31) ∧
    (let s := fun now => { fabricAt 1 {} now with fab := { (fabricAt 1 {} 0).fab with runStart := some 0 } }
     (s 0).time.strobeMark = false ∧ (s 0).fab.runStart = some 0 ∧ ((s 0).atTime 0).time.now < 0 + 100000000 ∧
     0 + 100000000 ≤ ((s 100000000).atTime 0).time.now ∧ ((((s 0).fab.runTicks + 105000 : Nat) : Int) - 100000).natAbs ≤ 5000 ∧
     5000 < ((((s 0).fab.runTicks + 94999 : Nat) : Int) - 100000).natAbs) := by decide +kernel

/-- A module in STOP with a session of L3 and the fabric `f`. -/
def mapping (f : Fabric) : State := { live .stop 0 with fab := f }
theorem l3_map (f : Fabric) (r : ReqFrame) : admission (via3 r) r ((l3 (mapping f)).atTime 0) = (after3 r (mapping f), some caller3) :=
  serves3 (mapping f) r (show (l3 (live .stop 0)).portOn 7 = true by decide +kernel)
    (show (takeToken (l3 (live .stop 0)).time.now ((l3 (live .stop 0)).odNat 0x1200 0x05) ((l3 (live .stop 0)).odNat 0x1200 0x06) none).2 = true by
      decide +kernel)
theorem wit_SafetyMapCommands :
    (∀ f r, admission (via3 r) r ((l3 (mapping f)).atTime 0) = (after3 r (mapping f), some caller3)) ∧
    ((mapping State.reset.fab).ctl.mode = .stop ∧ State.reset.fab.writing = none ∧ mapReason emptyMap = 0 ∧ mapReason [] ≠ 0) ∧
    ((Config.sha256 emptyMap).length = 32 ∧ (∃ d : Bytes, d.length = 32 ∧ d ≠ Config.sha256 emptyMap) ∧
      ∀ r q : ReqFrame, sameCaller (via3 r) (via3 q) = true) ∧
    (let s := { live .run 60000000000 with fab := { State.reset.fab with staged := some (emptyMap, 0, sdo) } }
     s.fab.staged = some (emptyMap, 0, sdo) ∧ 0 + 60000000000 ≤ (s.atTime 0).time.now) ∧
    (let s := { live .stop 0 with fab := { State.reset.fab with writing := some emptyMap } }
     s.Shaped ∧ s.fab.writing = some emptyMap) ∧
    (let s := fabricAt 1 {} 0
     s.fab.powered = true ∧ s.fab.map = mapped 0xFF [inst0 1] ∧
     copyBytes (altered s.fab.copyA (some [1])) = (some [1]).getD ([] : Bytes) ∧ copyBytes (altered s.fab.copyB (some [1])) = (some [1]).getD ([] : Bytes) ∧
     copyBytes (altered s.fab.copyA none) ≠ (some [1]).getD ([] : Bytes) ∧ copyBytes (altered s.fab.copyB none) ≠ (some [1]).getD ([] : Bytes) ∧
     s.fab.lockout = 0) := by
  refine ⟨l3_map, by decide +kernel, ⟨Vector.length_toList, ?_, fun r q => rfl⟩, by decide, ⟨{ reset_shaped with }, rfl⟩, by decide⟩
  rcases Classical.em (List.replicate 32 0 = Config.sha256 emptyMap) with h | h
  · exact ⟨List.replicate 32 1, rfl, fun k => absurd (h.trans k.symm) (by decide)⟩
  · exact ⟨List.replicate 32 0, rfl, h⟩
/-! ### Field groups and outputs -/

/-- A module whose group G1 is `g`. -/
def groupAt (g : Group) (now : Nat) : State := { live .run now with fio := { State.reset.fio with groups := g :: List.replicate 7 {} } }
theorem group_shaped (g : Group) (now : Nat) (h : g.chans.length = 16) : (groupAt g now).Shaped :=
  { reset_shaped with
    groups := ⟨rfl, fun q hq => by
      simp only [groupAt, List.mem_cons, List.mem_replicate] at hq
      rcases hq with rfl | ⟨-, rfl⟩
      · exact h
      · rfl⟩ }
/-- Bytes with their CRC, as the serial links of the groups carry them. -/
def framed (b : Bytes) : Bytes := b ++ leBytes 2 (crc16 b)
theorem framed_ok (g : Fin 8) (k : Byte) (r : Bytes) :
    linkFrameOk g k.toNat (r.length + 4) (framed (k :: BitVec.ofNat 8 (g.val + 1) :: r)) = true := by
  have hg := g.isLt
  have hk := k.isLt
  have e : ∀ c : Nat, c < 65536 → leNat (leBytes 2 c) = c := fun c h => by
    simp only [leBytes, leNat, BitVec.toNat_ofNat]
    omega
  have hc : crc16 (k :: BitVec.ofNat 8 (g.val + 1) :: r) < 65536 := BitVec.isLt _
  have l : (leBytes 2 (crc16 (k :: BitVec.ofNat 8 (g.val + 1) :: r))).length = 2 := rfl
  have n : r.length + 4 - 2 = (k :: BitVec.ofNat 8 (g.val + 1) :: r).length := by simp
  unfold linkFrameOk framed
  rw [n]
  have t : leAt ((k :: BitVec.ofNat 8 (g.val + 1) :: r) ++ leBytes 2 (crc16 (k :: BitVec.ofNat 8 (g.val + 1) :: r)))
      (k :: BitVec.ofNat 8 (g.val + 1) :: r).length 2 = crc16 (k :: BitVec.ofNat 8 (g.val + 1) :: r) := by
    unfold leAt slice
    rw [List.drop_left, List.take_of_length_le (by rw [l]), e _ hc]
  rw [t, List.take_left]
  simp [leAt, slice, leNat, l]
  omega
def chan0 (c : Chan) : Group := { up := true, chans := c :: List.replicate 15 {} }
theorem wit_FieldGroups :
    ((groupAt { up := true } 0).Shaped ∧ ((groupAt { up := true } 0).group 0).up = true) ∧
    (let s := groupAt { up := true } 0
     linkFrameOk 0 0x01 (0x4C + 8 * ((s.atTime 0).group 0).countChans.length + 2) (framed (1 :: 1 :: zeros 74)) = true ∧
       leAt (framed (1 :: 1 :: zeros 74)) 2 2 = (s.atTime 0).cycleNow % 65536) ∧
    (let s := groupAt { up := true } 0
     (s.atTime 0).intoCycle ≤ 36000 ∧ ¬ (((s.atTime 0).group 0).linkLost = true ∧ ((s.atTime 0).group 0).frameSeen = true) ∧
     linkFrameOk 0 0x01 (0x4C + 8 * ((s.atTime 0).group 0).countChans.length + 2) [] = false) ∧
    (let s := { groupAt { up := true } 0 with od := { State.reset.od with values := [(odKey 0x3100 0x02, [1])] } }
     let b := framed [2, 1, 1, 0, 0, 0, 0, 8]
     linkFrameOk 0 0x02 (4 + 4 * leAt b 2 1 + 2) b = true ∧ 1 ≤ leAt b 2 1 ∧ leAt b 2 1 ≤ 16 ∧ leAt b 2 1 = 1 ∧
     (s.atTime 0).odBool (0x3100 + (16 * (0 : Fin 8).val + field (leAt b 4 4) 31 28 % 16)) 0x02 = true ∧ (s.atTime 0).imageSealedNow = false ∧
     linkFrameOk 0 0x02 (4 + 4 * leAt [] 2 1 + 2) [] = false) ∧
    (let s := groupAt {} 36000
     ((s.atTime 0).group 0).frameSeen = false ∧ 36000 ≤ (s.atTime 0).intoCycle) ∧
    (let s := groupAt (chan0 { func := 0x10 }) 0
     (isInputFn (((s.atTime 0).group 0).chan 0).fn && !aligned 0 ((s.atTime 0).odNat (gIndex 0) 0x02)) = true ∧
     (isInputFn (((s.atTime 0).group 0).chan 1).fn && !aligned 0 ((s.atTime 0).odNat (gIndex 0) 0x02)) = false) ∧
    ((groupAt { ack := some true } 0).atTime 0).group 0 = { ack := some true } ∧
    (let s := { groupAt {} 0 with fio := { (groupAt {} 0).fio with swapState := 1 } }
     s.fio.swapState = 1 ∧ s.fio.swapAt ≤ (s.atTime 0).cycleNow) ∧
    (let s := { groupAt (chan0 { state := true, onFor := 5000 }) 0 with od := { State.reset.od with values := [(odKey 0x3100 0x04, [1, 0])] } }
     (s.atTime 0).odNat (chIndex 0) 0x04 ≠ 0 ∧ (s.chan 0).maxOn = false ∧ (s.chan 0).state = true ∧
     overUs (s.chan 0).onFor ((s.atTime 0).odNat (chIndex 0) 0x04 * 100000) = true) := by
  refine ⟨⟨group_shaped _ _ rfl, rfl⟩, ⟨framed_ok 0 1 (zeros 74), by decide +kernel⟩, ?_⟩
  decide +kernel

/-- The reset entry of a bank. -/
def entry0 : BitVec 128 := 0x0100800000000258012C004000000000#128
/-- The host's module whose channel 0 has function `f` stored, and alignment 1. -/
def fielded (f : BitVec 8) : State :=
  { host with od := { host.od with values := (odKey 0x3100 0x01, [f]) :: (odKey 0x3001 0x02, [1]) :: host.od.values } }
theorem wit_FieldWrites : host.Shaped ∧ (live .stop 0).Shaped ∧
    (∀ f, admission (via3 f) f ((l3 (live .stop 0)).atTime 0) = (after3 f (live .stop 0), some caller3)) ∧
    serves host (writeReq (bankIndex false 0) 1 .ostring (beBytes 16 entry0.toNat)) ∧
    serves (fielded 0x10) (writeReq (bankIndex false 0) 1 .ostring (beBytes 16 entry0.toNat)) ∧ serves host (writeReq 0x3220 0x09 .u8 [1]) ∧
    (let q (i u : Nat) (ty : OdType) (d : Bytes) : State := after3 (writeReq i u ty d) (live .stop 0)
     (q (chIndex 0) 0x01 .u8 (leBytes 1 0x10)).plainFault (chIndex 0) 0x01 3 .u8 (leBytes 1 0x10) = stOk ∧
     (q (gIndex 0) 0x02 .u8 (leBytes 1 63)).plainFault (gIndex 0) 0x02 3 .u8 (leBytes 1 63) = stOk ∧
     (q (gIndex 0) 0x02 .u8 (leBytes 1 63)).bankMisaligned false 0 63 = false ∧ (q (gIndex 0) 0x02 .u8 (leBytes 1 63)).bankMisaligned true 0 63 = false ∧
     (q (chIndex 0) 0x10 .u8 [1]).plainFault (chIndex 0) 0x10 3 .u8 [1] = stOk ∧ (q (gIndex 0) 0x11 .bool [0]).plainFault (gIndex 0) 0x11 3 .bool [0] = stOk ∧
     (q (chIndex 0) 0x11 .u16 (leBytes 2 600)).plainFault (chIndex 0) 0x11 3 .u16 (leBytes 2 600) = stOk) ∧
    (let q := host.atTime 0
     writeRight (bankIndex false 0) 1 2 = stOk ∧ q.bankWritable (chGroup 0) false = true ∧
     typeBad (bankIndex false 0) 1 .ostring (beBytes 16 entry0.toNat) = stOk ∧ entryRange entry0 = true ∧
     (isInputFn (q.chanFn 0) && !aligned entry0 (q.odNat (gIndex (chGroup 0)) 0x02)) = false ∧
     (isInputFn (((fielded 0x10).atTime 0).chanFn 0) && !aligned entry0 (((fielded 0x10).atTime 0).odNat (gIndex (chGroup 0)) 0x02)) = true) ∧
    (let q := host.atTime 0
     q.writeFault 0x3220 0x09 2 = stOk ∧
     groupNos.any (fun g => (1 : BitVec 8).getLsbD g.val && (q.odNat (gIndex g) 0x03 = 0 && q.ctl.mode ≠ .stop)) = false ∧ q.swapReason 1 = 0) := by
  refine ⟨{ reset_shaped with }, { reset_shaped with }, l3_stop, rfl, rfl, rfl, ?_, ?_, ?_⟩ <;> decide +kernel
theorem wit_Outputs :
    ((∀ c now, (groupAt (chan0 c) now).Shaped) ∧ ∀ c now, ((groupAt (chan0 c) now).group 0).up = true) ∧
    (let s := groupAt { up := true } 0
     let b := framed ([0x10, 1, 0, 0, 1, 0, 0, 0] ++ zeros 4)
     linkFrameOk 0 0x10 14 b = true ∧ applySample (s.atTime 0).time.now (leAt b 4 4) = some 1 ∧ (s.atTime 0).time.now < 1 * 25000 ∧
     1 * 25000 ≤ (s.atTime 0).time.now + 4000000 ∧ (s.group 0).pending.any (fun p => p.apply == 1) = false ∧ (s.group 0).pending.length < 2 ∧
     linkFrameOk 0 0x10 14 [] = false ∧ linkFrameOk 0 0x11 6 (framed [0x11, 1, 1, 0]) = true) ∧
    ((groupAt { pending := [{ apply := 0, cmd := 1, cycle := 0 }] } 0).group 0).pending = [{ apply := 0, cmd := 1, cycle := 0 }] ∧
    (let s := groupAt (chan0 { func := 0x20, overFor := 10000000, limitFor := 9, inrushFor := 801 }) 0
     let c := s.chan 0
     isOutputFn c.fn = true ∧ c.tripped = false ∧ c.overFor ≠ 0 ∧ (s.atTime 0).odNat (chIndex 0) 0x12 * 1000 ≤ 25 * (c.overFor - 1) ∧
     c.short = false ∧ c.limitFor ≠ 0 ∧ 200 ≤ 25 * (c.limitFor - 1) ∧ c.inrushFor ≠ 0 ∧ 20000 ≤ 25 * (c.inrushFor - 1)) ∧
    (let s := groupAt (chan0 { func := 0x20, current := [20000001] }) 0
     (s.atTime 0).rating 0 * 40000 < (s.chan 0).current.foldl (· + ·) 0) ∧
    (let s := groupAt (chan0 { heldUntil := some 0 }) 0
     (s.chan 0).heldUntil = some 0 ∧ 0 ≤ (s.atTime 0).time.now) ∧
    (let s := groupAt { inhibit := true } 0
     (s.group 0).inhibit = true ∧ (s.atTime 0).clampSum 0 < 1500 ∧ 10 * (s.atTime 0).currentSum 0 < 9 * (s.atTime 0).currentLimit 0) ∧
    (let s := groupAt (chan0 { func := 0x20, lowCurFor := 4001, biasFor := 4001, stuckHighFor := 22 }) 0
     isOutputFn (s.chan 0).fn = true ∧ (s.chan 0).openLoad = false ∧ span100 (s.chan 0).lowCurFor = true ∧ (s.chan 0).stuckHigh = false ∧
     overUs (s.chan 0).stuckHighFor 500 = true) ∧
    (let s := groupAt (chan0 { func := 0x20, openLoad := true, curFor := 4001, stuckLowFor := 22 }) 0
     (s.chan 0).openLoad = true ∧ span100 (s.chan 0).curFor = true ∧ (s.chan 0).fn = 0x20 ∧ overUs (s.chan 0).stuckHighFor 500 = false ∧
     (s.chan 0).stuckLow = false ∧ overUs (s.chan 0).stuckLowFor 500 = true) ∧
    (let s := groupAt { up := true, frameAt := some 0 } 1000000000
     (s.group 0).frameAt = some 0 ∧ (s.group 0).silent = false ∧ 0 + (s.atTime 0).odNat (gIndex 0) 0x10 * 1000000 ≤ (s.atTime 0).time.now ∧
     (s.atTime 0).safeState 0 = 0 ∧ s.fab.keepalive.getLsbD (0 : Fin 8).val = false ∧
     ({ s with fab := { s.fab with keepalive := 1 } }).fab.keepalive.getLsbD (0 : Fin 8).val = true) :=
  ⟨⟨fun c now => group_shaped _ _ rfl, fun c now => rfl⟩, by decide +kernel⟩
/-! ### The switch, PTP and the time base -/

/-- A module whose switch runs, with `q` at port E1 (and E2). -/
def switching (q : Port) (now : Nat) : State :=
  { live .run now with sw := { State.reset.sw with running := true, ports := [{}, q, q] ++ List.replicate 8 {} } }
theorem switch_shaped (q : Port) (now : Nat) : (switching q now).Shaped := { reset_shaped with ports := rfl }
/-- An Ethernet frame of `len` bytes, and the same waiting at an egress port in class `c`. -/
def eth (len : Nat) : EthFrame := { (default : EthFrame) with len, fcsOk := true, red := .none }
def waits (c : Fin 8) : QFrame := { f := eth 64, cls := c, stamp := 0, isLocal := true, stream := none, inPort := 0 }
/-- A matrix of one cycle whose window tables are all `w`. -/
def matrix0 (w : List Word) : Matrix := { m := 1, tbCode := 1, streams := [], windows := List.replicate 7 w }
theorem wit_SwitchFramesAndLinks : (∀ q now, (switching q now).Shaped ∧ (switching q now).sw.running = true) ∧
    (let s := switching { link := 1 } 0
     (s.port 1).link ≠ 0 ∧ macDrops (eth 0) = true ∧ macDrops (eth 64) = false ∧ (s.atTime 0).portRed 1 = 0 ∧
     (s.atTime 0).member ((s.atTime 0).vlanOf 1 (eth 64)).1 1 = true ∧ (s.port 1).queue = [] ∧ (s.atTime 0).portEnabled 1 = true ∧ (s.port 1).link ≠ 2) ∧
    (let s := { switching {} 0 with sw := { (switching {} 0).sw with ports := List.replicate 7 ({} : Port) ++ [({ link := 1 } : Port), { link := 3, queue := [waits 0] }, {}, {}] } }
     (s.port 7).link ≠ 0 ∧ (s.port 8).link ≠ 0 ∧ (s.port 8).onWire = none ∧ schedNo 8 = none ∧ (s.port 8).queue = [waits 0]) ∧
    (let s := switching { link := 1, queue := [waits 0] } 100000
     (s.port 1).onWire = none ∧ schedNo 1 = some 0 ∧
     (openWin ((s.atTime 0).winTable 0) ((s.atTime 0).cycleNow % (s.atTime 0).macroM) (s.atTime 0).intoCycle).any (fun w =>
       decide (w.kind ≠ 1) && (decide (firstFor w (s.port 1).queue = some (waits 0)) &&
         (s.atTime 0).gateOpen w (s.atTime 0).intoCycle (wireNs (s.port 1).link.val (waits 0).f.len) (waits 0))) = true ∧
     (s.atTime 0).guardianOpen 0 ((s.atTime 0).cycleNow % (s.atTime 0).macroM) (s.atTime 0).intoCycle (wireNs (s.port 1).link.val (waits 0).f.len) (waits 0) =
      true) ∧
    (let s := { switching { link := 1, queue := [waits 0] } 100000 with
        sw := { (switching { link := 1, queue := [waits 0] } 100000).sw with
          matrix := some (matrix0 ((openWindows 1000000).map (BitVec.ofNat 64))), guardCopy := [] } }
     (openWin ((s.atTime 0).winTable 0) ((s.atTime 0).cycleNow % (s.atTime 0).macroM) (s.atTime 0).intoCycle).any (fun w =>
       decide (w.kind ≠ 1) && (decide (firstFor w (s.port 1).queue = some (waits 0)) &&
         (s.atTime 0).gateOpen w (s.atTime 0).intoCycle (wireNs (s.port 1).link.val (waits 0).f.len) (waits 0))) = true ∧
     (s.atTime 0).guardianOpen 0 ((s.atTime 0).cycleNow % (s.atTime 0).macroM) (s.atTime 0).intoCycle (wireNs (s.port 1).link.val (waits 0).f.len) (waits 0) =
      false) ∧
    (let s := switching { link := 1, onWire := some (waits 0, 10, 5) } 5
     (s.port 1).onWire = some (waits 0, 10, 5) ∧ (waits 0).isLocal = true ∧ (schedNo 1).isSome = true ∧ 5 ≤ (s.atTime 0).time.now ∧ (s.atTime 0).time.now < 10) ∧
    (let s := { switching { link := 1 } 0 with od := { State.reset.od with values := [(odKey 0x5300 0x01, [1])], inForce := [(odKey 0x5300 0x01, [1])] } }
     (s.atTime 0).redMode 0 ≠ 0 ∧ pairOf 1 = some 0 ∧ (s.port 1).link ≠ 0 ∧ (s.port 1).queue = [] ∧ (s.atTime 0).portRed 1 ≠ 0 ∧
     (s.port 1).supervisionAt = none) :=
  ⟨fun q now => ⟨switch_shaped q now, rfl⟩, by decide +kernel⟩
/-- A module whose beacon state is `b` with rank value `r`. -/
def beaconing (b r : Nat) : State :=
  let s := switching { link := 1 } 0
  { s with sw := { s.sw with beacon := b, since := 100 }, od := { s.od with inForce := [(odKey 0x5100 0x05, [BitVec.ofNat 8 r])] } }
def beacon0 : Bytes := [1, 1, 0, 0, 0] ++ zeros 43
theorem wit_BeaconAndGuardians : (∀ b r, (beaconing b r).Shaped ∧ (beaconing b r).sw.running = true) ∧
    ((beaconing 2 3).sw.beacon = 2 ∧ (1 : Fin 11) ∈ schedPorts ∧ ((beaconing 2 3).port 1).link ≠ 0 ∧ ((beaconing 2 3).port 1).queue = []) ∧
    ((schedNo 1).bind ((beaconing 2 3).atTime 0).beaconCycle = some 0 ∧ beacon0.length = 48 ∧ beAt beacon0 0 2 = 0x0101 ∧
      ((beaconing 2 3).atTime 0).beaconDiffers 0 beacon0 ≠ 0 ∧
      ((beaconing 2 3).atTime 0).beaconDiffers 0 (([1, 1, 0, 0, 0] ++ beBytes 1 ((beaconing 2 3).atTime 0).macroM) ++ [1] ++ zeros 41) = 0 ∧
      beAt beacon0 2 2 ≠ (({ beaconing 2 3 with od := { (beaconing 2 3).od with inForce := (odKey 0x5100 0x06, [1, 0]) :: (beaconing 2 3).od.inForce } }).atTime 0).nodeId.toNat ∧
      beAt beacon0 4 1 < ((beaconing 2 3).atTime 0).beaconRank.getD 0) ∧
    (((beaconing 0 3).atTime 0).beaconRank = some 2 ∧ (beaconing 0 3).sw.beacon ≠ 2 ∧ (beaconing 0 3).sw.heard = false ∧ 8 + 4 * 2 ≤ (beaconing 0 3).sw.since) ∧
    (let s := { beaconing 0 3 with sw := { (beaconing 0 3).sw with matrix := some (matrix0 []), guardCopy := List.replicate 7 [] } }
     s.sw.matrix = some (matrix0 []) ∧ s.sw.guardCopy.zipIdx.map (fun e => readBackTable e.1 ((([] : List (Option Bytes))[e.2]?).getD none)) = (matrix0 []).windows ∧
     s.sw.guardStreams = (matrix0 []).streams ∧
     s.sw.guardCopy.zipIdx.map (fun e => readBackTable e.1 (([some (zeros 8)][e.2]?).getD none)) ≠ (matrix0 []).windows) ∧
    (let s := { beaconing 0 3 with sw := { (beaconing 0 3).sw with guardTime := [none, some 0], counterBadAt := some 0 }
                                   time := { State.reset.time with now := 1000000000 } }
     (s.sw.guardTime[(1 : Fin 11).val]?).getD none = some 0 ∧ ((((40 : Nat) : Int) - ((0 + 0 : Nat) : Int)).natAbs ≤ 40) ∧
     40 < ((((41 : Nat) : Int) - ((0 + 0 : Nat) : Int)).natAbs) ∧ s.sw.counterBadAt = some 0 ∧ 0 + 1000000000 ≤ (s.atTime 0).time.now) :=
  ⟨fun b r => ⟨{ reset_shaped with ports := rfl }, rfl⟩, by decide +kernel⟩

/-- A module whose PTP slot 0 is `x`, in mode `m`. -/
def timed (m : Mode) (x : PtpSlot) (now : Nat) : State :=
  { live m now with time := { State.reset.time with now, slot0 := x } }
def ann (p : BitVec 8) : Announce := { (default : Announce) with priority1 := p }
/-- A slot in a state with a master on port E1. -/
def slot (st : SlotState) : PtpSlot := { state := st, delay := some 0, master := some (ann 1, 1) }
theorem wit_PtpSlots :
    (let s := timed .stop (slot .measuring) 0
     (s.ptp 0).state ≠ .disabled ∧ (s.ptp 0).state ≠ .grandmaster ∧ (s.ptp 0).master.isSome = true ∧ (s.ptp 0).delay.isSome = true ∧
     (s.time.armed && s.time.selected = 0) = true ∧ s.ctl.mode.maySteps = true ∧ (s.ptp 0).accepted = none ∧ (s.ptp 0).sampleAt = none) ∧
    (let s := timed .run (slot .measuring) 0
     ((s.time.armed && decide (s.time.selected = 0)) && s.ctl.mode.maySteps) = false ∧
     (s.atTime 0).jumpLimit < (1000000000 - (s.ptp 0).accepted.getD 0 - (if (s.ptp 0).accepted.isSome then (s.ptp 0).corrected else 0) : Int).natAbs ∧
     (0 - (s.ptp 0).accepted.getD 0 - (if (s.ptp 0).accepted.isSome then (s.ptp 0).corrected else 0) : Int).natAbs ≤ (s.atTime 0).jumpLimit) ∧
    (let s := timed .run { slot .measuring with run500 := 15 } 1000000000000
     (s.ptp 0).state ≠ .locked ∧ 15 ≤ (s.ptp 0).run500 ∧ ((s.ptp 0).sampleAt.getD 0) + 3 * (s.atTime 0).syncNs 0 ≤ (s.atTime 0).time.now ∧
     (s.ptp 0).announceAt + 3 * (s.atTime 0).announceNs 0 ≤ (s.atTime 0).time.now) ∧
    (let s := { timed .run (slot .listening) 0 with od := { State.reset.od with inForce := [(odKey 0x6001 0x05, [0])] } }
     (s.atTime 0).mayMaster 0 = true ∧ rankLt ((s.atTime 0).ownRank 0) (announceRank (ann 255)) = true ∧ (s.ptp 0).state = .listening ∧
     ((s.atTime 0).mayMaster 0 && rankLt ((s.atTime 0).ownRank 0) (announceRank (ann 0))) = false ∧
     rankLt (announceRank (ann 0)) (announceRank (ann 1)) = true ∧
     ((s.atTime 0).mayMaster 0 && rankLt ((s.atTime 0).ownRank 0) (announceRank (ann 2))) = false ∧
     ¬ ((ann 1).gm = (ann 2).gm ∧ (1 : Fin 11) = 2) ∧ rankLt (announceRank (ann 2)) (announceRank (ann 1)) = false ∧ (s.ptp 0).master ≠ none) ∧
    (let s := timed .run { slot .grandmaster with master := none } 0
     (s.ptp 0).state = .grandmaster ∧ (s.atTime 0).masterOn 0 1 = true ∧ (s.ptp 0).master.map (·.2) ≠ some 1 ∧
     ((timed .run (slot .measuring) 0).ptp 0).master.map (·.2) = some 1) ∧
    (let s := { timed .run (slot .measuring) 0 with od := { State.reset.od with inForce := [(odKey 0x6001 0x03, [1])] } }
     (s.atTime 0).odForceNat 0x6001 (ptpSub 0 0x03) ≠ 0 ∧ (timed .run (slot .measuring) 0).odForceNat 0x6001 (ptpSub 0 0x03) = 0) ∧
    (let r : Residence := { seqId := 1, srcPort := 2, port := 1, time := 0, residence := 7 }
     let s := { live .run 0 with time := { State.reset.time with residences := [r] } }
     (s.time.residences.filter (fun r => (s.atTime 0).time.now ≤ r.time + 1000000000)).find? (fun r => r.seqId = 1 && (r.srcPort = 2 && r.port = 1)) = some r ∧
     (0 : Int) + (r.residence : Int) < 2 ^ 47 ∧
     (s.time.residences.filter (fun r => (s.atTime 0).time.now ≤ r.time + 1000000000)).find? (fun r => r.seqId = 0 && (r.srcPort = 2 && r.port = 1)) = none) := by
  decide +kernel
theorem wit_TimeBaseCommands :
    (let s := { timed .run { slot .locked with run50 := 16, eligibleSince := some 0 } 10000000000 with
        time := { (timed .run { slot .locked with run50 := 16, eligibleSince := some 0 } 10000000000).time with selected := 1 } }
     (0 : Fin 2) = (if (s.atTime 0).odNat 0x6001 0x21 = 0 then 0 else 1) ∧ (s.ptp 0).eligibleSince = some 0 ∧ s.time.selected ≠ 0 ∧
     (s.atTime 0).eligible 0 = true ∧ 0 + 10000000000 ≤ (s.atTime 0).time.now) ∧
    (let s := { live .run 0 with time := { State.reset.time with now := 1000000000000000, state := .holdover, timeLocked := true, holdoverSince := some 0 } }
     s.time.state = .holdover ∧ s.time.timeLocked = true ∧ (s.atTime 0).lockedNow = false) ∧
    (let s := { live .run 0 with time := { State.reset.time with
        now := 10000000000, state := .locked, slot0 := { slot .refused with moved := some (5, 0), offset := 5, sampleAt := some 10000000000 } } }
     (s.atTime 0).steadyMove = some 5 ∧ (s.ptp s.time.selected).offset.natAbs ≤ 100000000 ∧ (s.time.state ≠ .free ∨ s.ctl.mode.active = true)) ∧
    (let s := { live .run 0 with time := { State.reset.time with
        now := 10000000000, state := .locked, slot0 := { slot .refused with moved := some (5, 0), offset := 100000001, sampleAt := some 10000000000 } } }
     (s.atTime 0).steadyMove = some 5 ∧ ¬ ((s.ptp s.time.selected).offset.natAbs ≤ 100000000 ∧ (s.time.state ≠ .free ∨ s.ctl.mode.active = true))) ∧
    (let s := { live .run 0 with time := { State.reset.time with now := 100000, state := .slewing, slew := 5 } }
     s.time.state = .slewing ∧ s.time.slew ≠ 0 ∧ (s.atTime 0).slewLeft = 0) ∧
    (let s := { live .run 0 with time := { State.reset.time with state := .locked }, od := { State.reset.od with funcModes := [false, true] } }
     hostMode (s.atTime 0) 2 = true ∧ s.time.state = .locked) ∧
    (∀ f, admission (via3 f) f ((l3 (live .stop 0)).atTime 0) = (after3 f (live .stop 0), some caller3)) ∧
    (after3 (writeReq 0x6000 0x10 .u8 [1]) (live .stop 0)).writeFault 0x6000 0x10 3 = stOk ∧
    (after3 (writeReq 0x1180 0x02 .u8 [1]) (live .stop 0)).plainFault 0x1180 0x02 3 .u8 [1] = stOk := by
  refine ⟨?_, ?_, ?_, ?_, ?_, ?_, l3_stop, ?_, ?_⟩ <;> decide +kernel
theorem wit_TimeLed : (live .run 0).ledsOn = true ∧ (live .run 0).time.refMoved = none ∧ (live .run 0).time.state = .free ∧
    ({ live .run 0 with time := { State.reset.time with state := .holdover, timeLocked := true } }).time.timeLocked = true ∧
    ({ live .run 0 with time := { State.reset.time with refMoved := some 1 } }).time.refMoved.isSome = true := by decide
/-! ### Telegrams and the legacy buses -/

/-- A module with an object in force, its bindings in effect. -/
def bound (i u : Nat) (v : Bytes) : State :=
  let s := switching { link := 1 } 0
  { s with od := { s.od with inForce := [(odKey i u, v)] }, tel := { s.tel with bindState := 1, mvbRole := 1 } }
def subRow : Bytes := [1, 0, 0, 0, 0, 0, 0, 0, 9, 0, 0, 0, 4, 0, 0, 0, 1] ++ zeros 15
def pd0 : PdTelegram :=
  { (default : PdTelegram) with udpPort := 17224, fcsOk := true, major := 1, msgType := msgPd, comId := 1, dstIp := 9, length := 4, udpLen := 44
                                dataset := zeros 4 }
def pubRow : Bytes := [1, 0, 0, 0] ++ zeros 12 ++ [1] ++ zeros 15
def publishing : State :=
  let s := bound 0x5400 0x01 pubRow
  { s with sw := { s.sw with matrix := some (matrix0 ((openWindows 1000000).map (BitVec.ofNat 64))) }
           tel := { s.tel with pubs := [(0, { staged := some (0, zeros 4) })] } }
def md0 : MdTelegram := { (default : MdTelegram) with session := 1 }
def messaging (l : List MdSession) : State :=
  let s := bound 0x5480 0x01 [1]
  { s with tel := { s.tel with md := l }, time := { s.time with now := 100000000000 } }
def mdSes : MdSession := { id := 1, comId := 0, peer := 0, started := 0, phase := 1 }
theorem wit_ProcessAndMessageData :
    (let a := (bound 0x5400 0x02 subRow).atTime 0
     a.tel.bindState = 1 ∧ pd0.udpPort = 17224 ∧ pd0.fcsOk = true ∧ pd0.major = 1 ∧ pd0.msgType = msgPd ∧
     a.subTable.filter (fun e => leAt e.1 0 4 = pd0.comId.toNat) = [(subRow, 0)] ∧ pdCheck a pd0 (subRow, 0) = 0 ∧
     pdCheck a { pd0 with dstIp := 8 } (subRow, 0) ≠ 0 ∧ ({ pd0 with fcsOk := false }).fcsOk = false) ∧
    (let s := publishing
     (s.pubs.find? (fun p => p.idx = 0)).map (·.stream) = some 0 ∧ (sGet {} 0 s.tel.pubs).staged = some ((s.atTime 0).cycleNow, zeros 4) ∧
     s.sw.running = true ∧ s.sw.matrix.isSome = true ∧ s.mayPublish = true ∧ (1 : Fin 11) ∈ schedPorts ∧ (s.atTime 0).portCarries 1 0 = true ∧
     (s.port 1).link ≠ 0 ∧ (s.port 1).queue = []) ∧
    ((messaging []).atTime 0).mdOpen md0 = true ∧ (messaging []).tel.md.length < 64 ∧ (messaging []).mdSession md0.session = none ∧
    64 ≤ (messaging (List.replicate 64 mdSes)).tel.md.length ∧ ((messaging [mdSes]).mdSession md0.session).isSome = true ∧
    (let s := messaging [mdSes]
     s.mdSession 1 = some mdSes ∧ mdSes.started + (s.atTime 0).odNat 0x5480 0x02 * 1000000 ≤ (s.atTime 0).time.now) := by decide +kernel

def sourceRow : Bytes := [7, 0, 0, 9] ++ zeros 12
def sinkRow : Bytes := [7, 0, 0, 5] ++ zeros 12
def rpdoRow : Bytes := [0, 2, 0, 0, 2, 0, 1] ++ zeros 9
/-- A module with CAN bus 1 in state `b`, and an object in force. -/
def canning (b : CanBus) (i u : Nat) (v : Bytes) (now : Nat) : State :=
  let s := bound i u v
  { s with tel := { s.tel with can1 := b }, time := { s.time with now } }
theorem wit_LegacyBuses :
    (let s := bound 0x5600 0x03 sourceRow
     ((s.atTime 0).portTable 2).find? (fun e => leAt e.1 0 2 = (7 : BitVec 12).toNat && leAt e.1 2 1 = (0 : Fin 16).val) = some (sourceRow, 0) ∧
     s.tel.mvbRole ≠ 0 ∧ (s.atTime 0).mayPublish = true) ∧
    (let s := bound 0x5600 0x03 sinkRow
     ((s.atTime 0).portTable 1).find? (fun e => leAt e.1 0 2 = (7 : BitVec 12).toNat && portSize e.1 = (zeros 2).length) = some (sinkRow, 0) ∧
     s.tel.activeB = false ∧ s.tel.faultA = false ∧ s.tel.faultB = false) ∧
    (let s := bound 0x5600 0x02 [5, 0]
     (5 : BitVec 12).toNat = (s.atTime 0).odForceNat 0x5600 0x02 ∧ ({ s with tel := { s.tel with mvbRole := 2 } }).tel.mvbYield = false) ∧
    (let s := canning { state := 0 } 0x5700 0x18 rpdoRow 0
     ((s.atTime 0).pdoTable 0 false).find? (fun e => leAt e.1 0 4 = (0x200 : BitVec 32).toNat && (leAt e.1 6 1).testBit 3 == false) = some (rpdoRow, 0) ∧
     s.canOn 0 = true ∧ leAt rpdoRow 4 1 ≤ (zeros 2).length ∧ (s.canBus 0).state = 0) ∧
    (((canning { state := 0 } 0x5700 (canSub 0 5) [1] 0).atTime 0).makesSync 0 = true) ∧
    (let s := canning { state := 0 } 0x5700 (canSub 0 5) [1] 950000
     (s.atTime 0).tb - 50000 ≤ (s.atTime 0).intoCycle ∧
     ({ s with od := { s.od with values := [(odKey 0x5700 (canSub 0 7), [1, 0])] } }).odNat 0x5700 (canSub 0 7) ≠ 0) ∧
    (let s := canning { state := 0, consumers := [(3, 0, false)] } 0x5700 (canSub 0 9) [3, 0, 1, 0] 1000000
     (s.atTime 0).consumer 0 (3 : BitVec 7).toNat = some 1 ∧ (s.canBus 0).consumers.find? (fun x => x.1 = (3 : BitVec 7).toNat) = some ((3 : BitVec 7).toNat, 0, false) ∧
     0 + 1 * 1000000 ≤ (s.atTime 0).time.now) ∧
    (let s := canning { state := 2, busOffAt := some 0 } 0x5700 0x18 [] 100000000
     (s.canBus 0).state = 2 ∧ (s.canBus 0).final = false ∧ ((s.canBus 0).busOffAt.getD 0) + 100000000 ≤ (s.atTime 0).time.now) := by decide +kernel

/-! ### The bridge and the DMA engine -/

/-- A module whose core 0 of lane A runs split, with `f` on the bridge and `c` on the core. -/
def split0 (f : Bridge) (c : Core) (now : Nat) : State :=
  let s := live .run now
  { s with ctl := { s.ctl with placement := 6 }, bri := f, lanA := { s.lanA with core0 := c } }
def op0 (ex re : Bool) : DirectOp := { addr := 0xE0000000, size := 4, data := if ex then none else some (zeros 4), exclusive := ex, time := 0, reached := re }
theorem wit_BridgeAccesses :
    (let a := (split0 {} {} 0).atTime 0
     (a.core .A 0).stall = none ∧ a.issueCode .A 0 .read 0xE0000000 3 = 1 ∧ a.issueCode .A 0 .posted 0 4 = 2 ∧ a.issueCode .A 1 .nonposted 0xE8000000 4 = 3 ∧
     a.issueCode .A 0 .read 0xE0000000 4 = 0 ∧ windowOf 0xE0000000 = some (0, 0) ∧ a.issueCode .A 0 .read 0xE4000000 8 = 0 ∧
     a.issueCode .A 0 .posted 0xE000FFFC 4 = 0 ∧ Memory.wf a.cis.mem = true ∧ Memory.wf a.bri.mem = true ∧ a.bri.posted = [] ∧ a.bri.semas = [] ∧
     ({ a with od := { a.od with values := [(odKey 0x7140 0x05, [4])] } }).issueCode .A 0 .nonposted 0xE8000000 4 = 0) ∧
    (([1, 2, 4, 8, 32, 64] : List Nat).contains 4 = true ∧ 0xE0000000 % 4 = 0 ∧ 0xE000FFFC % 4 = 0 ∧ 0xE000FFFC + 4 ≤ 0xE0010000 ∧ 0xDFFFFFFC % 4 = 0) ∧
    (let s := split0 {} { stall := some (op0 false true) } 50000
     (s.core .A 0).stall = some (op0 false true) ∧ s.waits .A 0 = false ∧ (op0 false true).exclusive = false ∧ (op0 false true).time + 50000 ≤ (s.atTime 0).time.now) := by
  decide +kernel
theorem wit_BridgeSemaphores :
    (let s := split0 {} {} 0
     s.bri.posted = [] ∧ s.bri.waiters = [] ∧ (s.atTime 0).issueCode .A 0 .exclusive 0xE0000000 4 = 0 ∧ (s.core .A 0).stall = none ∧
     (s.bri.semas.filter (fun x => !decide (x.holder = Initiator.core .A 0))).find? (fun x => x.granule = granuleOf (nativeTarget .A 0xE0000000)) = none ∧
     s.holds .service (granuleOf 0x1FF0000) = false ∧ inMailbox 0x1FF0000 = true ∧ 0x1FF0000 % 4 = 0) ∧
    (let s := split0 { semas := [{ granule := 0, holder := .service, since := 0 }] } {} 20000
     ((s.bri.semas.filter (fun x => !decide (x.holder = Initiator.core .A 0))).find? (fun x => x.granule = granuleOf (nativeTarget .A 0xE0000000))).isSome = true ∧
     s.holds .service (granuleOf 0x1FF0000) = true ∧ s.heldBy 0 = some { granule := 0, holder := .service, since := 0 } ∧ 0 + 20000 ≤ (s.atTime 0).time.now) ∧
    (let s := split0 { semas := [{ granule := 0, holder := .core .A 0, since := 0 }] } { exclusive := some (0xE0000000, 4) } 0
     s.holds (.core .A 0) (granuleOf (nativeTarget .A 0xE0000000)) = true ∧ (s.core .A 0).exclusive = some (0xE0000000, (zeros 4).length)) ∧
    (let s := split0 {} { stall := some (op0 true false) } 0
     (s.core .A 0).stall = some (op0 true false) ∧ (op0 true false).exclusive = true ∧ (op0 true false).reached = false ∧ (s.core .A 0).exclusive = none ∧
     s.waits .A 0 = false) := by decide +kernel
def late0 : LateEntry := { addr := 0, cycle := 0, seq := 0, window := 0, cause := 4, lane := .A, core := 0, task := 0, size := 4, delivered := false }
theorem wit_BridgeRecordsAndEvents :
    ((({} : Bridge).replayTry[2 * laneNo .A + b2n false]?).getD 0 = 0 ∧
     (({ replayTry := [4, 0, 0, 0, 0, 0] } : Bridge).replayTry[2 * laneNo .A + b2n false]?).getD 0 = 4) ∧
    (({} : Bridge).late.filter (fun e => !e.delivered)).length < 64 ∧
    64 ≤ (({ late := List.replicate 64 late0 } : Bridge).late.filter (fun e => !e.delivered)).length ∧
    (let s := { split0 { raised := [(1, 1, 0)] } {} 0 with od := { State.reset.od with values := [(odKey 0x7200 0x10, [2])] } }
     s.bri.raised = [(1, 1, 0)] ∧ (leAt (s.odGet 0x7200 0x10) (1 - 1) 1).testBit (1 + laneNo .A) = true ∧ (s.lane .A).state = .isIn ∧ s.triple 0 = false) := by
  decide +kernel

/-- Ring 0, owned by lane A's split cores, stands on the first MAILBOX bytes, which hold the descriptor `d`. -/
def ringed (d : Bytes) (q : Ring) (f : Bridge) : State :=
  { live .run 0 with
    bri := { f with rings := q :: List.replicate 63 {} }
    od := { State.reset.od with values := [(odKey 0x7140 0x01, leBytes 8 0x1FF0000), (odKey 0x7140 0x05, [4])] }
    cis := { State.reset.cis with mem := cWrite 0x1FF0000 d [] } }
theorem ringed_shaped (d : Bytes) (q : Ring) (f : Bridge) : (ringed d q f).Shaped := { reset_shaped with rings := rfl }
/-- A descriptor of 8 bytes with the given CONTROL. -/
def desc0 (ctl : Nat) (dest : Nat) : Bytes := leBytes 8 0x1FF0100 ++ leBytes 8 dest ++ leBytes 4 8 ++ leBytes 2 ctl ++ zeros 10
theorem wit_DmaRingsAndEngine :
    (∀ d q f, (ringed d q f).Shaped) ∧
    (let s := ringed (desc0 0x8000 0x1FF0200) { awake := true } {}
     let p := landOld (s.atTime 0)
     let d := p.desc (p.descAddr 0)
     s.ringOwner 0 = (4 : BitVec 8).toNat ∧ (4 : BitVec 8) ≠ 0 ∧ ¬ s.ringOwner 0 = (5 : BitVec 8).toNat ∧ s.bri.engine = 0 ∧ d.own = true ∧
     s.odNat 0x7140 0x04 ≠ 0 ∧ p.descRefused 0 d = none ∧ (s.ring 0).awake = true ∧ (s.ring 0).chain < s.odNat 0x7140 0x04 ∧ d.link = false ∧
     (s.ring 0).moved = 0 ∧ p.touchesHeld d.dest d.length = false ∧ s.ringOwner 0 ≤ 6 ∧ Memory.wf p.cis.mem = true ∧ Memory.wf p.bri.mem = true ∧
     p.descAddr 0 + 0x1C ≤ d.dest ∧ (s.desc (s.descAddr 0)).link = false ∧ s.bri.posted = [] ∧ ∀ k : Fin 64, k ≠ 0 → (s.ring k.val).awake = false) ∧
    (let s := ringed (desc0 0x8000 0) {} {}
     let p := landOld (s.atTime 0)
     (p.desc (p.descAddr 0)).own = true ∧ p.descRefused 0 (p.desc (p.descAddr 0)) = some 0 ∧
     ((ringed (desc0 0 0) {} {}).desc ((ringed (desc0 0 0) {} {}).descAddr 0)).own = false) ∧
    (let s := ringed (desc0 0xC000 0) { awake := true } {}
     let p := landOld (s.atTime 0)
     (p.desc (p.descAddr 0)).own = true ∧ (p.desc (p.descAddr 0)).link = true) ∧
    (let s := ringed (desc0 0x8000 0x1FF0200) { awake := true, chain := 4096 } { semas := [{ granule := 64, holder := .service, since := 0 }] }
     let p := landOld (s.atTime 0)
     p.touchesHeld (p.desc (p.descAddr 0)).dest (p.desc (p.descAddr 0)).length = true ∧ s.odNat 0x7140 0x04 ≤ (s.ring 0).chain ∧
     ((s.atTime 0).desc ((s.atTime 0).descAddr 0)).own = true) ∧
    (let s := { live .run 100000 with bri := { State.reset.bri with engine := 1, haltAt := some 0 } }
     s.bri.haltAt = some 0 ∧ s.bri.engine = 1 ∧ 0 + 100000 ≤ (s.atTime 0).time.now) ∧
    admission (via3 (writeReq 0x7100 0x02 .u8 [1])) (writeReq 0x7100 0x02 .u8 [1]) ((l3 (live .stop 0)).atTime 0) =
      (after3 (writeReq 0x7100 0x02 .u8 [1]) (live .stop 0), some caller3) ∧
    (after3 (writeReq 0x7100 0x02 .u8 [1]) (live .stop 0)).writeFault 0x7100 0x02 3 = stOk := by
  refine ⟨ringed_shaped, ?_, ?_, ?_, ?_, ?_, l3_stop _, ?_⟩ <;> decide +kernel
/-! ### The redundant pair -/

/-- A module of a pair. -/
def paired (p : Pair) (m : Mode) (now : Nat) : State :=
  let s := switching {} now
  { s with ctl := { s.ctl with mode := m }, pair := { p with inPair := true } }
/-- A message of the referee for this module, with its AUTH. -/
def refMsg (s : State) (type : Nat) (epoch : BitVec 32) : RefereeMsg :=
  let m : RefereeMsg := { pairId := BitVec.ofNat 16 (s.odForceNat 0x7300 0x08), node := 0xFFFF, target := s.nodeId, epoch, expiry := 0, fromCycle := 0, auth := [] }
  { m with auth := (Config.hmacSha256 (s.odForce 0x7300 0x09) (refereeBody type m)).take 8 }
theorem refMsg_good (s : State) (type : Nat) (epoch : BitVec 32) (h : s.pair.inPair = true) : s.refereeGood type (refMsg s type epoch) = true := by
  unfold State.refereeGood refMsg
  rw [h]
  simp [refereeBody]
theorem refMsg_wrong (s : State) (type : Nat) (epoch : BitVec 32) : s.refereeGood type { refMsg s type epoch with node := 0 } = false := by
  unfold State.refereeGood
  simp
theorem wit_PairLease : (∀ p m now type epoch, (paired p m now).refereeGood type (refMsg (paired p m now) type epoch) = true ∧
      (paired p m now).refereeGood type { refMsg (paired p m now) type epoch with node := 0 } = false ∧
      (refMsg (paired p m now) type epoch).target = (paired p m now).nodeId ∧ (refMsg (paired p m now) type epoch).epoch = epoch) ∧
    (let s := paired { held := true } .run 0
     s.pair.held = true ∧ (s.atTime 0).intoCycle ≤ 20000 ∧ (0 : BitVec 32) = s.pair.leaseEpoch ∧ s.pair.epoch ≤ 0 ∧ (1 : BitVec 32) ≠ s.pair.leaseEpoch) ∧
    (let s := paired { requestAt := some 0, findingAt := some 0, state := .standby } .standby 0
     s.pair.epoch ≤ 1 ∧ s.pair.requestAt = some 0 ∧ (s.atTime 0).time.now < 0 + 1000000 ∧ s.pair.findingAt = some 0 ∧ s.pair.state = .standby) ∧
    (let s := paired { requestAt := some 0, negotiated := true, epoch := 1 } .run 0
     s.pair.findingAt = none ∧ s.pair.negotiated = true ∧ (0 : BitVec 32) < s.pair.epoch) ∧
    (let s := paired { drive := true } .run 0
     s.pair.drive = true ∧ (s.atTime 0).leaseHeld = false ∧ (s.atTime 0).aloneDrives = false) ∧
    (let s := { paired { drive := true, negotiated := true } .run 0 with od := { State.reset.od with values := [(odKey 0x7300 0x0B, [1])] } }
     (s.atTime 0).leaseHeld = false ∧ (s.atTime 0).aloneDrives = true) ∧
    (let s := paired { held := true, expiry := 5 } .run 900000
     (s.atTime 0).leaseHeld = true ∧ s.pair.endorsed = false ∧ s.pair.heartAt = none ∧ s.pair.confirmed = false ∧ s.tb ≤ (s.atTime 0).intoCycle + 100000 ∧
     (s.atTime 0).aloneDrives = false) ∧
    (let s := paired {} .run 3000000
     s.sw.running = true ∧ s.pair.refereeSilent = false ∧ (s.atTime 0).refereeOk = false ∧ 3 * s.tb ≤ (s.atTime 0).time.now) := by
  refine ⟨fun p m now type epoch => ⟨refMsg_good _ _ _ rfl, refMsg_wrong _ _ _, rfl, rfl⟩, ?_⟩
  decide +kernel

/-- A frame of the partner with its CRC. -/
def sif (kind flags : BitVec 8) (seq : BitVec 32) (cycle : BitVec 64) (offset : Nat) (payload : Bytes) : SiphonFrame :=
  let f : SiphonFrame := { kind, flags, seq, cycle, offset, payload, crc := 0 }
  { f with crc := siphonCrc f }
theorem crc_front (l : Bytes) : leAt (leBytes 4 (crc32c l).toNat ++ l) 0 4 = (crc32c ((leBytes 4 (crc32c l).toNat ++ l).drop 4)).toNat := by
  have e : ∀ v, (leBytes 4 v).length = 4 := fun v => rfl
  have k : (leBytes 4 (crc32c l).toNat ++ l).drop 4 = l := by
    rw [List.drop_append_of_le_length (by rw [e])]
    rfl
  rw [k]
  have h := (crc32c l).isLt
  generalize (crc32c l).toNat = c at h ⊢
  simp only [leAt, slice, leBytes, leNat, List.cons_append, List.nil_append, List.drop_zero, List.take_succ_cons, List.take_zero, BitVec.toNat_ofNat]
  omega
theorem wit_PairImage (l : Bytes) (hl : l.length = 32764) :
    (let c := leBytes 4 (crc32c (zeros 2060)).toNat ++ zeros 2044
     let s := paired { fwdImage := leBytes 4 (crc32c l).toNat ++ l, fwdCtx := c, seqIn := [none, none, some 0, none, none, none, none], state := .standby } .standby 0
     let f := sif 2 1 1 0 2048 (zeros 16)
     f.kind.toNat = 2 ∧ f.cycle.toNat = 0 ∧ f.flags.getLsbD 0 = true ∧ f.offset = s.pair.fwdCtx.length ∧ 1024 * imageKib s.ctl.tbCode ≤ s.pair.fwdImage.length ∧
     leAt s.pair.fwdImage 0 4 = (crc32c (s.pair.fwdImage.drop 4)).toNat ∧ (readCtx ((s.pair.fwdCtx ++ f.payload).take 2064)).crcOk = true) := by
  have e : ∀ v, (leBytes 4 v).length = 4 := fun v => rfl
  have z : zeros 2044 ++ zeros 16 = zeros 2060 := by rw [zeros, zeros, zeros, List.replicate_append_replicate]
  have y : (leBytes 4 (crc32c (zeros 2060)).toNat ++ zeros 2060).length = 2064 := by rw [List.length_append, e, zeros, List.length_replicate]
  refine ⟨rfl, rfl, rfl, ?_, ?_, crc_front l, ?_⟩
  · show 2048 = (leBytes 4 (crc32c (zeros 2060)).toNat ++ zeros 2044).length
    rw [List.length_append, e, zeros, List.length_replicate]
  · show 32768 ≤ (leBytes 4 (crc32c l).toNat ++ l).length
    rw [List.length_append, e, hl]
  · show (readCtx ((leBytes 4 (crc32c (zeros 2060)).toNat ++ zeros 2044 ++ zeros 16).take 2064)).crcOk = true
    rw [List.append_assoc, z, List.take_of_length_le (by rw [y])]
    unfold readCtx
    rw [crc_front, y]
    simp
theorem wit_PairPartner :
    (let s := paired {} .run 0
     s.pair.inPair = true ∧ s.sw.running = true ∧ (s.atTime 0).time.now % 5000 = 0 ∧
     ((s.atTime 0).frameFault (sif 1 0 0 0 0 (zeros 16)) = 0 ∧ (zeros 16)[2]?.any (fun b => b.getLsbD 0 = false) = true) ∧
     ((s.atTime 0).frameFault (sif 1 0 0 0 0 ([0, 0, 1] ++ zeros 13)) = 0 ∧ ([0, 0, 1] ++ zeros 13)[2]?.any (fun b => b.getLsbD 0) = true) ∧
     (∀ k : Fin 7, (s.atTime 0).frameFault { sif (BitVec.ofNat 8 k.val) 0 0 0 0 (zeros 16) with crc := 0 } ≠ 0) ∧
     ((s.atTime 0).frameFault (sif 2 0 0 0 0 (zeros 16)) = 0 ∧ (sif 2 0 0 0 0 (zeros 16)).cycle.toNat = (s.atTime 0).cycleNow ∧
       (sif 2 0 0 0 0 (zeros 16)).offset = s.pair.fwdImage.length ∧ s.pair.fwdImage.length < 1024 * imageKib s.ctl.tbCode) ∧
     ((s.atTime 0).frameFault (sif 3 0 0 0 0 (zeros 16)) = 0 ∧ (s.atTime 0).frameFault (sif 3 1 0 0 0 (zeros 16)) = 0 ∧
       (s.atTime 0).frameFault (sif 3 1 0 0 0 (zeros 40)) = 0 ∧ (s.atTime 0).frameFault (sif 4 0 0 0 0 (zeros 16)) = 0)) ∧
    (let s := paired { heartAt := some 0 } .run 10500
     s.pair.heartAt = some 0 ∧ 0 + 10500 ≤ (s.atTime 0).time.now) ∧
    (let s := paired { state := .standby } .standby 210000
     s.pair.state = .standby ∧ s.ctl.mode = .standby ∧ s.ctl.imageReady = false ∧ 60000 + lambdaNs s.ctl.tbCode ≤ (s.atTime 0).intoCycle) ∧
    (let s := paired { state := .standby } .standby 0
     s.pair.shadowSince = none ∧ s.cis.lastPour = (sif 3 1 0 0 0 (zeros 16)).cycle.toNat ∧ readDelta 16 (zeros 16) = some [] ∧ s.deltaDiffers [] = none ∧
     ({ s with cis := { s.cis with pouredTallies := [(0, 0, none, tally1)] } }).deltaDiffers [] ≠ none ∧
     ((readDelta 40 (zeros 40)).map (fun ps => ps.all Poured.clean)) = some false ∧ (s.atTime 0).cycleNow < mirrorBoundary (.changeSet [] 1) ∧
     mirrorBoundary (.changeSet [] 0) ≤ (s.atTime 0).cycleNow) ∧
    (let s := paired { state := .standby, heartAt := some 0 } .standby 2950000
     let t := { s with cis := { s.cis with lastPour := 1 } }
     t.pair.heartAt.isSome = true ∧ t.pair.findingAt = none ∧ t.cis.poured = false ∧ t.tb ≤ (t.atTime 0).intoCycle + 100000 ∧ 1 ≤ t.cis.lastPour ∧
     t.cis.lastPour + 1 = (t.atTime 0).cycleNow ∧ t.pair.deltaDone ≠ some t.cis.lastPour ∧ t.pair.delta = []) := by decide +kernel

/-- The host's module as one of a pair, and a session of L3 to it. -/
def hostPair : State := { host with pair := { host.pair with inPair := true } }
theorem wit_PairCommands : serves hostPair (writeReq 0x7300 0x0E .u8 [1]) ∧ serves hostPair (writeReq 0x7300 0x0E .u8 [2]) ∧
    serves hostPair (writeReq 0x7300 0x0E .u8 [3]) ∧ serves host (writeReq 0x7300 0x0E .u8 [1]) ∧ hostPair.pair.inPair = true ∧ host.pair.inPair = false ∧
    (hostPair.atTime 0).writeFault 0x7300 0x0E 2 = stOk ∧
    admission (via3 (writeReq 0x7300 0x0E .u8 [3])) (writeReq 0x7300 0x0E .u8 [3]) ((l3 (paired {} .stop 0)).atTime 0) =
      (after3 (writeReq 0x7300 0x0E .u8 [3]) (paired {} .stop 0), some caller3) ∧
    (after3 (writeReq 0x7300 0x0E .u8 [3]) (paired {} .stop 0)).writeFault 0x7300 0x0E 3 = stOk :=
  ⟨rfl, rfl, rfl, rfl, rfl, rfl, by decide +kernel, serves3 _ _ (by decide +kernel) (by decide +kernel), by decide +kernel⟩
def order0 (d : Bytes) : PendW := { boundary := 0, key := odKey 0x7300 0x0E, data := d, via := sdo, level := 3, client := 0 }
def hand0 (incoming confirmed : Bool) (m : Nat) : Handover := { m, incoming, toStop := false, confirmed, simultaneous := false }
theorem wit_PairHandover :
    (let s := paired { state := .active, heartAt := some 0, partner := some { pour := 0, image := 0, flags := 2, state := 2, epoch := 0 } } .run 0
     let t := { s with ctl := { s.ctl with waiting := [order0 [1]] } }
     t.ctl.waiting = [order0 [1]] ∧ (order0 [1]).key = odKey 0x7300 0x0E ∧ (order0 [1]).boundary ≤ (t.atTime 0).cycleNow ∧ t.pair.state = .active ∧
     t.ctl.mode = .run ∧ t.partnerStandby = true ∧ t.pair.handover = none ∧ t.pair.exchangeStep = 0) ∧
    (let s := paired { state := .out } .stop 0
     s.pair.state = .out ∧ s.ctl.mode ≠ .faultStop) ∧
    (let s := paired { handover := some (hand0 false true 2) } .run 0
     s.pair.handover = some (hand0 false true 2) ∧ (s.atTime 0).cycleNow + 2 = (hand0 false true 2).m) ∧
    (let s := paired { handover := some (hand0 true true 1), held := true, expiry := 5 } .standby 0
     (hand0 true true 1).m ≤ (s.atTime 0).cycleNow + 1 ∧ (s.atTime 0).leaseHeld = true) ∧
    (let s := paired { handover := some (hand0 false false 1) } .run 0
     s.pair.partner.any (fun b => b.flags.getLsbD 1) = false ∧ (s.atTime 0).leaseHeld = false) ∧
    (let s := paired { handover := some (hand0 true true 0), held := true, expiry := 5 } .standby 0
     (hand0 true true 0).m ≤ (s.atTime 0).cycleNow ∧ (s.atTime 0).leaseHeld = true) ∧
    (let s := paired { standbySince := some 0, preferred := true, state := .standby, shadowSince := some 0 } .standby 100000000000000
     let t := { s with od := { s.od with values := [(odKey 0x7300 0x06, [1])] } }
     t.odBool 0x7300 0x06 = true ∧ t.pair.handover = none ∧ t.pair.exchangeStep = 0 ∧ t.pair.findingAt = none ∧
     0 + t.odNat 0x7300 0x05 * 1000000000 ≤ (t.atTime 0).time.now ∧ 0 + t.odNat 0x7300 0x0F * 1000000000 ≤ (t.atTime 0).time.now ∧
     ({ t with pair := { t.pair with exchangeStep := 3 } }).pair.exchangeStep = 3) := by decide +kernel
theorem wit_PairResync :
    (let s := paired { handover := some (hand0 true false 5), state := .joining, resync := some (0, 0) } .stop 250000000
     s.pair.inPair = true ∧ s.sw.running = true ∧ (s.atTime 0).frameFault (sif 6 0 0 250 0 (zeros 16)) = 0 ∧ s.pair.handover = some (hand0 true false 5) ∧
     s.pair.state = .joining ∧ (s.atTime 0).frameFault { sif 6 0 0 250 0 (zeros 16) with crc := 0 } ≠ 0 ∧ s.pair.resync = some (0, 0) ∧
     (s.atTime 0).frameFault (sif 5 0 0 250 0 (zeros 16)) = 0 ∧ (s.atTime 0).frameFault { sif 5 0 0 250 0 (zeros 16) with crc := 0 } ≠ 0 ∧
     0 < storeSize ∧ 0 + 250000000 ≤ (s.atTime 0).time.now) ∧
    (let s := paired { state := .standby } .standby 0
     s.pair.handover = none ∧ (s.atTime 0).cycleNow < 5 ∧ s.pair.findingAt = none ∧ s.ctl.mode = .standby) ∧
    (let s := paired { state := .joining, resync := some (0, 16), seqIn := [none, none, none, none, none, some 0, none] } .stop 0
     (s.atTime 0).frameFault (sif 5 0 1 0 8 (zeros 16)) = 0 ∧ (sif 5 0 1 0 8 (zeros 16)).offset ≠ 16) ∧
    storeSize ≤ storeSize := by decide +kernel
/-- Digests of a store and of its copy that agree, and ones that differ. -/
theorem wit_ResyncComplete (mem : Cells) : (∃ d, storeDigest mem 0 = d) ∧ ∃ d, storeDigest mem 0 ≠ d := by
  refine ⟨⟨_, rfl⟩, ?_⟩
  rcases Classical.em (storeDigest mem 0 = tallyInit) with h | h
  · exact ⟨tally1, by rw [h]; decide⟩
  · exact ⟨tallyInit, h⟩

/-! ### A container -/

theorem leNat_leBytes (n v : Nat) : leNat (leBytes n v) = v % 256 ^ n := by
  induction n generalizing v with
  | zero => simp [leBytes, leNat, Nat.mod_one]
  | succ n ih =>
    simp only [leBytes, leNat, ih, BitVec.toNat_ofNat]
    rw [show 256 ^ (n + 1) = 256 * 256 ^ n by rw [Nat.pow_succ, Nat.mul_comm], Nat.mod_mul]
theorem leBytes_length (n v : Nat) : (leBytes n v).length = n := by
  induction n generalizing v with
  | zero => rfl
  | succ n ih => simp [leBytes, ih]
/-- A field that stands after `a` reads as what it says. -/
theorem field_at (a x b : Bytes) (o n : Nat) (ho : o = a.length) (hn : n = x.length) : slice (a ++ (x ++ b)) o n = x := by
  subst ho hn
  simp [slice]
theorem number_at (a b : Bytes) (o n v : Nat) (ho : o = a.length) (hv : v < 256 ^ n) : leAt (a ++ (leBytes n v ++ b)) o n = v := by
  rw [leAt, field_at a (leBytes n v) b o n ho (leBytes_length n v).symm, leNat_leBytes, Nat.mod_eq_of_lt hv]
/-- A section of a container with its CRC and its padding. -/
def sec (k : Nat) (c : Bytes) : Bytes :=
  leBytes 2 k ++ (leBytes 2 1 ++ (leBytes 4 c.length ++ (leBytes 4 (crc32 c).toNat ++ (leBytes 4 0 ++ (c ++ zeros (pad8 c.length - c.length))))))
theorem sec_length (k : Nat) (c : Bytes) : (sec k c).length = 16 + pad8 c.length := by
  have h : c.length ≤ pad8 c.length := by unfold pad8; omega
  simp only [sec, List.length_append, leBytes_length, zeros, List.length_replicate]
  omega
theorem read_section (n : Nat) (a b : Bytes) (k : Nat) (c : Bytes) (o : Nat) (ho : o = a.length) (hk : k < 65536) (hc : c.length < 4294967296) :
    readSections (n + 1) o (a ++ (sec k c ++ b)) =
      (readSections n (o + 16 + pad8 c.length) (a ++ (sec k c ++ b))).map (fun r => { kind := k, start := o, content := c } :: r) := by
  have hp : c.length ≤ pad8 c.length := by unfold pad8; omega
  have h1 : leAt (a ++ (sec k c ++ b)) o 2 = k := by
    simp only [sec, List.append_assoc]
    exact number_at a _ o 2 k ho hk
  have h2 : leAt (a ++ (sec k c ++ b)) (o + 2) 2 = 1 := by
    rw [show a ++ (sec k c ++ b) = (a ++ leBytes 2 k) ++ (leBytes 2 1 ++ (leBytes 4 c.length ++ (leBytes 4 (crc32 c).toNat ++ (leBytes 4 0 ++
      (c ++ zeros (pad8 c.length - c.length)))) ++ b)) by simp only [sec, List.append_assoc]]
    exact number_at _ _ _ 2 1 (by simp [leBytes_length, ho]) (by decide)
  have h3 : leAt (a ++ (sec k c ++ b)) (o + 4) 4 = c.length := by
    rw [show a ++ (sec k c ++ b) = (a ++ (leBytes 2 k ++ leBytes 2 1)) ++ (leBytes 4 c.length ++ (leBytes 4 (crc32 c).toNat ++ (leBytes 4 0 ++
      (c ++ zeros (pad8 c.length - c.length))) ++ b)) by simp only [sec, List.append_assoc]]
    exact number_at _ _ _ 4 _ (by simp [leBytes_length, ho]) hc
  have h4 : leAt (a ++ (sec k c ++ b)) (o + 8) 4 = (crc32 c).toNat := by
    rw [show a ++ (sec k c ++ b) = (a ++ (leBytes 2 k ++ (leBytes 2 1 ++ leBytes 4 c.length))) ++ (leBytes 4 (crc32 c).toNat ++ ((leBytes 4 0 ++
      (c ++ zeros (pad8 c.length - c.length))) ++ b)) by simp only [sec, List.append_assoc]]
    exact number_at _ _ _ 4 _ (by simp [leBytes_length, ho]) (crc32 c).isLt
  have h5 : leAt (a ++ (sec k c ++ b)) (o + 12) 4 = 0 := by
    rw [show a ++ (sec k c ++ b) = (a ++ (leBytes 2 k ++ (leBytes 2 1 ++ (leBytes 4 c.length ++ leBytes 4 (crc32 c).toNat)))) ++ (leBytes 4 0 ++
      ((c ++ zeros (pad8 c.length - c.length)) ++ b)) by simp only [sec, List.append_assoc]]
    exact number_at _ _ _ 4 _ (by simp [leBytes_length, ho]) (by decide)
  have h6 : slice (a ++ (sec k c ++ b)) (o + 16) c.length = c := by
    rw [show a ++ (sec k c ++ b) = (a ++ (leBytes 2 k ++ (leBytes 2 1 ++ (leBytes 4 c.length ++ (leBytes 4 (crc32 c).toNat ++ leBytes 4 0))))) ++ (c ++
      (zeros (pad8 c.length - c.length) ++ b)) by simp only [sec, List.append_assoc]]
    exact field_at _ _ _ _ _ (by simp [leBytes_length, ho]) rfl
  have h7 : zeroAt (a ++ (sec k c ++ b)) (o + 16 + c.length) (pad8 c.length - c.length) = true := by
    rw [show a ++ (sec k c ++ b) = (a ++ (leBytes 2 k ++ (leBytes 2 1 ++ (leBytes 4 c.length ++ (leBytes 4 (crc32 c).toNat ++ (leBytes 4 0 ++ c)))))) ++
      (zeros (pad8 c.length - c.length) ++ b) by simp only [sec, List.append_assoc]]
    rw [zeroAt, field_at _ _ _ _ _ (by simp [leBytes_length, ho]; omega) (by simp [zeros])]
    simp [zeros]
  have hl : (a ++ (sec k c ++ b)).length = o + 16 + pad8 c.length + b.length := by
    simp only [List.length_append, sec_length, ho]
    omega
  have hne : ¬ o = (a ++ (sec k c ++ b)).length := by rw [hl]; omega
  have hlt : ¬ (a ++ (sec k c ++ b)).length < o + 16 + pad8 c.length := by rw [hl]; omega
  rw [readSections, if_neg hne]
  simp only [h1, h2, h3, h4, h5, h6, h7]
  rw [if_neg (by rintro (h | h | h | h | h) <;> first | exact hlt h | exact h rfl | exact absurd h (by decide))]

/-- The sections of a small container: one task, whose one function is END. -/
def head0 : Bytes := [88, 80, 67, 49, 1, 0, 1, 1] ++ zeros 56
def code0 : Bytes := [1, 0, 0, 0, 1] ++ zeros 7 ++ [1] ++ zeros 6 ++ [86]
def insts0 : Bytes := [1] ++ zeros 10 ++ [0, 0, 0, 0, 1, 64] ++ zeros 7
def tasks0 : Bytes :=
  [1, 7] ++ zeros 6 ++ [255, 0, 0, 0, 1, 0, 0, 0, 0, 0, 64, 0, 80, 0, 0, 0, 100, 0, 0, 0, 64] ++ zeros 23
def body0 : Bytes := sec 1 head0 ++ (sec 2 code0 ++ (sec 3 (zeros 8) ++ (sec 4 insts0 ++ (sec 5 tasks0 ++ sec 6 (zeros 8)))))
/-- Its signature: the digest of the body, the key's identifier, and the bytes of a signature. -/
def sign0 (g : Bytes) : Bytes := Config.sha512 body0 ++ (zeros 8 ++ g)
def cont0 (g : Bytes) : Bytes := body0 ++ sec 8 (sign0 g)
theorem sha512_length (b : Bytes) : (Config.sha512 b).length = 64 := Vector.length_toList
theorem sign0_length (g : Bytes) (hg : g.length = 64) : (sign0 g).length = 136 := by
  simp [sign0, sha512_length, zeros, hg]
theorem body0_length : body0.length = 280 := by
  simp [body0, sec_length, head0, code0, insts0, tasks0, zeros, pad8]
def sects0 (g : Bytes) : List Section :=
  [{ kind := 1, start := 0, content := head0 }, { kind := 2, start := 80, content := code0 }, { kind := 3, start := 120, content := zeros 8 },
   { kind := 4, start := 144, content := insts0 }, { kind := 5, start := 184, content := tasks0 }, { kind := 6, start := 256, content := zeros 8 },
   { kind := 8, start := 280, content := sign0 g }]
theorem cont0_sections (g : Bytes) (hg : g.length = 64) : readSections 9 0 (cont0 g) = .ok (sects0 g) := by
  have L1 : (sec 1 head0).length = 80 := by simp [sec_length, head0, zeros, pad8]
  have L2 : (sec 2 code0).length = 40 := by simp [sec_length, code0, zeros, pad8]
  have L3 : (sec 3 (zeros 8)).length = 24 := by simp [sec_length, zeros, pad8]
  have L4 : (sec 4 insts0).length = 40 := by simp [sec_length, insts0, zeros, pad8]
  have L5 : (sec 5 tasks0).length = 72 := by simp [sec_length, tasks0, zeros, pad8]
  have L6 : (sec 6 (zeros 8)).length = 24 := by simp [sec_length, zeros, pad8]
  have h8 := sign0_length g hg
  have L8 : (sec 8 (sign0 g)).length = 152 := by rw [sec_length, h8]; rfl
  have z1 : head0.length = 64 := by simp [head0, zeros]
  have z2 : code0.length = 20 := by simp [code0, zeros]
  have z3 : (zeros 8).length = 8 := by simp [zeros]
  have z4 : insts0.length = 24 := by simp [insts0, zeros]
  have z5 : tasks0.length = 52 := by simp [tasks0, zeros]
  have r1 := read_section 8 [] (sec 2 code0 ++ (sec 3 (zeros 8) ++ (sec 4 insts0 ++ (sec 5 tasks0 ++ (sec 6 (zeros 8) ++ sec 8 (sign0 g)))))) 1 head0 0 rfl
    (by decide) (by omega)
  have r2 := read_section 7 (sec 1 head0) (sec 3 (zeros 8) ++ (sec 4 insts0 ++ (sec 5 tasks0 ++ (sec 6 (zeros 8) ++ sec 8 (sign0 g))))) 2 code0 80
    (by omega) (by decide) (by omega)
  have r3 := read_section 6 (sec 1 head0 ++ sec 2 code0) (sec 4 insts0 ++ (sec 5 tasks0 ++ (sec 6 (zeros 8) ++ sec 8 (sign0 g)))) 3 (zeros 8) 120
    (by simp [L1, L2]) (by decide) (by omega)
  have r4 := read_section 5 (sec 1 head0 ++ (sec 2 code0 ++ sec 3 (zeros 8))) (sec 5 tasks0 ++ (sec 6 (zeros 8) ++ sec 8 (sign0 g))) 4 insts0 144
    (by simp [L1, L2, L3]) (by decide) (by omega)
  have r5 := read_section 4 (sec 1 head0 ++ (sec 2 code0 ++ (sec 3 (zeros 8) ++ sec 4 insts0))) (sec 6 (zeros 8) ++ sec 8 (sign0 g)) 5 tasks0 184
    (by simp [L1, L2, L3, L4]) (by decide) (by omega)
  have r6 := read_section 3 (sec 1 head0 ++ (sec 2 code0 ++ (sec 3 (zeros 8) ++ (sec 4 insts0 ++ sec 5 tasks0)))) (sec 8 (sign0 g)) 6 (zeros 8) 256
    (by simp [L1, L2, L3, L4, L5]) (by decide) (by omega)
  have r7 := read_section 2 body0 [] 8 (sign0 g) 280 body0_length.symm (by decide) (by omega)
  have e : readSections 2 432 (cont0 g) = .ok [] := by
    have : (cont0 g).length = 432 := by simp [cont0, body0_length, L8]
    rw [readSections, if_pos this.symm]
  simp only [List.append_assoc, List.append_nil, List.nil_append, body0, z1, z2, z3, z4, z5, h8] at r1 r2 r3 r4 r5 r6 r7 e ⊢
  simp only [cont0, body0, List.append_assoc] at e ⊢
  rw [r1, show 0 + 16 + pad8 64 = 80 from rfl, r2, show 80 + 16 + pad8 20 = 120 from rfl, r3, show 120 + 16 + pad8 8 = 144 from rfl, r4,
    show 144 + 16 + pad8 24 = 184 from rfl, r5, show 184 + 16 + pad8 52 = 256 from rfl, r6, show 256 + 16 + pad8 8 = 280 from rfl, r7,
    show 280 + 16 + pad8 136 = 432 from rfl, e]
  rfl

/-- The image that the loader makes of it. -/
def capp : AppImage :=
  { tbCode := 1, minEdition := 0, rollback := 0, funcs := [(0, 1)], code := [0x56000000], params := [], constData := []
    segs := [{ task := 0, offset := 0x1000000, size := 64, init := [] }], blocks := [], placement := 7, maxStagger := 0
    tasks := [{ task0 with bucketBudget := 64, worstSteps := 80 }], signals := [], hash := Config.sha512 body0
    ident := BitVec.ofNat 32 (beNat ((Config.sha512 body0).take 4)) }
theorem code0_ok : checkCode code0 = .ok { funcs := [(0, 1)], code := [0x56000000], xs := [[{ at0 := 0, op := 0x56, words := 1, target := none, call := none, inst := none }]] } := by
  decide +kernel
theorem sign0_parts (g : Bytes) (hg : g.length = 64) : (sign0 g).take 64 = Config.sha512 body0 ∧ slice (sign0 g) 64 8 = zeros 8 ∧ slice (sign0 g) 72 64 = g := by
  have hh := sha512_length body0
  refine ⟨?_, ?_, ?_⟩
  · rw [sign0, List.take_append_of_le_length (by rw [hh]), List.take_of_length_le (by rw [hh])]
  · rw [sign0]
    exact field_at _ _ _ _ _ hh.symm (by simp [zeros])
  · have := field_at (Config.sha512 body0 ++ zeros 8) g [] 72 64 (by simp [hh, zeros]) hg.symm
    simpa [sign0] using this
theorem cont0_framing (g : Bytes) (hg : g.length = 64) : checkFraming (cont0 g) = .ok (sects0 g) := by
  have hl : ¬ 16777216 < (cont0 g).length := by
    have : (sec 8 (sign0 g)).length = 152 := by rw [sec_length, sign0_length g hg]; rfl
    simp [cont0, body0_length, this]
  rw [checkFraming, if_neg hl, cont0_sections g hg]
  have : sect (sects0 g) 1 = head0 := rfl
  simp only [this]
  exact if_pos ⟨Or.inl rfl, by decide +kernel⟩
theorem cont0_hash (g : Bytes) (hg : g.length = 64) : hashOk (cont0 g) (sign0 g) 280 = true := by
  have tk : (cont0 g).take 280 = body0 := by
    rw [cont0, List.take_append_of_le_length (by rw [body0_length]), List.take_of_length_le (by rw [body0_length])]
  simp only [hashOk, tk, (sign0_parts g hg).1, beq_self_eq_true]
theorem cont0_signed (g : Bytes) (hg : g.length = 64) (hv : Config.ed25519 (zeros 32) (Config.sha512 body0) g = true) :
    sigOk [(zeros 8, zeros 32)] (sign0 g) = true := by
  obtain ⟨h1, h2, h3⟩ := sign0_parts g hg
  simp [sigOk, h1, h2, h3, hv]
/-- R117: with a key of 0x8000:0B under which the signature verifies, the container passes every check. -/
theorem cont0_loads (g : Bytes) (hg : g.length = 64) (hv : Config.ed25519 (zeros 32) (Config.sha512 body0) g = true) :
    loadImage [(zeros 8, zeros 32)] 0x00010000 (cont0 g) = .ok capp := by
  have h8 := sign0_length g hg
  have t64 := (sign0_parts g hg).1
  have fr := cont0_framing g hg
  have si : checkSignature [(zeros 8, zeros 32)] (cont0 g) (sects0 g) = .ok () := by
    have s8 : sect (sects0 g) 8 = sign0 g := rfl
    have st : (((sects0 g).find? (fun x => x.kind = 8)).map (·.start)).getD 0 = 280 := rfl
    simp only [checkSignature, s8, st, h8, cont0_hash g hg, cont0_signed g hg hv]
    rfl
  have s1 : sect (sects0 g) 1 = head0 := rfl
  have s2 : sect (sects0 g) 2 = code0 := rfl
  have s3 : sect (sects0 g) 3 = zeros 8 := rfl
  have s4 : sect (sects0 g) 4 = insts0 := rfl
  have s5 : sect (sects0 g) 5 = tasks0 := rfl
  have s6 : sect (sects0 g) 6 = zeros 8 := rfl
  have s8 : sect (sects0 g) 8 = sign0 g := rfl
  have c3 : checkConst (zeros 8) = .ok ([], []) := by decide +kernel
  have c4 : checkInstance 1 [{ task := 0, entryFn := 0 }] [[{ at0 := 0, op := 0x56, words := 1, target := none, call := none, inst := none }]] insts0 =
    .ok (capp.segs, []) := by decide +kernel
  have c5 : checkTasks 1 1 1 [] tasks0 = .ok { placement := 7, maxStagger := 0, tasks := capp.tasks } := by decide +kernel
  have c6 : checkSignals { placement := 7, maxStagger := 0, tasks := capp.tasks } (zeros 8) = .ok [] := by decide +kernel
  have e1 : leAt head0 6 1 = 1 := by decide +kernel
  have e2 : leAt head0 7 1 = 1 := by decide +kernel
  have e3 : (tabulate (leAt tasks0 0 1) fun k => ({ task := leAt tasks0 (4 + 48 * k) 1, entryFn := leAt tasks0 (16 + 48 * k) 2 } : TaskRow)) = [{ task := 0, entryFn := 0 }] := by
    decide +kernel
  have e4 : readSigs (zeros 8) = [] := by decide +kernel
  have e5 : leAt head0 8 4 = 0 := by decide +kernel
  have e6 : leAt head0 0x10 4 = 0 := by decide +kernel
  unfold loadImage
  simp only [fr, s1, s2, s3, s4, s5, s6, s8, si, code0_ok, e1, e2, e3, e4, c3]
  simp only [c4, List.length_cons, List.length_nil, c5, c6, e5, e6, t64]
  rfl

/-! ### Translation, negotiation and the host -/

/-- A module that knows the key of the container, with the container in its application slots. -/
def keyed (s : State) (g : Bytes) : State :=
  { s with
    od := { s.od with values := [(odKey 0x8000 0x0B, zeros 40)] }
    upd := { s.upd with appActive := some false, appA := { bytes := cont0 g, state := 3 }, appB := { bytes := cont0 g, state := 3 } } }
theorem keyed_loads (s : State) (g : Bytes) (he : (keyed s g).edition = 0x00010000) (hg : g.length = 64)
    (hv : Config.ed25519 (zeros 32) (Config.sha512 body0) g = true) :
    (keyed s g).loaded (keyed s g).slotBytes = some capp ∧ (keyed s g).loaded (keyed s g).otherBytes = some capp := by
  have k : (keyed s g).appKeys = [(zeros 8, zeros 32)] := by
    have : (keyed s g).odGet 0x8000 0x0B = zeros 40 := rfl
    rw [State.appKeys, this]
    decide +kernel
  have b1 : (keyed s g).slotBytes = cont0 g := rfl
  have b2 : (keyed s g).otherBytes = cont0 g := rfl
  rw [b1, b2, and_self, State.loaded, k, he, cont0_loads g hg hv]
def stage2 : State := { live .boot 0 with ctl := { (live .boot 0).ctl with stage := 2 } }
def warmed : State :=
  { live .boot 0 with ctl := { (live .boot 0).ctl with warmRestart := some 0, digest := translationDigest [] 0 0x00010000 } }
def joining : State :=
  { live .run 0 with
    ctl := { (live .run 0).ctl with digest := translationDigest [] 0 0x00010000 }
    lanA := { (live .run 0).lanA with state := .reintegrating } }
def exchanging : State := { live .stop 0 with ctl := { (live .stop 0).ctl with exchange := some 0 } }
theorem native_ok (s : State) (ha : s.app = some app0) (he : s.edition = 0x00010000) (hd : s.ctl.digest = translationDigest [] 0 0x00010000) :
    s.nativeOk [] = true := by
  have i : (((some app0 : Option AppImage).map (·.ident)).getD 0) = 0 := rfl
  simp only [State.nativeOk, State.nativeDigest, ha, he, hd, i]
  simp
def other : PartnerId :=
  { edition := 2, imageId := 0, mapDigest := [], matrixDigest := 0, pairId := 0, preferred := false, slotId := 0, serial := [], starting := true
    budgetOk := true, shadowImage := 0 }
theorem edition_differs (s : State) (p : PartnerId) (h : p.edition ≠ s.edition) : s.pairReason p = 1 := by
  have : s.identity.edition = s.edition := rfl
  rw [State.pairReason, if_pos (by rw [this]; exact h)]
/-- The clauses about a container hold wherever its signature verifies: Ed25519 is a function of another standard. -/
theorem wit_TranslationAndNegotiation :
    (∀ g : Bytes, g.length = 64 → Config.ed25519 (zeros 32) (Config.sha512 body0) g = true →
      (let s := keyed stage2 g
       s.ctl.mode = .boot ∧ s.ctl.stage = 2 ∧ s.ctl.warm = false ∧ s.loaded s.slotBytes = some capp) ∧
      (let s := keyed exchanging g
       s.ctl.mode = .stop ∧ s.ctl.warmRestart = none ∧ (s.lane .A).state = .isIn ∧ s.ctl.exchange = some 0 ∧ s.pair.exchangeStep = 0 ∧
       s.loaded s.otherBytes = some capp ∧ ∃ l, l ≠ Lane.A ∧ (s.lane l).state = .isIn ∧ (s.lane l).digest = none)) ∧
    (¬ (warmed.ctl.mode = .boot ∧ warmed.ctl.stage = 2 ∧ warmed.ctl.warm = false) ∧ warmed.ctl.warmRestart = some 0 ∧ warmed.nativeOk [] = true) ∧
    (joining.ctl.mode = .run ∧ joining.ctl.warmRestart = none ∧ (joining.lane .A).state = .reintegrating ∧ (joining.lane .A).copySince = none ∧
      joining.nativeOk [] = true) ∧
    (let s := paired {} .run 0
     s.pair.inPair = true ∧ s.pair.negotiated = false ∧ 3 ≤ s.ctl.stage ∧ s.ctl.mode ≠ .faultStop ∧ s.sw.running = true ∧ (s.atTime 0).leaseHeld = false ∧
     (s.atTime 0).pairReason other ≠ 0) ∧
    ((paired { held := true, expiry := 9 } .run 0).atTime 0).leaseHeld = true := by
  refine ⟨fun g hg hv => ⟨⟨rfl, rfl, rfl, (keyed_loads _ g rfl hg hv).1⟩,
    rfl, rfl, rfl, rfl, rfl, (keyed_loads _ g rfl hg hv).2, .B, by decide, rfl, rfl⟩, ⟨by decide, rfl, native_ok _ rfl rfl rfl⟩,
    ⟨rfl, rfl, rfl, rfl, native_ok _ rfl rfl rfl⟩, ?_, ?_⟩
  · refine ⟨rfl, rfl, by decide, by decide, rfl, by decide +kernel, ?_⟩
    rw [edition_differs _ _ (by decide +kernel)]
    decide
  · decide +kernel

/-- Session 1 as it stands after a request with SEQ 1, its answer stored. -/
def answered : State :=
  { l3 (live .stop 0) with od := { (l3 (live .stop 0)).od with
      sessions := (List.replicate 9 ({} : Session)).set 1 { state := 2, client := 5, level := 3, port := 7, lastSeq := 1, stored := some (stOk, []) } } }
theorem wit_HostAdmission (f : ReqFrame) :
    (let s := l3 (live .stop 0)
     s.od.running = true ∧ s.portOn 7 = true ∧ (1 : Fin 9) ≠ 0 ∧ s.Shaped ∧ (s.session 2).state ≠ 2 ∧ (s.session 1).state = 2 ∧
     (1 : Nat) ≠ (s.session 1).addr ∧ 0 = (s.session 1).addr ∧ frameMac [] 1 1 f = frameMac (s.session 1).key 1 1 f ∧
     (sessionToken 1 s).2 = true ∧ (s.session 1).lastSeq < 1) ∧
    (let s := answered
     (s.session 1).lastSeq = 1 ∧ (s.session 1).stored = some (stOk, []) ∧ (0 : BitVec 32) < (s.session 1).lastSeq ∧ (sessionToken 1 s).2 = true) ∧
    (let s := { answered with od := { answered.od with sessions := answered.od.sessions.set 1 { answered.session 1 with bucket := some { credit := 0, last := 0 } } } }
     (sessionToken 1 s).2 = false) ∧
    (State.reset.od.running = false ∧ host.canOn 0 = true ∧ (host.sdoServer 0).xfer = none ∧ host.canOn 1 = false ∧
      (let s := host.setXfer 0 (some { download := true, key := 0, total := 0, data := [], block := false, lastAt := 0, toggle := false })
       s.canOn 0 = true ∧ (s.sdoServer 0).xfer ≠ none)) := by
  refine ⟨⟨rfl, by decide +kernel, by decide, { reset_shaped with sessions := rfl }, by decide, rfl, by decide, rfl, rfl, by decide +kernel, by decide⟩, ?_, ?_, ?_⟩ <;>
    decide +kernel
/-- Session 1 is OPENING. -/
def opening : State :=
  { l3 (live .stop 0) with od := { (l3 (live .stop 0)).od with sessions := (List.replicate 9 ({} : Session)).set 1 { state := 1, client := 5, level := 3, port := 7 } } }
theorem wit_AbacusSessions :
    (let s := l3 (live .stop 0)
     s.Shaped ∧ s.od.running = true ∧ s.portOn 7 = true ∧ (openToken (s.atTime 0)).2 = true ∧
       (openToken (s.atTime 0)).1.openFault 7 5 3 (zeros 16) = stOk ∧ (openToken (s.atTime 0)).1.freeSession = some 2 ∧
       (openToken (s.atTime 0)).1.openFault 7 5 3 (zeros 15) ≠ stOk ∧ (s.session 1).state = 2 ∧
       (s.session 1).lastAt + (s.atTime 3000000000000).odNat 0x1200 0x04 * 1000000000 ≤ (s.atTime 3000000000000).time.now) ∧
    (let s := opening
     s.Shaped ∧ s.od.running = true ∧ s.portOn 7 = true ∧ (s.session 1).state = 1 ∧ (sessionToken 1 (s.atTime 0)).2 = true ∧
       [] ≠ frameMac (s.session 1).key 1 1 { op := 2 } ∧ (s.session 1).openedAt + 1000000000 ≤ (s.atTime 1000000000).time.now) ∧
    (admission (via3 { op := 3 }) { op := 3 } ((l3 (live .stop 0)).atTime 0) = (after3 { op := 3 } (live .stop 0), some caller3)) ∧
    (admission (via3 { op := 4 }) { op := 4 } ((l3 (live .stop 0)).atTime 0) = (after3 { op := 4 } (live .stop 0), some caller3)) := by
  refine ⟨⟨{ reset_shaped with sessions := rfl }, ?_⟩, ⟨{ reset_shaped with sessions := rfl }, rfl, ?_, rfl, ?_, ?_, ?_⟩, l3_stop _, l3_stop _⟩
  · decide +kernel
  · decide +kernel
  · decide +kernel
  · intro h
    have := congrArg List.length h
    have l : ∀ k m, (Config.hmacSha256 k m).length = 32 := fun _ _ => Vector.length_toList
    simp [frameMac, l] at this
  · decide +kernel

/-! ### Abacus and SDO operations, updates -/

/-- A NON-VITAL U8 signal of the host, and a module in STOP that has it. -/
def sig0 : SigEntry := { n := 0, entry := BitVec.ofNat 128 (2 * 2 ^ 126 + 2 ^ 119 + 0x1000 * 2 ^ 94 + 128 * 2 ^ 82), init := 0 }
def signalled : State := { live .stop 0 with ctl := { (live .stop 0).ctl with image := some { app0 with signals := [sig0] } } }
theorem l3_signal (f : ReqFrame) : admission (via3 f) f ((l3 signalled).atTime 0) = (after3 f signalled, some caller3) :=
  serves3 signalled f (by decide +kernel) (by decide +kernel)
theorem wit_AbacusOperations :
    (serves host (readReq 0x1000 2) ∧ readFault 0x1000 2 2 = stOk ∧ ((host.atTime 0).odRead 0x1000 2).length ≤ 1400 ∧
      serves host (readReq 0x0FFF 0) ∧ readFault 0x0FFF 0 2 ≠ stOk) ∧
    (readFault 0x7000 6 3 = stOk ∧ isDomain 0x7000 6 = true ∧
      (let f : ReqFrame := { op := 0x12, index := 0x7000, sub := 6, ty := 14, offset := 0, length := 0 }
       0 + 0 ≤ ((after3 f (live .stop 0)).odRead 0x7000 6).length) ∧
      (let f : ReqFrame := { op := 0x14, index := 0x7000, sub := 6, ty := 14, offset := 0, length := 1 }
       0 ≤ ((after3 f (live .stop 0)).odRead 0x7000 6).length)) ∧
    (serves host (writeReq 0x6000 0x0C .u16 [1, 0]) ∧ (writeCommand 0x6000 0x0C).isNone = true ∧ (writeSpecial 0x6000 0x0C).isNone = true ∧
      (odRow 0x6000 0x0C).any (fun r => r.timing = .boundary) = false ∧ (host.atTime 0).plainFault 0x6000 0x0C 2 .u16 [1, 0] = stOk ∧
      (host.atTime 0).plainFault 0x6000 0x0C 2 .u16 [1] ≠ stOk) ∧
    (serves host (writeReq 0x3100 2 .bool [1]) ∧ (writeCommand 0x3100 2).isNone = true ∧ (writeSpecial 0x3100 2).isNone = true ∧
      (odRow 0x3100 2).any (fun r => r.timing = .boundary) = true ∧ (host.atTime 0).plainFault 0x3100 2 2 .bool [1] = stOk) ∧
    ((l3 (live .stop 0)).Shaped ∧ writeRight 0x5000 5 3 = stOk ∧ isDomain 0x5000 5 = true ∧
      (let q := after3 (segmentReq 0x5000 5 0 4 false []) (live .stop 0)
       (q.session 1).asm = none ∧ q.assembling 1 (odKey 0x5000 5) = false ∧ coverTo [(0, [])] 1 0 ≠ 4) ∧
      (let q := after3 (segmentReq 0x5000 5 0 4 false (zeros 4)) (live .stop 0)
       (q.session 1).asm = none ∧ q.assembling 1 (odKey 0x5000 5) = false ∧ coverTo [(0, zeros 4)] 1 0 = 4)) ∧
    ((after3 { op := 0x20, index := 0, ty := ((l3 signalled).atTime 0).signalType 0 } signalled).signal 0 = some sig0 ∧ sig0.size ≤ 1400 ∧
      (let q := after3 { op := 0x21, index := 0, ty := odCode .u8, length := 1, data := [7] } signalled
       q.signal 0 = some sig0 ∧ q.signalFault sig0 3 .u8 [7] = stOk ∧ q.signalFault sig0 3 .u16 [7] ≠ stOk)) := by
  refine ⟨⟨rfl, ?_, ?_, rfl, ?_⟩, ?_, ⟨rfl, ?_⟩, ⟨rfl, ?_⟩, ⟨{ reset_shaped with sessions := rfl }, ?_⟩, ?_⟩ <;> decide +kernel
def held0 : PendW := { boundary := 3, key := odKey 0x3100 2, data := [1], via := sdo, level := 2, client := 5 }
theorem wit_BoundaryContest :
    (let s := { live .run 5000000 with ctl := { (live .run 0).ctl with waiting := [held0, { held0 with data := [0], client := 6 }] } }
     (s.ctl.waiting.filter (fun w => w.key = odKey 0x3100 2 && decide (w.boundary ≤ (s.atTime 0).cycleNow))) = held0 :: [{ held0 with data := [0], client := 6 }] ∧
       ((0x3100, 2) : BitVec 16 × BitVec 8) ≠ (0x1101, 1) ∧ ((0x3100, 2) : BitVec 16 × BitVec 8) ≠ (0x6000, 0x10) ∧
       ((0x3100, 2) : BitVec 16 × BitVec 8) ≠ (0x7300, 0x0E) ∧ (prevailing false 1 (0, held0) [{ held0 with data := [0], client := 6 }]).2 = held0) ∧
    (after3 (writeReq 0x1200 0x08 .ostring (zeros 32)) (live .stop 0)).plainFault 0x1200 0x08 3 .ostring (zeros 32) = stOk ∧
    (after3 (writeReq 0x1200 0x07 .u8 [1]) (live .stop 0)).writeFault 0x1200 0x07 3 = stOk ∧
    (let m : Bytes := [1, 0, 1, 0, 1] ++ zeros 11
     (after3 (writeReq 0x7000 0x06 .domain m) (live .stop 0)).plainFault 0x7000 0x06 3 .domain m = stOk ∧
       ((chunksOf 16 m).any mapEntryBad || codesTwice (chunksOf 16 m)) = false) := by
  decide +kernel
def transfer0 (download : Bool) : SdoXfer :=
  { download, key := odKey 0x8000 4, total := 4, data := if download then [1, 2] else zeros 9, block := false, lastAt := 0, toggle := false }
theorem wit_SdoTransfers :
    (host.canOn 0 = true ∧ (host.sdoServer 0).xfer = none ∧ ((host.atTime 0).sdoCaller 0).level = 2 ∧ readFault 0x1000 2 2 = stOk ∧
      ((host.atTime 0).odRead 0x1000 2).length ≤ 4 ∧ readFault 0x1000 1 2 = stOk ∧ 4 < ((host.atTime 0).odRead 0x1000 1).length ∧
      readFault 0x0FFF 0 2 ≠ stOk ∧ writeRight 0x8000 4 2 = stOk) ∧
    (let s := host.setXfer 0 (some (transfer0 true))
     let x := transfer0 true
     s.canOn 0 = true ∧ (s.sdoServer 0).xfer = some x ∧ x.block = false ∧ x.download = true ∧ (x.data ++ ([3] : Bytes).take 7).length ≤ x.total ∧
       (x.data ++ ([3, 4] : Bytes).take 7).length = x.total ∧ 5 ≠ x.nextSeqno ∧ x.lastAt + 1000000000 ≤ (s.atTime 1000000000).time.now) ∧
    (let s := host.setXfer 0 (some (transfer0 false))
     s.canOn 0 = true ∧ (s.sdoServer 0).xfer = some (transfer0 false) ∧ (transfer0 false).block = false ∧ (transfer0 false).download = false) := by
  decide +kernel
/-- A transfer to the inactive application slot. -/
def receiving (st : UState) (blocks : List (Nat × BitVec 32 × Bytes)) : State :=
  { host with
    od := { host.od with values := [(odKey 0x1200 0x0C, [2]), (odKey 0x8000 2, [0x10]), (odKey 0x8000 4, [4, 0, 0, 0]), (odKey 0x8000 5, [4, 0, 0, 0])] }
    upd := { host.upd with state := st, app := true, imageLen := 4, streamLen := 4, blocks, appA := { state := 1 } } }
theorem wit_UpdateTransfer (crc : BitVec 32) (b : Bytes) :
    (serves (receiving .idle []) (writeReq 0x8000 0x01 .u8 [1]) ∧ ((receiving .idle []).atTime 0).beginFault = stOk ∧
      serves (receiving .receiving []) (writeReq 0x8000 0x01 .u8 [1]) ∧ ((receiving .receiving []).atTime 0).beginFault ≠ stOk ∧
      ((receiving .idle []).atTime 0).writeFault 0x8000 0x01 2 = stOk) ∧
    (serves (receiving .receiving []) (writeReq 0x8010 0x01 .domain b) ∧ ((receiving .receiving []).atTime 0).writeFault 0x8010 0x01 2 = stOk ∧
      typeBad 0x8010 0x01 .domain b = stOk ∧ (receiving .receiving []).upd.state = .receiving ∧ 0 % 1024 = 0 ∧ 0 < (receiving .receiving []).upd.streamLen ∧
      4 = (receiving .receiving []).upd.blockLen 0 ∧ (zeros 4).length = 4 ∧ lookupKey (0 / 1024) (receiving .receiving []).upd.blocks = none ∧
      lookupKey (0 / 1024) (receiving .receiving [(0, crc, b)]).upd.blocks = some (crc, b) ∧ 1 % 1024 ≠ 0) ∧
    (serves (receiving .complete []) (writeReq 0x8000 0x01 .u8 [2]) ∧ (receiving .complete []).upd.state = .complete ∧
      (receiving .receiving []).upd.state ≠ .complete) ∧
    (serves (receiving .complete []) (writeReq 0x8000 0x01 .u8 [4]) ∧ (receiving .complete []).upd.state ≠ .idle ∧
      (receiving .complete []).upd.state ≠ .activating ∧ (receiving .complete []).upd.state ≠ .trial ∧ (receiving .idle []).upd.state = .idle) := by
  refine ⟨⟨rfl, ?_, rfl, ?_, ?_⟩, ⟨rfl, ?_, ?_, rfl, rfl, by decide, rfl, rfl, rfl, rfl, by decide⟩, ⟨rfl, rfl, by decide⟩, rfl, by decide, by decide, by decide, rfl⟩
  · decide +kernel
  · decide +kernel
  · decide +kernel
  · decide +kernel
  · have r : odRow 0x8010 0x01 = some ⟨0x8010, 0x01, .domain, .wo, 2, .immediate, 0, 0, 0, false, 1, 1036⟩ := by decide +kernel
    have n : odNumeric .domain = false := rfl
    have o : (OdType.domain = OdType.ostring) = False := by simp
    simp [typeBad, r, typeFault, n, o, bad, Nat.mod_one]
/-- A verification of the container's transfer, with every lane IN. -/
def verifying (b : Bytes) : State :=
  { live .stop 0 with
    od := { State.reset.od with values := [(odKey 0x8000 0x0B, zeros 40)] }
    upd := { State.reset.upd with state := .verifying, app := true, imageLen := 432, streamLen := 432, blocks := [(0, 0, b)] } }
theorem stream_one (u : Update) (b : Bytes) (hl : u.streamLen = 432) (hb : u.blocks = [(0, 0, b)]) : u.stream = b := by
  have h : List.range ((432 + 1023) / 1024) = [0] := rfl
  rw [Update.stream, hl, h, hb]
  exact List.append_nil b
/-- R424 step 7: the container passes every check (where its signature verifies). -/
theorem verify_passes (g : Bytes) (hg : g.length = 64) (hv : Config.ed25519 (zeros 32) (Config.sha512 body0) g = true) :
    (((verifying (cont0 g)).atTime 0).checkImage [] true).2.reason = 0 := by
  have h8 := sign0_length g hg
  generalize hs : (verifying (cont0 g)).atTime 0 = s
  have r : s.upd.rebuilt = some (cont0 g) := by
    rw [← hs]
    exact congrArg some (stream_one _ _ rfl rfl)
  have a : s.upd.app = true := by rw [← hs]; rfl
  have e : s.edition = 0x00010000 := by rw [← hs]; rfl
  have k : s.appKeys = [(zeros 8, zeros 32)] := by
    have : s.odGet 0x8000 0x0B = zeros 40 := by rw [← hs]; rfl
    rw [State.appKeys, this]
    decide +kernel
  have c : s.copiesBad [] true = false := by rw [← hs]; rfl
  have w : s.rollbackHalf true = 0 := by rw [← hs]; rfl
  have l : s.loadReason (cont0 g) = 0 := by rw [State.loadReason, k, e, cont0_loads g hg hv]
  have s8 : sect (sects0 g) 8 = sign0 g := rfl
  have s1 : sect (sects0 g) 1 = head0 := rfl
  have st : (((sects0 g).find? (fun x => x.kind = 8)).map (·.start)).getD 0 = 280 := rfl
  have e5 : leAt head0 8 4 = 0 := by decide +kernel
  have e6 : leAt head0 0x10 4 = 0 := by decide +kernel
  have x : (s.checkApp (cont0 g)).reason = 0 := by
    simp only [State.checkApp, cont0_framing g hg, s8, s1, st, h8, cont0_hash g hg, k, cont0_signed g hg hv, e5, e6, w, e, l]
    decide
  simp only [State.checkImage, r, a, if_true, x, c, true_and]
  exact x
/-- A verified transfer to application slot B, below the counter or not. -/
def verified (roll : Nat) : State :=
  { receiving .verified [] with
    fab := { State.reset.fab with rollback := 1 }
    upd := { (receiving .verified []).upd with appActive := some true, appA := { state := 3, allCopies := true, rollback := roll } } }
def tried : State := { live .run 100 with upd := { State.reset.upd with trialKind := some true, appActive := some true, appA := { fallback := true } } }
def activating (roll : Nat) : State := { live .stop 0 with upd := (verified roll).upd, fab := (verified roll).fab }
theorem l3_activating (roll : Nat) (hr : roll = 0 ∨ roll = 65536) (f : ReqFrame) :
    admission (via3 f) f ((l3 (activating roll)).atTime 0) = (after3 f (activating roll), some caller3) := by
  rcases hr with rfl | rfl <;> exact serves3 _ f (by decide +kernel) (by decide +kernel)
theorem wit_UpdateVerdicts :
    (∀ g : Bytes, g.length = 64 → Config.ed25519 (zeros 32) (Config.sha512 body0) g = true →
      (verifying (cont0 g)).upd.state = .verifying ∧ (((verifying (cont0 g)).atTime 0).checkImage [] true).2.reason = 0) ∧
    ((verifying []).upd.state = .verifying ∧ (((verifying []).atTime 0).checkImage [] true).2.reason ≠ 0) ∧
    (∀ roll f, roll = 0 ∨ roll = 65536 →
      admission (via3 f) f ((l3 (activating roll)).atTime 0) = (after3 f (activating roll), some caller3)) ∧
    (let q (roll : Nat) := after3 (writeReq 0x8000 0x01 .u8 [3]) (activating roll)
     (q 0).writeFault 0x8000 0x01 3 = stOk ∧ (q 65536).mayActivate = true ∧ (q 65536).targetRolled = false ∧ (q 0).mayActivate = true ∧
       (q 0).targetRolled = true ∧ (after3 (writeReq 0x8000 0x01 .u8 [3]) (live .stop 0)).mayActivate = false ∧ caller3.level = 3) ∧
    (serves (verified 0) (writeReq 0x8000 0x01 .u8 [3]) ∧ ((verified 0).atTime 0).writeFault 0x8000 0x01 2 = stOk) ∧
    (tried.upd.trialKind = some true ∧ (tried.atTime 100).trialFailed = true ∧ tried.upd.active true = some true ∧ (tried.upd.slot true false).fallback = true) := by
  refine ⟨fun g hg hv => ⟨rfl, verify_passes g hg hv⟩, ⟨rfl, ?_⟩, fun roll f hr => l3_activating roll hr f, ?_, ⟨rfl, ?_⟩, ?_⟩ <;> decide +kernel

/-! ### States of the whole machine -/

theorem reset_sound : State.reset.Sound where
  events := { room := by decide, seqs := by simp [State.reset, seqsBefore] }
  memory := rfl
  shape := reset_shaped
/-- Premises of the statements about every step: soundness and a queue with a command in front. -/
theorem wit_StepKeepsSound : State.reset.Sound ∧ (∃ t, step { State.reset with pending := [.supplyOn 0] } = .next t) :=
  ⟨reset_sound, _, rfl⟩
theorem wit_RollbackNeverFalls : State.reset.Sound ∧ (∃ t, exec (.supplyOn 0) State.reset = .next t) := ⟨reset_sound, _, rfl⟩
theorem wit_CommandsTouchOnlyTheirParts : ∃ t, exec (.vigilanceTrip 7 0) State.reset = .next t := ⟨_, rfl⟩
theorem wit_StepRunsTheFrontCommand : State.reset.pending = [] := rfl

/-! ### Results worked out by hand

Each number stands in a worked example of the spec or follows from the rule that is named. -/

/-- Chapter 1, cycle number and column: with T_b = 1 ms, time 1,760,000,000,123,456,789 lies in cycle 1,760,000,000,123, column 3 of 4. -/
theorem test_cycle_number :
    (let s := live .run 1760000000123456789
     s.cycleNow = 1760000000123 ∧ s.intoCycle = 456789 ∧ s.cycleNow % 4 = 3) := by decide +kernel
/-- Chapter 2, a dissent: for N = 1,760,000,000,202 and core index 1 the rotation names lane B, and C after it. -/
theorem test_rotation : Sys2Proof.Machine.rotation 1760000000202 1 [.A, .B, .C] = [.B, .C, .A] ∧
    Sys2Proof.Machine.rotation 1760000000202 1 [.A, .C] = [.C, .A] := by decide
/-- Chapter 3, the door task: R72 gives task 5 a demand of 2,500,000 steps, which fits 3,912,000; 12,000,000 does not fit. -/
def task2 : TaskDef := { task0 with task := 2, priority := 10, stepBudget := 50000 }
def task5 : TaskDef := { task0 with task := 5, priority := 4, period := 10, phase := 3, stepBudget := 2000000 }
theorem test_demand : demandOf [task2, task5] task5 = 2500000 ∧ demandOf [task2, task5] task2 = 50000 ∧ budgetsFit [task2, task5] 1 160 30 = true ∧
    budgetsFit [task2, { task5 with stepBudget := 3412001 }] 1 160 30 = false := by decide +kernel
/-- Chapter 4: ADD.F32 v5, v3, v4 is 0x20914310, and LD.F32 v2 from CONST offset 0x40 is 0x10908080 with its literal (R96, R98). -/
theorem test_words_of_code :
    (decodeX [0x20914310] 1 0).map (fun x => (x.op, x.words)) = some (0x20, 1) ∧
    (decodeX [0x10908080, 0x40] 1 0).map (fun x => (x.op, x.words)) = some (0x10, 2) ∧ (decodeX [0x20914311] 1 0).isNone = true ∧
    (decodeX [0x20014310] 1 0).isNone = true := by decide +kernel
/-- Chapter 4, a TON across a preset change: 1,010 ms rounds up to 1,020 ms; scan 35 gives 700 ms and no Q, and with 600 ms scan 36 gives Q at 700 ms. -/
theorem test_ton : roundPreset 20000000 1010000000 = 1020000000 ∧
    tonStep 20000000 1020000000 true { et := 680000000, run := false, prev := true, q := false } =
      { et := 700000000, run := false, prev := true, q := false } ∧
    tonStep 20000000 600000000 true { et := 700000000, run := false, prev := true, q := false } =
      { et := 700000000, run := false, prev := true, q := true } ∧
    tonStep 20000000 2000000000 true { et := 700000000, run := false, prev := true, q := false } =
      { et := 720000000, run := false, prev := true, q := false } := by decide +kernel
/-- Chapter 7: VF code 2,650 reads as 11,001 (R196). -/
theorem test_field_voltage : vfOf (List.replicate 64 2650) = 11001 := by decide +kernel
/-- Chapter 9: with the 8-byte preamble 240 bytes take 1,984 ns at 1 Gbit/s, 1,096 bytes 8,832 ns, a beacon 672 ns and a full frame 12,288 ns (R250). -/
theorem test_wire_times : wireNs 2 240 = 1984 ∧ wireNs 2 1096 = 8832 ∧ wireNs 2 76 = 672 ∧ wireNs 2 1528 = 12288 := by decide
/-- Chapter 16, the entry of TractionActive. -/
def traction : SigEntry := { n := 0x123, entry := BitVec.ofNat 128 (0x6000001021080000 * 2 ^ 64), init := 0 }
theorem test_directory_entry : traction.vital = true ∧ traction.safeDir = true ∧ traction.retained = false ∧ traction.inImage = false ∧ traction.ty = .bool ∧
    traction.offset = 0x40 ∧ traction.owner1 = 0x842 ∧ ownPrio traction.owner1 = 8 ∧ ownKind traction.owner1 = 1 ∧ ownId traction.owner1 = 2 ∧
    traction.owner2 = 0 ∧ traction.safe = 0 := by decide +kernel
theorem test_directory_read :
    (let s := { live .stop 0 with ctl := { (live .stop 0).ctl with image := some { app0 with signals := [traction] } } }
     s.odRead 0x9012 4 = [0x60, 0, 0, 0x10, 0x21, 8] ++ zeros 10) := by decide +kernel
/-- Chapter 17: a mean X1 of 2,430 falls into bin 18 (R409, LOW 1,400 and WIDTH 60). -/
theorem test_histogram_bin : binOf (.ofInt 2430) 1400 60 = 18 ∧ binOf (.ofInt 1399) 1400 60 = 0 ∧ binOf (.ofInt 99999) 1400 60 = 31 := by decide +kernel
/-- Chapter 18: without block 9 of 16 the bitmap reads FF FD (R405). -/
theorem test_block_bitmap :
    (({ streamLen := 16160, blocks := (List.range 16 |>.filter (fun k => k ≠ 9)).map (fun k => (k, 0, [])) } : Update).bitmap) = [0xFF, 0xFD] := by
  decide +kernel
/-- R423: COPY, ADD and INSERT rebuild against the source. -/
theorem test_delta :
    deltaOps [1, 2, 3, 4, 5] 9 ([1, 0, 0, 0, 2, 0, 0, 0, 0, 0, 0, 0] ++ ([2, 0, 0, 0, 2, 0, 0, 0, 2, 0, 0, 0, 10, 255] ++ [3, 0, 0, 0, 1, 0, 0, 0, 0, 0, 0, 0, 7])) =
      some [1, 2, 13, 3, 7] := by decide +kernel
/-- R76 and R305 name the CRC-32C and the CRC-32; their check values over the digits 1 to 9 are 0xE3069283 and 0xCBF43926. -/
def digits : Bytes := [0x31, 0x32, 0x33, 0x34, 0x35, 0x36, 0x37, 0x38, 0x39]
theorem test_crc32 : crc32 digits = 0xCBF43926#32 ∧ crc32c digits = 0xE3069283#32 := by decide +kernel

/-! ### Single steps -/

/-- R95, R98: ADD.U8 of 200 and 100 wraps to 44. -/
def regs3 (a b d : Word) : Release := { rel0 with regs := [a, b, d] ++ List.replicate 61 0 }
def regAfter (o : Host.Outcome State Fault Refusal) (k : Nat) : Option Word :=
  match o with
  | .next t => (t.running .A 0).bind (fun r => r.regs[k]?)
  | _ => none
theorem test_add_wraps : regAfter (exec (.xAdd .A 0 .u8 3 0 1) (running (regs3 200 100 0))) 3 = some 44 := by decide +kernel
theorem test_adds_saturates : regAfter (exec (.xAdds .A 0 .i8 3 0 1) (running (regs3 100 100 0))) 3 = some 127 := by decide +kernel
theorem test_sub_sign : regAfter (exec (.xSub .A 0 .i16 3 0 1) (running (regs3 1 3 0))) 3 = some 0xFFFFFFFFFFFFFFFE := by decide +kernel
theorem test_div_truncates : regAfter (exec (.xDiv .A 0 .i32 3 0 1) (running (regs3 0xFFFFFFFFFFFFFFF9 2 0))) 3 = some 0xFFFFFFFFFFFFFFFD := by decide +kernel
theorem test_rem_sign : regAfter (exec (.xRem .A 0 .i32 3 0 1) (running (regs3 0xFFFFFFFFFFFFFFF9 2 0))) 3 = some 0xFFFFFFFFFFFFFFFF := by decide +kernel
theorem test_shr_sign : regAfter (exec (.xShr .A 0 .i8 3 0 1) (running (regs3 0xFFFFFFFFFFFFFF80 1 0))) 3 = some 0xFFFFFFFFFFFFFFC0 := by decide +kernel
theorem test_rol : regAfter (exec (.xRol .A 0 .u8 3 0 1) (running (regs3 0x81 1 0))) 3 = some 3 := by decide +kernel
/-- R99: 1.5 + 2.25 is 3.75 in F32, and 1 / 3 is 0x3EAAAAAB. -/
theorem test_add_float : regAfter (exec (.xAdd .A 0 .f32 3 0 1) (running (regs3 0x3FC00000 0x40100000 0))) 3 = some 0x40700000 := by decide +kernel
theorem test_div_float : regAfter (exec (.xDiv .A 0 .f32 3 0 1) (running (regs3 0x3F800000 0x40400000 0))) 3 = some 0x3EAAAAAB := by decide +kernel
theorem test_sqrt_float : regAfter (exec (.xSqrt .A 0 .f64 3 0) (running (regs3 0x4000000000000000 0 0))) 3 = some 0x3FF6A09E667F3BCD := by decide +kernel
/-- R98: SETB sets bit 7. -/
theorem test_setb : regAfter (exec (.xSetb .A 0 .u8 3 0 7) (running (regs3 1 0 0))) 3 = some 0x81 := by decide +kernel
/-- R364: with the supply the module starts as FABRIC-ONLY at stage 0. -/
def modeAfter (o : Host.Outcome State Fault Refusal) : Option (Mode × Nat) :=
  match o with
  | .next t => some (t.ctl.mode, t.ctl.stage)
  | _ => none
theorem test_supply_on : modeAfter (step { State.reset with pending := [.supplyOn 0] }) = some (.fabricOnly, 0) := by decide +kernel
end Sys2Proof.Tests
end

section
/-! The pour lane of a window (R42): the rotation as the three lanes from lane r on, filtered by agreement. -/

namespace Sys2Proof.Machine

/-! ### Lane numbers modulo 3 -/

@[simp] theorem laneOf_mod (n : Nat) : laneOf (n % 3) = laneOf n := by
  simp only [laneOf, Nat.mod_mod]

@[simp] theorem laneOf_mod_add (n k : Nat) : laneOf (n % 3 + k) = laneOf (n + k) := by
  simp only [laneOf, Nat.mod_add_mod]

@[simp] theorem laneOf_laneNo (l : Lane) : laneOf (laneNo l) = l := by
  cases l <;> rfl

/-- From any lane on, one of three successive numbers names the lane `l`. -/
theorem exists_lt_three_laneOf_add (n : Nat) (l : Lane) : ∃ k < 3, laneOf (n + k) = l := by
  refine ⟨(laneNo l + 2 * n) % 3, Nat.mod_lt _ (by decide), ?_⟩
  have turn : (n + (laneNo l + 2 * n) % 3) % 3 = laneNo l % 3 := by omega
  calc laneOf (n + (laneNo l + 2 * n) % 3)
      = laneOf ((n + (laneNo l + 2 * n) % 3) % 3) := (laneOf_mod _).symm
    _ = laneOf (laneNo l) := by rw [turn, laneOf_mod]
    _ = l := laneOf_laneNo l

/-! ### The rotation -/

theorem rotation_eq_filter (n i : Nat) (agree : List Lane) :
    rotation n i agree =
      [laneOf (n + i), laneOf (n + i + 1), laneOf (n + i + 2)].filter (fun l => agree.contains l) := rfl

theorem mem_rotation (n i : Nat) (agree : List Lane) (l : Lane) : l ∈ rotation n i agree ↔ l ∈ agree := by
  have turn : l ∈ [laneOf (n + i), laneOf (n + i + 1), laneOf (n + i + 2)] := by
    obtain ⟨k, hk, rfl⟩ := exists_lt_three_laneOf_add (n + i) l
    interval_cases k <;> simp
  rw [rotation_eq_filter, List.mem_filter, List.contains_iff_mem]
  exact and_iff_right turn

theorem rotation_head_first {n i : Nat} {agree : List Lane} (h : agree.contains (laneOf (n + i)) = true) :
    (rotation n i agree).head? = some (laneOf (n + i)) := by
  rw [rotation_eq_filter, List.filter_cons_of_pos h, List.head?_cons]

theorem rotation_head_second {n i : Nat} {agree : List Lane} (h0 : agree.contains (laneOf (n + i)) = false)
    (h1 : agree.contains (laneOf (n + i + 1)) = true) :
    (rotation n i agree).head? = some (laneOf (n + i + 1)) := by
  rw [rotation_eq_filter, List.filter_cons_of_neg (ne_true_of_eq_false h0), List.filter_cons_of_pos h1, List.head?_cons]

theorem rotation_head_third {n i : Nat} {agree : List Lane} (h0 : agree.contains (laneOf (n + i)) = false)
    (h1 : agree.contains (laneOf (n + i + 1)) = false) (h2 : agree.contains (laneOf (n + i + 2)) = true) :
    (rotation n i agree).head? = some (laneOf (n + i + 2)) := by
  rw [rotation_eq_filter, List.filter_cons_of_neg (ne_true_of_eq_false h0),
    List.filter_cons_of_neg (ne_true_of_eq_false h1), List.filter_cons_of_pos h2, List.head?_cons]

/-- Over three successive boundaries every agreeing lane pours in turn. -/
theorem exists_rotation_head {agree : List Lane} {l : Lane} (n i : Nat) (h : l ∈ agree) :
    ∃ k < 3, (rotation (n + k) i agree).head? = some l := by
  obtain ⟨k, hk, rfl⟩ := exists_lt_three_laneOf_add (n + i) l
  rw [Nat.add_right_comm] at h ⊢
  exact ⟨k, hk, rotation_head_first (List.contains_iff_mem.mpr h)⟩

/-- Settles O18: the rotation is the three lanes from lane r on, filtered by agreement, so its head is the first of
them that agrees; and when the boundary number rises by the distance from lane r to a lane, that lane heads it. -/
theorem pourLane : Obligations.PourLane := by
  intro n i agree
  simp only [laneOf_mod, laneOf_mod_add]
  exact ⟨rotation_head_first, rotation_head_second, rotation_head_third, mem_rotation n i agree,
    fun _ => exists_rotation_head n i, rfl, rfl, rfl, by rw [← laneOf_mod (n + i + 3), Nat.add_mod_right, laneOf_mod]⟩

end Sys2Proof.Machine
end

section
/-! One XPC instruction on a release that can run (R88, R96, R105), and a BOOL in memory (R102): its store writes 0 or 1,
and its load gives 0 or 1. -/

namespace Sys2Proof.Machine

/-! ### One instruction -/

/-- The release that an instruction of `words` words and `steps` steps works on: its steps and its word are counted, and
its LOOP counts are still as they were. -/
def Release.advance (r : Release) (words steps : Nat) : Release :=
  { r with steps := r.steps + steps, pc := r.pc + words }

@[simp] theorem xr_advance (r : Release) (words steps : Nat) (i : Fin 64) : xr (r.advance words steps) i = xr r i := rfl

@[simp] theorem effAddr_advance (r : Release) (words steps : Nat) (a : Fin 64) (indexed : Bool) (off : BitVec 32) :
    effAddr (r.advance words steps) a indexed off = effAddr r a indexed off := rfl

@[simp] theorem loadNum_advance (x : XCtx) (r : Release) (words steps : Nat) (sp : Space) (a n : Nat) :
    loadNum x (r.advance words steps) sp a n = loadNum x r sp a n := rfl

/-- R88, R105: where the release can run, an instruction settles what its effect gives on the advanced release. -/
theorem xpc_of_canRun {s : State} {ln : Lane} {c : Fin 4} {steps : Nat} {r : Release} {x : XCtx}
    (h : s.CanRun ln c steps r x) (words : Nat) (f : XCtx → Release → XRes) :
    xpc ln c words steps f s = xpcSettle ln c (closeRun ln c) x.td r (f x (r.advance words steps)) s := by
  obtain ⟨hrun, happ, htask, htb, hbudget, hfree⟩ := h
  have hx : ({ td := x.td, app := x.app, tb := s.tb } : XCtx) = x := by rw [← htb]
  simp only [xpc, xpcRun, if_neg hfree, xpcCore, hrun, happ, htask, if_neg (Nat.not_lt.mpr hbudget), hx, Release.advance]

/-- An instruction that stays in its function puts the release back with the LOOP counts of the ranges it entered (R104). -/
theorem xpcSettle_go (ln : Lane) (c : Fin 4) (close : Release → TaskDef → State → State) (td : TaskDef) {r q : Release}
    (s : State) (hfn : q.fn = r.fn) (hframes : q.frames.length = r.frames.length) :
    xpcSettle ln c close td r (.go q) s = s.putRun ln c { q with loops := enterWord r.pc q.pc q.loops } := by
  rw [xpcSettle, if_pos ⟨hfn, hframes⟩]

/-- R101: a legal store that the Bucket budget has room for is one Bucket write. -/
theorem storeAt_of_legal {x : XCtx} {a n : Nat} {r : Release} (v : Nat) (haligned : a % n = 0)
    (hlegal : storeLegal x a n = true) (hroom : r.used + entryCost n ≤ bucketBudget x.td) :
    storeAt x a n v r = .go (addWrite r { size := sizeCode n, target := a, value := BitVec.ofNat 64 (v % 256 ^ n) } n) := by
  rw [storeAt, if_neg (by simp [haligned, hlegal]), if_neg (Nat.not_lt.mpr hroom)]

/-! ### ST and LD (R101) -/

theorem exec_xSt_of_legal {s : State} {ln : Lane} {c : Fin 4} {r : Release} {x : XCtx} (h : s.CanRun ln c 1 r x)
    (t : XType) (v a : Fin 64) (indexed : Bool) (off : BitVec 32) (haligned : effAddr r a indexed off % xSize t = 0)
    (hlegal : storeLegal x (effAddr r a indexed off) (xSize t) = true)
    (hroom : r.used + entryCost (xSize t) ≤ bucketBudget x.td) :
    exec (.xSt ln c t v a indexed off) s = .next (s.putRun ln c (addWrite (r.past 2 1)
      { size := sizeCode (xSize t), target := effAddr r a indexed off,
        value := BitVec.ofNat 64 (rawOf t (xr r v) % 256 ^ xSize t) } (xSize t))) := by
  have hroom' : (r.advance 2 1).used + entryCost (xSize t) ≤ bucketBudget x.td := hroom
  rw [exec_xSt, execXSt, xpc_of_canRun h, effAddr_advance, xr_advance, storeAt_of_legal _ haligned hlegal hroom']
  exact congrArg Host.Outcome.next (xpcSettle_go ln c _ _ s rfl rfl)

theorem exec_xLd_of_loadNum {s : State} {ln : Lane} {c : Fin 4} {r : Release} {x : XCtx} (h : s.CanRun ln c 1 r x)
    (t : XType) (d a : Fin 64) (sp : Space) (indexed : Bool) (off : BitVec 32) {m : Nat}
    (hload : loadNum x r sp (effAddr r a indexed off) (xSize t) = some m) :
    exec (.xLd ln c t d a sp indexed off) s = .next (s.putRun ln c (xw (r.past 2 1) d (loadVal t m))) := by
  rw [exec_xLd, execXLd, xpc_of_canRun h, effAddr_advance, loadNum_advance, hload]
  exact congrArg Host.Outcome.next (xpcSettle_go ln c _ _ s rfl rfl)

/-! ### A BOOL in memory (R102) -/

@[simp] theorem xSize_bool : xSize .bool = 1 := rfl

/-- The byte that a store of a BOOL writes is its bit 0. -/
theorem ofNat_rawOf_bool (v : Word) : BitVec.ofNat 64 (rawOf .bool v % 256 ^ 1) = if v.getLsbD 0 then 1 else 0 := by
  have hraw : rawOf .bool v % 256 ^ 1 = (v.getLsbD 0).toNat := by
    rw [BitVec.getLsbD, Nat.testBit_zero, show rawOf .bool v = v.toNat % 2 from rfl]
    rcases Nat.mod_two_eq_zero_or_one v.toNat with h | h <;> simp [h]
  rw [hraw]
  cases v.getLsbD 0 <;> rfl

theorem loadVal_bool (m : Nat) : loadVal .bool m = if m = 0 then 0 else 1 := by
  by_cases h : m = 0 <;> simp [loadVal, ofBool, h]

/-- Settles O10: a BOOL is one byte, so every address is aligned for it; its store keeps bit 0 of the register, and its
load tells the byte 0 from every other. -/
theorem xpcBoolInMemory : Obligations.XpcBoolInMemory := by
  intro ln c d v a sp indexed off s r x h
  refine ⟨xSize_bool, fun hlegal hroom => ?store, fun m hload => ?load⟩
  case store =>
    exact ⟨_, _, exec_xSt_of_legal h .bool v a indexed off (Nat.mod_one _) hlegal hroom, rfl, rfl, rfl,
      ofNat_rawOf_bool (xr r v)⟩
  case load => rw [exec_xLd_of_loadNum h .bool d a sp indexed off hload, loadVal_bool]

end Sys2Proof.Machine
end

section
/-! The TIME LED (R285) while the Commons show the LEDs: the red row first, then the module time states. -/

namespace Sys2Proof.Machine

/-- R285: the row for SLEWING and for a set REFERENCE_MOVED goes before every other. -/
theorem ledTime_of_slewing_or_refMoved {s : State} (hon : s.ledsOn = true)
    (h : s.time.state = .slewing ∨ s.time.refMoved.isSome = true) : s.ledTime = .flashRed := by
  rw [State.ledTime, if_neg (by simp [hon]), if_pos h]

/-- R285: outside that row, the module time state and TIME_LOCKED alone pick the colour. -/
theorem ledTime_of_no_refMoved {s : State} (hon : s.ledsOn = true) (hmoved : s.time.refMoved = none)
    (hslew : s.time.state ≠ .slewing) :
    s.ledTime =
      if s.time.state = .locked ∨ s.time.state = .grandmaster then .green
      else if s.time.state = .holdover ∧ s.time.timeLocked = true then .flashGreen
      else .amber := by
  rw [State.ledTime, if_neg (by simp [hon]), if_neg (by simp [hmoved, hslew])]

/-- Settles O43: the red row is read first; without it, each time state that is not SLEWING shows its own row. -/
theorem timeLed : Obligations.TimeLed := by
  intro s hon
  refine ⟨ledTime_of_slewing_or_refMoved hon, fun hmoved => ⟨?green, ?flashGreen, ?amberHoldover, ?amberFree⟩⟩
  case green =>
    intro hstate
    have hslew : s.time.state ≠ .slewing := by rcases hstate with h | h <;> simp [h]
    rw [ledTime_of_no_refMoved hon hmoved hslew, if_pos hstate]
  case flashGreen =>
    intro hstate hlocked
    simp [ledTime_of_no_refMoved hon hmoved, hstate, hlocked]
  case amberHoldover =>
    intro hstate hlocked
    simp [ledTime_of_no_refMoved hon hmoved, hstate, hlocked]
  case amberFree =>
    intro hstate
    simp [ledTime_of_no_refMoved hon hmoved, hstate]

end Sys2Proof.Machine
end

section
/-! Every command answers a next state, keeps the invariant of Laws/Kept.lean and touches only the parts named for it: the
lemmas of Laws/Keeps*.lean and Laws/Only*.lean, one per meaning, gathered over the commands; and the reset state. -/

namespace Sys2Proof.Machine

/-! ### One case per command -/

theorem keeps_exec {k : Fixed} (c : Instr) {s : State} (h : Inv k s) : OutInv k (exec c s) := by
  cases c with
  | supplyOn n => exact keeps_execSupplyOn n _ h
  | stage0Complete => exact keeps_execStage0Complete _ _ h
  | stage1Complete => exact keeps_execStage1Complete _ _ _ h
  | translationComplete => exact keeps_execTranslationComplete _ _ _ _ h
  | stage2Complete => exact keeps_execStage2Complete _ _ _ h
  | stage3Complete => exact keeps_execStage3Complete _ _ h
  | pairNegotiation => exact keeps_execPairNegotiation _ _ _ h
  | stageTimeout => exact keeps_execStageTimeout _ _ _ h
  | supplyInterruption => exact keeps_execSupplyInterruption _ _ h
  | storeExhausted => exact keeps_execStoreExhausted _ _ h
  | supplyReturn => exact keeps_execSupplyReturn _ _ _ _ _ h
  | supplyMeasurement => exact keeps_execSupplyMeasurement _ _ _ h
  | cycleBoundary => exact keeps_execCycleBoundary _ _ h
  | imageSealed => exact keeps_execImageSealed _ _ h
  | imageLate => exact keeps_execImageLate _ _ h
  | groupLinkTimeout => exact keeps_execGroupLinkTimeout _ _ _ h
  | releaseToken => exact keeps_execReleaseToken _ _ _ h
  | laneDrink => exact keeps_execLaneDrink _ _ _ _ _ h
  | tokenTimeout => exact keeps_execTokenTimeout _ _ _ h
  | xMov => exact keeps_execXMov _ _ _ _ _ _ h
  | xLdi => exact keeps_execXLdi _ _ _ _ _ _ h
  | xCvt => exact keeps_execXCvt _ _ _ _ _ _ _ h
  | xSel => exact keeps_execXSel _ _ _ _ _ _ _ h
  | xLd => exact keeps_execXLd _ _ _ _ _ _ _ _ _ h
  | xSt => exact keeps_execXSt _ _ _ _ _ _ _ _ h
  | xStl => exact keeps_execXStl _ _ _ _ _ _ _ _ h
  | xAdd => exact keeps_execXAdd _ _ _ _ _ _ _ h
  | xSub => exact keeps_execXSub _ _ _ _ _ _ _ h
  | xMul => exact keeps_execXMul _ _ _ _ _ _ _ h
  | xDiv => exact keeps_execXDiv _ _ _ _ _ _ _ h
  | xRem => exact keeps_execXRem _ _ _ _ _ _ _ h
  | xNeg => exact keeps_execXNeg _ _ _ _ _ _ h
  | xAbs => exact keeps_execXAbs _ _ _ _ _ _ h
  | xMin => exact keeps_execXMin _ _ _ _ _ _ _ h
  | xMax => exact keeps_execXMax _ _ _ _ _ _ _ h
  | xAdds => exact keeps_execXAdds _ _ _ _ _ _ _ h
  | xSubs => exact keeps_execXSubs _ _ _ _ _ _ _ h
  | xSqrt => exact keeps_execXSqrt _ _ _ _ _ _ h
  | xAddi => exact keeps_execXAddi _ _ _ _ _ _ _ h
  | xRint => exact keeps_execXRint _ _ _ _ _ _ h
  | xLimit => exact keeps_execXLimit _ _ _ _ _ _ _ h
  | xAnd => exact keeps_execXAnd _ _ _ _ _ _ _ h
  | xOr => exact keeps_execXOr _ _ _ _ _ _ _ h
  | xXor => exact keeps_execXXor _ _ _ _ _ _ _ h
  | xNot => exact keeps_execXNot _ _ _ _ _ _ h
  | xShl => exact keeps_execXShl _ _ _ _ _ _ _ h
  | xShr => exact keeps_execXShr _ _ _ _ _ _ _ h
  | xShli => exact keeps_execXShli _ _ _ _ _ _ _ h
  | xShri => exact keeps_execXShri _ _ _ _ _ _ _ h
  | xRol => exact keeps_execXRol _ _ _ _ _ _ _ h
  | xRor => exact keeps_execXRor _ _ _ _ _ _ _ h
  | xGetb => exact keeps_execXGetb _ _ _ _ _ _ _ h
  | xSetb => exact keeps_execXSetb _ _ _ _ _ _ _ h
  | xClrb => exact keeps_execXClrb _ _ _ _ _ _ _ h
  | xEq => exact keeps_execXEq _ _ _ _ _ _ _ h
  | xNe => exact keeps_execXNe _ _ _ _ _ _ _ h
  | xLt => exact keeps_execXLt _ _ _ _ _ _ _ h
  | xLe => exact keeps_execXLe _ _ _ _ _ _ _ h
  | xGt => exact keeps_execXGt _ _ _ _ _ _ _ h
  | xGe => exact keeps_execXGe _ _ _ _ _ _ _ h
  | xIsnan => exact keeps_execXIsnan _ _ _ _ _ _ h
  | xJmp => exact keeps_execXJmp _ _ _ _ h
  | xBrt => exact keeps_execXBrt _ _ _ _ _ h
  | xBrf => exact keeps_execXBrf _ _ _ _ _ h
  | xLoop => exact keeps_execXLoop _ _ _ _ _ _ h
  | loopBound _ _ off => exact keeps_execLoopBound _ _ off _ _ h
  | xCall => exact keeps_execXCall _ _ _ _ h
  | xRet => exact keeps_execXRet _ _ _ h
  | xEnd => exact keeps_execXEnd _ _ _ h
  | xHalt => exact keeps_execXHalt _ _ _ _ h
  | xTon => exact keeps_execXTon _ _ _ _ _ _ _ h
  | xTof => exact keeps_execXTof _ _ _ _ _ _ _ h
  | xTp => exact keeps_execXTp _ _ _ _ _ _ _ h
  | xCtu => exact keeps_execXCtu _ _ _ _ _ _ _ _ h
  | xCtd => exact keeps_execXCtd _ _ _ _ _ _ _ _ h
  | xCtud => exact keeps_execXCtud _ _ _ _ _ _ _ _ h
  | xRTrig => exact keeps_execXRTrig _ _ _ _ _ _ h
  | xFTrig => exact keeps_execXFTrig _ _ _ _ _ _ h
  | xNop => exact keeps_execXNop _ _ _ h
  | xSteps => exact keeps_execXSteps _ _ _ _ h
  | xPeriod => exact keeps_execXPeriod _ _ _ _ h
  | stepBudget => exact keeps_execStepBudget _ _ _ _ h
  | tallyMessage => exact keeps_execTallyMessage _ _ _ _ _ _ _ _ h
  | voteDeadline => exact keeps_execVoteDeadline _ _ _ _ h
  | verdictTimeout => exact keeps_execVerdictTimeout _ _ h
  | holdVote => exact keeps_execHoldVote _ _ _ _ h
  | pour => exact keeps_execPour _ _ _ h
  | pourWindowEnd => exact keeps_execPourWindowEnd _ _ h
  | pourLate => exact keeps_execPourLate _ _ h
  | laneEccError => exact keeps_execLaneEccError _ _ _ h
  | laneTrap => exact keeps_execLaneTrap _ _ _ h
  | laneResetComplete => exact keeps_execLaneResetComplete _ _ _ _ h
  | reintegrationCopyComplete => exact keeps_execReintegrationCopyComplete _ _ _ _ h
  | reintegrationTimeout => exact keeps_execReintegrationTimeout _ _ _ h
  | laneRejoin => exact keeps_execLaneRejoin _ _ _ h
  | laneCommand => exact keeps_execLaneCommand _ _ _ _ h
  | staggerWrite => exact keeps_execStaggerWrite _ _ _ _ h
  | placementRequest => exact keeps_execPlacementRequest _ _ _ _ h
  | placementMove => exact keeps_execPlacementMove _ _ h
  | placementResume => exact keeps_execPlacementResume _ _ h
  | fallbackMove => exact keeps_execFallbackMove _ _ _ h
  | debugAttach => exact keeps_execDebugAttach _ _ _ h
  | debugBreakpoint => exact keeps_execDebugBreakpoint _ _ _ h
  | debugRun => exact keeps_execDebugRun _ _ h
  | debugStep => exact keeps_execDebugStep _ _ _ h
  | debugWriteVariable => exact keeps_execDebugWriteVariable _ _ _ _ h
  | breakpointHit => exact keeps_execBreakpointHit _ _ _ h
  | taskRestart => exact keeps_execTaskRestart _ _ _ _ _ h
  | retainedSnapshot => exact keeps_execRetainedSnapshot _ _ h
  | cmdRun => exact keeps_execCmdRun _ _ _ h
  | cmdStop => exact keeps_execCmdStop _ _ _ h
  | cmdHold => exact keeps_execCmdHold _ _ _ h
  | cmdResume => exact keeps_execCmdResume _ _ _ h
  | cmdRestart => exact keeps_execCmdRestart _ _ _ h
  | cmdExchange => exact keeps_execCmdExchange _ _ _ h
  | modeChange => exact keeps_execModeChange _ _ h
  | warmRestartBoot => exact keeps_execWarmRestartBoot _ _ h
  | warmRestartComplete => exact keeps_execWarmRestartComplete _ _ h
  | warmRestartTimeout => exact keeps_execWarmRestartTimeout _ _ h
  | forceKindWrite => exact keeps_execForceKindWrite _ _ _ _ _ h
  | forceTargetWrite => exact keeps_execForceTargetWrite _ _ _ _ _ h
  | forceValueWrite => exact keeps_execForceValueWrite _ _ _ _ _ h
  | forceActivate => exact keeps_execForceActivate _ _ _ _ h
  | forceRemove => exact keeps_execForceRemove _ _ _ _ h
  | forceBoundary => exact keeps_execForceBoundary _ _ _ h
  | csApply => exact keeps_execCsApply _ _ _ h
  | csDiscard => exact keeps_execCsDiscard _ _ _ h
  | changeSetEffect => exact keeps_execChangeSetEffect _ _ _ h
  | mapWrite => exact keeps_execMapWrite _ _ _ _ h
  | mapConfirm => exact keeps_execMapConfirm _ _ _ _ h
  | mapExpiry => exact keeps_execMapExpiry _ _ h
  | mapCopiesWritten => exact keeps_execMapCopiesWritten _ _ h
  | mapPeriodicCheck => exact keeps_execMapPeriodicCheck _ _ _ _ _ h
  | boundaryStrobe => exact keeps_execBoundaryStrobe _ _ _ h
  | requestFrame => exact keeps_execRequestFrame _ _ _ h
  | requestLinkTimeout => exact keeps_execRequestLinkTimeout _ _ h
  | fabricLinkFrame => exact keeps_execFabricLinkFrame _ _ _ h
  | fabricLinkTimeout => exact keeps_execFabricLinkTimeout _ _ _ h
  | discrepancyTimeout => exact keeps_execDiscrepancyTimeout _ _ _ h
  | restoreDelayExpiry => exact keeps_execRestoreDelayExpiry _ _ _ h
  | dsdWarning => exact keeps_execDsdWarning _ _ _ h
  | vigilanceTrip => exact keeps_execVigilanceTrip _ _ _ h
  | testPulse => exact keeps_execTestPulse _ _ _ h
  | testPulseEnd => exact keeps_execTestPulseEnd _ _ _ h
  | readbackTimeout => exact keeps_execReadbackTimeout _ _ _ h
  | ackPulse => exact keeps_execAckPulse _ _ _ _ _ _ _ h
  | restartPulse => exact keeps_execRestartPulse _ _ _ _ _ _ _ h
  | dualRailFault => exact keeps_execDualRailFault _ _ h
  | fabricMemoryFault => exact keeps_execFabricMemoryFault _ _ h
  | sample => exact keeps_execSample _ _ _ _ h
  | stateFrame => exact keeps_execStateFrame _ _ _ _ h
  | edgeFrame => exact keeps_execEdgeFrame _ _ _ _ h
  | outputFrame => exact keeps_execOutputFrame _ _ _ _ h
  | driveFrame => exact keeps_execDriveFrame _ _ _ _ h
  | applyInstant => exact keeps_execApplyInstant _ _ _ h
  | configWrite => exact keeps_execConfigWrite _ _ _ _ h
  | configAck => exact keeps_execConfigAck _ _ _ _ h
  | functionWrite => exact keeps_execFunctionWrite _ _ _ _ _ h
  | bankEntryWrite => exact keeps_execBankEntryWrite _ _ _ _ _ _ h
  | alignmentWrite => exact keeps_execAlignmentWrite _ _ _ _ _ h
  | bankSwapRequest => exact keeps_execBankSwapRequest _ _ _ _ h
  | bankSwap => exact keeps_execBankSwap _ _ h
  | maxOn => exact keeps_execMaxOn _ _ _ h
  | chatterWindow => exact keeps_execChatterWindow _ _ _ h
  | overcurrentTrip => exact keeps_execOvercurrentTrip _ _ _ h
  | shortCircuit => exact keeps_execShortCircuit _ _ _ h
  | demagOver => exact keeps_execDemagOver _ _ _ _ h
  | demagHoldExpiry => exact keeps_execDemagHoldExpiry _ _ _ h
  | switchOnResumed => exact keeps_execSwitchOnResumed _ _ _ h
  | openLoad => exact keeps_execOpenLoad _ _ _ h
  | switchStuck => exact keeps_execSwitchStuck _ _ _ h
  | groupOutputSilent => exact keeps_execGroupOutputSilent _ _ _ h
  | keepaliveLoss => exact keeps_execKeepaliveLoss _ _ _ h
  | groupConverterFail => exact keeps_execGroupConverterFail _ _ _ h
  | safeStateWrite => exact keeps_execSafeStateWrite _ _ _ _ _ h
  | deratingWrite => exact keeps_execDeratingWrite _ _ _ _ _ h
  | tripThresholdWrite => exact keeps_execTripThresholdWrite _ _ _ _ _ h
  | frameReceived => exact keeps_execFrameReceived _ _ _ _ h
  | frameTransmit => exact keeps_execFrameTransmit _ _ _ h
  | guardianCut => exact keeps_execGuardianCut _ _ _ h
  | macAgeOut => exact keeps_execMacAgeOut _ _ _ h
  | linkDown => exact keeps_execLinkDown _ _ _ h
  | linkUp => exact keeps_execLinkUp _ _ _ _ h
  | supervisionFrameSend => exact keeps_execSupervisionFrameSend _ _ _ h
  | redundancyDegraded => exact keeps_execRedundancyDegraded _ _ _ h
  | beaconSend => exact keeps_execBeaconSend _ _ h
  | beaconReceived => exact keeps_execBeaconReceived _ _ _ _ h
  | beaconTimeout => exact keeps_execBeaconTimeout _ _ h
  | guardianTableCheck => exact keeps_execGuardianTableCheck _ _ _ h
  | guardianCounterFault => exact keeps_execGuardianCounterFault _ _ _ _ _ h
  | ptpSync => exact keeps_execPtpSync _ _ _ _ h
  | followUp => exact keeps_execFollowUp _ _ _ _ _ _ h
  | ptpAnnounce => exact keeps_execPtpAnnounce _ _ _ _ _ h
  | ptpDelayMessage => exact keeps_execPtpDelayMessage _ _ _ _ _ _ h
  | ptpManagement _ _ _ _ dataSet => exact keeps_execPtpManagement _ _ _ _ dataSet _ h
  | ptpSyncSend => exact keeps_execPtpSyncSend _ _ _ _ h
  | announceTimeout => exact keeps_execAnnounceTimeout _ _ _ h
  | syncSilence => exact keeps_execSyncSilence _ _ _ h
  | domainPreference => exact keeps_execDomainPreference _ _ h
  | holdoverExhausted => exact keeps_execHoldoverExhausted _ _ h
  | referenceMoved => exact keeps_execReferenceMoved _ _ h
  | slewComplete => exact keeps_execSlewComplete _ _ h
  | rebase => exact keeps_execRebase _ _ _ h
  | servoModeWrite => exact keeps_execServoModeWrite _ _ _ _ h
  | servoUpdateTimeout => exact keeps_execServoUpdateTimeout _ _ h
  | pdReceived => exact keeps_execPdReceived _ _ _ h
  | pdSend => exact keeps_execPdSend _ _ _ h
  | mdNotification => exact keeps_execMdNotification _ _ _ h
  | mdRequest => exact keeps_execMdRequest _ _ _ h
  | mdReply => exact keeps_execMdReply _ _ _ h
  | mdReplyQuery => exact keeps_execMdReplyQuery _ _ _ h
  | mdConfirm => exact keeps_execMdConfirm _ _ _ h
  | mdError => exact keeps_execMdError _ _ _ h
  | mdTimeout => exact keeps_execMdTimeout _ _ _ h
  | mvbMasterFrame => exact keeps_execMvbMasterFrame _ _ _ _ h
  | mvbSlaveFrame => exact keeps_execMvbSlaveFrame _ _ _ _ _ h
  | mvbDeviceStatus => exact keeps_execMvbDeviceStatus _ _ _ h
  | mvbForeignMaster => exact keeps_execMvbForeignMaster _ _ h
  | mvbLineFault => exact keeps_execMvbLineFault _ _ _ h
  | canRpdo => exact keeps_execCanRpdo _ _ _ _ h
  | canSyncReceived => exact keeps_execCanSyncReceived _ _ _ h
  | canHeartbeatSend => exact keeps_execCanHeartbeatSend _ _ _ h
  | canHeartbeatLost => exact keeps_execCanHeartbeatLost _ _ _ _ h
  | tpdoWithdraw => exact keeps_execTpdoWithdraw _ _ _ _ h
  | canErrorPassive => exact keeps_execCanErrorPassive _ _ _ h
  | canBusOff => exact keeps_execCanBusOff _ _ _ h
  | canBusOffRecovery => exact keeps_execCanBusOffRecovery _ _ _ h
  | sdoUploadInitiate => exact keeps_execSdoUploadInitiate _ _ _ _ _ h
  | sdoDownloadInitiate => exact keeps_execSdoDownloadInitiate _ _ _ _ _ _ _ h
  | sdoSegment => exact keeps_execSdoSegment _ _ _ _ _ _ h
  | sdoBlockTransfer => exact keeps_execSdoBlockTransfer _ _ _ _ _ _ h
  | sdoSegmentTimeout => exact keeps_execSdoSegmentTimeout _ _ _ h
  | linkReplay => exact keeps_execLinkReplay _ _ _ _ h
  | directRead => exact keeps_execDirectRead _ _ _ _ _ _ h
  | directPostedWrite => exact keeps_execDirectPostedWrite _ _ _ _ _ _ h
  | directNonpostedWrite => exact keeps_execDirectNonpostedWrite _ _ _ _ _ _ h
  | exclusiveRead => exact keeps_execExclusiveRead _ _ _ _ _ h
  | exclusiveWrite => exact keeps_execExclusiveWrite _ _ _ _ _ h
  | eventQueuePop => exact keeps_execEventQueuePop _ _ _ _ h
  | directCompletion => exact keeps_execDirectCompletion _ _ _ _ _ h
  | bridgeTimeout => exact keeps_execBridgeTimeout _ _ _ _ h
  | semaphoreBreak => exact keeps_execSemaphoreBreak _ _ _ h
  | lateError => exact keeps_execLateError _ _ _ _ _ _ _ _ h
  | eventPoll => exact keeps_execEventPoll _ _ h
  | dmaDoorbell => exact keeps_execDmaDoorbell _ _ _ _ h
  | dmaAbort => exact keeps_execDmaAbort _ _ _ _ h
  | dmaDescriptorDone => exact keeps_execDmaDescriptorDone _ _ _ h
  | chainLimit => exact keeps_execChainLimit _ _ _ h
  | dmaBusError => exact keeps_execDmaBusError _ _ _ h
  | dmaRestart => exact keeps_execDmaRestart _ _ h
  | dmaEngineRestart => exact keeps_execDmaEngineRestart _ _ _ h
  | heartbeatSend => exact keeps_execHeartbeatSend _ _ h
  | siphonHeartbeat => exact keeps_execSiphonHeartbeat _ _ _ h
  | partnerLost => exact keeps_execPartnerLost _ _ h
  | siphonImage => exact keeps_execSiphonImage _ _ _ h
  | forwardImageLate => exact keeps_execForwardImageLate _ _ h
  | siphonDelta => exact keeps_execSiphonDelta _ _ _ h
  | deltaDeadline => exact keeps_execDeltaDeadline _ _ h
  | siphonState => exact keeps_execSiphonState _ _ _ _ h
  | siphonResync => exact keeps_execSiphonResync _ _ _ h
  | siphonControl => exact keeps_execSiphonControl _ _ _ _ h
  | renewSend => exact keeps_execRenewSend _ _ h
  | refereeConfirm => exact keeps_execRefereeConfirm _ _ _ h
  | refereeGrant => exact keeps_execRefereeGrant _ _ _ h
  | refereeRevoke => exact keeps_execRefereeRevoke _ _ _ h
  | refereeRefuse => exact keeps_execRefereeRefuse _ _ _ h
  | leaseExpiry => exact keeps_execLeaseExpiry _ _ h
  | refereeSilent => exact keeps_execRefereeSilent _ _ h
  | handOver => exact keeps_execHandOver _ _ _ h
  | pairJoin => exact keeps_execPairJoin _ _ _ h
  | exchangeAbort => exact keeps_execExchangeAbort _ _ _ h
  | handoverSend => exact keeps_execHandoverSend _ _ h
  | handoverDrive => exact keeps_execHandoverDrive _ _ h
  | handoverDone => exact keeps_execHandoverDone _ _ h
  | reversion => exact keeps_execReversion _ _ h
  | resyncComplete => exact keeps_execResyncComplete _ _ h
  | resyncTimeout => exact keeps_execResyncTimeout _ _ h
  | shadowPeriodExpiry => exact keeps_execShadowPeriodExpiry _ _ h
  | ledFallback => exact keeps_execLedFallback _ _ h
  | abOpen => exact keeps_execAbOpen _ _ _ _ _ _ _ h
  | abAuth => exact keeps_execAbAuth _ _ _ h
  | abClose => exact keeps_execAbClose _ _ _ h
  | abKeepalive => exact keeps_execAbKeepalive _ _ _ h
  | abRead => exact keeps_execAbRead _ _ _ _ _ h
  | abWrite => exact keeps_execAbWrite _ _ _ _ _ _ _ h
  | abReadSegment => exact keeps_execAbReadSegment _ _ _ _ _ _ _ h
  | abWriteSegment => exact keeps_execAbWriteSegment _ _ _ _ _ _ _ _ _ h
  | abBulkRead => exact keeps_execAbBulkRead _ _ _ _ _ _ _ h
  | abReadSignal => exact keeps_execAbReadSignal _ _ _ _ h
  | abWriteSignal => exact keeps_execAbWriteSignal _ _ _ _ _ _ h
  | abEvents => exact keeps_execAbEvents _ _ _ _ h
  | sessionOpenTimeout => exact keeps_execSessionOpenTimeout _ _ _ h
  | idleTimeout => exact keeps_execIdleTimeout _ _ _ h
  | boundaryWrite => exact keeps_execBoundaryWrite _ _ _ _ h
  | keyWrite => exact keeps_execKeyWrite _ _ _ _ _ h
  | restoreDefaults => exact keeps_execRestoreDefaults _ _ _ h
  | recorderMeasurement => exact keeps_execRecorderMeasurement _ _ _ _ _ h
  | recordWrite => exact keeps_execRecordWrite _ _ _ _ h
  | recorderFault => exact keeps_execRecorderFault _ _ h
  | codeMapWrite => exact keeps_execCodeMapWrite _ _ _ _ h
  | updBegin => exact keeps_execUpdBegin _ _ _ h
  | updBlock => exact keeps_execUpdBlock _ _ _ _ _ _ _ h
  | updVerify => exact keeps_execUpdVerify _ _ _ h
  | updVerifyComplete => exact keeps_execUpdVerifyComplete _ _ _ _ h
  | updActivate => exact keeps_execUpdActivate _ _ _ h
  | updAbort => exact keeps_execUpdAbort _ _ _ h
  | trialFallback => exact keeps_execTrialFallback _ _ h
  | fabricReserveExhausted => exact keeps_execFabricReserveExhausted _ _ h
  | pumpedRailAtHoldLevel => exact keeps_execPumpedRailAtHoldLevel _ _ _ h
  | counterCauseCleared => exact keeps_execCounterCauseCleared _ _ h
  | delayReqSend => exact keeps_execDelayReqSend _ _ _ _ h
  | announceSend => exact keeps_execAnnounceSend _ _ _ _ h
  | consumerHeartbeatReceived => exact keeps_execConsumerHeartbeatReceived _ _ _ _ h
  | cisternEccError => exact keeps_execCisternEccError _ _ h

theorem only_exec (c : Instr) (s : State) : OutOnly (touches c) s (exec c s) := by
  cases c with
  | supplyOn n => exact only_execSupplyOn rfl n _ (Only.refl _ _)
  | stage0Complete => exact only_execStage0Complete rfl _ _ (Only.refl _ _)
  | stage1Complete => exact only_execStage1Complete rfl _ _ _ (Only.refl _ _)
  | translationComplete => exact only_execTranslationComplete rfl _ _ _ _ (Only.refl _ _)
  | stage2Complete => exact only_execStage2Complete rfl _ _ _ (Only.refl _ _)
  | stage3Complete => exact only_execStage3Complete rfl _ _ (Only.refl _ _)
  | pairNegotiation => exact only_execPairNegotiation rfl _ _ _ (Only.refl _ _)
  | stageTimeout => exact only_execStageTimeout rfl _ _ _ (Only.refl _ _)
  | supplyInterruption => exact only_execSupplyInterruption rfl _ _ (Only.refl _ _)
  | storeExhausted => exact only_execStoreExhausted rfl _ _ (Only.refl _ _)
  | supplyReturn => exact only_execSupplyReturn rfl _ _ _ _ _ (Only.refl _ _)
  | supplyMeasurement => exact only_execSupplyMeasurement rfl _ _ _ (Only.refl _ _)
  | cycleBoundary => exact only_execCycleBoundary rfl _ _ (Only.refl _ _)
  | imageSealed => exact only_execImageSealed rfl _ _ (Only.refl _ _)
  | imageLate => exact only_execImageLate rfl _ _ (Only.refl _ _)
  | groupLinkTimeout => exact only_execGroupLinkTimeout rfl _ _ _ (Only.refl _ _)
  | releaseToken => exact only_execReleaseToken rfl _ _ _ (Only.refl _ _)
  | laneDrink => exact only_execLaneDrink rfl _ _ _ _ _ (Only.refl _ _)
  | tokenTimeout => exact only_execTokenTimeout rfl _ _ _ (Only.refl _ _)
  | xMov => exact only_execXMov rfl _ _ _ _ _ _ (Only.refl _ _)
  | xLdi => exact only_execXLdi rfl _ _ _ _ _ _ (Only.refl _ _)
  | xCvt => exact only_execXCvt rfl _ _ _ _ _ _ _ (Only.refl _ _)
  | xSel => exact only_execXSel rfl _ _ _ _ _ _ _ (Only.refl _ _)
  | xLd => exact only_execXLd rfl _ _ _ _ _ _ _ _ _ (Only.refl _ _)
  | xSt => exact only_execXSt rfl _ _ _ _ _ _ _ _ (Only.refl _ _)
  | xStl => exact only_execXStl rfl _ _ _ _ _ _ _ _ (Only.refl _ _)
  | xAdd => exact only_execXAdd rfl _ _ _ _ _ _ _ (Only.refl _ _)
  | xSub => exact only_execXSub rfl _ _ _ _ _ _ _ (Only.refl _ _)
  | xMul => exact only_execXMul rfl _ _ _ _ _ _ _ (Only.refl _ _)
  | xDiv => exact only_execXDiv rfl _ _ _ _ _ _ _ (Only.refl _ _)
  | xRem => exact only_execXRem rfl _ _ _ _ _ _ _ (Only.refl _ _)
  | xNeg => exact only_execXNeg rfl _ _ _ _ _ _ (Only.refl _ _)
  | xAbs => exact only_execXAbs rfl _ _ _ _ _ _ (Only.refl _ _)
  | xMin => exact only_execXMin rfl _ _ _ _ _ _ _ (Only.refl _ _)
  | xMax => exact only_execXMax rfl _ _ _ _ _ _ _ (Only.refl _ _)
  | xAdds => exact only_execXAdds rfl _ _ _ _ _ _ _ (Only.refl _ _)
  | xSubs => exact only_execXSubs rfl _ _ _ _ _ _ _ (Only.refl _ _)
  | xSqrt => exact only_execXSqrt rfl _ _ _ _ _ _ (Only.refl _ _)
  | xAddi => exact only_execXAddi rfl _ _ _ _ _ _ _ (Only.refl _ _)
  | xRint => exact only_execXRint rfl _ _ _ _ _ _ (Only.refl _ _)
  | xLimit => exact only_execXLimit rfl _ _ _ _ _ _ _ (Only.refl _ _)
  | xAnd => exact only_execXAnd rfl _ _ _ _ _ _ _ (Only.refl _ _)
  | xOr => exact only_execXOr rfl _ _ _ _ _ _ _ (Only.refl _ _)
  | xXor => exact only_execXXor rfl _ _ _ _ _ _ _ (Only.refl _ _)
  | xNot => exact only_execXNot rfl _ _ _ _ _ _ (Only.refl _ _)
  | xShl => exact only_execXShl rfl _ _ _ _ _ _ _ (Only.refl _ _)
  | xShr => exact only_execXShr rfl _ _ _ _ _ _ _ (Only.refl _ _)
  | xShli => exact only_execXShli rfl _ _ _ _ _ _ _ (Only.refl _ _)
  | xShri => exact only_execXShri rfl _ _ _ _ _ _ _ (Only.refl _ _)
  | xRol => exact only_execXRol rfl _ _ _ _ _ _ _ (Only.refl _ _)
  | xRor => exact only_execXRor rfl _ _ _ _ _ _ _ (Only.refl _ _)
  | xGetb => exact only_execXGetb rfl _ _ _ _ _ _ _ (Only.refl _ _)
  | xSetb => exact only_execXSetb rfl _ _ _ _ _ _ _ (Only.refl _ _)
  | xClrb => exact only_execXClrb rfl _ _ _ _ _ _ _ (Only.refl _ _)
  | xEq => exact only_execXEq rfl _ _ _ _ _ _ _ (Only.refl _ _)
  | xNe => exact only_execXNe rfl _ _ _ _ _ _ _ (Only.refl _ _)
  | xLt => exact only_execXLt rfl _ _ _ _ _ _ _ (Only.refl _ _)
  | xLe => exact only_execXLe rfl _ _ _ _ _ _ _ (Only.refl _ _)
  | xGt => exact only_execXGt rfl _ _ _ _ _ _ _ (Only.refl _ _)
  | xGe => exact only_execXGe rfl _ _ _ _ _ _ _ (Only.refl _ _)
  | xIsnan => exact only_execXIsnan rfl _ _ _ _ _ _ (Only.refl _ _)
  | xJmp => exact only_execXJmp rfl _ _ _ _ (Only.refl _ _)
  | xBrt => exact only_execXBrt rfl _ _ _ _ _ (Only.refl _ _)
  | xBrf => exact only_execXBrf rfl _ _ _ _ _ (Only.refl _ _)
  | xLoop => exact only_execXLoop rfl _ _ _ _ _ _ (Only.refl _ _)
  | loopBound _ _ off => exact only_execLoopBound rfl _ _ off _ _ (Only.refl _ _)
  | xCall => exact only_execXCall rfl _ _ _ _ (Only.refl _ _)
  | xRet => exact only_execXRet rfl _ _ _ (Only.refl _ _)
  | xEnd => exact only_execXEnd rfl _ _ _ (Only.refl _ _)
  | xHalt => exact only_execXHalt rfl _ _ _ _ (Only.refl _ _)
  | xTon => exact only_execXTon rfl _ _ _ _ _ _ _ (Only.refl _ _)
  | xTof => exact only_execXTof rfl _ _ _ _ _ _ _ (Only.refl _ _)
  | xTp => exact only_execXTp rfl _ _ _ _ _ _ _ (Only.refl _ _)
  | xCtu => exact only_execXCtu rfl _ _ _ _ _ _ _ _ (Only.refl _ _)
  | xCtd => exact only_execXCtd rfl _ _ _ _ _ _ _ _ (Only.refl _ _)
  | xCtud => exact only_execXCtud rfl _ _ _ _ _ _ _ _ (Only.refl _ _)
  | xRTrig => exact only_execXRTrig rfl _ _ _ _ _ _ (Only.refl _ _)
  | xFTrig => exact only_execXFTrig rfl _ _ _ _ _ _ (Only.refl _ _)
  | xNop => exact only_execXNop rfl _ _ _ (Only.refl _ _)
  | xSteps => exact only_execXSteps rfl _ _ _ _ (Only.refl _ _)
  | xPeriod => exact only_execXPeriod rfl _ _ _ _ (Only.refl _ _)
  | stepBudget => exact only_execStepBudget rfl _ _ _ _ (Only.refl _ _)
  | tallyMessage => exact only_execTallyMessage rfl _ _ _ _ _ _ _ _ (Only.refl _ _)
  | voteDeadline => exact only_execVoteDeadline rfl _ _ _ _ (Only.refl _ _)
  | verdictTimeout => exact only_execVerdictTimeout rfl _ _ (Only.refl _ _)
  | holdVote => exact only_execHoldVote rfl _ _ _ _ (Only.refl _ _)
  | pour => exact only_execPour rfl _ _ _ (Only.refl _ _)
  | pourWindowEnd => exact only_execPourWindowEnd rfl _ _ (Only.refl _ _)
  | pourLate => exact only_execPourLate rfl _ _ (Only.refl _ _)
  | laneEccError => exact only_execLaneEccError rfl _ _ _ (Only.refl _ _)
  | laneTrap => exact only_execLaneTrap rfl _ _ _ (Only.refl _ _)
  | laneResetComplete => exact only_execLaneResetComplete rfl _ _ _ _ (Only.refl _ _)
  | reintegrationCopyComplete => exact only_execReintegrationCopyComplete rfl _ _ _ _ (Only.refl _ _)
  | reintegrationTimeout => exact only_execReintegrationTimeout rfl _ _ _ (Only.refl _ _)
  | laneRejoin => exact only_execLaneRejoin rfl _ _ _ (Only.refl _ _)
  | laneCommand => exact only_execLaneCommand rfl _ _ _ _ (Only.refl _ _)
  | staggerWrite => exact only_execStaggerWrite rfl _ _ _ _ (Only.refl _ _)
  | placementRequest => exact only_execPlacementRequest rfl _ _ _ _ (Only.refl _ _)
  | placementMove => exact only_execPlacementMove rfl _ _ (Only.refl _ _)
  | placementResume => exact only_execPlacementResume rfl _ _ (Only.refl _ _)
  | fallbackMove => exact only_execFallbackMove rfl _ _ _ (Only.refl _ _)
  | debugAttach => exact only_execDebugAttach rfl _ _ _ (Only.refl _ _)
  | debugBreakpoint => exact only_execDebugBreakpoint rfl _ _ _ (Only.refl _ _)
  | debugRun => exact only_execDebugRun rfl _ _ (Only.refl _ _)
  | debugStep => exact only_execDebugStep rfl _ _ _ (Only.refl _ _)
  | debugWriteVariable => exact only_execDebugWriteVariable rfl _ _ _ _ (Only.refl _ _)
  | breakpointHit => exact only_execBreakpointHit rfl _ _ _ (Only.refl _ _)
  | taskRestart => exact only_execTaskRestart rfl _ _ _ _ _ (Only.refl _ _)
  | retainedSnapshot => exact only_execRetainedSnapshot rfl _ _ (Only.refl _ _)
  | cmdRun => exact only_execCmdRun rfl _ _ _ (Only.refl _ _)
  | cmdStop => exact only_execCmdStop rfl _ _ _ (Only.refl _ _)
  | cmdHold => exact only_execCmdHold rfl _ _ _ (Only.refl _ _)
  | cmdResume => exact only_execCmdResume rfl _ _ _ (Only.refl _ _)
  | cmdRestart => exact only_execCmdRestart rfl _ _ _ (Only.refl _ _)
  | cmdExchange => exact only_execCmdExchange rfl _ _ _ (Only.refl _ _)
  | modeChange => exact only_execModeChange rfl _ _ (Only.refl _ _)
  | warmRestartBoot => exact only_execWarmRestartBoot rfl _ _ (Only.refl _ _)
  | warmRestartComplete => exact only_execWarmRestartComplete rfl _ _ (Only.refl _ _)
  | warmRestartTimeout => exact only_execWarmRestartTimeout rfl _ _ (Only.refl _ _)
  | forceKindWrite => exact only_execForceKindWrite rfl _ _ _ _ _ (Only.refl _ _)
  | forceTargetWrite => exact only_execForceTargetWrite rfl _ _ _ _ _ (Only.refl _ _)
  | forceValueWrite => exact only_execForceValueWrite rfl _ _ _ _ _ (Only.refl _ _)
  | forceActivate => exact only_execForceActivate rfl _ _ _ _ (Only.refl _ _)
  | forceRemove => exact only_execForceRemove rfl _ _ _ _ (Only.refl _ _)
  | forceBoundary => exact only_execForceBoundary rfl _ _ _ (Only.refl _ _)
  | csApply => exact only_execCsApply rfl _ _ _ (Only.refl _ _)
  | csDiscard => exact only_execCsDiscard rfl _ _ _ (Only.refl _ _)
  | changeSetEffect => exact only_execChangeSetEffect rfl _ _ _ (Only.refl _ _)
  | mapWrite => exact only_execMapWrite rfl _ _ _ _ (Only.refl _ _)
  | mapConfirm => exact only_execMapConfirm rfl _ _ _ _ (Only.refl _ _)
  | mapExpiry => exact only_execMapExpiry rfl _ _ (Only.refl _ _)
  | mapCopiesWritten => exact only_execMapCopiesWritten rfl _ _ (Only.refl _ _)
  | mapPeriodicCheck => exact only_execMapPeriodicCheck rfl _ _ _ _ _ (Only.refl _ _)
  | boundaryStrobe => exact only_execBoundaryStrobe rfl _ _ _ (Only.refl _ _)
  | requestFrame => exact only_execRequestFrame rfl _ _ _ (Only.refl _ _)
  | requestLinkTimeout => exact only_execRequestLinkTimeout rfl _ _ (Only.refl _ _)
  | fabricLinkFrame => exact only_execFabricLinkFrame rfl _ _ _ (Only.refl _ _)
  | fabricLinkTimeout => exact only_execFabricLinkTimeout rfl _ _ _ (Only.refl _ _)
  | discrepancyTimeout => exact only_execDiscrepancyTimeout rfl _ _ _ (Only.refl _ _)
  | restoreDelayExpiry => exact only_execRestoreDelayExpiry rfl _ _ _ (Only.refl _ _)
  | dsdWarning => exact only_execDsdWarning rfl _ _ _ (Only.refl _ _)
  | vigilanceTrip => exact only_execVigilanceTrip rfl _ _ _ (Only.refl _ _)
  | testPulse => exact only_execTestPulse rfl _ _ _ (Only.refl _ _)
  | testPulseEnd => exact only_execTestPulseEnd rfl _ _ _ (Only.refl _ _)
  | readbackTimeout => exact only_execReadbackTimeout rfl _ _ _ (Only.refl _ _)
  | ackPulse => exact only_execAckPulse rfl _ _ _ _ _ _ _ (Only.refl _ _)
  | restartPulse => exact only_execRestartPulse rfl _ _ _ _ _ _ _ (Only.refl _ _)
  | dualRailFault => exact only_execDualRailFault rfl _ _ (Only.refl _ _)
  | fabricMemoryFault => exact only_execFabricMemoryFault rfl _ _ (Only.refl _ _)
  | sample => exact only_execSample rfl _ _ _ _ (Only.refl _ _)
  | stateFrame => exact only_execStateFrame rfl _ _ _ _ (Only.refl _ _)
  | edgeFrame => exact only_execEdgeFrame rfl _ _ _ _ (Only.refl _ _)
  | outputFrame => exact only_execOutputFrame rfl _ _ _ _ (Only.refl _ _)
  | driveFrame => exact only_execDriveFrame rfl _ _ _ _ (Only.refl _ _)
  | applyInstant => exact only_execApplyInstant rfl _ _ _ (Only.refl _ _)
  | configWrite => exact only_execConfigWrite rfl _ _ _ _ (Only.refl _ _)
  | configAck => exact only_execConfigAck rfl _ _ _ _ (Only.refl _ _)
  | functionWrite => exact only_execFunctionWrite rfl _ _ _ _ _ (Only.refl _ _)
  | bankEntryWrite => exact only_execBankEntryWrite rfl _ _ _ _ _ _ (Only.refl _ _)
  | alignmentWrite => exact only_execAlignmentWrite rfl _ _ _ _ _ (Only.refl _ _)
  | bankSwapRequest => exact only_execBankSwapRequest rfl _ _ _ _ (Only.refl _ _)
  | bankSwap => exact only_execBankSwap rfl _ _ (Only.refl _ _)
  | maxOn => exact only_execMaxOn rfl _ _ _ (Only.refl _ _)
  | chatterWindow => exact only_execChatterWindow rfl _ _ _ (Only.refl _ _)
  | overcurrentTrip => exact only_execOvercurrentTrip rfl _ _ _ (Only.refl _ _)
  | shortCircuit => exact only_execShortCircuit rfl _ _ _ (Only.refl _ _)
  | demagOver => exact only_execDemagOver rfl _ _ _ _ (Only.refl _ _)
  | demagHoldExpiry => exact only_execDemagHoldExpiry rfl _ _ _ (Only.refl _ _)
  | switchOnResumed => exact only_execSwitchOnResumed rfl _ _ _ (Only.refl _ _)
  | openLoad => exact only_execOpenLoad rfl _ _ _ (Only.refl _ _)
  | switchStuck => exact only_execSwitchStuck rfl _ _ _ (Only.refl _ _)
  | groupOutputSilent => exact only_execGroupOutputSilent rfl _ _ _ (Only.refl _ _)
  | keepaliveLoss => exact only_execKeepaliveLoss rfl _ _ _ (Only.refl _ _)
  | groupConverterFail => exact only_execGroupConverterFail rfl _ _ _ (Only.refl _ _)
  | safeStateWrite => exact only_execSafeStateWrite rfl _ _ _ _ _ (Only.refl _ _)
  | deratingWrite => exact only_execDeratingWrite rfl _ _ _ _ _ (Only.refl _ _)
  | tripThresholdWrite => exact only_execTripThresholdWrite rfl _ _ _ _ _ (Only.refl _ _)
  | frameReceived => exact only_execFrameReceived rfl _ _ _ _ (Only.refl _ _)
  | frameTransmit => exact only_execFrameTransmit rfl _ _ _ (Only.refl _ _)
  | guardianCut => exact only_execGuardianCut rfl _ _ _ (Only.refl _ _)
  | macAgeOut => exact only_execMacAgeOut rfl _ _ _ (Only.refl _ _)
  | linkDown => exact only_execLinkDown rfl _ _ _ (Only.refl _ _)
  | linkUp => exact only_execLinkUp rfl _ _ _ _ (Only.refl _ _)
  | supervisionFrameSend => exact only_execSupervisionFrameSend rfl _ _ _ (Only.refl _ _)
  | redundancyDegraded => exact only_execRedundancyDegraded rfl _ _ _ (Only.refl _ _)
  | beaconSend => exact only_execBeaconSend rfl _ _ (Only.refl _ _)
  | beaconReceived => exact only_execBeaconReceived rfl _ _ _ _ (Only.refl _ _)
  | beaconTimeout => exact only_execBeaconTimeout rfl _ _ (Only.refl _ _)
  | guardianTableCheck => exact only_execGuardianTableCheck rfl _ _ _ (Only.refl _ _)
  | guardianCounterFault => exact only_execGuardianCounterFault rfl _ _ _ _ _ (Only.refl _ _)
  | ptpSync => exact only_execPtpSync rfl _ _ _ _ (Only.refl _ _)
  | followUp => exact only_execFollowUp rfl _ _ _ _ _ _ (Only.refl _ _)
  | ptpAnnounce => exact only_execPtpAnnounce rfl _ _ _ _ _ (Only.refl _ _)
  | ptpDelayMessage => exact only_execPtpDelayMessage rfl _ _ _ _ _ _ (Only.refl _ _)
  | ptpManagement _ _ _ _ dataSet => exact only_execPtpManagement rfl _ _ _ _ dataSet _ (Only.refl _ _)
  | ptpSyncSend => exact only_execPtpSyncSend rfl _ _ _ _ (Only.refl _ _)
  | announceTimeout => exact only_execAnnounceTimeout rfl _ _ _ (Only.refl _ _)
  | syncSilence => exact only_execSyncSilence rfl _ _ _ (Only.refl _ _)
  | domainPreference => exact only_execDomainPreference rfl _ _ (Only.refl _ _)
  | holdoverExhausted => exact only_execHoldoverExhausted rfl _ _ (Only.refl _ _)
  | referenceMoved => exact only_execReferenceMoved rfl _ _ (Only.refl _ _)
  | slewComplete => exact only_execSlewComplete rfl _ _ (Only.refl _ _)
  | rebase => exact only_execRebase rfl _ _ _ (Only.refl _ _)
  | servoModeWrite => exact only_execServoModeWrite rfl _ _ _ _ (Only.refl _ _)
  | servoUpdateTimeout => exact only_execServoUpdateTimeout rfl _ _ (Only.refl _ _)
  | pdReceived => exact only_execPdReceived rfl _ _ _ (Only.refl _ _)
  | pdSend => exact only_execPdSend rfl _ _ _ (Only.refl _ _)
  | mdNotification => exact only_execMdNotification rfl _ _ _ (Only.refl _ _)
  | mdRequest => exact only_execMdRequest rfl _ _ _ (Only.refl _ _)
  | mdReply => exact only_execMdReply rfl _ _ _ (Only.refl _ _)
  | mdReplyQuery => exact only_execMdReplyQuery rfl _ _ _ (Only.refl _ _)
  | mdConfirm => exact only_execMdConfirm rfl _ _ _ (Only.refl _ _)
  | mdError => exact only_execMdError rfl _ _ _ (Only.refl _ _)
  | mdTimeout => exact only_execMdTimeout rfl _ _ _ (Only.refl _ _)
  | mvbMasterFrame => exact only_execMvbMasterFrame rfl _ _ _ _ (Only.refl _ _)
  | mvbSlaveFrame => exact only_execMvbSlaveFrame rfl _ _ _ _ _ (Only.refl _ _)
  | mvbDeviceStatus => exact only_execMvbDeviceStatus rfl _ _ _ (Only.refl _ _)
  | mvbForeignMaster => exact only_execMvbForeignMaster rfl _ _ (Only.refl _ _)
  | mvbLineFault => exact only_execMvbLineFault rfl _ _ _ (Only.refl _ _)
  | canRpdo => exact only_execCanRpdo rfl _ _ _ _ (Only.refl _ _)
  | canSyncReceived => exact only_execCanSyncReceived rfl _ _ _ (Only.refl _ _)
  | canHeartbeatSend => exact only_execCanHeartbeatSend rfl _ _ _ (Only.refl _ _)
  | canHeartbeatLost => exact only_execCanHeartbeatLost rfl _ _ _ _ (Only.refl _ _)
  | tpdoWithdraw => exact only_execTpdoWithdraw rfl _ _ _ _ (Only.refl _ _)
  | canErrorPassive => exact only_execCanErrorPassive rfl _ _ _ (Only.refl _ _)
  | canBusOff => exact only_execCanBusOff rfl _ _ _ (Only.refl _ _)
  | canBusOffRecovery => exact only_execCanBusOffRecovery rfl _ _ _ (Only.refl _ _)
  | sdoUploadInitiate => exact only_execSdoUploadInitiate rfl _ _ _ _ _ (Only.refl _ _)
  | sdoDownloadInitiate => exact only_execSdoDownloadInitiate rfl _ _ _ _ _ _ _ (Only.refl _ _)
  | sdoSegment => exact only_execSdoSegment rfl _ _ _ _ _ _ (Only.refl _ _)
  | sdoBlockTransfer => exact only_execSdoBlockTransfer rfl _ _ _ _ _ _ (Only.refl _ _)
  | sdoSegmentTimeout => exact only_execSdoSegmentTimeout rfl _ _ _ (Only.refl _ _)
  | linkReplay => exact only_execLinkReplay rfl _ _ _ _ (Only.refl _ _)
  | directRead => exact only_execDirectRead rfl _ _ _ _ _ _ (Only.refl _ _)
  | directPostedWrite => exact only_execDirectPostedWrite rfl _ _ _ _ _ _ (Only.refl _ _)
  | directNonpostedWrite => exact only_execDirectNonpostedWrite rfl _ _ _ _ _ _ (Only.refl _ _)
  | exclusiveRead => exact only_execExclusiveRead rfl _ _ _ _ _ (Only.refl _ _)
  | exclusiveWrite => exact only_execExclusiveWrite rfl _ _ _ _ _ (Only.refl _ _)
  | eventQueuePop => exact only_execEventQueuePop rfl _ _ _ _ (Only.refl _ _)
  | directCompletion => exact only_execDirectCompletion rfl _ _ _ _ _ (Only.refl _ _)
  | bridgeTimeout => exact only_execBridgeTimeout rfl _ _ _ _ (Only.refl _ _)
  | semaphoreBreak => exact only_execSemaphoreBreak rfl _ _ _ (Only.refl _ _)
  | lateError => exact only_execLateError rfl _ _ _ _ _ _ _ _ (Only.refl _ _)
  | eventPoll => exact only_execEventPoll rfl _ _ (Only.refl _ _)
  | dmaDoorbell => exact only_execDmaDoorbell rfl _ _ _ _ (Only.refl _ _)
  | dmaAbort => exact only_execDmaAbort rfl _ _ _ _ (Only.refl _ _)
  | dmaDescriptorDone => exact only_execDmaDescriptorDone rfl _ _ _ (Only.refl _ _)
  | chainLimit => exact only_execChainLimit rfl _ _ _ (Only.refl _ _)
  | dmaBusError => exact only_execDmaBusError rfl _ _ _ (Only.refl _ _)
  | dmaRestart => exact only_execDmaRestart rfl _ _ (Only.refl _ _)
  | dmaEngineRestart => exact only_execDmaEngineRestart rfl _ _ _ (Only.refl _ _)
  | heartbeatSend => exact only_execHeartbeatSend rfl _ _ (Only.refl _ _)
  | siphonHeartbeat => exact only_execSiphonHeartbeat rfl _ _ _ (Only.refl _ _)
  | partnerLost => exact only_execPartnerLost rfl _ _ (Only.refl _ _)
  | siphonImage => exact only_execSiphonImage rfl _ _ _ (Only.refl _ _)
  | forwardImageLate => exact only_execForwardImageLate rfl _ _ (Only.refl _ _)
  | siphonDelta => exact only_execSiphonDelta rfl _ _ _ (Only.refl _ _)
  | deltaDeadline => exact only_execDeltaDeadline rfl _ _ (Only.refl _ _)
  | siphonState => exact only_execSiphonState rfl _ _ _ _ (Only.refl _ _)
  | siphonResync => exact only_execSiphonResync rfl _ _ _ (Only.refl _ _)
  | siphonControl => exact only_execSiphonControl rfl _ _ _ _ (Only.refl _ _)
  | renewSend => exact only_execRenewSend rfl _ _ (Only.refl _ _)
  | refereeConfirm => exact only_execRefereeConfirm rfl _ _ _ (Only.refl _ _)
  | refereeGrant => exact only_execRefereeGrant rfl _ _ _ (Only.refl _ _)
  | refereeRevoke => exact only_execRefereeRevoke rfl _ _ _ (Only.refl _ _)
  | refereeRefuse => exact only_execRefereeRefuse rfl _ _ _ (Only.refl _ _)
  | leaseExpiry => exact only_execLeaseExpiry rfl _ _ (Only.refl _ _)
  | refereeSilent => exact only_execRefereeSilent rfl _ _ (Only.refl _ _)
  | handOver => exact only_execHandOver rfl _ _ _ (Only.refl _ _)
  | pairJoin => exact only_execPairJoin rfl _ _ _ (Only.refl _ _)
  | exchangeAbort => exact only_execExchangeAbort rfl _ _ _ (Only.refl _ _)
  | handoverSend => exact only_execHandoverSend rfl _ _ (Only.refl _ _)
  | handoverDrive => exact only_execHandoverDrive rfl _ _ (Only.refl _ _)
  | handoverDone => exact only_execHandoverDone rfl _ _ (Only.refl _ _)
  | reversion => exact only_execReversion rfl _ _ (Only.refl _ _)
  | resyncComplete => exact only_execResyncComplete rfl _ _ (Only.refl _ _)
  | resyncTimeout => exact only_execResyncTimeout rfl _ _ (Only.refl _ _)
  | shadowPeriodExpiry => exact only_execShadowPeriodExpiry rfl _ _ (Only.refl _ _)
  | ledFallback => exact only_execLedFallback rfl _ _ (Only.refl _ _)
  | abOpen => exact only_execAbOpen rfl _ _ _ _ _ _ _ (Only.refl _ _)
  | abAuth => exact only_execAbAuth rfl _ _ _ (Only.refl _ _)
  | abClose => exact only_execAbClose rfl _ _ _ (Only.refl _ _)
  | abKeepalive => exact only_execAbKeepalive rfl _ _ _ (Only.refl _ _)
  | abRead => exact only_execAbRead rfl _ _ _ _ _ (Only.refl _ _)
  | abWrite => exact only_execAbWrite rfl _ _ _ _ _ _ _ (Only.refl _ _)
  | abReadSegment => exact only_execAbReadSegment rfl _ _ _ _ _ _ _ (Only.refl _ _)
  | abWriteSegment => exact only_execAbWriteSegment rfl _ _ _ _ _ _ _ _ _ (Only.refl _ _)
  | abBulkRead => exact only_execAbBulkRead rfl _ _ _ _ _ _ _ (Only.refl _ _)
  | abReadSignal => exact only_execAbReadSignal rfl _ _ _ _ (Only.refl _ _)
  | abWriteSignal => exact only_execAbWriteSignal rfl _ _ _ _ _ _ (Only.refl _ _)
  | abEvents => exact only_execAbEvents rfl _ _ _ _ (Only.refl _ _)
  | sessionOpenTimeout => exact only_execSessionOpenTimeout rfl _ _ _ (Only.refl _ _)
  | idleTimeout => exact only_execIdleTimeout rfl _ _ _ (Only.refl _ _)
  | boundaryWrite => exact only_execBoundaryWrite rfl _ _ _ _ (Only.refl _ _)
  | keyWrite => exact only_execKeyWrite rfl _ _ _ _ _ (Only.refl _ _)
  | restoreDefaults => exact only_execRestoreDefaults rfl _ _ _ (Only.refl _ _)
  | recorderMeasurement => exact only_execRecorderMeasurement rfl _ _ _ _ _ (Only.refl _ _)
  | recordWrite => exact only_execRecordWrite rfl _ _ _ _ (Only.refl _ _)
  | recorderFault => exact only_execRecorderFault rfl _ _ (Only.refl _ _)
  | codeMapWrite => exact only_execCodeMapWrite rfl _ _ _ _ (Only.refl _ _)
  | updBegin => exact only_execUpdBegin rfl _ _ _ (Only.refl _ _)
  | updBlock => exact only_execUpdBlock rfl _ _ _ _ _ _ _ (Only.refl _ _)
  | updVerify => exact only_execUpdVerify rfl _ _ _ (Only.refl _ _)
  | updVerifyComplete => exact only_execUpdVerifyComplete rfl _ _ _ _ (Only.refl _ _)
  | updActivate => exact only_execUpdActivate rfl _ _ _ (Only.refl _ _)
  | updAbort => exact only_execUpdAbort rfl _ _ _ (Only.refl _ _)
  | trialFallback => exact only_execTrialFallback rfl _ _ (Only.refl _ _)
  | fabricReserveExhausted => exact only_execFabricReserveExhausted rfl _ _ (Only.refl _ _)
  | pumpedRailAtHoldLevel => exact only_execPumpedRailAtHoldLevel rfl _ _ _ (Only.refl _ _)
  | counterCauseCleared => exact only_execCounterCauseCleared rfl _ _ (Only.refl _ _)
  | delayReqSend => exact only_execDelayReqSend rfl _ _ _ _ (Only.refl _ _)
  | announceSend => exact only_execAnnounceSend rfl _ _ _ _ (Only.refl _ _)
  | consumerHeartbeatReceived => exact only_execConsumerHeartbeatReceived rfl _ _ _ _ (Only.refl _ _)
  | cisternEccError => exact only_execCisternEccError rfl _ _ (Only.refl _ _)

/-! ### Outcomes and the step -/

/-- Every meaning answers `.next` outright, whatever it decides before. -/
theorem exists_next (c : Instr) (s : State) : ∃ t, exec c s = .next t := by
  cases c <;> exact ⟨_, rfl⟩

theorem step_of_idle {s : State} (h : s.pending = []) : step s = .next s := by
  rw [step, h]

theorem step_of_front {s : State} {c : Instr} {rest : List Instr} (h : s.pending = c :: rest) :
    step s = exec c { s with pending := rest } := by
  rw [step, h]

theorem only_of_exec {c : Instr} {s t : State} (h : exec c s = .next t) : Only (touches c) s t := only_exec c s t h

/-- Settles O1: the step reads the queue's front, and the frame of the command says that it leaves the queue alone. -/
theorem stepRunsTheFrontCommand : Obligations.StepRunsTheFrontCommand := by
  refine ⟨fun _ _ _ => rfl, fun c s => ?_, fun _ => step_of_idle⟩
  obtain ⟨t, ht⟩ := exists_next c s
  exact ⟨t, ht, (only_of_exec ht).2.1⟩

/-- Settles O4: the frame of each meaning, case by case. -/
theorem commandsTouchOnlyTheirParts : Obligations.CommandsTouchOnlyTheirParts :=
  fun _ _ _ => only_of_exec

/-! ### Soundness -/

theorem State.Shaped.toShape {s : State} (h : s.Shaped) : Shape s.ctl s.fab s.fio s.sw s.bri s.od :=
  ⟨h.tasks, h.insts, h.groups, h.ports, h.rings, h.sessions⟩

theorem Shape.toShaped {s : State} (h : Shape s.ctl s.fab s.fio s.sw s.bri s.od) : s.Shaped :=
  ⟨h.tasks, h.insts, h.groups, h.ports, h.rings, h.sessions⟩

/-- What a command may not change of `s`, and the least its anti-rollback halves may be. -/
def State.fixed (s : State) : Fixed where
  serial := s.serial
  issue := s.issue
  queue := s.pending
  fw := s.rollbackHalf false
  ap := s.rollbackHalf true

theorem State.Sound.inv {s : State} (h : s.Sound) : Inv s.fixed s where
  events := h.events
  mem := h.memory
  firmware := le_refl (s.rollbackHalf false)
  application := le_refl (s.rollbackHalf true)
  serial := rfl
  issue := rfl
  queue := rfl
  shape := h.shape.toShape

theorem Inv.sound {k : Fixed} {s : State} (h : Inv k s) : s.Sound where
  events := h.events
  memory := h.mem
  shape := h.shape.toShaped

theorem Inv.rollbackHalf_firmware {k : Fixed} {s : State} (h : Inv k s) : k.fw ≤ s.rollbackHalf false := h.firmware

theorem Inv.rollbackHalf_application {k : Fixed} {s : State} (h : Inv k s) : k.ap ≤ s.rollbackHalf true := h.application

/-- The queue is no part of soundness. -/
theorem State.Sound.with_pending {s : State} (h : s.Sound) (q : List Instr) : State.Sound { s with pending := q } :=
  ⟨h.events, h.memory, Shape.toShaped (s := { s with pending := q }) h.shape.toShape⟩

theorem exec_keeps_inv {c : Instr} {s t : State} (hs : s.Sound) (h : exec c s = .next t) : Inv s.fixed t :=
  keeps_exec c hs.inv t h

/-- Settles O3: an idle step changes nothing, and every command keeps the invariant, which holds of a sound state. -/
theorem stepKeepsSound : Obligations.StepKeepsSound := by
  intro s t hs hstep
  cases hq : s.pending with
  | nil =>
    rw [step_of_idle hq] at hstep
    cases hstep
    exact hs
  | cons c rest =>
    rw [step_of_front hq] at hstep
    exact (exec_keeps_inv (hs.with_pending rest) hstep).sound

/-- Settles O5: the same invariant fixes the serial number and the issue and bounds both halves from below. -/
theorem rollbackNeverFalls : Obligations.RollbackNeverFalls := by
  intro c s t hs h
  have hinv := exec_keeps_inv hs h
  exact ⟨hinv.rollbackHalf_firmware, hinv.rollbackHalf_application, hinv.serial, hinv.issue⟩

/-! ### The state after reset -/

theorem reset_sound : State.reset.Sound where
  events := ⟨by decide, trivial⟩
  memory := rfl
  shape := ⟨rfl, rfl, ⟨rfl, by decide⟩, rfl, rfl, rfl⟩

/-- Settles O2: every field at its default is read off; SUPPLY_ON finds the module OFF and powers it up. -/
theorem resetState : Obligations.ResetState := by
  refine ⟨reset_sound, rfl, rfl, fun l => ?_, rfl, rfl, rfl, rfl, rfl, fun m => ?_, rfl, fun n => ⟨_, rfl, rfl, rfl, rfl⟩⟩
  · cases l <;> rfl
  · have hall : ∀ i : Fin 9, (State.reset.session i).state = 0 := by decide
    exact hall m

end Sys2Proof.Machine
end

section
/-! XPC instructions with a result, branches, calls, stops, loads and stores on a release that can run (R80 to R106). -/

namespace Sys2Proof.Machine

/-! ### Instructions that write D (R97, R101, R105) -/

/-- What goes on in its function puts its release back with the LOOP counts of the ranges it entered. -/
theorem xpc_of_go {s : State} {ln : Lane} {c : Fin 4} {steps : Nat} {r q : Release} {x : XCtx} (h : s.CanRun ln c steps r x)
    {words : Nat} {f : XCtx → Release → XRes} (hf : f x (r.advance words steps) = .go q) (hfn : q.fn = r.fn)
    (hframes : q.frames.length = r.frames.length) :
    xpc ln c words steps f s = s.putRun ln c { q with loops := enterWord r.pc q.pc q.loops } := by
  rw [xpc_of_canRun h, hf, xpcSettle_go ln c _ _ s hfn hframes]

/-- What leaves its function, or returns to one, puts its release back as it is. -/
theorem xpc_of_go_other {s : State} {ln : Lane} {c : Fin 4} {steps : Nat} {r q : Release} {x : XCtx}
    (h : s.CanRun ln c steps r x) {words : Nat} {f : XCtx → Release → XRes} (hf : f x (r.advance words steps) = .go q)
    (hframes : q.frames.length ≠ r.frames.length) : xpc ln c words steps f s = s.putRun ln c q := by
  rw [xpc_of_canRun h, hf, xpcSettle, if_neg fun hsame => hframes hsame.2]

theorem xpc_of_stop {s : State} {ln : Lane} {c : Fin 4} {steps : Nat} {r : Release} {x : XCtx} (h : s.CanRun ln c steps r x)
    {words : Nat} {f : XCtx → Release → XRes} {cause : Code} {imm : Nat}
    (hf : f x (r.advance words steps) = .stop cause imm) : xpc ln c words steps f s = stopRun ln c r cause imm s := by
  rw [xpc_of_canRun h, hf, xpcSettle]

theorem xpc_of_close {s : State} {ln : Lane} {c : Fin 4} {steps : Nat} {r q : Release} {x : XCtx}
    (h : s.CanRun ln c steps r x) {words : Nat} {f : XCtx → Release → XRes} (hf : f x (r.advance words steps) = .close q) :
    xpc ln c words steps f s = closeRun ln c q x.td s := by
  rw [xpc_of_canRun h, hf, xpcSettle]

/-- An instruction of one step that writes D: the value is that of the registers as they were. -/
theorem xpcD_of_canRun {s : State} {ln : Lane} {c : Fin 4} {r : Release} {x : XCtx} (h : s.CanRun ln c 1 r x)
    (words : Nat) (d : Fin 64) (v : Release → Word) :
    xpcD ln c words d v s = s.putRun ln c (xw (r.past words 1) d (v (r.advance words 1))) := by
  exact xpc_of_go (q := xw (r.advance words 1) d (v (r.advance words 1))) h rfl rfl rfl

/-- Settles O6: every instruction with a result is an `xpcD`, but PERIOD and NOP, which go on in the same way. -/
theorem xpcResultInstructions : Obligations.XpcResultInstructions := by
  intro ln c ty d a b s r x h put
  have writes (words : Nat) (v : Release → Word) : (.next (xpcD ln c words d v s) : Out) =
      .next (s.putRun ln c (xw (r.past words 1) d (v (r.advance words 1)))) :=
    congrArg Host.Outcome.next (xpcD_of_canRun h words d v)
  refine ⟨writes 1 _, fun lit => writes (ldiWords ty) _, fun src => writes 1 _, writes 1 _, writes 1 _, writes 1 _,
    writes 1 _, writes 1 _, writes 1 _, writes 1 _, writes 1 _, writes 1 _, writes 1 _, writes 1 _, writes 1 _,
    writes 1 _, fun imm => writes 1 _, writes 1 _, writes 1 _, writes 1 _, ?period, ?nop⟩
  case period =>
    rw [← h.tb]
    exact congrArg Host.Outcome.next
      (xpc_of_go (q := xw (r.advance 1 1) d (BitVec.ofNat 64 (x.td.period * x.tb))) h rfl rfl rfl)
  case nop => exact congrArg Host.Outcome.next (xpc_of_go (q := r.advance 1 1) h rfl rfl rfl)

/-- Settles O7: each of these instructions is an `xpcD` too. -/
theorem xpcBitAndCompareInstructions : Obligations.XpcBitAndCompareInstructions := by
  intro ln c ty d a b imm s r x h put
  have writes (v : Release → Word) : (.next (xpcD ln c 1 d v s) : Out) =
      .next (s.putRun ln c (xw (r.past 1 1) d (v (r.advance 1 1)))) :=
    congrArg Host.Outcome.next (xpcD_of_canRun h 1 d v)
  exact ⟨writes _, writes _, writes _, writes _, writes _, writes _, writes _, writes _, writes _, writes _, writes _,
    writes _, writes _, writes _, writes _, writes _, writes _, writes _, writes _, writes _⟩

/-! ### Branches and LOOP (R103, R104) -/

/-- The count register of a LOOP, one lower as a U32. -/
theorem ofInt_u32_pred (v : Word) : ofInt .u32 (intOf .u32 v - 1) = BitVec.ofNat 64 ((v.toNat + 2 ^ 32 - 1) % 2 ^ 32) := by
  have hwrap : wrapNat 32 (intOf .u32 v - 1) = (v.toNat + 2 ^ 32 - 1) % 2 ^ 32 := by
    simp only [wrapNat, intOf, rawOf, xSigned, xWidth, Bool.false_eq_true, if_false, Nat.reducePow, Int.reducePow]
    omega
  simp only [ofInt, normRaw, xSigned, xWidth, hwrap, Nat.mod_mod]
  rfl

/-- Where a branch of the release goes that has gone past `n` words. -/
theorem branchTo_advance_pc (r : Release) (n steps : Nat) (off : Int) :
    (branchTo (r.advance n steps) off).pc = ((r.pc : Int) + n + off).toNat := by
  simp [branchTo, Release.advance]

theorem xpc_branch {s : State} {ln : Lane} {c : Fin 4} {r : Release} {x : XCtx} (h : s.CanRun ln c 1 r x) (off : Int)
    {f : XCtx → Release → XRes} (hf : f x (r.advance 1 1) = .go (branchTo (r.advance 1 1) off)) :
    xpc ln c 1 1 f s = s.putRun ln c { r.past 1 1 with
      pc := ((r.pc : Int) + 1 + off).toNat, loops := enterWord r.pc ((r.pc : Int) + 1 + off).toNat r.loops } := by
  have hpc := branchTo_advance_pc r 1 1 off
  rw [xpc_of_go h hf rfl rfl, hpc]
  rfl

theorem xpc_stay {s : State} {ln : Lane} {c : Fin 4} {r : Release} {x : XCtx} (h : s.CanRun ln c 1 r x)
    {f : XCtx → Release → XRes} (hf : f x (r.advance 1 1) = .go (r.advance 1 1)) :
    xpc ln c 1 1 f s = s.putRun ln c (r.past 1 1) :=
  xpc_of_go h hf rfl rfl

/-- Settles O11: a branch goes on with its target or with the next word; a LOOP has the same three ways that its count
and its bound give it. -/
theorem xpcBranchesAndLoops : Obligations.XpcBranchesAndLoops := by
  refine ⟨?branches, ?loops⟩
  case branches =>
    intro ln c a off s r x h far
    refine ⟨congrArg _ (xpc_branch h off rfl), ?brt, ?brf⟩
    case brt =>
      rw [exec_xBrt, execXBrt]
      by_cases ha : (xr r a).getLsbD 0 = true
      · rw [if_pos ha]; exact congrArg _ (xpc_branch h off (by rw [xr_advance, isTrue, if_pos ha]))
      · rw [if_neg ha]; exact congrArg _ (xpc_stay h (by rw [xr_advance, isTrue, if_neg ha]))
    case brf =>
      rw [exec_xBrf, execXBrf]
      by_cases ha : (xr r a).getLsbD 0 = true
      · rw [if_pos ha]; exact congrArg _ (xpc_stay h (by rw [xr_advance, isTrue, if_pos ha]))
      · rw [if_neg ha]; exact congrArg _ (xpc_branch h off (by rw [xr_advance, isTrue, if_neg ha]))
  case loops =>
    intro ln c a off bound s r x h v back
    have hv : ofInt .u32 (intOf .u32 (xr (r.advance 2 1) a) - 1) = v := ofInt_u32_pred (xr r a)
    have hword : (r.advance 2 1).pc - 2 = r.pc := Nat.add_sub_cancel r.pc 2
    have hcount : loopCount (r.advance 2 1) r.pc = loopCount r r.pc := rfl
    refine ⟨fun hzero => ?falls, fun hne hlast => ⟨?stops, ?bound⟩, fun hne hmore => ?goes⟩
    case falls =>
      rw [exec_xLoop, execXLoop]
      exact congrArg _ (xpc_of_go (q := xw (r.advance 2 1) a 0) h (by simp only [hv, hzero, if_true]) rfl rfl)
    case stops =>
      rw [exec_xLoop, execXLoop]
      exact congrArg _ (xpc_of_stop h (by simp only [hv, if_neg hne, hword, hcount, hlast, if_true]))
    case bound =>
      rw [exec_loopBound, execLoopBound, h.running]
      simp only [if_pos hlast]
      exact congrArg _ (xpc_of_stop h rfl)
    case goes =>
      rw [exec_xLoop, execXLoop]
      have hpc : (branchTo (xw (r.advance 2 1) a v) off).pc = back := branchTo_advance_pc r 2 1 off
      exact ⟨_, congrArg _ (xpc_of_go
        (q := setLoop (branchTo (xw (r.advance 2 1) a v) off) r.pc back (loopCount r r.pc + 1)) h
        (by simp only [hv, if_neg hne, hword, hcount, if_neg hmore, hpc]) rfl rfl), hpc, rfl, rfl, rfl, rfl⟩

/-! ### Calls and stops (R88, R103, R106) -/

/-- A stop ends the running release and notes its cause for the window (R81, R88, R106). -/
theorem stopRun_eq (ln : Lane) (c : Fin 4) (r : Release) (cause : Code) (imm : Nat) (s : State) :
    stopRun ln c r cause imm s = { s.dropRun ln c with
      rek := { s.rek with stops := s.rek.stops ++ [{ lane := ln, task := r.task, closes := r.closes, cause, imm }] } } := by
  cases ln <;> rfl

/-- Settles O12: CALL and RET change the number of frames, so they set the LOOP counts of the other function aside or
bring them back; HALT and an exhausted budget are stops. -/
theorem xpcCallsAndStops : Obligations.XpcCallsAndStops := by
  refine ⟨fun ln c s r x h => ⟨fun fn f hdepth hf => ?call, fun k ks hframes => ?ret⟩, ?stops⟩
  case call =>
    refine ⟨{ regs := r.regs, fn := r.fn, ret := r.pc + 1, loops := enterWord r.pc (r.pc + 1) r.loops }, rfl, rfl, rfl, ?_⟩
    rw [exec_xCall, execXCall, h.running]
    simp only [if_neg (Nat.not_le.mpr hdepth)]
    exact congrArg _ (xpc_of_go_other h (by simp only [hf]; rfl) (by simp))
  case ret =>
    refine ⟨_, congrArg Host.Outcome.next (xpc_of_go_other h
      (q := { r with steps := r.steps + 1, frames := ks, fn := k.fn, pc := k.ret, loops := k.loops,
                     regs := r.regs.take 4 ++ k.regs.drop 4 }) ?_ ?_)⟩
    · simp only [Release.advance, hframes]
    · simp [hframes]
  case stops =>
    intro ln c s r ended
    refine ⟨fun x imm h => ?halt, fun td steps hrun htask hover => ?budget⟩
    case halt =>
      rw [exec_xHalt, execXHalt, xpc_of_stop h rfl, stopRun_eq]
    case budget =>
      rw [exec_stepBudget, execStepBudget, hrun]
      simp only [htask, if_pos hover, stopRun_eq, ended]

/-! ### Loads and stores (R80, R81, R101, R102) -/

/-- Settles O13: a load has the number that `loadNum` reads, or none; the spaces are read off. -/
theorem xpcLoads : Obligations.XpcLoads := by
  intro ln c ty d a sp indexed off s r x h ad n got fault
  refine ⟨fun m hm => exec_xLd_of_loadNum h ty d a sp indexed off hm, fun hnone => ?fault,
    fun hmis => if_pos hmis, fun hal => if_neg (not_not_intro hal), fun hal => if_neg (not_not_intro hal),
    fun hal => if_neg (not_not_intro hal)⟩
  case fault =>
    rw [exec_xLd, execXLd]
    refine congrArg _ (xpc_of_stop h ?_)
    rw [effAddr_advance, loadNum_advance]
    exact congrArg (fun o : Option Nat => match o with
      | some m => XRes.go (xw (r.advance 2 1) d (loadVal ty m))
      | none => .stop evAccessFault 0) hnone

/-- R101: a store that is not legal is a stop with ACCESS-FAULT. -/
theorem storeAt_of_not_legal {x : XCtx} {a n : Nat} {r : Release} (v : Nat) (h : ¬(a % n = 0 ∧ storeLegal x a n = true)) :
    storeAt x a n v r = .stop evAccessFault 0 :=
  if_pos (by simpa [not_and_or, imp_iff_not_or] using h)

/-- R81: a legal store over the Bucket budget is a stop with BUCKET-OVERFLOW. -/
theorem storeAt_of_full {x : XCtx} {a n : Nat} {r : Release} (v : Nat) (haligned : a % n = 0)
    (hlegal : storeLegal x a n = true) (hfull : bucketBudget x.td < r.used + entryCost n) :
    storeAt x a n v r = .stop evBucketOverflow 0 := by
  rw [storeAt, if_neg (by simp [haligned, hlegal]), if_pos hfull]

theorem length_leBytes (n v : Nat) : (leBytes n v).length = n := by
  induction n generalizing v with
  | zero => rfl
  | succ n ih => rw [leBytes, List.length_cons, ih]

/-- What was written is read back. -/
theorem cRead_cWrite (bs : Bytes) {a : Nat} {m : Cells} (h : Memory.wf m = true) :
    cRead bs.length a (cWrite a bs m) = bs := by
  induction bs generalizing a m with
  | nil => rfl
  | cons b bs ih =>
    have hwf : Memory.wf (cSet a b m) = true := wf_cSet h
    rw [List.length_cons, cRead, cWrite, ih hwf, cGet_cWrite_outside hwf (.inl (Nat.lt_succ_self a)), cGet_cSet_self h]

/-- Settles O14: a store is one Bucket write where it is legal and has room, else its stop; STL writes the scratch. -/
theorem xpcStores : Obligations.XpcStores := by
  intro ln c ty v a indexed off s r x h ad n w legal
  refine ⟨fun hlegal hroom => exec_xSt_of_legal h ty v a indexed off hlegal.1 hlegal.2 hroom,
    fun hnot => ?fault, fun hlegal hfull => ?overflow, fun hal hin hwf => ?stl, fun hout => ?stlFault⟩
  case fault =>
    rw [exec_xSt, execXSt]
    exact congrArg _ (xpc_of_stop h (storeAt_of_not_legal _ hnot))
  case overflow =>
    rw [exec_xSt, execXSt]
    exact congrArg _ (xpc_of_stop h (storeAt_of_full _ hlegal.1 hlegal.2 hfull))
  case stl =>
    have hlen : (leBytes n (rawOf ty (xr r v))).length = n := length_leBytes _ _
    refine ⟨cWrite ad (leBytes n (rawOf ty (xr r v))) r.scratch, ?_, wf_cWrite hwf, ?_, fun b hb => ?_⟩
    · rw [exec_xStl, execXStl]
      refine congrArg _ (xpc_of_go (q := { r.advance 2 1 with
        scratch := cWrite ad (leBytes n (rawOf ty (xr r v))) r.scratch }) h ?_ rfl rfl)
      exact if_neg fun hbad => hbad.elim (fun hmis => hmis hal) (Nat.not_lt.mpr hin)
    · have hread := cRead_cWrite (leBytes n (rawOf ty (xr r v))) (a := ad) hwf
      rwa [hlen] at hread
    · exact cGet_cWrite_outside hwf (hlen.symm ▸ hb)
  case stlFault =>
    rw [exec_xStl, execXStl]
    refine congrArg _ (xpc_of_stop h (if_pos ?_))
    rcases not_and_or.mp hout with hmis | hlong
    · exact .inl hmis
    · exact .inr (Nat.not_le.mp hlong)

/-! ### Closing a release (R38, R80, R103, R301) -/

theorem LaneSt.setCore_core (l : LaneSt) (c : Fin 4) (k : Core) : (l.setCore c k).core c = k := by
  fin_cases c <;> rfl

/-- A lane is read from its own field alone. -/
theorem State.lane_of_eq {s t : State} (hA : t.lanA = s.lanA) (hB : t.lanB = s.lanB) (hC : t.lanC = s.lanC) (l : Lane) :
    t.lane l = s.lane l := by
  cases l <;> assumption

theorem LaneSt.core_halves (l : LaneSt) (c : Fin 4) (hs : List Half) : ({ l with halves := hs } : LaneSt).core c = l.core c := rfl

theorem LaneSt.setCore_halves (l : LaneSt) (c : Fin 4) (k : Core) : (l.setCore c k).halves = l.halves := by
  fin_cases c <;> rfl

theorem dropRun_lane (s : State) (ln : Lane) (c : Fin 4) :
    (s.dropRun ln c).lane ln = (s.lane ln).setCore c { s.core ln c with releases := (s.core ln c).releases.tail } :=
  State.setLane_lane ..

theorem dropRun_lane_other (s : State) {ln l : Lane} (c : Fin 4) (h : l ≠ ln) : (s.dropRun ln c).lane l = s.lane l :=
  State.setLane_other h ..

/-- The lane of a closed release: its half joins the others, and its core is free of it. -/
def State.closedLane (s : State) (ln : Lane) (c : Fin 4) (h : Half) : State :=
  (s.dropRun ln c).modLane ln (fun l => { l with halves := l.halves ++ [h] })

theorem closedLane_core (s : State) (ln : Lane) (c : Fin 4) (h : Half) :
    ((s.closedLane ln c h).lane ln).core c = { s.core ln c with releases := (s.core ln c).releases.tail } := by
  rw [State.closedLane, State.modLane_lane, LaneSt.core_halves, dropRun_lane, LaneSt.setCore_core]

theorem closedLane_halves (s : State) (ln : Lane) (c : Fin 4) (h : Half) :
    ((s.closedLane ln c h).lane ln).halves = (s.lane ln).halves ++ [h] := by
  rw [State.closedLane, State.modLane_lane, dropRun_lane, LaneSt.setCore_halves]

theorem closedLane_other (s : State) {ln l : Lane} (c : Fin 4) (h : Half) (hl : l ≠ ln) :
    (s.closedLane ln c h).lane l = s.lane l :=
  (State.setLane_other hl).trans (dropRun_lane_other s c hl)

/-- A release whose Seal leaves `q` closes: its half joins those of its lane, and its Tally is sent unless the lane is
reported (R38, R48). -/
theorem closeRun_of_seal {s : State} {ln : Lane} {c : Fin 4} {r r1 q : Release} {x : XCtx} (h : s.CanRun ln c 1 r x)
    (hseal : sealCompose x s r1 = .go q) :
    ∃ tel sent, closeRun ln c r1 x.td s = { s.closedLane ln c (halfOf x.td q) with tel, sent } ∧
      sent = if (s.lane ln).reported = none
        then s.sent ++ [.tally ln x.td.core r1.task (BitVec.ofNat 16 r1.opened) (halfOf x.td q).tally] else s.sent := by
  have hx : ({ td := x.td, app := x.app, tb := s.tb } : XCtx) = x := by rw [← h.tb]
  have hsent : (s.closedLane ln c (halfOf x.td q)).sent = s.sent := by simp [State.closedLane]
  refine ⟨(closeRun ln c r1 x.td s).tel, _, ?_, rfl⟩
  simp only [closeRun, h.app, hx, hseal]
  split
  · rw [State.emit, ← hsent]; rfl
  · rw [← hsent]; rfl

/-- Settles O15: END at any depth and RET at depth 0 close the release, and the close is as above. -/
theorem xpcClose : Obligations.XpcClose := by
  intro ln c s r q x h hseal half closed
  have hclosed : closed (.next (closeRun ln c (r.advance 1 1) x.td s)) := by
    obtain ⟨tel, sent, ht, hsent⟩ := closeRun_of_seal (r1 := r.advance 1 1) h hseal
    have hlane (l : Lane) : (closeRun ln c (r.advance 1 1) x.td s).lane l = (s.closedLane ln c half).lane l :=
      State.lane_of_eq (by rw [ht]) (by rw [ht]) (by rw [ht]) l
    refine ⟨_, rfl, ?_, ?_, ?_, ?_, ?_, ?_, ?_, fun l hl => ?_⟩
    · rw [State.core, hlane, closedLane_core]
    · rw [hlane, closedLane_halves]
    · rw [ht]; exact hsent
    · rw [ht]; simp [State.closedLane]
    · rw [ht]; simp [State.closedLane]
    · rw [ht]; simp [State.closedLane]
    · rw [ht]; simp [State.closedLane]
    · rw [hlane, closedLane_other s c half hl]
  refine ⟨rfl, rfl, rfl, ?_, fun hdepth => ?_⟩
  · rw [exec_xEnd, execXEnd, xpc_of_close h rfl]
    exact hclosed
  · have hres : (match (r.advance 1 1).frames with
      | [] => XRes.close (r.advance 1 1)
      | f :: fs => .go { r.advance 1 1 with
          regs := (r.advance 1 1).regs.take 4 ++ f.regs.drop 4, fn := f.fn, pc := f.ret, loops := f.loops, frames := fs }) =
        .close (r.advance 1 1) := by
      rw [show (r.advance 1 1).frames = [] from hdepth]
    rw [exec_xRet, execXRet, xpc_of_close h hres]
    exact hclosed

end Sys2Proof.Machine
end

section
/-! XPC results of the integer types (R95, R98): every one is a whole number wrapped to its type. -/

namespace Sys2Proof.Machine

/-! ### Wrapping a whole number to a type -/

/-- The whole number of the type that is congruent to `i` modulo 2 to the power of the width (R95, R98). -/
def wrapT (ty : XType) (i : Int) : Int :=
  if xSigned ty then i.bmod (2 ^ xWidth ty) else i % 2 ^ xWidth ty

theorem xWidth_pos (ty : XType) : 0 < xWidth ty := by cases ty <;> decide

theorem two_pow_xWidth_dvd (ty : XType) : (2 ^ xWidth ty : Int) ∣ 2 ^ 64 := by
  cases ty <;> exact pow_dvd_pow 2 (by decide)

theorem sxt_eq_bmod {w : Nat} (hw : 0 < w) (v : Nat) : sxt w v = (v : Int).bmod (2 ^ w) := by
  obtain ⟨k, rfl⟩ : ∃ k, w = k + 1 := ⟨w - 1, by omega⟩
  have hhalf : (2 ^ (k + 1) + 1) / 2 = 2 ^ k := by rw [pow_succ]; omega
  simp only [sxt, Int.bmod_def, Nat.add_sub_cancel]
  norm_cast
  simp only [hhalf]

theorem wrapT_emod (ty : XType) (i : Int) : wrapT ty (i % 2 ^ xWidth ty) = wrapT ty i := by
  unfold wrapT
  split
  · exact_mod_cast Int.emod_bmod (x := i) (n := 2 ^ xWidth ty)
  · exact Int.emod_emod_of_dvd i (dvd_refl _)

theorem wrapT_emod_of_dvd (ty : XType) (i : Int) {m : Int} (hm : (2 ^ xWidth ty : Int) ∣ m) : wrapT ty (i % m) = wrapT ty i := by
  rw [← wrapT_emod, Int.emod_emod_of_dvd i hm, wrapT_emod]

theorem dvd_wrapT_sub (ty : XType) (i : Int) : (2 ^ xWidth ty : Int) ∣ wrapT ty i - i := by
  unfold wrapT
  split
  · exact_mod_cast Int.dvd_bmod_sub_self (x := i) (m := 2 ^ xWidth ty)
  · exact Int.dvd_emod_sub_self

theorem wrapT_bounds (ty : XType) (i : Int) : xMin ty ≤ wrapT ty i ∧ wrapT ty i ≤ xMax ty := by
  cases ty <;> simp only [xMin, xMax, wrapT, xSigned, xWidth, if_true, if_false, Bool.false_eq_true,
    Nat.reducePow, Int.reducePow, Nat.reduceSub, Int.bmod_def] <;> omega

theorem wrapT_of_bounds {ty : XType} {i : Int} (hlo : xMin ty ≤ i) (hhi : i ≤ xMax ty) : wrapT ty i = i := by
  cases ty <;> simp only [xMin, xMax, wrapT, xSigned, xWidth, if_true, if_false, Bool.false_eq_true,
    Nat.reducePow, Int.reducePow, Nat.reduceSub, Int.bmod_def] at * <;> omega

theorem wrapT_wrapT (ty : XType) (i : Int) : wrapT ty (wrapT ty i) = wrapT ty i :=
  wrapT_of_bounds (wrapT_bounds ty i).1 (wrapT_bounds ty i).2

/-! ### Registers as whole numbers -/

theorem intOf_eq_wrapT (ty : XType) (v : Word) : intOf ty v = wrapT ty v.toNat := by
  unfold intOf wrapT
  rw [sxt_eq_bmod (xWidth_pos ty), rawOf]
  norm_cast

theorem normRaw_eq_wrapT (ty : XType) (n : Nat) : normRaw ty n = BitVec.ofInt 64 (wrapT ty n) := by
  unfold normRaw wrapT
  rw [sxt_eq_bmod (xWidth_pos ty)]
  split
  · rfl
  · norm_cast

theorem ofInt_eq_wrapT (ty : XType) (i : Int) : ofInt ty i = BitVec.ofInt 64 (wrapT ty i) := by
  have hcast : ((wrapNat (xWidth ty) i : Nat) : Int) = i % 2 ^ xWidth ty :=
    Int.toNat_of_nonneg (Int.emod_nonneg i (by positivity))
  rw [ofInt, normRaw_eq_wrapT, hcast, wrapT_emod]

theorem wrapT_toNat_ofInt (ty : XType) (i : Int) : wrapT ty (BitVec.ofInt 64 i).toNat = wrapT ty i := by
  have hcast : ((BitVec.ofInt 64 i).toNat : Int) = i % 2 ^ 64 := by simp [BitVec.toNat_ofInt]; omega
  rw [hcast, wrapT_emod_of_dvd ty i (two_pow_xWidth_dvd ty)]

/-- What a register that was formed by wrapping `i` holds (R98). -/
theorem intOf_ofInt (ty : XType) (i : Int) : intOf ty (ofInt ty i) = wrapT ty i := by
  rw [ofInt_eq_wrapT, intOf_eq_wrapT, wrapT_toNat_ofInt, wrapT_wrapT]

theorem intOf_ofInt_of_bounds {ty : XType} {i : Int} (hlo : xMin ty ≤ i) (hhi : i ≤ xMax ty) :
    intOf ty (ofInt ty i) = i := by
  rw [intOf_ofInt, wrapT_of_bounds hlo hhi]

theorem intOf_bounds (ty : XType) (v : Word) : xMin ty ≤ intOf ty v ∧ intOf ty v ≤ xMax ty := by
  rw [intOf_eq_wrapT]; exact wrapT_bounds ty _

/-! ### The register form (R95) -/

theorem normT_normRaw (ty : XType) (n : Nat) : normT ty (normRaw ty n) = normRaw ty n := by
  rw [normT, normRaw_eq_wrapT, normRaw_eq_wrapT ty n, wrapT_toNat_ofInt, wrapT_wrapT]

theorem normT_ofInt (ty : XType) (i : Int) : normT ty (ofInt ty i) = ofInt ty i := normT_normRaw ty _

theorem normT_normT (ty : XType) (v : Word) : normT ty (normT ty v) = normT ty v := normT_normRaw ty _

theorem ofInt_zero (ty : XType) : ofInt ty 0 = 0 := by cases ty <;> decide

theorem normT_opRem (ty : XType) (a b : Word) : normT ty (opRem ty a b) = opRem ty a b := by
  unfold opRem
  split
  · rw [← ofInt_zero ty, normT_ofInt]
  · exact normT_ofInt ty _

/-! ### The operations over an integer type (R98) -/

section
variable {ty : XType} (hint : xInt ty = true) (a b : Word)
include hint

theorem xFloat_of_xInt : xFloat ty = false := by
  revert hint; cases ty <;> decide

theorem opAdd_int : opAdd ty a b = ofInt ty (intOf ty a + intOf ty b) := by simp [opAdd, xFloat_of_xInt hint]

theorem opSub_int : opSub ty a b = ofInt ty (intOf ty a - intOf ty b) := by simp [opSub, xFloat_of_xInt hint]

theorem opMul_int : opMul ty a b = ofInt ty (intOf ty a * intOf ty b) := by simp [opMul, xFloat_of_xInt hint]

theorem opDiv_int : opDiv ty a b = ofInt ty ((intOf ty a).tdiv (intOf ty b)) := by simp [opDiv, xFloat_of_xInt hint]

theorem opNeg_int : opNeg ty a = ofInt ty (-intOf ty a) := by simp [opNeg, xFloat_of_xInt hint]

theorem opAbs_int : opAbs ty a = ofInt ty (intOf ty a).natAbs := by simp [opAbs, xFloat_of_xInt hint]

theorem opMin_int : opMin ty a b = ofInt ty (min (intOf ty a) (intOf ty b)) := by simp [opMin, xFloat_of_xInt hint]

theorem opMax_int : opMax ty a b = ofInt ty (max (intOf ty a) (intOf ty b)) := by simp [opMax, xFloat_of_xInt hint]

theorem opLimit_int (d : Word) :
    opLimit ty d a b = ofInt ty (min (max (intOf ty d) (intOf ty a)) (intOf ty b)) := by
  simp [opLimit, xFloat_of_xInt hint]

theorem opCvt_int : opCvt ty ty a = ofInt ty (intOf ty a) := by
  have hbool : ty ≠ .bool := by rintro rfl; cases hint
  simp [opCvt, xFloat_of_xInt hint, hbool]

end

/-- A type is unsigned from 0 on, or signed with one more value below 0 than above. -/
theorem xMin_cases (ty : XType) : (xMin ty = 0 ∧ 0 ≤ xMax ty) ∨ (xMin ty = -xMax ty - 1 ∧ 1 ≤ xMax ty) := by
  cases ty <;> decide

/-- A remainder has the sign of its dividend and is no larger. -/
theorem tmod_bounds {ty : XType} {x : Int} (y : Int) (hx : xMin ty ≤ x ∧ x ≤ xMax ty) :
    xMin ty ≤ x.tmod y ∧ x.tmod y ≤ xMax ty := by
  have hsize : (x.tmod y).natAbs ≤ x.natAbs := by rw [Int.natAbs_tmod]; exact Nat.mod_le _ _
  have hlimits := xMin_cases ty
  rcases le_total 0 x with hpos | hneg
  · have hsign := Int.tmod_nonneg y hpos
    omega
  · have hsign := Int.tmod_nonneg y (neg_nonneg.mpr hneg)
    rw [Int.neg_tmod] at hsign
    omega

/-- A quotient is no larger than its dividend; only the least value over −1 leaves the type. -/
theorem tdiv_bounds {ty : XType} {x y : Int} (hx : xMin ty ≤ x ∧ x ≤ xMax ty) (hy : xMin ty ≤ y)
    (hover : ¬(x = xMin ty ∧ y = -1)) : xMin ty ≤ x.tdiv y ∧ x.tdiv y ≤ xMax ty := by
  have hsize : (x.tdiv y).natAbs ≤ x.natAbs := Int.natAbs_tdiv_le_natAbs x y
  rcases xMin_cases ty with ⟨hmin, hmax⟩ | ⟨hmin, hmax⟩
  · have hsign := Int.tdiv_nonneg (hmin ▸ hx.1) (hmin ▸ hy)
    omega
  · by_cases hleast : x = xMin ty
    · rcases le_or_gt 0 y with hpos | hneg
      · have hsign := Int.tdiv_nonneg (show 0 ≤ -x by omega) hpos
        rw [Int.neg_tdiv] at hsign
        omega
      · have hhalf : (x.tdiv y).natAbs ≤ x.natAbs / 2 := by
          rw [Int.natAbs_tdiv]
          exact Nat.div_le_div_left (by omega) (by decide)
        omega
    · omega

/-- The least value of a signed type, negated, wraps to itself. -/
theorem wrapT_neg_xMin {ty : XType} (h : xMin ty ≤ -1) : wrapT ty (-xMin ty) = xMin ty := by
  cases ty <;> revert h <;> decide

theorem xMin_le_xMax (ty : XType) : xMin ty ≤ xMax ty := le_trans (wrapT_bounds ty 0).1 (wrapT_bounds ty 0).2

/-- R98: saturating is clamping, and a clamped value needs no wrapping. -/
theorem intOf_ofInt_clampInt (ty : XType) (i : Int) :
    intOf ty (ofInt ty (clampInt (xMin ty) (xMax ty) i)) = max (xMin ty) (min (xMax ty) i) :=
  intOf_ofInt_of_bounds (le_max_left _ _) (max_le (xMin_le_xMax ty) (min_le_left _ _))

/-- Settles O8: every integer result is wrapped to its type; what is within the limits is unchanged by that. -/
theorem xpcIntegerResults : Obligations.XpcIntegerResults := by
  refine ⟨fun ty a b d n imm hint => ?form, ?value⟩
  case form =>
    simp only [List.forall_mem_cons, List.not_mem_nil, false_imp_iff, implies_true, and_true, opAdd_int hint,
      opSub_int hint, opMul_int hint, opDiv_int hint, opNeg_int hint, opAbs_int hint, opMin_int hint, opMax_int hint,
      opLimit_int hint, opCvt_int hint, normT_ofInt, normT_normT, normT_normRaw, normT_opRem, opAdds, opSubs, opAddi, opAnd, opOr,
      opXor, opNot, opShl, opShr, opRol, opRor, opSetb, opClrb]
  case value =>
    intro ty a b imm n hint x y wraps
    have hx : xMin ty ≤ x ∧ x ≤ xMax ty := intOf_bounds ty a
    have hy : xMin ty ≤ y ∧ y ≤ xMax ty := intOf_bounds ty b
    have hwraps (i : Int) : wraps (ofInt ty i) i := by
      simp only [wraps, intOf_ofInt]
      exact ⟨(wrapT_bounds ty i).1, (wrapT_bounds ty i).2, dvd_wrapT_sub ty i⟩
    rw [opAdd_int hint, opSub_int hint, opMul_int hint, opNeg_int hint, opDiv_int hint]
    refine ⟨hwraps _, hwraps _, hwraps _, hwraps _, hwraps _, fun hzero => ⟨?_, if_pos hzero⟩, fun _ hover => ?_,
      fun hmin hneg => ?_, fun hne => ?_, intOf_ofInt_clampInt ty _, intOf_ofInt_clampInt ty _, ?_, ?_, ?_, ?_⟩
    · rw [show intOf ty b = 0 from hzero, Int.tdiv_zero, ofInt_zero]
    · exact intOf_ofInt_of_bounds (tdiv_bounds hx hy.1 hover).1 (tdiv_bounds hx hy.1 hover).2
    · rw [intOf_ofInt, show intOf ty a = xMin ty from hmin, show intOf ty b = -1 from hneg, Int.tdiv_neg, Int.tdiv_one]
      exact wrapT_neg_xMin (hneg ▸ hy.1)
    · rw [opRem, if_neg hne]
      exact intOf_ofInt_of_bounds (tmod_bounds y hx).1 (tmod_bounds y hx).2
    all_goals simp only [opShl, opShr, opRol, opRor, Nat.mod_mod]

/-! ### NaN operands (R99, R100) -/

theorem eq_nan_of_isNan {x : FVal} (h : x.isNan = true) : x = .nan := by
  cases x with
  | nan => rfl
  | inf n => cases h
  | fin n m e => cases h

@[simp] theorem add_nan (x : FVal) : x.add .nan = .nan := by cases x <;> rfl
@[simp] theorem nan_add (x : FVal) : FVal.nan.add x = .nan := rfl
@[simp] theorem mul_nan (x : FVal) : x.mul .nan = .nan := by cases x <;> rfl
@[simp] theorem nan_mul (x : FVal) : FVal.nan.mul x = .nan := rfl
@[simp] theorem div_nan (x : FVal) : x.div .nan = .nan := by cases x <;> rfl
@[simp] theorem nan_div (x : FVal) : FVal.nan.div x = .nan := rfl
@[simp] theorem min_nan (x : FVal) : x.min .nan = .nan := by cases x <;> rfl
@[simp] theorem nan_min (x : FVal) : FVal.nan.min x = .nan := rfl
@[simp] theorem max_nan (x : FVal) : x.max .nan = .nan := by cases x <;> rfl
@[simp] theorem nan_max (x : FVal) : FVal.nan.max x = .nan := rfl
@[simp] theorem nan_neg : FVal.nan.neg = .nan := rfl
@[simp] theorem nan_abs : FVal.nan.abs = .nan := rfl
@[simp] theorem nan_sqrt : FVal.nan.sqrt = .nan := rfl
@[simp] theorem nan_rint : FVal.nan.rint = .nan := rfl
@[simp] theorem nan_isNan : FVal.nan.isNan = true := rfl
@[simp] theorem nan_toInt (lo hi : Int) : FVal.nan.toInt lo hi = 0 := rfl

/-- A comparison with a NaN operand finds no order (R99). -/
theorem opCmp_of_nan {ty : XType} (hfloat : xFloat ty = true) (r : Int → Bool) {a b : Word}
    (h : fOf ty a = .nan ∨ fOf ty b = .nan) : opCmp ty r a b = false := by
  rcases h with h | h <;> simp [opCmp, hfloat, h]

theorem ofF_nan {ty : XType} (hfloat : xFloat ty = true) :
    ofF ty .nan = if ty = .f32 then 0x7FC00000 else 0x7FF8000000000000 := by
  revert hfloat; cases ty <;> decide

/-- Settles O9: a NaN goes through every operation and is encoded as the canonical one, and it is in no order; the
signed zeros and the integer limits are read off for the two formats. -/
theorem xpcFloatNaN : Obligations.XpcFloatNaN := by
  intro ty a b hfloat hisNan qnan plus minus
  have hnan : fOf ty a = .nan := eq_nan_of_isNan hisNan
  have hq : ofF ty .nan = qnan := ofF_nan hfloat
  have hab (r : Int → Bool) : opCmp ty r a b = false := opCmp_of_nan hfloat r (.inl hnan)
  have hba (r : Int → Bool) : opCmp ty r b a = false := opCmp_of_nan hfloat r (.inr hnan)
  refine ⟨?results, ?comparisons, ?_, ?_, ?_, ?_, ?_, ?_, fun t2 hint => ?toInt, ?toBool⟩
  case results =>
    simp [opAdd, opSub, opMul, opDiv, opNeg, opAbs, opMin, opMax, opSqrt, opRint, opLimit, hfloat, hnan, hq]
  case comparisons =>
    simp [opEq, opLt, opLe, opGt, opGe, hab, hba, ofBool]
  · simp [opNe, hab, ofBool]
  · simp [opNe, hba, ofBool]
  · simp [opIsnan, hnan, ofBool]
  · revert hfloat; cases ty <;> decide
  · revert hfloat; cases ty <;> decide
  · revert hfloat; cases ty <;> decide
  case toInt =>
    have hbool : t2 ≠ .bool := by rintro rfl; cases hint
    simp [opCvt, hbool, xFloat_of_xInt hint, hfloat, hnan, ofInt_zero]
  case toBool => simp [opCvt, hfloat, hnan, ofBool]

end Sys2Proof.Machine
end

section
/-! What the shared control operations leave: the fabric's outputs (R168, R173), a mode change (R121), FAULT-STOP (R129) and
module LOCKOUT (R179). -/

namespace Sys2Proof.Machine

/-! ### The fabric's outputs (R168, R173) -/

/-- Two states whose fabrics differ in what they command their groups alone. -/
def SameButCommands (s t : State) : Prop :=
  t.fab = { s.fab with keepalive := t.fab.keepalive, lowCmd := t.fab.lowCmd, highCmd := t.fab.highCmd }

theorem SameButCommands.trans {s t u : State} (h : SameButCommands s t) (k : SameButCommands t u) : SameButCommands s u := by
  unfold SameButCommands at *
  rw [k, h]

theorem driveGroup_sameButCommands (always : Bool) (g : Fin 8) (s : State) : SameButCommands s (driveGroup always g s) := by
  unfold SameButCommands driveGroup
  dsimp only
  split_ifs <;> rfl

theorem refresh_sameButCommands (s : State) : SameButCommands s (refresh s) := by
  have hfold (l : List (Fin 8)) (t : State) : SameButCommands t (l.foldl (fun q g => driveGroup false g q) t) := by
    induction l generalizing t with
    | nil => rfl
    | cons g l ih => exact (driveGroup_sameButCommands false g t).trans (ih _)
  exact SameButCommands.trans (s := s) (t := keepalives s) rfl (hfold groupNos _)

@[simp] theorem refresh_lockout (s : State) : (refresh s).fab.lockout = s.fab.lockout := by
  rw [refresh_sameButCommands s]

theorem only_of_refresh (s : State) : Only [.fab, .fio, .sent] s (refresh s) := only_refresh rfl _ (Only.refl _ s)

@[simp] theorem refresh_ctl (s : State) : (refresh s).ctl = s.ctl := (only_of_refresh s).ctl rfl rfl
@[simp] theorem refresh_rek (s : State) : (refresh s).rek = s.rek := (only_of_refresh s).rek rfl
@[simp] theorem refresh_cis (s : State) : (refresh s).cis = s.cis := (only_of_refresh s).cis rfl rfl

/-! ### A mode change (R121) -/

@[simp] theorem enterMode_lockout (m : Mode) (k : Nat) (s : State) : (enterMode m k s).fab.lockout = s.fab.lockout := by
  simp only [enterMode, raise_fab, dropStaged, endDebug]
  split_ifs <;> simp

/-! ### FAULT-STOP (R129) -/

theorem Mode.canFault_of_seals {m : Mode} (h : m.seals = true) : m.canFault = true := by
  revert h; cases m <;> decide

/-- FAULT-STOP abandons every release: the Reckoner's windows close (R59). -/
theorem faultStopWith_rek {d : Bool} {cause : Code} {s : State} (h : s.ctl.mode.canFault = true) :
    (faultStopWith d cause s).rek =
      { s.rek with windows := [], kept := [], stops := [], verdicts := [], splits := [], pourFailed := [] } := by
  unfold faultStopWith
  rw [if_pos h]
  extract_lets c s0 c0 s1 s2 s3
  have h0 : s0.rek = s.rek := by unfold s0; split <;> rfl
  have h1 : s1.rek = s0.rek := (only_enterMode (m0 := [.mode, .ctl, .fab, .records]) rfl _ _ _ (Only.refl _ _)).rek rfl
  have h2 : s2.rek = s1.rek := raise_rek _ _ _
  have h3 : s3.rek = (dropAll s2).rek :=
    (only_pairFaultStop (m0 := [.cis, .sent, .pair, .tel, .records]) rfl _ (only_sendStopNotice rfl _ (only_snapshot rfl _
      (Only.refl _ _)))).rek rfl
  have hend : s3.rek = { s.rek with windows := [], kept := [], stops := [], verdicts := [], splits := [], pourFailed := [] } := by
    rw [h3, ← h0, ← h1, ← h2]; rfl
  split
  · rw [← hend]; exact (only_warmReset (m0 := [.ctl, .lanes, .records]) rfl _ (Only.refl _ _)).rek rfl
  · rw [raise_rek, hend]

@[simp] theorem faultStopWith_lockout (d : Bool) (cause : Code) (s : State) :
    (faultStopWith d cause s).fab.lockout = s.fab.lockout := by
  unfold faultStopWith
  split
  · extract_lets c s0 c0 s1 s2 s3
    have h0 : s0.fab = s.fab := by unfold s0; split <;> rfl
    have h1 : s1.fab.lockout = s.fab.lockout := (enterMode_lockout _ _ _).trans (congrArg Fabric.lockout h0)
    have h3 : s3.fab = s2.fab :=
      (only_pairFaultStop (m0 := [.lanes, .rek, .cis, .sent, .pair, .tel, .records]) rfl _ (only_sendStopNotice rfl _
        (only_snapshot rfl _ (only_dropAll rfl _ (Only.refl _ _))))).fab rfl
    have h4 : s3.fab.lockout = s.fab.lockout := by rw [h3, raise_fab, h1]
    split
    · rw [(only_warmReset (m0 := [.ctl, .lanes, .records]) rfl s3 (Only.refl _ _)).fab rfl, h4]
    · rw [raise_fab, h4]
  · rfl

theorem faultStopWith_mem (d : Bool) (cause : Code) (s : State) : (faultStopWith d cause s).cis.mem = s.cis.mem :=
  (only_faultStopWith rfl _ _ _ (Only.refl [.mode, .ctl, .lanes, .rek, .cis, .fab, .tel, .pair, .records, .sent] s)).mem rfl

theorem faultStop_rek {cause : Code} {s : State} (h : s.ctl.mode.canFault = true) :
    (faultStop cause s).rek =
      { s.rek with windows := [], kept := [], stops := [], verdicts := [], splits := [], pourFailed := [] } :=
  faultStopWith_rek h

@[simp] theorem faultStop_lockout (cause : Code) (s : State) : (faultStop cause s).fab.lockout = s.fab.lockout :=
  faultStopWith_lockout _ _ _

theorem faultStop_mem (cause : Code) (s : State) : (faultStop cause s).cis.mem = s.cis.mem := faultStopWith_mem _ _ _

/-! ### Module LOCKOUT (R179) -/

/-- A module that is not locked out and runs enters FAULT-STOP with the cause FABRIC-LOCKOUT. -/
theorem lockout_of_clear {k : Nat} {s : State} (hclear : s.fab.lockout = 0) (hmode : s.ctl.mode.canFault = true) :
    (lockout k s).fab.lockout = k ∧ (lockout k s).ctl.mode = .faultStop ∧ (lockout k s).ctl.cause = evFabricLockout ∧
    (lockout k s).rek =
      { s.rek with windows := [], kept := [], stops := [], verdicts := [], splits := [], pourFailed := [] } ∧
    (lockout k s).cis.mem = s.cis.mem := by
  obtain ⟨u, hlock, hctl, hrek, hfab, hcis⟩ : ∃ u, lockout k s = faultStop evFabricLockout u ∧ u.ctl = s.ctl ∧
      u.rek = s.rek ∧ u.fab.lockout = k ∧ u.cis = s.cis :=
    ⟨_, if_neg (not_not_intro hclear), by simp, by simp, by simp, by simp⟩
  have hcan : u.ctl.mode.canFault = true := by rw [hctl]; exact hmode
  rw [hlock, faultStop_rek hcan, faultStop_mem, faultStop_lockout, hrek, hfab, hcis]
  exact ⟨rfl, (faultStop_ctl hcan).1, (faultStop_ctl hcan).2, rfl, rfl⟩

/-! ### What a command gives -/

theorem gives_next {p : State → Prop} {t : State} (h : p t) : Gives (.next t) p := ⟨t, rfl, h⟩

theorem Only.lane {l : List Part} {s t : State} (h : Only l s t) (h1 : l.contains .lanes = false) (ln : Lane) :
    t.lane ln = s.lane ln :=
  State.lane_of_eq (h.lanA h1) (h.lanB h1) (h.lanC h1) ln

theorem inLanes_of_lane {s t : State} (h : ∀ l, (t.lane l).state = (s.lane l).state) : t.inLanes = s.inLanes := by
  simp only [State.inLanes, h]

end Sys2Proof.Machine
end

section
/-! The vote windows (R40, R41, R56 to R59, R67). -/

namespace Sys2Proof.Machine

/-! ### The outcome table (R41) -/

/-- The judging lanes that delivered, as `voteOn` looks for two of them with one Tally. -/
theorem voteOn_of_none_delivered {j : List Lane} {got : Lane → Option Tally} (h : ∀ l ∈ j, got l = none) :
    voteOn j got = { outcome := .overrun, agree := [], tally := { p := 0, q := 0 } } := by
  have hempty : j.filter (fun l => (got l).isSome) = [] := by
    rw [List.filter_eq_nil_iff]
    intro l hl
    simp [h l hl]
  simp [voteOn, hempty]

theorem voteOn_of_unanimous {j : List Lane} {got : Lane → Option Tally} {v : Tally} (htwo : 2 ≤ j.length)
    (h : ∀ l ∈ j, got l = some v) : voteOn j got = { outcome := .unanimous, agree := j, tally := v } := by
  have hdelivered : j.filter (fun l => (got l).isSome) = j := by
    rw [List.filter_eq_self]
    intro l hl
    simp [h l hl]
  have hsame (l : Lane) (hl : l ∈ j) : j.filter (fun k => decide (got k = got l)) = j := by
    rw [List.filter_eq_self]
    intro k hk
    simp [h k hk, h l hl]
  obtain ⟨l, r, rfl⟩ : ∃ l r, j = l :: r := List.exists_cons_of_length_pos (by omega)
  have hfirst := hsame l List.mem_cons_self
  have hall : (l :: r).find? (fun k => !(l :: r).contains k) = none := by
    rw [List.find?_eq_none]
    intro k hk
    simpa [or_iff_not_imp_left] using hk
  have hfind : (l :: r).find? (fun k => decide (2 ≤ ((l :: r).filter (fun m => decide (got m = got k))).length)) = some l := by
    rw [List.find?_cons_of_pos]
    simp only [hfirst, decide_eq_true_eq]
    exact htwo
  simp only [voteOn, hdelivered, hfind, hfirst, hall, List.isEmpty_cons, Bool.false_eq_true, if_false]
  rw [h l List.mem_cons_self, Option.getD_some]

/-- Where no two judging lanes delivered one Tally, none of them finds a second. -/
theorem voteOn_outcome_of_distinct {j : List Lane} {got : Lane → Option Tally} (hnodup : j.Nodup)
    (hsome : ∃ l ∈ j, got l ≠ none) (hdistinct : ∀ l ∈ j, ∀ k ∈ j, got l ≠ none → got l = got k → l = k) :
    (voteOn j got).outcome = .split := by
  have hne : (j.filter (fun l => (got l).isSome)).isEmpty = false := by
    obtain ⟨l, hl, hgot⟩ := hsome
    rw [List.isEmpty_eq_false_iff_exists_mem]
    exact ⟨l, List.mem_filter.mpr ⟨hl, by simpa [Option.isSome_iff_ne_none] using hgot⟩⟩
  have hnone : (j.filter (fun l => (got l).isSome)).find? (fun l =>
      decide (2 ≤ ((j.filter (fun l => (got l).isSome)).filter (fun k => decide (got k = got l))).length)) = none := by
    rw [List.find?_eq_none]
    intro l hl
    obtain ⟨hmem, hdel⟩ := List.mem_filter.mp hl
    have hone : ∀ k ∈ (j.filter (fun l => (got l).isSome)).filter (fun k => decide (got k = got l)), k = l := by
      intro k hk
      obtain ⟨hk, heq⟩ := List.mem_filter.mp hk
      exact (hdistinct l hmem k (List.mem_filter.mp hk).1 (Option.isSome_iff_ne_none.mp hdel)
        (of_decide_eq_true heq).symm).symm
    have hnd := (hnodup.filter (fun l => (got l).isSome)).filter (fun k => decide (got k = got l))
    rw [List.eq_replicate_of_mem hone, List.nodup_replicate] at hnd
    simp only [decide_eq_true_eq]
    omega
  simp only [voteOn, hne, hnone, Bool.false_eq_true, if_false]

/-- Settles O17: one lemma for each way in which the Tallies can lie; with one dissenting or missing lane of three, the
lane decides the case. -/
theorem voteOutcomes : Obligations.VoteOutcomes := by
  intro j got v
  refine ⟨fun _ _ hall htwo => voteOn_of_unanimous htwo hall, fun x w hj _ hx hw hothers => ?majority,
    fun x hj _ hx hothers => ?late, fun hnodup hsome hdistinct => voteOn_outcome_of_distinct hnodup hsome hdistinct,
    fun hnone => by rw [voteOn_of_none_delivered hnone]⟩
  case majority =>
    subst hj
    have hother (l : Lane) (hl : l ≠ x) : got l = some v := hothers l (by cases l <;> decide) hl
    cases x <;> simp [voteOn, lanes, List.filter_cons, hx, hother, hw, Ne.symm hw]
  case late =>
    subst hj
    have hother (l : Lane) (hl : l ≠ x) : got l = some v := hothers l (by cases l <;> decide) hl
    cases x <;> simp [voteOn, lanes, List.filter_cons, hx, hother]

/-! ### A deadline whose windows are all UNANIMOUS (R41, R57) -/

/-- Two lanes that differ in their cores alone. -/
def LaneSt.sameButCores (l k : LaneSt) : Prop :=
  k = { l with core0 := k.core0, core1 := k.core1, core2 := k.core2, core3 := k.core3 }

theorem LaneSt.sameButCores.trans {a b c : LaneSt} (h : a.sameButCores b) (k : b.sameButCores c) : a.sameButCores c := by
  unfold LaneSt.sameButCores at *
  rw [k, h]

theorem setCore_sameButCores (s : State) (ln : Lane) (c : Fin 4) (k : Core) (l : Lane) :
    (s.lane l).sameButCores ((s.setCore ln c k).lane l) := by
  by_cases h : l = ln
  · subst h
    rw [State.setCore, State.setLane_lane]
    fin_cases c <;> rfl
  · rw [State.setCore, State.setLane_other h]
    rfl

/-- What the windows of a deadline are judged by: lanes but for their cores, and the Reckoner but for its stops. -/
structure SameForPolls (s t : State) : Prop where
  lane : ∀ l, (s.lane l).sameButCores (t.lane l)
  rek : t.rek = { s.rek with stops := t.rek.stops }
  ctl : t.ctl = s.ctl

theorem SameForPolls.refl (s : State) : SameForPolls s s := ⟨fun _ => rfl, rfl, rfl⟩

theorem SameForPolls.trans {s t u : State} (h : SameForPolls s t) (k : SameForPolls t u) : SameForPolls s u :=
  ⟨fun l => (h.lane l).trans (k.lane l), by rw [k.rek, h.rek], k.ctl.trans h.ctl⟩

theorem abandonLane_sameForPolls (b : Nat) (ln : Lane) (s : State) : SameForPolls s (abandonLane b ln s) := by
  have hfold (l : List (Fin 4)) (t : State) : SameForPolls t (l.foldl (fun q c => q.setCore ln c { q.core ln c with
      releases := (q.core ln c).releases.filter (fun r => b < r.closes) }) t) := by
    induction l generalizing t with
    | nil => exact SameForPolls.refl t
    | cons c l ih =>
      exact SameForPolls.trans ⟨setCore_sameButCores t ln c _, by simp, by simp⟩ (ih _)
  have hcores := hfold [0, 1, 2, 3] s
  have hstops (t : State) (x : List Stopped) : SameForPolls t { t with rek := { t.rek with stops := x } } :=
    ⟨fun l => by cases l <;> rfl, rfl, rfl⟩
  exact hcores.trans (hstops _ _)

theorem abandonLate_sameForPolls (b : Nat) (s : State) : SameForPolls s (abandonLate b s) := by
  unfold abandonLate
  generalize s.inLanes = ls
  induction ls generalizing s with
  | nil => exact SameForPolls.refl s
  | cons l ls ih => exact (abandonLane_sameForPolls b l s).trans (ih _)

theorem SameForPolls.inLanes {s t : State} (h : SameForPolls s t) : t.inLanes = s.inLanes :=
  inLanes_of_lane fun l => by rw [h.lane l]

theorem SameForPolls.poll {s t : State} (h : SameForPolls s t) (out : Option Lane) (w : Window) :
    t.poll out w = s.poll out w := by
  have hsince (l : Lane) : (t.lane l).inSince = (s.lane l).inSince := by rw [h.lane l]
  have hkept : t.rek.kept = s.rek.kept := by rw [h.rek]
  have hgot : t.delivered w = s.delivered w := by
    funext l
    rw [State.delivered, hkept, State.delivered]
  simp only [State.poll, State.judging, h.inLanes, hsince, hgot]

theorem SameForPolls.pollScrub {s t : State} (h : SameForPolls s t) (out : Option Lane) :
    t.pollScrub out = s.pollScrub out := by
  have hreported (l : Lane) : (t.lane l).reported = (s.lane l).reported := by rw [h.lane l]
  have hscrub (l : Lane) : (t.lane l).scrub = (s.lane l).scrub := by rw [h.lane l]
  simp only [State.pollScrub, h.inLanes, hreported, hscrub]

/-- Counting UNANIMOUS windows changes their counter alone. -/
theorem foldl_countOutcome_unanimous {polls : List Poll} (h : ∀ p ∈ polls, p.outcome = .unanimous) (r : Reckoner) :
    ∃ n, polls.foldl (fun r p => countOutcome p.outcome r) r = { r with unanimous := n } := by
  induction polls generalizing r with
  | nil => exact ⟨r.unanimous, rfl⟩
  | cons p ps ih =>
    obtain ⟨n, hn⟩ := ih (fun q hq => h q (List.mem_cons_of_mem p hq)) (countOutcome p.outcome r)
    refine ⟨n, ?_⟩
    rw [List.foldl_cons, hn, h p List.mem_cons_self]
    rfl

theorem foldl_windowEvent_unanimous {pairs : List (Window × Poll)} (h : ∀ e ∈ pairs, e.2.outcome = .unanimous) (s : State) :
    pairs.foldl (fun q e => windowEvent e.1 e.2.outcome q) s = s := by
  induction pairs generalizing s with
  | nil => rfl
  | cons e es ih =>
    rw [List.foldl_cons, h e List.mem_cons_self]
    exact ih (fun q hq => h q (List.mem_cons_of_mem e hq)) s

theorem faultSplits_rek (b : Nat) (s : State) : ∃ x, (faultSplits b s).rek = { s.rek with stops := x } := by
  unfold faultSplits
  extract_lets isSplit now s1
  have h1 : s1.rek = s.rek := (only_foldl (w := [.ctl, .records]) (fun q x hq => Only_ite (fun _ => hq)
    (fun _ => only_splitFault rfl _ _ _ _ hq)) (Only.refl _ s)).rek rfl
  exact ⟨_, congrArg (fun r : Reckoner => { r with stops := r.stops.filter (fun x => decide (b < x.closes) || isSplit x) }) h1⟩

theorem lanesCheck_of_two {s : State} (h : 2 ≤ s.inLanes.length) : lanesCheck s = s :=
  if_neg fun hfew => absurd hfew.1 (Nat.not_lt.mpr h)

/-- The verdict of an evaluated window (R42). -/
def verdictOf (e : Window × Poll) : Verdict :=
  { win := e.1, agree := rotation e.1.closes e.1.core.val e.2.agree, tally := e.2.tally }

/-- R41: windows that are all UNANIMOUS leave their verdicts to the pour and nothing else behind. -/
theorem decideWindows_of_unanimous {ws : List Window} {polls : List Poll} {scrub : Poll} {s : State} (n b : Nat)
    (hpolls : ∀ p ∈ polls, p.outcome = .unanimous) (hscrub : scrub.outcome = .unanimous) (htwo : 2 ≤ s.inLanes.length) :
    let t := decideWindows n b ws polls scrub none false s
    t.rek.pourDue = true ∧ t.rek.badVerdict = false ∧ t.ctl.mode = s.ctl.mode ∧ t.rek.selfTests = s.rek.selfTests ∧
    t.rek.scrubs = satAdd 64 s.rek.scrubs 1 ∧ t.rek.windows = s.rek.windows.filter (fun w => !ws.contains w) ∧
    t.rek.verdicts = s.rek.verdicts ++ (ws.zip polls).map verdictOf := by
  intro t
  have hpairs : ∀ e ∈ ws.zip polls, e.2.outcome = .unanimous := fun e he => hpolls e.2 (List.of_mem_zip he).2
  have hlost : (ws.zip polls).filter (fun e => decide (e.2.outcome = .overrun)) = [] :=
    List.filter_eq_nil_iff.mpr fun e he => by simp [hpairs e he]
  have hsplit : polls.any (fun p => decide (p.outcome = .split)) = false := by
    rw [List.any_eq_false]
    intro p hp
    simp [hpolls p hp]
  obtain ⟨k, hk⟩ := foldl_countOutcome_unanimous hpolls s.rek
  -- the state whose split tasks of the deadline turn FAULTED
  obtain ⟨u, hu⟩ : ∃ u, u = faultSplits b { s with rek := countScrub .unanimous { s.rek with unanimous := k } } := ⟨_, rfl⟩
  have honly : Only [.ctl, .rek, .records] s u := hu ▸ only_faultSplits rfl b _
    (Only_upd (d := [.rek]) rfl (Only.refl _ s) (Upd_rfl rfl))
  obtain ⟨x, hx⟩ := faultSplits_rek b { s with rek := countScrub .unanimous { s.rek with unanimous := k } }
  rw [← hu] at hx
  have hin : u.inLanes = s.inLanes := inLanes_of_lane fun l => by rw [honly.lane rfl]
  have ht : t = { u with rek := { u.rek with
      windows := u.rek.windows.filter (fun w => !ws.contains w)
      kept := u.rek.kept.filter (fun k => !ws.any (fun w => w.named k.core k.task k.cyc))
      verdicts := u.rek.verdicts ++ (ws.zip polls).map verdictOf, splits := u.splitHalves b (decide (u.ctl.mode = .hold))
      pourFailed := [], pourDue := true, badVerdict := false } } := by
    simp only [t, decideWindows, hk, hscrub, foldl_windowEvent_unanimous hpairs, raiseIf, hlost, hsplit, Outcome.bad,
      ne_eq, not_true_eq_false, decide_false, Bool.false_eq_true, or_self, if_false, List.map_nil, ← hu]
    exact lanesCheck_of_two (hin ▸ htwo)
  rw [ht]
  refine ⟨rfl, rfl, honly.mode rfl, ?_, ?_, ?_, ?_⟩ <;> simp only [hx] <;> rfl

theorem excludes_of_unanimous {p : Poll} (h : p.outcome = .unanimous) : p.outcome.excludes = none := by rw [h]; rfl

/-- R41, R57: a deadline outside HOLD whose windows and scrub are all UNANIMOUS. -/
theorem decideDeadline_of_unanimous {s : State} (hmode : s.ctl.mode ≠ .hold) (htwo : 2 ≤ s.inLanes.length)
    (hscrub : (s.pollScrub none).outcome = .unanimous)
    (hwins : ∀ w ∈ s.rek.windows, w.closes ≤ s.cycleNow + 1 → (s.poll none w).outcome = .unanimous) :
    let t := decideDeadline s
    t.rek.pourDue = true ∧ t.rek.badVerdict = false ∧ t.ctl.mode = s.ctl.mode ∧ t.rek.selfTests = s.rek.selfTests ∧
    t.rek.scrubs = satAdd 64 s.rek.scrubs 1 ∧
    t.rek.windows = s.rek.windows.filter (fun w => !decide (w.closes ≤ s.cycleNow + 1)) ∧
    t.rek.verdicts = s.rek.verdicts ++ (pourOrder (s.rek.windows.filter (fun w => w.closes ≤ s.cycleNow + 1))).map
      (fun w => verdictOf (w, s.poll none w)) := by
  intro t
  have hsame := abandonLate_sameForPolls (s.cycleNow + 1) s
  obtain ⟨u, hu⟩ : ∃ u, u = abandonLate (s.cycleNow + 1) s := ⟨_, rfl⟩
  rw [← hu] at hsame
  have hwindows : u.rek.windows = s.rek.windows := by rw [hsame.rek]
  obtain ⟨ws, hws⟩ : ∃ ws, ws = pourOrder (s.rek.windows.filter (fun w => w.closes ≤ s.cycleNow + 1)) := ⟨_, rfl⟩
  have hmem (w : Window) : w ∈ ws ↔ w ∈ s.rek.windows ∧ w.closes ≤ s.cycleNow + 1 := by
    rw [hws, pourOrder, List.mem_mergeSort, List.mem_filter, decide_eq_true_eq]
  have hpolls : ∀ p ∈ ws.map (fun w => s.poll none w), p.outcome = .unanimous := by
    intro p hp
    obtain ⟨w, hw, rfl⟩ := List.mem_map.mp hp
    exact hwins w ((hmem w).mp hw).1 ((hmem w).mp hw).2
  have hnone : ((((ws.map (fun w => s.poll none w)).map (·.outcome.excludes)) ++
      [(s.pollScrub none).outcome.excludes]).filterMap id).eraseDups = [] := by
    have hall : (((ws.map (fun w => s.poll none w)).map (·.outcome.excludes)) ++
        [(s.pollScrub none).outcome.excludes]).filterMap id = [] := by
      rw [List.filterMap_eq_nil_iff]
      intro o ho
      rcases List.mem_append.mp ho with ho | ho
      · obtain ⟨p, hp, rfl⟩ := List.mem_map.mp ho
        exact excludes_of_unanimous (hpolls p hp)
      · rw [List.mem_singleton.mp ho]
        exact excludes_of_unanimous hscrub
    rw [hall]; rfl
  have ht : t = decideWindows s.cycleNow (s.cycleNow + 1) ws (ws.map (fun w => s.poll none w)) (s.pollScrub none) none
      false u := by
    simp only [t, decideDeadline, decide_eq_false hmode, Bool.false_eq_true, if_false, ← hu, hwindows, ← hws,
      hsame.poll, hsame.pollScrub, hnone]
  have hzip : ws.zip (ws.map (fun w => s.poll none w)) = ws.map (fun w => (w, s.poll none w)) := by
    simpa using List.zip_map' (f := id) (g := fun w => s.poll none w) (l := ws)
  obtain ⟨h1, h2, h3, h4, h5, h6, h7⟩ := decideWindows_of_unanimous (ws := ws) s.cycleNow (s.cycleNow + 1) hpolls hscrub
    (hsame.inLanes ▸ htwo)
  rw [ht]
  refine ⟨h1, h2, h3.trans (by rw [hsame.ctl]), h4.trans (by rw [hsame.rek]), h5.trans (by rw [hsame.rek]), ?_, ?_⟩
  · rw [h6, hwindows]
    refine List.filter_congr fun w hw => ?_
    simp [hmem, hw]
  · rw [h7, hzip, List.map_map, hsame.rek, hws]; rfl

/-- R67: a UNANIMOUS window of HOLD is voted by itself. -/
theorem decideHold_of_unanimous {w : Window} {s : State} (htwo : 2 ≤ s.inLanes.length)
    (hpoll : (s.poll none w).outcome = .unanimous) :
    let t := decideHold w s
    t.ctl = s.ctl ∧ t.rek.windows = s.rek.windows.filter (fun v => v ≠ w) ∧
    t.rek.verdicts = s.rek.verdicts ++ [verdictOf (w, s.poll none w)] := by
  simp only [decideHold, hpoll, windowEvent, Outcome.excludes, Outcome.bad, Bool.false_eq_true, if_false]
  rw [lanesCheck_of_two (inLanes_of_lane (s := s) (fun l => by cases l <;> rfl) ▸ htwo)]
  exact ⟨rfl, rfl, rfl⟩

/-! ### A disagreement of the Reckoner (R56) -/

theorem reckonerDisagree_of_clear {s : State} (hclear : s.fab.lockout = 0) (hmode : s.ctl.mode.seals = true) :
    let t := reckonerDisagree s
    t.fab.lockout = 1 ∧ t.ctl.mode = .faultStop ∧ t.ctl.cause = evFabricLockout ∧
    t.rek = { s.rek with pourDue := false, windows := [], kept := [], stops := [], verdicts := [], splits := [], pourFailed := [] } ∧
    t.cis.mem = s.cis.mem := by
  obtain ⟨h1, h2, h3, h4, h5⟩ := lockout_of_clear (k := 1)
    (s := raiseFab evReckonerDisagree [] { s with rek := { s.rek with pourDue := false, verdicts := [], splits := [] } })
    (by simpa using hclear) (by simpa using Mode.canFault_of_seals hmode)
  exact ⟨h1, h2, h3, h4.trans (by simp), h5.trans (by simp)⟩

/-- Settles O19: a deadline whose windows are all UNANIMOUS is `decideDeadline_of_unanimous`, a disagreement is a LOCKOUT. -/
theorem votesComplete : Obligations.VotesComplete := by
  intro n s a
  refine ⟨fun ln core task cyc tally hwin hold => ⟨?kept, ?badCrc⟩, fun ln core task cyc tally ok hwin => ?noWindow,
    fun agree ok hseals hlate hpoured hdue hclear hno => ?disagree,
    fun hseals hhold hlate hpoured hdue htwo hscrub hwins => ?unanimous,
    fun hseals hlate hpoured hdue hclear => ?timeout, fun core task w hhold htwo hfind hpoll => ?hold⟩
  case kept =>
    rw [exec_tallyMessage, execTallyMessage]
    exact gives_next (by simp [hwin, hold])
  case badCrc =>
    rw [exec_tallyMessage, execTallyMessage]
    exact gives_next (by simp)
  case noWindow =>
    rw [exec_tallyMessage, execTallyMessage]
    exact gives_next (by simp [hwin])
  case disagree =>
    rw [exec_voteDeadline, execVoteDeadline]
    refine gives_next ?_
    rw [if_pos ⟨hseals, hlate, hpoured, hdue⟩]
    simp only [hno, Bool.false_eq_true, if_false]
    obtain ⟨h1, h2, h3, h4, h5⟩ := reckonerDisagree_of_clear
      (s := { a with rek := { a.rek with selfTests := satAdd 64 a.rek.selfTests 2 } }) hclear hseals
    rw [h4]
    exact ⟨h1, h2, h3, rfl, rfl, rfl, h5⟩
  case unanimous =>
    rw [exec_voteDeadline, execVoteDeadline]
    refine gives_next ?_
    rw [if_pos ⟨hseals, hlate, hpoured, hdue⟩]
    exact decideDeadline_of_unanimous (s := { a with rek := { a.rek with selfTests := satAdd 64 a.rek.selfTests 2 } })
      hhold htwo hscrub hwins
  case timeout =>
    rw [exec_verdictTimeout, execVerdictTimeout]
    refine gives_next ?_
    rw [if_pos ⟨hseals, hlate, hpoured, hdue⟩]
    obtain ⟨h1, h2, _, h4, h5⟩ := reckonerDisagree_of_clear (s := a) hclear hseals
    rw [h4]
    exact ⟨h1, h2, rfl, h5⟩
  case hold =>
    rw [exec_holdVote, execHoldVote]
    refine gives_next ?_
    rw [if_pos (show a.ctl.mode = .hold from hhold)]
    obtain ⟨h1, h2, h3⟩ := decideHold_of_unanimous (w := w) (s := a) htwo hpoll
    simp only [a] at hfind
    simp only [State.atTime_rek, hfind]
    exact ⟨(congrArg Ctl.mode h1).trans hhold, h2, h3⟩

end Sys2Proof.Machine
end

section
/-! The pour (R21, R44, R45, R59, R84, R92). -/

namespace Sys2Proof.Machine

/-! ### What a fold leaves -/

/-- A field that no step of a fold changes is as it was. -/
theorem foldl_field {σ α β : Type} (p : σ → β) {f : σ → α → σ} (h : ∀ s a, p (f s a) = p s) (l : List α) (s : σ) :
    p (l.foldl f s) = p s := by
  induction l generalizing s with
  | nil => rfl
  | cons a l ih => rw [List.foldl_cons, ih, h]

/-! ### T_b through the pour -/

theorem splitFault_tbCode (ln : Lane) (t : Fin 16) (cause : Code) (s : State) :
    (splitFault ln t cause s).ctl.tbCode = s.ctl.tbCode := by
  simp [splitFault, State.modTask]

theorem pourSplit_tbCode (recv : List PourCopy) (app : AppImage) (x : Lane × Fin 4 × Fin 16) (s : State) :
    (pourSplit recv app x s).1.ctl.tbCode = s.ctl.tbCode := by
  have hfail : (pourFail x.2.1 x.2.2 x.1 false s).ctl = s.ctl :=
    (only_pourFail (m0 := [.rek, .records]) rfl _ _ _ _ s (Only.refl _ s)).ctl rfl rfl
  unfold pourSplit
  split
  · rfl
  · extract_lets b q
    split
    · rw [splitFault_tbCode, hfail]
    · split
      · rfl
      · dsimp only
        rw [splitFault_tbCode, raiseLane_ctl]

theorem pourSplits_tbCode (recv : List PourCopy) (app : AppImage) (xs : List (Lane × Fin 4 × Fin 16)) (s : State) :
    (pourSplits recv app xs s).1.ctl.tbCode = s.ctl.tbCode := by
  induction xs generalizing s with
  | nil => rfl
  | cons x xs ih =>
    have hz := (ih (pourSplit recv app x s).1).trans (pourSplit_tbCode recv app x s)
    rw [pourSplits]
    split <;> exact hz

theorem settleSignal_tbCode (b : Nat) (ps : List Poured) (s : State) (d : Decided) :
    (settleSignal b ps s d).ctl.tbCode = s.ctl.tbCode := by
  unfold settleSignal
  extract_lets s1 c1 s2 s3
  have h1 : s1.ctl.tbCode = s.ctl.tbCode := by
    unfold s1 changeOnForced
    split
    · dsimp only
      split
      · rw [raise_ctl]
      · rfl
    · rfl
  have h2 : s2.ctl = s1.ctl := by unfold s2; split <;> rfl
  have h3 : s3.ctl = s2.ctl := foldl_field State.ctl (fun q o => raise_ctl _ _ _) _ _
  rw [← h1, ← h2, ← h3]

theorem commitAll_tbCode (b : Nat) (ps : List Poured) (takeHost : Bool) (faulted : List (Fin 16)) (s : State) :
    (commitAll b ps takeHost faulted s).ctl.tbCode = s.ctl.tbCode := by
  unfold commitAll
  extract_lets hosts inst ds ws s1
  have h1 : s1.ctl.tbCode = s.ctl.tbCode := by
    unfold s1 pushWrites
    rw [State.modLanes_ctl]
    exact foldl_field (fun q : State => q.ctl.tbCode) (settleSignal_tbCode b ps) ds s
  split <;> exact h1

theorem cycleNow_of_eq {s t : State} (hnow : t.time.now = s.time.now) (htb : t.ctl.tbCode = s.ctl.tbCode) :
    t.cycleNow = s.cycleNow := by
  simp only [State.cycleNow, State.tb, hnow, htb]

/-! ### The pour -/

/-- R44: what follows every complete pour. -/
theorem afterPour_fields (b : Nat) (ps : List Poured) (s : State) :
    let t := afterPour b ps s
    t.cis.poured = true ∧ t.cis.lastPour = s.cycleNow ∧ t.rek.pourDue = false ∧ t.rek.verdicts = [] ∧ t.rek.splits = [] ∧
    t.cis.mem = s.cis.mem ∧ t.ctl.mode = s.ctl.mode := by
  intro t
  unfold t afterPour
  extract_lets c1 r1 s1
  have h : Only [.tel, .pair, .sent] s1 (sendDelta ps (stageBuses b (sendRequest (sendOutputs (s1.modeFrom b) b s1)))) :=
    only_sendDelta rfl _ _ (only_stageBuses rfl _ _ (only_sendRequest rfl _ (only_sendOutputs rfl _ _ _ (Only.refl _ s1))))
  rw [h.cis rfl rfl, h.rek rfl, h.ctl rfl rfl]
  exact ⟨rfl, rfl, rfl, rfl, rfl, rfl, rfl⟩

theorem commitPour_fields (b : Nat) (recv : List PourCopy) (app : AppImage) (ps : List Poured) (s : State) :
    let t := commitPour b recv app ps s
    t.cis.poured = true ∧ t.cis.lastPour = s.cycleNow ∧ t.rek.pourDue = false ∧ t.rek.verdicts = [] ∧ t.rek.splits = [] ∧
    t.ctl.mode = s.ctl.mode := by
  intro t
  unfold t commitPour
  extract_lets q stopped alone subs all s1 s2 s3
  obtain ⟨h1, h2, h3, h4, h5, _, h7⟩ := afterPour_fields b all s3
  have honly : Only [.ctl, .lanes, .rek, .mem, .cis, .tel, .records] s s3 :=
    only_foldl (fun _ _ hq => only_State_modTask rfl _ _ _ hq) (only_foldl (fun _ _ hq => only_countPoured rfl _ _ hq)
      (only_countSubst rfl _ _ (only_freeHalves rfl _ _ _ (only_commitAll rfl _ _ _ _ _
        (only_pourSplits rfl _ _ _ _ (Only.refl _ s))))))
  have htb : s3.ctl.tbCode = s.ctl.tbCode := by
    have hf1 : s1.ctl.tbCode = s.ctl.tbCode := by
      have hfree := (only_freeHalves (m0 := [.lanes]) rfl s.rek.verdicts s.rek.splits _ (Only.refl _
        (commitAll b (all ++ subs) (q.1.ctl.mode ≠ .stop) (q.2.2 ++ stopped ++ alone) q.1))).ctl rfl rfl
      rw [show s1.ctl = _ from hfree, commitAll_tbCode]
      exact pourSplits_tbCode recv app _ s
    have hf2 : s2.ctl.tbCode = s1.ctl.tbCode :=
      foldl_field (fun q : State => q.ctl.tbCode) (f := countPoured) (fun _ _ => rfl) all (countSubst subs s1)
    have hf3 : s3.ctl.tbCode = s2.ctl.tbCode := by
      refine foldl_field (fun q : State => q.ctl.tbCode) ?_ alone s2
      intro q t
      rfl
    rw [hf3, hf2, hf1]
  exact ⟨h1, h2.trans (cycleNow_of_eq (honly.now rfl) htb), h3, h4, h5, h7.trans (honly.mode rfl)⟩

/-- R44, R59, R84: a pour that commits nothing leaves the memory as it was and the module in FAULT-STOP. -/
theorem pourNothing_fields {cause : Code} {s : State} (h : s.ctl.mode.canFault = true) :
    let t := pourNothing cause s
    t.cis.mem = s.cis.mem ∧ t.ctl.mode = .faultStop ∧ t.ctl.cause = cause ∧ t.rek.pourDue = false := by
  obtain ⟨u, hu, hctl, hmem, hdue⟩ : ∃ u, pourNothing cause s = faultStop cause u ∧ u.ctl = s.ctl ∧ u.cis.mem = s.cis.mem ∧
      u.rek.pourDue = false := ⟨_, rfl, rfl, rfl, rfl⟩
  have hcan : u.ctl.mode.canFault = true := by rw [hctl]; exact h
  intro t
  have ht : t = faultStop cause u := hu
  rw [ht, faultStop_rek hcan]
  exact ⟨(faultStop_mem _ _).trans hmem, (faultStop_ctl hcan).1, (faultStop_ctl hcan).2, hdue⟩

/-! ### Exclusion at the end of the window (R45) -/

@[simp] theorem raise_lane (c : Code) (d : Bytes) (s : State) (l : Lane) : (raise c d s).lane l = s.lane l :=
  State.lane_of_eq (by simp) (by simp) (by simp) l

theorem enterMode_lane (m : Mode) (k : Nat) (s : State) (l : Lane) : (enterMode m k s).lane l = s.lane l :=
  (only_enterMode (m0 := [.mode, .ctl, .fab, .records]) rfl _ _ _ (Only.refl _ s)).lane rfl l

theorem dropAll_lane (s : State) (l : Lane) : (dropAll s).lane l = { (s.lane l).dropReleases with halves := [] } := by
  cases l <;> rfl

theorem pairFaultStop_lane (s : State) (l : Lane) :
    (pairFaultStop (sendStopNotice (snapshot s))).lane l = s.lane l :=
  (only_pairFaultStop (m0 := [.cis, .sent, .pair, .tel, .records]) rfl _ (only_sendStopNotice rfl _ (only_snapshot rfl _
    (Only.refl _ s)))).lane rfl l

theorem warmReset_lane (s : State) (l : Lane) : (warmReset s).lane l =
    { s.lane l with standpipe := [], token := none, drunk := none, signalled := none, scrub := none } := by
  unfold warmReset
  rw [State.modLanes_lane, raise_lane]
  cases l <;> rfl

theorem faultStopWith_lane (d : Bool) (cause : Code) (s : State) (l : Lane) :
    ((faultStopWith d cause s).lane l).state = (s.lane l).state ∧ ((faultStopWith d cause s).lane l).cause = (s.lane l).cause := by
  unfold faultStopWith
  split
  · extract_lets c s0 c0 s1 s2 s3
    have h0 : s0.lane l = s.lane l := by unfold s0; split <;> cases l <;> rfl
    have h1 : s1.lane l = s0.lane l := (enterMode_lane _ _ _ l).trans (State.lane_of_eq rfl rfl rfl l)
    have h3 : s3.lane l = { (s.lane l).dropReleases with halves := [] } := by
      rw [← h0, ← h1, show s1.lane l = s2.lane l from (raise_lane _ _ s1 l).symm, ← dropAll_lane]
      exact pairFaultStop_lane _ l
    clear_value s3
    split
    · rw [warmReset_lane, h3]; exact ⟨rfl, rfl⟩
    · rw [raise_lane, h3]; exact ⟨rfl, rfl⟩
  · exact ⟨rfl, rfl⟩

/-- The state and the cause of a lane (0x2000). -/
def State.laneCause (s : State) (l : Lane) : LState × Code := ((s.lane l).state, (s.lane l).cause)

theorem pushWrites_laneCause (ws : List (Nat × Bytes)) (s : State) (l : Lane) :
    (pushWrites ws s).laneCause l = s.laneCause l := by
  cases l <;> simp only [State.laneCause, pushWrites, State.modLanes, State.lane] <;> split <;> rfl

theorem laneCause_of_eq {s t : State} (hA : t.lanA = s.lanA) (hB : t.lanB = s.lanB) (hC : t.lanC = s.lanC) (l : Lane) :
    t.laneCause l = s.laneCause l := by
  rw [State.laneCause, State.lane_of_eq hA hB hC l]; rfl

theorem Only.laneCause {d : List Part} {s t : State} (h : Only d s t) (h1 : d.contains .lanes = false) (l : Lane) :
    t.laneCause l = s.laneCause l :=
  laneCause_of_eq (h.lanA h1) (h.lanB h1) (h.lanC h1) l

theorem commitAll_laneCause (b : Nat) (ps : List Poured) (takeHost : Bool) (faulted : List (Fin 16)) (s : State) (l : Lane) :
    (commitAll b ps takeHost faulted s).laneCause l = s.laneCause l := by
  unfold commitAll
  extract_lets hosts inst ds ws s1
  have hsettle : (ds.foldl (settleSignal b ps) s).laneCause l = s.laneCause l :=
    (only_foldl (w := [.ctl, .cis, .records]) (fun _ _ hq => only_settleSignal rfl _ _ _ _ hq) (Only.refl _ s)).laneCause rfl l
  have h1 : s1.laneCause l = s.laneCause l := (pushWrites_laneCause ws _ l).trans hsettle
  rw [← h1]
  split
  · exact laneCause_of_eq rfl rfl rfl l
  · rfl

theorem safeOrphans_laneCause (b : Nat) (s : State) (l : Lane) : (safeOrphans b s).laneCause l = s.laneCause l := by
  unfold safeOrphans
  extract_lets alone s1
  split
  · rfl
  · have h1 : s1.laneCause l = s.laneCause l := by
      rw [← commitAll_laneCause b [] false alone s l]
      exact (only_foldl (w := [.ctl]) (fun _ _ hq => only_State_modTask rfl _ _ _ hq) (Only.refl _ _)).laneCause rfl l
    rw [← h1]
    exact (only_stageBuses (m0 := [.tel, .sent]) rfl _ _ (only_sendRequest rfl _ (only_sendOutputs rfl _ _ _
      (Only.refl _ s1)))).laneCause rfl l

theorem lanesCheck_laneCause (s : State) (l : Lane) : (lanesCheck s).laneCause l = s.laneCause l := by
  unfold lanesCheck
  split
  · have h := faultStopWith_lane false evLanesExhausted (raise evLanesExhausted [] s) l
    rw [raise_lane] at h
    exact Prod.ext h.1 h.2
  · rfl

theorem lanesCheck_pourFailed {s : State} (h : s.rek.pourFailed = []) : (lanesCheck s).rek.pourFailed = [] := by
  unfold lanesCheck
  split
  · next hfew => rw [faultStop_rek (by simpa using hfew.2)]
  · exact h

/-- One lane whose pour failed its check leaves IN (R45). -/
def excludeFailed (q : State) (l : Lane) : State :=
  if (q.lane l).state = .isIn then excludeLane l evPourCheckFail q else q

theorem excludeFailed_self {q : State} {l : Lane} (h : (q.lane l).state = .isIn) :
    (excludeFailed q l).laneCause l = (.excluded, evPourCheckFail) := by
  obtain ⟨hstate, hcause, _⟩ := excludeLane_lane l evPourCheckFail q
  rw [excludeFailed, if_pos h]
  exact Prod.ext hstate hcause

theorem excludeFailed_of_ne (q : State) {m l : Lane} (h : l ≠ m) : (excludeFailed q m).laneCause l = q.laneCause l := by
  unfold excludeFailed
  split
  · obtain ⟨hstate, hcause, _⟩ := (excludeLane_lane m evPourCheckFail q).2.2 l h
    exact Prod.ext hstate hcause
  · rfl

theorem excludeFailed_of_excluded {q : State} (m : Lane) {l : Lane} (h : q.laneCause l = (.excluded, evPourCheckFail)) :
    (excludeFailed q m).laneCause l = (.excluded, evPourCheckFail) := by
  by_cases hl : l = m
  · subst hl
    have hstate : (q.lane l).state = .excluded := congrArg Prod.fst h
    rw [excludeFailed, if_neg (by rw [hstate]; decide), h]
  · rw [excludeFailed_of_ne q hl, h]

theorem foldl_excludeFailed {ls : List Lane} {l : Lane} (q : State) (hl : l ∈ ls) (h : (q.lane l).state = .isIn) :
    (ls.foldl excludeFailed q).laneCause l = (.excluded, evPourCheckFail) := by
  have hkeep (ls : List Lane) (q : State) (h : q.laneCause l = (.excluded, evPourCheckFail)) :
      (ls.foldl excludeFailed q).laneCause l = (.excluded, evPourCheckFail) := by
    induction ls generalizing q with
    | nil => exact h
    | cons m ls ih => exact ih _ (excludeFailed_of_excluded m h)
  induction ls generalizing q with
  | nil => cases hl
  | cons m ls ih =>
    by_cases hlm : l = m
    · subst hlm
      exact hkeep ls _ (excludeFailed_self h)
    · have hin : ((excludeFailed q m).lane l).state = .isIn :=
        (congrArg Prod.fst (excludeFailed_of_ne q hlm)).trans h
      exact ih _ ((List.mem_cons.mp hl).resolve_left hlm) hin

/-- Settles O20: the fields of a complete pour, of one that commits nothing, and of the exclusions at the window's end. -/
theorem pourComplete : Obligations.PourComplete := by
  intro n s
  dsimp only
  refine ⟨fun recv ⟨hseals, hdue⟩ happ => ?noImage, fun recv app s1 ps ⟨hseals, hdue⟩ happ hpour hown => ?commits,
    fun recv app s1 ⟨hseals, hdue⟩ happ hpour => ?noPour, fun recv app s1 ps p w ⟨hseals, hdue⟩ happ hpour hp hw hnot => ?notOwned,
    fun hend => ?windowEnd, fun hseals hpoured hlate => ?late, fun hgrid hfault happ => ?snapshot⟩
  case noImage =>
    rw [exec_pour, execPour]
    refine gives_next ?_
    rw [if_pos ⟨hseals, hdue⟩]
    simp only [show (s.atTime n).app = none from happ]
    exact afterPour_fields _ _ (s.atTime n)
  case commits =>
    have honly : Only [.rek, .records] (s.atTime n) s1 := by
      have h := only_pourWindows (m0 := [.rek, .records]) rfl recv s.rek.verdicts (s.atTime n) (Only.refl _ (s.atTime n))
      rwa [hpour] at h
    have hnone : ps.findSome? (fun p => (p.writes.find? (fun w => !writeOwned app p.task w)).map (fun w => (p.task, w))) =
        none := by
      rw [List.findSome?_eq_none_iff]
      intro p hp
      rw [Option.map_eq_none_iff, List.find?_eq_none]
      intro w hw
      simp [hown p hp w hw]
    rw [exec_pour, execPour]
    refine gives_next ?_
    rw [if_pos ⟨hseals, hdue⟩]
    simp only [show (s.atTime n).app = some app from happ, show pourWindows recv (s.atTime n).rek.verdicts (s.atTime n) = _ from hpour,
      hnone]
    obtain ⟨h1, h2, h3, h4, h5, h6⟩ := commitPour_fields ((s.atTime n).cycleNow + 1) recv app ps s1
    exact ⟨h1, h2.trans (cycleNow_of_eq (honly.now rfl) (congrArg Ctl.tbCode (honly.ctl rfl rfl))), h3, h4, h5,
      h6.trans (honly.mode rfl)⟩
  case noPour =>
    have honly : Only [.rek, .records] (s.atTime n) s1 := by
      have h := only_pourWindows (m0 := [.rek, .records]) rfl recv s.rek.verdicts (s.atTime n) (Only.refl _ (s.atTime n))
      rwa [hpour] at h
    have hcan : s1.ctl.mode.canFault = true := by rw [honly.mode rfl]; exact Mode.canFault_of_seals hseals
    rw [exec_pour, execPour]
    refine gives_next ?_
    rw [if_pos ⟨hseals, hdue⟩]
    simp only [show (s.atTime n).app = some app from happ, show pourWindows recv (s.atTime n).rek.verdicts (s.atTime n) = _ from hpour]
    obtain ⟨h1, h2⟩ := pourNothing_fields (cause := evPourCheckFail) hcan
    exact ⟨h1.trans (honly.mem rfl), h2⟩
  case notOwned =>
    have honly : Only [.rek, .records] (s.atTime n) s1 := by
      have h := only_pourWindows (m0 := [.rek, .records]) rfl recv s.rek.verdicts (s.atTime n) (Only.refl _ (s.atTime n))
      rwa [hpour] at h
    obtain ⟨⟨tk, x⟩, hsome⟩ : ∃ y, ps.findSome? (fun p => (p.writes.find? (fun w => !writeOwned app p.task w)).map
        (fun w => (p.task, w))) = some y := by
      rw [← Option.isSome_iff_exists, List.findSome?_isSome_iff]
      refine ⟨p, hp, ?_⟩
      rw [Option.isSome_map, List.find?_isSome]
      exact ⟨w, hw, by simp [hnot]⟩
    rw [exec_pour, execPour]
    refine gives_next ?_
    rw [if_pos ⟨hseals, hdue⟩]
    simp only [show (s.atTime n).app = some app from happ, show pourWindows recv (s.atTime n).rek.verdicts (s.atTime n) = _ from hpour,
      hsome]
    have hcan : (raise evWriteNotOwned (BitVec.ofNat 8 tk.val :: 0xFF :: d32 x.target) s1).ctl.mode.canFault = true := by
      rw [raise_ctl, honly.mode rfl]; exact Mode.canFault_of_seals hseals
    obtain ⟨h1, h2⟩ := pourNothing_fields (cause := evWriteNotOwned) hcan
    exact ⟨h1.trans (by rw [raise_cis, honly.mem rfl]; rfl), h2⟩
  case windowEnd =>
    rw [exec_pourWindowEnd, execPourWindowEnd]
    refine gives_next ?_
    rw [if_pos hend]
    extract_lets s1 r1 s2
    have hfailed : (if (s.atTime n).rek.pourFailed = [] then s2 else safeOrphans (s2.cycleNow + 1) s2).rek.pourFailed = [] := by
      split
      · rfl
      · rw [(only_safeOrphans (m0 := [.ctl, .lanes, .mem, .cis, .tel, .records, .sent]) rfl _ _ (Only.refl _ s2)).rek rfl]
    refine ⟨lanesCheck_pourFailed hfailed, fun l hl hin => ?_⟩
    have h1 : s1.laneCause l = (.excluded, evPourCheckFail) := foldl_excludeFailed (s.atTime n) hl (by cases l <;> exact hin)
    have h2 : s2.laneCause l = (.excluded, evPourCheckFail) := (laneCause_of_eq rfl rfl rfl l).trans h1
    have h3 : (lanesCheck (if (s.atTime n).rek.pourFailed = [] then s2 else safeOrphans (s2.cycleNow + 1) s2)).laneCause l =
        (.excluded, evPourCheckFail) := by
      rw [lanesCheck_laneCause]
      split
      · exact h2
      · rw [safeOrphans_laneCause, h2]
    exact ⟨congrArg Prod.fst h3, congrArg Prod.snd h3⟩
  case late =>
    rw [exec_pourLate, execPourLate]
    refine gives_next ?_
    rw [if_pos ⟨hseals, hpoured, hlate⟩]
    have hcan : (raise evPourLate [] (s.atTime n)).ctl.mode.canFault = true := by
      rw [raise_ctl]; exact Mode.canFault_of_seals hseals
    obtain ⟨h1, h2⟩ := pourNothing_fields (cause := evPourLate) hcan
    exact ⟨h1.trans (by rw [raise_cis]; rfl), h2⟩
  case snapshot =>
    rw [exec_retainedSnapshot, execRetainedSnapshot]
    refine gives_next ?_
    rw [if_pos hgrid]
    have hkeep : ((s.atTime n).rcd.fault || (s.atTime n).app.isNone) = false := by
      rw [show (s.atTime n).rcd.fault = false from hfault, Bool.false_or]
      exact Option.isNone_eq_false_iff.mpr (Option.isSome_iff_ne_none.mpr happ)
    simp only [snapshot, hkeep, Bool.false_eq_true, if_false]
    cases hturn : s.cis.retNextB
    · simp [hturn]
      exact ⟨rfl, rfl⟩
    · simp [hturn]
      exact ⟨rfl, rfl⟩

end Sys2Proof.Machine
end


section
/-! The staged start, the supply (O22): the stages of R362 and R366, and the interruptions of X1 (R367 to R373, R376). -/

namespace Sys2Proof.Machine

/-! ### What a mode change leaves of the control part (R121) -/

/-- A mode change touches the mode, the entry cycle and the debugger's state. -/
theorem enterMode_ctl (m : Mode) (k : Nat) (s : State) : ∃ d b r g, (enterMode m k s).ctl =
    { s.ctl with mode := m, entryCycle := s.cycleNow, debugger := d, breakpoints := b, debugRun := r, debugLog := g } := by
  unfold enterMode
  extract_lets old s0 s1 c1 s2 c2 s3
  have h0 : s0.ctl = s.ctl ∧ s0.time = s.time := by
    unfold s0 dropStaged; split_ifs <;> simp
  obtain ⟨hctl, htime⟩ := h0
  have hnow : s2.cycleNow = s.cycleNow := by
    refine cycleNow_of_eq (congrArg TimeBase.now ?_) ?_
    · rw [← htime]; unfold s2 c1 s1 endDebug; split_ifs <;> rfl
    · rw [← hctl]; unfold s2 c1 s1 endDebug; split_ifs <;> rfl
  refine ⟨s2.ctl.debugger, s2.ctl.breakpoints, s2.ctl.debugRun, s2.ctl.debugLog, ?_⟩
  have h3 : s3.ctl = { s2.ctl with mode := m, entryCycle := s2.cycleNow } := rfl
  have h2 : s2.ctl = { s0.ctl with
      debugger := s2.ctl.debugger, breakpoints := s2.ctl.breakpoints, debugRun := s2.ctl.debugRun, debugLog := s2.ctl.debugLog } := by
    unfold s2 c1 s1 endDebug; split_ifs <;> rfl
  rw [raise_ctl, h3, h2, hnow, hctl]

theorem enterMode_stage (m : Mode) (k : Nat) (s : State) : (enterMode m k s).ctl.stage = s.ctl.stage := by
  obtain ⟨d, b, r, g, h⟩ := enterMode_ctl m k s
  rw [h]

theorem enterMode_map (m : Mode) (k : Nat) (s : State) : (enterMode m k s).fab.map = s.fab.map := by
  simp only [enterMode, raise_fab, dropStaged, endDebug]
  split_ifs <;> simp

/-! ### The map of stage 0 (R155, R162) -/

theorem enterTripped_map (i : Nat) (m : MapInst) (c : BitVec 8) (s : State) : (enterTripped i m c s).fab.map = s.fab.map := by
  simp [enterTripped, State.modInst]

theorem checkBindings_map (s : State) : (checkBindings s).fab.map = s.fab.map := by
  unfold checkBindings
  extract_lets bad f1 s1
  rw [foldl_field (p := fun q => q.fab.map) (fun q i => by split <;> simp) (List.range 16) s1]

theorem activateMap_map (b : Bytes) (s : State) : (activateMap b s).fab.map = some (b, readMap b) := by
  unfold activateMap
  extract_lets m e0 off f1 s1 s2
  rw [checkBindings_map, foldl_field (p := fun q => q.fab.map) (fun q i => by split <;> simp [enterTripped_map]) (List.range 16) s1,
    (only_sendRoles (m0 := [.fio]) rfl _ (Only.refl _ _)).fab rfl]

/-! ### The network part of stage 3 -/

theorem clearGuard_running (i : Nat) (s : State) : (clearGuard i s).sw.running = s.sw.running := by
  unfold clearGuard
  split <;> simp

theorem activateMatrix_running (s : State) : (activateMatrix s).sw.running = s.sw.running := by
  unfold activateMatrix
  extract_lets w0 s0 w1 s1 x r d w2
  split_ifs
  · rw [clearGuard_running]
  · rw [raise_sw, clearGuard_running]
  · rw [raise_sw]

theorem startNetwork_running (s : State) : (startNetwork s).sw.running = true ∧ (startNetwork s).od.running = true := by
  unfold startNetwork
  extract_lets w0 s1 w1 o1 s2 s3 t3 s4 can s5
  have h1 : s1.sw.running = true := activateMatrix_running _
  have hcan (q : State) (b : Fin 2) : (can q b).sw = q.sw ∧ (can q b).od = q.od := by
    unfold can; split
    · have h := only_setCan (m0 := [.tel, .bri]) rfl b 0 q (Only.refl _ q)
      exact ⟨h.sw rfl, h.od rfl⟩
    · exact ⟨rfl, rfl⟩
  have h3 : Only [.time] s2 s3 := only_startSlot rfl _ _ (only_startSlot rfl _ _ (Only.refl _ s2))
  have h5 : s5.sw = s2.sw ∧ s5.od = s2.od :=
    ⟨((hcan _ _).1.trans (hcan _ _).1).trans (h3.sw rfl), ((hcan _ _).2.trans (hcan _ _).2).trans (h3.od rfl)⟩
  rw [raiseIf_sw, raiseIf_od, h5.1, h5.2]
  exact ⟨h1, rfl⟩

theorem startStop_mode_stage (s : State) : (startStop s).ctl.mode = .stop ∧ (startStop s).ctl.stage = 4 := by
  simp [startStop, startComplete, endStage]

theorem only_of_startNetwork (s : State) : Only [.time, .sw, .tel, .bri, .od, .records] s (startNetwork s) :=
  only_startNetwork rfl _ (Only.refl _ s)

@[simp] theorem endStage_mode (k : Nat) (s : State) : (endStage k s).ctl.mode = s.ctl.mode := rfl
@[simp] theorem endStage_stage (k : Nat) (s : State) : (endStage k s).ctl.stage = k + 1 := rfl

/-- A module without an application image stops at the end of its start. -/
theorem startMode_of_no_app {s : State} (h : s.app = none) : startMode s = startStop s := by
  unfold startMode
  rw [if_pos (by simp [h])]

theorem lanesIn_state (s : State) (l : Lane) : ((lanesIn s).lane l).state = .isIn := by cases l <;> rfl

/-- A module that was OFF starts with the fabric alone, an empty Cistern and its nonvolatile memories. -/
theorem powerUp_fields (s : State) :
    (powerUp s).ctl.mode = .fabricOnly ∧ (powerUp s).ctl.stage = 0 ∧ (powerUp s).time.now = 0 ∧ (powerUp s).fab.powered = true ∧
    (powerUp s).cis.mem = [] ∧ (powerUp s).fab.copyA = s.fab.copyA ∧ (powerUp s).fab.copyB = s.fab.copyB ∧
    (powerUp s).fab.rollback = s.fab.rollback ∧ (powerUp s).cis.retA = s.cis.retA ∧ (powerUp s).cis.retB = s.cis.retB ∧
    (powerUp s).sent = s.sent := by
  unfold powerUp
  extract_lets s0 f1 g1 u1 s1
  have h := only_enterMode (m0 := [.mode, .ctl, .fab, .records]) rfl .fabricOnly 0 _ (Only.refl _ s1)
  have hfab : (enterMode .fabricOnly 0 s1).fab = s1.fab := by
    simp only [enterMode, raise_fab, endDebug]
    rfl
  rw [enterMode_mode, enterMode_stage, hfab, h.cis rfl rfl, h.now rfl, h.sent rfl]
  exact ⟨rfl, rfl, rfl, rfl, rfl, rfl, rfl, rfl, rfl, rfl, rfl⟩

theorem only_of_resumeTrial (s : State) : Only [.upd, .records] s (resumeTrial s) := only_resumeTrial rfl _ (Only.refl _ s)

@[simp] theorem resumeTrial_ctl (s : State) : (resumeTrial s).ctl = s.ctl := (only_of_resumeTrial s).ctl rfl rfl
@[simp] theorem resumeTrial_fab (s : State) : (resumeTrial s).fab = s.fab := (only_of_resumeTrial s).fab rfl
@[simp] theorem resumeTrial_time (s : State) : (resumeTrial s).time = s.time := (only_of_resumeTrial s).time rfl rfl
@[simp] theorem refresh_time (s : State) : (refresh s).time = s.time := (only_of_refresh s).time rfl rfl
@[simp] theorem refresh_map (s : State) : (refresh s).fab.map = s.fab.map := by rw [refresh_sameButCommands s]

/-- Stage 0 takes a valid map copy: BOOT, stage 1, and the map of that copy is active. -/
theorem enterBoot_fields (c : MapCopy) (second : Bool) (s : State) :
    let t := enterMode .boot 0 (endStage 0 (activateMap (copyBytes c) (repairCopy c second s)))
    t.ctl.mode = .boot ∧ t.ctl.stage = 1 ∧ t.fab.map = some (copyBytes c, readMap (copyBytes c)) ∧ t.time = s.time := by
  have h : Only [.mode, .ctl, .fab, .fio, .records] s
      (enterMode .boot 0 (endStage 0 (activateMap (copyBytes c) (repairCopy c second s)))) :=
    only_enterMode rfl _ _ _ (only_endStage rfl _ _ (only_activateMap rfl _ _ (only_repairCopy rfl _ _ _ (Only.refl _ s))))
  exact ⟨enterMode_mode _ _ _, enterMode_stage _ _ _, (enterMode_map _ _ _).trans (activateMap_map _ _), h.time rfl rfl⟩

/-- Settles O22: each stage, and each supply command, by its own equation and what its parts leave. -/
theorem startAndSupply : Obligations.StartAndSupply := by
  refine ⟨?starts, ?supply⟩
  case starts =>
    intro n s
    dsimp only
    refine ⟨fun hoff => ?on, fun c second hmode hchosen hupd => ?stage0, fun straps hmode hstage hgroups => ?stage1,
      fun tables hmode hstage hwarm hnone => ?stage2, fun hmode hstage hwarm hpend hrun hpair happ => ?stage3,
      fun hmode hstage hrun => ?stopped, fun k hk hmode hstage hwarm hlate => ?timeout⟩
    case on =>
      rw [exec_supplyOn, execSupplyOn]
      refine gives_next ?_
      rw [if_pos hoff]
      exact powerUp_fields s
    case stage0 =>
      rw [exec_stage0Complete, execStage0Complete]
      refine gives_next ?_
      simp only [State.atTime_ctl, State.atTime_fab, hmode, hchosen, if_true]
      obtain ⟨hm, hs, hmap, ht⟩ := enterBoot_fields c second (s.atTime n)
      rw [resumeTrial_ctl, resumeTrial_fab, resumeTrial_time, refresh_ctl, refresh_map, refresh_time]
      exact ⟨hm, hs, hmap, ht⟩
    case stage1 =>
      rw [exec_stage1Complete, execStage1Complete]
      refine gives_next ?_
      have hall : ((s.atTime n).fio.groups.all (·.everSeen) ||
          decide ((s.atTime n).ctl.startAt + 250000000 ≤ (s.atTime n).time.now)) = true := by
        rw [Bool.or_eq_true, decide_eq_true_eq]; exact hgroups
      rw [if_pos ⟨hmode, hstage, hall⟩, endStage_mode, endStage_stage]
      have h := only_commonsBoot (m0 := [.time, .ctl, .fio, .pair, .od, .records, .sent, .free]) rfl straps (s.atTime n) (Only.refl _ _)
      exact ⟨(h.mode rfl).trans hmode, rfl⟩
    case stage2 =>
      rw [exec_stage2Complete, execStage2Complete]
      refine gives_next ?_
      rw [if_pos ⟨hmode, hstage, hwarm⟩]
      simp only [show (s.atTime n).loaded (s.atTime n).slotBytes = none from hnone]
      have h : Only [.ctl, .tel, .records] (lanesIn (s.atTime n)) (endStage 2 (setStagger none (applyBindings none (lanesIn (s.atTime n))))) :=
        only_endStage rfl _ _ (only_setStagger rfl _ _ (only_applyBindings rfl _ _ (Only.refl _ _)))
      refine ⟨(h.mode rfl).trans hmode, endStage_stage _ _, fun l => ?_⟩
      rw [h.lane rfl]
      exact lanesIn_state (s.atTime n) l
    case stage3 =>
      rw [exec_stage3Complete, execStage3Complete]
      refine gives_next ?_
      rw [if_pos ⟨hmode, hstage, hwarm, hpend⟩]
      simp only [show (s.atTime n).sw.running = true from hrun, if_true, show (s.atTime n).pair.inPair = false from hpair,
        Bool.false_and, Bool.false_eq_true, if_false]
      rw [startMode_of_no_app (show (s.atTime n).app = none from happ)]
      exact startStop_mode_stage (s.atTime n)
    case stopped =>
      rw [exec_stage3Complete, execStage3Complete]
      refine gives_next ?_
      rw [if_neg (fun h => by rw [show (s.atTime n).ctl.mode = .faultStop from hmode] at h; exact absurd h.1 (by decide)),
        if_pos ⟨hmode, hstage⟩]
      simp only [show (s.atTime n).sw.running = false from hrun, Bool.false_eq_true, if_false]
      exact ⟨((only_of_startNetwork (s.atTime n)).mode rfl).trans hmode, startNetwork_running (s.atTime n)⟩
    case timeout =>
      rw [exec_stageTimeout, execStageTimeout]
      refine gives_next ?_
      have hk0 : k ≠ 0 := fun h => by rw [h] at hk; exact absurd hk (by decide)
      simp only [State.atTime_ctl, hstage, hwarm, hlate, hmode, hk0, and_self, if_true, if_false]
      exact faultStop_ctl (by rw [raise_ctl]; exact congrArg Mode.canFault hmode)
  case supply =>
    intro n s
    dsimp only
    refine ⟨fun hmode hstore => ?interruption, fun hstore hex => ?exhausted, fun disturbed below gs hstore hex => ?back,
      fun x1 hmode hstage => ?measured, fun x hex hlate => ?reserve, fun hpow hwhy => ?led, fun hmode hwarm => ?ecc⟩
    case interruption =>
      rw [exec_supplyInterruption, execSupplyInterruption]
      refine gives_next ?_
      simp [hmode, hstore]
    case exhausted =>
      rw [exec_storeExhausted, execStoreExhausted]
      refine gives_next ?_
      simp [hstore, hex]
    case back =>
      rw [exec_supplyReturn, execSupplyReturn]
      refine gives_next ?_
      simp only [State.atTime_ctl, hstore, hex, Option.isNone_none, if_true]
      exact ⟨trivial, Upd_of rfl rfl rfl (by
        intro p
        cases p
        case time => exact .inr rfl
        all_goals simp [Part.same])⟩
    case measured =>
      rw [exec_supplyMeasurement, execSupplyMeasurement]
      refine gives_next ?_
      simp [hmode, hstage]
    case reserve =>
      rw [exec_fabricReserveExhausted, execFabricReserveExhausted]
      refine gives_next ?_
      simp only [State.atTime_ctl, hex, hlate, if_true]
      exact ⟨rfl, rfl, rfl, rfl, rfl, rfl, rfl, rfl, rfl⟩
    case led =>
      rw [exec_ledFallback, execLedFallback]
      refine gives_next ?_
      rw [if_pos ⟨hpow, hwhy⟩]
      rfl
    case ecc =>
      rw [exec_cisternEccError, execCisternEccError]
      refine gives_next ?_
      rw [if_pos ⟨hmode, hwarm⟩]
      exact faultStop_ctl (by rw [raise_ctl]; exact congrArg Mode.canFault hmode)

end Sys2Proof.Machine
end


section
/-! The image, the release tokens and the drink (O23: R33, R73, R76 to R79, R20), and the states of a lane (O24: R48, R50,
R51, R450). -/

namespace Sys2Proof.Machine

/-! ### One lane of a state -/

theorem State.modLane_other {s : State} {ln m : Lane} {f : LaneSt → LaneSt} (h : m ≠ ln) : (s.modLane ln f).lane m = s.lane m :=
  State.setLane_other h

@[simp] theorem State.atTime_lane (s : State) (n : Nat) (l : Lane) : (s.atTime n).lane l = s.lane l := by cases l <;> rfl

theorem reportCause_self {ln : Lane} {cause : Code} {s : State} (h : (s.lane ln).state = .isIn) :
    (reportCause ln cause s).lane ln = { s.lane ln with reported := some ((s.lane ln).reported.getD cause) } := by
  rw [reportCause, State.modLane_lane, if_pos h]

theorem reportCause_other {ln m : Lane} (cause : Code) (s : State) (h : m ≠ ln) :
    (reportCause ln cause s).lane m = s.lane m := State.modLane_other h

/-- Reporting a cause leaves everything else of its lane. -/
theorem reportCause_report (ln : Lane) (cause : Code) (s : State) :
    ∃ x, (reportCause ln cause s).lane ln = { s.lane ln with reported := x } := by
  rw [reportCause, State.modLane_lane]
  split
  · exact ⟨_, rfl⟩
  · exact ⟨_, rfl⟩

theorem LaneSt.setCore_sameButCores (l : LaneSt) (c : Fin 4) (k : Core) : l.sameButCores (l.setCore c k) := by
  fin_cases c <;> rfl

/-! ### Sealing (R73, R77) -/

theorem openVotes_ctl (n : Nat) (s : State) : (openVotes n s).ctl = s.ctl :=
  (only_openVotes (m0 := [.rek]) rfl n s (Only.refl _ s)).ctl rfl rfl

/-- A delivered image is the sealed one of its boundary, from now on. -/
theorem deliver_ctl (img : Image) (s : State) :
    (deliver img s).ctl.sealed = some img ∧ (deliver img s).ctl.sealAt = s.time.now ∧ (deliver img s).ctl.imageReady = true ∧
    (deliver img s).ctl.ownImage = s.ctl.ownImage := by
  unfold deliver
  extract_lets hold lost s1 c1 s2
  have hctl : (if lost ≠ 0 ∧ lost = s.inLanes.length then s2 else openVotes img.cycle s2).ctl = s2.ctl := by
    split
    · rfl
    · exact openVotes_ctl _ _
  rw [hctl]
  exact ⟨rfl, rfl, rfl, by simp [s2, c1, s1]⟩

theorem forwardImage_ctl (img : Image) (s : State) : (forwardImage img s).ctl = s.ctl :=
  (only_forwardImage (m0 := [.pair, .sent]) rfl img s (Only.refl _ s)).ctl rfl rfl

/-! ### Drinking (R76, R79) -/

/-- Releasing tasks touches the cores of its lane alone. -/
theorem releaseTasks_self (ln : Lane) (n : Nat) (img : Bytes) (ctx : SealCtx) (s : State) :
    (s.lane ln).sameButCores ((releaseTasks ln n img ctx s).lane ln) := by
  have hfold (app : AppImage) (prio : Fin 16 → Nat) (ds : List TaskDef) (l : LaneSt) : l.sameButCores (ds.foldl (fun l d =>
      l.setCore d.core { l.core d.core with
        releases := insertRelease prio (newRelease app d n img ctx l) (l.core d.core).releases }) l) := by
    induction ds generalizing l with
    | nil => rfl
    | cons d ds ih => exact (LaneSt.setCore_sameButCores l d.core _).trans (ih _)
  unfold releaseTasks
  split
  · rfl
  · split
    · rw [State.modLane_lane]; exact hfold _ _ _ _
    · rfl

theorem releaseTasks_other {ln m : Lane} (n : Nat) (img : Bytes) (ctx : SealCtx) (s : State) (h : m ≠ ln) :
    (releaseTasks ln n img ctx s).lane m = s.lane m := by
  unfold releaseTasks
  split
  · rfl
  · split
    · exact State.modLane_other h
    · rfl

theorem laneComplete_lane (ln : Lane) (ctx : SealCtx) (img : Bytes) (s : State) (l : Lane) :
    (laneComplete ln ctx img s).1.lane l = s.lane l :=
  (only_laneComplete (m0 := [.tel, .records]) rfl ln ctx img s (Only.refl _ s)).lane rfl l

/-- The lane as it has drunk an image, but for what it reports. -/
def LaneSt.hasDrunk (img : Image) (rest : List Image) (now : Nat) (l : LaneSt) : Prop :=
  l.token = none ∧ l.drunk = some img.cycle ∧ l.signalled = some now ∧ l.standpipe = rest

theorem LaneSt.hasDrunk_reported {img : Image} {rest : List Image} {now : Nat} {l : LaneSt} {x : Option Code}
    (h : l.hasDrunk img rest now) : ({ l with reported := x } : LaneSt).hasDrunk img rest now := h

theorem LaneSt.hasDrunk_sameButCores {img : Image} {rest : List Image} {now : Nat} {l k : LaneSt}
    (h : l.hasDrunk img rest now) (hk : l.sameButCores k) : k.hasDrunk img rest now := by
  rw [hk]; exact h

theorem drink_self (ln : Lane) (recv : Option Bytes) (ok gap : Bool) (rest : List Image) (img : Image) (s : State) :
    ((drink ln recv ok gap rest img s).lane ln).hasDrunk img rest s.time.now := by
  unfold drink
  extract_lets bytes s1 s2 r
  have h1 : (s1.lane ln).hasDrunk img rest s.time.now := by
    unfold s1; rw [State.modLane_lane]; exact ⟨rfl, rfl, rfl, rfl⟩
  split
  · obtain ⟨x, hx⟩ := reportCause_report ln evLaneInputFail s1
    rw [hx]; exact LaneSt.hasDrunk_reported h1
  · have h2 : (s2.lane ln).hasDrunk img rest s.time.now := by
      unfold s2
      split
      · obtain ⟨x, hx⟩ := reportCause_report ln evLaneImageGap s1
        rw [hx]; exact LaneSt.hasDrunk_reported h1
      · exact h1
    refine LaneSt.hasDrunk_sameButCores ?_ (releaseTasks_self _ _ _ _ _)
    rw [laneComplete_lane]
    exact h2

theorem drink_other {ln m : Lane} (recv : Option Bytes) (ok gap : Bool) (rest : List Image) (img : Image) (s : State)
    (h : m ≠ ln) : (drink ln recv ok gap rest img s).lane m = s.lane m := by
  unfold drink
  extract_lets bytes s1 s2 r
  have h1 : s1.lane m = s.lane m := State.modLane_other h
  split
  · rw [reportCause_other _ _ h, h1]
  · have h2 : s2.lane m = s.lane m := by
      unfold s2
      split
      · rw [reportCause_other _ _ h, h1]
      · exact h1
    rw [releaseTasks_other _ _ _ _ h, laneComplete_lane, h2]

/-- An image that is not sealed as received is reported (R76). -/
theorem drink_reported {ln : Lane} {recv : Option Bytes} {ok : Bool} {img : Image} (gap : Bool) (rest : List Image) {s : State}
    (hin : (s.lane ln).state = .isIn)
    (hbad : drinkOk (recv.getD img.bytes) ok img = false) :
    ((drink ln recv ok gap rest img s).lane ln).reported = some ((s.lane ln).reported.getD evLaneInputFail) := by
  unfold drink
  extract_lets bytes s1 s2 r
  have h1 : (s1.lane ln).state = .isIn ∧ (s1.lane ln).reported = (s.lane ln).reported := by
    unfold s1; rw [State.modLane_lane]; exact ⟨hin, rfl⟩
  rw [if_pos (by rw [hbad]; rfl), reportCause_self h1.1, h1.2]

/-- Settles O23: what sealing, a token and a drink leave, by their own equations. -/
theorem imageAndTokensComplete : Obligations.ImageAndTokensComplete := by
  intro n s
  dsimp only
  refine ⟨fun hseals hnone => ?sealed, fun hseals hnone hlate hin => ?late,
    fun ln k img hplace hready hsealed himg hat htok => ?token, fun ln k at0 htok hlate => ?timeout,
    fun ln k at0 img recv ok htok hin hat hmode himg => ?drinks, fun ln k at0 img rest recv ok htok hin hat hmode hpipe => ?holds⟩
  case sealed =>
    rw [exec_imageSealed, execImageSealed]
    refine gives_next ?_
    simp only [State.atTime_ctl, hseals, hnone, Option.isNone_none, Bool.and_self, if_true]
    have honly : Only [.fio, .tel, .bri, .records] (s.atTime n) (assemble (s.atTime n).cycleNow (s.atTime n)).1 :=
      only_assemble rfl _ _ (Only.refl _ _)
    have hcycle : (assemble (s.atTime n).cycleNow (s.atTime n)).2.cycle = (s.atTime n).cycleNow := rfl
    generalize assemble (s.atTime n).cycleNow (s.atTime n) = r at honly hcycle ⊢
    refine ⟨r.2, ?_, hcycle, fun hstand => ?_⟩
    · by_cases hstand : s.ctl.mode = .standby
      · simp [hstand]
      · simp only [hstand, if_false]
        rw [forwardImage_ctl, (deliver_ctl _ _).2.2.2]
    · simp only [hstand, if_false]
      rw [forwardImage_ctl]
      obtain ⟨hsealed, hat, hready, -⟩ := deliver_ctl r.2 { r.1 with ctl := { r.1.ctl with ownImage := some r.2 } }
      exact ⟨hsealed, hat.trans (honly.now rfl), hready⟩
  case late =>
    rw [exec_imageLate, execImageLate]
    refine gives_next ?_
    rw [if_pos ⟨by simp [hseals, hnone], hlate, hin⟩]
    exact faultStop_ctl (by simpa using Mode.canFault_of_seals hseals)
  case token =>
    rw [exec_releaseToken, execReleaseToken]
    refine gives_next ?_
    have hopen : (s.ctl.imageReady && s.ctl.sealed.any (fun i => i.cycle == (s.atTime n).cycleNow)) = true := by
      simp [hready, hsealed, himg]
    simp only [show (s.atTime n).gridPlace ln = some k from hplace]
    rw [if_pos ⟨hopen, hat, htok⟩]
    exact ⟨State.modLane_lane _ _ _, fun m hm => State.modLane_other hm⟩
  case timeout =>
    rw [exec_tokenTimeout, execTokenTimeout]
    refine gives_next ?_
    simp only [State.atTime_lane, htok, hlate, if_true]
    exact ⟨State.modLane_lane (s.atTime n) _ _, by simp [dropToken], fun m hm => State.modLane_other (s := s.atTime n) hm⟩
  case drinks =>
    rw [exec_laneDrink, execLaneDrink]
    refine gives_next ?_
    simp only [State.atTime_lane, State.atTime_ctl, htok, hin, Nat.not_lt.mpr hat, hmode, himg, ne_eq, not_true_eq_false, if_false]
    obtain ⟨h1, h2, h3, h4⟩ := drink_self ln recv ok (gapIn (s.lane ln).drunk ((s.lane ln).standpipe.filter (fun i => i.cycle ≤ k)))
      ((s.lane ln).standpipe.filter (fun i => k < i.cycle)) img (s.atTime n)
    exact ⟨h1, h2, h3, h4, fun hbad => drink_reported _ _ hin hbad, fun m hm => drink_other _ _ _ _ _ _ hm⟩
  case holds =>
    rw [exec_laneDrink, execLaneDrink]
    refine gives_next ?_
    simp only [State.atTime_lane, State.atTime_ctl, htok, hin, Nat.not_lt.mpr hat, hmode, hpipe, ne_eq, not_true_eq_false, if_false,
      if_true]
    exact drink_self ln recv ok false rest img (s.atTime n)

/-! ### The states of a lane (R48, R50, R51) -/

theorem warmMark_lane (ln : Lane) (ok : Bool) (s : State) (l : Lane) : (warmMark ln ok s).lane l = s.lane l :=
  (only_warmMark (m0 := [.ctl]) rfl ln ok s (Only.refl _ s)).lane rfl l

theorem reintFailed_lane (ln : Lane) (s : State) :
    ((reintFailed ln s).lane ln).state = .excluded ∧ ((reintFailed ln s).lane ln).cause = evReintegrationFailed := by
  obtain ⟨hstate, hcause, -⟩ := excludeLane_lane ln evReintegrationFailed
    (raiseLane ln evReintegrationFailed [BitVec.ofNat 8 (laneNo ln)] s)
  exact ⟨hstate, hcause⟩

/-- Split tasks that find their lane again change the control part alone. -/
theorem foldl_modTask_lane (f : TaskSt → TaskSt) (ds : List TaskDef) (s : State) (l : Lane) :
    (ds.foldl (fun q d => q.modTask d.task f) s).lane l = s.lane l :=
  foldl_field (f := fun q d => q.modTask d.task f) (fun q => q.lane l) (fun _ _ => State.lane_of_eq rfl rfl rfl l) ds s

/-- Settles O24: each command on a lane, by its own equation. -/
theorem laneStatesComplete : Obligations.LaneStatesComplete := by
  intro n s ln
  dsimp only
  refine ⟨fun hin => ?ecc, fun hin => ?trap, fun native hex => ?reset, fun since hsince hstate hver => ⟨fun hin => ?verified, ?spoilt,
    fun hlate => ?late⟩, fun hstate hver hmacro hfrom hready hseals => ?rejoin⟩
  case ecc =>
    rw [exec_laneEccError, execLaneEccError]
    exact gives_next ⟨reportCause_self hin, fun m hm => reportCause_other _ _ hm⟩
  case trap =>
    rw [exec_laneTrap, execLaneTrap]
    exact gives_next ⟨reportCause_self hin, fun m hm => reportCause_other _ _ hm⟩
  case reset =>
    rw [exec_laneResetComplete, execLaneResetComplete]
    refine gives_next ?_
    have hlane (l : Lane) := warmMark_lane ln ((s.atTime n).nativeOk native) (s.atTime n) l
    rw [if_pos ((congrArg LaneSt.state (hlane ln)).trans hex)]
    exact ⟨by rw [State.modLane_lane, hlane]; rfl, fun m hm => by rw [State.modLane_other hm, hlane]; rfl⟩
  case verified =>
    rw [exec_reintegrationCopyComplete, execReintegrationCopyComplete]
    refine gives_next ?_
    simp only [show ((s.atTime n).lane ln).copySince = some since from hsince]
    rw [if_pos ⟨hstate, hver⟩, if_pos ⟨trivial, hin⟩]
    exact ⟨State.modLane_lane _ _ _, by simp⟩
  case spoilt =>
    rw [exec_reintegrationCopyComplete, execReintegrationCopyComplete]
    refine gives_next ?_
    simp only [show ((s.atTime n).lane ln).copySince = some since from hsince]
    rw [if_pos ⟨hstate, hver⟩, if_neg (fun h => Bool.noConfusion h.1)]
    exact reintFailed_lane ln _
  case late =>
    rw [exec_reintegrationTimeout, execReintegrationTimeout]
    refine gives_next ?_
    simp only [show ((s.atTime n).lane ln).copySince = some since from hsince]
    rw [if_pos ⟨hstate, hver, hlate⟩]
    exact reintFailed_lane ln _
  case rejoin =>
    rw [exec_laneRejoin, execLaneRejoin]
    refine gives_next ?_
    rw [if_pos ⟨hstate, hver, hmacro, hfrom, hready, hseals⟩]
    extract_lets like s1 back
    have hback (l : Lane) : (raiseLane ln evLaneIn [BitVec.ofNat 8 (laneNo ln)]
        (back.foldl (fun q d => q.modTask d.task (fun x => { x with onLane := some ln })) s1)).lane l = s1.lane l := by
      rw [← foldl_modTask_lane (fun x => { x with onLane := some ln }) back s1 l]
      exact (only_raiseLane (m0 := [.records]) rfl _ _ _ _ (Only.refl _ _)).lane rfl l
    rw [hback]
    refine ⟨?_, ?_, ?_, ?_, fun m hm => by rw [hback]; exact State.modLane_other hm⟩ <;>
      simp [s1]

end Sys2Proof.Machine
end


section
/-! The checks of a host request (R388), as its row in the object dictionary decides them. -/

namespace Sys2Proof.Machine

@[simp] theorem bad_false (st : BitVec 16) : bad false st = stOk := rfl
@[simp] theorem bad_true (st : BitVec 16) : bad true st = st := rfl
@[simp] theorem firstBad_nil : firstBad [] = stOk := rfl
@[simp] theorem firstBad_ok (l : List (BitVec 16)) : firstBad (stOk :: l) = firstBad l := rfl

theorem firstBad_eq_ok {l : List (BitVec 16)} : firstBad l = stOk ↔ ∀ st ∈ l, st = stOk := by
  induction l with
  | nil => simp
  | cons st r ih =>
    by_cases h : st = stOk
    · subst h; simpa using ih
    · simp [firstBad, h]

/-- The first check that fails is the answer. -/
theorem firstBad_of_ne {st : BitVec 16} (h : st ≠ stOk) (l : List (BitVec 16)) : firstBad (st :: l) = st := if_neg h

theorem objectFault_of_row {i u : Nat} {r : OdRow} (hrow : odRow i u = some r) (hindex : odIndex i = true) : objectFault i u = stOk := by
  simp [objectFault, hrow, hindex]

/-- A level that the row allows may write an object that can be written and whose timing is not STOP. -/
theorem writeFault_of_row {i u level : Nat} {r : OdRow} (s : State) (hrow : odRow i u = some r) (hindex : odIndex i = true)
    (hacc : (r.acc = .wo || r.acc = .rw) = true) (hlevel : r.level ≤ level) (htiming : r.timing ≠ .stop) :
    s.writeFault i u level = stOk := by
  simp only [State.writeFault, writeRight, State.timingFault, objectFault_of_row hrow hindex, hrow, Option.any_some, hacc,
    Bool.not_true, bad_false, decide_eq_false (Nat.not_lt.mpr hlevel), htiming, decide_false, Bool.false_and, firstBad_ok, firstBad_nil]

/-- Little-endian bytes read back as the value that they were written from. -/
theorem leNat_of_leBytes (n : Nat) {v : Nat} (h : v < 256 ^ n) : leNat (leBytes n v) = v := by
  induction n generalizing v with
  | zero => simp [leBytes, leNat, Nat.lt_one_iff.mp h]
  | succ n ih =>
    have hdiv : v / 256 < 256 ^ n := Nat.div_lt_of_lt_mul (by rwa [Nat.pow_succ, Nat.mul_comm] at h)
    rw [leBytes, leNat, ih hdiv, BitVec.toNat_ofNat]
    exact Nat.mod_add_div v 256

/-- A command write is judged by its row, its own checks, its type and the row's range. -/
theorem opCommand_of_ok {i u v : Nat} {extra : List (BitVec 16)} {after : Caller → State → State} {c : Caller} {s : State} {r : OdRow}
    (via : Via) (hright : s.writeFault i u c.level = stOk) (hextra : ∀ st ∈ extra, st = stOk) (hrow : odRow i u = some r)
    (hlo : r.lo ≤ v) (hhi : (v : Int) ≤ r.hi) : opCommand i u extra after c via v true s = respond via stOk [] (after c s) := by
  unfold opCommand
  rw [if_pos (firstBad_eq_ok.mpr ?_)]
  intro st hst
  have hrange : bad ((odRow i u).any (fun r => decide ((v : Int) < r.lo) || decide (r.hi < (v : Int)))) stRange = stOk := by
    rw [hrow, Option.any_some, decide_eq_false (by omega), decide_eq_false (by omega)]
    rfl
  simp only [List.mem_append, List.mem_cons, List.not_mem_nil, or_false] at hst
  rcases hst with (rfl | hst) | rfl | rfl
  · exact hright
  · exact hextra st hst
  · rfl
  · exact hrange

/-- A write that only the object dictionary judges is kept, and has its effect. -/
theorem opPlain_of_ok {i u : Nat} {after : State → State} {c : Caller} {ty : OdType} {data : Bytes} {s : State} (via : Via)
    (hok : s.plainFault i u c.level ty data = stOk) :
    opPlain i u after c via ty data s = respond via stOk [] (after (s.odStore i u data)) := if_pos hok

/-- The state that a request is served in differs from that of its arrival in the sessions, the records and the frames. -/
theorem admission_only {via : Via} {f : ReqFrame} {s q : State} {o : Option Caller} (h : admission via f s = (q, o)) :
    Only [.od, .records, .sent] s q := by
  have k := only_admit (m0 := [.od, .records, .sent]) rfl via f s (Only.refl _ s)
  rwa [h] at k

end Sys2Proof.Machine
end


section
/-! Mode commands (O25: R121, R126, R128, R381, R388) and the warm restart (O26: R129 to R131). -/

namespace Sys2Proof.Machine

/-! ### Arrival of a mode command -/

theorem odRow_modeCommand : odRow 0x1101 0x01 = some ⟨0x1101, 0x01, .u8, .wo, 2, .boundary, 0, 1, 6, false, 0, 0⟩ := rfl

/-- A mode command of 1 to 6 with its level waits for its boundary. -/
theorem opMode_of_level {c : Caller} {v : Nat} (via : Via) (s : State) (hv : inR 1 6 v = true)
    (hlevel : (if v = 6 then 3 else 2) ≤ c.level) :
    opMode c via v true s = queueWrite 0x1101 0x01 (leBytes 1 v) via c s := by
  have htwo : 2 ≤ c.level := by split at hlevel <;> omega
  have hexchange : ¬ (v = 6 ∧ c.level < 3) := fun h => by rw [if_pos h.1] at hlevel; omega
  have hfault : s.writeFault 0x1101 0x01 c.level = stOk :=
    writeFault_of_row s odRow_modeCommand rfl rfl htwo (by decide)
  unfold opMode
  simp only [hfault, hexchange, decide_false, bad_false, Bool.not_true, hv, firstBad_ok, firstBad_nil, if_true]

/-! ### The effect of a mode command -/

theorem finishCommand_fields {s : State} (h : s.ctl.result = 1) :
    (finishCommand s).ctl = { s.ctl with pending := none, result := 2 } := by
  unfold finishCommand
  rw [if_pos h]
  rfl

theorem only_of_finishCommand (s : State) : Only [.ctl] s (finishCommand s) := only_finishCommand rfl _ (Only.refl _ s)

theorem enterMode_hold_debugLog (k : Nat) (s : State) : (enterMode .hold k s).ctl.debugLog = [] := by
  simp [enterMode]

/-- The debugger ends with HOLD (R65). -/
theorem enterMode_debugger_of_hold {m : Mode} {k : Nat} {s : State} (h : s.ctl.mode = .hold) :
    (enterMode m k s).ctl.debugger = false := by
  by_cases hm : m = .hold <;> simp [enterMode, h, hm, endDebug]

theorem restartTasks_ctl (n : Nat) (s : State) :
    (restartTasks n s).ctl = { s.ctl with tasks := (restartTasks n s).ctl.tasks } := by
  have h : { (restartTasks n s).ctl with tasks := [] } = { s.ctl with tasks := [] } :=
    foldl_field (fun q => { q.ctl with tasks := [] }) (fun q d => by split <;> rfl) s.taskDefs s
  calc (restartTasks n s).ctl
      = { ({ (restartTasks n s).ctl with tasks := [] } : Ctl) with tasks := (restartTasks n s).ctl.tasks } := rfl
    _ = { s.ctl with tasks := (restartTasks n s).ctl.tasks } := by rw [h]

/-- Entering RUN touches, after the mode change, the tasks of the control part alone. -/
theorem intoRun_ctl (trigger : Nat) (s : State) : ∃ tasks,
    (intoRun trigger s).ctl = { (enterMode .run trigger s).ctl with tasks } := by
  unfold intoRun
  extract_lets old s1 s2
  have hend : Only [.tel, .fab, .upd, .records, .sent] s2 (passTrial (nmtStart s2)) :=
    only_passTrial rfl _ (only_nmtStart rfl _ (Only.refl _ s2))
  rw [hend.ctl rfl rfl]
  unfold s2
  split
  · rw [(only_canRestart (m0 := [.tel, .bri]) rfl _ (Only.refl _ _)).ctl rfl rfl, restartTasks_ctl]
    exact ⟨_, rfl⟩
  · exact ⟨_, rfl⟩

theorem only_of_intoRun (trigger : Nat) (s : State) :
    Only [.mode, .ctl, .fab, .tel, .bri, .upd, .records, .sent] s (intoRun trigger s) := only_intoRun rfl _ _ (Only.refl _ s)

theorem dropAll_core_releases (s : State) (l : Lane) (c : Fin 4) : ((dropAll s).core l c).releases = [] := by
  cases l <;> fin_cases c <;> rfl

/-- Settles O25: arrival by the checks of its row, and each effect by what its parts leave. -/
theorem modeCommands : Obligations.ModeCommands := by
  refine ⟨?arrives, ?takesEffect⟩
  case arrives =>
    intro n via s q c
    dsimp only
    have hwaits (v : Nat) (hv : inR 1 6 v = true) (h : admission via (writeReq 0x1101 0x01 .u8 (leBytes 1 v)) (s.atTime n) = (q, some c))
        (hlevel : (if v = 6 then 3 else 2) ≤ c.level) : modeWrite n via v s = queueWrite 0x1101 0x01 (leBytes 1 v) via c q := by
      rw [modeWrite, serve_admitted h, opMode_of_level via q hv hlevel]
    refine ⟨?run, ?stop, ?hold, ?resume, ?restart, ?exchange⟩
    case run => intro h hlevel; rw [exec_cmdRun, execCmdRun, hwaits 1 rfl h hlevel]; exact gives_next rfl
    case stop => intro h hlevel; rw [exec_cmdStop, execCmdStop, hwaits 2 rfl h hlevel]; exact gives_next rfl
    case hold => intro h hlevel; rw [exec_cmdHold, execCmdHold, hwaits 3 rfl h hlevel]; exact gives_next rfl
    case resume => intro h hlevel; rw [exec_cmdResume, execCmdResume, hwaits 4 rfl h hlevel]; exact gives_next rfl
    case restart => intro h hlevel; rw [exec_cmdRestart, execCmdRestart, hwaits 5 rfl h hlevel]; exact gives_next rfl
    case exchange => intro h hlevel; rw [exec_cmdExchange, execCmdExchange, hwaits 6 rfl h hlevel]; exact gives_next rfl
  case takesEffect =>
    intro n s e
    dsimp only
    intro hdue halone hresult
    have hfinish := finishCommand_fields (s := s.atTime n) hresult
    have honly := only_of_finishCommand (s.atTime n)
    refine ⟨fun hpend hmode => ?run, fun hpend hhand => ?stop, fun hpend => ?hold, fun hpend hmode => ?resume⟩
    case run =>
      rw [exec_modeChange, execModeChange]
      refine gives_next ?_
      simp only [State.atTime_ctl, hpend, hdue, if_true, hmode, reduceCtorEq, if_false]
      generalize finishCommand (s.atTime n) = q at hfinish honly ⊢
      have hrun : runEffect 1 q = intoRun 1 q := by
        unfold runEffect
        simp [hfinish, hmode, honly.pair rfl, halone]
      obtain ⟨tasks, hctl⟩ := intoRun_ctl 1 q
      obtain ⟨d, b, r, g, henter⟩ := enterMode_ctl .run 1 q
      rw [hrun, hctl, henter, hfinish]
      exact ⟨rfl, rfl, rfl, cycleNow_of_eq (honly.now rfl) (by rw [hfinish])⟩
    case stop =>
      rw [exec_modeChange, execModeChange]
      refine gives_next ?_
      simp only [State.atTime_ctl, State.atTime_pair, hpend, hdue, if_true, hhand, Option.any_none, Bool.false_eq_true, if_false]
      generalize finishCommand (s.atTime n) = q at hfinish honly ⊢
      have henterOnly := only_enterMode (m0 := [.mode, .ctl, .fab, .records]) rfl .stop 2 q (Only.refl _ q)
      have hstop : stopEffect q = dropAll (enterMode .stop 2 q) := by
        unfold stopEffect
        have hpair : (dropAll (enterMode .stop 2 q)).pair.state = .alone := by
          rw [(only_dropAll (m0 := [.lanes, .rek]) rfl _ (Only.refl _ _)).pair rfl, henterOnly.pair rfl, honly.pair rfl]
          exact halone
        simp only [hpair, reduceCtorEq, if_false, false_and]
      obtain ⟨d, b, r, g, henter⟩ := enterMode_ctl .stop 2 q
      have hctl : (dropAll (enterMode .stop 2 q)).ctl = (enterMode .stop 2 q).ctl :=
        (only_dropAll (m0 := [.lanes, .rek]) rfl _ (Only.refl _ _)).ctl rfl rfl
      have hmem : (dropAll (enterMode .stop 2 q)).cis = q.cis :=
        ((only_dropAll (m0 := [.lanes, .rek]) rfl _ (Only.refl _ _)).cis rfl rfl).trans (henterOnly.cis rfl rfl)
      rw [hstop, hctl, henter, hfinish, hmem, honly.cis rfl rfl]
      exact ⟨rfl, rfl, rfl, rfl, rfl, dropAll_core_releases _, fun l => by rw [dropAll_lane], rfl⟩
    case hold =>
      rw [exec_modeChange, execModeChange]
      refine gives_next ?_
      simp only [State.atTime_ctl, hpend, hdue, if_true]
      generalize finishCommand (s.atTime n) = q at hfinish honly ⊢
      have hmem := (only_enterMode (m0 := [.mode, .ctl, .fab, .records]) rfl .hold 3 q (Only.refl _ q)).mem rfl
      refine ⟨enterMode_mode _ _ _, ?_, ?_, enterMode_hold_debugLog _ _, hmem.trans (honly.mem rfl)⟩ <;>
        obtain ⟨d, b, r, g, henter⟩ := enterMode_ctl .hold 3 q <;> rw [henter, hfinish]
    case resume =>
      rw [exec_modeChange, execModeChange]
      refine gives_next ?_
      simp only [State.atTime_ctl, hpend, hdue, if_true]
      generalize finishCommand (s.atTime n) = q at hfinish honly ⊢
      unfold resumeEffect
      have hdrop : (dropAll (q.modLanes (fun l => { l with standpipe := [] }))).ctl = q.ctl := by simp [dropAll]
      have hempty (l : Lane) : ((dropAll (q.modLanes (fun l => { l with standpipe := [] }))).lane l).standpipe = [] := by
        rw [dropAll_lane, State.modLanes_lane]; rfl
      have hcores := dropAll_core_releases (q.modLanes (fun l => { l with standpipe := [] }))
      have hwindows : (dropAll (q.modLanes (fun l => { l with standpipe := [] }))).rek.windows = [] := rfl
      generalize dropAll (q.modLanes (fun l => { l with standpipe := [] })) = d at hdrop hempty hcores hwindows ⊢
      have hintoOnly := only_of_intoRun 4 d
      obtain ⟨tasks, hctl⟩ := intoRun_ctl 4 d
      have hdebug : (enterMode .run 4 d).ctl.debugger = false :=
        enterMode_debugger_of_hold (by rw [hdrop, hfinish]; exact hmode)
      obtain ⟨_, b, r, g, henter⟩ := enterMode_ctl .run 4 d
      refine ⟨?_, ?_, ?_, fun l => ?_, fun l c => ?_, ?_⟩
      · rw [hctl, henter]
      · rw [hctl, henter, hdrop, hfinish]
      · rw [hctl]; exact hdebug
      · rw [hintoOnly.lane rfl]; exact hempty l
      · rw [State.core, hintoOnly.lane rfl]; exact hcores l c
      · rw [hintoOnly.rek rfl]; exact hwindows

/-! ### The warm restart (R131) -/

/-- BOOT with WARM: the memory stays as it was. -/
theorem warmBoot_fields (s : State) :
    (warmBoot s).ctl.mode = .boot ∧ (warmBoot s).ctl.warm = true ∧ (warmBoot s).cis.mem = s.cis.mem := by
  unfold warmBoot
  extract_lets s1 tables c1 s2 s3 a3 b3 c3 s4
  have h1 : s1.cis = s.cis := (only_enterMode (m0 := [.mode, .ctl, .fab, .records]) rfl _ _ s (Only.refl _ s)).cis rfl rfl
  have hmode : s1.ctl.mode = .boot := enterMode_mode _ _ _
  have hwarm : Only [.time, .od, .pair, .sent, .tel, .records] { s1 with ctl := { s1.ctl with warm := true } } s3 :=
    only_applyBindings rfl _ _ (only_takePairRole rfl _ (only_takeInForce rfl _ (Only.refl _ _)))
  clear_value s3
  have hend : (if s4.pair.inPair = true then setPair .alone evWarmRestart.toNat { s4 with pair := { s4.pair with
      negotiated := false, reason := 0 } } else s4).ctl = s3.ctl ∧ (if s4.pair.inPair = true then setPair .alone evWarmRestart.toNat
      { s4 with pair := { s4.pair with negotiated := false, reason := 0 } } else s4).cis = s3.cis := by
    split
    · have h := only_setPair (m0 := [.tel, .pair, .records]) rfl .alone evWarmRestart.toNat
        { s4 with pair := { s4.pair with negotiated := false, reason := 0 } } (Only.refl _ _)
      exact ⟨h.ctl rfl rfl, h.cis rfl rfl⟩
    · exact ⟨rfl, rfl⟩
  rw [hend.1, hend.2, hwarm.ctl rfl rfl, hwarm.cis rfl rfl]
  exact ⟨hmode, rfl, congrArg Cistern.mem h1⟩

/-- Every lane that is IN holds the committed state again. -/
theorem warmEnd_lane {s : State} {l : Lane} (h : (s.lane l).state = .isIn) :
    (warmEnd s).lane l = { s.lane l with copy := s.copyRegions, standpipe := [], drunk := none } := by
  have hlane : (warmEnd s).lane l = (s.modLanes (fun l => if l.state = .isIn then
      { l with copy := s.copyRegions, standpipe := [], drunk := none } else l)).lane l := State.lane_of_eq rfl rfl rfl l
  rw [hlane, State.modLanes_lane, if_pos h]

/-- A FAULT-STOP of a cause that is not of class PACE starts no warm restart (R130). -/
theorem faultStop_warmRestart {cause : Code} {s : State} (h : s.ctl.mode.canFault = true) (hpace : isPace cause false = false) :
    (faultStop cause s).ctl.warmRestart = none := by
  unfold faultStop faultStopWith
  rw [if_pos h]
  extract_lets c0 s0 c1 s1 s2 s3
  have h1 : s1.ctl.warmRestart = none := by
    obtain ⟨d, b, r, g, henter⟩ := enterMode_ctl .faultStop cause.toNat { s0 with ctl := { s0.ctl with cause, warm := false, warmRestart := none } }
    unfold s1 c1
    rw [henter]
  have h3 : s3.ctl = s1.ctl := by
    have h : Only [.lanes, .rek, .cis, .sent, .pair, .tel, .records] s2 s3 :=
      only_pairFaultStop rfl _ (only_sendStopNotice rfl _ (only_snapshot rfl _ (only_dropAll rfl _ (Only.refl _ _))))
    rw [h.ctl rfl rfl, raise_ctl]
  have hno : s3.warmAllowed cause false = false := by rw [State.warmAllowed, hpace, Bool.false_and]
  rw [hno, if_neg Bool.false_ne_true, raise_ctl, h3, h1]

/-- Settles O26: the boot, the end and the timeout of a warm restart, by what their parts leave. -/
theorem warmRestart : Obligations.WarmRestart := by
  intro n s m
  dsimp only
  intro hwarm
  refine ⟨fun hmode hreset hzero => ?boot, fun hmode hwarmOn hpassed hzero hmacro hpair halone => ?complete,
    fun hnot hlate hmode => ?timeout⟩
  case boot =>
    rw [exec_warmRestartBoot, execWarmRestartBoot]
    refine gives_next ?_
    simp only [State.atTime_ctl, hwarm, hmode, hreset, hzero, and_self, if_true]
    exact warmBoot_fields (s.atTime n)
  case complete =>
    rw [exec_warmRestartComplete, execWarmRestartComplete]
    refine gives_next ?_
    simp only [State.atTime_ctl, hwarm, hmode, hwarmOn, hpassed, hzero, hmacro, State.atTime_pair, hpair, halone, and_self, true_or,
      if_true, reduceCtorEq, or_self, if_false]
    rw [if_pos (show (s.atTime n).mayDrive = true by simp [State.mayDrive, hpair])]
    have hintoOnly := only_of_intoRun evWarmRestart.toNat (warmEnd (s.atTime n))
    obtain ⟨tasks, hctl⟩ := intoRun_ctl evWarmRestart.toNat (warmEnd (s.atTime n))
    obtain ⟨d, b, r, g, henter⟩ := enterMode_ctl .run evWarmRestart.toNat (warmEnd (s.atTime n))
    rw [hctl, henter, hintoOnly.mem rfl]
    refine ⟨rfl, rfl, rfl, rfl, fun l hin => ?_⟩
    rw [hintoOnly.lane rfl, warmEnd_lane (s := s.atTime n) hin]
    exact ⟨rfl, rfl⟩
  case timeout =>
    rw [exec_warmRestartTimeout, execWarmRestartTimeout]
    refine gives_next ?_
    simp only [State.atTime_ctl, hwarm, hnot, Bool.false_eq_true, if_false, hlate, if_true]
    rcases hmode with hboot | hstop
    · simp only [hboot, reduceCtorEq, if_false]
      refine ⟨(faultStop_ctl ?can).1, (faultStop_ctl ?can).2, faultStop_warmRestart ?can rfl, ?_⟩
      case can => rw [raise_ctl]; rfl
      rw [faultStop_mem, raise_cis]
      rfl
    · simp [hstop]

end Sys2Proof.Machine
end


section
/-! Force entries (O27: R135, R137 to R140). -/

namespace Sys2Proof.Machine

/-- A write that finds a REFUSED entry FREE touches the force table alone. -/
theorem unrefuseEntry_forces (k : Fin 256) (level u : Nat) (s : State) :
    ∃ x, unrefuseEntry k level u s = { s with ctl := { s.ctl with forces := x } } := by
  unfold unrefuseEntry
  split
  · exact ⟨_, rfl⟩
  · exact ⟨s.ctl.forces, rfl⟩

theorem unrefuseEntry_follows (k : Fin 256) (level u : Nat) (s : State) : (unrefuseEntry k level u s).follows = s.follows := by
  obtain ⟨x, h⟩ := unrefuseEntry_forces k level u s
  rw [h]; rfl

theorem unrefuseEntry_hostBoundary (k : Fin 256) (level u : Nat) (s : State) :
    (unrefuseEntry k level u s).hostBoundary = s.hostBoundary := by
  obtain ⟨x, h⟩ := unrefuseEntry_forces k level u s
  rw [h]; rfl

theorem unrefuseEntry_forceValueBad (k : Fin 256) (level u : Nat) (s : State) (f : Force) (v : Word) :
    (unrefuseEntry k level u s).forceValueBad f v = s.forceValueBad f v := by
  obtain ⟨x, h⟩ := unrefuseEntry_forces k level u s
  rw [h]; rfl

@[simp] theorem State.atTime_force (s : State) (n k : Nat) : (s.atTime n).force k = s.force k := rfl

theorem Force.busy_of_free {f : Force} (h : f.state = .free) : f.busy = false := by simp [Force.busy, h]

/-- Settles O27: each write by its checks, and the boundary by the state of the entry. -/
theorem forceEntries : Obligations.ForceEntries := by
  intro n via k s q c
  dsimp only
  refine ⟨fun v hadmit hright hfree hrange => ?kind, fun v hadmit hright hfree hrange => ?target,
    fun v hadmit hright => ⟨fun hfree => ?value, fun hbusy hfollows hgood => ?forced⟩,
    fun hadmit hright hfree hfollows => ⟨fun hok => ?activated, fun hbad => ?refused⟩,
    fun hadmit hright hactive hfollows hlevel => ?removed, fun hpend hdue => ⟨fun hrem => ?freed, fun hrem => ?active⟩⟩
  case kind =>
    rw [exec_forceKindWrite, execForceKindWrite, forceIndex, serve_admitted hadmit]
    refine gives_next ?_
    have hlow : ¬ 3 < v.toNat := Nat.not_lt.mpr hrange
    simp [opForceField, forceIndex, hright, Force.busy_of_free hfree, hlow, mirrorForce]
  case target =>
    rw [exec_forceTargetWrite, execForceTargetWrite, forceIndex, serve_admitted hadmit]
    refine gives_next ?_
    have hlow : ¬ 16383 < v.toNat := Nat.not_lt.mpr hrange
    simp [opForceField, forceIndex, hright, Force.busy_of_free hfree, hlow, mirrorForce]
  case value =>
    rw [exec_forceValueWrite, execForceValueWrite, forceIndex, serve_admitted hadmit]
    refine gives_next ?_
    simp [opForceValue, forceIndex, hright, Force.busy_of_free hfree, mirrorForce]
  case forced =>
    rw [exec_forceValueWrite, execForceValueWrite, forceIndex, serve_admitted hadmit]
    refine gives_next ?_
    simp [opForceValue, forceIndex, hright, hbusy, unrefuseEntry_follows, hfollows, unrefuseEntry_forceValueBad, hgood,
      unrefuseEntry_hostBoundary, mirrorForce]
  case activated =>
    rw [exec_forceActivate, execForceActivate, forceIndex, serve_admitted hadmit]
    refine gives_next ?_
    simp [opForceCommand, forceIndex, hright, inR, activateForce, Force.busy_of_free hfree, unrefuseEntry_follows, hfollows, hok,
      unrefuseEntry_hostBoundary, mirrorForce]
  case refused =>
    rw [exec_forceActivate, execForceActivate, forceIndex, serve_admitted hadmit]
    refine gives_next ?_
    simp [opForceCommand, forceIndex, hright, inR, activateForce, Force.busy_of_free hfree, unrefuseEntry_follows, hfollows, hbad]
  case removed =>
    rw [exec_forceRemove, execForceRemove, forceIndex, serve_admitted hadmit]
    refine gives_next ?_
    have hremove : opForceCommand k c via 2 true q = removeForce k c via (unrefuseEntry k c.level 4 q) := by
      simp [opForceCommand, forceIndex, hright, inR]
    rw [hremove, removeForce]
    simp only [hlevel, hactive, unrefuseEntry_follows, hfollows, ne_eq, not_true_eq_false, decide_false, Bool.or_self, bad_false,
      firstBad_ok, firstBad_nil, if_true, mirrorForce, respond_force, mirror_force, putForce_force, unrefuseEntry_hostBoundary,
      and_self]
  case freed =>
    rw [exec_forceBoundary, execForceBoundary]
    refine gives_next ?_
    simp only [State.atTime_force, hpend, hdue, hrem, and_self, if_true, raiseFrom_force, putForce_force]
  case active =>
    rw [exec_forceBoundary, execForceBoundary]
    refine gives_next ?_
    simp only [State.atTime_force, hpend, hdue, hrem, and_self, Bool.false_eq_true, if_true, if_false, raiseFrom_force, putForce_force]

end Sys2Proof.Machine
end


section
/-! Host writes of the lanes and tasks (O29: R34, R48, R63, R65, R91), placement moves and the debugger (O30: R63, R64, R66). -/

namespace Sys2Proof.Machine

/-! ### Writes of the lanes and tasks -/

theorem odRow_laneCommand : odRow 0x2000 0x08 = some ⟨0x2000, 0x08, .u8, .wo, 2, .boundary, 0, 1, 3, false, 0, 0⟩ := rfl

theorem odRow_taskRestart (k : Fin 16) :
    odRow (0x2100 + k.val) 0x0E = some ⟨0x2100, 0x0E, .u8, .wo, 2, .boundary, 0, 1, 3, false, 0, 0⟩ := by
  revert k; decide

theorem State.task_of_ctl {s t : State} (h : t.ctl = s.ctl) (k : Fin 16) : t.task k = s.task k := by rw [State.task, State.task, h]

theorem State.modTask_self {s : State} {k : Fin 16} {f : TaskSt → TaskSt} (h : s.ctl.tasks.length = 16) :
    (s.modTask k f).task k = f (s.task k) := getD_modAt (by rw [h]; exact k.isLt)

/-- Settles O29: each accepted write, by its checks. -/
theorem laneAndTaskWrites : Obligations.LaneAndTaskWrites := by
  intro n via s q c
  dsimp only
  refine ⟨fun v hadmit hright hlow hhigh hstate => ?lane, fun v hadmit hplain => ?stagger,
    fun v hadmit hright hmode hlow hplace hmove => ?placement, fun hadmit hlevel hmode hflag => ?debug,
    fun k v hshaped hadmit hright hlow hhigh hfault => ?task⟩
  case lane =>
    rw [exec_laneCommand, execLaneCommand, serve_admitted hadmit]
    refine gives_next ?_
    have hlane (l : Lane) : q.lane l = s.lane l := admit_lane hadmit l
    have hallowed : bad (inR 1 3 v.toNat && !((q.lane (laneCode v.toNat)).state = .excluded ||
        (q.lane (laneCode v.toNat)).state = .out)) stWrongState = stOk := by
      rw [hlane]
      rcases hstate with h | h <;> simp [h]
    rw [opLane, opCommand_of_ok via hright (by simpa using hallowed) odRow_laneCommand (Int.ofNat_le.mpr hlow)
      (Int.ofNat_le.mpr hhigh)]
    refine ⟨by rw [respond_lane, State.modLane_lane], fun l hl => ?_⟩
    rw [respond_lane, State.modLane_other hl, hlane]
  case stagger =>
    rw [exec_staggerWrite, execStaggerWrite, serve_admitted hadmit]
    refine gives_next ?_
    rw [opStagger, opPlain_of_ok via hplain, respond_ctl]
    exact leNat_of_leBytes 2 v.isLt
  case placement =>
    rw [exec_placementRequest, execPlacementRequest, serve_admitted hadmit]
    refine gives_next ?_
    have honly := admission_only hadmit
    have hctl : q.ctl = s.ctl := honly.ctl rfl rfl
    have hnext : q.nextMacro (q.cycleNow + 1) = (s.atTime n).nextMacro ((s.atTime n).cycleNow + 1) := by
      rw [admit_only hadmit]; rfl
    have hplace' : q.placementBad (BitVec.setWidth 4 v) = false := by simpa using hplace
    have hstart : opPlacement c via v.toNat true q = respond via stOk [] { q with ctl := { q.ctl with
        requested := v, moveState := 1, moveAt := q.nextMacro (q.cycleNow + 1) } } := by
      simp [opPlacement, hright, hctl, hmode, Nat.not_le.mpr hlow, hplace', hmove]
    rw [hstart, respond_ctl]
    exact ⟨rfl, rfl, hnext, by rw [← hctl]⟩
  case debug =>
    rw [exec_debugAttach, execDebugAttach, serve_admitted hadmit]
    refine gives_next ?_
    have hctl : q.ctl = s.ctl := (admission_only hadmit).ctl rfl rfl
    have hmap : q.mapFlag 5 = true := by rw [admit_only hadmit]; exact hflag
    have hattach : opDebugAttach c via q = respond via stOk [] (raiseFrom (BitVec.ofNat 8 c.source) evDebugAttached []
        { q with ctl := { q.ctl with debugger := true } }) := by
      simp [opDebugAttach, Nat.not_lt.mpr hlevel, hctl, hmode, hmap]
    rw [hattach, respond_ctl, raiseFrom_ctl]
    exact ⟨rfl, (congrArg Ctl.mode hctl).trans hmode⟩
  case task =>
    rw [exec_taskRestart, execTaskRestart, serve_admitted hadmit]
    refine gives_next ?_
    have hctl : q.ctl = s.ctl := (admission_only hadmit).ctl rfl rfl
    have hallowed : bad (inR 1 3 v.toNat && !(q.task k).faulted (laneCode v.toNat)) stWrongState = stOk := by
      rw [State.task_of_ctl hctl, hfault]; simp
    have hlength : q.ctl.tasks.length = 16 := by rw [hctl]; exact hshaped.tasks
    rw [opTaskRestart, opCommand_of_ok via hright (by simpa using hallowed) (odRow_taskRestart k) (Int.ofNat_le.mpr hlow)
      (Int.ofNat_le.mpr hhigh)]
    refine ⟨?_, fun j hj => ?_⟩
    · rw [State.task_of_ctl (respond_ctl _ _ _ _), State.modTask_self hlength, State.task_of_ctl hctl]
    · rw [State.task_of_ctl (respond_ctl _ _ _ _), State.modTask_other hj, State.task_of_ctl hctl]

/-! ### Placement moves (R63, R64) -/

theorem LaneSt.setCore_core_other (l : LaneSt) {c d : Fin 4} (k : Core) (h : d ≠ c) : (l.setCore c k).core d = l.core d := by
  revert h
  fin_cases c <;> fin_cases d <;> simp [LaneSt.setCore, LaneSt.core]

/-- An index that is idled has no open release. -/
theorem foldl_idle_releases {cs : List (Fin 4)} {c : Fin 4} (h : c ∈ cs) (l : LaneSt) :
    ((cs.foldl (fun q c => q.setCore c (q.core c).idle) l).core c).releases = [] := by
  have hkeep (ds : List (Fin 4)) (l : LaneSt) (h : (l.core c).releases = []) :
      ((ds.foldl (fun q c => q.setCore c (q.core c).idle) l).core c).releases = [] := by
    induction ds generalizing l with
    | nil => exact h
    | cons d ds ih =>
      refine ih _ ?_
      by_cases hd : c = d
      · rw [hd, LaneSt.setCore_core]; rfl
      · rw [LaneSt.setCore_core_other _ _ hd]; exact h
  induction cs generalizing l with
  | nil => exact absurd h List.not_mem_nil
  | cons d cs ih =>
    rcases List.mem_cons.mp h with rfl | hmem
    · exact hkeep cs _ (by rw [LaneSt.setCore_core]; rfl)
    · exact ih hmem _

theorem dropMoved_releases {moved : BitVec 4} {c : Fin 4} (h : moved.getLsbD c.val = true) (s : State) (l : Lane) :
    ((dropMoved moved s).core l c).releases = [] := by
  have hlane : (dropMoved moved s).lane l = (s.modLanes (fun l =>
      { (([0, 1, 2, 3] : List (Fin 4)).filter (fun c => moved.getLsbD c.val)).foldl (fun q c => q.setCore c (q.core c).idle) l with
        halves := l.halves.filter (fun h => !moved.getLsbD h.core.val) })).lane l := State.lane_of_eq rfl rfl rfl l
  have hmem : c ∈ ([0, 1, 2, 3] : List (Fin 4)).filter (fun c => moved.getLsbD c.val) :=
    List.mem_filter.mpr ⟨by fin_cases c <;> decide, h⟩
  rw [State.core, hlane, State.modLanes_lane]
  exact foldl_idle_releases hmem _

/-- A change of split tasks leaves the rest of the control part. -/
theorem foldl_modTask_ctl (f : State → TaskDef → TaskSt → TaskSt) (ds : List TaskDef) (s : State) :
    (ds.foldl (fun q d => q.modTask d.task (f q d)) s).ctl =
      { s.ctl with tasks := (ds.foldl (fun q d => q.modTask d.task (f q d)) s).ctl.tasks } := by
  induction ds generalizing s with
  | nil => rfl
  | cons d ds ih =>
    rw [List.foldl_cons, ih]
    rfl

/-! ### The debugger (R66) -/

/-- What a logged write of the debugger says, but for the lanes that have made it. -/
def DebugWrite.says (w : DebugWrite) : Fin 4 × Fin 16 × Nat × Nat × BWrite := (w.core, w.task, w.opened, w.steps, w.write)

/-- A replay touches the control part only in the lanes that have made a logged write. -/
theorem debugReplay_ctl (ln : Lane) (c : Fin 4) (s : State) : ∃ f : DebugWrite → DebugWrite, (∀ w, (f w).says = w.says) ∧
    (debugReplay ln c s).ctl = { s.ctl with debugWrites := s.ctl.debugWrites.map f } := by
  unfold debugReplay
  split
  · exact ⟨id, fun _ => rfl, by rw [List.map_id]⟩
  next r _ =>
    have hctl (ws : List DebugWrite) : (ws.foldl (fun q w => replayWrite ln c w q) s).ctl = s.ctl :=
      foldl_field (f := fun q w => replayWrite ln c w q) (fun q => q.ctl) (fun q w =>
        (only_replayWrite (m0 := [.lanes, .rek]) rfl ln c w q (Only.refl _ q)).ctl rfl rfl) ws s
    refine ⟨fun w => if w.dueFor ln c r then { w with made := w.made ++ [ln] } else w, fun w => ?_, ?_⟩
    · dsimp only
      split <;> rfl
    · dsimp only
      rw [hctl]

/-- Settles O30: each move and each action of the debugger, by its own equation. -/
theorem placementAndDebugger : Obligations.PlacementAndDebugger := by
  refine ⟨?placement, ?debugger⟩
  case placement =>
    intro n s
    dsimp only
    intro hmacro hready
    refine ⟨fun hstate hat => ?move, fun hstate hat => ?resume, fun k d l hshaped hdef htriple hstart hcur => ?fallback⟩
    case move =>
      rw [exec_placementMove, execPlacementMove]
      refine gives_next ?_
      rw [if_pos ⟨hstate, hat, hmacro, hready⟩]
      refine ⟨by simp [dropMoved], by simp [dropMoved], by simp [dropMoved], by simp [dropMoved], fun w hw => ?_, fun l c hc =>
        dropMoved_releases hc _ l⟩
      obtain ⟨hin, hbit⟩ := List.mem_filter.mp hw
      exact ⟨by simpa using hin, by simpa using hbit⟩
    case resume =>
      rw [exec_placementResume, execPlacementResume]
      refine gives_next ?_
      rw [if_pos ⟨hstate, hat, hmacro, hready⟩]
      dsimp only
      rw [raise_ctl, foldl_modTask_ctl]
      exact ⟨rfl, rfl, rfl⟩
    case fallback =>
      rw [exec_fallbackMove, execFallbackMove]
      refine gives_next ?_
      have htri : (s.atTime n).triple d.core = false := htriple
      have hlane : (s.atTime n).startLane d = some l := hstart
      have hother : some l ≠ ((s.atTime n).task k).onLane := Ne.symm hcur
      simp only [show (s.atTime n).taskDef k = some d from hdef]
      rw [if_neg (by simp [htri, hmacro, hready, hlane, hother])]
      have hctl (q : State) (c : Prop) [Decidable c] (data : Bytes) :
          (if c then raise evFallbackApplied data q else q).ctl = q.ctl := by split <;> simp
      refine ⟨?_, fun j hj => ?_, ?_⟩
      · rw [State.task_of_ctl (hctl _ _ _), State.modTask_self (s := s.atTime n) hshaped.tasks, hlane]
        rfl
      · rw [State.task_of_ctl (hctl _ _ _), State.modTask_other hj]
        rfl
      · rw [hctl]
        rfl
  case debugger =>
    intro n s
    dsimp only
    intro hmode hdebug
    have hdebugging : (s.atTime n).debugging = true := by simp [State.debugging, hmode, hdebug]
    refine ⟨fun pc => ?breakpoint, ?run, fun k => ?step, fun core w r hrun => ?writes, fun pc r hfind hbreak => ?hit⟩
    case breakpoint =>
      rw [exec_debugBreakpoint, execDebugBreakpoint]
      refine gives_next ?_
      rw [if_pos hdebugging]
      refine ⟨by simp [logDebug], fun b hb => ?_, rfl⟩
      by_cases h : b = pc <;> simp [logDebug, h, hb]
    case run =>
      rw [exec_debugRun, execDebugRun]
      refine gives_next ?_
      rw [if_pos hdebugging]
      exact ⟨rfl, rfl⟩
    case step =>
      rw [exec_debugStep, execDebugStep]
      refine gives_next ?_
      rw [if_pos hdebugging]
      exact ⟨rfl, rfl⟩
    case writes =>
      rw [exec_debugWriteVariable, execDebugWriteVariable]
      refine gives_next ?_
      simp only [show (s.atTime n).running .A core = some r from hrun]
      rw [if_pos hdebugging]
      obtain ⟨f, hsays, hctl⟩ := debugReplay_ctl .A core (logDebug 4 { s.atTime n with ctl := { s.ctl with
        debugWrites := s.ctl.debugWrites ++ [{ core, task := r.task, opened := r.opened, steps := r.steps, write := w, made := [] }] } })
      rw [show (s.atTime n).ctl = s.ctl from rfl, hctl]
      refine ⟨by simp [logDebug], ?_, rfl⟩
      have hlast := hsays { core, task := r.task, opened := r.opened, steps := r.steps, write := w, made := [] }
      simpa [logDebug, DebugWrite.says] using hlast
    case hit =>
      rw [exec_breakpointHit, execBreakpointHit]
      refine gives_next ?_
      simp only [show coreNos.findSome? (fun c => ((s.atTime n).running .A c).filter (fun r => r.pc = pc)) = some r from hfind]
      rw [if_pos ⟨hdebugging, hbreak⟩]

end Sys2Proof.Machine
end


section
/-! Translation of an image (O31: R119, R50, R131, R149) and pair negotiation (R339, R340). -/

namespace Sys2Proof.Machine

/-! ### Bits of a warm restart -/

theorem testBit_setOnce (m i : Nat) : (if m.testBit i then m else m + 2 ^ i).testBit i = true := by
  split
  · assumption
  next h => rw [Nat.add_comm, Nat.testBit_two_pow_add_eq, Bool.not_eq_true', Bool.eq_false_iff.mpr h]

/-- Setting a higher bit that is not set leaves the lower ones. -/
theorem testBit_add_of_lt {m i j : Nat} (h : i < j) : (m + 2 ^ j).testBit i = m.testBit i := by
  rw [Nat.add_comm, Nat.testBit_two_pow_add_gt h]

/-- A marked lane has reset, and has passed when its check did. -/
theorem warmMark_bits {ln : Lane} {ok : Bool} {s : State} {m : Nat} (h : s.ctl.warmRestart = some m) :
    ∃ k, (warmMark ln ok s).ctl.warmRestart = some k ∧ k.testBit (laneNo ln) = true ∧
      (ok = true → k.testBit (3 + laneNo ln) = true) := by
  unfold warmMark
  simp only [h]
  generalize ha : (if m.testBit (laneNo ln) then m else m + 2 ^ laneNo ln) = a
  have hreset : a.testBit (laneNo ln) = true := by rw [← ha]; exact testBit_setOnce m (laneNo ln)
  refine ⟨_, rfl, ?_, fun hok => ?_⟩
  · split
    · rw [testBit_add_of_lt (by omega)]; exact hreset
    · exact hreset
  · have hmarked := testBit_setOnce a (3 + laneNo ln)
    cases hbit : a.testBit (3 + laneNo ln)
    · simpa [hok, hbit] using hmarked
    · simp [hbit]

/-! ### The exchange -/

/-- A lane that has translated the new image keeps it while another lane that is IN has not delivered its digest. -/
theorem exchangeTranslated_of_waiting {ln l : Lane} {native : List Word} {app : AppImage} {s : State}
    (hstep : s.pair.exchangeStep = 0) (hload : s.loaded s.otherBytes = some app) (hl : l ≠ ln) (hin : (s.lane l).state = .isIn)
    (hnone : (s.lane l).digest = none) : exchangeTranslated ln native s = s.modLane ln (fun l =>
      { l with nativeNew := native, digest := some (translationDigest native app.ident s.edition) }) := by
  unfold exchangeTranslated
  rw [if_neg (by rw [hstep]; decide)]
  simp only [hload]
  refine if_neg fun hall => ?_
  have hmem : l ∈ (s.modLane ln (fun l =>
      { l with nativeNew := native, digest := some (translationDigest native app.ident s.edition) })).inLanes := by
    refine List.mem_filter.mpr ⟨by cases l <;> decide, ?_⟩
    rw [State.modLane_other hl]
    exact decide_eq_true hin
  have h := List.all_eq_true.mp hall l hmem
  rw [State.modLane_other hl, hnone] at h
  exact Bool.noConfusion h

/-! ### Negotiation -/

theorem sendControl_pairReason (m : ControlMsg) (s : State) (p : PartnerId) : (sendControl m s).pairReason p = s.pairReason p := rfl

theorem driveOn_fields (s : State) : (driveOn s).pair = { s.pair with drive := true } ∧ (driveOn s).tel.publishing = true := by
  unfold driveOn
  extract_lets t1 s1
  split
  next h => exact ⟨by rw [← h], rfl⟩
  · exact ⟨rfl, rfl⟩

/-- With no partner heard the module is negotiated alone, and drives under a lease or asks for one. -/
theorem negotiate_none (s : State) :
    (negotiate none s).pair.negotiated = true ∧ (negotiate none s).pair.partnerId = none ∧
    (negotiate none s).pair.state = s.pair.state ∧
    (s.leaseHeld = true → (negotiate none s).pair.drive = true ∧ (negotiate none s).tel.publishing = true) ∧
    (s.leaseHeld = false → (negotiate none s).pair.requestAt = some s.time.now ∧ (negotiate none s).pair.drive = s.pair.drive) := by
  have hcases : negotiate none s = if s.leaseHeld = true then
      driveOn { s with pair := { s.pair with negotiated := true, partnerId := none } }
      else sendRequestLease { s with pair := { s.pair with negotiated := true, partnerId := none } } := rfl
  rw [hcases]
  split
  next h =>
    obtain ⟨hpair, hpub⟩ := driveOn_fields { s with pair := { s.pair with negotiated := true, partnerId := none } }
    rw [hpair]
    exact ⟨rfl, rfl, rfl, fun _ => ⟨rfl, hpub⟩, fun hnot => absurd (h.symm.trans hnot) (by decide)⟩
  next h => exact ⟨rfl, rfl, rfl, fun hheld => absurd hheld h, fun _ => ⟨rfl, rfl⟩⟩

theorem setPair_pair (new : PState) (trigger : Nat) (s : State) :
    ∃ x, (setPair new trigger s).pair = { s.pair with state := new, standbySince := x } := by
  unfold setPair
  dsimp only
  split
  next h => exact ⟨s.pair.standbySince, by rw [← h]⟩
  · exact ⟨_, by rw [raise_pair]⟩

theorem pairRefused_pair (r : Nat) (s : State) :
    ∃ x, (pairRefused r s).pair = { s.pair with reason := r, negotiated := true, state := .out, standbySince := x } := by
  unfold pairRefused
  obtain ⟨x, h⟩ := setPair_pair .out evPairRefused.toNat (raiseIf (decide (r = 3)) evMapPairMismatch []
    (raise evPairRefused [BitVec.ofNat 8 r] { s with pair := { s.pair with reason := r, negotiated := true } }))
  rw [raiseIf_pair, raise_pair] at h
  exact ⟨x, h⟩

/-- Settles O31: the four occasions of a translation, and the two outcomes of a negotiation. -/
theorem translationAndNegotiation : Obligations.TranslationAndNegotiation := by
  refine ⟨?translation, ?negotiation⟩
  case translation =>
    intro n ln native s
    dsimp only
    refine ⟨fun app hmode hstage hwarm hload => ?starts, fun m hnot hrestart => ?warm, fun hmode hrestart hstate hsince hok => ?reint,
      fun app since hmode hrestart hin hex hstep hload hother => ?exchange⟩
    case starts =>
      rw [exec_translationComplete, execTranslationComplete]
      refine gives_next ?_
      rw [if_pos ⟨hmode, hstage, hwarm⟩, startTranslated]
      simp only [show (s.atTime n).loaded (s.atTime n).slotBytes = some app from hload]
      exact ⟨by rw [State.modLane_lane], by rw [State.modLane_lane], by rw [State.modLane_lane]; rfl, fun l hl => State.modLane_other hl⟩
    case warm =>
      rw [exec_translationComplete, execTranslationComplete]
      refine gives_next ?_
      have hsome : s.ctl.warmRestart.isSome = true := by rw [hrestart]; rfl
      simp only [State.atTime_ctl, hnot, hsome, if_false, if_true]
      obtain ⟨k, hk, hreset, hpassed⟩ := warmMark_bits (ln := ln) (ok := (s.atTime n).nativeOk native)
        (s := (s.atTime n).modLane ln (fun l => { l with native })) (m := m) (by simpa using hrestart)
      refine ⟨by rw [warmMark_lane, State.modLane_lane], by rw [hk]; exact Option.some_ne_none k, fun j hj => ?_⟩
      rw [hk] at hj
      obtain rfl := Option.some.inj hj
      exact ⟨hreset, hpassed⟩
    case reint =>
      rw [exec_translationComplete, execTranslationComplete]
      refine gives_next ?_
      simp only [State.atTime_ctl, hmode, hrestart, State.atTime_lane, hstate, hsince, reduceCtorEq, false_and, if_false,
        Option.isSome_none, Bool.false_eq_true, and_self, if_true]
      rw [reintTranslated, if_pos (show (s.atTime n).nativeOk native = true from hok), State.modLane_lane]
      exact ⟨rfl, rfl, hstate⟩
    case exchange =>
      rw [exec_translationComplete, execTranslationComplete]
      refine gives_next ?_
      simp only [State.atTime_ctl, hmode, hrestart, State.atTime_lane, hin, hex, reduceCtorEq, false_and, if_false,
        Option.isSome_none, Bool.false_eq_true, Option.isSome_some, if_true]
      obtain ⟨l, hl, hlin, hnone⟩ := hother
      rw [exchangeTranslated_of_waiting (s := s.atTime n) hstep hload hl hlin hnone]
      exact ⟨by rw [State.modLane_lane], by rw [State.modLane_lane]; rfl, by rw [State.modLane_lane]; rfl, by rw [State.modLane_ctl]; exact hex⟩
  case negotiation =>
    intro n s
    dsimp only
    intro hpair hneg hstage hmode
    refine ⟨?alone, fun p hrun hreason => ?refused⟩
    case alone =>
      rw [exec_pairNegotiation, execPairNegotiation]
      refine gives_next ?_
      rw [if_pos ⟨by simp [hpair, hneg], hstage, hmode⟩]
      by_cases hrun : s.sw.running = true
      · rw [if_pos (show (s.atTime n).sw.running = true from hrun)]
        obtain ⟨hneg, hid, hstate, hheld, hfree⟩ := negotiate_none (sendControl (.identity (s.atTime n).identity) (s.atTime n))
        exact ⟨hneg, hid, hstate, fun _ => ⟨hheld, hfree⟩⟩
      · rw [if_neg (show ¬ (s.atTime n).sw.running = true from hrun)]
        have hpairNet := (only_of_startNetwork (s.atTime n)).pair rfl
        generalize startNetwork (s.atTime n) = w at hpairNet ⊢
        obtain ⟨hneg, hid, hstate, -⟩ := negotiate_none (sendControl (.identity w.identity) w)
        have hkeeps : (sendControl (.identity w.identity) w).pair.state = s.pair.state := by
          rw [show (sendControl (.identity w.identity) w).pair.state = w.pair.state from rfl, hpairNet]
          rfl
        exact ⟨hneg, hid, hstate.trans hkeeps, fun h => absurd h hrun⟩
    case refused =>
      rw [exec_pairNegotiation, execPairNegotiation]
      refine gives_next ?_
      rw [if_pos ⟨by simp [hpair, hneg], hstage, hmode⟩]
      simp only [State.atTime_sw, hrun, if_true, negotiate]
      rw [sendControl_pairReason _ (s.atTime n), if_pos hreason]
      obtain ⟨x, h⟩ := pairRefused_pair ((s.atTime n).pairReason p) { sendControl (.identity (s.atTime n).identity) (s.atTime n) with
        pair := { (sendControl (.identity (s.atTime n).identity) (s.atTime n)).pair with partnerId := some p } }
      rw [h]
      exact ⟨rfl, rfl, rfl, rfl⟩

end Sys2Proof.Machine
end


section
/-! What the operations of the Safety Evaluation Fabric leave (chapter 6): its outputs, its instances, its samples. -/

namespace Sys2Proof.Machine

/-! ### Sums of bits -/

/-- Bit `i` of the number whose bits are given by a test. -/
theorem testBit_foldl_bits (f : Nat → Bool) (n i : Nat) :
    (List.range n).foldl (fun a g => a + b2n (f g) * 2 ^ g) 0 < 2 ^ n ∧
    ((List.range n).foldl (fun a g => a + b2n (f g) * 2 ^ g) 0).testBit i = (decide (i < n) && f i) := by
  induction n with
  | zero => simp
  | succ n ih =>
    rw [List.range_succ, List.foldl_append, List.foldl_cons, List.foldl_nil]
    obtain ⟨hlt, hbit⟩ := ih
    generalize (List.range n).foldl (fun a g => a + b2n (f g) * 2 ^ g) 0 = a at hlt hbit
    rw [Nat.add_comm a, Nat.mul_comm]
    refine ⟨?_, ?_⟩
    · have hone : b2n (f n) ≤ 1 := by unfold b2n; split <;> omega
      have := Nat.mul_le_mul_left (2 ^ n) hone
      rw [pow_succ]
      omega
    · rw [Nat.testBit_two_pow_mul_add _ hlt]
      by_cases hi : i < n
      · rw [if_pos hi, hbit]
        simp [hi, Nat.lt_succ_of_lt hi]
      · rw [if_neg hi]
        by_cases he : i = n
        · subst he
          cases f i <;> simp [b2n]
        · have hgt : 1 < 2 ^ (i - n) := Nat.one_lt_two_pow (by omega)
          have hbound : b2n (f n) < 2 ^ (i - n) := by unfold b2n; split <;> omega
          rw [Nat.testBit_lt_two_pow hbound]
          simp [show ¬ i < n + 1 by omega]

/-! ### The fabric's outputs (R168, R173) -/

theorem SameButCommands.insts {s t : State} (h : SameButCommands s t) : t.fab.insts = s.fab.insts := by rw [h]

theorem SameButCommands.inst {s t : State} (h : SameButCommands s t) (i : Nat) : t.inst i = s.inst i := by
  unfold State.inst
  rw [h.insts]

theorem refreshWith_sameButCommands (always : Bool) (s : State) : SameButCommands s (refreshWith always s) := by
  have hfold (l : List (Fin 8)) (t : State) : SameButCommands t (l.foldl (fun q g => driveGroup always g q) t) := by
    induction l generalizing t with
    | nil => rfl
    | cons g l ih => exact (driveGroup_sameButCommands always g t).trans (ih _)
  exact SameButCommands.trans (s := s) (t := keepalives s) rfl (hfold groupNos _)

@[simp] theorem pairRelease_fab (s : State) : (pairRelease s).fab = s.fab :=
  (only_pairRelease (m0 := [.pair, .sent]) rfl s (Only.refl _ s)).fab rfl

@[simp] theorem pairRelease_fio (s : State) : (pairRelease s).fio = s.fio :=
  (only_pairRelease (m0 := [.pair, .sent]) rfl s (Only.refl _ s)).fio rfl

@[simp] theorem pairRelease_ctl (s : State) : (pairRelease s).ctl = s.ctl :=
  (only_pairRelease (m0 := [.pair, .sent]) rfl s (Only.refl _ s)).ctl rfl rfl

/-- A change of the fabric ends with its outputs brought up to date, and at most with a RELEASE of the pair (R353). -/
theorem fabricChanged_fab (s : State) : (fabricChanged s).fab = (refresh s).fab := by
  unfold fabricChanged
  dsimp only
  split
  · rw [pairRelease_fab]
  · rfl

theorem fabricChanged_fio (s : State) : (fabricChanged s).fio = (refresh s).fio := by
  unfold fabricChanged
  dsimp only
  split
  · rw [pairRelease_fio]
  · rfl

@[simp] theorem fabricChanged_ctl (s : State) : (fabricChanged s).ctl = s.ctl := by
  unfold fabricChanged
  dsimp only
  split
  · rw [pairRelease_ctl, refresh_ctl]
  · rw [refresh_ctl]

theorem fabricChanged_sameButCommands (s : State) : SameButCommands s (fabricChanged s) := by
  unfold SameButCommands
  rw [fabricChanged_fab]
  exact refresh_sameButCommands s

@[simp] theorem fabricChanged_inst (s : State) (i : Nat) : (fabricChanged s).inst i = s.inst i :=
  (fabricChanged_sameButCommands s).inst i

theorem driveGroup_keepalive (always : Bool) (g : Fin 8) (s : State) :
    (driveGroup always g s).fab.keepalive = s.fab.keepalive := by
  unfold driveGroup
  dsimp only
  split_ifs <;> rfl

/-- The keepalive of a group runs exactly under the conditions of R173. -/
theorem fabricChanged_keepalive (s : State) {g : Nat} (hg : g < 8) :
    (fabricChanged s).fab.keepalive.getLsbD g = s.keepaliveOk g := by
  have hdrive (l : List (Fin 8)) (t : State) :
      (l.foldl (fun q g => driveGroup false g q) t).fab.keepalive = t.fab.keepalive := by
    induction l generalizing t with
    | nil => rfl
    | cons k l ih => exact (ih _).trans (driveGroup_keepalive false k t)
  rw [fabricChanged_fab, refresh, refreshWith, hdrive, keepalives]
  simp only [BitVec.getLsbD_ofNat, hg, decide_true, Bool.true_and]
  rw [(testBit_foldl_bits s.keepaliveOk 8 g).2]
  simp [hg]

/-- Without the conditions of R173 no keepalive runs. -/
theorem fabricChanged_keepalive_zero {s : State} (h : ∀ g, s.keepaliveOk g = false) : (fabricChanged s).fab.keepalive = 0 := by
  refine BitVec.eq_of_getLsbD_eq fun g hg => ?_
  rw [fabricChanged_keepalive s hg, h g]
  simp

/-- A group whose fabric link is down takes no commands (R154). -/
theorem driveGroup_group {always : Bool} {g k : Fin 8} {s : State} (h : s.fab.linkOk.getLsbD g.val = false) :
    (driveGroup always k s).group g = s.group g := by
  have hmod (t : State) (f : Group → Group) (htg : t.fio = s.fio) :
      (if s.fab.linkOk.getLsbD k.val then t.modGroup k f else t).group g = s.group g := by
    by_cases hk : g = k
    · subst hk
      rw [h, if_neg Bool.false_ne_true]
      exact congrArg (fun x => x.groups[g.val]?.getD {}) htg
    · split
      · rw [State.modGroup_other hk]
        exact congrArg (fun x => x.groups[g.val]?.getD {}) htg
      · exact congrArg (fun x => x.groups[g.val]?.getD {}) htg
  unfold driveGroup
  dsimp only
  split
  · exact hmod _ _ rfl
  · exact hmod _ _ rfl

theorem keepalives_group (s : State) (g : Fin 8) : (keepalives s).group g = s.group g := rfl

theorem fabricChanged_group {g : Fin 8} {s : State} (h : s.fab.linkOk.getLsbD g.val = false) :
    (fabricChanged s).group g = s.group g := by
  have hfold (l : List (Fin 8)) (t : State) (ht : t.fab.linkOk.getLsbD g.val = false) :
      (l.foldl (fun q k => driveGroup false k q) t).group g = t.group g := by
    induction l generalizing t with
    | nil => rfl
    | cons k l ih =>
      refine (ih _ ?_).trans (driveGroup_group ht)
      rw [driveGroup_sameButCommands false k t]
      exact ht
  have hfio : (fabricChanged s).group g = (refresh s).group g := by
    unfold State.group
    rw [fabricChanged_fio]
  rw [hfio, refresh, refreshWith, hfold groupNos (keepalives s) h, keepalives_group]

/-! ### Instances -/

/-- Two states whose fabrics differ in their instances alone. -/
def SameButInsts (s t : State) : Prop := t.fab = { s.fab with insts := t.fab.insts }

theorem SameButInsts.trans {s t u : State} (h : SameButInsts s t) (k : SameButInsts t u) : SameButInsts s u := by
  unfold SameButInsts at *
  rw [k, h]

theorem SameButInsts.raiseFab {s t : State} {c : Code} {d : Bytes} (h : SameButInsts s t) : SameButInsts s (raiseFab c d t) := by
  unfold SameButInsts at *
  rw [raiseFab_fab]
  exact h

theorem State.modInst_sameButInsts (s : State) (i : Nat) (f : Inst → Inst) : SameButInsts s (s.modInst i f) := rfl

theorem SameButInsts.modInst {s t : State} {i : Nat} {f : Inst → Inst} (h : SameButInsts s t) : SameButInsts s (t.modInst i f) :=
  h.trans (State.modInst_sameButInsts t i f)

theorem SameButInsts.foldl {α : Type} {f : State → α → State} (hf : ∀ s a, SameButInsts s (f s a)) (l : List α) (s : State) :
    SameButInsts s (l.foldl f s) := by
  induction l generalizing s with
  | nil => rfl
  | cons a l ih => exact (hf s a).trans (ih _)

theorem SameButInsts.mapInst {s t : State} (h : SameButInsts s t) (i : Nat) : t.mapInst i = s.mapInst i := by
  unfold State.mapInst State.smap
  rw [h]

theorem SameButInsts.lockout {s t : State} (h : SameButInsts s t) : t.fab.lockout = s.fab.lockout := by rw [h]

theorem State.modInst_inst_of_lt {s : State} {i : Nat} {f : Inst → Inst} (h : i < s.fab.insts.length) :
    (s.modInst i f).inst i = f (s.inst i) := getD_modAt h

@[simp] theorem State.modInst_insts_length (s : State) (i : Nat) (f : Inst → Inst) :
    (s.modInst i f).fab.insts.length = s.fab.insts.length := List.length_modify _ _ _

@[simp] theorem raiseFab_inst (c : Code) (d : Bytes) (s : State) (i : Nat) : (raiseFab c d s).inst i = s.inst i := by
  unfold State.inst
  rw [raiseFab_fab]

theorem enterTripped_sameButInsts (i : Nat) (m : MapInst) (c : BitVec 8) (s : State) : SameButInsts s (enterTripped i m c s) :=
  SameButInsts.raiseFab rfl

theorem enterRun_sameButInsts (i : Nat) (s : State) : SameButInsts s (enterRun i s) := SameButInsts.raiseFab rfl

theorem enterLocked_sameButInsts (i : Nat) (c : BitVec 8) (s : State) : SameButInsts s (enterLocked i c s) := by
  unfold enterLocked
  dsimp only
  split
  · exact SameButInsts.raiseFab rfl
  · rfl

/-- A RUN or TRIPPED safety function is LOCKED (R162). -/
theorem enterLocked_inst {i : Nat} {c : BitVec 8} {s : State} (hi : i < s.fab.insts.length) (hclear : s.fab.lockout = 0)
    (hactive : (s.inst i).state = .run ∨ (s.inst i).state = .tripped) :
    ((enterLocked i c s).inst i).state = .locked ∧ ((enterLocked i c s).inst i).cause = c := by
  unfold enterLocked
  dsimp only
  rw [if_pos ⟨hclear, hactive⟩, raiseFab_inst, State.modInst_inst_of_lt hi]
  exact ⟨rfl, rfl⟩

theorem enterLocked_other {i k : Nat} {c : BitVec 8} {s : State} (h : k ≠ i) : (enterLocked i c s).inst k = s.inst k := by
  unfold enterLocked
  dsimp only
  split
  · rw [raiseFab_inst, State.modInst_other h]
  · rfl

/-- A LOCKED safety function stays as it is. -/
theorem enterLocked_of_locked {i k : Nat} {c : BitVec 8} {s : State} (h : (s.inst k).state = .locked) :
    (enterLocked i c s).inst k = s.inst k := by
  by_cases hk : k = i
  · subst hk
    unfold enterLocked
    dsimp only
    rw [if_neg]
    rintro ⟨-, hs | hs⟩ <;> rw [h] at hs <;> cases hs
  · exact enterLocked_other hk

theorem enterLocked_insts_length (i : Nat) (c : BitVec 8) (s : State) :
    (enterLocked i c s).fab.insts.length = s.fab.insts.length := by
  unfold enterLocked
  dsimp only
  split
  · rw [raiseFab_fab, State.modInst_insts_length]
  · rfl

theorem enterLocked_foldl_of_locked {l : List Nat} {k : Nat} {c : BitVec 8} {s : State} (h : (s.inst k).state = .locked) :
    (l.foldl (fun q i => enterLocked i c q) s).inst k = s.inst k := by
  induction l generalizing s with
  | nil => rfl
  | cons i l ih =>
    have hstep := enterLocked_of_locked (i := i) (c := c) h
    exact (ih (by rw [hstep]; exact h)).trans hstep

/-- Every RUN or TRIPPED safety function of a list is LOCKED with the cause. -/
theorem enterLocked_foldl {l : List Nat} {k : Nat} {c : BitVec 8} {s : State} (hk : k ∈ l) (hlt : k < s.fab.insts.length)
    (hclear : s.fab.lockout = 0) (hactive : (s.inst k).state = .run ∨ (s.inst k).state = .tripped) :
    ((l.foldl (fun q i => enterLocked i c q) s).inst k).state = .locked ∧
    ((l.foldl (fun q i => enterLocked i c q) s).inst k).cause = c := by
  induction l generalizing s with
  | nil => cases hk
  | cons i l ih =>
    by_cases he : k = i
    · subst he
      obtain ⟨hstate, hcause⟩ := enterLocked_inst (c := c) hlt hclear hactive
      rw [List.foldl_cons, enterLocked_foldl_of_locked hstate]
      exact ⟨hstate, hcause⟩
    · have hmem : k ∈ l := (List.mem_cons.mp hk).resolve_left he
      refine ih hmem ?_ ?_ ?_
      · rw [enterLocked_insts_length]; exact hlt
      · rw [(enterLocked_sameButInsts i c s).lockout]; exact hclear
      · rw [enterLocked_other he]; exact hactive

theorem enterTripped_inst {i : Nat} {m : MapInst} {c : BitVec 8} {s : State} (hi : i < s.fab.insts.length) :
    (enterTripped i m c s).inst i = { s.inst i with state := .tripped, cause := c, owed := owedAfter m c, tt := 0, warn := false } := by
  rw [enterTripped, raiseFab_inst, State.modInst_inst_of_lt hi]

theorem enterTripped_other {i k : Nat} {m : MapInst} {c : BitVec 8} {s : State} (h : k ≠ i) :
    (enterTripped i m c s).inst k = s.inst k := by
  rw [enterTripped, raiseFab_inst, State.modInst_other h]

theorem enterTripped_insts_length (i : Nat) (m : MapInst) (c : BitVec 8) (s : State) :
    (enterTripped i m c s).fab.insts.length = s.fab.insts.length := by
  rw [enterTripped, raiseFab_fab, State.modInst_insts_length]

theorem enterRun_inst {i : Nat} {s : State} (hi : i < s.fab.insts.length) :
    (enterRun i s).inst i = { s.inst i with state := .run, owed := false, v := 0 } := by
  rw [enterRun, raiseFab_inst, State.modInst_inst_of_lt hi]

theorem enterReset_sameButInsts (i : Nat) (m : MapInst) (s : State) : SameButInsts s (enterReset i m s) :=
  SameButInsts.raiseFab (SameButInsts.raiseFab rfl)

theorem enterReset_inst {i : Nat} {m : MapInst} {s : State} (hi : i < s.fab.insts.length) :
    ((enterReset i m s).inst i).state = .tripped ∧ ((enterReset i m s).inst i).cause = 0x15 := by
  rw [enterReset, raiseFab_inst, raiseFab_inst, State.modInst_inst_of_lt hi]
  exact ⟨rfl, rfl⟩

theorem enterReset_other {i k : Nat} {m : MapInst} {s : State} (h : k ≠ i) : (enterReset i m s).inst k = s.inst k := by
  rw [enterReset, raiseFab_inst, raiseFab_inst, State.modInst_other h]

theorem State.mem_instsWhere {s : State} {p : MapInst → Bool} {i : Nat} {m : MapInst} (hi : i < 16) (hm : s.mapInst i = some m)
    (hp : p m = true) : i ∈ s.instsWhere p :=
  List.mem_filter.mpr ⟨List.mem_range.mpr hi, by rw [hm]; exact hp⟩

/-! ### Time leaves the fabric -/

@[simp] theorem State.atTime_inst (s : State) (t i : Nat) : (s.atTime t).inst i = s.inst i := rfl
@[simp] theorem State.atTime_mapInst (s : State) (t i : Nat) : (s.atTime t).mapInst i = s.mapInst i := rfl

theorem State.atTime_insts_length {s : State} {t : Nat} (h : s.Shaped) : (s.atTime t).fab.insts.length = 16 := h.insts

/-! ### Samples (R164, R190) -/

theorem checkDiscrepancy_sameButInsts (i : Nat) (s : State) : SameButInsts s (checkDiscrepancy i s) := by
  unfold checkDiscrepancy
  split
  · rfl
  · dsimp only
    split
    · exact enterLocked_sameButInsts _ _ _
    · rfl

theorem checkRestore_sameButInsts (i : Nat) (s : State) : SameButInsts s (checkRestore i s) := by
  unfold checkRestore
  split
  · rfl
  · dsimp only
    split
    · exact enterRun_sameButInsts _ _
    · rfl

theorem checkWarning_sameButInsts (i : Nat) (s : State) : SameButInsts s (checkWarning i s) := by
  unfold checkWarning
  split
  · rfl
  · dsimp only
    split
    · exact SameButInsts.raiseFab rfl
    · rfl

theorem checkVigilance_sameButInsts (i : Nat) (s : State) : SameButInsts s (checkVigilance i s) := by
  unfold checkVigilance
  split
  · rfl
  · dsimp only
    split
    · exact enterTripped_sameButInsts _ _ _ _
    · rfl

theorem senseInst_sameButInsts (i : Nat) (m : MapInst) (s : State) : SameButInsts s (senseInst i m s) := rfl

theorem evalPair_sameButInsts (i : Nat) (m : MapInst) (s : State) : SameButInsts s (evalPair i m s) := by
  unfold evalPair
  dsimp only
  split
  · split
    · exact enterTripped_sameButInsts _ _ _ _
    · split
      · exact enterTripped_sameButInsts _ _ _ _
      · rfl
  · split
    · exact enterRun_sameButInsts _ _
    · rfl

theorem evalDsd_sameButInsts (i : Nat) (m : MapInst) (s : State) : SameButInsts s (evalDsd i m s) := by
  unfold evalDsd
  extract_lets q hh ph press cab w v1 own s0 s1 r s2 s3
  have h1 : SameButInsts s s1 := by
    unfold s1
    split
    · exact (State.modInst_sameButInsts _ _ _).trans (enterTripped_sameButInsts _ _ _ _)
    · exact State.modInst_sameButInsts _ _ _
  have h2 : SameButInsts s s2 := h1.modInst
  have h3 : SameButInsts s s3 := h1.modInst
  split
  · split
    · exact h2.trans (enterRun_sameButInsts _ _)
    · exact h2
  · split
    · exact h1.modInst
    · split
      · split
        · exact h3.trans (enterRun_sameButInsts _ _)
        · exact h3
      · exact h1

theorem evalInst_sameButInsts (s : State) (i : Nat) : SameButInsts s (evalInst s i) := by
  unfold evalInst
  split
  · rfl
  next m hm =>
    split
    · exact senseInst_sameButInsts _ _ _
    · have hsense : SameButInsts s (senseInst i m (checkRestore i (checkVigilance i (checkWarning i (checkDiscrepancy i s))))) :=
        ((((checkDiscrepancy_sameButInsts i s).trans (checkWarning_sameButInsts _ _)).trans
          (checkVigilance_sameButInsts _ _)).trans (checkRestore_sameButInsts _ _)).trans (senseInst_sameButInsts _ _ _)
      dsimp only
      split
      · exact hsense.trans (evalDsd_sameButInsts _ _ _)
      · exact hsense.trans (evalPair_sameButInsts _ _ _)

end Sys2Proof.Machine
end


section
/-! Samples and limits of the Safety Evaluation Fabric (O32: R154, R163, R164, R167, R190). -/

namespace Sys2Proof.Machine

/-- Request bits that take effect leave what the fabric hears. -/
theorem takeRequests_inputs (s : State) : (takeRequests s).fab.taps = s.fab.taps ∧ (takeRequests s).fab.lowRb = s.fab.lowRb ∧
    (takeRequests s).fab.highRb = s.fab.highRb ∧ (takeRequests s).fab.linkAt = s.fab.linkAt := by
  unfold takeRequests
  split
  · split
    · dsimp only
      rw [SameButInsts.foldl (fun q i => State.modInst_sameButInsts q i _) (List.range 16) _]
      exact ⟨rfl, rfl, rfl, rfl⟩
    · exact ⟨rfl, rfl, rfl, rfl⟩
  · exact ⟨rfl, rfl, rfl, rfl⟩

theorem endPulseOnTrip_fields (s : State) : (endPulseOnTrip s).fab.insts = s.fab.insts ∧
    (endPulseOnTrip s).fab.taps = s.fab.taps ∧ (endPulseOnTrip s).fab.lowRb = s.fab.lowRb ∧
    (endPulseOnTrip s).fab.highRb = s.fab.highRb ∧ (endPulseOnTrip s).fab.linkAt = s.fab.linkAt := by
  unfold endPulseOnTrip
  split
  · split <;> exact ⟨rfl, rfl, rfl, rfl, rfl⟩
  · exact ⟨rfl, rfl, rfl, rfl, rfl⟩

theorem endLinkRuns_inputs (s : State) : (endLinkRuns s).fab.taps = s.fab.taps ∧ (endLinkRuns s).fab.lowRb = s.fab.lowRb ∧
    (endLinkRuns s).fab.highRb = s.fab.highRb ∧ (endLinkRuns s).fab.linkAt = s.fab.linkAt := ⟨rfl, rfl, rfl, rfl⟩

/-- The end of a sample: the instances are evaluated on what the links brought. -/
theorem sampleEnd_fields (s1 : State) :
    let t := fabricChanged (refreshWith true (endPulseOnTrip ((List.range 16).foldl evalInst (takeRequests s1))))
    t.fab.insts = ((List.range 16).foldl evalInst (takeRequests s1)).fab.insts ∧
    t.fab.taps = s1.fab.taps ∧ t.fab.lowRb = s1.fab.lowRb ∧ t.fab.highRb = s1.fab.highRb ∧ t.fab.linkAt = s1.fab.linkAt := by
  dsimp only
  rw [(refreshWith_sameButCommands true _).trans (fabricChanged_sameButCommands _)]
  dsimp only
  obtain ⟨hi, ht, hl, hh, ha⟩ := endPulseOnTrip_fields ((List.range 16).foldl evalInst (takeRequests s1))
  obtain ⟨ht', hl', hh', ha'⟩ := takeRequests_inputs s1
  rw [hi, ht, hl, hh, ha, SameButInsts.foldl evalInst_sameButInsts (List.range 16) (takeRequests s1)]
  exact ⟨rfl, ht', hl', hh', ha'⟩

/-- A frame with a right CRC and the next SEQ is the group's latest (R186, R190). -/
theorem takeLinkFrame_valid {f : BitVec 96} {s : State} (hcrc : crc16 (beBytes 10 (f.toNat / 2 ^ 16)) = f.toNat % 2 ^ 16)
    (hseq : ∀ p, s.fab.linkSeq[field f.toNat 87 85]?.getD none = some p → BitVec.ofNat 8 (field f.toNat 95 88) = p + 1) :
    (takeLinkFrame s f).fab.taps = s.fab.taps.set (field f.toNat 87 85) (BitVec.ofNat 16 (field f.toNat 79 64)) ∧
    (takeLinkFrame s f).fab.lowRb = s.fab.lowRb.set (field f.toNat 87 85) (BitVec.ofNat 16 (field f.toNat 63 48)) ∧
    (takeLinkFrame s f).fab.highRb = s.fab.highRb.set (field f.toNat 87 85) (BitVec.ofNat 16 (field f.toNat 47 32)) ∧
    (takeLinkFrame s f).fab.linkAt = s.fab.linkAt.set (field f.toNat 87 85) s.time.now := by
  unfold takeLinkFrame
  rw [if_neg (not_not_intro hcrc)]
  extract_lets g seq prev ok fab low count openFor stuckFor
  have hok : ok = true := by
    unfold ok prev
    split
    next p hp => exact decide_eq_true (hseq p hp)
    · rfl
  rw [hok, if_neg (by decide)]
  exact ⟨rfl, rfl, rfl, rfl⟩

theorem linkOff_bit (l : BitVec 8) (g : Fin 8) : (l &&& ~~~(BitVec.ofNat 8 (2 ^ g.val))).getLsbD g.val = false := by
  rw [BitVec.getLsbD_and, BitVec.getLsbD_not, BitVec.getLsbD_ofNat, Nat.testBit_two_pow_self]
  simp [g.isLt]

/-- A link that is silent for 100 us leaves its group's switches open and locks the instances that use it (R154). -/
theorem fabricLinkTimeout_gives {n : Nat} {s : State} {g : Fin 8} (hpower : s.fab.powered = true) (hshaped : s.Shaped)
    (hsilent : (s.fab.linkAt[g.val]?.getD 0) + 100000 ≤ (s.atTime n).time.now) :
    Gives (exec (.fabricLinkTimeout n g) s) fun t =>
      t.fab.linkOk.getLsbD g.val = false ∧ (t.group g).lowCmd = 0 ∧ (t.group g).highCmd = 0 ∧
      ∀ i m, i < 16 → s.mapInst i = some m → m.usesGroup g.val = true → s.fab.lockout = 0 →
        ((s.inst i).state = .run ∨ (s.inst i).state = .tripped) → (t.inst i).state = .locked ∧ (t.inst i).cause = 0x04 := by
  rw [exec_fabricLinkTimeout, execFabricLinkTimeout]
  refine gives_next ?_
  rw [if_pos ⟨hpower, hsilent⟩]
  extract_lets was f0 fab s1 s2
  have hs1 : s1.fab = fab ∧ s1.group g = { s.group g with lowCmd := 0, highCmd := 0 } :=
    ⟨rfl, getD_modAt (by rw [State.atTime_fio, hshaped.groups.1]; exact g.isLt)⟩
  have hinsts (i : Nat) : s1.inst i = s.inst i ∧ s1.mapInst i = s.mapInst i := ⟨rfl, rfl⟩
  have hlen : s1.fab.insts.length = 16 := hshaped.insts
  have hs2 : SameButInsts s1 s2 := SameButInsts.foldl (fun q i => enterLocked_sameButInsts i 0x04 q) _ s1
  have hfio : s2.group g = s1.group g := by
    have hfold (l : List Nat) (q : State) : (l.foldl (fun q i => enterLocked i 0x04 q) q).fio = q.fio := by
      induction l generalizing q with
      | nil => rfl
      | cons i l ih => exact (ih _).trans ((only_enterLocked (m0 := [.fab, .records]) rfl _ _ _ (Only.refl _ _)).fio rfl)
    unfold State.group
    rw [hfold]
  have hlocked (i : Nat) (m : MapInst) (hi : i < 16) (hm : s.mapInst i = some m) (huses : m.usesGroup g.val = true)
      (hclear : s.fab.lockout = 0) (hactive : (s.inst i).state = .run ∨ (s.inst i).state = .tripped) :
      (s2.inst i).state = .locked ∧ (s2.inst i).cause = 0x04 :=
    enterLocked_foldl (State.mem_instsWhere hi ((hinsts i).2.trans hm) huses) (by rw [hlen]; exact hi) hclear
      (by rw [(hinsts i).1]; exact hactive)
  have hdown : s2.fab.linkOk.getLsbD g.val = false := by
    rw [hs2, hs1.1]
    exact linkOff_bit _ g
  clear_value s2
  obtain ⟨u, hu, hufab, hufio⟩ : ∃ u, (if was then raiseFab evFabricLinkLost [BitVec.ofNat 8 (g.val + 1)] s2 else s2) = u ∧
      u.fab = s2.fab ∧ u.fio = s2.fio := by
    refine ⟨_, rfl, ?_, ?_⟩ <;> split <;> simp
  rw [hu]
  have hudown : u.fab.linkOk.getLsbD g.val = false := by rw [hufab]; exact hdown
  have hugroup : (fabricChanged u).group g = { s.group g with lowCmd := 0, highCmd := 0 } := by
    rw [fabricChanged_group hudown, ← hs1.2, ← hfio]
    unfold State.group
    rw [hufio]
  refine ⟨?_, by rw [hugroup], by rw [hugroup], fun i m hi hm huses hclear hactive => ?_⟩
  · rw [fabricChanged_sameButCommands u]
    exact hudown
  · have huinst : u.inst i = s2.inst i := by
      unfold State.inst
      rw [hufab]
    rw [fabricChanged_inst, huinst]
    exact hlocked i m hi hm huses hclear hactive

/-- Settles O32: a sample, the silent link, and the four limits of an safety function. -/
theorem fabricSamples : Obligations.FabricSamples := by
  intro n s
  dsimp only
  intro hpower hshaped
  have hsample (frames : List (BitVec 96)) : exec (.fabricLinkFrame n frames) s = .next (fabricChanged (refreshWith true (endPulseOnTrip
      ((List.range 16).foldl evalInst (takeRequests (endLinkRuns (frames.foldl takeLinkFrame (s.atTime n)))))))) := by
    rw [exec_fabricLinkFrame, execFabricLinkFrame]
    exact congrArg Host.Outcome.next (if_pos hpower)
  have hlen (i : Fin 16) : i.val < (s.atTime n).fab.insts.length := by rw [State.atTime_insts_length hshaped]; exact i.isLt
  refine ⟨fun frames => ?sample, fun f hcrc hseq => ?valid, fun f hcrc => ?invalid, fun g hsilent => fabricLinkTimeout_gives hpower hshaped hsilent,
    fun i m hm hclear hactive hover => ?discrepancy, fun i m hm hclear htripped htype hrequest howed hmet => ?restore,
    fun i m hm hclear htype hrun => ⟨fun hwarn hdue => ?warning, fun hdue => ?vigilance⟩⟩
  case sample =>
    rw [hsample]
    refine gives_next ?_
    obtain ⟨hi, ht, hl, hh, -⟩ := sampleEnd_fields (endLinkRuns (frames.foldl takeLinkFrame (s.atTime n)))
    exact ⟨hi, ht, hl, hh⟩
  case valid =>
    rw [hsample]
    refine gives_next ?_
    obtain ⟨-, ht, hl, hh, ha⟩ := sampleEnd_fields (endLinkRuns ([f].foldl takeLinkFrame (s.atTime n)))
    obtain ⟨ht', hl', hh', ha'⟩ := endLinkRuns_inputs ([f].foldl takeLinkFrame (s.atTime n))
    rw [ht, hl, hh, ha, ht', hl', hh', ha', List.foldl_cons, List.foldl_nil]
    exact takeLinkFrame_valid (s := s.atTime n) hcrc hseq
  case invalid =>
    rw [hsample]
    refine gives_next ?_
    obtain ⟨-, ht, hl, hh, ha⟩ := sampleEnd_fields (endLinkRuns ([f].foldl takeLinkFrame (s.atTime n)))
    have hsame : takeLinkFrame (s.atTime n) f = s.atTime n := if_pos hcrc
    rw [ht, hl, hh, ha, List.foldl_cons, List.foldl_nil, hsame]
    exact ⟨rfl, rfl, rfl, rfl⟩
  case discrepancy =>
    rw [exec_discrepancyTimeout, execDiscrepancyTimeout]
    refine gives_next ?_
    rw [fabricChanged_inst, checkDiscrepancy]
    simp only [State.atTime_mapInst, hm, State.atTime_inst, hover, if_true]
    exact enterLocked_inst (hlen i) hclear hactive
  case restore =>
    rw [exec_restoreDelayExpiry, execRestoreDelayExpiry]
    refine gives_next ?_
    rw [fabricChanged_inst, checkRestore]
    simp only [State.atTime_mapInst, hm]
    rw [if_pos ⟨hclear, htripped, htype, hrequest, howed, hmet⟩, enterRun_inst (hlen i)]
  case warning =>
    rw [exec_dsdWarning, execDsdWarning]
    refine gives_next ?_
    rw [fabricChanged_inst, checkWarning]
    simp only [State.atTime_mapInst, hm]
    rw [if_pos ⟨hclear, htype, hrun, hwarn, hdue⟩, raiseFab_inst, State.modInst_inst_of_lt (hlen i)]
    exact ⟨rfl, hrun⟩
  case vigilance =>
    rw [exec_vigilanceTrip, execVigilanceTrip]
    refine gives_next ?_
    rw [fabricChanged_inst, checkVigilance]
    simp only [State.atTime_mapInst, hm]
    rw [if_pos ⟨hclear, htype, hrun, hdue⟩, enterTripped_inst (hlen i)]
    exact ⟨rfl, rfl, rfl⟩

end Sys2Proof.Machine
end


section
/-! Test pulses, read-back and the deliberate resets of the fabric (O33: R162, R174 to R178). -/

namespace Sys2Proof.Machine

/-! ### A channel that fails (R174, R175) -/

theorem State.lt_of_mem_governors {s : State} {ch i : Nat} (h : i ∈ s.governors ch) : i < 16 :=
  List.mem_range.mp (List.mem_filter.mp h).1

theorem State.governors_of_fab {s t : State} (h : t.fab.map = s.fab.map) (ch : Nat) : t.governors ch = s.governors ch := by
  unfold State.governors State.instsWhere State.mapInst State.smap
  rw [h]

/-- A stopped group has no keepalive (R173). -/
theorem State.keepaliveOk_of_stopped {s : State} {g : Fin 8} {n : Nat} (h : (g, n) ∈ s.fab.stopped) : s.keepaliveOk g.val = false := by
  unfold State.keepaliveOk
  have hany : s.fab.stopped.any (fun e => e.1.val == g.val) = true := List.any_eq_true.mpr ⟨_, h, by simp⟩
  simp [hany]

/-- A failure counts, stops the group's keepalive and locks the channel's instances. -/
theorem channelFails_fields {ch : Fin 128} {cause : BitVec 8} {ev : Code} {s : State} (hlen : s.fab.insts.length = 16) :
    let t := channelFails ch cause ev s
    t.fab.testFails = satAdd 32 s.fab.testFails 1 ∧ (chGroup ch, ch.val) ∈ t.fab.stopped ∧
    t.fab.keepalive.getLsbD (chGroup ch).val = false ∧
    (∀ i ∈ s.governors ch.val, s.fab.lockout = 0 → ((s.inst i).state = .run ∨ (s.inst i).state = .tripped) →
      (t.inst i).state = .locked ∧ (t.inst i).cause = cause) ∧
    t.fab.pulse = s.fab.pulse ∧ t.fab.pulseEnd = s.fab.pulseEnd := by
  have hlocks : SameButInsts s ((s.governors ch.val).foldl (fun q i => enterLocked i cause q) s) :=
    SameButInsts.foldl (fun q i => enterLocked_sameButInsts i cause q) _ s
  have hinst (i : Nat) (hi : i ∈ s.governors ch.val) (hclear : s.fab.lockout = 0)
      (hactive : (s.inst i).state = .run ∨ (s.inst i).state = .tripped) :=
    enterLocked_foldl (c := cause) hi (by rw [hlen]; exact State.lt_of_mem_governors hi) hclear hactive
  dsimp only
  unfold channelFails
  extract_lets s1 s2 s3
  have h3 : SameButInsts s s3 := hlocks.raiseFab.raiseFab
  have h3inst (i : Nat) : s3.inst i = s1.inst i := (raiseFab_inst _ _ _ i).trans (raiseFab_inst _ _ _ i)
  clear_value s3
  generalize hu : ({ s3 with fab := _ } : State) = u
  have hfab : u.fab = { s3.fab with
      testFails := satAdd 32 s3.fab.testFails 1, stopped := (chGroup ch, ch.val) :: s3.fab.stopped } := by
    subst hu; rfl
  have huinst (i : Nat) : u.inst i = s3.inst i := by subst hu; rfl
  have hstopped : (chGroup ch, ch.val) ∈ u.fab.stopped := by rw [hfab]; exact List.mem_cons_self
  refine ⟨?_, ?_, ?_, fun i hi hclear hactive => ?_, ?_, ?_⟩
  · rw [fabricChanged_sameButCommands u, hfab, h3]
  · rw [fabricChanged_sameButCommands u]
    exact hstopped
  · rw [fabricChanged_keepalive u (chGroup ch).isLt]
    exact State.keepaliveOk_of_stopped hstopped
  · rw [fabricChanged_inst, huinst, h3inst]
    exact hinst i hi hclear hactive
  · rw [fabricChanged_sameButCommands u, hfab, h3]
  · rw [fabricChanged_sameButCommands u, hfab, h3]

/-! ### Deliberate resets (R176 to R178) -/

/-- Two states whose fabrics differ in their instances and the stopped groups alone. -/
def SameButResets (s t : State) : Prop := t.fab = { s.fab with insts := t.fab.insts, stopped := t.fab.stopped }

theorem SameButResets.trans {s t u : State} (h : SameButResets s t) (k : SameButResets t u) : SameButResets s u := by
  unfold SameButResets at *
  rw [k, h]

theorem SameButInsts.sameButResets {s t : State} (h : SameButInsts s t) : SameButResets s t := by
  unfold SameButResets
  rw [h]

theorem resetInst_sameButResets (s : State) (i : Nat) : SameButResets s (resetInst s i) := by
  unfold resetInst
  split
  · rfl
  · dsimp only
    split
    · split
      · exact (enterReset_sameButInsts _ _ _).sameButResets.trans rfl
      · exact (enterReset_sameButInsts _ _ _).sameButResets
    · rfl

theorem resetInst_foldl_sameButResets (l : List Nat) (s : State) : SameButResets s (l.foldl resetInst s) := by
  induction l generalizing s with
  | nil => rfl
  | cons i l ih => exact (resetInst_sameButResets s i).trans (ih _)

/-- A reset of safety function `i` is its own reset, or nothing. -/
theorem resetInst_inst (s : State) (i k : Nat) :
    (resetInst s i).inst k = s.inst k ∨
    ∃ m, s.mapInst i = some m ∧ (s.inst i).state = .locked ∧ causeGone s i m = true ∧ (resetInst s i).inst k = (enterReset i m s).inst k := by
  unfold resetInst
  split
  · exact .inl rfl
  next m hm =>
    dsimp only
    split
    next h =>
      refine .inr ⟨m, hm, h.1, h.2, ?_⟩
      split <;> rfl
    · exact .inl rfl

theorem resetInst_other {s : State} {i k : Nat} (h : k ≠ i) : (resetInst s i).inst k = s.inst k := by
  obtain hsame | ⟨m, -, -, -, hreset⟩ := resetInst_inst s i k
  · exact hsame
  · rw [hreset, enterReset_other h]

theorem resetInst_of_not_locked {s : State} {i k : Nat} (h : (s.inst k).state ≠ .locked) : (resetInst s i).inst k = s.inst k := by
  obtain hsame | ⟨m, -, hlocked, -, hreset⟩ := resetInst_inst s i k
  · exact hsame
  · rw [hreset, enterReset_other]
    rintro rfl
    exact h hlocked

theorem resetInst_foldl_of_not_locked {l : List Nat} {s : State} {k : Nat} (h : (s.inst k).state ≠ .locked) :
    (l.foldl resetInst s).inst k = s.inst k := by
  induction l generalizing s with
  | nil => rfl
  | cons i l ih =>
    have hstep := resetInst_of_not_locked (i := i) h
    exact (ih (by rw [hstep]; exact h)).trans hstep

/-- A LOCKED safety function whose cause is gone is reset to TRIPPED. -/
theorem resetInst_self {s : State} {i : Nat} {m : MapInst} (hi : i < s.fab.insts.length) (hm : s.mapInst i = some m)
    (hlocked : (s.inst i).state = .locked) (hgone : causeGone s i m = true) :
    ((resetInst s i).inst i).state = .tripped ∧ ((resetInst s i).inst i).cause = 0x15 := by
  have hreset : (resetInst s i).inst i = (enterReset i m s).inst i := by
    unfold resetInst
    simp only [hm]
    rw [if_pos ⟨hlocked, hgone⟩]
    split <;> rfl
  rw [hreset]
  exact enterReset_inst hi

/-- What makes a cause gone is not touched by the reset of another safety function. -/
theorem causeGone_congr {s t : State} {i : Nat} {m : MapInst} (h : SameButResets s t) (hi : t.inst i = s.inst i) :
    causeGone t i m = causeGone s i m := by
  unfold causeGone
  rw [hi, h]

theorem SameButResets.mapInst {s t : State} (h : SameButResets s t) (i : Nat) : t.mapInst i = s.mapInst i := by
  unfold State.mapInst State.smap
  rw [h]

theorem resetInst_insts_length (s : State) (i : Nat) : (resetInst s i).fab.insts.length = s.fab.insts.length := by
  unfold resetInst
  split
  · rfl
  next m hm =>
    have hlen : (enterReset i m s).fab.insts.length = s.fab.insts.length := by
      rw [enterReset, raiseFab_fab, raiseFab_fab, State.modInst_insts_length]
    dsimp only
    split
    · split
      · exact hlen
      · exact hlen
    · rfl

theorem resetInst_foldl {l : List Nat} {s : State} {i : Nat} {m : MapInst} (hmem : i ∈ l) (hi : i < s.fab.insts.length)
    (hm : s.mapInst i = some m) (hlocked : (s.inst i).state = .locked) (hgone : causeGone s i m = true) :
    ((l.foldl resetInst s).inst i).state = .tripped ∧ ((l.foldl resetInst s).inst i).cause = 0x15 := by
  induction l generalizing s with
  | nil => cases hmem
  | cons j l ih =>
    by_cases he : i = j
    · subst he
      obtain ⟨hstate, hcause⟩ := resetInst_self hi hm hlocked hgone
      rw [List.foldl_cons, resetInst_foldl_of_not_locked (by rw [hstate]; decide)]
      exact ⟨hstate, hcause⟩
    · have hother := resetInst_other (s := s) he
      have hsame := resetInst_sameButResets s j
      refine ih ((List.mem_cons.mp hmem).resolve_left he) ?_ ?_ ?_ ?_
      · rw [resetInst_insts_length]; exact hi
      · rw [hsame.mapInst]; exact hm
      · rw [hother]; exact hlocked
      · rw [causeGone_congr hsame hother]; exact hgone

theorem invalidPulse_fab (s : State) : (invalidPulse s).fab = { s.fab with invalid := satAdd 32 s.fab.invalid 1 } := raiseFab_fab _ _ _

theorem countPulse_returnMet (s : State) (i : Nat) (m : MapInst) : returnMet (countPulse s) i m = returnMet s i m := rfl
theorem countPulse_causeGone (s : State) (i : Nat) (m : MapInst) : causeGone (countPulse s) i m = causeGone s i m := rfl
@[simp] theorem countPulse_inst (s : State) (i : Nat) : (countPulse s).inst i = s.inst i := rfl

/-- A switch under its test pulse is commanded open (R174). -/
theorem State.fabCloses_of_pulse {s : State} {ch start : Nat} (h : s.fab.pulse = some (ch, start)) : s.fabCloses ch = false := by
  unfold State.fabCloses
  rw [h]
  simp

/-- Settles O33: the test pulse and its judgement, the read-back, the reset and the restart pulse. -/
theorem pulsesComplete : Obligations.PulsesComplete := by
  intro n s
  dsimp only
  intro hshaped
  have hlen : (s.atTime n).fab.insts.length = 16 := State.atTime_insts_length hshaped
  refine ⟨fun ch hnone hcloses hrested => ?pulse, fun ch start hpulse hdue => ?pulseEnd, fun ch hpower hgov hover hstopped => ?readback,
    fun key rise1 rise2 fall1 fall2 hpower hclear hheard => ⟨fun hvalid => ?ack, fun hvalid => ?badAck⟩,
    fun i m rise1 rise2 fall1 fall2 hpower hclear hm hrst => ⟨fun hvalid htripped howed hmet => ?restart, fun hvalid => ?badRestart⟩⟩
  case pulse =>
    rw [exec_testPulse, execTestPulse]
    refine gives_next ?_
    have hrest : (match (s.atTime n).fab.pulseEnd with
        | some e => decide (e.2 + 1000000 ≤ (s.atTime n).time.now)
        | none => true) = true := by
      simp only [State.atTime_fab]
      cases he : s.fab.pulseEnd with
      | none => rfl
      | some e =>
        rw [he] at hrested
        exact decide_eq_true hrested
    dsimp only
    rw [if_pos ⟨hnone, hcloses, hrest⟩]
    generalize hu : ({ s.atTime n with fab := _ } : State) = u
    have hfab : u.fab.pulse = some (ch.val, (s.atTime n).time.now) ∧ u.fab.tests = satAdd 64 s.fab.tests 1 := by
      subst hu; exact ⟨rfl, rfl⟩
    have hpulse : (fabricChanged u).fab.pulse = some (ch.val, (s.atTime n).time.now) := by
      rw [fabricChanged_sameButCommands u]; exact hfab.1
    refine ⟨hpulse, ?_, State.fabCloses_of_pulse hpulse⟩
    rw [fabricChanged_sameButCommands u]
    exact hfab.2
  case pulseEnd =>
    rw [exec_testPulseEnd, execTestPulseEnd]
    refine gives_next ?_
    simp only [show (s.atTime n).fab.pulse = some (ch.val, start) from hpulse]
    rw [if_pos ⟨trivial, hdue⟩]
    generalize hu : ({ s.atTime n with fab := _ } : State) = u
    have hfab : u.fab = { s.fab with pulse := none, pulseEnd := some (ch.val, (s.atTime n).time.now) } := by subst hu; rfl
    have hinst (i : Nat) : u.inst i = s.inst i := by subst hu; rfl
    have hgov : u.governors ch.val = s.governors ch.val := State.governors_of_fab (by rw [hfab]) _
    by_cases hbit : (s.fab.lowRb[ch.val / 16]?.getD 0).getLsbD (ch.val % 16) = true
    · rw [State.atTime_fab, if_pos hbit]
      obtain ⟨hfails, hstopped, hkeep, hlocked, hp, he⟩ :=
        channelFails_fields (ch := ch) (cause := 0x02) (ev := evTestPulseFail) (s := u) (by rw [hfab]; exact hshaped.insts)
      refine ⟨by rw [hp, hfab], by rw [he, hfab], fun h => absurd (hbit.symm.trans h) (by decide), fun _ =>
        ⟨by rw [hfails, hfab], hstopped, hkeep, fun i hi hclear hactive => ?_⟩⟩
      exact hlocked i (by rw [hgov]; exact hi) (by rw [hfab]; exact hclear) (by rw [hinst]; exact hactive)
    · rw [State.atTime_fab, if_neg hbit]
      refine ⟨?_, ?_, fun _ => ⟨?_, ?_⟩, fun h => absurd h hbit⟩ <;> rw [fabricChanged_sameButCommands u, hfab]
  case readback =>
    rw [exec_readbackTimeout, execReadbackTimeout]
    refine gives_next ?_
    rw [if_pos ⟨hpower, hgov, hover, hstopped⟩]
    obtain ⟨hfails, hstop, hkeep, hlocked, -, -⟩ :=
      channelFails_fields (ch := ch) (cause := 0x03) (ev := evReadbackFail) hlen
    exact ⟨hfails, hstop, hkeep, hlocked⟩
  case ack =>
    rw [exec_ackPulse, execAckPulse]
    refine gives_next ?_
    rw [if_pos ⟨hpower, hclear, hheard⟩, if_pos hvalid]
    have hsame := resetInst_foldl_sameButResets (List.range 16) (countPulse (s.atTime n))
    refine ⟨?_, ?_, fun i m hi hm hlocked hgone => ?_⟩
    · rw [fabricChanged_sameButCommands _, hsame]
      rfl
    · rw [fabricChanged_sameButCommands _, hsame]
      rfl
    · rw [fabricChanged_inst]
      exact resetInst_foldl (List.mem_range.mpr hi) (show i < (s.atTime n).fab.insts.length by rw [hlen]; exact hi)
        (show (s.atTime n).mapInst i = some m from hm) hlocked ((countPulse_causeGone _ _ _).trans hgone)
  case badAck =>
    rw [exec_ackPulse, execAckPulse]
    refine gives_next ?_
    rw [if_pos ⟨hpower, hclear, hheard⟩, if_neg (by rw [hvalid]; decide), invalidPulse_fab]
    exact ⟨rfl, rfl, rfl⟩
  case restart =>
    rw [exec_restartPulse, execRestartPulse]
    refine gives_next ?_
    simp only [State.atTime_mapInst, hm]
    rw [if_pos ⟨hpower, hclear, hrst⟩, if_pos hvalid,
      if_pos ⟨htripped, howed, (countPulse_returnMet _ _ _).trans hmet⟩]
    have hlt : i.val < (countPulse (s.atTime n)).fab.insts.length := by
      show i.val < (s.atTime n).fab.insts.length
      rw [hlen]
      exact i.isLt
    generalize hu : (countPulse (s.atTime n)).modInst i.val _ = u
    have hresets : u.fab.resets = satAdd 32 s.fab.resets 1 := by subst hu; rfl
    have hinst : u.inst i.val = { s.inst i.val with owed := false } := by
      subst hu
      exact State.modInst_inst_of_lt hlt
    have hult : i.val < u.fab.insts.length := by subst hu; rw [State.modInst_insts_length]; exact hlt
    rw [countPulse_inst, State.atTime_inst]
    by_cases hrequest : (s.inst i.val).request = true
    · rw [if_pos hrequest, fabricChanged_inst, hinst]
      refine ⟨?_, rfl, fun h => absurd (hrequest.symm.trans h) (by decide), fun _ => htripped⟩
      rw [fabricChanged_sameButCommands u]
      exact hresets
    · rw [if_neg hrequest, fabricChanged_inst, enterRun_inst hult]
      refine ⟨?_, rfl, fun _ => rfl, fun h => absurd h hrequest⟩
      rw [fabricChanged_sameButCommands _, enterRun_sameButInsts i.val u]
      exact hresets
  case badRestart =>
    rw [exec_restartPulse, execRestartPulse]
    refine gives_next ?_
    simp only [State.atTime_mapInst, hm]
    rw [if_pos ⟨hpower, hclear, hrst⟩, if_neg (by rw [hvalid]; decide), invalidPulse_fab]
    exact ⟨rfl, rfl⟩

end Sys2Proof.Machine
end


section
/-! The request link, the strobe and module LOCKOUT (O34: R151, R170 to R173, R179). -/

namespace Sys2Proof.Machine

/-! ### What FAULT-STOP and LOCKOUT leave of the fabric -/

/-- Two states whose fabrics differ in the staged Safety Map alone. -/
def SameButStaged (s t : State) : Prop :=
  t.fab = { s.fab with staged := t.fab.staged, writeState := t.fab.writeState, reason := t.fab.reason }

theorem SameButStaged.trans {s t u : State} (h : SameButStaged s t) (k : SameButStaged t u) : SameButStaged s u := by
  unfold SameButStaged at *
  rw [k, h]

theorem SameButStaged.of_fab {s t : State} (h : t.fab = s.fab) : SameButStaged s t := by
  unfold SameButStaged
  rw [h]

theorem dropStaged_sameButStaged (s : State) : SameButStaged s (dropStaged s) := by
  unfold SameButStaged dropStaged
  split
  · rw [raiseFab_fab]
  · rfl

theorem enterMode_sameButStaged (m : Mode) (k : Nat) (s : State) : SameButStaged s (enterMode m k s) := by
  unfold enterMode
  extract_lets old s0 s1 c1 s2 c2 s3
  have h0 : SameButStaged s s0 := by
    unfold s0
    split
    · exact dropStaged_sameButStaged s
    · rfl
  have h1 : s1.fab = s0.fab := by unfold s1; split <;> rfl
  have h2 : s2.fab = s1.fab := by unfold s2; split <;> rfl
  refine h0.trans (SameButStaged.of_fab ?_)
  rw [raise_fab, ← h1, ← h2]

theorem faultStop_sameButStaged (cause : Code) (s : State) : SameButStaged s (faultStop cause s) := by
  unfold faultStop faultStopWith
  split
  · extract_lets c s0 c0 s1 s2 s3
    have h0 : s0.fab = s.fab := by unfold s0; split <;> rfl
    have h1 : SameButStaged s s1 := (SameButStaged.of_fab h0).trans (enterMode_sameButStaged _ _ _)
    have h3 : s3.fab = s2.fab :=
      (only_pairFaultStop (m0 := [.lanes, .rek, .cis, .sent, .pair, .tel, .records]) rfl _ (only_sendStopNotice rfl _
        (only_snapshot rfl _ (only_dropAll rfl _ (Only.refl _ _))))).fab rfl
    have h4 : SameButStaged s s3 := h1.trans (SameButStaged.of_fab (h3.trans (raise_fab _ _ _)))
    split
    · exact h4.trans (SameButStaged.of_fab ((only_warmReset (m0 := [.ctl, .lanes, .records]) rfl s3 (Only.refl _ _)).fab rfl))
    · exact h4.trans (SameButStaged.of_fab (raise_fab _ _ _))
  · rfl

/-- LOCKOUT notes its cause, stops every keepalive and ends a test pulse; a module that runs enters FAULT-STOP. -/
theorem lockout_fields {k : Nat} {s : State} (hk : k ≠ 0) (hclear : s.fab.lockout = 0) :
    (lockout k s).fab.lockout = k ∧ (lockout k s).fab.keepalive = 0 ∧ (lockout k s).fab.pulse = none ∧
    (s.ctl.mode.canFault = true → (lockout k s).ctl.mode = .faultStop) := by
  obtain ⟨u, hlock, hctl, hfab, hkeep, hpulse⟩ : ∃ u, lockout k s = faultStop evFabricLockout u ∧ u.ctl = s.ctl ∧
      u.fab.lockout = k ∧ u.fab.keepalive = 0 ∧ u.fab.pulse = none := by
    refine ⟨_, if_neg (not_not_intro hclear), by simp, by simp, ?_, ?_⟩
    · rw [raiseFab_fab, ← fabricChanged_fab]
      refine fabricChanged_keepalive_zero fun g => ?_
      simp [State.keepaliveOk, hk]
    · rw [raiseFab_fab, refresh_sameButCommands _]
  have hsame := faultStop_sameButStaged evFabricLockout u
  rw [hlock]
  refine ⟨by rw [hsame, hfab], by rw [hsame, hkeep], by rw [hsame, hpulse], fun hmode => ?_⟩
  exact (faultStop_ctl (by rw [hctl]; exact hmode)).1

/-! ### Folds over the instances -/

/-- A step over the instances that changes its own safety function only: what it makes of safety function `k` is there at the end. -/
theorem foldl_inst_of_mem {f : State → Nat → State} {k : Nat} {P : Inst → Prop} {I : State → Prop} (hI : ∀ q i, I q → I (f q i))
    (hself : ∀ q, I q → P ((f q k).inst k)) (hother : ∀ q i, k ≠ i → (f q i).inst k = q.inst k) {l : List Nat} {s : State}
    (hk : k ∈ l) (hs : I s) : P ((l.foldl f s).inst k) := by
  have hkeep (l : List Nat) (q : State) (h : k ∉ l) : (l.foldl f q).inst k = q.inst k := by
    induction l generalizing q with
    | nil => rfl
    | cons i l ih =>
      exact (ih _ (fun hm => h (List.mem_cons_of_mem _ hm))).trans (hother q i (fun he => h (he ▸ List.mem_cons_self)))
  induction l generalizing s with
  | nil => cases hk
  | cons i l ih =>
    by_cases hl : k ∈ l
    · exact ih hl (hI s i hs)
    · obtain rfl := (List.mem_cons.mp hk).resolve_right hl
      rw [List.foldl_cons, hkeep l _ hl]
      exact hself s hs

theorem clampInt_of_mem {lo hi i : Int} (h1 : lo ≤ i) (h2 : i ≤ hi) : clampInt lo hi i = i := by
  unfold clampInt
  omega

/-- A tenth of a deviation inside the limit of R151 needs no saturation. -/
theorem clampInt_tenth {d : Int} (h : d.natAbs ≤ 5000) : clampInt (-32768) 32767 (d.tdiv 10) = d.tdiv 10 := by
  have habs : (d.tdiv 10).natAbs ≤ 5000 := by
    rw [Int.natAbs_tdiv]
    exact (Nat.div_le_self _ _).trans h
  exact clampInt_of_mem (by omega) (by omega)

/-- A frame without keepalive enable lets no keepalive run (R173). -/
theorem State.keepaliveOk_of_frame {s : State} {bits : BitVec 128} (h : s.fab.frame = some bits) (hbit : bits.getLsbD 88 = false) (g : Nat) :
    s.keepaliveOk g = false := by
  unfold State.keepaliveOk
  rw [h, Option.any_some, hbit]
  simp

theorem State.keepaliveOk_of_fired {s : State} (h : s.fab.fired = true) (g : Nat) : s.keepaliveOk g = false := by
  unfold State.keepaliveOk
  rw [h]
  simp

/-- A valid frame is the latest one, ends the supervision's count and stops the keepalives that it does not enable. -/
theorem takeFrame_fields (bits : BitVec 128) (s : State) :
    let t := takeFrame bits s
    t.fab.frame = some bits ∧ t.fab.seenFrame = true ∧ t.fab.fired = false ∧ t.fab.missed = 0 ∧
    t.fab.expect = some (BitVec.ofNat 32 (field bits.toNat 127 96) + 1) ∧ t.fab.insts = s.fab.insts ∧
    (bits.getLsbD 88 = false → t.fab.keepalive = 0) := by
  dsimp only
  obtain ⟨u, htake, h1, h2, h3, h4, h5, h6⟩ : ∃ u, takeFrame bits s = fabricChanged u ∧ u.fab.frame = some bits ∧
      u.fab.seenFrame = true ∧ u.fab.fired = false ∧ u.fab.missed = 0 ∧
      u.fab.expect = some (BitVec.ofNat 32 (field bits.toNat 127 96) + 1) ∧ u.fab.insts = s.fab.insts :=
    ⟨_, rfl, rfl, rfl, rfl, rfl, rfl, rfl⟩
  rw [htake]
  refine ⟨?_, ?_, ?_, ?_, ?_, ?_, fun hbit => fabricChanged_keepalive_zero (State.keepaliveOk_of_frame h1 hbit)⟩ <;>
    rw [fabricChanged_sameButCommands u] <;> assumption

/-- Settles O34: the frame, its supervision, the strobe, and the two faults. -/
theorem requestLinkAndLockout : Obligations.RequestLinkAndLockout := by
  intro n s
  dsimp only
  intro hpower
  have hpow : (s.atTime n).fab.powered = true := hpower
  refine ⟨fun bits hvalid htaken => ?frame, fun bits hvalid => ?badFrame, fun e hexpect hfired hdue hlate => ?lost,
    fun ticks b hmark hrun => ⟨fun hshort => ?counts, fun hlong hgood => ?fresh, fun hlong hbad hclear => ?strobeFails⟩,
    fun hclear => ⟨?rail, ?memory⟩⟩
  case frame =>
    rw [exec_requestFrame, execRequestFrame]
    refine gives_next ?_
    rw [if_pos hpow, if_pos hvalid, if_neg]
    · exact takeFrame_fields bits (s.atTime n)
    · rintro ⟨hf, hm⟩
      rcases htaken with h | h
      · exact absurd (h.symm.trans hf) (by decide)
      · exact hm h
  case badFrame =>
    rw [exec_requestFrame, execRequestFrame]
    refine gives_next ?_
    rw [if_pos hpow, if_neg (by rw [hvalid]; decide)]
    exact ⟨rfl, rfl, rfl⟩
  case lost =>
    rw [exec_requestLinkTimeout, execRequestLinkTimeout]
    refine gives_next ?_
    simp only [show (s.atTime n).fab.expect = some e from hexpect]
    rw [if_pos ⟨hpower, hfired, hdue, hlate⟩]
    generalize hs1 : ({ s.atTime n with fab := _ } : State) = s1
    have hs1fab : s1.fab.fired = true ∧ s1.fab.heldOpen = true ∧ s1.fab.insts = s.fab.insts := by subst hs1; exact ⟨rfl, rfl, rfl⟩
    generalize hs2 : (List.range 16).foldl _ s1 = s2
    have hsame : SameButInsts s1 s2 := by
      subst hs2
      exact SameButInsts.foldl (fun q i => State.modInst_sameButInsts q i _) _ s1
    generalize hu : raiseFab evRequestLinkLost [] _ = u
    have hufab : u.fab = s2.fab := by subst hu; exact raiseFab_fab _ _ _
    have huctl : u.ctl.ledFallback = true := by subst hu; rw [raiseFab_ctl]
    have hfire : u.fab.fired = true := by rw [hufab, hsame]; exact hs1fab.1
    refine ⟨?_, ?_, fabricChanged_keepalive_zero (State.keepaliveOk_of_fired hfire), by rw [fabricChanged_ctl]; exact huctl,
      fun hshaped i hi => ?_⟩
    · rw [fabricChanged_sameButCommands u]; exact hfire
    · rw [fabricChanged_sameButCommands u, hufab, hsame]; exact hs1fab.2.1
    · rw [fabricChanged_inst, show u.inst i = s2.inst i from congrArg (fun f : Fabric => (f.insts[i]?).getD {}) hufab, ← hs2]
      refine foldl_inst_of_mem (P := fun x => x.request = false) (I := fun q => q.fab.insts.length = 16) (fun q j hq => ?_) (fun q hq => ?_)
        (fun q j hj => State.modInst_other hj) (List.mem_range.mpr hi) ?_
      · rw [State.modInst_insts_length]; exact hq
      · rw [State.modInst_inst_of_lt (by rw [hq]; exact hi)]
      · rw [hs1fab.2.2]; exact hshaped.insts
  case counts =>
    rw [exec_boundaryStrobe, execBoundaryStrobe]
    refine gives_next ?_
    simp only [hpow, Bool.not_true, Bool.false_eq_true, if_false,
      show (s.atTime n).time.strobeMark = false from hmark, show (s.atTime n).fab.runStart = some b from hrun, hshort, if_true]
    exact ⟨rfl, trivial⟩
  case fresh =>
    rw [exec_boundaryStrobe, execBoundaryStrobe]
    refine gives_next ?_
    simp only [hpow, Bool.not_true, Bool.false_eq_true, if_false,
      show (s.atTime n).time.strobeMark = false from hmark, show (s.atTime n).fab.runStart = some b from hrun, Nat.not_lt.mpr hlong]
    rw [if_neg (show ¬ 5000 < ((((s.atTime n).fab.runTicks + ticks : Nat) : Int) - 100000).natAbs from Nat.not_lt.mpr hgood)]
    exact ⟨rfl, rfl, clampInt_tenth hgood, rfl⟩
  case strobeFails =>
    rw [exec_boundaryStrobe, execBoundaryStrobe]
    refine gives_next ?_
    simp only [hpow, Bool.not_true, Bool.false_eq_true, if_false,
      show (s.atTime n).time.strobeMark = false from hmark, show (s.atTime n).fab.runStart = some b from hrun, Nat.not_lt.mpr hlong]
    rw [if_pos (show 5000 < ((((s.atTime n).fab.runTicks + ticks : Nat) : Int) - 100000).natAbs from hbad)]
    refine ⟨(lockout_fields (by decide) ?clear).1, (lockout_fields (by decide) ?clear).2.1⟩
    exact hclear
  case rail =>
    rw [exec_dualRailFault, execDualRailFault]
    refine gives_next ?_
    rw [if_pos hpow]
    exact lockout_fields (by decide) hclear
  case memory =>
    rw [exec_fabricMemoryFault, execFabricMemoryFault]
    refine gives_next ?_
    rw [if_pos hpow]
    exact lockout_fields (by decide) hclear

end Sys2Proof.Machine
end


section
/-! The Safety Map: its write, its echo, its copies and its periodic check (O35: R155, R159, R160, R162). -/

namespace Sys2Proof.Machine

/-- A write whose row is timed STOP is allowed in STOP. -/
theorem writeFault_of_stop {i u level : Nat} {r : OdRow} {s : State} (hrow : odRow i u = some r) (hindex : odIndex i = true)
    (hacc : (r.acc = .wo || r.acc = .rw) = true) (hlevel : r.level ≤ level) (hmode : s.ctl.mode = .stop) :
    s.writeFault i u level = stOk := by
  simp [State.writeFault, writeRight, State.timingFault, objectFault_of_row hrow hindex, hrow, hacc, Nat.not_lt.mpr hlevel, hmode]

theorem stageMap_fields (via : Via) (b : Bytes) (s : State) : (stageMap via b s).fab.map = s.fab.map ∧
    (mapReason b = 0 → (stageMap via b s).fab.staged = some (b, s.time.now, via) ∧ (stageMap via b s).fab.writeState = 1 ∧
      (stageMap via b s).fab.reason = 0) ∧
    (mapReason b ≠ 0 → (stageMap via b s).fab.staged = none ∧ (stageMap via b s).fab.writeState = 3 ∧
      (stageMap via b s).fab.reason = mapReason b) := by
  unfold stageMap
  dsimp only
  by_cases h : mapReason b = 0
  · rw [if_pos h]
    exact ⟨rfl, fun _ => ⟨rfl, rfl, rfl⟩, fun hn => absurd h hn⟩
  · rw [if_neg h, raiseFab_fab]
    exact ⟨rfl, fun hp => absurd hp h, fun _ => ⟨rfl, rfl, rfl⟩⟩

theorem echoMap_fields {b digest : Bytes} {at0 : Nat} {w : Via} {s : State} (h : s.fab.staged = some (b, at0, w)) :
    (echoMap digest s).fab.staged = none ∧ (echoMap digest s).fab.map = s.fab.map ∧
    (digest = Config.sha256 b → (echoMap digest s).fab.writing = some b) ∧
    (digest ≠ Config.sha256 b → (echoMap digest s).fab.writing = s.fab.writing ∧ (echoMap digest s).fab.writeState = 3 ∧
      (echoMap digest s).fab.reason = 5) := by
  unfold echoMap
  simp only [h]
  by_cases hd : digest = Config.sha256 b
  · rw [if_pos hd]
    exact ⟨rfl, rfl, fun _ => rfl, fun hn => absurd hd hn⟩
  · rw [if_neg hd, raiseFab_fab]
    exact ⟨rfl, rfl, fun hp => absurd hp hd, fun _ => ⟨rfl, rfl, rfl⟩⟩

/-! ### The new map becomes active (R162) -/

theorem checkBindings_fab (s : State) : ∃ x, (checkBindings s).fab = { s.fab with badBinding := x } := by
  unfold checkBindings
  extract_lets bad f1 s1
  have hfold := foldl_field (p := fun q => q.fab) (f := fun q i => if bad i then raise evRequestBindingInvalid [BitVec.ofNat 8 i] q else q)
    (fun q i => by split <;> simp) (List.range 16) s1
  exact ⟨_, hfold⟩

theorem checkBindings_inst (s : State) (i : Nat) : (checkBindings s).inst i = s.inst i := by
  obtain ⟨x, h⟩ := checkBindings_fab s
  unfold State.inst
  rw [h]

/-- Nothing else of the fabric than the map, its instances, the pulse and the bindings' marks. -/
def SameButMap (s t : State) : Prop :=
  t.fab = { s.fab with map := t.fab.map, insts := t.fab.insts, pulse := t.fab.pulse, badBinding := t.fab.badBinding }

theorem startInsts_fields {m : SafetyMap} {b : Bytes} {s : State} {f : State → Nat → State}
    (hf : ∀ q i, f q i = match q.mapInst i with
      | some e => enterTripped i e 0x14 q
      | none => q)
    (hmap : s.fab.map = some (b, m)) (hlen : s.fab.insts.length = 16) :
    SameButInsts s ((List.range 16).foldl f s) ∧
    ∀ i, i < 16 → (∀ e, m.insts[i]? = some e → (((List.range 16).foldl f s).inst i).state = .tripped ∧
        (((List.range 16).foldl f s).inst i).cause = 0x14) ∧
      (m.insts[i]? = none → ((List.range 16).foldl f s).inst i = s.inst i) := by
  have hsame (q : State) (i : Nat) : SameButInsts q (f q i) := by
    rw [hf]
    split
    · exact enterTripped_sameButInsts _ _ _ _
    · rfl
  have hother (q : State) (i k : Nat) (h : k ≠ i) : (f q i).inst k = q.inst k := by
    rw [hf]
    split
    · exact enterTripped_other h
    · rfl
  have hkeeps (q : State) (i : Nat) (h : q.fab.insts.length = 16 ∧ q.fab.map = some (b, m)) :
      (f q i).fab.insts.length = 16 ∧ (f q i).fab.map = some (b, m) := by
    refine ⟨?_, by rw [hsame q i]; exact h.2⟩
    rw [hf]
    split
    · rw [enterTripped_insts_length, h.1]
    · exact h.1
  have hinst (q : State) (h : q.fab.map = some (b, m)) (i : Nat) : q.mapInst i = m.insts[i]? := by
    simp [State.mapInst, State.smap, h]
  refine ⟨SameButInsts.foldl hsame _ s, fun i hi => ⟨fun e he => ?_, fun hnone => ?_⟩⟩
  · refine foldl_inst_of_mem (P := fun x => x.state = .tripped ∧ x.cause = 0x14) hkeeps (fun q hq => ?_)
      (fun q j hj => hother q j i hj) (List.mem_range.mpr hi) ⟨hlen, hmap⟩
    rw [hf, hinst q hq.2, he]
    dsimp only
    rw [enterTripped_inst (by rw [hq.1]; exact hi)]
    exact ⟨rfl, rfl⟩
  · have hfold (l : List Nat) (q : State) (h : q.fab.insts.length = 16 ∧ q.fab.map = some (b, m)) : (l.foldl f q).inst i = q.inst i := by
      induction l generalizing q with
      | nil => rfl
      | cons j l ih =>
        refine (ih _ (hkeeps q j h)).trans ?_
        by_cases hj : i = j
        · subst hj
          rw [hf, hinst q h.2, hnone]
        · exact hother q j i hj
    exact hfold _ s ⟨hlen, hmap⟩

/-- A map that becomes active: its instances are TRIPPED with START, the others OFF. -/
theorem activateMap_insts (b : Bytes) {s : State} (hlen : s.fab.insts.length = 16) :
    SameButMap s (activateMap b s) ∧
    ∀ i, i < 16 → (((readMap b).insts[i]?).isSome = true →
        ((activateMap b s).inst i).state = .tripped ∧ ((activateMap b s).inst i).cause = 0x14) ∧
      (((readMap b).insts[i]?).isSome = false → ((activateMap b s).inst i).state = .off) := by
  unfold activateMap
  extract_lets m e0 off f1 s1 s2
  have hs1 : s1.fab = { s.fab with map := some (b, m), insts := off, pulse := none } :=
    (only_sendRoles (m0 := [.fio]) rfl _ (Only.refl _ _)).fab rfl
  have hoff (i : Nat) : (s1.inst i).state = .off := by
    unfold State.inst
    rw [hs1]
    dsimp only [off]
    rw [List.getElem?_map]
    cases s.fab.insts[i]? <;> rfl
  have hs1len : s1.fab.insts.length = 16 := by
    rw [hs1]
    exact (List.length_map _).trans hlen
  obtain ⟨hsame, hinsts⟩ := startInsts_fields (m := m) (b := b) (s := s1) (f := fun q i => match q.mapInst i with
    | some e => enterTripped i e 0x14 q
    | none => q) (fun q i => rfl) (by rw [hs1]) hs1len
  have hs2 : s2 = (List.range 16).foldl (fun q i => match q.mapInst i with
    | some e => enterTripped i e 0x14 q
    | none => q) s1 := rfl
  rw [← hs2] at hsame hinsts
  clear_value s2
  obtain ⟨x, hx⟩ := checkBindings_fab s2
  refine ⟨?_, fun i hi => ?_⟩
  · unfold SameButMap
    rw [hx, hsame, hs1]
  · rw [checkBindings_inst]
    refine ⟨fun h => ?_, fun h => ?_⟩
    · obtain ⟨e, he⟩ := Option.isSome_iff_exists.mp h
      exact (hinsts i hi).1 e he
    · rw [(hinsts i hi).2 (Option.isNone_iff_eq_none.mp (by simpa using h))]
      exact hoff i

@[simp] theorem reportRoles_fab (s : State) : (reportRoles s).fab = s.fab :=
  foldl_field (p := fun q => q.fab) (fun _ _ => raise_fab _ _ _) _ s

/-- Settles O35: the write, the echo and its expiry, the written copies, and the four cases of the periodic check. -/
theorem safetyMapCommands : Obligations.SafetyMapCommands := by
  intro n via s q c
  dsimp only
  refine ⟨fun map hadmit hlevel hmode hwriting => ?write, fun digest map at0 w hadmit hlevel hlen hstaged hsame => ?confirm,
    fun map at0 w hstaged hlate => ?expiry, fun map hshaped hwriting => ?written,
    fun work copyA copyB m0 sm hpower hmap => ⟨fun hA hB => ?same, fun hA hB => ?repairB, fun hA hB => ?repairA, fun hA hB hclear => ?locks⟩⟩
  case write =>
    have hq := admission_only hadmit
    have hserve : exec (.mapWrite n via map) s = .next (respond via stOk [] (stageMap via map q)) := by
      rw [exec_mapWrite, execMapWrite, serve_admitted hadmit, opMap]
      refine congrArg Host.Outcome.next (if_pos (firstBad_eq_ok.mpr ?_))
      have hright : q.writeFault 0x4100 0x00 c.level = stOk :=
        writeFault_of_stop rfl rfl rfl hlevel (by rw [hq.ctl rfl rfl]; exact hmode)
      have hfree : q.fab.writing = none := by rw [hq.fab rfl]; exact hwriting
      have htype : typeBad 0x4100 0x00 .domain map = stOk := by
        simp [typeBad, show odRow 0x4100 0x00 = some ⟨0x4100, 0x00, .domain, .rw, 3, .stop, 0, 0, 0, false, 1, 32768⟩ from rfl, typeFault,
          odNumeric, odSize, Nat.mod_one]
      intro st hst
      simp only [List.mem_cons, List.not_mem_nil, or_false] at hst
      rcases hst with rfl | rfl | rfl
      · exact hright
      · exact htype
      · rw [hfree]; rfl
    obtain ⟨hkeep, hstage, hrefuse⟩ := stageMap_fields via map q
    rw [hserve]
    refine ⟨fun hgood => gives_next ?_, fun hbad => gives_next ?_⟩
    · rw [respond_fab, hkeep, hq.fab rfl]
      obtain ⟨h1, h2, h3⟩ := hstage hgood
      exact ⟨h1.trans (by rw [hq.time rfl rfl]), h2, h3, rfl⟩
    · rw [respond_fab, hkeep, hq.fab rfl]
      obtain ⟨h1, h2, h3⟩ := hrefuse hbad
      exact ⟨h1, h2, h3, rfl⟩
  case confirm =>
    have hq := admission_only hadmit
    have hqstaged : q.fab.staged = some (map, at0, w) := by rw [hq.fab rfl]; exact hstaged
    have hserve : exec (.mapConfirm n via digest) s = .next (respond via stOk [] (echoMap digest q)) := by
      rw [exec_mapConfirm, execMapConfirm, serve_admitted hadmit, opConfirm]
      refine congrArg Host.Outcome.next (if_pos (firstBad_eq_ok.mpr ?_))
      have hright : q.writeFault 0x4101 0x03 c.level = stOk := writeFault_of_row q rfl rfl rfl hlevel (by decide)
      have htype : typeBad 0x4101 0x03 .ostring digest = stOk := by
        simp [typeBad, show odRow 0x4101 0x03 = some ⟨0x4101, 0x03, .ostring, .wo, 3, .immediate, 0, 0, 0, false, 32, 1⟩ from rfl, typeFault,
          odNumeric, odSize, hlen]
      intro st hst
      simp only [List.mem_cons, List.not_mem_nil, or_false] at hst
      rcases hst with rfl | rfl | rfl
      · exact hright
      · rw [hqstaged, Option.any_some, hsame]; rfl
      · exact htype
    obtain ⟨hgone, hkeep, hmatch, hdiffer⟩ := echoMap_fields (digest := digest) hqstaged
    rw [hserve]
    refine ⟨fun hgood => gives_next ?_, fun hbad => gives_next ?_⟩
    · rw [respond_fab, hkeep, hq.fab rfl]
      exact ⟨hgone, hmatch hgood, rfl⟩
    · rw [respond_fab]
      obtain ⟨h1, h2, h3⟩ := hdiffer hbad
      exact ⟨hgone, h1.trans (by rw [hq.fab rfl]; rfl), h2, h3⟩
  case expiry =>
    rw [exec_mapExpiry, execMapExpiry]
    refine gives_next ?_
    simp only [show (s.atTime n).fab.staged = some (map, at0, w) from hstaged, hlate, if_true, raiseFab_fab]
    exact ⟨trivial, trivial, rfl⟩
  case written =>
    rw [exec_mapCopiesWritten, execMapCopiesWritten]
    refine gives_next ?_
    simp only [show (s.atTime n).fab.writing = some map from hwriting]
    generalize hu : ({ s.atTime n with fab := _ } : State) = u
    have hufab : u.fab.copyA = u.fab.copyB ∧ u.fab.copyA.bytes = map ∧ u.fab.writing = none ∧ u.fab.writeState = 2 ∧
        u.fab.insts.length = 16 := by
      subst hu; exact ⟨rfl, rfl, rfl, rfl, hshaped.insts⟩
    obtain ⟨hcopies, hbytes, hdone, hstate, hlen⟩ := hufab
    obtain ⟨hsame, hinsts⟩ := activateMap_insts map hlen
    have hmap := activateMap_map map u
    generalize activateMap map u = w at hsame hinsts hmap
    have hend : SameButCommands w (fabricChanged (reportRoles (raiseFab evMapWritten ((Config.sha256 map).take 4) w))) := by
      have h := fabricChanged_sameButCommands (reportRoles (raiseFab evMapWritten ((Config.sha256 map).take 4) w))
      unfold SameButCommands at h ⊢
      rw [reportRoles_fab, raiseFab_fab] at h
      exact h
    refine ⟨by rw [hend]; exact hmap, by rw [hend, hsame]; exact hcopies, by rw [hend, hsame]; exact hbytes,
      by rw [hend, hsame]; exact hdone, by rw [hend, hsame]; exact hstate, fun i hi => ?_⟩
    rw [hend.inst]
    exact hinsts i hi
  case same =>
    rw [exec_mapPeriodicCheck, execMapPeriodicCheck]
    refine gives_next ?_
    simp only [State.atTime_fab, hmap, hpower, if_true]
    rw [if_pos ⟨hA, hB⟩]
    exact ⟨rfl, rfl⟩
  case repairB =>
    rw [exec_mapPeriodicCheck, execMapPeriodicCheck]
    refine gives_next ?_
    simp only [State.atTime_fab, hmap, hpower, if_true]
    rw [if_neg (fun h => hB h.2), if_pos hA, raiseFab_fab]
    exact ⟨rfl, rfl, rfl⟩
  case repairA =>
    rw [exec_mapPeriodicCheck, execMapPeriodicCheck]
    refine gives_next ?_
    simp only [State.atTime_fab, hmap, hpower, if_true]
    rw [if_neg (fun h => hA h.1), if_neg hA, if_pos hB, raiseFab_fab]
    exact ⟨rfl, rfl, rfl⟩
  case locks =>
    rw [exec_mapPeriodicCheck, execMapPeriodicCheck]
    refine gives_next ?_
    simp only [State.atTime_fab, hmap, hpower, if_true]
    rw [if_neg (fun h => hA h.1), if_neg hA, if_neg hB]
    refine ⟨(lockout_fields (by decide) ?clear).1, (lockout_fields (by decide) ?clear).2.1⟩
    exact hclear

end Sys2Proof.Machine
end


section
/-! The values of objects: what a write keeps, and what leaves them (R378, R381, R402). -/

namespace Sys2Proof.Machine

/-! ### Keyed values -/

theorem lookupKey_setKey_same {α : Type} (k : Nat) (v : α) (l : List (Nat × α)) : lookupKey k (setKey k v l) = some v := by
  unfold lookupKey
  induction l with
  | nil => simp [setKey]
  | cons e r ih =>
    unfold setKey
    split
    · simp
    next h => rw [List.find?_cons_of_neg (by simpa using h)]; exact ih

/-! ### Values of objects -/

theorem State.odGet_of_values {s t : State} (h : t.od.values = s.od.values) (i u : Nat) : t.odGet i u = s.odGet i u := by
  rw [State.odGet, State.odGet, h]

theorem settleStore_values (now : Nat) (o : Od) : (settleStore now o).values = o.values := by
  unfold settleStore
  dsimp only
  split <;> rfl

theorem State.odStore_values (s : State) (i u : Nat) (v : Bytes) :
    (s.odStore i u v).od.values = setKey (odKey i u) v s.od.values := by
  unfold State.odStore
  dsimp only
  split
  · exact settleStore_values _ _
  · rfl

/-- A write keeps its value. -/
theorem State.odStore_odGet (s : State) (i u : Nat) (v : Bytes) : (s.odStore i u v).odGet i u = v := by
  rw [State.odGet, State.odStore_values, lookupKey_setKey_same]
  rfl

@[simp] theorem respond_odValues (via : Via) (st : BitVec 16) (d : Bytes) (s : State) :
    (respond via st d s).od.values = s.od.values := by
  unfold respond keepAnswer
  split
  · rfl
  · rfl

@[simp] theorem respond_odGet (via : Via) (st : BitVec 16) (d : Bytes) (s : State) (i u : Nat) :
    (respond via st d s).odGet i u = s.odGet i u := State.odGet_of_values (respond_odValues via st d s) i u

@[simp] theorem raiseFrom_odGet (b : BitVec 8) (c : Code) (d : Bytes) (s : State) (i u : Nat) :
    (raiseFrom b c d s).odGet i u = s.odGet i u := by
  refine State.odGet_of_values ?_ i u
  rw [raiseFrom_od]

/-- Big-endian bytes read back as the value that they were written from. -/
theorem beNat_of_beBytes (n : Nat) {v : Nat} (h : v < 256 ^ n) : beNat (beBytes n v) = v := by
  rw [beNat, beBytes, List.reverse_reverse, leNat_of_leBytes n h]

end Sys2Proof.Machine
end


section
/-! Field groups: samples, frames, configuration and input diagnostics (O36: R186 to R190, R194, R200, R203, R205, R206). -/

namespace Sys2Proof.Machine

/-! ### Groups and channels -/

@[simp] theorem State.atTime_group (s : State) (n : Nat) (g : Fin 8) : (s.atTime n).group g = s.group g := rfl
@[simp] theorem State.atTime_chan (s : State) (n : Nat) (ch : Fin 128) : (s.atTime n).chan ch = s.chan ch := rfl

theorem State.group_of_fio {s t : State} (h : t.fio = s.fio) (g : Fin 8) : t.group g = s.group g := by
  unfold State.group
  rw [h]

@[simp] theorem raise_group (c : Code) (d : Bytes) (s : State) (g : Fin 8) : (raise c d s).group g = s.group g :=
  State.group_of_fio (raise_fio c d s) g

@[simp] theorem raise_chan (c : Code) (d : Bytes) (s : State) (ch : Fin 128) : (raise c d s).chan ch = s.chan ch := by
  rw [State.chan, State.chan, raise_group]

/-- Every channel number stands at its own place. -/
theorem chanNos_getElem (k : Fin 16) : chanNos[k.val]? = some k := by
  revert k; decide

theorem Group.chan_of_map {q : Group} {f : Fin 16 → Chan} (h : q.chans = chanNos.map f) (k : Fin 16) : q.chan k = f k := by
  rw [Group.chan, h, List.getElem?_map, chanNos_getElem]
  rfl

theorem State.modChan_group {s : State} {ch : Fin 128} {f : Chan → Chan} (h : s.Shaped) :
    (s.modChan ch f).group (chGroup ch) = (s.group (chGroup ch)).modChan (chNo ch) f := State.modGroup_group h

/-- A change of the groups that a mask names. -/
theorem foldl_modGroup_named {p : Fin 8 → Bool} {f : Group → Group} {s : State} {g : Fin 8} (hlen : s.fio.groups.length = 8)
    {l : List (Fin 8)} (hnodup : l.Nodup) :
    (l.foldl (fun q k => if p k then q.modGroup k f else q) s).group g = if g ∈ l ∧ p g = true then f (s.group g) else s.group g := by
  induction l generalizing s with
  | nil => simp
  | cons k l ih =>
    obtain ⟨hk, hl⟩ := List.nodup_cons.mp hnodup
    rw [List.foldl_cons]
    have hstep : (if p k then s.modGroup k f else s).fio.groups.length = 8 := by
      split
      · exact (List.length_modify _ _ _).trans hlen
      · exact hlen
    rw [ih hstep hl]
    by_cases he : g = k
    · subst he
      rw [if_neg (fun h => hk h.1)]
      by_cases hp : p g = true
      · rw [if_pos hp, if_pos ⟨List.mem_cons_self, hp⟩]
        exact getD_modAt (by rw [hlen]; exact g.isLt)
      · rw [if_neg hp, if_neg (fun h => hp h.2)]
    · have hsame : (if p k then s.modGroup k f else s).group g = s.group g := by
        split
        · exact State.modGroup_other he
        · rfl
      rw [hsame]
      simp [he]

/-! ### The sample (R194) -/

/-- A sample leaves the group as its chains give it; what follows raises events and sends the edges. -/
theorem execSample_fio {n : Nat} {g : Fin 8} {x : SampleIn} {s : State} (hup : (s.group g).up = true) :
    ∃ t edges, execSample n g x s = .next t ∧ t.fio = ((s.atTime n).modGroup g (fun _ =>
      let vf := vfOf ((x.vfCode :: (s.group g).vfCodes).take 64)
      let low := vfLowOf vf ((s.atTime n).odNat (gIndex g) 0x01) (s.group g).vfLow
      { s.group g with
        sampleNo := (s.atTime n).time.now / 25000, vfCodes := (x.vfCode :: (s.group g).vfCodes).take 64, vf, vfLow := low
        chans := chanNos.map ((s.atTime n).sampleChan g (s.group g) vf low x), edgeQueue := edges })).fio := by
  unfold execSample
  extract_lets s0 q vfCodes vf low chans nn edges s1 s2 s3 s4
  rw [if_pos (show q.up = true from hup)]
  refine ⟨_, edges, rfl, ?_⟩
  have h2 : s2.fio = s1.fio := by
    unfold s2
    split
    · exact raise_fio _ _ _
    · split
      · exact raise_fio _ _ _
      · rfl
  have h3 : s3.fio = s2.fio := foldl_field (p := State.fio) (fun q k => by split <;> simp) _ _
  have h4 : s4.fio = s3.fio := foldl_field (p := State.fio) (fun q k => by split <;> simp) _ _
  have hend : (if edges = [] then s4 else s4.emit (.groupFrame g (edgeFrame g edges))).fio = s4.fio := by split <;> rfl
  exact hend.trans (h4.trans (h3.trans h2))

/-! ### Frames at the Commons (R186 to R189) -/

theorem linkError_group {s : State} {g : Fin 8} (h : s.Shaped) :
    (linkError g s).group g = { s.group g with crcErrors := satAdd 32 (s.group g).crcErrors 1 } := State.modGroup_group h

/-- An edge record that arrives takes nothing from those that are kept. -/
theorem takeEdge_edges (g : Fin 8) (w : Nat) (s : State) : ∃ l, (takeEdge g s w).fio.edges = s.fio.edges ++ l := by
  unfold takeEdge
  dsimp only
  split
  · exact ⟨[], by simp⟩
  · split
    · exact ⟨[], by simp⟩
    · exact ⟨_, rfl⟩

theorem takeEdge_foldl_edges (g : Fin 8) (ws : List Nat) (s : State) :
    ∃ l, (ws.foldl (takeEdge g) s).fio.edges = s.fio.edges ++ l := by
  induction ws generalizing s with
  | nil => exact ⟨[], by simp⟩
  | cons w ws ih =>
    obtain ⟨l, hl⟩ := ih (takeEdge g s w)
    obtain ⟨k, hk⟩ := takeEdge_edges g w s
    exact ⟨k ++ l, by rw [List.foldl_cons, hl, hk, List.append_assoc]⟩

/-- A record of a channel whose records are on is kept while its image is not sealed. -/
theorem takeEdge_kept {g : Fin 8} {w : Nat} {s : State} (hon : s.odBool (0x3100 + (16 * g.val + field w 31 28 % 16)) 0x02 = true)
    (hopen : s.imageSealedNow = false) :
    (takeEdge g s w).fio.edges = s.fio.edges ++ [{ chan := Fin.ofNat 128 (16 * g.val + field w 31 28 % 16), rising := w.testBit 27
                                                   stamp := edgeStamp s.time.now (field w 26 0) }] := by
  have hchan : (⟨16 * g.val + field w 31 28 % 16, by omega⟩ : Fin 128) = Fin.ofNat 128 (16 * g.val + field w 31 28 % 16) :=
    Fin.ext (Nat.mod_eq_of_lt (by omega)).symm
  unfold takeEdge
  dsimp only
  rw [if_neg, if_neg, hchan]
  · rw [hopen]
    rintro ⟨h, -⟩
    exact Bool.noConfusion h
  · rw [chIndex, hon]
    decide

theorem tabulate_one {α : Type} (f : Nat → α) : tabulate 1 f = [f 0] := rfl

/-! ### Configuration (R186, R195, R203) -/

theorem Chan.fresh_func (c : Chan) : c.fresh.func = c.func := rfl

/-- Settles O36: the sample, the frames, the configuration, the swap and the input diagnostics. -/
theorem fieldGroups : Obligations.FieldGroups := by
  intro n s g
  dsimp only
  simp only [State.atTime_group]
  intro hshaped
  have hnow : (s.atTime n).Shaped := State.atTime_shaped hshaped
  refine ⟨fun x hup => ?sample, fun bytes hok hcycle hearly hheard => ?state, fun bytes hbad => ?badState,
    fun bytes hok hlow hhigh => ?edges, fun bytes hbad => ?badEdges, fun hunseen hlate => ?silent,
    fun hup => ⟨fun c code => ?func, fun c sub v => ?setting, fun b c e hgood => ?entry, fun b c e hbad => ?badEntry, fun k => ?swap⟩,
    fun ok hack => ?ack, fun hpend hdue => ?banks, fun ch hlim hclear hon hover => ?maxOn, fun ch => ?chatter⟩
  case sample =>
    obtain ⟨t, edges, ht, hfio⟩ := execSample_fio (n := n) (x := x) hup
    rw [exec_sample, ht]
    refine gives_next ?_
    have hgroup := (State.group_of_fio hfio g).trans (State.modGroup_group hnow)
    refine ⟨by rw [hgroup], by rw [hgroup], by rw [hgroup], fun k => ?_, fun h hh => ?_⟩
    · rw [hgroup]
      exact Group.chan_of_map rfl k
    · exact (State.group_of_fio hfio h).trans (State.modGroup_other hh)
  case state =>
    rw [exec_stateFrame, execStateFrame]
    refine gives_next ?_
    rw [State.atTime_group, hok, if_neg (by decide), if_neg]
    · extract_lets words edges s1 f s2
      have hs2 : ∀ h, s2.group h = s1.group h := fun h => rfl
      generalize ht : (if (s.group g).linkLost then raise evGroupLinkRestored [BitVec.ofNat 8 (g.val + 1)] s2 else s2) = t
      have htg (h : Fin 8) : t.group h = s1.group h := by
        rw [← hs2 h, ← ht]
        split
        · exact raise_group _ _ _ _
        · rfl
      have hs1 : s1.group g = _ := State.modGroup_group hnow
      refine ⟨?_, ?_, ?_, ?_, ?_, fun h hh => (htg h).trans (State.modGroup_other hh)⟩ <;> rw [htg, hs1]
    · rintro (h | h | h)
      · exact h hcycle
      · exact absurd hearly (Nat.not_le.mpr h)
      · exact hheard h
  case badState =>
    rw [exec_stateFrame, execStateFrame]
    refine gives_next ?_
    rw [State.atTime_group, hbad, if_pos (by decide)]
    exact ⟨linkError_group hnow, rfl⟩
  case edges =>
    rw [exec_edgeFrame, execEdgeFrame]
    refine gives_next ?_
    rw [hok, decide_eq_true ⟨hlow, hhigh⟩, if_pos (by decide)]
    refine ⟨rfl, fun e he => ?_, fun hone hon hopen => ?_⟩
    · obtain ⟨l, hl⟩ := takeEdge_foldl_edges g (tabulate (leAt bytes 2 1) (fun k => leAt bytes (4 + 4 * k) 4)) (s.atTime n)
      rw [hl]
      exact List.mem_append_left _ he
    · rw [hone, tabulate_one, List.foldl_cons, List.foldl_nil, takeEdge_kept hon hopen]
      rfl
  case badEdges =>
    rw [exec_edgeFrame, execEdgeFrame]
    refine gives_next ?_
    rw [hbad, Bool.false_and, if_neg (by decide)]
    exact ⟨linkError_group hnow, rfl⟩
  case silent =>
    rw [exec_groupLinkTimeout, execGroupLinkTimeout]
    refine gives_next ?_
    rw [if_pos ⟨hunseen, hlate⟩]
    dsimp only
    split
    · exact State.modGroup_group hnow
    · rw [raise_group]
      exact State.modGroup_group hnow
  case func =>
    rw [exec_configWrite, execConfigWrite]
    refine gives_next ?_
    rw [State.atTime_group, if_pos hup]
    dsimp only
    rw [State.modGroup_group hnow]
    have hlen := State.group_chans hshaped g
    refine ⟨?_, rfl, fun d hd => Group.modChan_other hd⟩
    have hchan := Group.modChan_chan (c := c) (f := fun x => if ({ x with func := code } : Chan).fn = x.fn then { x with func := code }
      else ({ x with func := code } : Chan).fresh) hlen
    refine (congrArg Chan.func hchan).trans ?_
    split
    · rfl
    · exact Chan.fresh_func _
  case setting =>
    rw [exec_configWrite, execConfigWrite]
    refine gives_next ?_
    rw [State.atTime_group, if_pos hup]
    exact State.modGroup_group hnow
  case entry =>
    rw [exec_configWrite, execConfigWrite]
    refine gives_next ?_
    rw [State.atTime_group, if_pos hup]
    rw [hgood, if_neg (by decide), State.modGroup_group hnow]
    cases b <;> exact ⟨rfl, rfl, rfl⟩
  case badEntry =>
    rw [exec_configWrite, execConfigWrite]
    refine gives_next ?_
    rw [State.atTime_group, if_pos hup]
    rw [hbad, if_pos rfl, raise_group]
    exact State.modGroup_group hnow
  case swap =>
    rw [exec_configWrite, execConfigWrite]
    refine gives_next ?_
    rw [State.atTime_group, if_pos hup]
    exact State.modGroup_group hnow
  case ack =>
    rw [exec_configAck, execConfigAck]
    refine gives_next ?_
    rw [State.atTime_group, if_pos hack]
    exact State.modGroup_group hnow
  case banks =>
    rw [exec_bankSwap, execBankSwap]
    refine gives_next ?_
    rw [if_pos ⟨hpend, hdue⟩]
    dsimp only
    rw [raise_fio, raise_group]
    refine ⟨rfl, rfl, ?_⟩
    refine (foldl_modGroup_named (p := fun k => s.fio.swapGroups.getLsbD k.val) hnow.groups.1 (l := groupNos) (by decide)).trans ?_
    have hall : g ∈ groupNos := by revert g; decide
    simp [hall]
  case maxOn =>
    rw [exec_maxOn, execMaxOn]
    refine gives_next ?_
    rw [State.atTime_chan, if_pos ⟨hlim, hclear, hon, hover⟩, raise_chan]
    exact State.modChan_chan hnow
  case chatter =>
    rw [exec_chatterWindow, execChatterWindow]
    refine gives_next ?_
    split
    · rw [raise_chan]
      exact State.modChan_chan hnow
    · exact State.modChan_chan hnow

end Sys2Proof.Machine
end


section
/-! Host writes of channels, groups and banks (O37: R192, R195, R196, R202 to R204, R227, R233). -/

namespace Sys2Proof.Machine

theorem modAt_of_same {α : Type} {l : List α} {n : Nat} {f : α → α} (h : ∀ x, l[n]? = some x → f x = x) : modAt n f l = l := by
  unfold modAt
  refine List.ext_getElem? fun i => ?_
  rw [List.getElem?_modify]
  cases hx : l[i]? with
  | none => rfl
  | some x =>
    refine congrArg some ?_
    dsimp only
    split
    next hi => exact h x (hi ▸ hx)
    · rfl

theorem State.modGroup_of_same {s : State} {g : Fin 8} {f : Group → Group} (h : f (s.group g) = s.group g) :
    (s.modGroup g f).fio = s.fio := by
  refine congrArg (fun l => { s.fio with groups := l }) (modAt_of_same fun x hx => ?_)
  have hg : s.group g = x := by
    unfold State.group
    rw [hx]
    rfl
  rw [hg] at h
  exact h

theorem Chan.setFunc_func (code : BitVec 8) (c : Chan) : (c.setFunc code).func = code := by
  unfold Chan.setFunc
  dsimp only
  split
  · rfl
  · exact Chan.fresh_func _

theorem reportRoles_only (s : State) : Only [.records] s (reportRoles s) := only_reportRoles rfl _ (Only.refl _ _)

theorem reportRoles_fio (s : State) : (reportRoles s).fio = s.fio := (reportRoles_only s).fio rfl

theorem reportRoles_odGet (s : State) (i u : Nat) : (reportRoles s).odGet i u = s.odGet i u :=
  State.odGet_of_values (congrArg Od.values ((reportRoles_only s).od rfl)) i u

theorem State.odStore_fio (s : State) (i u : Nat) (v : Bytes) : (s.odStore i u v).fio = s.fio :=
  (only_State_odStore (m0 := [.od]) rfl s i u v (Only.refl _ s)).fio rfl

/-- A write without an effect of its own keeps its value and leaves the groups. -/
theorem opPlain_id_kept {i u : Nat} {c : Caller} {ty : OdType} {d : Bytes} {q : State} (via : Via)
    (h : q.plainFault i u c.level ty d = stOk) :
    (opPlain i u id c via ty d q).odGet i u = d ∧ (opPlain i u id c via ty d q).fio = q.fio := by
  rw [opPlain_of_ok via h, respond_odGet, respond_fio]
  exact ⟨State.odStore_odGet q i u d, State.odStore_fio q i u d⟩

/-- Settles O37: each write by its checks. -/
theorem fieldWrites : Obligations.FieldWrites := by
  intro n via s q c
  dsimp only
  intro hshaped
  refine ⟨fun ch v hadmit hplain => ?func, fun ch b e hadmit hright hwritable htype hrange => ?entry,
    fun g v hadmit hplain hA hB => ?align, fun groups hadmit hright hfree hreason => ?swap, fun ch v hadmit hplain => ?safe,
    fun g v hadmit hplain => ?derate, fun ch v hadmit hplain => ?trip⟩
  case func =>
    have hfio : q.fio = s.fio := (admission_only hadmit).fio rfl
    have hgroups : q.fio.groups.length = 8 := by rw [hfio]; exact hshaped.groups.1
    rw [exec_functionWrite, execFunctionWrite, serve_admitted hadmit, opFunction, opPlain_of_ok via hplain]
    refine gives_next ?_
    rw [respond_odGet, respond_fio, State.chan, State.group_of_fio (respond_fio _ _ _ _), reportRoles_odGet, reportRoles_fio,
      State.group_of_fio (reportRoles_fio _)]
    generalize hu : q.odStore (chIndex ch) 0x01 (leBytes 1 v.toNat) = u
    have hufio : u.fio = s.fio := by rw [← hu, State.odStore_fio, hfio]
    have hget : u.odGet (chIndex ch) 0x01 = leBytes 1 v.toNat := by rw [← hu]; exact State.odStore_odGet _ _ _ _
    refine ⟨hget, fun hup => ?_, fun hdown => ?_⟩
    · have hmod := getD_modAt (l := u.fio.groups) (n := (chGroup ch).val) (d := ({} : Group))
        (f := fun g => if g.up then g.modChan (chNo ch) (Chan.setFunc (BitVec.ofNat 8 (leNat (leBytes 1 v.toNat)))) else g)
        (by rw [hufio, hshaped.groups.1]; exact (chGroup ch).isLt)
      have hgroup : (u.modGroup (chGroup ch) (fun g => if g.up then
          g.modChan (chNo ch) (Chan.setFunc (BitVec.ofNat 8 (leNat (leBytes 1 v.toNat)))) else g)).group (chGroup ch) =
          (s.group (chGroup ch)).modChan (chNo ch) (Chan.setFunc (BitVec.ofNat 8 (leNat (leBytes 1 v.toNat)))) := by
        refine hmod.trans ?_
        rw [show (u.fio.groups[(chGroup ch).val]?).getD {} = s.group (chGroup ch) from State.group_of_fio hufio _, if_pos hup]
      rw [hgroup, Group.modChan_chan (State.group_chans hshaped _), Chan.setFunc_func, leNat_of_leBytes 1 v.isLt]
      simp
    · rw [State.modGroup_of_same, hufio]
      rw [State.group_of_fio hufio, hdown, if_neg (by decide)]
  case entry =>
    have hfio : q.fio = s.fio := (admission_only hadmit).fio rfl
    have hvalue : BitVec.ofNat 128 (beNat (beBytes 16 e.toNat)) = e := by
      rw [beNat_of_beBytes 16 e.isLt, BitVec.ofNat_toNat, BitVec.setWidth_eq]
    have hchecks : firstBad [writeRight (bankIndex b (chGroup ch)) ((chNo ch).val + 1) c.level,
        bad (!q.bankWritable (chGroup ch) b) stWrongState,
        typeBad (bankIndex b (chGroup ch)) ((chNo ch).val + 1) .ostring (beBytes 16 e.toNat), bad (!entryRange e) stRange] = stOk := by
      simp [hright, hwritable, htype, hrange]
    rw [exec_bankEntryWrite, execBankEntryWrite, serve_admitted hadmit, opBankEntry]
    simp only [hvalue, hchecks]
    refine ⟨fun hgood => gives_next ?_, fun hbad => gives_next ?_⟩
    · simp only [hgood, ne_eq, not_true_eq_false, if_false, Bool.false_eq_true, respond_odGet]
      generalize hu : q.odStore (bankIndex b (chGroup ch)) ((chNo ch).val + 1) (beBytes 16 e.toNat) = u
      have hufio : u.fio = s.fio := by rw [← hu, State.odStore_fio, hfio]
      have hget : u.odGet (bankIndex b (chGroup ch)) ((chNo ch).val + 1) = beBytes 16 e.toNat := by
        rw [← hu]
        exact State.odStore_odGet _ _ _ _
      refine ⟨hget, fun hup => ?_⟩
      have hgroup : (respond via stOk [] (u.modGroup (chGroup ch) (Group.putEntry b (chNo ch) e))).group (chGroup ch) =
          (s.group (chGroup ch)).putEntry b (chNo ch) e := by
        rw [State.group_of_fio (respond_fio _ _ _ _), ← State.group_of_fio hufio]
        exact getD_modAt (by rw [hufio, hshaped.groups.1]; exact (chGroup ch).isLt)
      rw [hgroup, Group.putEntry, hup]
      cases b <;> rfl
    · simp only [hbad, ne_eq, not_true_eq_false, if_false, if_true, respond_odGet, raiseFrom_odGet, respond_fio, raiseFrom_fio, hfio, and_self]
  case align =>
    rw [exec_alignmentWrite, execAlignmentWrite, serve_admitted hadmit, opAlignment]
    refine gives_next ?_
    have hvalue : leNat (leBytes 1 v.toNat) = v.toNat := leNat_of_leBytes 1 v.isLt
    rw [hvalue]
    simp only [hplain, hA, hB, ne_eq, not_true_eq_false, if_false, Bool.or_self, Bool.false_eq_true, respond_odGet, respond_fio,
      State.odStore_odGet, State.odStore_fio, (admission_only hadmit).fio rfl]
    exact ⟨trivial, rfl⟩
  case swap =>
    have honly := admission_only hadmit
    have hfio : q.fio = s.fio := honly.fio rfl
    have hcycle : q.cycleNow = (s.atTime n).cycleNow := cycleNow_of_eq (honly.now rfl) (congrArg Ctl.tbCode (honly.ctl rfl rfl))
    have hvalue : BitVec.ofNat 8 groups.toNat = groups := by rw [BitVec.ofNat_toNat, BitVec.setWidth_eq]
    have hlow : decide (256 ≤ groups.toNat) = false := decide_eq_false (Nat.not_le.mpr groups.isLt)
    rw [exec_bankSwapRequest, execBankSwapRequest, serve_admitted hadmit, opSwap]
    refine gives_next ?_
    simp only [hvalue, hright, hfree, hlow, hreason, bad_false, Bool.not_true, firstBad_ok, firstBad_nil, ne_eq, not_true_eq_false,
      if_false, respond_fio, hcycle, hfio, and_self]
  case safe =>
    rw [exec_safeStateWrite, execSafeStateWrite, serve_admitted hadmit, opSafeState]
    refine gives_next ?_
    obtain ⟨hget, hfio⟩ := opPlain_id_kept via hplain
    exact ⟨hget, hfio.trans ((admission_only hadmit).fio rfl)⟩
  case derate =>
    rw [exec_deratingWrite, execDeratingWrite, serve_admitted hadmit, opDerating]
    refine gives_next ?_
    obtain ⟨hget, hfio⟩ := opPlain_id_kept via hplain
    exact ⟨hget, hfio.trans ((admission_only hadmit).fio rfl)⟩
  case trip =>
    rw [exec_tripThresholdWrite, execTripThresholdWrite, serve_admitted hadmit, opTrip]
    refine gives_next ?_
    obtain ⟨hget, hfio⟩ := opPlain_id_kept via hplain
    exact ⟨hget, hfio.trans ((admission_only hadmit).fio rfl)⟩

end Sys2Proof.Machine
end


section
/-! Output frames, apply instants, protections, silence and the keepalive (O38: R27, R185, R215 to R232, R342). -/

namespace Sys2Proof.Machine

/-! ### A channel and its command (R217, R223) -/

theorem Chan.command_of_open {refuse on : Bool} {c : Chan} (h : isProcFn c.fn = false) : c.command refuse on = c := by
  unfold Chan.command
  rw [h, if_pos (by decide)]

theorem Chan.command_cmd {refuse on : Bool} {c : Chan} (h : isProcFn c.fn = true) : (c.command refuse on).cmd = on := by
  unfold Chan.command
  rw [h, if_neg (by decide)]
  cases on <;> rfl

theorem Chan.applyFrame_of_open {refuse on : Bool} {c : Chan} (h : isProcFn c.fn = false) : c.applyFrame refuse on = c := by
  unfold Chan.applyFrame
  dsimp only
  rw [h, Bool.false_and, if_neg (by decide), Chan.command_of_open h]

theorem Chan.applyFrame_cmd {refuse on : Bool} {c : Chan} (h : isProcFn c.fn = true) : (c.applyFrame refuse on).cmd = on := by
  unfold Chan.applyFrame
  dsimp only
  split
  · exact Chan.command_cmd h
  · exact Chan.command_cmd h

theorem Group.chan_of_mapped {q : Group} {f : Chan × Nat → Chan} {l : List Chan} (hq : q.chans = (l.zipIdx).map f) (hlen : l.length = 16)
    (k : Fin 16) : q.chan k = f ((l[k.val]?).getD {}, k.val) := by
  have hk : k.val < l.length := by rw [hlen]; exact k.isLt
  rw [Group.chan, hq, List.getElem?_map, List.getElem?_zipIdx, List.getElem?_eq_getElem hk]
  simp

/-! ### What follows a command in the group -/

/-- The check of the sums touches the switch-on refusal of its group alone (R220). -/
theorem checkInhibit_group (s : State) (g : Fin 8) (h : s.fio.groups.length = 8) :
    ∃ b, (checkInhibit s g).group g = { s.group g with inhibit := b } ∧ (checkInhibit s g).fio.groups.length = 8 := by
  unfold checkInhibit
  extract_lets q e c
  split
  · refine ⟨true, ?_, ?_⟩
    · rw [raise_group]
      exact getD_modAt (by rw [h]; exact g.isLt)
    · rw [raise_fio]
      exact (List.length_modify _ _ _).trans h
  · exact ⟨(s.group g).inhibit, rfl, h⟩

theorem openLoadEvents_fio (old : State) (g : Fin 8) (s : State) : (openLoadEvents old g s).fio = s.fio := by
  unfold openLoadEvents
  exact foldl_field (p := State.fio) (fun q k => by split <;> simp) _ _

/-- A due frame commands the channels of its group and ends its silence. -/
theorem applyFrame_group (s : State) (g : Fin 8) (f : OutFrame) (h : s.fio.groups.length = 8) :
    ∃ b, (applyFrame g f s).group g = { ({ s.group g with inhibit := b } : Group).applyCmd f.cmd with silent := false } := by
  obtain ⟨b, hb, hlen⟩ := checkInhibit_group s g h
  refine ⟨b, ?_⟩
  unfold applyFrame
  extract_lets s1 was s2 s3
  have h2 : s2.group g = { (s1.group g).applyCmd f.cmd with silent := false } := getD_modAt (by rw [hlen]; exact g.isLt)
  have h3 : s3.group g = s2.group g := State.group_of_fio (openLoadEvents_fio _ _ _) g
  split
  · rw [raise_group, h3, h2, hb]
  · rw [h3, h2, hb]

/-! ### Settling the statement -/

/-- R217: a due frame of a group. -/
theorem applyInstant_gives {n : Nat} {s : State} {g : Fin 8} {f : OutFrame} (hshaped : s.Shaped) (hpend : (s.group g).pending = [f])
    (hdue : f.apply * 25000 ≤ (s.atTime n).time.now) :
    Gives (exec (.applyInstant n g) s) fun t =>
      (t.group g).pending = [] ∧ (t.group g).silent = false ∧
      (∀ k, isProcFn ((s.group g).chan k).fn = true → ((t.group g).chan k).cmd = f.cmd.getLsbD k.val) ∧
      (∀ k, isProcFn ((s.group g).chan k).fn = false → (t.group g).chan k = (s.group g).chan k) := by
  rw [exec_applyInstant]
  unfold execApplyInstant
  extract_lets s0 due nth ordered s1
  refine gives_next ?_
  have hdueIs : due = [f] := by
    unfold due s0
    rw [State.atTime_group, hpend]
    exact List.filter_cons_of_pos (decide_eq_true hdue)
  have hordered : ordered = [f] := by
    unfold ordered
    rw [hdueIs]
    rfl
  have hs1len : s1.fio.groups.length = 8 := (List.length_modify _ _ _).trans hshaped.groups.1
  have hs1 : s1.group g = { s.group g with pending := [] } := by
    have hmod : s1.group g = _ := State.modGroup_group (State.atTime_shaped hshaped)
    rw [hmod]
    unfold s0
    rw [State.atTime_group, hpend, List.filter_cons_of_neg, List.filter_nil]
    rw [decide_eq_true_eq]
    exact Nat.not_lt.mpr hdue
  obtain ⟨b, hb⟩ := applyFrame_group s1 g f hs1len
  rw [hordered, List.foldl_cons, List.foldl_nil, hb, hs1]
  have hchan (k : Fin 16) := Group.chan_of_mapped (q := { ({ ({ s.group g with pending := [] } : Group) with inhibit := b } : Group).applyCmd
    f.cmd with silent := false }) rfl (State.group_chans hshaped g) k
  refine ⟨rfl, rfl, fun k hk => ?_, fun k hk => ?_⟩
  · rw [hchan k]
    exact Chan.applyFrame_cmd hk
  · rw [hchan k]
    exact Chan.applyFrame_of_open hk

/-- R227: a group without a valid output frame takes its safe states. -/
theorem groupOutputSilent_gives {n f : Nat} {s : State} {g : Fin 8} (hshaped : s.Shaped) (hframe : (s.group g).frameAt = some f)
    (hup : (s.group g).up = true) (hheard : (s.group g).silent = false)
    (hlate : f + (s.atTime n).odNat (gIndex g) 0x10 * 1000000 ≤ (s.atTime n).time.now) :
    Gives (exec (.groupOutputSilent n g) s) fun t =>
      (t.group g).pending = [] ∧ (t.group g).silent = true ∧ (t.group g).silences = satAdd 32 (s.group g).silences 1 ∧
      ∀ k : Fin 16, (s.atTime n).safeState (Fin.ofNat 128 (16 * g.val + k.val)) = 0 → isProcFn ((s.group g).chan k).fn = true →
        ((t.group g).chan k).cmd = false := by
  rw [exec_groupOutputSilent]
  unfold execGroupOutputSilent
  extract_lets s0 q s1 safe s2
  refine gives_next ?_
  rw [show q.frameAt = some f from hframe]
  dsimp -zeta only
  rw [if_pos (show q.up = true ∧ q.silent = false ∧ f + s0.odNat (gIndex g) 0x10 * 1000000 ≤ s0.time.now from ⟨hup, hheard, hlate⟩)]
  have hsafe (k : Fin 16) : safe k.val = (s.atTime n).safeState (Fin.ofNat 128 (16 * g.val + k.val)) := by
    have hlt : 16 * g.val + k.val < 128 := by omega
    unfold safe
    rw [dif_pos hlt]
    exact congrArg (s.atTime n).safeState (Fin.ext (Nat.mod_eq_of_lt hlt).symm)
  obtain ⟨b, hb, hlen⟩ := checkInhibit_group (s.atTime n) g hshaped.groups.1
  have hs2 : s2.group g = _ := getD_modAt (by rw [hlen]; exact g.isLt)
  clear_value safe s2
  rw [raise_group, hs2, show (s1.fio.groups[g.val]?).getD {} = { (s.atTime n).group g with inhibit := b } from hb]
  refine ⟨rfl, rfl, rfl, fun k hk hfn => ?_⟩
  rw [Group.chan_of_mapped (l := (s.group g).chans) rfl (State.group_chans hshaped g) k]
  dsimp only
  rw [hsafe k, hk, Chan.toSafe, if_pos rfl]
  exact Chan.command_cmd hfn

/-- Settles O38: the frames, the apply instant, the protections, the silence, the rail and the supply of a group. -/
theorem outputs : Obligations.Outputs := by
  intro n s g ch
  dsimp only
  intro hshaped
  have hnow : (s.atTime n).Shaped := State.atTime_shaped hshaped
  refine ⟨fun bytes k hup hok happly hahead hnear hnew hroom => ?output, fun bytes hup hbad => ?badOutput, fun bytes hup hok => ?drive,
    fun f hpend hdue => applyInstant_gives hshaped hpend hdue, fun hfn hclear hover => ?trip, fun hfn hclear hlong => ?short,
    fun energy hup => ?demag, fun u hheld hpast => ?held, fun hinhibit hclamp hcurrent => ?resumed,
    fun hfn => ⟨fun hclear hlong => ?opened, fun hset hlong => ?closed, fun hclear hlong => ?high, fun h20 hhigh hclear hlong => ?low⟩,
    fun f hframe hup hheard hlate => groupOutputSilent_gives hshaped hframe hup hheard hlate,
    fun hkeep => ?loss, fun hkeep hup => ?rail, ?converter⟩
  case output =>
    rw [exec_outputFrame, execOutputFrame]
    refine gives_next ?_
    rw [State.atTime_group, if_pos hup, if_pos hok, happly]
    dsimp only
    rw [takeOutput, State.atTime_group, if_neg]
    · refine (State.modGroup_group hnow).trans ?_
      rw [State.atTime_group, hnew, if_neg (by decide)]
    · rintro (h | h | ⟨-, h⟩)
      · exact absurd hahead (Nat.not_lt.mpr h)
      · exact absurd hnear (Nat.not_le.mpr h)
      · exact absurd hroom (Nat.not_lt.mpr h)
  case badOutput =>
    rw [exec_outputFrame, execOutputFrame]
    refine gives_next ?_
    rw [State.atTime_group, if_pos hup, hbad, if_neg (by decide)]
    exact linkError_group hnow
  case drive =>
    rw [exec_driveFrame, execDriveFrame]
    refine gives_next ?_
    rw [State.atTime_group, if_pos hup, hok, if_pos rfl]
    exact State.modGroup_group hnow
  case trip =>
    rw [exec_overcurrentTrip, execOvercurrentTrip]
    refine gives_next ?_
    rw [if_pos ⟨hfn, hclear, hover⟩, raise_chan, State.modChan_chan hnow]
    simp [tripChan]
  case short =>
    rw [exec_shortCircuit, execShortCircuit]
    refine gives_next ?_
    rw [if_pos ⟨hfn, hclear, hlong⟩, raise_chan, State.modChan_chan hnow]
    simp [tripChan]
  case demag =>
    rw [exec_demagOver, execDemagOver]
    refine gives_next ?_
    rw [State.atTime_group, if_pos hup]
    extract_lets s1 s2
    have hs1 : s1.Shaped := by
      exact { hnow with groups := groupsOk_modAt (fun _ h => h) hnow.groups }
    have hs1chan : s1.chan ch = s.chan ch := by
      have hgroup : s1.group (chGroup ch) = _ := State.modGroup_group hnow
      unfold State.chan
      rw [hgroup]
      rfl
    have hs2 : s2.chan ch = { s.chan ch with clamp := satAt 65535 energy } := by
      have hmod : s2.chan ch = _ := State.modChan_chan hs1
      rw [hmod, hs1chan]
    split
    · rw [raise_chan]
      have hs2group : s2.group (chGroup ch) = _ := State.modChan_group hs1
      have hlen : (s2.group (chGroup ch)).chans.length = 16 := by
        rw [hs2group]
        exact (List.length_modify _ _ _).trans (State.group_chans hs1 _)
      have hgroups : s2.fio.groups.length = 8 := (List.length_modify _ _ _).trans hs1.groups.1
      have hmod : ∀ f, (s2.modChan ch f).chan ch = f (s2.chan ch) := fun f => by
        have hg : (s2.modChan ch f).group (chGroup ch) = (s2.group (chGroup ch)).modChan (chNo ch) f :=
          getD_modAt (by rw [hgroups]; exact (chGroup ch).isLt)
        rw [State.chan, hg, Group.modChan_chan hlen]
        rfl
      rw [hmod, hs2]
    · exact hs2
  case held =>
    rw [exec_demagHoldExpiry, execDemagHoldExpiry]
    refine gives_next ?_
    simp only [State.atTime_chan, hheld, hpast, if_true]
    exact State.modChan_chan hnow
  case resumed =>
    rw [exec_switchOnResumed, execSwitchOnResumed]
    refine gives_next ?_
    rw [if_pos ⟨hinhibit, hclamp, hcurrent⟩, raise_group]
    exact State.modGroup_group hnow
  case opened =>
    rw [exec_openLoad, execOpenLoad]
    refine gives_next ?_
    rw [State.atTime_chan, hfn, if_neg (by decide), if_pos ⟨hclear, hlong⟩, raise_chan]
    exact State.modChan_chan hnow
  case closed =>
    rw [exec_openLoad, execOpenLoad]
    refine gives_next ?_
    rw [State.atTime_chan, hfn, if_neg (by decide), if_neg (fun h => absurd (hset.symm.trans h.1) (by decide)), if_pos ⟨hset, hlong⟩, raise_chan]
    exact State.modChan_chan hnow
  case high =>
    rw [exec_switchStuck, execSwitchStuck]
    refine gives_next ?_
    rw [State.atTime_chan, if_pos ⟨hfn, hclear, hlong⟩, raise_chan]
    exact State.modChan_chan hnow
  case low =>
    rw [exec_switchStuck, execSwitchStuck]
    refine gives_next ?_
    rw [State.atTime_chan, if_neg, if_pos ⟨h20, hclear, hlong⟩, raise_chan]
    · exact State.modChan_chan hnow
    · rintro ⟨-, h1, h2⟩
      rcases hhigh with h | h
      · exact absurd (h.symm.trans h1) (by decide)
      · exact absurd (h.symm.trans h2) (by decide)
  case loss =>
    rw [exec_keepaliveLoss, execKeepaliveLoss]
    refine gives_next ?_
    rw [State.atTime_fab, hkeep, if_neg (by decide)]
    exact State.modGroup_group hnow
  case rail =>
    rw [exec_pumpedRailAtHoldLevel, execPumpedRailAtHoldLevel]
    refine gives_next ?_
    rw [State.atTime_fab, State.atTime_group, if_pos (by rw [hkeep, hup]; rfl)]
    exact State.modGroup_group hnow
  case converter =>
    rw [exec_groupConverterFail, execGroupConverterFail]
    refine gives_next ?_
    rw [State.modGroup_group hnow]
    exact ⟨rfl, rfl, rfl⟩

end Sys2Proof.Machine
end


section
/-! The consist switch: frames in and out, addresses, links and supervision (O39: R235 to R244, R249 to R251, R257). -/

namespace Sys2Proof.Machine

/-! ### Ports -/

@[simp] theorem State.atTime_port (s : State) (n : Nat) (p : Fin 11) : (s.atTime n).port p = s.port p := rfl

theorem State.port_of_sw {s t : State} (h : t.sw = s.sw) (p : Fin 11) : t.port p = s.port p := by
  unfold State.port
  rw [h]

@[simp] theorem raise_port (c : Code) (d : Bytes) (s : State) (p : Fin 11) : (raise c d s).port p = s.port p :=
  State.port_of_sw (raise_sw c d s) p

@[simp] theorem State.emit_port (s : State) (x : Sent) (p : Fin 11) : (s.emit x).port p = s.port p := rfl

theorem State.modPort_of_len {s : State} {p : Fin 11} {f : Port → Port} (h : s.sw.ports.length = 11) :
    (s.modPort p f).port p = f (s.port p) := getD_modAt (by rw [h]; exact p.isLt)

@[simp] theorem State.modPort_ports_length (s : State) (p : Fin 11) (f : Port → Port) :
    (s.modPort p f).sw.ports.length = s.sw.ports.length := List.length_modify _ _ _

/-! ### The queue of a port (R239) -/

theorem enqueueFrame_other {p o : Fin 11} {x : QFrame} {s : State} (h : p ≠ o) : (enqueueFrame o x s).port p = s.port p := by
  unfold enqueueFrame egressDrop
  split
  · exact State.modPort_other h
  · exact State.modPort_other h

theorem enqueueFrame_ports_length (o : Fin 11) (x : QFrame) (s : State) :
    (enqueueFrame o x s).sw.ports.length = s.sw.ports.length := by
  unfold enqueueFrame egressDrop
  split
  · exact State.modPort_ports_length _ _ _
  · exact State.modPort_ports_length _ _ _

/-- An empty queue takes a frame of at most 32 KiB in any class. -/
theorem Port.room_of_empty {q : Port} {c : Fin 8} {len : Nat} (h : q.queue = []) (hlen : len ≤ 32768) : q.room c len = true := by
  unfold Port.room Port.classBytes
  rw [h]
  split
  · simpa using hlen
  · simp only [List.filter_nil, List.map_nil, List.foldl_nil, Nat.zero_add, Bool.and_eq_true, decide_eq_true_eq]
    omega

theorem enqueueFrame_self {o : Fin 11} {x : QFrame} {s : State} (hlen : s.sw.ports.length = 11) (hempty : (s.port o).queue = [])
    (hsize : x.f.len ≤ 32768) : ((enqueueFrame o x s).port o).queue = [x] := by
  unfold enqueueFrame
  rw [if_pos (Port.room_of_empty hempty hsize), State.modPort_of_len hlen]
  rw [hempty]
  rfl

/-- Frames that are queued one on each of several ports: a port's queue holds its own. -/
theorem enqueueFrame_foldl {p : Fin 11} {x : Fin 11 → QFrame} (hsize : (x p).f.len ≤ 32768) {l : List (Fin 11)} (hnodup : l.Nodup)
    {s : State} (hlen : s.sw.ports.length = 11) (hempty : (s.port p).queue = []) :
    ((l.foldl (fun q o => enqueueFrame o (x o) q) s).port p).queue = if p ∈ l then [x p] else [] := by
  have hkeep (l : List (Fin 11)) (q : State) (h : p ∉ l) : (l.foldl (fun q o => enqueueFrame o (x o) q) q).port p = q.port p := by
    induction l generalizing q with
    | nil => rfl
    | cons o l ih =>
      exact (ih _ (fun hm => h (List.mem_cons_of_mem _ hm))).trans
        (enqueueFrame_other (fun he => h (he ▸ List.mem_cons_self)))
  induction l generalizing s with
  | nil => simpa using hempty
  | cons o l ih =>
    obtain ⟨ho, hl⟩ := List.nodup_cons.mp hnodup
    rw [List.foldl_cons]
    by_cases he : p = o
    · subst he
      rw [hkeep l _ ho, enqueueFrame_self hlen hempty hsize, if_pos List.mem_cons_self]
    · rw [ih hl (by rw [enqueueFrame_ports_length, hlen]) (by rw [enqueueFrame_other he]; exact hempty)]
      simp [he]

@[simp] theorem bumpRed_port (k : Fin 2) (s : State) (p : Fin 11) : (bumpRed k s).port p = s.port p := by
  unfold bumpRed
  split <;> rfl

/-- What a redundancy tag and a VLAN tag add to a frame is at most 10 bytes. -/
theorem State.asSent_len (s : State) (p : Fin 11) (vid : BitVec 12) (pcp : BitVec 3) (red : RedTag) (f : EthFrame) :
    (s.asSent p vid pcp red f).len ≤ max 64 (f.len + 10) := by
  unfold State.asSent
  dsimp only
  have hb (b : Bool) : b2n b ≤ 1 := by cases b <;> decide
  have h1 := hb (if s.untags vid p then (none : Option (BitVec 3 × BitVec 12)) else some (pcp, vid)).isSome
  have h2 : (if red = .none then 0 else 6) ≤ 6 := by split <;> omega
  omega

/-- A frame of the module on a port whose link is up and whose queue is empty (R243). -/
theorem sendLocal_queue {ps : List (Fin 11)} {cls : Fin 8} {stream : Option Nat} {vid : BitVec 12} {pcp : BitVec 3} {f : EthFrame} {s : State}
    {p : Fin 11} (hlen : s.sw.ports.length = 11) (hp : p ∈ ps) (hswitch : p ∈ switchPorts) (hlink : (s.port p).link ≠ 0)
    (hempty : (s.port p).queue = []) (hsize : f.len ≤ 32000) :
    ((sendLocal ps cls stream vid pcp f s).port p).queue =
      [{ f := s.asSent p vid pcp (s.localTag p (ptpOffset f).isSome) f, cls, stamp := s.time.now, isLocal := true, stream, inPort := 10 }] := by
  unfold sendLocal
  extract_lets up both ptp s1 used s2
  have hup : p ∈ up := List.mem_filter.mpr ⟨hp, decide_eq_true hlink⟩
  have hboth : p ∈ both := by
    refine List.mem_filter.mpr ⟨hswitch, ?_⟩
    rw [List.contains_iff_mem.mpr hup]
    rfl
  have hnodup : both.Nodup := List.Nodup.filter _ (by decide)
  have hs1 : (s1.port p).queue = _ := enqueueFrame_foldl (s := s)
    (x := fun o => { f := s.asSent o vid pcp (s.localTag o ptp) f, cls, stamp := s.time.now, isLocal := true, stream, inPort := 10 })
    ((s.asSent_len p vid pcp (s.localTag p ptp) f).trans (by omega)) hnodup hlen hempty
  have hs2 : s2.port p = s1.port p := by unfold s2; split <;> simp
  have hend : (if used 1 then bumpRed 1 s2 else s2).port p = s2.port p := by split <;> simp
  rw [hend, hs2, hs1, if_pos hboth]

/-- The next sequence number of a pair is used once by a frame that leaves on one of its ports. -/
theorem sendLocal_redSeq {ps : List (Fin 11)} {cls : Fin 8} {stream : Option Nat} {vid : BitVec 12} {pcp : BitVec 3} {f : EthFrame} {s : State}
    {p : Fin 11} {k : Fin 2} (hp : p ∈ ps) (hswitch : p ∈ switchPorts) (hlink : (s.port p).link ≠ 0) (hpair : pairOf p = some k)
    (hmode : s.redMode k ≠ 0) : (sendLocal ps cls stream vid pcp f s).redSeq k = s.redSeq k + 1 := by
  unfold sendLocal
  extract_lets up both ptp s1 used s2
  have hup : p ∈ up := List.mem_filter.mpr ⟨hp, decide_eq_true hlink⟩
  have hboth : p ∈ both := by
    refine List.mem_filter.mpr ⟨hswitch, ?_⟩
    rw [List.contains_iff_mem.mpr hup]
    rfl
  have hused : used k = true := by
    unfold used
    rw [Bool.and_eq_true]
    exact ⟨by simpa using hmode, List.any_eq_true.mpr ⟨p, hboth, by simpa using hpair⟩⟩
  have hfold (l : List (Fin 11)) (q : State) (x : Fin 11 → QFrame) :
      (l.foldl (fun q o => enqueueFrame o (x o) q) q).sw.redSeq0 = q.sw.redSeq0 ∧
      (l.foldl (fun q o => enqueueFrame o (x o) q) q).sw.redSeq1 = q.sw.redSeq1 := by
    induction l generalizing q with
    | nil => exact ⟨rfl, rfl⟩
    | cons o l ih =>
      have hstep : (enqueueFrame o (x o) q).sw.redSeq0 = q.sw.redSeq0 ∧ (enqueueFrame o (x o) q).sw.redSeq1 = q.sw.redSeq1 := by
        unfold enqueueFrame egressDrop
        split <;> exact ⟨rfl, rfl⟩
      obtain ⟨h0, h1⟩ := ih (enqueueFrame o (x o) q)
      exact ⟨h0.trans hstep.1, h1.trans hstep.2⟩
  have h01 : s1.sw.redSeq0 = s.sw.redSeq0 ∧ s1.sw.redSeq1 = s.sw.redSeq1 := hfold both s _
  obtain ⟨h0, h1⟩ := h01
  clear_value s1 used
  unfold s2 bumpRed State.redSeq
  match k with
  | 0 =>
    rw [hused]
    cases used 1 <;> simp [h0]
  | 1 =>
    rw [hused]
    cases used 0 <;> simp [h1]

/-! ### Frames on the wire (R249, R250) -/

/-- A frame of the module starts on the wire as it is. -/
theorem startFrame_local {p : Fin 11} {x : QFrame} {stop : Nat} {s : State} (hlocal : x.isLocal = true) :
    startFrame p x stop s = (s.modPort p (fun q => { q with
      tx := satAdd 64 q.tx 1, onWire := some (x, s.time.now + wireNs (s.port p).link.val x.f.len, stop) })).emit (.eth p x.f) := by
  have hplain : (if x.isLocal = true then none else ptpOffset x.f) = none := if_pos hlocal
  unfold startFrame
  rw [hplain]

/-- The one frame of a queue is the first of its class. -/
theorem findSome_class (x : QFrame) :
    ([7, 6, 5, 4, 3, 2, 1, 0] : List (Fin 8)).findSome? (fun c => [x].find? (fun y => y.cls = c)) = some x := by
  simp only [List.find?_singleton, decide_eq_true_eq]
  generalize x.cls = c
  fin_cases c <;> rfl

/-- A frame that starts on a scheduled port whose window is open and whose queue holds nothing stale. -/
theorem transmitOn_of_open {p : Fin 11} {k : Nat} {w : Win} {x : QFrame} {s : State} (hlen : s.sw.ports.length = 11)
    (hwin : openWin (s.winTable k) (s.cycleNow % s.macroM) s.intoCycle = some w)
    (hfresh : w.kind = 1 → ∀ y ∈ (s.port p).queue, y.stream = some w.stream →
      s.isStale (s.winTable k) (s.time.now - s.intoCycle + w.start) y = false)
    (hfirst : firstFor w (s.port p).queue = some x) (hlocal : x.isLocal = true)
    (hgate : s.gateOpen w s.intoCycle (wireNs (s.port p).link.val x.f.len) x = true) :
    (s.guardianOpen k (s.cycleNow % s.macroM) s.intoCycle (wireNs (s.port p).link.val x.f.len) x = true →
      (transmitOn p k s).sent = s.sent ++ [.eth p x.f] ∧ ((transmitOn p k s).port p).queue = takeOut x (s.port p).queue ∧
      ((transmitOn p k s).port p).tx = satAdd 64 (s.port p).tx 1) ∧
    (s.guardianOpen k (s.cycleNow % s.macroM) s.intoCycle (wireNs (s.port p).link.val x.f.len) x = false →
      (transmitOn p k s).sent = s.sent ∧ ((transmitOn p k s).port p).queue = takeOut x (s.port p).queue ∧
      ((transmitOn p k s).port p).tx = (s.port p).tx ∧ (transmitOn p k s).sw.withheld = satAdd 64 s.sw.withheld 1) := by
  unfold transmitOn
  extract_lets c y ws base
  rw [show openWin ws c y = some w from hwin]
  dsimp -zeta only
  extract_lets stale s1
  have hstale : stale = [] := by
    unfold stale
    split
    next hkind =>
      refine List.filter_eq_nil_iff.mpr fun z hz => ?_
      rw [Bool.and_eq_true, decide_eq_true_eq]
      rintro ⟨hstream, hold⟩
      exact absurd (hold.symm.trans (hfresh hkind z hz hstream)) (by decide)
    · rfl
  have hs1 : s1 = s.modPort p (fun q => { q with queue := q.queue.filter (fun z => !([] : List QFrame).contains z) }) := by
    unfold s1
    rw [hstale]
    rfl
  have hs1port : s1.port p = s.port p := by
    rw [hs1, State.modPort_of_len hlen]
    simp
  have hs1len : s1.sw.ports.length = 11 := by rw [hs1, State.modPort_ports_length, hlen]
  have hs1rest : s1.sent = s.sent ∧ s1.sw.withheld = s.sw.withheld ∧
      (∀ v u z, s1.gateOpen w v u z = s.gateOpen w v u z) ∧ (∀ v u z, s1.guardianOpen k c v u z = s.guardianOpen k c v u z) := by
    rw [hs1]
    exact ⟨rfl, rfl, fun _ _ _ => rfl, fun _ _ _ => rfl⟩
  obtain ⟨hsent, hwithheld, hgates, hguards⟩ := hs1rest
  clear_value s1
  rw [hs1port, hfirst]
  dsimp -zeta only
  extract_lets wire s2
  have hs2 : s2.port p = { s.port p with queue := takeOut x (s.port p).queue } := by
    unfold s2
    rw [State.modPort_of_len hs1len, hs1port]
  have hs2len : s2.sw.ports.length = 11 := by unfold s2; rw [State.modPort_ports_length, hs1len]
  have hs2sent : s2.sent = s.sent := hsent
  have hs2withheld : s2.sw.withheld = s.sw.withheld := hwithheld
  rw [hgates, if_pos (show s.gateOpen w y wire x = true from hgate), hlocal, Bool.true_and, hguards]
  clear_value s2
  refine ⟨fun hopen => ?_, fun hclosed => ?_⟩
  · rw [show s.guardianOpen k c y wire x = true from hopen, Bool.not_true, if_neg (by decide), startFrame_local hlocal, State.emit_port,
      State.modPort_of_len hs2len, hs2]
    exact ⟨congrArg (· ++ [Sent.eth p x.f]) hs2sent, rfl, rfl⟩
  · rw [show s.guardianOpen k c y wire x = false from hclosed, Bool.not_false, if_pos rfl]
    refine ⟨hs2sent, ?_, ?_, by rw [hs2withheld]⟩
    · show (s2.port p).queue = _
      rw [hs2]
    · show (s2.port p).tx = _
      rw [hs2]

/-! ### Links (R235, R237, R244) -/

/-- What a degraded port changes of its own. -/
theorem degrade_port {p : Fin 11} {s : State} (hlen : s.sw.ports.length = 11) :
    ∃ b, (degrade p s).port p = { s.port p with degraded := b } := by
  unfold degrade
  split
  · split
    · refine ⟨true, ?_⟩
      rw [raise_port, State.modPort_of_len hlen]
    · exact ⟨(s.port p).degraded, rfl⟩
  · exact ⟨(s.port p).degraded, rfl⟩

/-- A port of a redundant pair that is not heard is degraded. -/
theorem degrade_of_red {p : Fin 11} {s : State} (hlen : s.sw.ports.length = 11) (hred : s.portRed p ≠ 0) :
    (degrade p s).port p = { s.port p with degraded := true } := by
  unfold degrade
  unfold State.portRed at hred
  cases hk : pairOf p with
  | none => rw [hk] at hred; exact absurd rfl hred
  | some k =>
    rw [hk] at hred
    dsimp only
    split
    · rw [raise_port, State.modPort_of_len hlen]
    next hnot =>
      have hdeg : (s.port p).degraded = true := by
        cases hd : (s.port p).degraded with
        | true => rfl
        | false => exact absurd ⟨hred, hd⟩ hnot
      rw [← hdeg]

/-- A frame of a port outside the redundant pairs is not looked for twice (R243). -/
theorem dedupe_of_single {p : Fin 11} {f : EthFrame} {s : State} (h : s.portRed p = 0) : dedupe p f s = (s, true) := by
  unfold dedupe
  split
  next k q hk hq =>
    unfold State.portRed at h
    rw [hk] at h
    exact if_pos (.inl h)
  · rfl

theorem heardSupervision_of_single {p : Fin 11} {f : EthFrame} {s : State} (h : s.portRed p = 0) : heardSupervision p f s = s :=
  if_neg (fun hn => hn.1 h)

theorem ingressDrop_port {p : Fin 11} {s : State} (hlen : s.sw.ports.length = 11) :
    (ingressDrop p s).port p = { s.port p with inDrops := satAdd 64 (s.port p).inDrops 1 } := State.modPort_of_len hlen

/-- A frame whose VLAN does not have its port is dropped (R240). -/
theorem switchFrame_of_foreign {p : Fin 11} {f : EthFrame} {s : State} (h : s.member (s.vlanOf p f).1 p = false) :
    switchFrame p f s = ingressDrop p s := if_pos h

/-- The ports of a redundant pair are among those that the switch forwards on. -/
theorem mem_of_pairOf {p : Fin 11} {k : Fin 2} (h : pairOf p = some k) :
    p ∈ (if k = 0 then [1, 2] else [3, 4] : List (Fin 11)) ∧ p ∈ switchPorts := by
  revert h; revert k p; decide

/-- The speeds of R235. -/
theorem linkSpeed_fits (p : Fin 11) (speed : Fin 4)
    (h : if 1 ≤ p.val ∧ p.val ≤ 6 then speed = 1 ∨ speed = 2 else if p = 7 then speed = 1 else (p = 8 ∨ p = 9) ∧ speed = 3) :
    (if 1 ≤ p.val ∧ p.val ≤ 6 then decide (speed.val = 1 ∨ speed.val = 2) else if p.val = 7 then decide (speed.val = 1)
      else if p.val = 8 ∨ p.val = 9 then decide (speed.val = 3) else false) = true := by
  revert h; revert p speed; decide

/-- Settles O39: each command of the switch, by its conditions. -/
theorem switchFramesAndLinks : Obligations.SwitchFramesAndLinks := by
  intro n s p
  dsimp only
  intro hshaped hrun
  have hlen : (s.atTime n).sw.ports.length = 11 := hshaped.ports
  have hbusy (hidle : ∀ x e w, (s.port p).onWire = some (x, e, w) → e ≤ (s.atTime n).time.now) :
      (match (s.port p).onWire with
        | some (_, e, _) => decide ((s.atTime n).time.now < e)
        | none => false) = false := by
    split
    next x e w hw => exact decide_eq_false (Nat.not_lt.mpr (hidle x e w hw))
    · rfl
  refine ⟨fun f hp hlink hdrop => ?dropped, fun f hlink hgood => ⟨fun hp => ?internal, fun h0 h7 h8 hred => ?ordinary⟩,
    fun x hlink hidle hsched hqueue hlocal => ?unscheduled,
    fun x k w hlink hidle hsched hwin hfresh hfirst hlocal hgate => ⟨fun hopen => ?sends, fun hclosed => ?withheld⟩,
    fun x e stop hwire hlocal hsched hstop hend => ?cut, fun mac => ?age, fun hlink => ?down, fun speed hon hspeed hfits => ?up,
    fun k hmode hpair hlink hqueue => ?supervision, fun hred hdue => ?degraded⟩
  case dropped =>
    rw [exec_frameReceived, execFrameReceived]
    refine gives_next ?_
    dsimp only
    rw [State.atTime_port, if_neg, if_pos hdrop]
    · exact ⟨ingressDrop_port hlen, rfl⟩
    · rintro (h | h | ⟨h10, h⟩)
      · exact absurd (hrun.symm.trans h) (by decide)
      · exact hp (Fin.ext h)
      · rcases hlink with rfl | hlink
        · exact h10 rfl
        · exact hlink h
  case internal =>
    subst hp
    rw [exec_frameReceived, execFrameReceived]
    refine gives_next ?_
    dsimp only
    rw [State.atTime_port, if_neg, if_neg (by rw [hgood]; decide), if_pos (by decide)]
    · exact ⟨rfl, congrArg Port.rx (State.modPort_of_len hlen)⟩
    · rintro (h | h | ⟨-, h⟩)
      · exact absurd (hrun.symm.trans h) (by decide)
      · exact absurd h (by decide)
      · exact hlink h
  case ordinary =>
    rw [exec_frameReceived, execFrameReceived]
    refine gives_next ?_
    dsimp only
    have hred1 : ((s.atTime n).modPort p (fun q => { q with rx := satAdd 64 q.rx 1 })).portRed p = 0 := hred
    rw [State.atTime_port, if_neg, if_neg (by rw [hgood]; decide), if_neg (fun h : p.val = 7 => h7 (Fin.ext h)),
      if_neg (fun h : p.val = 8 => h8 (Fin.ext h)),
      if_neg (fun h => absurd (hred1.symm.trans h.1) (by decide)), heardSupervision_of_single hred1, dedupe_of_single hred1, if_pos rfl]
    · refine ⟨rfl, fun hmember => ?_⟩
      refine (congrArg (fun t => t.port p) (switchFrame_of_foreign ?foreign)).trans ?_
      · exact hmember
      · rw [ingressDrop_port (by rw [State.modPort_ports_length, hlen]), State.modPort_of_len hlen]
        rfl
    · rintro (h | h | ⟨-, h⟩)
      · exact absurd (hrun.symm.trans h) (by decide)
      · exact h0 (Fin.ext h)
      · exact hlink h
  case unscheduled =>
    rw [exec_frameTransmit, execFrameTransmit]
    refine gives_next ?_
    simp only [State.atTime_port, hsched, hqueue, findSome_class]
    rw [if_neg, startFrame_local hlocal]
    · refine ⟨rfl, ?_⟩
      rw [State.emit_port, State.modPort_of_len (by rw [State.modPort_ports_length, hlen]), State.modPort_of_len hlen, State.atTime_port,
        hqueue]
      simp [takeOut]
    · rintro (h | h | h)
      · exact absurd (hrun.symm.trans h) (by decide)
      · exact hlink h
      · exact absurd ((hbusy hidle).symm.trans h) (by decide)
  case sends =>
    rw [exec_frameTransmit, execFrameTransmit]
    refine gives_next ?_
    rw [State.atTime_port, if_neg, hsched]
    · exact (transmitOn_of_open hlen hwin hfresh hfirst hlocal hgate).1 hopen
    · rintro (h | h | h)
      · exact absurd (hrun.symm.trans h) (by decide)
      · exact hlink h
      · exact absurd ((hbusy hidle).symm.trans h) (by decide)
  case withheld =>
    rw [exec_frameTransmit, execFrameTransmit]
    refine gives_next ?_
    rw [State.atTime_port, if_neg, hsched]
    · exact (transmitOn_of_open hlen hwin hfresh hfirst hlocal hgate).2 hclosed
    · rintro (h | h | h)
      · exact absurd (hrun.symm.trans h) (by decide)
      · exact hlink h
      · exact absurd ((hbusy hidle).symm.trans h) (by decide)
  case cut =>
    rw [exec_guardianCut, execGuardianCut]
    refine gives_next ?_
    simp only [State.atTime_port, hwire]
    rw [if_pos ⟨hlocal, hsched, hstop, hend⟩, raise_port, raise_sw, raise_sent]
    exact ⟨State.modPort_of_len hlen, rfl, rfl⟩
  case age =>
    rw [exec_macAgeOut, execMacAgeOut]
    refine gives_next ?_
    intro e
    refine List.mem_filter.trans (and_congr_right fun _ => ?_)
    rw [Bool.not_eq_true', ← Bool.not_eq_true]
    refine not_congr ?_
    simp only [Bool.and_eq_true, decide_eq_true_eq, Bool.not_eq_true']
  case down =>
    rw [exec_linkDown, execLinkDown]
    refine gives_next ?_
    rw [State.atTime_port, if_neg hlink]
    obtain ⟨b, hb⟩ := degrade_port (p := p) (s := raise evLinkDown [portByte p]
      ((s.atTime n).modPort p (fun q => { q with link := 0, onWire := none }))) (by rw [raise_sw, State.modPort_ports_length, hlen])
    rw [hb, raise_port, State.modPort_of_len hlen]
    exact ⟨rfl, rfl, rfl⟩
  case up =>
    rw [exec_linkUp, execLinkUp]
    refine gives_next ?_
    rw [State.atTime_port, if_pos, raise_port, State.modPort_of_len hlen]
    · rfl
    · exact ⟨linkSpeed_fits p speed hfits, hrun, hon, hspeed⟩
  case supervision =>
    rw [exec_supervisionFrameSend, execSupervisionFrameSend]
    refine gives_next ?_
    rw [if_pos ⟨hrun, hmode⟩]
    have hp := mem_of_pairOf hpair
    refine ⟨sendLocal_redSeq hp.1 hp.2 hlink hpair hmode, ?_⟩
    rw [sendLocal_queue hlen hp.1 hp.2 hlink hqueue (show 64 ≤ 32000 by decide)]
    exact ⟨_, rfl, rfl, rfl, rfl, rfl⟩
  case degraded =>
    rw [exec_redundancyDegraded, execRedundancyDegraded]
    refine gives_next ?_
    rw [if_pos]
    · exact degrade_of_red hlen hred
    · refine ⟨hrun, hred, ?_⟩
      rw [State.atTime_port]
      cases hat : (s.port p).supervisionAt with
      | none => rfl
      | some x =>
        rw [hat] at hdue
        exact decide_eq_true hdue

end Sys2Proof.Machine
end


section
/-! Beacons and port guardians (O40: R252 to R258). -/

namespace Sys2Proof.Machine

/-! ### Closing causes (R258) -/

/-- Two states whose switches differ in the guardians' causes and their count of closures alone. -/
def SameButCauses (s t : State) : Prop := t.sw = { s.sw with causes := t.sw.causes, closures := t.sw.closures }

theorem closeGuard_sameButCauses (i : Nat) (s : State) : SameButCauses s (closeGuard i s) := by
  unfold SameButCauses closeGuard
  split
  · rfl
  · dsimp only
    split
    · rw [raise_sw]
    · rfl

theorem clearGuard_sameButCauses (i : Nat) (s : State) : SameButCauses s (clearGuard i s) := by
  unfold SameButCauses clearGuard
  split
  · rw [raiseIf_sw]
  · rfl

theorem causeBit_getLsbD {i : Nat} (h : i < 8) : (causeBit i).getLsbD i = true := by
  rw [causeBit, BitVec.getLsbD_ofNat, Nat.testBit_two_pow_self]
  simp [h]

theorem closeGuard_hasCause {i : Nat} (h : i < 8) (s : State) : (closeGuard i s).hasCause i = true := by
  have hset : (s.sw.causes ||| causeBit i).getLsbD i = true := by rw [BitVec.getLsbD_or, causeBit_getLsbD h, Bool.or_true]
  unfold closeGuard
  split
  next hc => exact hc
  · dsimp only
    split
    · unfold State.hasCause
      rw [raise_sw]
      exact hset
    · exact hset

theorem clearGuard_hasCause {i : Nat} (h : i < 8) (s : State) : (clearGuard i s).hasCause i = false := by
  unfold clearGuard
  split
  · unfold State.hasCause
    rw [raiseIf_sw]
    dsimp only
    rw [BitVec.getLsbD_and, BitVec.getLsbD_not, causeBit_getLsbD h]
    simp
  next hc => exact Bool.eq_false_iff.mpr hc

/-! ### A beacon that is heard (R254, R255) -/

theorem countBeacon_fields (d : Nat) (s : State) :
    (countBeacon d s).sw.heard = s.sw.heard ∧ (countBeacon d s).sw.heardCycle = s.sw.heardCycle ∧
    (countBeacon d s).sw.missRun = s.sw.missRun ∧ (countBeacon d s).sw.master = s.sw.master ∧
    (countBeacon d s).sw.beacon = s.sw.beacon ∧
    (d = 0 → (countBeacon d s).sw.badRun = 0 ∧ (countBeacon d s).sw.goodRun = s.sw.goodRun + 1) ∧
    (d ≠ 0 → (countBeacon d s).sw.badRun = s.sw.badRun + 1 ∧ (countBeacon d s).sw.goodRun = 0 ∧
      (1 ≤ s.sw.badRun → (countBeacon d s).hasCause 1 = true)) := by
  unfold countBeacon
  by_cases hd : d = 0
  · rw [if_pos hd]
    extract_lets w0 s1
    obtain ⟨t, ht, hsw⟩ : ∃ t, (if 16 ≤ s1.sw.goodRun then clearGuard 1 s1 else s1) = t ∧ SameButCauses s1 t := by
      refine ⟨_, rfl, ?_⟩
      split
      · exact clearGuard_sameButCauses 1 s1
      · rfl
    rw [ht, hsw]
    exact ⟨rfl, rfl, rfl, rfl, rfl, fun _ => ⟨rfl, rfl⟩, fun hn => absurd hd hn⟩
  · rw [if_neg hd]
    extract_lets w0 s1
    have hs1 : s1.sw = { s.sw with badRun := s.sw.badRun + 1, goodRun := 0 } := raise_sw _ _ _
    obtain ⟨t, ht, hsw, hcause⟩ : ∃ t, (if 2 ≤ s1.sw.badRun then closeGuard 1 s1 else s1) = t ∧ SameButCauses s1 t ∧
        (1 ≤ s.sw.badRun → t.hasCause 1 = true) := by
      refine ⟨_, rfl, ?_, fun hrun => ?_⟩
      · split
        · exact closeGuard_sameButCauses 1 s1
        · rfl
      · rw [if_pos (by rw [hs1]; exact Nat.succ_le_succ hrun)]
        exact closeGuard_hasCause (by decide) s1
    rw [ht]
    refine ⟨?_, ?_, ?_, ?_, ?_, fun h0 => absurd h0 hd, fun _ => ⟨?_, ?_, hcause⟩⟩ <;> rw [hsw, hs1]

theorem yieldBeacon_fields (own id rank : Nat) (s : State) :
    (yieldBeacon own id rank s).sw = { s.sw with beacon := (yieldBeacon own id rank s).sw.beacon
                                                 yielded := (yieldBeacon own id rank s).sw.yielded } ∧
    (s.sw.beacon = 2 → id ≠ s.nodeId.toNat → rank < own →
      (yieldBeacon own id rank s).sw.beacon = 1 ∧ (yieldBeacon own id rank s).sw.yielded = true) := by
  unfold yieldBeacon
  split
  · rw [raise_sw]
    exact ⟨rfl, fun _ _ _ => ⟨rfl, rfl⟩⟩
  next hnot => exact ⟨rfl, fun h2 hid hrank => absurd ⟨h2, hid, .inl hrank⟩ hnot⟩

theorem countBeacon_nodeId (d : Nat) (s : State) : (countBeacon d s).nodeId = s.nodeId := by
  have h := only_countBeacon (m0 := [.sw, .records]) rfl d s (Only.refl _ s)
  unfold State.nodeId State.odForceNat State.odForce
  rw [h.od rfl, h.ctl rfl rfl]

theorem mem_switchPorts_of_sched {p : Fin 11} (h : p ∈ schedPorts) : p ∈ switchPorts := by
  revert h; revert p; decide

/-- Settles O40: the beacon sent and heard, the candidate's limit, and the guardians' own checks. -/
theorem beaconAndGuardians : Obligations.BeaconAndGuardians := by
  intro n s p
  dsimp only
  intro hshaped
  have hlen : (s.atTime n).sw.ports.length = 11 := hshaped.ports
  refine ⟨fun hrun hmaster hp hlink hqueue => ?send, fun m payload hcycle hrun hlength hversion => ?hear,
    fun r hrank hrun hslave hdue => ?starts, fun readBack m hmatrix => ?table, fun value elapsed v hold => ?counter, fun x hbad hlate => ?cleared⟩
  case send =>
    rw [exec_beaconSend, execBeaconSend]
    refine gives_next ?_
    rw [if_pos ⟨hrun, hmaster⟩, sendLocal_queue hlen hp (mem_switchPorts_of_sched hp) hlink hqueue (show 66 ≤ 32000 by decide)]
    exact ⟨_, rfl, rfl, rfl, rfl, rfl, rfl, rfl⟩
  case hear =>
    rw [exec_beaconReceived, execBeaconReceived]
    refine gives_next ?_
    dsimp only
    rw [hcycle]
    dsimp only
    rw [if_neg]
    · obtain ⟨hheard, hheardCycle, hmiss, hmaster, hbeacon, hsame, hdiffer⟩ := countBeacon_fields
        ((hearBeacon (beAt payload 2 2) (s.atTime n)).beaconDiffers m payload) (hearBeacon (beAt payload 2 2) (s.atTime n))
      have hnode := countBeacon_nodeId ((hearBeacon (beAt payload 2 2) (s.atTime n)).beaconDiffers m payload)
        (hearBeacon (beAt payload 2 2) (s.atTime n))
      have hd : (hearBeacon (beAt payload 2 2) (s.atTime n)).beaconDiffers m payload = (s.atTime n).beaconDiffers m payload := rfl
      rw [hd] at hheard hheardCycle hmiss hmaster hbeacon hsame hdiffer hnode ⊢
      generalize countBeacon ((s.atTime n).beaconDiffers m payload) (hearBeacon (beAt payload 2 2) (s.atTime n)) = u at *
      obtain ⟨hrest, hyield⟩ := yieldBeacon_fields ((s.atTime n).beaconRank.getD 0) (beAt payload 2 2) (beAt payload 4 1) u
      have hcause : (yieldBeacon ((s.atTime n).beaconRank.getD 0) (beAt payload 2 2) (beAt payload 4 1) u).hasCause 1 = u.hasCause 1 := by
        unfold State.hasCause
        rw [hrest]
      refine ⟨by rw [hrest]; exact hheard, by rw [hrest]; exact hheardCycle, by rw [hrest]; exact hmiss, by rw [hrest]; exact hmaster,
        fun h0 => ?_, fun h0 => ?_, fun h2 hid hrank => hyield ?_ ?_ hrank⟩
      · rw [hrest]
        exact hsame h0
      · rw [hcause, hrest]
        exact hdiffer h0
      · rw [hbeacon]
        exact if_pos h2
      · rw [hnode]
        exact hid
    · rintro (h | h | h)
      · exact absurd (hrun.symm.trans h) (by decide)
      · exact h hlength
      · exact h hversion
  case starts =>
    rw [exec_beaconTimeout, execBeaconTimeout]
    refine gives_next ?_
    dsimp only
    rw [hrank]
    dsimp only
    rw [if_pos, raise_sw]
    · exact ⟨rfl, rfl⟩
    · refine ⟨hrun, hslave, ?_⟩
      rw [State.atTime_sw]
      split
      next hheard =>
        rw [if_pos hheard] at hdue
        rw [decide_eq_true hdue.1, decide_eq_true hdue.2]
        rfl
      next hheard =>
        rw [if_neg hheard] at hdue
        exact decide_eq_true hdue
  case table =>
    rw [exec_guardianTableCheck, execGuardianTableCheck]
    refine gives_next ?_
    simp only [State.atTime_sw, hmatrix]
    split
    next hsame => exact ⟨rfl, rfl, fun _ _ => rfl, fun hdiffer => absurd hsame.1 hdiffer⟩
    next hdiffer =>
      split
      next hcause => exact ⟨rfl, rfl, fun h1 h2 => absurd ⟨h1, h2⟩ hdiffer, fun _ => hcause⟩
      · refine ⟨?_, ?_, fun h1 h2 => absurd ⟨h1, h2⟩ hdiffer, fun _ => closeGuard_hasCause (by decide) _⟩
        · rw [closeGuard_sameButCauses 2 _, raise_sw]
        · rw [closeGuard_sameButCauses 2 _, raise_sw]
  case counter =>
    rw [exec_guardianCounterFault, execGuardianCounterFault]
    refine gives_next ?_
    simp only [State.atTime_sw, hold]
    split
    next hjump =>
      refine ⟨?_, fun hnear => absurd hjump (Nat.not_lt.mpr hnear), fun _ => ⟨closeGuard_hasCause (by decide) _, ?_⟩⟩ <;>
        rw [closeGuard_sameButCauses 3 _]
    next hnear => exact ⟨rfl, fun _ => rfl, fun hjump => absurd hjump hnear⟩
  case cleared =>
    rw [exec_counterCauseCleared, execCounterCauseCleared]
    refine gives_next ?_
    simp only [State.atTime_sw, hbad, hlate, if_true]
    refine ⟨clearGuard_hasCause (by decide) _, ?_⟩
    rw [clearGuard_sameButCauses 3 _]

end Sys2Proof.Machine
end


section
/-! PTP slots: offset samples, masters, delays and what the ports send (O41: R262 to R272, R276, R279). -/

namespace Sys2Proof.Machine

/-! ### What the time state's operations leave (R273, R275) -/

/-- Two states whose time bases differ in the module time state and TIME_LOCKED alone. -/
def SameButTimeState (s t : State) : Prop :=
  t.time = { s.time with state := t.time.state, holdoverSince := t.time.holdoverSince, timeLocked := t.time.timeLocked }

theorem SameButTimeState.trans {s t u : State} (h : SameButTimeState s t) (k : SameButTimeState t u) : SameButTimeState s u := by
  unfold SameButTimeState at *
  rw [k, h]

theorem SameButTimeState.of_time {s t : State} (h : t.time = s.time) : SameButTimeState s t := by
  unfold SameButTimeState
  rw [h]

theorem SameButTimeState.ptp {s t : State} (h : SameButTimeState s t) (j : Fin 2) : t.ptp j = s.ptp j := by
  unfold State.ptp
  rw [h]

/-- TIME_LOCKED follows; the guardians' causes are not the time base's. -/
theorem timeGuard_time (s : State) : (timeGuard s).time = { s.time with timeLocked := s.lockedNow } := by
  unfold timeGuard
  extract_lets t s1
  have hclose (i : Nat) (q : State) : (closeGuard i q).time = q.time := (only_closeGuard (m0 := [.sw, .records]) rfl i q (Only.refl _ q)).time rfl rfl
  have hclear (i : Nat) (q : State) : (clearGuard i q).time = q.time := (only_clearGuard (m0 := [.sw, .records]) rfl i q (Only.refl _ q)).time rfl rfl
  split_ifs
  · exact hclose 0 s1
  · exact hclear 0 s1
  · rfl

theorem timeGuard_sameButTimeState (s : State) : SameButTimeState s (timeGuard s) := by
  unfold SameButTimeState
  rw [timeGuard_time]

theorem setTime_sameButTimeState (new : TState) (s : State) : SameButTimeState s (setTime new s) := by
  unfold SameButTimeState setTime
  split
  · rfl
  · dsimp only
    split
    · rw [raise_time]
    · split
      · rw [raise_time]
      · rfl

theorem loseReference_sameButTimeState (s : State) : SameButTimeState s (loseReference s) := by
  unfold loseReference
  split
  · exact setTime_sameButTimeState _ _
  · rfl

theorem followSlots_sameButTimeState (s : State) : SameButTimeState s (followSlots s) := by
  have hsame : SameButTimeState s s := rfl
  have hset (new : TState) : SameButTimeState s (setTime new s) := setTime_sameButTimeState new s
  unfold followSlots
  dsimp only
  split <;> split_ifs <;> simp only [hsame, hset]

/-! ### A slot and the rest of the time base -/

/-- Two states whose time bases differ in their PTP slots alone. -/
def SameButSlots (s t : State) : Prop := t.time = { s.time with slot0 := t.time.slot0, slot1 := t.time.slot1 }

theorem State.modPtp_sameButSlots (s : State) (j : Fin 2) (f : PtpSlot → PtpSlot) : SameButSlots s (s.modPtp j f) := by
  unfold SameButSlots State.modPtp
  split <;> rfl

theorem State.ptp_of_time {s t : State} (h : t.time = s.time) (j : Fin 2) : t.ptp j = s.ptp j := by
  unfold State.ptp
  rw [h]

@[simp] theorem raise_ptp (c : Code) (d : Bytes) (s : State) (j : Fin 2) : (raise c d s).ptp j = s.ptp j :=
  State.ptp_of_time (raise_time c d s) j

@[simp] theorem raiseIf_ptp (b : Bool) (c : Code) (d : Bytes) (s : State) (j : Fin 2) : (raiseIf b c d s).ptp j = s.ptp j :=
  State.ptp_of_time (raiseIf_time b c d s) j

@[simp] theorem timeGuard_ptp (s : State) (j : Fin 2) : (timeGuard s).ptp j = s.ptp j := (timeGuard_sameButTimeState s).ptp j
@[simp] theorem followSlots_ptp (s : State) (j : Fin 2) : (followSlots s).ptp j = s.ptp j := (followSlots_sameButTimeState s).ptp j
@[simp] theorem loseReference_ptp (s : State) (j : Fin 2) : (loseReference s).ptp j = s.ptp j := (loseReference_sameButTimeState s).ptp j

@[simp] theorem State.atTime_ptp (s : State) (n : Nat) (j : Fin 2) : (s.atTime n).ptp j = s.ptp j := by
  unfold State.ptp
  split <;> rfl

@[simp] theorem State.emit_ptp (s : State) (x : Sent) (j : Fin 2) : (s.emit x).ptp j = s.ptp j := rfl

theorem selectSlot_ptp (j k : Fin 2) (s : State) : (selectSlot j s).ptp k = s.ptp k := by
  unfold selectSlot
  split
  · rfl
  · rw [raise_ptp]
    rfl

theorem noteOffset_ptp (j k : Fin 2) (o : Int) (s : State) : (noteOffset j o s).ptp k = s.ptp k := by
  unfold noteOffset
  split <;> rfl

theorem utcFrom_ptp (a : Announce) (s : State) (j : Fin 2) : (utcFrom a s).ptp j = s.ptp j := by
  unfold utcFrom
  dsimp only
  rw [raiseIf_ptp]
  rfl

/-! ### Offset samples (R271 to R279) -/

/-- A servo mode that takes effect leaves the slots, the counter and the written values. -/
theorem servoSwitch_fields (s : State) :
    (servoSwitch s).time = { s.time with servoPending := (servoSwitch s).time.servoPending, hostServo := (servoSwitch s).time.hostServo } ∧
    (servoSwitch s).od.values = s.od.values ∧ (servoSwitch s).ctl = s.ctl := by
  unfold servoSwitch
  split
  · split
    · exact ⟨rfl, rfl, rfl⟩
    · dsimp only
      rw [raise_time, raise_time, raise_od, raise_od, raise_ctl, raise_ctl]
      exact ⟨rfl, rfl, rfl⟩
  · exact ⟨rfl, rfl, rfl⟩

theorem acquire_fields (j : Fin 2) (offset : Int) (s : State) :
    let t := acquire j offset s
    t.time.acquired = true ∧ t.time.armed = false ∧ t.time.calendarValid = true ∧ t.time.stepPending = some (offset, false) ∧
    (t.ptp j).accepted = some offset ∧ (t.ptp j).state = .measuring := by
  dsimp only
  unfold acquire
  dsimp only
  rw [raise_ptp, raise_time, State.modPtp_ptp, State.modPtp_sameButSlots _ j _]
  exact ⟨rfl, rfl, rfl, rfl, rfl, rfl⟩

theorem refuseSample_fields (j : Fin 2) (change : Int) (s : State) :
    let t := refuseSample j change s
    (t.ptp j).state = .refused ∧ (t.ptp j).jumps = satAdd 24 (s.ptp j).jumps 1 ∧ (t.ptp j).refusedAt = some s.time.now ∧
    (t.ptp j).accepted = (s.ptp j).accepted ∧ (t.ptp j).run500 = 0 ∧ t.time.rate = s.time.rate := by
  dsimp only
  unfold refuseSample
  extract_lets near s1 s2
  have hs2 : s2.time = s1.time := raise_time _ _ _
  have hs1 : s1.ptp j = _ := State.modPtp_ptp
  have hrate : s1.time.rate = s.time.rate := by
    have h : SameButSlots s s1 := State.modPtp_sameButSlots s j _
    rw [h]
  obtain ⟨t, ht, hsame⟩ : ∃ t, (if s.time.selected = j then loseReference s2 else s2) = t ∧ SameButTimeState s1 t := by
    refine ⟨_, rfl, ?_⟩
    split
    · exact (SameButTimeState.of_time hs2).trans (loseReference_sameButTimeState s2)
    · exact SameButTimeState.of_time hs2
  rw [ht, hsame.ptp, hs1]
  refine ⟨rfl, rfl, rfl, rfl, rfl, ?_⟩
  rw [hsame]
  exact hrate

theorem servo_ptp (o : Int) (s : State) (j : Fin 2) : (servo o s).ptp j = s.ptp j := rfl

/-- An accepted sample leaves its slot as R272 counts it. -/
theorem acceptSample_ptp (j : Fin 2) (offset : Int) (s : State) :
    ∃ e, (acceptSample j offset s).ptp j = { acceptSlot offset (s.ptp j) with eligibleSince := e } := by
  unfold acceptSample
  extract_lets s1 s2 selSt s3 s4
  have hs2 : s2.ptp j = _ := State.modPtp_ptp
  have hs1 : s1.ptp j = _ := State.modPtp_ptp
  have hs3 : s3.ptp j = s2.ptp j := by
    unfold s3
    split
    · exact selectSlot_ptp _ _ _
    · rfl
  have hs4 : s4.ptp j = s3.ptp j := by
    unfold s4
    split
    · exact servo_ptp _ _ _
    · rfl
  rw [noteOffset_ptp, followSlots_ptp, hs4, hs3, hs2, hs1]
  exact ⟨_, rfl⟩

theorem acceptSlot_fields (offset : Int) (x : PtpSlot) :
    (acceptSlot offset x).accepted = some offset ∧ (acceptSlot offset x).corrected = 0 ∧ (acceptSlot offset x).offset = x.offset ∧
    (acceptSlot offset x).run500 = (if offset.natAbs ≤ 500 then x.run500 + 1 else 0) ∧
    (x.state ≠ .locked → 15 ≤ x.run500 → offset.natAbs ≤ 500 → (acceptSlot offset x).state = .locked) ∧
    (500 < offset.natAbs → (acceptSlot offset x).state = .measuring) := by
  refine ⟨rfl, rfl, rfl, rfl, fun hstate hrun hnear => ?_, fun hfar => ?_⟩
  · simp only [acceptSlot, if_neg hstate, if_pos hnear, reduceCtorEq, if_false]
    exact if_pos (Nat.succ_le_succ hrun)
  · have hfar' : ¬ offset.natAbs ≤ 500 := Nat.not_le.mpr hfar
    simp only [acceptSlot, hfar', if_false]
    split
    · rfl
    · exact if_neg (by decide)

/-- PTP_SYNC of a slot that follows a master: acquisition, refusal, or acceptance. -/
theorem ptpSync_gives {n : Nat} {j : Fin 2} {offset : Int} {s : State} (henabled : (s.ptp j).state ≠ .disabled)
    (hslave : (s.ptp j).state ≠ .grandmaster) (hmaster : (s.ptp j).master.isSome = true) (hdelay : (s.ptp j).delay.isSome = true) :
    ∃ s2 corrected change first,
      corrected = (s.ptp j).corrected + (match (s.ptp j).sampleAt with
        | some at0 => (s.atTime n).phaseSince at0
        | none => 0) ∧
      change = offset - (s.ptp j).accepted.getD 0 - (if (s.ptp j).accepted.isSome then corrected else 0) ∧
      first = (s.time.armed && decide (s.time.selected = j)) ∧
      s2.ptp j = { s.ptp j with offset := offset, sampleAt := some (s.atTime n).time.now, corrected := corrected } ∧
      s2.ctl = s.ctl ∧ s2.time.rate = s.time.rate ∧ s2.time.now = (s.atTime n).time.now ∧ s2.jumpLimit = (s.atTime n).jumpLimit ∧
      exec (.ptpSync n j offset) s = .next (timeGuard (
        if first && s2.ctl.mode.maySteps then acquire j offset s2
        else if s2.jumpLimit < change.natAbs then refuseSample j change s2
        else acceptSample j offset (if first then
            { s2 with time := { s2.time with acquired := true, armed := false, calendarValid := true } }
          else s2))) := by
  obtain ⟨htime, hvalues, hctl⟩ := servoSwitch_fields (s.atTime n)
  rw [exec_ptpSync]
  unfold execPtpSync
  extract_lets y0 s0 x s1 corrected s2 change first
  have hs1ptp : s1.ptp j = s.ptp j := by
    have h : s1.ptp j = (s.atTime n).ptp j := by
      unfold State.ptp s1
      rw [htime]
    rw [h, State.atTime_ptp]
  have hs2same : SameButSlots s1 s2 := State.modPtp_sameButSlots s1 j _
  have hxis : x = s.ptp j := State.atTime_ptp s n j
  refine ⟨s2, corrected, change, first, ?_, ?_, ?_, ?_, ?_, ?_, ?_, ?_, ?_⟩
  · unfold corrected
    rw [hxis]
    have hphase (at0 : Nat) : s1.phaseSince at0 = (s.atTime n).phaseSince at0 := by
      unfold State.phaseSince s1
      rw [htime]
    cases (s.ptp j).sampleAt with
    | none => rfl
    | some at0 => exact congrArg ((s.ptp j).corrected + ·) (hphase at0)
  · unfold change
    rw [hxis]
  · unfold first
    rw [hs2same]
    unfold s1
    rw [htime]
    rfl
  · have h : s2.ptp j = _ := State.modPtp_ptp
    rw [h, hs1ptp]
  · exact (State.modPtp_ctl _ _ _).trans hctl
  · rw [hs2same]
    unfold s1
    rw [htime]
    rfl
  · rw [hs2same]
    unfold s1
    rw [htime]
  · have hod : s2.od.values = (s.atTime n).od.values := (congrArg Od.values (State.modPtp_od _ _ _)).trans hvalues
    exact congrArg leNat (State.odGet_of_values hod 0x6002 0x01)
  · rw [if_neg]
    rintro (h | h | h | h)
    · exact henabled (hxis ▸ h)
    · exact hslave (hxis ▸ h)
    · rw [hxis, Option.isNone_iff_eq_none] at h
      rw [h] at hmaster
      exact absurd hmaster (by decide)
    · rw [hxis, Option.isNone_iff_eq_none] at h
      rw [h] at hdelay
      exact absurd hdelay (by decide)

/-! ### Masters (R267, R272) -/

theorem becomeGrandmaster_ptp (j : Fin 2) (s : State) :
    ((becomeGrandmaster j s).ptp j).state = .grandmaster ∧ ((becomeGrandmaster j s).ptp j).master = none ∧
    ((becomeGrandmaster j s).ptp j).gm = Config.clockIdentity := by
  unfold becomeGrandmaster
  dsimp only
  rw [timeGuard_ptp, followSlots_ptp, raiseIf_ptp, State.modPtp_ptp]
  exact ⟨rfl, rfl, rfl⟩

theorem takeMaster_ptp (j : Fin 2) (p : Fin 11) (an : Announce) (s : State) :
    ((takeMaster j p an s).ptp j).master = some (an, p) ∧ ((takeMaster j p an s).ptp j).announceAt = s.time.now ∧
    ((takeMaster j p an s).ptp j).gm = an.gm := by
  unfold takeMaster
  dsimp only
  split
  · rw [utcFrom_ptp, raiseIf_ptp, State.modPtp_ptp]
    exact ⟨rfl, rfl, rfl⟩
  · rw [raiseIf_ptp, State.modPtp_ptp]
    exact ⟨rfl, rfl, rfl⟩

@[simp] theorem timeGuard_sent (s : State) : (timeGuard s).sent = s.sent :=
  (only_timeGuard (m0 := [.time, .sw, .records]) rfl s (Only.refl _ s)).sent rfl

/-- Settles O41: the three outcomes of a sample, silence, the masters, the delays, what the ports send, and the residence times. -/
theorem ptpSlots : Obligations.PtpSlots := by
  intro n j p s
  dsimp only
  refine ⟨fun offset henabled hslave hmaster hdelay => ⟨fun hfirst hsteps => ?acquired, fun hnot hjump => ?refused, fun hnot hnear => ?accepted⟩,
    fun hstate hsilent => ?silence, fun an henabled => ⟨fun hmay hrank hlisten => ?own, fun hnot hbetter => ?better, fun hnot hworse hsome => ?worse⟩,
    fun henabled hslave hlate => ?announce, fun delay hshaped henabled => ?delays, fun ds => ⟨fun henabled => ?get, ?set⟩,
    fun hmaster => ⟨?sync, ?announceSend⟩, fun henabled => ⟨fun hpeer => ?peer, fun hend hmaster => ?request⟩,
    fun seqId srcPort correction => ⟨fun r hfind hsmall => ?followUp, fun hnone => ?unmatched⟩⟩
  case acquired =>
    obtain ⟨s2, corrected, change, first, -, -, hf, -, hctl, -, -, -, hexec⟩ := ptpSync_gives (n := n) (offset := offset) henabled hslave hmaster hdelay
    rw [hexec]
    refine gives_next ?_
    rw [if_pos (by rw [hf, hfirst, hctl, hsteps]; rfl), timeGuard_time, timeGuard_ptp]
    exact acquire_fields j offset s2
  case refused =>
    obtain ⟨s2, corrected, change, first, hcor, hchange, hf, hptp, hctl, hrate, htime, hlimit, hexec⟩ :=
      ptpSync_gives (n := n) (offset := offset) henabled hslave hmaster hdelay
    rw [hexec]
    refine gives_next ?_
    rw [if_neg (by rw [hf, hctl, hnot]; decide), if_pos (by rw [hlimit, hchange, hcor]; exact hjump), timeGuard_time, timeGuard_ptp]
    obtain ⟨h1, h2, h3, h4, h5, h6⟩ := refuseSample_fields j change s2
    exact ⟨h1, h2.trans (by rw [hptp]), h3.trans (by rw [htime]), h4.trans (by rw [hptp]), h5, h6.trans hrate⟩
  case accepted =>
    obtain ⟨s2, corrected, change, first, hcor, hchange, hf, hptp, hctl, -, -, hlimit, hexec⟩ :=
      ptpSync_gives (n := n) (offset := offset) henabled hslave hmaster hdelay
    rw [hexec]
    refine gives_next ?_
    rw [if_neg (by rw [hf, hctl, hnot]; decide), if_neg (by rw [hlimit, hchange, hcor]; exact Nat.not_lt.mpr hnear), timeGuard_ptp]
    obtain ⟨u, hu, huptp⟩ : ∃ u, (if first then
        { s2 with time := { s2.time with acquired := true, armed := false, calendarValid := true } } else s2) = u ∧ u.ptp j = s2.ptp j := by
      refine ⟨_, rfl, ?_⟩
      split <;> rfl
    rw [hu]
    obtain ⟨e, he⟩ := acceptSample_ptp j offset u
    obtain ⟨h1, h2, h3, h4, h5, h6⟩ := acceptSlot_fields offset (u.ptp j)
    rw [huptp, hptp] at he h1 h2 h3 h4 h5 h6
    rw [he]
    exact ⟨h1, h2, h3, h4, h5, h6⟩
  case silence =>
    rw [exec_syncSilence, execSyncSilence]
    refine gives_next ?_
    simp only [State.atTime_ptp]
    rw [if_pos ⟨hstate, hsilent⟩, timeGuard_ptp]
    split
    · rw [loseReference_ptp, State.modPtp_ptp]
      exact ⟨rfl, rfl, rfl⟩
    · rw [State.modPtp_ptp]
      exact ⟨rfl, rfl, rfl⟩
  case own =>
    rw [exec_ptpAnnounce, execPtpAnnounce]
    refine gives_next ?_
    simp only [State.atTime_ptp]
    rw [if_neg henabled, if_pos (by rw [hmay, hrank]; rfl), if_pos hlisten]
    exact becomeGrandmaster_ptp j (s.atTime n)
  case better =>
    rw [exec_ptpAnnounce, execPtpAnnounce]
    refine gives_next ?_
    simp only [State.atTime_ptp]
    rw [if_neg henabled, if_neg (by rw [hnot]; decide)]
    split
    next m q hm =>
      rw [if_pos (hbetter m q hm)]
      exact takeMaster_ptp j p an (s.atTime n)
    · exact takeMaster_ptp j p an (s.atTime n)
  case worse =>
    rw [exec_ptpAnnounce, execPtpAnnounce]
    refine gives_next ?_
    simp only [State.atTime_ptp]
    rw [if_neg henabled, if_neg (by rw [hnot]; decide)]
    split
    next m q hm =>
      rw [if_neg]
      · exact State.atTime_ptp s n j
      · obtain ⟨hother, hrank⟩ := hworse m q hm
        rintro (h | h)
        · exact hother h
        · exact absurd (hrank.symm.trans h) (by decide)
    next hm => exact absurd hm hsome
  case announce =>
    rw [exec_announceTimeout, execAnnounceTimeout]
    refine gives_next ?_
    simp only [State.atTime_ptp]
    rw [if_neg]
    · split
      next hbecome =>
        obtain ⟨hstate, hmaster, -⟩ := becomeGrandmaster_ptp j ((s.atTime n).modPtp j (fun x => { x with master := none, delay := none }))
        refine ⟨hmaster, fun _ _ => hstate, fun hnot => ?_⟩
        rw [hbecome.1, hbecome.2] at hnot
        exact absurd hnot (by decide)
      next hstays =>
        rw [State.modPtp_ptp, State.atTime_ptp]
        exact ⟨rfl, fun hmay hlisten => absurd ⟨hmay, hlisten⟩ hstays, fun _ => ⟨rfl, rfl⟩⟩
    · rintro (h | h | h)
      · exact henabled h
      · exact hslave h
      · exact absurd hlate (Nat.not_le.mpr h)
  case delays =>
    have hlen : (s.atTime n).sw.ports.length = 11 := hshaped.ports
    have hport (f : PtpSlot → PtpSlot) : (((s.atTime n).modPort p (fun q => { q with linkDelay := delay })).modPtp j f).port p =
        { s.port p with linkDelay := delay } := by
      rw [State.port_of_sw (State.modPtp_sw _ _ _), State.modPort_of_len hlen]
      rfl
    refine ⟨fun hmaster => ?_, fun hslave => ⟨?_, ?_, ?_⟩, fun hother => ?_, ?_⟩
    · rw [exec_ptpDelayMessage, execPtpDelayMessage]
      refine gives_next ?_
      simp only [State.atTime_ptp, hmaster, if_true]
      rfl
    · rw [exec_ptpDelayMessage, execPtpDelayMessage]
      refine gives_next ?_
      simp only [State.atTime_ptp, henabled, if_false, hslave, if_true, State.modPtp_ptp]
    · rw [exec_ptpDelayMessage, execPtpDelayMessage]
      refine gives_next ?_
      simp only [State.atTime_ptp, henabled, if_false, hslave, if_true, State.modPtp_ptp, true_and]
      exact congrArg Port.linkDelay (hport _)
    · rw [exec_ptpDelayMessage, execPtpDelayMessage]
      refine gives_next ?_
      simp only [State.atTime_ptp, henabled, if_false, hslave, if_true, State.modPtp_ptp, true_and]
      exact congrArg Port.linkDelay (hport _)
    · rw [exec_ptpDelayMessage, execPtpDelayMessage]
      refine gives_next ?_
      simp only [State.atTime_ptp, henabled, if_false, hother]
      exact ⟨State.atTime_ptp s n j, congrArg Port.linkDelay (State.modPort_of_len hlen)⟩
    · rw [exec_ptpDelayMessage, execPtpDelayMessage]
      refine gives_next ?_
      simp only [State.atTime_ptp, henabled, if_false]
      rfl
  case get =>
    rw [exec_ptpManagement, execPtpManagement]
    refine gives_next ?_
    rw [if_pos ⟨rfl, by rw [State.atTime_ptp]; exact henabled⟩]
    rfl
  case set =>
    rw [exec_ptpManagement, execPtpManagement]
    exact gives_next (if_neg (fun h => absurd h.1 (by decide)))
  case sync =>
    rw [exec_ptpSyncSend, execPtpSyncSend]
    refine gives_next ?_
    rw [if_pos hmaster]
    dsimp only
    have hsent (u : State) (c : Prop) [Decidable c] (f : PtpSlot → PtpSlot) : (if c then timeGuard (u.modPtp j f) else u).sent = u.sent := by
      split
      · rw [timeGuard_sent, State.modPtp_sent]
      · rfl
    rw [hsent]
    split <;> rfl
  case announceSend =>
    rw [exec_announceSend, execAnnounceSend]
    refine gives_next ?_
    rw [if_pos hmaster]
    rfl
  case peer =>
    rw [exec_delayReqSend, execDelayReqSend]
    refine gives_next ?_
    simp only [State.atTime_ptp]
    rw [if_neg henabled, if_pos hpeer]
    rfl
  case request =>
    rw [exec_delayReqSend, execDelayReqSend]
    refine gives_next ?_
    simp only [State.atTime_ptp]
    rw [if_neg henabled, if_neg (not_not_intro hend), if_pos hmaster]
    rfl
  case followUp =>
    rw [exec_followUp, execFollowUp]
    refine gives_next ?_
    rw [show List.find? _ (List.filter _ (s.atTime n).time.residences) = some r from hfind]
    dsimp only
    rw [if_neg (not_le.mpr hsmall)]
    exact ⟨rfl, rfl⟩
  case unmatched =>
    rw [exec_followUp, execFollowUp]
    refine gives_next ?_
    rw [show List.find? _ (List.filter _ (s.atTime n).time.residences) = none from hnone]
    dsimp only
    rw [raise_sent, raise_time]
    exact ⟨rfl, rfl⟩

end Sys2Proof.Machine
end


section
/-! The time base (O42: R273 to R280, R284). -/

namespace Sys2Proof.Machine

theorem timeGuard_state (s : State) : (timeGuard s).time.state = s.time.state := by rw [timeGuard_time]

/-- Without TIME_LOCKED the guardians close with the TIME cause (R258). -/
theorem timeGuard_hasCause {s : State} (h : s.lockedNow = false) : (timeGuard s).hasCause 0 = true := by
  unfold timeGuard
  extract_lets t s1
  rw [if_pos (Or.inr (by unfold s1 t; rw [h]; rfl))]
  exact closeGuard_hasCause (by decide) s1

theorem selectSlot_selected (j : Fin 2) (s : State) : (selectSlot j s).time.selected = j := by
  unfold selectSlot
  split
  next h => exact h
  · rw [raise_time]

theorem raise_lockedNow (c : Code) (d : Bytes) (s : State) : (raise c d s).lockedNow = s.lockedNow := by
  unfold State.lockedNow State.guardLimit State.odForceNat State.odForce
  rw [raise_time, raise_od]

theorem setTime_state (new : TState) (s : State) : (setTime new s).time.state = new := by
  unfold setTime
  split
  next h => exact h
  · dsimp only
    split
    · rw [raise_time]
    · split
      · rw [raise_time]
      · rfl

/-- HOLDOVER counts from its entry (R275). -/
theorem setTime_holdoverSince {s : State} (h : s.time.state ≠ .holdover) :
    (setTime .holdover s).time.holdoverSince = some s.time.now := by
  unfold setTime
  rw [if_neg h]
  dsimp only
  rw [if_neg (by decide), if_pos rfl, raise_time]
  rfl

theorem timeGuard_followSlots {s : State} : SameButTimeState s (timeGuard (followSlots s)) :=
  (followSlots_sameButTimeState s).trans (timeGuard_sameButTimeState _)

/-- The slot that adopts the moved reference keeps its offset (R277). -/
theorem adopted_offset (s : State) (f : PtpSlot → PtpSlot) (hf : ∀ x, (f x).offset = x.offset) (j : Fin 2) :
    (((s.modPtp 0 f).modPtp 1 f).ptp j).offset = (s.ptp j).offset := by
  fin_cases j
  · exact hf _
  · exact hf _

/-- A reference that moved: the slot in force gives the move, and the slew or the note of it follows (R277, R278). -/
theorem referenceMoved_gives {n : Nat} {s : State} {v : Int} (h : (s.atTime n).steadyMove = some v) :
    ∃ s1 : State, s1.time.state = s.time.state ∧ s1.time.slew = s.time.slew ∧
      exec (.referenceMoved n) s = .next (
        let move := (s.ptp s.time.selected).offset
        if move.natAbs ≤ 100000000 ∧ (s.time.state ≠ .free ∨ s.ctl.mode.active = true) then
          timeGuard (setTime .slewing { s1 with time := { s1.time with
            slew := move, phase := slewPhase move, rateUpdateAt := (s.atTime n).time.now, refMoved := none, acquired := true, armed := false } })
        else timeGuard { s1 with time := { s1.time with refMoved := some move } }) := by
  rw [exec_referenceMoved]
  unfold execReferenceMoved
  extract_lets s0 adopt
  have hadopt (x : PtpSlot) : (adopt x).offset = x.offset := by
    unfold adopt
    split <;> rfl
  have hm : s0.steadyMove = some v := h
  rw [hm]
  dsimp only
  obtain ⟨s1, hs1, htime, hctl⟩ : ∃ s1, raise evReferenceMoved (leBytes 8 (wrapNat 64 v)) ((s0.modPtp 0 adopt).modPtp 1 adopt) = s1 ∧
      s1.time = ((s0.modPtp 0 adopt).modPtp 1 adopt).time ∧ s1.ctl = s.ctl := ⟨_, rfl, raise_time _ _ _, raise_ctl _ _ _⟩
  have hoffset : (s1.ptp s1.time.selected).offset = (s.ptp s.time.selected).offset := by
    rw [htime, State.ptp_of_time htime]
    exact (adopted_offset s0 adopt hadopt _).trans (congrArg PtpSlot.offset (State.atTime_ptp s n _))
  have hstate : s1.time.state = s.time.state :=
    (congrArg TimeBase.state htime).trans rfl
  refine ⟨s1, hstate, (congrArg TimeBase.slew htime).trans rfl, ?_⟩
  rw [hs1, hoffset, hstate, hctl]

theorem State.odStore_time (s : State) (i u : Nat) (v : Bytes) : (s.odStore i u v).time = s.time :=
  (only_State_odStore (m0 := [.od]) rfl s i u v (Only.refl _ s)).time rfl rfl

/-- Settles O42: each command by its condition. -/
theorem timeBaseCommands : Obligations.TimeBaseCommands := by
  intro n via s q c
  dsimp only
  refine ⟨fun j e hj hsince hother heligible hlong => ?prefer, fun hstate hlocked hnow => ?exhausted,
    fun v hmove => ⟨fun hnear hmay => ?slews, fun hwaits => ?waits⟩, fun hstate hslew hleft => ?complete, fun hmode hstate => ?servoTimeout,
    fun hadmit hright => ?rebase, fun v hadmit hplain => ?servoMode⟩
  case prefer =>
    rw [exec_domainPreference]
    unfold execDomainPreference
    extract_lets s1 j'
    have hjj : j' = j := hj.symm
    refine gives_next ?_
    have h : (s1.ptp j').eligibleSince = some e := by rw [hjj]; unfold s1; rw [State.atTime_ptp]; exact hsince
    rw [h]
    dsimp only
    rw [hjj, if_pos ⟨hother, heligible, hlong⟩, timeGuard_followSlots]
    exact selectSlot_selected j s1
  case exhausted =>
    rw [exec_holdoverExhausted, execHoldoverExhausted]
    refine gives_next ?_
    have hnow' : (raise evHoldoverExhausted [] (s.atTime n)).lockedNow = false := by rw [raise_lockedNow, hnow]
    rw [if_pos ⟨hstate, hlocked, by rw [hnow]; rfl⟩]
    refine ⟨?_, timeGuard_hasCause hnow', ?_⟩
    · rw [timeGuard_time]
      exact hnow'
    · rw [timeGuard_state, raise_time]
      exact hstate
  case slews =>
    obtain ⟨s1, -, -, hexec⟩ := referenceMoved_gives hmove
    rw [hexec]
    refine gives_next ?_
    dsimp only
    rw [if_pos ⟨hnear, hmay⟩, timeGuard_time, setTime_state, setTime_sameButTimeState _ _]
    exact ⟨rfl, rfl, rfl, rfl⟩
  case waits =>
    obtain ⟨s1, hstate, hslew, hexec⟩ := referenceMoved_gives hmove
    rw [hexec]
    refine gives_next ?_
    dsimp only
    rw [if_neg hwaits, timeGuard_time]
    exact ⟨rfl, hstate, hslew⟩
  case complete =>
    rw [exec_slewComplete, execSlewComplete]
    refine gives_next ?_
    rw [if_pos ⟨hstate, hslew, hleft⟩, timeGuard_followSlots, raise_time]
    exact ⟨rfl, rfl⟩
  case servoTimeout =>
    rw [exec_servoUpdateTimeout, execServoUpdateTimeout]
    refine gives_next ?_
    have hnot : (s.atTime n).time.state ≠ .holdover := by
      intro h
      rcases hstate with hl | hl
      · exact absurd (hl.symm.trans h) (by decide)
      · exact absurd (hl.symm.trans h) (by decide)
    rw [if_pos ⟨hmode, hstate⟩, timeGuard_time]
    exact ⟨setTime_state _ _, setTime_holdoverSince hnot⟩
  case rebase =>
    rw [exec_rebase, execRebase, serve_admitted hadmit, opRebase]
    refine gives_next ?_
    have honly := admission_only hadmit
    have hchecks : firstBad [q.writeFault 0x6000 0x10 c.level, bad (!true) stType, bad (decide (1 ≠ 1)) stRange] = stOk := by
      rw [hright]
      rfl
    dsimp only
    rw [if_pos hchecks]
    exact ⟨rfl, honly.time rfl rfl⟩
  case servoMode =>
    have hvalue : leNat [v] = v.toNat := by simp [leNat]
    rw [exec_servoModeWrite, execServoModeWrite, serve_admitted hadmit, opServo, opPlain_of_ok via hplain]
    refine gives_next ?_
    rw [respond_odGet, respond_time]
    have htime : (q.odStore 0x1180 0x02 [v]).time.hostServo = s.time.hostServo := by
      rw [State.odStore_time, (admission_only hadmit).time rfl rfl]
      rfl
    refine ⟨State.odStore_odGet _ _ _ _, ?_⟩
    dsimp only
    simp only [htime, hvalue]
    have hone : (v.toNat = 1) = (v = 1) := propext ⟨fun h => BitVec.eq_of_toNat_eq h, fun h => congrArg BitVec.toNat h⟩
    simp only [hone]
    by_cases hv : v = 1 <;> cases s.time.hostServo <;> simp [hv]

end Sys2Proof.Machine
end


section
/-! TRDP process data and message data (O44: R28, R291, R295, R306). -/

namespace Sys2Proof.Machine

/-! ### Process data (R291, R295) -/

/-- A discarded telegram is counted and changes no subscription. -/
theorem pdError_counts (comId : BitVec 32) (check : Nat) (s : State) :
    (pdError comId check s).tel.subs = s.tel.subs ∧ (pdError comId check s).tel.headerErrors = satAdd 32 s.tel.headerErrors 1 := by
  unfold pdError
  rw [raise_tel]
  exact ⟨rfl, rfl⟩

theorem bumpComId_telSent (comId : Nat) (seq : BitVec 32) (s : State) : (bumpComId comId seq s).tel.sent = s.tel.sent := by
  unfold bumpComId
  generalize s.pubs.filter _ = l
  induction l generalizing s with
  | nil => rfl
  | cons p l ih => exact ih _

theorem bumpComId_only (comId : Nat) (seq : BitVec 32) (s : State) : Only [.tel] s (bumpComId comId seq s) :=
  only_bumpComId rfl _ _ s (Only.refl _ s)

theorem sendLocal_only (ps : List (Fin 11)) (cls : Fin 8) (stream : Option Nat) (vid : BitVec 12) (pcp : BitVec 3) (f : EthFrame) (s : State) :
    Only [.sw] s (sendLocal ps cls stream vid pcp f s) := only_sendLocal rfl _ _ _ _ _ _ s (Only.refl _ s)

/-- A publication that leaves: its telegram goes to the ports whose windows carry its stream, and the counters rise (R291). -/
theorem pdSend_gives {n k : Nat} {s : State} {p : Pub} {d : Bytes} (hpub : s.pubs.find? (fun p => p.idx = k) = some p)
    (hstaged : (sGet {} k s.tel.pubs).staged = some ((s.atTime n).cycleNow, d)) (hrun : s.sw.running = true)
    (hmatrix : s.sw.matrix.isSome = true) (hmay : s.mayPublish = true) :
    ∃ (vid : BitVec 12) (f : EthFrame) (s1 : State), f.len = 86 + d.length ∧
      f.payload = (s.atTime n).pdHeader (sGet {} k s.tel.pubs).seq p ++ d ∧
      s1 = sendLocal (schedPorts.filter (fun q => (s.atTime n).portCarries q p.stream)) 7 (some p.stream) vid 7 f (s.atTime n) ∧
      exec (.pdSend n k) s = .next (
        let s2 := (bumpComId p.comId ((sGet {} k s.tel.pubs).seq + 1) { s1 with tel := { s1.tel with sent := s1.tel.sent + 1 } }).emit
          (.pd k (sGet {} k s.tel.pubs).seq d)
        { s2 with tel := { s2.tel with pubs := sSet {} k { sGet {} k s2.tel.pubs with staged := none } s2.tel.pubs } }) := by
  refine ⟨stVid ((s.atTime n).stream p.stream),
    { dest := stDest ((s.atTime n).stream p.stream), src := ownMac, tag := none, double := false, etype := 0x0800, len := 86 + d.length
      fcsOk := true, red := .none, payload := (s.atTime n).pdHeader (sGet {} k s.tel.pubs).seq p ++ d }, _, rfl, rfl, rfl, ?_⟩
  have hpub' : (s.atTime n).pubs.find? (fun p => p.idx = k) = some p := hpub
  have hstaged' : (sGet {} k (s.atTime n).tel.pubs).staged = some ((s.atTime n).cycleNow, d) := hstaged
  rw [exec_pdSend, execPdSend, hpub', hstaged']
  dsimp only
  rw [if_pos ⟨rfl, hrun, hmatrix, hmay⟩, State.atTime_tel]

/-! ### Message data (R306) -/

/-- Message data joins what the service cores are given; no session changes. -/
theorem mdDeliver_tel (m : MdTelegram) (s : State) : (mdDeliver m s).tel = { s.tel with mdIn := s.tel.mdIn ++ [m] } := by
  unfold mdDeliver
  dsimp only
  split <;> rfl

theorem mdDeliver_sent (m : MdTelegram) (s : State) : (mdDeliver m s).sent = s.sent :=
  (only_mdDeliver (m0 := [.tel, .bri]) rfl m s (Only.refl _ s)).sent rfl

/-- Settles O44: the checks of a telegram, the sending of a publication, and the sessions of message data. -/
theorem processAndMessageData : Obligations.ProcessAndMessageData := by
  intro n s
  dsimp only
  refine ⟨fun p e hbind hport hfcs hmajor htype hsubs => ⟨fun hgood => ?accepted, fun hbad => ?checkFails⟩, fun p hbind hheader => ?headerFails,
    fun k p d hpub hstaged hrun hmatrix hmay => ?send,
    fun m hmd => ⟨?notification, fun hroom hnew => ?opens, fun hfull => ?refused, fun hsession => ?ends⟩, fun k x hsession hlate => ?timeout⟩
  case accepted =>
    rw [exec_pdReceived, execPdReceived]
    refine gives_next ?_
    have hbind' : (s.atTime n).tel.bindState = 1 := hbind
    rw [if_neg (not_not_intro hbind'), if_neg (by rw [hport, hfcs]; decide), if_neg (by rw [hmajor, htype]; decide), hsubs]
    dsimp only
    rw [List.filter_cons_of_pos (by rw [decide_eq_true_iff]; exact hgood), List.filter_nil]
    exact ⟨rfl, rfl, rfl⟩
  case checkFails =>
    rw [exec_pdReceived, execPdReceived]
    refine gives_next ?_
    have hbind' : (s.atTime n).tel.bindState = 1 := hbind
    rw [if_neg (not_not_intro hbind'), if_neg (by rw [hport, hfcs]; decide), if_neg (by rw [hmajor, htype]; decide), hsubs]
    dsimp only
    rw [List.filter_cons_of_neg (by rw [decide_eq_true_iff]; exact hbad), List.filter_nil]
    exact pdError_counts _ _ _
  case headerFails =>
    rw [exec_pdReceived, execPdReceived]
    refine gives_next ?_
    have hbind' : (s.atTime n).tel.bindState = 1 := hbind
    rw [if_neg (not_not_intro hbind')]
    by_cases hframe : p.udpPort ≠ 17224 ∨ p.fcsOk = false
    · rw [if_pos (by simpa using hframe)]
      exact pdError_counts _ _ _
    · rw [if_neg (by simpa using hframe), if_pos (by tauto)]
      exact pdError_counts _ _ _
  case send =>
    obtain ⟨vid, f, s1, hlong, hpayload, hs1, hexec⟩ := pdSend_gives hpub hstaged hrun hmatrix hmay
    have honly : Only [.sw] (s.atTime n) s1 := by
      rw [hs1]
      exact sendLocal_only _ _ _ _ _ _ _
    rw [hexec]
    refine gives_next ⟨?_, ?_, fun hshaped hshort o ho hcarries hlink hqueue => ?_⟩
    · rw [State.emit_sent, (bumpComId_only _ _ _).sent rfl]
      exact congrArg (· ++ _) (honly.sent rfl)
    · dsimp only
      rw [State.emit_tel, bumpComId_telSent]
      exact congrArg (fun x : Telegrams => x.sent + 1) (honly.tel rfl)
    · have hlen : (s.atTime n).sw.ports.length = 11 := hshaped.ports
      have hmem : o ∈ schedPorts.filter (fun q => (s.atTime n).portCarries q p.stream) := List.mem_filter.mpr ⟨ho, hcarries⟩
      have hqueue1 := sendLocal_queue (cls := 7) (stream := some p.stream) (vid := vid) (pcp := 7) (f := f) hlen hmem
        (mem_switchPorts_of_sched ho) hlink hqueue (by omega)
      rw [← hs1] at hqueue1
      exact ⟨_, (congrArg Port.queue (State.port_of_sw ((bumpComId_only _ _ _).sw rfl) o)).trans hqueue1, rfl, rfl, hpayload⟩
  case notification =>
    rw [exec_mdNotification, execMdNotification]
    refine gives_next ?_
    rw [if_pos hmd, mdDeliver_tel]
    exact ⟨rfl, rfl⟩
  case opens =>
    rw [exec_mdRequest, execMdRequest]
    refine gives_next ?_
    have hnone : (s.atTime n).mdSession m.session = none := hnew
    have hroom' : ¬ 64 ≤ (s.atTime n).tel.md.length := Nat.not_le.mpr hroom
    rw [if_neg (by rw [hmd]; decide), if_neg hroom', hnone, mdDeliver_tel]
    exact ⟨rfl, rfl⟩
  case refused =>
    rw [exec_mdRequest, execMdRequest]
    refine gives_next ?_
    have hlimit : 64 ≤ (s.atTime n).tel.md.length := hfull
    rw [if_neg (by rw [hmd]; decide), if_pos hlimit, raise_tel, raise_sent]
    exact ⟨rfl, rfl, rfl, rfl⟩
  case ends =>
    rw [exec_mdReply, execMdReply, exec_mdConfirm, execMdConfirm, exec_mdError, execMdError, exec_mdReplyQuery, execMdReplyQuery]
    have hif : (s.atTime n).mdOpen m = true ∧ ((s.atTime n).mdSession m.session).isSome = true := ⟨hmd, hsession⟩
    have hends := mdDeliver_tel m (mdClose m.session (s.atTime n))
    simp only [if_pos hif]
    refine ⟨gives_next ?_, gives_next ?_, gives_next ?_, gives_next ?_⟩
    · rw [hends]; exact ⟨rfl, rfl⟩
    · rw [hends]; exact ⟨rfl, rfl⟩
    · rw [hends]; exact ⟨rfl, rfl⟩
    · rw [State.emit_tel, hends, State.emit_sent, mdDeliver_sent]
      exact ⟨⟨rfl, rfl⟩, rfl⟩
  case timeout =>
    rw [exec_mdTimeout, execMdTimeout]
    refine gives_next ?_
    have hopen : (s.atTime n).mdSession k = some x := hsession
    rw [hopen]
    dsimp only
    rw [if_pos hlate, raise_tel]
    rfl

end Sys2Proof.Machine
end


section
/-! The legacy buses (O45: R307 to R314). -/

namespace Sys2Proof.Machine

/-! ### The MVB lines (R310) -/

theorem lineChanged_tel (old s : State) : (lineChanged old s).tel = s.tel :=
  (only_lineChanged (m0 := [.bri]) rfl old s (Only.refl _ s)).tel rfl

theorem State.portTable_of_same {s t : State} (hod : t.od = s.od) (hbind : t.tel.bindState = s.tel.bindState) (dir : Nat) :
    t.portTable dir = s.portTable dir := by
  unfold State.portTable State.tableOf State.odForce
  rw [hod, hbind]

/-- A valid frame makes its line valid unless the line is faulty; the rest of the telegrams' state stays. -/
theorem mvbSeen_fields (b : Bool) (s : State) :
    (mvbSeen b s).tel.sinks = s.tel.sinks ∧ (mvbSeen b s).tel.activeB = s.tel.activeB ∧
    (mvbSeen b s).tel.bindState = s.tel.bindState ∧
    (if b then (mvbSeen b s).tel.lineB else (mvbSeen b s).tel.lineA) = !(if b then s.tel.faultB else s.tel.faultA) := by
  unfold mvbSeen
  cases b <;> exact ⟨rfl, rfl, rfl, rfl⟩

/-- The module is on the other line after the faulty one is left. -/
theorem activeLine_left (b : Bool) (m : Telegrams) :
    (if m.activeB = b then { m with activeB := !b } else m) = { m with activeB := !b } := by
  split
  · rfl
  next h =>
    have hother : (!b) = m.activeB := (Bool.eq_not_of_ne h).symm
    rw [hother]

/-! ### A CAN bus (R311 to R314) -/

theorem State.canBus_of_tel {s t : State} (h : t.tel = s.tel) (bus : Fin 2) : t.canBus bus = s.canBus bus := by
  unfold State.canBus
  rw [h]

theorem State.modCan_canBus (s : State) (bus : Fin 2) (f : CanBus → CanBus) : (s.modCan bus f).canBus bus = f (s.canBus bus) := by
  unfold State.modCan State.canBus
  split <;> rfl

theorem raise_canBus (c : Code) (d : Bytes) (s : State) (bus : Fin 2) : (raise c d s).canBus bus = s.canBus bus :=
  State.canBus_of_tel (raise_tel c d s) bus

theorem raiseIf_canBus (b : Bool) (c : Code) (d : Bytes) (s : State) (bus : Fin 2) : (raiseIf b c d s).canBus bus = s.canBus bus :=
  State.canBus_of_tel (raiseIf_tel b c d s) bus

theorem setCan_canBus (bus : Fin 2) (st : Nat) (s : State) : (setCan bus st s).canBus bus = { s.canBus bus with state := st } :=
  s.modCan_canBus bus _

/-- A consumer has the one entry last recorded for it. -/
theorem putConsumer_consumers (bus : Fin 2) (node time : Nat) (lost : Bool) (s : State) :
    (node, time, lost) ∈ ((putConsumer bus node time lost s).canBus bus).consumers ∧
    ∀ x ∈ ((putConsumer bus node time lost s).canBus bus).consumers, x.1 = node → x = (node, time, lost) := by
  unfold putConsumer
  rw [State.modCan_canBus]
  refine ⟨List.mem_append_right _ (List.mem_singleton.mpr rfl), fun x hx hnode => ?_⟩
  rcases List.mem_append.mp hx with hold | hnew
  · exact absurd hnode (of_decide_eq_true (List.mem_filter.mp hold).2)
  · exact List.mem_singleton.mp hnew

/-- Settles O45: the MVB ports, roles and lines, and the frames, consumers and states of a CAN bus. -/
theorem legacyBuses : Obligations.LegacyBuses := by
  intro n s
  dsimp only
  refine ⟨fun fcode address e hfind hrole hmay => ?master, fun lineB address data e hrole hactive hgood hfind => ?slave,
    fun address hrole haddress => ?status, fun hrole hyield => ?foreign, fun hrole => ⟨fun hgood => ?faultB, fun hgood => ?faultA⟩,
    fun bus => ⟨fun f e hfind hon hlen => ?rpdo, fun hsync => ?sync, fun hon htime => ?beat,
      fun node ms since hconsumer hfind hlate => ?lost, fun node hconsumer hon => ?heard, fun unsent hlate hon => ?withdraw,
      fun hstate => ?passive, fun hon => ?busOff, fun hstate hfinal hlate => ?recovery⟩⟩
  case master =>
    rw [exec_mvbMasterFrame, execMvbMasterFrame]
    refine gives_next ?_
    rw [hfind]
    dsimp only
    rw [if_pos ⟨hrole, hmay⟩]
    rfl
  case slave =>
    rw [exec_mvbSlaveFrame]
    unfold execMvbSlaveFrame
    extract_lets s0 s1 activeOk w s2
    refine gives_next ?_
    have hrole' : ¬ s0.tel.mvbRole = 0 := hrole
    rw [if_neg hrole']
    obtain ⟨hsinks, hkept, hbind, hline⟩ := mvbSeen_fields lineB s0
    have hs1 : s1.tel = (mvbSeen lineB s0).tel := lineChanged_tel _ _
    have hok : activeOk = true := by
      unfold activeOk
      rw [hs1, hkept, show s0.tel.activeB = lineB from hactive, hline, show (if lineB then s0.tel.faultB else s0.tel.faultA) = false from hgood]
      rfl
    have hs2 : s2 = s1 := if_pos hok
    have htable : s2.portTable 1 = s0.portTable 1 := by
      refine State.portTable_of_same ?_ ?_ 1
      · rw [hs2]
        exact (only_lineChanged (m0 := [.bri]) rfl s0 (mvbSeen lineB s0) (Only.refl _ _)).od rfl
      · rw [hs2, hs1, hbind]
    have hactive2 : s2.tel.activeB = lineB := by rw [hs2, hs1, hkept]; exact hactive
    have hsinks2 : s2.tel.sinks = s.tel.sinks := by rw [hs2, hs1, hsinks]; rfl
    rw [htable, hfind]
    dsimp only
    rw [if_pos hactive2, hsinks2]
    exact ⟨congrArg (sSet ({} : SubSt) e.2 (SubSt.stage data s0.time.now (sGet {} e.2 s.tel.sinks))) hsinks2, hactive2⟩
  case status =>
    rw [exec_mvbDeviceStatus, execMvbDeviceStatus]
    refine gives_next ?_
    rw [if_pos ⟨hrole, haddress⟩]
    exact ⟨_, rfl⟩
  case foreign =>
    rw [exec_mvbForeignMaster, execMvbForeignMaster]
    refine gives_next ?_
    have hif : (s.atTime n).tel.mvbRole = 2 ∧ (!(s.atTime n).tel.mvbYield) = true := ⟨hrole, congrArg (!·) hyield⟩
    rw [if_pos hif, raise_tel]
    exact ⟨rfl, hrole⟩
  case faultB =>
    rw [exec_mvbLineFault]
    unfold execMvbLineFault
    extract_lets s0 m m1 m2
    refine gives_next ?_
    have hnot : ¬ (m.mvbRole = 0 ∨ (if true = true then m.faultB else m.faultA) = true) := by
      rintro (h | h)
      · exact hrole h
      · exact absurd (hgood.symm.trans h) (by decide)
    have hm2 : m2 = { m1 with activeB := !true } := activeLine_left true m1
    rw [if_neg hnot, lineChanged_tel, raise_tel]
    dsimp only
    rw [hm2]
    exact ⟨rfl, rfl, rfl, rfl, rfl⟩
  case faultA =>
    rw [exec_mvbLineFault]
    unfold execMvbLineFault
    extract_lets s0 m m1 m2
    refine gives_next ?_
    have hnot : ¬ (m.mvbRole = 0 ∨ (if false = true then m.faultB else m.faultA) = true) := by
      rintro (h | h)
      · exact hrole h
      · exact absurd (hgood.symm.trans h) (by decide)
    have hm2 : m2 = { m1 with activeB := !false } := activeLine_left false m1
    rw [if_neg hnot, lineChanged_tel, raise_tel]
    dsimp only
    rw [hm2]
    exact ⟨rfl, rfl, rfl, rfl, rfl⟩
  case rpdo =>
    rw [exec_canRpdo, execCanRpdo]
    refine gives_next ?_
    rw [hfind]
    dsimp only
    rw [if_pos ⟨hon, hlen⟩]
    rfl
  case sync =>
    rw [exec_canSyncReceived, execCanSyncReceived]
    refine gives_next ?_
    rw [hsync]
    rfl
  case beat =>
    rw [exec_canHeartbeatSend, execCanHeartbeatSend]
    refine gives_next ?_
    rw [if_pos ⟨hon, htime⟩]
    exact ⟨_, rfl⟩
  case lost =>
    rw [exec_canHeartbeatLost, execCanHeartbeatLost]
    refine gives_next ?_
    have hfind' : ((s.atTime n).canBus bus).consumers.find? (fun x => x.1 = node.toNat) = some (node.toNat, since, false) := hfind
    rw [hconsumer, hfind']
    dsimp only
    rw [if_pos ⟨rfl, hlate⟩, raise_canBus]
    exact (putConsumer_consumers _ _ _ _ _).1
  case heard =>
    rw [exec_consumerHeartbeatReceived, execConsumerHeartbeatReceived]
    refine gives_next ?_
    rw [if_pos ⟨hconsumer, hon⟩]
    exact putConsumer_consumers _ _ _ _ _
  case withdraw =>
    rw [exec_tpdoWithdraw, execTpdoWithdraw]
    refine gives_next ?_
    have hon' : (s.atTime n).canOn bus = true := hon
    rw [if_pos hlate, flushTpdos, State.canBus_of_tel (State.emitAll_tel _ _), State.modCan_canBus]
    simp only [hon', Bool.true_and]
    exact ⟨trivial, rfl⟩
  case passive =>
    rw [exec_canErrorPassive, execCanErrorPassive]
    refine gives_next ?_
    have hstate' : ((s.atTime n).canBus bus).state = 0 := hstate
    rw [if_pos hstate', raise_canBus, setCan_canBus]
    rfl
  case busOff =>
    rw [exec_canBusOff, execCanBusOff]
    refine gives_next ?_
    have hon' : (s.atTime n).canOn bus = true := hon
    rw [if_pos hon', raiseIf_canBus, raise_canBus, State.modCan_canBus, setCan_canBus]
    rfl
  case recovery =>
    rw [exec_canBusOffRecovery, execCanBusOffRecovery]
    refine gives_next ?_
    have hif : ((s.atTime n).canBus bus).state = 2 ∧ (!((s.atTime n).canBus bus).final) = true ∧
        ((s.atTime n).canBus bus).busOffAt.getD 0 + 100000000 ≤ (s.atTime n).time.now := ⟨hstate, congrArg (!·) hfinal, hlate⟩
    rw [if_pos hif, State.modCan_canBus, setCan_canBus]
    rfl

end Sys2Proof.Machine
end


section
/-! The bridge's shared steps: the check at issue, the memory of the Commons, the landing of posted writes, and the answer
of a stalled core (R317 to R326). -/

namespace Sys2Proof.Machine

/-! ### One core -/

@[simp] theorem State.setCore_core (s : State) (ln : Lane) (c : Fin 4) (k : Core) : (s.setCore ln c k).core ln c = k := by
  unfold State.core State.setCore
  rw [State.setLane_lane, LaneSt.setCore_core]

theorem State.core_of_lane {s t : State} {ln : Lane} (h : t.lane ln = s.lane ln) (c : Fin 4) : t.core ln c = s.core ln c := by
  unfold State.core
  rw [h]

theorem Only.core {l : List Part} {s t : State} (h : Only l s t) (hl : l.contains .lanes = false) (ln : Lane) (c : Fin 4) :
    t.core ln c = s.core ln c := State.core_of_lane (h.lane hl ln) c

/-! ### The check at issue (R318, R319) -/

/-- The check at issue reads the placement, the lanes' states and the rings' owners. -/
theorem State.issueCode_of_only {l : List Part} {s t : State} (h : Only l s t) (hctl : l.contains .ctl = false)
    (hmode : l.contains .mode = false) (hlanes : l.contains .lanes = false) (hod : l.contains .od = false)
    (ln : Lane) (c : Fin 4) (k : Access) (addr size : Nat) : t.issueCode ln c k addr size = s.issueCode ln c k addr size := by
  unfold State.issueCode State.triple State.ringOwner State.odNat State.odGet
  rw [h.ctl hctl hmode, h.lane hlanes, h.od hod]

theorem State.issueCode_size {s : State} {ln : Lane} {c : Fin 4} {k : Access} {addr size : Nat}
    (h : [1, 2, 4, 8, 32, 64].contains size = false ∨ addr % size ≠ 0) : s.issueCode ln c k addr size = brSize := by
  refine if_pos fun hgood => ?_
  rcases h with h | h
  · exact absurd (h.symm.trans hgood.1) (by decide)
  · exact h hgood.2

/-- An access that passes the check lies in a window that takes it. -/
theorem State.window_of_issueCode {s : State} {ln : Lane} {c : Fin 4} {k : Access} {addr size : Nat}
    (h : s.issueCode ln c k addr size = 0) :
    ∃ w off, windowOf addr = some (w, off) ∧ w < 4 ∧ off + size ≤ windowSize w ∧ windowTakes w k = true ∧
      [1, 2, 4, 8, 32, 64].contains size = true ∧ addr % size = 0 ∧ windowAdmits w size = true ∧ s.triple c = false ∧ (s.lane ln).state = .isIn := by
  unfold State.issueCode at h
  split at h
  · exact absurd h (by decide)
  next hsize =>
    rw [not_not] at hsize
    split at h
    · exact absurd h (by decide)
    next w off hw =>
      split at h
      · exact absurd h (by decide)
      next hin =>
        split at h
        · exact absurd h (by decide)
        next hadmits =>
          split at h
          · exact absurd h (by decide)
          next hlane =>
            split at h
            · exact absurd h (by decide)
            next htakes =>
              refine ⟨w, off, hw, by omega, by omega, by simpa using htakes, hsize.1, hsize.2, ?_, ?_, ?_⟩
              · exact Bool.eq_true_of_not_eq_false fun hno => hadmits (.inl hno)
              · exact Bool.eq_false_of_not_eq_true fun hyes => hlane (.inl hyes)
              · exact by_contra fun hno => hlane (.inr hno)

/-! ### The memory of the Commons (R318) -/

theorem tabulate_cGet (n a : Nat) (m : Cells) : tabulate n (fun k => cGet (a + k) m) = cRead n a m := by
  unfold tabulate
  induction n generalizing a with
  | zero => rfl
  | succ n ih =>
    rw [List.range_succ_eq_map, List.map_cons, List.map_map, cRead, ← ih (a + 1)]
    refine congrArg₂ List.cons rfl (List.map_congr_left fun k _ => ?_)
    exact congrArg (cGet · m) (show a + (k + 1) = a + 1 + k by omega)

/-- Bytes written in the MAILBOX are read back. -/
theorem commonsRead_mailbox {s : State} {a : Nat} {d : Bytes} (hlow : mailboxBase ≤ a) (hhigh : a + d.length ≤ 0x2000000)
    (hlen : 0 < d.length) (hwf : Memory.wf s.cis.mem = true) : (commonsWrite a d s).commonsRead a d.length = d := by
  have hin : mailboxBase ≤ a ∧ a < 0x2000000 := ⟨hlow, by omega⟩
  refine Eq.trans ?_ (cRead_cWrite d (a := a) hwf)
  rw [← tabulate_cGet, State.commonsRead, tabulate, tabulate, commonsWrite, if_pos hin]
  refine List.map_congr_left fun k hk => ?_
  rw [List.mem_range] at hk
  exact if_pos ⟨by omega, by omega⟩

/-- Bytes written between the Cistern and the recorder are read back. -/
theorem commonsRead_lanes {s : State} {a : Nat} {d : Bytes} (hlow : 0x2000000 ≤ a) (hhigh : a + d.length ≤ 0x202000000)
    (hwf : Memory.wf s.bri.mem = true) : (commonsWrite a d s).commonsRead a d.length = d := by
  have hout : ¬ (mailboxBase ≤ a ∧ a < 0x2000000) := by omega
  refine Eq.trans ?_ (cRead_cWrite d (a := a) hwf)
  rw [← tabulate_cGet, State.commonsRead, tabulate, tabulate, commonsWrite, if_neg hout]
  refine List.map_congr_left fun k hk => ?_
  rw [List.mem_range] at hk
  rw [State.commonsByte, if_neg (by omega), if_neg (by omega)]

/-! ### Posted writes that land (R324, R326) -/

/-- Two states that differ in memory and in the writes under way to it. -/
def SameButLanding (s t : State) : Prop :=
  Only [.mem, .dma, .bri] s t ∧ t.bri = { s.bri with mem := t.bri.mem, posted := t.bri.posted, waiters := t.bri.waiters }

theorem SameButLanding.trans {s t u : State} (h : SameButLanding s t) (k : SameButLanding t u) : SameButLanding s u := by
  refine ⟨h.1.trans k.1, ?_⟩
  rw [k.2, h.2]

theorem landOne_sameButLanding (s : State) (x : PostedOp) : SameButLanding s (landOne s x) ∧ (landOne s x).bri.posted = s.bri.posted := by
  refine ⟨⟨only_landOne rfl s x (Only.refl _ s), ?_⟩, ?_⟩ <;>
  · unfold landOne
    dsimp only
    split
    · rfl
    · unfold commonsWrite
      split <;> rfl

theorem landWhere_sameButLanding (p : PostedOp → Bool) (s : State) :
    SameButLanding s (landWhere p s) ∧ (landWhere p s).bri.posted = s.bri.posted.filter (fun x => !p x) := by
  unfold landWhere
  generalize s.bri.posted.filter p = l
  obtain ⟨t, ht, hsame, hposted⟩ : ∃ t, { s with bri := { s.bri with posted := s.bri.posted.filter (fun x => !p x) } } = t ∧
      SameButLanding s t ∧ t.bri.posted = s.bri.posted.filter (fun x => !p x) := by
    refine ⟨_, rfl, ⟨Upd_rfl rfl, rfl⟩, rfl⟩
  rw [ht, ← hposted]
  clear ht hposted
  induction l generalizing t with
  | nil => exact ⟨hsame, rfl⟩
  | cons x l ih =>
    obtain ⟨hone, hkept⟩ := landOne_sameButLanding t x
    rw [List.foldl_cons, ← hkept]
    exact ih _ (hsame.trans hone)

theorem landWhere_of_nil (p : PostedOp → Bool) {s : State} (h : s.bri.posted = []) : landWhere p s = s := by
  have hsame : { s with bri := { s.bri with posted := [] } } = s := by rw [← h]
  unfold landWhere
  rw [h]
  exact hsame

theorem landBefore_sameButLanding (ln : Lane) (s : State) : SameButLanding s (landBefore ln s) := (landWhere_sameButLanding _ s).1

theorem landOld_sameButLanding (s : State) : SameButLanding s (landOld s) := (landWhere_sameButLanding _ s).1

end Sys2Proof.Machine
end


section
/-! Direct accesses of a lane core through the bridge (O46: R318 to R321, R324, R326). -/

namespace Sys2Proof.Machine

theorem linkOk_only (ln : Lane) (b : Bool) (s : State) : Only [.bri] s (linkOk ln b s) := only_linkOk rfl ln b s (Only.refl _ s)

/-- Clearing a port's replays changes nothing that a window shows. -/
theorem linkOk_windowData (l ln : Lane) (b : Bool) (c : Fin 4) (w off size : Nat) (s : State) :
    (linkOk l b s).windowData ln c w off size = s.windowData ln c w off size := by
  cases ln <;> rfl

theorem linkOk_core (l ln : Lane) (b : Bool) (c : Fin 4) (s : State) : (linkOk l b s).core ln c = s.core ln c :=
  (linkOk_only l b s).core rfl ln c

/-! ### The check at issue (R319) -/

theorem windowOf_none {addr : Nat} (h : addr < 0xE0000000 ∨ 0x120000000 ≤ addr) : windowOf addr = none := if_neg (by omega)

theorem windowOf_some {addr : Nat} (h : 0xE0000000 ≤ addr) (h2 : addr < 0x120000000) :
    windowOf addr = some ((addr - 0xE0000000) / 0x4000000, (addr - 0xE0000000) % 0x4000000) := if_pos ⟨h, h2⟩

theorem issueCode_outside {s : State} {ln : Lane} {c : Fin 4} {k : Access} {addr size : Nat}
    (hsize : [1, 2, 4, 8, 32, 64].contains size = true) (halign : addr % size = 0) (h : addr < 0xE0000000 ∨ 0xF0000000 ≤ addr) :
    s.issueCode ln c k addr size = brWindow := by
  unfold State.issueCode
  rw [if_neg (not_not_intro ⟨hsize, halign⟩)]
  by_cases hin : 0xF0000000 ≤ addr ∧ addr < 0x120000000
  · rw [windowOf_some (by omega) hin.2]
    exact if_pos (.inl (by omega))
  · rw [windowOf_none (by omega)]

theorem issueCode_mailbox {s : State} {ln : Lane} {c : Fin 4} {k : Access} {addr size : Nat}
    (hsize : [1, 2, 4, 8, 32, 64].contains size = true) (halign : addr % size = 0) (hlow : 0xE0000000 ≤ addr)
    (hhigh : addr + size ≤ 0xE0010000) (hk : k = .read ∨ k = .posted) :
    s.issueCode ln c k addr size = (if s.triple c = true ∨ (s.lane ln).state ≠ .isIn then 3 else 0) := by
  have hpos : 0 < size := Nat.pos_of_ne_zero (by rintro rfl; revert hsize; decide)
  have hw : windowOf addr = some (0, addr - 0xE0000000) := by
    rw [windowOf_some hlow (by omega)]
    rw [Nat.div_eq_of_lt (by omega), Nat.mod_eq_of_lt (by omega)]
  unfold State.issueCode
  rw [if_neg (not_not_intro ⟨hsize, halign⟩), hw]
  dsimp only
  have hfits : ¬ (4 ≤ 0 ∨ windowSize 0 < addr - 0xE0000000 + size) := by
    rw [show windowSize 0 = 0x10000 from rfl]
    omega
  have hadmits : windowAdmits 0 size = true := hsize
  rw [if_neg hfits, hadmits, if_neg (by rcases hk with rfl | rfl <;> simp)]
  split
  · rfl
  · rcases hk with rfl | rfl <;> rfl

/-- A window that takes a posted write takes the read of the same bytes. -/
theorem issueCode_read_of_posted {s : State} {ln : Lane} {c : Fin 4} {addr size : Nat} (h : s.issueCode ln c .posted addr size = 0) :
    s.issueCode ln c .read addr size = 0 ∧
      ∃ w off, windowOf addr = some (w, off) ∧ (w = 0 ∨ w = 3) ∧ off + size ≤ windowSize w ∧ 0 < size := by
  obtain ⟨w, off, hw, hlt, hfits, htakes, hsize, halign, hadmits, htriple, hlane⟩ := State.window_of_issueCode h
  have hwin : w = 0 ∨ w = 3 := by simpa [windowTakes] using htakes
  refine ⟨?_, w, off, hw, hwin, hfits, Nat.pos_of_ne_zero (by rintro rfl; revert hsize; decide)⟩
  unfold State.issueCode
  rw [if_neg (not_not_intro ⟨hsize, halign⟩), hw]
  dsimp only
  rw [if_neg (by omega), hadmits, htriple, hlane]
  rcases hwin with rfl | rfl <;> simp [windowTakes, brOk]

/-! ### Refusals and answers (R320, R321) -/

/-- A refused access is answered and counted, and reaches nothing. -/
theorem refuseAccess_fields (ln : Lane) (c : Fin 4) (code : Fin 8) (s : State) :
    let t := refuseAccess ln c code s
    t.sent = s.sent ++ [.completion ln c { code, data := [] }] ∧ t.cis = s.cis ∧ t.bri.mem = s.bri.mem ∧ t.bri.posted = s.bri.posted ∧
    t.bri.refused = modAt (laneNo ln) (satAdd 32 1) s.bri.refused ∧ ∀ l, t.lane l = s.lane l :=
  ⟨rfl, rfl, rfl, rfl, rfl, fun l => by cases l <;> rfl⟩

theorem answer_fields (ln : Lane) (c : Fin 4) (x : Completion) (s : State) :
    ((answer ln c x s).core ln c).stall = none ∧ (answer ln c x s).sent = s.sent ++ [.completion ln c x] := by
  have hcore : (answer ln c x s).core ln c = { s.core ln c with stall := none } := by
    refine Eq.trans ?_ (State.setCore_core s ln c { s.core ln c with stall := none })
    cases ln <;> rfl
  refine ⟨congrArg Core.stall hcore, ?_⟩
  exact congrArg (· ++ [Sent.completion ln c x]) (State.setCore_sent s ln c _)

/-! ### Reads (R318, R321, R326) -/

theorem landed_now (ln : Lane) (b : Bool) (s : State) : (linkOk ln b (landBefore ln s)).time.now = s.time.now :=
  congrArg TimeBase.now (((linkOk_only ln b _).time rfl rfl).trans ((landBefore_sameButLanding ln s).1.time rfl rfl))

theorem landed_core (l ln : Lane) (b : Bool) (s : State) (c : Fin 4) : (linkOk l b (landBefore l s)).core ln c = s.core ln c :=
  (linkOk_core l ln b c _).trans ((landBefore_sameButLanding l s).1.core rfl ln c)

/-- A read that passes stalls its core with what the window holds. -/
theorem directRead_stall {ln : Lane} {c : Fin 4} {addr size w off : Nat} {s : State} (hidle : (s.core ln c).stall = none)
    (hcode : s.issueCode ln c .read addr size = brOk) (hw : windowOf addr = some (w, off)) (hnot : ¬ (w = 1 ∧ off = 0)) :
    directRead ln c addr size s = openOp ln c
      { addr, size, data := some ((landBefore ln s).windowData ln c w off size), exclusive := false, time := s.time.now, reached := true }
      (linkOk ln false (landBefore ln s)) := by
  unfold directRead
  dsimp only
  rw [hidle, if_neg (by decide), if_neg (not_not_intro hcode), hw, landed_now]
  dsimp only
  rw [if_neg hnot, linkOk_windowData]

/-- A read of the event queue pops it. -/
theorem directRead_pop {ln : Lane} {c : Fin 4} {s : State} (hidle : (s.core ln c).stall = none)
    (hcode : s.issueCode ln c .read 0xE4000000 8 = brOk) :
    directRead ln c 0xE4000000 8 s = popEvent ln c
      { addr := 0xE4000000, size := 8, data := none, exclusive := false, time := s.time.now, reached := true }
      (linkOk ln false (landBefore ln s)) := by
  have hw : windowOf 0xE4000000 = some (1, 0) := by decide
  unfold directRead
  dsimp only
  rw [hidle, if_neg (by decide), if_neg (not_not_intro hcode), hw, landed_now]
  dsimp only
  rw [if_pos ⟨rfl, rfl⟩]

theorem openOp_core (ln : Lane) (c : Fin 4) (op : DirectOp) (s : State) :
    (openOp ln c op s).core ln c = { s.core ln c with stall := some op } := State.setCore_core s ln c _

/-- A pop takes the oldest word of its core's queue, a free word where none waits (R318). -/
theorem popEvent_core (ln : Lane) (c : Fin 4) (op : DirectOp) (s : State) :
    ∃ w : Word, ((s.core ln c).events = [] ∨ (s.core ln c).events.head? = some w) ∧
      (popEvent ln c op s).core ln c = { s.core ln c with
        events := (s.core ln c).events.tail, stall := some { op with data := some (leBytes 8 w.toNat), reached := true } } := by
  unfold popEvent
  dsimp only
  split
  next w ws hevents => exact ⟨w, .inr (by rw [hevents]; rfl), by rw [State.setCore_core, hevents]; rfl⟩
  next hevents =>
    refine ⟨s.free 64, .inl hevents, ?_⟩
    have htick (q : State) : q.tick.core ln c = q.core ln c := by cases ln <;> rfl
    rw [htick, State.setCore_core, hevents]
    rfl

/-! ### Posted writes read back (R326) -/

/-- A write to the windows of a lane is read back through them. -/
theorem commonsRead_target {s : State} {ln : Lane} {w off : Nat} {d : Bytes} (hw : w = 0 ∨ w = 3) (hfits : off + d.length ≤ windowSize w)
    (hlen : 0 < d.length) (hcis : Memory.wf s.cis.mem = true) (hbri : Memory.wf s.bri.mem = true) :
    (commonsWrite (targetOf ln w off) d s).commonsRead (targetOf ln w off) d.length = d := by
  rcases hw with rfl | rfl
  · have hsize : windowSize 0 = 0x10000 := rfl
    refine commonsRead_mailbox ?_ ?_ hlen hcis <;>
    · show _ ≤ _
      rw [show targetOf ln 0 off = mailboxBase + off from rfl, show mailboxBase = 0x1FF0000 from rfl]
      omega
  · have hsize : windowSize 3 = 0x1000000 := rfl
    have hlane : laneNo ln ≤ 2 := by cases ln <;> decide
    refine commonsRead_lanes ?_ ?_ hbri <;>
    · rw [show targetOf ln 3 off = 0x120000000 + laneNo ln * 0x1000000 + off from rfl]
      omega

theorem touchesHeld_of_none {s : State} (h : s.bri.semas = []) (a n : Nat) : s.touchesHeld a n = false := by
  rw [State.touchesHeld, h]
  rfl

/-- The one write under way lands where no semaphore is held. -/
theorem landWhere_one {p : PostedOp → Bool} {x : PostedOp} {s : State} (hposted : s.bri.posted = [x]) (hx : p x = true)
    (hsemas : s.bri.semas = []) :
    landWhere p s = commonsWrite (nativeTarget x.lane x.op.addr) (x.op.data.getD []) { s with bri := { s.bri with posted := [] } } := by
  unfold landWhere
  rw [hposted, List.filter_cons_of_pos hx, List.filter_cons_of_neg (by rw [hx]; decide), List.filter_nil, List.filter_nil,
    List.foldl_cons, List.foldl_nil, landOne]
  exact if_neg (ne_true_of_eq_false (touchesHeld_of_none hsemas _ _))

/-- A posted write that passes is under way once it has left its core (R324). -/
theorem postedWrite_next {n : Nat} {ln : Lane} {c : Fin 4} {addr : Nat} {data : Bytes} {s : State} (hidle : (s.core ln c).stall = none)
    (hcode : (s.atTime n).issueCode ln c .posted addr data.length = 0) :
    ∃ task, exec (.directPostedWrite n ln c addr data) s = .next (linkOk ln false (
      let a := landOld (s.atTime n)
      { a with bri := { a.bri with posted := a.bri.posted ++ [{ lane := ln, core := c, task, op :=
        { addr, size := data.length, data := some data, exclusive := false, time := (s.atTime n).time.now, reached := false } }] } })) := by
  obtain ⟨honly, -⟩ := landOld_sameButLanding (s.atTime n)
  have hidle' : ((landOld (s.atTime n)).core ln c).stall = none := (congrArg Core.stall (honly.core rfl ln c)).trans hidle
  have hcode' : (landOld (s.atTime n)).issueCode ln c .posted addr data.length = brOk :=
    (State.issueCode_of_only honly rfl rfl rfl rfl ln c _ addr _).trans hcode
  have hnow : (landOld (s.atTime n)).time.now = (s.atTime n).time.now := congrArg TimeBase.now (honly.time rfl rfl)
  refine ⟨(landOld (s.atTime n)).openTask ln c, ?_⟩
  rw [exec_directPostedWrite, execDirectPostedWrite]
  dsimp only
  rw [hidle', if_neg (by decide), if_neg (not_not_intro hcode'), hnow]

theorem windowData_commons {ln : Lane} {c : Fin 4} {w off size : Nat} {s : State} (h : w = 0 ∨ w = 3) :
    s.windowData ln c w off size = s.commonsRead (targetOf ln w off) size := by
  rcases h with rfl | rfl <;> rfl

/-- Settles O46: the check at issue, the refusals, the reads, the pop and the writes, and the ends of a stall. -/
theorem bridgeAccesses : Obligations.BridgeAccesses := by
  intro n ln c addr size data s
  dsimp only
  refine ⟨fun k => ⟨fun hbad => State.issueCode_size hbad, fun hsize halign => ⟨fun hout => issueCode_outside hsize halign hout,
      fun hlow hhigh hk => issueCode_mailbox hsize halign hlow hhigh hk⟩⟩,
    fun hidle => ⟨fun code hne hcode => ?readRefused, fun code hne hcode => ?postedRefused, fun code hne hcode => ?nonpostedRefused,
      fun w off hcode hw hnot => ?reads, fun hcode => ?pops, fun hcode => ?posts, fun n' hcis hbri hposted hsemas hcode => ?readsBack,
      fun hcode => ?writes⟩,
    fun op hstall => ⟨fun x hlow hhigh => ?farError, fun x hnot hwaits hplain => ?completes, fun hlate => ?timeout⟩⟩
  case readRefused =>
    have hidle' : ((s.atTime n).core ln c).stall = none := hidle
    rw [exec_directRead, execDirectRead, directRead]
    refine gives_next ?_
    dsimp only
    rw [hidle', if_neg (by decide), hcode, if_pos (show code ≠ brOk from hne)]
    exact refuseAccess_fields ln c code (s.atTime n)
  case postedRefused =>
    obtain ⟨honly, hbri⟩ := landOld_sameButLanding (s.atTime n)
    have hidle' : ((landOld (s.atTime n)).core ln c).stall = none := (congrArg Core.stall (honly.core rfl ln c)).trans hidle
    rw [exec_directPostedWrite, execDirectPostedWrite]
    refine gives_next ?_
    dsimp only
    rw [hidle', if_neg (by decide), State.issueCode_of_only honly rfl rfl rfl rfl, hcode, if_pos (show code ≠ brOk from hne)]
    obtain ⟨hsent, hcis, hmem, hposted, hrefused, hlanes⟩ := refuseAccess_fields ln c code (landOld (s.atTime n))
    refine ⟨hsent.trans ?_, hcis, hmem, hposted, hrefused.trans ?_, fun l => (hlanes l).trans (honly.lane rfl l)⟩
    · rw [honly.sent rfl]
      rfl
    · rw [hbri]
      rfl
  case nonpostedRefused =>
    have hidle' : ((s.atTime n).core ln c).stall = none := hidle
    rw [exec_directNonpostedWrite, execDirectNonpostedWrite]
    refine gives_next ?_
    dsimp only
    rw [hidle', if_neg (by decide), hcode, if_pos (show code ≠ brOk from hne)]
    exact refuseAccess_fields ln c code (s.atTime n)
  case reads =>
    rw [exec_directRead, execDirectRead, directRead_stall (s := s.atTime n) hidle hcode hw hnot]
    refine gives_next ⟨?_, ?_, ?_⟩
    · rw [openOp_core]
    · exact (State.setCore_cis _ _ _ _)
    · exact (congrArg Bridge.mem (State.setCore_bri _ _ _ _)).trans rfl
  case pops =>
    rw [exec_eventQueuePop, execEventQueuePop, directRead_pop (s := s.atTime n) hidle hcode]
    obtain ⟨w, hword, hcore⟩ := popEvent_core ln c
      { addr := 0xE4000000, size := 8, data := none, exclusive := false, time := (s.atTime n).time.now, reached := true }
      (linkOk ln false (landBefore ln (s.atTime n)))
    rw [landed_core] at hword hcore
    refine gives_next ?_
    rw [hcore]
    exact ⟨rfl, w, hword, rfl⟩
  case posts =>
    obtain ⟨task, hexec⟩ := postedWrite_next hidle hcode
    rw [hexec]
    refine gives_next ⟨?_, task, rfl⟩
    exact (linkOk_core _ _ _ _ _).trans ((landOld_sameButLanding (s.atTime n)).1.core rfl ln c)
  case readsBack =>
    obtain ⟨task, hexec⟩ := postedWrite_next hidle hcode
    refine ⟨_, hexec, ?_⟩
    have hold : landOld (s.atTime n) = s.atTime n := landWhere_of_nil _ hposted
    rw [hold]
    obtain ⟨hread, w, off, hw, hwin, hfits, hlen⟩ := issueCode_read_of_posted hcode
    obtain ⟨u, hu, honly, hbriu⟩ : ∃ u : State, linkOk ln false { s.atTime n with bri := { (s.atTime n).bri with
        posted := (s.atTime n).bri.posted ++ [{ lane := ln, core := c, task, op :=
          { addr, size := data.length, data := some data, exclusive := false, time := (s.atTime n).time.now, reached := false } }] } } = u ∧
        Only [.bri] (s.atTime n) u ∧ u.bri.posted = [{ lane := ln, core := c, task, op :=
          { addr, size := data.length, data := some data, exclusive := false, time := (s.atTime n).time.now, reached := false } }] ∧
        u.bri.semas = [] := by
      refine ⟨_, rfl, ?_, ?_, hsemas⟩
      · exact (Upd_rfl (t := { s.atTime n with bri := _ }) rfl).trans (linkOk_only ln false _)
      · exact congrArg (· ++ _) hposted
    dsimp only
    rw [hu]
    have hnow : Only [.now, .bri] (s.atTime n) (u.atTime n') := (honly.mono rfl).trans (only_State_atTime rfl u n' (Only.refl _ u))
    have hidle' : ((u.atTime n').core ln c).stall = none := (congrArg Core.stall (hnow.core rfl ln c)).trans hidle
    have hcode' : (u.atTime n').issueCode ln c .read addr data.length = brOk :=
      (State.issueCode_of_only hnow rfl rfl rfl rfl ln c _ addr _).trans hread
    have hnot : ¬ (w = 1 ∧ off = 0) := by omega
    obtain ⟨hposted', hsemas'⟩ := hbriu
    have hland := landWhere_one (p := fun x => decide (x.lane = ln) || decide (x.op.time + 60000 < (u.atTime n').time.now))
      (s := u.atTime n') hposted' (by simp) hsemas'
    have htarget : nativeTarget ln addr = targetOf ln w off := by rw [nativeTarget, hw]
    have hcism : Memory.wf (u.atTime n').cis.mem = true := by rw [show (u.atTime n').cis = s.cis from hnow.cis rfl rfl]; exact hcis
    have hbrim : Memory.wf (u.atTime n').bri.mem = true := by rw [show (u.atTime n').bri.mem = s.bri.mem from (hnow.1 .dma rfl).symm]; exact hbri
    rw [exec_directRead, execDirectRead, directRead_stall hidle' hcode' hw hnot, landBefore, hland]
    refine gives_next ?_
    rw [openOp_core]
    refine ⟨_, rfl, congrArg some ?_⟩
    dsimp only
    rw [htarget, Option.getD_some, windowData_commons hwin]
    exact commonsRead_target hwin hfits hlen hcism hbrim
  case writes =>
    have hidle' : ((s.atTime n).core ln c).stall = none := hidle
    rw [exec_directNonpostedWrite, execDirectNonpostedWrite]
    refine gives_next ?_
    dsimp only
    rw [hidle', if_neg (by decide), if_neg (not_not_intro (show _ = brOk from hcode))]
    generalize hu : openOp ln c _ (linkOk ln false (landBefore ln (s.atTime n))) = u
    obtain ⟨op, hop, haddr, hdata⟩ : ∃ op, (u.core ln c).stall = some op ∧ op.addr = addr ∧ op.data = none := by
      rw [← hu, openOp_core]
      exact ⟨_, rfl, rfl, rfl⟩
    have hkept (q : State) (hq : Only [.mem, .dma, .bri, .records, .free] u q) : ∃ op, (q.core ln c).stall = some op ∧ op.addr = addr ∧ op.data = none :=
      ⟨op, (congrArg Core.stall (hq.core rfl ln c)).trans hop, haddr, hdata⟩
    split
    · exact hkept _ (only_ringBell rfl _ u (Only.refl _ u))
    · split
      · exact hkept _ (only_ringAbort rfl _ u (Only.refl _ u))
      · exact hkept u (Only.refl _ u)
  case farError =>
    have hop : ((linkOk ln true (s.atTime n)).core ln c).stall = some op := (congrArg Core.stall (linkOk_core _ _ _ _ _)).trans hstall
    rw [exec_directCompletion, execDirectCompletion]
    refine gives_next ?_
    rw [hop]
    dsimp only
    rw [if_pos ⟨hlow, hhigh⟩]
    exact answer_fields ln c _ _
  case completes =>
    have hop : ((linkOk ln true (s.atTime n)).core ln c).stall = some op := (congrArg Core.stall (linkOk_core _ _ _ _ _)).trans hstall
    have hwaits' : (linkOk ln true (s.atTime n)).waits ln c = false := hwaits
    have hcode : (linkOk ln true (s.atTime n)).opCode ln c op = brOk := if_neg (by rw [hplain]; simp)
    rw [exec_directCompletion, execDirectCompletion]
    refine gives_next ?_
    rw [hop]
    dsimp only
    rw [if_neg hnot, hwaits', if_neg (by decide), hcode, hplain]
    exact answer_fields ln c _ _
  case timeout =>
    have hop : ((s.atTime n).core ln c).stall = some op := hstall
    rw [exec_bridgeTimeout, execBridgeTimeout]
    refine gives_next ?_
    rw [hop]
    dsimp only
    rw [if_pos hlate]
    exact answer_fields ln c _ _

end Sys2Proof.Machine
end


section
/-! Semaphores (O47: R322, R323). -/

namespace Sys2Proof.Machine

/-- With no access waiting, semaphores that are lost change nothing else. -/
theorem dropSemas_of_none {p : Sema → Bool} {s : State} (h : s.bri.waiters = []) :
    dropSemas p s = { s with bri := { s.bri with semas := s.bri.semas.filter (fun x => !p x) } } := by
  unfold dropSemas serveWaiters
  dsimp only
  rw [h, List.foldl_nil]

/-- An exclusive access of a lane core names a word of the MAILBOX (R322). -/
theorem exclusive_target {s : State} {ln : Lane} {c : Fin 4} {addr size : Nat} (h : s.issueCode ln c .exclusive addr size = 0) :
    mailboxBase ≤ nativeTarget ln addr ∧ nativeTarget ln addr < 0x2000000 := by
  obtain ⟨w, off, hw, -, hfits, htakes, hsize, -⟩ := State.window_of_issueCode h
  obtain rfl : w = 0 := by simpa [windowTakes] using htakes
  have hpos : 0 < size := Nat.pos_of_ne_zero (by rintro rfl; revert hsize; decide)
  have htarget : nativeTarget ln addr = mailboxBase + off := by
    rw [nativeTarget, hw]
    rfl
  have hwindow : windowSize 0 = 0x10000 := rfl
  have hbase : mailboxBase = 0x1FF0000 := rfl
  omega

theorem commonsWrite_mailbox {a : Nat} (d : Bytes) (s : State) (h : mailboxBase ≤ a ∧ a < 0x2000000) :
    commonsWrite a d s = { s with cis := { s.cis with mem := cWrite a d s.cis.mem } } := if_pos h

/-- The bridge as an exclusive access of a core finds it: no write of the lane is under way. -/
theorem exclusive_start (ln : Lane) {s : State} (h : s.bri.posted = []) :
    linkOk ln false (landBefore ln s) = linkOk ln false s := by
  rw [landBefore, landWhere_of_nil _ h]

theorem commonsRead_of_same {s t : State} (hcis : t.cis = s.cis) (hrcd : t.rcd = s.rcd) (hmem : t.bri.mem = s.bri.mem) (a size : Nat) :
    t.commonsRead a size = s.commonsRead a size := by
  unfold State.commonsRead State.commonsByte
  rw [hcis, hrcd, hmem]

/-- A core that reads exclusively has given up its own semaphore and stalls (R322). -/
def exclusiveStalled (ln : Lane) (c : Fin 4) (op : DirectOp) (s : State) : State :=
  ({ s with bri := { s.bri with semas := s.bri.semas.filter (fun x => !decide (x.holder = Initiator.core ln c)) } }).setCore ln c
    { s.core ln c with stall := some op, exclusive := none }

theorem exclusiveStalled_fields (ln : Lane) (c : Fin 4) (op : DirectOp) (s : State) :
    (exclusiveStalled ln c op s).bri = { s.bri with semas := s.bri.semas.filter (fun x => !decide (x.holder = Initiator.core ln c)) } ∧
    (exclusiveStalled ln c op s).cis = s.cis ∧ (exclusiveStalled ln c op s).core ln c = { s.core ln c with stall := some op, exclusive := none } :=
  ⟨State.setCore_bri _ _ _ _, State.setCore_cis _ _ _ _, State.setCore_core _ _ _ _⟩

theorem exclusiveStalled_only (ln : Lane) (c : Fin 4) (op : DirectOp) (s : State) : Only [.lanes, .bri] s (exclusiveStalled ln c op s) := by
  unfold exclusiveStalled
  exact Only.trans (Upd_rfl rfl) (only_State_setCore rfl _ ln c _ (Only.refl _ _))

theorem exclusiveRead_of_core {ln : Lane} {c : Fin 4} {op : DirectOp} {s : State} (h : s.bri.waiters = []) :
    exclusiveRead (.core ln c) op s =
      let t := exclusiveStalled ln c op s
      if (t.heldBy (granuleOf (nativeTarget ln op.addr))).isSome = true ∨ 16 ≤ t.bri.semas.length then waitFor (.core ln c, op) t
      else grantRead (.core ln c) op t := by
  unfold exclusiveRead
  rw [dropSemas_of_none h]
  cases ln <;> rfl

theorem grantRead_fields (ln : Lane) (c : Fin 4) (op : DirectOp) (s : State) :
    let t := grantRead (.core ln c) op s
    t.bri.semas = s.bri.semas ++ [{ granule := granuleOf (nativeTarget ln op.addr), holder := .core ln c, since := s.time.now }] ∧
    t.cis = s.cis ∧ t.core ln c = { s.core ln c with
      stall := some { op with data := some (s.commonsRead (nativeTarget ln op.addr) op.size), reached := true }, exclusive := some (op.addr, op.size) } := by
  refine ⟨congrArg Bridge.semas (State.setCore_bri _ _ _ _), State.setCore_cis _ _ _ _, ?_⟩
  refine (State.setCore_core _ _ _ _).trans ?_
  cases ln <;> rfl

/-- An exclusive read that passes the check: its core stalls without its own semaphore, and the read is served or waits (R322). -/
theorem exclusiveRead_next {n : Nat} {ln : Lane} {c : Fin 4} {addr size : Nat} {s : State} (hposted : s.bri.posted = [])
    (hwaiters : s.bri.waiters = []) (hcode : (s.atTime n).issueCode ln c .exclusive addr size = 0) (hidle : (s.core ln c).stall = none) :
    let op : DirectOp := { addr, size, data := none, exclusive := true, time := (s.atTime n).time.now, reached := false }
    ∃ t : State, Only [.lanes, .bri] (s.atTime n) t ∧ t.bri.waiters = [] ∧
      t.bri.semas = s.bri.semas.filter (fun x => !decide (x.holder = Initiator.core ln c)) ∧
      t.core ln c = { s.core ln c with stall := some op, exclusive := none } ∧
      exec (.exclusiveRead n (.core ln c) addr size) s = .next (
        if (t.heldBy (granuleOf (nativeTarget ln addr))).isSome = true ∨ 16 ≤ t.bri.semas.length then waitFor (.core ln c, op) t
        else grantRead (.core ln c) op t) := by
  intro op
  have hidle' : ((s.atTime n).core ln c).stall = none := hidle
  have hw : (linkOk ln false (s.atTime n)).bri.waiters = [] := hwaiters
  obtain ⟨hbri, -, hcore⟩ := exclusiveStalled_fields ln c op (linkOk ln false (s.atTime n))
  refine ⟨exclusiveStalled ln c op (linkOk ln false (s.atTime n)), ?_, ?_, ?_, ?_, ?_⟩
  · exact ((linkOk_only ln false _).mono rfl).trans (exclusiveStalled_only ln c op _)
  · rw [hbri]
    exact hwaiters
  · rw [hbri]
    rfl
  · rw [hcore, linkOk_core]
    rfl
  · rw [exec_exclusiveRead, execExclusiveRead]
    dsimp only
    rw [hidle', if_neg (by decide), if_neg (not_not_intro (show _ = brOk from hcode)), exclusive_start ln (s := s.atTime n) hposted,
      exclusiveRead_of_core hw]

/-- An exclusive write that passes the check is performed only under its own semaphore (R323). -/
theorem exclusiveWrite_next {n : Nat} {ln : Lane} {c : Fin 4} {addr : Nat} {data : Bytes} {s : State} (hposted : s.bri.posted = [])
    (hwaiters : s.bri.waiters = []) (hcode : (s.atTime n).issueCode ln c .exclusive addr data.length = 0) (hidle : (s.core ln c).stall = none) :
    let ok := s.holds (.core ln c) (granuleOf (nativeTarget ln addr)) && decide ((s.core ln c).exclusive = some (addr, data.length))
    let op : DirectOp := { addr, size := data.length, data := some data, exclusive := true, time := (s.atTime n).time.now, reached := ok }
    ∃ t : State, Only [.lanes, .bri] (s.atTime n) t ∧ t.bri.waiters = [] ∧ t.bri.semas = s.bri.semas ∧
      t.core ln c = { s.core ln c with stall := some op, exclusive := none } ∧
      exec (.exclusiveWrite n (.core ln c) addr data) s = .next (
        if ok = true then dropSemas (fun x => x.granule = granuleOf (nativeTarget ln addr) && decide (x.holder = Initiator.core ln c))
          (commonsWrite (nativeTarget ln addr) data t)
        else t) := by
  intro ok op
  have hidle' : ((s.atTime n).core ln c).stall = none := hidle
  have hcore : (linkOk ln false (s.atTime n)).core ln c = s.core ln c := linkOk_core ln ln false c (s.atTime n)
  have hholds : (linkOk ln false (s.atTime n)).holds (.core ln c) (granuleOf (nativeTarget ln addr)) =
      s.holds (.core ln c) (granuleOf (nativeTarget ln addr)) := rfl
  refine ⟨(linkOk ln false (s.atTime n)).setCore ln c { s.core ln c with stall := some op, exclusive := none }, ?_, ?_, ?_, ?_, ?_⟩
  · exact ((linkOk_only ln false _).mono rfl).trans (only_State_setCore rfl _ ln c _ (Only.refl _ _))
  · exact (congrArg Bridge.waiters (State.setCore_bri _ _ _ _)).trans hwaiters
  · exact (congrArg Bridge.semas (State.setCore_bri _ _ _ _)).trans rfl
  · exact State.setCore_core _ _ _ _
  · rw [exec_exclusiveWrite, execExclusiveWrite]
    dsimp only
    rw [hidle', if_neg (by decide), if_neg (not_not_intro (show _ = brOk from hcode)), exclusive_start ln (s := s.atTime n) hposted, hcore, hholds]

/-- Settles O47: the exclusive reads and writes of the cores and the service cores, and the semaphores that break. -/
theorem bridgeSemaphores : Obligations.BridgeSemaphores := by
  intro n ln c addr size data s
  dsimp only
  refine ⟨fun hposted hwaiters => ⟨fun hcode hidle => ⟨fun hfree => ?granted, fun hbusy => ?waits⟩,
    fun hcode hidle => ⟨fun hholds hmark => ?performed, fun hnot => ?notPerformed⟩, fun g x hheld hlate => ?breaks,
    fun e hmail hlen halign => ⟨fun hholds => ?service, fun hnot => ?serviceBroken⟩⟩,
    fun x op hstall hexclusive hreached hnone hwaits hcode => ?lockBroken⟩
  case granted =>
    obtain ⟨t, honly, -, hsemas, hcore, hexec⟩ := exclusiveRead_next hposted hwaiters hcode hidle
    rw [hexec]
    refine gives_next ?_
    rw [if_neg (by rw [State.heldBy, hsemas]; exact hfree)]
    obtain ⟨hs, hc, hk⟩ := grantRead_fields ln c (DirectOp.mk addr size none true (s.atTime n).time.now false) t
    have hread : t.commonsRead (nativeTarget ln addr) size = (s.atTime n).commonsRead (nativeTarget ln addr) size :=
      commonsRead_of_same (honly.cis rfl rfl) (honly.rcd rfl) (honly.1 .dma rfl).symm _ _
    rw [hs, hc, hk, hsemas, honly.now rfl, hread]
    exact ⟨rfl, rfl, rfl, honly.cis rfl rfl⟩
  case waits =>
    obtain ⟨t, honly, hnone, hsemas, hcore, hexec⟩ := exclusiveRead_next hposted hwaiters hcode hidle
    rw [hexec]
    refine gives_next ?_
    rw [if_pos (by rw [State.heldBy, hsemas]; exact hbusy)]
    have hkept (x : Initiator × DirectOp) : (waitFor x t).core ln c = t.core ln c := by cases ln <;> rfl
    rw [hkept, hcore]
    refine ⟨hsemas, ?_, rfl, rfl, honly.cis rfl rfl⟩
    exact congrArg (insertWaiter _) hnone
  case performed =>
    obtain ⟨t, honly, hnone, hsemas, hcore, hexec⟩ := exclusiveWrite_next (n := n) hposted hwaiters hcode hidle
    rw [hholds, hmark, decide_eq_true rfl, Bool.and_true] at hcore hexec
    have hin := exclusive_target hcode
    have hmem : t.cis.mem = s.cis.mem := (congrArg Cistern.mem (honly.cis rfl rfl)).trans rfl
    rw [hexec, if_pos rfl, commonsWrite_mailbox _ _ hin,
      dropSemas_of_none (s := { t with cis := { t.cis with mem := cWrite (nativeTarget ln addr) data t.cis.mem } }) hnone]
    have hkept : ({ t with
        cis := { t.cis with mem := cWrite (nativeTarget ln addr) data t.cis.mem }
        bri := { t.bri with semas := t.bri.semas.filter (fun x =>
          !(decide (x.granule = granuleOf (nativeTarget ln addr)) && decide (x.holder = Initiator.core ln c))) } } : State).core ln c = t.core ln c := by
      cases ln <;> rfl
    refine gives_next ⟨?_, ?_, ?_, ?_, fun hwf b hb => ?_⟩
    · dsimp only
      rw [hsemas]
    · exact congrArg (cWrite _ _) hmem
    · exact (congrArg Core.exclusive (hkept.trans hcore)).trans rfl
    · exact ⟨_, (congrArg Core.stall (hkept.trans hcore)).trans rfl, rfl⟩
    · refine (congrArg (fun m => cGet b (cWrite _ _ m)) hmem).trans ?_
      exact cGet_cWrite_outside hwf hb
  case notPerformed =>
    obtain ⟨t, honly, hnone, hsemas, hcore, hexec⟩ := exclusiveWrite_next (n := n) hposted hwaiters hcode hidle
    have hno : (s.holds (.core ln c) (granuleOf (nativeTarget ln addr)) && decide ((s.core ln c).exclusive = some (addr, data.length))) = false := by
      rw [Bool.eq_false_iff, ne_eq, Bool.and_eq_true, decide_eq_true_iff]
      exact hnot
    rw [hno] at hcore hexec
    rw [hexec, if_neg (by decide)]
    refine gives_next ?_
    rw [hcore]
    exact ⟨hsemas, honly.cis rfl rfl, rfl, _, rfl, rfl, rfl⟩
  case breaks =>
    rw [exec_semaphoreBreak, execSemaphoreBreak]
    refine gives_next ?_
    have hheld' : (s.atTime n).heldBy g = some x := hheld
    rw [hheld']
    dsimp only
    rw [if_pos hlate, dropSemas_of_none (by rw [raise_bri]; exact hwaiters), raise_bri]
    exact ⟨rfl, rfl⟩
  case service =>
    rw [exec_exclusiveWrite, execExclusiveWrite]
    refine gives_next ?_
    have hgood : (!(inMailbox e && ((data.length = 4 || data.length = 8) && e % data.length = 0))) = false := by
      rw [hmail, halign]
      rcases hlen with hlen | hlen <;> rw [hlen] <;> rfl
    have hin : mailboxBase ≤ e ∧ e < 0x2000000 := by simpa [inMailbox] using hmail
    have hholds' : (s.atTime n).holds .service (granuleOf e) = true := hholds
    dsimp only
    rw [hgood, if_neg (by decide), if_pos hholds', commonsWrite_mailbox _ _ hin,
      dropSemas_of_none (s := { s.atTime n with cis := { (s.atTime n).cis with mem := cWrite e data (s.atTime n).cis.mem } }) hwaiters]
    refine ⟨rfl, ?_, rfl⟩
    refine List.any_eq_false.mpr fun x hx hmine => ?_
    have hkept := (List.mem_filter.mp hx).2
    rw [hmine] at hkept
    exact absurd hkept (by decide)
  case serviceBroken =>
    rw [exec_exclusiveWrite, execExclusiveWrite]
    refine gives_next ?_
    have hgood : (!(inMailbox e && ((data.length = 4 || data.length = 8) && e % data.length = 0))) = false := by
      rw [hmail, halign]
      rcases hlen with hlen | hlen <;> rw [hlen] <;> rfl
    have hnot' : (s.atTime n).holds .service (granuleOf e) = false := hnot
    dsimp only
    rw [hgood, if_neg (by decide), hnot', if_neg (by decide)]
    exact ⟨rfl, rfl⟩
  case lockBroken =>
    have hop : ((linkOk ln true (s.atTime n)).core ln c).stall = some op := (congrArg Core.stall (linkOk_core _ _ _ _ _)).trans hstall
    have hmark : ((linkOk ln true (s.atTime n)).core ln c).exclusive = none := (congrArg Core.exclusive (linkOk_core _ _ _ _ _)).trans hnone
    have hwaits' : (linkOk ln true (s.atTime n)).waits ln c = false := hwaits
    have hbroken : (linkOk ln true (s.atTime n)).opCode ln c op = brLockBroken := if_pos ⟨hexclusive, hreached, hmark⟩
    rw [exec_directCompletion, execDirectCompletion]
    refine gives_next ?_
    rw [hop]
    dsimp only
    rw [if_neg hcode, hwaits', if_neg (by decide), hbroken, if_neg (fun h => absurd h.1 (by decide))]
    exact answer_fields ln c _ _

end Sys2Proof.Machine
end


section
/-! Link replays, late errors and event words (O48: R317, R324, R325, R329, R330). -/

namespace Sys2Proof.Machine

/-! ### A step of a fold that happens once -/

/-- A fold over distinct elements changes what only one of them changes, once. -/
theorem foldl_once {σ α β : Type} {p : σ → β} {g : β → β} {ok : σ → Prop} {f : σ → α → σ} {a : α}
    (hself : ∀ s, ok s → p (f s a) = g (p s)) (hother : ∀ s b, b ≠ a → p (f s b) = p s) (hok : ∀ s b, ok s → ok (f s b))
    {l : List α} (hl : l.Nodup) (ha : a ∈ l) {s : σ} (hs : ok s) : p (l.foldl f s) = g (p s) := by
  induction l generalizing s with
  | nil => exact absurd ha (List.not_mem_nil)
  | cons b l ih =>
    obtain ⟨hb, hl⟩ := List.nodup_cons.mp hl
    rw [List.foldl_cons]
    by_cases hab : a = b
    · subst hab
      have hrest : ∀ (l : List α) (q : σ), a ∉ l → p (l.foldl f q) = p q := by
        intro l
        induction l with
        | nil => exact fun q _ => rfl
        | cons c l ih =>
          intro q hq
          rw [List.foldl_cons, ih _ fun h => hq (List.mem_cons_of_mem _ h), hother _ _ fun h => hq (h ▸ List.mem_cons_self)]
      rw [hrest l _ hb, hself s hs]
    · rw [ih hl ((List.mem_cons.mp ha).resolve_left hab) (hok s b hs), hother s b (Ne.symm hab)]

/-! ### Event words (R329, R330) -/

/-- A core's queue after a word for it: at most 64 words wait (R330). -/
def withWord (w : Word) (ws : List Word) : List Word := if ws.length < 64 then ws ++ [w] else ws

theorem LaneSt.setCore_state (l : LaneSt) (c : Fin 4) (k : Core) : (l.setCore c k).state = l.state := by
  fin_cases c <;> rfl

theorem setCore_core_events (s : State) (ln l : Lane) (c d : Fin 4) (ws : List Word) :
    (((s.setCore ln c { s.core ln c with events := ws }).core l d).events = if l = ln ∧ d = c then ws else (s.core l d).events) ∧
    ((s.setCore ln c { s.core ln c with events := ws }).lane l).state = (s.lane l).state := by
  unfold State.core State.setCore
  by_cases hl : l = ln
  · subst hl
    rw [State.setLane_lane, LaneSt.setCore_state]
    by_cases hd : d = c
    · subst hd
      rw [LaneSt.setCore_core, if_pos ⟨rfl, rfl⟩]
      exact ⟨rfl, rfl⟩
    · rw [LaneSt.setCore_core_other _ _ hd, if_neg (fun h => hd h.2)]
      exact ⟨rfl, rfl⟩
  · rw [State.setLane_other hl, if_neg (fun h => hl h.1)]
    exact ⟨rfl, rfl⟩

theorem queueWord_core (ln l : Lane) (w : Word) (s : State) (c d : Fin 4) :
    ((queueWord ln w s c).core l d).events = (if l = ln ∧ d = c then withWord w (s.core l d).events else (s.core l d).events) ∧
    ((queueWord ln w s c).lane l).state = (s.lane l).state := by
  unfold queueWord
  dsimp only
  split
  next hroom =>
    obtain ⟨hevents, hstate⟩ := setCore_core_events s ln l c d ((s.core ln c).events ++ [w])
    refine ⟨hevents.trans ?_, hstate⟩
    split
    next h =>
      obtain ⟨rfl, rfl⟩ := h
      exact (if_pos hroom).symm
    · rfl
  next hfull =>
    have hlane (b : Bool) (x : Code) (y : Bytes) (r : Bridge) : (raiseIf b x y { s with bri := r }).lane l = s.lane l :=
      (State.lane_of_eq (raiseIf_lanA b x y _) (raiseIf_lanB b x y _) (raiseIf_lanC b x y _) l).trans (by cases l <;> rfl)
    rw [hlane, State.core_of_lane (hlane _ _ _ _)]
    refine ⟨?_, rfl⟩
    split
    next h =>
      obtain ⟨rfl, rfl⟩ := h
      exact (if_neg hfull).symm
    · rfl

theorem queueWord_only (ln : Lane) (w : Word) (s : State) (c : Fin 4) : Only [.lanes, .bri, .records] s (queueWord ln w s c) :=
  only_queueWord rfl ln w s c (Only.refl _ s)

/-- A word that a core cannot take is counted and reported; the words for the image stay. -/
theorem queueWord_bri (ln : Lane) (w : Word) (s : State) (c : Fin 4) :
    (queueWord ln w s c).bri.raised = s.bri.raised ∧ (queueWord ln w s c).bri.imageEvents = s.bri.imageEvents := by
  unfold queueWord
  dsimp only
  split
  · rw [State.setCore_bri]
    exact ⟨rfl, rfl⟩
  · rw [raiseIf_bri]
    exact ⟨rfl, rfl⟩

/-- Where one word goes in a lane (R329, R330). -/
def laneWord (mask : Nat) (w : Word) (s : State) (ln : Lane) : State :=
  if mask.testBit (1 + laneNo ln) ∧ (s.lane ln).state = .isIn then s.splitCores.foldl (queueWord ln w) s else s

theorem laneWord_bri (mask : Nat) (w : Word) (s : State) (ln : Lane) :
    (laneWord mask w s ln).bri.raised = s.bri.raised ∧ (laneWord mask w s ln).bri.imageEvents = s.bri.imageEvents := by
  unfold laneWord
  split
  · exact ⟨foldl_field (fun q : State => q.bri.raised) (fun q c => (queueWord_bri ln w q c).1) _ s,
      foldl_field (fun q : State => q.bri.imageEvents) (fun q c => (queueWord_bri ln w q c).2) _ s⟩
  · exact ⟨rfl, rfl⟩

theorem laneWord_only (mask : Nat) (w : Word) (s : State) (ln : Lane) : Only [.lanes, .bri, .records] s (laneWord mask w s ln) := by
  unfold laneWord
  split
  · exact only_foldl (fun q c h => h.trans (queueWord_only ln w q c)) (Only.refl _ s)
  · exact Only.refl _ s

/-- A word reaches every SPLIT core of its lane and no core of another. -/
theorem laneWord_core (mask : Nat) (w : Word) (s : State) (ln l : Lane) (c : Fin 4) :
    ((laneWord mask w s ln).lane l).state = (s.lane l).state ∧
    (l ≠ ln → ((laneWord mask w s ln).core l c).events = (s.core l c).events) ∧
    (mask.testBit (1 + laneNo ln) = true → (s.lane ln).state = .isIn → s.triple c = false →
      ((laneWord mask w s ln).core ln c).events = withWord w (s.core ln c).events) := by
  unfold laneWord
  refine ⟨?_, fun hl => ?_, fun hmask hin hsplit => ?_⟩
  · split
    · exact foldl_field (fun q : State => (q.lane l).state) (fun q c => (queueWord_core ln l w q c c).2) _ s
    · rfl
  · split
    · refine foldl_field (fun q : State => (q.core l c).events) (fun q d => ?_) _ s
      rw [(queueWord_core ln l w q d c).1, if_neg (fun h => hl h.1)]
    · rfl
  · rw [if_pos ⟨hmask, hin⟩]
    have hmem : c ∈ s.splitCores := List.mem_filter.mpr ⟨by fin_cases c <;> decide, by rw [hsplit]; rfl⟩
    have hnodup : s.splitCores.Nodup := List.Nodup.filter _ (by decide)
    refine foldl_once (p := fun q : State => (q.core ln c).events) (g := withWord w) (ok := fun _ => True) (fun q _ => ?_) (fun q d hd => ?_)
      (fun _ _ _ => trivial) hnodup hmem trivial
    · rw [(queueWord_core ln ln w q c c).1, if_pos ⟨rfl, rfl⟩]
    · rw [(queueWord_core ln ln w q d c).1, if_neg (fun h => hd h.2.symm)]

theorem routeWord_eq (source : Nat) (w : Word) (s : State) :
    routeWord source w s =
      let mask := leAt (s.odGet 0x7200 0x10) (source - 1) 1
      lanes.foldl (laneWord mask w) (if mask.testBit 0 then { s with bri := { s.bri with imageEvents := s.bri.imageEvents ++ [w] } } else s) := rfl

/-- A word for the service cores joins the image's words; no source is raised (R329). -/
theorem routeWord_bri (source : Nat) (w : Word) (s : State) :
    (routeWord source w s).bri.raised = s.bri.raised ∧ (routeWord source w s).bri.imageEvents = s.bri.imageEvents ++
      (if (leAt (s.odGet 0x7200 0x10) (source - 1) 1).testBit 0 then [w] else []) ∧ (routeWord source w s).od = s.od := by
  rw [routeWord_eq]
  dsimp only
  have hod := fun q => (only_foldl (l := lanes) (fun q l h => h.trans (laneWord_only (leAt (s.odGet 0x7200 0x10) (source - 1) 1) w q l))
    (Only.refl [.lanes, .bri, .records] q)).od rfl
  rw [foldl_field (fun q : State => q.bri.raised) (fun q l => (laneWord_bri _ w q l).1),
    foldl_field (fun q : State => q.bri.imageEvents) (fun q l => (laneWord_bri _ w q l).2), hod]
  split
  · exact ⟨rfl, rfl, rfl⟩
  · exact ⟨rfl, (List.append_nil _).symm, rfl⟩

/-- A poll routes one word for each source raised, in order (R329). -/
theorem poll_bri (now : Nat) (l : List (Nat × Nat × Nat)) (s : State) :
    let t := l.foldl (fun q e => routeWord e.1 (eventWord e.1 e.2.1 e.2.2 now) q) s
    t.bri.raised = s.bri.raised ∧ t.bri.imageEvents = s.bri.imageEvents ++
      (l.filter (fun e => (leAt (s.odGet 0x7200 0x10) (e.1 - 1) 1).testBit 0)).map (fun e => eventWord e.1 e.2.1 e.2.2 now) := by
  dsimp only
  induction l generalizing s with
  | nil => exact ⟨rfl, (List.append_nil _).symm⟩
  | cons e l ih =>
    obtain ⟨hraised, himage, hod⟩ := routeWord_bri e.1 (eventWord e.1 e.2.1 e.2.2 now) s
    obtain ⟨ihRaised, ihImage⟩ := ih (routeWord e.1 (eventWord e.1 e.2.1 e.2.2 now) s)
    have hmask : (routeWord e.1 (eventWord e.1 e.2.1 e.2.2 now) s).odGet 0x7200 0x10 = s.odGet 0x7200 0x10 :=
      State.odGet_of_values (congrArg Od.values hod) _ _
    rw [List.foldl_cons]
    refine ⟨ihRaised.trans hraised, ?_⟩
    rw [ihImage, himage, hmask, List.append_assoc]
    refine congrArg (s.bri.imageEvents ++ ·) ?_
    by_cases hbit : (leAt (s.odGet 0x7200 0x10) (e.1 - 1) 1).testBit 0 = true
    · rw [if_pos hbit, List.filter_cons_of_pos (by exact hbit)]
      rfl
    · rw [if_neg hbit, List.filter_cons_of_neg (by exact hbit)]
      rfl

/-- A word routed to a lane reaches each of its SPLIT cores (R330). -/
theorem routeWord_core {source : Nat} {w : Word} {s : State} {ln : Lane} {c : Fin 4}
    (hmask : (leAt (s.odGet 0x7200 0x10) (source - 1) 1).testBit (1 + laneNo ln) = true) (hin : (s.lane ln).state = .isIn)
    (hsplit : s.triple c = false) : ((routeWord source w s).core ln c).events = withWord w (s.core ln c).events := by
  rw [routeWord_eq]
  dsimp only
  generalize leAt (s.odGet 0x7200 0x10) (source - 1) 1 = mask at hmask ⊢
  have hfold (q : State) (hq : (q.lane ln).state = .isIn ∧ q.triple c = false) :
      ((lanes.foldl (laneWord mask w) q).core ln c).events = withWord w (q.core ln c).events := by
    refine foldl_once (p := fun q : State => (q.core ln c).events) (g := withWord w)
      (ok := fun q => (q.lane ln).state = .isIn ∧ q.triple c = false) (fun q hq => ?_) (fun q l hl => ?_) (fun q l hq => ?_)
      (l := lanes) (a := ln) (by decide) (by cases ln <;> decide) hq
    · exact (laneWord_core mask w q ln ln c).2.2 hmask hq.1 hq.2
    · exact (laneWord_core mask w q l ln c).2.1 (Ne.symm hl)
    · refine ⟨(laneWord_core mask w q l ln c).1.trans hq.1, ?_⟩
      exact (congrArg (fun x : Ctl => x.placement.getLsbD c.val) ((laneWord_only mask w q l).ctl rfl rfl)).trans hq.2
  split
  · have himage (b : Bridge) : ((lanes.foldl (laneWord mask w) { s with bri := b }).core ln c).events = withWord w (s.core ln c).events := by
      have hlane : ({ s with bri := b } : State).lane ln = s.lane ln := by cases ln <;> rfl
      rw [hfold { s with bri := b } ⟨(congrArg LaneSt.state hlane).trans hin, hsplit⟩, State.core_of_lane hlane]
    exact himage _
  · exact hfold s ⟨hin, hsplit⟩

/-! ### Late errors (R324, R325) -/

/-- A failed posted write leaves the bridge and is recorded under the task that posted it. -/
theorem lateError_next {n : Nat} {ln : Lane} {c : Fin 4} {window : Fin 4} {off size : Nat} {cause : Fin 8} {s : State}
    (hlow : 4 ≤ cause.val) (hhigh : cause.val ≤ 6) :
    ∃ task posted, exec (.lateError n ln c window off size cause) s =
      .next (recordLate ln c window off size cause task { s.atTime n with bri := { s.bri with posted := posted } }) := by
  rw [exec_lateError, execLateError]
  dsimp only
  rw [if_neg (by omega)]
  split
  next p _ => exact ⟨p.task, _, rfl⟩
  · exact ⟨_, s.bri.posted, rfl⟩

theorem recordLate_of_full {ln : Lane} {c : Fin 4} {window : Fin 4} {off size : Nat} {cause : Fin 8} {task : BitVec 8} {s : State}
    (h : 64 ≤ (s.bri.late.filter (fun e => !e.delivered)).length) :
    (recordLate ln c window off size cause task s).bri =
      { s.bri with lateLost := satAdd 32 s.bri.lateLost 1, lateLostImage := s.bri.lateLostImage + 1 } := by
  unfold recordLate
  rw [if_pos h]
  dsimp only
  rw [raiseIf_bri]

/-- A recorded write is the last entry of the ring. -/
theorem recordLate_of_room {ln : Lane} {c : Fin 4} {window : Fin 4} {off size : Nat} {cause : Fin 8} {task : BitVec 8} {s : State}
    (h : (s.bri.late.filter (fun e => !e.delivered)).length < 64) :
    let e : LateEntry := { addr := off, cycle := BitVec.ofNat 32 s.cycleNow, seq := s.bri.lateSeq, window, cause, lane := ln, core := c
                           task, size, delivered := false }
    let t := recordLate ln c window off size cause task s
    t.bri.late.getLast? = some e ∧ t.bri.lateSeq = s.bri.lateSeq + 1 ∧ t.bri.lateErrors = satAdd 32 s.bri.lateErrors 1 ∧
    t.bri.lateLost = s.bri.lateLost := by
  intro e t
  have ht : t.bri = (poke 5 e.seq.toNat { s with bri := { s.bri with
      late := (s.bri.late ++ [e]).drop ((s.bri.late ++ [e]).length - 64), lateSeq := s.bri.lateSeq + 1,
      lateErrors := satAdd 32 s.bri.lateErrors 1 } }).bri := by
    unfold t recordLate
    rw [if_neg (Nat.not_le.mpr h)]
    dsimp only
    unfold poke
    dsimp only
    rw [raise_bri]
  rw [ht]
  refine ⟨?_, rfl, rfl, rfl⟩
  refine Eq.trans (List.getLast?_drop ..) ?_
  rw [if_neg (by simp), List.getLast?_concat]

/-- Settles O48: the replays of a frame, the records of a failed write, and the words of a poll. -/
theorem bridgeRecordsAndEvents : Obligations.BridgeRecordsAndEvents := by
  intro n ln c s
  dsimp only
  refine ⟨fun toLane k hk => ⟨fun hless => ?replays, fun hfull => ?drops⟩,
    fun window off size cause hlow hhigh => ⟨fun hroom => ?records, fun hfull => ?loses, ?unperformed⟩, ?polls, fun e hraised hmask hin hsplit => ?queues⟩
  case replays =>
    subst hk
    rw [exec_linkReplay, execLinkReplay]
    refine gives_next ?_
    have hless' : ((s.atTime n).bri.replayTry[2 * laneNo ln + b2n toLane]?).getD 0 < 4 := hless
    dsimp only
    rw [if_pos hless']
    exact ⟨rfl, rfl⟩
  case drops =>
    subst hk
    rw [exec_linkReplay, execLinkReplay]
    refine gives_next ?_
    have hfull' : ¬ ((s.atTime n).bri.replayTry[2 * laneNo ln + b2n toLane]?).getD 0 < 4 := Nat.not_lt.mpr hfull
    dsimp only
    rw [if_neg hfull', raise_bri]
    exact ⟨rfl, rfl⟩
  case records =>
    obtain ⟨task, posted, hexec⟩ := lateError_next (n := n) (ln := ln) (c := c) (window := window) (off := off) (size := size) (s := s) hlow hhigh
    rw [hexec]
    refine gives_next ?_
    obtain ⟨hlast, hseq, herrors, hlost⟩ := recordLate_of_room (ln := ln) (c := c) (window := window) (off := off) (size := size)
      (cause := cause) (task := task) (s := { s.atTime n with bri := { s.bri with posted := posted } }) hroom
    exact ⟨herrors, hseq, hlost, _, hlast, rfl, rfl, rfl, rfl, rfl, rfl, rfl, rfl, rfl⟩
  case loses =>
    obtain ⟨task, posted, hexec⟩ := lateError_next (n := n) (ln := ln) (c := c) (window := window) (off := off) (size := size) (s := s) hlow hhigh
    rw [hexec]
    refine gives_next ?_
    rw [recordLate_of_full (s := { s.atTime n with bri := { s.bri with posted := posted } }) hfull]
    exact ⟨rfl, rfl, rfl⟩
  case unperformed =>
    obtain ⟨task, posted, hexec⟩ := lateError_next (n := n) (ln := ln) (c := c) (window := window) (off := off) (size := size) (s := s) hlow hhigh
    rw [hexec]
    refine gives_next ?_
    have honly := only_recordLate (m0 := [.bri, .records]) rfl ln c window off size cause task
      { s.atTime n with bri := { s.bri with posted := posted } } (Only.refl _ _)
    exact ⟨honly.cis rfl rfl, (honly.1 .dma rfl).symm⟩
  case polls =>
    rw [exec_eventPoll, execEventPoll]
    refine gives_next ?_
    obtain ⟨hraised, himage⟩ := poll_bri (s.atTime n).time.now ((s.atTime n).bri.raised.mergeSort (fun a b => a.1 ≤ b.1))
      { s.atTime n with bri := { (s.atTime n).bri with raised := [] } }
    exact ⟨hraised, himage⟩
  case queues =>
    rw [exec_eventPoll, execEventPoll]
    refine gives_next ?_
    have hone : (s.atTime n).bri.raised = [e] := hraised
    rw [hone, List.mergeSort_singleton, List.foldl_cons, List.foldl_nil]
    have hroute := routeWord_core (source := e.1) (w := eventWord e.1 e.2.1 e.2.2 (s.atTime n).time.now)
      (s := { s.atTime n with bri := { (s.atTime n).bri with raised := [] } }) (ln := ln) (c := c) hmask
      ((congrArg LaneSt.state (by cases ln <;> rfl)).trans hin) hsplit
    refine hroute.trans ?_
    cases ln <;> rfl

end Sys2Proof.Machine
end


section
/-! What the commands of a pair share: the Siphon's frames, the pair states, and a lost partner (R339 to R361). -/

namespace Sys2Proof.Machine

/-! ### Frames of the Siphon (R346, R347) -/

/-- A module that has taken a frame of a kind. -/
def tookFrame (k : Nat) (f : SiphonFrame) (s : State) : State :=
  { s with pair := { s.pair with seqIn := modAt k (fun _ => some f.seq) s.pair.seqIn } }

/-- A frame that passes every check is taken. -/
theorem takeSiphon_good {k : Nat} {f : SiphonFrame} {s : State} (hpair : s.pair.inPair = true) (hrun : s.sw.running = true)
    (hkind : f.kind.toNat = k) (hfault : s.frameFault f = 0) :
    takeSiphon k f s = (tookFrame k f s, true, false) := by
  unfold takeSiphon
  rw [if_neg (by rw [hpair, hrun, hkind]; simp)]
  dsimp only
  rw [if_pos hfault, tookFrame]

/-- A frame that fails a check is discarded. -/
theorem takeSiphon_wrong {k : Nat} {f : SiphonFrame} {s : State} (hpair : s.pair.inPair = true) (hrun : s.sw.running = true)
    (hkind : f.kind.toNat = k) (hfault : s.frameFault f ≠ 0) :
    takeSiphon k f s = (rejectFrame f.kind.toNat (s.frameFault f) s, false, true) := by
  unfold takeSiphon
  rw [if_neg (by rw [hpair, hrun, hkind]; simp)]
  dsimp only
  rw [if_neg hfault]

/-- A discarded frame is counted; its kind's SEQ starts again. -/
theorem rejectFrame_pair (kind check : Nat) (s : State) :
    ∃ x, (rejectFrame kind check s).pair =
      { s.pair with rejected := satAdd 32 s.pair.rejected 1, seqIn := modAt kind (fun _ => none) s.pair.seqIn, rejectRaised := x } := by
  unfold rejectFrame
  dsimp only
  split
  · exact ⟨s.pair.rejectRaised, rfl⟩
  · rw [raise_pair]
    exact ⟨_, rfl⟩

/-! ### The pair state (R340) -/

/-- A shadow that ends leaves the rest of the pair (R360). -/
theorem leaveShadow_pair (s : State) :
    ∃ x y, (leaveShadow s).pair = { s.pair with exchangeStep := x, shadowSince := y } := by
  have hsame : ∃ x y, s.pair = { s.pair with exchangeStep := x, shadowSince := y } := ⟨s.pair.exchangeStep, s.pair.shadowSince, rfl⟩
  unfold leaveShadow
  split
  · extract_lets w0 s1 s2 c0
    have hs2 : s2.pair = { s.pair with exchangeStep := 0, shadowSince := none } := by
      unfold s2 s1
      rw [State.modLanes_pair, raise_pair]
    split
    next old _ =>
      refine ⟨0, none, Eq.trans ?_ hs2⟩
      refine ((only_takeDigest (m0 := [.ctl]) rfl _ (Only.refl _ _)).pair rfl).trans ?_
      refine ((only_applyBindings (m0 := [.tel, .records]) rfl _ _ (Only.refl _ _)).pair rfl).trans ?_
      exact (only_installImage (m0 := [.ctl, .lanes, .cis, .fab, .records]) rfl _ _ (Only.refl _ _)).pair rfl
    · exact ⟨0, none, hs2⟩
  · exact hsame

/-- What JOINING leaves of the pair (R340, R341). -/
theorem toJoining_pair (trigger : Nat) (s : State) :
    ∃ x y z w, (toJoining trigger s).pair = { s.pair with
      state := .joining, standbySince := x, exchangeStep := y, shadowSince := z, seqOut := w
      level := false, resync := none, ownDigest := none, partnerDigest := none, findingAt := none, handover := none, delta := [] } := by
  obtain ⟨y, z, hshadow⟩ := leaveShadow_pair s
  obtain ⟨x, hset⟩ := setPair_pair .joining trigger (leaveShadow s)
  unfold toJoining
  dsimp only
  have hdrop : (dropAll (setPair .joining trigger (leaveShadow s))).pair = (setPair .joining trigger (leaveShadow s)).pair :=
    (only_dropAll (m0 := [.lanes, .rek]) rfl _ (Only.refl _ _)).pair rfl
  generalize dropAll (setPair .joining trigger (leaveShadow s)) = u at hdrop ⊢
  refine ⟨x, y, z, modAt 6 (· + 1) u.pair.seqOut, ?_⟩
  rw [hset, hshadow] at hdrop
  exact congrArg (fun p : Pair => { p with
    seqOut := modAt 6 (· + 1) u.pair.seqOut, level := false, resync := none, ownDigest := none, partnerDigest := none
    findingAt := none, handover := none, delta := [] }) hdrop

/-! ### What is kept of the last heartbeat -/

/-- Two states whose pairs keep the time of the last heartbeat and the highest EPOCH. -/
def SameHeard (s t : State) : Prop := t.pair.heartAt = s.pair.heartAt ∧ t.pair.epoch = s.pair.epoch

theorem SameHeard.trans {s t u : State} (h : SameHeard s t) (k : SameHeard t u) : SameHeard s u := ⟨k.1.trans h.1, k.2.trans h.2⟩

theorem SameHeard.of_pair {s t : State} (h : t.pair = s.pair) : SameHeard s t := by
  unfold SameHeard
  rw [h]
  exact ⟨rfl, rfl⟩

theorem setPair_sameHeard (new : PState) (trigger : Nat) (s : State) : SameHeard s (setPair new trigger s) := by
  obtain ⟨x, h⟩ := setPair_pair new trigger s
  unfold SameHeard
  rw [h]
  exact ⟨rfl, rfl⟩

theorem driveOn_sameHeard (s : State) : SameHeard s (driveOn s) := by
  unfold SameHeard
  rw [(driveOn_fields s).1]
  exact ⟨rfl, rfl⟩

theorem toJoining_sameHeard (trigger : Nat) (s : State) : SameHeard s (toJoining trigger s) := by
  obtain ⟨x, y, z, w, h⟩ := toJoining_pair trigger s
  unfold SameHeard
  rw [h]
  exact ⟨rfl, rfl⟩

theorem pairRefused_sameHeard (r : Nat) (s : State) : SameHeard s (pairRefused r s) := by
  unfold pairRefused
  dsimp only
  refine SameHeard.trans ?_ (setPair_sameHeard _ _ _)
  unfold SameHeard
  rw [raiseIf_pair, raise_pair]
  exact ⟨rfl, rfl⟩

theorem settleRole_sameHeard (p : PartnerId) (s : State) : SameHeard s (settleRole p s) := by
  unfold settleRole
  split
  · unfold SameHeard
    dsimp only
    rw [raise_pair]
    exact ⟨rfl, rfl⟩
  · exact ⟨rfl, rfl⟩

theorem negotiate_sameHeard (partner : Option PartnerId) (s : State) : SameHeard s (negotiate partner s) := by
  unfold negotiate
  split
  · dsimp only
    split
    · exact SameHeard.trans ⟨rfl, rfl⟩ (driveOn_sameHeard _)
    · exact ⟨rfl, rfl⟩
  next p =>
    extract_lets r w s1 s2
    have hs1 : SameHeard s s1 := ⟨rfl, rfl⟩
    have hs2 : SameHeard s s2 := by
      unfold s2
      split
      · exact hs1
      · exact hs1.trans (settleRole_sameHeard p s1)
    split
    · exact hs1.trans (pairRefused_sameHeard r s1)
    · split
      · split
        · refine SameHeard.trans ?_ (driveOn_sameHeard _)
          exact SameHeard.trans hs2 (SameHeard.trans ⟨rfl, rfl⟩ (setPair_sameHeard _ _ _))
        · split
          · exact hs2
          · exact hs2
      · exact hs2.trans (SameHeard.trans ⟨rfl, rfl⟩ (toJoining_sameHeard _ _))

theorem dualLease_sameHeard (was : Option Beat) (b : Beat) (s : State) : SameHeard s (dualLease was b s) := by
  unfold dualLease
  split
  · dsimp only
    have hraise : SameHeard s (raiseIf (!(was.any (·.flags.getLsbD 1))) evDualLease [] s) := SameHeard.of_pair (raiseIf_pair _ _ _ _)
    split
    · exact hraise.trans ⟨rfl, rfl⟩
    · exact hraise
  · exact ⟨rfl, rfl⟩

theorem endorse_sameHeard (b : Beat) (s : State) : SameHeard s (endorse b s) := by
  unfold endorse
  extract_lets e w s1
  have hs1 : SameHeard s s1 := ⟨rfl, rfl⟩
  split
  · split
    · exact hs1.trans (negotiate_sameHeard _ _)
    · split
      · exact hs1.trans (driveOn_sameHeard _)
      · exact hs1
  · exact hs1

theorem aliveBeat_sameHeard (was : Option Beat) (b : Beat) (s : State) : SameHeard s (aliveBeat was b s) := by
  unfold aliveBeat
  extract_lets long s1
  have hs1 : SameHeard s s1 := by
    unfold s1
    split
    · exact setPair_sameHeard _ _ _
    · exact ⟨rfl, rfl⟩
  exact (hs1.trans (dualLease_sameHeard was b s1)).trans (endorse_sameHeard b _)

end Sys2Proof.Machine
end


section
/-! What is heard of the partner (O51: R346, R347, R349, R351 to R353). -/

namespace Sys2Proof.Machine

/-! ### A lost partner (R353, R354) -/

theorem enterMode_pair (new : Mode) (trigger : Nat) (s : State) : (enterMode new trigger s).pair = s.pair :=
  (only_enterMode (m0 := [.mode, .ctl, .fab, .records]) rfl new trigger s (Only.refl _ s)).pair rfl

theorem deliver_pair (img : Image) (s : State) : (deliver img s).pair = s.pair :=
  (only_deliver (m0 := [.ctl, .lanes, .rek]) rfl img s (Only.refl _ s)).pair rfl

/-- What the loss of the partner leaves, by the pair state it is found in. -/
def LostPartner (s t : State) : Prop :=
  t.pair.epoch = s.pair.epoch ∧
  (s.pair.state = .standby → t.pair.state = .standby ∧ t.pair.findingAt = some s.time.now ∧ t.pair.requestAt = some s.time.now) ∧
  (s.pair.state = .active → t.pair.state = .alone) ∧ (s.pair.state = .alone → t.pair.state = .alone) ∧
  (s.pair.state = .out → t.pair.state = .out) ∧
  (s.pair.state = .joining → t.pair.state = .alone ∧ t.pair.level = false ∧ (s.ctl.mode = .standby → t.ctl.mode = .stop))

/-- A module that has raised PARTNER-LOST, before what its state asks for. -/
def goneStart (cause : Nat) (s : State) : State :=
  let s0 := if cause = 0 then { s with pair := { s.pair with heartAt := none, partner := none } } else s
  raise evPartnerLost [BitVec.ofNat 8 cause] { s0 with pair := { s0.pair with heartSince := none, endorsed := false } }

theorem goneStart_fields (cause : Nat) (s : State) :
    (∃ x, (goneStart cause s).pair = { s.pair with heartAt := (goneStart cause s).pair.heartAt, partner := x, heartSince := none, endorsed := false }) ∧
    (cause = 0 → (goneStart cause s).pair.heartAt = none) ∧ (goneStart cause s).time = s.time ∧ (goneStart cause s).ctl = s.ctl := by
  unfold goneStart
  dsimp only
  rw [raise_pair, raise_time, raise_ctl]
  split
  next h => exact ⟨⟨_, rfl⟩, fun _ => rfl, rfl, rfl⟩
  next h => exact ⟨⟨_, rfl⟩, fun h' => absurd h' h, rfl, rfl⟩

/-- A STANDBY that finds its partner lost asks for the lease, and may still take its own image (R353, R354). -/
theorem partnerGone_standby {cause : Nat} {s : State} (h : s.pair.state = .standby) :
    (partnerGone cause s).pair = { (goneStart cause s).pair with
      findingAt := some s.time.now, handover := none, requestAt := some (goneStart cause s).time.now } := by
  have heq : partnerGone cause s =
      let s2 := sendRequestLease { goneStart cause s with
        pair := { (goneStart cause s).pair with findingAt := some s.time.now, handover := none } }
      match s2.ctl.ownImage with
      | some img => if s2.ctl.imageReady = false ∧ s2.intoCycle ≤ 60000 + lambdaNs s2.ctl.tbCode ∧ s2.ctl.mode = .standby then deliver img s2 else s2
      | none => s2 := by
    unfold partnerGone
    rw [h]
    rfl
  rw [heq]
  generalize goneStart cause s = u
  dsimp only
  split
  · split
    · exact deliver_pair _ _
    · rfl
  · rfl

theorem partnerGone_active {cause : Nat} {s : State} (h : s.pair.state = .active) :
    ∃ x, (partnerGone cause s).pair = { (goneStart cause s).pair with state := .alone, standbySince := x, handover := none, resync := none } := by
  have heq : partnerGone cause s = setPair .alone evPartnerLost.toNat { goneStart cause s with
      pair := { (goneStart cause s).pair with handover := none, resync := none } } := by
    unfold partnerGone
    rw [h]
    rfl
  rw [heq]
  exact setPair_pair _ _ _

theorem partnerGone_joining {cause : Nat} {s : State} (h : s.pair.state = .joining) :
    (∃ x, (partnerGone cause s).pair = { (goneStart cause s).pair with
      state := .alone, standbySince := x, resync := none, level := false, exchangeStep := 0 }) ∧
    ((goneStart cause s).ctl.mode = .standby → (partnerGone cause s).ctl.mode = .stop) := by
  have heq : partnerGone cause s =
      let s2 := raise evTakeoverImpossible [] (setPair .alone evPartnerLost.toNat { goneStart cause s with
        pair := { (goneStart cause s).pair with resync := none, level := false, exchangeStep := 0 }
        ctl := { (goneStart cause s).ctl with exchange := none } })
      if s2.ctl.mode = .standby then enterMode .stop evTakeoverImpossible.toNat s2 else s2 := by
    unfold partnerGone
    rw [h]
    rfl
  rw [heq]
  generalize goneStart cause s = u
  dsimp only
  generalize hv : ({ u with pair := _, ctl := _ } : State) = v
  have hpair : v.pair = { u.pair with resync := none, level := false, exchangeStep := 0 } := by rw [← hv]
  have hmode : v.ctl.mode = u.ctl.mode := by rw [← hv]
  obtain ⟨x, hset⟩ := setPair_pair .alone evPartnerLost.toNat v
  have hctl : (setPair .alone evPartnerLost.toNat v).ctl = v.ctl :=
    (only_setPair (m0 := [.tel, .pair, .records]) rfl _ _ _ (Only.refl _ v)).ctl rfl rfl
  split
  next _ =>
    refine ⟨⟨x, ?_⟩, fun _ => enterMode_mode _ _ _⟩
    rw [enterMode_pair, raise_pair, hset, hpair]
  next hnot =>
    refine ⟨⟨x, ?_⟩, fun hst => absurd ?_ hnot⟩
    · rw [raise_pair, hset, hpair]
    · rw [raise_ctl, hctl, hmode]
      exact hst

theorem partnerGone_still {cause : Nat} {s : State} (h : s.pair.state = .alone ∨ s.pair.state = .out) :
    partnerGone cause s = goneStart cause s := by
  unfold partnerGone
  rcases h with h | h <;>
  · rw [h]
    rfl

theorem partnerGone_lost (cause : Nat) (s : State) :
    LostPartner s (partnerGone cause s) ∧ (cause = 0 → (partnerGone cause s).pair.heartAt = none) := by
  obtain ⟨⟨x, hpair⟩, hheart, htime, hctl⟩ := goneStart_fields cause s
  have hother {x y : PState} (h : s.pair.state = x) (hne : x ≠ y) {p : Prop} (h' : s.pair.state = y) : p := absurd (h.symm.trans h') hne
  unfold LostPartner
  cases h : s.pair.state with
  | standby =>
    rw [partnerGone_standby h, hpair, htime]
    exact ⟨⟨rfl, fun _ => ⟨h, rfl, rfl⟩, nofun, nofun, nofun, nofun⟩, hheart⟩
  | active =>
    obtain ⟨y, hy⟩ := partnerGone_active (cause := cause) h
    rw [hy, hpair]
    exact ⟨⟨rfl, nofun, fun _ => rfl, nofun, nofun, nofun⟩, hheart⟩
  | joining =>
    obtain ⟨⟨y, hy⟩, hmode⟩ := partnerGone_joining (cause := cause) h
    rw [hy, hpair]
    rw [hctl] at hmode
    exact ⟨⟨rfl, nofun, nofun, nofun, nofun, fun _ => ⟨rfl, rfl, hmode⟩⟩, hheart⟩
  | alone =>
    rw [partnerGone_still (.inl h), hpair]
    exact ⟨⟨rfl, nofun, nofun, fun _ => h, nofun, nofun⟩, hheart⟩
  | out =>
    rw [partnerGone_still (.inr h), hpair]
    exact ⟨⟨rfl, nofun, nofun, nofun, fun _ => h, nofun⟩, hheart⟩

/-! ### Frames of the partner -/

/-- Bit 0 of a heartbeat's flags is RELEASE (R346, R353). -/
theorem releaseBit (p : Bytes) : (BitVec.ofNat 8 (beAt p 2 1)).getLsbD 0 = p[2]?.any (fun b => b.getLsbD 0) := by
  match p with
  | [] => rfl
  | [_] => simp [beAt, beNat, slice, leNat]
  | [_, _] => simp [beAt, beNat, slice, leNat]
  | _ :: _ :: b :: _ => simp [beAt, beNat, slice, leNat]

/-- What a heartbeat says (R346). -/
def frameBeat (f : SiphonFrame) : Beat :=
  { state := beAt f.payload 0 1, flags := BitVec.ofNat 8 (beAt f.payload 2 1), epoch := BitVec.ofNat 32 (beAt f.payload 4 4)
    pour := beAt f.payload 8 4, image := f.cycle.toNat }

/-- A module that has taken a heartbeat. -/
def heardBeat (f : SiphonFrame) (s : State) : State :=
  { s with pair := { s.pair with
    seqIn := modAt 1 (fun _ => some f.seq) s.pair.seqIn, heartAt := some s.time.now
    heartSince := some (s.pair.heartSince.getD s.time.now), partner := some (frameBeat f)
    epoch := if s.pair.epoch < (frameBeat f).epoch then (frameBeat f).epoch else s.pair.epoch } }

theorem heardBeat_epoch (f : SiphonFrame) (s : State) : s.pair.epoch ≤ (heardBeat f s).pair.epoch := by
  unfold heardBeat
  dsimp only
  split
  next h => exact BitVec.le_of_lt h
  · exact BitVec.le_refl _

/-- A heartbeat that is taken is kept; its RELEASE bit loses the partner (R346, R353). -/
theorem siphonHeartbeat_next {n : Nat} {f : SiphonFrame} {s : State} (hin : s.pair.inPair = true) (hrun : s.sw.running = true)
    (hkind : f.kind.toNat = 1) (hfault : (s.atTime n).frameFault f = 0) :
    exec (.siphonHeartbeat n f) s = .next (
      if f.payload[2]?.any (fun b => b.getLsbD 0) = true then partnerGone 1 (heardBeat f (s.atTime n))
      else aliveBeat s.pair.partner (frameBeat f) (heardBeat f (s.atTime n))) := by
  rw [exec_siphonHeartbeat, execSiphonHeartbeat, takeSiphon_good (s := s.atTime n) hin hrun hkind hfault]
  dsimp only
  rw [if_pos rfl, releaseBit]
  rfl

/-- The first frame of a delta starts it, and the last one has it compared (R351). -/
theorem siphonDelta_next {n : Nat} {f : SiphonFrame} {s : State} (hin : s.pair.inPair = true) (hrun : s.sw.running = true)
    (hkind : f.kind.toNat = 3) (hfault : (s.atTime n).frameFault f = 0) (hoffset : f.offset = 0) :
    ∃ x, exec (.siphonDelta n f) s = .next (
      let q1 := { s.atTime n with pair := { s.pair with seqIn := x, delta := f.payload } }
      if f.flags.getLsbD 0 = true then takeDelta f.cycle.toNat q1 else q1) := by
  refine ⟨modAt 3 (fun _ => some f.seq) s.pair.seqIn, ?_⟩
  rw [exec_siphonDelta, execSiphonDelta, takeSiphon_good (s := s.atTime n) hin hrun hkind hfault]
  dsimp only
  rw [if_pos rfl, if_neg (fun h => h.2 hoffset), if_pos hoffset]
  rfl

/-- A STANDBY compares the records of a clean delta with its own pour (R351). -/
theorem takeDelta_clean {n : Nat} {s : State} {ps : List Poured} (hread : readDelta s.pair.delta.length s.pair.delta = some ps)
    (hclean : ps.all Poured.clean = true) (hstate : s.pair.state = .standby) (hshadow : s.pair.shadowSince = none) (hpour : s.cis.lastPour = n) :
    takeDelta n s =
      let s0 := { s with pair := { s.pair with delta := [] } }
      match s.deltaDiffers ps with
      | some k => deltaMismatch (some k) s0
      | none => { s0 with pair := { s0.pair with deltaDone := some n } } := by
  unfold takeDelta
  dsimp only
  rw [hread]
  dsimp only
  rw [hclean, if_neg (by decide), if_pos hstate, hshadow, if_neg (by decide), if_pos hpour]
  rfl

theorem takeDelta_dirty {n : Nat} {s : State} {ps : List Poured} (hread : readDelta s.pair.delta.length s.pair.delta = some ps)
    (hdirty : ps.all Poured.clean = false) : takeDelta n s = rejectFrame 3 6 { s with pair := { s.pair with delta := [] } } := by
  unfold takeDelta
  dsimp only
  rw [hread]
  dsimp only
  rw [hdirty, if_pos (by decide)]

theorem deltaMismatch_state (w : Option (Fin 4 × Fin 16 × Option Lane × Tally)) (s : State) : (deltaMismatch w s).pair.state = .joining := by
  unfold deltaMismatch
  dsimp only
  obtain ⟨x, y, z, w, h⟩ := toJoining_pair evDeltaMismatch.toNat (raise evDeltaMismatch _ s)
  rw [h]

/-- A part of the forwarded image joins it (R349). -/
theorem takeImage_part {f : SiphonFrame} {s : State} (hcycle : f.cycle.toNat = s.cycleNow) (hoffset : f.offset = s.pair.fwdImage.length)
    (hlast : f.flags.getLsbD 0 = false) (hshort : s.pair.fwdImage.length < 1024 * imageKib s.ctl.tbCode) :
    takeImage f s = { s with pair := { s.pair with fwdImage := s.pair.fwdImage ++ f.payload } } := by
  unfold takeImage
  simp only [hcycle, ne_eq, not_true_eq_false, if_false, decide_eq_true hshort, if_true, hoffset, hlast, Bool.false_and, Bool.false_eq_true]

/-- The last part of the seal context completes the forwarded image (R349). -/
theorem takeImage_end {f : SiphonFrame} {s : State} (hcycle : f.cycle.toNat = s.cycleNow) (hoffset : f.offset = s.pair.fwdCtx.length)
    (hlast : f.flags.getLsbD 0 = true) (hfull : 1024 * imageKib s.ctl.tbCode ≤ s.pair.fwdImage.length) :
    takeImage f s = forwardComplete { s with pair := { s.pair with fwdCtx := s.pair.fwdCtx ++ f.payload } } := by
  unfold takeImage
  simp only [hcycle, ne_eq, not_true_eq_false, if_false, decide_eq_false (Nat.not_lt.mpr hfull), hoffset, hlast, if_true, Bool.false_eq_true]

theorem deliver_sealed (img : Image) (s : State) : (deliver img s).ctl.sealed = some img := by
  unfold deliver
  extract_lets hold lost s1 c0 s2
  have hs2 : s2.ctl.sealed = some img := rfl
  split
  · exact hs2
  · exact (congrArg Ctl.sealed ((only_openVotes (m0 := [.rek]) rfl img.cycle s2 (Only.refl _ s2)).ctl rfl rfl)).trans hs2

/-- A whole forwarded image is there for a takeover, and in time for the lanes of a STANDBY it is theirs (R349). -/
theorem forwardComplete_fields {s : State} (hcrc : leAt s.pair.fwdImage 0 4 = (crc32c (s.pair.fwdImage.drop 4)).toNat)
    (hctx : (readCtx (s.pair.fwdCtx.take 2064)).crcOk = true) :
    (forwardComplete s).pair.fwdReady = some s.cycleNow ∧
    (s.pair.state = .standby → s.ctl.mode = .standby → s.ctl.imageReady = false → s.intoCycle ≤ 60000 + lambdaNs s.ctl.tbCode →
      (forwardComplete s).ctl.sealed = some { cycle := s.cycleNow, bytes := s.pair.fwdImage, ctx := readCtx (s.pair.fwdCtx.take 2064) }) := by
  unfold forwardComplete
  dsimp only
  rw [if_pos ⟨hcrc, hctx⟩]
  constructor
  · split
    · rw [deliver_pair]
    · rfl
  · intro hstate hmode hready htime
    rw [if_pos ⟨hstate, hmode, hready, htime⟩, deliver_sealed]
    rfl

/-- A STANDBY that missed a mirrored change joins again (R352). -/
theorem mirrorLost_standby {s : State} (h : s.pair.state = .standby) : (mirrorLost s).pair.state = .joining := by
  unfold mirrorLost
  rw [if_pos h]
  obtain ⟨x, y, z, w, hj⟩ := toJoining_pair 0 s
  rw [hj]

/-- A mirrored change leaves the pair and takes its place for its boundary (R352). -/
theorem applyMirror_fields (m : MirrorMsg) (s : State) :
    (applyMirror m s).pair = s.pair ∧
    (∀ e v b level client, m = .hostWrite e v b level client →
      (applyMirror m s).cis.orders = s.cis.orders ++ [{ entry := e, value := v, boundary := b, via := none, level, client }]) ∧
    (∀ es b, m = .changeSet es b → (applyMirror m s).ctl.change.pending = es.map (fun e => (e.1.toNat, e.2)) ∧
      (applyMirror m s).ctl.change.effective = b) := by
  refine ⟨(only_applyMirror (m0 := [.ctl, .lanes, .cis]) rfl m s (Only.refl _ s)).pair rfl, ?_, ?_⟩
  · rintro e v b level client rfl
    rfl
  · rintro es b rfl
    unfold applyMirror deliverSet
    dsimp only
    split
    · rw [State.modLanes_ctl]
      exact ⟨rfl, rfl⟩
    · exact ⟨rfl, rfl⟩

/-- Settles O51: the heartbeats, the loss of the partner, images, deltas and mirrored changes. -/
theorem pairPartner : Obligations.PairPartner := by
  intro n f s
  dsimp only
  have hlostOf (q1 : State) (cause : Nat) (hstate : q1.pair.state = s.pair.state) (hnow : q1.time.now = (s.atTime n).time.now) (hctl : q1.ctl = s.ctl) :
      (s.pair.state = .standby → (partnerGone cause q1).pair.state = .standby ∧ (partnerGone cause q1).pair.findingAt = some (s.atTime n).time.now ∧
        (partnerGone cause q1).pair.requestAt = some (s.atTime n).time.now) ∧
      (s.pair.state = .active → (partnerGone cause q1).pair.state = .alone) ∧ (s.pair.state = .alone → (partnerGone cause q1).pair.state = .alone) ∧
      (s.pair.state = .out → (partnerGone cause q1).pair.state = .out) ∧
      (s.pair.state = .joining → (partnerGone cause q1).pair.state = .alone ∧ (partnerGone cause q1).pair.level = false ∧
        (s.ctl.mode = .standby → (partnerGone cause q1).ctl.mode = .stop)) := by
    obtain ⟨⟨-, h⟩, -⟩ := partnerGone_lost cause q1
    rwa [hstate, hnow, hctl] at h
  have hreject (check : Nat) : ∃ x, (rejectFrame f.kind.toNat check (s.atTime n)).pair =
      { s.pair with rejected := satAdd 32 s.pair.rejected 1, seqIn := modAt f.kind.toNat (fun _ => none) s.pair.seqIn, rejectRaised := x } :=
    rejectFrame_pair _ _ _
  refine ⟨fun hthere htime => ?beats, fun hgood => ⟨fun halive => ?alive, fun hrelease => ?released⟩, fun h hheart hin hsilent => ?silent,
    fun hwrong => ?badBeat, fun hwrong => ?badImage, fun hwrong => ?badDelta,
    fun hgood hcycle => ⟨fun hoffset hlast hshort => ?imagePart, fun hoffset hlast hfull hcrc hctx => ?imageEnd⟩,
    fun hin hstate hmode hready hlate => ?forwardLate,
    fun hgood hoffset => ⟨fun hlast => ?deltaPart, fun hlast hstate hshadow hpour => ⟨fun ps hread hclean => ⟨fun hsame => ?deltaSame, fun hdiffer => ?deltaDiffers⟩,
      fun ps hread hdirty => ?deltaDirty⟩⟩,
    fun hin hheard hfound hpoured hdue hfirst hnext hstate hshadow => ⟨fun hnot hempty => ?deltaMissing, fun hdone => ?deltaDone⟩,
    fun m hgood hstate => ⟨fun htime => ?mirrors, fun hlate => ?mirrorLate⟩, fun m hwrong hstate => ?mirrorWrong⟩
  case beats =>
    rw [exec_heartbeatSend, execHeartbeatSend]
    refine gives_next ?_
    have hif : ((s.atTime n).pair.inPair && (s.atTime n).sw.running) = true := Bool.and_eq_true_iff.mpr hthere
    rw [if_pos ⟨hif, htime⟩]
    exact ⟨rfl, _, rfl, rfl, rfl, rfl⟩
  case alive =>
    obtain ⟨⟨hin, hrun⟩, hkind, hfault⟩ := hgood
    have hbit : f.payload[2]?.any (fun b => b.getLsbD 0) = false := by
      cases hp : f.payload[2]? with
      | none => rfl
      | some b =>
        rw [hp] at halive
        simpa using halive
    rw [siphonHeartbeat_next hin hrun hkind hfault, hbit, if_neg (by decide)]
    obtain ⟨hheart, hepoch⟩ := aliveBeat_sameHeard s.pair.partner (frameBeat f) (heardBeat f (s.atTime n))
    exact gives_next ⟨hheart.trans rfl, hepoch ▸ heardBeat_epoch f (s.atTime n)⟩
  case released =>
    obtain ⟨⟨hin, hrun⟩, hkind, hfault⟩ := hgood
    rw [siphonHeartbeat_next hin hrun hkind hfault, if_pos hrelease]
    exact gives_next ⟨hlostOf (heardBeat f (s.atTime n)) 1 rfl rfl rfl,
      (partnerGone_lost 1 (heardBeat f (s.atTime n))).1.1 ▸ heardBeat_epoch f (s.atTime n)⟩
  case silent =>
    rw [exec_partnerLost, execPartnerLost]
    refine gives_next ?_
    have hheart' : (s.atTime n).pair.heartAt = some h := hheart
    rw [hheart']
    dsimp only
    rw [if_pos ⟨hin, hsilent⟩]
    exact ⟨hlostOf (s.atTime n) 0 rfl rfl rfl, (partnerGone_lost 0 (s.atTime n)).2 rfl⟩
  case badBeat =>
    obtain ⟨⟨hin, hrun⟩, hkind, hfault⟩ := hwrong
    obtain ⟨x, hx⟩ := hreject ((s.atTime n).frameFault f)
    rw [exec_siphonHeartbeat, execSiphonHeartbeat, takeSiphon_wrong (s := s.atTime n) hin hrun hkind hfault]
    refine gives_next ?_
    dsimp only
    rw [if_neg (by decide), hx]
    exact ⟨rfl, rfl⟩
  case badImage =>
    obtain ⟨⟨hin, hrun⟩, hkind, hfault⟩ := hwrong
    obtain ⟨x, hx⟩ := hreject ((s.atTime n).frameFault f)
    rw [exec_siphonImage, execSiphonImage, takeSiphon_wrong (s := s.atTime n) hin hrun hkind hfault]
    refine gives_next ?_
    dsimp only
    rw [if_neg (by decide), if_pos rfl, hx]
    exact ⟨rfl, rfl, rfl⟩
  case badDelta =>
    obtain ⟨⟨hin, hrun⟩, hkind, hfault⟩ := hwrong
    obtain ⟨x, hx⟩ := hreject ((s.atTime n).frameFault f)
    rw [exec_siphonDelta, execSiphonDelta, takeSiphon_wrong (s := s.atTime n) hin hrun hkind hfault]
    refine gives_next ?_
    dsimp only
    rw [if_neg (by decide), if_pos rfl, hx]
    exact ⟨rfl, rfl⟩
  case imagePart =>
    obtain ⟨⟨hin, hrun⟩, hkind, hfault⟩ := hgood
    rw [exec_siphonImage, execSiphonImage, takeSiphon_good (s := s.atTime n) hin hrun hkind hfault]
    refine gives_next ?_
    dsimp only
    rw [if_pos rfl, takeImage_part (s := tookFrame 2 f (s.atTime n)) hcycle hoffset hlast hshort]
    exact ⟨rfl, rfl⟩
  case imageEnd =>
    obtain ⟨⟨hin, hrun⟩, hkind, hfault⟩ := hgood
    rw [exec_siphonImage, execSiphonImage, takeSiphon_good (s := s.atTime n) hin hrun hkind hfault]
    refine gives_next ?_
    dsimp only
    rw [if_pos rfl, takeImage_end (s := tookFrame 2 f (s.atTime n)) hcycle hoffset hlast hfull]
    obtain ⟨hready, hsealed⟩ := forwardComplete_fields
      (s := { tookFrame 2 f (s.atTime n) with pair := { (tookFrame 2 f (s.atTime n)).pair with fwdCtx := s.pair.fwdCtx ++ f.payload } }) hcrc hctx
    exact ⟨hready, hsealed⟩
  case forwardLate =>
    rw [exec_forwardImageLate, execForwardImageLate]
    refine gives_next ?_
    rw [if_pos ⟨hin, hstate, hmode, hready, hlate⟩]
    obtain ⟨x, y, z, w, h⟩ := toJoining_pair evImageForwardLate.toNat (raise evImageForwardLate [] (s.atTime n))
    rw [h]
    exact ⟨rfl, rfl⟩
  case deltaPart =>
    obtain ⟨⟨hin, hrun⟩, hkind, hfault⟩ := hgood
    obtain ⟨x, hexec⟩ := siphonDelta_next hin hrun hkind hfault hoffset
    rw [hexec, hlast]
    exact gives_next rfl
  case deltaSame =>
    obtain ⟨⟨hin, hrun⟩, hkind, hfault⟩ := hgood
    obtain ⟨x, hexec⟩ := siphonDelta_next hin hrun hkind hfault hoffset
    rw [hexec, hlast]
    dsimp only
    rw [if_pos rfl, takeDelta_clean (s := { s.atTime n with pair := { s.pair with seqIn := x, delta := f.payload } }) hread hclean hstate hshadow hpour]
    refine gives_next ?_
    have hsame' : State.deltaDiffers { s.atTime n with pair := { s.pair with seqIn := x, delta := f.payload } } ps = none := hsame
    rw [hsame']
    exact ⟨hstate, rfl⟩
  case deltaDiffers =>
    obtain ⟨⟨hin, hrun⟩, hkind, hfault⟩ := hgood
    obtain ⟨x, hexec⟩ := siphonDelta_next hin hrun hkind hfault hoffset
    obtain ⟨k, hk⟩ := Option.ne_none_iff_exists'.mp hdiffer
    rw [hexec, hlast]
    dsimp only
    rw [if_pos rfl, takeDelta_clean (s := { s.atTime n with pair := { s.pair with seqIn := x, delta := f.payload } }) hread hclean hstate hshadow hpour]
    refine gives_next ?_
    have hk' : State.deltaDiffers { s.atTime n with pair := { s.pair with seqIn := x, delta := f.payload } } ps = some k := hk
    rw [hk']
    exact deltaMismatch_state _ _
  case deltaDirty =>
    obtain ⟨⟨hin, hrun⟩, hkind, hfault⟩ := hgood
    obtain ⟨x, hexec⟩ := siphonDelta_next hin hrun hkind hfault hoffset
    rw [hexec, hlast]
    dsimp only
    rw [if_pos rfl, takeDelta_dirty (s := { s.atTime n with pair := { s.pair with seqIn := x, delta := f.payload } }) hread hdirty]
    refine gives_next ?_
    generalize hu : ({ s.atTime n with pair := _ } : State) = u
    obtain ⟨y, hy⟩ := rejectFrame_pair 3 6 u
    rw [hy, ← hu]
    exact ⟨rfl, rfl, hstate⟩
  case deltaMissing =>
    rw [exec_deltaDeadline, execDeltaDeadline]
    refine gives_next ?_
    have hfound' : s.pair.findingAt.isNone = true := by rw [hfound]; rfl
    have hskip : ((s.atTime n).pair.delta.isEmpty || decide ((s.atTime n).pair.deltaDone = some (s.atTime n).cis.lastPour)) = true := by
      rw [show (s.atTime n).pair.delta = [] from hempty]
      rfl
    have hnot' : ¬ (s.atTime n).pair.deltaDone = some (s.atTime n).cis.lastPour := hnot
    have hshadow' : (s.atTime n).pair.shadowSince.isNone = true := by rw [show (s.atTime n).pair.shadowSince = none from hshadow]; rfl
    rw [if_pos ⟨hin, hheard, hfound', hpoured, hdue, hfirst, hnext⟩]
    dsimp only
    rw [hskip, if_pos rfl, if_neg hnot', if_pos ⟨hstate, hshadow'⟩]
    exact deltaMismatch_state _ _
  case deltaDone =>
    rw [exec_deltaDeadline, execDeltaDeadline]
    refine gives_next ?_
    have hfound' : s.pair.findingAt.isNone = true := by rw [hfound]; rfl
    have hdone' : (s.atTime n).pair.deltaDone = some (s.atTime n).cis.lastPour := hdone
    rw [if_pos ⟨hin, hheard, hfound', hpoured, hdue, hfirst, hnext⟩]
    dsimp only
    rw [decide_eq_true hdone', Bool.or_true, if_pos rfl, if_pos hdone']
    rfl
  case mirrors =>
    obtain ⟨⟨hin, hrun⟩, hkind, hfault⟩ := hgood
    rw [exec_siphonState, execSiphonState, takeSiphon_good (s := s.atTime n) hin hrun hkind hfault]
    refine gives_next ?_
    dsimp only
    have htime' : ¬ mirrorBoundary m ≤ (tookFrame 4 f (s.atTime n)).cycleNow := Nat.not_le.mpr htime
    have hstate' : (tookFrame 4 f (s.atTime n)).pair.state = .standby ∨ (tookFrame 4 f (s.atTime n)).pair.state = .joining := .inl hstate
    rw [if_pos rfl, if_neg htime', if_pos hstate']
    obtain ⟨hpair, horders, hchange⟩ := applyMirror_fields m (tookFrame 4 f (s.atTime n))
    exact ⟨(congrArg Pair.state hpair).trans hstate, horders, hchange⟩
  case mirrorLate =>
    obtain ⟨⟨hin, hrun⟩, hkind, hfault⟩ := hgood
    rw [exec_siphonState, execSiphonState, takeSiphon_good (s := s.atTime n) hin hrun hkind hfault]
    refine gives_next ?_
    dsimp only
    have hlate' : mirrorBoundary m ≤ (tookFrame 4 f (s.atTime n)).cycleNow := hlate
    rw [if_pos rfl, if_pos hlate']
    exact mirrorLost_standby hstate
  case mirrorWrong =>
    obtain ⟨⟨hin, hrun⟩, hkind, hfault⟩ := hwrong
    obtain ⟨x, hx⟩ := hreject ((s.atTime n).frameFault f)
    rw [exec_siphonState, execSiphonState, takeSiphon_wrong (s := s.atTime n) hin hrun hkind hfault]
    refine gives_next ?_
    dsimp only
    rw [if_neg (by decide), if_pos rfl]
    exact mirrorLost_standby ((congrArg Pair.state hx).trans hstate)

end Sys2Proof.Machine
end


section
/-! The frames of an answer (R383, R386, R390), and a write that waits for its boundary (R381). -/

namespace Sys2Proof.Machine

theorem keepAnswer_sent (via : Via) (st : BitVec 16) (data : Bytes) (s : State) : (keepAnswer via st data s).sent = s.sent := by
  cases via <;> rfl

/-- An answer sends its parts. -/
theorem respond_sent (via : Via) (st : BitVec 16) (data : Bytes) (s : State) :
    (respond via st data s).sent = s.sent ++ (answerParts data.length data).map (answerMsg via st) := by
  rw [respond, keepAnswer_sent]
  rfl

/-- Data of at most 1,400 bytes goes out in one frame. -/
theorem answerParts_of_short {data : Bytes} (n : Nat) (h : data.length ≤ 1400) : answerParts n data = [data] := by
  cases n with
  | zero => rfl
  | succ n => exact if_pos h

theorem respond_sent_short {data : Bytes} (via : Via) (st : BitVec 16) (s : State) (h : data.length ≤ 1400) :
    (respond via st data s).sent = s.sent ++ [answerMsg via st data] := by
  rw [respond_sent, answerParts_of_short _ h]
  rfl

/-- A status without data is one frame. -/
theorem respond_sent_nil (via : Via) (st : BitVec 16) (s : State) : (respond via st [] s).sent = s.sent ++ [answerMsg via st []] :=
  respond_sent_short via st s (Nat.zero_le _)

end Sys2Proof.Machine
end


section
/-! Planned hand-overs and the commands of a pair (O52: R357, R358, R360). -/

namespace Sys2Proof.Machine

/-! ### The commands of 0x7300:0E -/

/-- A pair command that passes its checks waits for its boundary. -/
theorem opPairCommand_of_ok {c : Caller} {v : Nat} {s : State} (via : Via) (hright : s.writeFault 0x7300 0x0E c.level = stOk)
    (hlevel : v = 3 → 3 ≤ c.level) (hpair : s.pair.inPair = true) (hrange : inR 1 3 v = true) :
    opPairCommand c via v true s = queueWrite 0x7300 0x0E (leBytes 1 v) via c s := by
  have hauth : ¬ (v = 3 ∧ c.level < 3) := fun h => absurd (hlevel h.1) (by omega)
  unfold opPairCommand
  simp only [hright, hauth, hpair, hrange, decide_false, Bool.not_true, bad_false, firstBad_ok, firstBad_nil, if_true]

/-- EXCHANGE-ABORT without L3. -/
theorem opPairCommand_of_level {c : Caller} {s : State} (via : Via) (hright : s.writeFault 0x7300 0x0E c.level = stOk)
    (hlevel : c.level < 3) : opPairCommand c via 3 true s = respond via stAuthority [] s := by
  unfold opPairCommand
  simp only [hright, hlevel, and_self, decide_true, bad_true, firstBad_ok]
  rw [firstBad_of_ne (by decide)]
  exact if_neg (by decide)

/-- A module that is in no pair. -/
theorem opPairCommand_of_single {c : Caller} {s : State} (via : Via) (hright : s.writeFault 0x7300 0x0E c.level = stOk)
    (hpair : s.pair.inPair = false) : opPairCommand c via 1 true s = respond via stWrongState [] s := by
  unfold opPairCommand
  have hauth : ¬ ((1 : Nat) = 3 ∧ c.level < 3) := fun h => absurd h.1 (by decide)
  simp only [hright, hpair, hauth, Bool.not_false, bad_true, firstBad_ok, decide_false, bad_false]
  rw [firstBad_of_ne (by decide)]
  exact if_neg (by decide)

/-- The only write of an object that waits is judged at its boundary, leaves the queue and is answered. -/
theorem boundaryWrite_of_single {n : Nat} {index : BitVec 16} {sub : BitVec 8} {s : State} {w : PendW} (hwaiting : s.ctl.waiting = [w])
    (hkey : w.key = odKey index.toNat sub.toNat) (hdue : w.boundary ≤ (s.atTime n).cycleNow) :
    ∃ ws, execBoundaryWrite n index sub s =
      .next (respond w.via (judgeWrite index.toNat sub.toNat w { s.atTime n with ctl := { s.ctl with waiting := ws } }).1 []
        (judgeWrite index.toNat sub.toNat w { s.atTime n with ctl := { s.ctl with waiting := ws } }).2) := by
  have hfound : (s.atTime n).ctl.waiting.filter
      (fun v => v.key = odKey index.toNat sub.toNat && decide (v.boundary ≤ (s.atTime n).cycleNow)) = [w] := by
    rw [show (s.atTime n).ctl.waiting = [w] from hwaiting]
    simp [hkey, hdue]
  unfold execBoundaryWrite
  simp only [hfound, List.foldl_cons, List.foldl_nil, min_self, List.filter_cons_of_pos (p := fun v : PendW => decide (v.boundary = w.boundary)) (a := w) (l := [])
    (by simp), List.filter_nil, prevailing, List.eraseIdx_zero, List.tail_cons]
  exact ⟨_, rfl⟩

/-! ### What a hand-over leaves -/

theorem proposeHandover_handover (incoming toStop simultaneous : Bool) (s : State) :
    (proposeHandover incoming toStop simultaneous s).pair.handover =
      some { m := s.nextMacro (s.cycleNow + 4), incoming, toStop, confirmed := false, simultaneous } := rfl

/-- A hand-over that fails leaves the pair state and DRIVE. -/
theorem failHandover_pair (s : State) :
    (failHandover s).pair.handover = none ∧ (failHandover s).pair.state = s.pair.state ∧ (failHandover s).pair.drive = s.pair.drive := by
  unfold failHandover
  extract_lets w s1
  have hpair : ∀ t : State, t.pair = s1.pair → t.pair.handover = none ∧ t.pair.state = s.pair.state ∧ t.pair.drive = s.pair.drive := by
    intro t ht
    rw [ht, show s1.pair = _ from raise_pair _ _ _]
    exact ⟨rfl, rfl, rfl⟩
  split
  · exact hpair _ rfl
  · exact hpair _ rfl

theorem setDrive_pair (d : Bool) (s : State) : (setDrive d s).pair = { s.pair with drive := d } := rfl

theorem setPair_ctl (new : PState) (trigger : Nat) (s : State) : (setPair new trigger s).ctl = s.ctl :=
  (only_setPair (m0 := [.tel, .pair, .records]) rfl new trigger s (Only.refl _ s)).ctl rfl rfl

/-- Only ALONE and ACTIVE publish (R341): a module that does not publish does not begin to. -/
theorem setPair_publishing {new : PState} {trigger : Nat} {s : State} (h : s.tel.publishing = false) :
    (setPair new trigger s).tel.publishing = false := by
  unfold setPair
  dsimp only
  split
  · exact h
  · rw [raise_tel]
    simp [h]

/-- The end of a shadow changes its own part of the pair (R360). -/
theorem finishShadow_pair (s : State) : ∃ x y, (finishShadow s).pair = { s.pair with exchangeStep := x, shadowSince := y } := by
  unfold finishShadow
  split
  · extract_lets s1 w0
    have hs1 : s1.pair = s.pair := by
      refine ((only_beginTrial (m0 := [.upd, .records]) rfl _ _ (Only.refl _ _)).pair rfl).trans ?_
      exact (only_selectImageSlot (m0 := [.upd]) rfl _ _ _ (Only.refl _ _)).pair rfl
    exact ⟨0, none, congrArg (fun p : Pair => { p with exchangeStep := 0, shadowSince := none }) hs1⟩
  · exact ⟨s.pair.exchangeStep, s.pair.shadowSince, rfl⟩

theorem finishShadow_ctl (s : State) : (finishShadow s).ctl = s.ctl :=
  (only_finishShadow (m0 := [.lanes, .pair, .upd, .records]) rfl s (Only.refl _ s)).ctl rfl rfl

theorem driveOn_ctl (s : State) : (driveOn s).ctl = s.ctl :=
  (only_driveOn (m0 := [.tel, .pair, .sent]) rfl s (Only.refl _ s)).ctl rfl rfl

theorem passTrial_nmtStart_only (s : State) : Only [.fab, .upd, .records, .tel, .sent] s (passTrial (nmtStart s)) :=
  only_passTrial rfl _ (only_nmtStart rfl _ (Only.refl _ s))

/-- A module that takes over drives, in ACTIVE beside a partner that it hears, else ALONE; a STANDBY is in RUN (R354). -/
theorem activate_gives (trigger : Nat) (s : State) :
    (activate trigger s).pair.state = (if s.pair.heartAt.isSome then .active else .alone) ∧ (activate trigger s).pair.drive = true ∧
      (activate trigger s).pair.handover = s.pair.handover ∧ (s.ctl.mode = .standby → (activate trigger s).ctl.mode = .run) := by
  unfold activate
  extract_lets heard s1 s2
  obtain ⟨x, y, hshadow⟩ := finishShadow_pair s
  obtain ⟨z, hset⟩ := setPair_pair (if heard then .active else .alone) trigger (finishShadow s)
  have hs1 : s1.pair = { s.pair with
      exchangeStep := x, shadowSince := y, state := if heard then .active else .alone, standbySince := z, drive := true } := by
    unfold s1
    rw [(driveOn_fields _).1, hset, hshadow]
  have hmode1 : s1.ctl = s.ctl := by
    unfold s1
    rw [driveOn_ctl, setPair_ctl, finishShadow_ctl]
  have hs2 : s2.pair = s1.pair := by
    unfold s2
    split
    · exact enterMode_pair _ _ _
    · rfl
  have hend := passTrial_nmtStart_only s2
  rw [hend.pair rfl, hend.ctl rfl rfl, hs2, hs1]
  refine ⟨rfl, rfl, rfl, fun hmode => ?_⟩
  unfold s2
  rw [if_pos (by rw [hmode1]; exact hmode), enterMode_mode]

/-- The outgoing module at m, before it takes its new state: no DRIVE, no lease, no publishing (R357). -/
def handedOver (h : Handover) (s : State) : State :=
  raise evHandoverDone (leBytes 8 h.m) (setDrive false { s with
    pair := { s.pair with handover := none, held := false }, tel := { s.tel with publishing := false } })

theorem handedOver_pair (h : Handover) (s : State) :
    (handedOver h s).pair = { s.pair with handover := none, held := false, drive := false } := raise_pair _ _ _

theorem handedOver_publishing (h : Handover) (s : State) : (handedOver h s).tel.publishing = false := by
  rw [handedOver, raise_tel]
  rfl

/-- What the outgoing module keeps while it enters a mode and a pair state. -/
def Relieved (p : PState) (m : Mode) (step : Nat) (t : State) : Prop :=
  t.pair.drive = false ∧ t.pair.held = false ∧ t.pair.handover = none ∧ t.tel.publishing = false ∧ t.pair.state = p ∧ t.ctl.mode = m ∧
    t.pair.exchangeStep = step

/-- The outgoing module in its new mode and pair state. -/
theorem relieved_entered (p : PState) (m : Mode) (trigger : Nat) (h : Handover) (s : State) :
    Relieved p m s.pair.exchangeStep (enterMode m trigger (setPair p trigger (handedOver h s))) := by
  obtain ⟨x, hset⟩ := setPair_pair p trigger (handedOver h s)
  have hpair : (enterMode m trigger (setPair p trigger (handedOver h s))).pair =
      { s.pair with handover := none, held := false, drive := false, state := p, standbySince := x } := by
    rw [enterMode_pair, hset, handedOver_pair]
  have htel : (enterMode m trigger (setPair p trigger (handedOver h s))).tel = (setPair p trigger (handedOver h s)).tel :=
    (only_enterMode (m0 := [.mode, .ctl, .fab, .records]) rfl m trigger _ (Only.refl _ _)).tel rfl
  unfold Relieved
  rw [hpair, htel, enterMode_mode]
  exact ⟨rfl, rfl, rfl, setPair_publishing (handedOver_publishing h s), rfl, rfl, rfl⟩

theorem Relieved.of_same {p : PState} {m : Mode} {k : Nat} {s t : State} (h : Relieved p m k s) (hpair : t.pair = s.pair)
    (htel : t.tel = s.tel) (hctl : t.ctl = s.ctl) : Relieved p m k t := by
  unfold Relieved
  rw [hpair, htel, hctl]
  exact h

theorem Relieved.dropAll {p : PState} {m : Mode} {k : Nat} {s : State} (h : Relieved p m k s) : Relieved p m k (dropAll s) := by
  have hdrop := only_dropAll (m0 := [.lanes, .rek]) rfl s (Only.refl _ s)
  exact h.of_same (hdrop.pair rfl) (hdrop.tel rfl) (hdrop.ctl rfl rfl)

/-- The outgoing module at m (R123, R357, R360). -/
theorem handoverOut_gives (h : Handover) (s : State) :
    (h.toStop = true → ∃ k, Relieved .joining .stop k (handoverOut h s)) ∧
    (h.toStop = false → s.pair.exchangeStep = 10 → Relieved .joining .standby 5 (handoverOut h s)) ∧
    (h.toStop = false → s.pair.exchangeStep ≠ 10 → ∃ k, Relieved .standby .standby k (handoverOut h s)) := by
  have heq : handoverOut h s =
      if h.toStop then
        askResync (setResult 2 { dropAll (enterMode .stop evHandoverDone.toNat (setPair .joining evHandoverDone.toNat (handedOver h s))) with
          ctl := { (dropAll (enterMode .stop evHandoverDone.toNat (setPair .joining evHandoverDone.toNat (handedOver h s)))).ctl with
            pending := none } })
      else if (handedOver h s).pair.exchangeStep = 10 then
        let s3 := dropAll (enterMode .standby evHandoverDone.toNat (setPair .joining evHandoverDone.toNat (handedOver h s)))
        let s4 := beginTrial true (selectImageSlot true s3.otherSlot s3)
        setResult 2 { s4 with
          pair := { s4.pair with exchangeStep := 5, level := false }
          ctl := { s4.ctl with exchange := some s4.time.now, pending := none } }
      else enterMode .standby evHandoverDone.toNat (setPair .standby evHandoverDone.toNat (handedOver h s)) := by
    unfold handoverOut handedOver
    rfl
  have hstep : (handedOver h s).pair.exchangeStep = s.pair.exchangeStep := by rw [handedOver_pair]
  rw [heq]
  refine ⟨fun hstop => ?_, fun hstop hten => ?_, fun hstop hten => ?_⟩
  · have hent := (relieved_entered .joining .stop evHandoverDone.toNat h s).dropAll
    rw [if_pos hstop]
    generalize dropAll (enterMode .stop evHandoverDone.toNat (setPair .joining evHandoverDone.toNat (handedOver h s))) = u at hent ⊢
    exact ⟨_, hent⟩
  · have hent := (relieved_entered .joining .standby evHandoverDone.toNat h s).dropAll
    rw [if_neg (by simp [hstop]), if_pos (hstep.trans hten)]
    generalize dropAll (enterMode .standby evHandoverDone.toNat (setPair .joining evHandoverDone.toNat (handedOver h s))) = u at hent ⊢
    have htrial : Only [.upd, .records] u (beginTrial true (selectImageSlot true u.otherSlot u)) :=
      only_beginTrial rfl _ _ (only_selectImageSlot rfl _ _ _ (Only.refl _ u))
    obtain ⟨hdrive, hheld, hhand, hpub, hstate, hmode, _⟩ := hent.of_same (htrial.pair rfl) (htrial.tel rfl) (htrial.ctl rfl rfl)
    exact ⟨hdrive, hheld, hhand, hpub, hstate, hmode, rfl⟩
  · rw [if_neg (by simp [hstop]), if_neg (by rw [hstep]; exact hten)]
    exact ⟨_, relieved_entered .standby .standby evHandoverDone.toNat h s⟩

/-! ### The instants of a hand-over (R357) -/

/-- HANDOVER_DRIVE from m − T_b on. -/
theorem handoverDrive_due {n : Nat} {s : State} {h : Handover} (hhand : s.pair.handover = some h) (hm : h.m ≤ (s.atTime n).cycleNow + 1) :
    execHandoverDrive n s = .next (
      if h.incoming then
        if (h.confirmed && (s.atTime n).leaseHeld) = false then failHandover (s.atTime n)
        else if h.simultaneous then s.atTime n else setDrive true (s.atTime n)
      else if h.confirmed && s.pair.partner.any (·.flags.getLsbD 1) then s.atTime n else failHandover (s.atTime n)) := by
  unfold execHandoverDrive
  dsimp only
  rw [show (s.atTime n).pair.handover = some h from hhand]
  dsimp only
  rw [if_pos hm]
  rfl

/-- HANDOVER_DONE from m on. -/
theorem handoverDone_due {n : Nat} {s : State} {h : Handover} (hhand : s.pair.handover = some h) (hconf : h.confirmed = true)
    (hm : h.m ≤ (s.atTime n).cycleNow) :
    execHandoverDone n s = .next (
      if h.incoming then (if (s.atTime n).leaseHeld then handoverIn h (s.atTime n) else failHandover (s.atTime n))
      else handoverOut h (s.atTime n)) := by
  unfold execHandoverDone
  dsimp only
  rw [show (s.atTime n).pair.handover = some h from hhand]
  dsimp only
  rw [if_pos ⟨hconf, hm⟩]

/-! ### The obligation -/

/-- Settles O52: the commands by the checks of R388 and the contest of one write; the hand-over by what each of its instants leaves. -/
theorem pairHandover : Obligations.PairHandover := by
  intro n via s q c
  dsimp only
  refine ⟨?commands, ?boundary, ?handover, ?reversion, ?shadow⟩
  case commands =>
    intro v hq hright
    have hpair : q.pair = s.pair := (admit_pair hq).trans rfl
    refine ⟨fun hin => ⟨fun hv => ?_, fun hv => ?_, fun hv hlevel => ?_, fun hv hlevel => ?_⟩, fun hin hv => ?_⟩
    · subst hv
      rw [exec_handOver, execHandOver, serve_admitted hq, opPairCommand_of_ok via hright (fun hv => absurd hv (by decide)) (by rw [hpair]; exact hin) rfl]
      exact gives_next ⟨rfl, rfl, rfl⟩
    · subst hv
      rw [exec_pairJoin, execPairJoin, serve_admitted hq, opPairCommand_of_ok via hright (fun hv => absurd hv (by decide)) (by rw [hpair]; exact hin) rfl]
      exact gives_next ⟨rfl, rfl, rfl⟩
    · subst hv
      rw [exec_exchangeAbort, execExchangeAbort, serve_admitted hq,
        opPairCommand_of_ok via hright (fun _ => hlevel) (by rw [hpair]; exact hin) rfl]
      exact gives_next ⟨rfl, rfl, rfl⟩
    · subst hv
      rw [exec_exchangeAbort, execExchangeAbort, serve_admitted hq, opPairCommand_of_level via hright hlevel]
      exact gives_next ⟨by rw [respond_ctl]; exact (admit_ctl hq).trans rfl, respond_sent_nil _ _ _⟩
    · subst hv
      rw [exec_handOver, execHandOver, serve_admitted hq, opPairCommand_of_single via hright (by rw [hpair]; exact hin)]
      exact gives_next ⟨by rw [respond_ctl]; exact (admit_ctl hq).trans rfl, respond_sent_nil _ _ _⟩
  case boundary =>
    intro w hwaiting hkey hdue
    obtain ⟨ws, hexec⟩ := boundaryWrite_of_single (n := n) (index := 0x7300) (sub := 0x0E) hwaiting hkey hdue
    have hjudge : ∀ q : State, judgeWrite 0x7300 0x0E w q = judgePair (leNat w.data) q := fun q => rfl
    refine ⟨fun hdata hstate hmode hpartner hhand hstep => ?_, fun hdata hstate hmode => ?_⟩
    · rw [exec_boundaryWrite, hexec]
      refine gives_next ?_
      rw [respond_pair]
      change (judgeWrite 0x7300 0x0E w _).2.pair.handover = _
      rw [hjudge, hdata]
      have hact : judgePair (leNat [1]) { s.atTime n with ctl := { s.ctl with waiting := ws } } =
          (stOk, proposeHandover false false false { s.atTime n with ctl := { s.ctl with waiting := ws } }) := by
        have hone : (!(s.pair.state = .active && (s.ctl.mode = .run && s.partnerStandby))) = false := by
          rw [hstate, hmode, hpartner]; rfl
        have hfree : (s.pair.handover.isSome || s.pair.exchangeStep != 0) = false := by rw [hhand, hstep]; rfl
        unfold judgePair
        rw [if_pos (by rfl)]
        exact (if_neg (Bool.eq_false_iff.mp hone)).trans (if_neg (Bool.eq_false_iff.mp hfree))
      rw [hact]
      rfl
    · rw [exec_boundaryWrite, hexec]
      refine gives_next ?_
      rw [respond_pair]
      change (judgeWrite 0x7300 0x0E w _).2.pair.state = _ ∧ (judgeWrite 0x7300 0x0E w _).2.pair.negotiated = _ ∧
        (judgeWrite 0x7300 0x0E w _).2.pair.reason = _
      rw [hjudge, hdata]
      have hjoin : judgePair (leNat [2]) { s.atTime n with ctl := { s.ctl with waiting := ws } } =
          (stOk, setPair .alone 0 { s.atTime n with
            ctl := { s.ctl with waiting := ws }, pair := { s.pair with negotiated := false, reason := 0 } }) := by
        unfold judgePair
        rw [if_neg (by decide), if_pos (by rfl)]
        exact if_pos ⟨hstate, hmode⟩
      rw [hjoin]
      obtain ⟨x, hset⟩ := setPair_pair .alone 0 { s.atTime n with
        ctl := { s.ctl with waiting := ws }, pair := { s.pair with negotiated := false, reason := 0 } }
      dsimp only
      rw [hset]
      exact ⟨rfl, rfl, rfl⟩
  case handover =>
    intro h hhand
    refine ⟨fun hin hconf hm => ?send, fun hm => ⟨fun hin hconf hlease => ?drives, fun hin hno => ?inFails, fun hin hno => ?outFails⟩,
      fun hconf hm => ⟨fun hin hlease => ?done, fun hin => ?relieved⟩⟩
    case send =>
      rw [exec_handoverSend, execHandoverSend]
      refine gives_next ?_
      rw [show (s.atTime n).pair.handover = some h from hhand]
      dsimp only
      rw [if_pos ⟨by rw [hin, hconf]; rfl, hm⟩]
      exact ⟨_, rfl⟩
    case drives =>
      rw [exec_handoverDrive, handoverDrive_due hhand hm, if_pos hin]
      refine gives_next ?_
      rw [if_neg (by rw [hconf, hlease]; decide)]
      split
      next hsim => exact ⟨hhand, by rw [hsim]; simp⟩
      next hsim => exact ⟨hhand, by rw [setDrive_pair, Bool.eq_false_iff.mpr hsim]; simp⟩
    case inFails =>
      rw [exec_handoverDrive, handoverDrive_due hhand hm, if_pos hin]
      refine gives_next ?_
      rw [if_pos (by rw [Bool.and_eq_false_iff]; exact hno)]
      exact failHandover_pair _
    case outFails =>
      have hnone : ¬ (h.confirmed && s.pair.partner.any (·.flags.getLsbD 1)) = true := by
        rw [Bool.not_eq_true, Bool.and_eq_false_iff]
        exact hno
      rw [exec_handoverDrive, handoverDrive_due hhand hm, if_neg (by simp [hin]), if_neg hnone]
      refine gives_next ?_
      exact failHandover_pair _
    case done =>
      rw [exec_handoverDone, handoverDone_due hhand hconf hm, if_pos hin, if_pos hlease]
      refine gives_next ?_
      unfold handoverIn
      dsimp only
      rw [raise_pair, raise_ctl]
      exact activate_gives _ _
    case relieved =>
      rw [exec_handoverDone, handoverDone_due hhand hconf hm, if_neg (by simp [hin])]
      refine gives_next ?_
      obtain ⟨hstop, hten, hplain⟩ := handoverOut_gives h (s.atTime n)
      cases htoStop : h.toStop with
      | true =>
        obtain ⟨k, hdrive, hheld, hnone, hpub, hstate, hmode, _⟩ := hstop htoStop
        exact ⟨hdrive, hheld, hnone, hpub, fun _ => ⟨hstate, hmode⟩, fun hx => by simp at hx⟩
      | false =>
        by_cases hstep : s.pair.exchangeStep = 10
        · obtain ⟨hdrive, hheld, hnone, hpub, hstate, hmode, hfive⟩ := hten htoStop hstep
          exact ⟨hdrive, hheld, hnone, hpub, fun hx => by simp at hx, fun _ => ⟨hmode, fun _ => ⟨hstate, hfive⟩, fun hx => absurd hstep hx⟩⟩
        · obtain ⟨k, hdrive, hheld, hnone, hpub, hstate, hmode, _⟩ := hplain htoStop hstep
          exact ⟨hdrive, hheld, hnone, hpub, fun hx => by simp at hx, fun _ => ⟨hmode, fun hx => absurd hx hstep, fun _ => hstate⟩⟩
  case reversion =>
    intro t0 hsince hin hpref hauto hhand hstate hmode hstep hfind hdue
    rw [exec_reversion, execReversion]
    refine gives_next ?_
    rw [show (s.atTime n).pair.standbySince = some t0 from hsince]
    dsimp only
    have hmay : ((s.atTime n).pair.inPair && ((s.atTime n).pair.preferred &&
        ((s.atTime n).odBool 0x7300 0x06 && (s.atTime n).pair.handover.isNone))) = true := by
      have hauto' : (s.atTime n).odBool 0x7300 0x06 = true := hauto
      have hhand' : (s.atTime n).pair.handover = none := hhand
      have hin' : (s.atTime n).pair.inPair = true := hin
      have hpref' : (s.atTime n).pair.preferred = true := hpref
      rw [hin', hpref', hauto', hhand']
      rfl
    rw [if_pos ⟨hmay, hstate, hmode, hstep, hfind, hdue⟩, proposeHandover_handover]
    simp [State.cycleNow, State.tb, State.nextMacro, State.macroM]
  case shadow =>
    intro t0 hsince hstep hhand hdue
    rw [exec_shadowPeriodExpiry, execShadowPeriodExpiry]
    refine gives_next ?_
    rw [show (s.atTime n).pair.shadowSince = some t0 from hsince]
    dsimp only
    rw [if_pos ⟨hstep, hhand, hdue⟩]
    rfl

end Sys2Proof.Machine
end


section
/-! CONTROL frames and the resynchronisation of a pair (O53: R357, R359, R360). -/

namespace Sys2Proof.Machine

/-! ### A resynchronisation that fails (R359) -/

/-- What failed steps leave of a JOINING module whose resynchronisations failed `k` times within 60 minutes. -/
def ResyncFailed (k : Nat) (s t : State) : Prop :=
  t.pair.level = false ∧ t.pair.resync = none ∧ t.pair.state = (if 2 ≤ k then .out else .joining) ∧ t.cis = s.cis

theorem resyncFailed_gives (step : Nat) {s : State} (hstate : s.pair.state = .joining) :
    ResyncFailed s.resyncCount s (resyncFailed step s) := by
  unfold resyncFailed
  extract_lets w s1 w1 s2
  have hpair : s1.pair = { s.pair with
      resync := none, level := false, partnerDigest := none, ownDigest := none
      resyncFails := s.time.now :: s.pair.resyncFails.filter (fun x => s.time.now < x + 3600000000000) } := raise_pair _ _ _
  have hcis : s1.cis = s.cis := raise_cis _ _ _
  have htime : s1.time = s.time := raise_time _ _ _
  have hcount : s1.resyncCount = s.resyncCount + 1 := by
    unfold State.resyncCount
    rw [hpair, htime]
    dsimp only
    rw [List.filter_cons_of_pos (by simp), List.length_cons, List.filter_filter]
    simp only [Bool.and_self]
  unfold ResyncFailed
  by_cases hthird : 3 ≤ s1.resyncCount
  · have hout : s2.pair.level = false ∧ s2.pair.resync = none ∧ s2.pair.state = .out ∧ s2.cis = s.cis := by
      obtain ⟨x, hset⟩ := setPair_pair .out evResyncFailed.toNat { s1 with pair := { s1.pair with reason := 7 } }
      have honly := only_setPair (m0 := [.tel, .pair, .records]) rfl .out evResyncFailed.toNat
        { s1 with pair := { s1.pair with reason := 7 } } (Only.refl _ _)
      rw [show s2.pair = _ from hset, show s2.cis = _ from honly.cis rfl rfl]
      dsimp only
      rw [hpair]
      exact ⟨rfl, rfl, rfl, hcis⟩
    rw [if_pos hthird, if_pos (show 2 ≤ s.resyncCount from by omega)]
    split
    · rw [enterMode_pair, (only_enterMode (m0 := [.mode, .ctl, .fab, .records]) rfl _ _ _ (Only.refl _ s2)).cis rfl rfl]
      exact hout
    · exact hout
  · rw [if_neg hthird, if_neg (show ¬ 2 ≤ s.resyncCount from by omega)]
    refine ⟨?_, ?_, ?_, hcis⟩
    · exact congrArg Pair.level hpair
    · exact congrArg Pair.resync hpair
    · exact (congrArg Pair.state hpair).trans hstate

/-- The same for a module that has met the frame or the digest before its steps fail. -/
theorem ResyncFailed.of_same {k : Nat} {s u t : State} (h : ResyncFailed u.resyncCount u t) (hk : u.resyncCount = k) (hcis : u.cis = s.cis) :
    ResyncFailed k s t := by
  obtain ⟨hlevel, hresync, hout, hstore⟩ := h
  exact ⟨hlevel, hresync, by rw [hout, hk], hstore.trans hcis⟩

theorem resyncCount_of_eq {s t : State} (hpair : t.pair.resyncFails = s.pair.resyncFails) (htime : t.time = s.time) :
    t.resyncCount = s.resyncCount := by
  unfold State.resyncCount
  rw [hpair, htime]

theorem rejectFrame_only (kind check : Nat) (s : State) : Only [.pair, .records] s (rejectFrame kind check s) :=
  only_rejectFrame rfl _ _ _ (Only.refl _ s)

/-! ### The copy (R359) -/

/-- A part of the copy enters the store, and below the MAILBOX the copies of the lanes that are IN. -/
theorem putCopy_gives (a : Nat) (b : Bytes) (s : State) :
    (putCopy a b s).cis.mem = cWrite a b s.cis.mem ∧
      (a < 0x1FF0000 → ∀ l, (s.lane l).state = .isIn → ((putCopy a b s).lane l).copy = cWrite a b (s.lane l).copy) := by
  unfold putCopy
  by_cases hlow : a < 0x1FF0000
  · rw [if_pos hlow]
    refine ⟨rfl, fun _ l hin => ?_⟩
    unfold pushWrites
    rw [State.modLanes_lane, if_pos (Or.inl (by cases l <;> exact hin))]
    cases l <;> rfl
  · rw [if_neg hlow]
    exact ⟨rfl, fun h => absurd h hlow⟩

/-- The frame of a copy that stands at its OFFSET. -/
theorem resync_takes {n t0 at' : Nat} {f : SiphonFrame} {s : State} (hpair : s.pair.inPair = true) (hrun : s.sw.running = true)
    (hkind : f.kind.toNat = 5) (hfault : (s.atTime n).frameFault f = 0) (hresync : s.pair.resync = some (t0, at'))
    (hstate : s.pair.state = .joining) (hoffset : f.offset = at') :
    execSiphonResync n f s = .next { putCopy at' f.payload (tookFrame 5 f (s.atTime n)) with
      pair := { (putCopy at' f.payload (tookFrame 5 f (s.atTime n))).pair with resync := some (t0, at' + f.payload.length) } } := by
  have hresync' : (tookFrame 5 f (s.atTime n)).pair.resync = some (t0, at') := hresync
  have hstate' : (tookFrame 5 f (s.atTime n)).pair.state = .joining := hstate
  unfold execSiphonResync
  rw [takeSiphon_good (s := s.atTime n) hpair hrun hkind hfault]
  dsimp only
  rw [hresync']
  dsimp only
  rw [if_neg (by rw [hstate']; simp), if_pos ⟨rfl, hoffset⟩]

/-- A frame of a copy that leaves a gap, and one that fails a check. -/
theorem resync_fails {n t0 at' : Nat} {f : SiphonFrame} {s : State} (hpair : s.pair.inPair = true) (hrun : s.sw.running = true)
    (hkind : f.kind.toNat = 5) (hwrong : (s.atTime n).frameFault f = 0 → f.offset ≠ at') (hresync : s.pair.resync = some (t0, at'))
    (hstate : s.pair.state = .joining) :
    ∃ t, execSiphonResync n f s = .next t ∧ ResyncFailed (s.atTime n).resyncCount s t := by
  unfold execSiphonResync
  by_cases hfault : (s.atTime n).frameFault f = 0
  · have hresync' : (tookFrame 5 f (s.atTime n)).pair.resync = some (t0, at') := hresync
    have hstate' : (tookFrame 5 f (s.atTime n)).pair.state = .joining := hstate
    rw [takeSiphon_good (s := s.atTime n) hpair hrun hkind hfault]
    dsimp only
    rw [hresync']
    dsimp only
    rw [if_neg (by rw [hstate']; simp), if_neg (fun h => hwrong hfault h.2), if_pos (Or.inl rfl)]
    exact ⟨_, rfl, (resyncFailed_gives 2 hstate').of_same rfl rfl⟩
  · obtain ⟨x, hrej⟩ := rejectFrame_pair f.kind.toNat ((s.atTime n).frameFault f) (s.atTime n)
    have honly := rejectFrame_only f.kind.toNat ((s.atTime n).frameFault f) (s.atTime n)
    rw [takeSiphon_wrong (s := s.atTime n) hpair hrun hkind hfault]
    generalize rejectFrame f.kind.toNat ((s.atTime n).frameFault f) (s.atTime n) = u at hrej honly ⊢
    have hresync' : u.pair.resync = some (t0, at') := by rw [hrej]; exact hresync
    have hstate' : u.pair.state = .joining := by rw [hrej]; exact hstate
    dsimp only
    rw [hresync']
    dsimp only
    rw [if_neg (by rw [hstate']; simp), if_neg (by simp), if_pos (Or.inr rfl)]
    exact ⟨_, rfl, (resyncFailed_gives 2 hstate').of_same
      (resyncCount_of_eq (by rw [hrej]) (honly.time rfl rfl)) (honly.cis rfl rfl)⟩

/-! ### CONTROL frames (R357, R359) -/

theorem control_taken {n : Nat} {f : SiphonFrame} {s : State} (m : ControlMsg) (hpair : s.pair.inPair = true) (hrun : s.sw.running = true)
    (hkind : f.kind.toNat = 6) (hfault : (s.atTime n).frameFault f = 0) :
    execSiphonControl n f m s = .next (takeControl f.cycle.toNat m (tookFrame 6 f (s.atTime n))) := by
  unfold execSiphonControl
  rw [takeSiphon_good (s := s.atTime n) hpair hrun hkind hfault]
  dsimp only
  rw [if_pos rfl]

/-- Step 1 of R359: the parameter values of the partner in every lane, its force table, and a copy that begins. -/
theorem beginResync_gives (forces params : Bytes) (s : State) :
    (beginResync forces params s).pair.resync = some (s.time.now, 0) ∧ (beginResync forces params s).pair.level = false ∧
      (beginResync forces params s).ctl.forces = readForces forces ∧
      ∀ l, ((beginResync forces params s).lane l).params = params ∧ ((beginResync forces params s).lane l).paramsNew = none := by
  unfold beginResync
  dsimp only
  refine ⟨by rw [raise_pair]; rfl, by rw [raise_pair], by rw [raise_ctl], fun l => ?_⟩
  rw [raise_lane]
  cases l <;> exact ⟨rfl, rfl⟩

/-! ### The obligation -/

/-- Settles O53: the frames by the checks of R347, the copy by its OFFSET, and the digests by their comparison. -/
theorem pairResync : Obligations.PairResync := by
  intro n f s
  dsimp only
  refine ⟨?confirm, ?propose, ?begin', ?digest, ?wrong, ?steps⟩
  case confirm =>
    rintro m h ⟨hpair, hrun, hkind, hfault⟩ hhand rfl
    rw [exec_siphonControl, control_taken _ hpair hrun hkind hfault]
    refine gives_next ?_
    unfold takeControl
    dsimp only
    rw [show (tookFrame 6 f (s.atTime n)).pair.handover = some h from hhand]
    dsimp only
    rw [if_pos rfl]
  case propose =>
    rintro m ⟨hpair, hrun, hkind, hfault⟩ hhand hm hfind hstate hmode
    rw [exec_siphonControl, control_taken _ hpair hrun hkind hfault]
    refine gives_next ?_
    have hmay : ¬ ((tookFrame 6 f (s.atTime n)).pair.handover.isSome ∨ m ≤ (tookFrame 6 f (s.atTime n)).cycleNow) := by
      rw [show (tookFrame 6 f (s.atTime n)).pair.handover = none from hhand]
      rintro (h | h)
      · cases h
      · exact absurd (show m ≤ (s.atTime n).cycleNow from h) (by omega)
    unfold takeControl takeProposal
    dsimp only
    rw [if_neg hmay, if_pos ⟨hstate, hmode, hfind⟩]
    rfl
  case begin' =>
    rintro forces params ⟨hpair, hrun, hkind, hfault⟩ hstate
    rw [exec_siphonControl, control_taken _ hpair hrun hkind hfault]
    refine gives_next ?_
    unfold takeControl
    dsimp only
    rw [if_pos (show (tookFrame 6 f (s.atTime n)).pair.state = .joining from hstate)]
    exact beginResync_gives _ _ _
  case digest =>
    rintro p q ⟨hpair, hrun, hkind, hfault⟩ hstate
    rw [exec_siphonControl, control_taken _ hpair hrun hkind hfault]
    refine gives_next ?_
    unfold takeControl
    dsimp only
    rw [if_pos (show (tookFrame 6 f (s.atTime n)).pair.state = .joining from hstate)]
    exact ⟨rfl, rfl⟩
  case wrong =>
    rintro m ⟨hpair, hrun, hkind, hfault⟩
    obtain ⟨x, hrej⟩ := rejectFrame_pair f.kind.toNat ((s.atTime n).frameFault f) (s.atTime n)
    rw [exec_siphonControl, execSiphonControl]
    refine gives_next ?_
    rw [takeSiphon_wrong (s := s.atTime n) hpair hrun hkind hfault]
    dsimp only
    rw [if_neg (by decide), hrej]
    exact ⟨rfl, rfl⟩
  case steps =>
    intro t0 at' hresync hstate
    refine ⟨?copied, ?gap, ?bad, ?late, ?compared⟩
    case copied =>
      rintro ⟨hpair, hrun, hkind, hfault⟩ hoffset
      obtain ⟨hmem, hcopies⟩ := putCopy_gives at' f.payload (tookFrame 5 f (s.atTime n))
      rw [exec_siphonResync, resync_takes hpair hrun hkind hfault hresync hstate hoffset]
      refine gives_next ⟨rfl, hmem, fun hwf b hb => ?_, fun hlow l hin => ?_⟩
      · change cGet b (putCopy at' f.payload (tookFrame 5 f (s.atTime n))).cis.mem = _
        rw [hmem]
        exact cGet_cWrite_outside hwf hb
      · refine Eq.trans ?_ ((hcopies hlow l (by cases l <;> exact hin)).trans ?_)
        · cases l <;> rfl
        · cases l <;> rfl
    case gap =>
      rintro ⟨hpair, hrun, hkind, hfault⟩ hoffset
      obtain ⟨t, ht, hfailed⟩ := resync_fails hpair hrun hkind (fun _ => hoffset) hresync hstate
      rw [exec_siphonResync, ht]
      exact gives_next hfailed
    case bad =>
      rintro ⟨hpair, hrun, hkind, hfault⟩
      obtain ⟨t, ht, hfailed⟩ := resync_fails hpair hrun hkind (fun h => absurd h hfault) hresync hstate
      rw [exec_siphonResync, ht]
      exact gives_next hfailed
    case late =>
      intro hless hdue
      rw [exec_resyncTimeout, execResyncTimeout]
      refine gives_next ?_
      rw [show (s.atTime n).pair.resync = some (t0, at') from hresync]
      dsimp only
      rw [if_pos ⟨hstate, hless, hdue⟩]
      exact resyncFailed_gives 2 (s := s.atTime n) hstate
    case compared =>
      intro d hdigest hwhole
      have hstep : (s.atTime n).pair.state = .joining ∧ storeSize ≤ at' := ⟨hstate, hwhole⟩
      refine ⟨fun hsame => ?_, fun hdiff => ?_⟩
      · rw [exec_resyncComplete, execResyncComplete]
        refine gives_next ?_
        rw [show (s.atTime n).pair.resync = some (t0, at') from hresync, show (s.atTime n).pair.partnerDigest = some d from hdigest]
        dsimp only
        rw [if_pos hstep, if_pos (show storeDigest (s.atTime n).cis.mem (s.atTime n).pair.digestCycle = d from hsame), raise_pair]
        exact ⟨rfl, rfl, congrArg some hsame, rfl, hstate⟩
      · rw [exec_resyncComplete, execResyncComplete]
        refine gives_next ?_
        rw [show (s.atTime n).pair.resync = some (t0, at') from hresync, show (s.atTime n).pair.partnerDigest = some d from hdigest]
        dsimp only
        rw [if_pos hstep, if_neg (show storeDigest (s.atTime n).cis.mem (s.atTime n).pair.digestCycle ≠ d from hdiff)]
        exact (resyncFailed_gives 4 (s := { s.atTime n with pair := { s.pair with
          ownDigest := some (storeDigest s.cis.mem s.pair.digestCycle) } }) hstate).of_same rfl rfl

end Sys2Proof.Machine
end


section
/-! The front of a host request and the sessions of the Abacus (O54, O55: R383 to R387, R390). -/

namespace Sys2Proof.Machine

/-! ### Sessions -/

theorem State.session_of_od {s t : State} (h : t.od.sessions = s.od.sessions) (m : Fin 9) : t.session m = s.session m := by
  rw [State.session, State.session, h]

theorem modAt_length {α : Type} (n : Nat) (f : α → α) (l : List α) : (modAt n f l).length = l.length := by
  unfold modAt
  exact List.length_modify ..

theorem State.modSession_length (s : State) (n : Fin 9) (f : Session → Session) :
    (s.modSession n f).od.sessions.length = s.od.sessions.length := modAt_length _ _ _

/-- A session reads as it was changed. -/
theorem State.session_modSession {s : State} {n : Fin 9} {f : Session → Session} (h : s.od.sessions.length = 9) :
    (s.modSession n f).session n = f (s.session n) := getD_modAt (by rw [h]; exact n.isLt)

/-- A session that a change did not meet, or met. -/
theorem State.session_modSession_cases (s : State) (n m : Fin 9) (f : Session → Session) :
    (s.modSession n f).session m = s.session m ∨ (s.modSession n f).session m = f (s.session m) := by
  by_cases hm : m = n
  · subst hm
    by_cases hlen : m.val < s.od.sessions.length
    · exact Or.inr (getD_modAt hlen)
    · refine Or.inl ?_
      unfold State.session State.modSession
      dsimp only
      rw [List.getElem?_eq_none (Nat.not_lt.mp hlen), List.getElem?_eq_none (by rw [modAt_length]; exact Nat.not_lt.mp hlen)]
  · exact Or.inl (State.modSession_other hm)

theorem closeSession_sessions (n : Fin 9) (cause : Nat) (s : State) :
    (closeSession n cause s).od = (s.modSession n (fun _ => {})).od := raiseFrom_od _ _ _ _

theorem closeSession_sent (n : Fin 9) (cause : Nat) (s : State) : (closeSession n cause s).sent = s.sent := raiseFrom_sent _ _ _ _

/-- A session that closes is free. -/
theorem closeSession_session {n : Fin 9} {cause : Nat} {s : State} (h : s.od.sessions.length = 9) :
    (closeSession n cause s).session n = {} := by
  rw [State.session_of_od (congrArg Od.sessions (closeSession_sessions n cause s)), State.session_modSession h]

/-- An answer keeps every session but for the response that it stores. -/
theorem respond_session (via : Via) (st : BitVec 16) (d : Bytes) (s : State) (m : Fin 9) :
    ∃ x, (respond via st d s).session m = { s.session m with stored := x } := by
  unfold respond keepAnswer
  split
  next n seq port addr mac =>
    rcases State.session_modSession_cases (s.emitAll ((answerParts d.length d).map (answerMsg (.abacus n seq port addr mac) st))) n m
      (fun x => if x.state = 2 ∧ x.lastSeq = seq then { x with stored := some (st, d) } else x) with h | h
    · exact ⟨(s.session m).stored, h⟩
    · rw [h]
      split
      · exact ⟨some (st, d), rfl⟩
      · exact ⟨(s.session m).stored, rfl⟩
  · exact ⟨(s.session m).stored, rfl⟩

theorem respond_sessions_length (via : Via) (st : BitVec 16) (d : Bytes) (s : State) :
    (respond via st d s).od.sessions.length = s.od.sessions.length := by
  unfold respond keepAnswer
  split
  · exact State.modSession_length _ _ _
  · rfl

/-! ### Tokens and failed MACs (R386, R387) -/

/-- A token that was there leaves its bucket. -/
theorem sessionToken_there {m : Fin 9} {s q : State} (h : sessionToken m s = (q, true)) :
    ∃ b, q = s.modSession m (fun x => { x with bucket := some b }) := by
  unfold sessionToken at h
  dsimp only at h
  split at h
  · exact ⟨_, (Prod.mk.inj h).1.symm⟩
  · exact absurd (Prod.mk.inj h).2 (by decide)

/-- A request without a token is counted. -/
theorem sessionToken_empty {m : Fin 9} {s q : State} (h : sessionToken m s = (q, false)) :
    q.od.limited = satAdd 32 s.od.limited 1 := by
  unfold sessionToken at h
  dsimp only at h
  split at h
  · exact absurd (Prod.mk.inj h).2 (by decide)
  · rw [← (Prod.mk.inj h).1]
    unfold rateLimited
    rw [raiseOncePerSec_od]
    rfl

/-- A failed MAC is counted, answers nothing, and leaves its session as it was or free. -/
theorem authFailed_gives (n m : Fin 9) (addr : Nat) (s : State) :
    (authFailed n addr s).od.authFails = satAdd 32 s.od.authFails 1 ∧ (authFailed n addr s).sent = s.sent ∧
      (((authFailed n addr s).session m).state = (s.session m).state ∨ ((authFailed n addr s).session m).state = 0) := by
  unfold authFailed
  extract_lets fails w s1 s2
  have hod : s2.od = (s1.modSession n (fun x => { x with fails })).od := raiseOncePerSec_od _ _ _ _ _
  have hsent : s2.sent = s.sent := raiseOncePerSec_sent _ _ _ _ _
  have hstate : (s2.session m).state = (s.session m).state := by
    rw [State.session_of_od (congrArg Od.sessions hod)]
    rcases State.session_modSession_cases s1 n m (fun x => { x with fails }) with h | h
    · rw [h]; rfl
    · rw [h]; rfl
  split
  · rw [closeSession_sessions, closeSession_sent, State.session_of_od (congrArg Od.sessions (closeSession_sessions n 3 s2))]
    refine ⟨(congrArg Od.authFails hod).trans rfl, hsent, ?_⟩
    rcases State.session_modSession_cases s2 n m (fun _ => {}) with h | h
    · exact Or.inl (by rw [h]; exact hstate)
    · exact Or.inr (by rw [h])
  · exact ⟨(congrArg Od.authFails hod).trans rfl, hsent, Or.inl hstate⟩

/-! ### Admission (R383, R386, R390) -/

theorem zeroToken_sessions (s : State) : (zeroToken s).1.od.sessions = s.od.sessions := by
  unfold zeroToken
  dsimp only
  split
  · rfl
  · unfold rateLimited
    rw [raiseOncePerSec_od]

theorem sessionToken_length (m : Fin 9) (s : State) : (sessionToken m s).1.od.sessions.length = s.od.sessions.length := by
  unfold sessionToken
  dsimp only
  split
  · exact State.modSession_length _ _ _
  · unfold rateLimited
    rw [raiseOncePerSec_od]
    exact State.modSession_length _ _ _

/-- A request of session 0 that is admitted leaves the sessions. -/
theorem admitZero_sessions {via : Via} {port : Fin 11} {f : ReqFrame} {s q : State} {c : Caller}
    (h : admitZero via port f s = (q, some c)) : q.od.sessions = s.od.sessions := by
  unfold admitZero at h
  dsimp only at h
  split at h
  · cases (Prod.mk.inj h).2
  · split at h
    · rw [← (Prod.mk.inj h).1, zeroToken_sessions]
    · cases (Prod.mk.inj h).2

/-- A request of a session that is admitted leaves as many sessions as there were. -/
theorem admitSession_length {via : Via} {n : Fin 9} {seq : BitVec 32} {addr : Nat} {mac : Bytes} {f : ReqFrame} {s q : State} {c : Caller}
    (h : admitSession via n seq addr mac f s = (q, some c)) : q.od.sessions.length = s.od.sessions.length := by
  unfold admitSession at h
  dsimp only at h
  split at h
  · cases (Prod.mk.inj h).2
  split at h
  · cases (Prod.mk.inj h).2
  split at h
  · cases (Prod.mk.inj h).2
  split at h
  · split at h
    · cases (Prod.mk.inj h).2
    · cases (Prod.mk.inj h).2
  split at h
  · cases (Prod.mk.inj h).2
  · rw [← (Prod.mk.inj h).1, State.modSession_length, sessionToken_length]

/-- A request that is admitted leaves its nine sessions. -/
theorem admission_sessions_length {via : Via} {f : ReqFrame} {s q : State} {c : Caller} (h : admission via f s = (q, some c)) :
    q.od.sessions.length = s.od.sessions.length := by
  unfold admission at h
  split at h
  · split at h
    · cases (Prod.mk.inj h).2
    split at h
    · rw [admitZero_sessions h]
    · exact admitSession_length h
  next bus =>
    unfold admitSdo at h
    split at h
    · cases (Prod.mk.inj h).2
    split at h
    · cases (Prod.mk.inj h).2
    split at h
    · cases (Prod.mk.inj h).2
    · rw [(Prod.mk.inj h).1]

theorem admission_abacus {m : Fin 9} {seq : BitVec 32} {port : Fin 11} {addr : Nat} {mac : Bytes} {f : ReqFrame} {s : State}
    (hrun : s.od.running = true) (hport : s.portOn port = true) (hm : m ≠ 0) :
    admission (.abacus m seq port addr mac) f s = admitSession (.abacus m seq port addr mac) m seq addr mac f s := by
  unfold admission
  dsimp only
  rw [if_neg (by rw [hrun, hport]; decide), if_neg hm]

/-- A request of an open session whose MAC, source and token are in order comes to its SEQ. -/
theorem admitSession_token {via : Via} {m : Fin 9} {seq : BitVec 32} {addr : Nat} {mac : Bytes} {f : ReqFrame} {s q : State} {b : Bool}
    (hopen : (s.session m).state = 2) (haddr : addr = (s.session m).addr) (hmac : mac = frameMac (s.session m).key m.val seq f)
    (htoken : sessionToken m s = (q, b)) :
    admitSession via m seq addr mac f s =
      if !b then (q, none)
      else if seq = (s.session m).lastSeq then
        (match (s.session m).stored with
         | some a => (q.emitAll ((answerParts a.2.length a.2).map (answerMsg via a.1)), none)
         | none => (q, none))
      else if seq < (s.session m).lastSeq then (q, none)
      else (q.modSession m (fun y => { Session.keepAsm f y with
          lastSeq := seq, stored := none, lastAt := s.time.now, served := (y.served + 1) % 2 ^ 32 }),
        some { level := (s.session m).level, client := (s.session m).client, source := m.val }) := by
  have hin : ¬ (addr ≠ (s.session m).addr ∨ mac ≠ frameMac (s.session m).key m.val seq f) := by
    rintro (h | h)
    · exact h haddr
    · exact h hmac
  unfold admitSession
  dsimp only
  rw [if_neg (by simp [hopen]), if_neg hin, htoken] <;> rfl

theorem sdoCaller_level (s : State) (bus : Fin 2) : (s.sdoCaller bus).level ≤ 2 := Nat.min_le_left _ _

/-- Settles O54: the checks of a session's request in their order, and those of a request over SDO. -/
theorem hostAdmission : Obligations.HostAdmission := by
  intro s m seq port addr mac f
  dsimp only
  refine ⟨?running, ?off, ?sdo⟩
  case running =>
    intro hrun hport hm
    rw [admission_abacus hrun hport hm]
    refine ⟨fun hclosed => ?_, fun hopen hbad => ?_, fun q hopen haddr hmac htoken => ?_, fun q hopen haddr hmac htoken => ?_⟩
    · exact if_pos hclosed
    · have hfail : admitSession (.abacus m seq port addr mac) m seq addr mac f s = (authFailed m addr s, none) := by
        unfold admitSession
        dsimp only
        rw [if_neg (by simp [hopen]), if_pos hbad]
      obtain ⟨hcount, hsent, _⟩ := authFailed_gives m m addr s
      rw [hfail]
      exact ⟨rfl, hcount, hsent⟩
    · obtain ⟨b, rfl⟩ := sessionToken_there htoken
      rw [admitSession_token hopen haddr hmac htoken]
      refine ⟨fun hnew hshaped => ?_, fun st d hseq hstored hshort => ?_, fun hold => ?_⟩
      · have hne : seq ≠ (s.session m).lastSeq := fun h => by rw [h] at hnew; exact absurd hnew (BitVec.lt_irrefl _)
        have hnlt : ¬ seq < (s.session m).lastSeq := fun h => absurd (BitVec.lt_trans hnew h) (BitVec.lt_irrefl _)
        rw [if_neg (by decide), if_neg hne, if_neg hnlt]
        dsimp only
        rw [State.session_modSession (by rw [State.modSession_length]; exact hshaped.sessions)]
        exact ⟨rfl, rfl, rfl, rfl, rfl⟩
      · rw [if_neg (by decide), if_pos hseq, hstored]
        dsimp only
        rw [answerParts_of_short _ hshort]
        exact ⟨rfl, rfl⟩
      · have hne : seq ≠ (s.session m).lastSeq := fun h => by rw [h] at hold; exact absurd hold (BitVec.lt_irrefl _)
        rw [if_neg (by decide), if_neg hne, if_pos hold]
        exact ⟨rfl, rfl⟩
    · rw [admitSession_token hopen haddr hmac htoken]
      exact ⟨if_pos rfl, sessionToken_empty htoken⟩
  case off =>
    intro hoff
    exact if_pos (by rw [hoff]; rfl)
  case sdo =>
    intro bus
    refine ⟨fun hon hidle hop => ?_, fun hon hbusy => ?_, fun hoff => ?_, sdoCaller_level s bus⟩
    · have hserved : ¬ (f.op ≠ 0x10 ∧ f.op ≠ 0x11) := fun h => hop.elim h.1 h.2
      exact (if_neg (by rw [hon]; decide)).trans ((if_neg (by rw [hidle]; decide)).trans (if_neg hserved))
    · exact (if_neg (by rw [hon]; decide)).trans (if_pos (Option.isSome_iff_ne_none.mpr hbusy))
    · exact if_pos (by rw [hoff]; rfl)

/-! ### OPEN, AUTH, CLOSE (R384, R386) -/

theorem openToken_there {s q : State} (h : openToken s = (q, true)) : ∃ b, q = { s with od := { s.od with bucketOpen := some b } } := by
  unfold openToken at h
  dsimp only at h
  split at h
  · exact ⟨_, (Prod.mk.inj h).1.symm⟩
  · exact absurd (Prod.mk.inj h).2 (by decide)

/-- An AUTH of an OPENING session. -/
theorem abAuth_opening {n : Nat} {m : Fin 9} {seq : BitVec 32} {port : Fin 11} {addr : Nat} {mac : Bytes} {s : State}
    (hrun : s.od.running = true) (hport : s.portOn port = true) (hm : m ≠ 0) (hopening : (s.session m).state = 1) :
    execAbAuth n (.abacus m seq port addr mac) s = .next (authSession (.abacus m seq port addr mac) m seq addr mac (s.atTime n)) := by
  have hcond : ((s.atTime n).od.running && ((s.atTime n).portOn port && (m != 0 && ((s.atTime n).session m).state = 1))) = true := by
    have hrun' : (s.atTime n).od.running = true := hrun
    have hport' : (s.atTime n).portOn port = true := hport
    have hopening' : ((s.atTime n).session m).state = 1 := hopening
    rw [hrun', hport', hopening']
    simp [hm]
  unfold execAbAuth
  dsimp only
  rw [if_pos hcond]

/-- Settles O55: each request by its checks, and each timeout by its time. -/
theorem abacusSessions : Obligations.AbacusSessions := by
  intro n s q m port addr
  dsimp only
  intro hshaped
  have hlen : (s.atTime n).od.sessions.length = 9 := hshaped.sessions
  refine ⟨?open', ?auth, ?badMac, ?close, ?keepalive, ?openTimeout, ?idle⟩
  case open' =>
    intro clientId level nonce hrun hport htoken
    obtain ⟨b, hq⟩ := openToken_there htoken
    have hlenq : q.od.sessions.length = 9 := by rw [hq]; exact hlen
    have hon : ¬ (!((s.atTime n).od.running && (s.atTime n).portOn port)) = true := by
      have hrun' : (s.atTime n).od.running = true := hrun
      have hport' : (s.atTime n).portOn port = true := hport
      rw [hrun', hport']
      decide
    refine ⟨fun hok hfree => ?_, fun hbad => ?_⟩
    · rw [exec_abOpen, execAbOpen]
      refine gives_next ?_
      rw [if_neg hon, htoken]
      dsimp only
      rw [if_neg (by decide), if_pos hok, hfree]
      dsimp only
      have hsession : ∀ (x : Session) (msg : Sent), ((q.tick.modSession m (fun _ => x)).emit msg).session m = x := fun x msg =>
        State.session_modSession (s := q.tick) hlenq
      rw [hsession, hq]
      exact ⟨rfl, rfl, rfl, rfl, _, rfl, rfl⟩
    · rw [exec_abOpen, execAbOpen]
      refine gives_next ?_
      rw [if_neg hon, htoken]
      dsimp only
      rw [if_neg (by decide), if_neg hbad]
      dsimp only
      rw [hq]
      exact ⟨rfl, rfl⟩
  case auth =>
    intro hrun hport hm hopening htoken
    obtain ⟨b, hq⟩ := sessionToken_there htoken
    have hlenq : q.od.sessions.length = 9 := by rw [hq, State.modSession_length]; exact hlen
    have hmac : ¬ frameMac (s.session m).key m.val 1 { op := 2 } ≠ frameMac ((s.atTime n).session m).key m.val 1 { op := 2 } :=
      fun h => h rfl
    rw [exec_abAuth, abAuth_opening hrun hport hm hopening]
    refine gives_next ?_
    unfold authSession
    dsimp only
    rw [if_neg hmac, htoken, if_neg (by simp)]
    dsimp only
    rw [respond_sent_nil, raiseFrom_sent]
    have hopened : ∀ (src : BitVec 8) (code : Code) (d : Bytes) (f : Session → Session),
        (raiseFrom src code d (q.modSession m f)).session m = f (q.session m) := fun src code d f => by
      rw [State.session_of_od (congrArg Od.sessions (raiseFrom_od src code d (q.modSession m f))), State.session_modSession hlenq]
    obtain ⟨x, hanswered⟩ := respond_session (.abacus m 1 port addr (frameMac (s.session m).key m.val 1 { op := 2 })) stOk []
      (raiseFrom (BitVec.ofNat 8 m.val) evSessionOpened
        ([BitVec.ofNat 8 m.val, BitVec.ofNat 8 ((s.atTime n).session m).level] ++ d16 ((s.atTime n).session m).client)
        (q.modSession m (fun y => { y with state := 2, lastSeq := 1, addr, lastAt := (s.atTime n).time.now, served := 1 }))) m
    rw [hanswered, hopened]
    refine ⟨rfl, rfl, rfl, rfl, ?_⟩
    rw [hq]
    rfl
  case badMac =>
    intro seq mac hrun hport hm hopening hmac
    obtain ⟨hcount, hsent, hstate⟩ := authFailed_gives m m addr (s.atTime n)
    rw [exec_abAuth, abAuth_opening hrun hport hm hopening]
    refine gives_next ?_
    unfold authSession
    dsimp only
    rw [if_pos (show mac ≠ frameMac ((s.atTime n).session m).key m.val seq { op := 2 } from hmac)]
    refine ⟨?_, hcount, hsent⟩
    rcases hstate with h | h
    · rw [h, show ((s.atTime n).session m).state = 1 from hopening]
      decide
    · rw [h]
      decide
  case close =>
    intro seq mac c hq
    have hlenq : q.od.sessions.length = 9 := (admission_sessions_length hq).trans hlen
    rw [exec_abClose, execAbClose, serve_admitted hq]
    refine gives_next ⟨closeSession_session (by rw [respond_sessions_length]; exact hlenq), ?_⟩
    rw [closeSession_sent, respond_sent_nil]
    rfl
  case keepalive =>
    intro via c hq
    rw [exec_abKeepalive, execAbKeepalive, serve_admitted hq]
    exact gives_next (respond_sent_nil _ _ _)
  case openTimeout =>
    intro hm hstate hdue
    rw [exec_sessionOpenTimeout, execSessionOpenTimeout]
    refine gives_next ?_
    rw [if_pos ⟨hm, hstate, hdue⟩, State.session_modSession hlen]
  case idle =>
    intro hm hstate hdue
    rw [exec_idleTimeout, execIdleTimeout]
    refine gives_next ?_
    rw [if_pos ⟨hm, hstate, hdue⟩]
    exact closeSession_session hlen

end Sys2Proof.Machine
end


section
/-! The operations that are served (O56: R379, R381, R383, R388, R389, R391, R397). -/

namespace Sys2Proof.Machine

theorem State.odStore_sent (s : State) (i u : Nat) (v : Bytes) : (s.odStore i u v).sent = s.sent :=
  (only_State_odStore (m0 := [.od]) rfl s i u v (Only.refl _ s)).sent rfl

/-! ### Writes (R381, R388) -/

/-- A write of an object without a rule of its own. -/
theorem abWrite_other {n : Nat} {via : Via} {s q : State} {c : Caller} {index : BitVec 16} {sub : BitVec 8} {ty : OdType} {data : Bytes}
    (hq : admission via (writeReq index.toNat sub.toNat ty data) (s.atTime n) = (q, some c))
    (hcommand : writeCommand index.toNat sub.toNat = none) (hspecial : writeSpecial index.toNat sub.toNat = none) :
    exec (.abWrite n via index sub ty data) s = .next (opOther index.toNat sub.toNat c via ty data q) := by
  rw [exec_abWrite, execAbWrite, serve_admitted hq, writeObject, hcommand, hspecial]

/-- A check that fails is answered, and nothing is kept. -/
theorem opOther_of_fault {i u : Nat} {c : Caller} {via : Via} {ty : OdType} {data : Bytes} {s : State}
    (h : s.plainFault i u c.level ty data ≠ stOk) :
    opOther i u c via ty data s = respond via (s.plainFault i u c.level ty data) [] s := by
  unfold opOther opPlain
  dsimp only
  rw [if_neg h, if_neg h, ite_self]

/-! ### Segments (R389) -/

/-- A segment that passes its checks completes its value, or is kept. -/
theorem takeSegment_of_ok {m : Fin 9} {i u offset total : Nat} {more : Bool} {data : Bytes} {c : Caller} {s : State} (via : Via)
    (hright : writeRight i u c.level = stOk) (hdomain : isDomain i u = true) (hshort : data.length ≤ 1400)
    (hfits : offset + data.length ≤ total) (htotal : total ≤ 16777216)
    (hold : ((s.session m).asm.filter (fun a => a.1 = odKey i u)).any (fun a => a.2.1 != total) = false)
    (hfree : s.assembling m (odKey i u) = false) :
    takeSegment m i u offset total more data c via s =
      if coverTo (((((s.session m).asm.filter (fun a => a.1 = odKey i u)).map (·.2.2)).getD []) ++ [(offset, data)])
          (((((s.session m).asm.filter (fun a => a.1 = odKey i u)).map (·.2.2)).getD []) ++ [(offset, data)]).length 0 = total ∧ more = false then
        writeObject i u c via .domain
          (assembleSegs total (((((s.session m).asm.filter (fun a => a.1 = odKey i u)).map (·.2.2)).getD []) ++ [(offset, data)]))
          (s.modSession m (fun x => { x with asm := none }))
      else respond via stOk [] (s.modSession m (fun x => { x with
        asm := some (odKey i u, total, (((((s.session m).asm.filter (fun a => a.1 = odKey i u)).map (·.2.2)).getD []) ++ [(offset, data)])) })) := by
  have hchecks : firstBad [writeRight i u c.level, bad (!isDomain i u) stType,
      bad (decide (1400 < data.length) || (decide (total < offset + data.length) || (decide (16777216 < total) ||
        ((s.session m).asm.filter (fun a => a.1 = odKey i u)).any (fun a => a.2.1 != total)))) stOffset,
      bad (s.assembling m (odKey i u)) stBusy] = stOk := by
    rw [hright, hdomain, hold, hfree, decide_eq_false (Nat.not_lt.mpr hshort), decide_eq_false (Nat.not_lt.mpr hfits),
      decide_eq_false (Nat.not_lt.mpr htotal)]
    rfl
  unfold takeSegment
  dsimp only
  rw [if_neg (not_not.mpr hchecks)]

/-! ### The obligation -/

/-- Settles O56: each operation by its checks, its answer by what they leave. -/
theorem abacusOperations : Obligations.AbacusOperations := by
  intro n via s q c index sub
  dsimp only
  refine ⟨?read, ?readSegment, ?bulkRead, ?write, ?segment, ?readSignal, ?signal, ?events⟩
  case read =>
    intro hq
    refine ⟨fun hok hshort => ?_, fun hbad => ?_⟩
    · have hst : firstBad [readFault index.toNat sub.toNat c.level, bad (decide (1400 < (q.odRead index.toNat sub.toNat).length)) stOffset]
          = stOk := by
        rw [hok, decide_eq_false (Nat.not_lt.mpr hshort)]
        rfl
      rw [exec_abRead, execAbRead, serve_admitted hq]
      refine gives_next ?_
      dsimp only
      rw [hst, if_pos rfl]
      exact respond_sent_short _ _ _ hshort
    · rw [exec_abRead, execAbRead, serve_admitted hq]
      refine gives_next ?_
      dsimp only
      rw [firstBad_of_ne hbad, if_neg hbad]
      exact respond_sent_nil _ _ _
  case readSegment =>
    intro offset length hq hok hdomain hshort hfits
    have hst : firstBad [readFault index.toNat sub.toNat c.level, bad (!isDomain index.toNat sub.toNat) stType,
        bad (decide (1400 < length) || decide ((q.odRead index.toNat sub.toNat).length < offset + length)) stOffset] = stOk := by
      rw [hok, hdomain, decide_eq_false (Nat.not_lt.mpr hshort), decide_eq_false (Nat.not_lt.mpr hfits)]
      rfl
    rw [exec_abReadSegment, execAbReadSegment, serve_admitted hq]
    refine gives_next ?_
    dsimp only
    rw [hst, if_pos rfl]
    exact respond_sent_short _ _ _ ((List.length_take_le _ _).trans hshort)
  case bulkRead =>
    intro offset length hq hok hdomain hfits
    have hst : firstBad [readFault index.toNat sub.toNat c.level, bad (!isDomain index.toNat sub.toNat) stType,
        bad (decide ((q.odRead index.toNat sub.toNat).length < offset)) stOffset] = stOk := by
      rw [hok, hdomain, decide_eq_false (Nat.not_lt.mpr hfits)]
      rfl
    rw [exec_abBulkRead, execAbBulkRead, serve_admitted hq]
    refine gives_next ?_
    dsimp only
    rw [hst, if_pos rfl]
    exact respond_sent _ _ _ _
  case write =>
    intro ty data hq hcommand hspecial
    rw [abWrite_other hq hcommand hspecial]
    refine ⟨fun hnow hok => ?_, fun hboundary hok => ?_, fun hbad => ?_⟩
    · rw [opOther, if_neg (Bool.eq_false_iff.mp hnow), opPlain_of_ok via hok]
      exact gives_next ⟨by rw [respond_odGet]; exact State.odStore_odGet _ _ _ _,
        by rw [respond_sent_nil, id, State.odStore_sent]⟩
    · rw [opOther, if_pos hboundary]
      dsimp only
      rw [if_pos hok]
      exact gives_next ⟨rfl, rfl, rfl⟩
    · rw [opOther_of_fault hbad]
      exact gives_next ⟨respond_odValues _ _ _ _, respond_ctl _ _ _ _, respond_sent_nil _ _ _⟩
  case segment =>
    intro m seq port addr mac offset total more data hshaped hq hright hdomain hshort hfits htotal hold hfree
    have hlen : q.od.sessions.length = 9 := (admission_sessions_length hq).trans hshaped.sessions
    have htake := takeSegment_of_ok (more := more) (.abacus m seq port addr mac) hright hdomain hshort hfits htotal hold hfree
    refine ⟨fun hmissing => ?_, fun hcover hlast => ?_⟩
    · rw [exec_abWriteSegment, execAbWriteSegment, serve_admitted hq]
      refine gives_next ?_
      dsimp only
      rw [htake, if_neg hmissing]
      refine ⟨?_, respond_sent_nil _ _ _⟩
      obtain ⟨x, hx⟩ := respond_session (.abacus m seq port addr mac) stOk [] (q.modSession m (fun x => { x with
        asm := some (odKey index.toNat sub.toNat, total,
          ((((q.session m).asm.filter (fun a => a.1 = odKey index.toNat sub.toNat)).map (·.2.2)).getD []) ++ [(offset, data)]) })) m
      rw [hx, State.session_modSession hlen]
    · rw [exec_abWriteSegment, execAbWriteSegment, serve_admitted hq]
      refine gives_next ?_
      dsimp only
      rw [htake, if_pos ⟨hcover, hlast⟩]
  case readSignal =>
    intro e hq he hshort
    rw [exec_abReadSignal, execAbReadSignal, serve_admitted hq]
    refine gives_next ?_
    rw [he]
    exact respond_sent_short _ _ _ (by rw [length_leBytes]; exact hshort)
  case signal =>
    intro ty data e hq he
    refine ⟨fun hok => ?_, fun hbad => ?_⟩
    · rw [exec_abWriteSignal, execAbWriteSignal, serve_admitted hq]
      refine gives_next ?_
      unfold writeSignal
      rw [he]
      dsimp only
      rw [if_neg (not_not.mpr hok), mirror_cis, admit_cis hq]
      exact ⟨rfl, rfl⟩
    · rw [exec_abWriteSignal, execAbWriteSignal, serve_admitted hq]
      refine gives_next ?_
      unfold writeSignal
      rw [he]
      dsimp only
      rw [if_pos hbad, respond_cis, admit_cis hq]
      exact ⟨rfl, respond_sent_nil _ _ _⟩
  case events =>
    intro fromSeq hq
    rw [exec_abEvents, execAbEvents, serve_admitted hq]
    exact gives_next (respond_sent _ _ _ _)

end Sys2Proof.Machine
end


section
/-! The contest of writes at a boundary; keys, defaults and the code map (O57: R381, R384, R392, R402, R410). -/

namespace Sys2Proof.Machine

/-! ### The contest (R392) -/

/-- Writes of one boundary have it as their earliest. -/
theorem foldl_min_boundary {b : Nat} : ∀ {l : List PendW}, (∀ v ∈ l, v.boundary = b) → l.foldl (fun m v => min m v.boundary) b = b
  | [], _ => rfl
  | v :: l, h => by
    rw [List.foldl_cons, h v (List.mem_cons_self ..), min_self]
    exact foldl_min_boundary (fun x hx => h x (List.mem_cons_of_mem _ hx))

/-- A write that loses is answered, and leaves the values, the control part and, where nothing lost, the frames. -/
theorem loseWrite_values (i winner b : Nat) (s : State) (w : PendW) :
    ((loseWrite i winner b s w).od.values, (loseWrite i winner b s w).ctl) = (s.od.values, s.ctl) := by
  unfold loseWrite
  rw [respond_odValues, respond_ctl, raise_od, raise_ctl]

/-- A write whose object has no rule of its own at the boundary is kept. -/
theorem judgeWrite_plain {index : BitVec 16} {sub : BitVec 8} (w : PendW) (s : State) (hmode : (index, sub) ≠ (0x1101, 1))
    (hrebase : (index, sub) ≠ (0x6000, 0x10)) (hpair : (index, sub) ≠ (0x7300, 0x0E)) :
    judgeWrite index.toNat sub.toNat w s = (stOk, s.odStore index.toNat sub.toNat w.data) := by
  have hne : ∀ (x : BitVec 16) (y : BitVec 8), (index, sub) ≠ (x, y) → ¬ (index.toNat = x.toNat ∧ sub.toNat = y.toNat) :=
    fun x y h k => h (Prod.ext (BitVec.eq_of_toNat_eq k.1) (BitVec.eq_of_toNat_eq k.2))
  have hmode' : ¬ (index.toNat = 0x1101 ∧ sub.toNat = 1) := hne 0x1101 1 hmode
  have hrebase' : ¬ (index.toNat = 0x6000 ∧ sub.toNat = 0x10) := hne 0x6000 0x10 hrebase
  have hpair' : ¬ (index.toNat = 0x7300 ∧ sub.toNat = 0x0E) := hne 0x7300 0x0E hpair
  unfold judgeWrite
  rw [if_neg hmode']
  dsimp only
  rw [if_neg hrebase', if_neg hpair']

/-- The writes of one object that are due, all for one boundary: the one that prevails is judged and answered, then the others. -/
theorem boundaryWrite_contest {n : Nat} {index : BitVec 16} {sub : BitVec 8} {s : State} {w : PendW} {rest : List PendW}
    (hdue : s.ctl.waiting.filter
      (fun v => v.key = odKey index.toNat sub.toNat && decide (v.boundary ≤ (s.atTime n).cycleNow)) = w :: rest)
    (hsame : ∀ v ∈ rest, v.boundary = w.boundary) (hmode : (index, sub) ≠ (0x1101, 1)) :
    execBoundaryWrite n index sub s =
      .next (((w :: rest).eraseIdx (prevailing false 1 (0, w) rest).1).foldl
        (loseWrite index.toNat (viaSource (prevailing false 1 (0, w) rest).2.via) w.boundary)
        (respond (prevailing false 1 (0, w) rest).2.via
          (judgeWrite index.toNat sub.toNat (prevailing false 1 (0, w) rest).2 { s.atTime n with ctl := { s.ctl with
            waiting := s.ctl.waiting.filter (fun v => !(v.key = odKey index.toNat sub.toNat && v.boundary = w.boundary)) } }).1 []
          (judgeWrite index.toNat sub.toNat (prevailing false 1 (0, w) rest).2 { s.atTime n with ctl := { s.ctl with
            waiting := s.ctl.waiting.filter (fun v => !(v.key = odKey index.toNat sub.toNat && v.boundary = w.boundary)) } }).2)) := by
  have hbest : (index.toNat = 0x1101 && sub.toNat = 1) = false := by
    rw [Bool.and_eq_false_iff]
    by_cases hindex : index.toNat = 0x1101
    · refine Or.inr (decide_eq_false fun hsub => hmode ?_)
      exact Prod.ext (BitVec.eq_of_toNat_eq hindex) (BitVec.eq_of_toNat_eq hsub)
    · exact Or.inl (decide_eq_false hindex)
  have hmin : (w :: rest).foldl (fun m v => min m v.boundary) w.boundary = w.boundary :=
    foldl_min_boundary (List.forall_mem_cons.mpr ⟨rfl, hsame⟩)
  have hall : (w :: rest).filter (fun v => v.boundary = w.boundary) = w :: rest :=
    List.filter_eq_self.mpr (List.forall_mem_cons.mpr ⟨decide_eq_true rfl, fun v hv => decide_eq_true (hsame v hv)⟩)
  unfold execBoundaryWrite
  dsimp only
  rw [show (s.atTime n).ctl.waiting.filter
      (fun v => v.key = odKey index.toNat sub.toNat && decide (v.boundary ≤ (s.atTime n).cycleNow)) = w :: rest from hdue]
  dsimp only
  rw [hmin, hall, hbest]
  rfl

/-- Of two writes the later prevails exactly when it beats the earlier. -/
theorem prevailing_two (b : Bool) (w v : PendW) : (prevailing b 1 (0, w) [v]).2 = if v.beats b w then v else w := by
  unfold prevailing prevailing
  split <;> rfl

/-- A STOP beats every other mode command, and no other mode command beats it. -/
theorem beats_stop {w v : PendW} (h : ¬ (w.data = [2] ↔ v.data = [2])) : v.beats true w = decide (v.data = [2]) := by
  have hstop : (decide (v.data = [2]) != decide (w.data = [2])) = true :=
    bne_iff_ne.mpr fun k => h (decide_eq_decide.mp k).symm
  exact if_pos hstop

/-- Without that, the level decides, then the client, then the order. -/
theorem beats_other {b : Bool} {w v : PendW} (h : b = false ∨ (w.data = [2] ↔ v.data = [2])) :
    v.beats b w = if v.level ≠ w.level then decide (w.level < v.level)
      else if v.client ≠ w.client then decide (v.client < w.client) else true := by
  have hstop : ((b && decide (v.data = [2])) != (b && decide (w.data = [2]))) = false := by
    rcases h with rfl | h
    · rfl
    · rw [decide_eq_decide.mpr h, bne_self_eq_false]
  unfold PendW.beats
  dsimp only
  rw [if_neg (Bool.eq_false_iff.mp hstop)]

/-! ### Keys (R384) -/

theorem odStore_sessions (s : State) (i u : Nat) (v : Bytes) : (s.odStore i u v).od.sessions = s.od.sessions := by
  unfold State.odStore
  dsimp only
  split
  · unfold settleStore
    dsimp only
    split <;> rfl
  · rfl

theorem odRow_restore : odRow 0x1200 0x07 = some ⟨0x1200, 0x07, .u8, .wo, 3, .stop, 0, 1, 1, false, 0, 0⟩ := rfl

theorem respond_restore (via : Via) (st : BitVec 16) (d : Bytes) (s : State) : (respond via st d s).od.restore = s.od.restore := by
  unfold respond keepAnswer
  split <;> rfl

/-! ### The obligation -/

/-- Settles O57: the contest by its order of precedence, each write that is taken by its checks. -/
theorem boundaryContest : Obligations.BoundaryContest := by
  intro n via s q c
  dsimp only
  refine ⟨?contest, ?order, ?key, ?restore, ?codeMap⟩
  case contest =>
    intro index sub w rest hdue hsame hmode hrebase hpair
    rw [exec_boundaryWrite, boundaryWrite_contest hdue hsame hmode, judgeWrite_plain _ _ hmode hrebase hpair]
    refine gives_next ?_
    dsimp only
    have hkeep := foldl_field (fun t : State => (t.od.values, t.ctl))
      (loseWrite_values index.toNat (viaSource (prevailing false 1 (0, w) rest).2.via) w.boundary)
    refine ⟨?_, ?_, fun halone => ?_⟩
    · rw [State.odGet_of_values (congrArg Prod.fst (hkeep _ _)), respond_odGet, State.odStore_odGet]
    · refine (congrArg Ctl.waiting ((congrArg Prod.snd (hkeep _ _)).trans (respond_ctl _ _ _ _))).trans ?_
      exact congrArg Ctl.waiting ((only_State_odStore (m0 := [.od]) rfl _ _ _ _ (Only.refl _ _)).ctl rfl rfl)
    · subst halone
      change (respond w.via stOk [] _).sent = _
      rw [respond_sent_nil, State.odStore_sent]
      rfl
  case order =>
    intro b w v
    rw [prevailing_two]
    refine ⟨fun hb hw hv => ?_, fun hb hv hw => ?_, fun heven => ?_⟩
    · subst hb
      rw [beats_stop (fun h => hv (h.mp hw)), decide_eq_false hv]
      rfl
    · subst hb
      rw [beats_stop (fun h => hw (h.mpr hv)), decide_eq_true hv]
      rfl
    · have hbeats := beats_other heven
      refine ⟨fun hlt => ?_, fun hlt => ?_, fun heq => ⟨fun hlt => ?_, fun hlt => ?_, fun hclient => ?_⟩⟩
      · rw [if_pos (Nat.ne_of_gt hlt).symm, decide_eq_false (Nat.not_lt.mpr hlt.le)] at hbeats
        rw [hbeats]
        rfl
      · rw [if_pos (Nat.ne_of_gt hlt), decide_eq_true hlt] at hbeats
        rw [hbeats]
        rfl
      · rw [if_neg (not_not.mpr heq.symm), if_pos (Nat.ne_of_gt hlt), decide_eq_false (Nat.not_lt.mpr hlt.le)] at hbeats
        rw [hbeats]
        rfl
      · rw [if_neg (not_not.mpr heq.symm), if_pos (Nat.ne_of_gt hlt).symm, decide_eq_true hlt] at hbeats
        rw [hbeats]
        rfl
      · rw [if_neg (not_not.mpr heq.symm), if_neg (not_not.mpr hclient.symm)] at hbeats
        rw [hbeats]
        rfl
  case key =>
    intro level key hq hok
    rw [exec_keyWrite, execKeyWrite, serve_admitted hq, opKey, opPlain_of_ok via hok]
    refine gives_next ⟨?_, fun m => ?_⟩
    · rw [State.levelKey, respond_odGet]
      exact State.odStore_odGet _ _ _ _
    · obtain ⟨x, hx⟩ := respond_session via stOk [] (id (q.odStore 0x1200 (0x08 + level.val) key)) m
      rw [hx]
      dsimp only [id]
      rw [State.session_of_od (odStore_sessions _ _ _ _)]
  case restore =>
    intro hq hright
    rw [exec_restoreDefaults, execRestoreDefaults, serve_admitted hq, opRestore,
      opCommand_of_ok via hright (by simp) odRow_restore (by decide) (by decide)]
    exact gives_next ⟨respond_restore _ _ _ _, respond_odValues _ _ _ _⟩
  case codeMap =>
    intro map hq hok hmap
    rw [exec_codeMapWrite, execCodeMapWrite, serve_admitted hq]
    refine gives_next ?_
    unfold opCodeMap
    dsimp only
    rw [hok, hmap, if_pos (by decide), respond_odGet, respond_rcd]
    refine ⟨State.odStore_odGet _ _ _ _, ?_⟩
    rw [cycleNow_of_eq (s := s.atTime n) (by rw [admit_time hq]) (by rw [admit_ctl hq])]

end Sys2Proof.Machine
end


section
/-! The SDO servers of the CAN buses (O58: R390). -/

namespace Sys2Proof.Machine

/-! ### Transfers -/

/-- The transfer of a server reads as it was written. -/
theorem State.setXfer_xfer (s : State) (bus : Fin 2) (x : Option SdoXfer) : ((s.setXfer bus x).sdoServer bus).xfer = x := by
  unfold State.setXfer State.sdoServer
  split <;> rfl

/-- A frame that answers leaves the transfer that was set. -/
theorem sdoReply_setXfer (bus : Fin 2) (abort : BitVec 32) (data : Bytes) (s : State) (x : Option SdoXfer) :
    (sdoReply bus abort data (s.setXfer bus x)).sent = s.sent ++ [.sdo bus abort data] ∧
      ((sdoReply bus abort data (s.setXfer bus x)).sdoServer bus).xfer = x := by
  refine ⟨?_, State.setXfer_xfer s bus x⟩
  exact congrArg (· ++ [Sent.sdo bus abort data]) (State.setXfer_sent s bus x)

/-- An initiate request of a bus that runs and serves no transfer. -/
theorem sdoInitiate_idle {bus : Fin 2} {act : State → State} {s : State} (hon : s.canOn bus = true) (hidle : (s.sdoServer bus).xfer = none) :
    sdoInitiate bus act s = act s := by
  unfold sdoInitiate
  rw [if_neg (by rw [hon]; decide), if_neg (by rw [hidle]; decide)]

/-- A segment for the transfer of a bus that runs. -/
theorem sdoSegment_gives {n : Nat} {bus : Fin 2} {toggle last : Bool} {data : Bytes} {s : State} {x : SdoXfer} (hon : s.canOn bus = true)
    (hx : (s.sdoServer bus).xfer = some x) :
    execSdoSegment n bus toggle last data s = .next (sdoSegmentStep bus x toggle last data (s.atTime n)) := by
  have hon' : (s.atTime n).canOn bus = true := hon
  have hx' : ((s.atTime n).sdoServer bus).xfer = some x := hx
  unfold execSdoSegment
  dsimp only
  rw [hon', if_neg (by decide), hx']

/-- A frame of a block transfer of a bus that runs. -/
theorem sdoBlock_gives {n : Nat} {bus : Fin 2} {seqno : Nat} {last : Bool} {data : Bytes} {s : State} {x : SdoXfer}
    (hon : s.canOn bus = true) (hx : (s.sdoServer bus).xfer = some x) :
    execSdoBlockTransfer n bus seqno last data s = .next (sdoBlockStep bus x seqno last data (s.atTime n)) := by
  have hon' : (s.atTime n).canOn bus = true := hon
  have hx' : ((s.atTime n).sdoServer bus).xfer = some x := hx
  unfold execSdoBlockTransfer
  dsimp only
  rw [hon', if_neg (by decide), hx']

/-- A segment of a download with the toggle that is due. -/
theorem segmentStep_download {bus : Fin 2} {x : SdoXfer} {last : Bool} {data : Bytes} {s : State} (hblock : x.block = false)
    (hdown : x.download = true) :
    sdoSegmentStep bus x x.toggle last data s =
      (let y := { x with data := x.data ++ data.take 7, toggle := !x.toggle, lastAt := s.time.now }
      if last then endDownload bus y s
      else if x.total < y.data.length then respond (.sdo bus) stType [] (s.setXfer bus none)
      else sdoReply bus 0 [] (s.setXfer bus (some y))) := by
  unfold sdoSegmentStep
  rw [if_neg (by rw [hblock]; decide), if_neg (not_not.mpr rfl), if_pos hdown]

/-- A segment of a block download with the number that is due. -/
theorem blockStep_download {bus : Fin 2} {x : SdoXfer} {last : Bool} {data : Bytes} {s : State} (hdown : x.download = true) :
    sdoBlockStep bus x x.nextSeqno last data s =
      (let y := { x with block := true, data := x.data ++ data.take 7, lastAt := s.time.now }
      if last then endDownload bus y s
      else if x.total < y.data.length then respond (.sdo bus) stType [] (s.setXfer bus none)
      else if x.nextSeqno = 127 then sdoReply bus 0 [127] (s.setXfer bus (some y)) else s.setXfer bus (some y)) := by
  unfold sdoBlockStep
  rw [if_pos hdown, if_neg (not_not.mpr rfl)]

/-! ### The obligation -/

/-- Settles O58: each frame by the state of the server that takes it. -/
theorem sdoTransfers : Obligations.SdoTransfers := by
  intro n s bus index sub
  dsimp only
  intro hon
  refine ⟨fun hidle => ⟨fun hok hshort => ?expedited, fun hok hlong => ?upload, fun hbad => ?refused, fun data => ?whole,
      fun total htotal hok => ?download⟩,
    fun x hx => ⟨fun last data hblock hdown hlast hfits => ?segment, fun data hblock hdown hfull => ?lastSegment,
      fun last data hblock hup => ?upSegment, fun last data hblock => ?toggled, fun data hdown hfits => ?block,
      fun seqno data hdown hseqno => ?seqno, fun seqno last data hup => ?upBlock, fun hdue => ?timeout⟩⟩
  case expedited =>
    rw [exec_sdoUploadInitiate, execSdoUploadInitiate, sdoInitiate_idle (s := s.atTime n) hon hidle]
    refine gives_next ?_
    dsimp only
    rw [if_neg (not_not.mpr hok), if_pos hshort]
    exact ⟨respond_sent_short _ _ _ (hshort.trans (by decide)), hidle⟩
  case upload =>
    rw [exec_sdoUploadInitiate, execSdoUploadInitiate, sdoInitiate_idle (s := s.atTime n) hon hidle]
    refine gives_next ?_
    dsimp only
    rw [if_neg (not_not.mpr hok), if_neg (Nat.not_le.mpr hlong)]
    exact sdoReply_setXfer _ _ _ _ _
  case refused =>
    rw [exec_sdoUploadInitiate, execSdoUploadInitiate, sdoInitiate_idle (s := s.atTime n) hon hidle]
    refine gives_next ?_
    dsimp only
    rw [if_pos hbad, respond_sent_nil, answerMsg, if_neg hbad]
    rfl
  case whole =>
    rw [exec_sdoDownloadInitiate, execSdoDownloadInitiate, sdoInitiate_idle (s := s.atTime n) hon hidle]
    refine gives_next ?_
    dsimp only
    rw [if_pos rfl]
  case download =>
    rw [exec_sdoDownloadInitiate, execSdoDownloadInitiate, sdoInitiate_idle (s := s.atTime n) hon hidle]
    refine gives_next ?_
    dsimp only
    rw [if_neg (fun h => htotal h.symm), if_neg (by decide), if_neg (not_not.mpr hok)]
    exact sdoReply_setXfer _ _ _ _ _
  case segment =>
    rw [exec_sdoSegment, sdoSegment_gives hon hx, segmentStep_download hblock hdown]
    refine gives_next ?_
    dsimp only
    rw [hlast, if_neg (by decide), if_neg (Nat.not_lt.mpr hfits)]
    exact sdoReply_setXfer _ _ _ _ _
  case lastSegment =>
    rw [exec_sdoSegment, sdoSegment_gives hon hx, segmentStep_download hblock hdown]
    refine gives_next ?_
    dsimp only
    rw [if_pos rfl]
  case upSegment =>
    rw [exec_sdoSegment, sdoSegment_gives hon hx, sdoSegmentStep]
    refine gives_next ?_
    rw [if_neg (by rw [hblock]; decide), if_neg (not_not.mpr rfl), if_neg (by rw [hup]; decide)]
    exact sdoReply_setXfer _ _ _ _ _
  case toggled =>
    rw [exec_sdoSegment, sdoSegment_gives hon hx, sdoSegmentStep]
    refine gives_next ?_
    rw [if_neg (by rw [hblock]; decide), if_pos (by simp)]
    exact (sdoReply_setXfer _ _ _ _ _).symm
  case block =>
    rw [exec_sdoBlockTransfer, sdoBlock_gives hon hx, blockStep_download hdown]
    refine gives_next ?_
    dsimp only
    rw [if_neg (by decide), if_neg (Nat.not_lt.mpr hfits)]
    split
    · exact (sdoReply_setXfer _ _ _ _ _).2
    · exact State.setXfer_xfer _ _ _
  case seqno =>
    rw [exec_sdoBlockTransfer, sdoBlock_gives hon hx, sdoBlockStep]
    refine gives_next ?_
    rw [if_pos hdown, if_pos hseqno]
    exact ⟨rfl, hx⟩
  case upBlock =>
    rw [exec_sdoBlockTransfer, sdoBlock_gives hon hx, sdoBlockStep]
    refine gives_next ?_
    rw [if_neg (by rw [hup]; decide)]
    dsimp only
    split
    · exact State.setXfer_xfer _ _ _
    · exact State.setXfer_xfer _ _ _
  case timeout =>
    rw [exec_sdoSegmentTimeout, execSdoSegmentTimeout]
    refine gives_next ?_
    rw [show ((s.atTime n).sdoServer bus).xfer = some x from hx]
    dsimp only
    rw [if_pos hdue]
    exact (sdoReply_setXfer _ _ _ _ _).symm

end Sys2Proof.Machine
end


section
/-! The transfer of an image (O59: R405, R421, R422, R430). -/

namespace Sys2Proof.Machine

/-! ### Slots of the update function (R419) -/

theorem Update.slot_setSlot_same (u : Update) (app b : Bool) (x : SlotSt) : (u.setSlot app b x).slot app b = x := by
  cases app <;> cases b <;> rfl

theorem Update.slot_setSlot_other {b d : Bool} (h : d ≠ b) (u : Update) (app : Bool) (x : SlotSt) :
    (u.setSlot app b x).slot app d = u.slot app d := by
  obtain rfl : d = !b := Bool.eq_not.mpr h
  cases app <;> cases b <;> rfl

/-- A slot that is replaced leaves everything but the four slots. -/
theorem Update.setSlot_eq (u : Update) (app b : Bool) (x : SlotSt) :
    ∃ fwA fwB appA appB, u.setSlot app b x = { u with fwA, fwB, appA, appB } := by
  cases app
  · cases b
    · exact ⟨x, u.fwB, u.appA, u.appB, rfl⟩
    · exact ⟨u.fwA, x, u.appA, u.appB, rfl⟩
  · cases b
    · exact ⟨u.fwA, u.fwB, x, u.appB, rfl⟩
    · exact ⟨u.fwA, u.fwB, u.appA, x, rfl⟩

theorem Update.modTarget_eq (u : Update) (f : SlotSt → SlotSt) :
    ∃ fwA fwB appA appB, u.modTarget f = { u with fwA, fwB, appA, appB } := Update.setSlot_eq u u.app u.slotB _

/-- The target slot reads as it was changed. -/
theorem Update.modTarget_slot (u : Update) (f : SlotSt → SlotSt) :
    (u.modTarget f).slot u.app u.slotB = f (u.slot u.app u.slotB) := Update.slot_setSlot_same u u.app u.slotB _

/-! ### The commands of 0x8000:01 (R421) -/

/-- A command that passes its checks. -/
theorem opUpdate_status {c : Caller} {v : Nat} {s : State} (hright : s.writeFault 0x8000 0x01 c.level = stOk) :
    firstBad [s.writeFault 0x8000 0x01 c.level, if true then s.updateFault v c.level else stType] = s.updateFault v c.level := by
  rw [hright, firstBad_ok, if_pos rfl]
  unfold firstBad
  split
  next h => exact h.symm
  · rfl

/-- A command other than ACTIVATE that fails a check changes nothing of the update function. -/
theorem opUpdate_refused {c : Caller} {v : Nat} {s : State} (via : Via) (hright : s.writeFault 0x8000 0x01 c.level = stOk)
    (hbad : s.updateFault v c.level ≠ stOk) (hv : v ≠ 3) :
    opUpdate c via v true s = respond via (s.updateFault v c.level) [] s := by
  unfold opUpdate
  dsimp only
  rw [opUpdate_status hright, if_pos hbad, if_neg (fun h => hv h.2.1)]

/-- A command that passes its checks has its effect. -/
theorem opUpdate_taken {c : Caller} {v : Nat} {s : State} (via : Via) (hright : s.writeFault 0x8000 0x01 c.level = stOk)
    (hok : s.updateFault v c.level = stOk) :
    opUpdate c via v true s = (if v = 1 then respond via stOk [] (beginUpdate c s)
      else if v = 2 then respond via stOk [] { s with upd := { s.upd with state := .verifying } }
      else if v = 3 then activateSlot (respond via stOk [] s)
      else respond via stOk [] (abortUpdate c s)) := by
  unfold opUpdate
  dsimp only
  rw [opUpdate_status hright, if_neg (not_not.mpr hok)]

/-- A transfer that begins (R405, R421, R422). -/
theorem beginUpdate_gives {c : Caller} {s : State} (hok : s.beginFault = stOk) :
    (beginUpdate c s).upd.state = .receiving ∧ (beginUpdate c s).upd.reason = 0 ∧ (beginUpdate c s).upd.blocks = [] ∧
      (beginUpdate c s).upd.app = (s.odNat 0x8000 0x02).testBit 4 ∧ (beginUpdate c s).upd.slotB = (s.odNat 0x8000 0x02).testBit 0 ∧
      (beginUpdate c s).upd.delta = decide (s.odNat 0x8000 0x03 = 1) ∧ (beginUpdate c s).upd.imageLen = s.odNat 0x8000 0x04 ∧
      (beginUpdate c s).upd.streamLen = s.odNat 0x8000 0x05 ∧ (beginUpdate c s).target.state = 1 ∧
      (beginUpdate c s).upd.active (beginUpdate c s).upd.app ≠ some (beginUpdate c s).upd.slotB := by
  have hfree : s.upd.targetFree (s.odNat 0x8000 0x02) = true := by
    have h := (firstBad_eq_ok.mp hok) (bad (!s.upd.targetFree (s.odNat 0x8000 0x02)) stWrongState) (List.mem_cons_self ..)
    by_contra hnot
    rw [Bool.not_eq_true] at hnot
    rw [hnot] at h
    exact absurd h (by decide)
  unfold beginUpdate State.target
  extract_lets v delta old u
  rw [raiseFrom_upd]
  dsimp only
  obtain ⟨a1, a2, a3, a4, hold⟩ := Update.modTarget_eq s.upd SlotSt.afterLoss
  obtain ⟨b1, b2, b3, b4, hnew⟩ := Update.modTarget_eq u (fun x => { x with state := 1, allCopies := false })
  have hslot := congrArg SlotSt.state (Update.modTarget_slot u (fun x => { x with state := 1, allCopies := false }))
  have hactive : u.active u.app ≠ some u.slotB := by
    have holdActive : ∀ app, old.active app = s.upd.active app := fun app => by unfold old; rw [hold]; rfl
    have hmine : u.active u.app = s.upd.active (v.testBit 4) := holdActive (v.testBit 4)
    rw [hmine]
    exact bne_iff_ne.mp hfree
  rw [hnew]
  rw [hnew] at hslot
  exact ⟨rfl, rfl, rfl, rfl, rfl, rfl, rfl, rfl, hslot, hactive⟩

/-- A transfer that is aborted (R421, R430). -/
theorem abortUpdate_gives (c : Caller) (s : State) :
    (abortUpdate c s).upd.state = .idle ∧ (abortUpdate c s).upd.reason = 10 ∧ (abortUpdate c s).upd.blocks = [] ∧
      (s.target.state = 3 → (abortUpdate c s).target = s.target) ∧
      (s.target.state ≠ 3 → (abortUpdate c s).target = { s.target with state := 4 }) := by
  unfold abortUpdate State.target
  extract_lets u
  rw [raiseFrom_upd]
  dsimp only
  obtain ⟨a1, a2, a3, a4, hu⟩ := Update.modTarget_eq s.upd (fun x => if x.state = 3 then x else { x with state := 4 })
  have hslot := Update.modTarget_slot s.upd (fun x => if x.state = 3 then x else { x with state := 4 })
  have htarget : u.slot u.app u.slotB = (if (s.upd.slot s.upd.app s.upd.slotB).state = 3 then s.upd.slot s.upd.app s.upd.slotB
      else { s.upd.slot s.upd.app s.upd.slotB with state := 4 }) := by
    have happ : u.app = s.upd.app := by unfold u; rw [hu]
    have hside : u.slotB = s.upd.slotB := by unfold u; rw [hu]
    rw [happ, hside]
    exact hslot
  refine ⟨rfl, rfl, rfl, fun h => ?_, fun h => ?_⟩
  · exact htarget.trans (if_pos h)
  · exact htarget.trans (if_neg h)

/-! ### Blocks (R405) -/

theorem leAt_leBytes (n : Nat) {v : Nat} (x y : Bytes) (h : v < 256 ^ n) : leAt (x ++ (leBytes n v ++ y)) x.length n = v := by
  unfold leAt slice
  rw [List.drop_left, List.take_left' (length_leBytes n v), leNat_of_leBytes n h]

/-- The fields of a block write. -/
theorem blockBytes_fields {offset length : Nat} {crc : BitVec 32} {data : Bytes} (hoffset : offset < 4294967296) (hlength : length < 65536) :
    leAt (blockBytes offset length crc data) 0 4 = offset ∧ leAt (blockBytes offset length crc data) 4 2 = length ∧
      leAt (blockBytes offset length crc data) 6 2 = 0 ∧ BitVec.ofNat 32 (leAt (blockBytes offset length crc data) 8 4) = crc ∧
      (blockBytes offset length crc data).drop 12 = data ∧ ¬ (blockBytes offset length crc data).length < 12 := by
  have hfour : ∀ n v, (leBytes n v).length = n := length_leBytes
  have hbytes : blockBytes offset length crc data =
      leBytes 4 offset ++ (leBytes 2 length ++ (leBytes 2 0 ++ (leBytes 4 crc.toNat ++ data))) := by
    unfold blockBytes
    simp only [List.append_assoc]
    rfl
  rw [hbytes]
  refine ⟨leAt_leBytes 4 [] _ hoffset, ?_, ?_, ?_, ?_, ?_⟩
  · exact leAt_leBytes 2 (leBytes 4 offset) _ hlength
  · have h := leAt_leBytes 2 (v := 0) (leBytes 4 offset ++ leBytes 2 length) (leBytes 4 crc.toNat ++ data) (by decide)
    rw [List.append_assoc] at h
    exact h
  · have h := leAt_leBytes 4 (leBytes 4 offset ++ leBytes 2 length ++ leBytes 2 0) data crc.isLt
    rw [List.append_assoc, List.append_assoc] at h
    rw [show leAt _ 8 4 = _ from h]
    exact BitVec.ofNat_toNat ..
  · have h := List.drop_left (l₁ := leBytes 4 offset ++ leBytes 2 length ++ leBytes 2 0 ++ leBytes 4 crc.toNat) (l₂ := data)
    simp only [List.append_assoc] at h
    exact h
  · simp only [List.length_append, hfour]
    omega

/-- A block write of a transfer comes to its place, its CRC and what is held already. -/
theorem opBlock_fields {c : Caller} {offset length : Nat} {crc : BitVec 32} {data : Bytes} {s : State} (via : Via)
    (hright : s.writeFault 0x8010 0x01 c.level = stOk)
    (htype : typeBad 0x8010 0x01 .domain (blockBytes offset length crc data) = stOk) (hreceiving : s.upd.state = .receiving)
    (hoffset : offset < 4294967296) (hlength : length < 65536) :
    opBlock c via .domain (blockBytes offset length crc data) s =
      if offset % 1024 ≠ 0 ∨ s.upd.streamLen ≤ offset ∨ length ≠ s.upd.blockLen offset ∨ data.length ≠ length then
        respond via stOffset [] { s with upd := { s.upd with reason := 2 } }
      else if crc ≠ crc32 data then
        respond via stRange [] (raiseFrom (BitVec.ofNat 8 c.source) evBlockRefused (d32 offset ++ [1])
          { s with upd := { s.upd with reason := 1 } })
      else match lookupKey (offset / 1024) s.upd.blocks with
        | some old => respond via (if old.1 = crc then stOk else stRange) [] s
        | none => respond via stOk [] (takeBlock (offset / 1024) crc data s) := by
  obtain ⟨hfoffset, hflength, hfzero, hfcrc, hfdata, hfshort⟩ := blockBytes_fields (crc := crc) (data := data) hoffset hlength
  have hchecks : firstBad [s.writeFault 0x8010 0x01 c.level, bad (decide (s.upd.state ≠ .receiving)) stWrongState,
      typeBad 0x8010 0x01 .domain (blockBytes offset length crc data),
      bad (decide ((blockBytes offset length crc data).length < 12)) stType] = stOk := by
    rw [hright, htype, decide_eq_false (not_not.mpr hreceiving), decide_eq_false hfshort]
    rfl
  unfold opBlock
  dsimp only
  rw [if_neg (not_not.mpr hchecks), hfoffset, hflength, hfzero, hfcrc, hfdata, if_neg (show ¬ (0 : Nat) ≠ 0 from fun h => h rfl)] <;> rfl

/-- A block that is taken is held, and the last one completes the transfer. -/
theorem takeBlock_gives {k : Nat} {crc : BitVec 32} {data : Bytes} {s : State} (hreceiving : s.upd.state = .receiving) :
    (takeBlock k crc data s).upd.blocks = setKey k (crc, data) s.upd.blocks ∧
      (takeBlock k crc data s).upd.state =
        (if (setKey k (crc, data) s.upd.blocks).length = (s.upd.streamLen + 1023) / 1024 then .complete else .receiving) := by
  unfold takeBlock
  extract_lets blocks w u
  by_cases hlast : blocks.length = (s.upd.streamLen + 1023) / 1024
  · obtain ⟨a1, a2, a3, a4, hu⟩ := Update.modTarget_eq { u with state := .complete } (fun x => { x with state := 2 })
    rw [if_pos hlast, if_pos hlast, raise_upd]
    dsimp only
    rw [hu]
    exact ⟨rfl, rfl⟩
  · rw [if_neg hlast, if_neg hlast]
    exact ⟨rfl, hreceiving⟩

/-! ### The obligation -/

/-- Settles O59: each command by its checks, each block by its place, its CRC and what is held. -/
theorem updateTransfer : Obligations.UpdateTransfer := by
  intro n via s q c
  dsimp only
  refine ⟨?begin', ?block, ?verify, ?abort⟩
  case begin' =>
    rintro ⟨hq, hright⟩
    refine ⟨fun hok => ?_, fun hbad => ?_⟩
    · rw [exec_updBegin, execUpdBegin, serve_admitted hq, opUpdate_taken via hright (show q.updateFault 1 c.level = stOk from hok), if_pos rfl]
      refine gives_next ?_
      unfold State.target
      rw [respond_upd]
      exact beginUpdate_gives hok
    · rw [exec_updBegin, execUpdBegin, serve_admitted hq,
        opUpdate_refused via hright (show q.updateFault 1 c.level ≠ stOk from hbad) (by decide)]
      exact gives_next ⟨by rw [respond_upd, admit_upd hq]; rfl, respond_sent_nil _ _ _⟩
  case block =>
    intro offset length crc data hq hright htype hreceiving hoffset hlength
    have hupd : q.upd = s.upd := (admit_upd hq).trans rfl
    have hop := opBlock_fields via hright htype (by rw [hupd]; exact hreceiving) hoffset hlength
    rw [hupd] at hop
    have hexec : exec (.updBlock n via offset length crc data) s =
        .next (opBlock c via .domain (blockBytes offset length crc data) q) := by
      rw [exec_updBlock, execUpdBlock, serve_admitted hq]
    refine ⟨fun hgrid hinside hlen hdata => ?_, fun hplace => ?_⟩
    · have hplace : ¬ (offset % 1024 ≠ 0 ∨ s.upd.streamLen ≤ offset ∨ length ≠ s.upd.blockLen offset ∨ data.length ≠ length) := by
        rintro (h | h | h | h)
        · exact h hgrid
        · exact absurd hinside (Nat.not_lt.mpr h)
        · exact h hlen
        · exact h hdata
      rw [if_neg hplace] at hop
      refine ⟨fun hcrc hnew => ?_, fun old hcrc hheld => ?_, fun hcrc => ?_⟩
      · rw [if_neg (not_not.mpr hcrc), hnew] at hop
        have htake := takeBlock_gives (k := offset / 1024) (crc := crc) (data := data) (s := q) (by rw [hupd]; exact hreceiving)
        rw [hupd] at htake
        rw [hexec, hop]
        refine gives_next ?_
        rw [respond_upd]
        exact htake
      · rw [if_neg (not_not.mpr hcrc), hheld] at hop
        rw [hexec, hop]
        exact gives_next ⟨by rw [respond_upd, hupd], respond_sent_nil _ _ _⟩
      · rw [if_pos hcrc] at hop
        rw [hexec, hop]
        exact gives_next ⟨by rw [respond_upd, raiseFrom_upd], by rw [respond_sent_nil, raiseFrom_sent]⟩
    · rw [if_pos hplace] at hop
      rw [hexec, hop]
      exact gives_next ⟨by rw [respond_upd], respond_sent_nil _ _ _⟩
  case verify =>
    rintro ⟨hq, hright⟩
    have hupd : q.upd = s.upd := (admit_upd hq).trans rfl
    refine ⟨fun hcomplete => ?_, fun hother => ?_⟩
    · have hok : q.updateFault 2 c.level = stOk := by
        change bad (decide (q.upd.state ≠ .complete)) stWrongState = stOk
        rw [hupd, decide_eq_false (not_not.mpr hcomplete)]
        rfl
      rw [exec_updVerify, execUpdVerify, serve_admitted hq, opUpdate_taken via hright hok, if_neg (by decide), if_pos rfl]
      exact gives_next (by rw [respond_upd, hupd])
    · have hbad : q.updateFault 2 c.level = stWrongState := by
        change bad (decide (q.upd.state ≠ .complete)) stWrongState = stWrongState
        rw [hupd, decide_eq_true hother]
        rfl
      rw [exec_updVerify, execUpdVerify, serve_admitted hq,
        opUpdate_refused via hright (by rw [hbad]; decide) (by decide), hbad]
      exact gives_next ⟨by rw [respond_upd, hupd], respond_sent_nil _ _ _⟩
  case abort =>
    rintro ⟨hq, hright⟩
    have hupd : q.upd = s.upd := (admit_upd hq).trans rfl
    have htarget : q.target = s.target := by rw [State.target, hupd, State.target]
    refine ⟨fun hidle hactivating htrial => ?_, fun hstate => ?_⟩
    · have hok : q.updateFault 4 c.level = stOk := by
        change bad (q.upd.state = .idle || (q.upd.state = .activating || q.upd.state = .trial)) stWrongState = stOk
        rw [hupd, decide_eq_false hidle, decide_eq_false hactivating, decide_eq_false htrial]
        rfl
      have habort := abortUpdate_gives c q
      rw [htarget] at habort
      rw [exec_updAbort, execUpdAbort, serve_admitted hq, opUpdate_taken via hright hok, if_neg (by decide), if_neg (by decide),
        if_neg (by decide)]
      refine gives_next ?_
      rw [show (respond via stOk [] (abortUpdate c q)).target = (abortUpdate c q).target from by
        rw [State.target, respond_upd, State.target], respond_upd]
      exact habort
    · have hbad : q.updateFault 4 c.level = stWrongState := by
        change bad (q.upd.state = .idle || (q.upd.state = .activating || q.upd.state = .trial)) stWrongState = stWrongState
        have hany : (decide (s.upd.state = .idle) || (decide (s.upd.state = .activating) || decide (s.upd.state = .trial))) = true := by
          simpa using hstate
        rw [hupd, hany]
        rfl
      rw [exec_updAbort, execUpdAbort, serve_admitted hq,
        opUpdate_refused via hright (by rw [hbad]; decide) (by decide), hbad]
      exact gives_next ⟨by rw [respond_upd, hupd], respond_sent_nil _ _ _⟩

end Sys2Proof.Machine
end


section
/-! Verification, activation, and the fallback of a trial (O60: R421, R424, R426, R429). -/

namespace Sys2Proof.Machine

/-! ### Verification (R424) -/

/-- Three lanes that are IN are every lane. -/
theorem allIn_of_three {s : State} (h : s.inLanes.length = 3) (l : Lane) : (s.lane l).state = .isIn := by
  have hall : s.inLanes = [.A, .B, .C] := List.Sublist.eq_of_length List.filter_sublist h
  have hmem : l ∈ s.inLanes := by rw [hall]; cases l <;> simp
  simpa using (List.mem_filter.mp hmem).2

/-- An image that passes every check has no bad copy: no lane reported one, and every lane is IN. -/
theorem checkImage_good {bad : List Lane} {commonsOk : Bool} {s : State} (h : (s.checkImage bad commonsOk).2.reason = 0) :
    bad = [] ∧ ∀ l, (s.lane l).state = .isIn := by
  unfold State.checkImage at h
  split at h
  · cases h
  next b _ =>
    dsimp only at h
    generalize (if s.upd.app = true then s.checkApp b else s.checkFirmware b) = x at h
    have hgood : s.copiesBad bad commonsOk = false := by
      by_contra hbad
      rw [Bool.not_eq_false] at hbad
      by_cases hx : x.reason = 0
      · rw [if_pos ⟨hx, hbad⟩] at h
        cases h
      · rw [if_neg (fun k => hx k.1)] at h
        exact hx h
    obtain ⟨hbad, hrest⟩ := Bool.or_eq_false_iff.mp hgood
    obtain ⟨hthree, _⟩ := Bool.or_eq_false_iff.mp hrest
    exact ⟨by simpa using hbad, allIn_of_three (by simpa using hthree)⟩

/-! ### A cold restart (R366, R426) -/

/-- A cold restart leaves the slots and the selector, and starts from stage 1. -/
theorem coldRestart_gives (trigger : Nat) (s : State) :
    (∃ k, (coldRestart trigger s).upd = { s.upd with trialStarts := k }) ∧ (coldRestart trigger s).ctl.stage = 1 ∧
      (coldRestart trigger s).ctl.mode = .boot := by
  unfold coldRestart
  extract_lets w0 s0 s1 l0 s2 c w1 w2 w3 w4 s3 tb w5 s4
  have hs1 : s1.upd = s.upd := by
    refine ((only_stopNetwork (m0 := [.sw, .tel, .od]) rfl _ (Only.refl _ _)).upd rfl).trans ?_
    refine ((only_dropAll (m0 := [.lanes, .rek]) rfl _ (Only.refl _ _)).upd rfl).trans ?_
    exact (only_enterMode (m0 := [.mode, .ctl, .fab, .records]) rfl _ _ _ (Only.refl _ s0)).upd rfl
  have hmode : s1.ctl.mode = .boot := by
    refine (congrArg Ctl.mode ((only_stopNetwork (m0 := [.sw, .tel, .od]) rfl _ (Only.refl _ _)).ctl rfl rfl)).trans ?_
    refine (congrArg Ctl.mode ((only_dropAll (m0 := [.lanes, .rek]) rfl _ (Only.refl _ _)).ctl rfl rfl)).trans ?_
    exact enterMode_mode _ _ _
  have hs4 : (∃ k, s4.upd = { s.upd with trialStarts := k }) ∧ s4.ctl.stage = 1 ∧ s4.ctl.mode = .boot :=
    ⟨⟨_, congrArg (fun u : Update => { u with trialStarts := s4.upd.trialStarts }) hs1⟩, rfl, hmode⟩
  split
  · exact hs4
  · exact hs4

/-! ### The selector (R421, R426) -/

/-- The slot that the selector names: in its trial, with the content that it had; the old one is the FALLBACK. -/
def Selected (app b : Bool) (s u : Update) : Prop :=
  u.active app = some b ∧ u.trialKind = some app ∧ (u.slot app b).bytes = (s.slot app b).bytes ∧ (u.slot app b).trial = true ∧
    ∀ o, s.active app = some o → o ≠ b → (u.slot app o).fallback = true

/-- The selector's slots when it names `b` instead of `old`. -/
theorem selected_of_slots {app b : Bool} {s u : Update} (hbytes : (u.slot app b).bytes = (s.slot app b).bytes)
    (hold : ∀ o, s.active app = some o → o ≠ b → (u.slot app o).fallback = true) :
    Selected app b s { (if app then { u.setSlot app b { u.slot app b with trial := true, fallback := false } with appActive := some b }
      else { u.setSlot app b { u.slot app b with trial := true, fallback := false } with fwActiveB := b }) with
        trialKind := some app, trialStarts := 0 } := by
  have hother : ∀ o, o ≠ b → (u.setSlot app b { u.slot app b with trial := true, fallback := false }).slot app o = u.slot app o :=
    fun o h => Update.slot_setSlot_other h u app _
  have hsame := Update.slot_setSlot_same u app b { u.slot app b with trial := true, fallback := false }
  generalize u.setSlot app b { u.slot app b with trial := true, fallback := false } = v at hother hsame ⊢
  cases app
  · exact ⟨rfl, rfl, (congrArg SlotSt.bytes hsame).trans hbytes, congrArg SlotSt.trial hsame,
      fun o ho hne => (congrArg SlotSt.fallback (hother o hne)).trans (hold o ho hne)⟩
  · exact ⟨rfl, rfl, (congrArg SlotSt.bytes hsame).trans hbytes, congrArg SlotSt.trial hsame,
      fun o ho hne => (congrArg SlotSt.fallback (hother o hne)).trans (hold o ho hne)⟩

theorem selectImageSlot_gives (app b : Bool) (s : State) : Selected app b s.upd (selectImageSlot app b s).upd := by
  unfold selectImageSlot
  dsimp only
  cases hactive : s.upd.active app with
  | none => exact selected_of_slots rfl (fun o ho => by rw [hactive] at ho; cases ho)
  | some o =>
    refine selected_of_slots ?_ (fun p hp _ => ?_)
    · by_cases ho : b = o
      · subst ho
        exact (congrArg SlotSt.bytes (Update.slot_setSlot_same s.upd app b _)).trans rfl
      · exact congrArg SlotSt.bytes (Update.slot_setSlot_other ho ..)
    · rw [hactive] at hp
      cases hp
      exact congrArg SlotSt.fallback (Update.slot_setSlot_same ..)

/-- What keeps the slots keeps what the selector has done. -/
theorem Selected.of_same {app b : Bool} {s u v : Update} (h : Selected app b s u) (hactive : v.active app = u.active app)
    (hkind : v.trialKind = u.trialKind) (hslot : ∀ o, v.slot app o = u.slot app o) : Selected app b s v := by
  unfold Selected
  rw [hactive, hkind, hslot]
  obtain ⟨hsel, hk, hbytes, htrial, hold⟩ := h
  exact ⟨hsel, hk, hbytes, htrial, fun o ho hne => by rw [hslot]; exact hold o ho hne⟩

theorem beginTrial_upd (app : Bool) (s : State) : ∃ x y, (beginTrial app s).upd = { s.upd with
    state := .trial, app, slotB := (s.upd.active app).getD false, trialSince := x, trialLeft := y } := by
  unfold beginTrial
  dsimp only
  rw [raise_upd]
  exact ⟨_, _, rfl⟩

theorem beginTrial_ctl (app : Bool) (s : State) : (beginTrial app s).ctl = s.ctl :=
  (only_beginTrial (m0 := [.upd, .records]) rfl app s (Only.refl _ s)).ctl rfl rfl

/-- ACTIVATE: the selector names the target slot, which is in its trial, and the module starts again from stage 1 (R426). -/
theorem activateSlot_gives (s : State) :
    (activateSlot s).upd.state = .trial ∧ (activateSlot s).upd.app = s.upd.app ∧ (activateSlot s).upd.slotB = s.upd.slotB ∧
      Selected s.upd.app s.upd.slotB s.upd (activateSlot s).upd ∧ (activateSlot s).ctl.stage = 1 ∧ (activateSlot s).ctl.mode = .boot := by
  unfold activateSlot
  extract_lets app s1 w0
  have hselected : Selected app s.upd.slotB s.upd s1.upd := selectImageSlot_gives app s.upd.slotB s
  obtain ⟨⟨k, hrestart⟩, hstage, hmode⟩ := coldRestart_gives evImageActivated.toNat { s1 with upd := { s1.upd with state := .activating } }
  generalize coldRestart evImageActivated.toNat { s1 with upd := { s1.upd with state := .activating } } = u at hrestart hstage hmode ⊢
  obtain ⟨x, y, htrial⟩ := beginTrial_upd app u
  have hactive : u.upd.active app = some s.upd.slotB := by
    rw [hrestart]
    exact hselected.1
  rw [htrial, beginTrial_ctl, hactive, hrestart]
  exact ⟨rfl, rfl, rfl, hselected.of_same rfl rfl (fun _ => rfl), hstage, hmode⟩

/-- The fallback of a trial: the failed slot is INVALID, and the selector names the FALLBACK slot (R429). -/
theorem fallBack_gives {app b : Bool} {u : Update} (hactive : u.active app = some b) :
    (u.fallBack app).state = .failed ∧ (u.fallBack app).reason = 9 ∧ (u.fallBack app).trialKind = none ∧
      ((u.fallBack app).slot app b).state = 4 ∧ ((u.slot app !b).fallback = true → (u.fallBack app).active app = some !b) := by
  unfold Update.fallBack
  rw [hactive]
  extract_lets b' old back x u1 u2
  have hfailed : (u1.slot app b).state = 4 := by
    refine (congrArg SlotSt.state (Update.slot_setSlot_other (d := b) (b := !b) (by cases b <;> decide) _ app _)).trans ?_
    exact congrArg SlotSt.state (Update.slot_setSlot_same u app b _)
  refine ⟨rfl, rfl, rfl, ?_, fun hfallback => ?_⟩
  · refine Eq.trans ?_ hfailed
    unfold u2
    cases app <;> rfl
  · have hback : back = some !b := if_pos hfallback
    unfold u2
    rw [hback]
    cases app <;> rfl

/-! ### The command ACTIVATE -/

/-- The status of ACTIVATE, its level being right. -/
theorem updateFault_activate {s : State} {level : Nat} (hlevel : 3 ≤ level) :
    s.updateFault 3 level = bad (!s.mayActivate || s.targetRolled) stWrongState := by
  change firstBad [bad (decide (level < 3)) stAuthority, bad (!s.mayActivate || s.targetRolled) stWrongState] = _
  rw [decide_eq_false (Nat.not_lt.mpr hlevel), bad_false, firstBad_ok]
  cases (!s.mayActivate || s.targetRolled) <;> rfl

/-- An ACTIVATE that fails a check. -/
theorem opUpdate_activate_refused {c : Caller} {s : State} (via : Via) (hright : s.writeFault 0x8000 0x01 c.level = stOk)
    (hbad : s.updateFault 3 c.level ≠ stOk) :
    opUpdate c via 3 true s = respond via (s.updateFault 3 c.level) []
      (if s.updateFault 3 c.level = stWrongState ∧ s.mayActivate = true then rollbackRefused s.upd.app s.upd.slotB s else s) := by
  unfold opUpdate
  dsimp only
  rw [opUpdate_status hright, if_pos hbad]
  by_cases h : s.updateFault 3 c.level = stWrongState ∧ s.mayActivate = true
  · rw [if_pos h, if_pos ⟨h.1, rfl, h.2⟩]
  · rw [if_neg h, if_neg (fun k => h ⟨k.1, k.2.2⟩)]

theorem rollbackRefused_gives (s : State) :
    (rollbackRefused s.upd.app s.upd.slotB s).upd = { s.upd.modTarget (fun x => { x with state := 4 }) with reason := 6 } ∧
      (rollbackRefused s.upd.app s.upd.slotB s).ctl = s.ctl ∧ (rollbackRefused s.upd.app s.upd.slotB s).sent = s.sent := by
  unfold rollbackRefused
  rw [raise_upd, raise_ctl, raise_sent]
  exact ⟨rfl, rfl, rfl⟩

/-! ### The obligation -/

/-- Settles O60: verification by the checks of R424, ACTIVATE by its checks and the selector, the fallback by the slots. -/
theorem updateVerdicts : Obligations.UpdateVerdicts := by
  intro n via s q c
  dsimp only
  refine ⟨?verify, ?activate, ?fallback⟩
  case verify =>
    intro badLanes commonsOk hverifying
    refine ⟨fun hgood => ?_, fun hbad => ?_⟩
    · rw [exec_updVerifyComplete, execUpdVerifyComplete]
      refine gives_next ?_
      rw [if_pos (show (s.atTime n).upd.state = .verifying from hverifying)]
      dsimp only
      obtain ⟨hnone, hall⟩ := checkImage_good hgood
      rw [if_pos hgood]
      unfold State.target
      rw [raise_upd]
      dsimp only
      have hslot := Update.modTarget_slot s.upd (fun _ => ({
        bytes := ((s.atTime n).checkImage badLanes commonsOk).1, state := 3, allCopies := true
        ident := ((s.atTime n).checkImage badLanes commonsOk).2.ident
        rollback := ((s.atTime n).checkImage badLanes commonsOk).2.rollback } : SlotSt))
      obtain ⟨a1, a2, a3, a4, hmod⟩ := Update.modTarget_eq s.upd (fun _ => ({
        bytes := ((s.atTime n).checkImage badLanes commonsOk).1, state := 3, allCopies := true
        ident := ((s.atTime n).checkImage badLanes commonsOk).2.ident
        rollback := ((s.atTime n).checkImage badLanes commonsOk).2.rollback } : SlotSt))
      rw [hmod] at hslot
      rw [State.atTime_upd, hmod]
      exact ⟨rfl, rfl, hnone, fun l => by have hin := hall l; cases l <;> exact hin, hslot⟩
    · rw [exec_updVerifyComplete, execUpdVerifyComplete]
      refine gives_next ?_
      rw [if_pos (show (s.atTime n).upd.state = .verifying from hverifying)]
      dsimp only
      rw [if_neg hbad]
      unfold State.target
      rw [raise_upd]
      dsimp only
      have hslot := Update.modTarget_slot s.upd (fun y => { y with state := 4 })
      obtain ⟨a1, a2, a3, a4, hmod⟩ := Update.modTarget_eq s.upd (fun y => { y with state := 4 })
      rw [hmod] at hslot
      rw [State.atTime_upd, hmod]
      exact ⟨rfl, rfl, hslot⟩
  case activate =>
    intro hq hright
    have hupd : q.upd = s.upd := (admit_upd hq).trans rfl
    have hctl : q.ctl = s.ctl := (admit_ctl hq).trans rfl
    have hexec : exec (.updActivate n via) s = .next (opUpdate c via 3 true q) := by
      rw [exec_updActivate, execUpdActivate, serve_admitted hq]
    rw [hexec]
    refine ⟨fun hlevel hmay hfresh => ?_, fun hlevel hmay hrolled => ?_, fun hlevel => ?_, fun hlevel hmay => ?_⟩
    · have hok : q.updateFault 3 c.level = stOk := by
        rw [updateFault_activate hlevel, hmay, hfresh]
        rfl
      obtain ⟨hstate, happ, hside, hselected, hstage, hmode⟩ := activateSlot_gives (respond via stOk [] q)
      rw [respond_upd, hupd] at happ hside hselected
      obtain ⟨hactive, hkind, hbytes, htrial, hold⟩ := hselected
      rw [opUpdate_taken via hright hok, if_neg (by decide), if_neg (by decide), if_pos rfl]
      refine gives_next ?_
      unfold State.target
      rw [happ, hside]
      exact ⟨hstate, hactive, hbytes, htrial, hkind, hstage, hmode, hold⟩
    · have hbad : q.updateFault 3 c.level = stWrongState := by
        rw [updateFault_activate hlevel, hmay, hrolled]
        rfl
      obtain ⟨hmarked, hkept, hsilent⟩ := rollbackRefused_gives q
      rw [opUpdate_activate_refused via hright (by rw [hbad]; decide), hbad, if_pos ⟨rfl, hmay⟩]
      exact gives_next ⟨by rw [respond_upd, hmarked, hupd], by rw [respond_ctl, hkept, hctl], by rw [respond_sent_nil, hsilent]⟩
    · have hbad : q.updateFault 3 c.level = stAuthority := by
        change firstBad [bad (decide (c.level < 3)) stAuthority, bad (!q.mayActivate || q.targetRolled) stWrongState] = _
        rw [decide_eq_true hlevel]
        exact firstBad_of_ne (by decide) _
      rw [opUpdate_activate_refused via hright (by rw [hbad]; decide), hbad, if_neg (fun h => absurd h.1 (by decide))]
      exact gives_next ⟨by rw [respond_upd, hupd], respond_sent_nil _ _ _⟩
    · have hbad : q.updateFault 3 c.level = stWrongState := by
        rw [updateFault_activate hlevel, hmay]
        rfl
      rw [opUpdate_activate_refused via hright (by rw [hbad]; decide), hbad, if_neg (fun h => by rw [hmay] at h; exact absurd h.2 (by decide))]
      exact gives_next ⟨by rw [respond_upd, hupd], respond_sent_nil _ _ _⟩
  case fallback =>
    intro app b hkind hfailed hactive
    obtain ⟨⟨k, hrestart⟩, hstage, hmode⟩ := coldRestart_gives evTrialFallback.toNat { s.atTime n with upd := s.upd.fallBack app }
    obtain ⟨hstate, hreason, hnone, hslot, hselector⟩ := fallBack_gives hactive
    rw [exec_trialFallback, execTrialFallback]
    refine gives_next ?_
    rw [show (s.atTime n).upd.trialKind = some app from hkind]
    dsimp only
    rw [if_pos hfailed, raise_upd, raise_ctl]
    rw [State.atTime_upd, hrestart]
    exact ⟨hstate, hreason, hnone, hslot, hstage, hmode, hselector⟩

end Sys2Proof.Machine
end
